-- ==== Sys2Proof/Word.lean ====
section
/-! DEFINITION. The word types of the ZS9640: 32-bit registers and shared structures, 8-bit bytes
(R5, R6), and the sparse map every table of the model is held in. -/

namespace Sys2Proof

/-- A register, or one word of a structure shared with the host (R5, R6). -/
abbrev Word := BitVec 32

/-- One byte of a frame, a packet or a shared structure. -/
abbrev Byte := BitVec 8

/-- A sparse table: keys strictly rising, see `Map.wf`. -/
abbrev Map (α : Type) := List (Nat × α)

end Sys2Proof
end

