-- ==== Sys2Proof/Syntax.lean ====
section
/-! DEFINITION. The commands of the ZS9640, one constructor per row of the opcode table, and the operand types. -/

namespace Sys2Proof

/-- An admission point of R24. -/
inductive Point where
  | portGrant | recirc | wake | doorbell | dma | cipher | hbm
deriving DecidableEq, Repr

/-- A window of a function a host access lands in (R148). -/
inductive Bar where
  | bar0 | bar4
deriving DecidableEq, Repr

/-- How an ordinary instruction of a thread ends (R309, R310, R322): the next PC; with a word stored at a window
address; or a fault code the instruction itself raises. The instruction set is given outside the spec. -/
inductive Issue where
  | next (pc : Nat) | store (pc addr : Nat) (w : Word) | fault (code : Fin 256)
deriving DecidableEq, Repr

/-- An operation of channel CELLAR (R315): bytes of an owned frame read into the response or written from the data
window; a new frame of a length allocated. -/
inductive CellarOp where
  | read (handle off len : Nat) | write (handle off addr len : Nat) | alloc (len : Nat)
deriving DecidableEq, Repr

/-- An operation of channel HBM: bytes read into the response or written from the data window. -/
inductive HbmOp where
  | read (addr len : Nat) | write (addr win len : Nat)
deriving DecidableEq, Repr

/-- A lookup of channel LOOKUP: a rule table and its bank, the L2 table, the flow table, the LPM memory. -/
inductive LookupOp where
  | rule (t : Fin 16) (bank : Fin 2) (key : List Byte) | l2 (mac : List Byte) (bd : Fin 4096) | flow (key : List Byte)
  | lpm (v6 : Bool) (vrf : Fin 4096) (addr : List Byte)
deriving DecidableEq, Repr

/-- A sum of channel HASH over bytes of the data window. -/
inductive HashOp where
  | crc32c (addr len : Nat) | crc16 (addr len : Nat) | ones (addr len : Nat)
deriving DecidableEq, Repr

/-- An operation of channel FRAME on an owned frame. -/
inductive FrameOp where
  | release (handle : Nat) | node (handle : Nat) (n : Fin 65536)
  | deliver (handle : Nat) (slice : Fin 8192) (inc : Fin 256) (sq : Fin 1024) (reason : Word)
deriving DecidableEq, Repr

/-- An operation of channel TIMER. -/
inductive TimerOp where
  | arm (i : Fin 4) (ns : Fin 4294967296) | cancel (i : Fin 4)
deriving DecidableEq, Repr

/-- What the transport program reports of a connection on channel STO: connected, refused, lost, closed. -/
inductive StoEvent where
  | success (cntlid : Fin 65536) (inCapsule : Nat) (depth : Fin 65536) | fail | loss | closed
deriving DecidableEq, Repr

/-- An operation of channel STO (R315): a connection's state read or updated. -/
inductive StoOp where
  | read (k : Fin 32768) | update (k : Fin 32768) (ev : StoEvent)
deriving DecidableEq, Repr

/-- A supervisor's request on channel MGMT (R315): a command packet, a word for MBX_IN, an acknowledgement of MBX_OUT. -/
inductive MgmtOp where
  | packet (words : List Word) | mbxIn (w : Word) | mbxAck (w : Word)
deriving DecidableEq, Repr

/-- How a received frame ends (R401): a good FCS, a bad one, an error inside it, a bad fragment sequence. -/
inductive RxEnd where
  | good | badFcs | errored | badSmd
deriving DecidableEq, Repr
/-- Where a HELLO travels (R446): over a Trellis link, or over the tunnel path of a member. -/
inductive Via where
  | link (t : Fin 4) | tunnel (id : Fin 512)
deriving DecidableEq, Repr

/-- The body of a HELLO (R452). -/
structure HelloBody where
  domain : Fin 65536
  id : Fin 512
  inst : Word
  myEpoch : Fin 65536
  yourEpoch : Fin 65536
  partitioned : Bool
  vintage : Fin 65536
deriving DecidableEq, Repr

/-- A Wepomer frame that arrives (R448, R451): its bytes on a Trellis port, or a received frame steered to the TRL. -/
inductive Wepomer where
  | mesh (t : Fin 4) (bytes : List Byte) | frame (f : Nat)
deriving DecidableEq, Repr
/-- The damaged structure of an uncorrectable error (R475), for the structures that have no row of their own. -/
inductive Damage where
  /-- A Cellar cell of a frame. -/
  | cell (f : Nat)
  /-- HBM: a flow-table entry, the staging of an NVMe command, the dirty set of a slice, a thread's data. -/
  | flow (e : Nat) | staging (conn : Fin 32768) (cid : Nat) | dirtySet (slice : Fin 8192) | threadData (t : Fin 512) (tag : Nat)
  /-- A row of the rule store or an overflow store, and the frame looking it up. -/
  | rule (overflow : Bool) (bank : Fin 2) (t : Fin 16) (e : Nat) (f : Option Nat)
  /-- One copy of the L2 table, next-hop table or LPM memory, and the frame looking it up. -/
  | lookup (f : Option Nat)
  /-- A checkpoint slot of a pipeline. -/
  | context (p : Fin 3) (newer : Bool)
  /-- The ring context of a queue. -/
  | ring (cq : Bool) (slice : Fin 8192) (number : Fin 1024)
  /-- A spilled completion entry. -/
  | spill (slice : Fin 8192) (number : Fin 1024)
  /-- The slice table, the dirty-page log index. -/
  | slice (slice : Fin 8192)
  /-- A DMA channel's buffer; a channel's context; the queue of an inbound channel (R477). -/
  | dmaBuffer (c : Fin 64) | channel (c : Fin 64) | inbound (c : Fin 8) (h : Fin 256)
  /-- A memory of a thread's core. -/
  | threadMemory (t : Fin 512)
  /-- One sample in the row store of a stream. -/
  | rowStore (v : Fin 1024) (second : Nat) (cnt : Fin 65536)
  /-- A command packet in the queue; a reply. -/
  | packet (m : Fin 16) | reply (m : Fin 16) (tag : Fin 4096) (gen : Fin 16)
  /-- The management ring, the Ovsen firmware's memory, the Cellar-master cores' lockstep. -/
  | ringMemory | firmware | lockstep
  /-- The SA store; the buffers of a PCIe link (R164, R356). -/
  | sa (i : Fin 1048576) | pcie (l : Fin 4)
  /-- A key slot or its record in MRAM, the plan in force, a copy of the life-cycle state. -/
  | key (i : Fin 256) | plan | lifecycle (copy : Fin 3)
deriving DecidableEq, Repr
/-- What the work of a boot stage found (R497): the stacks trained at stage 3; at stage 4 the pipelines, cores and cipher
engines that failed tasting, the 128 monitors read and those out of range; the plan that the firmware wants at stage 5; the
registers that the board configuration record, the placement records and the images set at stage 6. -/
structure StageReport where
  trained : Fin 4
  pipes : List (Fin 3)
  cores : List (Fin 8 × Fin 18)
  engines : List (Fin 12)
  monitors : List (BitVec 16)
  outside : List (Fin 128)
  want : List Word
  board : List (Nat × Word)
deriving DecidableEq, Repr
/-- A JTAG instruction, by the rows of R511; the DBG master's access carries a command packet, a mailbox word or an
acknowledgement (R26, R115, R122). -/
inductive Jtag where
  | idcode | bypass | sample | extest | clamp | highz
  | dbgPacket (words : List Word) | dbgMbxIn (w : Word) | dbgMbxAck (w : Word)
  | scan | cellarMaster
deriving DecidableEq, Repr

/-- A command: one step of the opcode table. -/
inductive Instr where
  /-- `REGISTER_WRITE` (R101). -/
  | registerWrite (m : Fin 16) (bar : Bar) (off size : Nat) (lo hi : Word)
  /-- `SQ_CLEAR_WRITE` (R99). -/
  | sqClearWrite (k : Nat) (v : Word)
  /-- `GLB_COMMIT_WRITE` (R104). -/
  | glbCommitWrite (m : Fin 16) (v : Word)
  /-- `GLB_DISCARD_WRITE` (R107). -/
  | glbDiscardWrite (v : Word)
  /-- `GLB_DIRECT_WRITE` (R110). -/
  | glbDirectWrite (m : Fin 16) (v : Word)
  /-- `DIRECT_MODE_WRITE` (R110). -/
  | directModeWrite (m : Fin 16) (k : Nat) (v : Word)
  /-- `GLB_COMMIT_AT_MASK_WRITE` (R105). -/
  | glbCommitAtMaskWrite (m : Fin 16) (v : Word)
  /-- `COMMIT_AT_FIRE` (R105). -/
  | commitAtFire
  /-- `STROBE_APPLY` (R103). -/
  | strobeApply
  /-- `GZX_EDGE` (R32). -/
  | gzxEdge (k : Fin 4) (t : Nat)
  /-- `GSYNC_FRAME` (R59). -/
  | gsyncFrame (bytes : List Byte) (violation : Bool)
  /-- `ANGLE_WRAP` (R35). -/
  | angleWrap (n : Fin 4)
  /-- `HOLDOVER_ENTRY` (R41). -/
  | holdoverEntry (n : Fin 4)
  /-- `FREERUN_ENTRY` (R41). -/
  | freerunEntry (n : Fin 4)
  /-- `SNAPSHOT_TAKE` (R37). -/
  | snapshotTake (v : Word)
  /-- `ANGLE_EVENT_DISPATCH` (R56). -/
  | angleEventDispatch (c i : Fin 64)
  /-- `GATE_APPLY` (R384). -/
  | gateApply (p : Fin 256) (sent sentB : Nat)
  /-- `SAMPLE_SET_CLOSE` (R428). -/
  | sampleSetClose (g : Fin 256)
  /-- `GOOSE_EVENT` (R438). -/
  | gooseEvent (i : Fin 256)
  /-- `ANGLE_DOORBELL` (R205). -/
  | angleDoorbell (slice : Fin 8192)
  /-- `ANGLE_DMA_KICK` (R218). -/
  | angleDmaKick (c : Fin 64)
  /-- `ANGLE_WAKE` (R311). -/
  | angleWake (t : Fin 512)
  /-- `ANGLE_COMMIT` (R103). -/
  | angleCommit
  /-- `ANGLE_ACTIVATE` (R524). -/
  | angleActivate
  /-- `STAMP` (R54). -/
  | stamp (slot : Fin 16)
  /-- `ANGLE_NOTIFY` (R118). -/
  | angleNotify (m : Fin 16)
  /-- `PPS_IN_EDGE` (R52). -/
  | ppsInEdge
  /-- `PTP_SECOND` (R52). -/
  | ptpSecond
  /-- `PPS_OUT_END` (R52). -/
  | ppsOutEnd
  /-- `PTP_TIME_STEP` (R52). -/
  | ptpTimeStep (t : BitVec 64)
  /-- `ANGLE_REF_SET` (R60). -/
  | angleRefSet (m : Fin 16) (tag : Fin 4096) (gen : Fin 16)
  /-- `ANGLE_STATUS` (R60). -/
  | angleStatus (m : Fin 16) (tag : Fin 4096) (gen : Fin 16)
  /-- `ANGLE_EVENT_ADD` (R60). -/
  | angleEventAdd (m : Fin 16) (tag : Fin 4096) (gen : Fin 16)
  /-- `ANGLE_EVENT_REMOVE` (R60). -/
  | angleEventRemove (m : Fin 16) (tag : Fin 4096) (gen : Fin 16)
  /-- `ANGLE_TIE` (R60). -/
  | angleTie (m : Fin 16) (tag : Fin 4096) (gen : Fin 16)
  /-- `ANGLE_SNAPSHOT` (R60). -/
  | angleSnapshot (m : Fin 16) (tag : Fin 4096) (gen : Fin 16)
  /-- `ANGLE_PTP_SET` (R60). -/
  | anglePtpSet (m : Fin 16) (tag : Fin 4096) (gen : Fin 16)
  /-- `WINDOW_START` (R62). -/
  | windowStart
  /-- `REFUSED_UNIT_ADMITTED` (R64). -/
  | refusedUnitAdmitted (p : Point) (u : Nat)
  /-- `GSTRESS_CHANGE` (R73). -/
  | gstressChange (level : Fin 4)
  /-- `GSTRESS_ACCEPT` (R73). -/
  | gstressAccept
  /-- `TEMP_READING` (R75). -/
  | tempReading (readings : List (BitVec 16))
  /-- `RING_OSCILLATOR_READ` (R82). -/
  | ringOscillatorRead (readings : List (BitVec 16)) (outside : List (Fin 128))
  /-- `LEAKAGE_READ` (R82). -/
  | leakageRead (readings : List (BitVec 16)) (outside : List (Fin 128))
  /-- `EYE_MONITOR_READ` (R82). -/
  | eyeMonitorRead (readings : List (BitVec 16)) (outside : List (Fin 128))
  /-- `HBM_PROBE_READ` (R82). -/
  | hbmProbeRead (readings : List (BitVec 16)) (outside : List (Fin 128))
  /-- `DAILY_AGEING_RECORD` (R82). -/
  | dailyAgeingRecord
  /-- `MONTHLY_AGEING_RECORD` (R82). -/
  | monthlyAgeingRecord
  /-- `PERIODIC_REPLAN` (R84). -/
  | periodicReplan (want : List Word)
  /-- `MARGIN_SHORT_REPLAN` (R87). -/
  | marginShortReplan (want : List Word) (quarter : Bool)
  /-- `PLAN_APPLY` (R88). -/
  | planApply
  /-- `AVS_VOLTAGE_STEP` (R89). -/
  | avsVoltageStep (ok : Bool)
  /-- `AVS_WRITE_RETRY` (R538). -/
  | avsWriteRetry (ok : Bool)
  /-- `ENERGY_CAP_SET` (R549). -/
  | energyCapSet (m : Fin 16) (tag : Fin 4096) (gen : Fin 16)
  /-- `ENERGY_STATUS` (R549). -/
  | energyStatus (m : Fin 16) (tag : Fin 4096) (gen : Fin 16)
  /-- `ENERGY_SLICE_READ` (R549). -/
  | energySliceRead (m : Fin 16) (tag : Fin 4096) (gen : Fin 16)
  /-- `ENERGY_SLICE_LIMIT` (R549). -/
  | energySliceLimit (m : Fin 16) (tag : Fin 4096) (gen : Fin 16)
  /-- `ENERGY_CLASS_SET` (R549). -/
  | energyClassSet (m : Fin 16) (tag : Fin 4096) (gen : Fin 16)
  /-- `ENERGY_STRESS_FORCE` (R549). -/
  | energyStressForce (m : Fin 16) (tag : Fin 4096) (gen : Fin 16)
  /-- `ENERGY_TABLE_READ` (R549). -/
  | energyTableRead (m : Fin 16) (tag : Fin 4096) (gen : Fin 16)
  /-- `AGE_REPORT` (R92). -/
  | ageReport (m : Fin 16) (tag : Fin 4096) (gen : Fin 16)
  /-- `AGE_PLAN_READ` (R93). -/
  | agePlanRead (m : Fin 16) (tag : Fin 4096) (gen : Fin 16)
  /-- `AGE_PLAN_SCHEDULE` (R88). -/
  | agePlanSchedule (m : Fin 16) (tag : Fin 4096) (gen : Fin 16)
  /-- `AGE_REPLAN_NOW` (R93). -/
  | ageReplanNow (m : Fin 16) (tag : Fin 4096) (gen : Fin 16) (want : List Word)
  /-- `MBX_IN_WRITE` (R115). -/
  | mbxInWrite (m : Fin 16) (v : Word)
  /-- `MBX_IN_TAKE` (R115). -/
  | mbxInTake (m : Fin 16)
  /-- `MBX_OUT_POST` (R117). -/
  | mbxOutPost (m : Fin 16)
  /-- `MBX_OUT_ACK_WRITE` (R117). -/
  | mbxOutAckWrite (m : Fin 16) (v : Word)
  /-- `CMD_PI_WRITE` (R120). -/
  | cmdPiWrite (m : Fin 16) (v : Word)
  /-- `CMD_RCI_WRITE` (R120). -/
  | cmdRciWrite (m : Fin 16) (v : Word)
  /-- `MCTP_COMMAND_MESSAGE` (R122). -/
  | mctpCommandMessage (vendor : Fin 65536) (words : List Word)
  /-- `COMMAND_TAKE` (R127). -/
  | commandTake (m : Fin 16)
  /-- `COMMAND_START` (R121). -/
  | commandStart (m : Fin 16) (tag : Fin 4096) (gen : Fin 16)
  /-- `COMMAND_REPLY` (R132). -/
  | commandReply (m : Fin 16) (tag : Fin 4096) (gen : Fin 16)
  /-- `COMMAND_TIMEOUT` (R136). -/
  | commandTimeout (m : Fin 16) (tag : Fin 4096) (gen : Fin 16)
  /-- `MRING_ENTRY` (R140). -/
  | mringEntry (w0 w1 w2 w3 : Word)
  /-- `NOP` (R139). -/
  | nop (m : Fin 16) (tag : Fin 4096) (gen : Fin 16)
  /-- `DEVICE_INFO` (R550). -/
  | deviceInfo (m : Fin 16) (tag : Fin 4096) (gen : Fin 16)
  /-- `DEVICE_STATUS` (R550). -/
  | deviceStatus (m : Fin 16) (tag : Fin 4096) (gen : Fin 16)
  /-- `CMD_CANCEL` (R133). -/
  | cmdCancel (m : Fin 16) (tag : Fin 4096) (gen : Fin 16)
  /-- `LEES_READ` (R550). -/
  | leesRead (m : Fin 16) (tag : Fin 4096) (gen : Fin 16)
  /-- `NOTIFY_CFG` (R550). -/
  | notifyCfg (m : Fin 16) (tag : Fin 4096) (gen : Fin 16)
  /-- `REG_READ` (R550). -/
  | regRead (m : Fin 16) (tag : Fin 4096) (gen : Fin 16)
  /-- `REG_WRITE` (R550). -/
  | regWrite (m : Fin 16) (tag : Fin 4096) (gen : Fin 16)
  /-- `COMMIT` (R550). -/
  | commit (m : Fin 16) (tag : Fin 4096) (gen : Fin 16)
  /-- `DEVICE_RESET` (R483). -/
  | deviceReset (m : Fin 16) (tag : Fin 4096) (gen : Fin 16)
  /-- `PCIE_LINK_UP` (R144). -/
  | pcieLinkUp (l : Fin 4) (rate : Fin 8) (width : Fin 32) (flit : Bool)
  /-- `PERST_DEASSERT` (R167). -/
  | perstDeassert (e : Fin 2) (strap : Bool)
  /-- `LINK_DOWN` (R165). -/
  | linkDown (l : Fin 4)
  /-- `BUS_MASTER_DISABLE` (R160). -/
  | busMasterDisable (f : Fin 4)
  /-- `POWER_STATE_WRITE` (R157). -/
  | powerStateWrite (f : Fin 4) (d3 : Bool)
  /-- `FUNCTION_LEVEL_RESET` (R166). -/
  | functionLevelReset (f : Fin 4)
  /-- `FLR_COMPLETE` (R166). -/
  | flrComplete (f : Fin 4)
  /-- `L0P_ENTRY` (R157). -/
  | l0pEntry (l : Fin 4)
  /-- `L0P_EXIT` (R157). -/
  | l0pExit (l : Fin 4)
  /-- `L1_ENTRY` (R157). -/
  | l1Entry (l : Fin 4) (sub : Fin 3)
  /-- `PCIE_COMPLETION` (R163). -/
  | pcieCompletion (l : Fin 4) (tag : Fin 16384) (status : Fin 8) (poisoned : Bool) (bytes : List Byte)
  /-- `COMPLETION_TIMEOUT` (R162). -/
  | completionTimeout (l : Fin 4) (tag : Fin 16384)
  /-- `QUARANTINE_EXPIRY` (R162). -/
  | quarantineExpiry (l : Fin 4) (tag : Fin 16384)
  /-- `PAGE_REQUEST_RESPONSE` (R151). -/
  | pageRequestResponse (slice : Fin 8192) (addr : Nat) (ok : Bool)
  /-- `ATS_INVALIDATE_COMPLETE` (R184). -/
  | atsInvalidateComplete (l : Fin 4) (slice : Fin 8192)
  /-- `IMS_ENTRY_WRITE` (R155). -/
  | imsEntryWrite (m : Fin 16) (v : Word)
  /-- `MSIX_UNMASK` (R161). -/
  | msixUnmask (f : Fin 4) (vec : Fin 2048)
  /-- `DOORBELL_WRITE` (R204). -/
  | doorbellWrite (f : Fin 4) (addr : Nat) (size : Nat) (lo hi : Word)
  /-- `SLC_CORK_WRITE` (R191). -/
  | slcCorkWrite (v : Word)
  /-- `QUIESCE_STEP_DONE` (R180). -/
  | quiesceStepDone (slice : Fin 8192)
  /-- `FENCE_CLOSE` (R184). -/
  | fenceClose (slice : Fin 8192)
  /-- `SLICE_CREATE` (R171). -/
  | sliceCreate (m : Fin 16) (tag : Fin 4096) (gen : Fin 16)
  /-- `SLICE_QUIESCE` (R180). -/
  | sliceQuiesce (m : Fin 16) (tag : Fin 4096) (gen : Fin 16)
  /-- `SLICE_RESET` (R182). -/
  | sliceReset (m : Fin 16) (tag : Fin 4096) (gen : Fin 16)
  /-- `SLICE_DESTROY` (R183). -/
  | sliceDestroy (m : Fin 16) (tag : Fin 4096) (gen : Fin 16)
  /-- `SLICE_STATUS` (R185). -/
  | sliceStatus (m : Fin 16) (tag : Fin 4096) (gen : Fin 16)
  /-- `SLICE_UNCORK` (R178). -/
  | sliceUncork (m : Fin 16) (tag : Fin 4096) (gen : Fin 16)
  /-- `SLICE_DIRTY_LOG` (R188). -/
  | sliceDirtyLog (m : Fin 16) (tag : Fin 4096) (gen : Fin 16)
  /-- `SLICE_STATE_SAVE` (R189). -/
  | sliceStateSave (m : Fin 16) (tag : Fin 4096) (gen : Fin 16)
  /-- `SLICE_STATE_LOAD` (R190). -/
  | sliceStateLoad (m : Fin 16) (tag : Fin 4096) (gen : Fin 16) (words : List Word)
  /-- `QUEUE_CREATE` (R193). -/
  | queueCreate (m : Fin 16) (tag : Fin 4096) (gen : Fin 16)
  /-- `QUEUE_DESTROY` (R196). -/
  | queueDestroy (m : Fin 16) (tag : Fin 4096) (gen : Fin 16)
  /-- `QUEUE_STATUS` (R551). -/
  | queueStatus (m : Fin 16) (tag : Fin 4096) (gen : Fin 16)
  /-- `DMA_CHANNEL_SET` (R216). -/
  | dmaChannelSet (m : Fin 16) (tag : Fin 4096) (gen : Fin 16)
  /-- `DMA_CHANNEL_STOP` (R223). -/
  | dmaChannelStop (m : Fin 16) (tag : Fin 4096) (gen : Fin 16)
  /-- `SQ_DOORBELL_SERVICE` (R205). -/
  | sqDoorbellService (q : Fin 131072)
  /-- `SQ_ENTRY_FETCH` (R211). -/
  | sqEntryFetch (q : Fin 131072) (entry table : List Word) (code : Fin 256) (fault : Option Nat)
  /-- `TX_ITEM_COMPLETE` (R200). -/
  | txItemComplete (i : Nat)
  /-- `TX_TIMESTAMP_TAKEN` (R200). -/
  | txTimestampTaken (f : Nat)
  /-- `CQ_MODERATION_EXPIRY` (R215). -/
  | cqModerationExpiry (q : Fin 131072)
  /-- `DMA_KICK_WRITE` (R218). -/
  | dmaKickWrite (c : Fin 64)
  /-- `DMA_DISABLE_WRITE` (R222). -/
  | dmaDisableWrite (c : Fin 64) (v : Word)
  /-- `DMA_DESCRIPTOR_START` (R218). -/
  | dmaDescriptorStart (c : Fin 64) (words src dst : List Word) (code : Fin 256)
  /-- `DMA_CHUNK` (R220). -/
  | dmaChunk (c : Fin 64) (bytes : List Byte) (code : Fin 256)
  /-- `DMA_WRITEBACK` (R218). -/
  | dmaWriteback (c : Fin 64)
  /-- `PRESS_PASS` (R227). -/
  | pressPass (f : Nat)
  /-- `FRAG_HOLD_EXPIRY` (R245). -/
  | fragHoldExpiry (f : Nat)
  /-- `FRAG_ENTRY_EXPIRY` (R244). -/
  | fragEntryExpiry (n : Fin 16384)
  /-- `L4_CSUM_FILL` (R242). -/
  | l4CsumFill (f : Nat)
  /-- `PROFILE_SET` (R249). -/
  | profileSet (m : Fin 16) (tag : Fin 4096) (gen : Fin 16)
  /-- `CLASSIFIER_LOOKUP` (R261). -/
  | classifierLookup (f : Nat)
  /-- `RECIRC_ENTRY` (R266). -/
  | recircEntry (p : Fin 3)
  /-- `TABLE_CLEAR_DONE` (R254). -/
  | tableClearDone (t : Fin 16)
  /-- `TIMED_VINTAGE_FLIP` (R271). -/
  | timedVintageFlip
  /-- `DRAIN_COMPLETE` (R270). -/
  | drainComplete
  /-- `BANK_COPY_DONE` (R273). -/
  | bankCopyDone (t : Fin 16)
  /-- `READY_HOLD_EXPIRY` (R271). -/
  | readyHoldExpiry
  /-- `CLS_ENT_READ` (R275). -/
  | clsEntRead
  /-- `CLS_ENT_WRITE` (R267). -/
  | clsEntWrite
  /-- `CLS_ENT_INVALIDATE` (R275). -/
  | clsEntInvalidate
  /-- `RULE_TABLE_SET` (R274). -/
  | ruleTableSet (m : Fin 16) (tag : Fin 4096) (gen : Fin 16)
  /-- `RULE_ADD` (R257). -/
  | ruleAdd (m : Fin 16) (tag : Fin 4096) (gen : Fin 16)
  /-- `RULE_DELETE` (R274). -/
  | ruleDelete (m : Fin 16) (tag : Fin 4096) (gen : Fin 16)
  /-- `RULE_BANK_SWAP` (R271). -/
  | ruleBankSwap (m : Fin 16) (tag : Fin 4096) (gen : Fin 16)
  /-- `FORWARDING_LOOKUP` (R279). -/
  | forwardingLookup (f : Nat)
  /-- `LEARN_APPLY` (R289). -/
  | learnApply
  /-- `FWD_TABLE_READ` (R286). -/
  | fwdTableRead
  /-- `FWD_TABLE_WRITE` (R286). -/
  | fwdTableWrite
  /-- `FWD_TABLE_INVALIDATE` (R286). -/
  | fwdTableInvalidate
  /-- `FWD_TABLE_SEARCH` (R286). -/
  | fwdTableSearch
  /-- `FWD_TABLE_INSERT` (R286). -/
  | fwdTableInsert
  /-- `FWD_TABLE_DELETE` (R286). -/
  | fwdTableDelete
  /-- `TCM_READ` (R304). -/
  | tcmRead
  /-- `TCM_WRITE` (R298). -/
  | tcmWrite
  /-- `TCM_INVALIDATE` (R304). -/
  | tcmInvalidate
  /-- `RACKING_MOVE` (R296). -/
  | rackingMove (i j : Fin 131072)
  /-- `L2_ADD` (R301). -/
  | l2Add (m : Fin 16) (tag : Fin 4096) (gen : Fin 16)
  /-- `L2_DELETE` (R300). -/
  | l2Delete (m : Fin 16) (tag : Fin 4096) (gen : Fin 16)
  /-- `FLOW_ADD` (R301). -/
  | flowAdd (m : Fin 16) (tag : Fin 4096) (gen : Fin 16)
  /-- `FLOW_DELETE` (R300). -/
  | flowDelete (m : Fin 16) (tag : Fin 4096) (gen : Fin 16)
  /-- `LPM_ADD` (R297). -/
  | lpmAdd (m : Fin 16) (tag : Fin 4096) (gen : Fin 16)
  /-- `LPM_DELETE` (R301). -/
  | lpmDelete (m : Fin 16) (tag : Fin 4096) (gen : Fin 16)
  /-- `HIT_SCAN` (R299). -/
  | hitScan (m : Fin 16) (tag : Fin 4096) (gen : Fin 16)
  /-- `THREAD_WAKE_UP` (R312). -/
  | threadWakeUp (t : Fin 512)
  /-- `THREAD_ADMIT` (R313). -/
  | threadAdmit (t : Fin 512)
  /-- `EVENT_WAIT` (R311). -/
  | eventWait (t : Fin 512) (mask : Word)
  /-- `THREAD_EXIT` (R327). -/
  | threadExit (t : Fin 512)
  /-- `CHARGE_SLICE_SET` (R314). -/
  | chargeSliceSet (t : Fin 512) (slice : Option (Fin 8192 × Fin 256))
  /-- `CHANNEL_PUT` (R318). -/
  | channelPut (t : Fin 512) (chan : Fin 256) (w : Word) (fin : Bool)
  /-- `CHANNEL_HOLD_TIMEOUT` (R318). -/
  | channelHoldTimeout (c : Fin 8) (chan : Fin 16)
  /-- `ACCELERATOR_RESPONSE` (R316). -/
  | acceleratorResponse (t : Fin 512)
  /-- `MGMT_CHANNEL_REQUEST` (R315). -/
  | mgmtChannelRequest (t : Fin 512) (op : MgmtOp)
  /-- `CELLAR_CHANNEL_REQUEST` (R315). -/
  | cellarChannelRequest (t : Fin 512) (op : Option CellarOp)
  /-- `HBM_CHANNEL_REQUEST` (R315). -/
  | hbmChannelRequest (t : Fin 512) (op : Option HbmOp)
  /-- `LOOKUP_CHANNEL_REQUEST` (R315). -/
  | lookupChannelRequest (t : Fin 512) (op : Option LookupOp)
  /-- `HASH_CHANNEL_REQUEST` (R315). -/
  | hashChannelRequest (t : Fin 512) (op : Option HashOp)
  /-- `FRAME_CHANNEL_REQUEST` (R315). -/
  | frameChannelRequest (t : Fin 512) (op : Option FrameOp)
  /-- `RECIRC_CHANNEL_REQUEST` (R315). -/
  | recircChannelRequest (t : Fin 512) (handle : Nat) (profile : Fin 64) (start : Nat)
  /-- `DMA_CHANNEL_REQUEST` (R315). -/
  | dmaChannelRequest (t : Fin 512) (c : Fin 64)
  /-- `TIMER_CHANNEL_REQUEST` (R315). -/
  | timerChannelRequest (t : Fin 512) (op : Option TimerOp)
  /-- `EVENT_CHANNEL_REQUEST` (R315). -/
  | eventChannelRequest (t dst : Fin 512) (bits : BitVec 24)
  /-- `STO_CHANNEL_REQUEST` (R315). -/
  | stoChannelRequest (t : Fin 512) (op : Option StoOp)
  /-- `SEAL` (R352). -/
  | seal (t : Fin 512)
  /-- `OPEN` (R352). -/
  | cipherOpen (t : Fin 512)
  /-- `CTR` (R352). -/
  | ctr (t : Fin 512)
  /-- `XTS_ENC` (R352). -/
  | xtsEnc (t : Fin 512)
  /-- `XTS_DEC` (R352). -/
  | xtsDec (t : Fin 512)
  /-- `TRL_PEER_WRITE_REQUEST` (R464). -/
  | trlPeerWriteRequest (t : Fin 512)
  /-- `TRL_PEER_READ_REQUEST` (R464). -/
  | trlPeerReadRequest (t : Fin 512)
  /-- `TRL_SEND_REQUEST` (R464). -/
  | trlSendRequest (t : Fin 512)
  /-- `INJECT` (R440). -/
  | inject (t : Fin 512)
  /-- `GROUP_READ` (R440). -/
  | groupRead (t : Fin 512)
  /-- `INBOUND_ENQUEUE` (R320). -/
  | inboundEnqueue (f : Option Nat)
  /-- `INBOUND_TAKE` (R321). -/
  | inboundTake (t : Fin 512) (chan : Fin 256)
  /-- `EVENT_CLEAR` (R311). -/
  | eventClear (t : Fin 512) (bits : Word)
  /-- `THREAD_TIMER_EXPIRY` (R311). -/
  | threadTimerExpiry (t : Fin 512) (i : Fin 4)
  /-- `ALL_WAIT_DETECT` (R326). -/
  | allWaitDetect (c : Fin 8)
  /-- `FPC_THR_RESET_WRITE` (R328). -/
  | fpcThrResetWrite (t : Fin 512) (v : Word)
  /-- `HALT` (R331). -/
  | halt (t : Fin 512)
  /-- `RESUME` (R331). -/
  | resume (t : Fin 512)
  /-- `RELEASE` (R331). -/
  | release (t : Fin 512)
  /-- `CORE_TAKEOVER` (R332). -/
  | coreTakeover (c core : Fin 8) (lost : BitVec 8)
  /-- `CIPHER_MESSAGE_ARRIVE` (R339). -/
  | cipherMessageArrive (f : Nat)
  /-- `CIPHER_BATCH_ISSUE` (R341). -/
  | cipherBatchIssue (e : Fin 12)
  /-- `CIPHER_MESSAGE_DONE` (R336). -/
  | cipherMessageDone (e : Fin 12)
  /-- `CIPHER_ENGINE_FAULT` (R356). -/
  | cipherEngineFault (e : Fin 12)
  /-- `CIPHER_ENGINE_RETURN` (R356). -/
  | cipherEngineReturn (e : Fin 12) (pass : Bool)
  /-- `SA_SOFT_EXPIRY` (R353). -/
  | saSoftExpiry (slot : Bool) (i : Fin 1048576)
  /-- `SA_HARD_EXPIRY` (R353). -/
  | saHardExpiry (slot : Bool) (i : Fin 1048576)
  /-- `KEY_COPY_RELEASED` (R355). -/
  | keyCopyReleased (sa : Bool) (i : Fin 1048576)
  /-- `KEY_LOAD` (R344). -/
  | keyLoad (slot : Fin 256)
  /-- `KEY_ZERO` (R344). -/
  | keyZero (slot : Fin 256)
  /-- `KEY_SLOT_WRITE` (R343). -/
  | keySlotWrite (m : Fin 16) (tag : Fin 4096) (gen : Fin 16)
  /-- `KEY_SLOT_ZERO` (R343). -/
  | keySlotZero (m : Fin 16) (tag : Fin 4096) (gen : Fin 16)
  /-- `SA_DECANT` (R347). -/
  | saDecant (m : Fin 16) (tag : Fin 4096) (gen : Fin 16)
  /-- `SA_DELETE` (R348). -/
  | saDelete (m : Fin 16) (tag : Fin 4096) (gen : Fin 16)
  /-- `SA_STATUS` (R348). -/
  | saStatus (m : Fin 16) (tag : Fin 4096) (gen : Fin 16)
  /-- `STO_OBJ_READ` (R362). -/
  | stoObjRead (v : Word)
  /-- `STO_OBJ_CREATE` (R362). -/
  | stoObjCreate (v : Word)
  /-- `STO_OBJ_DESTROY` (R362). -/
  | stoObjDestroy (v : Word)
  /-- `STO_OBJ_CONNECT` (R367). -/
  | stoObjConnect (v : Word)
  /-- `CONNECT_SUCCESS` (R367). -/
  | connectSuccess (k : Fin 32768) (cntlid : Fin 65536) (inCapsule : Nat) (depth : Fin 65536)
  /-- `CONNECT_FAIL` (R367). -/
  | connectFail (k : Fin 32768)
  /-- `CONNECTION_LOSS` (R367). -/
  | connectionLoss (k : Fin 32768) (badHeader : Bool)
  /-- `RECONNECT_EXPIRY` (R367). -/
  | reconnectExpiry (k : Fin 32768)
  /-- `CTRL_LOSS_EXPIRY` (R367). -/
  | ctrlLossExpiry (k : Fin 32768)
  /-- `CLOSE_DONE` (R367). -/
  | closeDone (k : Fin 32768)
  /-- `KEEP_ALIVE_SEND` (R367). -/
  | keepAliveSend (k : Fin 32768)
  /-- `KATO_EXPIRY` (R367). -/
  | katoExpiry (k : Fin 32768)
  /-- `TCP_RETRANSMIT_TIMEOUT` (R360). -/
  | tcpRetransmitTimeout (k : Fin 32768)
  /-- `NVME_COMMAND_FETCH` (R366). -/
  | nvmeCommandFetch (k : Fin 32768) (entry : List Word) (walked : List (Fin 256 × Nat × Nat)) (data : List Byte) (code : Fin 256)
  /-- `NVME_RESPONSE` (R366). -/
  | nvmeResponse (k : Fin 32768) (words : List Word)
  /-- `C2H_DATA` (R369). -/
  | c2hData (k : Fin 32768) (cid : Fin 256) (off : Nat) (bytes : List Byte) (digestOk success : Bool)
  /-- `READY_TO_TRANSFER` (R360). -/
  | readyToTransfer (k : Fin 32768) (cid : Fin 256) (off len : Nat)
  /-- `C2H_TERM_REQ` (R367). -/
  | c2hTermReq (k : Fin 32768)
  /-- `NVME_COMMAND_TIMEOUT` (R371). -/
  | nvmeCommandTimeout (k : Fin 32768) (cid : Fin 256)
  /-- `STO_QUIESCE_EXPIRY` (R372). -/
  | stoQuiesceExpiry (slice : Fin 8192)
  /-- `NODE_ENQUEUE` (R382). -/
  | nodeEnqueue (f : Nat)
  /-- `PORT_GRANT` (R377). -/
  | portGrant (p : Fin 22) (sent : Nat)
  /-- `TOP_UP` (R381). -/
  | topUp
  /-- `SHAPER_SET` (R388). -/
  | shaperSet (m : Fin 16) (tag : Fin 4096) (gen : Fin 16)
  /-- `NODE_ATTACH` (R388). -/
  | nodeAttach (m : Fin 16) (tag : Fin 4096) (gen : Fin 16)
  /-- `GATE_LIST_SET` (R388). -/
  | gateListSet (m : Fin 16) (tag : Fin 4096) (gen : Fin 16)
  /-- `SCHED_STATUS` (R388). -/
  | schedStatus (m : Fin 16) (tag : Fin 4096) (gen : Fin 16)
  /-- `LINK_SIGNAL_DETECT` (R398). -/
  | linkSignalDetect (p : Fin 16)
  /-- `LINK_TRAINING_DONE` (R398). -/
  | linkTrainingDone (p : Fin 16)
  /-- `LINK_TRAINING_TIMEOUT` (R398). -/
  | linkTrainingTimeout (p : Fin 16)
  /-- `LINK_ALIGNED` (R398). -/
  | linkAligned (p : Fin 16)
  /-- `LINK_LOCK_LOSS` (R398). -/
  | linkLockLoss (p : Fin 16) (localFault : Bool)
  /-- `REMOTE_FAULT_RECEIVED` (R398). -/
  | remoteFaultReceived (p : Fin 16)
  /-- `REMOTE_FAULT_CLEARED` (R398). -/
  | remoteFaultCleared (p : Fin 16)
  /-- `MAC_FRAME_RECEIVE` (R401). -/
  | macFrameReceive (p : Fin 16) (bytes : List Byte) (fin : RxEnd)
  /-- `MAC_TRANSMIT_END` (R399). -/
  | macTransmitEnd (p : Fin 16)
  /-- `TX_OFFLOAD` (R404). -/
  | txOffload (f : Nat)
  /-- `VERIFY_MPACKET` (R402). -/
  | verifyMpacket (p : Fin 16) (response : Bool)
  /-- `LRO_HOLD_EXPIRY` (R407). -/
  | lroHoldExpiry (i : Nat)
  /-- `MGT_FRAME_RECEIVE` (R416). -/
  | mgtFrameReceive (bytes : List Byte) (good : Bool)
  /-- `MGT_TX_TAIL_WRITE` (R416). -/
  | mgtTxTailWrite (m : Fin 16) (v : Word)
  /-- `MGT_TX_DONE` (R416). -/
  | mgtTxDone
  /-- `PORT_MODE_SET` (R417). -/
  | portModeSet (m : Fin 16) (tag : Fin 4096) (gen : Fin 16)
  /-- `PORT_STATUS` (R417). -/
  | portStatus (m : Fin 16) (tag : Fin 4096) (gen : Fin 16)
  /-- `PORT_STATS_READ` (R415). -/
  | portStatsRead (m : Fin 16) (tag : Fin 4096) (gen : Fin 16)
  /-- `REDUNDANCY_SET` (R410). -/
  | redundancySet (m : Fin 16) (tag : Fin 4096) (gen : Fin 16)
  /-- `DUP_NODE_FORGET` (R421). -/
  | dupNodeForget (i : Fin 16384)
  /-- `SV_FRAME` (R424). -/
  | svFrame (f : Nat)
  /-- `SAMPLE_SET_WAIT_EXPIRY` (R428). -/
  | sampleSetWaitExpiry (g : Fin 256)
  /-- `GOOSE_FRAME` (R434). -/
  | gooseFrame (f : Nat)
  /-- `GOOSE_STALE` (R434). -/
  | gooseStale (i : Fin 4096)
  /-- `GOOSE_FAST_RETRANSMIT` (R438). -/
  | gooseFastRetransmit (i : Fin 256)
  /-- `GOOSE_HEARTBEAT` (R438). -/
  | gooseHeartbeat (i : Fin 256)
  /-- `PBU_LOCKSTEP_FAULT` (R441). -/
  | pbuLockstepFault
  /-- `PBU_ENT_READ_ACTIVE` (R443). -/
  | pbuEntReadActive (v : Word)
  /-- `PBU_ENT_READ_STAGED` (R443). -/
  | pbuEntReadStaged (v : Word)
  /-- `PBU_ENT_WRITE_STAGED` (R443). -/
  | pbuEntWriteStaged (m : Fin 16) (v : Word)
  /-- `SV_SUBSCRIBE` (R423). -/
  | svSubscribe (m : Fin 16) (tag : Fin 4096) (gen : Fin 16)
  /-- `SV_UNSUBSCRIBE` (R442). -/
  | svUnsubscribe (m : Fin 16) (tag : Fin 4096) (gen : Fin 16)
  /-- `GOOSE_SUBSCRIBE` (R433). -/
  | gooseSubscribe (m : Fin 16) (tag : Fin 4096) (gen : Fin 16)
  /-- `GOOSE_UNSUBSCRIBE` (R442). -/
  | gooseUnsubscribe (m : Fin 16) (tag : Fin 4096) (gen : Fin 16)
  /-- `GOOSE_PUBLISH_SET` (R436). -/
  | goosePublishSet (m : Fin 16) (tag : Fin 4096) (gen : Fin 16)
  /-- `ALIGNER_GROUP_SET` (R427). -/
  | alignerGroupSet (m : Fin 16) (tag : Fin 4096) (gen : Fin 16)
  /-- `PBU_STATUS` (R442). -/
  | pbuStatus (m : Fin 16) (tag : Fin 4096) (gen : Fin 16)
  /-- `TRL_LINK_SIGNAL_DETECT` (R445). -/
  | trlLinkSignalDetect (t : Fin 4)
  /-- `TRL_LINK_TRAINING_DONE` (R445). -/
  | trlLinkTrainingDone (t : Fin 4)
  /-- `TRL_LINK_TRAINING_TIMEOUT` (R445). -/
  | trlLinkTrainingTimeout (t : Fin 4)
  /-- `TRL_LINK_ALIGNED` (R445). -/
  | trlLinkAligned (t : Fin 4)
  /-- `TRL_LINK_LOCK_LOSS` (R445). -/
  | trlLinkLockLoss (t : Fin 4)
  /-- `HELLO_SEND` (R446). -/
  | helloSend (via : Via)
  /-- `HELLO` (R449). -/
  | hello (via : Via) (h : HelloBody)
  /-- `PATH_DEAD` (R450). -/
  | pathDead (id : Fin 512)
  /-- `TRELLIS_RETRANSMIT` (R450). -/
  | trellisRetransmit (id : Fin 512)
  /-- `WEPOMER_FRAME` (R450). -/
  | wepomerFrame (w : Wepomer)
  /-- `LEARN` (R455). -/
  | learn
  /-- `SYNC_BEGIN` (R469). -/
  | syncBegin
  /-- `SYNC_END` (R469). -/
  | syncEnd
  /-- `VINTAGE_PREPARE` (R457). -/
  | vintagePrepare
  /-- `READY` (R271). -/
  | ready
  /-- `REFUSE` (R271). -/
  | refuse
  /-- `VINTAGE_ABORT` (R457). -/
  | vintageAbort
  /-- `VINTAGE_ACTIVATE` (R271). -/
  | vintageActivate
  /-- `VINTAGE_DONE` (R271). -/
  | vintageDone
  /-- `PEER_WRITE` (R462). -/
  | peerWrite
  /-- `PEER_READ` (R462). -/
  | peerRead (host : Option (List Byte))
  /-- `PEER_RESP` (R464). -/
  | peerResp
  /-- `ANGLE_EXPORT` (R458). -/
  | angleExport
  /-- `ANGLE` (R459). -/
  | angle
  /-- `FRAME` (R454). -/
  | frame
  /-- `SEND` (R465). -/
  | send
  /-- `CMD` (R466). -/
  | cmd
  /-- `REPLY` (R466). -/
  | reply
  /-- `MBX_IN` (R466). -/
  | mbxIn
  /-- `MBX_OUT` (R466). -/
  | mbxOut
  /-- `ACT_PREPARE` (R525). -/
  | actPrepare (room fits : Bool)
  /-- `ACT_READY` (R525). -/
  | actReady
  /-- `ACT_REFUSE` (R525). -/
  | actRefuse
  /-- `ACT_COMMIT` (R525). -/
  | actCommit
  /-- `ACT_ABORT` (R525). -/
  | actAbort
  /-- `ACT_RESULT` (R525). -/
  | actResult
  /-- `TRELLIS_PORT_SET` (R470). -/
  | trellisPortSet (m : Fin 16) (tag : Fin 4096) (gen : Fin 16)
  /-- `TRELLIS_DOMAIN_SET` (R470). -/
  | trellisDomainSet (m : Fin 16) (tag : Fin 4096) (gen : Fin 16)
  /-- `TRELLIS_WINDOW_SET` (R470). -/
  | trellisWindowSet (m : Fin 16) (tag : Fin 4096) (gen : Fin 16)
  /-- `TRELLIS_STATUS` (R470). -/
  | trellisStatus (m : Fin 16) (tag : Fin 4096) (gen : Fin 16)
  /-- `TRELLIS_PEER_CMD` (R466). -/
  | trellisPeerCmd (m : Fin 16) (tag : Fin 4096) (gen : Fin 16)
  /-- `PIPELINE_FAULT` (R480). -/
  | pipelineFault (p : Fin 3) (kind : Fin 16) (loc : Word)
  /-- `PIPELINE_TASTING_DONE` (R17). -/
  | pipelineTastingDone (p : Fin 3) (good : Bool)
  /-- `CONTEXT_CHECKPOINT` (R479). -/
  | contextCheckpoint (p : Fin 3)
  /-- `CORRECTED_ERROR` (R476). -/
  | correctedError (row : Fin 17) (unit : Fin 65536) (loc : Word)
  /-- `UNCORRECTABLE_ERROR` (R475). -/
  | uncorrectableError (e : Damage) (loc : Word)
  /-- `POWERED_HOUR` (R476). -/
  | poweredHour
  /-- `WATCHDOG_EXPIRY` (R487). -/
  | watchdogExpiry
  /-- `FLT_HALT_RESET_WRITE` (R489). -/
  | fltHaltResetWrite (v : Word)
  /-- `FAULT_LOG_READ` (R486). -/
  | faultLogRead (m : Fin 16) (tag : Fin 4096) (gen : Fin 16)
  /-- `TASTING_RUN` (R139). -/
  | tastingRun (m : Fin 16) (tag : Fin 4096) (gen : Fin 16) (good : Bool)
  /-- `COUNTERS_READ` (R139). -/
  | countersRead (m : Fin 16) (tag : Fin 4096) (gen : Fin 16)
  /-- `SYS_RST_ASSERT` (R483). -/
  | sysRstAssert
  /-- `SYS_RST_DEASSERT` (R497). -/
  | sysRstDeassert (tid : Fin 512) (hold : Bool)
  /-- `BOOT_STAGE_DONE` (R497). -/
  | bootStageDone (r : StageReport)
  /-- `BOOT_STAGE_DEADLINE` (R498). -/
  | bootStageDeadline
  /-- `POWER_GOOD_FALL` (R494). -/
  | powerGoodFall (g : Fin 4)
  /-- `POWER_GOOD_RISE` (R494). -/
  | powerGoodRise
  /-- `SUPPLY_FAULT_HOLD` (R487). -/
  | supplyFaultHold (g : Fin 4) (mv : List Word)
  /-- `RAIL_OUT_OF_WINDOW` (R537). -/
  | railOutOfWindow (r : Fin 9)
  /-- `PAIR_IN_CHANGE` (R503). -/
  | pairInChange (level : Bool)
  /-- `PATROL_SCRUB` (R504). -/
  | patrolScrub (hbm : Bool)
  /-- `LIFECYCLE_LATCH` (R513). -/
  | lifecycleLatch
  /-- `JTAG_INSTRUCTION` (R511). -/
  | jtagInstruction (j : Jtag)
  /-- `GLITCH_DETECT` (R515). -/
  | glitchDetect
  /-- `LC_STATUS` (R505). -/
  | lcStatus (m : Fin 16) (tag : Fin 4096) (gen : Fin 16)
  /-- `LC_TRANSITION` (R506). -/
  | lcTransition (m : Fin 16) (tag : Fin 4096) (gen : Fin 16)
  /-- `LC_TRANSITION_RESET` (R507). -/
  | lcTransitionReset
  /-- `UPDATE_STAGE` (R521). -/
  | updateStage (m : Fin 16) (tag : Fin 4096) (gen : Fin 16)
  /-- `BANK_ERASE_DONE` (R521). -/
  | bankEraseDone
  /-- `UPDATE_SCHEDULE` (R522). -/
  | updateSchedule (m : Fin 16) (tag : Fin 4096) (gen : Fin 16) (room fits : Bool)
  /-- `UPDATE_CONFIRM` (R528). -/
  | updateConfirm (m : Fin 16) (tag : Fin 4096) (gen : Fin 16)
  /-- `UPDATE_STATUS` (R533). -/
  | updateStatus (m : Fin 16) (tag : Fin 4096) (gen : Fin 16)
  /-- `ATTEST_MEASURE` (R518). -/
  | attestMeasure (m : Fin 16) (tag : Fin 4096) (gen : Fin 16)
  /-- `ACTIVATION_START` (R524). -/
  | activationStart
  /-- `ACTIVATION_DRAIN_EXPIRY` (R524). -/
  | activationDrainExpiry
  /-- `ACTIVATION_CHECK_DONE` (R524). -/
  | activationCheckDone
  /-- `ACTIVATION_FPC_TIMEOUT` (R524). -/
  | activationFpcTimeout (t : Fin 512)
  /-- `ACTIVATION_COMPLETE` (R524). -/
  | activationComplete (place : List (Nat × Word))
  /-- `ACT_READY_EXPIRY` (R523). -/
  | actReadyExpiry
  /-- `GET_VERSION` (R517). -/
  | getVersion (req : List Byte)
  /-- `GET_CAPABILITIES` (R517). -/
  | getCapabilities (req : List Byte)
  /-- `NEGOTIATE_ALGORITHMS` (R517). -/
  | negotiateAlgorithms (req : List Byte)
  /-- `GET_DIGESTS` (R517). -/
  | getDigests (req : List Byte)
  /-- `GET_CERTIFICATE` (R517). -/
  | getCertificate (req : List Byte)
  /-- `CHALLENGE` (R517). -/
  | challenge (req : List Byte)
  /-- `GET_MEASUREMENTS` (R518). -/
  | getMeasurements (req : List Byte)
  /-- `PLDM_REQUEST_UPDATE` (R531). -/
  | pldmRequestUpdate (req : List Byte)
  /-- `PLDM_TRANSFER` (R531). -/
  | pldmTransfer (offset : Nat) (data : List Word) (last : Bool)
  /-- `PLDM_ACTIVATE_FIRMWARE` (R531). -/
  | pldmActivateFirmware (room fits : Bool)
  /-- `BUS_MASTER_ENABLE` (R161). -/
  | busMasterEnable (f : Fin 4)
  /-- `MSIX_ENABLE_WRITE` (R156). -/
  | msixEnableWrite (f : Fin 4) (on : Bool)
  /-- `INSTRUCTION_ISSUE` (R322). -/
  | instructionIssue (t : Fin 512) (r : Issue)
  /-- `CORE_TASTING_DONE` (R332). -/
  | coreTastingDone (c : Fin 8) (pass : Bool)
  /-- `SLOW_EDGE` (R98). -/
  | slowEdge
  /-- `GSYNC_SIGNAL_CHANGE` (R61). -/
  | gsyncSignalChange (present : Bool)
  /-- `MCTP_CONTROL_MESSAGE` (R488). -/
  | mctpControlMessage (req : List Byte)
  /-- `RAIL_WITHIN_WINDOW` (R537). -/
  | railWithinWindow (r : Fin 9)
deriving DecidableEq, Repr

end Sys2Proof
end

