-- ==== Sys2Proof/Config.lean ====
section
/-! DEFINITION. What one part fixes or the spec leaves open: opaque constants with no body, so that no proof
can see a value of them. -/

namespace Sys2Proof.Config

/-- A free 32-bit value: the n-th the machine needs (log entry 3). -/
opaque freeWord : Nat → Word

/-- A free natural number (log entry 3). -/
opaque freeNat : Nat → Nat

/-- A free decision (log entry 3). -/
opaque freeBool : Nat → Bool

/-- A free byte string of the given length (log entry 3). -/
opaque freeBytes : Nat → Nat → List Byte

/-- SHA-384 of a byte string, as 48 bytes (log entry 4: the primitive itself is outside the spec). -/
opaque sha384 : List Byte → List Byte

/-- ECDSA P-384 verification: public key, digest, signature (log entry 4). -/
opaque ecdsaVerify : List Byte → List Byte → List Byte → Bool

/-- The public key whose SHA-384 is a given hash (log entry 4). -/
opaque keyOfHash : List Byte → List Byte

/-- The key hashes the fuses hold: 0 the Trekaran lifecycle key, 1 the release key, 2 the development key (log entry 3). -/
opaque fuseHash : Nat → List Byte

/-- The identity key's public half, the boot ROM's image: what a part is made with (log entry 3). -/
opaque identityKey : List Byte
opaque bootRom : List Byte

/-- ECDSA P-384 signature with the identity key over a digest (log entry 4). -/
opaque ecdsaSign : List Byte → List Byte

/-- AES-GCM encryption: key, nonce, associated data, plaintext; ciphertext with its 16-byte tag (log entry 4). -/
opaque gcmSeal : List Byte → List Byte → List Byte → List Byte → List Byte

/-- AES-GCM decryption: key, nonce, associated data, ciphertext with tag; `none` where the tag fails. -/
opaque gcmOpen : List Byte → List Byte → List Byte → List Byte → Option (List Byte)

/-- AES-CTR: key, counter block, data. -/
opaque ctrCrypt : List Byte → List Byte → List Byte → List Byte

/-- AES-XTS encryption: keys, tweak, data. -/
opaque xtsEnc : List Byte → List Byte → List Byte → List Byte

/-- AES-XTS decryption: keys, tweak, data. -/
opaque xtsDec : List Byte → List Byte → List Byte → List Byte

/-- AES key wrap unwrapping: wrapping key, blob; `none` where its check fails. -/
opaque keyUnwrap : List Byte → List Byte → Option (List Byte)

/-- The port group, and so the pipeline, that carries the host frames of a slice: group 1 where true (log entry 3). -/
opaque hostGroup : Nat → Bool

end Sys2Proof.Config
end

