-- ==== Sys2Proof/Machine/Bits.lean ====
section
/-! DEFINITION. Bit fields of words, saturating counters, byte orders (R4 to R6). -/

namespace Sys2Proof

/-- Bits `[lo + n - 1 : lo]` of a word, as a number. -/
def Word.fld (w : Word) (lo n : Nat) : Nat := (w.toNat >>> lo) % 2 ^ n

/-- Bit `i` of a word. -/
def Word.bit (w : Word) (i : Nat) : Bool := w.toNat.testBit i

/-- The word with bits `[lo + n - 1 : lo]` replaced by `v` (taken modulo `2 ^ n`). -/
def Word.setFld (w : Word) (lo n v : Nat) : Word :=
  let m : Word := BitVec.ofNat 32 ((2 ^ n - 1) <<< lo)
  (w &&& ~~~m) ||| BitVec.ofNat 32 ((v % 2 ^ n) <<< lo)

/-- The word with bit `i` set or cleared. -/
def Word.setBit (w : Word) (i : Nat) (b : Bool) : Word := Word.setFld w i 1 (if b then 1 else 0)

/-- A 32-bit saturating increment by `n`. -/
def Word.satAdd (w : Word) (n : Nat) : Word :=
  if w.toNat + n < 2 ^ 32 then BitVec.ofNat 32 (w.toNat + n) else BitVec.allOnes 32

/-- The number of one bits among the low `n`. -/
def popCount : Nat → Nat → Nat
  | 0, _ => 0
  | n + 1, v => (if v.testBit n then 1 else 0) + popCount n v

/-- The set bit positions below `n`, lowest first. -/
def bitList (n v : Nat) : List Nat := (List.range n).filter (fun i => v.testBit i)

/-- The number as a word, modulo 2^32. -/
abbrev wd (n : Nat) : Word := BitVec.ofNat 32 n

/-- The low and the high word of a 64-bit number (R5). -/
def lo32 (n : Nat) : Word := BitVec.ofNat 32 n
def hi32 (n : Nat) : Word := BitVec.ofNat 32 (n / 2 ^ 32)

/-- The 64-bit number of a low and a high word. -/
def cat64 (lo hi : Word) : Nat := lo.toNat + hi.toNat * 2 ^ 32

/-- The signed difference of two 32-bit counts: the shorter way round (R39). -/
def sdiff (a b : Word) : Int := (a - b).toInt

/-- The bytes of a word in memory order, little-endian (R6). -/
def Word.bytes (w : Word) : List Byte :=
  [BitVec.ofNat 8 w.toNat, BitVec.ofNat 8 (w.toNat / 2 ^ 8), BitVec.ofNat 8 (w.toNat / 2 ^ 16),
   BitVec.ofNat 8 (w.toNat / 2 ^ 24)]

/-- The bytes of a list of words in memory order. -/
def bytesOf (ws : List Word) : List Byte := ws.flatMap Word.bytes

/-- Words from bytes in memory order; missing bytes read 0. -/
def wordsOf : Nat → List Byte → List Word
  | 0, _ => []
  | n + 1, bs =>
    let b (i : Nat) : Nat := ((bs[i]?).getD 0).toNat
    wd (b 0 + b 1 * 2 ^ 8 + b 2 * 2 ^ 16 + b 3 * 2 ^ 24) :: wordsOf n (bs.drop 4)

/-- The big-endian number of a byte string: network byte order (R6). -/
def beNat (bs : List Byte) : Nat := bs.foldl (fun a b => a * 256 + b.toNat) 0

/-- `n` bytes of a number, most significant first. -/
def beBytes : Nat → Nat → List Byte
  | 0, _ => []
  | n + 1, v => beBytes n (v / 256) ++ [BitVec.ofNat 8 v]

/-- Bytes `[o, o + n)` of a byte string; bytes past its end are left out. -/
def slice (bs : List Byte) (o n : Nat) : List Byte := (bs.drop o).take n

/-- The big-endian field of `n` bytes at offset `o`. -/
def beAt (bs : List Byte) (o n : Nat) : Nat := beNat (slice bs o n)

/-- One byte of a string as a number, 0 past its end. -/
def byteAt (bs : List Byte) (o : Nat) : Nat := ((bs[o]?).getD 0).toNat

/-- The string with the bytes from `o` on replaced by `v`. -/
def patch (bs : List Byte) (o : Nat) (v : List Byte) : List Byte := bs.take o ++ v ++ bs.drop (o + v.length)

/-- `n` parameter, 0 where the list is shorter. -/
def wordAt (ws : List Word) (n : Nat) : Word := (ws[n]?).getD 0

/-- The list with its element `i` replaced. -/
def setAt {α : Type} (l : List α) (i : Nat) (v : α) : List α := l.set i v

/-- Number of set bits of a word. -/
def Word.ones (w : Word) : Nat := popCount 32 w.toNat

/-- A clamp to a closed range. -/
def clampNat (lo hi v : Nat) : Nat := if v < lo then lo else if hi < v then hi else v

/-- `v`, or `d` where `v` is 0: the fields whose 0 is treated as another value. -/
def orOne (v d : Nat) : Nat := if v = 0 then d else v

/-- The rounded-up quotient. -/
def ceilDiv (a b : Nat) : Nat := (a + b - 1) / b

end Sys2Proof
end

