-- ==== Sys2Proof/Machine/Flags.lean ====
section
/-! DEFINITION. The check sums and hashes the spec names: CRC-16 (R58, R124), CRC-32C, ones'-complement sums. -/

namespace Sys2Proof

/-- One bit of the CRC-16 of polynomial 0x1021, most significant bit first. -/
def crc16Bit (c : BitVec 16) : BitVec 16 :=
  if c.msb then (c <<< 1) ^^^ 0x1021#16 else c <<< 1

/-- `n` bits of `crc16Bit`. -/
def crc16Bits : Nat → BitVec 16 → BitVec 16
  | 0, c => c
  | n + 1, c => crc16Bits n (crc16Bit c)

/-- One byte of the CRC-16. -/
def crc16Byte (c : BitVec 16) (b : Byte) : BitVec 16 :=
  crc16Bits 8 (c ^^^ (b.setWidth 16 <<< 8))

/-- CRC-16: polynomial 0x1021, initial value 0xFFFF, no reflection, no final XOR (R58, R124). -/
def crc16 (bs : List Byte) : Nat := (bs.foldl crc16Byte 0xFFFF#16).toNat

/-- One bit of a reflected 32-bit CRC. -/
def crc32Bit (p c : BitVec 32) : BitVec 32 :=
  if c.getLsbD 0 then (c >>> 1) ^^^ p else c >>> 1

/-- `n` bits of `crc32Bit`. -/
def crc32Bits : Nat → BitVec 32 → BitVec 32 → BitVec 32
  | 0, _, c => c
  | n + 1, p, c => crc32Bits n p (crc32Bit p c)

/-- One byte of a reflected 32-bit CRC. -/
def crc32Byte (p c : BitVec 32) (b : Byte) : BitVec 32 := crc32Bits 8 p (c ^^^ b.setWidth 32)

/-- The CRC-32C (Castagnoli) register from an initial value, without the final XOR. -/
def crc32c (init : Word) (bs : List Byte) : Word := bs.foldl (crc32Byte 0x82F63B78#32) init

/-- The Ethernet CRC-32 of a frame, final XOR included. -/
def crc32 (bs : List Byte) : Word := ~~~ (bs.foldl (crc32Byte 0xEDB88320#32) 0xFFFFFFFF#32)

/-- The ones'-complement sum of 16-bit big-endian words, an odd last byte padded with 0. -/
def onesSum : List Byte → Nat
  | [] => 0
  | [a] => a.toNat * 256
  | a :: b :: r => a.toNat * 256 + b.toNat + onesSum r

/-- A sum folded to 16 bits. -/
def fold16 (n : Nat) : Nat :=
  let a := n / 65536 + n % 65536
  let b := a / 65536 + a % 65536
  b / 65536 + b % 65536

/-- The Internet checksum field of a byte string. -/
def inetCsum (bs : List Byte) : Nat := 0xFFFF - fold16 (onesSum bs)

end Sys2Proof
end

