-- ==== Sys2Proof/Machine/Map.lean ====
section
/-! DEFINITION. Sparse maps with keys strictly rising: lookup, insertion in order, removal. -/

namespace Sys2Proof.Map

/-- The value held under `k`, if any. -/
def get? {α : Type} : Map α → Nat → Option α
  | [], _ => none
  | (j, v) :: r, k => if j = k then some v else get? r k

/-- The map without the key `k`. -/
def del {α : Type} : Map α → Nat → Map α
  | [], _ => []
  | (j, v) :: r, k => if j = k then del r k else (j, v) :: del r k

/-- The map with `v` under `k`, the keys kept in rising order. -/
def put {α : Type} : Map α → Nat → α → Map α
  | [], k, v => [(k, v)]
  | (j, w) :: r, k, v =>
    if k < j then (k, v) :: (j, w) :: r
    else if k = j then (k, v) :: r
    else (j, w) :: put r k v

/-- The value under `k`, or `dflt`. -/
def getD {α : Type} (m : Map α) (k : Nat) (dflt : α) : α := (get? m k).getD dflt

/-- The value under `k` replaced by `f` of it (`dflt` where there is none). -/
def upd {α : Type} (m : Map α) (k : Nat) (dflt : α) (f : α → α) : Map α := put m k (f (getD m k dflt))

/-- Stores `v` under `k`, listing nothing where `v` is what an unlisted key reads as. -/
def putD {α : Type} [DecidableEq α] (m : Map α) (k : Nat) (dflt v : α) : Map α :=
  if v = dflt then del m k else put m k v

/-- Keys lie strictly above `b` and rise. -/
def above {α : Type} (b : Nat) : Map α → Bool
  | [] => true
  | (j, _) :: r => decide (b < j) && above j r

/-- The canonical form: keys strictly rising. -/
def wf {α : Type} : Map α → Bool
  | [] => true
  | (j, _) :: r => above j r

/-- The keys, lowest first. -/
def keys {α : Type} (m : Map α) : List Nat := List.map Prod.fst m

/-- The first entry whose key and value pass `p`. -/
def findKey? {α : Type} (m : Map α) (p : Nat → α → Bool) : Option Nat :=
  (List.find? (fun e => p e.1 e.2) m).map Prod.fst

/-- The number of entries that pass `p`. -/
def count {α : Type} (m : Map α) (p : Nat → α → Bool) : Nat :=
  (List.filter (fun e => p e.1 e.2) m).length

/-- The entries that pass `p`. -/
def sift {α : Type} (m : Map α) (p : Nat → α → Bool) : Map α := List.filter (fun e => p e.1 e.2) m

/-- Every value rewritten in place. -/
def mapVals {α : Type} (m : Map α) (f : Nat → α → α) : Map α := List.map (fun e => (e.1, f e.1 e.2)) m

/-- The lowest number below `lim`, counted from `lo`, that is no key: the first free index. -/
def free? {α : Type} (m : Map α) (lo : Nat) : Nat → Option Nat
  | 0 => none
  | n + 1 => if (get? m lo).isNone then some lo else free? m (lo + 1) n

end Sys2Proof.Map
end

