-- ==== Sys2Proof/Machine/RegMap.lean ====
section
/-! DEFINITION. The register map: every register of the register tables of `spec/`, its key (BAR0 byte
offset, R12; a key above the window for the registers behind a selector), access type (R8), commit group
(R102), reset value and writable bits (R7). A register the spec gives no reset value resets to 0 here,
DESIGN CHOICE, see the log. -/

namespace Sys2Proof.Machine

/-- The access types of R8. -/
inductive Access where
  | rw | ro | wo | rs | sq | hc | st
deriving DecidableEq, Repr

/-- One row of the register map: `n1` registers `s1` bytes apart, each repeated `n2` times at `s2`; the reset
value of the copy `i` of the outer dimension is `reset + i * rinc`; `mask` holds the bits a write changes. -/
structure RegRow where
  base : Nat
  n1 : Nat
  s1 : Nat
  n2 : Nat
  s2 : Nat
  acc : Access
  grp : Nat
  reset : Nat
  rinc : Nat
  mask : Nat
deriving DecidableEq, Repr

/-- The window of GLB. -/
def rowsGLB : List RegRow :=
  [⟨0x0, 1, 0x4, 1, 0x4, .ro, 31, 0x9640b000, 0x0, 0xffffffff⟩,
   ⟨0x4, 1, 0x4, 1, 0x4, .ro, 31, 0x24, 0x0, 0xffffffff⟩,
   ⟨0x10, 1, 0x4, 1, 0x4, .rw, 31, 0x0, 0x0, 0xffffffff⟩,
   ⟨0x14, 1, 0x4, 1, 0x4, .ro, 31, 0x0, 0x0, 0xffffffff⟩,
   ⟨0x18, 1, 0x4, 1, 0x4, .sq, 31, 0x0, 0x0, 0xff00001f⟩,
   ⟨0x1c, 1, 0x4, 1, 0x4, .ro, 31, 0x0, 0x0, 0xffffffff⟩,
   ⟨0x20, 1, 0x4, 1, 0x4, .ro, 31, 0x0, 0x0, 0x3ffffff⟩,
   ⟨0x24, 1, 0x4, 1, 0x4, .ro, 31, 0x0, 0x0, 0xffffffff⟩,
   ⟨0x28, 1, 0x4, 1, 0x4, .rw, 31, 0x0, 0x0, 0x0⟩,
   ⟨0x2c, 1, 0x4, 1, 0x4, .rw, 31, 0x0, 0x0, 0x7fffff⟩,
   ⟨0x30, 1, 0x4, 1, 0x4, .ro, 31, 0x0, 0x0, 0xffffffff⟩,
   ⟨0x34, 1, 0x4, 1, 0x4, .rw, 31, 0x0, 0x0, 0xffff⟩,
   ⟨0x40, 1, 0x4, 1, 0x4, .rw, 31, 0x0, 0x0, 0xffffffff⟩,
   ⟨0x44, 1, 0x4, 1, 0x4, .rw, 31, 0x0, 0x0, 0xffffffff⟩,
   ⟨0x48, 1, 0x4, 1, 0x4, .rw, 31, 0x0, 0x0, 0xffffffff⟩,
   ⟨0x100, 1, 0x4, 1, 0x4, .hc, 31, 0x0, 0x0, 0xf⟩,
   ⟨0x104, 1, 0x4, 1, 0x4, .hc, 31, 0x0, 0x0, 0x1⟩,
   ⟨0x108, 1, 0x4, 1, 0x4, .sq, 31, 0x0, 0x0, 0xff00003f⟩,
   ⟨0x2000, 1, 0x4, 1, 0x4, .st, 0, 0x18, 0x0, 0xffff⟩,
   ⟨0x2004, 1, 0x4, 1, 0x4, .st, 0, 0x64, 0x0, 0xffff⟩,
   ⟨0x2010, 1, 0x4, 1, 0x4, .st, 0, 0x0, 0x0, 0x1⟩,
   ⟨0x2020, 1, 0x4, 1, 0x4, .ro, 31, 0x0, 0x0, 0xffffffff⟩,
   ⟨0x2030, 1, 0x4, 1, 0x4, .ro, 31, 0x0, 0x0, 0xffffffff⟩]

/-- The window of MBX. -/
def rowsMBX : List RegRow :=
  [⟨0x100000, 16, 0x20, 1, 0x4, .rw, 31, 0x0, 0x0, 0xffffffff⟩,
   ⟨0x100004, 16, 0x20, 1, 0x4, .ro, 31, 0x0, 0x0, 0xffffffff⟩,
   ⟨0x100008, 16, 0x20, 1, 0x4, .rw, 31, 0x0, 0x0, 0x0⟩,
   ⟨0x10000c, 16, 0x20, 1, 0x4, .ro, 31, 0x0, 0x0, 0xffffffff⟩,
   ⟨0x100010, 16, 0x20, 1, 0x4, .rw, 31, 0x8, 0x0, 0x7ff00cb⟩,
   ⟨0x100014, 16, 0x20, 1, 0x4, .sq, 31, 0x0, 0x0, 0xff00000f⟩]

/-- The window of CMD. -/
def rowsCMD : List RegRow :=
  [⟨0x200000, 16, 0x20, 1, 0x4, .rw, 31, 0x0, 0x0, 0xffff⟩,
   ⟨0x200004, 16, 0x20, 1, 0x4, .ro, 31, 0x0, 0x0, 0xffffffff⟩,
   ⟨0x200008, 16, 0x20, 1, 0x4, .ro, 31, 0x0, 0x0, 0xffffffff⟩,
   ⟨0x20000c, 16, 0x20, 1, 0x4, .rw, 31, 0x0, 0x0, 0xffff⟩,
   ⟨0x200010, 16, 0x20, 1, 0x4, .rw, 31, 0x1, 0x0, 0x7ff0003⟩,
   ⟨0x200014, 16, 0x20, 1, 0x4, .sq, 31, 0x0, 0x0, 0xff00003f⟩,
   ⟨0x200018, 16, 0x20, 1, 0x4, .ro, 31, 0x0, 0x0, 0xffffffff⟩,
   ⟨0x201000, 1, 0x4, 1, 0x4, .rw, 31, 0x7, 0x0, 0x1f⟩,
   ⟨0x201010, 1, 0x4, 1, 0x4, .ro, 31, 0x0, 0x0, 0xffffffff⟩,
   ⟨0x201020, 1, 0x4, 1, 0x4, .ro, 31, 0x0, 0x0, 0xffffffff⟩,
   ⟨0x201024, 1, 0x4, 1, 0x4, .ro, 31, 0x0, 0x0, 0xffffffff⟩,
   ⟨0x210000, 8192, 0x4, 1, 0x4, .ro, 31, 0x0, 0x0, 0xffffffff⟩,
   ⟨0x240000, 65536, 0x4, 1, 0x4, .rw, 31, 0x0, 0x0, 0xffffffff⟩,
   ⟨0x280000, 65536, 0x4, 1, 0x4, .ro, 31, 0x0, 0x0, 0xffffffff⟩,
   ⟨0x2c0000, 4096, 0x4, 1, 0x4, .ro, 31, 0x0, 0x0, 0xffffffff⟩]

/-- The window of PCE. -/
def rowsPCE : List RegRow :=
  [⟨0x300000, 4, 0x100, 1, 0x4, .rs, 31, 0x0, 0x0, 0xffffffff⟩,
   ⟨0x300004, 4, 0x100, 1, 0x4, .st, 1, 0x40106032, 0x0, 0xffffe3ff⟩,
   ⟨0x300008, 4, 0x100, 1, 0x4, .rs, 31, 0x0, 0x0, 0xffffffff⟩,
   ⟨0x301000, 4, 0x100, 1, 0x4, .sq, 31, 0x0, 0x0, 0xff0000ff⟩,
   ⟨0x301010, 4, 0x100, 6, 0x4, .ro, 31, 0x0, 0x0, 0xffffffff⟩,
   ⟨0x301030, 4, 0x100, 1, 0x4, .ro, 31, 0x0, 0x0, 0xffffffff⟩,
   ⟨0x302000, 16, 0x20, 1, 0x4, .rw, 31, 0x0, 0x0, 0x1ffff⟩,
   ⟨0x302010, 16, 0x20, 4, 0x4, .rw, 31, 0x0, 0x0, 0xffffffff⟩]

/-- The window of SLC. -/
def rowsSLC : List RegRow :=
  [⟨0x400000, 1, 0x4, 1, 0x4, .sq, 31, 0x0, 0x0, 0xff00001f⟩,
   ⟨0x400004, 1, 0x4, 1, 0x4, .ro, 31, 0x0, 0x0, 0xffffffff⟩,
   ⟨0x400010, 4, 0x4, 1, 0x4, .rw, 31, 0x0, 0x0, 0x800007ff⟩,
   ⟨0x400020, 1, 0x4, 1, 0x4, .rw, 31, 0x0, 0x0, 0x0⟩,
   ⟨0x400024, 1, 0x4, 1, 0x4, .ro, 31, 0x0, 0x0, 0xffffffff⟩,
   ⟨0x400028, 1, 0x4, 1, 0x4, .ro, 31, 0x0, 0x0, 0xffffffff⟩,
   ⟨0x40002c, 1, 0x4, 1, 0x4, .rw, 31, 0x100000, 0x0, 0x1ffffff⟩,
   ⟨0x400100, 1, 0x4, 1, 0x4, .ro, 31, 0x20000, 0x0, 0xffffffff⟩,
   ⟨0x400104, 1, 0x4, 1, 0x4, .ro, 31, 0x20000, 0x0, 0xffffffff⟩,
   ⟨0x400108, 1, 0x4, 1, 0x4, .ro, 31, 0x40, 0x0, 0xffffffff⟩,
   ⟨0x40010c, 1, 0x4, 1, 0x4, .ro, 31, 0x100000, 0x0, 0xffffffff⟩,
   ⟨0x400110, 1, 0x4, 1, 0x4, .ro, 31, 0xffee, 0x0, 0xffffffff⟩,
   ⟨0x400114, 1, 0x4, 1, 0x4, .ro, 31, 0x8000, 0x0, 0xffffffff⟩,
   ⟨0x400118, 1, 0x4, 1, 0x4, .ro, 31, 0x400000, 0x0, 0xffffffff⟩,
   ⟨0x40011c, 1, 0x4, 1, 0x4, .ro, 31, 0x400, 0x0, 0xffffffff⟩,
   ⟨0x400120, 1, 0x4, 1, 0x4, .ro, 31, 0x1000, 0x0, 0xffffffff⟩,
   ⟨0x400124, 1, 0x4, 1, 0x4, .ro, 31, 0x100, 0x0, 0xffffffff⟩,
   ⟨0x420000, 8192, 0x20, 2, 0x4, .ro, 31, 0x0, 0x0, 0xffffffff⟩,
   ⟨0x420008, 8192, 0x20, 1, 0x4, .st, 2, 0x0, 0x0, 0x3ffff⟩,
   ⟨0x42000c, 8192, 0x20, 1, 0x4, .st, 2, 0x0, 0x0, 0x1fffff⟩,
   ⟨0x420010, 8192, 0x20, 1, 0x4, .st, 2, 0x0, 0x0, 0xfffffff⟩,
   ⟨0x420014, 8192, 0x20, 1, 0x4, .st, 2, 0x0, 0x0, 0xffff7f00⟩,
   ⟨0x420018, 8192, 0x20, 1, 0x4, .st, 2, 0x0, 0x0, 0x7fffff⟩,
   ⟨0x42001c, 8192, 0x20, 1, 0x4, .st, 2, 0x0, 0x0, 0xfffffc00⟩,
   ⟨0x460000, 8192, 0x40, 16, 0x4, .ro, 31, 0x0, 0x0, 0xffffffff⟩]

/-- The window of RNG. -/
def rowsRNG : List RegRow :=
  [⟨0x500000, 1, 0x4, 1, 0x4, .sq, 31, 0x0, 0x0, 0xff00003f⟩,
   ⟨0x500004, 1, 0x4, 1, 0x4, .ro, 31, 0x0, 0x0, 0xffffffff⟩,
   ⟨0x500400, 16, 0x4, 1, 0x4, .rw, 31, 0x0, 0x0, 0x8001ffff⟩,
   ⟨0x500020, 4, 0x4, 1, 0x4, .st, 3, 0x0, 0x0, 0xffffffff⟩,
   ⟨0x500040, 4, 0x4, 1, 0x4, .rs, 31, 0x0, 0x0, 0xffffffff⟩,
   ⟨0x500100, 5, 0x4, 1, 0x4, .ro, 31, 0x0, 0x0, 0xffffffff⟩]

/-- The window of DMA. -/
def rowsDMA : List RegRow :=
  [⟨0x600000, 64, 0x40, 1, 0x4, .st, 4, 0x0, 0x0, 0xffffffff⟩,
   ⟨0x600004, 64, 0x40, 1, 0x4, .st, 4, 0x0, 0x0, 0xffffffff⟩,
   ⟨0x600008, 64, 0x40, 1, 0x4, .st, 4, 0x30000000, 0x0, 0xff80ffff⟩,
   ⟨0x60000c, 64, 0x40, 1, 0x4, .st, 4, 0x0, 0x0, 0x3ffff⟩,
   ⟨0x600010, 64, 0x40, 1, 0x4, .st, 4, 0x0, 0x0, 0x80ff1fff⟩,
   ⟨0x600014, 64, 0x40, 1, 0x4, .rw, 31, 0x0, 0x0, 0x0⟩,
   ⟨0x600018, 64, 0x40, 1, 0x4, .rw, 31, 0x0, 0x0, 0x0⟩,
   ⟨0x60001c, 64, 0x40, 1, 0x4, .rs, 31, 0xa0000000, 0x0, 0xffffffff⟩,
   ⟨0x600020, 64, 0x40, 1, 0x4, .ro, 31, 0x0, 0x0, 0xffffffff⟩,
   ⟨0x600024, 64, 0x40, 1, 0x4, .ro, 31, 0x0, 0x0, 0xffffffff⟩,
   ⟨0x600028, 64, 0x40, 1, 0x4, .sq, 31, 0x0, 0x0, 0xff00000f⟩,
   ⟨0x601000, 1, 0x4, 1, 0x4, .sq, 31, 0x0, 0x0, 0xff000003⟩,
   ⟨0x601004, 1, 0x4, 1, 0x4, .ro, 31, 0x0, 0x0, 0xffffffff⟩,
   ⟨0x601010, 2, 0x4, 1, 0x4, .ro, 31, 0x0, 0x0, 0xffffffff⟩]

/-- The window of PRS. -/
def rowsPRS : List RegRow :=
  [⟨0x700000, 1, 0x4, 1, 0x4, .st, 5, 0xe, 0x0, 0xc000000e⟩,
   ⟨0x700004, 1, 0x4, 1, 0x4, .st, 5, 0x0, 0x0, 0xffffffff⟩,
   ⟨0x700010, 1, 0x4, 1, 0x4, .st, 5, 0x88a88100, 0x0, 0xffffffff⟩,
   ⟨0x700014, 1, 0x4, 1, 0x4, .st, 5, 0x9100, 0x0, 0xffff⟩,
   ⟨0x700018, 1, 0x4, 1, 0x4, .st, 5, 0x17c112b5, 0x0, 0xffffffff⟩,
   ⟨0x70001c, 1, 0x4, 1, 0x4, .st, 5, 0x7d00100, 0x0, 0xffff01ff⟩,
   ⟨0x700040, 1, 0x4, 1, 0x4, .rs, 31, 0x0, 0x0, 0xffffffff⟩,
   ⟨0x710000, 64, 0x200, 1, 0x4, .st, 5, 0x0, 0x0, 0xe003ffff⟩,
   ⟨0x710004, 64, 0x200, 1, 0x4, .st, 5, 0x0, 0x0, 0xffffffff⟩,
   ⟨0x710008, 64, 0x200, 1, 0x4, .st, 5, 0x0, 0x0, 0xffffffff⟩,
   ⟨0x71000c, 64, 0x200, 1, 0x4, .st, 5, 0x0, 0x0, 0xff800000⟩,
   ⟨0x710010, 64, 0x200, 1, 0x4, .st, 5, 0x0, 0x0, 0xffffffff⟩,
   ⟨0x710014, 64, 0x200, 1, 0x4, .st, 5, 0x0, 0x0, 0x3fe⟩,
   ⟨0x710080, 64, 0x200, 24, 0x4, .st, 5, 0x0, 0x0, 0xfffffc00⟩,
   ⟨0x710100, 64, 0x200, 16, 0x4, .st, 5, 0xffffffff, 0x0, 0xffffffff⟩,
   ⟨0x710140, 64, 0x200, 16, 0x4, .st, 5, 0xffffffff, 0x0, 0xffffffff⟩,
   ⟨0x7c0000, 3, 0x10000, 1, 0x4, .sq, 31, 0x0, 0x0, 0xff00007f⟩,
   ⟨0x7c0100, 3, 0x10000, 13, 0x4, .ro, 31, 0x0, 0x0, 0xffffffff⟩,
   ⟨0x7c0200, 3, 0x10000, 64, 0x4, .ro, 31, 0x0, 0x0, 0xffffffff⟩]

/-- The window of CLS. -/
def rowsCLS : List RegRow :=
  [⟨0x800000, 1, 0x4, 1, 0x4, .st, 8, 0x0, 0x0, 0xc0000000⟩,
   ⟨0x800004, 1, 0x4, 1, 0x4, .st, 8, 0x0, 0x0, 0xffffffff⟩,
   ⟨0x800008, 1, 0x4, 1, 0x4, .st, 8, 0x64, 0x0, 0xffff⟩,
   ⟨0x800010, 1, 0x4, 1, 0x4, .ro, 31, 0x1, 0x0, 0xffffffff⟩,
   ⟨0x800014, 1, 0x4, 1, 0x4, .ro, 31, 0x0, 0x0, 0xffffffff⟩,
   ⟨0x800018, 1, 0x4, 1, 0x4, .rs, 31, 0x0, 0x0, 0xffffffff⟩,
   ⟨0x800020, 1, 0x4, 1, 0x4, .ro, 31, 0x0, 0x0, 0xffffffff⟩,
   ⟨0x800024, 1, 0x4, 1, 0x4, .sq, 31, 0x0, 0x0, 0xff00000f⟩,
   ⟨0x801000, 16, 0x20, 1, 0x4, .st, 8, 0x0, 0x0, 0xfc000000⟩,
   ⟨0x801004, 16, 0x20, 1, 0x4, .st, 8, 0x0, 0x0, 0x1fffff⟩,
   ⟨0x801008, 16, 0x20, 1, 0x4, .st, 8, 0x0, 0x0, 0x3fffff⟩,
   ⟨0x80100c, 16, 0x20, 1, 0x4, .st, 8, 0xffffffff, 0x0, 0xffffffff⟩,
   ⟨0x801010, 16, 0x20, 1, 0x4, .ro, 31, 0x0, 0x0, 0xffffffff⟩,
   ⟨0x801014, 16, 0x20, 1, 0x4, .ro, 31, 0x0, 0x0, 0xffffffff⟩,
   ⟨0x802000, 64, 0x10, 1, 0x4, .st, 8, 0x0, 0x0, 0x8000000f⟩,
   ⟨0x802004, 64, 0x10, 3, 0x4, .st, 8, 0x0, 0x0, 0xffffffff⟩,
   ⟨0x803000, 1, 0x4, 1, 0x4, .rw, 31, 0x0, 0x0, 0x3⟩,
   ⟨0x803004, 1, 0x4, 1, 0x4, .rw, 31, 0x0, 0x0, 0xfc1fffff⟩,
   ⟨0x803040, 24, 0x4, 1, 0x4, .rw, 31, 0x0, 0x0, 0xffffffff⟩,
   ⟨0x8c0000, 3, 0x10000, 1, 0x4, .sq, 31, 0x0, 0x0, 0xff00001f⟩,
   ⟨0x8c0010, 3, 0x10000, 1, 0x4, .rs, 31, 0x0, 0x0, 0xffffffff⟩,
   ⟨0x8c0014, 3, 0x10000, 1, 0x4, .rs, 31, 0x0, 0x0, 0xffffffff⟩,
   ⟨0x8c0018, 3, 0x10000, 1, 0x4, .rs, 31, 0x0, 0x0, 0xffffffff⟩,
   ⟨0x8c0100, 3, 0x10000, 10, 0x4, .ro, 31, 0x0, 0x0, 0xffffffff⟩]

/-- The window of FWD. -/
def rowsFWD : List RegRow :=
  [⟨0x900000, 1, 0x4, 1, 0x4, .st, 9, 0x0, 0x0, 0xf8000000⟩,
   ⟨0x900004, 1, 0x4, 1, 0x4, .st, 9, 0x0, 0x0, 0xffffffff⟩,
   ⟨0x900010, 1, 0x4, 1, 0x4, .st, 9, 0x0, 0x0, 0xffffffff⟩,
   ⟨0x900014, 1, 0x4, 1, 0x4, .st, 9, 0x0, 0x0, 0xffffffff⟩,
   ⟨0x900018, 1, 0x4, 1, 0x4, .st, 9, 0x0, 0x0, 0x7ffffff⟩,
   ⟨0x90001c, 1, 0x4, 1, 0x4, .st, 9, 0xffffffff, 0x0, 0xffffffff⟩,
   ⟨0x900020, 1, 0x4, 1, 0x4, .st, 9, 0xffffffff, 0x0, 0xffffffff⟩,
   ⟨0x900030, 2, 0x4, 1, 0x4, .st, 9, 0x0, 0x0, 0xffffffff⟩,
   ⟨0x900038, 2, 0x4, 1, 0x4, .st, 9, 0x0, 0x0, 0xffffffff⟩,
   ⟨0x900080, 1, 0x4, 1, 0x4, .rs, 31, 0x0, 0x0, 0xffffffff⟩,
   ⟨0x900084, 1, 0x4, 1, 0x4, .ro, 31, 0x0, 0x0, 0xffffffff⟩,
   ⟨0x900100, 16, 0x4, 1, 0x4, .st, 9, 0x0, 0x1, 0xffff⟩,
   ⟨0x901000, 256, 0x8, 2, 0x4, .st, 9, 0x0, 0x0, 0xffffffff⟩,
   ⟨0x902000, 1, 0x4, 1, 0x4, .rw, 31, 0x0, 0x0, 0x7⟩,
   ⟨0x902004, 1, 0x4, 1, 0x4, .rw, 31, 0x0, 0x0, 0xc3ffffff⟩,
   ⟨0x902008, 1, 0x4, 1, 0x4, .ro, 31, 0x0, 0x0, 0xffffffff⟩,
   ⟨0x902040, 16, 0x4, 1, 0x4, .rw, 31, 0x0, 0x0, 0xffffffff⟩,
   ⟨0x910000, 4096, 0x8, 2, 0x4, .st, 9, 0x0, 0x0, 0xffffffff⟩,
   ⟨0x940000, 16384, 0x10, 4, 0x4, .st, 9, 0x0, 0x0, 0xffffffff⟩,
   ⟨0x9c0000, 3, 0x10000, 1, 0x4, .sq, 31, 0x0, 0x0, 0xff00001f⟩,
   ⟨0x9c0100, 3, 0x10000, 13, 0x4, .ro, 31, 0x0, 0x0, 0xffffffff⟩]

/-- The window of TCM. -/
def rowsTCM : List RegRow :=
  [⟨0xa00000, 1, 0x4, 1, 0x4, .st, 10, 0x400004, 0x0, 0xff000f⟩,
   ⟨0xa00010, 1, 0x4, 1, 0x4, .rs, 31, 0x0, 0x0, 0xffffffff⟩,
   ⟨0xa00014, 1, 0x4, 1, 0x4, .rs, 31, 0x0, 0x0, 0xffffffff⟩,
   ⟨0xa00100, 1, 0x4, 1, 0x4, .rw, 31, 0x0, 0x0, 0x7⟩,
   ⟨0xa00104, 1, 0x4, 1, 0x4, .rw, 31, 0x0, 0x0, 0x1ffff⟩,
   ⟨0xa00140, 13, 0x4, 1, 0x4, .rw, 31, 0x0, 0x0, 0xffffffff⟩,
   ⟨0xac0100, 3, 0x10000, 4, 0x4, .ro, 31, 0x0, 0x0, 0xffffffff⟩]

/-- The window of FPC. -/
def rowsFPC : List RegRow :=
  [⟨0xb00000, 8, 0x100, 1, 0x4, .st, 11, 0x64a001, 0x0, 0xfffff801⟩,
   ⟨0xb00004, 8, 0x100, 1, 0x4, .st, 11, 0x10000000, 0x0, 0xffffffff⟩,
   ⟨0xb00008, 8, 0x100, 1, 0x4, .st, 11, 0x0, 0x0, 0x3ff03ff⟩,
   ⟨0xb0000c, 8, 0x100, 1, 0x4, .rw, 31, 0x0, 0x0, 0xffff⟩,
   ⟨0xb00010, 8, 0x100, 1, 0x4, .ro, 31, 0x76543210, 0x0, 0xffffffff⟩,
   ⟨0xb00014, 8, 0x100, 1, 0x4, .ro, 31, 0x80, 0x0, 0xffffffff⟩,
   ⟨0xb00018, 8, 0x100, 1, 0x4, .rw, 31, 0x0, 0x0, 0x0⟩,
   ⟨0xb0001c, 8, 0x100, 1, 0x4, .sq, 31, 0x0, 0x0, 0xff00007f⟩,
   ⟨0xb00020, 8, 0x100, 8, 0x4, .ro, 31, 0x0, 0x0, 0xffffffff⟩,
   ⟨0xb01000, 16, 0x4, 1, 0x4, .rw, 31, 0x0, 0x0, 0x707⟩,
   ⟨0xb10000, 1024, 0x4, 1, 0x4, .rw, 31, 0x0, 0x0, 0x0⟩,
   ⟨0xb20000, 1024, 0x4, 1, 0x4, .rw, 31, 0x0, 0x0, 0x0⟩,
   ⟨0xb40000, 65536, 0x4, 1, 0x4, .rw, 31, 0x0, 0x0, 0x0⟩,
   ⟨0xb80000, 65536, 0x4, 1, 0x4, .rw, 31, 0x0, 0x0, 0x0⟩]

/-- The window of CRY. -/
def rowsCRY : List RegRow :=
  [⟨0xc00000, 1, 0x4, 1, 0x4, .sq, 31, 0x0, 0x0, 0xff00007f⟩,
   ⟨0xc00004, 1, 0x4, 1, 0x4, .rs, 31, 0xfff, 0x0, 0xffffffff⟩,
   ⟨0xc00008, 1, 0x4, 1, 0x4, .ro, 31, 0x0, 0x0, 0xffffffff⟩,
   ⟨0xc0000c, 1, 0x4, 1, 0x4, .ro, 31, 0x0, 0x0, 0xffffffff⟩,
   ⟨0xc00010, 1, 0x4, 1, 0x4, .rw, 31, 0x0, 0x0, 0x30000ff⟩,
   ⟨0xc00020, 8, 0x4, 1, 0x4, .rw, 31, 0x0, 0x0, 0xffffffff⟩,
   ⟨0xc00040, 8, 0x4, 1, 0x4, .wo, 31, 0x0, 0x0, 0xffffffff⟩,
   ⟨0xc00080, 1, 0x4, 1, 0x4, .ro, 31, 0x0, 0x0, 0xffffffff⟩,
   ⟨0xc00090, 4, 0x4, 1, 0x4, .rw, 31, 0x0, 0x0, 0x800007ff⟩,
   ⟨0xc00100, 256, 0x4, 1, 0x4, .ro, 31, 0x0, 0x0, 0xffffffff⟩,
   ⟨0xc00800, 256, 0x8, 2, 0x4, .rs, 31, 0x0, 0x0, 0xffffffff⟩,
   ⟨0xc01000, 20, 0x40, 1, 0x4, .st, 12, 0x20800000, 0x0, 0xff800fff⟩,
   ⟨0xc01004, 20, 0x40, 2, 0x4, .st, 12, 0x0, 0x0, 0xffffffff⟩,
   ⟨0xc0100c, 20, 0x40, 1, 0x4, .st, 12, 0x0, 0x0, 0xffffffff⟩,
   ⟨0xc01010, 20, 0x40, 8, 0x4, .st, 12, 0x0, 0x0, 0xffffffff⟩,
   ⟨0xc01030, 20, 0x40, 4, 0x4, .st, 12, 0x0, 0x0, 0xffffffff⟩,
   ⟨0xc02000, 8, 0x4, 1, 0x4, .ro, 31, 0x0, 0x0, 0xffffffff⟩,
   ⟨0xc03000, 20, 0x20, 8, 0x4, .ro, 31, 0x0, 0x0, 0xffffffff⟩,
   ⟨0xc04000, 256, 0x8, 2, 0x4, .ro, 31, 0x0, 0x0, 0xffffffff⟩]

/-- The window of STO. -/
def rowsSTO : List RegRow :=
  [⟨0xd00000, 1, 0x4, 1, 0x4, .st, 13, 0x1e0064, 0x0, 0xffffffff⟩,
   ⟨0xd00004, 1, 0x4, 1, 0x4, .st, 13, 0x3c0a000a, 0x0, 0xffffffff⟩,
   ⟨0xd00008, 1, 0x4, 1, 0x4, .st, 13, 0x10000001, 0x0, 0xf0000fff⟩,
   ⟨0xd00010, 1, 0x4, 1, 0x4, .rw, 31, 0x0, 0x0, 0x37⟩,
   ⟨0xd00014, 1, 0x4, 1, 0x4, .rw, 31, 0x0, 0x0, 0x7fff⟩,
   ⟨0xd00100, 64, 0x4, 1, 0x4, .rw, 31, 0x0, 0x0, 0xffffffff⟩,
   ⟨0xd00200, 48, 0x4, 1, 0x4, .st, 13, 0x0, 0x0, 0xffffffff⟩,
   ⟨0xd00400, 1, 0x4, 1, 0x4, .sq, 31, 0x0, 0x0, 0xff00000f⟩,
   ⟨0xd00404, 1, 0x4, 1, 0x4, .ro, 31, 0x0, 0x0, 0xffffffff⟩,
   ⟨0xd00500, 6, 0x4, 1, 0x4, .ro, 31, 0x0, 0x0, 0xffffffff⟩,
   ⟨0xd10000, 32768, 0x4, 1, 0x4, .rs, 31, 0x0, 0x0, 0xffffffff⟩]

/-- The window of SCH. -/
def rowsSCH : List RegRow :=
  [⟨0xe00000, 1, 0x4, 1, 0x4, .st, 14, 0x80, 0x0, 0x3fff⟩,
   ⟨0xe00004, 1, 0x4, 1, 0x4, .st, 14, 0x136, 0x0, 0xfff⟩,
   ⟨0xe00008, 1, 0x4, 1, 0x4, .st, 14, 0x100010, 0x0, 0xffffffff⟩,
   ⟨0xe20000, 8192, 0x4, 1, 0x4, .st, 14, 0x0, 0x0, 0x8000ffff⟩,
   ⟨0xe00100, 16, 0x4, 1, 0x4, .rw, 31, 0x0, 0x0, 0xffff⟩,
   ⟨0xe00200, 5, 0x4, 1, 0x4, .st, 14, 0x0, 0x0, 0xffffffff⟩,
   ⟨0xe00240, 3, 0x4, 1, 0x4, .rs, 31, 0x0, 0x0, 0xffffffff⟩,
   ⟨0xe10000, 16, 0x400, 1, 0x4, .st, 14, 0x80800000, 0x0, 0xc0ff0000⟩,
   ⟨0xe14000, 2, 0x400, 1, 0x4, .st, 14, 0x800000, 0x0, 0xc0ff0000⟩,
   ⟨0xe10004, 16, 0x400, 1, 0x4, .st, 15, 0x0, 0x0, 0x37f⟩,
   ⟨0xe10008, 16, 0x400, 1, 0x4, .rs, 31, 0xff, 0x0, 0xffffffff⟩,
   ⟨0xe10100, 16, 0x400, 64, 0x4, .st, 15, 0x0, 0x0, 0x2ff⟩,
   ⟨0xe10200, 16, 0x400, 64, 0x4, .ro, 31, 0x0, 0x0, 0xffffffff⟩,
   ⟨0xe18000, 1, 0x4, 1, 0x4, .ro, 31, 0x0, 0x0, 0xffffffff⟩,
   ⟨0xec0000, 3, 0x10000, 1, 0x4, .sq, 31, 0x0, 0x0, 0xff00001f⟩,
   ⟨0xec0004, 3, 0x10000, 1, 0x4, .ro, 31, 0x0, 0x0, 0xffffffff⟩,
   ⟨0xec0100, 3, 0x10000, 10, 0x4, .ro, 31, 0x0, 0x0, 0xffffffff⟩]

/-- The window of MAC. -/
def rowsMAC : List RegRow :=
  [⟨0xf00800, 8, 0x4, 1, 0x4, .st, 16, 0x0, 0x0, 0xc0000f0f⟩,
   ⟨0xf00000, 2, 0x4, 1, 0x4, .st, 16, 0x70000000, 0x0, 0xf8000000⟩,
   ⟨0xf00100, 1, 0x4, 1, 0x4, .st, 16, 0x80002400, 0x0, 0x80003fff⟩,
   ⟨0xf00104, 1, 0x4, 1, 0x4, .st, 16, 0x8ffff, 0x0, 0x80ffffff⟩,
   ⟨0xf00200, 256, 0x4, 1, 0x4, .st, 16, 0x0, 0x0, 0xffffffff⟩,
   ⟨0xf00900, 1, 0x4, 1, 0x4, .sq, 31, 0x0, 0x0, 0xff00007f⟩,
   ⟨0xf00904, 1, 0x4, 1, 0x4, .ro, 31, 0x0, 0x0, 0xffffffff⟩,
   ⟨0xf00910, 4, 0x4, 1, 0x4, .rw, 31, 0x0, 0x0, 0x800007ff⟩,
   ⟨0xf00940, 6, 0x4, 1, 0x4, .ro, 31, 0x0, 0x0, 0xffffffff⟩,
   ⟨0xf00a00, 1, 0x4, 1, 0x4, .st, 16, 0xc0000000, 0x0, 0xc0000000⟩,
   ⟨0xf00a04, 1, 0x4, 1, 0x4, .ro, 31, 0x0, 0x0, 0xffffffff⟩,
   ⟨0xf00a08, 1, 0x4, 1, 0x4, .rw, 31, 0x0, 0x0, 0xffff⟩,
   ⟨0xf01000, 16, 0x20, 1, 0x4, .st, 16, 0x0, 0x0, 0x3⟩,
   ⟨0xf01004, 16, 0x20, 1, 0x4, .st, 16, 0x0, 0x0, 0xffffff⟩,
   ⟨0xf01008, 16, 0x20, 2, 0x4, .ro, 31, 0x0, 0x0, 0xffffffff⟩,
   ⟨0xf10000, 16, 0x400, 1, 0x4, .st, 16, 0x2400, 0x0, 0xff003fff⟩,
   ⟨0xf10004, 16, 0x400, 1, 0x4, .rs, 31, 0x0, 0x0, 0xffffffff⟩,
   ⟨0xf10008, 16, 0x400, 1, 0x4, .st, 16, 0x0, 0x0, 0xffffffff⟩,
   ⟨0xf1000c, 16, 0x400, 1, 0x4, .sq, 31, 0x0, 0x0, 0xffffffff⟩,
   ⟨0xf10100, 16, 0x400, 48, 0x4, .ro, 31, 0x0, 0x0, 0xffffffff⟩,
   ⟨0xf20000, 16384, 0x4, 1, 0x4, .rw, 31, 0x0, 0x0, 0xffffffff⟩,
   ⟨0xf30000, 16384, 0x4, 1, 0x4, .rw, 31, 0x0, 0x0, 0xffffffff⟩]

/-- The window of PBU. -/
def rowsPBU : List RegRow :=
  [⟨0x1000000, 1, 0x4, 1, 0x4, .st, 17, 0x20, 0x0, 0xc00000ff⟩,
   ⟨0x1000004, 1, 0x4, 1, 0x4, .st, 17, 0x0, 0x0, 0xffff⟩,
   ⟨0x1000008, 1, 0x4, 1, 0x4, .st, 17, 0x190, 0x0, 0xffff⟩,
   ⟨0x100000c, 1, 0x4, 1, 0x4, .st, 17, 0x0, 0x0, 0x7ff⟩,
   ⟨0x1000010, 1, 0x4, 1, 0x4, .st, 18, 0x25, 0x0, 0xffff⟩,
   ⟨0x1000020, 1, 0x4, 1, 0x4, .sq, 31, 0x0, 0x0, 0xff0003ff⟩,
   ⟨0x1000024, 1, 0x4, 1, 0x4, .ro, 31, 0x0, 0x0, 0xffffffff⟩,
   ⟨0x1000040, 1, 0x4, 1, 0x4, .rw, 31, 0x0, 0x0, 0x3000003⟩,
   ⟨0x1000044, 1, 0x4, 1, 0x4, .rw, 31, 0x0, 0x0, 0x7fff⟩,
   ⟨0x1000100, 64, 0x4, 1, 0x4, .rw, 31, 0x0, 0x0, 0xffffffff⟩,
   ⟨0x1000400, 24, 0x4, 1, 0x4, .ro, 31, 0x0, 0x0, 0xffffffff⟩]

/-- The window of GAU. -/
def rowsGAU : List RegRow :=
  [⟨0x1100000, 4, 0x40, 1, 0x4, .st, 6, 0x10000000, 0x1000000, 0xfffffe01⟩,
   ⟨0x1100004, 4, 0x40, 1, 0x4, .st, 6, 0x0, 0x0, 0xffffffff⟩,
   ⟨0x1100008, 4, 0x40, 1, 0x4, .st, 6, 0x1000000, 0x0, 0xffffffff⟩,
   ⟨0x110000c, 4, 0x40, 1, 0x4, .st, 6, 0xfa0064, 0x0, 0xffffffff⟩,
   ⟨0x1100010, 4, 0x40, 1, 0x4, .ro, 31, 0x0, 0x400, 0xffffffff⟩,
   ⟨0x1100014, 4, 0x40, 1, 0x4, .ro, 31, 0x0, 0x0, 0xffffffff⟩,
   ⟨0x1100018, 4, 0x40, 1, 0x4, .ro, 31, 0x0, 0x0, 0xffffffff⟩,
   ⟨0x110001c, 4, 0x40, 1, 0x4, .ro, 31, 0x0, 0x0, 0xffffffff⟩,
   ⟨0x1100020, 4, 0x40, 1, 0x4, .ro, 31, 0x0, 0x0, 0xffffffff⟩,
   ⟨0x1100024, 4, 0x40, 1, 0x4, .ro, 31, 0x0, 0x0, 0xffffffff⟩,
   ⟨0x1100028, 4, 0x40, 1, 0x4, .ro, 31, 0x0, 0x0, 0xffffffff⟩,
   ⟨0x110002c, 4, 0x40, 1, 0x4, .ro, 31, 0x0, 0x0, 0xffffffff⟩,
   ⟨0x1100030, 4, 0x40, 1, 0x4, .ro, 31, 0x0, 0x0, 0xffffffff⟩,
   ⟨0x1100100, 1, 0x4, 1, 0x4, .st, 6, 0x80003210, 0x0, 0x80007777⟩,
   ⟨0x1100110, 1, 0x4, 1, 0x4, .rw, 31, 0x0, 0x0, 0x0⟩,
   ⟨0x1100120, 14, 0x4, 1, 0x4, .ro, 31, 0x0, 0x0, 0xffffffff⟩,
   ⟨0x1100180, 32, 0x4, 1, 0x4, .ro, 31, 0x0, 0x0, 0xffffffff⟩,
   ⟨0x1100200, 1, 0x4, 1, 0x4, .sq, 31, 0x0, 0x0, 0xffffff1f⟩,
   ⟨0x1100204, 1, 0x4, 1, 0x4, .hc, 31, 0x0, 0x0, 0xf⟩,
   ⟨0x1100300, 1, 0x4, 1, 0x4, .st, 6, 0x0, 0x0, 0x1⟩,
   ⟨0x1100304, 1, 0x4, 1, 0x4, .st, 6, 0x0, 0x0, 0xffffffff⟩,
   ⟨0x1100308, 1, 0x4, 1, 0x4, .ro, 31, 0x0, 0x0, 0xffffffff⟩,
   ⟨0x1100400, 1, 0x4, 1, 0x4, .st, 6, 0x0, 0x0, 0x3⟩,
   ⟨0x1101000, 64, 0x4, 1, 0x4, .st, 6, 0x0, 0x0, 0x7⟩,
   ⟨0x1101100, 2, 0x4, 1, 0x4, .ro, 31, 0x0, 0x0, 0xffffffff⟩,
   ⟨0x1110000, 16384, 0x4, 1, 0x4, .st, 6, 0x0, 0x0, 0xffffffff⟩,
   ⟨0x1120000, 16384, 0x4, 1, 0x4, .ro, 31, 0x0, 0x0, 0xffffffff⟩]

/-- The window of EBS. -/
def rowsEBS : List RegRow :=
  [⟨0x1200000, 1, 0x4, 1, 0x4, .st, 7, 0x91a, 0x0, 0xffff⟩,
   ⟨0x1200004, 1, 0x4, 1, 0x4, .st, 7, 0x91a, 0x0, 0xffff⟩,
   ⟨0x1200008, 1, 0x4, 1, 0x4, .rs, 31, 0x91a0007, 0x0, 0xffffffff⟩,
   ⟨0x120000c, 1, 0x4, 1, 0x4, .st, 7, 0x1a05, 0x0, 0xffff⟩,
   ⟨0x1200010, 1, 0x4, 1, 0x4, .st, 7, 0x1, 0x0, 0xf⟩,
   ⟨0x1200014, 1, 0x4, 1, 0x4, .st, 7, 0x7d0, 0x0, 0xffff⟩,
   ⟨0x1200018, 1, 0x4, 1, 0x4, .st, 7, 0x640, 0x0, 0xffff⟩,
   ⟨0x120001c, 1, 0x4, 1, 0x4, .st, 7, 0x44c, 0x0, 0xffff⟩,
   ⟨0x1200020, 1, 0x4, 1, 0x4, .st, 7, 0x7364, 0x0, 0xffff⟩,
   ⟨0x1200024, 1, 0x4, 1, 0x4, .rs, 31, 0x0, 0x0, 0xffffffff⟩,
   ⟨0x1200028, 1, 0x4, 1, 0x4, .sq, 31, 0x0, 0x0, 0xff00003f⟩,
   ⟨0x120002c, 1, 0x4, 1, 0x4, .hc, 31, 0x0, 0x0, 0xffffffff⟩,
   ⟨0x1200030, 1, 0x4, 1, 0x4, .ro, 31, 0x0, 0x0, 0xffffffff⟩,
   ⟨0x1200040, 4, 0x4, 1, 0x4, .ro, 31, 0x0, 0x0, 0xffffffff⟩,
   ⟨0x1200050, 1, 0x4, 1, 0x4, .ro, 31, 0x0, 0x0, 0xffffffff⟩,
   ⟨0x1200054, 1, 0x4, 1, 0x4, .ro, 31, 0x0, 0x0, 0xffffffff⟩,
   ⟨0x1200100, 1, 0x4, 1, 0x4, .st, 7, 0x1efe9200, 0x0, 0xffffffff⟩,
   ⟨0x1200104, 1, 0x4, 1, 0x4, .st, 7, 0x59682f00, 0x0, 0xffffffff⟩,
   ⟨0x1200108, 1, 0x4, 1, 0x4, .st, 7, 0x2328, 0x0, 0xffffffff⟩,
   ⟨0x120010c, 1, 0x4, 1, 0x4, .st, 7, 0x5f, 0x0, 0xffffffff⟩,
   ⟨0x1200110, 1, 0x4, 1, 0x4, .st, 7, 0x1770, 0x0, 0xffffffff⟩,
   ⟨0x1200114, 1, 0x4, 1, 0x4, .st, 7, 0x3c, 0x0, 0xffffffff⟩,
   ⟨0x1200118, 1, 0x4, 1, 0x4, .st, 7, 0x7d0, 0x0, 0xffffffff⟩,
   ⟨0x120011c, 1, 0x4, 1, 0x4, .st, 7, 0x7ef40, 0x0, 0xffffffff⟩,
   ⟨0x1200120, 1, 0x4, 1, 0x4, .st, 7, 0x190, 0x0, 0xffffffff⟩,
   ⟨0x1200124, 1, 0x4, 1, 0x4, .st, 7, 0x3a980, 0x0, 0xffffffff⟩,
   ⟨0x1200128, 1, 0x4, 1, 0x4, .st, 7, 0x5dc, 0x0, 0xffffffff⟩,
   ⟨0x120012c, 1, 0x4, 1, 0x4, .st, 7, 0x28, 0x0, 0xffffffff⟩,
   ⟨0x1200130, 1, 0x4, 1, 0x4, .st, 7, 0x12c, 0x0, 0xffffffff⟩,
   ⟨0x1200134, 1, 0x4, 1, 0x4, .st, 7, 0x2af8, 0x0, 0xffffffff⟩,
   ⟨0x1200138, 1, 0x4, 1, 0x4, .st, 7, 0x320, 0x0, 0xffffffff⟩,
   ⟨0x120013c, 1, 0x4, 1, 0x4, .st, 7, 0x0, 0x0, 0xffffffff⟩,
   ⟨0x1200140, 16, 0x4, 1, 0x4, .st, 7, 0x0, 0x0, 0xffffffff⟩,
   ⟨0x1240000, 8192, 0x4, 1, 0x4, .st, 7, 0x0, 0x0, 0xffff⟩,
   ⟨0x1280000, 8192, 0x8, 2, 0x4, .ro, 31, 0x0, 0x0, 0xffffffff⟩]

/-- The window of AGE. -/
def rowsAGE : List RegRow :=
  [⟨0x1300000, 1, 0x4, 1, 0x4, .sq, 31, 0x0, 0x0, 0xff00003f⟩,
   ⟨0x1300004, 1, 0x4, 1, 0x4, .ro, 31, 0x1, 0x0, 0xffffffff⟩,
   ⟨0x1300008, 1, 0x4, 1, 0x4, .ro, 31, 0x0, 0x0, 0xffffffff⟩,
   ⟨0x130000c, 1, 0x4, 1, 0x4, .st, 7, 0x18, 0x0, 0xff⟩,
   ⟨0x1300010, 1, 0x4, 1, 0x4, .ro, 31, 0x0, 0x0, 0xffffffff⟩,
   ⟨0x1300014, 1, 0x4, 1, 0x4, .ro, 31, 0x0, 0x0, 0xffffffff⟩,
   ⟨0x1301000, 128, 0x4, 1, 0x4, .ro, 31, 0x0, 0x0, 0xffffffff⟩,
   ⟨0x1310100, 64, 0x4, 1, 0x4, .ro, 31, 0x0, 0x0, 0xffffffff⟩,
   ⟨0x1310000, 1, 0x4, 1, 0x4, .ro, 31, 0x10000, 0x0, 0xffffffff⟩,
   ⟨0x1310004, 1, 0x4, 1, 0x4, .ro, 31, 0x1, 0x0, 0xffffffff⟩,
   ⟨0x1310008, 1, 0x4, 1, 0x4, .ro, 31, 0x0, 0x0, 0xffffffff⟩,
   ⟨0x131000c, 1, 0x4, 1, 0x4, .ro, 31, 0x0, 0x0, 0xffffffff⟩,
   ⟨0x1310010, 1, 0x4, 1, 0x4, .ro, 31, 0x2ee0000, 0x0, 0xffffffff⟩,
   ⟨0x1310014, 1, 0x4, 1, 0x4, .ro, 31, 0xbb8, 0x0, 0xffffffff⟩,
   ⟨0x1310018, 1, 0x4, 1, 0x4, .ro, 31, 0xbb8, 0x0, 0xffffffff⟩,
   ⟨0x131001c, 1, 0x4, 1, 0x4, .ro, 31, 0xbb8, 0x0, 0xffffffff⟩,
   ⟨0x1310020, 1, 0x4, 1, 0x4, .ro, 31, 0xbb8, 0x0, 0xffffffff⟩,
   ⟨0x1310024, 1, 0x4, 1, 0x4, .ro, 31, 0xbb8, 0x0, 0xffffffff⟩,
   ⟨0x1310028, 1, 0x4, 1, 0x4, .ro, 31, 0x5dc, 0x0, 0xffffffff⟩,
   ⟨0x131002c, 1, 0x4, 1, 0x4, .ro, 31, 0x7d0, 0x0, 0xffffffff⟩,
   ⟨0x1310030, 1, 0x4, 1, 0x4, .ro, 31, 0x5dc, 0x0, 0xffffffff⟩,
   ⟨0x1310034, 1, 0x4, 1, 0x4, .ro, 31, 0x736400, 0x0, 0xffffffff⟩,
   ⟨0x1310038, 1, 0x4, 1, 0x4, .ro, 31, 0x10001000, 0x0, 0xffffffff⟩,
   ⟨0x131003c, 1, 0x4, 1, 0x4, .ro, 31, 0x0, 0x0, 0xffffffff⟩,
   ⟨0x1310040, 1, 0x4, 1, 0x4, .ro, 31, 0x0, 0x0, 0xffffffff⟩,
   ⟨0x1310044, 1, 0x4, 1, 0x4, .ro, 31, 0x0, 0x0, 0xffffffff⟩,
   ⟨0x1310048, 1, 0x4, 1, 0x4, .ro, 31, 0x0, 0x0, 0xffffffff⟩,
   ⟨0x131004c, 1, 0x4, 1, 0x4, .ro, 31, 0x0, 0x0, 0xffffffff⟩,
   ⟨0x1310050, 1, 0x4, 1, 0x4, .ro, 31, 0x0, 0x0, 0xffffffff⟩,
   ⟨0x1310054, 1, 0x4, 1, 0x4, .ro, 31, 0x0, 0x0, 0xffffffff⟩,
   ⟨0x1310058, 1, 0x4, 1, 0x4, .ro, 31, 0x0, 0x0, 0xffffffff⟩,
   ⟨0x131005c, 1, 0x4, 1, 0x4, .ro, 31, 0x0, 0x0, 0xffffffff⟩,
   ⟨0x1310060, 1, 0x4, 1, 0x4, .ro, 31, 0x0, 0x0, 0xffffffff⟩,
   ⟨0x1310064, 1, 0x4, 1, 0x4, .ro, 31, 0x0, 0x0, 0xffffffff⟩,
   ⟨0x1310068, 1, 0x4, 1, 0x4, .ro, 31, 0x0, 0x0, 0xffffffff⟩,
   ⟨0x131006c, 1, 0x4, 1, 0x4, .ro, 31, 0x0, 0x0, 0xffffffff⟩,
   ⟨0x1310070, 1, 0x4, 1, 0x4, .ro, 31, 0x0, 0x0, 0xffffffff⟩,
   ⟨0x1310074, 1, 0x4, 1, 0x4, .ro, 31, 0x0, 0x0, 0xffffffff⟩,
   ⟨0x1310078, 1, 0x4, 1, 0x4, .ro, 31, 0x0, 0x0, 0xffffffff⟩,
   ⟨0x131007c, 1, 0x4, 1, 0x4, .ro, 31, 0x0, 0x0, 0xffffffff⟩] ++
  [⟨0x1310080, 1, 0x4, 1, 0x4, .ro, 31, 0x0, 0x0, 0xffffffff⟩,
   ⟨0x1310084, 1, 0x4, 1, 0x4, .ro, 31, 0x0, 0x0, 0xffffffff⟩,
   ⟨0x1310088, 1, 0x4, 1, 0x4, .ro, 31, 0x0, 0x0, 0xffffffff⟩,
   ⟨0x131008c, 1, 0x4, 1, 0x4, .ro, 31, 0x0, 0x0, 0xffffffff⟩,
   ⟨0x1310090, 1, 0x4, 1, 0x4, .ro, 31, 0x0, 0x0, 0xffffffff⟩,
   ⟨0x1310094, 1, 0x4, 1, 0x4, .ro, 31, 0x0, 0x0, 0xffffffff⟩,
   ⟨0x1310098, 1, 0x4, 1, 0x4, .ro, 31, 0x0, 0x0, 0xffffffff⟩,
   ⟨0x131009c, 1, 0x4, 1, 0x4, .ro, 31, 0x0, 0x0, 0xffffffff⟩,
   ⟨0x13100a0, 1, 0x4, 1, 0x4, .ro, 31, 0x0, 0x0, 0xffffffff⟩,
   ⟨0x13100a4, 1, 0x4, 1, 0x4, .ro, 31, 0x0, 0x0, 0xffffffff⟩,
   ⟨0x13100a8, 1, 0x4, 1, 0x4, .ro, 31, 0x0, 0x0, 0xffffffff⟩,
   ⟨0x13100ac, 1, 0x4, 1, 0x4, .ro, 31, 0x0, 0x0, 0xffffffff⟩,
   ⟨0x13100b0, 1, 0x4, 1, 0x4, .ro, 31, 0x0, 0x0, 0xffffffff⟩,
   ⟨0x13100b4, 1, 0x4, 1, 0x4, .ro, 31, 0x0, 0x0, 0xffffffff⟩,
   ⟨0x13100b8, 1, 0x4, 1, 0x4, .ro, 31, 0x0, 0x0, 0xffffffff⟩,
   ⟨0x13100bc, 1, 0x4, 1, 0x4, .ro, 31, 0x0, 0x0, 0xffffffff⟩,
   ⟨0x13100c0, 1, 0x4, 1, 0x4, .ro, 31, 0x0, 0x0, 0xffffffff⟩,
   ⟨0x13100c4, 1, 0x4, 1, 0x4, .ro, 31, 0x0, 0x0, 0xffffffff⟩,
   ⟨0x13100c8, 1, 0x4, 1, 0x4, .ro, 31, 0x0, 0x0, 0xffffffff⟩,
   ⟨0x13100cc, 1, 0x4, 1, 0x4, .ro, 31, 0x0, 0x0, 0xffffffff⟩,
   ⟨0x13100d0, 1, 0x4, 1, 0x4, .ro, 31, 0x0, 0x0, 0xffffffff⟩,
   ⟨0x13100d4, 1, 0x4, 1, 0x4, .ro, 31, 0x0, 0x0, 0xffffffff⟩,
   ⟨0x13100d8, 1, 0x4, 1, 0x4, .ro, 31, 0x0, 0x0, 0xffffffff⟩,
   ⟨0x13100dc, 1, 0x4, 1, 0x4, .ro, 31, 0x0, 0x0, 0xffffffff⟩,
   ⟨0x13100e0, 1, 0x4, 1, 0x4, .ro, 31, 0x0, 0x0, 0xffffffff⟩,
   ⟨0x13100e4, 1, 0x4, 1, 0x4, .ro, 31, 0x0, 0x0, 0xffffffff⟩,
   ⟨0x13100e8, 1, 0x4, 1, 0x4, .ro, 31, 0x0, 0x0, 0xffffffff⟩,
   ⟨0x13100ec, 1, 0x4, 1, 0x4, .ro, 31, 0x0, 0x0, 0xffffffff⟩,
   ⟨0x13100f0, 1, 0x4, 1, 0x4, .ro, 31, 0x0, 0x0, 0xffffffff⟩,
   ⟨0x13100f4, 1, 0x4, 1, 0x4, .ro, 31, 0x0, 0x0, 0xffffffff⟩,
   ⟨0x13100f8, 1, 0x4, 1, 0x4, .ro, 31, 0x0, 0x0, 0xffffffff⟩,
   ⟨0x13100fc, 1, 0x4, 1, 0x4, .ro, 31, 0x0, 0x0, 0xffffffff⟩]

/-- The window of TRL. -/
def rowsTRL : List RegRow :=
  [⟨0x1400000, 1, 0x4, 1, 0x4, .st, 19, 0x3e83264, 0x0, 0xffffffff⟩,
   ⟨0x1400004, 1, 0x4, 1, 0x4, .ro, 31, 0x0, 0x0, 0xffffffff⟩,
   ⟨0x1400008, 1, 0x4, 1, 0x4, .ro, 31, 0x0, 0x0, 0xffffffff⟩,
   ⟨0x140000c, 1, 0x4, 1, 0x4, .st, 19, 0x0, 0x0, 0x3ffffff⟩,
   ⟨0x1400010, 1, 0x4, 1, 0x4, .st, 19, 0x0, 0x0, 0xffffffff⟩,
   ⟨0x1400014, 1, 0x4, 1, 0x4, .st, 19, 0x0, 0x0, 0xffff⟩,
   ⟨0x1400020, 1, 0x4, 1, 0x4, .st, 19, 0xa00, 0x0, 0xc1ffff0f⟩,
   ⟨0x1400030, 1, 0x4, 1, 0x4, .hc, 31, 0x0, 0x0, 0x3ff0001⟩,
   ⟨0x1400034, 1, 0x4, 1, 0x4, .sq, 31, 0x0, 0x0, 0xff0001ff⟩,
   ⟨0x1400038, 1, 0x4, 1, 0x4, .ro, 31, 0x0, 0x0, 0xffffffff⟩,
   ⟨0x140003c, 1, 0x4, 1, 0x4, .ro, 31, 0x0, 0x0, 0xffffffff⟩,
   ⟨0x1400040, 1, 0x4, 1, 0x4, .ro, 31, 0x0, 0x0, 0xffffffff⟩,
   ⟨0x1400100, 16, 0x4, 1, 0x4, .st, 19, 0x0, 0x0, 0xcfffffff⟩,
   ⟨0x1400200, 4, 0x20, 1, 0x4, .st, 19, 0x0, 0x0, 0x80000000⟩,
   ⟨0x1400204, 4, 0x20, 1, 0x4, .rs, 31, 0x0, 0x0, 0xffffffff⟩,
   ⟨0x1400400, 11, 0x4, 1, 0x4, .ro, 31, 0x0, 0x0, 0xffffffff⟩,
   ⟨0x1410000, 512, 0x10, 3, 0x4, .st, 19, 0x0, 0x0, 0xffffffff⟩,
   ⟨0x141000c, 512, 0x10, 1, 0x4, .rs, 31, 0x0, 0x0, 0xffffffff⟩,
   ⟨0x1420000, 16, 0x20, 1, 0x4, .st, 20, 0x0, 0x0, 0xffffffff⟩,
   ⟨0x1420004, 16, 0x20, 1, 0x4, .st, 20, 0x0, 0x0, 0xffffffff⟩,
   ⟨0x1420008, 16, 0x20, 1, 0x4, .st, 20, 0x0, 0x0, 0x1fffff⟩,
   ⟨0x142000c, 16, 0x20, 1, 0x4, .st, 20, 0x0, 0x0, 0xfff00000⟩,
   ⟨0x1420010, 16, 0x20, 1, 0x4, .st, 20, 0x0, 0x0, 0x80ff1fff⟩,
   ⟨0x1420014, 16, 0x20, 1, 0x4, .rs, 31, 0x0, 0x0, 0xffffffff⟩]

/-- The window of FLT. -/
def rowsFLT : List RegRow :=
  [⟨0x1500000, 1, 0x4, 1, 0x4, .st, 21, 0x1f403e8, 0x0, 0xffffffff⟩,
   ⟨0x1500004, 1, 0x4, 1, 0x4, .rs, 31, 0x0, 0x0, 0xffffffff⟩,
   ⟨0x1500008, 1, 0x4, 1, 0x4, .sq, 31, 0x0, 0x0, 0xff00003f⟩,
   ⟨0x150000c, 1, 0x4, 1, 0x4, .ro, 31, 0x0, 0x0, 0xffffffff⟩,
   ⟨0x1500010, 4, 0x4, 1, 0x4, .rw, 31, 0x0, 0x0, 0x800007ff⟩,
   ⟨0x1500020, 1, 0x4, 1, 0x4, .rw, 31, 0x0, 0x0, 0x0⟩,
   ⟨0x1500100, 17, 0x4, 1, 0x4, .ro, 31, 0x0, 0x0, 0xffffffff⟩,
   ⟨0x1500200, 4, 0x4, 1, 0x4, .ro, 31, 0x0, 0x0, 0xffffffff⟩,
   ⟨0x1510000, 12288, 0x4, 1, 0x4, .ro, 31, 0x0, 0x0, 0xffffffff⟩,
   ⟨0x1520000, 768, 0x4, 1, 0x4, .ro, 31, 0x0, 0x0, 0xffffffff⟩]

/-- The window of LCS. -/
def rowsLCS : List RegRow :=
  [⟨0x1600000, 1, 0x4, 1, 0x4, .ro, 31, 0x30000000, 0x0, 0xffffffff⟩,
   ⟨0x1600004, 1, 0x4, 1, 0x4, .hc, 31, 0x0, 0x0, 0xffffffff⟩,
   ⟨0x1600008, 1, 0x4, 1, 0x4, .ro, 31, 0x0, 0x0, 0xffffffff⟩,
   ⟨0x160000c, 1, 0x4, 1, 0x4, .ro, 31, 0x0, 0x0, 0xffffffff⟩,
   ⟨0x1600010, 1, 0x4, 1, 0x4, .ro, 31, 0x0, 0x0, 0xffffffff⟩,
   ⟨0x1600014, 1, 0x4, 1, 0x4, .ro, 31, 0x0, 0x0, 0xffffffff⟩,
   ⟨0x1600018, 1, 0x4, 1, 0x4, .sq, 31, 0x0, 0x0, 0xff000007⟩,
   ⟨0x1600020, 1, 0x4, 1, 0x4, .ro, 31, 0x0, 0x0, 0xffffffff⟩,
   ⟨0x1600024, 1, 0x4, 1, 0x4, .ro, 31, 0x0, 0x0, 0xffffffff⟩,
   ⟨0x1610000, 8192, 0x4, 1, 0x4, .rw, 31, 0x0, 0x0, 0xffffffff⟩,
   ⟨0x1618000, 12, 0x4, 1, 0x4, .ro, 31, 0x0, 0x0, 0xffffffff⟩]

/-- The window of UPD. -/
def rowsUPD : List RegRow :=
  [⟨0x1700000, 1, 0x4, 1, 0x4, .st, 22, 0x64, 0x0, 0xffff⟩,
   ⟨0x1700004, 1, 0x4, 1, 0x4, .rs, 31, 0x0, 0x0, 0xffffffff⟩,
   ⟨0x1700008, 1, 0x4, 1, 0x4, .rs, 31, 0x5, 0x0, 0xffffffff⟩,
   ⟨0x170000c, 1, 0x4, 1, 0x4, .ro, 31, 0x0, 0x0, 0xffffffff⟩,
   ⟨0x1700010, 1, 0x4, 1, 0x4, .ro, 31, 0x0, 0x0, 0xffffffff⟩,
   ⟨0x1700014, 1, 0x4, 1, 0x4, .ro, 31, 0x0, 0x0, 0xffffffff⟩,
   ⟨0x1700018, 1, 0x4, 1, 0x4, .ro, 31, 0x0, 0x0, 0xffffffff⟩,
   ⟨0x170001c, 1, 0x4, 1, 0x4, .ro, 31, 0x0, 0x0, 0xffffffff⟩,
   ⟨0x1700020, 1, 0x4, 1, 0x4, .ro, 31, 0x0, 0x0, 0xffffffff⟩,
   ⟨0x1700024, 1, 0x4, 1, 0x4, .sq, 31, 0x0, 0x0, 0xff00003f⟩]

/-- Registers behind a selector. -/
def rowsWIN : List RegRow :=
  [⟨0x10000000, 131072, 0x10, 4, 0x4, .ro, 31, 0x0, 0x0, 0xffffffff⟩,
   ⟨0x20000000, 2, 0x800000, 131072, 0x40, .st, 3, 0x0, 0x0, 0xffffffff⟩,
   ⟨0x20000004, 2, 0x800000, 131072, 0x40, .st, 3, 0x0, 0x0, 0xffffffff⟩,
   ⟨0x20000008, 2, 0x800000, 131072, 0x40, .st, 3, 0x0, 0x0, 0x3800ffff⟩,
   ⟨0x2000000c, 2, 0x800000, 131072, 0x40, .st, 3, 0x0, 0x0, 0xfff3ffff⟩,
   ⟨0x20000010, 2, 0x800000, 131072, 0x40, .rs, 31, 0x0, 0x0, 0xffffffff⟩,
   ⟨0x20000014, 2, 0x800000, 131072, 0x40, .rs, 31, 0x40000000, 0x0, 0xffffffff⟩,
   ⟨0x20000018, 2, 0x800000, 131072, 0x40, .ro, 31, 0xffffffff, 0x0, 0xffffffff⟩,
   ⟨0x2000001c, 2, 0x800000, 131072, 0x40, .rs, 31, 0x0, 0x0, 0xffffffff⟩,
   ⟨0x30000000, 18, 0x20, 1, 0x4, .st, 14, 0xffffffff, 0x0, 0xffffffff⟩,
   ⟨0x30000240, 65518, 0x20, 1, 0x4, .st, 14, 0x0, 0x0, 0xffffffff⟩,
   ⟨0x30000004, 18, 0x20, 1, 0x4, .st, 14, 0xffffffff, 0x0, 0xffffffff⟩,
   ⟨0x30000244, 65518, 0x20, 1, 0x4, .st, 14, 0x0, 0x0, 0xffffffff⟩,
   ⟨0x30000008, 18, 0x20, 1, 0x4, .st, 14, 0x14004000, 0x0, 0xffffffff⟩,
   ⟨0x30000248, 65518, 0x20, 1, 0x4, .st, 14, 0x14004000, 0x0, 0xffffffff⟩,
   ⟨0x3000000c, 18, 0x20, 1, 0x4, .st, 14, 0x80003f00, 0x2000000, 0xfe0fffff⟩,
   ⟨0x3000024c, 65518, 0x20, 1, 0x4, .st, 14, 0x3f00, 0x0, 0xfe0fffff⟩,
   ⟨0x30000010, 18, 0x20, 1, 0x4, .st, 14, 0x0, 0x0, 0x80ff1fff⟩,
   ⟨0x30000250, 65518, 0x20, 1, 0x4, .st, 14, 0x0, 0x0, 0x80ff1fff⟩,
   ⟨0x30000014, 18, 0x20, 1, 0x4, .rs, 31, 0x0, 0x0, 0xffffffff⟩,
   ⟨0x30000254, 65518, 0x20, 1, 0x4, .rs, 31, 0x0, 0x0, 0xffffffff⟩,
   ⟨0x30000018, 18, 0x20, 1, 0x4, .rs, 31, 0x0, 0x0, 0xffffffff⟩,
   ⟨0x30000258, 65518, 0x20, 1, 0x4, .rs, 31, 0x0, 0x0, 0xffffffff⟩,
   ⟨0x3000001c, 18, 0x20, 1, 0x4, .rs, 31, 0x0, 0x0, 0xffffffff⟩,
   ⟨0x3000025c, 65518, 0x20, 1, 0x4, .rs, 31, 0x0, 0x0, 0xffffffff⟩,
   ⟨0x40000000, 8, 0x100000, 64, 0x40, .st, 11, 0x0, 0x0, 0x7fff⟩,
   ⟨0x40000004, 8, 0x100000, 64, 0x40, .st, 11, 0x40000000, 0x0, 0xe003ffff⟩,
   ⟨0x40000008, 8, 0x100000, 64, 0x40, .rs, 31, 0x0, 0x0, 0xffffffff⟩,
   ⟨0x4000000c, 8, 0x100000, 64, 0x40, .rs, 31, 0x0, 0x0, 0xffffffff⟩,
   ⟨0x40000010, 8, 0x100000, 64, 0x40, .rs, 31, 0x0, 0x0, 0xffffffff⟩,
   ⟨0x40000014, 8, 0x100000, 64, 0x40, .ro, 31, 0x0, 0x0, 0xffffffff⟩,
   ⟨0x40000018, 8, 0x100000, 64, 0x40, .rs, 31, 0x0, 0x0, 0xffffffff⟩,
   ⟨0x4000001c, 8, 0x100000, 64, 0x40, .rw, 31, 0x0, 0x0, 0x0⟩,
   ⟨0x40000020, 8, 0x100000, 64, 0x40, .rw, 31, 0x0, 0x0, 0x0⟩,
   ⟨0x40010000, 8, 0x100000, 256, 0x10, .st, 11, 0x0, 0x0, 0xbc001fff⟩,
   ⟨0x40010004, 8, 0x100000, 256, 0x10, .st, 11, 0x0, 0x0, 0xffffffff⟩,
   ⟨0x40010008, 8, 0x100000, 256, 0x10, .st, 11, 0x0, 0x0, 0xffffffff⟩,
   ⟨0x4001000c, 8, 0x100000, 256, 0x10, .rs, 31, 0x0, 0x0, 0xffffffff⟩,
   ⟨0x40040000, 8, 0x100000, 65536, 0x4, .rw, 31, 0x0, 0x0, 0xffffffff⟩,
   ⟨0x50000000, 8, 0x400000, 524288, 0x4, .rw, 31, 0x0, 0x0, 0xffffffff⟩] ++
  [⟨0x80000000, 1024, 0x100, 48, 0x4, .st, 17, 0x0, 0x0, 0xffffffff⟩,
   ⟨0x81000000, 256, 0x100, 64, 0x4, .st, 17, 0x0, 0x0, 0xffffffff⟩,
   ⟨0x82000000, 4096, 0x100, 48, 0x4, .st, 17, 0x0, 0x0, 0xffffffff⟩,
   ⟨0x83000000, 256, 0x800, 512, 0x4, .st, 18, 0x0, 0x0, 0xffffffff⟩]

/-- The rows of the block whose window holds the key (R12: one window is 1 MiB). -/
def blockRows : Nat → List RegRow
  | 0 => rowsGLB
  | 1 => rowsMBX
  | 2 => rowsCMD
  | 3 => rowsPCE
  | 4 => rowsSLC
  | 5 => rowsRNG
  | 6 => rowsDMA
  | 7 => rowsPRS
  | 8 => rowsCLS
  | 9 => rowsFWD
  | 10 => rowsTCM
  | 11 => rowsFPC
  | 12 => rowsCRY
  | 13 => rowsSTO
  | 14 => rowsSCH
  | 15 => rowsMAC
  | 16 => rowsPBU
  | 17 => rowsGAU
  | 18 => rowsEBS
  | 19 => rowsAGE
  | 20 => rowsTRL
  | 21 => rowsFLT
  | 22 => rowsLCS
  | 23 => rowsUPD
  | n => if 64 ≤ n then rowsWIN else []

/-- The position of the key in the outer dimension of a row, if the key is one of its registers. -/
def RegRow.index? (r : RegRow) (k : Nat) : Option Nat :=
  if k < r.base then none else
    let o := k - r.base
    let i := o / r.s1
    let q := o % r.s1
    if i < r.n1 && q % r.s2 == 0 && decide (q / r.s2 < r.n2) then some i else none

/-- The row and outer position of a key. -/
def findRow : List RegRow → Nat → Option (RegRow × Nat)
  | [], _ => none
  | r :: rs, k => match r.index? k with
    | some i => some (r, i)
    | none => findRow rs k

/-- The row of a register, `none` for a reserved offset (R7). -/
def rowOf (k : Nat) : Option (RegRow × Nat) := findRow (blockRows (k / 0x100000)) k

/-- The reset value of a register; a reserved offset reads 0. -/
def resetOf (k : Nat) : Word := match rowOf k with
  | some (r, i) => BitVec.ofNat 32 (r.reset + i * r.rinc)
  | none => 0

/-- The bits a write to the register changes. -/
def maskOf (k : Nat) : Word := match rowOf k with
  | some (r, _) => BitVec.ofNat 32 r.mask
  | none => 0

/-- The access type, if the offset is no reserved one. -/
def accOf (k : Nat) : Option Access := (rowOf k).map (fun p => p.1.acc)

/-- The commit group of a staged register (R102); 31 is no group. -/
def groupOf (k : Nat) : Nat := match rowOf k with
  | some (r, _) => r.grp
  | none => 31

/-- `GLB_ID` (R114, 04_registers.md). -/
def Reg.GLB_ID : Nat := 0x0
/-- `GLB_PIPE_ROLE` (R16, 01_architecture.md). -/
def Reg.GLB_PIPE_ROLE : Nat := 0x4
/-- `GLB_COMMIT` (R114, 04_registers.md). -/
def Reg.GLB_COMMIT : Nat := 0x10
/-- `GLB_COMMIT_SEQ` (R104, 04_registers.md). -/
def Reg.GLB_COMMIT_SEQ : Nat := 0x14
/-- `GLB_COMMIT_STATUS` (R114, 04_registers.md). -/
def Reg.GLB_COMMIT_STATUS : Nat := 0x18
/-- `GLB_REJECT_GROUPS` (R108, 04_registers.md). -/
def Reg.GLB_REJECT_GROUPS : Nat := 0x1c
/-- `GLB_REJECT_INFO` (R108, 04_registers.md). -/
def Reg.GLB_REJECT_INFO : Nat := 0x20
/-- `GLB_STAGED` (R107, 04_registers.md). -/
def Reg.GLB_STAGED : Nat := 0x24
/-- `GLB_DISCARD` (R107, 04_registers.md). -/
def Reg.GLB_DISCARD : Nat := 0x28
/-- `GLB_DIRECT` (R110, 04_registers.md). -/
def Reg.GLB_DIRECT : Nat := 0x2c
/-- `GLB_PAIR_PENDING` (R110, 04_registers.md). -/
def Reg.GLB_PAIR_PENDING : Nat := 0x30
/-- `GLB_VIEW` (R114, 04_registers.md). -/
def Reg.GLB_VIEW : Nat := 0x34
/-- `GLB_COMMIT_AT_LO` (R105, 04_registers.md). -/
def Reg.GLB_COMMIT_AT_LO : Nat := 0x40
/-- `GLB_COMMIT_AT_HI` (R105, 04_registers.md). -/
def Reg.GLB_COMMIT_AT_HI : Nat := 0x44
/-- `GLB_COMMIT_AT_MASK` (R105, 04_registers.md). -/
def Reg.GLB_COMMIT_AT_MASK : Nat := 0x48
/-- `GLB_SUPPLY_FAULT` (R100, 04_registers.md). -/
def Reg.GLB_SUPPLY_FAULT : Nat := 0x100
/-- `GLB_HALT` (R100, 04_registers.md). -/
def Reg.GLB_HALT : Nat := 0x104
/-- `GLB_EVT_STATUS` (R114, 04_registers.md). -/
def Reg.GLB_EVT_STATUS : Nat := 0x108
/-- `GLB_HBM_CTRL` (R504, 20_startup.md). -/
def Reg.GLB_HBM_CTRL : Nat := 0x2000
/-- `GLB_CELLAR_CTRL` (R504, 20_startup.md). -/
def Reg.GLB_CELLAR_CTRL : Nat := 0x2004
/-- `GLB_PAIR` (R504, 20_startup.md). -/
def Reg.GLB_PAIR : Nat := 0x2010
/-- `GLB_BOOT` (R504, 20_startup.md). -/
def Reg.GLB_BOOT : Nat := 0x2020
/-- `GLB_STRAPS` (R504, 20_startup.md). -/
def Reg.GLB_STRAPS : Nat := 0x2030
/-- `MBX_INm` (R142, 05_command_packets.md). -/
def Reg.MBX_INm (i : Nat) : Nat := 0x100000 + i * 0x20
/-- `MBX_OUTm` (R142, 05_command_packets.md). -/
def Reg.MBX_OUTm (i : Nat) : Nat := 0x100004 + i * 0x20
/-- `MBX_OUT_ACKm` (R142, 05_command_packets.md). -/
def Reg.MBX_OUT_ACKm (i : Nat) : Nat := 0x100008 + i * 0x20
/-- `MBX_STATEm` (R142, 05_command_packets.md). -/
def Reg.MBX_STATEm (i : Nat) : Nat := 0x10000c + i * 0x20
/-- `MBX_CTRLm` (R142, 05_command_packets.md). -/
def Reg.MBX_CTRLm (i : Nat) : Nat := 0x100010 + i * 0x20
/-- `MBX_EVTm` (R142, 05_command_packets.md). -/
def Reg.MBX_EVTm (i : Nat) : Nat := 0x100014 + i * 0x20
/-- `CMD_PIm` (R143, 05_command_packets.md). -/
def Reg.CMD_PIm (i : Nat) : Nat := 0x200000 + i * 0x20
/-- `CMD_CIm` (R143, 05_command_packets.md). -/
def Reg.CMD_CIm (i : Nat) : Nat := 0x200004 + i * 0x20
/-- `CMD_RPIm` (R143, 05_command_packets.md). -/
def Reg.CMD_RPIm (i : Nat) : Nat := 0x200008 + i * 0x20
/-- `CMD_RCIm` (R143, 05_command_packets.md). -/
def Reg.CMD_RCIm (i : Nat) : Nat := 0x20000c + i * 0x20
/-- `CMD_CTRLm` (R143, 05_command_packets.md). -/
def Reg.CMD_CTRLm (i : Nat) : Nat := 0x200010 + i * 0x20
/-- `CMD_STATUSm` (R143, 05_command_packets.md). -/
def Reg.CMD_STATUSm (i : Nat) : Nat := 0x200014 + i * 0x20
/-- `CMD_OUTSTANDINGm` (R143, 05_command_packets.md). -/
def Reg.CMD_OUTSTANDINGm (i : Nat) : Nat := 0x200018 + i * 0x20
/-- `CMD_TIMEOUT` (R135, 05_command_packets.md). -/
def Reg.CMD_TIMEOUT : Nat := 0x201000
/-- `CMD_LEES_SEQ` (R134, 05_command_packets.md). -/
def Reg.CMD_LEES_SEQ : Nat := 0x201010
/-- `CMD_MRING_HEAD` (R143, 05_command_packets.md). -/
def Reg.CMD_MRING_HEAD : Nat := 0x201020
/-- `CMD_MRING_TAIL` (R143, 05_command_packets.md). -/
def Reg.CMD_MRING_TAIL : Nat := 0x201024
/-- `CMD_LEES` (R134, 05_command_packets.md). -/
def Reg.CMD_LEES (i : Nat) : Nat := 0x210000 + i * 0x4
/-- `CMD_QUEUES` (R119, 05_command_packets.md). -/
def Reg.CMD_QUEUES (i : Nat) : Nat := 0x240000 + i * 0x4
/-- `CMD_REPLIES` (R119, 05_command_packets.md). -/
def Reg.CMD_REPLIES (i : Nat) : Nat := 0x280000 + i * 0x4
/-- `CMD_MRING` (R140, 05_command_packets.md). -/
def Reg.CMD_MRING (i : Nat) : Nat := 0x2c0000 + i * 0x4
/-- `PCE_LINK_STATUSl` (R168, 06_host_endpoints.md). -/
def Reg.PCE_LINK_STATUSl (i : Nat) : Nat := 0x300000 + i * 0x100
/-- `PCE_PM_CTRLl` (R168, 06_host_endpoints.md). -/
def Reg.PCE_PM_CTRLl (i : Nat) : Nat := 0x300004 + i * 0x100
/-- `PCE_TAGSl` (R168, 06_host_endpoints.md). -/
def Reg.PCE_TAGSl (i : Nat) : Nat := 0x300008 + i * 0x100
/-- `PCE_EVT_STATUSf` (R168, 06_host_endpoints.md). -/
def Reg.PCE_EVT_STATUSf (i : Nat) : Nat := 0x301000 + i * 0x100
/-- `PCE_COUNTSf` (R168, 06_host_endpoints.md). -/
def Reg.PCE_COUNTSf (i j : Nat) : Nat := 0x301010 + i * 0x100 + j * 0x4
/-- `PCE_HELDf` (R168, 06_host_endpoints.md). -/
def Reg.PCE_HELDf (i : Nat) : Nat := 0x301030 + i * 0x100
/-- `PCE_IMS_INDEXm` (R168, 06_host_endpoints.md). -/
def Reg.PCE_IMS_INDEXm (i : Nat) : Nat := 0x302000 + i * 0x20
/-- `PCE_IMS_DATAm` (R155, 06_host_endpoints.md). -/
def Reg.PCE_IMS_DATAm (i j : Nat) : Nat := 0x302010 + i * 0x20 + j * 0x4
/-- `PCE_IMS_ENTRY` (R155, 06_host_endpoints.md). -/
def Reg.PCE_IMS_ENTRY (i j : Nat) : Nat := 0x10000000 + i * 0x10 + j * 0x4
/-- `GAU_REFn_CTRL` (R61, 02_grid_angle.md). -/
def Reg.GAU_REFn_CTRL (i : Nat) : Nat := 0x1100000 + i * 0x40
/-- `GAU_REFn_OFFSET` (R61, 02_grid_angle.md). -/
def Reg.GAU_REFn_OFFSET (i : Nat) : Nat := 0x1100004 + i * 0x40
/-- `GAU_REFn_JUMP` (R61, 02_grid_angle.md). -/
def Reg.GAU_REFn_JUMP (i : Nat) : Nat := 0x1100008 + i * 0x40
/-- `GAU_REFn_LIMITS` (R61, 02_grid_angle.md). -/
def Reg.GAU_REFn_LIMITS (i : Nat) : Nat := 0x110000c + i * 0x40
/-- `GAU_REFn_STATUS` (R61, 02_grid_angle.md). -/
def Reg.GAU_REFn_STATUS (i : Nat) : Nat := 0x1100010 + i * 0x40
/-- `GAU_REFn_FREQ` (R36, 02_grid_angle.md). -/
def Reg.GAU_REFn_FREQ (i : Nat) : Nat := 0x1100014 + i * 0x40
/-- `GAU_ANGLEn` (R35, 02_grid_angle.md). -/
def Reg.GAU_ANGLEn (i : Nat) : Nat := 0x1100018 + i * 0x40
/-- `GAU_REFn_ROCOF` (R36, 02_grid_angle.md). -/
def Reg.GAU_REFn_ROCOF (i : Nat) : Nat := 0x110001c + i * 0x40
/-- `GAU_CYCLEn_LO` (R35, 02_grid_angle.md). -/
def Reg.GAU_CYCLEn_LO (i : Nat) : Nat := 0x1100020 + i * 0x40
/-- `GAU_CYCLEn_HI` (R35, 02_grid_angle.md). -/
def Reg.GAU_CYCLEn_HI (i : Nat) : Nat := 0x1100024 + i * 0x40
/-- `GAU_WRAPTSn_LO` (R52, 02_grid_angle.md). -/
def Reg.GAU_WRAPTSn_LO (i : Nat) : Nat := 0x1100028 + i * 0x40
/-- `GAU_WRAPTSn_HI` (R52, 02_grid_angle.md). -/
def Reg.GAU_WRAPTSn_HI (i : Nat) : Nat := 0x110002c + i * 0x40
/-- `GAU_REFn_COUNTS` (R61, 02_grid_angle.md). -/
def Reg.GAU_REFn_COUNTS (i : Nat) : Nat := 0x1100030 + i * 0x40
/-- `GAU_TIE` (R61, 02_grid_angle.md). -/
def Reg.GAU_TIE : Nat := 0x1100100
/-- `GAU_SNAP_CTRL` (R37, 02_grid_angle.md). -/
def Reg.GAU_SNAP_CTRL : Nat := 0x1100110
/-- `GAU_SNAP` (R37, 02_grid_angle.md). -/
def Reg.GAU_SNAP (i : Nat) : Nat := 0x1100120 + i * 0x4
/-- `GAU_STAMPs` (R61, 02_grid_angle.md). -/
def Reg.GAU_STAMPs (i : Nat) : Nat := 0x1100180 + i * 0x4
/-- `GAU_EVT_STATUS` (R61, 02_grid_angle.md). -/
def Reg.GAU_EVT_STATUS : Nat := 0x1100200
/-- `GAU_LOST` (R43, 02_grid_angle.md). -/
def Reg.GAU_LOST : Nat := 0x1100204
/-- `GAU_GSYNC_CTRL` (R61, 02_grid_angle.md). -/
def Reg.GAU_GSYNC_CTRL : Nat := 0x1100300
/-- `GAU_GSYNC_DELAY` (R61, 02_grid_angle.md). -/
def Reg.GAU_GSYNC_DELAY : Nat := 0x1100304
/-- `GAU_GSYNC_STATUS` (R61, 02_grid_angle.md). -/
def Reg.GAU_GSYNC_STATUS : Nat := 0x1100308
/-- `GAU_PTP_CTRL` (R61, 02_grid_angle.md). -/
def Reg.GAU_PTP_CTRL : Nat := 0x1100400
/-- `GAU_CHANc_CTRL` (R61, 02_grid_angle.md). -/
def Reg.GAU_CHANc_CTRL (i : Nat) : Nat := 0x1101000 + i * 0x4
/-- `GAU_CHAN_PEND` (R61, 02_grid_angle.md). -/
def Reg.GAU_CHAN_PEND (i : Nat) : Nat := 0x1101100 + i * 0x4
/-- `GAU_SHADOW` (R55, 02_grid_angle.md). -/
def Reg.GAU_SHADOW (i : Nat) : Nat := 0x1110000 + i * 0x4
/-- `GAU_ACTIVE` (R55, 02_grid_angle.md). -/
def Reg.GAU_ACTIVE (i : Nat) : Nat := 0x1120000 + i * 0x4
/-- `FLT_CTRL` (R490, 19_faults.md). -/
def Reg.FLT_CTRL : Nat := 0x1500000
/-- `FLT_STATUS` (R482, 19_faults.md). -/
def Reg.FLT_STATUS : Nat := 0x1500004
/-- `FLT_EVT_STATUS` (R490, 19_faults.md). -/
def Reg.FLT_EVT_STATUS : Nat := 0x1500008
/-- `FLT_SEQ` (R490, 19_faults.md). -/
def Reg.FLT_SEQ : Nat := 0x150000c
/-- `FLT_NOTIFY_VECTORf` (R490, 19_faults.md). -/
def Reg.FLT_NOTIFY_VECTORf (i : Nat) : Nat := 0x1500010 + i * 0x4
/-- `FLT_HALT_RESET` (R489, 19_faults.md). -/
def Reg.FLT_HALT_RESET : Nat := 0x1500020
/-- `FLT_CORRECTED` (R476, 19_faults.md). -/
def Reg.FLT_CORRECTED (i : Nat) : Nat := 0x1500100 + i * 0x4
/-- `FLT_COUNTS` (R490, 19_faults.md). -/
def Reg.FLT_COUNTS (i : Nat) : Nat := 0x1500200 + i * 0x4
/-- `FLT_RING` (R486, 19_faults.md). -/
def Reg.FLT_RING (i : Nat) : Nat := 0x1510000 + i * 0x4
/-- `FLT_MRAM_RING` (R486, 19_faults.md). -/
def Reg.FLT_MRAM_RING (i : Nat) : Nat := 0x1520000 + i * 0x4
/-- `EBS_CAP_HOST` (R94, 03_energy_heat_ageing.md). -/
def Reg.EBS_CAP_HOST : Nat := 0x1200000
/-- `EBS_CAP_BMC` (R94, 03_energy_heat_ageing.md). -/
def Reg.EBS_CAP_BMC : Nat := 0x1200004
/-- `EBS_CAP_STATUS` (R72, 03_energy_heat_ageing.md). -/
def Reg.EBS_CAP_STATUS : Nat := 0x1200008
/-- `EBS_RESERVE` (R94, 03_energy_heat_ageing.md). -/
def Reg.EBS_RESERVE : Nat := 0x120000c
/-- `EBS_GSTRESS_CTRL` (R94, 03_energy_heat_ageing.md). -/
def Reg.EBS_GSTRESS_CTRL : Nat := 0x1200010
/-- `EBS_GSTRESS_L1` (R94, 03_energy_heat_ageing.md). -/
def Reg.EBS_GSTRESS_L1 : Nat := 0x1200014
/-- `EBS_GSTRESS_L2` (R94, 03_energy_heat_ageing.md). -/
def Reg.EBS_GSTRESS_L2 : Nat := 0x1200018
/-- `EBS_GSTRESS_L3` (R94, 03_energy_heat_ageing.md). -/
def Reg.EBS_GSTRESS_L3 : Nat := 0x120001c
/-- `EBS_THERMAL_CTRL` (R94, 03_energy_heat_ageing.md). -/
def Reg.EBS_THERMAL_CTRL : Nat := 0x1200020
/-- `EBS_TEMP` (R75, 03_energy_heat_ageing.md). -/
def Reg.EBS_TEMP : Nat := 0x1200024
/-- `EBS_STATUS` (R94, 03_energy_heat_ageing.md). -/
def Reg.EBS_STATUS : Nat := 0x1200028
/-- `EBS_THERMAL_TRIP` (R77, 03_energy_heat_ageing.md). -/
def Reg.EBS_THERMAL_TRIP : Nat := 0x120002c
/-- `EBS_WINDOW` (R62, 03_energy_heat_ageing.md). -/
def Reg.EBS_WINDOW : Nat := 0x1200030
/-- `EBS_COUNTS` (R94, 03_energy_heat_ageing.md). -/
def Reg.EBS_COUNTS (i : Nat) : Nat := 0x1200040 + i * 0x4
/-- `EBS_ENERGY_DEVICE_LO` (R79, 03_energy_heat_ageing.md). -/
def Reg.EBS_ENERGY_DEVICE_LO : Nat := 0x1200050
/-- `EBS_ENERGY_DEVICE_HI` (R79, 03_energy_heat_ageing.md). -/
def Reg.EBS_ENERGY_DEVICE_HI : Nat := 0x1200054
/-- `EBS_ETAB_FIXED0` (R68, 03_energy_heat_ageing.md). -/
def Reg.EBS_ETAB_FIXED0 : Nat := 0x1200100
/-- `EBS_ETAB_VAR0` (R68, 03_energy_heat_ageing.md). -/
def Reg.EBS_ETAB_VAR0 : Nat := 0x1200104
/-- `EBS_ETAB_FIXED1` (R68, 03_energy_heat_ageing.md). -/
def Reg.EBS_ETAB_FIXED1 : Nat := 0x1200108
/-- `EBS_ETAB_VAR1` (R68, 03_energy_heat_ageing.md). -/
def Reg.EBS_ETAB_VAR1 : Nat := 0x120010c
/-- `EBS_ETAB_FIXED2` (R68, 03_energy_heat_ageing.md). -/
def Reg.EBS_ETAB_FIXED2 : Nat := 0x1200110
/-- `EBS_ETAB_VAR2` (R68, 03_energy_heat_ageing.md). -/
def Reg.EBS_ETAB_VAR2 : Nat := 0x1200114
/-- `EBS_ETAB_FIXED3` (R68, 03_energy_heat_ageing.md). -/
def Reg.EBS_ETAB_FIXED3 : Nat := 0x1200118
/-- `EBS_ETAB_VAR3` (R68, 03_energy_heat_ageing.md). -/
def Reg.EBS_ETAB_VAR3 : Nat := 0x120011c
/-- `EBS_ETAB_FIXED4` (R68, 03_energy_heat_ageing.md). -/
def Reg.EBS_ETAB_FIXED4 : Nat := 0x1200120
/-- `EBS_ETAB_VAR4` (R68, 03_energy_heat_ageing.md). -/
def Reg.EBS_ETAB_VAR4 : Nat := 0x1200124
/-- `EBS_ETAB_FIXED5` (R68, 03_energy_heat_ageing.md). -/
def Reg.EBS_ETAB_FIXED5 : Nat := 0x1200128
/-- `EBS_ETAB_VAR5` (R68, 03_energy_heat_ageing.md). -/
def Reg.EBS_ETAB_VAR5 : Nat := 0x120012c
/-- `EBS_ETAB_FIXED6` (R68, 03_energy_heat_ageing.md). -/
def Reg.EBS_ETAB_FIXED6 : Nat := 0x1200130
/-- `EBS_ETAB_VAR6` (R68, 03_energy_heat_ageing.md). -/
def Reg.EBS_ETAB_VAR6 : Nat := 0x1200134
/-- `EBS_ETAB_FIXED7` (R68, 03_energy_heat_ageing.md). -/
def Reg.EBS_ETAB_FIXED7 : Nat := 0x1200138
/-- `EBS_ETAB_VAR7` (R68, 03_energy_heat_ageing.md). -/
def Reg.EBS_ETAB_VAR7 : Nat := 0x120013c
/-- `EBS_ETAB_RSVD` (R68, 03_energy_heat_ageing.md). -/
def Reg.EBS_ETAB_RSVD (i : Nat) : Nat := 0x1200140 + i * 0x4
/-- `EBS_SLICE_LIMITs` (R80, 03_energy_heat_ageing.md). -/
def Reg.EBS_SLICE_LIMITs (i : Nat) : Nat := 0x1240000 + i * 0x4
/-- `EBS_SLICE_ENERGYs` (R79, 03_energy_heat_ageing.md). -/
def Reg.EBS_SLICE_ENERGYs (i j : Nat) : Nat := 0x1280000 + i * 0x8 + j * 0x4
/-- `AGE_STATUS` (R95, 03_energy_heat_ageing.md). -/
def Reg.AGE_STATUS : Nat := 0x1300000
/-- `AGE_PLAN_VERSION` (R84, 03_energy_heat_ageing.md). -/
def Reg.AGE_PLAN_VERSION : Nat := 0x1300004
/-- `AGE_PENDING_VERSION` (R95, 03_energy_heat_ageing.md). -/
def Reg.AGE_PENDING_VERSION : Nat := 0x1300008
/-- `AGE_PLAN_DELAY` (R95, 03_energy_heat_ageing.md). -/
def Reg.AGE_PLAN_DELAY : Nat := 0x130000c
/-- `AGE_POWERED_HOURS` (R95, 03_energy_heat_ageing.md). -/
def Reg.AGE_POWERED_HOURS : Nat := 0x1300010
/-- `AGE_LIFE_H` (R95, 03_energy_heat_ageing.md). -/
def Reg.AGE_LIFE_H : Nat := 0x1300014
/-- `AGE_MONm` (R95, 03_energy_heat_ageing.md). -/
def Reg.AGE_MONm (i : Nat) : Nat := 0x1301000 + i * 0x4
/-- `AGE_PLAN_PEND` (R95, 03_energy_heat_ageing.md). -/
def Reg.AGE_PLAN_PEND (i : Nat) : Nat := 0x1310100 + i * 0x4
/-- `SLC_EVT_STATUS` (R191, 07_slices.md). -/
def Reg.SLC_EVT_STATUS : Nat := 0x400000
/-- `SLC_EVT_SLICE` (R191, 07_slices.md). -/
def Reg.SLC_EVT_SLICE : Nat := 0x400004
/-- `SLC_NOTIFY_VECTORf` (R191, 07_slices.md). -/
def Reg.SLC_NOTIFY_VECTORf (i : Nat) : Nat := 0x400010 + i * 0x4
/-- `SLC_CORK` (R191, 07_slices.md). -/
def Reg.SLC_CORK : Nat := 0x400020
/-- `SLC_STALE_DELIVERY` (R174, 07_slices.md). -/
def Reg.SLC_STALE_DELIVERY : Nat := 0x400024
/-- `SLC_DIRTY_USED` (R191, 07_slices.md). -/
def Reg.SLC_DIRTY_USED : Nat := 0x400028
/-- `SLC_DIRTY_MAX` (R191, 07_slices.md). -/
def Reg.SLC_DIRTY_MAX : Nat := 0x40002c
/-- `SLC_POOL_FREE0` (R169, 07_slices.md). -/
def Reg.SLC_POOL_FREE0 : Nat := 0x400100
/-- `SLC_POOL_FREE1` (R169, 07_slices.md). -/
def Reg.SLC_POOL_FREE1 : Nat := 0x400104
/-- `SLC_POOL_FREE2` (R169, 07_slices.md). -/
def Reg.SLC_POOL_FREE2 : Nat := 0x400108
/-- `SLC_POOL_FREE3` (R169, 07_slices.md). -/
def Reg.SLC_POOL_FREE3 : Nat := 0x40010c
/-- `SLC_POOL_FREE4` (R169, 07_slices.md). -/
def Reg.SLC_POOL_FREE4 : Nat := 0x400110
/-- `SLC_POOL_FREE5` (R169, 07_slices.md). -/
def Reg.SLC_POOL_FREE5 : Nat := 0x400114
/-- `SLC_POOL_FREE6` (R169, 07_slices.md). -/
def Reg.SLC_POOL_FREE6 : Nat := 0x400118
/-- `SLC_POOL_FREE7` (R169, 07_slices.md). -/
def Reg.SLC_POOL_FREE7 : Nat := 0x40011c
/-- `SLC_POOL_FREE8` (R169, 07_slices.md). -/
def Reg.SLC_POOL_FREE8 : Nat := 0x400120
/-- `SLC_POOL_FREE9` (R169, 07_slices.md). -/
def Reg.SLC_POOL_FREE9 : Nat := 0x400124
/-- `SLC_SLICE_STATUS` (R191, 07_slices.md). -/
def Reg.SLC_SLICE_STATUS (i j : Nat) : Nat := 0x420000 + i * 0x20 + j * 0x4
/-- `SLC_QUOTA2` (R191, 07_slices.md). -/
def Reg.SLC_QUOTA2 (i : Nat) : Nat := 0x420008 + i * 0x20
/-- `SLC_QUOTA3` (R191, 07_slices.md). -/
def Reg.SLC_QUOTA3 (i : Nat) : Nat := 0x42000c + i * 0x20
/-- `SLC_QUOTA4` (R191, 07_slices.md). -/
def Reg.SLC_QUOTA4 (i : Nat) : Nat := 0x420010 + i * 0x20
/-- `SLC_QUOTA5` (R191, 07_slices.md). -/
def Reg.SLC_QUOTA5 (i : Nat) : Nat := 0x420014 + i * 0x20
/-- `SLC_QUOTA6` (R191, 07_slices.md). -/
def Reg.SLC_QUOTA6 (i : Nat) : Nat := 0x420018 + i * 0x20
/-- `SLC_QUOTA7` (R191, 07_slices.md). -/
def Reg.SLC_QUOTA7 (i : Nat) : Nat := 0x42001c + i * 0x20
/-- `SLC_STATSs` (R185, 07_slices.md). -/
def Reg.SLC_STATSs (i j : Nat) : Nat := 0x460000 + i * 0x40 + j * 0x4
/-- `RNG_EVT_STATUS` (R225, 08_rings_dma.md). -/
def Reg.RNG_EVT_STATUS : Nat := 0x500000
/-- `RNG_EVT_QUEUE` (R225, 08_rings_dma.md). -/
def Reg.RNG_EVT_QUEUE : Nat := 0x500004
/-- `RNG_QSELm` (R225, 08_rings_dma.md). -/
def Reg.RNG_QSELm (i : Nat) : Nat := 0x500400 + i * 0x4
/-- `RNG_QCFGm` (R225, 08_rings_dma.md). -/
def Reg.RNG_QCFGm (i : Nat) : Nat := 0x500020 + i * 0x4
/-- `RNG_QSTATEm` (R225, 08_rings_dma.md). -/
def Reg.RNG_QSTATEm (i : Nat) : Nat := 0x500040 + i * 0x4
/-- `RNG_COUNTS` (R225, 08_rings_dma.md). -/
def Reg.RNG_COUNTS (i : Nat) : Nat := 0x500100 + i * 0x4
/-- `RNG_QCFG0` (R225, 08_rings_dma.md). -/
def Reg.RNG_QCFG0 (i j : Nat) : Nat := 0x20000000 + i * 0x800000 + j * 0x40
/-- `RNG_QCFG1` (R225, 08_rings_dma.md). -/
def Reg.RNG_QCFG1 (i j : Nat) : Nat := 0x20000004 + i * 0x800000 + j * 0x40
/-- `RNG_QCFG2` (R225, 08_rings_dma.md). -/
def Reg.RNG_QCFG2 (i j : Nat) : Nat := 0x20000008 + i * 0x800000 + j * 0x40
/-- `RNG_QCFG3` (R225, 08_rings_dma.md). -/
def Reg.RNG_QCFG3 (i j : Nat) : Nat := 0x2000000c + i * 0x800000 + j * 0x40
/-- `RNG_QSTATE0` (R225, 08_rings_dma.md). -/
def Reg.RNG_QSTATE0 (i j : Nat) : Nat := 0x20000010 + i * 0x800000 + j * 0x40
/-- `RNG_QSTATE1` (R225, 08_rings_dma.md). -/
def Reg.RNG_QSTATE1 (i j : Nat) : Nat := 0x20000014 + i * 0x800000 + j * 0x40
/-- `RNG_QSTATE2` (R225, 08_rings_dma.md). -/
def Reg.RNG_QSTATE2 (i j : Nat) : Nat := 0x20000018 + i * 0x800000 + j * 0x40
/-- `RNG_QSTATE3` (R225, 08_rings_dma.md). -/
def Reg.RNG_QSTATE3 (i j : Nat) : Nat := 0x2000001c + i * 0x800000 + j * 0x40
/-- `DMA_CHc_BASE_LO` (R226, 08_rings_dma.md). -/
def Reg.DMA_CHc_BASE_LO (i : Nat) : Nat := 0x600000 + i * 0x40
/-- `DMA_CHc_BASE_HI` (R226, 08_rings_dma.md). -/
def Reg.DMA_CHc_BASE_HI (i : Nat) : Nat := 0x600004 + i * 0x40
/-- `DMA_CHc_CTRL` (R226, 08_rings_dma.md). -/
def Reg.DMA_CHc_CTRL (i : Nat) : Nat := 0x600008 + i * 0x40
/-- `DMA_CHc_IRQ` (R226, 08_rings_dma.md). -/
def Reg.DMA_CHc_IRQ (i : Nat) : Nat := 0x60000c + i * 0x40
/-- `DMA_CHc_OWNER` (R226, 08_rings_dma.md). -/
def Reg.DMA_CHc_OWNER (i : Nat) : Nat := 0x600010 + i * 0x40
/-- `DMA_CHc_KICK` (R226, 08_rings_dma.md). -/
def Reg.DMA_CHc_KICK (i : Nat) : Nat := 0x600014 + i * 0x40
/-- `DMA_CHc_DISABLE` (R226, 08_rings_dma.md). -/
def Reg.DMA_CHc_DISABLE (i : Nat) : Nat := 0x600018 + i * 0x40
/-- `DMA_CHc_STATE` (R226, 08_rings_dma.md). -/
def Reg.DMA_CHc_STATE (i : Nat) : Nat := 0x60001c + i * 0x40
/-- `DMA_CHc_LAST` (R226, 08_rings_dma.md). -/
def Reg.DMA_CHc_LAST (i : Nat) : Nat := 0x600020 + i * 0x40
/-- `DMA_CHc_LAST_DONE` (R226, 08_rings_dma.md). -/
def Reg.DMA_CHc_LAST_DONE (i : Nat) : Nat := 0x600024 + i * 0x40
/-- `DMA_CHc_EVT` (R226, 08_rings_dma.md). -/
def Reg.DMA_CHc_EVT (i : Nat) : Nat := 0x600028 + i * 0x40
/-- `DMA_EVT_STATUS` (R226, 08_rings_dma.md). -/
def Reg.DMA_EVT_STATUS : Nat := 0x601000
/-- `DMA_EVT_CHANNEL` (R226, 08_rings_dma.md). -/
def Reg.DMA_EVT_CHANNEL : Nat := 0x601004
/-- `DMA_PEND` (R226, 08_rings_dma.md). -/
def Reg.DMA_PEND (i : Nat) : Nat := 0x601010 + i * 0x4
/-- `AGE_PLAN_CUR0` (R84, 03_energy_heat_ageing.md). -/
def Reg.AGE_PLAN_CUR0 : Nat := 0x1310000
/-- `AGE_PLAN_CUR1` (R84, 03_energy_heat_ageing.md). -/
def Reg.AGE_PLAN_CUR1 : Nat := 0x1310004
/-- `AGE_PLAN_CUR2` (R84, 03_energy_heat_ageing.md). -/
def Reg.AGE_PLAN_CUR2 : Nat := 0x1310008
/-- `AGE_PLAN_CUR3` (R84, 03_energy_heat_ageing.md). -/
def Reg.AGE_PLAN_CUR3 : Nat := 0x131000c
/-- `AGE_PLAN_CUR4` (R84, 03_energy_heat_ageing.md). -/
def Reg.AGE_PLAN_CUR4 : Nat := 0x1310010
/-- `AGE_PLAN_CUR5` (R84, 03_energy_heat_ageing.md). -/
def Reg.AGE_PLAN_CUR5 : Nat := 0x1310014
/-- `AGE_PLAN_CUR6` (R84, 03_energy_heat_ageing.md). -/
def Reg.AGE_PLAN_CUR6 : Nat := 0x1310018
/-- `AGE_PLAN_CUR7` (R84, 03_energy_heat_ageing.md). -/
def Reg.AGE_PLAN_CUR7 : Nat := 0x131001c
/-- `AGE_PLAN_CUR8` (R84, 03_energy_heat_ageing.md). -/
def Reg.AGE_PLAN_CUR8 : Nat := 0x1310020
/-- `AGE_PLAN_CUR9` (R84, 03_energy_heat_ageing.md). -/
def Reg.AGE_PLAN_CUR9 : Nat := 0x1310024
/-- `AGE_PLAN_CUR10` (R84, 03_energy_heat_ageing.md). -/
def Reg.AGE_PLAN_CUR10 : Nat := 0x1310028
/-- `AGE_PLAN_CUR11` (R84, 03_energy_heat_ageing.md). -/
def Reg.AGE_PLAN_CUR11 : Nat := 0x131002c
/-- `AGE_PLAN_CUR12` (R84, 03_energy_heat_ageing.md). -/
def Reg.AGE_PLAN_CUR12 : Nat := 0x1310030
/-- `AGE_PLAN_CUR13` (R84, 03_energy_heat_ageing.md). -/
def Reg.AGE_PLAN_CUR13 : Nat := 0x1310034
/-- `AGE_PLAN_CUR14` (R84, 03_energy_heat_ageing.md). -/
def Reg.AGE_PLAN_CUR14 : Nat := 0x1310038
/-- `AGE_PLAN_CUR15` (R84, 03_energy_heat_ageing.md). -/
def Reg.AGE_PLAN_CUR15 : Nat := 0x131003c
/-- `AGE_PLAN_CUR16` (R84, 03_energy_heat_ageing.md). -/
def Reg.AGE_PLAN_CUR16 : Nat := 0x1310040
/-- `AGE_PLAN_CUR17` (R84, 03_energy_heat_ageing.md). -/
def Reg.AGE_PLAN_CUR17 : Nat := 0x1310044
/-- `AGE_PLAN_CUR18` (R84, 03_energy_heat_ageing.md). -/
def Reg.AGE_PLAN_CUR18 : Nat := 0x1310048
/-- `AGE_PLAN_CUR19` (R84, 03_energy_heat_ageing.md). -/
def Reg.AGE_PLAN_CUR19 : Nat := 0x131004c
/-- `AGE_PLAN_CUR20` (R84, 03_energy_heat_ageing.md). -/
def Reg.AGE_PLAN_CUR20 : Nat := 0x1310050
/-- `AGE_PLAN_CUR21` (R84, 03_energy_heat_ageing.md). -/
def Reg.AGE_PLAN_CUR21 : Nat := 0x1310054
/-- `AGE_PLAN_CUR22` (R84, 03_energy_heat_ageing.md). -/
def Reg.AGE_PLAN_CUR22 : Nat := 0x1310058
/-- `AGE_PLAN_CUR23` (R84, 03_energy_heat_ageing.md). -/
def Reg.AGE_PLAN_CUR23 : Nat := 0x131005c
/-- `AGE_PLAN_CUR24` (R84, 03_energy_heat_ageing.md). -/
def Reg.AGE_PLAN_CUR24 : Nat := 0x1310060
/-- `AGE_PLAN_CUR25` (R84, 03_energy_heat_ageing.md). -/
def Reg.AGE_PLAN_CUR25 : Nat := 0x1310064
/-- `AGE_PLAN_CUR26` (R84, 03_energy_heat_ageing.md). -/
def Reg.AGE_PLAN_CUR26 : Nat := 0x1310068
/-- `AGE_PLAN_CUR27` (R84, 03_energy_heat_ageing.md). -/
def Reg.AGE_PLAN_CUR27 : Nat := 0x131006c
/-- `AGE_PLAN_CUR28` (R84, 03_energy_heat_ageing.md). -/
def Reg.AGE_PLAN_CUR28 : Nat := 0x1310070
/-- `AGE_PLAN_CUR29` (R84, 03_energy_heat_ageing.md). -/
def Reg.AGE_PLAN_CUR29 : Nat := 0x1310074
/-- `AGE_PLAN_CUR30` (R84, 03_energy_heat_ageing.md). -/
def Reg.AGE_PLAN_CUR30 : Nat := 0x1310078
/-- `AGE_PLAN_CUR31` (R84, 03_energy_heat_ageing.md). -/
def Reg.AGE_PLAN_CUR31 : Nat := 0x131007c
/-- `AGE_PLAN_CUR32` (R84, 03_energy_heat_ageing.md). -/
def Reg.AGE_PLAN_CUR32 : Nat := 0x1310080
/-- `AGE_PLAN_CUR33` (R84, 03_energy_heat_ageing.md). -/
def Reg.AGE_PLAN_CUR33 : Nat := 0x1310084
/-- `AGE_PLAN_CUR34` (R84, 03_energy_heat_ageing.md). -/
def Reg.AGE_PLAN_CUR34 : Nat := 0x1310088
/-- `AGE_PLAN_CUR35` (R84, 03_energy_heat_ageing.md). -/
def Reg.AGE_PLAN_CUR35 : Nat := 0x131008c
/-- `AGE_PLAN_CUR36` (R84, 03_energy_heat_ageing.md). -/
def Reg.AGE_PLAN_CUR36 : Nat := 0x1310090
/-- `AGE_PLAN_CUR37` (R84, 03_energy_heat_ageing.md). -/
def Reg.AGE_PLAN_CUR37 : Nat := 0x1310094
/-- `AGE_PLAN_CUR38` (R84, 03_energy_heat_ageing.md). -/
def Reg.AGE_PLAN_CUR38 : Nat := 0x1310098
/-- `AGE_PLAN_CUR39` (R84, 03_energy_heat_ageing.md). -/
def Reg.AGE_PLAN_CUR39 : Nat := 0x131009c
/-- `AGE_PLAN_CUR40` (R84, 03_energy_heat_ageing.md). -/
def Reg.AGE_PLAN_CUR40 : Nat := 0x13100a0
/-- `AGE_PLAN_CUR41` (R84, 03_energy_heat_ageing.md). -/
def Reg.AGE_PLAN_CUR41 : Nat := 0x13100a4
/-- `AGE_PLAN_CUR42` (R84, 03_energy_heat_ageing.md). -/
def Reg.AGE_PLAN_CUR42 : Nat := 0x13100a8
/-- `AGE_PLAN_CUR43` (R84, 03_energy_heat_ageing.md). -/
def Reg.AGE_PLAN_CUR43 : Nat := 0x13100ac
/-- `AGE_PLAN_CUR44` (R84, 03_energy_heat_ageing.md). -/
def Reg.AGE_PLAN_CUR44 : Nat := 0x13100b0
/-- `AGE_PLAN_CUR45` (R84, 03_energy_heat_ageing.md). -/
def Reg.AGE_PLAN_CUR45 : Nat := 0x13100b4
/-- `AGE_PLAN_CUR46` (R84, 03_energy_heat_ageing.md). -/
def Reg.AGE_PLAN_CUR46 : Nat := 0x13100b8
/-- `AGE_PLAN_CUR47` (R84, 03_energy_heat_ageing.md). -/
def Reg.AGE_PLAN_CUR47 : Nat := 0x13100bc
/-- `AGE_PLAN_CUR48` (R84, 03_energy_heat_ageing.md). -/
def Reg.AGE_PLAN_CUR48 : Nat := 0x13100c0
/-- `AGE_PLAN_CUR49` (R84, 03_energy_heat_ageing.md). -/
def Reg.AGE_PLAN_CUR49 : Nat := 0x13100c4
/-- `AGE_PLAN_CUR50` (R84, 03_energy_heat_ageing.md). -/
def Reg.AGE_PLAN_CUR50 : Nat := 0x13100c8
/-- `AGE_PLAN_CUR51` (R84, 03_energy_heat_ageing.md). -/
def Reg.AGE_PLAN_CUR51 : Nat := 0x13100cc
/-- `AGE_PLAN_CUR52` (R84, 03_energy_heat_ageing.md). -/
def Reg.AGE_PLAN_CUR52 : Nat := 0x13100d0
/-- `AGE_PLAN_CUR53` (R84, 03_energy_heat_ageing.md). -/
def Reg.AGE_PLAN_CUR53 : Nat := 0x13100d4
/-- `AGE_PLAN_CUR54` (R84, 03_energy_heat_ageing.md). -/
def Reg.AGE_PLAN_CUR54 : Nat := 0x13100d8
/-- `AGE_PLAN_CUR55` (R84, 03_energy_heat_ageing.md). -/
def Reg.AGE_PLAN_CUR55 : Nat := 0x13100dc
/-- `AGE_PLAN_CUR56` (R84, 03_energy_heat_ageing.md). -/
def Reg.AGE_PLAN_CUR56 : Nat := 0x13100e0
/-- `AGE_PLAN_CUR57` (R84, 03_energy_heat_ageing.md). -/
def Reg.AGE_PLAN_CUR57 : Nat := 0x13100e4
/-- `AGE_PLAN_CUR58` (R84, 03_energy_heat_ageing.md). -/
def Reg.AGE_PLAN_CUR58 : Nat := 0x13100e8
/-- `AGE_PLAN_CUR59` (R84, 03_energy_heat_ageing.md). -/
def Reg.AGE_PLAN_CUR59 : Nat := 0x13100ec
/-- `AGE_PLAN_CUR60` (R84, 03_energy_heat_ageing.md). -/
def Reg.AGE_PLAN_CUR60 : Nat := 0x13100f0
/-- `AGE_PLAN_CUR61` (R84, 03_energy_heat_ageing.md). -/
def Reg.AGE_PLAN_CUR61 : Nat := 0x13100f4
/-- `AGE_PLAN_CUR62` (R84, 03_energy_heat_ageing.md). -/
def Reg.AGE_PLAN_CUR62 : Nat := 0x13100f8
/-- `AGE_PLAN_CUR63` (R84, 03_energy_heat_ageing.md). -/
def Reg.AGE_PLAN_CUR63 : Nat := 0x13100fc
/-- `MAC_PAIRk` (R418, 16_ports.md). -/
def Reg.MAC_PAIRk (i : Nat) : Nat := 0xf00800 + i * 0x4
/-- `SCH_REFILL_NS` (R393, 15_egress_scheduling.md). -/
def Reg.SCH_REFILL_NS : Nat := 0xe00000
/-- `SCH_CLASS_TC` (R393, 15_egress_scheduling.md). -/
def Reg.SCH_CLASS_TC : Nat := 0xe00004
/-- `SCH_HOST_DEFAULT` (R393, 15_egress_scheduling.md). -/
def Reg.SCH_HOST_DEFAULT : Nat := 0xe00008
/-- `SCH_RXNODEs` (R393, 15_egress_scheduling.md). -/
def Reg.SCH_RXNODEs (i : Nat) : Nat := 0xe20000 + i * 0x4
/-- `SCH_NSELm` (R393, 15_egress_scheduling.md). -/
def Reg.SCH_NSELm (i : Nat) : Nat := 0xe00100 + i * 0x4
/-- `SCH_NCFGm` (R393, 15_egress_scheduling.md). -/
def Reg.SCH_NCFGm (i : Nat) : Nat := 0xe00200 + i * 0x4
/-- `SCH_NSTATEm` (R393, 15_egress_scheduling.md). -/
def Reg.SCH_NSTATEm (i : Nat) : Nat := 0xe00240 + i * 0x4
/-- `SCH_NCFG0` (R393, 15_egress_scheduling.md). -/
def Reg.SCH_NCFG0 (i : Nat) : Nat := 0x30000000 + i * 0x20
/-- `SCH_NCFG0_OTHER` (R393, 15_egress_scheduling.md). -/
def Reg.SCH_NCFG0_OTHER (i : Nat) : Nat := 0x30000240 + i * 0x20
/-- `SCH_NCFG1` (R393, 15_egress_scheduling.md). -/
def Reg.SCH_NCFG1 (i : Nat) : Nat := 0x30000004 + i * 0x20
/-- `SCH_NCFG1_OTHER` (R393, 15_egress_scheduling.md). -/
def Reg.SCH_NCFG1_OTHER (i : Nat) : Nat := 0x30000244 + i * 0x20
/-- `SCH_NCFG2` (R393, 15_egress_scheduling.md). -/
def Reg.SCH_NCFG2 (i : Nat) : Nat := 0x30000008 + i * 0x20
/-- `SCH_NCFG2_OTHER` (R393, 15_egress_scheduling.md). -/
def Reg.SCH_NCFG2_OTHER (i : Nat) : Nat := 0x30000248 + i * 0x20
/-- `SCH_NCFG3` (R393, 15_egress_scheduling.md). -/
def Reg.SCH_NCFG3 (i : Nat) : Nat := 0x3000000c + i * 0x20
/-- `SCH_NCFG3_OTHER` (R393, 15_egress_scheduling.md). -/
def Reg.SCH_NCFG3_OTHER (i : Nat) : Nat := 0x3000024c + i * 0x20
/-- `SCH_NCFG4` (R393, 15_egress_scheduling.md). -/
def Reg.SCH_NCFG4 (i : Nat) : Nat := 0x30000010 + i * 0x20
/-- `SCH_NCFG4_OTHER` (R393, 15_egress_scheduling.md). -/
def Reg.SCH_NCFG4_OTHER (i : Nat) : Nat := 0x30000250 + i * 0x20
/-- `SCH_NSTATE0` (R393, 15_egress_scheduling.md). -/
def Reg.SCH_NSTATE0 (i : Nat) : Nat := 0x30000014 + i * 0x20
/-- `SCH_NSTATE0_OTHER` (R393, 15_egress_scheduling.md). -/
def Reg.SCH_NSTATE0_OTHER (i : Nat) : Nat := 0x30000254 + i * 0x20
/-- `SCH_NSTATE1` (R393, 15_egress_scheduling.md). -/
def Reg.SCH_NSTATE1 (i : Nat) : Nat := 0x30000018 + i * 0x20
/-- `SCH_NSTATE1_OTHER` (R393, 15_egress_scheduling.md). -/
def Reg.SCH_NSTATE1_OTHER (i : Nat) : Nat := 0x30000258 + i * 0x20
/-- `SCH_NSTATE2` (R393, 15_egress_scheduling.md). -/
def Reg.SCH_NSTATE2 (i : Nat) : Nat := 0x3000001c + i * 0x20
/-- `SCH_NSTATE2_OTHER` (R393, 15_egress_scheduling.md). -/
def Reg.SCH_NSTATE2_OTHER (i : Nat) : Nat := 0x3000025c + i * 0x20
/-- `SCH_PORTp_CTRL` (R393, 15_egress_scheduling.md). -/
def Reg.SCH_PORTp_CTRL (i : Nat) : Nat := 0xe10000 + i * 0x400
/-- `SCH_PORTp_CTRL_HOST` (R393, 15_egress_scheduling.md). -/
def Reg.SCH_PORTp_CTRL_HOST (i : Nat) : Nat := 0xe14000 + i * 0x400
/-- `SCH_PORTp_GCTRL` (R393, 15_egress_scheduling.md). -/
def Reg.SCH_PORTp_GCTRL (i : Nat) : Nat := 0xe10004 + i * 0x400
/-- `SCH_PORTp_GSTATE` (R393, 15_egress_scheduling.md). -/
def Reg.SCH_PORTp_GSTATE (i : Nat) : Nat := 0xe10008 + i * 0x400
/-- `SCH_GATE_SHADOW` (R393, 15_egress_scheduling.md). -/
def Reg.SCH_GATE_SHADOW (i j : Nat) : Nat := 0xe10100 + i * 0x400 + j * 0x4
/-- `SCH_GATE_ACTIVE` (R393, 15_egress_scheduling.md). -/
def Reg.SCH_GATE_ACTIVE (i j : Nat) : Nat := 0xe10200 + i * 0x400 + j * 0x4
/-- `SCH_GATE_PEND` (R393, 15_egress_scheduling.md). -/
def Reg.SCH_GATE_PEND : Nat := 0xe18000
/-- `SCH_EVT_STATUS` (R394, 15_egress_scheduling.md). -/
def Reg.SCH_EVT_STATUS (i : Nat) : Nat := 0xec0000 + i * 0x10000
/-- `SCH_EVT_PORT` (R394, 15_egress_scheduling.md). -/
def Reg.SCH_EVT_PORT (i : Nat) : Nat := 0xec0004 + i * 0x10000
/-- `SCH_COUNTS` (R394, 15_egress_scheduling.md). -/
def Reg.SCH_COUNTS (i j : Nat) : Nat := 0xec0100 + i * 0x10000 + j * 0x4
/-- `PRS_CTRL` (R250, 09_press.md). -/
def Reg.PRS_CTRL : Nat := 0x700000
/-- `PRS_NOMATCH_TARGET` (R250, 09_press.md). -/
def Reg.PRS_NOMATCH_TARGET : Nat := 0x700004
/-- `PRS_TPID` (R250, 09_press.md). -/
def Reg.PRS_TPID : Nat := 0x700010
/-- `PRS_TPID2` (R250, 09_press.md). -/
def Reg.PRS_TPID2 : Nat := 0x700014
/-- `PRS_TUNNEL_PORTS` (R250, 09_press.md). -/
def Reg.PRS_TUNNEL_PORTS : Nat := 0x700018
/-- `PRS_FRAG_CTRL` (R250, 09_press.md). -/
def Reg.PRS_FRAG_CTRL : Nat := 0x70001c
/-- `PRS_FRAG_STATUS` (R250, 09_press.md). -/
def Reg.PRS_FRAG_STATUS : Nat := 0x700040
/-- `PRS_PROFp_SEL0` (R250, 09_press.md). -/
def Reg.PRS_PROFp_SEL0 (i : Nat) : Nat := 0x710000 + i * 0x200
/-- `PRS_PROFp_SEL1` (R250, 09_press.md). -/
def Reg.PRS_PROFp_SEL1 (i : Nat) : Nat := 0x710004 + i * 0x200
/-- `PRS_PROFp_SEL2` (R250, 09_press.md). -/
def Reg.PRS_PROFp_SEL2 (i : Nat) : Nat := 0x710008 + i * 0x200
/-- `PRS_PROFp_CTRL` (R250, 09_press.md). -/
def Reg.PRS_PROFp_CTRL (i : Nat) : Nat := 0x71000c + i * 0x200
/-- `PRS_PROFp_EXC_TARGET` (R250, 09_press.md). -/
def Reg.PRS_PROFp_EXC_TARGET (i : Nat) : Nat := 0x710010 + i * 0x200
/-- `PRS_PROFp_EXC_MASK` (R250, 09_press.md). -/
def Reg.PRS_PROFp_EXC_MASK (i : Nat) : Nat := 0x710014 + i * 0x200
/-- `PRS_PROFp_EXTe` (R235, 09_press.md). -/
def Reg.PRS_PROFp_EXTe (i j : Nat) : Nat := 0x710080 + i * 0x200 + j * 0x4
/-- `PRS_PROFp_KEYMASKj` (R250, 09_press.md). -/
def Reg.PRS_PROFp_KEYMASKj (i j : Nat) : Nat := 0x710100 + i * 0x200 + j * 0x4
/-- `PRS_PROFp_HASHMASKj` (R250, 09_press.md). -/
def Reg.PRS_PROFp_HASHMASKj (i j : Nat) : Nat := 0x710140 + i * 0x200 + j * 0x4
/-- `PRS_EVT_STATUS` (R251, 09_press.md). -/
def Reg.PRS_EVT_STATUS (i : Nat) : Nat := 0x7c0000 + i * 0x10000
/-- `PRS_COUNTS` (R251, 09_press.md). -/
def Reg.PRS_COUNTS (i j : Nat) : Nat := 0x7c0100 + i * 0x10000 + j * 0x4
/-- `PRS_PROF_HITSp` (R251, 09_press.md). -/
def Reg.PRS_PROF_HITSp (i j : Nat) : Nat := 0x7c0200 + i * 0x10000 + j * 0x4
/-- `CLS_CTRL` (R275, 10_rules.md). -/
def Reg.CLS_CTRL : Nat := 0x800000
/-- `CLS_EXC_TARGET` (R275, 10_rules.md). -/
def Reg.CLS_EXC_TARGET : Nat := 0x800004
/-- `CLS_SWAP_LEAD` (R275, 10_rules.md). -/
def Reg.CLS_SWAP_LEAD : Nat := 0x800008
/-- `CLS_VINTAGE` (R275, 10_rules.md). -/
def Reg.CLS_VINTAGE : Nat := 0x800010
/-- `CLS_VINTAGE_OLD` (R275, 10_rules.md). -/
def Reg.CLS_VINTAGE_OLD : Nat := 0x800014
/-- `CLS_DRAIN` (R275, 10_rules.md). -/
def Reg.CLS_DRAIN : Nat := 0x800018
/-- `CLS_SWAP_STATUS` (R275, 10_rules.md). -/
def Reg.CLS_SWAP_STATUS : Nat := 0x800020
/-- `CLS_SWAP_EVT` (R275, 10_rules.md). -/
def Reg.CLS_SWAP_EVT : Nat := 0x800024
/-- `CLS_TBLt_CFG` (R275, 10_rules.md). -/
def Reg.CLS_TBLt_CFG (i : Nat) : Nat := 0x801000 + i * 0x20
/-- `CLS_TBLt_BASE` (R275, 10_rules.md). -/
def Reg.CLS_TBLt_BASE (i : Nat) : Nat := 0x801004 + i * 0x20
/-- `CLS_TBLt_SIZE` (R275, 10_rules.md). -/
def Reg.CLS_TBLt_SIZE (i : Nat) : Nat := 0x801008 + i * 0x20
/-- `CLS_TBLt_SEED` (R275, 10_rules.md). -/
def Reg.CLS_TBLt_SEED (i : Nat) : Nat := 0x80100c + i * 0x20
/-- `CLS_TBLt_STATUS` (R275, 10_rules.md). -/
def Reg.CLS_TBLt_STATUS (i : Nat) : Nat := 0x801010 + i * 0x20
/-- `CLS_TBLt_OVF` (R275, 10_rules.md). -/
def Reg.CLS_TBLt_OVF (i : Nat) : Nat := 0x801014 + i * 0x20
/-- `CLS_PMAPp_CTRL` (R275, 10_rules.md). -/
def Reg.CLS_PMAPp_CTRL (i : Nat) : Nat := 0x802000 + i * 0x10
/-- `CLS_PMAPp_MISS` (R275, 10_rules.md). -/
def Reg.CLS_PMAPp_MISS (i j : Nat) : Nat := 0x802004 + i * 0x10 + j * 0x4
/-- `CLS_ENT_CMD` (R275, 10_rules.md). -/
def Reg.CLS_ENT_CMD : Nat := 0x803000
/-- `CLS_ENT_ADDR` (R275, 10_rules.md). -/
def Reg.CLS_ENT_ADDR : Nat := 0x803004
/-- `CLS_ENT_DATA` (R275, 10_rules.md). -/
def Reg.CLS_ENT_DATA (i : Nat) : Nat := 0x803040 + i * 0x4
/-- `CLS_EVT_STATUS` (R276, 10_rules.md). -/
def Reg.CLS_EVT_STATUS (i : Nat) : Nat := 0x8c0000 + i * 0x10000
/-- `CLS_RECIRC_DEPTH01` (R276, 10_rules.md). -/
def Reg.CLS_RECIRC_DEPTH01 (i : Nat) : Nat := 0x8c0010 + i * 0x10000
/-- `CLS_RECIRC_DEPTH23` (R276, 10_rules.md). -/
def Reg.CLS_RECIRC_DEPTH23 (i : Nat) : Nat := 0x8c0014 + i * 0x10000
/-- `CLS_DRAIN_PIPE` (R276, 10_rules.md). -/
def Reg.CLS_DRAIN_PIPE (i : Nat) : Nat := 0x8c0018 + i * 0x10000
/-- `CLS_COUNTS` (R276, 10_rules.md). -/
def Reg.CLS_COUNTS (i j : Nat) : Nat := 0x8c0100 + i * 0x10000 + j * 0x4
/-- `FWD_CTRL` (R302, 11_forwarding.md). -/
def Reg.FWD_CTRL : Nat := 0x900000
/-- `FWD_EXC_TARGET` (R302, 11_forwarding.md). -/
def Reg.FWD_EXC_TARGET : Nat := 0x900004
/-- `FWD_FLOW_BASE_LO` (R302, 11_forwarding.md). -/
def Reg.FWD_FLOW_BASE_LO : Nat := 0x900010
/-- `FWD_FLOW_BASE_HI` (R302, 11_forwarding.md). -/
def Reg.FWD_FLOW_BASE_HI : Nat := 0x900014
/-- `FWD_FLOW_SIZE` (R302, 11_forwarding.md). -/
def Reg.FWD_FLOW_SIZE : Nat := 0x900018
/-- `FWD_FLOW_SEED` (R302, 11_forwarding.md). -/
def Reg.FWD_FLOW_SEED : Nat := 0x90001c
/-- `FWD_L2_SEED` (R302, 11_forwarding.md). -/
def Reg.FWD_L2_SEED : Nat := 0x900020
/-- `FWD_FLOW_MISS` (R302, 11_forwarding.md). -/
def Reg.FWD_FLOW_MISS (i : Nat) : Nat := 0x900030 + i * 0x4
/-- `FWD_LPM_MISS` (R302, 11_forwarding.md). -/
def Reg.FWD_LPM_MISS (i : Nat) : Nat := 0x900038 + i * 0x4
/-- `FWD_LEARN_STATUS` (R302, 11_forwarding.md). -/
def Reg.FWD_LEARN_STATUS : Nat := 0x900080
/-- `FWD_LEARN_SEQ` (R302, 11_forwarding.md). -/
def Reg.FWD_LEARN_SEQ : Nat := 0x900084
/-- `FWD_PORT_NODEp` (R302, 11_forwarding.md). -/
def Reg.FWD_PORT_NODEp (i : Nat) : Nat := 0x900100 + i * 0x4
/-- `FWD_SMACi` (R302, 11_forwarding.md). -/
def Reg.FWD_SMACi (i j : Nat) : Nat := 0x901000 + i * 0x8 + j * 0x4
/-- `FWD_TCMD` (R302, 11_forwarding.md). -/
def Reg.FWD_TCMD : Nat := 0x902000
/-- `FWD_TADDR` (R302, 11_forwarding.md). -/
def Reg.FWD_TADDR : Nat := 0x902004
/-- `FWD_TRESULT` (R302, 11_forwarding.md). -/
def Reg.FWD_TRESULT : Nat := 0x902008
/-- `FWD_TDATA` (R302, 11_forwarding.md). -/
def Reg.FWD_TDATA (i : Nat) : Nat := 0x902040 + i * 0x4
/-- `FWD_BDb_MISS` (R302, 11_forwarding.md). -/
def Reg.FWD_BDb_MISS (i j : Nat) : Nat := 0x910000 + i * 0x8 + j * 0x4
/-- `FWD_NHn` (R302, 11_forwarding.md). -/
def Reg.FWD_NHn (i j : Nat) : Nat := 0x940000 + i * 0x10 + j * 0x4
/-- `FWD_EVT_STATUS` (R303, 11_forwarding.md). -/
def Reg.FWD_EVT_STATUS (i : Nat) : Nat := 0x9c0000 + i * 0x10000
/-- `FWD_COUNTS` (R303, 11_forwarding.md). -/
def Reg.FWD_COUNTS (i j : Nat) : Nat := 0x9c0100 + i * 0x10000 + j * 0x4
/-- `TCM_CTRL` (R304, 11_forwarding.md). -/
def Reg.TCM_CTRL : Nat := 0xa00000
/-- `TCM_STATUS` (R304, 11_forwarding.md). -/
def Reg.TCM_STATUS : Nat := 0xa00010
/-- `TCM_FREE6` (R304, 11_forwarding.md). -/
def Reg.TCM_FREE6 : Nat := 0xa00014
/-- `TCM_CMD` (R304, 11_forwarding.md). -/
def Reg.TCM_CMD : Nat := 0xa00100
/-- `TCM_ADDR` (R304, 11_forwarding.md). -/
def Reg.TCM_ADDR : Nat := 0xa00104
/-- `TCM_DATA` (R304, 11_forwarding.md). -/
def Reg.TCM_DATA (i : Nat) : Nat := 0xa00140 + i * 0x4
/-- `TCM_COUNTS` (R304, 11_forwarding.md). -/
def Reg.TCM_COUNTS (i j : Nat) : Nat := 0xac0100 + i * 0x10000 + j * 0x4
/-- `FPC_CLc_CTRL` (R334, 12_flow_processors.md). -/
def Reg.FPC_CLc_CTRL (i : Nat) : Nat := 0xb00000 + i * 0x100
/-- `FPC_CLc_EXTERNAL` (R334, 12_flow_processors.md). -/
def Reg.FPC_CLc_EXTERNAL (i : Nat) : Nat := 0xb00004 + i * 0x100
/-- `FPC_CLc_NOTICE` (R334, 12_flow_processors.md). -/
def Reg.FPC_CLc_NOTICE (i : Nat) : Nat := 0xb00008 + i * 0x100
/-- `FPC_CLc_NOTICE_IDX` (R334, 12_flow_processors.md). -/
def Reg.FPC_CLc_NOTICE_IDX (i : Nat) : Nat := 0xb0000c + i * 0x100
/-- `FPC_CLc_CORES` (R334, 12_flow_processors.md). -/
def Reg.FPC_CLc_CORES (i : Nat) : Nat := 0xb00010 + i * 0x100
/-- `FPC_CLc_SPARE` (R334, 12_flow_processors.md). -/
def Reg.FPC_CLc_SPARE (i : Nat) : Nat := 0xb00014 + i * 0x100
/-- `FPC_CLc_RETIRE` (R334, 12_flow_processors.md). -/
def Reg.FPC_CLc_RETIRE (i : Nat) : Nat := 0xb00018 + i * 0x100
/-- `FPC_CLc_EVT` (R334, 12_flow_processors.md). -/
def Reg.FPC_CLc_EVT (i : Nat) : Nat := 0xb0001c + i * 0x100
/-- `FPC_CLc_COUNTS` (R334, 12_flow_processors.md). -/
def Reg.FPC_CLc_COUNTS (i j : Nat) : Nat := 0xb00020 + i * 0x100 + j * 0x4
/-- `FPC_SELm` (R334, 12_flow_processors.md). -/
def Reg.FPC_SELm (i : Nat) : Nat := 0xb01000 + i * 0x4
/-- `FPC_THRWIN` (R335, 12_flow_processors.md). -/
def Reg.FPC_THRWIN (i : Nat) : Nat := 0xb10000 + i * 0x4
/-- `FPC_CHWIN` (R335, 12_flow_processors.md). -/
def Reg.FPC_CHWIN (i : Nat) : Nat := 0xb20000 + i * 0x4
/-- `FPC_IMEMWIN` (R335, 12_flow_processors.md). -/
def Reg.FPC_IMEMWIN (i : Nat) : Nat := 0xb40000 + i * 0x4
/-- `FPC_DMEMWIN` (R335, 12_flow_processors.md). -/
def Reg.FPC_DMEMWIN (i : Nat) : Nat := 0xb80000 + i * 0x4
/-- `FPC_THR_ENTRY` (R334, 12_flow_processors.md). -/
def Reg.FPC_THR_ENTRY (i j : Nat) : Nat := 0x40000000 + i * 0x100000 + j * 0x40
/-- `FPC_THR_CFG` (R334, 12_flow_processors.md). -/
def Reg.FPC_THR_CFG (i j : Nat) : Nat := 0x40000004 + i * 0x100000 + j * 0x40
/-- `FPC_THR_STATE` (R334, 12_flow_processors.md). -/
def Reg.FPC_THR_STATE (i j : Nat) : Nat := 0x40000008 + i * 0x100000 + j * 0x40
/-- `FPC_THR_EVENTS` (R334, 12_flow_processors.md). -/
def Reg.FPC_THR_EVENTS (i j : Nat) : Nat := 0x4000000c + i * 0x100000 + j * 0x40
/-- `FPC_THR_WAITMASK` (R334, 12_flow_processors.md). -/
def Reg.FPC_THR_WAITMASK (i j : Nat) : Nat := 0x40000010 + i * 0x100000 + j * 0x40
/-- `FPC_THR_FAULT` (R334, 12_flow_processors.md). -/
def Reg.FPC_THR_FAULT (i j : Nat) : Nat := 0x40000014 + i * 0x100000 + j * 0x40
/-- `FPC_THR_CHARGE` (R334, 12_flow_processors.md). -/
def Reg.FPC_THR_CHARGE (i j : Nat) : Nat := 0x40000018 + i * 0x100000 + j * 0x40
/-- `FPC_THR_RESET` (R334, 12_flow_processors.md). -/
def Reg.FPC_THR_RESET (i j : Nat) : Nat := 0x4000001c + i * 0x100000 + j * 0x40
/-- `FPC_THR_DBG` (R334, 12_flow_processors.md). -/
def Reg.FPC_THR_DBG (i j : Nat) : Nat := 0x40000020 + i * 0x100000 + j * 0x40
/-- `FPC_CHh_CFG` (R334, 12_flow_processors.md). -/
def Reg.FPC_CHh_CFG (i j : Nat) : Nat := 0x40010000 + i * 0x100000 + j * 0x10
/-- `FPC_CHh_THREADS_LO` (R334, 12_flow_processors.md). -/
def Reg.FPC_CHh_THREADS_LO (i j : Nat) : Nat := 0x40010004 + i * 0x100000 + j * 0x10
/-- `FPC_CHh_THREADS_HI` (R334, 12_flow_processors.md). -/
def Reg.FPC_CHh_THREADS_HI (i j : Nat) : Nat := 0x40010008 + i * 0x100000 + j * 0x10
/-- `FPC_CHh_STATUS` (R334, 12_flow_processors.md). -/
def Reg.FPC_CHh_STATUS (i j : Nat) : Nat := 0x4001000c + i * 0x100000 + j * 0x10
/-- `FPC_IMEM` (R305, 12_flow_processors.md). -/
def Reg.FPC_IMEM (i j : Nat) : Nat := 0x40040000 + i * 0x100000 + j * 0x4
/-- `FPC_DMEM` (R305, 12_flow_processors.md). -/
def Reg.FPC_DMEM (i j : Nat) : Nat := 0x50000000 + i * 0x400000 + j * 0x4
/-- `CRY_EVT_STATUS` (R359, 13_ciphers.md). -/
def Reg.CRY_EVT_STATUS : Nat := 0xc00000
/-- `CRY_ENGINES` (R359, 13_ciphers.md). -/
def Reg.CRY_ENGINES : Nat := 0xc00004
/-- `CRY_SA_BASE_LO` (R359, 13_ciphers.md). -/
def Reg.CRY_SA_BASE_LO : Nat := 0xc00008
/-- `CRY_SA_BASE_HI` (R359, 13_ciphers.md). -/
def Reg.CRY_SA_BASE_HI : Nat := 0xc0000c
/-- `CRY_KEY_CMD` (R359, 13_ciphers.md). -/
def Reg.CRY_KEY_CMD : Nat := 0xc00010
/-- `CRY_KEY_STAGE` (R359, 13_ciphers.md). -/
def Reg.CRY_KEY_STAGE (i : Nat) : Nat := 0xc00020 + i * 0x4
/-- `CRY_KEY_DATA` (R359, 13_ciphers.md). -/
def Reg.CRY_KEY_DATA (i : Nat) : Nat := 0xc00040 + i * 0x4
/-- `CRY_EXPIRY_SEQ` (R359, 13_ciphers.md). -/
def Reg.CRY_EXPIRY_SEQ : Nat := 0xc00080
/-- `CRY_NOTIFY_VECTORf` (R359, 13_ciphers.md). -/
def Reg.CRY_NOTIFY_VECTORf (i : Nat) : Nat := 0xc00090 + i * 0x4
/-- `CRY_SLOTs` (R359, 13_ciphers.md). -/
def Reg.CRY_SLOTs (i : Nat) : Nat := 0xc00100 + i * 0x4
/-- `CRY_SLOT_PNs` (R359, 13_ciphers.md). -/
def Reg.CRY_SLOT_PNs (i j : Nat) : Nat := 0xc00800 + i * 0x8 + j * 0x4
/-- `CRY_SECYy_CTRL` (R359, 13_ciphers.md). -/
def Reg.CRY_SECYy_CTRL (i : Nat) : Nat := 0xc01000 + i * 0x40
/-- `CRY_SECYy_TXSCI` (R359, 13_ciphers.md). -/
def Reg.CRY_SECYy_TXSCI (i j : Nat) : Nat := 0xc01004 + i * 0x40 + j * 0x4
/-- `CRY_SECYy_TXSLOT` (R359, 13_ciphers.md). -/
def Reg.CRY_SECYy_TXSLOT (i : Nat) : Nat := 0xc0100c + i * 0x40
/-- `CRY_SECYy_RXSCI` (R359, 13_ciphers.md). -/
def Reg.CRY_SECYy_RXSCI (i j : Nat) : Nat := 0xc01010 + i * 0x40 + j * 0x4
/-- `CRY_SECYy_RXSLOTr` (R359, 13_ciphers.md). -/
def Reg.CRY_SECYy_RXSLOTr (i j : Nat) : Nat := 0xc01030 + i * 0x40 + j * 0x4
/-- `CRY_COUNTS` (R359, 13_ciphers.md). -/
def Reg.CRY_COUNTS (i : Nat) : Nat := 0xc02000 + i * 0x4
/-- `CRY_SECYy_COUNTS` (R359, 13_ciphers.md). -/
def Reg.CRY_SECYy_COUNTS (i j : Nat) : Nat := 0xc03000 + i * 0x20 + j * 0x4
/-- `CRY_EXPIRY` (R359, 13_ciphers.md). -/
def Reg.CRY_EXPIRY (i j : Nat) : Nat := 0xc04000 + i * 0x8 + j * 0x4
/-- `STO_CTRL` (R373, 14_storage.md). -/
def Reg.STO_CTRL : Nat := 0xd00000
/-- `STO_DEFAULTS` (R373, 14_storage.md). -/
def Reg.STO_DEFAULTS : Nat := 0xd00004
/-- `STO_TCP_CTRL` (R373, 14_storage.md). -/
def Reg.STO_TCP_CTRL : Nat := 0xd00008
/-- `STO_OBJ_CMD` (R373, 14_storage.md). -/
def Reg.STO_OBJ_CMD : Nat := 0xd00010
/-- `STO_OBJ_INDEX` (R373, 14_storage.md). -/
def Reg.STO_OBJ_INDEX : Nat := 0xd00014
/-- `STO_OBJ_DATA` (R373, 14_storage.md). -/
def Reg.STO_OBJ_DATA (i : Nat) : Nat := 0xd00100 + i * 0x4
/-- `STO_HOSTNQN` (R373, 14_storage.md). -/
def Reg.STO_HOSTNQN (i : Nat) : Nat := 0xd00200 + i * 0x4
/-- `STO_EVT_STATUS` (R373, 14_storage.md). -/
def Reg.STO_EVT_STATUS : Nat := 0xd00400
/-- `STO_EVT_CONN` (R373, 14_storage.md). -/
def Reg.STO_EVT_CONN : Nat := 0xd00404
/-- `STO_COUNTS` (R373, 14_storage.md). -/
def Reg.STO_COUNTS (i : Nat) : Nat := 0xd00500 + i * 0x4
/-- `STO_CONN_STATEk` (R373, 14_storage.md). -/
def Reg.STO_CONN_STATEk (i : Nat) : Nat := 0xd10000 + i * 0x4
/-- `MAC_PGg_MODE` (R418, 16_ports.md). -/
def Reg.MAC_PGg_MODE (i : Nat) : Nat := 0xf00000 + i * 0x4
/-- `MAC_TX_CTRL` (R418, 16_ports.md). -/
def Reg.MAC_TX_CTRL : Nat := 0xf00100
/-- `MAC_LRO_CTRL` (R418, 16_ports.md). -/
def Reg.MAC_LRO_CTRL : Nat := 0xf00104
/-- `MAC_LRO_SLICE` (R418, 16_ports.md). -/
def Reg.MAC_LRO_SLICE (i : Nat) : Nat := 0xf00200 + i * 0x4
/-- `MAC_EVT_STATUS` (R418, 16_ports.md). -/
def Reg.MAC_EVT_STATUS : Nat := 0xf00900
/-- `MAC_EVT_PORT` (R418, 16_ports.md). -/
def Reg.MAC_EVT_PORT : Nat := 0xf00904
/-- `MAC_NOTIFY_VECTORf` (R418, 16_ports.md). -/
def Reg.MAC_NOTIFY_VECTORf (i : Nat) : Nat := 0xf00910 + i * 0x4
/-- `MAC_COUNTS` (R418, 16_ports.md). -/
def Reg.MAC_COUNTS (i : Nat) : Nat := 0xf00940 + i * 0x4
/-- `MAC_MGT_CTRL` (R418, 16_ports.md). -/
def Reg.MAC_MGT_CTRL : Nat := 0xf00a00
/-- `MAC_MGT_RX_HEAD` (R418, 16_ports.md). -/
def Reg.MAC_MGT_RX_HEAD : Nat := 0xf00a04
/-- `MAC_MGT_TX_TAIL` (R418, 16_ports.md). -/
def Reg.MAC_MGT_TX_TAIL : Nat := 0xf00a08
/-- `MAC_LANEl_CTRL` (R418, 16_ports.md). -/
def Reg.MAC_LANEl_CTRL (i : Nat) : Nat := 0xf01000 + i * 0x20
/-- `MAC_LANEl_EQ` (R418, 16_ports.md). -/
def Reg.MAC_LANEl_EQ (i : Nat) : Nat := 0xf01004 + i * 0x20
/-- `MAC_LANEl_FEC` (R418, 16_ports.md). -/
def Reg.MAC_LANEl_FEC (i j : Nat) : Nat := 0xf01008 + i * 0x20 + j * 0x4
/-- `MAC_PORTp_CTRL` (R418, 16_ports.md). -/
def Reg.MAC_PORTp_CTRL (i : Nat) : Nat := 0xf10000 + i * 0x400
/-- `MAC_PORTp_STATUS` (R418, 16_ports.md). -/
def Reg.MAC_PORTp_STATUS (i : Nat) : Nat := 0xf10004 + i * 0x400
/-- `MAC_PORTp_TS_ADJ` (R418, 16_ports.md). -/
def Reg.MAC_PORTp_TS_ADJ (i : Nat) : Nat := 0xf10008 + i * 0x400
/-- `MAC_PORTp_HALF` (R418, 16_ports.md). -/
def Reg.MAC_PORTp_HALF (i : Nat) : Nat := 0xf1000c + i * 0x400
/-- `MAC_PORTp_CNT` (R414, 16_ports.md). -/
def Reg.MAC_PORTp_CNT (i j : Nat) : Nat := 0xf10100 + i * 0x400 + j * 0x4
/-- `MAC_MGT_RXSLOT` (R418, 16_ports.md). -/
def Reg.MAC_MGT_RXSLOT (i : Nat) : Nat := 0xf20000 + i * 0x4
/-- `MAC_MGT_TXSLOT` (R418, 16_ports.md). -/
def Reg.MAC_MGT_TXSLOT (i : Nat) : Nat := 0xf30000 + i * 0x4
/-- `PBU_CTRL` (R443, 17_process_bus.md). -/
def Reg.PBU_CTRL : Nat := 0x1000000
/-- `PBU_PORT_CTRL` (R443, 17_process_bus.md). -/
def Reg.PBU_PORT_CTRL : Nat := 0x1000004
/-- `PBU_DUP_CTRL` (R443, 17_process_bus.md). -/
def Reg.PBU_DUP_CTRL : Nat := 0x1000008
/-- `PBU_SLOW_TARGET` (R443, 17_process_bus.md). -/
def Reg.PBU_SLOW_TARGET : Nat := 0x100000c
/-- `PBU_UTC_OFFSET` (R443, 17_process_bus.md). -/
def Reg.PBU_UTC_OFFSET : Nat := 0x1000010
/-- `PBU_EVT_STATUS` (R443, 17_process_bus.md). -/
def Reg.PBU_EVT_STATUS : Nat := 0x1000020
/-- `PBU_EVT_INDEX` (R443, 17_process_bus.md). -/
def Reg.PBU_EVT_INDEX : Nat := 0x1000024
/-- `PBU_ENT_CMD` (R443, 17_process_bus.md). -/
def Reg.PBU_ENT_CMD : Nat := 0x1000040
/-- `PBU_ENT_INDEX` (R443, 17_process_bus.md). -/
def Reg.PBU_ENT_INDEX : Nat := 0x1000044
/-- `PBU_ENT_DATA` (R443, 17_process_bus.md). -/
def Reg.PBU_ENT_DATA (i : Nat) : Nat := 0x1000100 + i * 0x4
/-- `PBU_COUNTS` (R443, 17_process_bus.md). -/
def Reg.PBU_COUNTS (i : Nat) : Nat := 0x1000400 + i * 0x4
/-- `PBU_SV` (R423, 17_process_bus.md). -/
def Reg.PBU_SV (i j : Nat) : Nat := 0x80000000 + i * 0x100 + j * 0x4
/-- `PBU_GRP` (R427, 17_process_bus.md). -/
def Reg.PBU_GRP (i j : Nat) : Nat := 0x81000000 + i * 0x100 + j * 0x4
/-- `PBU_SUB` (R433, 17_process_bus.md). -/
def Reg.PBU_SUB (i j : Nat) : Nat := 0x82000000 + i * 0x100 + j * 0x4
/-- `PBU_PUB` (R436, 17_process_bus.md). -/
def Reg.PBU_PUB (i j : Nat) : Nat := 0x83000000 + i * 0x800 + j * 0x4
/-- `TRL_CTRL` (R471, 18_trellis.md). -/
def Reg.TRL_CTRL : Nat := 0x1400000
/-- `TRL_ID` (R471, 18_trellis.md). -/
def Reg.TRL_ID : Nat := 0x1400004
/-- `TRL_INSTANCE` (R471, 18_trellis.md). -/
def Reg.TRL_INSTANCE : Nat := 0x1400008
/-- `TRL_DOMAIN` (R471, 18_trellis.md). -/
def Reg.TRL_DOMAIN : Nat := 0x140000c
/-- `TRL_MAC_LO` (R471, 18_trellis.md). -/
def Reg.TRL_MAC_LO : Nat := 0x1400010
/-- `TRL_MAC_HI` (R471, 18_trellis.md). -/
def Reg.TRL_MAC_HI : Nat := 0x1400014
/-- `TRL_ANGLE_CTRL` (R471, 18_trellis.md). -/
def Reg.TRL_ANGLE_CTRL : Nat := 0x1400020
/-- `TRL_PARTITION` (R471, 18_trellis.md). -/
def Reg.TRL_PARTITION : Nat := 0x1400030
/-- `TRL_EVT_STATUS` (R471, 18_trellis.md). -/
def Reg.TRL_EVT_STATUS : Nat := 0x1400034
/-- `TRL_EVT_INDEX` (R471, 18_trellis.md). -/
def Reg.TRL_EVT_INDEX : Nat := 0x1400038
/-- `TRL_MBX_RX` (R471, 18_trellis.md). -/
def Reg.TRL_MBX_RX : Nat := 0x140003c
/-- `TRL_MBX_SRC` (R471, 18_trellis.md). -/
def Reg.TRL_MBX_SRC : Nat := 0x1400040
/-- `TRL_TUNNELp` (R471, 18_trellis.md). -/
def Reg.TRL_TUNNELp (i : Nat) : Nat := 0x1400100 + i * 0x4
/-- `TRL_PORTt_CTRL` (R471, 18_trellis.md). -/
def Reg.TRL_PORTt_CTRL (i : Nat) : Nat := 0x1400200 + i * 0x20
/-- `TRL_PORTt_STATUS` (R471, 18_trellis.md). -/
def Reg.TRL_PORTt_STATUS (i : Nat) : Nat := 0x1400204 + i * 0x20
/-- `TRL_COUNTS` (R471, 18_trellis.md). -/
def Reg.TRL_COUNTS (i : Nat) : Nat := 0x1400400 + i * 0x4
/-- `TRL_MEMBER` (R471, 18_trellis.md). -/
def Reg.TRL_MEMBER (i j : Nat) : Nat := 0x1410000 + i * 0x10 + j * 0x4
/-- `TRL_MEMBER3` (R471, 18_trellis.md). -/
def Reg.TRL_MEMBER3 (i : Nat) : Nat := 0x141000c + i * 0x10
/-- `TRL_WINw_BASE_LO` (R471, 18_trellis.md). -/
def Reg.TRL_WINw_BASE_LO (i : Nat) : Nat := 0x1420000 + i * 0x20
/-- `TRL_WINw_BASE_HI` (R471, 18_trellis.md). -/
def Reg.TRL_WINw_BASE_HI (i : Nat) : Nat := 0x1420004 + i * 0x20
/-- `TRL_WINw_SIZE` (R471, 18_trellis.md). -/
def Reg.TRL_WINw_SIZE (i : Nat) : Nat := 0x1420008 + i * 0x20
/-- `TRL_WINw_CTRL` (R471, 18_trellis.md). -/
def Reg.TRL_WINw_CTRL (i : Nat) : Nat := 0x142000c + i * 0x20
/-- `TRL_WINw_OWNER` (R471, 18_trellis.md). -/
def Reg.TRL_WINw_OWNER (i : Nat) : Nat := 0x1420010 + i * 0x20
/-- `TRL_WINw_STATUS` (R471, 18_trellis.md). -/
def Reg.TRL_WINw_STATUS (i : Nat) : Nat := 0x1420014 + i * 0x20
/-- `LCS_STATE` (R532, 21_lifecycle_update.md). -/
def Reg.LCS_STATE : Nat := 0x1600000
/-- `LCS_VIOLATION` (R532, 21_lifecycle_update.md). -/
def Reg.LCS_VIOLATION : Nat := 0x1600004
/-- `LCS_SERIAL_LO` (R532, 21_lifecycle_update.md). -/
def Reg.LCS_SERIAL_LO : Nat := 0x1600008
/-- `LCS_SERIAL_HI` (R532, 21_lifecycle_update.md). -/
def Reg.LCS_SERIAL_HI : Nat := 0x160000c
/-- `LCS_NONCE_LO` (R532, 21_lifecycle_update.md). -/
def Reg.LCS_NONCE_LO : Nat := 0x1600010
/-- `LCS_NONCE_HI` (R532, 21_lifecycle_update.md). -/
def Reg.LCS_NONCE_HI : Nat := 0x1600014
/-- `LCS_EVT_STATUS` (R532, 21_lifecycle_update.md). -/
def Reg.LCS_EVT_STATUS : Nat := 0x1600018
/-- `LCS_AUTH_FAILS` (R532, 21_lifecycle_update.md). -/
def Reg.LCS_AUTH_FAILS : Nat := 0x1600020
/-- `LCS_DENIED_JTAG` (R532, 21_lifecycle_update.md). -/
def Reg.LCS_DENIED_JTAG : Nat := 0x1600024
/-- `LCS_CERT` (R532, 21_lifecycle_update.md). -/
def Reg.LCS_CERT (i : Nat) : Nat := 0x1610000 + i * 0x4
/-- `LCS_OWNER_HASH` (R532, 21_lifecycle_update.md). -/
def Reg.LCS_OWNER_HASH (i : Nat) : Nat := 0x1618000 + i * 0x4
/-- `UPD_CTRL` (R533, 21_lifecycle_update.md). -/
def Reg.UPD_CTRL : Nat := 0x1700000
/-- `UPD_STATE` (R533, 21_lifecycle_update.md). -/
def Reg.UPD_STATE : Nat := 0x1700004
/-- `UPD_BANKS` (R533, 21_lifecycle_update.md). -/
def Reg.UPD_BANKS : Nat := 0x1700008
/-- `UPD_TOKEN` (R533, 21_lifecycle_update.md). -/
def Reg.UPD_TOKEN : Nat := 0x170000c
/-- `UPD_RESULT` (R533, 21_lifecycle_update.md). -/
def Reg.UPD_RESULT : Nat := 0x1700010
/-- `UPD_ACT_TIME_LO` (R533, 21_lifecycle_update.md). -/
def Reg.UPD_ACT_TIME_LO : Nat := 0x1700014
/-- `UPD_ACT_TIME_HI` (R533, 21_lifecycle_update.md). -/
def Reg.UPD_ACT_TIME_HI : Nat := 0x1700018
/-- `UPD_RELEASE` (R533, 21_lifecycle_update.md). -/
def Reg.UPD_RELEASE : Nat := 0x170001c
/-- `UPD_SECVER` (R533, 21_lifecycle_update.md). -/
def Reg.UPD_SECVER : Nat := 0x1700020
/-- `UPD_EVT_STATUS` (R533, 21_lifecycle_update.md). -/
def Reg.UPD_EVT_STATUS : Nat := 0x1700024

end Sys2Proof.Machine
end

