-- ==== Sys2Proof/Machine/State.lean ====
section
/-! DEFINITION. The state of the ZS9640 as plain data: the register file, and for each block what it holds
beyond its registers; the queue of waiting commands; reset. -/

namespace Sys2Proof.Machine

/-! ## The register file: one home for every register, keyed by its BAR0 byte offset (R12)

Registers behind a selector (the interrupt message store, a queue's registers, a shaper node's) have
keys above the BAR0 window; `Machine/RegMap.lean` says which. -/

/-- A staged write of one ST register: its value, whether expert control wrote it (R10), its master. -/
structure Staged where
  val : Word
  expert : Bool
  master : Nat
deriving DecidableEq, Repr

/-- A write to a shadow set that landed in its hand-over window and is held (R112). -/
structure Held where
  key : Nat
  entry : Staged
deriving DecidableEq, Repr

/-- The active copies, the staging copies (R101), the slow-domain copies of RS registers (R98), the
registers last changed by expert control (R10), and the high halves latched by low-word reads (R5). -/
structure RegFile where
  act : Map Word
  stg : Map Staged
  slow : Map Word
  expert : List Nat
  latch : Map Word
deriving DecidableEq, Repr

/-- What raised a strobe, in the order of R106 for strobes that fall due on one clock. -/
inductive StrobeSrc where
  | commitAt | vintage | angle | commit | direct | ring | directReg | tie
deriving DecidableEq, Repr

/-- A strobe issued and not yet applied: its source, group mask, master, the GAU clock it falls due on,
and, for a direct-mode or TIE write, the registers it names (R103, R106). -/
structure Strobe where
  src : StrobeSrc
  mask : Word
  master : Nat
  due : Nat
  regs : List Nat
deriving DecidableEq, Repr

/-- The GLB block beyond its registers: strobes issued, the PTP-timed commit armed (time, mask, R105),
shadow writes held in a hand-over window (R112), the partner and pin levels the AON domain drives. -/
structure Glb where
  strobes : List Strobe
  armed : Option (Nat × Word)
  held : List Held
deriving DecidableEq, Repr

/-! ## What leaves the device

Everything the device sends is recorded, newest first, in `Dev.out`: the model's own record. -/

/-- One thing the device sends. -/
inductive Emission where
  /-- A memory write to a host: function, PASID, address, words (R151). -/
  | hostWrite (fn : Nat) (pasid : Option Nat) (addr : Nat) (words : List Word)
  /-- Bytes written to a host. -/
  | hostBytes (fn : Nat) (pasid : Option Nat) (addr : Nat) (bytes : List Byte)
  /-- A memory read request: function, tag, address, bytes (R152). -/
  | hostRead (fn : Nat) (tag : Nat) (addr : Nat) (len : Nat)
  /-- An MSI-X message of a function's vector: address and data of its table entry (R155). -/
  | msix (fn : Nat) (vec : Nat) (addr : Nat) (data : Word)
  /-- An INTx line of a function asserted (R156). -/
  | intx (fn : Nat)
  /-- A message of the interrupt message store: entry, function, address, data (R155). -/
  | ims (index : Nat) (fn : Nat) (addr : Nat) (data : Word)
  /-- A page request for a slice's address (R151). -/
  | pageRequest (fn : Nat) (slice : Nat) (addr : Nat)
  /-- An ATS invalidation for a PASID (R184). -/
  | atsInvalidate (fn : Nat) (pasid : Nat)
  /-- A Stop Marker for a PASID (R184). -/
  | stopMarker (fn : Nat) (pasid : Nat)
  /-- A completion with Completer Abort (R149). -/
  | completerAbort (fn : Nat)
  /-- An MCTP message over the sideband (R116, R122). -/
  | mctp (words : List Word)
  /-- An SPDM or PLDM response over the sideband (R517, R531). -/
  | sideband (kind : Nat) (bytes : List Byte)
  /-- An internal event to the Cellar-master cores (R116). -/
  | cmEvent (m : Nat) (out : Bool)
  /-- A frame a port begins to send (R399). -/
  | frame (port : Nat) (bytes : List Byte)
  /-- The end of a frame a port was sending; `good` is false where the FCS is inverted (R383). -/
  | frameEnd (port : Nat) (good : Bool)
  /-- A verify or response mPacket (R402). -/
  | mpacket (port : Nat) (respond : Bool)
  /-- A frame out of a Trellis port (R451). -/
  | mesh (port : Nat) (bytes : List Byte)
  /-- A frame out of the management port (R416). -/
  | mgtFrame (bytes : List Byte)
  /-- A command on the AVS bus: VDD_CORE in mV (R89, R538). -/
  | avs (mv : Nat)
  /-- A wrapped or cleared key copy, an erase or write of boot flash (R521). -/
  | flash (bank : Nat) (offset : Nat) (words : List Word)
  /-- A JTAG answer word (R511). -/
  | jtag (w : Word)
  /-- An NVMe/TCP or NVMe/RDMA capsule to a target: connection, PDU kind, words (R366). -/
  | capsule (conn : Nat) (kind : Nat) (words : List Word)
  /-- A message put to a flow-processor thread: cluster, thread, words (R316). -/
  | toThread (cluster : Nat) (thread : Nat) (words : List Word)
  /-- An ERROR or notice record written to a cluster's data memory (R324). -/
  | notice (cluster : Nat) (words : List Word)
deriving DecidableEq, Repr

/-! ## GAU: grid references and angle events (R31 to R61) -/

/-- One grid reference beyond its registers. -/
structure GRef where
  /-- Tracked frequency in µHz (R36, R40). -/
  freq : Nat
  /-- Fraction of a count left over from the last advance, over 10^15. -/
  frac : Nat
  /-- Error still to be slewed, in counts (R38). -/
  err : Int
  /-- Fraction of a slewed count left over, over 10^15. -/
  slewFrac : Nat
  /-- GAU clock and period of the last valid observation. -/
  lastValid : Option Nat
  period : Nat
  /-- Consecutive valid observations whose periods agree (R41), and consecutive ones beyond JUMP (R38). -/
  agree : Nat
  beyond : Nat
  /-- Consecutive cycles with an error under 0.02° in RELOCK (R41). -/
  calm : Nat
  /-- The next wrap does not increment the cycle count (R45). -/
  skipWrap : Bool
  /-- Leader under GAU_TIE while merged (R46), before any promotion (R49). -/
  leader : Nat
  /-- The GAU clock of the last wrap. -/
  wrapAt : Nat
  /-- The last observation was invalid or discarded, so that no period that starts at it is tracked (R36, R38; log
  entry 8). -/
  taint : Bool
deriving DecidableEq, Repr

/-- One firing of an angle event on its way to its target (R53, R54). -/
structure Firing where
  action : Nat
  target : Nat
  arg : Word
  cycle : Nat
  quality : Nat
  stepped : Bool
  late : Bool
  /-- The reference of the channel. -/
  ref : Nat
deriving DecidableEq, Repr

/-- The GAU block beyond its registers. -/
structure Gau where
  refs : Map GRef
  /-- GAU clock of the last observation on each GZX input (R32). -/
  edges : Map Nat
  /-- Firings dispatched and not yet taken by their target block (R56). -/
  firings : List Firing
  /-- The cycle count under which each table entry last fired (R44). -/
  fired : Map Nat
  /-- Shadow entries written since their channel's last hand-over, and channels marked pending inside a
  hand-over window (R55). -/
  dirty : List Nat
  lateChans : List Nat
  /-- GAU clock of the last strobe that changed GAU_TIE (R46). -/
  tieAt : Nat
  /-- Consecutive cycles two references have stayed together, keyed by 4 × one + the other (R51). -/
  near : Map Nat
  /-- SEQ of the last GSYNC frame (R59). -/
  gsyncSeq : Option Nat
  /-- PPS_OUT level, PTP clock role and domain number (R52, R60). -/
  ppsOut : Bool
  ptpRole : Nat
  ptpDomain : Nat
  /-- The last negative sample of each reference's sampled-value source: its TAI time and value (R33). -/
  svLast : Map (Nat × Int)
  /-- The last crossing interpolated for each, and those whose next crossing an invalid sample has spoilt (R33). -/
  svCross : Map Nat
  svBad : List Nat
deriving DecidableEq, Repr

/-! ## EBS and AGE: energy windows, heat, margin plans (R62 to R96) -/

/-- A unit refused at an admission point and waiting there (R64): its point, the unit's number at that
point, class, cost in pJ, slice, and whether an angle event brought it (R66). -/
structure Waiting where
  point : Point
  unit : Nat
  cls : Nat
  cost : Nat
  slice : Option Nat
  angle : Bool
deriving DecidableEq, Repr

/-- The EBS block beyond its registers. -/
structure Ebs where
  /-- Budget of the window in force, what it has left (negative: debt in the making), in pJ (R62, R65). -/
  budget : Nat
  room : Int
  /-- Class 3 energy charged in this window (R73). -/
  class3 : Nat
  /-- GSTRESS: level in force, level last accepted from the balls, level at the balls and the GAU clock of
  its last change (R73). -/
  level : Nat
  accepted : Nat
  balls : Nat
  ballsAt : Nat
  /-- Classes 2 and 3 held by a trip until a window start after it clears (R77). -/
  tripHold : Bool
  /-- Consecutive readings at or above 125 °C (R77). -/
  hotRun : Nat
  waiting : List Waiting
  /-- The pJ remainders behind the µJ counters; the device's is under 8192 (R79). -/
  accum : Map Nat
  /-- Class 2 and 3 energy of each slice in the window in force, and in the last windows, newest first (R80). -/
  sliceNow : Map Nat
  sliceSum : Map (List Nat)
  /-- The costs charged before a voltage step began: the higher is charged while it lasts (R89). -/
  oldTable : List Word
  /-- Waiting units since admitted, not yet taken up by their block (R64). -/
  granted : List (Point × Nat)
deriving DecidableEq, Repr

/-- How a pending plan will apply (R88). -/
inductive PlanWhen where
  /-- At a GAU clock, the end of its delay. -/
  | clock (t : Nat)
  | ptp (t : Nat)
  | angle (chan idx : Nat)
deriving DecidableEq, Repr

/-- The AGE block beyond its registers. -/
structure Age where
  /-- VDD_CORE now and its target, in mV (R89, R492). -/
  vdd : Nat
  vddTarget : Nat
  /-- A tightening plan waits for its voltage before its strobe; AVS write tries (R89, R538). -/
  tightening : Bool
  avsTries : Nat
  /-- The plan before the plan in force, and the plan made last (R85). -/
  previous : List Word
  lastVersion : Nat
  basis : Nat
  pendWhen : Option PlanWhen
  /-- Powered hours at the last re-plan (R84). -/
  lastReplan : Nat
  /-- Calibrated energy table from tasting (R68): as shipped values. -/
  calibrated : List Word
  /-- Daily and monthly records in MRAM, newest first (R82). -/
  daily : List (List Word)
  monthly : List (List Word)
  /-- Monitors excluded from planning (R82). -/
  excluded : List Nat
  /-- Minimum, maximum, sum and number of the readings of each monitor since the last daily record; sum and number since the
  last monthly record (R82). -/
  day : Map (Nat × Nat × Nat × Nat)
  period : Map (Nat × Nat)
  /-- Powered hours in each 5 °C bin from −40 °C: of the life, the day, the period (R82, R92), and the flags of AGE_REPORT. -/
  bins : Map Nat
  dayBins : Map Nat
  periodBins : Map Nat
  shortPlan : Bool
  exhausted : Bool
  fallback : Bool
deriving DecidableEq, Repr

/-! ## MBX and CMD: mailboxes, command packets, the management ring (R115 to R143) -/

/-- Where a command stands: taken and waiting to start, started, or finished and waiting to reply. -/
inductive CmdPhase where
  | waiting | started | finished
deriving DecidableEq, Repr

/-- An outstanding command: its packet, its reservation, and its result (R121 to R136). -/
structure Cmd where
  master : Nat
  word0 : Word
  word1 : Word
  word2 : Word
  params : List Word
  phase : CmdPhase
  /-- Reply slots reserved. -/
  slots : Nat
  /-- GAU clock of its start, its device-side limit EXP (R135). -/
  startedAt : Nat
  exp : Nat
  /-- Its strobe has been raised (R136). -/
  strobed : Bool
  /-- Objects it locks (R129). -/
  locks : List Nat
  /-- Status, EXPERT and reply data once finished. -/
  status : Nat
  expert : Bool
  reply : List Word
  /-- The Trellis member or path the packet came from (R466). -/
  peer : Nat
deriving DecidableEq, Repr

/-- MBX and CMD beyond their registers. -/
structure Cmds where
  /-- The word of each KIND pending for each master, keyed 16 × master + KIND (R117). -/
  outPend : Map Word
  /-- Outstanding commands in the order taken. -/
  cmds : List Cmd
  /-- The current generation of each tag, keyed 4096 × master + tag (R131). -/
  gens : Map Nat
  /-- SEQ the next management ring entry must carry, plus 1; 0 before the first entry (R141). -/
  ringSeq : Nat
  /-- The member whose command produced the pending mailbox word of each KIND for the TRL master (R116). -/
  mbxPeer : Map Nat
  /-- The member that each packet in queue 7 came from, by the packet's first slot (R466). -/
  peers : Map Nat
deriving DecidableEq, Repr

/-! ## PCE: links, functions, tags, interrupts (R144 to R168) -/

/-- What an outstanding read serves (R151): an item's payload, or nothing any more. -/
inductive ReadFor where
  | payload (item : Nat) | other
deriving DecidableEq, Repr

/-- The life of a tag in use (R152, R162). -/
inductive TagState where
  | outstanding | quarantine
deriving DecidableEq, Repr

/-- A read outstanding on a link: its tag's state, function, slice, what it serves (R152, R162). -/
structure PcieRead where
  state : TagState
  fn : Nat
  slice : Option Nat
  item : ReadFor
  sentAt : Nat
deriving DecidableEq, Repr

/-- A completion entry of an item ended while its function could not write (R160): slice, device CQ number,
entry words. -/
structure HeldCq where
  slice : Nat
  cq : Nat
  words : List Word
deriving DecidableEq, Repr

/-- One PCIe function. -/
structure PFn where
  /-- Present on a trained link. -/
  present : Bool
  bme : Bool
  d3 : Bool
  msixOn : Bool
  /-- A function-level reset is in progress (R166). -/
  flr : Bool
  /-- Vectors unmasked in the MSI-X table, vectors pending in the PBA, INTx sources pending (R155, R156). -/
  unmasked : List Nat
  pba : List Nat
  intxPend : List Nat
  /-- The held-completion store, oldest first (R160). -/
  heldStore : List HeldCq
  /-- Errors logged by AER, newest first, as rows of R164. -/
  aer : List Nat
deriving DecidableEq, Repr

/-- The PCE block beyond its registers. -/
structure Pce where
  fns : Map PFn
  /-- Reads by 16384 × link + tag. -/
  reads : Map PcieRead
  /-- Held translations of the ATS caches, and page requests outstanding: (slice, address) (R151). -/
  atc : List (Nat × Nat)
  pageReqs : List (Nat × Nat)
  /-- The MSI-X table words of the four functions, 8192 per function (R155). -/
  msixTable : Map Word
  /-- Width at which each link trained (R157). -/
  trained : Map Nat
deriving DecidableEq, Repr

/-! ## SLC: slices (R169 to R191) -/

/-- A quiesce walk: the step under way (1 to 10, 11 when done), and the items completed and failed during each
step (R180, R181). -/
structure Walk where
  step : Nat
  completed : List Nat
  failed : List Nat
deriving DecidableEq, Repr

/-- A drain fence: the sweep done, the links whose ATS invalidation is outstanding, the Stop Marker sent, the
orders of R183 done (R184). -/
structure Fence where
  sweepDone : Bool
  atsLinks : List Nat
  stopSent : Bool
  home : Nat
  pasid : Nat
deriving DecidableEq, Repr

/-- The SLC block beyond its registers. -/
structure Slc where
  /-- What a slice holds of each pool, keyed 16 × slice + pool (R169). -/
  use : Map Nat
  walks : Map Walk
  fences : Map Fence
  /-- The dirty set of each slice whose log is on: page numbers (R187). -/
  dirty : Map (List Nat)
  /-- Responses to abandoned page requests discarded (R184). -/
  lateResponses : Nat
  /-- Slices whose cause 8 lasts until a quiesce and a reset (R478). -/
  contained : List Nat
deriving DecidableEq, Repr

/-! ## RNG and DMA: rings and channels (R192 to R226) -/

/-- Where a fetched item stands. -/
inductive ItemPhase where
  /-- Its payload read is outstanding. -/
  | reading
  /-- Its payload waits for a page request's response (R151). -/
  | paging (addr : Nat)
  /-- Its bytes are in the device. -/
  | loaded
  /-- A receive buffer posted. -/
  | posted
  /-- A TX item waiting for its timestamp (R200). -/
  | stamping
  /-- Ended: its completion waits for the items before it (R202). -/
  | ended
deriving DecidableEq, Repr

/-- An item fetched from an SQ and not yet completed (R197 to R202). -/
structure Item where
  dq : Nat
  slice : Nat
  /-- Ring index of its entry. -/
  index : Nat
  entry : List Word
  frags : List (Nat × Nat)
  phase : ItemPhase
  bytes : List Byte
  status : Nat
  kind : Nat
  count : Nat
  stamp : Option Nat
  /-- Words 1, 5, 7 contributed by a delivery (R206). -/
  vlan : Option Nat
  hash : Word
  flags : Word
  frame : Option Nat
deriving DecidableEq, Repr

/-- The RNG block beyond its registers. -/
structure Rng where
  /-- Device number of each queue, keyed ((CQ bit × 8192 + slice) × 1024 + number) (R193). -/
  qmap : Map Nat
  /-- SQs with a doorbell pending and not yet served, and the tail each SQ may be fetched to (R205). -/
  pending : List Nat
  fetchTo : Map Nat
  /-- Items in flight by number, oldest lowest. -/
  items : Map Item
  nextItem : Nat
  /-- Completion entries in each CQ's spill, oldest first (R212). -/
  spill : Map (List (List Word))
  /-- CQs whose moderation delay runs: the GAU clock it started (R215). -/
  delay : Map Nat
  /-- Queues stopped under R477: SQs by device number, CQs by 131072 more. -/
  stopped : List Nat
  /-- SQs whose waiting service an angle event brought (R66), and the tail an ANGLE_GATED SQ may be served to (R205). -/
  angled : List Nat
  gateTail : Map Nat
deriving DecidableEq, Repr

/-- A descriptor in progress on a DMA channel (R217 to R220). -/
structure Desc where
  index : Nat
  words : List Word
  src : List (Nat × Nat)
  dst : List (Nat × Nat)
  /-- Bytes written (DONE); a chunk passes the buffer within its own step. -/
  done : Nat
deriving DecidableEq, Repr

/-- The DMA block beyond its registers. -/
structure Dma where
  run : Map Desc
  /-- Channels with a kick waiting for admission, and channels that remember a kick (R218). -/
  kicked : List Nat
  remembered : List Nat
  /-- Kicked channels whose kick an angle event brought (R66). -/
  angleKicks : List Nat
  /-- Words of HBM that DMA has written, by byte address / 4. -/
  hbm : Map Word
deriving DecidableEq, Repr

/-- A frame's delivery to a slice (R174, R201). -/
structure Delivery where
  slice : Nat
  incarnation : Nat
  sq : Nat
  bytes : List Byte
  /-- Completion KIND: RX or EXCEPTION (R206). -/
  kind : Nat
  vlan : Option Nat
  hash : Word
  stamp : Option Nat
  flags : Word
deriving DecidableEq, Repr

/-! ## Frames in the Cellar (R30, R227 to R266, R316 to R321) -/

/-- Where a frame stands on its way through the device. -/
inductive Place where
  /-- Its next Press pass has not run. -/
  | press
  /-- An early fragment held by the Press (R245). -/
  | fragHold
  /-- Its key waits for the frame's last byte (R242). -/
  | eofHold
  /-- Its key is on the way to the Classifier. -/
  | keyed
  /-- Passed on with CONTINUE. -/
  | forward
  /-- In a queue of a recirculation loop (R266). -/
  | recirc (queue : Nat)
  /-- A host frame whose checksums and segments are not yet written (R404). -/
  | offload
  /-- On its way to, or in, the cipher stage. -/
  | cipher
  /-- Received on a port whose SecY verifies, not yet verified (R338). -/
  | verify (secy : Nat)
  /-- To be queued at a node (R382). -/
  | toNode (node : Nat)
  /-- In a service queue of a node. -/
  | queued (node tc : Nat)
  /-- Being sent by a port. -/
  | sending (port : Nat)
  /-- A message on its way to an inbound channel (R320). -/
  | toChannel (cluster chan : Nat)
  /-- In the queue of an inbound channel. -/
  | inbound (cluster chan : Nat)
  /-- Owned by a thread under a handle (R321). -/
  | thread (cluster thread handle : Nat)
  /-- Steered to the process bus unit (R232). -/
  | pbu
  /-- Steered to the TRL block (R232). -/
  | trl
  /-- The second copy of a pair's frame, waiting for the MAC of port B, under its TC (R412). -/
  | copy (port tc : Nat)
  /-- In the forwarding queue of an HSR ring port, under the TC whose gate it obeys (R422). -/
  | ringFwd (port tc : Nat)
  /-- A Wepomer frame in a class queue of a Trellis port (R453). -/
  | trlPort (t : Nat)
deriving DecidableEq, Repr

/-- A delivery a frame carries: slice, incarnation, receive SQ, completion KIND, reason code (R174, R206). -/
structure Dest where
  slice : Nat
  incarnation : Nat
  sq : Nat
  kind : Nat
  reason : Nat
deriving DecidableEq, Repr

/-- One frame. -/
structure Frame where
  pipe : Nat
  place : Place
  bytes : List Byte
  /-- Its last byte is in the Cellar. -/
  whole : Bool
  /-- The metadata record, words 0 to 11 (R240, R260). -/
  record : List Word
  /-- Start offset of its pass, and the profile a later pass is to use (R233, R243). -/
  start : Nat
  next : Nat
  /-- The masked key of its last pass (R237), and whether the pass was resolved from a fragment entry. -/
  key : List Byte
  image : Option (List Byte)
  /-- EBS class. -/
  cls : Nat
  /-- The vintage of a frame that a Trellis peer handed over (R269, R454). -/
  vint : Option Nat
  /-- FWD_ARG of CONTINUE, and a next hop to edit by (R277, R282). -/
  fwdArg : Word
  edit : Option Nat
  dest : Option Dest
  /-- The SA a rule's DECRYPT names (R259), the SA of a host frame's outbound ESP not yet done (R351), and whether
  the frame has been protected for its port (R349). -/
  job : Option Nat
  esp : Option Nat
  secured : Bool
  /-- The published GOOSE stream it carries, and whether it is the rebuild of one that failed in the cipher (R439). -/
  pub : Option (Nat × Bool)
  /-- KIND, REASON, ARG of a channel message (R319). -/
  msg : List Word
  /-- The TX item it came from, if its timestamp is wanted (R200). -/
  item : Option Nat
  /-- Bytes of it sent before a preemption (R385), its transmission not yet counted complete. -/
  sent : Nat
  /-- Its receive ended in error after it was granted cut-through (R383). -/
  bad : Bool
  /-- GAU clock of its arrival: the hold of an early fragment (R245). -/
  at_ : Nat
  /-- TSO segment and checksum requests of the SQ entry (R404). -/
  offload : List Word
deriving DecidableEq, Repr

/-- An entry of the fragment table (R244): L4_TYPE, the 16-byte image, the byte ranges taken, the datagram's end once
known, the time of its creation. -/
structure FragEntry where
  key : List Byte
  l4 : Nat
  image : List Byte
  got : List (Nat × Nat)
  last : Option Nat
  made : Nat
deriving DecidableEq, Repr

/-- The Press beyond its registers: the fragment table, and the frames of every block. -/
structure Press where
  frames : Map Frame
  nextFrame : Nat
  frags : Map FragEntry
  /-- Recirculation queues, keyed 4 × pipeline + queue, oldest first (R266). -/
  loops : Map (List Nat)
deriving DecidableEq, Repr

/-! ## CLS: rule tables and vintages (R252 to R276) -/

/-- A domain-wide swap on this device: as originator, the members that answered; as member, the originator and the
vintage (R271). -/
structure Swap where
  /-- TXN of R457; 0 for a local swap. -/
  txn : Nat
  mask : Nat
  vintage : Nat
  copy : Bool
  /-- Master, TAG and GEN of the command, on the originator. -/
  cmd : Option (Nat × Nat × Nat)
  origin : Nat
  ready : List Nat
  refused : List Nat
  done : List Nat
  members : List Nat
  /-- Flip time once ACTIVATE is sent or taken. -/
  at_ : Option Nat
  flipped : Bool
deriving DecidableEq, Repr

/-- The CLS block beyond its registers. -/
structure Cls where
  /-- Entry words by ((bank × 16 + table) × 2^21 + entry): an absent entry is not VALID. -/
  entries : Map (List Word)
  /-- Overflow stores, by ((bank × 16 + table) × 2^16 + index). -/
  overflow : Map (List Word)
  /-- Mask of the tables the last swap exchanged, and the swap under way. -/
  lastMask : Nat
  swap : Option Swap
  /-- Commands whose reply waits for a clearing: table, master, TAG, GEN (R274). -/
  clearing : List (Nat × Nat × Nat × Nat)
deriving DecidableEq, Repr

/-! ## FWD and TCM: forwarding tables (R277 to R304) -/

/-- A learning message in the engine's queue: its words, and whether it came from a peer (R289, R290). -/
structure LearnMsg where
  words : List Word
  foreign : Bool
deriving DecidableEq, Repr

/-- The FWD and TCM blocks beyond their registers. -/
structure Fwd where
  /-- L2 entries by entry number, its overflow store by 2^20 + index; HIT is the OR of the three copies (R285). -/
  l2 : Map (List Word)
  /-- Flow entries in HBM by entry number, the overflow store by 2^26 + index. -/
  flow : Map (List Word)
  learn : List LearnMsg
  /-- TCM entries: key, care mask, result, LENGTH, VALID and HIT, as the thirteen words of R304. -/
  tcm : Map (List Word)
deriving DecidableEq, Repr

/-! ## FPC: clusters and threads (R305 to R335) -/

/-- An accelerator request presented and not yet answered: its words (R316). -/
structure AccReq where
  /-- A number of its own: the TAG of a peer request, the identity of a request in a block's queue. -/
  tag : Nat
  chan : Nat
  words : List Word
  /-- The accelerator has done its work: status and data bytes of the response. -/
  answer : Option (Nat × List Byte)
  /-- Its thread has faulted or been reset since: no response, no event (R323). -/
  mute : Bool
deriving DecidableEq, Repr

/-- A thread beyond its registers (R306). -/
structure Thread where
  /-- Words staged in its channel buffer. -/
  staged : List Word
  /-- GAU clock of its claim of the port it holds (R318), and of its entry to STALLED. -/
  holdAt : Nat
  stallAt : Nat
  /-- The put it is stalled on: channel, word, END. -/
  stalled : Option (Nat × Word × Bool)
  /-- The ABORT flag of R331. -/
  abort : Bool
  reqs : List AccReq
  /-- Timers armed, 0 to 3: GAU clock of expiry. -/
  timers : Map Nat
  /-- The state a halt interrupted. -/
  prior : Nat
  /-- ENABLE was committed 0 while it ran (R328). -/
  leaving : Bool
  /-- The condition its last channel instruction returned: 0 none, 1 CHANNEL_HELD, 2 ABORTED, 3 EMPTY. -/
  cond : Nat
  /-- The data window in force since its start: first page, pages (R310, R327). -/
  base : Nat
  pages : Nat
deriving DecidableEq, Repr

/-- A message in an inbound queue: its 64 words and its frame (R319). -/
structure InMsg where
  words : List Word
  frame : Option Nat
deriving DecidableEq, Repr

/-- The FPC block beyond its registers. -/
structure Fpc where
  /-- The number the next presented request takes. -/
  nextReq : Nat
  /-- Threads by global number. -/
  threads : Map Thread
  /-- Inbound queues by 256 × cluster + channel, oldest first. -/
  queues : Map (List InMsg)
  /-- Messages enqueued on each channel, and the thread last chosen (R319, R321). -/
  seqs : Map Nat
  chosen : Map Nat
  /-- Messages of blocks other than the Press stages on their way: cluster, channel, words (R320). -/
  arriving : List (Nat × Nat × List Word)
  /-- Notices written since reset, lost ones included, by cluster (R325). -/
  notices : Map Nat
  /-- Clusters whose all-wait detector has fired and not re-armed (R326). -/
  allWaitFired : List Nat
  /-- Holds for which a CHANNEL_HELD_TIMEOUT notice has been written, 256 × cluster + channel (R318). -/
  heldNoted : List Nat
  /-- Waiting threads that an angle event of action WAKE has reached (R66). -/
  wakeAngle : List Nat
  /-- Physical cores that wait for tasting, by cluster (R332). -/
  tasting : Map Nat
deriving DecidableEq, Repr

/-! ## CRY: keys, security associations, the cipher engines (R336 to R359) -/

/-- An infrastructure key slot in use (R342, R343): purpose, flags, SSCI, salt, PN, key bytes. -/
structure KeySlot where
  purpose : Nat
  persist : Bool
  key256 : Bool
  ssci : Word
  salt : List Word
  pn : Nat
  key : List Byte
  /-- Its soft event has been reported (R353). -/
  soft : Bool
deriving DecidableEq, Repr

/-- An SA that is not FREE (R345 to R348): state 1 LIVE, 2 EXPIRED, 3 FAULTED, 4 DRAINING; the SA format's words, the
key words 0 once zeroised; sequence number, numbers accepted in the replay window, counters. -/
structure SecAssoc where
  state : Nat
  slice : Nat
  incarnation : Nat
  words : List Word
  seq : Nat
  window : List Nat
  packets : Nat
  bytes : Nat
  icvFail : Nat
  replayDrop : Nat
  formatDrop : Nat
  soft : Bool
deriving DecidableEq, Repr

/-- What a cipher message is (R336, R338). -/
inductive CWork where
  /-- A frame protected for a SecY, verified by one. -/
  | protect (frame secy : Nat)
  | verify (frame secy : Nat)
  /-- A host frame's ESP, a frame under DECRYPT. -/
  | espOut (frame : Nat)
  | espIn (frame : Nat)
  /-- A thread's request on channel CIPHER: thread, request, OP. -/
  | request (thread tag op : Nat)
  /-- The unwrap of SA_DECANT: master, TAG, GEN. -/
  | decant (m tag gen : Nat)
  /-- A data unit of a storage write, or of read data with its bytes: connection, device CID, unit (R370). -/
  | xtsOut (conn cid unit : Nat)
  | xtsIn (conn cid unit : Nat) (bytes : List Byte)
deriving DecidableEq, Repr

/-- Where a message stands: waiting, in an engine, in one of an engine's context slots, finished (0 done, 1 its key was
invalid, 2 faulted, 3 malformed, 4 its numbers are used up). -/
inductive CPlace where
  | waiting | engine (e : Nat) | held (e : Nat) | finished (how : Nat)
deriving DecidableEq, Repr

/-- The key copy a message captured (R355). -/
inductive Captured where
  | none
  | slot (i : Nat) (k : KeySlot)
  | sa (i : Nat) (a : SecAssoc)
deriving DecidableEq, Repr

/-- A cipher message: level U0 to U3, source for ordering, blocks and blocks issued, owner of its energy; for a SecY's
message, CRY_SECYy_CTRL as it was when the key was captured (R354, R355). -/
structure CMsg where
  work : CWork
  level : Nat
  source : Nat
  blocks : Nat
  issued : Nat
  place : CPlace
  captured : Captured
  owner : Option Nat
  ctrl : Word
deriving DecidableEq, Repr

/-- The CRY block beyond its registers. -/
structure Cry where
  slots : Map KeySlot
  sas : Map SecAssoc
  msgs : Map CMsg
  nextMsg : Nat
  /-- Commands that wait for captured copies: an SA or a slot, its index, master, TAG, GEN (R355). -/
  waits : List (Bool × Nat × Nat × Nat × Nat)
deriving DecidableEq, Repr

/-! ## STO: storage connections (R360 to R373) -/

/-- An NVMe command outstanding on a connection, by its device CID (R366): its submission entry, namespace, starting LBA,
logical blocks, host fragments, its write data as it is to travel, data units the cipher still has, whether its capsule
has gone, R2Ts that wait for data, bytes of read data received, the target's completion where it waits for the cipher,
whether the host has had its completion while the device CID is still held. -/
structure StoCmd where
  entry : List Word
  ns : Nat
  lba : Nat
  blocks : Nat
  frags : List (Nat × Nat)
  data : List Byte
  units : Nat
  sent : Bool
  r2t : List (Nat × Nat)
  placed : Nat
  resp : Option (List Word)
  done : Bool
deriving DecidableEq, Repr

/-- A connection that is not FREE: a target or an NVQ, its object words (R363, R364); the outstanding commands; the
target's in-capsule size and queue depth; consecutive retransmission timeouts; whether it has left LIVE by a loss. -/
structure StoConn where
  target : Bool
  words : List Word
  cmds : Map StoCmd
  inCapsule : Nat
  depth : Nat
  retrans : Nat
  lost : Bool
deriving DecidableEq, Repr

/-- The STO block beyond its registers. -/
structure Sto where
  conns : Map StoConn
  namespaces : Map (List Word)
deriving DecidableEq, Repr

/-! ## SCH: service queues and shapers (R374 to R394) -/

/-- The transmit scheduler beyond its registers. -/
structure Sch where
  /-- Frames of each service queue, by 8 × node + TC, oldest first (R375). -/
  queues : Map (List Nat)
  /-- DWRR deficits by (band × 65536 + node) × 8 + TC, and the node each rotation stands at, by (port × 8 + TC) × 2 +
  band (R377). -/
  deficit : Map Nat
  turn : Map Nat
  /-- Remainder accumulators of the committed and the peak bucket, by 2 × node + bucket, in bytes over 8,000,000 (R381). -/
  frac : Map Nat
  /-- SCH_NCFG0 to 3 in force of a node whose committed change waits for the next top-up (R381). -/
  former : Map (List Word)
  /-- Nodes the device itself holds of pool 4 (R375). -/
  held : List Nat
deriving DecidableEq, Repr

/-! ## MAC: ports (R395 to R418) -/

/-- A coalescing context (R407): SQ and four-tuple, the frame so far with its payload offset, sequence number expected,
last ACK, window and timestamp, the delivery it will make, the time it opened. -/
structure LroCtx where
  slice : Nat
  sq : Nat
  tuple : List Byte
  bytes : List Byte
  pay : Nat
  expect : Nat
  ack : Nat
  win : Nat
  ts : Nat
  first : Delivery
  /-- The posted buffer it holds: its item. -/
  item : Nat
  opened : Nat
deriving DecidableEq, Repr

/-- The MAC block beyond its registers. -/
structure Mac where
  /-- The frame each port's MAC serialises, with its TC, and the one it has preempted (R385). -/
  cur : Map (Nat × Nat)
  paused : Map (Nat × Nat)
  /-- Sequence number of each pair (R411). -/
  pairSeq : Map Nat
  /-- Verify mPackets sent by each port in its verify procedure (R402). -/
  verifies : Map Nat
  /-- Open coalescing contexts, oldest first. -/
  lro : List LroCtx
  /-- The next management transmit slot to send (R416). -/
  mgtHead : Nat
deriving DecidableEq, Repr

/-! ## PBU: the process bus (R419 to R443) -/

/-- One sample of a stream's row store (R425): its key (second, smpCnt), channel words as value and quality, flags, arrival
time of its frame. -/
structure Sample where
  second : Nat
  cnt : Nat
  vals : List Word
  unsync : Bool
  confrev : Bool
  injected : Bool
  lanB : Bool
  arrival : Nat
deriving DecidableEq, Repr

/-- A close of a group that waits for missing samples (R428): PTP time, cycle count, quality and flags of the close,
target key, set sequence. -/
structure SetWait where
  time : Nat
  cycle : Nat
  quality : Nat
  stepped : Bool
  late : Bool
  again : Bool
  second : Nat
  cnt : Nat
  seq : Nat
deriving DecidableEq, Repr

/-- An aligner group: next set sequence, the previous close's key, the waiting set, sets lost since the last delivered
one, counters (R428 to R432, R442). -/
structure Aligner where
  seq : Nat
  prev : Option (Nat × Nat)
  waiting : Option SetWait
  lost : Nat
  delivered : Nat
  incomplete : Nat
  overruns : Nat
deriving DecidableEq, Repr

/-- A GOOSE subscription: 0 NEVER, 1 ALIVE, 2 STALE; last stNum and sqNum, state changes, deadline (R434). -/
structure GooseSub where
  state : Nat
  st : Nat
  sq : Nat
  changes : Nat
  deadline : Nat
deriving DecidableEq, Repr

/-- A published stream (R437 to R439): allData element last taken (empty before the first state change), UTC time bytes,
stNum, sqNum, fast retransmissions made, time of the state change and of the last transmission, counters. -/
structure GoosePub where
  data : List Byte
  t : List Byte
  st : Nat
  sq : Nat
  fast : Nat
  since : Nat
  last : Nat
  sent : Nat
  faulted : Nat
deriving DecidableEq, Repr

/-- A source node of the duplicate table (R420): pair, MAC, highest sequence number, numbers seen below it as bits of the
64-number window, time of its last accepted frame. -/
structure DupNode where
  pair : Nat
  mac : List Byte
  high : Nat
  seen : Nat
  at_ : Nat
deriving DecidableEq, Repr

/-- The PBU beyond its registers and entries. -/
structure Pbu where
  /-- The row store, latest key first (R425). -/
  rows : Map (List Sample)
  /-- Frames, format drops, confRev mismatches of each stream (R442). -/
  streams : Map (Nat × Nat × Nat)
  groups : Map Aligner
  subs : Map GooseSub
  pubs : Map GoosePub
  nodes : List DupNode
  /-- GAU clock of the last lockstep reload (R441). -/
  reload : Option Nat
  /-- Entries whose unit of pool 7, 8 or 9 a slice holds, by 4096 × table + index: the slice (R169). -/
  units : Map Nat
deriving DecidableEq, Repr

/-! ## TRL: paths to the members of the domain (R444 to R471) -/

/-- The device's end of the path to one member (R449, R450). -/
structure Path where
  /-- Own EPOCH, and the other side's latest MY_EPOCH, 0 while none has come. -/
  epoch : Nat
  peerEpoch : Nat
  /-- SEQ of the next frame sent, SEQ expected. -/
  sendSeq : Nat
  recvSeq : Nat
  /-- Frames not yet acknowledged, oldest first, and messages that wait for one of the 256 places: class and bytes. -/
  unacked : List (Nat × Nat × List Byte)
  backlog : List (Nat × List Byte)
  /-- Consecutive resends without progress. -/
  resends : Nat
deriving DecidableEq, Repr

/-- A message accepted from a member and not yet acted on (R452): sender, TYPE, body, the pipeline it arrived in and the
receive time of its frame. -/
structure TrlMsg where
  src : Nat
  kind : Nat
  body : List Byte
  pipe : Nat
  at_ : Nat
deriving DecidableEq, Repr

/-- A thread's request to a member, outstanding (R464): member, thread, whether it reads. -/
structure PeerReq where
  dev : Nat
  thread : Nat
  reads : Bool
deriving DecidableEq, Repr

/-- The TRL block beyond its registers. -/
structure Trl where
  /-- Paths by member ID. -/
  paths : Map Path
  /-- INSTANCE last heard of each member (R456), SEQ last accepted of each origin (R455), S0 of each sync walk under way
  (R469). -/
  instances : Map Word
  lastSeq : Map Word
  syncStart : Map Word
  inbox : List TrlMsg
  /-- Outstanding peer requests by the request's number, whose low 16 bits are its TAG. -/
  reqs : Map PeerReq
  /-- TRELLIS_PEER_CMD commands that wait for their reply: member, master, TAG, GEN (R466). -/
  peerCmds : List (Nat × Nat × Nat × Nat)
  nextTxn : Nat
  /-- SEQ of the next exported GSYNC frame (R458). -/
  angleSeq : Nat
deriving DecidableEq, Repr

/-! ## FLT and boot: faults, halts, stages (R472 to R504) -/

/-- The soft state of a pipeline in one checkpoint slot (R479): shaper credits by register, DWRR deficits, remainders. -/
structure Soft where
  credit : Map Word
  deficit : Map Nat
  frac : Map Nat
deriving DecidableEq, Repr

/-- Fault records, corrected errors, checkpoints, supplies (R472 to R494). -/
structure Flt where
  /-- Records written to the MRAM ring since manufacture (R486). -/
  mramCount : Nat
  /-- Corrected errors of each source row in the present powered hour, and the sources that have written their
  record of it (R476). -/
  ceHour : Map Nat
  ceLogged : List Nat
  /-- The newer and the older checkpoint of each pipeline: sequence number and validity (R479). -/
  ckptSeq : Map Nat
  ckptBad : List Nat
  /-- The checkpoint slots, by 2 × pipeline + slot. -/
  soft : Map Soft
  /-- Port groups failed without a spare (R482). -/
  failed : List Nat
deriving DecidableEq, Repr

/-- Power, straps and pins (R491 to R504). -/
structure Pins where
  /-- Power-good inputs low, by supply group. -/
  pgLow : List Nat
  /-- SYS_RST_N low. -/
  rstLow : Bool
  /-- TXDIS[15:0] as driven, PAIR_OK as driven, PAIR_IN as filtered. -/
  txdis : Nat
  pairOk : Bool
  pairIn : Bool
  /-- The rails out of their windows (R537). -/
  railsOut : List Nat
deriving DecidableEq, Repr

/-! ## LCS and UPD: life cycle, identity, update (R505 to R533) -/

/-- A flash bank (R519 to R521): state, contents by word, the byte ranges of its images written since its manifest. -/
structure Bank where
  state : Nat
  flash : Map Word
  written : List (Nat × Nat)
deriving DecidableEq, Repr

/-- Another device of an activation's set (R525): whether it is READY, its result, whether it has reverted. -/
structure ActMember where
  id : Nat
  ready : Bool
  result : Option Nat
  reverted : Bool
deriving DecidableEq, Repr

/-- An activation prepared, armed or under way (R522 to R527): its token, the originator if another device, the command
that waits for its outcome, its PTP time if it has one, the other devices, whether COMMIT has gone, whether ABORT has. -/
structure Activation where
  token : Nat
  origin : Option Nat
  cmd : Option (Nat × Nat × Nat)
  at_ : Option Nat
  members : List ActMember
  committed : Bool
  aborted : Bool
deriving DecidableEq, Repr

/-- The UPD block beyond its registers. -/
structure Upd where
  banks : Map Bank
  /-- The background erase of the inactive bank is under way. -/
  erasing : Bool
  act : Option Activation
  /-- Where an ACTIVATING or REVERTING device stands: 0 commands drain, 1 the cores restart and check, 2 images load. -/
  phase : Nat
  /-- TYPE and result of each image at the last check (R533), the result to report. -/
  check : List (Nat × Nat)
  /-- The copies of R529 exist. -/
  copies : Bool
  /-- A PLDM update is open (R531). -/
  pldm : Bool
  /-- The board configuration record in force (R520). -/
  board : List Byte
  /-- The ROM has stopped after stage 1 for want of a bank that passes (R530, R531). -/
  recovery : Bool
deriving DecidableEq, Repr

/-- The LCS block beyond its registers. -/
structure Lcs where
  /-- The three copies of the life-cycle state in MRAM (R508). -/
  copies : List Nat
  /-- The state latched by the AON domain, once read (R513). -/
  latch : Option Nat
  /-- A DEVICE reset follows an accepted transition (R507). -/
  resetDue : Bool
  /-- The identity key exists (R507, R516). -/
  identity : Bool
  /-- SPDM (R517): the negotiation done (1 version, 2 capabilities, 3 algorithms); the messages of the negotiation, of
  digests and certificates, of measurements since the last signature. -/
  spdm : Nat
  vca : List Byte
  certLog : List Byte
  measLog : List Byte
deriving DecidableEq, Repr

/-! ## The device -/

/-- Everything the device holds but the queue of waiting commands. -/
structure Dev where
  /-- The register file. -/
  rf : RegFile
  /-- Strobes issued, the timed commit armed. -/
  glb : Glb
  /-- The grid angle unit. -/
  gau : Gau
  /-- The energy budget scheduler. -/
  ebs : Ebs
  /-- The ageing monitors and margin plans. -/
  age : Age
  /-- Mailboxes and command queues. -/
  cmd : Cmds
  /-- The host endpoints. -/
  pce : Pce
  /-- The slices. -/
  slc : Slc
  /-- The rings. -/
  rng : Rng
  /-- The DMA channels. -/
  dma : Dma
  /-- The frames and the Press. -/
  prs : Press
  /-- The Classifier. -/
  cls : Cls
  /-- The forwarding tables. -/
  fwd : Fwd
  /-- The flow processors. -/
  fpc : Fpc
  /-- Keys and ciphers. -/
  cry : Cry
  /-- The transmit scheduler. -/
  sch : Sch
  /-- The ports. -/
  mac : Mac
  /-- The process bus unit. -/
  pbu : Pbu
  /-- Storage connections. -/
  sto : Sto
  /-- Trellis. -/
  trl : Trl
  /-- Faults. -/
  flt : Flt
  /-- Life cycle and identity. -/
  lcs : Lcs
  /-- Firmware update. -/
  upd : Upd
  /-- Power, straps and pins. -/
  pins : Pins
  /-- What the device has sent, newest first. -/
  out : List Emission
  /-- How many free values the device has needed (the model's own field). -/
  freeCtr : Nat
  /-- GAU clocks of 2 ns since reset (the model's own field). -/
  now : Nat
  /-- PTP time in TAI nanoseconds (R52). -/
  ptp : BitVec 64
deriving DecidableEq, Repr

/-- The device right after reset: every register at its reset value (no register listed), every table empty,
SYS_RST_N just deasserted and boot stage 0 under way (R497). -/
def Dev.reset : Dev where
  rf := ⟨[], [], [], [], []⟩
  glb := ⟨[], none, []⟩
  gau := ⟨[], [], [], [], [], [], 0, [], none, false, 0, 0, [], [], []⟩
  ebs := ⟨2330000000, 2330000000, 0, 0, 0, 0, 0, false, 0, [], [], [], [], [], []⟩
  age := ⟨750, 750, false, 0, [], 1, 0, none, 0, [], [], [], [], [], [], [], [], [], false, false, false⟩
  cmd := ⟨[], [], [], 0, [], []⟩
  pce := ⟨[], [], [], [], [], []⟩
  slc := ⟨[], [], [], [], 0, []⟩
  rng := ⟨[], [], [], [], 0, [], [], [], [], []⟩
  dma := ⟨[], [], [], [], []⟩
  prs := ⟨[], 0, [], []⟩
  cls := ⟨[], [], 0, none, []⟩
  fwd := ⟨[], [], [], []⟩
  fpc := ⟨0, [], [], [], [], [], [], [], [], [], []⟩
  cry := ⟨[], [], [], 0, []⟩
  sch := ⟨[], [], [], [], [], List.range 18⟩
  mac := ⟨[], [], [], [], [], 0⟩
  pbu := ⟨[], [], [], [], [], [], none, []⟩
  sto := ⟨[], []⟩
  trl := ⟨[], [], [], [], [], [], [], 1, 0⟩
  flt := ⟨0, [], [], [], [], [], []⟩
  lcs := ⟨[3, 3, 3], none, false, true, 0, [], [], []⟩
  upd := ⟨[(0, ⟨5, [], []⟩)], false, none, 0, [], false, false, [], false⟩
  pins := ⟨[], false, 0xFFFF, false, false, []⟩
  out := []
  freeCtr := 0
  now := 0
  ptp := 0

/-- The device after reset and the queue of commands waiting, first in, first out. -/
structure State where
  pending : List Instr
  dev : Dev
deriving DecidableEq, Repr

/-- Why a step stops. Raised by no command of this model: the spec names no event that stops the block with a
fault of its own; a device halt is a state (R488). Safe. -/
inductive Fault where
  /-- Raised by nothing. -/
  | unused
deriving DecidableEq, Repr

/-- Why the model gives no meaning. -/
inductive Refusal where
  /-- An arm of `exec` that has no meaning yet. Safe: the model stops. -/
  | notModelled (mnemonic : String)
deriving DecidableEq, Repr

/-- The machine right after reset: no command waits. -/
def State.reset : State where
  pending := []
  dev := Dev.reset

end Sys2Proof.Machine
end

