-- ==== Sys2Proof/Machine/Ops.lean ====
section
/-! DEFINITION. The named operations every block shares: registers, SQ and HC registers, free values,
interrupts, mailbox words, the Lees log, fault records. -/

namespace Sys2Proof.Machine

/-! ## Registers (R97) -/

/-- The active value of a register. -/
def Dev.reg (d : Dev) (k : Nat) : Word := (Map.get? d.rf.act k).getD (resetOf k)

/-- The active value of a register as a number. -/
def Dev.regN (d : Dev) (k : Nat) : Nat := (d.reg k).toNat

/-- A field of a register. -/
def Dev.fld (d : Dev) (k lo n : Nat) : Nat := Word.fld (d.reg k) lo n

/-- A bit of a register. -/
def Dev.bit (d : Dev) (k i : Nat) : Bool := Word.bit (d.reg k) i

/-- The register with its active value replaced; a register at its reset value is not listed. -/
def Dev.setReg (d : Dev) (k : Nat) (v : Word) : Dev :=
  { d with rf := { d.rf with act := Map.putD d.rf.act k (resetOf k) v } }

/-- A register set to a number. -/
def Dev.setN (d : Dev) (k v : Nat) : Dev := d.setReg k (wd v)

/-- One field of a register replaced. -/
def Dev.setFld (d : Dev) (k lo n v : Nat) : Dev := d.setReg k (Word.setFld (d.reg k) lo n v)

/-- One bit of a register replaced. -/
def Dev.setBit (d : Dev) (k i : Nat) (b : Bool) : Dev := d.setFld k i 1 (if b then 1 else 0)

/-- A counter that wraps, increased by 1. -/
def Dev.inc (d : Dev) (k : Nat) : Dev := d.setReg k (d.reg k + 1)

/-- A 32-bit saturating counter increased by `n`. -/
def Dev.count (d : Dev) (k n : Nat) : Dev := d.setReg k (Word.satAdd (d.reg k) n)

/-- A saturating counter in a field, increased by 1. -/
def Dev.countFld (d : Dev) (k lo n : Nat) : Dev :=
  d.setFld k lo n (if d.fld k lo n + 1 < 2 ^ n then d.fld k lo n + 1 else 2 ^ n - 1)

/-- A 64-bit counter held low word first. -/
def Dev.reg64 (d : Dev) (lo : Nat) : Nat := cat64 (d.reg lo) (d.reg (lo + 4))

/-- A 64-bit register written, low word first. -/
def Dev.set64 (d : Dev) (lo v : Nat) : Dev := (d.setReg lo (lo32 v)).setReg (lo + 4) (hi32 v)

/-- A 64-bit counter increased. -/
def Dev.count64 (d : Dev) (lo n : Nat) : Dev := d.set64 lo (d.reg64 lo + n)

/-- The registers from `k` on, as a list of `n` words. -/
def Dev.regs (d : Dev) (k n : Nat) : List Word := (List.range n).map (fun i => d.reg (k + 4 * i))

/-- Words written from register `k` on. -/
def Dev.setRegs (d : Dev) (k : Nat) : List Word → Dev
  | [] => d
  | w :: ws => (d.setReg k w).setRegs (k + 4) ws

/-- The value a register holds for the block before its strobe: its staged value, else its active one. -/
def Dev.staged (d : Dev) (k : Nat) : Word :=
  match Map.get? d.rf.stg k with
  | some e => e.val
  | none => d.reg k

/-- A write to an ST register's staging copy: the whole register, reserved bits 0 (R7, R101). -/
def Dev.stage (d : Dev) (k : Nat) (v : Word) (expert : Bool) (m : Nat) : Dev :=
  { d with rf := { d.rf with stg := Map.put d.rf.stg k ⟨v &&& maskOf k ||| (d.reg k &&& ~~~ maskOf k), expert, m⟩ } }

/-- The staging entry of a register dropped. -/
def Dev.unstage (d : Dev) (k : Nat) : Dev := { d with rf := { d.rf with stg := Map.del d.rf.stg k } }

/-- Marks who changed the register last: expert or basic control (R10). -/
def Dev.markExpert (d : Dev) (k : Nat) (e : Bool) : Dev :=
  let r := d.rf.expert.filter (· ≠ k)
  { d with rf := { d.rf with expert := if e then k :: r else r } }

/-- Whether any of the registers was last changed by expert control (R10). -/
def Dev.anyExpert (d : Dev) (ks : List Nat) : Bool := ks.any (fun k => d.rf.expert.contains k)

/-! ## SQ registers (R99) and HC registers (R100) -/

/-- Sets event bits of an SQ register on one clock: SEQ advances by their number. -/
def Dev.sqSet (d : Dev) (k : Nat) (bits : List Nat) : Dev :=
  let w := d.reg k
  let ev := bits.foldl (fun e b => Word.setBit e b true) w
  d.setReg k (Word.setFld ev 24 8 (Word.fld w 24 8 + bits.length))

/-- A write to an SQ register: the masked events clear if the written SEQ is the register's; SEQ stays. -/
def Dev.sqClear (d : Dev) (k : Nat) (v : Word) : Dev :=
  let w := d.reg k
  if Word.fld v 24 8 = Word.fld w 24 8 then
    d.setReg k (w &&& ~~~ (v &&& wd 0xFFFFFF))
  else d

/-- `f` where the condition holds, else no change. -/
def Dev.when (d : Dev) (c : Bool) (f : Dev → Dev) : Dev := if c then f d else d

/-! ## Free values and emissions -/

/-- A free 32-bit value: nothing is known of it. -/
def Dev.freeWord (d : Dev) : Word × Dev := (Config.freeWord d.freeCtr, { d with freeCtr := d.freeCtr + 1 })

/-- A free decision. -/
def Dev.freeBool (d : Dev) : Bool × Dev := (Config.freeBool d.freeCtr, { d with freeCtr := d.freeCtr + 1 })

/-- A free number. -/
def Dev.freeNat (d : Dev) : Nat × Dev := (Config.freeNat d.freeCtr, { d with freeCtr := d.freeCtr + 1 })

/-- Free bytes. -/
def Dev.freeBytes (d : Dev) (n : Nat) : List Byte × Dev :=
  (Config.freeBytes d.freeCtr n, { d with freeCtr := d.freeCtr + 1 })

/-- The device sends something. -/
def Dev.emit (d : Dev) (e : Emission) : Dev := { d with out := e :: d.out }

/-! ## Functions and interrupts (R155, R156, R160) -/

/-- A function as it is before its link has trained: everything off, every vector masked. -/
def PFn.absent : PFn := ⟨false, false, false, false, false, [], [], [], [], []⟩

/-- A function's state. -/
def Dev.fn (d : Dev) (f : Nat) : PFn := Map.getD d.pce.fns f PFn.absent

/-- A function's state changed. -/
def Dev.setFn (d : Dev) (f : Nat) (g : PFn → PFn) : Dev :=
  { d with pce := { d.pce with fns := Map.put d.pce.fns f (g (d.fn f)) } }

/-- A function may issue requests: its link is up, Bus Master Enable is 1, it is in D0 and in no reset. -/
def Dev.canIssue (d : Dev) (f : Nat) : Bool :=
  let p := d.fn f
  p.present && p.bme && !p.d3 && !p.flr

/-- An endpoint is bifurcated, by its strap as last sampled (R145): endpoint A is 0, B is 1. -/
def Dev.bif (d : Dev) (e : Nat) : Bool := d.bit Reg.GLB_STRAPS e

/-- The link a function is on (R145). -/
def Dev.linkOf (d : Dev) (f : Nat) : Nat := if d.bif (f / 2) then f else 2 * (f / 2)

/-- A link in L1 or a substate of it returns to L0 (R157). -/
def Dev.wakeLink (d : Dev) (l : Nat) : Dev :=
  let st := d.fld (Reg.PCE_LINK_STATUSl l) 11 3
  if 2 ≤ st ∧ st ≤ 4 then d.setFld (Reg.PCE_LINK_STATUSl l) 11 3 0 else d

/-- A request of a function leaves: its link is awake first (R157). -/
def Dev.request (d : Dev) (f : Nat) (e : Emission) : Dev := (d.wakeLink (d.linkOf f)).emit e

/-- An MSI-X message sent. -/
def Dev.sendMsix (d : Dev) (f vec : Nat) : Dev :=
  let w (i : Nat) : Word := Map.getD d.pce.msixTable (8192 * f + 4 * vec + i) 0
  d.request f (.msix f vec (cat64 (w 0) (w 1)) (w 2))

/-- Raises an MSI-X vector of a function: INTx where MSI-X is off, the PBA where the function may not issue
requests or the vector is masked, else the message (R155, R156, R160). -/
def Dev.raiseVec (d : Dev) (f vec : Nat) : Dev :=
  let p := d.fn f
  if !d.canIssue f then d.setFn f (fun p => { p with pba := vec :: p.pba.filter (· ≠ vec) })
  else if !p.msixOn then
    (d.setFn f (fun p => { p with intxPend := vec :: p.intxPend.filter (· ≠ vec) })).request f (.intx f)
  else if !p.unmasked.contains vec then d.setFn f (fun p => { p with pba := vec :: p.pba.filter (· ≠ vec) })
  else d.sendMsix f vec

/-- Raises the vector of a notify register (`[31] ENABLE, [10:0] vector`) of one function. -/
def Dev.notifyFn (d : Dev) (base f : Nat) : Dev :=
  if d.bit (base + 4 * f) 31 then d.raiseVec f (d.fld (base + 4 * f) 0 11) else d

/-- Raises the notify vector of every function whose ENABLE is 1. -/
def Dev.notifyAll (d : Dev) (base : Nat) : Dev :=
  (((d.notifyFn base 0).notifyFn base 1).notifyFn base 2).notifyFn base 3

/-- Sends or holds the message of an interrupt-message-store entry (R155, R160). -/
def Dev.raiseIms (d : Dev) (e : Nat) : Dev :=
  let w3 := d.reg (Reg.PCE_IMS_ENTRY e 3)
  let f := Word.fld w3 27 2
  if !Word.bit w3 31 then d
  else if Word.bit w3 30 || !d.canIssue f then d.setBit (Reg.PCE_IMS_ENTRY e 3) 29 true
  else d.request f (.ims e f (cat64 (d.reg (Reg.PCE_IMS_ENTRY e 0)) (d.reg (Reg.PCE_IMS_ENTRY e 1)))
    (d.reg (Reg.PCE_IMS_ENTRY e 2)))

/-- Raises the interrupt an interrupt selector names: bit 17 the message store, else an MSI-X vector (R155). -/
def Dev.raiseSel (d : Dev) (f : Nat) (sel : Nat) : Dev :=
  if sel.testBit 17 then d.raiseIms (sel % 2 ^ 17) else d.raiseVec f (sel % 2 ^ 11)

/-! ## Mailbox words to the masters (R117, R118) -/

/-- Whether a KIND is enabled for a master: NOTIFY, AGE and HC_RISE have enable bits (R118). -/
def Dev.kindEnabled (d : Dev) (m kind : Nat) : Bool :=
  if kind = 3 then d.bit (Reg.MBX_CTRLm m) 3
  else if kind = 6 then d.bit (Reg.MBX_CTRLm m) 6
  else if kind = 7 then d.bit (Reg.MBX_CTRLm m) 7
  else true

/-- The firmware wants to post a word: it becomes the one pending word of its KIND for the master (R117). -/
def Dev.post (d : Dev) (m kind info : Nat) : Dev :=
  if d.kindEnabled m kind then
    { d with cmd := { d.cmd with
        outPend := Map.put d.cmd.outPend (16 * m + kind) (wd (kind * 2 ^ 28 + info % 2 ^ 28)) } }
  else d

/-- A word posted to every master of a list. -/
def Dev.postAll (d : Dev) (ms : List Nat) (kind info : Nat) : Dev :=
  ms.foldl (fun d m => d.post m kind info) d

/-- An event of GLB_EVT_STATUS for the rise of an HC register: HC_RISE goes to every enabled master (R100,
R118). -/
def Dev.hcRise (d : Dev) (bit : Nat) : Dev :=
  let d := d.sqSet Reg.GLB_EVT_STATUS [bit]
  d.postAll (List.range 16) 7 (d.fld Reg.GLB_EVT_STATUS 0 6)

/-- Sets bit `i` of an HC register to its cause; a rise sets event `ev` of GLB_EVT_STATUS (R100). -/
def Dev.hcSet (d : Dev) (k i : Nat) (b : Bool) (ev : Nat) : Dev :=
  let rose := b && !d.bit k i
  let d := d.setBit k i b
  if rose then d.hcRise ev else d

/-! ## The Lees log (R134) -/

/-- Writes an entry of the Lees log: words 0 to 3; the device adds the time and the sequence number. -/
def Dev.lees (d : Dev) (w0 w1 w2 w3 : Word) : Dev :=
  let n := d.regN Reg.CMD_LEES_SEQ
  let t := d.ptp.toNat
  (d.setRegs (Reg.CMD_LEES ((n % 1024) * 8)) [w0, w1, w2, w3, lo32 t, hi32 t, wd n, 0]).inc Reg.CMD_LEES_SEQ

/-! ## Fault records (R485, R486) -/

/-- One fault record's own fields; the device adds the time, the sequence number. -/
structure FaultRec where
  level : Nat
  kind : Nat
  block : Nat
  unit : Nat
  location : Word
  failed : Nat
  completed : Nat
  slice : Option (Nat × Nat)
  recoveryUs : Nat
  data : List Word

/-- A count held to 16 bits, saturating. -/
def sat16 (n : Nat) : Nat := if n < 65536 then n else 65535

/-- The twelve words of a record (R485). -/
def FaultRec.words (r : FaultRec) (t n : Nat) : List Word :=
  [wd (r.level * 2 ^ 28 + r.kind * 2 ^ 24 + r.block * 2 ^ 19 + r.unit % 65536),
   r.location,
   wd (sat16 r.failed * 65536 + sat16 r.completed),
   (match r.slice with
    | some (s, i) => wd (i * 2 ^ 24 + 2 ^ 23 + s)
    | none => 0),
   lo32 t, hi32 t, wd n, wd (sat16 r.recoveryUs * 65536),
   wordAt r.data 0, wordAt r.data 1, wordAt r.data 2, wordAt r.data 3]

/-- Writes a record to the fault ring, and a record of LEVEL 3 or 4 to the MRAM ring; sets RECORD and raises the
notify vectors (R486). -/
def Dev.fault (d : Dev) (r : FaultRec) : Dev :=
  let n := d.regN Reg.FLT_SEQ
  let ws := r.words d.ptp.toNat n
  let d := (d.setRegs (Reg.FLT_RING ((n % 1024) * 12)) ws).inc Reg.FLT_SEQ
  let d := if 3 ≤ r.level then
      { (d.setRegs (Reg.FLT_MRAM_RING ((d.flt.mramCount % 64) * 12)) ws) with
        flt := { d.flt with mramCount := d.flt.mramCount + 1 } }
    else d
  (d.sqSet Reg.FLT_EVT_STATUS [0]).notifyAll (Reg.FLT_NOTIFY_VECTORf 0)

/-- A plain record: level, kind, block, unit. -/
def faultRec (level kind block unit : Nat) : FaultRec :=
  ⟨level, kind, block, unit, 0, 0, 0, none, 0, []⟩

/-! ## Whether the device runs -/

/-- The boot stage reached (R497). -/
def Dev.stage? (d : Dev) : Nat := d.fld Reg.GLB_BOOT 28 4

/-- Halted under R488. -/
def Dev.halted (d : Dev) : Bool := d.bit Reg.GLB_HALT 0

/-- Every interface is usable: stage 7 reached, no boot failure, no reset held, no halt (R488, R498, R499). -/
def Dev.running (d : Dev) : Bool :=
  decide (d.stage? = 7) && !d.halted && !d.bit Reg.GLB_BOOT 27 && !d.pins.rstLow

/-- A command's effect on a running device; on a device that is booting, in reset or halted it has none. -/
def Dev.live (f : Dev → Dev) (d : Dev) : Dev := if d.running then f d else d

/-- The effect of a command on everything but the queue. -/
def State.onDev (s : State) (f : Dev → Dev) : State := { s with dev := f s.dev }

/-- Nanoseconds of PTP time now. -/
def Dev.time (d : Dev) : Nat := d.ptp.toNat

end Sys2Proof.Machine
end

