-- ==== Sys2Proof/Machine/GauOps.lean ====
section
/-! DEFINITION. Shared operations of the Grid Angle Unit: advance, observations, slews and steps, states,
merges, firings (R31 to R59). -/

namespace Sys2Proof.Machine

/-! ## A reference's state -/

/-- What a reference holds beside its registers; nothing tracked yet at reset. -/
def GRef.init (n : Nat) : GRef := ⟨60000000, 0, 0, 0, none, 0, 0, 0, 0, false, n, 0, false⟩

/-- The reference's own record. -/
def Dev.gref (d : Dev) (n : Nat) : GRef := Map.getD d.gau.refs n (GRef.init n)

/-- The reference's own record changed. -/
def Dev.setGref (d : Dev) (n : Nat) (f : GRef → GRef) : Dev :=
  { d with gau := { d.gau with refs := Map.put d.gau.refs n (f (d.gref n)) } }

/-- GAU_REFn_STATUS.STATE (R40): 0 OFF, 1 ACQUIRE, 2 LOCKED, 3 RELOCK, 4 HOLDOVER, 5 FREERUN. -/
def Dev.refState (d : Dev) (n : Nat) : Nat := d.fld (Reg.GAU_REFn_STATUS n) 0 3

/-- The reference whose source steers this one: itself, or its leader, or a promoted member (R47, R49). -/
def Dev.steer (d : Dev) (n : Nat) : Nat := d.fld (Reg.GAU_REFn_STATUS n) 10 2

/-- Merged as a follower. -/
def Dev.merged (d : Dev) (n : Nat) : Bool := d.bit (Reg.GAU_REFn_STATUS n) 9

/-- Sets STATE; GAU_LOST is 1 exactly in FREERUN, and its rise is an HC rise (R43, R100). -/
def Dev.setRefState (d : Dev) (n st : Nat) : Dev :=
  (d.setFld (Reg.GAU_REFn_STATUS n) 0 3 st).hcSet Reg.GAU_LOST n (decide (st = 5)) 2

/-- The angle of a reference. -/
def Dev.angle (d : Dev) (n : Nat) : Word := d.reg (Reg.GAU_ANGLEn n)

/-- The 48-bit cycle count (R35). -/
def Dev.cycle (d : Dev) (n : Nat) : Nat := d.reg64 (Reg.GAU_CYCLEn_LO n) % 2 ^ 48

/-- The cycle count increased by 1, modulo 2^48. -/
def Dev.incCycle (d : Dev) (n : Nat) : Dev := d.set64 (Reg.GAU_CYCLEn_LO n) ((d.cycle n + 1) % 2 ^ 48)

/-- NOMINAL in µHz: 50 or 60 Hz. -/
def Dev.nominal (d : Dev) (n : Nat) : Nat :=
  if d.bit (Reg.GAU_REFn_CTRL n) 28 then 60000000 else 50000000

/-- LOSS_POLICY (R42). -/
def Dev.lossPolicy (d : Dev) (n : Nat) : Nat := d.fld (Reg.GAU_REFn_CTRL n) 30 2

/-- The frequency in µHz at which the angle advances (R40, R42, R50). -/
def Dev.refRate (d : Dev) (n : Nat) : Nat :=
  let s := d.steer n
  match d.refState n with
  | 0 => 0
  | 1 => d.nominal n
  | 5 => if d.lossPolicy s = 2 then 0 else if d.lossPolicy s = 1 then d.nominal s else (d.gref s).freq
  | _ => (d.gref s).freq

/-- Whether events fire on the reference (R40, R50). -/
def Dev.firesOn (d : Dev) (n : Nat) : Bool :=
  match d.refState n with
  | 2 => true
  | 3 => true
  | 4 => true
  | 5 => decide (d.lossPolicy (d.steer n) ≠ 2)
  | _ => false

/-- The angle quality of R40. -/
def Dev.quality (d : Dev) (n : Nat) : Nat :=
  match d.refState n with
  | 2 => 0
  | 3 => 1
  | 4 => 2
  | _ => 3

/-- Frequency in µHz as unsigned 16.16 Hz (R36). -/
def hz16 (u : Nat) : Nat := (u * 65536 + 500000) / 1000000

/-- The reference's tracked frequency stored and reported. -/
def Dev.setFreq (d : Dev) (n u : Nat) : Dev :=
  (d.setGref n (fun g => { g with freq := u })).setN (Reg.GAU_REFn_FREQ n) (hz16 u)

/-- JUMP in counts (R38). -/
def Dev.jump (d : Dev) (n : Nat) : Nat := d.regN (Reg.GAU_REFn_JUMP n)

/-- Counts passed in one GAU clock at a rate in µHz, rounded up: for the hand-over windows (R55, R111). -/
def clockCounts (u : Nat) : Nat := ceilDiv (u * 2 ^ 33) (10 ^ 15)

/-- The next wrap of the reference lies within four GAU clocks: the hand-over window of R55 is open. -/
def Dev.nearWrap (d : Dev) (n : Nat) : Bool :=
  let r := d.refRate n
  decide (0 < r ∧ 2 ^ 32 - (d.angle n).toNat ≤ 4 * clockCounts r)

/-! ## The event table (R53 to R56) -/

/-- Word `w` of an entry of the active table. -/
def Dev.evt (d : Dev) (e w : Nat) : Word := d.reg (Reg.GAU_ACTIVE (4 * e + w))

/-- The reference a channel is bound to, if the channel is enabled. -/
def Dev.chanRef? (d : Dev) (c : Nat) : Option Nat :=
  let w := d.reg (Reg.GAU_CHANc_CTRL c)
  if Word.bit w 0 then some (Word.fld w 1 2) else none

/-- The cycle condition of R53. -/
def cycOk (w1 w2 : Word) (c : Nat) : Bool :=
  let m := Word.fld w1 0 16
  decide (m ≤ 1) || decide (c % m = Word.fld w2 16 16 % m)

/-- The lead of an action in ns (R54). -/
def leadNs : Nat → Nat
  | 1 => 38
  | 2 => 26
  | 3 => 30
  | 4 => 44
  | 5 => 40
  | 6 => 22
  | 7 => 12
  | 8 => 12
  | 10 => 48
  | _ => 0

/-- A time in ns as counts of angle at a rate in µHz. -/
def nsCounts (u ns : Nat) : Nat := u * ns * 2 ^ 32 / 10 ^ 15

/-- An entry fires under a cycle count: a reserved action is skipped with BAD_ACTION, NONE does nothing, any
other goes on its way to its target; ONESHOT clears VALID in the active copy, and in the shadow copy unless
software has written it (R44, R53 to R55). -/
def Dev.fireEntry (d : Dev) (n e cyc : Nat) (stepped late : Bool) : Dev :=
  let w1 := d.evt e 1
  let w2 := d.evt e 2
  let act := Word.fld w1 24 4
  let d := { d with gau := { d.gau with fired := Map.put d.gau.fired e cyc } }
  let d := if 11 ≤ act then d.sqSet Reg.GAU_EVT_STATUS [3]
    else if act = 0 then d
    else { d with gau := { d.gau with
      firings := d.gau.firings ++ [⟨act, Word.fld w2 0 16, d.evt e 3, cyc, d.quality n, stepped, late, n⟩] } }
  if Word.bit w1 30 then
    let d := d.setBit (Reg.GAU_ACTIVE (4 * e + 1)) 31 false
    if d.gau.dirty.contains e then d else d.setBit (Reg.GAU_SHADOW (4 * e + 1)) 31 false
  else d

/-- The entries of the active table with a word 1 other than 0. -/
def Dev.liveEntries (d : Dev) : List Nat :=
  d.rf.act.filterMap (fun p =>
    let b := Reg.GAU_ACTIVE 0
    if b ≤ p.1 ∧ p.1 < b + 0x10000 ∧ (p.1 - b) % 16 = 4 then some ((p.1 - b) / 16) else none)

/-- Insertion in rising order of the first component. -/
def insertBy (x : Nat × Nat) : List (Nat × Nat) → List (Nat × Nat)
  | [] => [x]
  | y :: ys => if x.1 < y.1 then x :: y :: ys else y :: insertBy x ys

/-- A list sorted by its first component, equal ones in their order. -/
def sortBy (l : List (Nat × Nat)) : List (Nat × Nat) := l.foldl (fun a x => insertBy x a) []

/-- The entries a forward step of `span` counts from `old` passes, in order of angle along the step, each with
its distance (R44). -/
def Dev.spanned (d : Dev) (n : Nat) (old : Word) (span : Nat) : List (Nat × Nat) :=
  sortBy (d.liveEntries.filterMap (fun e =>
    let dist := (d.evt e 0 - old).toNat
    if d.chanRef? (e / 64) = some n ∧ Word.bit (d.evt e 1) 31 = true ∧ 0 < dist ∧ dist ≤ span then
      some (dist, e)
    else none))

/-- Fires the entries of a forward step, each judged against the cycle count in force when its angle was passed
(R44, R45). -/
def Dev.fireSpan (d : Dev) (n : Nat) (old : Word) (cyc : Nat) : List (Nat × Nat) → Dev
  | [] => d
  | (dist, e) :: es =>
    let c := if 2 ^ 32 ≤ old.toNat + dist then (cyc + 1) % 2 ^ 48 else cyc
    let go := cycOk (d.evt e 1) (d.evt e 2) c && decide (Map.get? d.gau.fired e ≠ some c)
    (if go then d.fireEntry n e c true false else d).fireSpan n old cyc es

/-- The live entries of a channel whose angle has gone by in this cycle count as passed: they do not fire late (R53; log
entry 7). -/
def Dev.passChan (d : Dev) (c : Nat) : Dev :=
  match d.chanRef? c with
  | none => d
  | some n =>
    (d.liveEntries.filter (fun e => decide (e / 64 = c ∧ (d.evt e 0).toNat ≤ (d.angle n).toNat))).foldl
      (fun d e => { d with gau := { d.gau with fired := Map.put d.gau.fired e (d.cycle n) } }) d

/-- The same for every channel of a reference whose events begin to fire. -/
def Dev.passRef (d : Dev) (n : Nat) : Dev :=
  ((List.range 64).filter (fun c => d.chanRef? c == some n)).foldl Dev.passChan d

/-- The angle set the shorter way round: a forward step fires the entries it passes once, where asked, and counts a
crossing of 0; a backward one over 0 leaves the next wrap uncounted (R39, R44, R45). -/
def Dev.setAngle (d : Dev) (n : Nat) (new : Word) (fire : Bool) : Dev :=
  let old := d.angle n
  let df := sdiff new old
  let cyc := d.cycle n
  let d := if fire && d.firesOn n && decide (0 < df) then d.fireSpan n old cyc (d.spanned n old df.toNat) else d
  let d := if 0 < df ∧ 2 ^ 32 ≤ old.toNat + df.toNat then
      (if (d.gref n).skipWrap then d.setGref n (fun g => { g with skipWrap := false }) else d.incCycle n)
    else if df < 0 ∧ old.toNat < (-df).toNat then d.setGref n (fun g => { g with skipWrap := true })
    else d
  (d.setReg (Reg.GAU_ANGLEn n) new).setGref n (fun g => { g with err := 0 })

/-- A step to a new angle, with STEPPED (R45). -/
def Dev.angleStep (d : Dev) (n : Nat) (new : Word) (fire : Bool) : Dev :=
  (d.setAngle n new fire).sqSet Reg.GAU_EVT_STATUS [1]

/-- Closes an error: a step under JUMP_POLICY 1 or where forced, else a slew (R38). -/
def Dev.correct (d : Dev) (n : Nat) (obs : Word) (step fire : Bool) : Dev :=
  if step then d.angleStep n obs fire
  else d.setGref n (fun g => { g with err := sdiff obs (d.angle n) })

/-- JUMP_POLICY 1. -/
def Dev.stepPolicy (d : Dev) (n : Nat) : Bool := d.bit (Reg.GAU_REFn_CTRL n) 29

/-! ## Groups of merged references (R47 to R50) -/

/-- A follower still closes its difference to the reference that steers it, which is neither in HOLDOVER nor in FREERUN
(R47, R50; log entry 9). -/
def Dev.closing (d : Dev) (m s : Nat) : Bool :=
  d.merged m && decide (0x40000 ≤ (d.gref m).err.natAbs ∧ d.refState s ≠ 4 ∧ d.refState s ≠ 5)

/-- Every other member steered by `s` reports its state, frequency and ROCOF (R47, R50), a follower once it has closed its
difference. -/
def Dev.syncGroup (d : Dev) (s : Nat) : Dev :=
  (List.range 4).foldl (fun d m =>
    if m ≠ s ∧ d.steer m = s ∧ (d.merged m = true ∨ d.merged s = true) then
      if d.closing m s then d
      else ((d.setRefState m (d.refState s)).setReg (Reg.GAU_REFn_FREQ m) (d.reg (Reg.GAU_REFn_FREQ s))).setReg
        (Reg.GAU_REFn_ROCOF m) (d.reg (Reg.GAU_REFn_ROCOF s))
    else d) d

/-- A member takes the steering reference's angle as its target: an error that grows beyond its JUMP is a jump, stepped
or slewed by its own JUMP_POLICY (R38, R47). -/
def Dev.followOne (d : Dev) (m s : Nat) : Dev :=
  let tgt := d.angle s + BitVec.ofInt 32 (d.gref s).err
  let e := sdiff tgt (d.angle m)
  if d.jump m < e.natAbs then
    let fresh := decide ((d.gref m).err.natAbs ≤ d.jump m)
    let d := d.when fresh (fun d => (d.countFld (Reg.GAU_REFn_COUNTS m) 16 16).sqSet Reg.GAU_EVT_STATUS [16 + m])
    let d := d.when (fresh && !d.stepPolicy m && decide (d.refState m = 2)) (fun d => d.setRefState m 3)
    d.correct m tgt (d.stepPolicy m) true
  else d.correct m tgt false true

/-- Every other member steered by `s` follows its angle (R47). -/
def Dev.followAll (d : Dev) (s : Nat) : Dev :=
  (List.range 4).foldl (fun d m => if m ≠ s ∧ d.steer m = s ∧ d.refState m ≠ 0 then d.followOne m s else d) d

/-- The whole group of leader `l` is steered by `s`. -/
def Dev.setSteer (d : Dev) (l s : Nat) : Dev :=
  (List.range 4).foldl (fun d m =>
    if m = l ∨ (d.merged m = true ∧ (d.gref m).leader = l) then
      (d.setFld (Reg.GAU_REFn_STATUS m) 10 2 s).setBit (Reg.GAU_REFn_STATUS m) 8 (decide (m = s ∧ s ≠ l))
    else d) d

/-- The promoted source steers the group from its next observation; it starts from the group's state and
frequency (R49). -/
def Dev.promote (d : Dev) (l s : Nat) : Dev :=
  let old := d.steer l
  let d := (d.setRefState s (d.refState old)).setFreq s (d.gref old).freq
  (d.setSteer l s).setGref s (fun g => { g with beyond := 0 })

/-- The follower made a valid observation within the last predicted period (R49). -/
def Dev.recent (d : Dev) (n : Nat) : Bool :=
  match (d.gref n).lastValid with
  | none => false
  | some t => decide ((d.now - t) * 2 * d.refRate n ≤ 10 ^ 15)

/-- Promotion on a leader's entry into HOLDOVER with AUTO_PROMOTE: the lowest-numbered follower with a recent
valid observation (R49). -/
def Dev.followerPromote (d : Dev) (l : Nat) : Dev :=
  if d.bit Reg.GAU_TIE 31 then
    match (List.range 4).find? (fun m => d.merged m && decide ((d.gref m).leader = l) && d.recent m
        && decide (m ≠ d.steer l)) with
    | some m => d.promote l m
    | none => d
  else d

/-- LOCKED or RELOCK without a valid observation goes to HOLDOVER; HOLD 0 goes on to FREERUN at once; a leader's
group may be promoted (R41, R49). -/
def Dev.enterHoldover (d : Dev) (n : Nat) : Dev :=
  let d := ((d.setRefState n 4).sqSet Reg.GAU_EVT_STATUS [8 + n]).setGref n
    (fun g => { g with beyond := 0, agree := 0 })
  let d := if d.fld (Reg.GAU_REFn_LIMITS n) 0 16 = 0 then d.setRefState n 5 else d
  let l := if d.merged n then (d.gref n).leader else n
  (d.followerPromote l).syncGroup (d.steer n)

/-! ## Observations (R36, R38, R41) -/

/-- An invalid observation is counted and not used (R36). -/
def Dev.gauInvalid (d : Dev) (n : Nat) : Dev :=
  ((d.countFld (Reg.GAU_REFn_COUNTS n) 0 16).setBit (Reg.GAU_REFn_STATUS n) 7 false).setGref n
    (fun g => { g with agree := 0, beyond := 0, taint := true })

/-- ROCOF stored as a signed 16-bit count of mHz/s, sign-extended (R36, R61). -/
def Dev.setRocof (d : Dev) (n : Nat) (r : Int) : Dev :=
  let c := if r < -32768 then -32768 else if 32767 < r then 32767 else r
  d.setReg (Reg.GAU_REFn_ROCOF n) (BitVec.ofInt 32 c)

/-- A valid observation of the reference that steers itself or its group, by its state (R38, R41); a period that starts
at an invalid or discarded observation is not tracked (log entry 8). -/
def Dev.steerBy (d : Dev) (n : Nat) (obs : Word) (freq : Nat) (rocof : Int) : Dev :=
  let e := sdiff obs (d.angle n)
  let big := decide (d.jump n < e.natAbs)
  let g := d.gref n
  let clean (d : Dev) : Dev := d.setGref n (fun g => { g with taint := false })
  let trackAll (d : Dev) : Dev := clean ((d.setFreq n freq).setRocof n rocof)
  let track (d : Dev) : Dev := if g.taint then clean d else trackAll d
  let miss (d : Dev) : Dev :=
    (d.countFld (Reg.GAU_REFn_COUNTS n) 0 16).setGref n (fun g => { g with beyond := 1, taint := true })
  let jumped (d : Dev) : Dev :=
    ((d.countFld (Reg.GAU_REFn_COUNTS n) 16 16).sqSet Reg.GAU_EVT_STATUS [16 + n]).setGref n
      (fun g => { g with beyond := 0, calm := 0 })
  match d.refState n with
  | 1 =>
    if 4 ≤ g.agree then (((trackAll d).setAngle n obs false).setRefState n 2).passRef n
    else d
  | 2 =>
    if !big then ((track d).correct n obs false false).setGref n (fun g => { g with beyond := 0 })
    else if g.beyond = 0 then miss d
    else
      let d := trackAll (jumped d)
      if d.stepPolicy n then d.angleStep n obs true else (d.correct n obs false false).setRefState n 3
  | 3 =>
    if !big then ((track d).correct n obs false false).setGref n (fun g => { g with beyond := 0 })
    else if g.beyond = 0 then miss d
    else
      let d := trackAll (jumped d)
      d.correct n obs (d.stepPolicy n) true
  | 4 =>
    if !big then
      (((track d).correct n obs false false).setGref n (fun g => { g with beyond := 0 })).setRefState n 2
    else if g.beyond = 0 then miss d
    else
      let d := trackAll (jumped d)
      (d.correct n obs (d.stepPolicy n) true).setRefState n 3
  | 5 =>
    if 4 ≤ g.agree then
      let d := (trackAll d).setGref n (fun g => { g with calm := 0, beyond := 0 })
      (d.setRefState n 3).correct n obs (d.stepPolicy n || decide (d.lossPolicy n = 2)) true
    else d
  | _ => d

/-- A valid observation: of a reference on its own, or of the source that steers a group; a follower's own
observation only counts, unless it is promoted by it; an offset is ignored while merged (R47, R49, R50). -/
def Dev.gauObserve (d : Dev) (n : Nat) (obs : Word) (per freq : Nat) (rocof : Int) : Dev :=
  let obs := if d.merged n then obs else obs + d.reg (Reg.GAU_REFn_OFFSET n)
  let g := d.gref n
  let near := decide (g.agree = 0) || decide (200 * (if per < g.period then g.period - per else per - g.period) ≤ g.period)
  let agree := if d.refState n = 5 then g.agree + 1 else if near then g.agree + 1 else 1
  let d := (d.setBit (Reg.GAU_REFn_STATUS n) 7 true).setGref n
    (fun g => { g with lastValid := some d.now, period := per, agree := agree })
  let l := if d.merged n then (d.gref n).leader else n
  let st := d.refState (d.steer n)
  let d := if decide (d.steer n ≠ n) && d.merged n && d.bit Reg.GAU_TIE 31 && decide (st = 4 ∨ st = 5)
    then d.promote l n else d
  if d.steer n = n then ((d.steerBy n obs freq rocof).followAll n).syncGroup n else d

/-- An edge's period in ns lies in the trackable range (R36). -/
def periodOk (per : Nat) : Bool := decide (15152000 ≤ per ∧ per ≤ 22222000)

/-- The frequency in µHz of a period in ns. -/
def freqOf (per : Nat) : Nat := 10 ^ 15 / per

/-- An observation by zero crossing with the period before it: invalid out of range, else angle 0 at its instant
(R32, R33, R36). -/
def Dev.crossing (d : Dev) (n per : Nat) : Dev :=
  if periodOk per then
    let f := freqOf per
    let r : Int := ((f : Int) - ((d.gref n).freq : Int)) * 1000000 / (per : Int)
    d.gauObserve n 0 per f r
  else d.gauInvalid n

/-! ## Merges and splits (R46, R48) -/

/-- The committed MERGE bit and leader of a reference. -/
def tieOf (w : Word) (n : Nat) : Bool × Nat := (Word.bit w (4 * n + 2), Word.fld w (4 * n) 2)

/-- A GAU_TIE value is refused when a leader is itself merged, is the follower, or is OFF; the enables are those
the strobe would leave (R46). -/
def tieBad (tie : Word) (enabled : Nat → Bool) : Bool :=
  (List.range 4).any (fun n =>
    let (m, l) := tieOf tie n
    m && ((tieOf tie l).1 || decide (l = n) || !enabled l))

/-- Merges a follower: its target becomes the leader's angle, and it reports the leader's state (R47). -/
def Dev.mergeInto (d : Dev) (n l : Nat) : Dev :=
  let s := d.steer l
  let d := ((d.setBit (Reg.GAU_REFn_STATUS n) 9 true).setFld (Reg.GAU_REFn_STATUS n) 10 2 s).setGref n
    (fun g => { g with leader := l })
  ((d.setGref n (fun g => { g with err := 0 })).followOne n s).syncGroup s

/-- Splits a follower: it tracks its own source again from its angle, at the frequency it had from its leader; a
promoted follower gives its group back to the leader's source (R48, R49). -/
def Dev.splitOff (d : Dev) (n : Nat) : Dev :=
  let l := (d.gref n).leader
  let s := d.steer n
  let f := (d.gref s).freq
  let st := if d.refState n = 2 then 2 else 3
  let d := if s = n then (d.setSteer l l).syncGroup l else d
  let d := (((d.setBit (Reg.GAU_REFn_STATUS n) 9 false).setBit (Reg.GAU_REFn_STATUS n) 8 false).setFld
    (Reg.GAU_REFn_STATUS n) 10 2 n).setGref n
      (fun g => { g with leader := n, lastValid := some d.now, beyond := 0, calm := 0, err := 0 })
  (d.setFreq n f).setRefState n st

/-- At the follower's wrap, a committed merge, split or change of leader takes effect, unless its strobe fell within
the four clocks before (R46). -/
def Dev.tieApply (d : Dev) (n : Nat) : Dev :=
  let (m, l) := tieOf (d.reg Reg.GAU_TIE) n
  if d.now < d.gau.tieAt + 4 ∧ 0 < d.gau.tieAt then d
  else if m && (!d.merged n || decide ((d.gref n).leader ≠ l)) then
    (if d.merged n then d.splitOff n else d).mergeInto n l
  else if !m && d.merged n then d.splitOff n
  else d

/-- ENABLE committed: OFF with angle 0, its cycle count held, or ACQUIRE from OFF (R35, R41). -/
def Dev.refEnable (d : Dev) (n : Nat) (on : Bool) : Dev :=
  if on && decide (d.refState n = 0) then
    (d.setGref n (fun g => { GRef.init n with skipWrap := g.skipWrap, freq := d.nominal n })).setRefState n 1
  else if !on && decide (d.refState n ≠ 0) then
    let d := if d.merged n then d.splitOff n else d
    (((d.setRefState n 0).setReg (Reg.GAU_ANGLEn n) 0).setGref n
      (fun g => { g with err := 0, frac := 0, slewFrac := 0, lastValid := none, agree := 0, beyond := 0 }))
  else d

/-! ## Shadow sets of event channels (R55) -/

/-- A channel's hand-over: staged shadow writes travel with it, the shadow set becomes the active set, and the new
shadow set is a copy of it (R55, R103). -/
def Dev.chanHandover (d : Dev) (c : Nat) : Dev :=
  let base := Reg.GAU_SHADOW (256 * c)
  let mine (k : Nat) : Bool := decide (base ≤ k ∧ k < base + 1024)
  let d := (d.rf.stg.filter (fun p => mine p.1)).foldl
    (fun d p => ((d.setReg p.1 p.2.val).markExpert p.1 p.2.expert).unstage p.1) d
  let ks := (d.rf.act.map Prod.fst).filter
    (fun k => mine k || decide (base + 0x10000 ≤ k ∧ k < base + 0x10000 + 1024))
  let offs := (ks.map (fun k => if mine k then k - base else k - base - 0x10000)).eraseDups
  let d := offs.foldl (fun d o => d.setReg (base + 0x10000 + o) (d.reg (base + o))) d
  let d := d.setBit (Reg.GAU_CHAN_PEND (c / 32)) (c % 32) false
  { d with gau := { d.gau with dirty := d.gau.dirty.filter (fun e => e / 64 ≠ c) } }

/-- A channel is marked pending. -/
def Dev.chanPending (d : Dev) (c : Nat) : Bool := d.bit (Reg.GAU_CHAN_PEND (c / 32)) (c % 32)

/-- A strobe marks a channel pending; inside the hand-over window it waits for the wrap after, with SHADOW_LATE
(R55, R112). -/
def Dev.markChan (d : Dev) (c : Nat) : Dev :=
  let n := d.fld (Reg.GAU_CHANc_CTRL c) 1 2
  let d' := d.setBit (Reg.GAU_CHAN_PEND (c / 32)) (c % 32) true
  if d.nearWrap n && !d.chanPending c then
    { (d'.sqSet Reg.GAU_EVT_STATUS [0]) with gau := { d'.gau with lateChans := c :: d'.gau.lateChans } }
  else d'

/-- At a wrap, every pending channel of the reference hands over, those marked in the window excepted (R55). -/
def Dev.chansAtWrap (d : Dev) (n : Nat) : Dev :=
  (List.range 64).foldl (fun d c =>
    if d.fld (Reg.GAU_CHANc_CTRL c) 1 2 = n ∧ d.chanPending c = true then
      if d.gau.lateChans.contains c then
        { d with gau := { d.gau with lateChans := d.gau.lateChans.filter (· ≠ c) } }
      else d.chanHandover c
    else d) d

/-! ## The wrap's own work (R35, R41, R51, R52) -/

/-- RELOCK counts cycles with a small error and ends in LOCKED after eight (R41). -/
def Dev.wrapCounts (d : Dev) (n : Nat) : Dev :=
  match d.refState n with
  | 3 =>
    let calm := if (d.gref n).err.natAbs < 0x40000 then (d.gref n).calm + 1 else 0
    let d := d.setGref n (fun g => { g with calm := calm })
    if 8 ≤ calm ∧ d.steer n = n then ((d.setRefState n 2).sqSet Reg.GAU_EVT_STATUS [20 + n]).syncGroup n else d
  | _ => d

/-- TIE_SUSPECT: two unmerged, locked references together for ten cycles (R51). -/
def Dev.tieSuspect (d : Dev) (n : Nat) : Dev :=
  (List.range 4).foldl (fun d m =>
    if m = n then d else
    let close := d.refState n = 2 ∧ d.refState m = 2 ∧ d.merged n = false ∧ d.merged m = false ∧
      (sdiff (d.angle n) (d.angle m)).natAbs ≤ 0x400000 ∧
      ((d.gref n).freq : Int) - (d.gref m).freq ≤ 10000 ∧ ((d.gref m).freq : Int) - (d.gref n).freq ≤ 10000
    let c := if close then Map.getD d.gau.near (4 * n + m) 0 + 1 else 0
    let d := { d with gau := { d.gau with near := Map.putD d.gau.near (4 * n + m) 0 c } }
    if c = 10 then d.sqSet Reg.GAU_EVT_STATUS [12 + n] else d) d

/-- A wrap of the angle to `resid` counts past 0: cycle count, wrap stamp, ties, event-channel hand-overs. -/
def Dev.wrapBase (d : Dev) (n : Nat) (resid : Word) : Dev :=
  let d := d.setReg (Reg.GAU_ANGLEn n) resid
  let d := if (d.gref n).skipWrap then d.setGref n (fun g => { g with skipWrap := false }) else d.incCycle n
  let d := (d.set64 (Reg.GAU_WRAPTSn_LO n) d.time).setGref n (fun g => { g with wrapAt := d.now })
  (((d.wrapCounts n).tieApply n).chansAtWrap n).tieSuspect n

/-- What `k` GAU clocks without a wrap do to a reference: the counts its angle gains, and the fractions and error it is
left with (R35, R38). -/
def Dev.gain (d : Dev) (n k : Nat) : Nat × GRef :=
  let r := d.refRate n
  let g := d.gref n
  if r = 0 then (0, g) else
  let num := g.frac + k * r * 2 ^ 33
  let snum := g.slewFrac + k * d.fld (Reg.GAU_REFn_LIMITS n) 16 16 * 1000 * 2 ^ 33
  let s := Nat.min (snum / 10 ^ 15) g.err.natAbs
  let slew : Int := if g.err < 0 then -(s : Int) else s
  (((num / 10 ^ 15 : Nat) + slew).toNat,
   { g with frac := num % 10 ^ 15, err := g.err - slew, slewFrac := if g.err - slew = 0 then 0 else snum % 10 ^ 15 })

/-- `k` GAU clocks of a reference: the new angle, and the counts past 0 where it wrapped (R35). -/
def Dev.advance (d : Dev) (n k : Nat) : Dev × Option Word :=
  let (delta, g) := d.gain n k
  let a := (d.angle n).toNat + delta
  let d := if g = d.gref n then d else d.setGref n (fun _ => g)
  if 2 ^ 32 ≤ a then (d, some (wd a)) else (d.setN (Reg.GAU_ANGLEn n) a, none)

/-- The angle wraps within `k` GAU clocks. -/
def Dev.wrapsWithin (d : Dev) (n k : Nat) : Bool := decide (2 ^ 32 ≤ (d.angle n).toNat + (d.gain n k).1)

/-- The first clock in `(lo, hi]` by which some reference wraps, by halving; one does by `hi`. -/
def Dev.firstWrap (d : Dev) : Nat → Nat → Nat → Nat
  | 0, _, hi => hi
  | f + 1, lo, hi =>
    if hi ≤ lo + 1 then hi
    else
      let mid := (lo + hi) / 2
      if (List.range 4).any (fun n => d.wrapsWithin n mid) then d.firstWrap f lo mid else d.firstWrap f mid hi

/-- The first firing of an action to a target, taken from the list. -/
def Dev.takeFiring (d : Dev) (act target : Nat) : Option (Firing × Dev) :=
  match d.gau.firings.findIdx? (fun f => decide (f.action = act ∧ f.target = target)) with
  | some i =>
    match d.gau.firings[i]? with
    | some f => some (f, { d with gau := { d.gau with firings := d.gau.firings.eraseIdx i } })
    | none => none
  | none => none

end Sys2Proof.Machine
end

