-- ==== Sys2Proof/Machine/GateOps.lean ====
section
/-! DEFINITION. Gate lists: hand-over at a wrap, the gates in force, the pipeline that serves a port
(R16, R384, R386, R394). -/

namespace Sys2Proof.Machine

/-- The port group of a port: ports 0 to 7 are PG0, 8 to 15 PG1; ports 16 and 17 have a home port group (R375). -/
def Dev.portGroup (d : Dev) (p : Nat) : Nat :=
  if p < 8 then 0 else if p < 16 then 1 else d.fld (Reg.SCH_NCFG3 p) 30 1

/-- The pipeline that serves a port group (R16). -/
def Dev.pipeOf (d : Dev) (pg : Nat) : Nat := d.fld Reg.GLB_PIPE_ROLE (2 * pg) 2

/-- A counter of the scheduler, in the status window of the port's pipeline (R394). -/
def Dev.schCount (d : Dev) (p i : Nat) : Dev := d.count (Reg.SCH_COUNTS (d.pipeOf (d.portGroup p)) i) 1

/-- An event of the scheduler with its port (R394). -/
def Dev.schEvt (d : Dev) (p bit : Nat) : Dev :=
  let w := d.pipeOf (d.portGroup p)
  (d.sqSet (Reg.SCH_EVT_STATUS w) [bit]).setN (Reg.SCH_EVT_PORT w) p

/-- LENGTH of a port's gate list: above 64 treated as 64. -/
def Dev.gateLen (d : Dev) (p : Nat) : Nat := Nat.min 64 (d.fld (Reg.SCH_PORTp_GCTRL p) 0 7)

/-- The port is pending hand-over. -/
def Dev.gatePending (d : Dev) (p : Nat) : Bool := d.bit Reg.SCH_GATE_PEND p

/-- Every gate open, HOLD 0. -/
def Dev.openGates (d : Dev) (p : Nat) : Dev := (d.setFld (Reg.SCH_PORTp_GSTATE p) 0 8 0xFF).setBit (Reg.SCH_PORTp_GSTATE p) 17 false

/-- A port's hand-over: staged writes of its list travel with it, the shadow list and GCTRL become active; the gates in
force stay, but for a LENGTH of 0, which opens them all (R386). -/
def Dev.gateHandover (d : Dev) (p : Nat) : Dev :=
  let ks := Reg.SCH_PORTp_GCTRL p :: (List.range 64).map (fun e => Reg.SCH_GATE_SHADOW p e)
  let d := ks.foldl (fun d k =>
    match Map.get? d.rf.stg k with
    | some e => ((d.setReg k e.val).markExpert k e.expert).unstage k
    | none => d) d
  let d := (List.range 64).foldl (fun d e => d.setReg (Reg.SCH_GATE_ACTIVE p e) (d.reg (Reg.SCH_GATE_SHADOW p e))) d
  let d := (d.setBit Reg.SCH_GATE_PEND p false).setBit (Reg.SCH_PORTp_GSTATE p) 31 (decide (d.gateLen p ≠ 0))
  if d.gateLen p = 0 then d.openGates p else d

/-- The reference a port's hand-over waits for, as its shadow set names it. -/
def Dev.gateRef (d : Dev) (p : Nat) : Nat := Word.fld (d.staged (Reg.SCH_PORTp_GCTRL p)) 8 2

/-- A strobe marks a port pending; with its reference OFF it hands over at once; inside the hand-over window it waits for
the wrap after, with SHADOW_LATE (R386). The ports marked late are kept with the channels, from 64 on. -/
def Dev.markGates (d : Dev) (p : Nat) : Dev :=
  let n := d.gateRef p
  let d' := d.setBit Reg.SCH_GATE_PEND p true
  if d.refState n = 0 then d'.gateHandover p
  else if d.nearWrap n && !d.gatePending p then
    { (d'.schEvt p 0) with gau := { d'.gau with lateChans := (64 + p) :: d'.gau.lateChans } }
  else d'

/-- At a wrap, every pending port of the reference hands over, those marked in the window excepted (R386). -/
def Dev.gatesAtWrap (d : Dev) (n : Nat) : Dev :=
  (List.range 16).foldl (fun d p =>
    if d.gatePending p && decide (d.gateRef p = n) then
      if d.gau.lateChans.contains (64 + p) then
        { d with gau := { d.gau with lateChans := d.gau.lateChans.filter (· ≠ 64 + p) } }
      else d.gateHandover p
    else d) d

/-- At a wrap of reference `n`, its channels' shadow writes held in the hand-over window are applied after the exchange
and mark their channel pending again (R112). -/
def Dev.releaseHeld (d : Dev) (n : Nat) : Dev :=
  let late (h : Held) : Bool :=
    let e := Reg.GAU_SHADOW 0
    if e ≤ h.key ∧ h.key < e + 0x10000 then decide (d.fld (Reg.GAU_CHANc_CTRL ((h.key - e) / 1024)) 1 2 = n)
    else decide (d.gateRef ((h.key - Reg.SCH_PORTp_CTRL 0) / 0x400) = n)
  let hs := d.glb.held.filter late
  let d := { d with glb := { d.glb with held := d.glb.held.filter (fun h => !late h) } }
  hs.foldl (fun d h =>
    let d := { d with rf := { d.rf with stg := Map.put d.rf.stg h.key h.entry } }
    let e := Reg.GAU_SHADOW 0
    if e ≤ h.key ∧ h.key < e + 0x10000 then
      let c := (h.key - e) / 1024
      let d := d.setBit (Reg.GAU_CHAN_PEND (c / 32)) (c % 32) true
      { d with gau := { d.gau with dirty := ((h.key - e) / 16) :: d.gau.dirty } }
    else d.setBit Reg.SCH_GATE_PEND ((h.key - Reg.SCH_PORTp_CTRL 0) / 0x400) true) d

/-- A reference's angle wraps, `resid` counts past 0: everything that happens there (R35, R41, R46, R51, R52, R55,
R386). -/
def Dev.angleWrap (d : Dev) (n : Nat) (resid : Word) : Dev := ((d.wrapBase n resid).gatesAtWrap n).releaseHeld n

/-- `k` GAU clocks, in which no reference wraps before the last: PTP time advances by 2 ns a clock and every reference
by its frequency; a wrap falls on the last clock (R22, R35). -/
def Dev.ticks (d : Dev) (k : Nat) : Dev :=
  let d := { d with now := d.now + k, ptp := d.ptp + BitVec.ofNat 64 (2 * k) }
  (List.range 4).foldl (fun d n =>
    match d.advance n k with
    | (d, some r) => d.angleWrap n r
    | (d, none) => d) d

/-- One GAU clock. -/
def Dev.tick (d : Dev) : Dev := d.ticks 1

/-- `k` GAU clocks, wrap by wrap; the first number bounds the wraps. -/
def Dev.run (d : Dev) : Nat → Nat → Dev
  | 0, k => d.ticks k
  | f + 1, k =>
    if (List.range 4).any (fun n => d.wrapsWithin n k) then
      let j := d.firstWrap 64 0 k
      (d.ticks j).run f (k - j)
    else d.ticks k

/-- Time passes to GAU clock `t`; a time in the past changes nothing. -/
def Dev.runTo (d : Dev) (t : Nat) : Dev :=
  if t ≤ d.now then d else d.run (4 * ((t - d.now) / 2 ^ 21 + 2)) (t - d.now)

end Sys2Proof.Machine
end

