-- ==== Sys2Proof/Machine/EbsOps.lean ====
section
/-! DEFINITION. Shared operations of the Energy Budget Scheduler: costs, charges, admission, caps
(R62 to R80). -/

namespace Sys2Proof.Machine

/-! ## Costs and charges -/

/-- FIXED and VAR of an entry of the energy table. -/
def Dev.etab (d : Dev) (i : Nat) : Nat × Nat :=
  (d.regN (Reg.EBS_ETAB_FIXED0 + 8 * i), d.regN (Reg.EBS_ETAB_VAR0 + 8 * i))

/-- The charge of a unit in pJ: FIXED + VAR × measure / 1,000; while the voltage steps, the higher of the old and
the new cost (R68, R89). -/
def Dev.unitCost (d : Dev) (i measure : Nat) : Nat :=
  let (f, v) := d.etab i
  let new := f + v * measure / 1000
  let old := (wordAt d.ebs.oldTable (2 * i)).toNat + (wordAt d.ebs.oldTable (2 * i + 1)).toNat * measure / 1000
  if d.ebs.oldTable.isEmpty then new else Nat.max old new

/-- The 64-bit energy counter of an owner: a slice's, or the device's (R79). -/
def energyReg : Option Nat → Nat
  | some s => Reg.EBS_SLICE_ENERGYs s 0
  | none => Reg.EBS_ENERGY_DEVICE_LO

/-- Adds pJ to an owner's counter; the remainder under 1 µJ stays in its accumulator (R79). -/
def Dev.addEnergy (d : Dev) (own : Option Nat) (pj : Nat) : Dev :=
  let k := own.getD 8192
  let t := Map.getD d.ebs.accum k 0 + pj
  { (d.count64 (energyReg own) (t / 1000000)) with
    ebs := { d.ebs with accum := Map.putD d.ebs.accum k 0 (t % 1000000) } }

/-- Charges a unit to the window and its owner at once (R64, R79, R80). -/
def Dev.charge (d : Dev) (cls pj : Nat) (own : Option Nat) : Dev :=
  let e := d.ebs
  let e := { e with room := e.room - pj, class3 := if cls = 3 then e.class3 + pj else e.class3 }
  let e := match own with
    | some s => if 2 ≤ cls then { e with sliceNow := Map.put e.sliceNow s (Map.getD e.sliceNow s 0 + pj) } else e
    | none => e
  { d with ebs := e }.addEnergy own pj

/-! ## Admission (R64, R73, R77, R80, R179) -/

/-- STATE of a slice (R175). -/
def Dev.sliceState (d : Dev) (s : Nat) : Nat := d.fld (Reg.SLC_SLICE_STATUS s 0) 29 3

/-- The class a unit is offered at: a QUIESCING slice's classes 2 and 3 are offered as class 1 (R179). -/
def Dev.offeredClass (d : Dev) (cls : Nat) (own : Option Nat) : Nat :=
  match own with
  | some s => if 2 ≤ cls ∧ d.sliceState s = 3 then 1 else cls
  | none => cls

/-- The classes held: by the GSTRESS level in force and by a thermal trip, their union (R73, R74, R77). -/
def Dev.heldClass (d : Dev) (cls : Nat) : Bool :=
  let trip := d.bit Reg.EBS_THERMAL_TRIP 0 || d.ebs.tripHold
  (decide (cls = 3) && (decide (2 ≤ d.ebs.level) || trip)) ||
  (decide (cls = 2) && (decide (3 ≤ d.ebs.level) || trip))

/-- The reserve of a class in pJ (R64). -/
def Dev.reserve (d : Dev) (cls : Nat) : Nat :=
  let c1 := d.fld Reg.EBS_RESERVE 0 8
  let c23 := d.fld Reg.EBS_RESERVE 8 8
  match cls with
  | 2 => c1 * d.ebs.budget / 256
  | 3 => (c1 + c23) * d.ebs.budget / 256
  | _ => 0

/-- A slice's class 2 and 3 energy over the last 100 windows exceeds its limit × 1 ms (R80). -/
def Dev.sliceOver (d : Dev) (own : Option Nat) : Bool :=
  match own with
  | some s =>
    let lim := d.fld (Reg.EBS_SLICE_LIMITs s) 0 16
    decide (lim ≠ 0 ∧ lim * 10000000 < Map.getD d.ebs.sliceNow s 0 + (Map.getD d.ebs.sliceSum s []).sum)
  | none => false

/-- Whether a unit is admitted now: class 0 always; a held class never; else room less cost is at least the
reserve, class 3 within its level-1 share, the slice within its limit (R64, R73, R80). -/
def Dev.admits (d : Dev) (cls cost : Nat) (own : Option Nat) : Bool :=
  let k := d.offeredClass cls own
  if k = 0 then true
  else !d.heldClass k && decide (d.ebs.room - cost ≥ (d.reserve k : Int)) &&
    !(decide (k = 3 ∧ d.ebs.level = 1) && decide (64 * d.ebs.budget / 256 < d.ebs.class3 + cost)) &&
    !(decide (2 ≤ k) && d.sliceOver own)

/-- The refused unit of a point, if it waits there. -/
def Dev.waitingUnit (d : Dev) (p : Point) (u : Nat) : Option Waiting :=
  d.ebs.waiting.find? (fun w => decide (w.point = p ∧ w.unit = u))

/-- The waiting unit dropped from the list. -/
def Dev.dropWaiting (d : Dev) (p : Point) (u : Nat) : Dev :=
  { d with ebs := { d.ebs with
    waiting := d.ebs.waiting.filter (fun w => !decide (w.point = p ∧ w.unit = u)) } }

/-- A unit offered at its admission point (R64): admitted and charged at once, or refused; a refused unit waits
there, counts once as a refusal, and once as DEFERRED_ANGLE where an angle event brought it (R66). -/
def Dev.offer (d : Dev) (p : Point) (u cls cost : Nat) (own : Option Nat) (angle : Bool) : Bool × Dev :=
  if d.ebs.granted.contains (p, u) then
    (true, { d with ebs := { d.ebs with granted := d.ebs.granted.erase (p, u) } })
  else if d.admits cls cost own then
    (true, (d.dropWaiting p u).charge (d.offeredClass cls own) cost own)
  else
    let d := if decide (2 ≤ d.offeredClass cls own) && d.sliceOver own then d.sqSet Reg.EBS_STATUS [1] else d
    match d.waitingUnit p u with
    | some _ => (false, d)
    | none =>
      let d := d.count (Reg.EBS_COUNTS 3) 1
      let d := if angle then d.count (Reg.EBS_COUNTS 0) 1 else d
      (false, { d with ebs := { d.ebs with waiting := d.ebs.waiting ++ [⟨p, u, cls, cost, own, angle⟩] } })

/-! ## Caps (R72, R73, R76) -/

/-- The hottest reading in units of 0.25 °C. -/
def Dev.temp (d : Dev) : Int := (BitVec.ofNat 16 (d.fld Reg.EBS_TEMP 0 16)).toInt

/-- A host or BMC cap held to the 80 W floor (R72), in 0.1 W. -/
def capFloor (v : Nat) : Nat := if v < 800 then 800 else v

/-- The thermal source above THROTTLE, in 0.1 W (R76). -/
def Dev.thermalCap (d : Dev) : Option Nat :=
  let excess := d.temp - 4 * (d.fld Reg.EBS_THERMAL_CTRL 0 8 : Int)
  if excess ≤ 0 then none else some (2330 - 25 * excess).toNat

/-- The cap of the GSTRESS level in force (R73). -/
def Dev.stressCap (d : Dev) : Option Nat :=
  match d.ebs.level with
  | 0 => none
  | 1 => some (d.fld Reg.EBS_GSTRESS_L1 0 16)
  | 2 => some (d.fld Reg.EBS_GSTRESS_L2 0 16)
  | _ => some (d.fld Reg.EBS_GSTRESS_L3 0 16)

/-- The effective cap in 0.1 W and the sources that set it, one bit each, ties included (R72). -/
def Dev.effectiveCap (d : Dev) : Nat × Nat :=
  let srcs : List (Nat × Option Nat) :=
    [(0, some 2330), (1, some (capFloor (d.fld Reg.EBS_CAP_HOST 0 16))),
     (2, some (capFloor (d.fld Reg.EBS_CAP_BMC 0 16))), (3, d.thermalCap), (4, d.stressCap)]
  let low := srcs.foldl (fun a p => Nat.min a (p.2.getD 2330)) 2330
  (low, srcs.foldl (fun (b : Nat) (p : Nat × Option Nat) => if p.2 = some low then b + 2 ^ p.1 else b) 0)

/-- The GSTRESS level a window start puts in force: 0 while disabled, the forced level, else the level last
accepted from the balls (R73). -/
def Dev.levelTarget (d : Dev) : Nat :=
  if !d.bit Reg.EBS_GSTRESS_CTRL 0 then 0
  else if d.bit Reg.EBS_GSTRESS_CTRL 1 then d.fld Reg.EBS_GSTRESS_CTRL 2 2
  else d.ebs.accepted

/-- The base energy of a window in pJ, never negative (R68, R70). -/
def Dev.baseCost (d : Dev) : Nat :=
  let (f, v) := d.etab 0
  ((f : Int) + (v : Int) * (d.temp - 340) / 1000).toNat

end Sys2Proof.Machine
end

