-- ==== Sys2Proof/Machine/PceOps.lean ====
section
/-! DEFINITION. Shared operations of the host endpoints: links, tags, reads, error log, writes that carry a
slice's PASID (R145, R151 to R164, R186). -/

namespace Sys2Proof.Machine

/-- The functions of a link: none where the link is not present. -/
def Dev.linkFns (d : Dev) (l : Nat) : List Nat := (List.range 4).filter (fun f => decide (d.linkOf f = l))

/-- The data link layer of a link is up. -/
def Dev.linkUp (d : Dev) (l : Nat) : Bool := d.bit (Reg.PCE_LINK_STATUSl l) 15

/-- Requests a link keeps outstanding at most: 8,192 tags in flit mode, 768 else (R152). -/
def Dev.tagLimit (d : Dev) (l : Nat) : Nat := if d.bit (Reg.PCE_LINK_STATUSl l) 14 then 8192 else 768

/-- Tags of a link in a state. -/
def Dev.tagCount (d : Dev) (l : Nat) (st : TagState) : Nat :=
  Map.count d.pce.reads (fun k r => decide (k / 16384 = l ∧ r.state = st))

/-- PCE_TAGS brought up to date. -/
def Dev.showTags (d : Dev) (l : Nat) : Dev :=
  d.setN (Reg.PCE_TAGSl l) (d.tagCount l .quarantine * 65536 + d.tagCount l .outstanding)

/-- The lowest free tag of a link; a quarantined tag is not free (R152). -/
def Dev.freeTag (d : Dev) (l : Nat) : Option Nat :=
  (Map.free? d.pce.reads (16384 * l) (d.tagLimit l)).map (fun k => k - 16384 * l)

/-- Issues a read on a function's link; `none` where no tag is free or the function may issue no request. -/
def Dev.issueRead (d : Dev) (f : Nat) (slice : Option Nat) (item : ReadFor) (addr len : Nat) : Option Dev :=
  let l := d.linkOf f
  if d.canIssue f then
    match d.freeTag l with
    | some t =>
      some ((({ d with pce := { d.pce with
        reads := Map.put d.pce.reads (16384 * l + t) ⟨.outstanding, f, slice, item, d.now⟩ } } : Dev).request f
          (.hostRead f t addr len)).showTags l)
    | none => none
  else none

/-- Logs an error of R164 in a function's AER capability, by its row from 0. -/
def Dev.aer (d : Dev) (f row : Nat) : Dev := d.setFn f (fun p => { p with aer := row :: p.aer })

/-- A counter of PCE_COUNTSf. -/
def Dev.pceCount (d : Dev) (f i n : Nat) : Dev := d.count (Reg.PCE_COUNTSf f i) n

/-- An event of PCE_EVT_STATUSf. -/
def Dev.pceEvt (d : Dev) (f bit : Nat) : Dev := d.sqSet (Reg.PCE_EVT_STATUSf f) [bit]

/-! ## A slice's own fields (R191) -/

/-- Home function of a slice. -/
def Dev.home (d : Dev) (s : Nat) : Nat := d.fld (Reg.SLC_SLICE_STATUS s 0) 20 2

/-- PASID of a slice. -/
def Dev.pasid (d : Dev) (s : Nat) : Nat := d.fld (Reg.SLC_SLICE_STATUS s 0) 0 20

/-- Incarnation of a slice: of the live slice, or the next one when FREE. -/
def Dev.incarnation (d : Dev) (s : Nat) : Nat := d.fld (Reg.SLC_SLICE_STATUS s 1) 24 8

/-- A statistics counter of a slice increased (R185). -/
def Dev.stat (d : Dev) (s i n : Nat) : Dev := d.count64 (Reg.SLC_STATSs s (2 * i)) n

/-- An item of a slice ended while its quiesce walk is under way: counted in the step (R181). -/
def Dev.walkCount (d : Dev) (s : Nat) (ok : Bool) : Dev :=
  match Map.get? d.slc.walks s with
  | some w =>
    let bump (l : List Nat) : List Nat := l.set (w.step - 1) (l.getD (w.step - 1) 0 + 1)
    let w' := if ok then { w with completed := bump w.completed } else { w with failed := bump w.failed }
    if 1 ≤ w.step ∧ w.step ≤ 10 then { d with slc := { d.slc with walks := Map.put d.slc.walks s w' } } else d
  | none => d

/-- An event of SLC_EVT_STATUS for a slice. -/
def Dev.slcEvt (d : Dev) (s bit : Nat) : Dev := (d.sqSet Reg.SLC_EVT_STATUS [bit]).setN Reg.SLC_EVT_SLICE s

/-- Pages of 4 KiB a write of `len` bytes at `addr` touches. -/
def pagesOf (addr len : Nat) : List Nat :=
  if len = 0 then [] else (List.range ((addr + len - 1) / 4096 - addr / 4096 + 1)).map (· + addr / 4096)

/-- Marks a page dirty while the slice's log is on: a page already in the set is not added again; at the slice's or
the device's limit OVERFLOW is set (R186, R187). -/
def Dev.markPage (d : Dev) (s pg : Nat) : Dev :=
  let set := Map.getD d.slc.dirty s []
  if set.contains pg || d.bit (Reg.SLC_SLICE_STATUS s 1) 22 then d
  else if d.regN Reg.SLC_DIRTY_MAX ≤ set.length ∨ 16 * 2 ^ 20 ≤ d.regN Reg.SLC_DIRTY_USED then
    (d.setBit (Reg.SLC_SLICE_STATUS s 1) 22 true).slcEvt s 4
  else
    ({ d with slc := { d.slc with dirty := Map.put d.slc.dirty s (pg :: set) } } : Dev).setN Reg.SLC_DIRTY_USED
      (d.regN Reg.SLC_DIRTY_USED + 1)

/-- Marks the pages of a write while the log is on. -/
def Dev.markDirty (d : Dev) (s addr len : Nat) : Dev :=
  if d.bit (Reg.SLC_SLICE_STATUS s 1) 23 then (pagesOf addr len).foldl (fun d p => d.markPage s p) d else d

/-- A write of words to host memory with a slice's PASID; its pages are marked first (R151, R186). -/
def Dev.sliceWrite (d : Dev) (s addr : Nat) (ws : List Word) : Dev :=
  (d.markDirty s addr (4 * ws.length)).request (d.home s) (.hostWrite (d.home s) (some (d.pasid s)) addr ws)

/-- A write of bytes to host memory with a slice's PASID. -/
def Dev.sliceBytes (d : Dev) (s addr : Nat) (bs : List Byte) : Dev :=
  (d.markDirty s addr bs.length).request (d.home s) (.hostBytes (d.home s) (some (d.pasid s)) addr bs)

/-- Bytes written along a list of fragments, in order (R199, R201). -/
def Dev.scatter (d : Dev) (s : Nat) : List (Nat × Nat) → List Byte → Dev
  | [], _ => d
  | (a, n) :: fs, bs =>
    if n = 0 ∨ bs.isEmpty then d.scatter s fs bs
    else (d.sliceBytes s a (bs.take n)).scatter s fs (bs.drop n)

/-! ## Pools and quotas (R169, R170) -/

/-- A slice's quota of a pool, from the words of R171; pool 0 is reserved whole. -/
def Dev.quota (d : Dev) (s pool : Nat) : Nat :=
  match pool with
  | 0 => d.fld (Reg.SLC_SLICE_STATUS s 1) 0 11
  | 1 => d.fld (Reg.SLC_QUOTA2 s) 0 18
  | 2 => d.fld (Reg.SLC_QUOTA5 s) 8 7
  | 3 => d.fld (Reg.SLC_QUOTA3 s) 0 21
  | 4 => d.fld (Reg.SLC_QUOTA4 s) 0 17
  | 5 => d.fld (Reg.SLC_QUOTA5 s) 16 16
  | 6 => d.fld (Reg.SLC_QUOTA6 s) 0 23
  | 7 => d.fld (Reg.SLC_QUOTA4 s) 17 11
  | 8 => d.fld (Reg.SLC_QUOTA7 s) 10 13
  | _ => d.fld (Reg.SLC_QUOTA7 s) 23 9

/-- The device total of a pool (R169). -/
def poolTotal : Nat → Nat
  | 0 => 131072
  | 1 => 131072
  | 2 => 64
  | 3 => 1048576
  | 4 => 65536
  | 5 => 32768
  | 6 => 4194304
  | 7 => 1024
  | 8 => 4096
  | _ => 256

/-- The register that shows a pool's free units. -/
def poolReg (pool : Nat) : Nat := Reg.SLC_POOL_FREE0 + 4 * pool

/-- What a slice holds of a pool. -/
def Dev.holds (d : Dev) (s pool : Nat) : Nat := Map.getD d.slc.use (16 * s + pool) 0

/-- The slice's quota and the pool both have room for `n` (R169). -/
def Dev.poolRoom (d : Dev) (s pool n : Nat) : Bool :=
  decide (d.holds s pool + n ≤ d.quota s pool ∧ n ≤ d.regN (poolReg pool))

/-- Takes `n` units of a pool for a slice. -/
def Dev.poolTake (d : Dev) (s pool n : Nat) : Dev :=
  ({ d with slc := { d.slc with use := Map.putD d.slc.use (16 * s + pool) 0 (d.holds s pool + n) } } : Dev).setN
    (poolReg pool) (d.regN (poolReg pool) - n)

/-- Gives `n` units of a pool back. -/
def Dev.poolFree (d : Dev) (s pool n : Nat) : Dev :=
  ({ d with slc := { d.slc with use := Map.putD d.slc.use (16 * s + pool) 0 (d.holds s pool - n) } } : Dev).setN
    (poolReg pool) (d.regN (poolReg pool) + n)

/-- Gives everything of a pool back. -/
def Dev.poolFreeAll (d : Dev) (s pool : Nat) : Dev := d.poolFree s pool (d.holds s pool)

end Sys2Proof.Machine
end

