-- ==== Sys2Proof/Machine/DmaOps.lean ====
section
/-! DEFINITION. Shared operations of the DMA engine: states, write-back, graceful stop, disable, hand-over
(R216 to R226). -/

namespace Sys2Proof.Machine

/-- DMA_CHc_STATE.STATE: 0 IDLE, 1 RUNNING, 2 STOPPING, 3 STOPPED, 4 ERROR, 5 DISABLED. -/
def Dev.chState (d : Dev) (c : Nat) : Nat := d.fld (Reg.DMA_CHc_STATE c) 29 3

/-- The channel's state changed. -/
def Dev.setChState (d : Dev) (c st : Nat) : Dev := d.setFld (Reg.DMA_CHc_STATE c) 29 3 st

/-- An event of a channel: in its own EVT, and CHANNEL_EVENT with the channel (R226). -/
def Dev.chEvent (d : Dev) (c : Nat) (bits : List Nat) : Dev :=
  ((d.sqSet (Reg.DMA_CHc_EVT c) bits).sqSet Reg.DMA_EVT_STATUS [0]).setN Reg.DMA_EVT_CHANNEL c

/-- The function a channel's requests go through. -/
def Dev.chFn (d : Dev) (c : Nat) : Nat := d.fld (Reg.DMA_CHc_CTRL c) 23 2

/-- The slice and incarnation that own a channel. -/
def Dev.chOwner (d : Dev) (c : Nat) : Option (Nat × Nat) :=
  let w := d.reg (Reg.DMA_CHc_OWNER c)
  if Word.bit w 31 then some (Word.fld w 0 13, Word.fld w 16 8) else none

/-- The slice that owns a channel. -/
def Dev.chSlice (d : Dev) (c : Nat) : Option Nat := (d.chOwner c).map Prod.fst

/-- The EBS class of a channel: 0b00 class 1, 0b01 class 2, 0b10 class 3. -/
def Dev.chClass (d : Dev) (c : Nat) : Nat := d.fld (Reg.DMA_CHc_CTRL c) 26 2 + 1

/-- A ring size of a channel: a power of two from 16 to 4,096. -/
def chSizeOk (n : Nat) : Bool := [16, 32, 64, 128, 256, 512, 1024, 2048, 4096].contains n

/-- The address of a descriptor of the channel's ring. -/
def Dev.descAddr (d : Dev) (c i : Nat) : Nat :=
  let size := d.fld (Reg.DMA_CHc_CTRL c) 0 16
  d.reg64 (Reg.DMA_CHc_BASE_LO c) + (if size = 0 then 0 else i % size) * 32

/-- Stores words of HBM (descriptor rings and data the engine keeps there). -/
def Dev.hbmPut (d : Dev) (addr : Nat) (ws : List Word) : Dev :=
  { d with dma := { d.dma with
    hbm := ((List.range ws.length).zip ws).foldl (fun h p => Map.putD h (addr / 4 + p.1) 0 p.2) d.dma.hbm } }

/-- A write of a channel to host memory: with the slice's PASID where a slice owns it (R216). -/
def Dev.chWrite (d : Dev) (c addr : Nat) (ws : List Word) : Dev :=
  match d.chSlice c with
  | some s => (d.markDirty s addr (4 * ws.length)).request (d.chFn c) (.hostWrite (d.chFn c) (some (d.pasid s)) addr ws)
  | none => d.request (d.chFn c) (.hostWrite (d.chFn c) none addr ws)

/-- A write of bytes of a channel to host memory. -/
def Dev.chBytes (d : Dev) (c addr : Nat) (bs : List Byte) : Dev :=
  match d.chSlice c with
  | some s => (d.markDirty s addr bs.length).request (d.chFn c) (.hostBytes (d.chFn c) (some (d.pasid s)) addr bs)
  | none => d.request (d.chFn c) (.hostBytes (d.chFn c) none addr bs)

/-- ENABLE cleared in the active and the staging copy (R222). -/
def Dev.clearEnable (d : Dev) (c : Nat) : Dev :=
  let k := Reg.DMA_CHc_CTRL c
  let d := d.setBit k 31 false
  match Map.get? d.rf.stg k with
  | some e => { d with rf := { d.rf with
      stg := Map.put d.rf.stg k { e with val := Word.setBit e.val 31 false } } }
  | none => d

/-- Ends the descriptor in progress with a status: LAST, DONE, the head past it; written back where the channel can
(R218, R222). -/
def Dev.endDesc (d : Dev) (c status : Nat) : Dev :=
  match Map.get? d.dma.run c with
  | none => d
  | some r =>
    let w0 := Word.setFld (Word.setBit (wordAt r.words 0) 31 false) 0 8 status
    let hbm := d.bit (Reg.DMA_CHc_CTRL c) 25
    let d := if hbm then d.hbmPut (d.descAddr c r.index) [w0, wd r.done]
      else if d.canIssue (d.chFn c) then d.chWrite c (d.descAddr c r.index) [w0, wd r.done] else d
    let d := ((d.setN (Reg.DMA_CHc_LAST c) (r.index % 65536 * 65536 + status)).setN (Reg.DMA_CHc_LAST_DONE c)
      r.done).setFld (Reg.DMA_CHc_STATE c) 0 16 (r.index + 1)
    let d := d.setFld (Reg.DMA_CHc_STATE c) 16 13 0
    { d with dma := { d.dma with run := Map.del d.dma.run c } }

/-- A graceful stop: an idle channel or one in ERROR stops at once, a running one at its boundary (R221). -/
def Dev.gracefulStop (d : Dev) (c : Nat) : Dev :=
  let st := d.chState c
  let d := d.clearEnable c
  if st = 0 ∨ st = 4 then (d.setChState c 3).chEvent c [2]
  else if st = 1 then d.setChState c 2
  else d

/-- A disable: the descriptor in progress ends with `status`, the data of outstanding reads is discarded, the channel
enters DISABLED (R222). -/
def Dev.chDisable (d : Dev) (c status : Nat) : Dev :=
  let d := ((d.clearEnable c).endDesc c status).setChState c 5
  let d := { d with dma := { d.dma with kicked := d.dma.kicked.filter (· ≠ c), remembered := d.dma.remembered.filter (· ≠ c) } }
  (d.dropWaiting .dma c).chEvent c [1]

/-- The five registers of a channel's shadow set (R224). -/
def chShadow (c : Nat) : List Nat := (List.range 5).map (fun i => Reg.DMA_CHc_BASE_LO c + 4 * i)

/-- The channel is pending hand-over. -/
def Dev.chPending (d : Dev) (c : Nat) : Bool := d.bit (Reg.DMA_PEND (c / 32)) (c % 32)

/-- A hand-over: the shadow set becomes the active set; a changed ring starts at head 0; ENABLE 0 is a graceful
stop at the boundary, a bad CTRL an ERROR, ENABLE 1 wakes a stopped or disabled channel (R222, R224). -/
def Dev.chHandover (d : Dev) (c : Nat) : Dev :=
  let ctl := Reg.DMA_CHc_CTRL c
  let ring (d : Dev) := (d.reg64 (Reg.DMA_CHc_BASE_LO c), d.fld ctl 0 16, d.fld ctl 25 1)
  let before := ring d
  let d := (chShadow c).foldl (fun d k =>
    match Map.get? d.rf.stg k with
    | some e => ((d.setReg k e.val).markExpert k e.expert).unstage k
    | none => d) d
  let d := d.setBit (Reg.DMA_PEND (c / 32)) (c % 32) false
  let d := if ring d = before then d else d.setFld (Reg.DMA_CHc_STATE c) 0 16 0
  let on := d.bit ctl 31
  let bad := decide (d.fld ctl 26 2 = 3) || !chSizeOk (d.fld ctl 0 16)
  if !on then
    (let st := d.chState c
     if st = 1 ∨ st = 2 ∨ st = 0 ∨ st = 4 then (d.setChState c 3).chEvent c [2] else d)
  else if bad then (d.setChState c 4).chEvent c [3]
  else if d.chState c = 3 ∨ d.chState c = 5 then d.setChState c 0
  else d

/-- A strobe marks a channel with a written shadow set pending; one that runs nothing hands over on its next clock
(R224). -/
def Dev.markCh (d : Dev) (c : Nat) : Dev :=
  let d := d.setBit (Reg.DMA_PEND (c / 32)) (c % 32) true
  if d.chState c = 1 ∨ d.chState c = 2 then d else d.chHandover c

/-- The class a kick's unit waits at, and the kick itself (R218): an idle channel or one in ERROR asks to start; a
running one remembers one kick; a stopped one ignores it; a disabled one does too. -/
def Dev.kick (d : Dev) (c : Nat) : Dev :=
  match d.chState c with
  | 0 => if d.dma.kicked.contains c then d else { d with dma := { d.dma with kicked := c :: d.dma.kicked } }
  | 4 => if d.dma.kicked.contains c then d else { d with dma := { d.dma with kicked := c :: d.dma.kicked } }
  | 1 => if d.dma.remembered.contains c then d
         else { d with dma := { d.dma with remembered := c :: d.dma.remembered } }
  | _ => d

/-- The channels a slice owns. -/
def Dev.sliceChans (d : Dev) (s : Nat) : List Nat :=
  (List.range 64).filter (fun c => decide (d.chSlice c = some s))

end Sys2Proof.Machine
end

