-- ==== Sys2Proof/Machine/RingOps.lean ====
section
/-! DEFINITION. Shared operations of rings and slices: queues, room, completions, deliveries, corks
(R174 to R178, R192 to R215). -/

namespace Sys2Proof.Machine

/-! ## Queues (R192, R193) -/

/-- Key of a queue in `qmap`: kind (1 for a CQ), slice, number in the slice. -/
def qkey (cq s n : Nat) : Nat := (cq * 8192 + s) * 1024 + n

/-- The device number of a slice's queue. -/
def Dev.queue? (d : Dev) (cq s n : Nat) : Option Nat := Map.get? d.rng.qmap (qkey cq s n)

/-- TYPE of a queue: 0 transmit SQ, 1 receive SQ, 2 CQ. -/
def Dev.qType (d : Dev) (cq q : Nat) : Nat := d.fld (Reg.RNG_QCFG2 cq q) 30 2

/-- SIZE of a queue's ring. -/
def Dev.qSize (d : Dev) (cq q : Nat) : Nat := d.fld (Reg.RNG_QCFG2 cq q) 0 16

/-- BASE of a queue's ring. -/
def Dev.qBase (d : Dev) (cq q : Nat) : Nat := cat64 (d.reg (Reg.RNG_QCFG0 cq q)) (d.reg (Reg.RNG_QCFG1 cq q))

/-- The slice of a queue, and the queue's number in it. -/
def Dev.qSlice (d : Dev) (cq q : Nat) : Nat := d.fld (Reg.RNG_QSTATE2 cq q) 10 13
def Dev.qNum (d : Dev) (cq q : Nat) : Nat := d.fld (Reg.RNG_QSTATE2 cq q) 0 10

/-- The device's index of a queue (SQ head or CQ tail), and the host's (last valid tail or head). -/
def Dev.devIdx (d : Dev) (cq q : Nat) : Nat := d.fld (Reg.RNG_QSTATE0 cq q) 16 16
def Dev.hostIdx (d : Dev) (cq q : Nat) : Nat := d.fld (Reg.RNG_QSTATE0 cq q) 0 16

/-- The CQ an SQ is bound to, as a device number. -/
def Dev.boundCq (d : Dev) (q : Nat) : Option Nat :=
  d.queue? 1 (d.qSlice 0 q) (d.fld (Reg.RNG_QCFG2 0 q) 16 10)

/-- A queue is free. -/
def Dev.qFree (d : Dev) (cq q : Nat) : Bool := decide (d.reg (Reg.RNG_QSTATE2 cq q) = BitVec.allOnes 32)

/-- EBS class of an SQ (R195): 0 deterministic, 2 normal, 3 bulk; CLASS 0 is the slice's default. -/
def Dev.sqClass (d : Dev) (q : Nat) : Nat :=
  match d.fld (Reg.RNG_QCFG2 0 q) 28 2 with
  | 1 => 2
  | 2 => 3
  | 3 => 0
  | _ => if d.bit (Reg.SLC_SLICE_STATUS (d.qSlice 0 q) 0) 22 then 3 else 2

/-- A CQ is deterministic, with a spill of 64 entries; others have 16 (R195). -/
def Dev.cqDet (d : Dev) (q : Nat) : Bool := decide (d.fld (Reg.RNG_QCFG2 1 q) 28 2 = 3)
def Dev.spillSize (d : Dev) (q : Nat) : Nat := if d.cqDet q then 64 else 16

/-- Forward distance of 16-bit indices. -/
def fwd16 (a b : Nat) : Nat := (a + 65536 - b % 65536) % 65536

/-- Entries the host may not have read yet: tail − head. -/
def Dev.cqUsed (d : Dev) (q : Nat) : Nat := fwd16 (d.devIdx 1 q) (d.hostIdx 1 q)

/-- SPILLED and RESERVED of a CQ. -/
def Dev.spilled (d : Dev) (q : Nat) : Nat := d.fld (Reg.RNG_QSTATE1 1 q) 16 7
def Dev.reserved (d : Dev) (q : Nat) : Nat := d.fld (Reg.RNG_QSTATE1 1 q) 0 16

/-- The room of a CQ (R211). -/
def Dev.room (d : Dev) (q : Nat) : Nat :=
  d.qSize 1 q + d.spillSize q - (d.cqUsed q + d.spilled q + d.reserved q)

/-- An event of RNG_EVT_STATUS for a queue (R225). -/
def Dev.rngEvt (d : Dev) (bit cq q : Nat) : Dev :=
  (d.sqSet Reg.RNG_EVT_STATUS [bit]).setN Reg.RNG_EVT_QUEUE
    (cq * 2 ^ 23 + d.qSlice cq q * 1024 + d.qNum cq q)

/-- SQs bound to a CQ. -/
def Dev.boundSqs (d : Dev) (cq : Nat) : List Nat :=
  let s := d.qSlice 1 cq
  let n := d.qNum 1 cq
  d.rng.qmap.filterMap (fun p =>
    if p.1 / (8192 * 1024) = 0 ∧ p.1 / 1024 % 8192 = s ∧ d.fld (Reg.RNG_QCFG2 0 p.2) 16 10 = n
    then some p.2 else none)

/-- CQ_FULL follows the room: set with its event when room reaches 0, cleared when there is room; the bound SQs
stall with it (R213). -/
def Dev.showFull (d : Dev) (cq : Nat) : Dev :=
  let full := decide (d.room cq = 0)
  let was := d.bit (Reg.RNG_QSTATE1 1 cq) 31
  let d := d.setBit (Reg.RNG_QSTATE1 1 cq) 31 full
  let d := (d.boundSqs cq).foldl (fun d q => d.setBit (Reg.RNG_QSTATE1 0 q) 28 full) d
  if full && !was then d.rngEvt 5 1 cq else d

/-- Takes a unit of room for a completion promised (R211). -/
def Dev.reserveCq (d : Dev) (cq : Nat) : Dev :=
  (d.setFld (Reg.RNG_QSTATE1 1 cq) 0 16 (d.reserved cq + 1)).showFull cq

/-! ## Interrupts of a CQ (R215) -/

/-- MOD_TIME in GAU clocks. -/
def Dev.modTime (d : Dev) (cq : Nat) : Nat := d.fld (Reg.RNG_QCFG3 1 cq) 20 12 * 50

/-- Raises a CQ's interrupt and disarms it. -/
def Dev.cqInterrupt (d : Dev) (cq : Nat) : Dev :=
  let d := d.setBit (Reg.RNG_QSTATE1 1 cq) 29 false
  let d := { d with rng := { d.rng with delay := Map.del d.rng.delay cq } }
  d.raiseSel (d.home (d.qSlice 1 cq)) (d.fld (Reg.RNG_QCFG3 1 cq) 0 18)

/-- The delay of an armed CQ starts when the ring holds an entry beyond the head, at once where MOD_TIME is 0; it is
cancelled when a head doorbell leaves none (R215). -/
def Dev.cqDelay (d : Dev) (cq : Nat) : Dev :=
  if d.cqUsed cq = 0 then { d with rng := { d.rng with delay := Map.del d.rng.delay cq } }
  else if !d.bit (Reg.RNG_QSTATE1 1 cq) 29 then d
  else if d.modTime cq = 0 then d.cqInterrupt cq
  else if (Map.get? d.rng.delay cq).isSome then d
  else { d with rng := { d.rng with delay := Map.put d.rng.delay cq d.now } }

/-! ## Completion entries (R206, R207, R212) -/

/-- Writes an entry into the ring at the device's tail with its phase; the phase flips at the wrap (R207). An NVQ's
entries are 16 bytes, their phase in bit 16 of the last word (R366). -/
def Dev.ringPut (d : Dev) (cq : Nat) (ws : List Word) : Dev :=
  let t := d.devIdx 1 cq
  let size := d.qSize 1 cq
  let ph := d.bit (Reg.RNG_QSTATE1 1 cq) 30
  let slot := if size = 0 then 0 else t % size
  let nvme := decide (ws.length = 4)
  let ws := if nvme then ws.take 3 ++ [Word.setBit (wordAt ws 3) 16 ph] else ws.take 7 ++ [Word.setBit (wordAt ws 7) 31 ph]
  let d := d.sliceWrite (d.qSlice 1 cq) (d.qBase 1 cq + slot * (if nvme then 16 else 32)) ws
  let d := d.setFld (Reg.RNG_QSTATE0 1 cq) 16 16 (t + 1)
  if slot + 1 = size then d.setBit (Reg.RNG_QSTATE1 1 cq) 30 (!ph) else d

/-- A CQ's spill. -/
def Dev.spillOf (d : Dev) (cq : Nat) : List (List Word) := Map.getD d.rng.spill cq []

/-- The spill replaced, SPILLED with it. -/
def Dev.setSpill (d : Dev) (cq : Nat) (l : List (List Word)) : Dev :=
  ({ d with rng := { d.rng with spill := Map.putD d.rng.spill cq [] l } } : Dev).setFld (Reg.RNG_QSTATE1 1 cq) 16 7
    l.length

/-- A completion goes into the ring when the spill is empty and the ring has a free slot, else to the spill's tail,
which is counted (R212, R225). -/
def Dev.cqPut (d : Dev) (cq : Nat) (ws : List Word) : Dev :=
  if (d.spillOf cq).isEmpty && decide (d.cqUsed cq < d.qSize 1 cq) then (d.ringPut cq ws).cqDelay cq
  else (d.setSpill cq (d.spillOf cq ++ [ws])).count (Reg.RNG_COUNTS 4) 1

/-- Spilled entries move into the ring, oldest first, while it has free slots (R212). -/
def Dev.spillDrain (d : Dev) (cq : Nat) : Nat → Dev
  | 0 => d
  | n + 1 =>
    match d.spillOf cq with
    | [] => d
    | e :: es =>
      if d.cqUsed cq < d.qSize 1 cq then ((d.setSpill cq es).ringPut cq e).spillDrain cq n else d

/-- A queue whose context is not trusted any more (R477). -/
def Dev.qStopped (d : Dev) (cq q : Nat) : Bool := d.rng.stopped.contains (131072 * cq + q)

/-- A reserved completion is written, or held while the function may issue nothing (R160, R212); nothing is written to a
stopped CQ. -/
def Dev.cqComplete (d : Dev) (cq : Nat) (ws : List Word) : Dev :=
  let s := d.qSlice 1 cq
  let f := d.home s
  let d := d.setFld (Reg.RNG_QSTATE1 1 cq) 0 16 (d.reserved cq - 1)
  if d.qStopped 1 cq then d
  else if d.canIssue f then (d.cqPut cq ws).showFull cq
  else
    (d.setFn f (fun p => { p with heldStore := p.heldStore ++ [⟨s, cq, ws⟩] })).setN (Reg.PCE_HELDf f)
      ((d.fn f).heldStore.length + 1)

/-- The completion entry of an item (R206). -/
def Dev.cqEntry (d : Dev) (i : Item) : List Word :=
  let head := (i.index + 1) % 65536
  let t := i.stamp.getD 0
  let w7 := i.flags ||| wd ((if i.stamp.isSome then 2 ^ 30 else 0) + (if i.vlan.isSome then 2 ^ 25 else 0) +
    t / 2 ^ 32 % 65536)
  [wd (i.status * 2 ^ 24 + i.kind * 2 ^ 20 + d.qNum 0 i.dq * 1024), wd (head * 65536 + i.vlan.getD 0),
   wordAt i.entry 2, wordAt i.entry 3, wd i.count, i.hash, lo32 t, w7]

/-- An item's completion is written to its CQ, and the item is gone; a status other than OK counts in ITEMS_FAILED
(R185, R206). -/
def Dev.completeItem (d : Dev) (id : Nat) : Dev :=
  match Map.get? d.rng.items id with
  | none => d
  | some i =>
    let d := { d with rng := { d.rng with items := Map.del d.rng.items id } }
    let d := (if i.status = 0 then d else d.stat i.slice 5 1).walkCount i.slice (decide (i.status < 0x10))
    match d.boundCq i.dq with
    | some cq => d.cqComplete cq (d.cqEntry i)
    | none => d

/-- The oldest item of an SQ. -/
def Dev.firstItem (d : Dev) (q : Nat) : Option Nat := Map.findKey? d.rng.items (fun _ i => decide (i.dq = q))

/-- Completions of one SQ are written in entry order: while its oldest item has ended (R202). -/
def Dev.flushSq (d : Dev) (q : Nat) : Nat → Dev
  | 0 => d
  | n + 1 =>
    match d.firstItem q with
    | some id =>
      (match Map.get? d.rng.items id with
       | some i => if i.phase = .ended then (d.completeItem id).flushSq q n else d
       | none => d)
    | none => d

/-- An item changed. -/
def Dev.setItem (d : Dev) (id : Nat) (f : Item → Item) : Dev :=
  match Map.get? d.rng.items id with
  | some i => { d with rng := { d.rng with items := Map.put d.rng.items id (f i) } }
  | none => d

/-- An item ends with a status; what is ended in order before it is written (R202). -/
def Dev.endItem (d : Dev) (id status : Nat) : Dev :=
  match Map.get? d.rng.items id with
  | none => d
  | some i =>
    let d := d.setItem id (fun i => { i with phase := .ended, status := status })
    d.flushSq i.dq (d.rng.items.length + 1)

/-! ## Creating and freeing queues (R192, R193) -/

/-- The lowest number below `n` that is not in use. -/
def lowestFree (used : List Nat) (n : Nat) : Option Nat := (List.range (Nat.min n (used.length + 1))).find? (fun i => !used.contains i)

/-- Device numbers in use of a kind. -/
def Dev.deviceQueues (d : Dev) (cq : Nat) : List Nat :=
  d.rng.qmap.filterMap (fun p => if p.1 / (8192 * 1024) = cq then some p.2 else none)

/-- A queue created as number `n` of a slice, with its four configuration words: it takes the lowest free device number;
its indices are 0 and its phase 1. -/
def Dev.makeQueue (d : Dev) (cq s n : Nat) (cfg : List Word) : Option (Nat × Dev) :=
  (lowestFree (d.deviceQueues cq) 131072).map (fun q =>
    let d := { d with rng := { d.rng with qmap := Map.put d.rng.qmap (qkey cq s n) q } }
    let d := d.setRegs (Reg.RNG_QCFG0 cq q) cfg
    let d := (d.setN (Reg.RNG_QSTATE0 cq q) 0).setN (Reg.RNG_QSTATE1 cq q) (2 ^ 30)
    let d := d.setN (Reg.RNG_QSTATE2 cq q) (d.incarnation s * 2 ^ 24 + s * 1024 + n)
    (q, d.setN (Reg.RNG_QSTATE3 cq q) 0))

/-- A queue freed: its registers at their reset values, nothing of it kept (R196). -/
def Dev.freeQueue (d : Dev) (cq s n : Nat) : Dev :=
  match d.queue? cq s n with
  | none => d
  | some q =>
    let ks := (List.range 4).map (fun i => Reg.RNG_QCFG0 cq q + 4 * i) ++
      [Reg.RNG_QSTATE0 cq q, Reg.RNG_QSTATE1 cq q, Reg.RNG_QSTATE2 cq q, Reg.RNG_QSTATE3 cq q]
    let d := ks.foldl (fun d k => ((d.setReg k (resetOf k)).unstage k).markExpert k false) d
    let r := d.rng
    let r := { r with qmap := Map.del r.qmap (qkey cq s n) }
    let r := if cq = 0 then
        { r with pending := r.pending.filter (· ≠ q), fetchTo := Map.del r.fetchTo q, stopped := r.stopped.filter (· ≠ q)
                 items := Map.sift r.items (fun _ i => decide (i.dq ≠ q)) }
      else { r with spill := Map.del r.spill q, delay := Map.del r.delay q, stopped := r.stopped.filter (· ≠ 131072 + q) }
    { d with rng := r }

/-! ## Corks (R176, R177) -/

/-- A cork cause of a slice: the first is recorded, every one counted; an ACTIVE slice becomes CORKED; its channels
stop gracefully; CORKED is set and the home function notified (R175 to R177). -/
def Dev.cork (d : Dev) (s cause : Nat) : Dev :=
  let st := d.sliceState s
  if st = 1 ∨ st = 2 ∨ st = 3 ∨ st = 4 then
    let d := d.stat s 7 1
    let d := if d.fld (Reg.SLC_SLICE_STATUS s 0) 25 4 = 0 then d.setFld (Reg.SLC_SLICE_STATUS s 0) 25 4 cause else d
    let d := if st = 1 then d.setFld (Reg.SLC_SLICE_STATUS s 0) 29 3 2 else d
    let d := (d.sliceChans s).foldl (fun d c => d.gracefulStop c) d
    (d.slcEvt s 0).notifyFn (Reg.SLC_NOTIFY_VECTORf 0) (d.home s)
  else d

/-- The slices homed on a function that are live. -/
def Dev.homed (d : Dev) (f : Nat) : List Nat :=
  (d.rf.act.filterMap (fun p =>
    let b := Reg.SLC_SLICE_STATUS 0 0
    if b ≤ p.1 ∧ p.1 < b + 0x40000 ∧ (p.1 - b) % 32 = 0 then some ((p.1 - b) / 32) else none)).filter
      (fun s => decide (d.sliceState s ≠ 0 ∧ d.home s = f))

/-! ## Deliveries (R174, R201) -/

/-- The oldest buffer posted on a receive SQ. -/
def Dev.firstPosted (d : Dev) (q : Nat) : Option Nat :=
  Map.findKey? d.rng.items (fun _ i => decide (i.dq = q ∧ i.phase = .posted))

/-- Bytes of a list of fragments. -/
def fragBytes (fs : List (Nat × Nat)) : Nat := (fs.map Prod.snd).sum

/-- A buffer is filled with a delivery and its item completes (R201, R206). -/
def Dev.fillBuffer (d : Dev) (v : Delivery) (id : Nat) : Dev :=
  match Map.get? d.rng.items id with
  | none => d
  | some i =>
    let cap := fragBytes i.frags
    let long := decide (cap < v.bytes.length)
    let d := d.scatter v.slice i.frags (v.bytes.take cap)
    let d := (d.stat v.slice 0 1).stat v.slice 1 v.bytes.length
    let d := d.setItem id (fun i =>
      { i with kind := v.kind, count := v.bytes.length, vlan := v.vlan, hash := v.hash, stamp := v.stamp, flags := v.flags })
    d.endItem id (if long then 2 else 0)

/-- The buffer a delivery would take, if it would take one. -/
def Dev.bufferFor (d : Dev) (v : Delivery) : Option Nat :=
  if d.sliceState v.slice ≠ 1 ∨ d.incarnation v.slice ≠ v.incarnation then none
  else match d.queue? 0 v.slice v.sq with
    | none => none
    | some q => if d.qType 0 q ≠ 1 ∨ d.qStopped 0 q = true then none else d.firstPosted q

/-- A delivery to a slice: dropped where slice and incarnation do not match, where the slice is corked, quiescing or
quiesced, where the SQ is no receive SQ of it, or where no buffer is posted; else it fills the oldest buffer and
completes it (R174, R175, R201). -/
def Dev.deliver (d : Dev) (v : Delivery) : Dev :=
  let st := d.sliceState v.slice
  if st = 0 ∨ st = 5 ∨ d.incarnation v.slice ≠ v.incarnation then d.count Reg.SLC_STALE_DELIVERY 1
  else if st ≠ 1 then d.stat v.slice 4 1
  else
    match d.queue? 0 v.slice v.sq with
    | none => (d.count (Reg.RNG_COUNTS 1) 1).sqSet Reg.RNG_EVT_STATUS [1]
    | some q =>
      if d.qType 0 q ≠ 1 then (d.count (Reg.RNG_COUNTS 1) 1).rngEvt 1 0 q
      else if d.qStopped 0 q then d
      else
        match d.firstPosted q with
        | none => ((d.count (Reg.RNG_COUNTS 0) 1).count (Reg.RNG_QSTATE3 0 q) 1).rngEvt 2 0 q
        | some id => d.fillBuffer v id

end Sys2Proof.Machine
end

