-- ==== Sys2Proof/Machine/FrameOps.lean ====
section
/-! DEFINITION. Shared operations on frames: the metadata record, counters of a pipeline, freeing, where a frame goes
next (R240, R248, R266, R270). -/

namespace Sys2Proof.Machine

/-! ## The record of a frame (R240) -/

/-- A field of the metadata record. -/
def Frame.m (f : Frame) (w lo n : Nat) : Nat := Word.fld (wordAt f.record w) lo n

/-- A bit of the metadata record. -/
def Frame.mbit (f : Frame) (w i : Nat) : Bool := Word.bit (wordAt f.record w) i

/-- A field of the metadata record set. -/
def Frame.mset (f : Frame) (w lo n v : Nat) : Frame :=
  { f with record := f.record.set w (Word.setFld (wordAt f.record w) lo n v) }

/-- A bit of the metadata record set. -/
def Frame.msetBit (f : Frame) (w i : Nat) (b : Bool) : Frame := f.mset w i 1 (if b then 1 else 0)

/-- A word of the metadata record set. -/
def Frame.mword (f : Frame) (w : Nat) (v : Word) : Frame := { f with record := f.record.set w v }

def Frame.srcPort (f : Frame) : Nat := f.m 0 27 5
def Frame.pass (f : Frame) : Nat := f.m 0 25 2
def Frame.profile (f : Frame) : Nat := f.m 0 19 6
def Frame.vintage (f : Frame) : Nat := f.m 0 0 16
def Frame.len (f : Frame) : Nat := f.bytes.length

/-- The exception reason recorded (R247). -/
def Frame.setExc (f : Frame) (r : Nat) : Frame := f.mset 3 0 8 r

/-- The origin slice of a host frame (word4). -/
def Frame.origin (f : Frame) : Option (Nat × Nat) :=
  if f.mbit 4 23 then some (f.m 4 0 13, f.m 4 24 8) else none

/-- The slice a frame's energy is charged to (R79): the origin slice of a host frame, the slice of a delivery. -/
def Frame.owner (f : Frame) : Option Nat :=
  match f.dest with
  | some t => some t.slice
  | none => f.origin.map Prod.fst

/-- A frame as it enters the Cellar: source port, class, bytes; the first cell is the allocator's choice. -/
def Frame.new (pipe port cls : Nat) (place : Place) (bytes : List Byte) (cell : Nat) (stamp now : Nat) : Frame :=
  { pipe := pipe, place := place, bytes := bytes, whole := true,
    record := [wd (port * 2 ^ 27), wd (cell % 2 ^ 19), wd (bytes.length % 65536 * 65536 + 0xFFFF), 0, 0, 0, wd 0xFFFF,
      lo32 stamp, wd (stamp / 2 ^ 32 % 65536), 0, 0, 0],
    start := 0, next := 0, key := [], image := none, cls := cls, vint := none, fwdArg := 0, edit := none, dest := none, job := none, esp := none, secured := false,
    msg := [], item := none, sent := 0, bad := false, at_ := now, pub := none, offload := [] }

/-! ## Frames of the device -/

/-- A frame by number. -/
def Dev.frame? (d : Dev) (id : Nat) : Option Frame := Map.get? d.prs.frames id

/-- A frame stored. -/
def Dev.putFrame (d : Dev) (id : Nat) (f : Frame) : Dev :=
  { d with prs := { d.prs with frames := Map.put d.prs.frames id f } }

/-- A frame taken into the Cellar under the next number. -/
def Dev.newFrame (d : Dev) (f : Frame) : Nat × Dev :=
  let id := d.prs.nextFrame
  (id, ({ d with prs := { d.prs with nextFrame := id + 1 } } : Dev).putFrame id f)

/-- A frame freed. -/
def Dev.freeFrame (d : Dev) (id : Nat) : Dev :=
  { d with prs := { d.prs with frames := Map.del d.prs.frames id } }

/-- A frame moved on to its next place. -/
def Dev.moveFrame (d : Dev) (id : Nat) (f : Frame) (p : Place) : Dev := d.putFrame id { f with place := p }

/-- The frames at a place, lowest number first. -/
def Dev.framesAt (d : Dev) (p : Place → Bool) : List Nat :=
  d.prs.frames.filterMap (fun e => if p e.2.place then some e.1 else none)

/-- A frame number taken to the end of a queue of a pipeline's loop; the queue (R266). -/
def Dev.loop (d : Dev) (pipe q : Nat) : List Nat := Map.getD d.prs.loops (4 * pipe + q) []
def Dev.setLoop (d : Dev) (pipe q : Nat) (l : List Nat) : Dev :=
  { d with prs := { d.prs with loops := Map.putD d.prs.loops (4 * pipe + q) [] l } }

/-! ## Counters of a frame's pipeline -/

/-- A counter of the Press, of the Classifier, of Forwarding in the frame's pipeline. -/
def Dev.prsCount (d : Dev) (f : Frame) (i : Nat) : Dev := d.count (Reg.PRS_COUNTS f.pipe i) 1
def Dev.clsCount (d : Dev) (f : Frame) (i : Nat) : Dev := d.count (Reg.CLS_COUNTS f.pipe i) 1
def Dev.fwdCount (d : Dev) (f : Frame) (i : Nat) : Dev := d.count (Reg.FWD_COUNTS f.pipe i) 1

/-- Events of a frame's pipeline. -/
def Dev.prsEvt (d : Dev) (f : Frame) (i : Nat) : Dev := d.sqSet (Reg.PRS_EVT_STATUS f.pipe) [i]
def Dev.clsEvt (d : Dev) (f : Frame) (i : Nat) : Dev := d.sqSet (Reg.CLS_EVT_STATUS f.pipe) [i]
def Dev.fwdEvt (d : Dev) (f : Frame) (i : Nat) : Dev := d.sqSet (Reg.FWD_EVT_STATUS f.pipe) [i]

/-! ## Where a frame goes (R174, R248, R280, R319, R375) -/

/-- The node a delivery is queued at: the slice's receive node where it is attached to port 16 and owned by the slice,
else the host default node of the pipeline's port group (R375). -/
def Dev.rxNode (d : Dev) (f : Frame) (slice inc : Nat) : Nat :=
  let rx := d.reg (Reg.SCH_RXNODEs slice)
  let n := Word.fld rx 0 16
  let own := d.reg (Reg.SCH_NCFG4 n)
  let ok := Word.bit rx 31 && d.bit (Reg.SCH_NCFG3 n) 31 && decide (d.fld (Reg.SCH_NCFG3 n) 25 5 = 16) &&
    Word.bit own 31 && decide (Word.fld own 0 13 = slice ∧ Word.fld own 16 8 = inc)
  if ok then n
  else if d.pipeOf 1 = f.pipe then d.fld Reg.SCH_HOST_DEFAULT 16 16 else d.fld Reg.SCH_HOST_DEFAULT 0 16

/-- A frame sent on to a slice: it is queued at the delivery's node. -/
def Dev.sendSlice (d : Dev) (id : Nat) (f : Frame) (t : Dest) : Dev :=
  d.moveFrame id { f with dest := some t } (.toNode (d.rxNode f t.slice t.incarnation))

/-- A frame sent to an inbound channel with its metadata and window: KIND, REASON, ARG (R319). -/
def Dev.sendChannel (d : Dev) (id : Nat) (f : Frame) (cl ch kind : Nat) (arg : Word) : Dev :=
  d.moveFrame id { f with msg := [wd kind, wd (f.m 3 0 8), arg] } (.toChannel cl ch)

/-- The INCARNATION, SQ, SLICE layout of a delivery target word. -/
def destOf (w : Word) (kind reason : Nat) : Dest := ⟨Word.fld w 0 13, Word.fld w 24 8, Word.fld w 13 10, kind, reason⟩

/-- KIND of a receive completion and of one from the exception path (R206). -/
def kindRx : Nat := 1
def kindException : Nat := 3

/-- An exception destination (R248): 1 a channel, 2 a slice; 0 and 3 drop the frame. -/
def Dev.exception (d : Dev) (id : Nat) (f : Frame) (dst : Nat) (tgt : Word) (kind : Nat) (drop : Dev → Dev) : Dev :=
  match dst with
  | 1 => d.sendChannel id f (Word.fld tgt 8 3) (Word.fld tgt 0 8) kind 0
  | 2 => d.sendSlice id f (destOf tgt kindException (f.m 3 0 8))
  | _ => (drop d).freeFrame id

/-- The 192 bytes of a frame's window (R227). -/
def Frame.window (f : Frame) : List Byte :=
  let b := slice f.bytes f.start 192
  b ++ List.replicate (192 - b.length) 0

/-! ## Vintages and the drain (R269, R270) -/

/-- A frame that can still reach the Classifier. -/
def Place.counts : Place → Bool
  | .press => true
  | .fragHold => true
  | .eofHold => true
  | .keyed => true
  | .recirc _ => true
  | .cipher => true
  | .toChannel _ _ => true
  | .inbound _ _ => true
  | .thread _ _ _ => true
  | _ => false

/-- The frames stamped OLD in a pipeline's care, `none` for all pipelines (R270). -/
def Dev.drainCount (d : Dev) (pipe : Option Nat) : Nat :=
  if d.bit Reg.CLS_VINTAGE_OLD 16 then
    Map.count d.prs.frames (fun _ f => f.place.counts && decide (f.vintage = d.fld Reg.CLS_VINTAGE_OLD 0 16 ∧
      (pipe = none ∨ pipe = some f.pipe)) && !decide (f.place = .press ∧ f.pass = 0))
  else 0

/-- The class of a frame, raised to bulk by a BULK action on a network frame (R259, R266). -/
def Frame.bulk (f : Frame) (b : Bool) : Frame := if b && decide (f.srcPort < 16) then { f with cls := 3 } else f

/-- The loop queue depths (R266). -/
def loopDepth : Nat → Nat
  | 0 => 256
  | 1 => 256
  | _ => 2048

/-- A frame joins its loop queue for another pass, or is dropped at a full queue (R264, R266). -/
def Dev.recirculate (d : Dev) (id : Nat) (f : Frame) (profile start : Nat) : Dev :=
  let q := Nat.min f.cls 3
  if loopDepth q ≤ (d.loop f.pipe q).length then
    ((d.clsCount f 3).clsEvt f 0).freeFrame id
  else
    let f := ({ f with next := profile, start := start, image := none, dest := none, edit := none }).mset 0 25 2 (f.pass + 1)
    ((d.clsCount f 2).moveFrame id f (.recirc q)).setLoop f.pipe q (d.loop f.pipe q ++ [id])

end Sys2Proof.Machine
end

