-- ==== Sys2Proof/Machine/TrlOps.lean ====
section
/-! DEFINITION. Shared operations of Trellis: members, paths, Wepomer frames and the messages they carry
(R446 to R453). -/

namespace Sys2Proof.Machine

/-! ## Members and paths (R446, R447) -/

/-- The device's own ID. -/
def Dev.selfId (d : Dev) : Nat := d.fld Reg.TRL_ID 0 9

/-- Member entries in force: none without a domain. -/
def Dev.memberCount (d : Dev) : Nat := if d.fld Reg.TRL_DOMAIN 0 16 = 0 then 0 else Nat.min 512 (d.fld Reg.TRL_DOMAIN 16 10)

/-- The ID of member entry `i`. -/
def Dev.memberId (d : Dev) (i : Nat) : Nat := d.fld (Reg.TRL_MEMBER i 0) 16 9

/-- The entry of a member. -/
def Dev.memberIdx (d : Dev) (id : Nat) : Option Nat :=
  (List.range d.memberCount).find? (fun i => decide (d.memberId i = id))

/-- The members other than the device itself. -/
def Dev.members (d : Dev) : List Nat :=
  ((List.range d.memberCount).map d.memberId).filter (fun id => decide (id ≠ d.selfId))

/-- The device's end of a path. -/
def Dev.path (d : Dev) (id : Nat) : Path := Map.getD d.trl.paths id ⟨0, 0, 0, 0, [], [], 0⟩

/-- The device's end of a path changed. -/
def Dev.setPath (d : Dev) (id : Nat) (f : Path → Path) : Dev :=
  { d with trl := { d.trl with paths := Map.put d.trl.paths id (f (d.path id)) } }

/-- PATH of a member: 0 unused or self, 1 DOWN, 2 HELLO, 3 UP. -/
def Dev.pathState (d : Dev) (id : Nat) : Nat :=
  match d.memberIdx id with
  | some i => d.fld (Reg.TRL_MEMBER3 i) 29 3
  | none => 0

/-- A member whose path is UP. -/
def Dev.reachable (d : Dev) (id : Nat) : Bool := decide (d.pathState id = 3)

/-- A member reached through a tunnel: the port; `none` for a mesh path. -/
def Dev.tunnelOf (d : Dev) (id : Nat) : Option Nat :=
  match d.memberIdx id with
  | some i => if d.bit (Reg.TRL_MEMBER i 0) 4 then some (d.fld (Reg.TRL_MEMBER i 0) 0 4) else none
  | none => none

/-- LINK of a Trellis port (R445). -/
def Dev.trlLink (d : Dev) (t : Nat) : Nat := d.fld (Reg.TRL_PORTt_STATUS t) 29 3

/-- The link that carries a mesh path: the lowest UP link with that neighbour. -/
def Dev.carrier (d : Dev) (id : Nat) : Option Nat :=
  (List.range 4).find? (fun t => decide (d.trlLink t = 5 ∧ d.fld (Reg.TRL_PORTt_STATUS t) 16 9 = id))

/-- CARRYING of every port. -/
def Dev.showCarrying (d : Dev) : Dev :=
  (List.range 4).foldl (fun d t =>
    let id := d.fld (Reg.TRL_PORTt_STATUS t) 16 9
    d.setBit (Reg.TRL_PORTt_STATUS t) 15
      (decide (d.trlLink t = 5) && decide (d.carrier id = some t) && d.reachable id && (d.tunnelOf id).isNone)) d

/-- An event of TRL_EVT_STATUS with its member, port or window. -/
def Dev.trlEvt (d : Dev) (bit index : Nat) : Dev := (d.sqSet Reg.TRL_EVT_STATUS [bit]).setN Reg.TRL_EVT_INDEX (index % 512)

/-- A counter of TRL_COUNTS. -/
def Dev.trlCount (d : Dev) (i : Nat) : Dev := d.count (Reg.TRL_COUNTS i) 1

/-- TRL_PARTITION follows the members that are unreachable (R467). -/
def Dev.showPartition (d : Dev) : Dev :=
  let n := (d.members.filter (fun id => !d.reachable id)).length
  (d.setFld Reg.TRL_PARTITION 16 10 n).hcSet Reg.TRL_PARTITION 0 (decide (0 < n)) 3

/-- A member's word 3: PATH, carrying link, EPOCH; the transitions to and from UP set their events (R467). -/
def Dev.setPathState (d : Dev) (id st : Nat) : Dev :=
  match d.memberIdx id with
  | none => d
  | some i =>
    let old := d.pathState id
    let d := d.setN (Reg.TRL_MEMBER3 i) (st * 2 ^ 29 + (d.carrier id).getD 0 * 2 ^ 16 + (d.path id).epoch)
    let d := if st = 3 ∧ old ≠ 3 then d.trlEvt 4 id else if old = 3 ∧ st ≠ 3 then d.trlEvt 3 id else d
    d.showPartition.showCarrying

/-! ## The Wepomer frame (R451, R452) -/

/-- Words in network byte order. -/
def beWords (ws : List Word) : List Byte := ws.flatMap (fun w => beBytes 4 w.toNat)

/-- Words read from network byte order. -/
def beWordsOf (n : Nat) (bs : List Byte) : List Word := (List.range n).map (fun i => wd (beAt bs (4 * i) 4))

/-- The six bytes of a MAC register pair in the layout of R285. -/
def Dev.macOf (d : Dev) (lo : Nat) : List Byte := (d.reg lo).bytes ++ (d.reg (lo + 4)).bytes.take 2

/-- A message: TYPE, body length, body. -/
def trlMessage (kind : Nat) (body : List Byte) : List Byte :=
  beBytes 4 (kind * 2 ^ 24 + body.length % 65536) ++ body

/-- The 16-byte header. -/
def Dev.wepomer (d : Dev) (id : Nat) (unseq : Bool) (seq : Nat) (msgs : List Byte) : List Byte :=
  let p := d.path id
  [1, if unseq then 0x80 else 0] ++ beBytes 2 (d.fld Reg.TRL_DOMAIN 0 16) ++ beBytes 2 id ++ beBytes 2 d.selfId ++
    beBytes 2 p.epoch ++ beBytes 2 (if unseq then 0 else seq) ++ beBytes 2 p.recvSeq ++ beBytes 2 msgs.length ++ msgs

/-- The Ethernet frame around a Wepomer header, with a tag where one is given. -/
def ethWepomer (dst src : List Byte) (tag : Option Nat) (w : List Byte) : List Byte :=
  dst ++ src ++ (match tag with
    | some v => beBytes 2 0x8100 ++ beBytes 2 v
    | none => []) ++ beBytes 2 0x8A73 ++ w

/-- The pipeline that serves a Trellis port (R444). -/
def Dev.trlPipe (d : Dev) (t : Nat) : Nat := d.pipeOf (t / 2)

/-- A Wepomer frame put on a Trellis port's class queue: addressed with TRL_MAC at both ends (R451, R453). -/
def Dev.sendLink (d : Dev) (t cls : Nat) (w : List Byte) : Dev :=
  let mac := d.macOf Reg.TRL_MAC_LO
  (d.newFrame (Frame.new (d.trlPipe t) 17 cls (.trlPort t) (ethWepomer mac mac none w) 0 d.time d.now)).2

/-- A Wepomer frame sent through a tunnel: queued at the port's NODE (R448). -/
def Dev.sendTunnel (d : Dev) (p cls : Nat) (mac w : List Byte) : Dev :=
  let tun := d.reg (Reg.TRL_TUNNELp p)
  let tag := if Word.bit tun 30 then some (Word.fld tun 16 12) else none
  if Word.bit tun 31 then
    (d.newFrame (Frame.new (d.pipeOf (d.portGroup p)) 17 cls (.toNode (Word.fld tun 0 16))
      (ethWepomer mac (d.macOf Reg.TRL_MAC_LO) tag w) 0 d.time d.now)).2
  else d

/-- A Wepomer frame sent along the path of a member; a mesh path without a link sends nothing. -/
def Dev.sendWire (d : Dev) (id cls : Nat) (w : List Byte) : Dev :=
  match d.memberIdx id with
  | none => d
  | some i =>
    match d.tunnelOf id with
    | some p => d.sendTunnel p cls (d.macOf (Reg.TRL_MEMBER i 1)) w
    | none =>
      match d.carrier id with
      | some t => d.sendLink t cls w
      | none => d

/-- A message sent in the next sequenced frame of an UP path, or kept while 256 are unacknowledged (R450); a message to
any other path is lost. -/
def Dev.trlSend (d : Dev) (id cls kind : Nat) (body : List Byte) : Dev :=
  let m := trlMessage kind body
  let p := d.path id
  if !d.reachable id then d
  else if 256 ≤ p.unacked.length then d.setPath id (fun p => { p with backlog := p.backlog ++ [(cls, m)] })
  else
    let d := d.setPath id (fun p =>
      { p with sendSeq := (p.sendSeq + 1) % 65536, unacked := p.unacked ++ [(p.sendSeq, cls, m)] })
    d.sendWire id cls (d.wepomer id false p.sendSeq m)

/-- A message sent to a list of members. -/
def Dev.trlSendAll (d : Dev) (ids : List Nat) (cls kind : Nat) (body : List Byte) : Dev :=
  ids.foldl (fun d id => d.trlSend id cls kind body) d

/-- Messages kept back go out while there is room; the number bounds them. -/
def Dev.pump (d : Dev) (id : Nat) : Nat → Dev
  | 0 => d
  | n + 1 =>
    match (d.path id).backlog with
    | [] => d
    | (cls, m) :: rest =>
      if 256 ≤ (d.path id).unacked.length then d
      else
        let s := (d.path id).sendSeq
        let d := d.setPath id (fun p =>
          { p with sendSeq := (s + 1) % 65536, unacked := p.unacked ++ [(s, cls, m)], backlog := rest })
        (d.sendWire id cls (d.wepomer id false s m)).pump id n

/-- An ACK taken: frames before it are acknowledged (R450). -/
def Dev.takeAck (d : Dev) (id ack : Nat) : Dev :=
  let p := d.path id
  let left := p.unacked.filter (fun u => decide (32768 ≤ fwd16 ack (u.1 + 1)))
  if left.length = p.unacked.length then d
  else
    let d := d.setPath id (fun p => { p with unacked := left, resends := 0 })
    d.pump id p.backlog.length

/-- Every unacknowledged frame sent again, oldest first (R450). -/
def Dev.resend (d : Dev) (id : Nat) : Dev :=
  (d.path id).unacked.foldl (fun d u => d.sendWire id u.2.1 (d.wepomer id false u.1 u.2.2)) d

/-- A path starts: the next EPOCH, skipping 0; sequence numbers from 0 (R449). -/
def Dev.startPath (d : Dev) (id : Nat) : Dev :=
  let d := d.setPath id (fun p =>
    ⟨if p.epoch = 65535 then 1 else p.epoch + 1, 0, 0, 0, [], [], 0⟩)
  d.setPathState id 2

/-! ## Threads' requests (R464) -/

/-- A thread of the flow processors: nothing staged, no channel, no request. -/
def Thread.init : Thread := ⟨[], 0, 0, none, false, [], [], 0, false, 0, 0, 0⟩

/-- A thread by its global number. -/
def Dev.thread (d : Dev) (t : Nat) : Thread := Map.getD d.fpc.threads t Thread.init

/-- A thread changed. -/
def Dev.setThread (d : Dev) (t : Nat) (f : Thread → Thread) : Dev :=
  { d with fpc := { d.fpc with threads := Map.put d.fpc.threads t (f (d.thread t)) } }

/-- The answer to a presented request is ready: status and data (R316). -/
def Dev.answerReq (d : Dev) (t tag status : Nat) (data : List Byte) : Dev :=
  d.setThread t (fun th => { th with reqs := th.reqs.map (fun r =>
    if r.tag = tag ∧ r.answer = none then { r with answer := some (status, data) } else r) })

/-- The outstanding requests to a member fail with a status (R456, R464). -/
def Dev.failPeer (d : Dev) (id status : Nat) : Dev :=
  let mine := d.trl.reqs.filter (fun r => decide (r.2.dev = id))
  let d := { d with trl := { d.trl with reqs := d.trl.reqs.filter (fun r => decide (r.2.dev ≠ id)) } }
  mine.foldl (fun d r => d.answerReq r.2.thread r.1 status []) d

/-- The path goes DOWN: what it had not delivered is lost, requests to the member fail with PEER_UNREACHABLE
(R450, R464). -/
def Dev.pathDown (d : Dev) (id : Nat) : Dev :=
  let d := d.setPath id (fun p => { p with unacked := [], backlog := [], resends := 0, peerEpoch := 0 })
  (d.setPathState id 1).failPeer id 0x17

/-! ## Links and the domain (R445, R447, R449, R467) -/

/-- A Trellis link's state changes: leaving UP counts; a standby link takes the path over, and resends (R445, R450). -/
def Dev.setTrlLink (d : Dev) (t st : Nat) : Dev :=
  let k := Reg.TRL_PORTt_STATUS t
  let old := d.trlLink t
  let id := d.fld k 16 9
  let d := d.setFld k 29 3 st
  if old = 5 ∧ st ≠ 5 then
    let d := ((d.countFld k 0 8).setFld k 16 9 0).trlEvt 0 t
    (if (d.carrier id).isSome ∧ (d.tunnelOf id).isNone then (d.setPathState id (d.pathState id)).resend id else d).showCarrying
  else d.showCarrying

/-- ENABLE of a Trellis port has been committed. -/
def Dev.trlPortCtrl (d : Dev) (t : Nat) (old : Word) : Dev :=
  let on := d.bit (Reg.TRL_PORTt_CTRL t) 31
  if on && !Word.bit old 31 then d.setTrlLink t 1 else if Word.bit old 31 && !on then d.setTrlLink t 0 else d

/-- A member entry that names nobody's path: PATH 0 for the device itself and beyond COUNT, DOWN for another member. -/
def Dev.freshMember (d : Dev) (i : Nat) : Dev :=
  d.setN (Reg.TRL_MEMBER3 i) (if i < d.memberCount ∧ d.memberId i ≠ d.selfId then 2 ^ 29 else 0)

/-- A member's path ends with its entry: its outstanding requests fail. -/
def Dev.dropMember (d : Dev) (id : Nat) : Dev :=
  let d := d.failPeer id 0x17
  { d with trl := { d.trl with paths := Map.del d.trl.paths id } }

/-- Word 0 of a member entry has been committed with another ID. -/
def Dev.memberChanged (d : Dev) (i : Nat) (old : Word) : Dev :=
  let d := if Word.fld old 16 9 = d.memberId i ∨ Word.fld old 16 9 = d.selfId then d else d.dropMember (Word.fld old 16 9)
  if Word.fld old 16 9 = d.memberId i ∧ d.regN (Reg.TRL_MEMBER3 i) ≠ 0 then d else (d.freshMember i).showPartition.showCarrying

/-- DOMAIN or COUNT has been committed: another domain starts every path afresh. -/
def Dev.domainChanged (d : Dev) (old : Word) : Dev :=
  let anew := decide (Word.fld old 0 16 ≠ d.fld Reg.TRL_DOMAIN 0 16)
  let d := if anew then (d.trl.paths.map Prod.fst).foldl (fun d id => d.dropMember id) d else d
  ((List.range 512).foldl (fun d i =>
    if anew || decide (d.memberCount ≤ i ∨ d.regN (Reg.TRL_MEMBER3 i) = 0) then d.freshMember i else d) d).showPartition.showCarrying

/-! ## Replies and learning over Trellis -/

/-- A peer's reply sent back to it; to an unreachable peer it is discarded and counted (R466). -/
def Dev.peerReply (d : Dev) (peer : Nat) (ws : List Word) : Dev :=
  if d.reachable peer then d.trlSend peer 1 0x61 (bytesOf ws) else d.trlCount 9

/-- A learning message sent to every member: an unreachable one counts (R289, R468). -/
def Dev.sendLearn (d : Dev) (ws : List Word) : Dev :=
  d.members.foldl (fun d id => if d.reachable id then d.trlSend id 1 0x10 (bytesOf ws) else d.trlCount 2) d

/-! ## Frames for another member (R454) -/

/-- Zero bytes up to a multiple of four. -/
def padWord (bs : List Byte) : List Byte := bs ++ List.replicate ((4 - bs.length % 4) % 4) 0

/-- The longest frame a FRAME message to a member may carry. -/
def Dev.frameLimit (d : Dev) (id : Nat) : Nat :=
  match d.tunnelOf id with
  | some p => if d.bit (Reg.TRL_TUNNELp p) 30 then 9158 else 9162
  | none => 9162

/-- A frame handed to a member: unedited, with its vintage, its class and the node there; a frame too long, or for an
unreachable member, is dropped and counted. -/
def Dev.sendRemote (d : Dev) (id : Nat) (f : Frame) (dev node : Nat) : Dev :=
  if !d.reachable dev then (d.trlCount 4).freeFrame id
  else if d.frameLimit dev < f.len then (d.trlCount 5).freeFrame id
  else
    let bs := f.bytes ++ List.replicate (60 - f.len) 0
    (d.trlSend dev f.cls 0x70 (beWords [wd (f.vintage * 65536 + node), wd (f.cls * 2 ^ 30 + bs.length), 0, 0] ++ padWord bs)).freeFrame id

end Sys2Proof.Machine
end

