-- ==== Sys2Proof/Machine/FpcOps.lean ====
section
/-! DEFINITION. Shared operations of the flow processors: threads and their states, events, data windows, notices,
channel ports, faults, starts (R305 to R335). -/

namespace Sys2Proof.Machine

/-! ## Threads by global number (R305 to R307) -/

/-- A register of a thread. -/
def thrReg (r : Nat → Nat → Nat) (t : Nat) : Nat := r (t / 64) (t % 64)

/-- STATE of a thread. -/
def Dev.thrState (d : Dev) (t : Nat) : Nat := d.fld (thrReg Reg.FPC_THR_STATE t) 29 3

/-- A thread is its cluster's supervisor. -/
def isSup (t : Nat) : Bool := decide (t % 64 = 0)

/-- ENABLE as committed. -/
def Dev.thrOn (d : Dev) (t : Nat) : Bool := d.bit (thrReg Reg.FPC_THR_CFG t) 31

/-- EBS class of a thread. -/
def Dev.thrClass (d : Dev) (t : Nat) : Nat := d.fld (thrReg Reg.FPC_THR_CFG t) 29 2

/-- The slice a thread's energy is charged to (R314). -/
def Dev.thrOwner (d : Dev) (t : Nat) : Option Nat :=
  let w := d.reg (thrReg Reg.FPC_THR_CHARGE t)
  if Word.bit w 31 then some (Word.fld w 0 13) else none

/-- PC of a thread: the next instruction. -/
def Dev.pc (d : Dev) (t : Nat) : Nat := d.fld (thrReg Reg.FPC_THR_STATE t) 0 15
def Dev.setPc (d : Dev) (t v : Nat) : Dev := d.setFld (thrReg Reg.FPC_THR_STATE t) 0 15 v

/-- A cluster's counter, and an event of FPC_CLc_EVT. -/
def Dev.fpcCount (d : Dev) (c i n : Nat) : Dev := d.count (Reg.FPC_CLc_COUNTS c i) n
def Dev.fpcEvt (d : Dev) (c i : Nat) : Dev := d.sqSet (Reg.FPC_CLc_EVT c) [i]

/-- VAR of entry 4 charged for a number of slots (R69, R313). -/
def Dev.chargeSlots (d : Dev) (t n : Nat) : Dev :=
  d.charge (d.offeredClass (d.thrClass t) (d.thrOwner t)) ((d.etab 4).2 * n / 1000) (d.thrOwner t)

/-- A thread enters a state. Leaving STALLED charges the slots it was stalled, at the nominal 3.0 GHz; a non-supervisor
that leaves WAITING re-arms the all-wait detector (R313, R326). -/
def Dev.setThr (d : Dev) (t st : Nat) : Dev :=
  let old := d.thrState t
  let d := if old = 2 ∧ st ≠ 2 then d.chargeSlots t ((d.now - (d.thread t).stallAt) * 3 / 4) else d
  let d := if st = 2 ∧ old ≠ 2 then d.setThread t (fun th => { th with stallAt := d.now }) else d
  let d := if old = 3 ∧ st ≠ 3 ∧ isSup t = false then
      { d with fpc := { d.fpc with allWaitFired := d.fpc.allWaitFired.filter (· ≠ t / 64) } } else d
  d.setFld (thrReg Reg.FPC_THR_STATE t) 29 3 st

/-! ## Data memory and windows (R310) -/

/-- One byte of a cluster's data memory. -/
def Dev.dmByte (d : Dev) (c a : Nat) : Byte :=
  BitVec.ofNat 8 (Word.fld (d.reg (Reg.FPC_DMEM c (a / 4))) (8 * (a % 4)) 8)

/-- One byte of a cluster's data memory written. -/
def Dev.setDmByte (d : Dev) (c a : Nat) (b : Byte) : Dev :=
  d.setFld (Reg.FPC_DMEM c (a / 4)) (8 * (a % 4)) 8 b.toNat

/-- Words written to a cluster's data memory from a byte address on, a multiple of 4. -/
def Dev.dmWords (d : Dev) (c a : Nat) (ws : List Word) : Dev :=
  ((List.range ws.length).zip ws).foldl (fun d p => d.setReg (Reg.FPC_DMEM c ((a / 4 + p.1) % 524288)) p.2) d

/-- The bytes of a thread's window, in bytes. -/
def Dev.winLen (d : Dev) (t : Nat) : Nat := (d.thread t).pages * 4096

/-- The data-memory address of a window address. -/
def Dev.winAddr (d : Dev) (t a : Nat) : Nat := (d.thread t).base * 4096 + a

/-- Bytes of a thread's window; `none` outside it. -/
def Dev.winRead (d : Dev) (t a n : Nat) : Option (List Byte) :=
  if a + n ≤ d.winLen t then some ((List.range n).map (fun i => d.dmByte (t / 64) (d.winAddr t a + i))) else none

/-- Bytes written into a thread's window; `none` outside it. -/
def Dev.winWrite (d : Dev) (t a : Nat) (bs : List Byte) : Option Dev :=
  if a + bs.length ≤ d.winLen t then
    some (((List.range bs.length).zip bs).foldl (fun d p => d.setDmByte (t / 64) (d.winAddr t a + p.1) p.2) d)
  else none

/-! ## Events (R311, R321) -/

/-- Event bits posted to a thread: sticky. -/
def Dev.postEvents (d : Dev) (t bits : Nat) : Dev :=
  let k := thrReg Reg.FPC_THR_EVENTS t
  d.setReg k (d.reg k ||| wd bits)

/-- An inbound channel's queue. -/
def Dev.chanQueue (d : Dev) (c h : Nat) : List InMsg := Map.getD d.fpc.queues (256 * c + h) []

/-- A queue replaced; FPC_CHh_STATUS shows its length. -/
def Dev.setChanQueue (d : Dev) (c h : Nat) (l : List InMsg) : Dev :=
  ({ d with fpc := { d.fpc with queues := Map.putD d.fpc.queues (256 * c + h) [] l } } : Dev).setFld
    (Reg.FPC_CHh_STATUS c h) 0 11 l.length

/-- Threads bound to a channel. -/
def Dev.boundTo (d : Dev) (c h l : Nat) : Bool :=
  if l < 32 then d.bit (Reg.FPC_CHh_THREADS_LO c h) l else d.bit (Reg.FPC_CHh_THREADS_HI c h) (l - 32)

/-- The level of bit 28: a channel bound to the thread holds a message. -/
def Dev.inboundLevel (d : Dev) (t : Nat) : Bool :=
  d.fpc.queues.any (fun q => decide (q.1 / 256 = t / 64) && !q.2.isEmpty && d.boundTo (t / 64) (q.1 % 256) (t % 64))

/-- The pending bits a thread sees. -/
def Dev.pendingBits (d : Dev) (t : Nat) : Word :=
  Word.setBit (d.reg (thrReg Reg.FPC_THR_EVENTS t)) 28
    (d.inboundLevel t || d.bit (thrReg Reg.FPC_THR_EVENTS t) 28)

/-! ## Notices (R325) -/

/-- A notice written to the cluster's ring, or lost at a full ring; bit 29 goes to the supervisor. -/
def Dev.writeNotice (d : Dev) (c kind thread code : Nat) (detail count : Nat) : Dev :=
  let n := Map.getD d.fpc.notices c 0
  let d := { d with fpc := { d.fpc with notices := Map.put d.fpc.notices c (n + 1) } }
  let idx := Reg.FPC_CLc_NOTICE_IDX c
  let head := d.fld idx 16 16
  if 64 ≤ fwd16 head (d.fld idx 0 16) then (d.fpcCount c 6 1).fpcEvt c 6
  else
    let base := d.fld (Reg.FPC_CLc_NOTICE c) 16 10 * 2048
    let ws := [wd (kind * 2 ^ 28 + thread % 64 * 2 ^ 22 + code % 65536), wd detail, wd count, wd n, lo32 d.time, hi32 d.time,
      0, 0]
    ((d.dmWords c (base + head % 64 * 32) ws).setFld idx 16 16 (head + 1)).postEvents (64 * c) (2 ^ 29)

/-! ## Channel ports (R315 to R318) -/

/-- A thread holds a channel's port. -/
def Dev.holding (d : Dev) (t : Nat) : Option Nat :=
  let k := thrReg Reg.FPC_THR_STATE t
  if d.bit k 23 then some (d.fld k 15 8) else none

/-- The thread of a cluster that holds a port. -/
def Dev.holder (d : Dev) (c h : Nat) : Option Nat :=
  ((List.range 64).map (fun l => 64 * c + l)).find? (fun t => decide (d.holding t = some h))

/-- The port taken, or given up. -/
def Dev.setHold (d : Dev) (t : Nat) (h : Option Nat) : Dev :=
  let k := thrReg Reg.FPC_THR_STATE t
  match h with
  | some h => ((d.setBit k 23 true).setFld k 15 8 h).setThread t (fun th => { th with holdAt := d.now })
  | none => (d.setBit k 23 false).setFld k 15 8 0

/-- The OPs of the channels whose OP codes the spec gives: CIPHER, TRL, PBU. -/
def opKnown (h op : Nat) : Bool :=
  match h with
  | 0x04 => decide (1 ≤ op ∧ op ≤ 5)
  | 0x0B => decide (1 ≤ op ∧ op ≤ 3)
  | 0x0C => decide (1 ≤ op ∧ op ≤ 2)
  | _ => true

/-- The staged request presented whole: the port is released; an OP the accelerator does not have is answered BAD_OP
(R316, R317). -/
def Dev.present (d : Dev) (t h : Nat) : Dev :=
  let th := d.thread t
  let op := Word.fld (wordAt th.staged 0) 24 8
  let q : AccReq := ⟨d.fpc.nextReq, h, th.staged, if opKnown h op then none else some (1, []), false⟩
  let d := { d with fpc := { d.fpc with nextReq := d.fpc.nextReq + 1 } }
  (d.setThread t (fun th => { th with staged := [], stalled := none, reqs := th.reqs ++ [q] })).setHold t none

/-- A word staged by the holder of a port; with END the request is presented, or the thread stalls while 8 are
outstanding (R317). A 17th word is not staged. -/
def Dev.stageWord (d : Dev) (t h : Nat) (w : Word) (fin : Bool) : Dev :=
  let d := d.setThread t (fun th => { th with staged := (th.staged ++ [w]).take 16, cond := 0 })
  if !fin then d.setThr t 1
  else if 8 ≤ (d.thread t).reqs.length then (d.setThread t (fun th => { th with stalled := some (h, w, true) })).setThr t 2
  else (d.present t h).setThr t 1

/-- A freed port goes to the stalled requester with the lowest local number, whose put then stages; a request that ends
with it frees the port again; the number bounds the hand-overs (R318). -/
def Dev.grantPort (d : Dev) (c h : Nat) : Nat → Dev
  | 0 => d
  | n + 1 =>
    let d := { d with fpc := { d.fpc with heldNoted := d.fpc.heldNoted.filter (· ≠ 256 * c + h) } }
    match ((List.range 64).map (fun l => 64 * c + l)).find? (fun t => decide (d.thrState t = 2 ∧ d.holding t = none) &&
        (match (d.thread t).stalled with
          | some (k, _, _) => decide (k = h)
          | none => false)) with
    | none => d
    | some t =>
      match (d.thread t).stalled with
      | none => d
      | some (_, w, fin) =>
        let d := (d.setThread t (fun th => { th with stalled := none })).setHold t (some h)
        let d := d.stageWord t h w fin
        if (d.holding t).isNone then d.grantPort c h n else d

/-- The port a thread holds is released, and its staged request discarded. -/
def Dev.dropStaged (d : Dev) (t : Nat) : Dev :=
  let d := d.setThread t (fun th => { th with staged := [], stalled := none })
  match d.holding t with
  | some h => (d.setHold t none).grantPort (t / 64) h 64
  | none => d

/-! ## Frames of threads (R321) -/

/-- The frame under a handle of a thread. -/
def Dev.handleFrame (d : Dev) (t h : Nat) : Option Nat :=
  Map.findKey? d.prs.frames (fun _ f => decide (f.place = .thread (t / 64) (t % 64) h))

/-- The frames a thread owns. -/
def Dev.ownFrames (d : Dev) (t : Nat) : List Nat :=
  d.framesAt (fun p => match p with
    | .thread c l _ => decide (c = t / 64 ∧ l = t % 64)
    | _ => false)

/-- FRAMES brought up to date. -/
def Dev.showFrames (d : Dev) (t : Nat) : Dev := d.setFld (thrReg Reg.FPC_THR_STATE t) 24 5 (d.ownFrames t).length

/-- The lowest free handle of a thread, of 16. -/
def Dev.freeHandle (d : Dev) (t : Nat) : Option Nat := (List.range 16).find? (fun h => (d.handleFrame t h).isNone)

/-- The frames a thread owns are freed and counted failed; their number (R323). -/
def Dev.freeOwned (d : Dev) (t : Nat) : Dev × Nat :=
  let ids := d.ownFrames t
  (((ids.foldl (fun d i => d.freeFrame i) d).fpcCount (t / 64) 5 ids.length).showFrames t, ids.length)

/-! ## Faults, retirement, starts (R322, R323, R327, R328) -/

/-- A thread faults with a code (R323). -/
def Dev.thrFault (d : Dev) (t code : Nat) : Dev :=
  let c := t / 64
  let pc := d.pc t
  let d := (d.dropStaged t).setThread t (fun th =>
    { th with timers := [], stalled := none, reqs := th.reqs.map (fun r => { r with mute := true }) })
  let (d, n) := d.freeOwned t
  let d := (d.setThr t 6).setN (thrReg Reg.FPC_THR_FAULT t) (code * 2 ^ 24 + pc)
  ((d.fpcCount c 1 1).fpcEvt c 0).writeNotice c 1 (t % 64) code pc n

/-- A thread starts at its committed ENTRY, through WAKING; its window is the committed one (R327). -/
def Dev.thrStart (d : Dev) (t : Nat) : Dev :=
  let cfg := d.reg (thrReg Reg.FPC_THR_CFG t)
  let d := (d.dropStaged t).setThread t (fun th =>
    { th with abort := false, leaving := false, cond := 0, base := Word.fld cfg 0 9, pages := Word.fld cfg 9 9 + 1 })
  ((d.setReg (thrReg Reg.FPC_THR_EVENTS t) 0).setPc t (d.fld (thrReg Reg.FPC_THR_ENTRY t) 0 15)).setThr t 4

/-- A thread enters IDLE: its staged request is discarded and its frames are freed, without a notice (R328). -/
def Dev.thrIdle (d : Dev) (t : Nat) : Dev :=
  let d := (d.dropStaged t).setThread t (fun th =>
    { th with timers := [], leaving := false, abort := false, reqs := th.reqs.map (fun r => { r with mute := true }) })
  ((d.dropWaiting .wake t).freeOwned t).1.setThr t 0

/-- A committed ENABLE (R327, R328). -/
def Dev.thrEnable (d : Dev) (t : Nat) (old new : Bool) : Dev :=
  if new && !old then
    if d.thrState t = 0 then d.thrStart t else d.setThread t (fun th => { th with leaving := false })
  else if old && !new then
    if d.thrState t = 1 ∨ d.thrState t = 2 ∨ d.thrState t = 5 then d.setThread t (fun th => { th with leaving := true })
    else d.thrIdle t
  else d

/-! ## Inbound channels (R319 to R321, R330) -/

/-- A message dropped: its frame is freed; the Press, the Classifier and Forwarding count it too (R320). -/
def Dev.inboundDrop (d : Dev) (c h : Nat) (m : InMsg) : Dev :=
  let d := match m.frame with
    | some id => (match d.frame? id with
      | some f => (if 1 ≤ Word.fld (wordAt m.words 0) 28 4 ∧ Word.fld (wordAt m.words 0) 28 4 ≤ 3 then d.prsCount f 9
          else d).freeFrame id
      | none => d)
    | none => d
  let d := if Word.fld (wordAt m.words 0) 28 4 = 4 then d.count (Reg.PBU_COUNTS 23) 1 else d
  let d := (d.fpcCount c 4 1).fpcEvt c 1
  if h < 16 then d else d.countFld (Reg.FPC_CHh_STATUS c h) 16 16

/-- The thread an arrival posts bit 28 to: bound, WAITING, its mask holding the bit, round-robin after the last (R321). -/
def Dev.chooseThread (d : Dev) (c h : Nat) : Option Nat :=
  let last := Map.getD d.fpc.chosen (256 * c + h) 63
  ((List.range 64).map (fun i => (last + 1 + i) % 64)).find? (fun l =>
    d.boundTo c h l && decide (d.thrState (64 * c + l) = 3) && d.bit (Reg.FPC_THR_WAITMASK c l) 28)

/-- A message reaches its channel: enqueued with its SEQ, or dropped at a full queue, a disabled channel or a number below
0x10 (R319, R320). -/
def Dev.inboundArrive (d : Dev) (c h : Nat) (m : InMsg) : Dev :=
  let cfg := d.reg (Reg.FPC_CHh_CFG c h)
  let q := d.chanQueue c h
  if h < 16 ∨ Word.bit cfg 31 = false ∨ 2 ^ Word.fld cfg 26 4 ≤ q.length then d.inboundDrop c h m
  else
    let n := Map.getD d.fpc.seqs (256 * c + h) 0
    let ws := m.words.set 3 (wd (n % 65536 * 65536))
    let d := { d with fpc := { d.fpc with seqs := Map.put d.fpc.seqs (256 * c + h) (n + 1) } }
    let d := d.dmWords c ((Word.fld cfg 0 13 + n % 2 ^ Word.fld cfg 26 4) * 256) ws
    let d := match m.frame with
      | some id => (match d.frame? id with
        | some f => d.moveFrame id f (.inbound c h)
        | none => d)
      | none => d
    let d := d.setChanQueue c h (q ++ [{ m with words := ws }])
    match d.chooseThread c h with
    | some l => ({ d with fpc := { d.fpc with chosen := Map.put d.fpc.chosen (256 * c + h) l } } : Dev).postEvents (64 * c + l) (2 ^ 28)
    | none => d

/-- A committed change of DEPTH, BASE or ENABLE drops the messages of the channel (R334). -/
def Dev.chanChanged (d : Dev) (c h : Nat) : Dev :=
  let q := d.chanQueue c h
  q.foldl (fun d m => d.inboundDrop c h m) (d.setChanQueue c h [])

/-- A message of another block sent to a channel: KIND, slice, ARG, words 4 on (R319). -/
def Dev.sendMessage (d : Dev) (c h kind : Nat) (arg : Word) (slice : Option (Nat × Nat)) (data : List Word) : Dev :=
  let w2 := match slice with
    | some (s, i) => wd (i * 2 ^ 24 + 2 ^ 23 + s)
    | none => 0
  let ws := [wd (kind * 2 ^ 28 + 0xFF), arg, w2, 0] ++ data
  { d with fpc := { d.fpc with arriving := d.fpc.arriving ++ [(c, h, ws ++ List.replicate (64 - ws.length) 0)] } }

/-- The quiescing slice's queued messages discarded in every cluster, each cluster that discarded any with a notice; how
many (R330). -/
def Dev.fpcQuiesce (d : Dev) (s : Nat) : Dev × Nat :=
  let mine (m : InMsg) : Bool := Word.bit (wordAt m.words 2) 23 && decide (Word.fld (wordAt m.words 2) 0 13 = s)
  (List.range 8).foldl (fun (st : Dev × Nat) c =>
    let qs := st.1.fpc.queues.filter (fun q => decide (q.1 / 256 = c))
    let gone := (qs.flatMap Prod.snd).filter mine
    let d := gone.foldl (fun (d : Dev) m => match m.frame with
      | some id => d.freeFrame id
      | none => d) st.1
    let d := qs.foldl (fun (d : Dev) q => d.setChanQueue c (q.1 % 256) (q.2.filter (fun m => !mine m))) d
    let d := if gone.isEmpty then d else d.writeNotice c 7 0 0 s gone.length
    (d, st.2 + gone.length)) (d, 0)

/-- No thread has the slice as its charge slice (R330). -/
def Dev.noThreadCharges (d : Dev) (s : Nat) : Bool :=
  (List.range 512).all (fun t => decide (d.thrOwner t ≠ some s))

end Sys2Proof.Machine
end

