-- ==== Sys2Proof/Machine/ClsOps.lean ====
section
/-! DEFINITION. Shared operations on rule tables: where an entry lives, lookup, insertion, banks, flips
(R252 to R273). -/

namespace Sys2Proof.Machine

/-! ## A table's settings (R252, R268) -/

def Dev.tblTwoBank (d : Dev) (t : Nat) : Bool := d.bit (Reg.CLS_TBLt_CFG t) 30
def Dev.tblKeyLen (d : Dev) (t : Nat) : Nat := 8 * (d.fld (Reg.CLS_TBLt_CFG t) 26 3 + 1)
def Dev.tblSize (d : Dev) (t : Nat) : Nat := d.fld (Reg.CLS_TBLt_SIZE t) 0 22
def Dev.tblClearing (d : Dev) (t : Nat) : Bool := d.bit (Reg.CLS_TBLt_STATUS t) 29
def Dev.tblActive (d : Dev) (t : Nat) : Nat := d.fld (Reg.CLS_TBLt_STATUS t) 31 1

/-- Rows of an entry by the table's KEY_LEN code (R252). -/
def rowsOf (code : Nat) : Nat := if code ≤ 1 then 1 else if code ≤ 5 then 2 else 3

/-- A SIZE: 0, or a power of two from 4 to 2 Mi. -/
def tblSizeOk (n : Nat) : Bool := decide (n = 0) || ((List.range 20).any (fun i => decide (n = 2 ^ (i + 2))))

/-- The bank a pass uses: a frame stamped OLD uses the old bank of the tables the last swap exchanged (R269). -/
def Dev.bankFor (d : Dev) (t vintage : Nat) : Nat :=
  if !d.tblTwoBank t then d.fld (Reg.CLS_TBLt_CFG t) 29 1
  else if d.bit Reg.CLS_VINTAGE_OLD 16 && decide (vintage = d.fld Reg.CLS_VINTAGE_OLD 0 16) &&
      d.cls.lastMask.testBit t then 1 - d.tblActive t
  else d.tblActive t

/-- The bank that commands reach: the inactive one of a two-bank table (R268). -/
def Dev.writeBank (d : Dev) (t : Nat) : Nat :=
  if d.tblTwoBank t then 1 - d.tblActive t else d.fld (Reg.CLS_TBLt_CFG t) 29 1

/-- A bank is in use against writes: the active bank, a bank being drained, held as READY, being copied, or being
cleared (R254, R268, R271, R273). -/
def Dev.bankBusy (d : Dev) (t bank : Nat) : Bool :=
  let st := d.reg (Reg.CLS_TBLt_STATUS t)
  Word.bit st 29 || Word.bit st 30 ||
  (d.tblTwoBank t && (decide (bank = d.tblActive t) || Word.bit st 28 ||
    (d.bit Reg.CLS_VINTAGE_OLD 16 && d.cls.lastMask.testBit t)))

/-! ## Where an entry lives (R255) -/

/-- A location: bucket slots are entries, the overflow store has its own index; WHERE is 1 bucket A, 2 bucket B, 3
overflow (R260). -/
structure Loc where
  store : Bool
  index : Nat
  found : Nat
deriving DecidableEq, Repr

/-- H(s) of R255 over a table byte and a key. -/
def tblHash (seed : Word) (tbl : Nat) (key : List Byte) : Nat := (~~~ (crc32c seed (BitVec.ofNat 8 tbl :: key))).toNat

/-- Buckets A and B of a key among `nb` buckets. -/
def bucketsOf (seed : Word) (tbl nb : Nat) (key : List Byte) : Nat × Nat :=
  let a := tblHash seed tbl key % nb
  let b := tblHash (seed ^^^ 0xA5A5A5A5#32) tbl key % nb
  (a, if b = a then a ^^^ 1 else b)

/-- The eight slots of a key in the order of R256; four where there is one bucket. -/
def slotsOf (seed : Word) (tbl nb : Nat) (key : List Byte) : List Loc :=
  let (a, b) := bucketsOf seed tbl nb key
  let sl (k w : Nat) : List Loc := (List.range 4).map (fun s => ⟨false, 4 * k + s, w⟩)
  if nb = 0 then [] else if nb = 1 then sl 0 1 else sl a 1 ++ sl b 2

/-- Entry and overflow keys of a bank of a table. -/
def clsKey (bank t i : Nat) : Nat := (bank * 16 + t) * 2 ^ 21 + i
def ovfKey (bank t i : Nat) : Nat := (bank * 16 + t) * 2 ^ 16 + i

/-- VALID of an entry's words (R258). -/
def entryValid (ws : List Word) : Bool := Word.bit (wordAt ws 0) 31

/-- The words at a location, live or not. -/
def Dev.clsRaw (d : Dev) (t bank : Nat) (l : Loc) : Option (List Word) :=
  if l.store then Map.get? d.cls.overflow (ovfKey bank t l.index) else Map.get? d.cls.entries (clsKey bank t l.index)

/-- The entry at a location, `none` where nothing is VALID. -/
def Dev.clsEntry (d : Dev) (t bank : Nat) (l : Loc) : Option (List Word) := (d.clsRaw t bank l).filter entryValid

/-- VALID cleared; the other bits stay. -/
def invalid (ws : List Word) : List Word := ws.set 0 (Word.setBit (wordAt ws 0) 31 false)

/-- Key bytes as the words of an entry, byte 0 of a word in bits [7:0] (R258). -/
def keyWords (key : List Byte) : List Word := wordsOf (ceilDiv key.length 4) key

/-- Overflow indices of a table's bank in use, lowest first. -/
def Dev.ovfUsed (d : Dev) (t bank : Nat) : List Nat :=
  (d.cls.overflow.filter (fun e => decide (e.1 / 2 ^ 16 = bank * 16 + t) && entryValid e.2)).map (fun e => e.1 % 2 ^ 16)

/-- Size of a bank's overflow store (R253). -/
def Dev.ovfSize (d : Dev) (t : Nat) : Nat := if d.tblTwoBank t then 32768 else 65536

/-- The location of a key in a bank: bucket A, bucket B, overflow (R256); a disabled or clearing table misses. -/
def Dev.clsFind (d : Dev) (t bank : Nat) (key : List Byte) : Option Loc :=
  if d.tblSize t = 0 ∨ d.tblClearing t = true then none
  else
    let kw := keyWords key
    let here (l : Loc) : Bool := match d.clsEntry t bank l with
      | some ws => decide ((ws.drop 4).take kw.length = kw)
      | none => false
    let cand := slotsOf (d.reg (Reg.CLS_TBLt_SEED t)) t (d.tblSize t / 4) key ++
      (d.ovfUsed t bank).map (fun i => ⟨true, i, 3⟩)
    cand.find? here

/-- The place RULE_ADD takes for a new key: the first free slot, else the lowest free overflow entry (R257). -/
def Dev.clsFree (d : Dev) (t bank : Nat) (key : List Byte) : Option Loc :=
  match (slotsOf (d.reg (Reg.CLS_TBLt_SEED t)) t (d.tblSize t / 4) key).find? (fun l => (d.clsEntry t bank l).isNone) with
  | some l => some l
  | none =>
    (Map.free? (d.cls.overflow.filter (fun e => entryValid e.2)) (ovfKey bank t 0) (d.ovfSize t)).map
      (fun k => ⟨true, k % 2 ^ 16, 3⟩)

/-! ## Entries and pool 6 (R169, R273) -/

/-- The slice an action delivers to, if its incarnation is live. -/
def Dev.actionSlice (d : Dev) (w1 w2 : Word) : Option Nat :=
  let s := Word.fld w2 0 13
  if Word.fld w1 28 4 = 2 ∧ d.sliceState s ≠ 0 ∧ d.incarnation s = Word.fld w2 24 8 then some s else none

/-- An entry's slice. -/
def Dev.entrySlice (d : Dev) (e : Option (List Word)) : Option Nat :=
  match e with
  | some ws => d.actionSlice (wordAt ws 1) (wordAt ws 2)
  | none => none

/-- Pool 6 follows an entry's change from one slice to another. -/
def Dev.moveUnit (d : Dev) (old new : Option Nat) : Dev :=
  if old = new then d
  else
    let d := match old with
      | some s => d.poolFree s 6 1
      | none => d
    match new with
    | some s => d.poolTake s 6 1
    | none => d

/-- The counts a table shows of its active bank (R275). -/
def Dev.showTable (d : Dev) (t : Nat) : Dev :=
  let bank := if d.tblTwoBank t then d.tblActive t else d.fld (Reg.CLS_TBLt_CFG t) 29 1
  (d.setFld (Reg.CLS_TBLt_STATUS t) 0 22 (Map.count d.cls.entries (fun k ws => decide (k / 2 ^ 21 = bank * 16 + t) && entryValid ws))).setN
    (Reg.CLS_TBLt_OVF t) (d.ovfUsed t bank).length

/-- The unit of pool 6 an entry's words hold: of a live entry that delivers to a slice. -/
def Dev.wordsSlice (d : Dev) (ws : List Word) : Option Nat := if entryValid ws then d.entrySlice (some ws) else none

/-- An entry's words stored whole (R258, R267): pool 6 and the counts follow. -/
def Dev.setEntry (d : Dev) (t bank : Nat) (l : Loc) (ws : List Word) : Dev :=
  let d := d.moveUnit (d.entrySlice (d.clsEntry t bank l)) (d.wordsSlice ws)
  (if l.store then { d with cls := { d.cls with overflow := Map.put d.cls.overflow (ovfKey bank t l.index) ws } }
   else { d with cls := { d.cls with entries := Map.put d.cls.entries (clsKey bank t l.index) ws } } : Dev).showTable t

/-- An entry's VALID cleared; nothing changes where none is held. -/
def Dev.clearEntry (d : Dev) (t bank : Nat) (l : Loc) : Dev :=
  match d.clsRaw t bank l with
  | some ws => d.setEntry t bank l (invalid ws)
  | none => d

/-- VALID cleared in every entry of a table, in every bank (R254). -/
def Dev.clearTable (d : Dev) (t : Nat) : Dev :=
  let mine (w k : Nat) : Bool := decide (k / 2 ^ w % 16 = t)
  let d := (d.cls.entries.filter (fun e => mine 21 e.1) ++ d.cls.overflow.filter (fun e => mine 16 e.1)).foldl
    (fun d e => d.moveUnit (d.wordsSlice e.2) none) d
  ({ d with cls := { d.cls with entries := Map.mapVals d.cls.entries (fun k ws => if mine 21 k then invalid ws else ws),
                                overflow := Map.mapVals d.cls.overflow (fun k ws => if mine 16 k then invalid ws else ws) } } : Dev).showTable t

/-- The settings whose change clears a table: MODE, BANK, KEY_LEN, BASE, SIZE (R254). The table is set afresh: bank 0 is
active, and the clearing runs (R268). -/
def Dev.tblChanged (d : Dev) (t : Nat) : Dev :=
  ((d.setFld (Reg.CLS_TBLt_STATUS t) 31 1 0).setBit (Reg.CLS_TBLt_STATUS t) 29 true).clearTable t

/-- The entries of a destroyed slice swept from every bank (R183, R268). -/
def Dev.sweepRules (d : Dev) (s inc : Nat) : Dev :=
  let gone (ws : List Word) : Bool :=
    decide (Word.fld (wordAt ws 1) 28 4 = 2 ∧ Word.fld (wordAt ws 2) 0 13 = s ∧ Word.fld (wordAt ws 2) 24 8 = inc)
  let sweep (m : Map (List Word)) : Map (List Word) := Map.mapVals m (fun _ ws => if gone ws then invalid ws else ws)
  let d := { d with cls := { d.cls with entries := sweep d.cls.entries, overflow := sweep d.cls.overflow } }
  (List.range 16).foldl (fun d t => d.showTable t) d

/-! ## Actions (R259) -/

/-- Bits of an action that must be 0, by OP; `false` where it carries none (R259). -/
def actionBad (w1 w2 w3 : Word) : Bool :=
  let op := Word.fld w1 28 4
  let dec := Word.bit w1 26
  let reason := Word.fld w1 0 8
  decide (6 ≤ op) || decide (Word.fld w1 8 18 ≠ 0) || (dec && decide (op ≠ 2 ∧ op ≠ 3)) ||
  decide (reason ≠ 0 ∧ (reason < 0xC0 ∨ (op ≠ 1 ∧ op ≠ 4))) ||
  (match op with
   | 0 => decide (w3 ≠ 0)
   | 1 => decide (w2 ≠ 0 ∨ w3 ≠ 0)
   | 2 => Word.bit w2 23 || (if dec then decide (Word.fld w3 20 12 ≠ 0) else decide (w3 ≠ 0))
   | 3 => decide (Word.fld w2 16 14 ≠ 0 ∨ Word.fld w2 6 2 ≠ 0) ||
       (if dec then decide (Word.fld w3 20 12 ≠ 0 ∨ Word.fld w2 30 2 ≠ 0 ∨ Word.fld w2 8 8 ≠ 0) else decide (w3 ≠ 0))
   | 4 => decide (Word.fld w2 11 21 ≠ 0)
   | 5 => decide (Word.fld w2 16 16 ≠ 0 ∨ w3 ≠ 0)
   | _ => true)

/-! ## Flips and drains (R270) -/

/-- The flip: CUR becomes OLD, the new vintage CUR, and the named tables exchange their banks. -/
def Dev.flip (d : Dev) (mask vintage : Nat) (copy : Bool) : Dev :=
  let d := d.setReg Reg.CLS_VINTAGE_OLD (wd (65536 + d.fld Reg.CLS_VINTAGE 0 16))
  let d := (d.setN Reg.CLS_VINTAGE vintage).sqSet Reg.CLS_SWAP_EVT [0]
  let d := (bitList 16 mask).foldl (fun d t =>
    ((d.setFld (Reg.CLS_TBLt_STATUS t) 31 1 (1 - d.tblActive t)).setBit (Reg.CLS_TBLt_STATUS t) 28 false).showTable t) d
  let d := d.setFld Reg.CLS_SWAP_STATUS 0 3 3
  { d with cls := { d.cls with lastMask := mask, swap := d.cls.swap.map (fun s => { s with flipped := true, copy := copy }) } }

/-- The active bank and overflow half of a table copied into its inactive bank (R273). -/
def Dev.copyBank (d : Dev) (t : Nat) : Dev :=
  let a := d.tblActive t
  let b := 1 - a
  let drop (w : Nat) (m : Map (List Word)) : Map (List Word) := m.filter (fun e => decide (e.1 / 2 ^ w ≠ b * 16 + t))
  let src (w : Nat) (m : Map (List Word)) : Map (List Word) := m.filter (fun e => decide (e.1 / 2 ^ w = a * 16 + t))
  let old := d.cls.entries.filter (fun e => decide (e.1 / 2 ^ 21 = b * 16 + t)) ++
    d.cls.overflow.filter (fun e => decide (e.1 / 2 ^ 16 = b * 16 + t))
  let d := old.foldl (fun d e => d.moveUnit (d.wordsSlice e.2) none) d
  let d := (src 21 d.cls.entries ++ src 16 d.cls.overflow).foldl
    (fun d e => d.moveUnit none (d.wordsSlice e.2)) d
  { d with cls := { d.cls with
      entries := (src 21 d.cls.entries).foldl (fun m e => Map.put m (clsKey b t (e.1 % 2 ^ 21)) e.2) (drop 21 d.cls.entries),
      overflow := (src 16 d.cls.overflow).foldl (fun m e => Map.put m (ovfKey b t (e.1 % 2 ^ 16)) e.2)
        (drop 16 d.cls.overflow) } }

end Sys2Proof.Machine
end

