-- ==== Sys2Proof/Machine/PressOps.lean ====
section
/-! DEFINITION. The Press's fixed logic: the header walk, keys and hashes, checksums, fragments (R227 to R248). -/

namespace Sys2Proof.Machine

/-! ## The walk (R228 to R231) -/

/-- What the walk finds: window offsets and types. -/
structure Headers where
  vlans : Nat := 0
  tci : Nat := 0
  et0 : Nat := 0
  etf : Nat := 0
  hsr : Bool := false
  l3 : Option Nat := none
  l3type : Nat := 0
  mpls : Nat := 0
  l4 : Option Nat := none
  l4type : Nat := 0
  proto : Nat := 0
  pay : Option Nat := none
  tun : Option Nat := none
  tunType : Nat := 0
  stop : Bool := false
  ipBad : Bool := false
  ipLen : Bool := false
  /-- Fragment code, offset, more-fragments, bytes of fragment payload, key of the datagram. -/
  frag : Nat := 0
  fragOff : Nat := 0
  more : Bool := false
  fragLen : Nat := 0
  fragKey : List Byte := []
  /-- Bytes of L4 by the IP header. -/
  l4len : Nat := 0
deriving DecidableEq, Repr

/-- Sixteen bits of the window. -/
def w16 (w : List Byte) (o : Nat) : Nat := beAt w o 2

/-- Steps over up to two tags (R228); `true` when a third tag ends the walk. -/
def walkTags (tpids : List Nat) (w : List Byte) : Nat → Nat → Headers → Headers × Nat × Bool
  | 0, pos, k => (k, pos, tpids.contains (w16 w pos))
  | n + 1, pos, k =>
    if tpids.contains (w16 w pos) then
      walkTags tpids w n (pos + 4)
        { k with vlans := k.vlans + 1, tci := if k.vlans = 0 then w16 w (pos + 2) else k.tci }
    else (k, pos, false)

/-- IPv6 extension headers from `pos` with next header `nh`: at most `n` more (R229). Answers the final next header,
its position, whether the walk stopped, and the fragment fields. -/
def walkExt (w : List Byte) : Nat → Nat → Nat → Headers → Headers × Nat × Nat × Bool
  | n, nh, pos, k =>
    let isExt := decide (nh = 0 ∨ nh = 43 ∨ nh = 60 ∨ nh = 44 ∨ nh = 51)
    match n with
    | 0 => (k, nh, pos, isExt)
    | n + 1 =>
      if !isExt then (k, nh, pos, false)
      else
        let len := byteAt w (pos + 1)
        let size := if nh = 44 then 8 else if nh = 51 then (len + 2) * 4 else (len + 1) * 8
        if 192 < pos + size then (k, nh, pos, true)
        else
          let k := if nh = 44 then
              let fo := w16 w (pos + 2)
              let off := fo / 8 * 8
              let more := fo.testBit 0
              { k with fragOff := off, more := more, frag := if off ≠ 0 then 2 else if more then 1 else 0,
                       fragKey := slice w (pos + 4) 4 ++ [w.getD pos 0] }
            else k
          walkExt w n (byteAt w pos) (pos + size) k

/-- L4_TYPE of a protocol number (R229). -/
def l4TypeOf (p : Nat) : Nat :=
  if p = 6 then 1 else if p = 17 then 2 else if p = 1 ∨ p = 58 then 3 else if p = 50 then 4 else if p = 47 then 5 else 6

/-- PAY and TUN from L4 (R230). -/
def walkL4 (w : List Byte) (vxlan geneve : Nat) (k : Headers) : Headers :=
  match k.l4 with
  | none => k
  | some l4 =>
    match k.l4type with
    | 1 =>
      let doff := byteAt w (l4 + 12) / 16
      if doff < 5 then { k with stop := true } else { k with pay := some (l4 + 4 * doff) }
    | 2 =>
      let pay := l4 + 8
      let k := { k with pay := some pay }
      let port := w16 w (l4 + 2)
      if port = vxlan then { k with tunType := 1, tun := some (pay + 8) }
      else if port = geneve then
        let opt := byteAt w pay % 64 * 4
        if opt ≤ 64 then { k with tunType := 2, tun := some (pay + 8 + opt) } else { k with stop := true }
      else k
    | 3 => { k with pay := some (l4 + 8) }
    | 4 => { k with pay := some (l4 + 8) }
    | 5 =>
      let fl := w16 w l4
      let b (i : Nat) : Nat := if fl.testBit i then 4 else 0
      let k := { k with tunType := if w16 w (l4 + 2) = 0x6558 ∧ fl.testBit 13 = true then 4 else 3 }
      if fl % 8 ≠ 0 then { k with stop := true }
      else { k with pay := some (l4 + 4 + b 15 + b 13 + b 12), tun := some (l4 + 4 + b 15 + b 13 + b 12) }
    | _ => k

/-- IPv4 at L3; `left` is the bytes the frame holds from the window's start (R229). -/
def walkIp4 (w : List Byte) (left l3 : Nat) (k : Headers) : Headers :=
  let k := { k with l3type := 1 }
  let b0 := byteAt w l3
  let ihl := b0 % 16
  if b0 / 16 ≠ 4 ∨ ihl < 5 then { k with ipBad := true }
  else
    let tot := w16 w (l3 + 2)
    let fo := w16 w (l3 + 6)
    let off := fo % 8192 * 8
    let more := fo.testBit 13
    let frag := if off ≠ 0 then 2 else if more then 1 else 0
    let proto := byteAt w (l3 + 9)
    { k with ipLen := decide (left < l3 + tot), proto := proto, frag := frag, fragOff := off, more := more,
             fragLen := tot - 4 * ihl, l4len := tot - 4 * ihl, l4type := l4TypeOf proto, l4 := some (l3 + 4 * ihl),
             fragKey := slice w (l3 + 12) 8 ++ slice w (l3 + 4) 2 ++ slice w (l3 + 9) 1 }

/-- IPv6 at L3 (R229). -/
def walkIp6 (w : List Byte) (left l3 : Nat) (k : Headers) : Headers :=
  let k := { k with l3type := 2 }
  if byteAt w l3 / 16 ≠ 6 then { k with ipBad := true }
  else
    let plen := w16 w (l3 + 4)
    let k := { k with ipLen := decide (left < l3 + 40 + plen) }
    let (k, nh, pos, stop) := walkExt w 4 (byteAt w (l3 + 6)) (l3 + 40) k
    let k := { k with proto := nh, fragLen := l3 + 40 + plen - pos, l4len := l3 + 40 + plen - pos,
                      fragKey := slice w (l3 + 8) 32 ++ k.fragKey }
    if stop then { k with stop := true } else { k with l4type := l4TypeOf nh, l4 := some pos }

/-- The label stack: up to four labels, then the nibble decides (R229). -/
def walkMpls (w : List Byte) (left : Nat) : Nat → Nat → Headers → Headers
  | 0, _, k => { k with stop := true, l3type := 3 }
  | n + 1, pos, k =>
    let k := { k with mpls := k.mpls + 1 }
    if (byteAt w (pos + 2)).testBit 0 then
      let k := { k with l3 := some (pos + 4) }
      let nib := byteAt w (pos + 4) / 16
      if nib = 4 then walkIp4 w left (pos + 4) k
      else if nib = 6 then walkIp6 w left (pos + 4) k
      else { k with l3type := 3 }
    else walkMpls w left n (pos + 4) k

/-- An anchor at or beyond offset 192 is absent (R231). -/
def anchor (o : Option Nat) : Option Nat := o.filter (fun x => decide (x < 192))

/-- The walk's end: anchors beyond the window absent, PAY and TUN placed; a later fragment has neither (R231, R244). -/
def walkEnd (w : List Byte) (vxlan geneve : Nat) (k : Headers) : Headers :=
  let k := { k with l3 := anchor k.l3, l4 := anchor k.l4 }
  let k := if k.frag = 2 then k else walkL4 w vxlan geneve k
  { k with pay := anchor k.pay, tun := anchor k.tun }

/-- The walk of a frame as Ethernet (R228). -/
def walkEth (tpids : List Nat) (hsrPort : Bool) (vxlan geneve left : Nat) (w : List Byte) : Headers :=
  let (k, pos, third) := walkTags tpids w 2 12 { et0 := w16 w 12 }
  if third then { k with stop := true, etf := w16 w pos }
  else
    let hsr := hsrPort && decide (w16 w pos = 0x892F)
    let pos := if hsr then pos + 6 else pos
    let etf := w16 w pos
    let k := { k with hsr := hsr }
    if etf < 0x600 then { k with etf := 0 }
    else
      let l3 := pos + 2
      let k := { k with etf := etf, l3 := some l3 }
      walkEnd w vxlan geneve
        (if etf = 0x0800 then walkIp4 w left l3 k
         else if etf = 0x86DD then walkIp6 w left l3 k
         else if etf = 0x8847 ∨ etf = 0x8848 then walkMpls w left 4 l3 k
         else { k with l3type := 3 })

/-- The walk of a later pass whose profile's LEAD is IP or MPLS; LEAD 3 walks nothing (R238). -/
def walkLead (lead vxlan geneve left : Nat) (w : List Byte) : Headers :=
  let k : Headers := {}
  if lead = 1 then
    let k := { k with l3 := some 0 }
    let nib := byteAt w 0 / 16
    walkEnd w vxlan geneve
      (if nib = 4 then walkIp4 w left 0 k else if nib = 6 then walkIp6 w left 0 k else { k with l3type := 3 })
  else if lead = 2 then walkEnd w vxlan geneve (walkMpls w left 4 0 { k with l3 := some 0 })
  else k

/-- MODE of the pair a port belongs to: 0 none, 1 PRP, 2 HSR (R410). -/
def Dev.pairMode (d : Dev) (p : Nat) : Nat :=
  ((List.range 8).findSome? (fun k =>
    let w := d.reg (Reg.MAC_PAIRk k)
    if Word.fld w 30 2 ≠ 0 ∧ (Word.fld w 0 4 = p ∨ Word.fld w 8 4 = p) then some (Word.fld w 30 2) else none)).getD 0

/-- The walk of a frame's pass, with the tunnel ports and tag types in force. -/
def Dev.walk (d : Dev) (f : Frame) (lead : Nat) : Headers :=
  let w := f.window
  let left := f.len - f.start
  let vx := d.fld Reg.PRS_TUNNEL_PORTS 0 16
  let ge := d.fld Reg.PRS_TUNNEL_PORTS 16 16
  if f.len ≤ f.start ∧ f.pass ≠ 0 then { stop := true }
  else if lead = 0 then
    walkEth [d.fld Reg.PRS_TPID 0 16, d.fld Reg.PRS_TPID 16 16, d.fld Reg.PRS_TPID2 0 16]
      (decide (f.srcPort < 16 ∧ d.pairMode f.srcPort = 2)) vx ge left w
  else walkLead lead vx ge left w

/-! ## Profiles, keys, hashes (R233 to R239) -/

/-- A profile's CTRL fields. -/
def Dev.profOn (d : Dev) (p : Nat) : Bool := d.bit (Reg.PRS_PROFp_CTRL p) 31
def Dev.profLead (d : Dev) (p : Nat) : Nat := d.fld (Reg.PRS_PROFp_CTRL p) 29 2
def Dev.profKeyLen (d : Dev) (p : Nat) : Nat := 8 * (d.fld (Reg.PRS_PROFp_CTRL p) 23 3 + 1)

/-- The lowest-numbered profile that selects the frame on pass 0 (R233). -/
def Dev.selectProfile (d : Dev) (f : Frame) (k : Headers) : Option Nat :=
  (List.range 64).find? (fun p =>
    let s0 := d.reg (Reg.PRS_PROFp_SEL0 p)
    let s1 := d.reg (Reg.PRS_PROFp_SEL1 p)
    let s2 := d.reg (Reg.PRS_PROFp_SEL2 p)
    d.profOn p && Word.bit s0 31 && Word.bit s0 f.srcPort &&
    decide (k.etf &&& Word.fld s1 0 16 = Word.fld s1 16 16 &&& Word.fld s1 0 16) &&
    decide (k.et0 &&& Word.fld s2 0 16 = Word.fld s2 16 16 &&& Word.fld s2 0 16) &&
    decide (Word.fld s0 29 2 = k.vlans ∨ Word.fld s0 29 2 = 3))

/-- A byte an extractor reads, `none` for one that reads 0 with KEY_SHORT (R236). -/
def readByte (f : Frame) (k : Headers) (image : Option (List Byte)) (anc off : Nat) : Option Byte :=
  let win (a : Option Nat) : Option Byte :=
    match a with
    | none => none
    | some a => if 192 ≤ a + off then none else f.bytes[f.start + a + off]?
  match anc with
  | 0 => win (some 0)
  | 1 => win k.l3
  | 2 =>
    match image with
    | some im => im[off]?
    | none => win k.l4
  | 3 => win k.pay
  | 4 => win k.tun
  | 5 => if 35 < off then none else some (BitVec.ofNat 8 (Word.fld (wordAt f.record (off / 4)) (8 * (off % 4)) 8))
  | _ => none

/-- One extractor applied to the key (R236). -/
def extract (f : Frame) (k : Headers) (image : Option (List Byte)) (x : Word) (st : List Byte × Bool) : List Byte × Bool :=
  if Word.bit x 31 then
    (List.range (Word.fld x 16 4 + 1)).foldl (fun (st : List Byte × Bool) j =>
      match readByte f k image (Word.fld x 28 3) (Word.fld x 20 8 + j) with
      | some b => (st.1.set (Word.fld x 10 6 + j) b, st.2)
      | none => (st.1.set (Word.fld x 10 6 + j) 0, true)) st
  else st

/-- A byte string masked by the words of a mask, byte 0 of a word in bits [7:0] (R237). -/
def Dev.maskBytes (d : Dev) (base : Nat) (bs : List Byte) : List Byte :=
  ((List.range bs.length).zip bs).map (fun p =>
    p.2 &&& BitVec.ofNat 8 (Word.fld (d.reg (base + 4 * (p.1 / 4))) (8 * (p.1 % 4)) 8))

/-- The masked key of a pass and whether a byte was short (R236, R237). -/
def Dev.buildKey (d : Dev) (f : Frame) (k : Headers) (image : Option (List Byte)) (p : Nat) : List Byte × Bool :=
  let (key, short) := ((List.range 24).map (fun e => d.reg (Reg.PRS_PROFp_EXTe p e))).foldl
    (fun st x => extract f k image x st) (List.replicate (d.profKeyLen p) 0, false)
  (d.maskBytes (Reg.PRS_PROFp_KEYMASKj p 0) key, short)

/-- HASH of a key (R239). -/
def Dev.hashKey (d : Dev) (p : Nat) (key : List Byte) : Word :=
  ~~~ (crc32c (BitVec.allOnes 32) (d.maskBytes (Reg.PRS_PROFp_HASHMASKj p 0) key))

/-! ## Checksums (R242) -/

/-- The IPv4 header checksum verified: 1 good, 2 bad. -/
def ip4Csum (w : List Byte) (l3 : Nat) : Nat :=
  if fold16 (onesSum (slice w l3 (4 * (byteAt w l3 % 16)))) = 0xFFFF then 1 else 2

/-- The L4 checksum verified over the frame: 0 not checked, 1 good, 2 bad (R242). -/
def l4Csum (f : Frame) (k : Headers) : Nat :=
  match k.l3, k.l4 with
  | some l3, some l4 =>
    let tcp := decide (k.proto = 6)
    let udp := decide (k.proto = 17)
    let icmp6 := decide (k.proto = 58 ∧ k.l3type = 2)
    let body := slice f.bytes (f.start + l4) k.l4len
    let zero := decide (k.proto = 17 ∧ k.l3type = 1 ∧ beAt body 6 2 = 0)
    if k.frag ≠ 0 ∨ k.ipLen = true ∨ zero = true ∨ (!tcp && !udp && !icmp6) = true then 0
    else
      let addrs := if k.l3type = 1 then slice f.bytes (f.start + l3 + 12) 8 else slice f.bytes (f.start + l3 + 8) 32
      let sum := onesSum addrs + k.l4len / 65536 + k.l4len % 65536 + k.proto + onesSum body
      if fold16 sum = 0xFFFF then 1 else 2
  | _, _ => 0

/-- L3_CSUM of a pass: 3 where there is no such header. -/
def l3Csum (f : Frame) (k : Headers) : Nat :=
  if k.l3type ≠ 1 then 3 else if k.l4.isSome then ip4Csum f.window (k.l3.getD 0) else 0

/-- Checksum results stored: a later pass's results replace the earlier ones and set INNER, unless an earlier pass
recorded a bad one (R242). -/
def Frame.setCsum (f : Frame) (l3 l4 : Nat) : Frame :=
  if f.srcPort = 16 then f
  else if f.pass = 0 then (f.mset 3 25 2 l3).mset 3 23 2 l4
  else if f.m 3 25 2 = 2 ∨ f.m 3 23 2 = 2 then f
  else ((f.mset 3 25 2 l3).mset 3 23 2 l4).msetBit 0 17 true

/-! ## Fragments (R244 to R246) -/

/-- The fragment entry of a datagram. -/
def Dev.fragEntry? (d : Dev) (key : List Byte) : Option (Nat × FragEntry) :=
  d.prs.frags.find? (fun e => decide (e.2.key = key))

/-- The bytes `[lo, hi)` are covered by the ranges, in as many extensions as there are ranges. -/
def covers (rs : List (Nat × Nat)) (hi : Nat) : Nat → Nat → Bool
  | 0, lo => decide (hi ≤ lo)
  | n + 1, lo =>
    if hi ≤ lo then true
    else
      let next := rs.foldl (fun a r => if r.1 ≤ lo ∧ a < r.2 then r.2 else a) lo
      if next = lo then false else covers rs hi n next

/-- A fragment taken under its entry: the entry retires when every byte to the datagram's end is covered. -/
def Dev.fragTake (d : Dev) (n : Nat) (e : FragEntry) (k : Headers) : Dev :=
  let e := { e with got := (k.fragOff, k.fragOff + k.fragLen) :: e.got,
                    last := if k.more then e.last else some (k.fragOff + k.fragLen) }
  let full := match e.last with
    | some hi => covers e.got hi (e.got.length + 1) 0
    | none => false
  { d with prs := { d.prs with
      frags := if full then Map.del d.prs.frags n else Map.put d.prs.frags n e } }

/-- A first fragment creates an entry of the 16-byte image at its L4; a full table creates none (R244, R245). -/
def Dev.fragFirst (d : Dev) (f : Frame) (k : Headers) : Dev :=
  match d.fragEntry? k.fragKey with
  | some (n, e) => d.fragTake n e k
  | none =>
    match Map.free? d.prs.frags 0 16384 with
    | none => (d.prsCount f 7).prsEvt f 5
    | some n =>
      let im := slice f.bytes (f.start + k.l4.getD 0) 16
      d.fragTake n ⟨k.fragKey, k.l4type, im ++ List.replicate (16 - im.length) 0, [], none, d.now⟩ k

end Sys2Proof.Machine
end

