-- ==== Sys2Proof/Machine/FwdOps.lean ====
section
/-! DEFINITION. Shared operations of Forwarding: the L2 and flow tables, results, the learning queue, the LPM memory
(R277 to R298). -/

namespace Sys2Proof.Machine

/-! ## The L2 and flow tables (R283 to R285) -/

/-- A hashed forwarding table. -/
inductive HTable where
  | l2 | flow
deriving DecidableEq, Repr

/-- Entries of a table: entry numbers, then overflow indices from `HTable.ovf` on. -/
def Dev.htMap (d : Dev) : HTable → Map (List Word)
  | .l2 => d.fwd.l2
  | .flow => d.fwd.flow

/-- Where the overflow store of a table begins among its keys. -/
def HTable.ovf : HTable → Nat
  | .l2 => 2 ^ 20
  | .flow => 2 ^ 26

/-- The entries replaced. -/
def Dev.setHt (d : Dev) (t : HTable) (m : Map (List Word)) : Dev :=
  match t with
  | .l2 => { d with fwd := { d.fwd with l2 := m } }
  | .flow => { d with fwd := { d.fwd with flow := m } }

/-- Entries of a table: 512 Ki, or FWD_FLOW_SIZE. -/
def Dev.htSize (d : Dev) : HTable → Nat
  | .l2 => 2 ^ 19
  | .flow => d.fld Reg.FWD_FLOW_SIZE 0 27

/-- The words of an L2 entry that hold its key, and those of a flow entry. -/
def htKeyWords (t : HTable) (ws : List Word) : List Word :=
  match t with
  | .l2 => [wordAt ws 0 &&& 0xFFF#32, wordAt ws 1, wordAt ws 2 &&& 0xFFFF#32]
  | .flow => (List.range 10).map (fun i => wordAt ws (i + 2))

/-- The key bytes the hash runs over (R278). -/
def htKeyBytes (t : HTable) (ws : List Word) : List Byte :=
  match t with
  | .l2 => (wordAt ws 1).bytes ++ (wordAt ws 2).bytes.take 2 ++
      [BitVec.ofNat 8 (Word.fld (wordAt ws 0) 0 8), BitVec.ofNat 8 (Word.fld (wordAt ws 0) 8 4)]
  | .flow => bytesOf (htKeyWords .flow ws)

/-- The slots of a key in order (R284). -/
def Dev.htSlots (d : Dev) (t : HTable) (ws : List Word) : List Nat :=
  let ls := match t with
    | .l2 => slotsOf (d.reg Reg.FWD_L2_SEED) 0x10 131072 (htKeyBytes t ws)
    | .flow => slotsOf (d.reg Reg.FWD_FLOW_SEED) 0x11 (d.htSize .flow / 4) (htKeyBytes t ws)
  ls.map Loc.index

/-- The words of a place, live or not. -/
def Dev.htRaw (d : Dev) (t : HTable) (i : Nat) : List Word := Map.getD (d.htMap t) i []

/-- The live entry of a place. -/
def Dev.htEntry (d : Dev) (t : HTable) (i : Nat) : Option (List Word) :=
  (Map.get? (d.htMap t) i).filter entryValid

/-- The place of a key, given in the key words of an entry: bucket A, bucket B, overflow store (R256). -/
def Dev.htFind (d : Dev) (t : HTable) (key : List Word) : Option Nat :=
  if d.htSize t = 0 then none
  else
    let kw := htKeyWords t key
    let here (i : Nat) : Bool := match d.htEntry t i with
      | some ws => decide (htKeyWords t ws = kw)
      | none => false
    (d.htSlots t key ++ (Map.keys (d.htMap t)).filter (fun i => decide (t.ovf ≤ i))).find? here

/-- The place an insertion takes: the first free slot, else the lowest free overflow entry (R257). -/
def Dev.htFree (d : Dev) (t : HTable) (key : List Word) : Option Nat :=
  if d.htSize t = 0 then none
  else match (d.htSlots t key).find? (fun i => (d.htEntry t i).isNone) with
  | some i => some i
  | none => Map.free? ((d.htMap t).filter (fun e => entryValid e.2)) t.ovf 65536

/-- The words of a result. -/
def resOf (t : HTable) (ws : List Word) : Word × Word :=
  match t with
  | .l2 => (wordAt ws 4, wordAt ws 5)
  | .flow => (wordAt ws 12, wordAt ws 13)

/-- The slice a live entry's result delivers to (R301). -/
def Dev.htSlice (d : Dev) (t : HTable) (ws : List Word) : Option Nat :=
  if entryValid ws then d.actionSlice (resOf t ws).1 (resOf t ws).2 else none

/-- An entry written whole: one edge for the three copies, one HBM write (R285); pool 6 follows. -/
def Dev.htPut (d : Dev) (t : HTable) (i : Nat) (ws : List Word) : Dev :=
  let d := d.moveUnit (d.htSlice t (d.htRaw t i)) (d.htSlice t ws)
  d.setHt t (Map.put (d.htMap t) i ws)

/-- VALID of an entry cleared. -/
def Dev.htClear (d : Dev) (t : HTable) (i : Nat) : Dev :=
  match Map.get? (d.htMap t) i with
  | some ws => d.htPut t i (invalid ws)
  | none => d

/-- HIT of an entry set or cleared. -/
def Dev.htHit (d : Dev) (t : HTable) (i : Nat) (b : Bool) : Dev :=
  match Map.get? (d.htMap t) i with
  | some ws => d.setHt t (Map.put (d.htMap t) i (ws.set 0 (Word.setBit (wordAt ws 0) 30 b)))
  | none => d

/-- A location as FWD_TADDR lays it out: `[31]` flow, `[30]` overflow, entry or index. -/
def HTable.loc (t : HTable) (i : Nat) : Word :=
  wd ((if t = .flow then 2 ^ 31 else 0) + (if t.ovf ≤ i then 2 ^ 30 + (i - t.ovf) else i))

/-- A location as the add commands answer it: `[31]` overflow. -/
def HTable.locReply (t : HTable) (i : Nat) : Word := wd (if t.ovf ≤ i then 2 ^ 31 + (i - t.ovf) else i)

/-! ## Results (R280) -/

/-- A result with a reserved KIND or a reserved bit set. -/
def resultBad (a b : Word) : Bool :=
  let only (n : Nat) : Bool := decide (Word.fld a 0 27 < 2 ^ n)
  match Word.fld a 28 4 with
  | 0 => !only 8 || decide (b ≠ 0) || decide (Word.fld a 0 8 ≠ 0 ∧ Word.fld a 0 8 < 0xC0)
  | 1 => !only 16 || decide (b ≠ 0)
  | 2 => !only 0 || Word.bit b 23
  | 3 => !only 11
  | 4 => !only 9 || decide (Word.fld b 16 16 ≠ 0)
  | 5 => !only 14 || decide (b ≠ 0)
  | _ => true

/-! ## Learning messages (R289 to R291) -/

/-- The source key of a learning message. -/
def learnKey (ws : List Word) : List Word := [wordAt ws 0 &&& 0xFFF#32, wordAt ws 1, wordAt ws 2 &&& 0xFFFF#32]

/-- A learning counter, in pipeline 0's window (R303). -/
def Dev.learnCount (d : Dev) (i : Nat) : Dev := d.count (Reg.FWD_COUNTS 0 i) 1

/-- A message joins the queue of 4,096; one for a source key already queued is not queued again; at a full queue it is
dropped (R289). -/
def Dev.learnQueue (d : Dev) (m : LearnMsg) : Dev :=
  if !m.foreign && d.fwd.learn.any (fun q => !q.foreign && decide (learnKey q.words = learnKey m.words)) then d
  else if 4096 ≤ d.fwd.learn.length then (d.learnCount 7).sqSet (Reg.FWD_EVT_STATUS 0) [4]
  else ({ d with fwd := { d.fwd with learn := d.fwd.learn ++ [m] } } : Dev).learnCount 6

/-- The words of a local learning message before its sequence and CRC: TYPE, this device, BD, MAC, the node of the port. -/
def Dev.learnWords (d : Dev) (kind port : Nat) (key : List Word) (node : Option Nat) : List Word :=
  [wd (kind * 2 ^ 28 + d.selfId * 2 ^ 16) ||| wordAt key 0, wordAt key 1, wordAt key 2, 0,
   (match node with
    | some n => wd (2 ^ 28 + n)
    | none => 0), 0, wd port, 0]

/-- A message with its sequence and CRC in place (R290). -/
def sealLearn (ws : List Word) (seq : Word) : List Word :=
  let ws := ws.set 3 seq
  ws.set 7 (wd (crc16 (bytesOf (ws.take 7))))

/-! ## The LPM memory (R292 to R298) -/

/-- The first index of the IPv6 partition. -/
def Dev.v6Base (d : Dev) : Nat := Nat.min 131072 (d.fld Reg.TCM_CTRL 16 8 * 1024)

/-- The thirteen words of an entry, zeros where nothing has been written. -/
def Dev.tcm (d : Dev) (i : Nat) : List Word := (Map.get? d.fwd.tcm i).getD (List.replicate 13 0)

/-- VALID and LENGTH of an entry's words. -/
def tcmValid (ws : List Word) : Bool := Word.bit (wordAt ws 12) 31
def tcmLen (ws : List Word) : Nat := Word.fld (wordAt ws 12) 0 8

/-- A 160-bit number held low word first. -/
def nat160 (ws : List Word) : Nat := (ws.take 5).foldr (fun w a => w.toNat + a * 2 ^ 32) 0

/-- The five words of a 160-bit number. -/
def words160 (n : Nat) : List Word := (List.range 5).map (fun i => wd (n / 2 ^ (32 * i)))

/-- Key and care mask of an entry. -/
def tcmKey (ws : List Word) : Nat := nat160 ws
def tcmCare (ws : List Word) : Nat := nat160 (ws.drop 5)

/-- One half matches a 160-bit key (R293). -/
def halfMatch (ws : List Word) (key : Nat) : Bool := decide ((tcmKey ws ^^^ key) &&& tcmCare ws = 0)

/-- Live indices of a partition, lowest first: of the IPv6 partition, the even ones. -/
def Dev.tcmLive (d : Dev) (v6 : Bool) : List Nat :=
  (d.fwd.tcm.filter (fun e => tcmValid e.2 && (decide (e.1 < d.v6Base) != v6) &&
    (!v6 || decide (e.1 % 2 = 0)))).map Prod.fst

/-- The entry a key selects: the lowest-numbered match; an IPv6 pair matches in both halves (R293). -/
def Dev.tcmFind (d : Dev) (v6 : Bool) (key : Nat) : Option Nat :=
  (d.tcmLive v6).find? (fun i =>
    if v6 then halfMatch (d.tcm i) (key / 2 ^ 160) && halfMatch (d.tcm (i + 1)) (key % 2 ^ 160)
    else halfMatch (d.tcm i) key)

/-- The key of a prefix or an address: VRF, FAMILY, address from the top (R295). -/
def lpmKey (v6 : Bool) (vrf addr : Nat) : Nat :=
  if v6 then vrf * 2 ^ 308 + 6 * 2 ^ 304 + addr * 2 ^ 176 else vrf * 2 ^ 148 + 4 * 2 ^ 144 + addr * 2 ^ 112

/-- The care mask of a prefix: VRF, FAMILY and the first `len` address bits (R295). -/
def lpmCare (v6 : Bool) (len : Nat) : Nat :=
  if v6 then (2 ^ (16 + len) - 1) * 2 ^ (304 - len) else (2 ^ (16 + len) - 1) * 2 ^ (144 - len)

/-- The entries of a prefix: one, or an even and an odd half (R292, R295). -/
def lpmEntries (v6 : Bool) (key care len : Nat) (a b : Word) : List (List Word) :=
  let top := wd (2 ^ 31 + len)
  if v6 then
    [words160 (key / 2 ^ 160) ++ words160 (care / 2 ^ 160) ++ [a, b, top],
     words160 key ++ words160 care ++ [0, 0, 0]]
  else [words160 key ++ words160 care ++ [a, b, top]]

/-- An entry stored; pool 6 follows its result. -/
def Dev.tcmPut (d : Dev) (i : Nat) (ws : List Word) : Dev :=
  let own (w : List Word) : Option Nat := if tcmValid w then d.actionSlice (wordAt w 10) (wordAt w 11) else none
  let d := d.moveUnit (own (d.tcm i)) (own ws)
  { d with fwd := { d.fwd with tcm := Map.putD d.fwd.tcm i (List.replicate 13 0) ws } }

/-- VALID of an entry cleared. -/
def Dev.tcmClear (d : Dev) (i : Nat) : Dev :=
  d.tcmPut i ((d.tcm i).set 12 (Word.setBit (wordAt (d.tcm i) 12) 31 false))

/-- A racking move: the whole entry or pair copied to the free index, then the old one cleared (R296). -/
def Dev.tcmMove (d : Dev) (v6 : Bool) (i j : Nat) : Dev :=
  let ws := d.tcm i
  let odd := d.tcm (i + 1)
  let d := if v6 then d.tcmPut (j + 1) odd else d
  let d := (d.tcmClear i).tcmPut j ws
  (List.range 3).foldl (fun d p => d.count (Reg.TCM_COUNTS p 0) 1) d

/-- Indices an entry of the partition may take: from, past, step. -/
def Dev.tcmRange (d : Dev) (v6 : Bool) : Nat × Nat × Nat :=
  if v6 then (d.v6Base, 131072, 2) else (0, d.v6Base, 1)

/-- The lowest free index from `lo` to before `hi`, in steps. -/
def freeFrom (live : List Nat) (step : Nat) : Nat → Nat → Option Nat
  | 0, _ => none
  | n + 1, lo => if live.contains lo then freeFrom live step n (lo + step) else some lo

/-- The places that keep the order for a LENGTH: past every longer prefix, before every shorter one (R293, R297). -/
def Dev.tcmPlace (d : Dev) (v6 : Bool) (len : Nat) : Nat × Nat :=
  let (lo, hi, step) := d.tcmRange v6
  let live := d.tcmLive v6
  ((live.filter (fun i => decide (len < tcmLen (d.tcm i)))).foldl (fun a i => Nat.max a (i + step)) lo,
   (live.filter (fun i => decide (tcmLen (d.tcm i) < len))).foldl Nat.min hi)

/-- Moves that free a place below a free index `hole`: the first entry of the run before the hole goes into the hole,
while that run is of shorter prefixes; the place freed at last (R297). -/
def Dev.rackUp (d : Dev) (v6 : Bool) (len : Nat) : Nat → Nat → Dev × Nat
  | 0, hole => (d, hole)
  | n + 1, hole =>
    let step := if v6 then 2 else 1
    let before := d.tcm (hole - step)
    if hole ≤ (d.tcmRange v6).1 ∨ len ≤ tcmLen before ∨ tcmValid before = false then (d, hole)
    else
      match (d.tcmLive v6).find? (fun i => decide (tcmLen (d.tcm i) = tcmLen before)) with
      | some i => (d.tcmMove v6 i hole).rackUp v6 len n i
      | none => (d, hole)

/-- The same from a free index below the place: the last entry of the run after the hole goes into it, while that run is
of longer prefixes. -/
def Dev.rackDown (d : Dev) (v6 : Bool) (len : Nat) : Nat → Nat → Dev × Nat
  | 0, hole => (d, hole)
  | n + 1, hole =>
    let step := if v6 then 2 else 1
    let after := d.tcm (hole + step)
    if (d.tcmRange v6).2.1 ≤ hole + step ∨ tcmLen after ≤ len ∨ tcmValid after = false then (d, hole)
    else
      match ((d.tcmLive v6).filter (fun i => decide (tcmLen (d.tcm i) = tcmLen after))).getLast? with
      | some i => (d.tcmMove v6 i hole).rackDown v6 len n i
      | none => (d, hole)

/-- A free place for a prefix, racking where none is free in its own; whether it racked (R297). -/
def Dev.lpmPlace (d : Dev) (v6 : Bool) (len : Nat) : Dev × Option Nat × Bool :=
  let (lo, hi, step) := d.tcmRange v6
  let live := d.tcmLive v6
  let (a, b) := d.tcmPlace v6 len
  match freeFrom live step ((b - a) / step) a with
  | some i => (d, some i, false)
  | none =>
    match freeFrom live step ((hi - b) / step) b with
    | some h =>
      let (d, i) := d.rackUp v6 len 130 h
      (d, some i, true)
    | none =>
      match ((List.range ((a - lo) / step)).map (fun k => a - step * (k + 1))).find? (fun i => !live.contains i) with
      | some h =>
        let (d, i) := d.rackDown v6 len 130 h
        (d, some i, true)
      | none => (d, none, false)

/-- TCM_STATUS and TCM_FREE6 (R304). -/
def Dev.showTcm (d : Dev) : Dev :=
  (d.setFld Reg.TCM_STATUS 0 17 (d.v6Base - (d.tcmLive false).length)).setFld Reg.TCM_FREE6 0 16
    ((131072 - d.v6Base) / 2 - (d.tcmLive true).length)

/-- A learned entry swept out of the L2 table where a test of its words holds (R456, R469). -/
def Dev.sweepL2 (d : Dev) (p : List Word → Bool) : Dev :=
  d.fwd.l2.foldl (fun d e => if entryValid e.2 && p e.2 then d.htClear .l2 e.1 else d) d

/-- The entries of a destroyed slice swept from the three tables (R183). -/
def Dev.sweepFwd (d : Dev) (s inc : Nat) : Dev :=
  let mine (a b : Word) : Bool := decide (Word.fld a 28 4 = 2 ∧ Word.fld b 0 13 = s ∧ Word.fld b 24 8 = inc)
  let sweep (t : HTable) (m : Map (List Word)) : Map (List Word) :=
    Map.mapVals m (fun _ ws => if mine (resOf t ws).1 (resOf t ws).2 then invalid ws else ws)
  let dead (ws : List Word) : List Word :=
    if mine (wordAt ws 10) (wordAt ws 11) then ws.set 12 (Word.setBit (wordAt ws 12) 31 false) else ws
  { d with fwd := { d.fwd with l2 := sweep .l2 d.fwd.l2, flow := sweep .flow d.fwd.flow,
                               tcm := Map.mapVals d.fwd.tcm (fun _ ws => dead ws) } }

end Sys2Proof.Machine
end

