-- ==== Sys2Proof/Machine/CryOps.lean ====
section
/-! DEFINITION. Shared operations of the cipher stage: next-hop edits, key slots and SAs, engines and messages, MACsec and
ESP (R282, R336 to R357). -/

namespace Sys2Proof.Machine

/-! ## The next-hop edit (R282) -/

/-- The IPv4 header checksum adjusted for a 16-bit word of the header that changed. -/
def csumAdjust (hc old new : Nat) : Nat := 0xFFFF - fold16 ((0xFFFF - hc) + (0xFFFF - old) + new)

/-- TTL or hop limit one less, the IPv4 checksum with it. -/
def Frame.decTtl (f : Frame) : Frame :=
  let o := f.start + f.m 2 8 8
  if f.m 2 8 8 = 0xFF then f
  else if f.m 3 30 2 = 1 then
    let w := beAt f.bytes (o + 8) 2
    let b := patch f.bytes (o + 8) [BitVec.ofNat 8 (byteAt f.bytes (o + 8) - 1)]
    { f with bytes := patch b (o + 10) (beBytes 2 (csumAdjust (beAt f.bytes (o + 10) 2) w (w - 256))) }
  else { f with bytes := patch f.bytes (o + 7) [BitVec.ofNat 8 (byteAt f.bytes (o + 7) - 1)] }

/-- VLAN_TCI written into the first tag, or a tag with TPID0 inserted. -/
def Dev.setVlan (d : Dev) (f : Frame) (tci : Nat) : Frame :=
  let b := f.bytes
  let tpids := [d.fld Reg.PRS_TPID 0 16, d.fld Reg.PRS_TPID 16 16, d.fld Reg.PRS_TPID2 0 16]
  if tpids.contains (beAt b 12 2) then { f with bytes := patch b 14 (beBytes 2 tci) }
  else { f with bytes := b.take 12 ++ beBytes 2 (d.fld Reg.PRS_TPID 0 16) ++ beBytes 2 tci ++ b.drop 12 }

/-- The edits of the frame's next hop, made once. -/
def Dev.editFrame (d : Dev) (f : Frame) : Frame :=
  match f.edit with
  | none => f
  | some n =>
    let w (i : Nat) : Word := d.reg (Reg.FWD_NHn n i)
    let f := if Word.bit (w 0) 30 then f.decTtl else f
    let dmac := (w 1).bytes ++ [BitVec.ofNat 8 (Word.fld (w 0) 0 8), BitVec.ofNat 8 (Word.fld (w 0) 8 8)]
    let smac := d.macOf (Reg.FWD_SMACi (Word.fld (w 0) 16 8) 0)
    let f := { f with bytes := dmac ++ smac ++ f.bytes.drop 12, edit := none }
    if Word.bit (w 0) 29 then d.setVlan f (Word.fld (w 2) 0 16) else f

/-! ## Slots and SAs (R342, R345, R353) -/

/-- A key slot in use. -/
def Dev.slot? (d : Dev) (i : Nat) : Option KeySlot := Map.get? d.cry.slots i

/-- CRY_SLOTs and CRY_SLOT_PNs of a slot. -/
def Dev.showSlot (d : Dev) (i : Nat) : Dev :=
  let busy := d.cry.msgs.any (fun m => match m.2.captured with
    | .slot j _ => decide (j = i)
    | _ => false)
  let faulted := d.bit (Reg.CRY_SLOTs i) 25
  let b (c : Bool) (n : Nat) : Nat := if c then 2 ^ n else 0
  match d.slot? i with
  | some k => (d.setN (Reg.CRY_SLOTs i) (k.purpose * 2 ^ 28 + b k.persist 27 + b k.key256 26 + b busy 24)).set64
      (Reg.CRY_SLOT_PNs i 0) k.pn
  | none => (d.setN (Reg.CRY_SLOTs i) (b faulted 25 + b busy 24)).set64 (Reg.CRY_SLOT_PNs i 0) 0

/-- A slot loaded or changed. -/
def Dev.setSlot (d : Dev) (i : Nat) (k : KeySlot) : Dev :=
  ({ d with cry := { d.cry with slots := Map.put d.cry.slots i k } } : Dev).showSlot i

/-- A slot zeroised: it reads as empty. -/
def Dev.zeroSlot (d : Dev) (i : Nat) : Dev :=
  ({ d with cry := { d.cry with slots := Map.del d.cry.slots i } } : Dev).showSlot i

/-- An SA that is not FREE. -/
def Dev.sa? (d : Dev) (i : Nat) : Option SecAssoc := Map.get? d.cry.sas i

/-- An SA changed. -/
def Dev.setSa (d : Dev) (i : Nat) (f : SecAssoc → SecAssoc) : Dev :=
  match d.sa? i with
  | some a => { d with cry := { d.cry with sas := Map.put d.cry.sas i (f a) } }
  | none => d

/-- Fields of the SA format (R346). -/
def SecAssoc.suite (a : SecAssoc) : Nat := Word.fld (wordAt a.words 0) 20 4
def SecAssoc.outbound (a : SecAssoc) : Bool := Word.bit (wordAt a.words 0) 19
def SecAssoc.esn (a : SecAssoc) : Bool := Word.bit (wordAt a.words 0) 18
def SecAssoc.key256 (a : SecAssoc) : Bool := Word.bit (wordAt a.words 0) 17
def SecAssoc.spi (a : SecAssoc) : Word := wordAt a.words 3
def SecAssoc.softLimit (a : SecAssoc) : Nat := cat64 (wordAt a.words 8) (wordAt a.words 9)
def SecAssoc.hardLimit (a : SecAssoc) : Nat := cat64 (wordAt a.words 10) (wordAt a.words 11)

/-- The key bytes of an SA: one key, or under XTS the two. -/
def SecAssoc.key (a : SecAssoc) : List Byte :=
  let n := if a.key256 then 8 else 4
  bytesOf ((a.words.drop 16).take (if a.suite = 4 then 2 * n else n))

/-- The key words zeroised. -/
def SecAssoc.zeroised (a : SecAssoc) : SecAssoc := { a with words := a.words.take 16 ++ List.replicate 16 0 }

/-- A tenant SA that is LIVE and held by a slice. -/
def Dev.saLive (d : Dev) (i : Nat) : Option SecAssoc := (d.sa? i).filter (fun a => decide (a.state = 1))

/-- Some message holds a captured copy of a slot or SA. -/
def Dev.copyHeld (d : Dev) (isSa : Bool) (i : Nat) : Bool :=
  d.cry.msgs.any (fun m => match m.2.captured with
    | .slot j _ => !isSa && decide (j = i)
    | .sa j _ => isSa && decide (j = i)
    | .none => false)

/-- An entry of the expiry ring with its event and vectors (R353). -/
def Dev.expire (d : Dev) (slot : Bool) (i : Nat) (hard : Bool) (owner : Option (Nat × Nat)) : Dev :=
  let n := d.regN Reg.CRY_EXPIRY_SEQ
  let w0 := wd ((if hard then 2 ^ 31 else 0) + (if slot then 2 ^ 30 else 0) + i)
  let w1 := match owner with
    | some (s, inc) => wd (inc * 2 ^ 24 + s)
    | none => 0
  let d := (d.setRegs (Reg.CRY_EXPIRY (n % 256) 0) [w0, w1]).setN Reg.CRY_EXPIRY_SEQ (n + 1)
  let d := d.sqSet Reg.CRY_EVT_STATUS [if hard then 2 else 1]
  match owner with
  | some (s, _) => d.notifyFn (Reg.CRY_NOTIFY_VECTORf 0) (d.home s)
  | none => d.notifyAll (Reg.CRY_NOTIFY_VECTORf 0)

/-- Sequence numbers of an SA's space, and of a SAK's: 64-bit under ESN, and for a SAK with a salt or an SSCI, which is an
XPN suite's. -/
def SecAssoc.space (a : SecAssoc) : Nat := if a.esn then 2 ^ 64 else 2 ^ 32
def KeySlot.space (k : KeySlot) : Nat := if k.ssci = 0 ∧ k.salt.all (fun w => decide (w = 0)) = true then 2 ^ 32 else 2 ^ 64

/-- A counter of CRY_COUNTS, of a SecY. -/
def Dev.cryCount (d : Dev) (i : Nat) : Dev := d.count (Reg.CRY_COUNTS i) 1
def Dev.secyCount (d : Dev) (y i : Nat) : Dev := d.count (Reg.CRY_SECYy_COUNTS y i) 1

/-! ## Which frames the cipher stage must do (R338, R349, R351) -/

/-- The port a node is attached to. -/
def Dev.nodePort (d : Dev) (n : Nat) : Option Nat :=
  if d.bit (Reg.SCH_NCFG3 n) 31 then some (d.fld (Reg.SCH_NCFG3 n) 25 5) else none

/-- A SecY that protects. -/
def Dev.protects (d : Dev) (y : Nat) : Bool := d.bit (Reg.CRY_SECYy_CTRL y) 30

/-- The SecY that is to protect a frame on its way to a port, if any. -/
def Dev.frameSecy (d : Dev) (f : Frame) : Option Nat :=
  let y := match f.place with
    | .toNode n => (d.nodePort n).filter (fun p => decide (p < 16))
    | .trlPort t => some (16 + t)
    | _ => none
  if f.secured then none
  else y.filter (fun y => d.protects y && decide ((d.walk f 0).etf ≠ 0x888E))

/-- The frame waits for the cipher before it can be queued. -/
def Dev.needsCipher (d : Dev) (f : Frame) : Bool :=
  (f.esp.isSome && (match f.place with
    | .toNode _ => true
    | _ => false)) || (d.frameSecy f).isSome

/-! ## Engines and messages (R336, R339, R341) -/

/-- An engine is in service. -/
def Dev.engineOn (d : Dev) (e : Nat) : Bool := d.bit Reg.CRY_ENGINES e

/-- The message in an engine, and those in its context slots. -/
def Dev.inEngine (d : Dev) (e : Nat) : Option Nat := Map.findKey? d.cry.msgs (fun _ m => decide (m.place = .engine e))
def Dev.heldIn (d : Dev) (e : Nat) : List Nat := Map.keys (Map.sift d.cry.msgs (fun _ m => decide (m.place = .held e)))

/-- A message changed. -/
def Dev.setMsg (d : Dev) (i : Nat) (f : CMsg → CMsg) : Dev :=
  match Map.get? d.cry.msgs i with
  | some m => { d with cry := { d.cry with msgs := Map.put d.cry.msgs i (f m) } }
  | none => d

/-- A message refused at the cipher-batch point waits there. -/
def Dev.msgRefused (d : Dev) (i : Nat) : Bool := (d.waitingUnit .cipher i).isSome

/-- What an engine that is free takes next: of the highest level waiting, a message of its context slots first, then a new
one, oldest first (R339). -/
def Dev.nextFor (d : Dev) (e : Nat) : Option Nat :=
  let cand := Map.sift d.cry.msgs (fun i m =>
    (decide (m.place = .held e) || (decide (m.place = .waiting) && d.engineOn e)) && !d.msgRefused i)
  let top := cand.foldl (fun a m => Nat.min a m.2.level) 4
  let best := Map.sift cand (fun _ m => decide (m.level = top))
  match Map.findKey? best (fun _ m => decide (m.place = .held e)) with
  | some i => some i
  | none => Map.findKey? best (fun _ _ => true)

/-- A free engine takes its next work. -/
def Dev.engineTake (d : Dev) (e : Nat) : Dev :=
  if (d.inEngine e).isNone then
    match d.nextFor e with
    | some i => d.setMsg i (fun m => { m with place := .engine e })
    | none => d
  else d

/-- The engine a U0 message suspends: the lowest level below U0, the most blocks left, a free context slot (R339). -/
def Dev.victim (d : Dev) : Option (Nat × Nat) :=
  let run := (List.range 12).filterMap (fun e => match d.inEngine e with
    | some i => (match Map.get? d.cry.msgs i with
      | some m => if 0 < m.level ∧ (d.heldIn e).length < 4 ∧ d.engineOn e = true then some (e, i, m.level, m.blocks - m.issued) else none
      | none => none)
    | none => none)
  let low := run.foldl (fun a r => Nat.max a r.2.2.1) 0
  let most := (run.filter (fun r => decide (r.2.2.1 = low))).foldl (fun a r => Nat.max a r.2.2.2) 0
  (run.find? (fun r => decide (r.2.2.1 = low ∧ r.2.2.2 = most))).map (fun r => (r.1, r.2.1))

/-- A message reaches the cipher stage: a free engine takes work, or a U0 message suspends one (R339). -/
def Dev.cipherArrive (d : Dev) (w : CWork) (level source blocks : Nat) (owner : Option Nat) : Dev :=
  let i := d.cry.nextMsg
  let d := { d with cry := { d.cry with
    nextMsg := i + 1
    msgs := Map.put d.cry.msgs i ⟨w, level, source, Nat.max 1 blocks, 0, .waiting, .none, owner, 0⟩ } }
  match (List.range 12).find? (fun e => d.engineOn e && (d.inEngine e).isNone) with
  | some e => d.engineTake e
  | none =>
    if level = 0 then
      match d.victim with
      | some (e, v) => ((d.setMsg v (fun m => { m with place := .held e })).cryCount 0).setMsg i (fun m => { m with place := .engine e })
      | none => d
    else d

/-! ## Keys for MACsec (R349, R350) -/

/-- The slot of AN `a` in a slot register. -/
def slotOfAn (w : Word) (a : Nat) : Nat := Word.fld w (8 * a) 8

/-- SUITE of a SecY: a 256-bit key, and an XPN suite. -/
def Dev.secy256 (d : Dev) (y : Nat) : Bool := d.bit (Reg.CRY_SECYy_CTRL y) 26
def Dev.secyXpn (d : Dev) (y : Nat) : Bool := d.bit (Reg.CRY_SECYy_CTRL y) 27

/-- A slot that serves a SecY: a SAK of the SUITE's key length. -/
def Dev.sakOf (d : Dev) (y s : Nat) : Option KeySlot :=
  if s = 0 then none else (d.slot? s).filter (fun k => decide (k.purpose = 1) && (k.key256 == d.secy256 y))

/-- An SCI register pair as eight bytes, most significant first. -/
def Dev.sciBytes (d : Dev) (lo hi : Nat) : List Byte := beBytes 4 (d.regN hi) ++ beBytes 4 (d.regN lo)

/-- The SecTAG of a received frame, which lies after the source address: TCI and AN byte, PN, SCI if it carries one, tag
length. -/
structure SecTag where
  tci : Nat
  pn : Nat
  sci : Option (List Byte)
  len : Nat

/-- A SecTAG parsed. -/
def secTag (bs : List Byte) : SecTag :=
  let tci := byteAt bs 14
  if tci.testBit 5 then ⟨tci, beAt bs 16 4, some (slice bs 20 8), 16⟩ else ⟨tci, beAt bs 16 4, none, 8⟩

/-- The receive SC of a SecTAG (R350): the one whose SCI matches, receive SC 0 when there is none. -/
def Dev.rxSc (d : Dev) (y : Nat) (t : SecTag) : Option Nat :=
  match t.sci with
  | none => some 0
  | some s => (List.range 4).find? (fun r =>
      decide (d.sciBytes (Reg.CRY_SECYy_RXSCI y (2 * r)) (Reg.CRY_SECYy_RXSCI y (2 * r + 1)) = s))

/-- The SCI of a receive SC. -/
def Dev.rxSci (d : Dev) (y r : Nat) : List Byte :=
  d.sciBytes (Reg.CRY_SECYy_RXSCI y (2 * r)) (Reg.CRY_SECYy_RXSCI y (2 * r + 1))

/-- The 96-bit nonce: SCI and PN; under XPN the salt XORed with SSCI and the 64-bit PN. -/
def macsecNonce (k : KeySlot) (xpn : Bool) (sci : List Byte) (pn : Nat) : List Byte :=
  if xpn then
    let salt := beBytes 12 (k.salt.foldl (fun a w => a * 2 ^ 32 + w.toNat) 0)
    (List.zip salt (beBytes 4 k.ssci.toNat ++ beBytes 8 pn)).map (fun p => p.1 ^^^ p.2)
  else sci ++ beBytes 4 pn

/-- The whole PN of a received 32-bit one under XPN: the high half that puts it nearest past the lowest accepted. -/
def wholePn (xpn : Bool) (lowest pn : Nat) : Nat :=
  if xpn then
    let hi := lowest / 2 ^ 32
    if pn + 2 ^ 31 ≤ lowest % 2 ^ 32 then (hi + 1) * 2 ^ 32 + pn else hi * 2 ^ 32 + pn
  else pn

/-- Blocks of a message: additional data and data, each rounded up (R336). -/
def blocksOf (aad data : Nat) : Nat := ceilDiv aad 16 + ceilDiv data 16

/-- The HSR tag of a frame, which lies outside its SecTAG, and the frame without it (R412, R422). -/
def hsrSplit (bs : List Byte) : List Byte × List Byte :=
  if beAt bs 12 2 = 0x892F then (slice bs 12 6, bs.take 12 ++ bs.drop 18) else ([], bs)

/-- A received frame that carries a SecTAG, or a frame passed on without one (R350): what is to be done on arrival. `none`
where it goes straight on. -/
def Dev.secyReceive (d : Dev) (y : Nat) (bs : List Byte) : Option Bool :=
  if !d.bit (Reg.CRY_SECYy_CTRL y) 31 then none else some (decide (beAt (hsrSplit bs).2 12 2 = 0x88E5))

end Sys2Proof.Machine
end

