-- ==== Sys2Proof/Machine/PbuOps.lean ====
section
/-! DEFINITION. Shared operations of the process bus: ports and pairs, duplicate discard, BER, samples, aligner groups,
GOOSE frames (R395, R410, R419 to R443). -/

namespace Sys2Proof.Machine

/-! ## Ports and pairs (R395, R410) -/

/-- MODE of a port group. -/
def Dev.pgMode (d : Dev) (g : Nat) : Nat := d.fld (Reg.MAC_PGg_MODE g) 29 3

/-- Lanes of a port under a mode. -/
def modeLanes : Nat → Nat
  | 4 => 2
  | 5 => 2
  | 6 => 4
  | 7 => 8
  | _ => 1

/-- Gb/s of a port under a mode. -/
def modeRate : Nat → Nat
  | 0 => 10
  | 1 => 25
  | 2 => 50
  | 3 => 100
  | 4 => 100
  | 5 => 200
  | 6 => 400
  | _ => 800

/-- FEC codes a mode allows: 0 none, 1 RS(528,514), 2 RS(544,514). -/
def fecOk (mode fec : Nat) : Bool :=
  match mode with
  | 0 => decide (fec = 0)
  | 1 => decide (fec ≤ 1)
  | _ => decide (fec = 2)

/-- A network port's first lane lies where the mode puts one. -/
def modeHas (mode p : Nat) : Bool := decide (p % 8 % modeLanes mode = 0)

/-- A port is present: ports 16 and 17 always. -/
def Dev.portPresent (d : Dev) (p : Nat) : Bool := if p < 16 then modeHas (d.pgMode (p / 8)) p else decide (p < 18)

/-- The pair a port belongs to: its number, mode (1 PRP, 2 HSR), port A, port B. -/
def Dev.pairAt (d : Dev) (p : Nat) : Option (Nat × Nat × Nat × Nat) :=
  (List.range 8).findSome? (fun k =>
    let w := d.reg (Reg.MAC_PAIRk k)
    let mode := Word.fld w 30 2
    let a := Word.fld w 0 4
    let b := Word.fld w 8 4
    if (mode = 1 ∨ mode = 2) ∧ (p = a ∨ p = b) then some (k, mode, a, b) else none)

/-- Port A of a pair for its port B, else the port itself: the gates, EXPRESS and nodes of a pair are port A's (R412). -/
def Dev.portA (d : Dev) (p : Nat) : Nat :=
  match d.pairAt p with
  | some (_, _, a, _) => a
  | none => p

/-- LINK of a port. -/
def Dev.macLink (d : Dev) (p : Nat) : Nat := d.fld (Reg.MAC_PORTp_STATUS p) 29 3

/-- An event of the MAC with its port. -/
def Dev.macEvt (d : Dev) (p bit : Nat) : Dev := (d.sqSet Reg.MAC_EVT_STATUS [bit]).setN Reg.MAC_EVT_PORT p

/-- A port counter increased: 48 bits, wrapping; a change of bit 47 sets HALF (R414, R415). -/
def Dev.portCount (d : Dev) (p i n : Nat) : Dev :=
  let k := Reg.MAC_PORTp_CNT p (2 * i)
  let old := d.reg64 k
  let new := (old + n) % 2 ^ 48
  let d := d.set64 k new
  if old / 2 ^ 47 = new / 2 ^ 47 then d
  else ((d.sqSet (Reg.MAC_PORTp_HALF p) [i]).macEvt p 4).notifyAll (Reg.MAC_NOTIFY_VECTORf 0)

/-! ## Counters, events and entries -/

/-- A counter of PBU_COUNTS, an event with its index. -/
def Dev.pbuCount (d : Dev) (i : Nat) : Dev := d.count (Reg.PBU_COUNTS i) 1
def Dev.pbuEvt (d : Dev) (bit index : Nat) : Dev := (d.sqSet Reg.PBU_EVT_STATUS [bit]).setN Reg.PBU_EVT_INDEX index

/-- Bytes held in entry words from a register on. -/
def Dev.entBytes (d : Dev) (k n : Nat) : List Byte := (bytesOf (d.regs k (ceilDiv n 4))).take n

/-- A stream entry is VALID; its key: destination, APPID, svID. -/
def Dev.svValid (d : Dev) (i : Nat) : Bool := d.bit (Reg.PBU_SV i 0) 31
def Dev.svKey (d : Dev) (i : Nat) : List Byte × Nat × List Byte :=
  (d.entBytes (Reg.PBU_SV i 1) 6, d.fld (Reg.PBU_SV i 0) 0 16, d.entBytes (Reg.PBU_SV i 8) (d.fld (Reg.PBU_SV i 6) 0 8))
def Dev.svAsdu (d : Dev) (i : Nat) : Nat := d.fld (Reg.PBU_SV i 0) 27 3 + 1
def Dev.svChannels (d : Dev) (i : Nat) : Nat := d.fld (Reg.PBU_SV i 0) 22 5 + 1
def Dev.svRate (d : Dev) (i : Nat) : Nat := d.fld (Reg.PBU_SV i 3) 0 14

/-- Owning slice and incarnation of a stream. -/
def Dev.svSlice (d : Dev) (i : Nat) : Option (Nat × Nat) :=
  let w := d.reg (Reg.PBU_SV i 5)
  if Word.bit w 23 then some (Word.fld w 0 13, Word.fld w 24 8) else none

/-- A subscription is live; its key: destination, APPID, gocbRef. -/
def Dev.subValid (d : Dev) (i : Nat) : Bool := d.bit (Reg.PBU_SUB i 0) 31
def Dev.subKey (d : Dev) (i : Nat) : List Byte × Nat × List Byte :=
  (d.entBytes (Reg.PBU_SUB i 1) 6, d.fld (Reg.PBU_SUB i 0) 0 16, d.entBytes (Reg.PBU_SUB i 10) (d.fld (Reg.PBU_SUB i 9) 0 8))

/-- Entries of a table in force that pass a test: those listed in the register file. -/
def Dev.liveEnts (d : Dev) (base size n : Nat) (p : Nat → Bool) : List Nat :=
  (d.rf.act.filterMap (fun e => if base ≤ e.1 ∧ e.1 < base + n * size ∧ (e.1 - base) % size = 0
    then some ((e.1 - base) / size) else none)).filter p

/-- The live streams, groups, subscriptions, publications. -/
def Dev.svLive (d : Dev) : List Nat := d.liveEnts (Reg.PBU_SV 0 0) 0x100 1024 d.svValid
def Dev.grpValid (d : Dev) (g : Nat) : Bool := d.bit (Reg.PBU_GRP g 0) 31
def Dev.grpLive (d : Dev) : List Nat := d.liveEnts (Reg.PBU_GRP 0 0) 0x100 256 d.grpValid
def Dev.subLive (d : Dev) : List Nat := d.liveEnts (Reg.PBU_SUB 0 0) 0x100 4096 d.subValid

/-! ## Duplicate discard (R420, R421) -/

/-- The signed 16-bit difference of sequence numbers. -/
def seqDiff (a b : Nat) : Int := (BitVec.ofNat 16 (a + 65536 - b % 65536)).toInt

/-- A frame's source and number judged at the discard stage of its pair: accepted or not. -/
def Dev.dupJudge (d : Dev) (pair : Nat) (mac : List Byte) (seq : Nat) : Bool × Dev :=
  let put (d : Dev) (n : DupNode) : Dev :=
    { d with pbu := { d.pbu with nodes := d.pbu.nodes.map (fun m => if m.pair = pair ∧ m.mac = mac then n else m) } }
  match d.pbu.nodes.find? (fun n => decide (n.pair = pair ∧ n.mac = mac)) with
  | none =>
    if 16384 ≤ d.pbu.nodes.length then (true, (d.pbuCount 7).pbuEvt 5 0)
    else (true, { d with pbu := { d.pbu with nodes := d.pbu.nodes ++ [⟨pair, mac, seq, 1, d.now⟩] } })
  | some n =>
    let x := seqDiff seq n.high
    if 0 < x then (true, put d { n with high := seq, seen := (n.seen * 2 ^ x.toNat + 1) % 2 ^ 64, at_ := d.now })
    else if -63 ≤ x then
      if n.seen.testBit (-x).toNat then (false, d.pbuCount 4)
      else (true, put d { n with seen := n.seen + 2 ^ (-x).toNat, at_ := d.now })
    else (true, (put d { n with high := seq, seen := 1, at_ := d.now }).pbuCount 5)

/-! ## BER -/

/-- One tag, its value and the rest; `none` where the encoding is broken. -/
def tlv (bs : List Byte) : Option (Nat × List Byte × List Byte) :=
  let l := byteAt bs 1
  let h := if l < 128 then 2 else 2 + (l - 128)
  let n := if l < 128 then l else beAt bs 2 (l - 128)
  if bs.length < 2 ∨ (128 ≤ l ∧ (l = 128 ∨ 132 < l)) ∨ bs.length < h + n then none
  else some (byteAt bs 0, slice bs h n, bs.drop (h + n))

/-- Every element of a constructed value; the number bounds them. -/
def tlvs : Nat → List Byte → Option (List (Nat × List Byte))
  | 0, _ => none
  | n + 1, bs =>
    if bs.isEmpty then some []
    else match tlv bs with
      | some (t, v, r) => (tlvs n r).map (fun l => (t, v) :: l)
      | none => none

/-- The elements of a constructed value. -/
def elems (bs : List Byte) : Option (List (Nat × List Byte)) := tlvs (bs.length + 1) bs

/-- The value of the first element with a tag. -/
def el (l : List (Nat × List Byte)) (t : Nat) : Option (List Byte) := (l.find? (fun e => decide (e.1 = t))).map Prod.snd

/-- A length in the shortest definite form, and an element. -/
def berLen (n : Nat) : List Byte :=
  if n < 128 then [BitVec.ofNat 8 n] else if n < 256 then [0x81, BitVec.ofNat 8 n] else 0x82 :: beBytes 2 n
def berEl (t : Nat) (v : List Byte) : List Byte := BitVec.ofNat 8 t :: (berLen v.length ++ v)

/-- An unsigned number as a BER integer: as few bytes as keep the sign bit 0. -/
def berNat (v : Nat) : List Byte :=
  if v < 2 ^ 7 then beBytes 1 v else if v < 2 ^ 15 then beBytes 2 v else if v < 2 ^ 23 then beBytes 3 v
  else if v < 2 ^ 31 then beBytes 4 v else beBytes 5 v

/-! ## Frames (R419, R424, R434) -/

/-- Offset of APPID: after ETF, with up to two tags and an HSR tag before it. -/
def Dev.pbuStart (d : Dev) (f : Frame) : Nat :=
  let k := d.walk f 0
  14 + 4 * k.vlans + (if k.hsr then 6 else 0)

/-- APPID and the PDU; `none` where Length claims more bytes than the frame holds. -/
def Dev.pbuPdu (d : Dev) (f : Frame) : Option (Nat × List Byte) :=
  let o := d.pbuStart f
  let len := beAt f.bytes (o + 2) 2
  if f.len < o + len ∨ len < 8 then none else some (beAt f.bytes o 2, slice f.bytes (o + 8) (len - 8))

/-- One ASDU: svID, smpCnt, confRev, smpSynch, seqData. -/
structure Asdu where
  svid : List Byte
  cnt : Nat
  rev : Nat
  synch : Nat
  data : List Byte

/-- An ASDU decoded (R424). -/
def asduOf (bs : List Byte) : Option Asdu := do
  let l ← elems bs
  let i ← el l 0x80
  let c ← el l 0x82
  let r ← el l 0x83
  let s ← el l 0x85
  let q ← el l 0x87
  pure ⟨i, beNat c, beNat r, beNat s, q⟩

/-- The savPdu: noASDU and the ASDUs. -/
def savPdu (bs : List Byte) : Option (Nat × List Asdu) := do
  let (t, v, _) ← tlv bs
  if t = 0x60 then
    let l ← elems v
    let n ← el l 0x80
    let s ← el l 0xA2
    let as ← elems s
    let ds ← as.mapM (fun a => if a.1 = 0x30 then asduOf a.2 else none)
    pure (beNat n, ds)
  else none

/-- A goosePdu: gocbRef, timeAllowedtoLive in ms, stNum, sqNum, simulation, confRev, the elements of allData. -/
structure Goose where
  ref : List Byte
  live : Nat
  st : Nat
  sq : Nat
  sim : Bool
  rev : Nat
  data : List (Nat × List Byte)

/-- A goosePdu decoded (R434). -/
def goosePdu (bs : List Byte) : Option Goose := do
  let (t, v, _) ← tlv bs
  if t = 0x61 then
    let l ← elems v
    let ref ← el l 0x80
    let live ← el l 0x81
    let st ← el l 0x85
    let sq ← el l 0x86
    let rev ← el l 0x88
    let data ← el l 0xAB
    let ds ← elems data
    pure ⟨ref, beNat live, beNat st, beNat sq, decide (beNat ((el l 0x87).getD []) ≠ 0), beNat rev, ds⟩
  else none

/-- A frame sent to PBU_SLOW_TARGET with its CAUSE (R440). -/
def Dev.slowPath (d : Dev) (id : Nat) (f : Frame) (cause : Nat) : Dev :=
  d.sendChannel id f (d.fld Reg.PBU_SLOW_TARGET 8 3) (d.fld Reg.PBU_SLOW_TARGET 0 8) 4 (wd cause)

/-! ## Samples (R425, R426) -/

/-- The row store of a stream. -/
def Dev.rows (d : Dev) (i : Nat) : List Sample := Map.getD d.pbu.rows i []

/-- The key of a sample as one number, in time order. -/
def Sample.key (s : Sample) : Nat := s.second * 65536 + s.cnt

/-- A row put in its place, latest first; 32 are kept. -/
def putRow (s : Sample) : List Sample → List Sample
  | [] => [s]
  | r :: rs => if r.key < s.key then s :: r :: rs else r :: putRow s rs

/-- The stream's row with a key. -/
def Dev.rowOf (d : Dev) (i second cnt : Nat) : Option Sample :=
  (d.rows i).find? (fun r => decide (r.second = second ∧ r.cnt = cnt))

/-- The instant of a sample in nanoseconds. -/
def sampleTime (rate second cnt : Nat) : Nat := second * 1000000000 + cnt * 1000000000 / rate

/-- The second of a sample: the latest instant N + smpCnt / RATE not later than the receive time plus 10 µs. -/
def sampleSecond (rate cnt rx : Nat) : Nat := ((rx + 10000) * rate - cnt * 1000000000) / (rate * 1000000000)

/-- References fed by a stream. -/
def Dev.svRefs (d : Dev) (i : Nat) : List Nat :=
  (List.range 4).filter (fun n => decide (d.refState n ≠ 0 ∧ d.fld (Reg.GAU_REFn_CTRL n) 26 2 = 2 ∧
    d.fld (Reg.GAU_REFn_CTRL n) 14 10 = i))

/-- A sample handed to a reference: a positive-going zero crossing is interpolated between the last negative and the
first non-negative sample; an invalid sample spoils the crossing it would have formed (R33, R426). -/
def Dev.svToRef (d : Dev) (n time : Nat) (v : Int) (ok : Bool) : Dev :=
  let g (d : Dev) (f : Gau → Gau) : Dev := { d with gau := f d.gau }
  if !ok then g d (fun x => { x with svBad := n :: x.svBad.filter (· ≠ n) })
  else if v < 0 then g d (fun x => { x with svLast := Map.put x.svLast n (time, v), svBad := x.svBad.filter (· ≠ n) })
  else
    let d' := g d (fun x => { x with svLast := Map.del x.svLast n, svBad := x.svBad.filter (· ≠ n) })
    if d.gau.svBad.contains n then (if (Map.get? d.gau.svLast n).isSome then d'.gauInvalid n else d')
    else match Map.get? d.gau.svLast n with
    | none => d'
    | some (t1, v1) =>
      let tc := t1 + (time - t1) * (-v1).toNat / (v - v1).toNat
      let d'' := g d' (fun x => { x with svCross := Map.put x.svCross n tc })
      match Map.get? d.gau.svCross n with
      | none => d''
      | some t0 =>
        let per := tc - t0
        if periodOk per then
          let f := freqOf per
          d''.gauObserve n (wd (nsCounts f (d.time - tc))) per f (((f : Int) - ((d.gref n).freq : Int)) * 1000000 / (per : Int))
        else d''.gauInvalid n

/-- A new sample of a stream goes to the references it feeds. -/
def Dev.svFeed (d : Dev) (i : Nat) (s : Sample) : Dev :=
  (d.svRefs i).foldl (fun d n =>
    let c := d.fld (Reg.GAU_REFn_CTRL n) 9 5
    let ok := !s.unsync && decide (Word.fld (wordAt s.vals (2 * c + 1)) 0 2 = 0)
    d.svToRef n (sampleTime (d.svRate i) s.second s.cnt) (wordAt s.vals (2 * c)).toInt ok) d

/-- The sample stored, unless its key is held; the answer tells whether it was new. -/
def Dev.storeSample (d : Dev) (i : Nat) (s : Sample) : Dev :=
  if (d.rowOf i s.second s.cnt).isSome then d
  else ({ d with pbu := { d.pbu with rows := Map.put d.pbu.rows i ((putRow s (d.rows i)).take 32) } } : Dev).svFeed i s

/-! ## Aligner groups (R427 to R432) -/

/-- A group's own state. -/
def Dev.aligner (d : Dev) (g : Nat) : Aligner := Map.getD d.pbu.groups g ⟨0, none, none, 0, 0, 0, 0⟩
def Dev.setAligner (d : Dev) (g : Nat) (f : Aligner → Aligner) : Dev :=
  { d with pbu := { d.pbu with groups := Map.put d.pbu.groups g (f (d.aligner g)) } }

/-- The streams of a group in position order. -/
def Dev.grpStreams (d : Dev) (g : Nat) : List Nat :=
  (List.range (d.fld (Reg.PBU_GRP g 0) 24 5 + 1)).map (fun i => d.fld (Reg.PBU_GRP g (8 + i / 2)) (16 * (i % 2)) 10)

/-- Owner of a group. -/
def Dev.grpSlice (d : Dev) (g : Nat) : Nat := d.fld (Reg.PBU_GRP g 0) 0 13

/-- SLOT_BYTES. -/
def Dev.slotBytes (d : Dev) (g : Nat) : Nat :=
  ceilDiv (32 + ((d.grpStreams g).map (fun i => 8 + 8 * d.svChannels i)).sum) 64 * 64

/-- The sample a stream holds for a set's key. -/
def Dev.setSample (d : Dev) (w : SetWait) (i : Nat) : Option Sample := d.rowOf i w.second w.cnt

/-- The number whose bits mark positions of a list. -/
def markBits (l : List Bool) : Nat :=
  (l.foldl (fun (s : Nat × Nat) b => (s.1 + 1, if b then s.2 + 2 ^ s.1 else s.2)) (0, 0)).2

/-- A flag in bit position `n`. -/
def flag (b : Bool) (n : Nat) : Nat := if b then 2 ^ n else 0

/-- The block of a stream position in the record (R429). -/
def Dev.setBlock (d : Dev) (w : SetWait) (i : Nat) : List Word :=
  let ch := d.svChannels i
  match d.setSample w i with
  | none => wd ((ch - 1) * 2 ^ 22) :: List.replicate (2 * ch + 1) 0
  | some s =>
    wd (2 ^ 31 + flag s.unsync 30 + flag s.confrev 29 + flag s.injected 28 + flag s.lanB 27 + (ch - 1) * 2 ^ 22 + s.cnt) ::
      lo32 s.arrival :: s.vals

/-- A sample that is not good: UNSYNC, CONFREV, or a channel whose validity is not good. -/
def Sample.notGood (s : Sample) : Bool :=
  s.unsync || s.confrev || (List.range (s.vals.length / 2)).any (fun c => decide (Word.fld (wordAt s.vals (2 * c + 1)) 0 2 ≠ 0))

/-- MISSING and NOT_GOOD of a waiting set. -/
def Dev.setMissing (d : Dev) (g : Nat) (w : SetWait) : Nat := markBits ((d.grpStreams g).map (fun i => (d.setSample w i).isNone))
def Dev.setNotGood (d : Dev) (g : Nat) (w : SetWait) : Nat :=
  markBits ((d.grpStreams g).map (fun i => ((d.setSample w i).map Sample.notGood).getD false))

/-- The PBU's engines reload after a lockstep mismatch: 10 µs (R441). -/
def Dev.reloading (d : Dev) : Bool :=
  match d.pbu.reload with
  | some t => decide (d.now - t < 5000)
  | none => false

/-- The record of a set (R429). -/
def Dev.setRecord (d : Dev) (g : Nat) (w : SetWait) (early : Bool) : List Word :=
  let ss := d.grpStreams g
  let inj := ss.any (fun i => ((d.setSample w i).map Sample.injected).getD false)
  let fl := flag w.stepped 29 + flag w.late 28 + flag w.again 27 + flag d.reloading 26 + flag early 25 + flag inj 24
  let len := 32 + (ss.map (fun i => 8 + 8 * d.svChannels i)).sum
  [wd (2 ^ 24 + g * 65536 + len), wd (w.cnt * 65536 + w.seq), wd w.second, wd (d.setMissing g w), wd (d.setNotGood g w),
   wd (w.quality * 2 ^ 30 + fl + d.fld (Reg.PBU_GRP g 0) 24 5), 0, 0] ++ ss.flatMap (fun i => d.setBlock w i)

/-- The SAMPLE_SET entry (R430). -/
def Dev.sampleEntry (d : Dev) (g : Nat) (w : SetWait) (slot : Nat) : List Word :=
  let fl := flag w.stepped 13 + flag w.late 12 + flag w.again 11 + flag d.reloading 10 + flag (decide (d.setNotGood g w ≠ 0)) 9
  [wd (2 * 2 ^ 20 + g * 1024), wd (w.cnt * 65536 + w.seq), wd w.cycle, wd (w.cycle / 2 ^ 32 % 65536 * 65536 + slot),
   wd (d.setMissing g w), wd (sat16 (d.aligner g).lost * 65536 + w.quality * 2 ^ 14 + fl), lo32 w.time,
   wd (2 ^ 30 + w.time / 2 ^ 32 % 65536)]

/-- A set cannot be written: no room in the CQ, the slice not ACTIVE, its function unable to issue, the link narrowed
(R432). -/
def Dev.setBlocked (d : Dev) (g : Nat) : Bool :=
  let s := d.grpSlice g
  let l := d.linkOf (d.home s)
  !(decide (d.sliceState s = 1 ∧ d.incarnation s = d.fld (Reg.PBU_GRP g 0) 16 8)) || !d.canIssue (d.home s) ||
  decide (d.fld (Reg.PCE_LINK_STATUSl l) 11 3 = 1) ||
  (match d.queue? 1 s (d.fld (Reg.PBU_GRP g 1) 0 10) with
   | some q => decide (d.room q = 0)
   | none => true)

/-- The waiting set completes: its record and entry are written, or it counts as an overrun (R428 to R432). -/
def Dev.completeSet (d : Dev) (g : Nat) (early : Bool) : Dev :=
  match (d.aligner g).waiting with
  | none => d
  | some w =>
    let d := d.setAligner g (fun a => { a with waiting := none })
    if d.setBlocked g then
      ((d.setAligner g (fun a => { a with lost := a.lost + 1, overruns := a.overruns + 1 })).pbuCount 12).pbuEvt 0 g
    else
      let s := d.grpSlice g
      let slots := orOne (d.fld (Reg.PBU_GRP g 4) 0 17) 1
      let slot := w.seq % slots
      let miss := decide (d.setMissing g w ≠ 0)
      let rec_ := d.setRecord g w early
      let ent := d.sampleEntry g w slot
      let base := cat64 (d.reg (Reg.PBU_GRP g 2)) (d.reg (Reg.PBU_GRP g 3))
      let d := d.when d.reloading (fun d => d.pbuEvt 9 g)
      let d := d.sliceWrite s (base + slot * d.slotBytes g) rec_
      let d := (d.charge 0 (d.unitCost 5 (4 * rec_.length)) (some s)).charge 0 (d.unitCost 5 32) (some s)
      let d := match d.queue? 1 s (d.fld (Reg.PBU_GRP g 1) 0 10) with
        | some q => (d.cqPut q ent).showFull q
        | none => d
      let d := (d.setAligner g (fun a =>
        { a with lost := 0, delivered := a.delivered + 1, incomplete := a.incomplete + (if miss then 1 else 0) })).pbuCount 10
      d.when miss (fun d => (d.pbuCount 11).pbuEvt 1 g)

/-- Completes the waiting sets of a stream's groups whose last missing stream has come (R428). -/
def Dev.settleStream (d : Dev) (i : Nat) : Dev :=
  (d.pbu.groups.map Prod.fst).foldl (fun d g =>
    match (d.aligner g).waiting with
    | some w => if d.grpValid g && (d.grpStreams g).contains i && decide (d.setMissing g w = 0) then d.completeSet g false else d
    | none => d) d

/-- The latest key whose instant is at or before a time, at a rate. -/
def keyAt (rate t : Nat) : Nat × Nat :=
  let s := t / 1000000000
  (s, (t % 1000000000) * rate / 1000000000)

/-! ## GOOSE state -/

/-- A subscription's and a publication's own state. -/
def Dev.gsub (d : Dev) (i : Nat) : GooseSub := Map.getD d.pbu.subs i ⟨0, 0, 0, 0, 0⟩
def Dev.setGsub (d : Dev) (i : Nat) (f : GooseSub → GooseSub) : Dev :=
  { d with pbu := { d.pbu with subs := Map.put d.pbu.subs i (f (d.gsub i)) } }
def Dev.gpub (d : Dev) (i : Nat) : GoosePub := Map.getD d.pbu.pubs i ⟨[], [], 0, 0, 0, 0, 0, 0, 0⟩
def Dev.setGpub (d : Dev) (i : Nat) (f : GoosePub → GoosePub) : Dev :=
  { d with pbu := { d.pbu with pubs := Map.put d.pbu.pubs i (f (d.gpub i)) } }

/-- A publication is VALID; its port; its template. -/
def Dev.pubValid (d : Dev) (i : Nat) : Bool := d.bit (Reg.PBU_PUB i 0) 31
def Dev.pubPort (d : Dev) (i : Nat) : Nat := d.fld (Reg.PBU_PUB i 0) 16 4
def Dev.pubTemplate (d : Dev) (i : Nat) : List Byte := d.entBytes (Reg.PBU_PUB i 16) (d.fld (Reg.PBU_PUB i 4) 0 11)
def Dev.pubLive (d : Dev) : List Nat := d.liveEnts (Reg.PBU_PUB 0 0) 0x800 256 d.pubValid

/-- The pieces of a template: what stands before APPID, APPID, the two reserved words, the elements of the goosePdu. -/
def Dev.tplParts (d : Dev) (t : List Byte) : Option (List Byte × List Byte × List Byte × List (Nat × List Byte)) :=
  let tpids := [d.fld Reg.PRS_TPID 0 16, d.fld Reg.PRS_TPID 16 16, d.fld Reg.PRS_TPID2 0 16]
  let o := if tpids.contains (beAt t 12 2) then (if tpids.contains (beAt t 16 2) then 22 else 18) else 14
  if beAt t (o - 2) 2 ≠ 0x88B8 then none
  else match tlv (t.drop (o + 8)) with
    | some (0x61, v, _) => (elems v).bind (fun l =>
        if (el l 0x84).isSome ∧ (el l 0x85).isSome ∧ (el l 0x86).isSome ∧ (el l 0xAB).isSome ∧ (el l 0x80).isSome
        then some (t.take o, slice t o 2, slice t (o + 4) 4, l) else none)
    | _ => none

/-- The frame of a stream: the template with its stNum, sqNum, t and allData, every enclosing length encoded anew
(R437). -/
def Dev.pubFrame (d : Dev) (i : Nat) : Option (List Byte) :=
  let p := d.gpub i
  (d.tplParts (d.pubTemplate i)).map (fun (pre, appid, res, l) =>
    let body := l.flatMap (fun e => match e.1 with
      | 0x84 => berEl 0x84 p.t
      | 0x85 => berEl 0x85 (berNat p.st)
      | 0x86 => berEl 0x86 (berNat p.sq)
      | 0xAB => p.data
      | t => berEl t e.2)
    let pdu := berEl 0x61 body
    pre ++ appid ++ beBytes 2 (8 + pdu.length) ++ res ++ pdu)

/-- A stream sends its frame: at class 0 to the node of its port (R439). -/
def Dev.pubSend (d : Dev) (i : Nat) (again : Bool) : Dev :=
  match d.pubFrame i with
  | none => d
  | some bs =>
    let port := d.pubPort i
    let w1 := d.reg (Reg.PBU_PUB i 1)
    let f := Frame.new (d.pipeOf (d.portGroup port)) 16 0 (.toNode port) bs 0 d.time d.now
    let f := (f.mset 4 0 13 (d.fld (Reg.PBU_PUB i 0) 0 13)).mset 4 24 8 (Word.fld w1 24 8)
    let d := (d.newFrame { f.msetBit 4 23 true with pub := some (i, again) }).2
    ((d.setGpub i (fun p => { p with last := d.now, sent := p.sent + 1 })).pbuCount 21).setRegs (Reg.PBU_PUB i 5)
      [wd (d.gpub i).st, wd (d.gpub i).sq]

/-- The next transmission of a stream that has had a state change: sqNum goes on, from 0xFFFF_FFFF to 1 (R438). -/
def Dev.pubAgain (d : Dev) (i : Nat) (rebuilt : Bool) : Dev :=
  if !d.pubValid i || (d.gpub i).data.isEmpty then d
  else (d.setGpub i (fun p => { p with sq := if p.sq = 0xFFFFFFFF then 1 else p.sq + 1 })).pubSend i rebuilt

/-- A published frame failed in the cipher: counted, and rebuilt once (R439). -/
def Dev.pubFaulted (d : Dev) (i : Nat) (rebuilt : Bool) : Dev :=
  let d := ((d.setGpub i (fun p => { p with faulted := p.faulted + 1 })).pbuCount 22).pbuEvt 7 i
  if rebuilt then d else d.pubAgain i true

/-- A PTP time as a UTC timestamp of IEC 61850: seconds, fraction of 2^-24 s, quality (R437). -/
def Dev.utcTime (d : Dev) : List Byte :=
  let t := d.time
  beBytes 4 (t / 1000000000 - d.fld Reg.PBU_UTC_OFFSET 0 16) ++ beBytes 3 (t % 1000000000 * 2 ^ 24 / 1000000000) ++
    [BitVec.ofNat 8 (d.fld Reg.PBU_CTRL 0 8)]

/-! ## A frame as a delivery (R174, R206) -/

/-- The delivery a frame makes: its first tag stripped and reported; its hash, timestamp and flags. -/
def Dev.deliveryOf (d : Dev) (f : Frame) (t : Dest) : Delivery :=
  let tpids := [d.fld Reg.PRS_TPID 0 16, d.fld Reg.PRS_TPID 16 16, d.fld Reg.PRS_TPID2 0 16]
  let tagged := tpids.contains (beAt f.bytes 12 2)
  let bs := if tagged then f.bytes.take 12 ++ f.bytes.drop 16 else f.bytes
  let fl := f.m 3 25 2 * 2 ^ 28 + f.m 3 23 2 * 2 ^ 26 + flag tagged 25 + flag (f.mbit 0 17) 24 + flag (f.mbit 0 16) 23
  ⟨t.slice, t.incarnation, t.sq, bs, t.kind, if tagged then some (beAt f.bytes 14 2) else none,
   if t.kind = kindRx then wordAt f.record 5 else wd t.reason,
   some (cat64 (wordAt f.record 7) (wordAt f.record 8)), wd fl⟩

end Sys2Proof.Machine
end

