-- ==== Sys2Proof/Machine/SchOps.lean ====
section
/-! DEFINITION. Shared operations of the transmit scheduler: nodes, service queues, shapers, DWRR, the start of a frame at a
MAC, preemption (R374 to R387, R399 to R412). -/

namespace Sys2Proof.Machine

/-! ## Nodes (R375, R393) -/

/-- A word of SCH_NCFG0 to 3 in force: until the next top-up the former value stands for rates, BURST, OVERHEAD and
WEIGHT (R381). -/
def Dev.nodeCfg (d : Dev) (n i : Nat) : Word :=
  match Map.get? d.sch.former n with
  | some ws => wordAt ws i
  | none => d.reg (Reg.SCH_NCFG0 n + 4 * i)

/-- A node is attached; its port; the port group it is homed in. -/
def Dev.attached (d : Dev) (n : Nat) : Bool := d.bit (Reg.SCH_NCFG3 n) 31
def Dev.nodeAt (d : Dev) (n : Nat) : Nat := d.fld (Reg.SCH_NCFG3 n) 25 5
def Dev.nodePg (d : Dev) (n : Nat) : Nat :=
  if d.nodeAt n < 16 then d.nodeAt n / 8 else d.fld (Reg.SCH_NCFG3 n) 30 1

/-- Owner of a node. -/
def Dev.nodeOwner (d : Dev) (n : Nat) : Option (Nat × Nat) :=
  let w := d.reg (Reg.SCH_NCFG4 n)
  if Word.bit w 31 then some (Word.fld w 0 13, Word.fld w 16 8) else none

/-- A scheduler counter and event in the pipeline a node is homed in. -/
def Dev.nodeCount (d : Dev) (n i : Nat) : Dev := d.count (Reg.SCH_COUNTS (d.pipeOf (d.nodePg n)) i) 1
def Dev.nodeEvt (d : Dev) (n bit : Nat) : Dev :=
  let w := d.pipeOf (d.nodePg n)
  (d.sqSet (Reg.SCH_EVT_STATUS w) [bit]).setN (Reg.SCH_EVT_PORT w) (d.nodeAt n)

/-- A service queue. -/
def Dev.queueAt (d : Dev) (n tc : Nat) : List Nat := Map.getD d.sch.queues (8 * n + tc) []

/-- Bytes of a list of frames. -/
def Dev.framesBytes (d : Dev) (ids : List Nat) : Nat := (ids.map (fun i => ((d.frame? i).map Frame.len).getD 0)).sum

/-- A node's queued frames, and their bytes. -/
def Dev.nodeFrames (d : Dev) (n : Nat) : List Nat := (List.range 8).flatMap (fun tc => d.queueAt n tc)
def Dev.backlog (d : Dev) (n : Nat) : Nat := d.framesBytes (d.nodeFrames n)

/-- SCH_NSTATE2: TCs with backlog, and the backlog in 64-byte units. -/
def Dev.showNode (d : Dev) (n : Nat) : Dev :=
  d.setN (Reg.SCH_NSTATE2 n) (markBits ((List.range 8).map (fun tc => !(d.queueAt n tc).isEmpty)) * 2 ^ 24 + ceilDiv (d.backlog n) 64)

/-- A service queue replaced; its deficits return to 0 when it empties (R377). -/
def Dev.setQueueAt (d : Dev) (n tc : Nat) (l : List Nat) : Dev :=
  let s := d.sch
  let df := if l.isEmpty then Map.del (Map.del s.deficit (8 * n + tc)) (8 * (65536 + n) + tc) else s.deficit
  ({ d with sch := { s with queues := Map.putD s.queues (8 * n + tc) [] l, deficit := df } } : Dev).showNode n

/-- The TC of a frame (R376). -/
def Dev.frameTc (d : Dev) (p : Nat) (f : Frame) : Nat :=
  let tpids := [d.fld Reg.PRS_TPID 0 16, d.fld Reg.PRS_TPID 16 16, d.fld Reg.PRS_TPID2 0 16]
  let cap (n : Nat) : Nat := if 7 ≤ n then 6 else n
  if f.cls = 0 then 7
  else if d.bit (Reg.SCH_PORTp_CTRL p) 30 && tpids.contains (beAt f.bytes 12 2) then cap (byteAt f.bytes 14 / 32)
  else cap (d.fld Reg.SCH_CLASS_TC (4 * (f.cls - 1)) 4)

/-- A frame queued at a node, or dropped at a detached one, one of a failed port group, a full one (R375, R376, R382, R482). -/
def Dev.enqueue (d : Dev) (id : Nat) (f : Frame) (n : Nat) : Dev :=
  let f := d.editFrame f
  let p := d.nodeAt n
  if !d.attached n || d.flt.failed.contains (d.nodePg n) || (f.dest.isSome && decide (p ≠ 16)) then ((d.nodeCount n 3).nodeEvt n 2).freeFrame id
  else if (d.fld (Reg.SCH_NCFG3 n) 8 12 + 1) * 4096 < d.backlog n + f.len then ((d.nodeCount n 2).nodeEvt n 1).freeFrame id
  else
    let tc := d.frameTc p f
    let d := d.when (decide (f.pipe ≠ d.pipeOf (d.nodePg n))) (fun d => d.nodeCount n 9)
    (d.moveFrame id f (.queued n tc)).setQueueAt n tc (d.queueAt n tc ++ [id])

/-- Frees a node's backlog, counted as DETACH_DROP (R382). -/
def Dev.dropBacklog (d : Dev) (n : Nat) : Dev :=
  let ids := d.nodeFrames n
  let d := ids.foldl (fun d i => (d.nodeCount n 3).freeFrame i) d
  let d := (List.range 8).foldl (fun d tc => d.setQueueAt n tc []) d
  d.when (!ids.isEmpty) (fun d => d.nodeEvt n 2)

/-- Receive-node entries that name a node are cleared (R375). -/
def Dev.clearRxNode (d : Dev) (n : Nat) : Dev :=
  let b := Reg.SCH_RXNODEs 0
  let ks := d.rf.act.filterMap (fun e =>
    if b ≤ e.1 ∧ e.1 < b + 4 * 8192 ∧ Word.bit e.2 31 = true ∧ Word.fld e.2 0 16 = n then some e.1 else none)
  ks.foldl (fun d k => d.setN k 0) d

/-- A node whose committed attachment has changed: a detached one loses its backlog and stops being a receive node
(R375, R382); a move to a node homed in the other pipeline takes the queued frames across. -/
def Dev.nodeMoved (d : Dev) (n : Nat) (old : Word) : Dev :=
  if Word.bit old 31 && !d.attached n then (d.dropBacklog n).clearRxNode n
  else if Word.bit old 31 && d.attached n then
    let d := if Word.fld old 25 5 = 16 ∧ d.nodeAt n ≠ 16 then d.clearRxNode n else d
    let was := if Word.fld old 25 5 < 16 then Word.fld old 25 5 / 8 else Word.fld old 30 1
    if d.pipeOf was = d.pipeOf (d.nodePg n) then d
    else (d.nodeFrames n).foldl (fun d _ => d.nodeCount n 9) d
  else d

/-- A committed change of a node's words: the values in force stand until the next top-up (R381). -/
def Dev.nodeChanged (d : Dev) (n i : Nat) (old : Word) : Dev :=
  match Map.get? d.sch.former n with
  | some _ => d
  | none =>
    let ws := (List.range 4).map (fun j => if j = i then old else d.reg (Reg.SCH_NCFG0 n + 4 * j))
    { d with sch := { d.sch with former := Map.put d.sch.former n ws } }

/-! ## Shapers (R379 to R381, R387) -/

/-- A node's owner is QUIESCING: it is served as though unshaped. -/
def Dev.nodeQuiescing (d : Dev) (n : Nat) : Bool :=
  match d.nodeOwner n with
  | some (s, i) => decide (d.sliceState s = 3 ∧ d.incarnation s = i)
  | none => false

/-- Bytes a frame carries on the wire at a port: padded, with the pair's trailer or tag, and the FCS. -/
def Dev.wireLen (d : Dev) (p : Nat) (f : Frame) : Nat :=
  Nat.max 60 f.len + 4 + (if p < 16 ∧ (d.pairAt p).isSome = true then 6 else 0)

/-- The charged length: wire bytes and the node's signed OVERHEAD, never below 1. -/
def Dev.chargedLen (d : Dev) (n p : Nat) (f : Frame) : Nat :=
  Nat.max 1 (((d.wireLen p f : Nat) : Int) + (BitVec.ofNat 8 (Word.fld (d.nodeCfg n 2) 24 8)).toInt).toNat

/-- Rate of a bucket: 0 the committed one, 1 the peak one; unshaped. -/
def Dev.rate (d : Dev) (n b : Nat) : Nat := (d.nodeCfg n b).toNat
def Dev.unshaped (d : Dev) (n b : Nat) : Bool := decide (d.rate n b = 0xFFFFFFFF)

/-- Credit of a bucket, signed bytes. -/
def Dev.credit (d : Dev) (n b : Nat) : Int := (d.reg (Reg.SCH_NSTATE0 n + 4 * b)).toInt

/-- A bucket holds `l`. -/
def Dev.bucketHolds (d : Dev) (n b l : Nat) : Bool := d.unshaped n b || decide ((l : Int) ≤ d.credit n b)

/-- Eligibility in a band, 0 committed, 1 peak only; a PIR of 0 blocks (R380). -/
def Dev.eligible (d : Dev) (n l band : Nat) : Bool :=
  if d.nodeQuiescing n then decide (band = 0)
  else
    let peak := decide (d.rate n 1 ≠ 0) && d.bucketHolds n 1 l
    let both := peak && decide (d.rate n 0 ≠ 0) && d.bucketHolds n 0 l
    if band = 0 then both else peak && !both

/-- A bucket drawn down, or left as it is when unshaped. -/
def Dev.drawBucket (d : Dev) (n b l : Nat) : Dev :=
  if d.unshaped n b || d.nodeQuiescing n then d
  else d.setReg (Reg.SCH_NSTATE0 n + 4 * b) (BitVec.ofInt 32 (d.credit n b - l))

/-- SCH_REFILL_NS in force. -/
def Dev.refillNs (d : Dev) : Nat := clampNat 32 8192 (d.fld Reg.SCH_REFILL_NS 0 14)

/-- The cap of a bucket: BURST or the charged length of the node's longest head frame, whichever is more. -/
def Dev.bucketCap (d : Dev) (n : Nat) : Nat :=
  let heads := (List.range 8).filterMap (fun tc => ((d.queueAt n tc).head?).bind d.frame?)
  heads.foldl (fun a f => Nat.max a (d.chargedLen n (d.nodeAt n) f)) (Word.fld (d.nodeCfg n 2) 0 24)

/-- One bucket's gain at a top-up, the remainder kept (R381). -/
def Dev.topBucket (d : Dev) (n b : Nat) : Dev :=
  if d.unshaped n b then d
  else
    let t := d.rate n b * d.refillNs + Map.getD d.sch.frac (2 * n + b) 0
    let d := { d with sch := { d.sch with frac := Map.putD d.sch.frac (2 * n + b) 0 (t % 8000000) } }
    let c := d.credit n b + ((t / 8000000 : Nat) : Int)
    let cap : Int := (d.bucketCap n : Nat)
    d.setReg (Reg.SCH_NSTATE0 n + 4 * b) (BitVec.ofInt 32 (if c < cap then c else cap))

/-- A committed change takes effect: credits kept, clamped to the new caps by the gain that follows; a bucket whose rate
goes from 0 to non-zero starts at 0. -/
def Dev.takeNode (d : Dev) (n : Nat) (old : List Word) : Dev :=
  let d := { d with sch := { d.sch with former := Map.del d.sch.former n } }
  [0, 1].foldl (fun d b =>
    if (wordAt old b) = 0 ∧ d.rate n b ≠ 0 then
      { d.setN (Reg.SCH_NSTATE0 n + 4 * b) 0 with sch := { d.sch with frac := Map.del d.sch.frac (2 * n + b) } }
    else d) d

/-- Nodes a top-up touches: those that are listed in the register file. -/
def Dev.listedNodes (d : Dev) : List Nat :=
  ((d.rf.act.filterMap (fun e =>
    if Reg.SCH_NCFG0 0 ≤ e.1 ∧ e.1 < Reg.SCH_NCFG0 65536 then some ((e.1 - Reg.SCH_NCFG0 0) / 0x20) else none)) ++
    d.sch.former.map Prod.fst).eraseDups

/-- A top-up (R381). -/
def Dev.topUp (d : Dev) : Dev :=
  let d := d.sch.former.foldl (fun d p => d.takeNode p.1 p.2) d
  d.listedNodes.foldl (fun d n => (d.topBucket n 0).topBucket n 1) d

/-! ## Gates, HOLD and preemption (R384, R385, R402, R403, R412) -/

/-- A TC's gate is open: a pair uses port A's; ports 16 and 17 have none. -/
def Dev.gateOpen (d : Dev) (p tc : Nat) : Bool :=
  if 16 ≤ p then true else d.bit (Reg.SCH_PORTp_GSTATE (d.portA p)) tc

/-- Preemption is active on a port's MAC. -/
def Dev.preemptOn (d : Dev) (p : Nat) : Bool := decide (p < 16) && d.bit (Reg.MAC_PORTp_STATUS p) 28

/-- A TC goes to the express MAC. -/
def Dev.express (d : Dev) (p tc : Nat) : Bool := d.bit (Reg.SCH_PORTp_CTRL (d.portA p)) (16 + tc)

/-- HOLD is in force at a port's MAC. -/
def Dev.holdOn (d : Dev) (p : Nat) : Bool := d.preemptOn p && d.bit (Reg.SCH_PORTp_GSTATE (d.portA p)) 17

/-- A TC may start a frame. -/
def Dev.mayStart (d : Dev) (p tc : Nat) : Bool := d.gateOpen p tc && !(d.holdOn p && !d.express p tc)

/-- Bytes that have left when a frame of which `sent` bytes of the current fragment have left is preempted, if it may be:
the next 4-byte boundary past (ADD_FRAG + 1) × 64 bytes counting the mCRC, with 64 bytes of the frame remaining
(R403). -/
def Dev.boundary (d : Dev) (p sent : Nat) (f : Frame) : Option Nat :=
  let low := (d.fld (Reg.MAC_PORTp_CTRL p) 24 2 + 1) * 64 - 4
  let b := f.sent + ceilDiv (Nat.max sent low) 4 * 4
  if b + 64 ≤ f.len + 4 then some b else none

/-- The frame in progress at a MAC and the bytes of it that will have left at the boundary where it may be preempted. -/
def Dev.preemptAt (d : Dev) (p sent : Nat) : Option ((Nat × Nat) × Nat) :=
  match Map.get? d.mac.cur p with
  | some c =>
    if d.preemptOn p && !d.express p c.2 && decide ((Map.get? d.mac.paused p).isNone) then
      match d.frame? c.1 with
      | some f => (d.boundary p sent f).map (fun b => (c, b))
      | none => none
    else none
  | none => none

/-- A frame is preempted after `b` bytes: it waits at its MAC, and counts. -/
def Dev.preempted (d : Dev) (p : Nat) (c : Nat × Nat) (b : Nat) : Dev :=
  let d := match d.frame? c.1 with
    | some f => d.putFrame c.1 { f with sent := b }
    | none => d
  let m := d.mac
  let cur := if Map.get? m.cur p = some c then Map.del m.cur p else m.cur
  ((({ d with mac := { m with cur := cur, paused := Map.put m.paused p c } } : Dev).portCount p 23 1).schCount p 8)

/-! ## A frame at its MAC (R399, R401, R409 to R412) -/

/-- Tag positions: where EtherType stands after up to two tags. -/
def Dev.ethAt (d : Dev) (bs : List Byte) : Nat :=
  let tpids := [d.fld Reg.PRS_TPID 0 16, d.fld Reg.PRS_TPID 16 16, d.fld Reg.PRS_TPID2 0 16]
  if tpids.contains (beAt bs 12 2) then (if tpids.contains (beAt bs 16 2) then 20 else 16) else 12

/-- The PRP trailer (R411): the LSDU runs from after the EtherType and includes the trailer. -/
def Dev.prpFrame (d : Dev) (bs : List Byte) (seq lan : Nat) : List Byte :=
  let size := bs.length - (d.ethAt bs + 2) + 6
  bs ++ beBytes 2 seq ++ beBytes 2 (lan * 4096 + size % 4096) ++ [0x88, 0xFB]

/-- The HSR tag inserted after the source address and any tag (R411). -/
def Dev.hsrFrame (d : Dev) (bs : List Byte) (seq path : Nat) : List Byte :=
  let o := d.ethAt bs
  let size := bs.length - (o + 2) + 6
  bs.take o ++ [0x89, 0x2F] ++ beBytes 2 (path * 4096 + size % 4096) ++ beBytes 2 seq ++ bs.drop o

/-- A frame padded to 60 bytes. -/
def padded (bs : List Byte) : List Byte := bs ++ List.replicate (60 - bs.length) 0

/-- Where a PTP message of a frame starts, and whether it lies over UDP and its IP version. -/
def Dev.ptpAt (d : Dev) (f : Frame) : Option (Nat × Nat) :=
  let k := d.walk f 0
  if k.etf = 0x88F7 then some (d.ethAt f.bytes + 2, 0)
  else match k.l4 with
    | some o => if k.l4type = 2 then some (o + 8, if k.l3type = 1 then 4 else 6) else none
    | none => none

/-- The two bytes after a PTP message over UDP and IPv6 that keep its checksum valid: the words changed from `old` to `new`. -/
def keepSum (bs : List Byte) (o : Nat) (old new : List Byte) : List Byte :=
  patch bs o (beBytes 2 (fold16 (beAt bs o 2 + fold16 (onesSum old) + (0xFFFF - fold16 (onesSum new)))))

/-- One-step corrections of a PTP event message: originTimestamp of the device's own Sync, the residence time under a
transparent role (R409). -/
def Dev.ptpCorrect (d : Dev) (p : Nat) (f : Frame) : Frame × Dev :=
  if !f.mbit 3 10 || d.bit Reg.GAU_PTP_CTRL 1 then (f, d)
  else match d.ptpAt f with
  | none => (f, d)
  | some (o, udp) =>
    let kind := byteAt f.bytes o % 16
    let own := decide (f.srcPort = 16 ∧ kind = 0)
    let tc := decide (d.gau.ptpRole = 2 ∧ kind < 4 ∧ f.srcPort < 16)
    if !own && !tc then (f, d)
    else if d.protects p then (f, d.count (Reg.MAC_COUNTS 3) 1)
    else
      let len := beAt f.bytes (o + 2) 2
      if udp = 6 ∧ f.len < o + len + 2 then (f, d.count (Reg.MAC_COUNTS 3) 1)
      else
        let at_ := if own then o + 34 else o + 8
        let n := if own then 10 else 8
        let res := d.time % 2 ^ 48 + 2 ^ 48 - cat64 (wordAt f.record 7) (wordAt f.record 8)
        let new := if own then beBytes 6 (d.time / 1000000000) ++ beBytes 4 (d.time % 1000000000)
          else beBytes 8 (beAt f.bytes at_ 8 + res % 2 ^ 48 * 65536)
        let b := patch f.bytes at_ new
        let b := if udp = 4 then patch b (o - 2) [0, 0]
          else if udp = 6 then keepSum b (o + len) (slice f.bytes at_ n) new else b
        ({ f with bytes := b }, d)

/-- A frame taken by a port's MAC: dropped when too long for the port, else serialised (R399, R401). -/
def Dev.macStart (d : Dev) (p id : Nat) (f : Frame) (tc : Nat) : Dev :=
  let limit := clampNat 64 9216 (d.fld (Reg.MAC_PORTp_CTRL p) 0 14)
  if limit < f.len + 4 then (d.portCount p 20 1).freeFrame id
  else
    let d := d.moveFrame id f (.sending p)
    let d := { d with mac := { d.mac with cur := Map.put d.mac.cur p (id, tc) } }
    d.when (decide (d.macLink p = 4)) (fun d => d.emit (.frame p f.bytes))

/-- A granted frame goes to its port's MAC; on a pair a second copy waits for port B, both with the pair's number, and an
HSR frame is entered as seen (R410 to R412, R422). -/
def Dev.startFrame (d : Dev) (p id : Nat) (f : Frame) (tc : Nat) : Dev :=
  let (f, d) := d.ptpCorrect p f
  let bs := padded f.bytes
  match d.pairAt p with
  | none => d.macStart p id { f with bytes := bs } tc
  | some (k, mode, _, b) =>
    let seq := Map.getD d.mac.pairSeq k 0
    let d := { d with mac := { d.mac with pairSeq := Map.put d.mac.pairSeq k ((seq + 1) % 65536) } }
    let d := d.when (decide (mode = 2)) (fun d => (d.dupJudge k (slice bs 6 6) seq).2)
    let one := if mode = 1 then d.prpFrame bs seq 0xA else d.hsrFrame bs seq 0
    let two := if mode = 1 then d.prpFrame bs seq 0xB else d.hsrFrame bs seq 1
    let d := (d.newFrame { f with bytes := two, place := .copy b tc, item := none }).2
    d.macStart p id { f with bytes := one } tc

/-! ## DWRR (R377, R378) -/

/-- A frame may leave cut-through (R383). -/
def Dev.cutThrough (d : Dev) (p : Nat) (f : Frame) : Bool :=
  d.bit (Reg.SCH_PORTp_CTRL p) 31 && decide (p < 16 ∧ f.srcPort < 16 ∧ f.pass = 0) && !f.mbit 0 16 && f.dest.isNone &&
  !d.bit (Reg.PRS_PROFp_CTRL f.profile) 26 && decide (modeRate (d.pgMode (p / 8)) ≤ modeRate (d.pgMode (f.srcPort / 8)))

/-- The head frame of a service queue. -/
def Dev.headOf (d : Dev) (n tc : Nat) : Option (Nat × Frame) :=
  match (d.queueAt n tc).head? with
  | some id => (d.frame? id).map (fun f => (id, f))
  | none => none

/-- Nodes of a port with backlog in a TC, lowest first. -/
def Dev.backlogged (d : Dev) (p tc : Nat) : List Nat :=
  d.sch.queues.filterMap (fun q => if q.1 % 8 = tc ∧ q.2 ≠ [] ∧ d.attached (q.1 / 8) = true ∧ d.nodeAt (q.1 / 8) = p
    then some (q.1 / 8) else none)

/-- Key of a deficit. -/
def defKey (n tc band : Nat) : Nat := 8 * (65536 * band + n) + tc

/-- A granted frame leaves its queue: the deficit and the buckets are drawn (R377, R380). -/
def Dev.takeHead (d : Dev) (n tc band id l : Nat) : Dev :=
  let k := defKey n tc band
  let d := { d with sch := { d.sch with deficit := Map.putD d.sch.deficit k 0 (Map.getD d.sch.deficit k 0 - l) } }
  let d := if band = 0 then d.drawBucket n 0 l else d
  ((d.drawBucket n 1 l).setQueueAt n tc ((d.queueAt n tc).filter (· ≠ id))).nodeCount n 0

/-- One turn of the rotation of a TC and band: the first candidate the EBS admits, with the node's number. A node that is not
eligible is passed over without its quantum; one refused keeps its deficit and its place. -/
def Dev.rotate (d : Dev) (p tc band : Nat) (ns : List Nat) : Nat → Nat → Bool → List Nat → Option Nat → Dev × Option (Nat × Nat)
  | 0, _, _, _, _ => (d, none)
  | k + 1, pos, fresh, no, stay =>
    let n := ns.getD (pos % Nat.max 1 ns.length) 0
    if ns.all (fun m => no.contains m) then (d, none)
    else if no.contains n then d.rotate p tc band ns k (pos + 1) true no stay
    else match d.headOf n tc with
    | none => d.rotate p tc band ns k (pos + 1) true (n :: no) stay
    | some (id, f) =>
      let l := d.chargedLen n p f
      if !d.eligible n l band || !(f.whole || d.cutThrough p f) then d.rotate p tc band ns k (pos + 1) true (n :: no) stay
      else
        let key := defKey n tc band
        let q := (Word.fld (d.nodeCfg n 3) 0 8 + 1) * 128
        let d := if fresh then
            { d with sch := { d.sch with deficit := Map.put d.sch.deficit key (Map.getD d.sch.deficit key 0 + q) } } else d
        if Map.getD d.sch.deficit key 0 < l then d.rotate p tc band ns k (pos + 1) true no stay
        else
          let copies := if (d.pairAt p).isSome then 2 else 1
          let again := (d.waitingUnit .portGrant id).isSome
          let (ok, d) := d.offer .portGrant id f.cls (copies * d.unitCost 1 (d.wireLen p f)) f.owner false
          if ok then
            let d := d.takeHead n tc band id l
            let d := d.when (!f.whole) (fun d => d.nodeCount n 4)
            ({ d with sch := { d.sch with turn := Map.put d.sch.turn (2 * (8 * p + tc) + band) (stay.getD n) } }, some (id, n))
          else
            let d := d.when (!again) (fun d => d.nodeCount n 1)
            d.rotate p tc band ns k (pos + 1) true (n :: no) (some (stay.getD n))

/-- The grant of one TC and band, from where its rotation stands. -/
def Dev.grantBand (d : Dev) (p tc band : Nat) : Dev × Option (Nat × Nat) :=
  let ns := d.backlogged p tc
  let at_ := Map.get? d.sch.turn (2 * (8 * p + tc) + band)
  let here := match at_ with
    | some n => ns.contains n
    | none => false
  let pos := (ns.takeWhile (fun n => decide (n < at_.getD 0))).length
  d.rotate p tc band ns (ns.length * 80 + 1) pos (!here) [] none

/-- The first candidate of a list of TCs (R377). -/
def Dev.grantTcs (d : Dev) (p : Nat) : List Nat → Dev × Option (Nat × Nat)
  | [] => (d, none)
  | tc :: ts =>
    if !d.gateOpen p tc then d.grantTcs p ts
    else
      match d.grantBand p tc 0 with
      | (d, some (id, _)) => (d, some (id, tc))
      | (d, none) =>
        match d.grantBand p tc 1 with
        | (d, some (id, _)) => (d, some (id, tc))
        | (d, none) => d.grantTcs p ts

/-- TC7 down to TC0. -/
def tcOrder : List Nat := [7, 6, 5, 4, 3, 2, 1, 0]

end Sys2Proof.Machine
end

