-- ==== Sys2Proof/Machine/MacOps.lean ====
section
/-! DEFINITION. Shared operations of the ports: links, transmit checksums and segmentation, coalescing, deliveries at the
host port (R396 to R407). -/

namespace Sys2Proof.Machine

/-! ## Links (R396, R398, R400, R402) -/

/-- TXDIS follows the lanes of present, enabled ports; those of a failed group are not enabled (R400, R482). -/
def Dev.showTxdis (d : Dev) : Dev :=
  let on (l : Nat) : Bool := !d.flt.failed.contains (l / 8) && d.bit (Reg.MAC_PORTp_CTRL (l / modeLanes (d.pgMode (l / 8)) * modeLanes (d.pgMode (l / 8)))) 31
  { d with pins := { d.pins with txdis := markBits ((List.range 16).map (fun l => !on l)) } }

/-- A pair of ports set to PRP or HSR lies in a port group. -/
def Dev.pairIn (d : Dev) (g : Nat) : Bool :=
  (List.range 8).any (fun k => let w := d.reg (Reg.MAC_PAIRk k); let mode := Word.fld w 30 2
    decide ((mode = 1 ∨ mode = 2) ∧ (Word.fld w 0 4 / 8 = g ∨ Word.fld w 8 4 / 8 = g)))

/-- PAIR_OK follows its conditions: stage 7, no halt, OK_HOLD 0, no failed port group that holds a pair (R502). -/
def Dev.showPair (d : Dev) : Dev :=
  let ok := d.running && !d.bit Reg.GLB_PAIR 0 && !d.flt.failed.any d.pairIn
  { (d.setBit Reg.GLB_PAIR 30 ok) with pins := { d.pins with pairOk := ok } }

/-- Preemption and its verify procedure end (R402). -/
def Dev.preemptOff (d : Dev) (p : Nat) : Dev :=
  let d := (d.setBit (Reg.MAC_PORTp_STATUS p) 28 false).setFld (Reg.MAC_PORTp_STATUS p) 26 2 0
  { d with mac := { d.mac with verifies := Map.del d.mac.verifies p } }

/-- The verify procedure starts on a port that is UP with PREEMPT 1, or preemption is active at once (R402). -/
def Dev.preemptStart (d : Dev) (p : Nat) : Dev :=
  if d.macLink p = 4 ∧ d.bit (Reg.MAC_PORTp_CTRL p) 27 = true then
    if d.bit (Reg.MAC_PORTp_CTRL p) 26 then d.setBit (Reg.MAC_PORTp_STATUS p) 28 true
    else
      let d := d.setFld (Reg.MAC_PORTp_STATUS p) 26 2 1
      { d with mac := { d.mac with verifies := Map.put d.mac.verifies p 0 } }
  else d

/-- A port's LINK changes: leaving UP counts and ends preemption; LINK_UP, LINK_DOWN and FAULT set their events (R398). -/
def Dev.setLink (d : Dev) (p st : Nat) : Dev :=
  let old := d.macLink p
  let d := d.setFld (Reg.MAC_PORTp_STATUS p) 29 3 st
  if old = 4 ∧ st ≠ 4 then
    let d := ((d.countFld (Reg.MAC_PORTp_STATUS p) 0 8).macEvt p 1).preemptOff p
    if st = 5 then d.macEvt p 2 else d
  else if st = 4 ∧ old ≠ 4 then (d.macEvt p 0).preemptStart p
  else d

/-- ENABLE or PREEMPT of a port has been committed (R398, R402). -/
def Dev.portCtrl (d : Dev) (p : Nat) (old : Word) : Dev :=
  let new := d.reg (Reg.MAC_PORTp_CTRL p)
  let d := if Word.bit new 31 && !Word.bit old 31 && !d.flt.failed.contains (p / 8) then d.setLink p 1
    else if Word.bit old 31 && !Word.bit new 31 then d.setLink p 0 else d
  let d := if Word.bit new 27 ≠ Word.bit old 27 then (d.preemptOff p).preemptStart p else d
  d.showTxdis

/-- A frame being serialised ends with an invalid FCS (R383, R396). -/
def Dev.abortFrame (d : Dev) (p id : Nat) : Dev :=
  let d := { d with mac := { d.mac with
    cur := Map.sift d.mac.cur (fun q c => !decide (q = p ∧ c.1 = id))
    paused := Map.sift d.mac.paused (fun q c => !decide (q = p ∧ c.1 = id)) } }
  (d.emit (.frameEnd p false)).freeFrame id

/-- Every frame a port is serialising is aborted, counted in TX_ABORTED (R396). -/
def Dev.abortPort (d : Dev) (p : Nat) : Dev :=
  (d.framesAt (fun x => decide (x = .sending p))).foldl (fun d id => (d.portCount p 22 1).abortFrame p id) d

/-- Every node attached to a port is detached. -/
def Dev.detachPort (d : Dev) (p : Nat) : Dev :=
  let ns := (List.range 18 ++ d.listedNodes).eraseDups.filter (fun n => d.attached n && decide (d.nodeAt n = p))
  ns.foldl (fun d n =>
    let old := d.reg (Reg.SCH_NCFG3 n)
    (d.setBit (Reg.SCH_NCFG3 n) 31 false).nodeMoved n old) d

/-- A committed mode or FEC of a port group (R396, R413). -/
def Dev.modeChanged (d : Dev) (g : Nat) (old : Word) : Dev :=
  if d.reg (Reg.MAC_PGg_MODE g) = old then d
  else
    (((List.range 8).map (fun i => 8 * g + i)).foldl (fun d p =>
      let d := d.abortPort p
      let was := modeHas (Word.fld old 29 3) p
      let d := if d.portPresent p then d.setLink p (if d.bit (Reg.MAC_PORTp_CTRL p) 31 && !d.flt.failed.contains g then 1 else 0) else d.setLink p 0
      if was && !d.portPresent p then
        let d := d.detachPort p
        match d.pairAt p with
        | some (k, _, _, _) => (d.setFld (Reg.MAC_PAIRk k) 30 2 0).macEvt p 6
        | none => d
      else d) d).showTxdis

/-- A committed pair: port B is absent for attachment, its nodes are detached (R410). -/
def Dev.pairChanged (d : Dev) (k : Nat) : Dev :=
  let w := d.reg (Reg.MAC_PAIRk k)
  if Word.fld w 30 2 = 1 ∨ Word.fld w 30 2 = 2 then d.detachPort (Word.fld w 8 4) else d

/-! ## Checksums and segmentation on transmit (R404, R405) -/

/-- The headers the engine finds: each with the offset it is walked from; the innermost last. -/
def Dev.txHeaders (d : Dev) (f : Frame) : List (Nat × Headers) :=
  let k := d.walk f 0
  match k.tun with
  | some t => if d.bit Reg.MAC_TX_CTRL 31 && decide (k.tunType = 1 ∨ k.tunType = 2) then
      [(0, k), (t, d.walk { f with start := t } 0)] else [(0, k)]
  | none => [(0, k)]

/-- The IPv4 header checksum of headers walked from `b` written. -/
def writeL3 (bs : List Byte) (b : Nat) (k : Headers) : List Byte :=
  match k.l3 with
  | some l3 =>
    if k.l3type = 1 ∧ k.l4.isSome = true then
      let n := byteAt bs (b + l3) % 16 * 4
      let z := patch bs (b + l3 + 10) [0, 0]
      patch z (b + l3 + 10) (beBytes 2 (inetCsum (slice z (b + l3) n)))
    else bs
  | none => bs

/-- The TCP or UDP checksum of headers walked from `b` written, with its pseudo-header; a UDP sum of 0 is sent as all
ones. -/
def writeL4 (bs : List Byte) (b : Nat) (k : Headers) : List Byte :=
  match k.l3, k.l4 with
  | some l3, some l4 =>
    let at_ := b + l4 + (if k.l4type = 1 then 16 else 6)
    let z := patch bs at_ [0, 0]
    let addrs := if k.l3type = 1 then slice z (b + l3 + 12) 8 else slice z (b + l3 + 8) 32
    let s := 0xFFFF - fold16 (onesSum addrs + k.l4len / 65536 + k.l4len % 65536 + k.proto + onesSum (slice z (b + l4) k.l4len))
    patch z at_ (beBytes 2 (if s = 0 ∧ k.l4type = 2 then 0xFFFF else s))
  | _, _ => bs

/-- The L4 checksum of the target, then the outer UDP checksum of a tunnel: 0 over IPv4, in full over IPv6. -/
def Dev.txL4 (d : Dev) (f : Frame) : Frame :=
  match d.txHeaders f with
  | [(b, k)] => { f with bytes := writeL4 f.bytes b k }
  | [(b0, k0), (b1, k1)] =>
    let bs := writeL4 f.bytes b1 k1
    { f with bytes := if k0.l3type = 1 then patch bs (b0 + k0.l4.getD 0 + 6) [0, 0] else writeL4 bs b0 k0 }
  | _ => f

/-- Every IPv4 header checksum. -/
def Dev.txL3 (d : Dev) (f : Frame) : Frame :=
  { f with bytes := (d.txHeaders f).foldl (fun bs h => writeL3 bs h.1 h.2) f.bytes }

/-- The target headers. -/
def Dev.txTarget (d : Dev) (f : Frame) : Nat × Headers := ((d.txHeaders f).getLast?).getD (0, {})

/-- A target whose L4 checksum can be written. -/
def l4Able (k : Headers) : Bool := decide ((k.l4type = 1 ∨ k.l4type = 2) ∧ k.frag = 0) && k.l4.isSome

/-- Lengths and identification of segment `n` in headers walked from `b` of a frame of `len` bytes. -/
def segHeader (bs : List Byte) (n len : Nat) (outer : Bool) (b : Nat) (k : Headers) : List Byte :=
  match k.l3 with
  | none => bs
  | some l3 =>
    let bs := if k.l3type = 1 then
        patch (patch bs (b + l3 + 2) (beBytes 2 (len - (b + l3)))) (b + l3 + 4) (beBytes 2 (beAt bs (b + l3 + 4) 2 + n))
      else if k.l3type = 2 then patch bs (b + l3 + 4) (beBytes 2 (len - (b + l3 + 40))) else bs
    match k.l4 with
    | some l4 => if outer && decide (k.l4type = 2) then patch bs (b + l4 + 4) (beBytes 2 (len - (b + l4))) else bs
    | none => bs

/-- Segment `n` of `last + 1` (R405). -/
def Dev.segment (d : Dev) (f : Frame) (hdr mss n last : Nat) : Frame :=
  let hs := d.txHeaders f
  let (tb, tk) := d.txTarget f
  let bs := f.bytes.take hdr ++ slice f.bytes (hdr + n * mss) mss
  let bs := hs.foldl (fun b h => segHeader b n bs.length (decide (1 < hs.length ∧ h.1 = 0)) h.1 h.2) bs
  let t := tb + tk.l4.getD 0
  let fl := byteAt bs (t + 13)
  let keep := (if n = last then 0xFF else 0xF6) &&& (if n = 0 then 0xFF else 0x7F)
  let bs := patch bs (t + 4) (beBytes 4 (beAt bs (t + 4) 4 + n * mss))
  let bs := patch bs (t + 13) [BitVec.ofNat 8 (fl &&& keep)]
  let g := { f.mset 2 16 16 bs.length with bytes := bs, item := if n = 0 then f.item else none }
  d.txL3 (d.txL4 g)

/-- The segments in order: each a frame of its own for its Press pass. -/
def Dev.tsoFrames (d : Dev) (id : Nat) (f : Frame) (hdr mss : Nat) : Dev :=
  let last := (f.len - hdr - 1) / mss
  (List.range (last + 1)).foldl (fun d n =>
    let g := { d.segment f hdr mss n last with place := .press, offload := [] }
    if n = 0 then d.putFrame id g else (d.newFrame g).2) d

/-- TX_OFFLOAD on a host frame: its offload words are word 0 and word 4 of its entry (R404, R405). -/
def Dev.txOffload (d : Dev) (id : Nat) (f : Frame) : Dev :=
  let w0 := wordAt f.offload 0
  let hdr := Word.fld (wordAt f.offload 1) 8 8
  let mss := Word.fld (wordAt f.offload 1) 16 16
  let (tb, tk) := d.txTarget f
  if Word.bit w0 23 then
    if tk.l4type = 1 ∧ tk.pay.isSome = true ∧ hdr = tb + tk.pay.getD 0 ∧ mss ≠ 0 ∧ hdr + mss + 4 ≤ d.fld Reg.MAC_TX_CTRL 0 14 then
      d.tsoFrames id f hdr mss
    else (d.count (Reg.MAC_COUNTS 1) 1).freeFrame id
  else
    let c4 := Word.bit w0 24
    let c3 := Word.bit w0 25
    let has3 := (d.txHeaders f).any (fun h => decide (h.2.l3type = 1) && h.2.l4.isSome)
    let d' := (d.when (c3 && !has3) (fun d => d.count (Reg.MAC_COUNTS 0) 1)).when (c4 && !l4Able tk)
      (fun d => d.count (Reg.MAC_COUNTS 0) 1)
    let f := if c4 && l4Able tk then d.txL4 f else f
    let f := if c3 then d.txL3 f else f
    d'.putFrame id { f with place := .press, offload := [] }

/-! ## Coalescing (R407) -/

/-- A segment that may be coalesced: four-tuple, offset and length of its payload, IP header offset, sequence number, ACK,
flags, window, timestamp. -/
structure LroSeg where
  tuple : List Byte
  pay : Nat
  len : Nat
  seq : Nat
  ack : Nat
  push : Bool
  win : Nat
  ts : Nat

/-- A delivered frame read as TCP over plain IPv4 or IPv6, its only flags ACK and PSH, its only option the timestamp. -/
def lroSeg (bs : List Byte) : Option LroSeg :=
  let v4 := decide (beAt bs 12 2 = 0x0800 ∧ byteAt bs 14 = 0x45 ∧ byteAt bs 23 = 6 ∧ beAt bs 20 2 % 16384 = 0)
  let v6 := decide (beAt bs 12 2 = 0x86DD ∧ byteAt bs 20 = 6)
  let t := if v4 then 34 else 54
  let tot := if v4 then beAt bs 16 2 else 40 + beAt bs 18 2
  let fl := byteAt bs (t + 13)
  if !(v4 || v6) || decide (byteAt bs (t + 12) / 16 ≠ 8 ∨ beAt bs (t + 20) 4 ≠ 0x0101080A ∨ fl ||| 0x18 ≠ 0x18 ∨ bs.length < 14 + tot ∨
      14 + tot < t + 32) then none
  else some ⟨(if v4 then slice bs 26 8 else slice bs 22 32) ++ slice bs t 4, t + 32, 14 + tot - (t + 32), beAt bs (t + 4) 4,
    beAt bs (t + 8) 4, fl.testBit 3, beAt bs (t + 14) 2, beAt bs (t + 24) 4⟩

/-- Whether a delivery may be coalesced, by its slice and metadata. -/
def Dev.lroAble (d : Dev) (f : Frame) (v : Delivery) : Bool :=
  d.bit Reg.MAC_LRO_CTRL 31 && d.bit (Reg.MAC_LRO_SLICE (v.slice / 32)) (v.slice % 32) && decide (v.kind = kindRx) &&
  decide ((f.m 3 25 2 = 1 ∨ f.m 3 25 2 = 3) ∧ f.m 3 23 2 = 1 ∧ f.m 3 21 2 = 0) && !f.mbit 0 16

/-- The flow's context. -/
def isLro (s q : Nat) (t : List Byte) (c : LroCtx) : Bool := decide (c.slice = s ∧ c.sq = q ∧ c.tuple = t)

/-- A context flushes into the buffer it holds: the headers of the first segment, the whole frame's IP length, the last
segment's ACK, window and timestamp, an undefined TCP checksum. -/
def Dev.lroFlush (d : Dev) (c : LroCtx) : Dev :=
  let d := { d with mac := { d.mac with lro := d.mac.lro.filter (fun x => !isLro c.slice c.sq c.tuple x) } }
  let d := d.count (Reg.MAC_COUNTS 2) 1
  let give (d : Dev) (v : Delivery) : Dev := d.fillBuffer v c.item
  if c.bytes.length = c.first.bytes.length then give d c.first
  else
    let (ck, d) := d.freeBytes 2
    let t := c.pay - 32
    let bs := if t = 34 then writeL3 (patch c.bytes 16 (beBytes 2 (c.bytes.length - 14))) 0 { l3 := some 14, l3type := 1, l4 := some 34 }
      else patch c.bytes 18 (beBytes 2 (c.bytes.length - 54))
    let bs := patch (patch (patch bs (t + 8) (beBytes 4 c.ack)) (t + 14) (beBytes 2 c.win)) (t + 24) (beBytes 4 c.ts)
    give d { c.first with bytes := patch bs (t + 16) (ck.take 2) }

/-- The wrapped comparison of 32-bit sequence numbers: `a` is not before `b`. -/
def notBefore (a b : Nat) : Bool := decide ((a + 2 ^ 32 - b) % 2 ^ 32 < 2 ^ 31)

/-- A context opens on the SQ's next posted buffer; a segment with PSH, or one that finds no buffer or no free context,
is delivered by itself. -/
def Dev.lroOpen (d : Dev) (v : Delivery) (s : LroSeg) : Dev :=
  match d.bufferFor v with
  | some id =>
    if d.mac.lro.length < 4096 ∧ s.push = false then
      let d := d.setItem id (fun i => { i with phase := .loaded })
      { d with mac := { d.mac with lro := d.mac.lro ++
        [⟨v.slice, v.sq, s.tuple, v.bytes.take (s.pay + s.len), s.pay, (s.seq + s.len) % 2 ^ 32, s.ack, s.win, s.ts, v, id, d.now⟩] } }
    else d.deliver v
  | none => d.deliver v

/-- The longest frame a context may hold. -/
def Dev.lroLimit (d : Dev) (c : LroCtx) : Nat :=
  let max := d.fld Reg.MAC_LRO_CTRL 0 16
  match Map.get? d.rng.items c.item with
  | some i => Nat.min max (fragBytes i.frags)
  | none => max

/-- A delivery at the host port, coalesced where it qualifies. -/
def Dev.hostDeliver (d : Dev) (f : Frame) (v : Delivery) : Dev :=
  match lroSeg v.bytes with
  | none => d.deliver v
  | some s =>
    let able := d.lroAble f v
    match d.mac.lro.find? (isLro v.slice v.sq s.tuple) with
    | none => if able then d.lroOpen v s else d.deliver v
    | some c =>
      let next := able && decide (s.seq = c.expect ∧ c.win ≤ s.win) && notBefore s.ack c.ack && notBefore s.ts c.ts
      if !next then (d.lroFlush c).deliver v
      else if d.lroLimit c < c.bytes.length + s.len then (d.lroFlush c).lroOpen v s
      else
        let c' := { c with bytes := c.bytes ++ slice v.bytes s.pay s.len, expect := (s.seq + s.len) % 2 ^ 32, ack := s.ack,
                           win := s.win, ts := s.ts }
        let d := { d with mac := { d.mac with lro := d.mac.lro.map (fun x => if isLro c.slice c.sq c.tuple x then c' else x) } }
        if s.push then d.lroFlush c' else d

end Sys2Proof.Machine
end

