-- ==== Sys2Proof/Machine/StoOps.lean ====
section
/-! DEFINITION. Shared operations of storage: objects, connections, commands, completions, data units
(R360 to R372). -/

namespace Sys2Proof.Machine

/-! ## Connections (R367) -/

/-- A connection that is not FREE. -/
def Dev.conn? (d : Dev) (k : Nat) : Option StoConn := Map.get? d.sto.conns k

/-- STATE of a connection. -/
def Dev.connState (d : Dev) (k : Nat) : Nat := d.fld (Reg.STO_CONN_STATEk k) 29 3

/-- Commands a connection holds a device CID for. -/
def Dev.connOut (d : Dev) (k : Nat) : Nat := ((d.conn? k).map (fun c => c.cmds.length)).getD 0

/-- A connection changed; its count of outstanding commands shown. -/
def Dev.setConn (d : Dev) (k : Nat) (f : StoConn → StoConn) : Dev :=
  match d.conn? k with
  | some c =>
    let d := { d with sto := { d.sto with conns := Map.put d.sto.conns k (f c) } }
    d.setFld (Reg.STO_CONN_STATEk k) 16 9 (d.connOut k)
  | none => d

/-- An event of STO with its connection. -/
def Dev.stoEvt (d : Dev) (bit k : Nat) : Dev := (d.sqSet Reg.STO_EVT_STATUS [bit]).setN Reg.STO_EVT_CONN k

/-- A counter of STO_COUNTS. -/
def Dev.stoCount (d : Dev) (i : Nat) : Dev := d.count (Reg.STO_COUNTS i) 1

/-- A change of state: CONN_CHANGE, and CONN_FAILED on entering FAILED. -/
def Dev.setConnState (d : Dev) (k st : Nat) : Dev :=
  if d.connState k = st then d
  else
    let d := (d.setFld (Reg.STO_CONN_STATEk k) 29 3 st).stoEvt 0 k
    if st = 4 then d.stoEvt 1 k else d

/-- Fields of a connection's words: slice and incarnation; of an NVQ, its target and QUEUE. -/
def StoConn.slice (c : StoConn) : Nat := Word.fld (wordAt c.words 0) 0 13
def StoConn.incarnation (c : StoConn) : Nat := Word.fld (wordAt c.words 0) 16 8
def StoConn.targetOf (c : StoConn) : Nat := Word.fld (wordAt c.words 1) 16 15
def StoConn.queue (c : StoConn) : Nat := Word.fld (wordAt c.words 1) 0 10

/-- The NVQs of a target. -/
def Dev.nvqsOf (d : Dev) (k : Nat) : List Nat := Map.keys (Map.sift d.sto.conns (fun _ c => !c.target && decide (c.targetOf = k)))

/-- The connection whose NVQ has a device SQ. -/
def Dev.nvqOf (d : Dev) (q : Nat) : Option Nat :=
  Map.findKey? d.sto.conns (fun _ c => !c.target && decide (c.slice = d.qSlice 0 q ∧ c.queue = d.qNum 0 q))

/-! ## Completions (R366, R371) -/

/-- A completion entry is written to the NVQ's CQ; a failed one counts (R371, R185). -/
def Dev.stoComplete (d : Dev) (k cid : Nat) (result source code status : Nat) : Dev :=
  match d.conn? k with
  | none => d
  | some c =>
    match Map.get? c.cmds cid, d.queue? 0 c.slice c.queue, d.queue? 1 c.slice c.queue with
    | some m, some sq, some cq =>
      if m.done then d
      else
        let head := if d.qSize 0 sq = 0 then 0 else d.devIdx 0 sq % d.qSize 0 sq
        let host := Word.fld (wordAt m.entry 0) 16 16
        let d := if status % 2 ^ 15 ≠ 0 then ((d.stoCount 1).stat c.slice 5 1).walkCount c.slice false else d.walkCount c.slice true
        d.cqComplete cq [wd result, wd (source * 2 ^ 24 + code), wd (c.queue * 65536 + head), wd (status * 2 ^ 17 + host)]
    | _, _, _ => d

/-- A status: SCT, SC and DNR as the field of dword 3 from bit 17. -/
def nvmeStatus (sct sc : Nat) (dnr : Bool) : Nat := (if dnr then 2 ^ 14 else 0) + sct * 256 + sc

/-- A command ends towards the host and its CID is freed, or held until the target's response (R366). -/
def Dev.endCmd (d : Dev) (k cid : Nat) (hold : Bool) : Dev :=
  d.setConn k (fun c => { c with cmds := match Map.get? c.cmds cid with
    | some m => if hold then Map.put c.cmds cid { m with done := true } else Map.del c.cmds cid
    | none => c.cmds })

/-- The device fails a command (R371). -/
def Dev.failCmd (d : Dev) (k cid source code status : Nat) (hold : Bool) : Dev :=
  (d.stoComplete k cid 0 source code status).endCmd k cid hold

/-- Host Pathing Error. -/
def hostPathing (dnr : Bool) : Nat := nvmeStatus 3 0x70 dnr

/-- The cipher messages of a connection's data units, or of one command's, go on for nothing: they name no connection. -/
def Dev.dropUnits (d : Dev) (k : Nat) (cid : Option Nat) : Dev :=
  let mine (c i : Nat) : Bool := decide (c = k) && (match cid with
    | some j => decide (i = j)
    | none => true)
  { d with cry := { d.cry with msgs := Map.mapVals d.cry.msgs (fun _ m => match m.work with
      | .xtsOut c i u => if mine c i then { m with work := .xtsOut (2 ^ 15) i u } else m
      | .xtsIn c i u _ => if mine c i then { m with work := .xtsIn (2 ^ 15) i u [] } else m
      | _ => m) } }

/-- A connection leaves LIVE by a loss: its commands fail with Host Pathing Error (R367). -/
def Dev.loseOne (d : Dev) (k : Nat) : Dev :=
  match d.conn? k with
  | none => d
  | some c =>
    if d.connState k ≠ 2 then d
    else
      let d := (Map.keys c.cmds).foldl (fun d cid => d.failCmd k cid 3 0 (hostPathing false) false) d
      let d := ((d.dropUnits k none).countFld (Reg.STO_CONN_STATEk k) 0 8).setConn k (fun c => { c with lost := true, retrans := 0, cmds := [] })
      d.setConnState k 3

/-- A loss; a target's takes its NVQs with it. -/
def Dev.loseConn (d : Dev) (k : Nat) : Dev :=
  if d.connState k ≠ 2 then d
  else
    let qs := match d.conn? k with
      | some c => if c.target then d.nvqsOf k else []
      | none => []
    qs.foldl (fun d q => d.loseOne q) (d.loseOne k)

/-- A connection closes: what is outstanding on it fails (R367). -/
def Dev.closeConn (d : Dev) (k : Nat) : Dev :=
  match d.conn? k with
  | none => d
  | some c =>
    let d := (Map.keys c.cmds).foldl (fun d cid => d.failCmd k cid 3 0 (hostPathing false) false) d
    ((d.dropUnits k none).setConn k (fun c => { c with cmds := [] })).setConnState k 5

/-- A closed connection becomes FREE: its unit of pool 5 and its queue numbers return (R361). -/
def Dev.freeConn (d : Dev) (k : Nat) : Dev :=
  match d.conn? k with
  | none => d
  | some c =>
    let d := (d.setConnState k 0).setN (Reg.STO_CONN_STATEk k) 0
    let d := { d with sto := { d.sto with conns := Map.del d.sto.conns k } }
    let d := if c.target then d else (d.freeQueue 0 c.slice c.queue).freeQueue 1 c.slice c.queue
    d.poolFree c.slice 5 1

/-! ## Objects (R361 to R365) -/

/-- A slice that is live with this incarnation. -/
def Dev.sliceLive (d : Dev) (s inc : Nat) : Bool :=
  decide (d.sliceState s ≠ 0 ∧ d.sliceState s ≠ 5 ∧ d.incarnation s = inc)

/-- Reserved bits of a target's words (R363). -/
def targetBad (ws : List Word) : Bool :=
  let w (i : Nat) : Word := wordAt ws i
  decide (2 ≤ Word.fld (w 0) 30 2 ∨ Word.fld (w 0) 24 3 ≠ 0 ∨ Word.fld (w 0) 13 3 ≠ 0 ∨ Word.fld (w 2) 14 2 ≠ 0 ∨ Word.fld (w 15) 16 16 ≠ 0) ||
  !((bytesOf (ws.drop 16)).take 192).contains 0

/-- A power of two from 16 to 4,096. -/
def nvqSizeOk (n : Nat) : Bool := [16, 32, 64, 128, 256, 512, 1024, 2048, 4096].contains n

/-- Range and checks of an NVQ's words (R364). -/
def Dev.nvqBad (d : Dev) (ws : List Word) : Bool :=
  let w (i : Nat) : Word := wordAt ws i
  let size := (w 2).toNat
  decide (Word.fld (w 0) 13 3 ≠ 0 ∨ Word.fld (w 0) 24 8 ≠ 0 ∨ Word.fld (w 1) 10 6 ≠ 0 ∨ Word.bit (w 1) 31 = true ∨
    Word.fld (w 7) 18 2 ≠ 0) || !nvqSizeOk size ||
  decide (cat64 (w 3) (w 4) % (size * 64) ≠ 0 ∨ cat64 (w 5) (w 6) % (size * 16) ≠ 0) ||
  (match d.conn? (Word.fld (w 1) 16 15) with
   | some c => !c.target || decide (c.slice ≠ Word.fld (w 0) 0 13 ∨ c.incarnation ≠ Word.fld (w 0) 16 8)
   | none => true)

/-- Range and checks of a namespace's words (R365). -/
def Dev.nsBad (d : Dev) (i : Nat) (ws : List Word) : Bool :=
  let w (i : Nat) : Word := wordAt ws i
  let s := Word.fld (w 0) 0 13
  let lbads := Word.fld (w 3) 0 5
  let nsid := (w 1).toNat
  decide (Word.fld (w 0) 13 3 ≠ 0 ∨ Word.fld (w 0) 24 7 ≠ 0 ∨ Word.fld (w 3) 5 3 ≠ 0 ∨ Word.bit (w 3) 31 = true ∨
    Word.fld (w 4) 20 12 ≠ 0 ∨ nsid = 0 ∨ nsid = 0xFFFFFFFF ∨ 128 < Word.fld (w 3) 8 8 ∨ lbads < 9 ∨ 16 < lbads) ||
  d.sto.namespaces.any (fun n => decide (n.1 ≠ i ∧ Word.fld (wordAt n.2 0) 0 13 = s ∧ wordAt n.2 1 = w 1)) ||
  (match d.conn? (Word.fld (w 3) 16 15) with
   | some c => !c.target || decide (c.slice ≠ s ∨ c.incarnation ≠ Word.fld (w 0) 16 8)
   | none => true) ||
  (Word.bit (w 0) 31 && (match d.saLive (Word.fld (w 4) 0 20) with
   | some a => decide (a.slice ≠ s ∨ a.suite ≠ 4 ∨ 2 ^ lbads % (if Word.bit a.spi 0 then 4096 else 512) ≠ 0)
   | none => true))

/-- A target created: CONNECTING (R363, R367). -/
def Dev.makeTarget (d : Dev) (k : Nat) (ws : List Word) : Dev :=
  let d := d.poolTake (Word.fld (wordAt ws 0) 0 13) 5 1
  let d := { d with sto := { d.sto with conns := Map.put d.sto.conns k ⟨true, ws.set 15 0, [], 0, 0, 0, false⟩ } }
  (d.setN (Reg.STO_CONN_STATEk k) (2 ^ 28)).setConnState k 1

/-- The lowest QID from 1 that is free on a target. -/
def Dev.freeQid (d : Dev) (k : Nat) : Nat :=
  let used := (d.nvqsOf k).map (fun q => ((d.conn? q).map (fun c => Word.fld (wordAt c.words 8) 0 16)).getD 0)
  (((List.range (used.length + 1)).map (· + 1)).find? (fun i => !used.contains i)).getD 1

/-- An NVQ created: its SQ and CQ numbers are taken and its connection is CONNECTING (R364, R367). -/
def Dev.makeNvq (d : Dev) (k : Nat) (ws : List Word) : Option Dev :=
  let w (i : Nat) : Word := wordAt ws i
  let s := Word.fld (w 0) 0 13
  let n := Word.fld (w 1) 0 10
  let size := (w 2).toNat % 65536
  if (d.queue? 0 s n).isSome ∨ (d.queue? 1 s n).isSome then none
  else
    match d.makeQueue 1 s n [w 5, w 6, wd (2 * 2 ^ 30 + size), w 7] with
    | none => none
    | some (_, d) =>
      match d.makeQueue 0 s n [w 3, w 4, wd (2 * 2 ^ 28 + n * 65536 + size), 0] with
      | none => none
      | some (_, d) =>
        let t := Word.fld (w 1) 16 15
        let d := d.poolTake s 5 1
        let d := { d with sto := { d.sto with
          conns := Map.put d.sto.conns k ⟨false, ws.take 8 ++ [wd (d.freeQid t)], [], 0, 0, 0, false⟩ } }
        some ((d.setN (Reg.STO_CONN_STATEk k) 0).setConnState k 1)

/-! ## Data units (R351, R370) -/

/-- Fields of a namespace. -/
def nsEncrypts (w : List Word) : Bool := Word.bit (wordAt w 0) 31
def nsLba (w : List Word) : Nat := 2 ^ Word.fld (wordAt w 3) 0 5
def nsMeta (w : List Word) : Nat := Word.fld (wordAt w 3) 8 8
def nsSa (w : List Word) : Nat := Word.fld (wordAt w 4) 0 20

/-- Bytes of a data unit of an SA. -/
def SecAssoc.unit (a : SecAssoc) : Nat := if Word.bit a.spi 0 then 4096 else 512

/-- Where data unit `k` of a transfer stands among its bytes: MS metadata bytes follow each LBA. -/
def unitOffset (ns : List Word) (u k : Nat) : Nat :=
  let per := nsLba ns / u
  k / per * (nsLba ns + nsMeta ns) + k % per * u

/-- The tweak of data unit `k`: (L × S / U) + k + TWEAK_BASE as 128 bits, little-endian. -/
def unitTweak (a : SecAssoc) (ns : List Word) (lba k : Nat) : List Byte :=
  (beBytes 16 (lba * nsLba ns / a.unit + k + cat64 (wordAt a.words 12) (wordAt a.words 13))).reverse

/-- The data units of a transfer. -/
def unitsOf (a : SecAssoc) (ns : List Word) (blocks : Nat) : Nat := blocks * (nsLba ns / a.unit)

/-- The SA of a namespace a command uses, if it is LIVE. -/
def Dev.nsOf (d : Dev) (m : StoCmd) : List Word := (Map.get? d.sto.namespaces m.ns).getD []

/-- The ordering source of a connection's cipher messages. -/
def srcConn (k : Nat) : Nat := 0x200000 + k

/-- A message for each data unit of a transfer goes to the cipher at U3. -/
def Dev.cipherUnits (d : Dev) (k cid : Nat) (m : StoCmd) (out : Bool) : Dev :=
  let ns := d.nsOf m
  match d.sa? (nsSa ns) with
  | none => d
  | some a =>
    let n := unitsOf a ns m.blocks
    let d := d.setConn k (fun c => { c with cmds := Map.put c.cmds cid { m with units := n } })
    let s := match d.conn? k with
      | some c => c.slice
      | none => 0
    (List.range n).foldl (fun d u =>
      d.cipherArrive (if out then .xtsOut k cid u else .xtsIn k cid u (slice m.data (unitOffset ns a.unit u) a.unit)) 3 (srcConn k)
        (a.unit / 16) (some s)) d

/-! ## Sending (R366) -/

/-- In-capsule data: at most 8 KiB and within the target's size. -/
def StoConn.inCap (c : StoConn) (n : Nat) : Bool := decide (n ≤ 8192 ∧ n ≤ c.inCapsule)

/-- The capsule's entry: device CID, the target's NSID, the transport data pointer. -/
def capsuleEntry (m : StoCmd) (cid : Nat) (ns : List Word) (inl : Bool) (len : Nat) : List Word :=
  let e := m.entry
  let e := e.set 0 (Word.setFld (Word.setFld (wordAt e 0) 16 16 cid) 14 2 1)
  let e := ((e.set 1 (wordAt ns 2)).set 6 0).set 7 0
  (e.set 8 (wd len)).set 9 (wd ((if inl then 0x01 else 0x5A) * 2 ^ 24))

/-- A write's bytes. -/
def StoCmd.writes (m : StoCmd) : Bool :=
  let op := Word.fld (wordAt m.entry 0) 0 8
  decide (op = 1 ∨ op = 9 ∨ (op = 8 ∧ m.data ≠ []))

/-- The command's capsule is sent, with its data where they travel in it; data asked for by R2T goes when the cipher is
through with it. PDU types: 4 CapsuleCmd, 6 H2CData. -/
def Dev.sendCmd (d : Dev) (k cid : Nat) : Dev :=
  match d.conn? k with
  | none => d
  | some c =>
    match Map.get? c.cmds cid with
    | none => d
    | some m =>
      let n := m.data.length
      let inl := m.writes && c.inCap n
      let ready := decide (m.units = 0)
      let put (d : Dev) (m : StoCmd) : Dev := d.setConn k (fun c => { c with cmds := Map.put c.cmds cid m })
      if !m.sent ∧ (!inl ∨ ready = true) then
        let w := capsuleEntry m cid (d.nsOf m) inl n
        put (d.emit (.capsule k 4 (w ++ (if inl then wordsOf (ceilDiv n 4) m.data else [])))) { m with sent := true }
      else if m.sent && ready && m.writes && !m.r2t.isEmpty then
        let d := m.r2t.foldl (fun d r => d.emit (.capsule k 6 ([wd cid, wd r.1, wd r.2] ++ wordsOf (ceilDiv r.2 4) (slice m.data r.1 r.2)))) d
        put d { m with r2t := [] }
      else d

/-- The command's data have all been moved and the target has answered: the completion is written (R366). -/
def Dev.settleCmd (d : Dev) (k cid : Nat) : Dev :=
  match (d.conn? k).bind (fun c => Map.get? c.cmds cid) with
  | some m =>
    (match m.resp with
     | some r =>
       if m.units = 0 then
         (d.stoComplete k cid (wordAt r 0).toNat 0 0 (Word.fld (wordAt r 3) 17 15)).endCmd k cid false
       else d
     | none => d)
  | none => d

/-- A data unit has passed the cipher: its bytes take their place; the last one lets the data go on (R370). -/
def Dev.unitDone (d : Dev) (k cid u : Nat) (out : Bool) (bytes : List Byte) : Dev :=
  match (d.conn? k).bind (fun c => Map.get? c.cmds cid) with
  | none => d
  | some m =>
    let ns := d.nsOf m
    match d.sa? (nsSa ns) with
    | none => d
    | some a =>
      let m := { m with data := patch m.data (unitOffset ns a.unit u) bytes, units := m.units - 1 }
      let d := d.setConn k (fun c => { c with cmds := Map.put c.cmds cid m })
      let s := ((d.conn? k).map StoConn.slice).getD 0
      if m.units ≠ 0 ∨ m.done = true then d
      else if out then (d.sendCmd k cid).sendCmd k cid
      else (d.scatter s m.frags m.data).settleCmd k cid

/-- A data unit failed in the cipher: its command fails with Data Transfer Error, SOURCE 2 (R357, R371). -/
def Dev.unitFailed (d : Dev) (k cid : Nat) (code : Nat) : Dev :=
  match (d.conn? k).bind (fun c => Map.get? c.cmds cid) with
  | some m => (d.dropUnits k (some cid)).failCmd k cid 2 code (nvmeStatus 0 0x04 false) (m.sent && m.resp.isNone)
  | none => d

end Sys2Proof.Machine
end

