-- ==== Sys2Proof/Machine/Pairs.lean ====
section
/-! DEFINITION. The pairs of the later groups that must agree at a strobe, and what their registers do once committed
(R46, R108, R109, R252, R283, R292, R334, R396, R423 to R436, R461). -/

namespace Sys2Proof.Machine

/-- Where a key lies in a block of `n` copies, `stride` bytes apart, of `len` bytes from `base` on: its copy and offset. -/
def inRows (k base stride n len : Nat) : Option (Nat × Nat) :=
  if base ≤ k ∧ k < base + n * stride ∧ (k - base) % stride < len then some ((k - base) / stride, (k - base) % stride) else none

/-- The cluster and thread, the cluster and channel, whose CFG register a key is. -/
def thrCfgAt (k : Nat) : Option (Nat × Nat) :=
  (inRows k (Reg.FPC_THR_CFG 0 0) 0x100000 8 0x1000).bind (fun p => if p.2 % 0x40 < 4 then some (p.1, p.2 / 0x40) else none)
def chanCfgAt (k : Nat) : Option (Nat × Nat) :=
  (inRows k (Reg.FPC_CHh_CFG 0 0) 0x100000 8 0x1000).bind (fun p => if p.2 % 0x10 < 4 then some (p.1, p.2 / 0x10) else none)

/-! ## Rule tables (R252) -/

/-- CFG, BASE and SIZE of a table as staged: two-bank, bank, first row, rows. -/
def Dev.tblStaged (d : Dev) (t : Nat) : Bool × Nat × Nat × Nat :=
  let c := d.staged (Reg.CLS_TBLt_CFG t)
  let n := Word.fld (d.staged (Reg.CLS_TBLt_SIZE t)) 0 22
  (Word.bit c 30, Word.fld c 29 1, Word.fld (d.staged (Reg.CLS_TBLt_BASE t)) 0 21, n * rowsOf (Word.fld c 26 3))

/-- A table that lies outside its bank, has a wrong SIZE, shares a row with another, or makes the single-bank tables hold
more than 1 Mi rows. -/
def Dev.tblBad (d : Dev) (t : Nat) : Bool :=
  let (two, bank, base, rows) := d.tblStaged t
  let single := ((List.range 16).map (fun u => if (d.tblStaged u).1 then 0 else (d.tblStaged u).2.2.2)).sum
  !tblSizeOk (Word.fld (d.staged (Reg.CLS_TBLt_SIZE t)) 0 22) || decide (2 ^ 21 < base + rows ∨ 2 ^ 20 < single) ||
  (List.range 16).any (fun u =>
    let (two', bank', base', rows') := d.tblStaged u
    decide (u ≠ t ∧ rows ≠ 0 ∧ rows' ≠ 0 ∧ base < base' + rows' ∧ base' < base + rows) &&
    (two || two' || decide (bank = bank')))

/-! ## Entries of the process bus (R423, R427, R433, R436) -/

/-- Bytes of a staged entry from a word on. -/
def Dev.stagedBytes (d : Dev) (k n : Nat) : List Byte :=
  (bytesOf ((List.range (ceilDiv n 4)).map (fun i => d.staged (k + 4 * i)))).take n

/-- Indices of a table's entries that hold any active or staged word. -/
def Dev.listedEnts (d : Dev) (base size n : Nat) : List Nat :=
  let f (k : Nat) : Option Nat := if base ≤ k ∧ k < base + n * size ∧ (k - base) % size = 0 then some ((k - base) / size) else none
  (d.rf.act.filterMap (fun e => f e.1) ++ d.rf.stg.filterMap (fun e => f e.1)).eraseDups

/-- The identity of a staged stream or subscription: destination, APPID, name. -/
def Dev.stagedId (d : Dev) (base at_ : Nat) : List Byte × Nat × List Byte :=
  (d.stagedBytes (base + 4) 6, Word.fld (d.staged base) 0 16,
   d.stagedBytes (base + 4 * (at_ + 1)) (Word.fld (d.staged (base + 4 * at_)) 0 8))

/-- Another VALID entry of a table has the same identity. -/
def Dev.sameId (d : Dev) (base size n i at_ : Nat) : Bool :=
  let k := base + i * size
  Word.bit (d.staged k) 31 && (d.listedEnts base size n).any (fun j =>
    decide (j ≠ i) && Word.bit (d.staged (base + j * size)) 31 && decide (d.stagedId (base + j * size) at_ = d.stagedId k at_))

/-- A staged group that R427 refuses. -/
def Dev.grpBad (d : Dev) (g : Nat) : Bool :=
  let w (i : Nat) : Word := d.staged (Reg.PBU_GRP g i)
  let s := Word.fld (w 0) 0 13
  let inc := Word.fld (w 0) 16 8
  let ss := (List.range (Word.fld (w 0) 24 5 + 1)).map (fun i => Word.fld (w (8 + i / 2)) (16 * (i % 2)) 10)
  let rate (i : Nat) : Nat := Word.fld (d.staged (Reg.PBU_SV i 3)) 0 14
  let own (i : Nat) : Word := d.staged (Reg.PBU_SV i 5)
  let slots := Word.fld (w 4) 0 17
  Word.bit (w 0) 31 &&
  (ss.any (fun i => !Word.bit (d.staged (Reg.PBU_SV i 0)) 31 || !Word.bit (own i) 23 ||
      decide (Word.fld (own i) 0 13 ≠ s ∨ Word.fld (own i) 24 8 ≠ inc ∨ rate i ≠ rate (ss.headD 0))) ||
   !((List.range 13).any (fun i => decide (slots = 2 ^ (i + 4)))) || !d.bit (Reg.SLC_SLICE_STATUS s 0) 23 ||
   (match d.queue? 1 s (Word.fld (w 1) 0 10) with
    | some q => !d.cqDet q || decide (slots < d.qSize 1 q + 64)
    | none => true))

/-- A staged publication that R436 refuses: its template does not parse, its port is absent, its feed SQ is no
deterministic transmit SQ of the slice or serves another stream. -/
def Dev.pubBad (d : Dev) (i : Nat) : Bool :=
  let w (j : Nat) : Word := d.staged (Reg.PBU_PUB i j)
  let len := Word.fld (w 4) 0 11
  let s := Word.fld (w 0) 0 13
  let sq := Word.fld (w 1) 0 10
  Word.bit (w 0) 31 &&
  ((d.tplParts (d.stagedBytes (Reg.PBU_PUB i 16) len)).isNone || decide (len < 60 ∨ 1514 < len ∨ Word.fld (w 2) 16 16 = 0) ||
   !d.portPresent (Word.fld (w 0) 16 4) ||
   (match d.queue? 0 s sq with
    | some q => decide (d.qType 0 q ≠ 0 ∨ d.sqClass q ≠ 0)
    | none => true) ||
   (d.listedEnts (Reg.PBU_PUB 0 0) 0x800 256).any (fun j => decide (j ≠ i) && Word.bit (d.staged (Reg.PBU_PUB j 0)) 31 &&
     decide (Word.fld (d.staged (Reg.PBU_PUB j 0)) 0 13 = s ∧ Word.fld (d.staged (Reg.PBU_PUB j 1)) 0 10 = sq)))

/-! ## The pair a register belongs to -/

/-- The pair of a register of groups 8 to 20: its registers, the offset to report, whether the staged values disagree. -/
def Dev.pairLate (d : Dev) (k : Nat) : Option (List Nat × Nat × Bool) :=
  match inRows k (Reg.CLS_TBLt_CFG 0) 0x20 16 12 with
  | some (t, _) =>
    some ([Reg.CLS_TBLt_CFG t, Reg.CLS_TBLt_BASE t, Reg.CLS_TBLt_SIZE t], Reg.CLS_TBLt_BASE t, d.tblBad t)
  | none =>
  match inRows k Reg.FWD_FLOW_BASE_LO 12 1 12 with
  | some _ =>
    let n := Word.fld (d.staged Reg.FWD_FLOW_SIZE) 0 27
    let base := cat64 (d.staged Reg.FWD_FLOW_BASE_LO) (d.staged Reg.FWD_FLOW_BASE_HI)
    let ok := decide (n = 0) || ((List.range 25).any (fun i => decide (n = 2 ^ (i + 2))) &&
      decide (base % (n * 64) = 0 ∧ base + n * 64 ≤ 48 * 2 ^ 30))
    some ([Reg.FWD_FLOW_BASE_LO, Reg.FWD_FLOW_BASE_HI, Reg.FWD_FLOW_SIZE], Reg.FWD_FLOW_BASE_LO, !ok)
  | none =>
  if k = Reg.TCM_CTRL then
    let a := 1024 * d.fld k 16 8
    let b := 1024 * Word.fld (d.staged k) 16 8
    some ([k], k, d.fwd.tcm.any (fun e => tcmValid e.2 && decide (Nat.min a b ≤ e.1 ∧ e.1 < Nat.max a b)))
  else
  match thrCfgAt k with
  | some _ =>
    let w := d.staged k
    some ([k], k, decide (512 < Word.fld w 0 9 + Word.fld w 9 9 + 1))
  | none =>
  match chanCfgAt k with
  | some _ =>
    let w := d.staged k
    let n := 2 ^ Word.fld w 26 4
    some ([k], k, Word.bit w 31 && decide (Word.fld w 26 4 < 2 ∨ 10 < Word.fld w 26 4 ∨ Word.fld w 0 13 % n ≠ 0 ∨
      8192 < Word.fld w 0 13 + n))
  | none =>
  match inRows k (Reg.SCH_NCFG0 0) 0x20 65536 8 with
  | some (n, _) =>
    some ([Reg.SCH_NCFG0 n, Reg.SCH_NCFG1 n], Reg.SCH_NCFG0 0, decide ((d.staged (Reg.SCH_NCFG1 n)).toNat < (d.staged (Reg.SCH_NCFG0 n)).toNat))
  | none =>
  match inRows k (Reg.MAC_PGg_MODE 0) 4 2 4 with
  | some _ =>
    let w := d.staged k
    some ([k], k, !fecOk (Word.fld w 29 3) (Word.fld w 27 2))
  | none =>
  match inRows k (Reg.PBU_SV 0 0) 0x100 1024 192 with
  | some (i, _) => some ((List.range 48).map (fun j => Reg.PBU_SV i j), Reg.PBU_ENT_DATA 0, d.sameId (Reg.PBU_SV 0 0) 0x100 1024 i 6)
  | none =>
  match inRows k (Reg.PBU_GRP 0 0) 0x100 256 256 with
  | some (g, _) => some ((List.range 64).map (fun j => Reg.PBU_GRP g j), Reg.PBU_ENT_DATA 0, d.grpBad g)
  | none =>
  match inRows k (Reg.PBU_SUB 0 0) 0x100 4096 192 with
  | some (i, _) => some ((List.range 48).map (fun j => Reg.PBU_SUB i j), Reg.PBU_ENT_DATA 0, d.sameId (Reg.PBU_SUB 0 0) 0x100 4096 i 9)
  | none =>
  match inRows k (Reg.PBU_PUB 0 0) 0x800 256 2048 with
  | some (i, _) => some ((List.range 512).map (fun j => Reg.PBU_PUB i j), Reg.PBU_ENT_DATA 0, d.pubBad i)
  | none =>
  match inRows k (Reg.TRL_WINw_BASE_LO 0) 0x20 16 12 with
  | some (w, _) =>
    let n := Word.fld (d.staged (Reg.TRL_WINw_SIZE w)) 0 21
    let base := cat64 (d.staged (Reg.TRL_WINw_BASE_LO w)) (d.staged (Reg.TRL_WINw_BASE_HI w))
    some ([Reg.TRL_WINw_BASE_LO w, Reg.TRL_WINw_BASE_HI w, Reg.TRL_WINw_SIZE w], Reg.TRL_WINw_BASE_LO w,
      decide (n ≠ 0) && (!((List.range 21).any (fun i => decide (n = 2 ^ i))) || decide (base % (n * 4096) ≠ 0)))
  | none => none

/-! ## What a committed register does at once -/

/-- A stream's identity, RATE or CHANNELS has changed: its rows are emptied (R425). -/
def Dev.svChanged (d : Dev) (i : Nat) : Dev := { d with pbu := { d.pbu with rows := Map.del d.pbu.rows i } }

/-- Words of a stream entry that a change of empties its rows: APPID and CHANNELS, DMAC, RATE, svID. -/
def svKeyWord (j : Nat) (old new : Word) : Bool :=
  if j = 0 then decide (Word.fld old 0 16 ≠ Word.fld new 0 16 ∨ Word.fld old 22 5 ≠ Word.fld new 22 5)
  else (decide (j = 1 ∨ j = 2 ∨ j = 3 ∨ j = 6 ∨ (8 ≤ j ∧ j ≤ 40))) && decide (old ≠ new)

/-- The effect of a committed register of the later groups, its old value given. -/
def Dev.hookLate (d : Dev) (k : Nat) (old : Word) : Dev :=
  let new := d.reg k
  match inRows k (Reg.CLS_TBLt_CFG 0) 0x20 16 12 with
  | some (t, _) => if new = old then d else d.tblChanged t
  | none =>
  match thrCfgAt k with
  | some (c, l) => d.thrEnable (64 * c + l) (Word.bit old 31) (Word.bit new 31)
  | none =>
  match chanCfgAt k with
  | some (c, h) => if Word.bit old 31 ≠ Word.bit new 31 ∨ Word.fld old 26 4 ≠ Word.fld new 26 4 ∨ Word.fld old 0 13 ≠ Word.fld new 0 13
      then d.chanChanged c h else d
  | none =>
  match inRows k (Reg.SCH_NCFG0 0) 0x20 65536 16 with
  | some (n, o) => if o = 12 then (d.nodeChanged n 3 old).nodeMoved n old else d.nodeChanged n (o / 4) old
  | none =>
  match inRows k (Reg.MAC_PGg_MODE 0) 4 2 4 with
  | some (g, _) => d.modeChanged g old
  | none =>
  match inRows k (Reg.MAC_PORTp_CTRL 0) 0x400 16 4 with
  | some (p, _) => d.portCtrl p old
  | none =>
  match inRows k (Reg.MAC_PAIRk 0) 4 8 4 with
  | some (j, _) => (d.pairChanged j).showPair
  | none =>
  match inRows k (Reg.PBU_SV 0 0) 0x100 1024 192 with
  | some (i, o) => if svKeyWord (o / 4) old new then d.svChanged i else d
  | none =>
  match inRows k (Reg.PBU_SUB 0 0) 0x100 4096 4 with
  | some (i, _) => if Word.bit old 31 && !Word.bit new 31 then { d with pbu := { d.pbu with subs := Map.del d.pbu.subs i } } else d
  | none =>
  match inRows k (Reg.PBU_PUB 0 0) 0x800 256 4 with
  | some (i, _) => if Word.bit old 31 && !Word.bit new 31 then { d with pbu := { d.pbu with pubs := Map.del d.pbu.pubs i } } else d
  | none =>
  match inRows k (Reg.TRL_PORTt_CTRL 0) 0x20 4 4 with
  | some (t, _) => d.trlPortCtrl t old
  | none =>
  match inRows k (Reg.TRL_MEMBER 0 0) 16 512 4 with
  | some (i, _) => d.memberChanged i old
  | none => if k = Reg.TRL_DOMAIN then d.domainChanged old else if k = Reg.GLB_PAIR then d.showPair else d

/-- A group that is to change at a strobe delivers its waiting set first, with its flags as they stand (R427). -/
def Dev.beforeLate (d : Dev) (k : Nat) : Dev :=
  match inRows k (Reg.PBU_GRP 0 0) 0x100 256 256 with
  | some (g, _) => d.completeSet g false
  | none => d

end Sys2Proof.Machine
end

