-- ==== Sys2Proof/Machine/Strobe.lean ====
section
/-! DEFINITION. The bottling strobe: pairs that must agree, what a group's strobe applies, direct mode, discard
(R101 to R112). -/

namespace Sys2Proof.Machine

/-! ## Shadow sets (R111) -/

/-- A channel with a shadow set: an angle-event channel, a DMA channel, a port's gate list. -/
inductive Shadow where
  | event (c : Nat) | dma (c : Nat) | gates (p : Nat)
deriving DecidableEq, Repr

/-- The shadow set a register belongs to. -/
def shadowOf (k : Nat) : Option Shadow :=
  let e := Reg.GAU_SHADOW 0
  let m := Reg.DMA_CHc_BASE_LO 0
  let g := Reg.SCH_PORTp_CTRL 0
  if e ≤ k ∧ k < e + 0x10000 then some (.event ((k - e) / 1024))
  else if m ≤ k ∧ k < m + 64 * 0x40 ∧ (k - m) % 0x40 < 0x14 then some (.dma ((k - m) / 0x40))
  else if g ≤ k ∧ k < g + 16 * 0x400 ∧ (4 = (k - g) % 0x400 ∨ (0x100 ≤ (k - g) % 0x400 ∧ (k - g) % 0x400 < 0x200))
    then some (.gates ((k - g) / 0x400))
  else none

/-- The channel is marked pending. -/
def Dev.shadowPending (d : Dev) : Shadow → Bool
  | .event c => d.chanPending c
  | .dma c => d.chPending c
  | .gates p => d.gatePending p

/-- Staged writes that wait for a strobe: those of a pending channel travel with its hand-over (R103). -/
def Dev.waitsStrobe (d : Dev) (k : Nat) : Bool :=
  match shadowOf k with
  | some s => !d.shadowPending s
  | none => true

/-- GLB_STAGED: the groups that hold staged writes (R107). -/
def Dev.stagedMask (d : Dev) : Nat :=
  (List.range 23).foldl (fun b g =>
    if d.rf.stg.any (fun p => decide (groupOf p.1 = g) && d.waitsStrobe p.1) then b + 2 ^ g else b) 0

/-! ## Pairs that must agree (R108, R109) -/

/-- A ring size of a queue: a power of two from 16 to 32,768. -/
def qSizeOk (n : Nat) : Bool :=
  [16, 32, 64, 128, 256, 512, 1024, 2048, 4096, 8192, 16384, 32768].contains n

/-- The registers of a queue that a key among the per-queue registers belongs to: kind and device number. -/
def queueOf (k : Nat) : Option (Nat × Nat) :=
  if 0x20000000 ≤ k ∧ k < 0x21000000 then some ((k - 0x20000000) / 0x800000, (k - 0x20000000) % 0x800000 / 64)
  else none

/-- The registers of the pair a register belongs to, the BAR0 offset of its first field, and whether the staged
values disagree (R109, and the class rule of R225, which is refused the same way). -/
def Dev.pairOf (d : Dev) (k : Nat) : Option (List Nat × Nat × Bool) :=
  let st (k : Nat) : Word := d.staged k
  if k = Reg.EBS_THERMAL_CTRL then
    some ([k], k, decide (Word.fld (st k) 8 8 < Word.fld (st k) 0 8 + 5))
  else if k = Reg.EBS_RESERVE then
    some ([k], k, decide (255 < Word.fld (st k) 0 8 + Word.fld (st k) 8 8))
  else if k = Reg.GAU_TIE ∨ k ∈ (List.range 4).map Reg.GAU_REFn_CTRL then
    some (Reg.GAU_TIE :: (List.range 4).map Reg.GAU_REFn_CTRL, Reg.GAU_TIE,
      tieBad (st Reg.GAU_TIE) (fun n => Word.bit (st (Reg.GAU_REFn_CTRL n)) 0))
  else match queueOf k with
  | some (cq, q) =>
    let c := st (Reg.RNG_QCFG2 cq q)
    let size := Word.fld c 0 16
    let base := cat64 (st (Reg.RNG_QCFG0 cq q)) (st (Reg.RNG_QCFG1 cq q))
    let det := decide (Word.fld c 28 2 = 3)
    let mixed := decide (cq = 0) && (match d.boundCq q with
      | some b => det != d.cqDet b
      | none => false)
    some ([Reg.RNG_QCFG0 cq q, Reg.RNG_QCFG1 cq q, Reg.RNG_QCFG2 cq q], Reg.RNG_QCFGm 0,
      !qSizeOk size || decide (base % (size * (if cq = 0 then 64 else 32)) ≠ 0) || mixed)
  | none =>
    match shadowOf k with
    | some (.dma c) =>
      let size := Word.fld (st (Reg.DMA_CHc_CTRL c)) 0 16
      let base := cat64 (st (Reg.DMA_CHc_BASE_LO c)) (st (Reg.DMA_CHc_BASE_HI c))
      some ([Reg.DMA_CHc_BASE_LO c, Reg.DMA_CHc_BASE_HI c, Reg.DMA_CHc_CTRL c], Reg.DMA_CHc_BASE_LO c,
        decide (size ≠ 0 ∧ base % (size * 32) ≠ 0))
    | _ => d.pairLate k

/-- The staged registers of a group, lowest first; those of the energy group with the thermal pair first, in the
order of the table of R109. -/
def Dev.groupKeys (d : Dev) (g : Nat) : List Nat :=
  let ks := (d.rf.stg.filter (fun p => decide (groupOf p.1 = g))).map Prod.fst
  if g = 7 then ks.reverse else ks

/-- The first disagreeing pair of a group, as the offset of its first field. -/
def Dev.groupBad (d : Dev) (g : Nat) : Option Nat :=
  (d.groupKeys g).findSome? (fun k =>
    match d.pairOf k with
    | some (_, off, bad) => if bad then some off else none
    | none => none)

/-! ## What a committed register does at once -/

/-- A cap below 80 W is held to it (R72). -/
def Dev.clampCap (d : Dev) (k : Nat) : Dev :=
  if d.fld k 0 16 < 800 then (d.setFld k 0 16 800).sqSet Reg.EBS_STATUS [5] else d

/-- The effect a block gives to a register whose committed value has just changed, its old value given. -/
def Dev.hook (d : Dev) (k : Nat) (old : Word) : Dev :=
  if k ∈ (List.range 4).map Reg.GAU_REFn_CTRL then
    d.refEnable ((k - Reg.GAU_REFn_CTRL 0) / 0x40) (d.bit k 0)
  else if k ∈ (List.range 64).map Reg.GAU_CHANc_CTRL then
    (if d.reg k = old then d else d.passChan ((k - Reg.GAU_CHANc_CTRL 0) / (Reg.GAU_CHANc_CTRL 1 - Reg.GAU_CHANc_CTRL 0)))
  else if k = Reg.GAU_TIE then (if d.reg k = old then d else { d with gau := { d.gau with tieAt := d.now } })
  else if k = Reg.EBS_CAP_HOST ∨ k = Reg.EBS_CAP_BMC then d.clampCap k
  else d.hookLate k old

/-- One staged register takes its staged value; a shadow register stays in its shadow set and its channel is marked
pending (R55, R101, R103, R224, R386). -/
def Dev.applyKey (d : Dev) (k : Nat) : Dev :=
  match Map.get? d.rf.stg k with
  | none => d
  | some e =>
    match shadowOf k with
    | some (.event c) => d.markChan c
    | some (.dma c) => d.markCh c
    | some (.gates p) => d.markGates p
    | none =>
      let d := d.beforeLate k
      let old := d.reg k
      (((d.setReg k e.val).markExpert k e.expert).unstage k).hook k old

/-- A list of staged registers applied; whether expert control staged any of them (R10). -/
def Dev.applyKeys (d : Dev) (ks : List Nat) : Dev × Bool :=
  let ex := ks.any (fun k => match Map.get? d.rf.stg k with
    | some e => e.expert
    | none => false)
  (ks.foldl (fun d k => d.applyKey k) d, ex)

/-- Applies the groups of a mask in order; a group with a disagreeing pair is refused whole (R103, R108). Answers the
device, the groups refused, the first offset to report, and whether an expert write applied. -/
def Dev.applyGroups (d : Dev) : List Nat → Dev × Nat × Option Nat × Bool
  | [] => (d, 0, none, false)
  | g :: gs =>
    match d.groupBad g with
    | some off =>
      let (d', r, _, e) := d.applyGroups gs
      (d', r + 2 ^ g, some off, e)
    | none =>
      let (d1, e1) := d.applyKeys (d.groupKeys g)
      let (d', r, o, e) := d1.applyGroups gs
      (d', r, o, e1 || e)

/-- What a strobe did: the groups refused, and whether it applied a write that expert control staged. -/
structure Struck where
  refused : Nat
  expert : Bool
deriving DecidableEq, Repr

/-- The refusal of R108 recorded. -/
def Dev.rejectGroups (d : Dev) (r : Nat) (off : Option Nat) : Dev :=
  if r = 0 then d
  else ((d.sqSet Reg.GLB_COMMIT_STATUS [2]).setN Reg.GLB_REJECT_GROUPS r).setN Reg.GLB_REJECT_INFO (off.getD 0)

/-- A strobe of a mask applies: STROBE is set, SCHED_STROBE too for a timed one (R103, R108). -/
def Dev.strike (d : Dev) (mask : Nat) (timed : Bool) : Dev × Struck :=
  let (d, r, off, e) := d.applyGroups (bitList 23 mask)
  let d := (d.rejectGroups r off).sqSet Reg.GLB_COMMIT_STATUS (if timed then [0, 1] else [0])
  (d, ⟨r, e⟩)

/-- ISSUED and APPLIED of GLB_COMMIT_SEQ (R104). -/
def Dev.issued (d : Dev) : Dev := d.setFld Reg.GLB_COMMIT_SEQ 16 16 (d.fld Reg.GLB_COMMIT_SEQ 16 16 + 1)
def Dev.applied (d : Dev) : Dev := d.setFld Reg.GLB_COMMIT_SEQ 0 16 (d.fld Reg.GLB_COMMIT_SEQ 0 16 + 1)

/-- A strobe that a command raises itself, issued and applied within the command (R130); a mask without a bit in
groups 0 to 22 raises none. -/
def Dev.strobeNow (d : Dev) (mask : Nat) : Dev × Struck :=
  if mask % 2 ^ 23 = 0 then (d, ⟨0, false⟩)
  else
    let (d, r) := d.issued.strike mask false
    (d.applied, r)

/-! ## Strobes issued and waiting to apply (R103 to R106) -/

/-- The rank of R106 among strobes that fall due on one clock. -/
def StrobeSrc.rank : StrobeSrc → Nat
  | .commitAt => 0
  | .vintage => 1
  | .angle => 2
  | .commit => 3
  | .direct => 4
  | .ring => 5
  | .directReg => 6
  | .tie => 6

/-- The order of two strobes due on one clock: by kind; GLB_COMMIT, GLB_DIRECT and ring strobes by master first. -/
def Strobe.before (a b : Strobe) : Bool :=
  decide (a.due < b.due) ||
  (decide (a.due = b.due) &&
    (let byMaster (s : Strobe) : Bool := decide (3 ≤ s.src.rank ∧ s.src.rank ≤ 5)
     if byMaster a && byMaster b then
       decide (a.master < b.master ∨ (a.master = b.master ∧ a.src.rank < b.src.rank))
     else decide (a.src.rank < b.src.rank)))

/-- A strobe put in its place: after every strobe that goes before it or arrived earlier. -/
def placeStrobe (x : Strobe) : List Strobe → List Strobe
  | [] => [x]
  | y :: ys => if x.before y then x :: y :: ys else y :: placeStrobe x ys

/-- A strobe is raised: a mask without a bit in groups 0 to 22 raises none; else it counts as issued and waits to
apply (R103, R104). -/
def Dev.raiseStrobe (d : Dev) (src : StrobeSrc) (mask : Word) (m : Nat) : Dev :=
  if mask.toNat % 2 ^ 23 = 0 then d
  else
    let d := d.issued
    { d with glb := { d.glb with strobes := placeStrobe ⟨src, mask, m, d.now, []⟩ d.glb.strobes } }

/-- Drops staged writes of the groups of a mask; a pending channel keeps its shadow set (R107). -/
def Dev.discard (d : Dev) (mask : Nat) : Dev :=
  { d with rf := { d.rf with
    stg := d.rf.stg.filter (fun p => !(mask.testBit (groupOf p.1) && d.waitsStrobe p.1)) } }

/-- A direct-mode write of one register (R110): it applies by itself, or, where its pair disagrees, is held with
PAIR_MISMATCH until the pair agrees; then all fields of the pair apply together. -/
def Dev.directWrite (d : Dev) (k : Nat) : Dev :=
  let g := groupOf k
  match d.pairOf k with
  | some (ks, _, bad) =>
    if bad then (d.sqSet Reg.GLB_COMMIT_STATUS [4]).setBit Reg.GLB_PAIR_PENDING g true
    else
      let d := (d.applyKeys (ks.filter (fun k => (Map.get? d.rf.stg k).isSome))).1
      (d.setBit Reg.GLB_PAIR_PENDING g (d.groupBad g).isSome).sqSet Reg.GLB_COMMIT_STATUS [0]
  | none => (d.applyKeys [k]).1.sqSet Reg.GLB_COMMIT_STATUS [0]

/-- A mask of bit numbers. -/
def markMask (bs : List Nat) : Nat := bs.foldl (fun m b => m ||| 2 ^ b) 0

/-- Applies the strobe that goes first: a group-wide one counts as applied; GLB_DIRECT puts its groups into direct
mode as their commit applies, those refused, and those a later write has cleared, stay staged (R103, R104, R106, R110). -/
def Dev.strobeApply (d : Dev) : Dev :=
  match d.glb.strobes with
  | [] => d
  | x :: xs =>
    let d := { d with glb := { d.glb with strobes := xs } }
    let timed := decide (x.src.rank ≤ 2)
    let (d, r) := d.strike x.mask.toNat timed
    let d := d.applied
    if x.src = .direct then
      d.setReg Reg.GLB_DIRECT (d.reg Reg.GLB_DIRECT ||| (x.mask &&& ~~~ wd (r.refused ||| markMask x.regs)))
    else d

end Sys2Proof.Machine
end

