-- ==== Sys2Proof/Machine/CmdOps.lean ====
section
/-! DEFINITION. Shared operations of command packets: the record of an outstanding command, its work, its reply
(R119 to R136). -/

namespace Sys2Proof.Machine

/-! ## Fields of a packet (R123) -/

def Cmd.opcode (c : Cmd) : Nat := Word.fld c.word0 0 16
def Cmd.quiet (c : Cmd) : Bool := Word.bit c.word0 16
def Cmd.ordered (c : Cmd) : Bool := Word.bit c.word0 17
def Cmd.notify (c : Cmd) : Bool := Word.bit c.word0 18
def Cmd.tag (c : Cmd) : Nat := Word.fld c.word1 0 12
def Cmd.gen (c : Cmd) : Nat := Word.fld c.word1 12 4
def Cmd.slice (c : Cmd) : Nat := Word.fld c.word1 16 16
def Cmd.paramLen (c : Cmd) : Nat := Word.fld c.word2 0 16
def Cmd.replyMax (c : Cmd) : Nat := Word.fld c.word2 16 16

/-- Parameter word `i`; missing words read 0. -/
def Cmd.p (c : Cmd) (i : Nat) : Word := wordAt c.params i

/-- A field of parameter word `i`. -/
def Cmd.pf (c : Cmd) (i lo n : Nat) : Nat := Word.fld (c.p i) lo n

/-- The slice a command names, `none` for 0xFFFF. -/
def Cmd.slice? (c : Cmd) : Option Nat := if c.slice = 0xFFFF then none else some c.slice

/-- The status codes of R138. -/
def stOK : Nat := 0x0000
def stPartial : Nat := 0x0001
def stExpert : Nat := 0x0002
def stBadOpcode : Nat := 0x0100
def stBadLength : Nat := 0x0101
def stBadParam : Nat := 0x0102
def stBadHeader : Nat := 0x0103
def stBusy : Nat := 0x0200
def stNotQuiesced : Nat := 0x0201
def stNoResource : Nat := 0x0202
def stStaleGen : Nat := 0x0300
def stLifecycle : Nat := 0x0400
def stTimeout : Nat := 0x0500
def stSplit : Nat := 0x0600
def stFaulted : Nat := 0x0700

/-! ## The record of an outstanding command -/

/-- The record with this master, TAG and GEN. -/
def isCmd (m tag gen : Nat) (c : Cmd) : Bool := decide (c.master = m ∧ c.tag = tag ∧ c.gen = gen)

/-- The outstanding command of a master with this TAG and GEN. -/
def Dev.cmd? (d : Dev) (m tag gen : Nat) : Option Cmd := d.cmd.cmds.find? (isCmd m tag gen)

/-- The record changed. -/
def Dev.setCmd (d : Dev) (m tag gen : Nat) (f : Cmd → Cmd) : Dev :=
  { d with cmd := { d.cmd with cmds := d.cmd.cmds.map (fun c => if isCmd m tag gen c then f c else c) } }

/-- The record dropped. -/
def Dev.dropCmd (d : Dev) (m tag gen : Nat) : Dev :=
  { d with cmd := { d.cmd with cmds := d.cmd.cmds.filter (fun c => !isCmd m tag gen c) } }

/-- CMD_OUTSTANDING: started and not yet replied (R143). -/
def Dev.showOutstanding (d : Dev) (m : Nat) : Dev :=
  d.setFld (Reg.CMD_OUTSTANDINGm m) 0 9
    (d.cmd.cmds.filter (fun c => decide (c.master = m ∧ c.phase ≠ .waiting))).length

/-- The current generation of a tag (R131). -/
def Dev.curGen (d : Dev) (m tag : Nat) : Option Nat := Map.get? d.cmd.gens (4096 * m + tag)

/-- Sets or clears a tag's record. -/
def Dev.setGen (d : Dev) (m tag gen : Nat) : Dev :=
  { d with cmd := { d.cmd with gens := Map.put d.cmd.gens (4096 * m + tag) gen } }
def Dev.clearGen (d : Dev) (m tag : Nat) : Dev :=
  { d with cmd := { d.cmd with gens := Map.del d.cmd.gens (4096 * m + tag) } }

/-- What a command's work answers: status, reply data, whether R10 applies. -/
structure Res where
  status : Nat
  data : List Word
  expert : Bool
deriving DecidableEq, Repr

/-- Done, with reply data. -/
def Res.ok (data : List Word) : Res := ⟨stOK, data, false⟩

/-- Done or refused with a status alone. -/
def Res.st (status : Nat) : Res := ⟨status, [], false⟩

/-- The result of a command that staged its writes and raised its own strobe: BAD_PARAM where the strobe was refused,
EXPERT where it applied a write expert control staged (R10, R130). -/
def Res.struck (r : Struck) (groups : Nat) (res : Res) : Res :=
  if r.refused &&& groups ≠ 0 then Res.st stBadParam else { res with expert := res.expert || r.expert }

/-- The result of a command that read or changed these registers of an object it names (R10). -/
def Res.touching (res : Res) (d : Dev) (ks : List Nat) : Res := { res with expert := res.expert || d.anyExpert ks }

/-- Stores a command's result: EXPERT_STATE takes the place of OK only (R126). -/
def Dev.finish (d : Dev) (m tag gen : Nat) (r : Res) : Dev :=
  d.setCmd m tag gen (fun c =>
    { c with phase := .finished, status := if r.expert && decide (r.status = stOK) then stExpert else r.status,
             expert := r.expert, reply := r.data })

/-- The work of one opcode: on the started command of that opcode with this TAG and GEN; `none` as result leaves it
started, to finish later. -/
def Dev.runOp (d : Dev) (op m tag gen : Nat) (f : Cmd → Dev → Dev × Option Res) : Dev :=
  match d.cmd? m tag gen with
  | none => d
  | some c =>
    if c.opcode = op ∧ c.phase = .started then
      match f c d with
      | (d', some r) => d'.finish m tag gen r
      | (d', none) => d'
    else d

/-- Marks that the command's strobe has been raised (R136). -/
def Dev.markStrobed (d : Dev) (c : Cmd) : Dev := d.setCmd c.master c.tag c.gen (fun c => { c with strobed := true })

/-- A command's own strobe: raised, applied, and noted in its record (R130, R136). -/
def Dev.ownStrobe (d : Dev) (c : Cmd) (groups : Nat) : Dev × Struck :=
  (d.markStrobed c).strobeNow groups

/-- Stages a list of register values for basic control. -/
def Dev.stageAll (d : Dev) (m : Nat) (expert : Bool) : List (Nat × Word) → Dev
  | [] => d
  | (k, v) :: r => (d.stage k v expert m).stageAll m expert r

/-- A basic command's whole work: stage, strobe, answer (R130). -/
def Dev.stageStrobe (d : Dev) (c : Cmd) (groups : Nat) (ws : List (Nat × Word)) (res : Res) : Dev × Option Res :=
  let touched := d.anyExpert (ws.map Prod.fst)
  let (d, r) := (d.stageAll c.master false ws).ownStrobe c groups
  (d, some (Res.struck r groups { res with expert := res.expert || touched }))

/-! ## Replies (R121, R125, R126) -/

/-- Slots of a packet or reply with `n` bytes after its header. -/
def slotsFor (n : Nat) : Nat := ceilDiv (16 + n) 64

/-- Reply slots reserved by a master's outstanding commands. -/
def Dev.reservedSlots (d : Dev) (m : Nat) : Nat :=
  ((d.cmd.cmds.filter (fun c => decide (c.master = m))).map Cmd.slots).sum

/-- Free reply slots not reserved. -/
def Dev.freeSlots (d : Dev) (m : Nat) : Nat :=
  256 - (fwd16 (d.fld (Reg.CMD_RPIm m) 0 16) (d.fld (Reg.CMD_RCIm m) 0 16) + d.reservedSlots m)

/-- The reply's words: header, CRC and the data written (R124 to R126). -/
def replyWords (word1 : Word) (op status replyMax : Nat) (dup expert : Bool) (data : List Word) : List Word :=
  let len := 4 * data.length
  let trunc := decide (replyMax < len)
  let bs := (bytesOf data).take replyMax
  let w0 := wd (2 ^ 24 + (if expert then 2 ^ 18 else 0) + (if dup then 2 ^ 17 else 0) + (if trunc then 2 ^ 16 else 0)
    + status)
  let w2 := wd (op * 65536 + len % 65536)
  [w0, word1, w2, wd (crc16 (bytesOf [w0, word1, w2] ++ bs))] ++ wordsOf (ceilDiv bs.length 4) bs

/-- Words stored in a master's reply queue from a word position on, wrapping from slot 255 to slot 0. -/
def Dev.putReply (d : Dev) (m pos : Nat) : List Word → Dev
  | [] => d
  | w :: ws => (d.setReg (Reg.CMD_REPLIES (m * 4096 + pos % 4096)) w).putReply m (pos + 1) ws

/-- The member whose command produced the word of a KIND that waits for the TRL master (R116). -/
def Dev.mbxFor (d : Dev) (m kind peer : Nat) : Dev :=
  if m = 7 then { d with cmd := { d.cmd with mbxPeer := Map.put d.cmd.mbxPeer kind peer } } else d

/-- Writes a reply: REPLY is set, the vector is raised where the queue was empty, REPLY_READY is posted where asked;
the BMC's reply and a Trellis peer's travel on at once, a supervisor's answers its request on channel MGMT (R121, R122, R315). -/
def Dev.writeReply (d : Dev) (m : Nat) (ws : List Word) (notify : Bool) (peer : Nat) : Dev :=
  let rpi := d.fld (Reg.CMD_RPIm m) 0 16
  let rci := d.fld (Reg.CMD_RCIm m) 0 16
  let d := d.putReply m (rpi * 16) ws
  let d := (d.setFld (Reg.CMD_RPIm m) 0 16 (rpi + slotsFor (4 * ws.length - 16))).sqSet (Reg.CMD_STATUSm m) [0]
  let d := if d.bit (Reg.CMD_CTRLm m) 1 && decide (rpi = rci ∧ m < 4) then
      d.raiseVec m (d.fld (Reg.CMD_CTRLm m) 16 11) else d
  let d := if notify then (d.post m 4 (d.fld (Reg.CMD_RPIm m) 0 16)).mbxFor m 4 peer else d
  if m = 4 then (d.setReg (Reg.CMD_RCIm m) (d.reg (Reg.CMD_RPIm m))).emit (.mctp ws)
  else if m = 7 then (d.setReg (Reg.CMD_RCIm m) (d.reg (Reg.CMD_RPIm m))).peerReply peer ws
  else if 8 ≤ m then
    let t := 64 * (m - 8)
    match (d.thread t).reqs.find? (fun r => decide (r.chan = 0) && r.answer.isNone) with
    | some r => (d.setReg (Reg.CMD_RCIm m) (d.reg (Reg.CMD_RPIm m))).answerReq t r.tag 0 (bytesOf ws)
    | none => d
  else d

/-- Refuses a packet at once: its reply fits the slot reserved for it (R121, R127). -/
def Dev.refuse (d : Dev) (m : Nat) (w0 w1 w2 : Word) (status : Nat) (dup : Bool) (data : List Word) (peer : Nat) : Dev :=
  d.writeReply m (replyWords w1 (Word.fld w0 0 16) status (Word.fld w2 16 16) dup false data) (Word.bit w0 18) peer

end Sys2Proof.Machine
end

