-- ==== Sys2Proof/Machine/Gau.lean ====
section
/-! DEFINITION. The commands of the Grid Angle Unit: observations, wraps, state changes, dispatch, captures, and the
angle opcodes (R31 to R60). -/

namespace Sys2Proof.Machine

/-! ## What a command answers -/

/-- A command on a running device: always a next state. -/
def act (f : Dev → Dev) (s : State) : Host.Outcome State Fault Refusal := .next (s.onDev (Dev.live f))

/-- A command of a part that also works while the device is booting or halted. -/
def actAlways (f : Dev → Dev) (s : State) : Host.Outcome State Fault Refusal := .next (s.onDev f)

/-- The work of a started opcode (R129, R130). -/
def opStep (op : Nat) (f : Cmd → Dev → Dev × Option Res) (m tag gen : Nat) (s : State) :
    Host.Outcome State Fault Refusal := act (fun d => d.runOp op m tag gen f) s

/-- A reply that changes nothing. -/
def answer (d : Dev) (r : Res) : Dev × Option Res := (d, some r)

/-! ## Observations -/

/-- The references fed by a source and an index, lowest first (R31). -/
def Dev.fedBy (d : Dev) (src idx : Nat) : List Nat :=
  (List.range 4).filter (fun n => decide (d.refState n ≠ 0 ∧ d.fld (Reg.GAU_REFn_CTRL n) 26 2 = src ∧
    d.fld (Reg.GAU_REFn_CTRL n) 24 2 = idx))

/-- A rising edge on a GZX input: ignored for 10 ms after an observation; the first edge only starts a period
(R32). -/
def gzxEdge (k : Nat) (d : Dev) : Dev :=
  let mark (d : Dev) : Dev := { d with gau := { d.gau with edges := Map.put d.gau.edges k d.now } }
  match Map.get? d.gau.edges k with
  | none => mark d
  | some t =>
    if d.now - t < 5000000 then d
    else (d.fedBy 0 k).foldl (fun d n => d.crossing n ((d.now - t) * 2)) (mark d)

/-- `GZX_EDGE` (R32): an edge with its timestamp in GAU clocks since reset; time passes to it first. -/
def execGzxEdge (k : Fin 4) (t : Nat) (s : State) : Host.Outcome State Fault Refusal :=
  act (fun d => gzxEdge k.val (d.runTo t)) s

/-- One slot of a good GSYNC frame: an observation at the frame's instant, carried forward by `age` ns to now
(R58, R59). -/
def gsyncSlot (age : Nat) (bs : List Byte) (d : Dev) (s : Nat) : Dev :=
  let ang := wd (beAt bs (4 + 12 * s) 4)
  let f := beAt bs (8 + 12 * s) 4
  let roc := (BitVec.ofNat 16 (beAt bs (12 + 12 * s) 2)).toInt
  let q := byteAt bs (14 + 12 * s)
  let u := f * 1000000 / 65536
  let ok := q.testBit 7 && decide (45 * 65536 ≤ f ∧ f ≤ 66 * 65536)
  let d := d.setBit Reg.GAU_GSYNC_STATUS (27 + s) (q.testBit 6)
  (d.fedBy 1 s).foldl (fun d n =>
    if ok then d.gauObserve n (ang + wd (nsCounts u age)) (10 ^ 15 / u) u roc
    else d.gauInvalid n) d

/-- A GSYNC frame's 54 data bytes, taken from the balls or from an ANGLE message, `age` ns after the instant its
angles hold (R59, R459). -/
def gsyncTake (age : Nat) (bs : List Byte) (violation : Bool) (d : Dev) : Dev :=
  let good := decide (bs.length = 54) && !violation && decide (crc16 (bs.take 52) = beAt bs 52 2) &&
    decide (byteAt bs 0 = 1)
  let q := byteAt bs 1
  let gap := match d.gau.gsyncSeq with
    | none => false
    | some p => decide (q ≠ (p + 1) % 256)
  let d := if good then { d with gau := { d.gau with gsyncSeq := some q } } else d
  if good && !gap then (List.range 4).foldl (gsyncSlot age bs) d
  else (d.sqSet Reg.GAU_EVT_STATUS [4]).countFld Reg.GAU_GSYNC_STATUS 0 16

/-- The GSYNC balls feed the receiver: ENABLE is 1 (R61). -/
def Dev.gsyncOn (d : Dev) : Bool := d.bit Reg.GAU_GSYNC_CTRL 0

/-- `GSYNC_FRAME` (R59): while an imported ANGLE stream feeds the receiver, the balls do not (R459). -/
def execGsyncFrame (bytes : List Byte) (violation : Bool) (s : State) : Host.Outcome State Fault Refusal :=
  act (fun d => d.when (d.gsyncOn && !d.bit Reg.TRL_ANGLE_CTRL 30)
    (gsyncTake (22800 + d.regN Reg.GAU_GSYNC_DELAY) bytes violation)) s

/-- `GSYNC_SIGNAL_CHANGE` (R61): signal present follows the recovered stream. -/
def execGsyncSignalChange (present : Bool) (s : State) : Host.Outcome State Fault Refusal :=
  act (fun d => d.setBit Reg.GAU_GSYNC_STATUS 31 present) s

/-! ## Wraps and state changes -/

/-- `ANGLE_WRAP` (R35): an angle that advances reaches 0. -/
def execAngleWrap (n : Fin 4) (s : State) : Host.Outcome State Fault Refusal :=
  act (fun d => d.when (decide (0 < d.refRate n.val)) (fun d => d.angleWrap n.val 0)) s

/-- `HOLDOVER_ENTRY` (R41): of a reference that its own source steers. -/
def execHoldoverEntry (n : Fin 4) (s : State) : Host.Outcome State Fault Refusal :=
  act (fun d => d.when (decide (d.refState n.val = 2 ∨ d.refState n.val = 3) && decide (d.steer n.val = n.val))
    (fun d => d.enterHoldover n.val)) s

/-- `FREERUN_ENTRY` (R41): of a reference in HOLDOVER that its own source steers; the members of the group follow
(R50). -/
def execFreerunEntry (n : Fin 4) (s : State) : Host.Outcome State Fault Refusal :=
  act (fun d => d.when (decide (d.refState n.val = 4 ∧ d.steer n.val = n.val))
    (fun d => ((d.setRefState n.val 5).setGref n.val (fun g => { g with agree := 0, beyond := 0 })).syncGroup n.val)) s

/-! ## Captures and stamps -/

/-- The capture of R37: angles, cycle counts, PTP time. -/
def Dev.capture (d : Dev) : List Word :=
  (List.range 4).map d.angle ++
  (List.range 4).flatMap (fun n => [lo32 (d.cycle n), hi32 (d.cycle n)]) ++ [lo32 d.time, hi32 d.time]

/-- The capture taken into GAU_SNAP; TAKE reads 0 once it is valid (R37). -/
def Dev.takeSnap (d : Dev) : Dev := (d.setRegs (Reg.GAU_SNAP 0) d.capture).setBit Reg.GAU_SNAP_CTRL 0 false

/-- `SNAPSHOT_TAKE` (R37): a write of GAU_SNAP_CTRL. -/
def execSnapshotTake (v : Word) (s : State) : Host.Outcome State Fault Refusal :=
  act (fun d => d.when (Word.bit v 0) Dev.takeSnap) s

/-- `STAMP` (R54): the PTP time goes to the stamp slot. -/
def execStamp (slot : Fin 16) (s : State) : Host.Outcome State Fault Refusal :=
  act (fun d => match d.takeFiring 9 slot.val with
    | some (_, d) => d.set64 (Reg.GAU_STAMPs (2 * slot.val)) d.time
    | none => d) s

/-- `ANGLE_NOTIFY` (R54, R118): a NOTIFY word with ARG[27:0] for the master. -/
def execAngleNotify (m : Fin 16) (s : State) : Host.Outcome State Fault Refusal :=
  act (fun d => match d.takeFiring 10 m.val with
    | some (f, d) => d.post m.val 3 f.arg.toNat
    | none => d) s

/-- `ANGLE_COMMIT` (R103): an angle-timed strobe with the mask in ARG. -/
def execAngleCommit (s : State) : Host.Outcome State Fault Refusal :=
  act (fun d => match d.gau.firings.findIdx? (fun f => decide (f.action = 7)) with
    | some i =>
      match d.gau.firings[i]? with
      | some f =>
        ({ d with gau := { d.gau with firings := d.gau.firings.eraseIdx i } } : Dev).raiseStrobe .angle f.arg 0
      | none => d
    | none => d) s

/-! ## Dispatch (R56) -/

/-- When an entry is due, the cycle count it fires under and whether it is late: within its lead ahead of its angle, or
passed and not fired under this cycle count (R53, R54, R56). -/
def Dev.due (d : Dev) (n e : Nat) : Option (Nat × Bool) :=
  let rate := d.refRate n
  let lead := leadNs (Word.fld (d.evt e 1) 24 4)
  let ang := d.evt e 0
  let here := d.angle n
  let ahead := (ang - here).toNat
  let behind := (here - ang).toNat
  let pick (c : Nat) (late : Bool) : Option (Nat × Bool) :=
    if cycOk (d.evt e 1) (d.evt e 2) c && decide (Map.get? d.gau.fired e ≠ some c) then some (c, late) else none
  if ahead ≤ nsCounts rate lead then
    pick (if here.toNat + ahead < 2 ^ 32 ∨ (d.gref n).skipWrap = true then d.cycle n else (d.cycle n + 1) % 2 ^ 48) false
  else if ang.toNat ≤ here.toNat then pick (d.cycle n) (decide (nsCounts rate 50 < behind + nsCounts rate lead))
  else none

/-- `ANGLE_EVENT_DISPATCH` (R53, R56): a live entry of an enabled channel on a reference whose events fire; a late one
sets LATE_EVENT. -/
def execAngleEventDispatch (c i : Fin 64) (s : State) : Host.Outcome State Fault Refusal :=
  act (fun d =>
    let e := 64 * c.val + i.val
    match d.chanRef? c.val with
    | none => d
    | some n =>
      if d.firesOn n && Word.bit (d.evt e 1) 31 then
        match d.due n e with
        | some (cyc, late) =>
          (d.when late (fun d => d.sqSet Reg.GAU_EVT_STATUS [2])).fireEntry n e cyc false late
        | none => d
      else d) s

/-! ## PTP seconds (R52) -/

/-- `PTP_SECOND` (R52): PPS_OUT rises. -/
def execPtpSecond (s : State) : Host.Outcome State Fault Refusal :=
  act (fun d => { d with gau := { d.gau with ppsOut := true } }) s

/-- `PPS_OUT_END` (R52): PPS_OUT falls. -/
def execPpsOutEnd (s : State) : Host.Outcome State Fault Refusal :=
  act (fun d => { d with gau := { d.gau with ppsOut := false } }) s

/-! ## The angle opcodes (R60) -/

/-- The group the angle opcodes strobe. -/
def groupGau : Nat := 2 ^ 6

/-- 0x0600: reference, then CTRL, OFFSET, JUMP, LIMITS in the layouts of R61. -/
def runAngleRefSet (c : Cmd) (d : Dev) : Dev × Option Res :=
  let n := c.pf 0 0 2
  d.stageStrobe c groupGau [(Reg.GAU_REFn_CTRL n, c.p 1), (Reg.GAU_REFn_OFFSET n, c.p 2),
    (Reg.GAU_REFn_JUMP n, c.p 3), (Reg.GAU_REFn_LIMITS n, c.p 4)] (Res.ok [])

/-- `ANGLE_REF_SET`. -/
def execAngleRefSet (m : Fin 16) (tag : Fin 4096) (gen : Fin 16) (s : State) : Host.Outcome State Fault Refusal :=
  opStep 0x0600 runAngleRefSet m.val tag.val gen.val s

/-- The eight words of one reference: state, frequency, ROCOF, angle, cycle count, last wrap stamp. -/
def Dev.refReport (d : Dev) (n : Nat) : List Word :=
  [wd (d.refState n), d.reg (Reg.GAU_REFn_FREQ n), d.reg (Reg.GAU_REFn_ROCOF n), d.angle n, lo32 (d.cycle n),
   hi32 (d.cycle n), d.reg (Reg.GAU_WRAPTSn_LO n), d.reg (Reg.GAU_WRAPTSn_HI n)]

/-- 0x0601: a report of each named reference, lowest first. -/
def runAngleStatus (c : Cmd) (d : Dev) : Dev × Option Res :=
  let ns := bitList 4 (c.p 0).toNat
  answer d (Res.ok (ns.flatMap d.refReport))

/-- `ANGLE_STATUS`. -/
def execAngleStatus (m : Fin 16) (tag : Fin 4096) (gen : Fin 16) (s : State) : Host.Outcome State Fault Refusal :=
  opStep 0x0601 runAngleStatus m.val tag.val gen.val s

/-- The first free shadow entry of the channels bound to a reference, enabled channels first (R60). -/
def Dev.freeEntry (d : Dev) (n : Nat) : Option Nat :=
  let bound (on : Bool) := (List.range 64).filter (fun c =>
    decide (d.fld (Reg.GAU_CHANc_CTRL c) 1 2 = n) && (d.bit (Reg.GAU_CHANc_CTRL c) 0 == on))
  (bound true ++ bound false).findSome? (fun c =>
    ((List.range 64).map (fun i => 64 * c + i)).find? (fun e =>
      !Word.bit (d.staged (Reg.GAU_SHADOW (4 * e + 1))) 31))

/-- Shadow entries written, so that a ONESHOT firing leaves their shadow copy alone (R55). -/
def Dev.dirtyEntry (d : Dev) (e : Nat) : Dev :=
  { d with gau := { d.gau with dirty := e :: d.gau.dirty.filter (· ≠ e) } }

/-- 0x0602: the entry goes to a free shadow slot of a bound channel, which is enabled with it. -/
def runAngleEventAdd (c : Cmd) (d : Dev) : Dev × Option Res :=
  let n := c.pf 0 0 2
  match d.freeEntry n with
  | none => answer d (Res.st stNoResource)
  | some e =>
    let ch := e / 64
    let ctl := Reg.GAU_CHANc_CTRL ch
    let ws := (List.range 4).map (fun w => (Reg.GAU_SHADOW (4 * e + w), c.p (w + 1)))
    let ws := if d.bit ctl 0 then ws else ws ++ [(ctl, wd (2 * n + 1))]
    (d.dirtyEntry e).stageStrobe c groupGau ws ((Res.ok [wd e]).touching d [ctl])

/-- `ANGLE_EVENT_ADD`. -/
def execAngleEventAdd (m : Fin 16) (tag : Fin 4096) (gen : Fin 16) (s : State) : Host.Outcome State Fault Refusal :=
  opStep 0x0602 runAngleEventAdd m.val tag.val gen.val s

/-- 0x0603: VALID of the shadow entry is cleared. -/
def runAngleEventRemove (c : Cmd) (d : Dev) : Dev × Option Res :=
  let e := c.pf 0 0 12
  let k := Reg.GAU_SHADOW (4 * e + 1)
  (d.dirtyEntry e).stageStrobe c groupGau [(k, Word.setBit (d.staged k) 31 false)] (Res.ok [])

/-- `ANGLE_EVENT_REMOVE`. -/
def execAngleEventRemove (m : Fin 16) (tag : Fin 4096) (gen : Fin 16) (s : State) : Host.Outcome State Fault Refusal :=
  opStep 0x0603 runAngleEventRemove m.val tag.val gen.val s

/-- GAU_TIE with one follower's MERGE and LEADER changed; a split keeps its LEADER field. -/
def tieWith (w : Word) (n l : Nat) (merge : Bool) : Word :=
  if merge then Word.setBit (Word.setFld w (4 * n) 2 l) (4 * n + 2) true else Word.setBit w (4 * n + 2) false

/-- 0x0604: follower, leader, merge or split. -/
def runAngleTie (c : Cmd) (d : Dev) : Dev × Option Res :=
  d.stageStrobe c groupGau
    [(Reg.GAU_TIE, tieWith (d.staged Reg.GAU_TIE) (c.pf 0 0 2) (c.pf 1 0 2) (Word.bit (c.p 2) 0))] (Res.ok [])

/-- `ANGLE_TIE`. -/
def execAngleTie (m : Fin 16) (tag : Fin 4096) (gen : Fin 16) (s : State) : Host.Outcome State Fault Refusal :=
  opStep 0x0604 runAngleTie m.val tag.val gen.val s

/-- 0x0605: takes and returns the capture of R37. -/
def runAngleSnapshot (_ : Cmd) (d : Dev) : Dev × Option Res :=
  answer d.takeSnap (Res.ok d.capture)

/-- `ANGLE_SNAPSHOT`. -/
def execAngleSnapshot (m : Fin 16) (tag : Fin 4096) (gen : Fin 16) (s : State) : Host.Outcome State Fault Refusal :=
  opStep 0x0605 runAngleSnapshot m.val tag.val gen.val s

/-- 0x0606: clock role, one-step or two-step, PPS source, domain number. -/
def runAnglePtpSet (c : Cmd) (d : Dev) : Dev × Option Res :=
  let d := { d with gau := { d.gau with ptpRole := c.pf 0 0 2, ptpDomain := c.pf 3 0 8 } }
  d.stageStrobe c groupGau [(Reg.GAU_PTP_CTRL, wd (2 * c.pf 1 0 1 + c.pf 2 0 1))] (Res.ok [])

/-- `ANGLE_PTP_SET`. -/
def execAnglePtpSet (m : Fin 16) (tag : Fin 4096) (gen : Fin 16) (s : State) : Host.Outcome State Fault Refusal :=
  opStep 0x0606 runAnglePtpSet m.val tag.val gen.val s

end Sys2Proof.Machine
end

