-- ==== Sys2Proof/Machine/Press.lean ====
section
/-! DEFINITION. The commands of the Press: passes, fragment expiries, late checksums, PROFILE_SET (R227 to R249). -/

namespace Sys2Proof.Machine

/-- An anchor as the record stores it: 0xFF where absent. -/
def offOf (o : Option Nat) : Nat := o.getD 0xFF

/-- The walk's results stored in the record; the tag fields and the vintage on pass 0 only (R240, R241). -/
def Frame.setWalk (f : Frame) (k : Headers) (frag : Nat) (ptp : Bool) (vintage : Nat) : Frame :=
  let f := ((f.mset 2 8 8 (offOf k.l3)).mset 2 0 8 (offOf k.l4)).mset 3 30 2 k.l3type
  let f := ((f.mset 3 27 3 k.l4type).mset 3 21 2 frag).mset 3 16 3 k.mpls
  let f := ((f.mset 3 13 3 k.tunType).msetBit 3 8 k.stop).mset 6 8 8 (offOf k.tun)
  let f := f.mset 6 0 8 (offOf k.pay)
  if f.pass = 0 then
    ((((f.mset 3 19 2 k.vlans).mset 6 16 16 k.tci).msetBit 3 12 k.hsr).msetBit 3 10 ptp).mset 0 0 16 vintage
  else f

/-- A PTP message: EtherType 0x88F7, or UDP port 319 or 320 where UDP_PTP is 1 (R232). -/
def Dev.isPtp (d : Dev) (f : Frame) (k : Headers) : Bool :=
  decide (k.etf = 0x88F7) ||
  (d.bit Reg.PRS_CTRL 2 && decide (k.proto = 17) && (match k.l4 with
    | some l4 => decide (w16 f.window (l4 + 2) = 319 ∨ w16 f.window (l4 + 2) = 320)
    | none => false))

/-- Where a network frame is steered on pass 0: 1 the process bus, 2 the PTP servo, 3 Trellis (R232). -/
def Dev.steered (d : Dev) (f : Frame) (k : Headers) : Nat :=
  if f.pass ≠ 0 ∨ 16 ≤ f.srcPort then 0
  else if (k.etf = 0x88BA ∨ k.etf = 0x88B8) ∧ d.bit Reg.PBU_PORT_CTRL f.srcPort = true then 1
  else if d.bit Reg.PRS_CTRL 1 && decide (d.gau.ptpRole ≠ 2) && d.isPtp f k then 2
  else if k.etf = 0x8A73 ∧ d.bit (Reg.TRL_TUNNELp f.srcPort) 31 = true then 3
  else 0

/-- The reasons a pass raises, lowest first (R247). -/
def reasons (k : Headers) (short unresolved beyond : Bool) (l3 l4 : Nat) : List Nat :=
  [(2, k.stop), (3, short), (4, decide (l3 = 2)), (5, decide (l4 = 2)), (6, unresolved), (7, k.ipBad), (8, k.ipLen),
   (9, beyond)].filterMap (fun p => if p.2 then some p.1 else none)

/-- A reason counted, with its event (R251). -/
def Dev.reasonCount (d : Dev) (f : Frame) (r : Nat) : Dev :=
  match r with
  | 2 => (d.prsCount f 1).prsEvt f 1
  | 3 => (d.prsCount f 2).prsEvt f 0
  | 4 => d.prsCount f 3
  | 5 => d.prsCount f 4
  | 6 => (d.prsCount f 6).prsEvt f 4
  | 7 => d.prsEvt f 3
  | 8 => d.prsEvt f 3
  | _ => d

/-- A Press exception taken with its reason (R248). -/
def Dev.pressException (d : Dev) (id : Nat) (f : Frame) (r dst : Nat) (tgt : Word) : Dev :=
  let f := f.setExc r
  (d.prsCount f 8).exception id f dst tgt 1 (fun d => d.prsCount f 10)

/-- The reasons of a pass against its profile's mask: the lowest one set takes the exception, else the frame goes on to
`next` with EXC 0 (R248). -/
def Dev.pressOut (d : Dev) (id : Nat) (f : Frame) (p : Nat) (rs : List Nat) (next : Place) : Dev :=
  let mask := d.reg (Reg.PRS_PROFp_EXC_MASK p)
  match rs.find? (fun r => Word.bit mask r) with
  | some r => d.pressException id f r (d.fld (Reg.PRS_PROFp_CTRL p) 27 2) (d.reg (Reg.PRS_PROFp_EXC_TARGET p))
  | none => d.moveFrame id (f.setExc 0) next

/-- The pass after its walk and its fragment's resolution: profile, record, checksums, key, hash, exceptions
(R233 to R248). -/
def Dev.pressFinish (d : Dev) (id : Nat) (f : Frame) (k : Headers) (frag : Nat) (image : Option (List Byte))
    (unresolved : Bool) : Dev :=
  let f := f.setWalk k frag (d.isPtp f k) (f.vint.getD (d.fld Reg.CLS_VINTAGE 0 16))
  let prof := if f.pass = 0 then d.selectProfile f k else if d.profOn f.next then some f.next else none
  match prof with
  | none =>
    let d := (d.prsCount f 0).prsEvt f 2
    d.pressException id f 1 (d.fld Reg.PRS_CTRL 30 2) (d.reg Reg.PRS_NOMATCH_TARGET)
  | some p =>
    let f := { f.mset 0 19 6 p with image := image }
    let late := !f.whole && decide (192 < f.len)
    let host := decide (f.srcPort = 16)
    let l3 := if host then 0 else l3Csum f k
    let l4 := if host ∨ late = true then 0 else l4Csum f k
    let f := if host then f else f.setCsum l3 l4
    let (key, short) := d.buildKey f k image p
    let f := (({ f with key := key } : Frame).msetBit 3 9 short).mword 5 (d.hashKey p key)
    let rs := reasons k short unresolved (decide (f.len ≤ f.start ∧ f.pass ≠ 0)) l3 l4
    let d := rs.foldl (fun d r => d.reasonCount f r) (d.count (Reg.PRS_PROF_HITSp f.pipe p) 1)
    let wait := late && d.bit (Reg.PRS_PROFp_CTRL p) 26
    d.pressOut id f p rs (if wait then .eofHold else .keyed)

/-- An early fragment that proceeds: FRAG 2, L4 absent, reason 0x06 where asked (R244, R245). -/
def Dev.pressUnresolved (d : Dev) (id : Nat) (f : Frame) (k : Headers) (raise : Bool) : Dev :=
  d.pressFinish id f { k with l4 := none, l4type := 0 } 2 none raise

/-- A non-first fragment: resolved by its entry, held as early, or unresolved (R244, R245). -/
def Dev.pressFragment (d : Dev) (id : Nat) (f : Frame) (k : Headers) : Dev :=
  if !d.bit Reg.PRS_CTRL 3 then d.pressUnresolved id f k false
  else
    match d.fragEntry? k.fragKey with
    | some (n, e) => (d.fragTake n e k).pressFinish id f { k with l4type := e.l4 } 3 (some e.image) false
    | none =>
      let held := d.framesAt (fun p => decide (p = .fragHold))
      let same := held.filter (fun i => match d.frame? i with
        | some g => decide ((d.walk g 0).fragKey = k.fragKey)
        | none => false)
      if held.length < 4096 ∧ same.length < 8 ∧ d.fld Reg.PRS_FRAG_CTRL 0 9 ≠ 0 then
        (d.prsCount f 5).moveFrame id { f with at_ := d.now } .fragHold
      else d.pressUnresolved id f k true

/-- The LEAD of a frame's pass: pass 0 is Ethernet (R238). -/
def Dev.leadOf (d : Dev) (f : Frame) : Nat := if f.pass = 0 then 0 else d.profLead f.next

/-- Counts a steered frame and hands it on (R232, R251). -/
def Dev.steerFrame (d : Dev) (id : Nat) (f : Frame) (k : Headers) (dst : Nat) : Dev :=
  let f := f.setWalk k k.frag (d.isPtp f k) (f.vint.getD (d.fld Reg.CLS_VINTAGE 0 16))
  match dst with
  | 1 => (d.prsCount f 11).moveFrame id { f with cls := 0 } .pbu
  | 2 => (d.prsCount f 12).freeFrame id
  | _ => (d.prsCount f 12).moveFrame id f .trl

/-- One pass of a frame (R227). -/
def Dev.pressPass (d : Dev) (id : Nat) (f : Frame) : Dev :=
  let k := d.walk f (d.leadOf f)
  let s := d.steered f k
  if s ≠ 0 then d.steerFrame id f k s
  else if k.frag = 2 then d.pressFragment id f k
  else if k.frag = 1 ∧ d.bit Reg.PRS_CTRL 3 = true then
    let d := (d.fragFirst f k).pressFinish id f k 1 none false
    (d.framesAt (fun p => decide (p = .fragHold))).foldl (fun d i =>
      match d.frame? i with
      | some g =>
        let kg := d.walk g (d.leadOf g)
        if kg.fragKey = k.fragKey ∧ (d.fragEntry? k.fragKey).isSome = true then d.pressFragment i g kg else d
      | none => d) d
  else d.pressFinish id f k k.frag none false

/-- `PRESS_PASS` (R227): of a frame whose next pass has not run. -/
def execPressPass (f : Nat) (s : State) : Host.Outcome State Fault Refusal :=
  act (fun d => match d.frame? f with
    | some g => if g.place = .press then d.pressPass f g else d
    | none => d) s

/-- `FRAG_HOLD_EXPIRY` (R245): the held fragment proceeds unresolved. -/
def execFragHoldExpiry (f : Nat) (s : State) : Host.Outcome State Fault Refusal :=
  act (fun d => match d.frame? f with
    | some g => if g.place = .fragHold then d.pressUnresolved f g (d.walk g (d.leadOf g)) true else d
    | none => d) s

/-- `FRAG_ENTRY_EXPIRY` (R244): LIFE has passed since the entry was created. -/
def execFragEntryExpiry (n : Fin 16384) (s : State) : Host.Outcome State Fault Refusal :=
  act (fun d => { d with prs := { d.prs with frags := Map.del d.prs.frags n.val } }) s

/-- A long frame whose receive ended in error is dropped wherever it stands; one that a port is already sending is ended
with an invalid FCS (R383, R401). A message of it that a thread already has is left alone. -/
def Dev.dropBad (d : Dev) (id : Nat) (f : Frame) : Dev :=
  match f.place with
  | .sending p => ((d.schCount p 5).schEvt p 4).abortFrame p id
  | .queued n tc => (d.setQueueAt n tc ((d.queueAt n tc).filter (· ≠ id))).freeFrame id
  | .recirc q => (d.setLoop f.pipe q ((d.loop f.pipe q).filter (· ≠ id))).freeFrame id
  | .inbound _ _ => d.putFrame id { f with whole := true }
  | .thread _ _ _ => d.putFrame id { f with whole := true }
  | _ => d.freeFrame id

/-- The L4 result of a long frame filled in at its last byte; a key that waited for it goes on (R242). -/
def Dev.fillL4 (d : Dev) (id : Nat) (f : Frame) : Dev :=
  if f.whole then d
  else if f.bad then d.dropBad id f
  else
    let f := { f with whole := true }
    let p := f.profile
    let k := d.walk f (if f.pass = 0 then 0 else d.profLead p)
    let l4 := if f.srcPort = 16 ∨ 2 ≤ f.m 3 21 2 then 0 else l4Csum f k
    let f' := if f.pass ≠ 0 ∧ !f.mbit 0 17 then f else f.mset 3 23 2 l4
    let d := if l4 = 2 then d.reasonCount f' 5 else d
    if f.place = .eofHold then d.pressOut id f' p (if l4 = 2 then [5] else []) .keyed else d.putFrame id f'

/-- `L4_CSUM_FILL` (R242). -/
def execL4CsumFill (f : Nat) (s : State) : Host.Outcome State Fault Refusal :=
  act (fun d => match d.frame? f with
    | some g => d.fillL4 f g
    | none => d) s

/-! ## PROFILE_SET (R249) -/

/-- The group of the Press. -/
def groupPrs : Nat := 2 ^ 5

/-- The registers of a profile in the order of PROFILE_SET's words. -/
def profileRegs (p : Nat) : List Nat :=
  (List.range 6).map (fun i => Reg.PRS_PROFp_SEL0 p + 4 * i) ++ (List.range 24).map (fun e => Reg.PRS_PROFp_EXTe p e) ++
  (List.range 16).map (fun j => Reg.PRS_PROFp_KEYMASKj p j) ++ (List.range 16).map (fun j => Reg.PRS_PROFp_HASHMASKj p j)

/-- 0x0300: stages the profile and strobes group 5. -/
def runProfileSet (c : Cmd) (d : Dev) : Dev × Option Res :=
  let ks := profileRegs (c.pf 0 0 6)
  d.stageStrobe c groupPrs ((List.range ks.length).map (fun i => (ks.getD i 0, c.p (i + 1)))) (Res.ok [])

/-- `PROFILE_SET`. -/
def execProfileSet (m : Fin 16) (tag : Fin 4096) (gen : Fin 16) (s : State) : Host.Outcome State Fault Refusal :=
  opStep 0x0300 runProfileSet m.val tag.val gen.val s

/-- What PROFILE_SET refuses (R249). -/
def Dev.profileBad (d : Dev) (ws : List Word) : Bool :=
  let ctl := wordAt ws 4
  let len := 8 * (Word.fld ctl 23 3 + 1)
  let tgt := destOf (wordAt ws 5) 0 0
  let exts := (ws.drop 7).take 24
  decide (63 < (wordAt ws 0).toNat) ||
  ((List.range 30).any (fun i => decide (wordAt ws (i + 1) &&& ~~~ maskOf ((profileRegs 0).getD i 0) ≠ 0))) ||
  exts.any (fun x => decide (6 ≤ Word.fld x 28 3 ∨ len < Word.fld x 10 6 + Word.fld x 16 4 + 1)) ||
  decide (Word.fld ctl 27 2 = 3) ||
  (decide (Word.fld ctl 27 2 = 2) && !(decide (d.sliceState tgt.slice ≠ 0 ∧ d.sliceState tgt.slice ≠ 5 ∧
    d.incarnation tgt.slice = tgt.incarnation) && (match d.queue? 0 tgt.slice tgt.sq with
      | some q => decide (d.qType 0 q = 1)
      | none => false)))

end Sys2Proof.Machine
end

