-- ==== Sys2Proof/Machine/Cls.lean ====
section
/-! DEFINITION. The commands of the Classifier: lookups and actions, the recirculation loop, rule entries and the
rule opcodes (R252 to R276). -/

namespace Sys2Proof.Machine

/-! ## From key to action (R259 to R265) -/

/-- A reason of R265 raised: counted, recorded, and the frame sent to CLS_CTRL.EXC_DEST. -/
def Dev.clsException (d : Dev) (id : Nat) (f : Frame) (reason count evt : Nat) : Dev :=
  let f := f.setExc reason
  ((d.clsCount f count).clsEvt f evt).exception id f (d.fld Reg.CLS_CTRL 30 2) (d.reg Reg.CLS_EXC_TARGET) 2
    (fun d => d.clsCount f 9)

/-- The start offset of the next pass: BASE, DELTA against the anchors of this pass (R263). -/
def Frame.nextStart (f : Frame) (base delta : Nat) : Option Nat :=
  let anc (o : Nat) : Option Nat := if o = 0xFF then none else some (f.start + o + delta)
  match base with
  | 0 => some delta
  | 1 => anc (f.m 6 8 8)
  | 2 => anc (f.m 6 0 8)
  | _ => anc (f.m 2 8 8)

/-- RECIRCULATE (R263, R264): through the cipher where DECRYPT asks, which then names the start offset (R243). -/
def Dev.clsRecirculate (d : Dev) (id : Nat) (f : Frame) (w1 w2 w3 : Word) : Dev :=
  if 3 ≤ f.pass then d.clsException id f 0x82 5 2
  else if Word.bit w1 26 then
    d.moveFrame id { f with next := Word.fld w2 0 6, dest := none, job := some (Word.fld w3 0 20) } .cipher
  else
    match f.nextStart (Word.fld w2 30 2) (Word.fld w2 8 8) with
    | none => d.clsException id f 0x83 6 3
    | some o => d.recirculate id f (Word.fld w2 0 6) o

/-- An action taken (R259); `miss` tells a miss action, whose TO_FPC with REASON 0 records 0x80 (R261). -/
def Dev.clsAction (d : Dev) (id : Nat) (f : Frame) (w1 w2 w3 : Word) (miss : Bool) : Dev :=
  let op := Word.fld w1 28 4
  let f := ((f.mset 9 28 4 op).mword 10 w2).mword 11 w3
  if actionBad w1 w2 w3 then d.clsException id f 0x84 7 4
  else
    let f := f.bulk (Word.bit w1 27)
    let reason := Word.fld w1 0 8
    match op with
    | 0 => d.moveFrame id { f with fwdArg := w2 } .forward
    | 1 => (d.clsCount f 9).freeFrame id
    | 2 =>
      let t := destOf w2 kindRx 0
      if Word.bit w1 26 then
        d.moveFrame id { f with dest := some t, job := some (Word.fld w3 0 20) } .cipher
      else d.sendSlice id f t
    | 3 => d.clsRecirculate id f w1 w2 w3
    | 4 =>
      let f := f.setExc (if miss && decide (reason = 0) then 0x80 else reason)
      d.sendChannel id f (Word.fld w2 8 3) (Word.fld w2 0 8) 2 w3
    | _ => d.moveFrame id f (.toNode (Word.fld w2 0 16))

/-- The miss action of a frame's profile (R261). -/
def Dev.clsMiss (d : Dev) (id : Nat) (f : Frame) : Dev :=
  let k (i : Nat) : Word := d.reg (Reg.CLS_PMAPp_MISS f.profile i)
  d.clsAction id f (k 0) (k 1) (k 2) true

/-- The lookup of a key in its table's bank (R256, R260, R261, R269): a VINTAGE that is neither CUR nor OLD counts. -/
def Dev.classify (d : Dev) (id : Nat) (f : Frame) : Dev :=
  let pm := d.reg (Reg.CLS_PMAPp_CTRL f.profile)
  let f := (f.mword 9 0).mword 10 0
  if !Word.bit pm 31 then d.clsMiss id f
  else
    let t := Word.fld pm 0 4
    let bank := d.bankFor t f.vintage
    let f := (f.mset 9 24 4 t).mset 9 21 1 bank
    if f.key.length ≠ d.tblKeyLen t then d.clsException id f 0x81 4 1
    else
      let known := decide (f.vintage = d.fld Reg.CLS_VINTAGE 0 16) ||
        (d.bit Reg.CLS_VINTAGE_OLD 16 && decide (f.vintage = d.fld Reg.CLS_VINTAGE_OLD 0 16))
      let d := d.when (!known) (fun d => d.clsCount f 8)
      match d.clsFind t bank f.key with
      | none => (d.clsCount f 1).clsMiss id f
      | some l =>
        match d.clsEntry t bank l with
        | none => (d.clsCount f 1).clsMiss id f
        | some ws =>
          let d := (d.clsCount f 0).setEntry t bank l (ws.set 0 (Word.setBit (wordAt ws 0) 30 true))
          d.clsAction id ((f.mset 9 22 2 l.found).mset 9 0 21 l.index) (wordAt ws 1) (wordAt ws 2) (wordAt ws 3) false

/-- `CLASSIFIER_LOOKUP` (R261): of a frame whose key has reached the Classifier. -/
def execClassifierLookup (f : Nat) (s : State) : Host.Outcome State Fault Refusal :=
  act (fun d => match d.frame? f with
    | some g => if g.place = .keyed then d.classify f g else d
    | none => d) s

/-! ## The recirculation loop (R266) -/

/-- `RECIRC_ENTRY` (R266): the head of the highest queue that holds a frame is offered to the EBS; refused, it waits and
the queues below it with it. -/
def execRecircEntry (p : Fin 3) (s : State) : Host.Outcome State Fault Refusal :=
  act (fun d =>
    match (List.range 4).find? (fun q => !(d.loop p.val q).isEmpty) with
    | none => d
    | some q =>
      match d.loop p.val q with
      | [] => d
      | id :: rest =>
        match d.frame? id with
        | none => d.setLoop p.val q rest
        | some f =>
          let (ok, d) := d.offer .recirc id f.cls (d.unitCost 2 f.len) f.owner false
          if ok then (d.setLoop p.val q rest).moveFrame id f .press else d) s

/-! ## Drains and copies (R270, R273) -/

/-- Tables of a mask that copy, and the end of a swap where nothing more runs. -/
def Dev.swapIdle (d : Dev) : Dev := d.setFld Reg.CLS_SWAP_STATUS 0 3 0

/-- The drain's count is 0: OLD is marked invalid, DRAINED is set; with COPY the copy of each named table begins, which
takes its content at once (R270, R273). -/
def Dev.drained (d : Dev) : Dev :=
  let d := (d.setBit Reg.CLS_VINTAGE_OLD 16 false).sqSet Reg.CLS_SWAP_EVT [1]
  match d.cls.swap with
  | some w =>
    if w.copy then
      let d := (bitList 16 w.mask).foldl (fun d t => (d.setBit (Reg.CLS_TBLt_STATUS t) 30 true).copyBank t) d
      d.setFld Reg.CLS_SWAP_STATUS 0 3 4
    else d.swapIdle
  | none => d.swapIdle

/-- `BANK_COPY_DONE` (R273): COPYING of a table returns to 0, and with the last of them the swap is over. -/
def execBankCopyDone (t : Fin 16) (s : State) : Host.Outcome State Fault Refusal :=
  act (fun d =>
    if d.bit (Reg.CLS_TBLt_STATUS t.val) 30 then
      let d := d.setBit (Reg.CLS_TBLt_STATUS t.val) 30 false
      if (List.range 16).any (fun i => d.bit (Reg.CLS_TBLt_STATUS i) 30) then d else d.swapIdle
    else d) s

/-- `TABLE_CLEAR_DONE` (R254, R274): CLEARING returns to 0, and the commands that waited for it reply OK. -/
def execTableClearDone (t : Fin 16) (s : State) : Host.Outcome State Fault Refusal :=
  act (fun d =>
    if d.tblClearing t.val then
      let d := d.setBit (Reg.CLS_TBLt_STATUS t.val) 29 false
      let (mine, rest) := d.cls.clearing.partition (fun c => decide (c.1 = t.val))
      let d := { d with cls := { d.cls with clearing := rest } }
      mine.foldl (fun d c => d.finish c.2.1 c.2.2.1 c.2.2.2 (Res.ok [])) d
    else d) s

/-! ## The entry registers (R275) -/

/-- The operation CLS_ENT_ADDR names: table, bank, location, and its error if any: 3 disabled or clearing, 2 out of range,
1 a bank in use against a write. -/
def Dev.entOp (d : Dev) (write : Bool) : Nat × Nat × Loc × Nat :=
  let a := d.reg Reg.CLS_ENT_ADDR
  let t := Word.fld a 26 4
  let bank := Word.fld a 30 1
  let l : Loc := ⟨Word.bit a 31, Word.fld a 0 21, 0⟩
  let err :=
    if d.tblSize t = 0 ∨ d.tblClearing t = true then 3
    else if (if l.store then d.ovfSize t else d.tblSize t) ≤ l.index ∨
        (d.tblTwoBank t = false ∧ bank ≠ d.fld (Reg.CLS_TBLt_CFG t) 29 1) then 2
    else if write && d.bankBusy t bank then 1 else 0
  (t, bank, l, err)

/-- Records the OP and the ERR of an entry operation. -/
def Dev.entDone (d : Dev) (op err : Nat) : Dev := d.setN Reg.CLS_ENT_CMD (err * 4 + op)

/-- The mark of an entry in the list of what expert control changed last (R10): beyond every register's key. -/
def entMark (t bank : Nat) (l : Loc) : Nat := if l.store then 2 ^ 41 + ovfKey bank t l.index else 2 ^ 40 + clsKey bank t l.index

/-- OP 1: an entry read into CLS_ENT_DATA. -/
def Dev.clsEntRead (d : Dev) : Dev :=
  let (t, bank, l, err) := d.entOp false
  if err ≠ 0 then d.entDone 1 err
  else
    let ws := (d.clsRaw t bank l).getD []
    (d.setRegs (Reg.CLS_ENT_DATA 0) ((List.range 24).map (fun i => wordAt ws i))).entDone 1 0

/-- OP 2: an entry written from CLS_ENT_DATA, whole (R267). -/
def Dev.clsEntWrite (d : Dev) : Dev :=
  let (t, bank, l, err) := d.entOp true
  if err ≠ 0 then d.entDone 2 err
  else
    let ws := (d.regs (Reg.CLS_ENT_DATA 0) (8 * rowsOf (d.fld (Reg.CLS_TBLt_CFG t) 26 3)))
    ((d.setEntry t bank l (ws.set 0 (wordAt ws 0 &&& 0xC0000000#32))).markExpert (entMark t bank l) true).entDone 2 0

/-- OP 3: an entry's VALID cleared. -/
def Dev.clsEntInvalidate (d : Dev) : Dev :=
  let (t, bank, l, err) := d.entOp true
  if err ≠ 0 then d.entDone 3 err else ((d.clearEntry t bank l).markExpert (entMark t bank l) true).entDone 3 0

/-- `CLS_ENT_READ`. -/
def execClsEntRead (s : State) : Host.Outcome State Fault Refusal := act Dev.clsEntRead s

/-- `CLS_ENT_WRITE`. -/
def execClsEntWrite (s : State) : Host.Outcome State Fault Refusal := act Dev.clsEntWrite s

/-- `CLS_ENT_INVALIDATE`. -/
def execClsEntInvalidate (s : State) : Host.Outcome State Fault Refusal := act Dev.clsEntInvalidate s

/-! ## The rule opcodes (R274) -/

/-- The group of the Classifier. -/
def groupCls : Nat := 2 ^ 8

/-- 0x0301: the table's settings; the reply waits for the clearing. -/
def runRuleTableSet (c : Cmd) (d : Dev) : Dev × Option Res :=
  let t := c.pf 0 0 4
  let (d, r) := d.stageStrobe c groupCls [(Reg.CLS_TBLt_CFG t, c.p 1), (Reg.CLS_TBLt_BASE t, c.p 2),
    (Reg.CLS_TBLt_SIZE t, c.p 3), (Reg.CLS_TBLt_SEED t, c.p 4)] (Res.ok [])
  match r with
  | some x =>
    if x.status = stOK ∧ d.tblClearing t = true then
      ({ d with cls := { d.cls with clearing := d.cls.clearing ++ [(t, c.master, c.tag, c.gen)] } }, none)
    else (d, some x)
  | none => (d, none)

/-- `RULE_TABLE_SET`. -/
def execRuleTableSet (m : Fin 16) (tag : Fin 4096) (gen : Fin 16) (s : State) : Host.Outcome State Fault Refusal :=
  opStep 0x0301 runRuleTableSet m.val tag.val gen.val s

/-- The reply word of an entry's place. -/
def locWord (l : Loc) (bank : Nat) : Word := wd ((if l.store then 2 ^ 31 else 0) + bank * 2 ^ 30 + l.index)

/-- An entry of RULE_ADD: VALID, the action, the key, padding to its last row (R258). -/
def ruleEntry (code : Nat) (act : List Word) (key : List Byte) : List Word :=
  let ws := wd (2 ^ 31) :: act ++ keyWords key
  ws ++ List.replicate (8 * rowsOf code - ws.length) 0

/-- The result of a command that changed an entry of a table: it strobes group 8 itself (R130), and finds and clears the
entry's expert mark (R10). -/
def Dev.ruleDone (d : Dev) (c : Cmd) (mark : Nat) (data : List Word) : Dev × Option Res :=
  (d.markExpert mark false).stageStrobe c groupCls [] ((Res.ok data).touching d [mark])

/-- 0x0302: a key placed, or its action rewritten in place (R257); HIT of a rewritten entry stays. -/
def runRuleAdd (c : Cmd) (d : Dev) : Dev × Option Res :=
  let t := c.pf 0 0 4
  let bank := d.writeBank t
  let code := d.fld (Reg.CLS_TBLt_CFG t) 26 3
  let actw := [c.p 1, c.p 2, c.p 3]
  let key := (bytesOf (c.params.drop 4)).take (d.tblKeyLen t)
  let new := d.actionSlice (c.p 1) (c.p 2)
  let room (old : Option Nat) : Bool := match new with
    | some s => decide (old = some s) || d.poolRoom s 6 1
    | none => true
  if d.bankBusy t bank then answer d (Res.st stBusy)
  else if d.tblSize t = 0 then answer d (Res.st stNoResource)
  else match d.clsFind t bank key with
  | some l =>
    let old := d.clsEntry t bank l
    if !room (d.entrySlice old) then answer d (Res.st stNoResource)
    else
      let e := (ruleEntry code actw key).set 0 (wd (2 ^ 31) ||| (wordAt (old.getD []) 0 &&& wd (2 ^ 30)))
      (d.setEntry t bank l e).ruleDone c (entMark t bank l) [locWord l bank]
  | none =>
    match d.clsFree t bank key with
    | none => answer d (Res.st stNoResource)
    | some l =>
      if !room none then answer d (Res.st stNoResource)
      else (d.setEntry t bank l (ruleEntry code actw key)).ruleDone c (entMark t bank l) [locWord l bank]

/-- `RULE_ADD`. -/
def execRuleAdd (m : Fin 16) (tag : Fin 4096) (gen : Fin 16) (s : State) : Host.Outcome State Fault Refusal :=
  opStep 0x0302 runRuleAdd m.val tag.val gen.val s

/-- 0x0303: the entry that holds the key is cleared on one clock (R267). -/
def runRuleDelete (c : Cmd) (d : Dev) : Dev × Option Res :=
  let t := c.pf 0 0 4
  let bank := d.writeBank t
  let key := (bytesOf (c.params.drop 1)).take (d.tblKeyLen t)
  if d.bankBusy t bank then answer d (Res.st stBusy)
  else match d.clsFind t bank key with
  | some l => (d.clearEntry t bank l).ruleDone c (entMark t bank l) []
  | none => answer d ⟨stPartial, [0], false⟩

/-- `RULE_DELETE`. -/
def execRuleDelete (m : Fin 16) (tag : Fin 4096) (gen : Fin 16) (s : State) : Host.Outcome State Fault Refusal :=
  opStep 0x0303 runRuleDelete m.val tag.val gen.val s

/-- What RULE_ADD refuses with BAD_PARAM (R259, R274): a bad action, and a slice or incarnation that is not the one the
command names. -/
def Dev.ruleAddBad (d : Dev) (slice : Nat) (ws : List Word) : Bool :=
  let w1 := wordAt ws 1
  let w2 := wordAt ws 2
  actionBad w1 w2 (wordAt ws 3) ||
  (if Word.fld w1 28 4 = 2 then decide (slice ≠ Word.fld w2 0 13 ∨ d.incarnation slice ≠ Word.fld w2 24 8)
   else decide (slice ≠ 0xFFFF))

end Sys2Proof.Machine
end

