-- ==== Sys2Proof/Machine/Fwd.lean ====
section
/-! DEFINITION. The commands of Forwarding: lookups, learning, the table command registers, the forwarding opcodes
(R277 to R304). -/

namespace Sys2Proof.Machine

/-! ## From FWD_ARG to a result (R277 to R282, R288) -/

/-- A reason sent to the exception destination (R281). -/
def Dev.fwdException (d : Dev) (id : Nat) (f : Frame) (reason : Nat) : Dev :=
  d.exception id (f.setExc reason) (d.fld Reg.FWD_CTRL 30 2) (d.reg Reg.FWD_EXC_TARGET) 3 (fun d => d)

/-- The TTL or hop limit of the frame's L3 header. -/
def Frame.ttl (f : Frame) : Option Nat :=
  let l3 := f.m 2 8 8
  if l3 = 0xFF then none
  else match f.m 3 30 2 with
    | 1 => some (byteAt f.bytes (f.start + l3 + 8))
    | 2 => some (byteAt f.bytes (f.start + l3 + 7))
    | _ => none

/-- NEXTHOP: an invalid entry, a TTL that expires, else the frame is queued at NODE to be edited as it is sent (R282). -/
def Dev.nextHop (d : Dev) (id : Nat) (f : Frame) (n : Nat) : Dev :=
  let w0 := d.reg (Reg.FWD_NHn n 0)
  if !Word.bit w0 31 then (d.fwdEvt f 1).fwdException id f 0x95
  else if Word.bit w0 30 && (match f.ttl with
      | some t => decide (t ≤ 1)
      | none => false) then ((d.fwdCount f 12).fwdEvt f 0).fwdException id f 0x93
  else d.moveFrame id { f with edit := some n } (.toNode (d.fld (Reg.FWD_NHn n 3) 0 16))

/-- A result applied; `code` is the miss code of a miss result (R280, R281). -/
def Dev.fwdResult (d : Dev) (id : Nat) (f : Frame) (a b : Word) (code : Nat) : Dev :=
  if resultBad a b then (d.fwdEvt f 1).fwdException id f 0x94
  else
    let f := f.bulk (Word.bit a 27)
    match Word.fld a 28 4 with
    | 0 => d.freeFrame id
    | 1 => d.moveFrame id (if code = 0 then f else f.setExc code) (.toNode (Word.fld a 0 16))
    | 2 => d.sendSlice id (if code = 0 then f else f.setExc code) (destOf b kindRx 0)
    | 3 => d.sendChannel id (f.setExc code) (Word.fld a 8 3) (Word.fld a 0 8) 3 b
    | 4 => d.sendRemote id f (Word.fld a 0 9) (Word.fld b 0 16)
    | _ => d.nextHop id f (Word.fld a 0 14)

/-- The L2 key words of a MAC at an offset of the window and a bridge domain (R278). -/
def l2Key (w : List Byte) (o bd : Nat) : List Word :=
  let m := wordsOf 2 (slice w o 6)
  [wd bd, wordAt m 0, wordAt m 1 &&& 0xFFFF#32]

/-- An L2 destination lookup (R278, R281). -/
def Dev.fwdL2 (d : Dev) (id : Nat) (f : Frame) (bd : Nat) : Dev :=
  match d.htFind .l2 (l2Key f.window 0 bd) with
  | some i => (d.fwdCount f 0).fwdResult id f (resOf .l2 (d.htRaw .l2 i)).1 (resOf .l2 (d.htRaw .l2 i)).2 0
  | none => (d.fwdCount f 1).fwdResult id f (d.reg (Reg.FWD_BDb_MISS bd 0)) (d.reg (Reg.FWD_BDb_MISS bd 1)) 0x90

/-- An LPM lookup (R278, R293): the entry it selects sets HIT (R299). -/
def Dev.fwdLpm (d : Dev) (id : Nat) (f : Frame) (vrf : Nat) : Dev :=
  let l3 := f.m 2 8 8
  let v6 := decide (f.m 3 30 2 = 2)
  let at_ := l3 + (if v6 then 24 else 16)
  let n := if v6 then 16 else 4
  if l3 = 0xFF ∨ (f.m 3 30 2 ≠ 1 ∧ v6 = false) ∨ 192 < at_ + n then d.fwdException id f 0x98
  else
    let d := d.count (Reg.TCM_COUNTS f.pipe 2) 1
    match d.tcmFind v6 (lpmKey v6 vrf (beAt f.window at_ n)) with
    | some i =>
      let ws := d.tcm i
      let d := d.tcmPut i (ws.set 12 (Word.setBit (wordAt ws 12) 30 true))
      ((d.fwdCount f 4).count (Reg.TCM_COUNTS f.pipe 3) 1).fwdResult id f (wordAt ws 10) (wordAt ws 11) 0
    | none => (d.fwdCount f 5).fwdResult id f (d.reg (Reg.FWD_LPM_MISS 0)) (d.reg (Reg.FWD_LPM_MISS 1)) 0x92

/-- A flow lookup: HIT, the counts where FLOW_COUNT asks, or the miss (R278, R281, R285). -/
def Dev.fwdFlow (d : Dev) (id : Nat) (f : Frame) (fallback : Bool) (vrf : Nat) : Dev :=
  let key := [0, 0] ++ wordsOf 10 (f.key.take 40)
  match d.htFind .flow key with
  | some i =>
    let ws := d.htRaw .flow i
    let ws' := ws.set 0 (Word.setBit (wordAt ws 0) 30 true)
    let ws' := if d.bit Reg.FWD_CTRL 27 then
        (ws'.set 14 (wordAt ws 14 + 1)).set 15 (wordAt ws 15 + wd f.len) else ws'
    ((d.setHt .flow (Map.put (d.htMap .flow) i ws')).fwdCount f 2).fwdResult id f (wordAt ws 12) (wordAt ws 13) 0
  | none =>
    let d := d.fwdCount f 3
    if fallback then d.fwdLpm id (f.setExc 0x91) vrf
    else d.fwdResult id f (d.reg (Reg.FWD_FLOW_MISS 0)) (d.reg (Reg.FWD_FLOW_MISS 1)) 0x91

/-- The source lookup of R288: what it queues, and whether STATIC_MOVE sends the frame to the exception destination. -/
def Dev.learnSource (d : Dev) (f : Frame) (bd : Nat) : Dev × Bool :=
  let p := f.srcPort
  let key := l2Key f.window 6 bd
  let node := d.fld (Reg.FWD_PORT_NODEp p) 0 16
  match d.htFind .l2 key with
  | none => (d.learnQueue ⟨d.learnWords 1 p key (some node), false⟩, false)
  | some i =>
    let ws := d.htRaw .l2 i
    let here := decide (wordAt ws 4 &&& 0xF7FFFFFF#32 = wd (2 ^ 28 + node))
    let d := d.htHit .l2 i true
    if Word.bit (wordAt ws 0) 29 then
      if Word.fld (wordAt ws 4) 28 4 = 1 ∧ here = false then
        (((d.learnCount 11).sqSet (Reg.FWD_EVT_STATUS 0) [2]), d.bit Reg.FWD_CTRL 28)
      else (d, false)
    else if Word.bit (wordAt ws 0) 28 && !Word.bit (wordAt ws 0) 27 && here then (d, false)
    else if Word.bit (wordAt ws 0) 28 then (d.learnQueue ⟨d.learnWords 2 p key (some node), false⟩, false)
    else (d, false)

/-- The whole of a frame's Forwarding (R277). -/
def Dev.forward (d : Dev) (id : Nat) (f : Frame) : Dev :=
  let a := f.fwdArg
  let first := Word.fld a 30 2
  let bd := Word.fld a 16 12
  let vrf := Word.fld a 4 12
  let learn := Word.bit a 28 && decide (f.srcPort < 16)
  let lead := if f.pass = 0 then 0 else d.profLead f.profile
  if first = 3 ∨ Word.fld a 0 4 ≠ 0 ∨ (Word.bit a 29 = true ∧ first ≠ 1) then (d.fwdEvt f 1).fwdException id f 0x94
  else if (first = 0 ∨ learn = true) ∧ lead ≠ 0 then d.fwdException id f 0x97
  else
    let (d, exc) := if learn then d.learnSource f bd else (d, false)
    if exc then d.fwdException id f 0x96
    else match first with
      | 0 => d.fwdL2 id f bd
      | 1 => d.fwdFlow id f (Word.bit a 29) vrf
      | _ => d.fwdLpm id f vrf

/-- `FORWARDING_LOOKUP` (R279): of a frame the Classifier passed on with CONTINUE. -/
def execForwardingLookup (f : Nat) (s : State) : Host.Outcome State Fault Refusal :=
  act (fun d => match d.frame? f with
    | some g => if g.place = .forward then d.forward f g else d
    | none => d) s

/-! ## The learning engine (R289 to R291) -/

/-- The L2 entry a message places. -/
def learnEntry (ws : List Word) (foreign : Bool) : List Word :=
  let a := if foreign then wd (4 * 2 ^ 28 + Word.fld (wordAt ws 0) 16 9) else wordAt ws 4
  let b := if foreign then wd (Word.fld (wordAt ws 4) 0 16) else 0
  [wd (2 ^ 31 + (if foreign then 2 ^ 27 else 2 ^ 30) + 2 ^ 28) ||| (wordAt ws 0 &&& 0xFFF#32), wordAt ws 1,
   wordAt ws 2 &&& 0xFFFF#32, 0, a, b, wd (Word.fld (wordAt ws 0) 16 9), wordAt ws 3]

/-- A message's place: the entry of its key, else a free one. -/
def Dev.learnAt (d : Dev) (ws : List Word) : Option Nat :=
  match d.htFind .l2 (learnKey ws) with
  | some i => some i
  | none => d.htFree .l2 (learnKey ws)

/-- A local message applied, and sent to the domain where DOMAIN_LEARN asks (R289). -/
def Dev.learnLocal (d : Dev) (ws : List Word) : Dev :=
  let seq := d.reg Reg.FWD_LEARN_SEQ + 1
  let ws := sealLearn ws seq
  let send (d : Dev) : Dev :=
    if d.bit Reg.FWD_CTRL 29 then (d.setReg Reg.FWD_LEARN_SEQ seq).sendLearn ws else d
  if Word.fld (wordAt ws 0) 28 4 = 3 then send d
  else
    let static := match d.htFind .l2 (learnKey ws) with
      | some i => Word.bit (wordAt (d.htRaw .l2 i) 0) 29
      | none => false
    if static then d.learnCount 11
    else match d.learnAt ws with
      | none => (d.learnCount 8).sqSet (Reg.FWD_EVT_STATUS 0) [3]
      | some i =>
        let d := if Word.fld (wordAt ws 0) 28 4 = 2 then d.learnCount 10 else d
        send (d.htPut .l2 i (learnEntry ws false))

/-- A peer's message applied (R291). -/
def Dev.learnForeign (d : Dev) (ws : List Word) : Dev :=
  let kind := Word.fld (wordAt ws 0) 28 4
  let bad := decide (Word.fld (wordAt ws 7) 0 16 ≠ crc16 (bytesOf (ws.take 7))) || decide (kind = 0 ∨ 3 < kind) ||
    decide (kind ≠ 3 ∧ Word.fld (wordAt ws 4) 28 4 ≠ 1)
  let found := d.htFind .l2 (learnKey ws)
  if bad then d.learnCount 9
  else if kind = 3 then
    match found with
    | some i =>
      let e := d.htRaw .l2 i
      if Word.bit (wordAt e 0) 27 && decide (Word.fld (wordAt e 6) 0 9 = Word.fld (wordAt ws 0) 16 9) then d.htClear .l2 i
      else d
    | none => d
  else
    let static := match found with
      | some i => Word.bit (wordAt (d.htRaw .l2 i) 0) 29
      | none => false
    if static then d
    else match d.learnAt ws with
      | none => (d.learnCount 8).sqSet (Reg.FWD_EVT_STATUS 0) [3]
      | some i => d.htPut .l2 i (learnEntry ws true)

/-- `LEARN_APPLY` (R289): the oldest message of the engine's queue. -/
def execLearnApply (s : State) : Host.Outcome State Fault Refusal :=
  act (fun d => match d.fwd.learn with
    | [] => d
    | m :: rest =>
      let d := { d with fwd := { d.fwd with learn := rest } }
      if m.foreign then d.learnForeign m.words else d.learnLocal m.words) s

/-! ## The table command register (R286) -/

/-- The table FWD_TADDR names. -/
def Dev.tTable (d : Dev) : HTable := if d.bit Reg.FWD_TADDR 31 then .flow else .l2

/-- Words of an entry of a table. -/
def HTable.words : HTable → Nat
  | .l2 => 8
  | .flow => 16

/-- The place FWD_TADDR names, `none` where its index is out of range. -/
def Dev.tPlace (d : Dev) : Option Nat :=
  let i := d.fld Reg.FWD_TADDR 0 26
  if d.bit Reg.FWD_TADDR 30 then (if i < 65536 then some (d.tTable.ovf + i) else none)
  else if i < d.htSize d.tTable then some i else none

/-- FWD_TDATA as entry words, reserved bits 0 (R7). -/
def Dev.tData (d : Dev) : List Word :=
  let ws := d.regs (Reg.FWD_TDATA 0) d.tTable.words
  match d.tTable with
  | .l2 => (((ws.set 0 (wordAt ws 0 &&& 0xF8000FFF#32)).set 2 (wordAt ws 2 &&& 0xFFFF#32)).set 3 0).set 6
      (wordAt ws 6 &&& 0x1FF#32)
  | .flow => ws.set 0 (wordAt ws 0 &&& 0xC0000000#32)

/-- The mark of an entry in the list of what expert control changed last (R10). -/
def htMark (t : HTable) (i : Nat) : Nat := (if t = .flow then 2 ^ 43 else 2 ^ 42) + i

/-- OP and ERR recorded. -/
def Dev.tDone (d : Dev) (op err : Nat) : Dev := d.setN Reg.FWD_TCMD (err * 16 + op)

/-- An entry put into FWD_TDATA. -/
def Dev.tShow (d : Dev) (t : HTable) (i : Nat) : Dev :=
  let ws := d.htRaw t i
  d.setRegs (Reg.FWD_TDATA 0) ((List.range t.words).map (fun j => wordAt ws j))

/-- An operation of the table command register by its OP (R286). -/
def Dev.tableOp (d : Dev) (op : Nat) : Dev :=
  let t := d.tTable
  let key := d.tData
  if d.htSize t = 0 then d.tDone op 4
  else match op with
  | 1 => (match d.tPlace with
    | some i => (d.tShow t i).tDone 1 0
    | none => d.tDone 1 3)
  | 2 => (match d.tPlace with
    | some i => ((d.htPut t i key).markExpert (htMark t i) true).tDone 2 0
    | none => d.tDone 2 3)
  | 3 => (match d.tPlace with
    | some i => ((d.htClear t i).markExpert (htMark t i) true).tDone 3 0
    | none => d.tDone 3 3)
  | 4 => (match d.htFind t key with
    | some i => ((d.tShow t i).setReg Reg.FWD_TRESULT (t.loc i)).tDone 4 0
    | none => d.tDone 4 1)
  | 5 => (match d.htFind t key with
    | some _ => d.tDone 5 5
    | none => (match d.htFree t key with
      | some i => (((d.htPut t i (key.set 0 (Word.setBit (wordAt key 0) 31 true))).markExpert (htMark t i) true).setReg
          Reg.FWD_TRESULT (t.loc i)).tDone 5 0
      | none => d.tDone 5 2))
  | _ => (match d.htFind t key with
    | some i => ((d.htClear t i).markExpert (htMark t i) true).tDone 6 0
    | none => d.tDone 6 1)

/-- `FWD_TABLE_READ`. -/
def execFwdTableRead (s : State) : Host.Outcome State Fault Refusal := act (fun d => d.tableOp 1) s
/-- `FWD_TABLE_WRITE`. -/
def execFwdTableWrite (s : State) : Host.Outcome State Fault Refusal := act (fun d => d.tableOp 2) s
/-- `FWD_TABLE_INVALIDATE`. -/
def execFwdTableInvalidate (s : State) : Host.Outcome State Fault Refusal := act (fun d => d.tableOp 3) s
/-- `FWD_TABLE_SEARCH`. -/
def execFwdTableSearch (s : State) : Host.Outcome State Fault Refusal := act (fun d => d.tableOp 4) s
/-- `FWD_TABLE_INSERT`. -/
def execFwdTableInsert (s : State) : Host.Outcome State Fault Refusal := act (fun d => d.tableOp 5) s
/-- `FWD_TABLE_DELETE`. -/
def execFwdTableDelete (s : State) : Host.Outcome State Fault Refusal := act (fun d => d.tableOp 6) s

/-! ## The LPM command register (R298, R304) -/

/-- OP and ERR of TCM_CMD recorded. -/
def Dev.tcmDone (d : Dev) (op err : Nat) : Dev := d.setN Reg.TCM_CMD (err * 16 + op)

/-- The entry is the odd half of a valid pair (R298). -/
def Dev.oddHalf (d : Dev) (i : Nat) : Bool :=
  decide (d.v6Base ≤ i ∧ i % 2 = 1) && tcmValid (d.tcm (i - 1))

/-- The mark of an LPM entry (R10). -/
def tcmMark (i : Nat) : Nat := 2 ^ 44 + i

/-- OP 1. -/
def Dev.tcmRead (d : Dev) : Dev := (d.setRegs (Reg.TCM_DATA 0) (d.tcm (d.fld Reg.TCM_ADDR 0 17))).tcmDone 1 0

/-- OP 2. -/
def Dev.tcmWrite (d : Dev) : Dev :=
  let i := d.fld Reg.TCM_ADDR 0 17
  let ws := d.regs (Reg.TCM_DATA 0) 13
  if d.oddHalf i then d.tcmDone 2 1
  else (((d.tcmPut i (ws.set 12 (wordAt ws 12 &&& 0xC00000FF#32))).markExpert (tcmMark i) true).showTcm).tcmDone 2 0

/-- OP 3. -/
def Dev.tcmInvalidate (d : Dev) : Dev :=
  let i := d.fld Reg.TCM_ADDR 0 17
  if d.oddHalf i then d.tcmDone 3 1
  else (((d.tcmClear i).markExpert (tcmMark i) true).showTcm).tcmDone 3 0

/-- `TCM_READ`. -/
def execTcmRead (s : State) : Host.Outcome State Fault Refusal := act Dev.tcmRead s
/-- `TCM_WRITE` (R298). -/
def execTcmWrite (s : State) : Host.Outcome State Fault Refusal := act Dev.tcmWrite s
/-- `TCM_INVALIDATE`. -/
def execTcmInvalidate (s : State) : Host.Outcome State Fault Refusal := act Dev.tcmInvalidate s

/-- `RACKING_MOVE` (R296, R297): a valid entry moves to a free index of its partition that keeps the order. -/
def execRackingMove (i j : Fin 131072) (s : State) : Host.Outcome State Fault Refusal :=
  act (fun d =>
    let v6 := decide (d.v6Base ≤ i.val)
    let live := d.tcmLive v6
    let (lo, hi, step) := d.tcmRange v6
    let len := tcmLen (d.tcm i.val)
    let others := live.filter (fun k => decide (k ≠ i.val))
    let keeps := others.all (fun k => if k < j.val then decide (len ≤ tcmLen (d.tcm k)) else decide (tcmLen (d.tcm k) ≤ len))
    if live.contains i.val && !live.contains j.val && decide (lo ≤ j.val ∧ j.val < hi ∧ (j.val - lo) % step = 0) && keeps
    then d.tcmMove v6 i.val j.val else d) s

/-! ## The forwarding opcodes (R299 to R301) -/

/-- A table entry added or replaced by a command: pool 6 must have room (R169). -/
def Dev.htAdd (d : Dev) (t : HTable) (ws : List Word) : Dev × Option Res :=
  let new := d.htSlice t ws
  let room (old : Option Nat) : Bool := match new with
    | some s => decide (old = some s) || d.poolRoom s 6 1
    | none => true
  let place := match d.htFind t ws with
    | some i => some i
    | none => d.htFree t ws
  match place with
  | none => answer d (Res.st stNoResource)
  | some i =>
    if room (d.htSlice t (d.htRaw t i)) then
      answer ((d.htPut t i ws).markExpert (htMark t i) false) ((Res.ok [t.locReply i]).touching d [htMark t i])
    else answer d (Res.st stNoResource)

/-- A table entry deleted by a command, only when its HIT is 0 where IF_IDLE asks (R300); whether it was deleted. -/
def Dev.htDelete (d : Dev) (t : HTable) (key : List Word) (idle : Bool) : Dev × Option Res :=
  match d.htFind t key with
  | none => answer d ⟨stPartial, [0], false⟩
  | some i =>
    let ws := d.htRaw t i
    if idle && Word.bit (wordAt ws 0) 30 then answer d (Res.touching ⟨stPartial, [1], false⟩ d [htMark t i])
    else
      let local_ := decide (t = .l2) && Word.bit (wordAt ws 0) 28 && !Word.bit (wordAt ws 0) 27
      let d' := (d.htClear t i).markExpert (htMark t i) false
      let d' := if local_ && d.bit Reg.FWD_CTRL 29 then d'.learnQueue ⟨d.learnWords 3 0 (htKeyWords .l2 ws) none, false⟩ else d'
      answer d' ((Res.ok []).touching d [htMark t i])

/-- 0x0305. -/
def runL2Add (c : Cmd) (d : Dev) : Dev × Option Res :=
  d.htAdd .l2 [wd (2 ^ 31) ||| (c.p 0 &&& 0x80000000#32) >>> 2 ||| (c.p 0 &&& 0xFFF#32), c.p 1, c.p 2 &&& 0xFFFF#32, 0,
    c.p 3, c.p 4, 0, 0]

/-- `L2_ADD`. -/
def execL2Add (m : Fin 16) (tag : Fin 4096) (gen : Fin 16) (s : State) : Host.Outcome State Fault Refusal :=
  opStep 0x0305 runL2Add m.val tag.val gen.val s

/-- 0x0306. -/
def runL2Delete (c : Cmd) (d : Dev) : Dev × Option Res :=
  d.htDelete .l2 [c.p 0 &&& 0xFFF#32, c.p 1, c.p 2] (Word.bit (c.p 0) 31)

/-- `L2_DELETE`. -/
def execL2Delete (m : Fin 16) (tag : Fin 4096) (gen : Fin 16) (s : State) : Host.Outcome State Fault Refusal :=
  opStep 0x0306 runL2Delete m.val tag.val gen.val s

/-- 0x0307. -/
def runFlowAdd (c : Cmd) (d : Dev) : Dev × Option Res :=
  d.htAdd .flow (wd (2 ^ 31) :: c.p 12 :: (List.range 10).map c.p ++ [c.p 10, c.p 11, 0, 0])

/-- `FLOW_ADD`. -/
def execFlowAdd (m : Fin 16) (tag : Fin 4096) (gen : Fin 16) (s : State) : Host.Outcome State Fault Refusal :=
  opStep 0x0307 runFlowAdd m.val tag.val gen.val s

/-- 0x0308. -/
def runFlowDelete (c : Cmd) (d : Dev) : Dev × Option Res :=
  d.htDelete .flow (0 :: 0 :: (List.range 10).map c.p) (Word.bit (c.p 10) 31)

/-- `FLOW_DELETE`. -/
def execFlowDelete (m : Fin 16) (tag : Fin 4096) (gen : Fin 16) (s : State) : Host.Outcome State Fault Refusal :=
  opStep 0x0308 runFlowDelete m.val tag.val gen.val s

/-- The prefix an LPM command names: partition, LENGTH, key, care mask. -/
def lpmOf (c : Cmd) : Bool × Nat × Nat × Nat :=
  let v6 := decide (c.pf 0 28 4 = 6)
  let len := c.pf 0 0 8
  let addr := if v6 then beNat (beWords [c.p 1, c.p 2, c.p 3, c.p 4]) else (c.p 1).toNat
  (v6, len, lpmKey v6 (c.pf 0 16 12) addr, lpmCare v6 len)

/-- The index that holds a prefix. -/
def Dev.lpmFind (d : Dev) (v6 : Bool) (key care : Nat) : Option Nat :=
  (d.tcmLive v6).find? (fun i =>
    if v6 then decide (tcmKey (d.tcm i) = key / 2 ^ 160 ∧ tcmCare (d.tcm i) = care / 2 ^ 160 ∧
      tcmKey (d.tcm (i + 1)) = key % 2 ^ 160 ∧ tcmCare (d.tcm (i + 1)) = care % 2 ^ 160)
    else decide (tcmKey (d.tcm i) = key ∧ tcmCare (d.tcm i) = care))

/-- 0x0309: a prefix updated in one write, or placed in order, racking as needed. -/
def runLpmAdd (c : Cmd) (d : Dev) : Dev × Option Res :=
  let (v6, len, key, care) := lpmOf c
  let new := d.actionSlice (c.p 5) (c.p 6)
  let room (old : Option Nat) : Bool := match new with
    | some s => decide (old = some s) || d.poolRoom s 6 1
    | none => true
  match d.lpmFind v6 key care with
  | some i =>
    let ws := d.tcm i
    if room (d.actionSlice (wordAt ws 10) (wordAt ws 11)) then
      answer ((d.tcmPut i ((ws.set 10 (c.p 5)).set 11 (c.p 6))).markExpert (tcmMark i) false)
        ((Res.ok [wd i]).touching d [tcmMark i])
    else answer d (Res.st stNoResource)
  | none =>
    if !room none then answer d (Res.st stNoResource)
    else match d.lpmPlace v6 len with
      | (d, none, _) => answer d (Res.st stNoResource)
      | (d, some i, racked) =>
        let d := if racked then (List.range 3).foldl (fun d p => d.count (Reg.TCM_COUNTS p 1) 1) d else d
        let es := lpmEntries v6 key care len (c.p 5) (c.p 6)
        let d := ((List.range es.length).reverse).foldl (fun d k => d.tcmPut (i + k) (es.getD k [])) d
        answer d.showTcm (Res.ok [wd i])

/-- `LPM_ADD`. -/
def execLpmAdd (m : Fin 16) (tag : Fin 4096) (gen : Fin 16) (s : State) : Host.Outcome State Fault Refusal :=
  opStep 0x0309 runLpmAdd m.val tag.val gen.val s

/-- 0x030A: VALID cleared in one write. -/
def runLpmDelete (c : Cmd) (d : Dev) : Dev × Option Res :=
  let (v6, _, key, care) := lpmOf c
  match d.lpmFind v6 key care with
  | some i => answer ((d.tcmClear i).markExpert (tcmMark i) false).showTcm ((Res.ok []).touching d [tcmMark i])
  | none => answer d ⟨stPartial, [0], false⟩

/-- `LPM_DELETE`. -/
def execLpmDelete (m : Fin 16) (tag : Fin 4096) (gen : Fin 16) (s : State) : Host.Outcome State Fault Refusal :=
  opStep 0x030A runLpmDelete m.val tag.val gen.val s

/-- What LPM_ADD and LPM_DELETE refuse (R301). -/
def lpmBad (ws : List Word) : Bool :=
  let fam := Word.fld (wordAt ws 0) 28 4
  let len := Word.fld (wordAt ws 0) 0 8
  let addr := beNat (beWords ((ws.drop 1).take 4))
  match fam with
  | 4 => decide (32 < len) || decide ((wordAt ws 1).toNat % 2 ^ (32 - len) ≠ 0)
  | 6 => decide (128 < len) || decide (addr % 2 ^ (128 - len) ≠ 0)
  | _ => true

/-- A result that a command supplies: refused where malformed, or where the slice it delivers to is not the one the
command names (R280, R301). -/
def Dev.resultParamBad (d : Dev) (slice : Nat) (a b : Word) : Bool :=
  resultBad a b ||
  (if Word.fld a 28 4 = 2 then decide (slice ≠ Word.fld b 0 13 ∨ d.incarnation slice ≠ Word.fld b 24 8)
   else decide (slice ≠ 0xFFFF))

/-! ## HIT_SCAN (R299) -/

/-- The number of entries HIT_SCAN may range over, `none` where the table is none. -/
def Dev.scanSize (d : Dev) (tbl : Nat) (ovf : Bool) : Option Nat :=
  if tbl < 16 then some (if ovf then d.ovfSize tbl else d.tblSize tbl)
  else match tbl with
  | 16 => some (if ovf then 65536 else d.htSize .l2)
  | 17 => some (if ovf then 65536 else d.htSize .flow)
  | 18 => if ovf then none else some 131072
  | _ => none

/-- The HIT of one entry: 0 where it is not valid. -/
def Dev.scanHit (d : Dev) (tbl bank : Nat) (ovf : Bool) (i : Nat) : Bool :=
  let w0 (e : Option (List Word)) : Bool := match e with
    | some ws => Word.bit (wordAt ws 0) 30
    | none => false
  if tbl < 16 then w0 (d.clsEntry tbl bank ⟨ovf, i, 0⟩)
  else if tbl = 16 then w0 (d.htEntry .l2 (if ovf then HTable.ovf .l2 + i else i))
  else if tbl = 17 then w0 (d.htEntry .flow (if ovf then HTable.ovf .flow + i else i))
  else tcmValid (d.tcm i) && Word.bit (wordAt (d.tcm i) 12) 30

/-- The HIT of one entry cleared. -/
def Dev.scanClear (d : Dev) (tbl bank : Nat) (ovf : Bool) (i : Nat) : Dev :=
  if tbl < 16 then
    match d.clsEntry tbl bank ⟨ovf, i, 0⟩ with
    | some ws => d.setEntry tbl bank ⟨ovf, i, 0⟩ (ws.set 0 (Word.setBit (wordAt ws 0) 30 false))
    | none => d
  else if tbl = 16 then d.htHit .l2 (if ovf then HTable.ovf .l2 + i else i) false
  else if tbl = 17 then d.htHit .flow (if ovf then HTable.ovf .flow + i else i) false
  else d.tcmPut i ((d.tcm i).set 12 (Word.setBit (wordAt (d.tcm i) 12) 30 false))

/-- 0x030B: the count scanned and the bitmap; with CLEAR every bit set is cleared. -/
def runHitScan (c : Cmd) (d : Dev) : Dev × Option Res :=
  let tbl := c.pf 0 0 5
  let bank := c.pf 0 30 1
  let ovf := Word.bit (c.p 0) 29
  let first := c.pf 1 0 27
  let n := c.pf 2 0 16
  match d.scanSize tbl ovf with
  | none => answer d (Res.st stBadParam)
  | some size =>
    if n % 32 ≠ 0 ∨ n < 32 ∨ 32608 < n ∨ size < first + n then answer d (Res.st stBadParam)
    else
      let hits := (List.range n).filter (fun i => d.scanHit tbl bank ovf (first + i))
      let word (k : Nat) : Word := wd ((hits.filter (fun i => decide (i / 32 = k))).map (fun i => 2 ^ (i % 32))).sum
      let d' := if Word.bit (c.p 0) 31 then hits.foldl (fun d i => d.scanClear tbl bank ovf (first + i)) d else d
      answer d' (Res.ok (wd n :: (List.range (n / 32)).map word))

/-- `HIT_SCAN`. -/
def execHitScan (m : Fin 16) (tag : Fin 4096) (gen : Fin 16) (s : State) : Host.Outcome State Fault Refusal :=
  opStep 0x030B runHitScan m.val tag.val gen.val s

end Sys2Proof.Machine
end

