-- ==== Sys2Proof/Machine/Fpc.lean ====
section
/-! DEFINITION. The commands of the flow processors: instructions of threads, waits, wakes, channel requests, inbound
messages, the debugger, takeovers (R305 to R335). -/

namespace Sys2Proof.Machine

/-! ## Instructions (R309 to R311, R327) -/

/-- An instruction issued by a RUNNING thread: its slot is charged, the PC moves on. -/
def Dev.slot (d : Dev) (t : Nat) : Dev := (d.chargeSlots t 1).setPc t (d.pc t + 1)

/-- What an instruction of a thread does while the thread is RUNNING. -/
def Dev.ifRunning (d : Dev) (t : Nat) (f : Dev → Dev) : Dev := if d.thrState t = 1 then f d else d

/-- An ordinary instruction (R309, R310, R322). -/
def Dev.issue (d : Dev) (t : Nat) (r : Issue) : Dev :=
  let d := d.chargeSlots t 1
  let go (d : Dev) (pc : Nat) : Dev := if 32768 ≤ pc then d.thrFault t 2 else d.setPc t pc
  match r with
  | .next pc => go d pc
  | .store pc a w => (match d.winWrite t a w.bytes with
    | some d => go d pc
    | none => d.thrFault t 3)
  | .fault code => d.thrFault t code.val

/-- `INSTRUCTION_ISSUE` (R322). -/
def execInstructionIssue (t : Fin 512) (r : Issue) (s : State) : Host.Outcome State Fault Refusal :=
  act (fun d => d.ifRunning t.val (fun d => d.issue t.val r)) s

/-- The event wait: on at once while a bit under the mask is pending, else WAITING, or IDLE where ENABLE was committed 0; a
thread that holds a port faults (R311, R318, R328). -/
def Dev.eventWait (d : Dev) (t : Nat) (mask : Word) : Dev :=
  let d := (d.chargeSlots t 1).setReg (thrReg Reg.FPC_THR_WAITMASK t) mask
  if (d.holding t).isSome then d.thrFault t 5
  else
    let d := d.setPc t (d.pc t + 1)
    if d.pendingBits t &&& mask ≠ 0 then d
    else if (d.thread t).leaving then d.thrIdle t
    else d.setThr t 3

/-- `EVENT_WAIT` (R311). -/
def execEventWait (t : Fin 512) (mask : Word) (s : State) : Host.Outcome State Fault Refusal :=
  act (fun d => d.ifRunning t.val (fun d => d.eventWait t.val mask)) s

/-- `EVENT_CLEAR` (R311): bit 28 is a level and stays. -/
def execEventClear (t : Fin 512) (bits : Word) (s : State) : Host.Outcome State Fault Refusal :=
  act (fun d => d.ifRunning t.val (fun d =>
    let k := thrReg Reg.FPC_THR_EVENTS t.val
    (d.slot t.val).setReg k (d.reg k &&& ~~~ bits))) s

/-- `THREAD_EXIT` (R327): a new start while ENABLE is 1, else IDLE. -/
def execThreadExit (t : Fin 512) (s : State) : Host.Outcome State Fault Refusal :=
  act (fun d => d.ifRunning t.val (fun d =>
    let d := d.chargeSlots t.val 1
    if d.thrOn t.val then d.thrStart t.val else d.thrIdle t.val)) s

/-- `CHARGE_SLICE_SET` (R314). -/
def execChargeSliceSet (t : Fin 512) (slice : Option (Fin 8192 × Fin 256)) (s : State) : Host.Outcome State Fault Refusal :=
  act (fun d => d.ifRunning t.val (fun d =>
    (d.slot t.val).setN (thrReg Reg.FPC_THR_CHARGE t.val) (match slice with
      | some (n, i) => 2 ^ 31 + i.val * 2 ^ 16 + n.val
      | none => 0))) s

/-! ## Wake-ups (R312, R313, R327) -/

/-- `THREAD_WAKE_UP` (R312). -/
def execThreadWakeUp (t : Fin 512) (s : State) : Host.Outcome State Fault Refusal :=
  act (fun d =>
    let k := thrReg Reg.FPC_THR_EVENTS t.val
    if d.thrState t.val = 3 ∧ d.reg k &&& d.reg (thrReg Reg.FPC_THR_WAITMASK t.val) ≠ 0 then
      (d.setBit k 28 false).setThr t.val 4
    else d) s

/-- `THREAD_ADMIT` (R313): offered at the thread-wake-up point at FIXED of entry 4; a refusal counts once. -/
def execThreadAdmit (t : Fin 512) (s : State) : Host.Outcome State Fault Refusal :=
  act (fun d =>
    if d.thrState t.val = 4 then
      let again := (d.waitingUnit .wake t.val).isSome
      let (ok, d) := d.offer .wake t.val (d.thrClass t.val) (d.unitCost 4 0) (d.thrOwner t.val) (d.fpc.wakeAngle.contains t.val)
      if ok then
        ({ d with fpc := { d.fpc with wakeAngle := d.fpc.wakeAngle.filter (· ≠ t.val) } } : Dev).setThr t.val 1
      else d.when (!again) (fun d => d.fpcCount (t.val / 64) 0 1)
    else d) s

/-- `ANGLE_WAKE` (R54, R311): ARG[23:0] is ORed into the thread's event bits. -/
def execAngleWake (t : Fin 512) (s : State) : Host.Outcome State Fault Refusal :=
  act (fun d => match d.takeFiring 6 t.val with
    | some (f, d) =>
      let d := d.postEvents t.val (Word.fld f.arg 0 24)
      if d.thrState t.val = 3 then
        { d with fpc := { d.fpc with wakeAngle := t.val :: d.fpc.wakeAngle.filter (· ≠ t.val) } }
      else d
    | none => d) s

/-- `THREAD_TIMER_EXPIRY` (R311). -/
def execThreadTimerExpiry (t : Fin 512) (i : Fin 4) (s : State) : Host.Outcome State Fault Refusal :=
  act (fun d =>
    if (Map.get? (d.thread t.val).timers i.val).isSome then
      (d.setThread t.val (fun th => { th with timers := Map.del th.timers i.val })).postEvents t.val (2 ^ (24 + i.val))
    else d) s

/-! ## Requests (R315 to R318) -/

/-- A put (R315, R316, R318, R331). -/
def Dev.channelPut (d : Dev) (t h : Nat) (w : Word) (fin : Bool) : Dev :=
  let d := d.slot t
  let cond (d : Dev) (n : Nat) : Dev := d.setThread t (fun th => { th with cond := n })
  if (d.thread t).abort then (cond d 2).setThread t (fun th => { th with abort := !fin })
  else if 0x0E ≤ h ∨ (h = 0 ∧ isSup t = false) then d.thrFault t 4
  else match d.holding t with
  | some k => d.stageWord t k w fin
  | none =>
    match d.holder (t / 64) h with
    | none => (d.setHold t (some h)).stageWord t h w fin
    | some _ =>
      if d.fpc.heldNoted.contains (256 * (t / 64) + h) then (cond d 1).fpcCount (t / 64) 2 1
      else (d.setThread t (fun th => { th with stalled := some (h, w, fin), cond := 0 })).setThr t 2

/-- After a request has been presented its port goes to the next requester. -/
def Dev.putAndGrant (d : Dev) (t h : Nat) (w : Word) (fin : Bool) : Dev :=
  let held := d.holding t
  let d := d.channelPut t h w fin
  if fin && (d.holding t).isNone then d.grantPort (t / 64) (held.getD h) 64 else d

/-- `CHANNEL_PUT` (R318). -/
def execChannelPut (t : Fin 512) (chan : Fin 256) (w : Word) (fin : Bool) (s : State) : Host.Outcome State Fault Refusal :=
  act (fun d => d.ifRunning t.val (fun d => d.putAndGrant t.val chan.val w fin)) s

/-- `CHANNEL_HOLD_TIMEOUT` (R318): the stalled requesters of a held port go on with CHANNEL_HELD; one notice a hold. -/
def execChannelHoldTimeout (c : Fin 8) (chan : Fin 16) (s : State) : Host.Outcome State Fault Refusal :=
  act (fun d =>
    let key := 256 * c.val + chan.val
    if (d.holder c.val chan.val).isNone ∨ d.fpc.heldNoted.contains key = true then d
    else
      let ts := ((List.range 64).map (fun l => 64 * c.val + l)).filter (fun t =>
        decide (d.thrState t = 2 ∧ d.holding t = none) && (match (d.thread t).stalled with
          | some (k, _, _) => decide (k = chan.val)
          | none => false))
      let d := ts.foldl (fun d t => (d.setThread t (fun th => { th with stalled := none, cond := 1 })).setThr t 1) d
      let d := ({ d with fpc := { d.fpc with heldNoted := key :: d.fpc.heldNoted } } : Dev).fpcCount c.val 2 ts.length
      let who := (d.holder c.val chan.val).getD 0 % 64
      (d.fpcEvt c.val 2).writeNotice c.val 3 who 0 chan.val 0) s

/-- The oldest unanswered request of a thread on a channel. -/
def Dev.openReq (d : Dev) (t h : Nat) : Option AccReq :=
  (d.thread t).reqs.find? (fun r => decide (r.chan = h) && r.answer.isNone)

/-- An accelerator does a request's work: status and data of its response (R316). -/
def Dev.serve (d : Dev) (t h : Nat) (f : AccReq → Dev → Dev × Nat × List Byte) : Dev :=
  match d.openReq t h with
  | none => d
  | some r =>
    let (d, st, data) := f r d
    d.answerReq t r.tag st data

/-- The status codes of R316. -/
def accOk : Nat := 0
def accBadOp : Nat := 1
def accRefused : Nat := 2

/-- An accelerator operation, or an OP it does not have. -/
def Dev.serveOp {α : Type} (d : Dev) (t h : Nat) (op : Option α) (f : α → Dev → Dev × Nat × List Byte) : Dev :=
  d.serve t h (fun _ d => match op with
    | some o => f o d
    | none => (d, accBadOp, []))

/-- The answered request whose response is due: the oldest of its channel. -/
def Dev.dueReq (d : Dev) (t : Nat) : Option AccReq :=
  let rs := (d.thread t).reqs
  rs.find? (fun r => r.answer.isSome && decide ((rs.find? (fun q => decide (q.chan = r.chan))).map AccReq.tag = some r.tag))

/-- A response: the record in the data window and the event, but for a success under NO_RESP and a muted request; a thread
stalled for its 8 outstanding requests presents the next (R316, R317, R323). -/
def Dev.respond (d : Dev) (t : Nat) (r : AccReq) : Dev :=
  let w0 := wordAt r.words 0
  let (st, data) := r.answer.getD (3, [])
  let d := d.setThread t (fun th => { th with reqs := th.reqs.filter (fun q => decide (q.tag ≠ r.tag)) })
  let d := if r.mute ∨ (st = 0 ∧ Word.bit w0 23 = true) then d
    else
      let rec_ := (wd (st * 2 ^ 24 + data.length % 65536)).bytes ++ data
      let d := (d.winWrite t (Word.fld w0 0 15 * 64) rec_).getD d
      if Word.fld w0 18 5 < 24 then d.postEvents t (2 ^ Word.fld w0 18 5) else d
  match d.holding t, (d.thread t).stalled with
  | some h, some (_, _, true) =>
    if d.thrState t = 2 then ((d.present t h).setThr t 1).grantPort (t / 64) h 64 else d
  | _, _ => d

/-- `ACCELERATOR_RESPONSE` (R316). -/
def execAcceleratorResponse (t : Fin 512) (s : State) : Host.Outcome State Fault Refusal :=
  act (fun d => match d.dueReq t.val with
    | some r => d.respond t.val r
    | none => d) s

/-! ## The accelerators' work (R315) -/

/-- Channel CELLAR. -/
def Dev.cellarOp (d : Dev) (t : Nat) : CellarOp → Dev × Nat × List Byte
  | .read h off len => (match (d.handleFrame t h).bind d.frame? with
    | some f => if off + len ≤ f.len then (d, accOk, slice f.bytes off len) else (d, accRefused, [])
    | none => (d, accRefused, []))
  | .write h off addr len => (match d.handleFrame t h with
    | some id => (match d.frame? id, d.winRead t addr len with
      | some f, some bs => if off + len ≤ f.len then (d.putFrame id { f with bytes := patch f.bytes off bs }, accOk, [])
          else (d, accRefused, [])
      | _, _ => (d, accRefused, []))
    | none => (d, accRefused, []))
  | .alloc len => (match d.freeHandle t with
    | some h =>
      let (cell, d) := d.freeNat
      let f := Frame.new (d.pipeOf 0) 17 (d.thrClass t) (.thread (t / 64) (t % 64) h) (List.replicate len 0) cell d.time d.now
      ((d.newFrame f).2.showFrames t, accOk, [BitVec.ofNat 8 h])
    | none => (d, accRefused, []))

/-- `CELLAR_CHANNEL_REQUEST`. -/
def execCellarChannelRequest (t : Fin 512) (op : Option CellarOp) (s : State) : Host.Outcome State Fault Refusal :=
  act (fun d => d.serveOp t.val 0x01 op (fun o d => d.cellarOp t.val o)) s

/-- Bytes of the device's HBM below 48 GiB: what nothing has written reads 0. -/
def Dev.hbmBytes (d : Dev) (addr n : Nat) : List Byte :=
  (List.range n).map (fun i => BitVec.ofNat 8 (Word.fld (Map.getD d.dma.hbm ((addr + i) / 4) 0) (8 * ((addr + i) % 4)) 8))

/-- Bytes written to HBM. -/
def Dev.setHbmBytes (d : Dev) (addr : Nat) (bs : List Byte) : Dev :=
  { d with dma := { d.dma with hbm := ((List.range bs.length).zip bs).foldl (fun h p =>
      let a := addr + p.1
      Map.putD h (a / 4) 0 (Word.setFld (Map.getD h (a / 4) 0) (8 * (a % 4)) 8 p.2.toNat)) d.dma.hbm } }

/-- The end of the HBM that software may use: 48 GiB. -/
def hbmEnd : Nat := 48 * 2 ^ 30

/-- Channel HBM: a class 3 thread's burst passes the HBM admission point first; refused, the request waits (R67). -/
def Dev.hbmOp (d : Dev) (t : Nat) : HbmOp → Dev × Nat × List Byte
  | .read a n => if a + n ≤ hbmEnd then (d, accOk, d.hbmBytes a n) else (d, accRefused, [])
  | .write a w n => (match d.winRead t w n with
    | some bs => if a + n ≤ hbmEnd then (d.setHbmBytes a bs, accOk, []) else (d, accRefused, [])
    | none => (d, accRefused, []))

/-- Bytes of an HBM operation. -/
def hbmLen : HbmOp → Nat
  | .read _ n => n
  | .write _ _ n => n

/-- `HBM_CHANNEL_REQUEST`. -/
def execHbmChannelRequest (t : Fin 512) (op : Option HbmOp) (s : State) : Host.Outcome State Fault Refusal :=
  act (fun d =>
    let go (d : Dev) : Dev := d.serveOp t.val 0x02 op (fun o d => d.hbmOp t.val o)
    match op, d.openReq t.val 0x02 with
    | some o, some r =>
      if d.thrClass t.val = 3 then
        let (ok, d) := d.offer .hbm r.tag 3 (d.unitCost 6 (hbmLen o)) (d.thrOwner t.val) false
        if ok then go d else d
      else go d
    | _, _ => go d) s

/-- Channel LOOKUP: read-only; the place found and the entry's words, or REFUSED on a miss. -/
def Dev.lookupOp (d : Dev) : LookupOp → Dev × Nat × List Byte
  | .rule t b key => (match d.clsFind t.val b.val key with
    | some l => (d, accOk, bytesOf (locWord l b.val :: (d.clsRaw t.val b.val l).getD []))
    | none => (d, accRefused, []))
  | .l2 mac bd => (match d.htFind .l2 (l2Key mac 0 bd.val) with
    | some i => (d, accOk, bytesOf (HTable.locReply .l2 i :: d.htRaw .l2 i))
    | none => (d, accRefused, []))
  | .flow key => (match d.htFind .flow ([0, 0] ++ wordsOf 10 (key.take 40)) with
    | some i => (d, accOk, bytesOf (HTable.locReply .flow i :: d.htRaw .flow i))
    | none => (d, accRefused, []))
  | .lpm v6 vrf addr => (match d.tcmFind v6 (lpmKey v6 vrf.val (beNat addr)) with
    | some i => (d, accOk, bytesOf (wd i :: d.tcm i))
    | none => (d, accRefused, []))

/-- `LOOKUP_CHANNEL_REQUEST`. -/
def execLookupChannelRequest (t : Fin 512) (op : Option LookupOp) (s : State) : Host.Outcome State Fault Refusal :=
  act (fun d => d.serveOp t.val 0x03 op (fun o d => d.lookupOp o)) s

/-- Channel HASH. -/
def Dev.hashOp (d : Dev) (t : Nat) (o : HashOp) : Dev × Nat × List Byte :=
  let sum (a n : Nat) (f : List Byte → Nat) : Dev × Nat × List Byte := match d.winRead t a n with
    | some bs => (d, accOk, (wd (f bs)).bytes)
    | none => (d, accRefused, [])
  match o with
  | .crc32c a n => sum a n (fun bs => (~~~ (crc32c (BitVec.allOnes 32) bs)).toNat)
  | .crc16 a n => sum a n crc16
  | .ones a n => sum a n (fun bs => fold16 (onesSum bs))

/-- `HASH_CHANNEL_REQUEST`. -/
def execHashChannelRequest (t : Fin 512) (op : Option HashOp) (s : State) : Host.Outcome State Fault Refusal :=
  act (fun d => d.serveOp t.val 0x05 op (fun o d => d.hashOp t.val o)) s

/-- Channel FRAME: an owned frame is released, queued at a node, or delivered with KIND EXCEPTION. -/
def Dev.frameOp (d : Dev) (t : Nat) (o : FrameOp) : Dev × Nat × List Byte :=
  let own (h : Nat) (f : Nat → Frame → Dev) : Dev × Nat × List Byte := match d.handleFrame t h with
    | some id => (match d.frame? id with
      | some g => ((f id g).showFrames t, accOk, [])
      | none => (d, accRefused, []))
    | none => (d, accRefused, [])
  match o with
  | .release h => own h (fun id _ => d.freeFrame id)
  | .node h n => own h (fun id g => d.moveFrame id g (.toNode n.val))
  | .deliver h s i q r => own h (fun id g => d.sendSlice id g ⟨s.val, i.val, q.val, kindException, r.toNat⟩)

/-- `FRAME_CHANNEL_REQUEST`. -/
def execFrameChannelRequest (t : Fin 512) (op : Option FrameOp) (s : State) : Host.Outcome State Fault Refusal :=
  act (fun d => d.serveOp t.val 0x06 op (fun o d => d.frameOp t.val o)) s

/-- `RECIRC_CHANNEL_REQUEST`: a pass under R264; after pass 3 it is refused. -/
def execRecircChannelRequest (t : Fin 512) (handle : Nat) (profile : Fin 64) (start : Nat) (s : State) :
    Host.Outcome State Fault Refusal :=
  act (fun d => d.serve t.val 0x07 (fun _ d => match d.handleFrame t.val handle with
    | some id => (match d.frame? id with
      | some g => if 3 ≤ g.pass then (d, accRefused, []) else ((d.recirculate id g profile.val start).showFrames t.val, accOk, [])
      | none => (d, accRefused, []))
    | none => (d, accRefused, []))) s

/-- `DMA_CHANNEL_REQUEST`: a kick under R218. -/
def execDmaChannelRequest (t : Fin 512) (c : Fin 64) (s : State) : Host.Outcome State Fault Refusal :=
  act (fun d => d.serve t.val 0x08 (fun _ d => (d.kick c.val, accOk, []))) s

/-- Channel TIMER. -/
def Dev.timerOp (d : Dev) (t : Nat) : TimerOp → Dev × Nat × List Byte
  | .arm i ns => if ns.val = 0 then (d, accRefused, [])
      else (d.setThread t (fun th => { th with timers := Map.put th.timers i.val (d.now + ns.val / 2) }), accOk, [])
  | .cancel i => (d.setThread t (fun th => { th with timers := Map.del th.timers i.val }), accOk, [])

/-- `TIMER_CHANNEL_REQUEST`. -/
def execTimerChannelRequest (t : Fin 512) (op : Option TimerOp) (s : State) : Host.Outcome State Fault Refusal :=
  act (fun d => d.serveOp t.val 0x09 op (fun o d => d.timerOp t.val o)) s

/-- `EVENT_CHANNEL_REQUEST`: bits [23:0] posted to a thread of the device. -/
def execEventChannelRequest (t dst : Fin 512) (bits : BitVec 24) (s : State) : Host.Outcome State Fault Refusal :=
  act (fun d => d.serve t.val 0x0A (fun _ d => (d.postEvents dst.val bits.toNat, accOk, []))) s

/-! ## Inbound messages (R319 to R321) -/

/-- The message of a frame sent to a channel (R319). -/
def Frame.message (f : Frame) : List Word :=
  let kind := (wordAt f.msg 0).toNat
  let w2 := match f.origin with
    | some (s, i) => wd (i * 2 ^ 24 + 2 ^ 23 + s)
    | none => (match f.dest with
      | some t => wd (t.incarnation * 2 ^ 24 + 2 ^ 23 + t.slice)
      | none => 0)
  [wd (kind * 2 ^ 28 + (wordAt f.msg 1).toNat % 256 * 256 + 0xFF), wordAt f.msg 2, w2, 0] ++ f.record ++ wordsOf 48 f.window

/-- `INBOUND_ENQUEUE` (R320): of a frame on its way to a channel, or of the oldest message of another block. -/
def execInboundEnqueue (f : Option Nat) (s : State) : Host.Outcome State Fault Refusal :=
  act (fun d => match f with
    | some id => (match d.frame? id with
      | some g => (match g.place with
        | .toChannel c h =>
          let d' := d.inboundArrive c h ⟨g.message, some id⟩
          d'.when (decide (wordAt g.msg 0 = 4) && (d'.frame? id).isNone) (fun d => d.count (Reg.PBU_COUNTS 23) 1)
        | _ => d)
      | none => d)
    | none => (match d.fpc.arriving with
      | [] => d
      | (c, h, ws) :: rest => ({ d with fpc := { d.fpc with arriving := rest } } : Dev).inboundArrive c h ⟨ws, none⟩)) s

/-- A take: EMPTY, FRAME_LIMIT, or the oldest message with its frame under a free handle (R314, R321). -/
def Dev.inboundTake (d : Dev) (t h : Nat) : Dev :=
  let c := t / 64
  let d := (d.slot t).setThread t (fun th => { th with cond := 0 })
  match d.chanQueue c h with
  | [] => d.setThread t (fun th => { th with cond := 3 })
  | m :: rest =>
    let charge (d : Dev) : Dev := if Word.bit (wordAt m.words 2) 23 then
        d.setN (thrReg Reg.FPC_THR_CHARGE t) (2 ^ 31 + Word.fld (wordAt m.words 2) 24 8 * 2 ^ 16 + Word.fld (wordAt m.words 2) 0 13)
      else d
    match m.frame with
    | none => charge (d.setChanQueue c h rest)
    | some id =>
      match d.freeHandle t, d.frame? id with
      | some hd, some f => charge (((d.setChanQueue c h rest).moveFrame id f (.thread c (t % 64) hd)).showFrames t)
      | none, some _ => d.thrFault t 6
      | _, none => d.setChanQueue c h rest

/-- `INBOUND_TAKE` (R321). -/
def execInboundTake (t : Fin 512) (chan : Fin 256) (s : State) : Host.Outcome State Fault Refusal :=
  act (fun d => d.ifRunning t.val (fun d => d.inboundTake t.val chan.val)) s

/-! ## The all-wait detector (R326) -/

/-- A thread is in an internal wait. -/
def Dev.internalWait (d : Dev) (t : Nat) : Bool :=
  decide (d.thrState t = 3 ∧ d.reg (thrReg Reg.FPC_THR_WAITMASK t) &&& d.reg (Reg.FPC_CLc_EXTERNAL (t / 64)) = 0)

/-- `ALL_WAIT_DETECT` (R326). -/
def execAllWaitDetect (c : Fin 8) (s : State) : Host.Outcome State Fault Refusal :=
  act (fun d =>
    let ts := ((List.range 63).map (fun l => 64 * c.val + l + 1)).filter (fun t => d.thrOn t)
    if d.bit (Reg.FPC_CLc_CTRL c.val) 0 && !ts.isEmpty && ts.all (fun t => d.internalWait t) &&
        !d.fpc.allWaitFired.contains c.val then
      let snap := (List.range 64).flatMap (fun l =>
        let t := 64 * c.val + l
        if l ≠ 0 ∧ d.thrOn t = true then [d.reg (thrReg Reg.FPC_THR_WAITMASK t), d.pendingBits t] else [0, 0])
      let d := d.dmWords c.val (d.fld (Reg.FPC_CLc_NOTICE c.val) 0 10 * 2048) snap
      let d := ((d.writeNotice c.val 2 0 ts.length 0 0).fpcCount c.val 3 1).fpcEvt c.val 3
      { d with fpc := { d.fpc with allWaitFired := c.val :: d.fpc.allWaitFired } }
    else d) s

/-! ## The debugger and resets (R328, R331) -/

/-- A write of 1 to FPC_THR_RESET. -/
def Dev.thrReset (d : Dev) (t : Nat) : Dev :=
  let d := d.thrIdle t
  if d.thrOn t then d.thrStart t else d

/-- `FPC_THR_RESET_WRITE` (R328). -/
def execFpcThrResetWrite (t : Fin 512) (v : Word) (s : State) : Host.Outcome State Fault Refusal :=
  act (fun d => d.when (Word.bit v 0) (fun d => d.thrReset t.val)) s

/-- FPC_THR_DBG reads [3] ABORT, [0] halted. -/
def Dev.showDbg (d : Dev) (t : Nat) : Dev :=
  d.setN (thrReg Reg.FPC_THR_DBG t) ((if (d.thread t).abort then 8 else 0) + (if d.thrState t = 5 then 1 else 0))

/-- HALT: the thread stops with its staged words and its port. -/
def Dev.thrHalt (d : Dev) (t : Nat) : Dev :=
  let st := d.thrState t
  if 1 ≤ st ∧ st ≤ 4 then ((d.setThread t (fun th => { th with prior := st })).setThr t 5).showDbg t else d

/-- RESUME: back to the state before the halt; a thread stalled on a port that has since become free takes it. -/
def Dev.thrResume (d : Dev) (t : Nat) : Dev :=
  if d.thrState t = 5 then
    let d := d.setThr t (d.thread t).prior
    let d := match (d.thread t).stalled, d.holding t with
      | some (h, _, _), none => if (d.holder (t / 64) h).isNone then d.grantPort (t / 64) h 64 else d
      | some _, some h => if (d.thread t).reqs.length < 8 then ((d.present t h).setThr t 1).grantPort (t / 64) h 64 else d
      | none, _ => d
    d.showDbg t
  else d

/-- RELEASE of a halted thread: its staged words are discarded, its port freed, ABORT set (R331). -/
def Dev.thrRelease (d : Dev) (t : Nat) : Dev :=
  match d.holding t with
  | some h =>
    if d.thrState t = 5 then
      let n := (d.thread t).staged.length
      let d := (d.dropStaged t).setThread t (fun th => { th with abort := true })
      ((d.fpcEvt (t / 64) 2).writeNotice (t / 64) 4 (t % 64) 0 (n * 256 + h) 0).showDbg t
    else d
  | none => d

/-- `HALT`. -/
def execHalt (t : Fin 512) (s : State) : Host.Outcome State Fault Refusal := act (fun d => d.thrHalt t.val) s
/-- `RESUME`. -/
def execResume (t : Fin 512) (s : State) : Host.Outcome State Fault Refusal := act (fun d => d.thrResume t.val) s
/-- `RELEASE`. -/
def execRelease (t : Fin 512) (s : State) : Host.Outcome State Fault Refusal := act (fun d => d.thrRelease t.val) s

/-! ## Takeover of a core (R332, R333) -/

/-- A logical core's eight threads, of those that run. -/
def coreThreads (c core : Nat) : List Nat := (List.range 8).map (fun i => 64 * c + 8 * core + i)

/-- A logical core taken over by the spare, its threads going on where they were but for those whose copy is lost; without
a spare the core is lost with its threads (R332, R333). -/
def Dev.coreTakeover (d : Dev) (c core lost : Nat) : Dev :=
  let sp := Reg.FPC_CLc_SPARE c
  let cores := Reg.FPC_CLc_CORES c
  let old := d.fld cores (4 * core) 4
  let live (t : Nat) : Bool := decide (d.thrState t ≠ 0 ∧ d.thrState t ≠ 6)
  if old = 0xF then d
  else if d.fld sp 0 2 = 0 ∧ d.fld sp 4 4 ≠ 0xF then
    let d := (d.setFld cores (4 * core) 4 (d.fld sp 4 4)).setFld sp 4 4 0xF
    let d := (d.setFld sp 0 2 2).countFld sp 8 8
    let d := ((d.fpcCount c 7 1).fpcEvt c 4).writeNotice c 5 (8 * core) old 0 0
    let d := { d with fpc := { d.fpc with tasting := Map.put d.fpc.tasting c old } }
    (coreThreads c core).foldl (fun d t => if lost.testBit (t % 8) && live t then d.thrFault t 9 else d) d
  else
    let d := (d.setFld cores (4 * core) 4 0xF).fpcEvt c 5
    let d := d.writeNotice c 6 (8 * core) old 0 0
    (coreThreads c core).foldl (fun d t => if live t then d.thrFault t 9 else d) d

/-- `CORE_TAKEOVER` (R332). -/
def execCoreTakeover (c core : Fin 8) (lost : BitVec 8) (s : State) : Host.Outcome State Fault Refusal :=
  act (fun d => d.coreTakeover c.val core.val lost.toNat) s

/-- `CORE_TASTING_DONE` (R332). -/
def execCoreTastingDone (c : Fin 8) (pass : Bool) (s : State) : Host.Outcome State Fault Refusal :=
  act (fun d => match Map.get? d.fpc.tasting c.val with
    | some p =>
      let d := { d with fpc := { d.fpc with tasting := Map.del d.fpc.tasting c.val } }
      let sp := Reg.FPC_CLc_SPARE c.val
      if pass then (d.setFld sp 4 4 p).setFld sp 0 2 0 else d.setFld sp 0 2 3
    | none => d) s

end Sys2Proof.Machine
end

