-- ==== Sys2Proof/Machine/Sch.lean ====
section
/-! DEFINITION. The commands of the transmit scheduler: queueing, grants, top-ups, gate events, and the scheduler opcodes
(R374 to R388). -/

namespace Sys2Proof.Machine

/-! ## Frames reach a node (R375, R382) -/

/-- `NODE_ENQUEUE` (R382): a frame bound for a node, once the cipher stage has nothing left to do on it. -/
def execNodeEnqueue (f : Nat) (s : State) : Host.Outcome State Fault Refusal :=
  act (fun d => match d.frame? f with
    | some g =>
      match g.place with
      | .toNode n => if d.needsCipher g then d else d.enqueue f g n
      | _ => d
    | none => d) s

/-! ## Grants (R377, R399, R412, R422, R453) -/

/-- The first frame of a list of places whose TC is allowed: its number, itself, its TC. -/
def Dev.firstWaiting (d : Dev) (place : Place → Option Nat) (ok : Nat → Bool) : Option (Nat × Frame × Nat) :=
  d.prs.frames.findSome? (fun e => (place e.2.place).bind (fun tc => if ok tc then some (e.1, e.2, tc) else none))

/-- The TC of a frame that waits at port `p` as a pair's second copy, or in its ring forwarding queue. -/
def copyAt (p : Nat) : Place → Option Nat
  | .copy q tc => if q = p then some tc else none
  | _ => none
def ringAt (p : Nat) : Place → Option Nat
  | .ringFwd q tc => if q = p then some tc else none
  | _ => none

/-- The scheduler's own grant among some TCs, started at the MAC; `none` where nothing was granted. -/
def Dev.grantStart (d : Dev) (p : Nat) (tcs : List Nat) : Dev × Bool :=
  match d.grantTcs p tcs with
  | (d, some (id, tc)) =>
    match d.frame? id with
    | some f => (d.startFrame p id f tc, true)
    | none => (d, true)
  | (d, none) => (d, false)

/-- A pair's second copy started. -/
def Dev.copyStart (d : Dev) (p : Nat) (ok : Nat → Bool) : Dev × Bool :=
  match d.firstWaiting (copyAt p) ok with
  | some (id, f, tc) => (d.macStart p id f tc, true)
  | none => (d, false)

/-- A ring frame started: charged to the device, never refused (R422). -/
def Dev.ringStart (d : Dev) (p : Nat) (ok : Nat → Bool) : Dev × Bool :=
  match d.firstWaiting (ringAt p) ok with
  | some (id, f, tc) => ((d.charge f.cls (d.unitCost 1 (f.len + 4)) none).macStart p id f tc, true)
  | none => (d, false)

/-- The next frame of a network port among the TCs allowed: TC7 first, then the ring forwarding queue, then the others; a
pair's second copies go with their TCs. -/
def Dev.startNext (d : Dev) (p : Nat) (ok : Nat → Bool) : Dev × Bool :=
  let top (tc : Nat) : Bool := ok tc && decide (tc = 7)
  let low (tc : Nat) : Bool := ok tc && decide (tc ≠ 7)
  match d.copyStart p top with
  | (d, true) => (d, true)
  | (d, false) =>
    match d.grantStart p (tcOrder.filter top) with
    | (d, true) => (d, true)
    | (d, false) =>
      match d.ringStart p ok with
      | (d, true) => (d, true)
      | (d, false) =>
        match d.copyStart p low with
        | (d, true) => (d, true)
        | (d, false) => d.grantStart p (tcOrder.filter low)

/-- A preempted frame resumes: no new grant, no gate; it waits while HOLD is 1 (R385). -/
def Dev.resume (d : Dev) (p : Nat) : Dev :=
  match Map.get? d.mac.paused p with
  | some c => if d.holdOn p then d else
      { d with mac := { d.mac with paused := Map.del d.mac.paused p, cur := Map.put d.mac.cur p c } }
  | none => d

/-- A network port can take a frame (R377, R385, R399): an idle MAC the first candidate; a MAC with a preempted frame an
express one, else that frame again; a MAC that serialises a preemptable frame an express one, which preempts it. -/
def Dev.netGrant (d : Dev) (p sent : Nat) : Dev :=
  let hold := d.bit (Reg.MAC_PORTp_CTRL p) 30 && decide (d.macLink p ≠ 4)
  let fast (tc : Nat) : Bool := d.mayStart p tc && d.express p tc
  if !d.portPresent p || hold then d
  else match Map.get? d.mac.cur p with
  | some _ =>
    match d.preemptAt p sent with
    | some (c, b) =>
      match d.startNext p fast with
      | (d, true) => if Map.get? d.mac.cur p = some c then d else d.preempted p c b
      | (d, false) => d
    | none => d
  | none =>
    if (Map.get? d.mac.paused p).isSome then
      match d.startNext p fast with
      | (d, true) => d
      | (d, false) => d.resume p
    else (d.startNext p (d.mayStart p)).1

/-- The host port: a delivery is made; a frame without one is dropped. -/
def Dev.hostGrant (d : Dev) : Dev :=
  match d.grantTcs 16 tcOrder with
  | (d, some (id, _)) =>
    match d.frame? id with
    | some f =>
      let d := match f.dest with
        | some t => d.hostDeliver f (d.deliveryOf f t)
        | none => d
      d.freeFrame id
    | none => d
  | (d, none) => d

/-- The loopback port: the frame enters the Press again as a frame of port 17. -/
def Dev.loopGrant (d : Dev) : Dev :=
  match d.grantTcs 17 tcOrder with
  | (d, some (id, _)) =>
    match d.frame? id with
    | some f => d.putFrame id (Frame.new f.pipe 17 f.cls .press f.bytes (f.m 1 0 19) d.time d.now)
    | none => d
  | (d, none) => d

/-- The lowest-class frame of a Trellis port's class queues, oldest first. -/
def Dev.trlHead (d : Dev) (t : Nat) : Option (Nat × Frame) :=
  [0, 1, 2, 3].findSome? (fun c => d.prs.frames.find? (fun e => decide (e.2.place = .trlPort t ∧ e.2.cls = c)))

/-- A Trellis port with a link sends the head of its queues, once the EBS admits it (R453). -/
def Dev.trlGrant (d : Dev) (t : Nat) : Dev :=
  match d.trlHead t with
  | some (id, f) =>
    if d.trlLink t < 4 ∨ d.needsCipher f = true then d
    else match d.offer .portGrant id f.cls (d.unitCost 1 (f.len + 4)) none false with
    | (true, d) => (d.emit (.mesh t f.bytes)).freeFrame id
    | (false, d) => d
  | none => d

/-- `PORT_GRANT` (R377): `sent` bytes of the fragment in progress have left; 18 to 21 are the Trellis ports. -/
def execPortGrant (p : Fin 22) (sent : Nat) (s : State) : Host.Outcome State Fault Refusal :=
  act (fun d => if p.val < 16 then d.netGrant p.val sent else if p.val = 16 then d.hostGrant
    else if p.val = 17 then d.loopGrant else d.trlGrant (p.val - 18)) s

/-- `TOP_UP` (R381). -/
def execTopUp (s : State) : Host.Outcome State Fault Refusal := act Dev.topUp s

/-! ## Gate events (R384, R385, R412) -/

/-- HOLD preempts a preemptable frame in progress at a port's MAC. -/
def Dev.holdNow (d : Dev) (p sent : Nat) : Dev :=
  match d.holdOn p, d.preemptAt p sent with
  | true, some (c, b) => d.preempted p c b
  | _, _ => d

/-- Port B of a pair whose port A is `p`. -/
def Dev.portB (d : Dev) (p : Nat) : Option Nat :=
  match d.pairAt p with
  | some (_, _, a, b) => if a = p then some b else none
  | none => none

/-- A GATE event for a port: the entry named takes effect, or the event is skipped and counted. -/
def Dev.gateEvent (d : Dev) (p e sent sentB : Nat) : Dev :=
  if !d.portPresent p || decide (d.portA p ≠ p ∨ d.gateLen p ≤ e) then (d.schCount p 6).schEvt p 3
  else
    let w := d.reg (Reg.SCH_GATE_ACTIVE p e)
    let g := Reg.SCH_PORTp_GSTATE p
    let d := (((d.setFld g 0 8 (Word.fld w 0 8)).setBit g 17 (Word.bit w 9)).setFld g 8 6 e).schCount p 7
    let d := d.holdNow p sent
    match d.portB p with
    | some b => d.holdNow b sentB
    | none => d

/-- `GATE_APPLY` (R384): the GATE event's firing for the port; bytes that have left of the fragments in progress at the port
and at its pair's other port. -/
def execGateApply (p : Fin 256) (sent sentB : Nat) (s : State) : Host.Outcome State Fault Refusal :=
  act (fun d => match d.takeFiring 1 p.val with
    | some (f, d) => if p.val < 16 then d.gateEvent p.val f.arg.toNat sent sentB else (d.schCount 0 6).schEvt 0 3
    | none => d) s

/-! ## The opcodes (R388) -/

/-- The groups of the shapers and of the gate lists. -/
def groupSch : Nat := 2 ^ 14
def groupGates : Nat := 2 ^ 15

/-- A node is free: no slice owns it and the device does not hold it. -/
def Dev.nodeFree (d : Dev) (n : Nat) : Bool := (d.nodeOwner n).isNone && !d.sch.held.contains n

/-- What a node may not be to the command that names it. -/
def nodeForeign (c : Cmd) (d : Dev) (n : Nat) : Bool :=
  match c.slice?, d.nodeOwner n with
  | some s, some o => decide (o ≠ (s, c.pf 0 0 8))
  | some _, none => d.sch.held.contains n
  | none, some _ => true
  | none, none => false

/-- A free node is taken from pool 4 by the command's slice or by the device; `none` where there is no room. -/
def Dev.takeNodeFor (d : Dev) (c : Cmd) (n : Nat) : Option Dev :=
  if !d.nodeFree n then some d
  else match c.slice? with
  | some s => if d.poolRoom s 4 1 then some (d.poolTake s 4 1) else none
  | none =>
    if d.regN (poolReg 4) = 0 then none
    else some ({ d with sch := { d.sch with held := n :: d.sch.held } }.setN (poolReg 4) (d.regN (poolReg 4) - 1))

/-- The owner word a command gives a node. -/
def ownerWord (c : Cmd) : Word :=
  match c.slice? with
  | some s => wd (2 ^ 31 + c.pf 0 0 8 * 65536 + s)
  | none => 0

/-- A command on a node that stages its words: it takes the node where it is free, unless the strobe is refused. -/
def Dev.nodeStrobe (d : Dev) (c : Cmd) (n : Nat) (ws : List (Nat × Word)) : Dev × Option Res :=
  match d.takeNodeFor c n with
  | none => answer d (Res.st stNoResource)
  | some d' =>
    let ws := (Reg.SCH_NCFG4 n, ownerWord c) :: ws
    match d'.stageStrobe c groupSch ws (Res.ok []) with
    | (d'', some r) => if r.status = stBadParam then d.stageStrobe c groupSch ws (Res.ok []) else (d'', some r)
    | x => x

/-- What SHAPER_SET refuses. -/
def shaperBad (c : Cmd) (d : Dev) : Bool :=
  nodeForeign c d (c.pf 1 0 16) ||
  decide (c.pf 0 8 24 ≠ 0 ∨ c.pf 1 16 16 ≠ 0 ∨ c.pf 5 12 20 ≠ 0 ∨ (c.p 3).toNat < (c.p 2).toNat)

/-- 0x0500: CIR, PIR, OVERHEAD, BURST, QLIMIT. -/
def runShaperSet (c : Cmd) (d : Dev) : Dev × Option Res :=
  let n := c.pf 1 0 16
  d.nodeStrobe c n [(Reg.SCH_NCFG0 n, c.p 2), (Reg.SCH_NCFG1 n, c.p 3), (Reg.SCH_NCFG2 n, c.p 4),
    (Reg.SCH_NCFG3 n, Word.setFld (d.staged (Reg.SCH_NCFG3 n)) 8 12 (c.pf 5 0 12))]

/-- `SHAPER_SET`. -/
def execShaperSet (m : Fin 16) (tag : Fin 4096) (gen : Fin 16) (s : State) : Host.Outcome State Fault Refusal :=
  opStep 0x0500 runShaperSet m.val tag.val gen.val s

/-- What NODE_ATTACH refuses: a pair's port B is absent for attachment (R410). -/
def nodeAttachBad (c : Cmd) (d : Dev) : Bool :=
  let n := c.pf 1 0 16
  let p := c.pf 2 0 8
  nodeForeign c d n ||
  decide (c.pf 0 8 24 ≠ 0 ∨ c.pf 1 16 14 ≠ 0 ∨ c.pf 2 8 24 ≠ 0 ∨ c.pf 3 8 23 ≠ 0) ||
  (decide (p ≠ 0xFF) && (!d.portPresent p || decide (d.portA p ≠ p))) ||
  (Word.bit (c.p 3) 31 && decide (c.slice = 0xFFFF ∨ p ≠ 16)) ||
  (Word.bit (c.p 1) 31 && decide (n < 18 ∧ c.slice ≠ 0xFFFF))

/-- A freed node goes back to pool 4 with its reset values, detached. -/
def Dev.nodeRelease (d : Dev) (n : Nat) (owner : Option (Nat × Nat)) : Dev :=
  match owner with
  | some (s, _) => d.poolFree s 4 1
  | none =>
    if d.sch.held.contains n then
      ({ d with sch := { d.sch with held := d.sch.held.filter (· ≠ n) } } : Dev).setN (poolReg 4) (d.regN (poolReg 4) + 1)
    else d

/-- 0x0501: attach, move, detach or free. -/
def runNodeAttach (c : Cmd) (d : Dev) : Dev × Option Res :=
  let n := c.pf 1 0 16
  let k := Reg.SCH_NCFG3 n
  if Word.bit (c.p 1) 31 then
    let owner := d.nodeOwner n
    let ws := (List.range 5).map (fun i => (Reg.SCH_NCFG0 n + 4 * i, resetOf (Reg.SCH_NCFG0 n + 4 * i)))
    let ws := ws.map (fun w => if w.1 = k then (k, Word.setBit w.2 31 false) else w)
    match d.stageStrobe c groupSch ws (Res.ok []) with
    | (d, some r) => (if r.status = stBadParam then d else d.nodeRelease n owner, some r)
    | x => x
  else
    let p := c.pf 2 0 8
    let w := Word.setFld (Word.setBit (d.staged k) 30 (Word.bit (c.p 1) 30)) 0 8 (c.pf 3 0 8)
    let w := if p = 0xFF then Word.setBit w 31 false else Word.setBit (Word.setFld w 25 5 p) 31 true
    let rx := match c.slice? with
      | some s => if Word.bit (c.p 3) 31 then [(Reg.SCH_RXNODEs s, wd (2 ^ 31 + n))] else []
      | none => []
    d.nodeStrobe c n ((k, w) :: rx)

/-- `NODE_ATTACH`. -/
def execNodeAttach (m : Fin 16) (tag : Fin 4096) (gen : Fin 16) (s : State) : Host.Outcome State Fault Refusal :=
  opStep 0x0501 runNodeAttach m.val tag.val gen.val s

/-- What GATE_LIST_SET refuses. -/
def gateListBad (c : Cmd) (d : Dev) : Bool :=
  let n := c.pf 0 16 7
  decide (c.pf 0 23 9 ≠ 0 ∨ c.pf 0 10 6 ≠ 0 ∨ c.pf 0 4 4 ≠ 0 ∨ 64 < n ∨ c.paramLen ≠ 4 * (n + 1)) ||
  !d.portPresent (c.pf 0 0 4) ||
  (List.range n).any (fun i => decide (c.p (i + 1) &&& ~~~ wd 0x2FF ≠ 0))

/-- 0x0502: the shadow list of a port. -/
def runGateListSet (c : Cmd) (d : Dev) : Dev × Option Res :=
  let p := c.pf 0 0 4
  let n := c.pf 0 16 7
  d.stageStrobe c groupGates ((Reg.SCH_PORTp_GCTRL p, wd (c.pf 0 8 2 * 256 + n)) ::
    (List.range n).map (fun e => (Reg.SCH_GATE_SHADOW p e, c.p (e + 1)))) (Res.ok [])

/-- `GATE_LIST_SET`. -/
def execGateListSet (m : Fin 16) (tag : Fin 4096) (gen : Fin 16) (s : State) : Host.Outcome State Fault Refusal :=
  opStep 0x0502 runGateListSet m.val tag.val gen.val s

/-- What SCHED_STATUS refuses. -/
def schedStatusBad (c : Cmd) (d : Dev) : Bool :=
  nodeForeign c d (c.pf 1 0 16) || decide (c.pf 0 8 24 ≠ 0 ∨ c.pf 1 16 16 ≠ 0)

/-- 0x0503: credits, backlog, SCH_NCFG3. -/
def runSchedStatus (c : Cmd) (d : Dev) : Dev × Option Res :=
  let n := c.pf 1 0 16
  let d := d.showNode n
  answer d ((Res.ok [d.reg (Reg.SCH_NSTATE0 n), d.reg (Reg.SCH_NSTATE1 n), d.reg (Reg.SCH_NSTATE2 n),
    d.reg (Reg.SCH_NCFG3 n)]).touching d [Reg.SCH_NCFG3 n])

/-- `SCHED_STATUS`. -/
def execSchedStatus (m : Fin 16) (tag : Fin 4096) (gen : Fin 16) (s : State) : Host.Outcome State Fault Refusal :=
  opStep 0x0503 runSchedStatus m.val tag.val gen.val s

end Sys2Proof.Machine
end

