-- ==== Sys2Proof/Machine/Mac.lean ====
section
/-! DEFINITION. The commands of the ports: links, frames received and sent, preemption, coalescing, the management port, and
the port opcodes (R395 to R418, R420 to R422). -/

namespace Sys2Proof.Machine

/-! ## Links (R398, R402) -/

/-- A transition of an enabled, present port from one LINK state to another. -/
def Dev.linkMove (d : Dev) (p src dst : Nat) : Dev :=
  d.when (d.portPresent p && d.bit (Reg.MAC_PORTp_CTRL p) 31 && decide (d.macLink p = src)) (fun d => d.setLink p dst)

/-- `LINK_SIGNAL_DETECT` (R398). -/
def execLinkSignalDetect (p : Fin 16) (s : State) : Host.Outcome State Fault Refusal := act (fun d => d.linkMove p.val 1 2) s

/-- `LINK_TRAINING_DONE` (R398). -/
def execLinkTrainingDone (p : Fin 16) (s : State) : Host.Outcome State Fault Refusal := act (fun d => d.linkMove p.val 2 3) s

/-- `LINK_TRAINING_TIMEOUT` (R398). -/
def execLinkTrainingTimeout (p : Fin 16) (s : State) : Host.Outcome State Fault Refusal := act (fun d => d.linkMove p.val 2 1) s

/-- `LINK_ALIGNED` (R398): a local fault is over. -/
def execLinkAligned (p : Fin 16) (s : State) : Host.Outcome State Fault Refusal :=
  act (fun d => d.when (decide (d.macLink p.val = 3)) (fun d =>
    (d.setBit (Reg.MAC_PORTp_STATUS p.val) 25 false).linkMove p.val 3 4)) s

/-- `LINK_LOCK_LOSS` (R398): by lock or alignment, or by a local fault. -/
def execLinkLockLoss (p : Fin 16) (localFault : Bool) (s : State) : Host.Outcome State Fault Refusal :=
  act (fun d => d.when (decide (d.macLink p.val = 4)) (fun d =>
    (d.linkMove p.val 4 1).setBit (Reg.MAC_PORTp_STATUS p.val) 25 localFault)) s

/-- `REMOTE_FAULT_RECEIVED` (R398). -/
def execRemoteFaultReceived (p : Fin 16) (s : State) : Host.Outcome State Fault Refusal :=
  act (fun d => d.when (decide (d.macLink p.val = 4)) (fun d =>
    (d.linkMove p.val 4 5).setBit (Reg.MAC_PORTp_STATUS p.val) 24 true)) s

/-- `REMOTE_FAULT_CLEARED` (R398). -/
def execRemoteFaultCleared (p : Fin 16) (s : State) : Host.Outcome State Fault Refusal :=
  act (fun d => d.when (decide (d.macLink p.val = 5)) (fun d =>
    (d.setBit (Reg.MAC_PORTp_STATUS p.val) 24 false).linkMove p.val 5 4)) s

/-- The verify procedure's next step (R402): the partner's response activates preemption; else 10 ms have passed since it
began or since the last mPacket, and up to three are sent before it fails. -/
def Dev.verifyStep (d : Dev) (p : Nat) (response : Bool) : Dev :=
  let k := Reg.MAC_PORTp_STATUS p
  if d.fld k 26 2 ≠ 1 then d
  else if response then (d.setFld k 26 2 2).setBit k 28 true
  else
    let n := Map.getD d.mac.verifies p 0
    if n < 3 then ({ d with mac := { d.mac with verifies := Map.put d.mac.verifies p (n + 1) } } : Dev).emit (.mpacket p false)
    else ((d.setFld k 26 2 3).macEvt p 3).count (Reg.MAC_COUNTS 5) 1

/-- `VERIFY_MPACKET` (R402). -/
def execVerifyMpacket (p : Fin 16) (response : Bool) (s : State) : Host.Outcome State Fault Refusal :=
  act (fun d => d.verifyStep p.val response) s

/-! ## A frame received (R401, R408, R411, R414, R420 to R422) -/

/-- The counter of a good frame's wire length. -/
def sizeCounter (n : Nat) : Nat :=
  if n ≤ 64 then 10 else if n < 128 then 11 else if n < 256 then 12 else if n < 512 then 13 else if n < 1024 then 14
  else if n < 1519 then 15 else 16

/-- The counter of a frame the MAC drops: oversize, runt, FCS, error inside, bad fragments, MAC control. -/
def Dev.rxError (d : Dev) (p : Nat) (bs : List Byte) (fin : RxEnd) : Option Nat :=
  let n := bs.length + 4
  if clampNat 64 9216 (d.fld (Reg.MAC_PORTp_CTRL p) 0 14) < n then some 7
  else if fin = .badSmd then some 9
  else if n < 64 then some 6
  else if fin = .badFcs then some 4
  else if fin = .errored then some 5
  else if beAt bs 12 2 = 0x8808 then some 8
  else none

/-- The counters of a good frame. -/
def Dev.rxGood (d : Dev) (p : Nat) (bs : List Byte) : Dev :=
  let n := bs.length + 4
  let d := ((d.portCount p 0 1).portCount p 1 n).portCount p (sizeCounter n) 1
  if bs.take 6 = List.replicate 6 0xFF then d.portCount p 3 1
  else if (byteAt bs 0).testBit 0 then d.portCount p 2 1 else d

/-- The receive timestamp: the PTP time with the board's correction. -/
def Dev.rxStamp (d : Dev) (p : Nat) : Nat :=
  ((d.time : Int) + (BitVec.ofNat 16 (d.fld (Reg.MAC_PORTp_TS_ADJ p) 16 16)).toInt).toNat

/-- A PRP trailer whose suffix and size agree: its sequence number and LanId. -/
def Dev.prpTrailer (d : Dev) (bs : List Byte) : Option (Nat × Nat) :=
  let n := bs.length
  if beAt bs (n - 2) 2 = 0x88FB ∧ beAt bs (n - 4) 2 % 4096 = (n - (d.ethAt bs + 2)) % 4096 then
    some (beAt bs (n - 6) 2, beAt bs (n - 4) 2 / 4096) else none

/-- The sequence number of an HSR tag. -/
def Dev.hsrTag (d : Dev) (bs : List Byte) : Option Nat :=
  let o := d.ethAt bs
  if beAt bs o 2 = 0x892F then some (beAt bs (o + 4) 2) else none

/-- An accepted frame of an HSR ring goes on out of the other port, unless that port's forwarding queue is full. -/
def Dev.ringForward (d : Dev) (f : Frame) (p : Nat) : Dev :=
  if 64 ≤ (d.framesAt (fun x => (ringAt p x).isSome)).length then (d.pbuCount 9).pbuEvt 6 0
  else
    let k := d.walk f 0
    let tc := if k.etf = 0x88BA ∨ k.etf = 0x88B8 then 7 else 6
    (d.newFrame { f with place := .ringFwd p tc, whole := true }).2.pbuCount 8

/-- The discard stage of a pair: whether the frame goes on to the Press. -/
def Dev.pairStage (d : Dev) (p : Nat) (f : Frame) : Bool × Dev :=
  match d.pairAt p with
  | none => (true, d)
  | some (k, mode, a, b) =>
    let mac := slice f.bytes 6 6
    if mode = 1 then
      match d.prpTrailer f.bytes with
      | some (seq, lan) =>
        let d := d.when (decide (lan ≠ if p = a then 0xA else 0xB)) (fun d => d.pbuCount 6)
        d.dupJudge k mac seq
      | none => (true, d)
    else
      let (ok, d) := match d.hsrTag f.bytes with
        | some seq => d.dupJudge k mac seq
        | none => (true, d)
      (ok, if ok then d.ringForward f (if p = a then b else a) else d)

/-- A frame written into the Cellar for its first pass, or for the SecY of its port (R338, R350). -/
def Dev.rxEnter (d : Dev) (p : Nat) (f : Frame) : Dev :=
  match d.secyReceive p f.bytes with
  | none => (d.newFrame f).2
  | some true => (d.newFrame { f with place := .verify p, whole := true }).2
  | some false =>
    let d := d.secyCount p 4
    if d.bit (Reg.CRY_SECYy_CTRL p) 28 && decide ((d.walk f 0).etf ≠ 0x888E) then d else (d.newFrame f).2

/-- A frame received at a port that is UP. A long frame that ends in error has entered the Cellar by then: it is dropped at
its last byte. -/
def Dev.macReceive (d : Dev) (p : Nat) (bs : List Byte) (fin : RxEnd) : Dev :=
  let early := decide (192 < bs.length)
  let (cell, d) := d.freeNat
  let f := Frame.new (d.pipeOf (p / 8)) p 2 .press bs cell (d.rxStamp p) d.now
  let f := { f with whole := !early }
  match d.rxError p bs fin with
  | some c =>
    let d := d.portCount p c 1
    if early && (d.pairAt p).isNone && (d.secyReceive p bs).isNone then (d.newFrame { f with bad := true }).2 else d
  | none =>
    let d := d.rxGood p bs
    let f := match d.pairAt p with
      | some (_, 1, _, _) => f.msetBit 3 11 (d.prpTrailer bs).isSome
      | _ => f
    match d.pairStage p f with
    | (true, d) => d.rxEnter p f
    | (false, d) => d

/-- `MAC_FRAME_RECEIVE` (R401): the frame without its FCS, and how it ended. -/
def execMacFrameReceive (p : Fin 16) (bytes : List Byte) (fin : RxEnd) (s : State) : Host.Outcome State Fault Refusal :=
  act (fun d => d.when (d.portPresent p.val && decide (d.macLink p.val = 4)) (fun d => d.macReceive p.val bytes fin)) s

/-! ## A frame sent (R399, R414) -/

/-- The frame in progress at a port has been sent whole, or discarded where the port is not UP. A frame whose last byte is
still to come, or whose timestamp is still to be taken, is not at its end. -/
def Dev.macSent (d : Dev) (p : Nat) : Dev :=
  match Map.get? d.mac.cur p with
  | none => d
  | some (id, _) =>
    let free (d : Dev) : Dev := ({ d with mac := { d.mac with cur := Map.del d.mac.cur p } } : Dev).freeFrame id
    match d.frame? id with
    | none => free d
    | some f =>
      if d.macLink p ≠ 4 then (free d).portCount p 21 1
      else if !f.whole || f.item.isSome then d
      else
        let d := (((free d).emit (.frameEnd p true)).portCount p 17 1).portCount p 18 (f.len + 4)
        if (byteAt f.bytes 0).testBit 0 then d.portCount p 19 1 else d

/-- `MAC_TRANSMIT_END` (R399). -/
def execMacTransmitEnd (p : Fin 16) (s : State) : Host.Outcome State Fault Refusal := act (fun d => d.macSent p.val) s

/-- `TX_OFFLOAD` (R404, R405). -/
def execTxOffload (f : Nat) (s : State) : Host.Outcome State Fault Refusal :=
  act (fun d => match d.frame? f with
    | some g => if g.place = .offload then d.txOffload f g else d
    | none => d) s

/-- `LRO_HOLD_EXPIRY` (R407): of the open context with this number, the oldest first. -/
def execLroHoldExpiry (i : Nat) (s : State) : Host.Outcome State Fault Refusal :=
  act (fun d => match d.mac.lro[i]? with
    | some c => d.lroFlush c
    | none => d) s

/-! ## The management port (R416) -/

/-- The work of the management port is charged to the device. -/
def Dev.mgtCharge (d : Dev) (n : Nat) : Dev := d.charge 1 (d.unitCost 1 n) none

/-- A frame received by the management port. -/
def Dev.mgtReceive (d : Dev) (bs : List Byte) (good : Bool) : Dev :=
  let n := bs.length + 4
  if !good || !d.bit Reg.MAC_MGT_CTRL 31 || decide (n < 64 ∨ 1522 < n) then d
  else
    let h := d.fld Reg.MAC_MGT_RX_HEAD 0 5
    let k := Reg.MAC_MGT_RXSLOT (512 * h)
    if !d.bit k 31 then d.count (Reg.MAC_COUNTS 4) 1
    else
      let d := d.setRegs k (wd bs.length :: wordsOf (ceilDiv bs.length 4) bs)
      ((d.setN Reg.MAC_MGT_RX_HEAD ((h + 1) % 32)).sqSet Reg.MAC_EVT_STATUS [5]).mgtCharge n

/-- `MGT_FRAME_RECEIVE` (R416): the frame without its FCS. -/
def execMgtFrameReceive (bytes : List Byte) (good : Bool) (s : State) : Host.Outcome State Fault Refusal :=
  act (fun d => d.mgtReceive bytes good) s

/-- `MGT_TX_TAIL_WRITE` (R416): by any master. -/
def execMgtTxTailWrite (_ : Fin 16) (v : Word) (s : State) : Host.Outcome State Fault Refusal :=
  act (fun d => d.setFld Reg.MAC_MGT_TX_TAIL 0 16 (Word.fld v 0 16)) s

/-- The management MAC sends its next slot, if the tail has passed it and its OWN is set. -/
def Dev.mgtSend (d : Dev) : Dev :=
  let h := d.mac.mgtHead
  let k := Reg.MAC_MGT_TXSLOT (512 * (h % 32))
  if h = d.fld Reg.MAC_MGT_TX_TAIL 0 16 ∨ d.bit k 31 = false ∨ d.bit Reg.MAC_MGT_CTRL 31 = false then d
  else
    let n := d.fld k 0 11
    let bs := d.entBytes (k + 4) n
    let d := (d.setBit k 31 false).emit (.mgtFrame bs)
    ({ d with mac := { d.mac with mgtHead := (h + 1) % 65536 } } : Dev).mgtCharge (n + 4)

/-- `MGT_TX_DONE` (R416). -/
def execMgtTxDone (s : State) : Host.Outcome State Fault Refusal := act Dev.mgtSend s

/-! ## The opcodes (R410, R415, R417) -/

/-- The group of the ports. -/
def groupMac : Nat := 2 ^ 16

/-- What PORT_MODE_SET refuses. -/
def portModeBad (c : Cmd) (_ : Dev) : Bool :=
  let mode := c.pf 1 29 3
  let n := 8 / modeLanes mode
  !fecOk mode (c.pf 1 27 2) ||
  decide (c.pf 0 1 31 ≠ 0 ∨ c.pf 1 0 27 ≠ 0 ∨ c.pf 2 8 24 ≠ 0 ∨ c.pf 3 16 16 ≠ 0 ∨ c.pf 3 3 5 ≠ 0 ∨ c.pf 4 14 18 ≠ 0 ∨
    2 ^ n ≤ c.pf 2 0 8 ∨ 2 ^ n ≤ c.pf 3 8 8)

/-- MAC_PORTp_CTRL of the j-th port of the group. -/
def Dev.modeCtrl (d : Dev) (c : Cmd) (p j : Nat) : Word :=
  let w := d.staged (Reg.MAC_PORTp_CTRL p)
  let w := Word.setBit (Word.setBit w 31 (Word.bit (c.p 2) j)) 27 (Word.bit (c.p 3) (8 + j))
  let w := Word.setFld (Word.setBit w 26 (Word.bit (c.p 3) 2)) 24 2 (c.pf 3 0 2)
  if c.pf 4 0 14 = 0 then w else Word.setFld w 0 14 (c.pf 4 0 14)

/-- 0x0504: mode, FEC, enables, preemption, maximum frame. -/
def runPortModeSet (c : Cmd) (d : Dev) : Dev × Option Res :=
  let g := c.pf 0 0 1
  let lanes := modeLanes (c.pf 1 29 3)
  d.stageStrobe c groupMac ((Reg.MAC_PGg_MODE g, wd (c.pf 1 27 5 * 2 ^ 27)) ::
    (List.range (8 / lanes)).map (fun j =>
      let p := 8 * g + j * lanes
      (Reg.MAC_PORTp_CTRL p, d.modeCtrl c p j))) (Res.ok [])

/-- `PORT_MODE_SET`. -/
def execPortModeSet (m : Fin 16) (tag : Fin 4096) (gen : Fin 16) (s : State) : Host.Outcome State Fault Refusal :=
  opStep 0x0504 runPortModeSet m.val tag.val gen.val s

/-- 0x0505: MAC_PORTp_STATUS and the FEC counters of its lanes; registers of an absent port read 0. -/
def runPortStatus (c : Cmd) (d : Dev) : Dev × Option Res :=
  let p := c.pf 0 0 4
  let lanes := (List.range (modeLanes (d.pgMode (p / 8)))).map (· + p)
  if d.portPresent p then
    answer d (Res.ok (d.reg (Reg.MAC_PORTp_STATUS p) :: lanes.flatMap (fun l => [d.reg (Reg.MAC_LANEl_FEC l 0), d.reg (Reg.MAC_LANEl_FEC l 1)])))
  else answer d (Res.ok [0])

/-- `PORT_STATUS`. -/
def execPortStatus (m : Fin 16) (tag : Fin 4096) (gen : Fin 16) (s : State) : Host.Outcome State Fault Refusal :=
  opStep 0x0505 runPortStatus m.val tag.val gen.val s

/-- The 24 counters of a port zeroed, its HALF bits with them; a bit 47 that falls is a change of it. -/
def Dev.clearStats (d : Dev) (p : Nat) : Dev :=
  let high := (List.range 24).any (fun i => decide (2 ^ 47 ≤ d.reg64 (Reg.MAC_PORTp_CNT p (2 * i))))
  let d := (List.range 48).foldl (fun d i => d.setN (Reg.MAC_PORTp_CNT p i) 0) d
  let d := d.when high (fun d => (d.macEvt p 4).notifyAll (Reg.MAC_NOTIFY_VECTORf 0))
  d.setFld (Reg.MAC_PORTp_HALF p) 0 24 0

/-- 0x0506: the counters, each low word first. -/
def runPortStatsRead (c : Cmd) (d : Dev) : Dev × Option Res :=
  let p := c.pf 0 0 4
  let data := if d.portPresent p then d.regs (Reg.MAC_PORTp_CNT p 0) 48 else List.replicate 48 0
  answer (if Word.bit (c.p 0) 31 then d.clearStats p else d) (Res.ok data)

/-- `PORT_STATS_READ`. -/
def execPortStatsRead (m : Fin 16) (tag : Fin 4096) (gen : Fin 16) (s : State) : Host.Outcome State Fault Refusal :=
  opStep 0x0506 runPortStatsRead m.val tag.val gen.val s

/-- What REDUNDANCY_SET refuses. -/
def redundancyBad (c : Cmd) (d : Dev) : Bool :=
  let k := c.pf 0 0 3
  let mode := c.pf 1 30 2
  let a := c.pf 1 0 4
  let b := c.pf 1 8 4
  let other (p : Nat) : Bool := match d.pairAt p with
    | some (j, _, _, _) => decide (j ≠ k)
    | none => false
  decide (c.pf 0 3 29 ≠ 0 ∨ c.pf 1 12 18 ≠ 0 ∨ c.pf 1 4 4 ≠ 0 ∨ (c.p 2).toNat ≠ 0 ∨ mode = 3) ||
  (decide (mode ≠ 0) && (decide (a = b ∨ a / 8 ≠ b / 8) || !d.portPresent a || !d.portPresent b || other a || other b))

/-- 0x0806: a pair set or ended. -/
def runRedundancySet (c : Cmd) (d : Dev) : Dev × Option Res :=
  d.stageStrobe c groupMac [(Reg.MAC_PAIRk (c.pf 0 0 3), c.p 1)] (Res.ok [])

/-- `REDUNDANCY_SET`. -/
def execRedundancySet (m : Fin 16) (tag : Fin 4096) (gen : Fin 16) (s : State) : Host.Outcome State Fault Refusal :=
  opStep 0x0806 runRedundancySet m.val tag.val gen.val s

/-- `DUP_NODE_FORGET` (R421): the i-th source node of the table, oldest entry first. -/
def execDupNodeForget (i : Fin 16384) (s : State) : Host.Outcome State Fault Refusal :=
  act (fun d => { d with pbu := { d.pbu with nodes := d.pbu.nodes.eraseIdx i.val } }) s

end Sys2Proof.Machine
end

