-- ==== Sys2Proof/Machine/Cry.lean ====
section
/-! DEFINITION. The commands of the cipher stage: messages, batches, engines, lifetimes, key slots, SAs, the CIPHER channel
(R336 to R359). -/

namespace Sys2Proof.Machine

/-! ## Messages reach the stage (R336, R338, R339) -/

/-- The frame a message works on. -/
def CWork.frame? : CWork → Option Nat
  | .protect f _ => some f
  | .verify f _ => some f
  | .espOut f => some f
  | .espIn f => some f
  | _ => none

/-- A frame has a message in the stage. -/
def Dev.ciphering (d : Dev) (id : Nat) : Bool := d.cry.msgs.any (fun m => decide (m.2.work.frame? = some id))

/-- The order a frame's message keeps: with those of its receive port, its published stream, its slice (R336). -/
def Dev.cipherSource (d : Dev) (f : Frame) : Nat :=
  match f.pub with
  | some (i, _) => 0x320000 + i
  | none =>
    if f.srcPort < 16 then 0x300000 + f.srcPort
    else match f.origin with
      | some (s, _) => 0x310000 + s
      | none => 0x400000 + d.cry.nextMsg

/-- Bytes of a SecTAG. -/
def Dev.tagLen (d : Dev) (y : Nat) : Nat := if d.bit (Reg.CRY_SECYy_CTRL y) 23 then 16 else 8

/-- Where the ESP header of an outbound frame lies, and the bytes from it to the end of its IP payload. -/
def Dev.espAt (d : Dev) (f : Frame) : Option (Nat × Nat) :=
  let k := d.walk f 0
  if k.l4type = 4 then k.l4.map (fun o => (o, k.l4len)) else none

/-- Where it lies in the pass of an inbound frame. -/
def Frame.espIn (f : Frame) : Option Nat := if f.m 3 27 3 = 4 then some (f.start + f.m 2 0 8) else none

/-- Blocks of additional data and data of an ESP packet of `n` bytes under an SA. -/
def espBlocks (a : SecAssoc) (n : Nat) : Nat :=
  match a.suite with
  | 1 => blocksOf (if a.esn then 12 else 8) (n - 32)
  | 2 => blocksOf (n - 16) 0
  | _ => blocksOf 0 (n - 16)

/-- The message of a frame that has work for the stage and none there yet; the frame's next hop is edited first (R282). -/
def Dev.frameArrive (d : Dev) (id : Nat) : Dev :=
  match d.frame? id with
  | none => d
  | some f =>
    if d.ciphering id then d
    else match f.place with
    | .verify y =>
      let b := (hsrSplit f.bytes).2
      let t := secTag b
      let n := b.length - 12 - t.len - 16
      d.cipherArrive (.verify id y) 0 (0x300000 + y) (if t.tci.testBit 3 then blocksOf (12 + t.len) n else blocksOf (12 + t.len + n) 0)
        none
    | .cipher =>
      (match f.job.bind d.sa? with
       | some a => d.cipherArrive (.espIn id) f.cls (d.cipherSource f) (espBlocks a (f.len - (f.espIn.getD 0))) f.owner
       | none => d.cipherArrive (.espIn id) f.cls (d.cipherSource f) 1 f.owner)
    | .toNode _ =>
      if f.esp.isSome then
        let f := d.editFrame f
        let d := d.putFrame id f
        (match f.esp.bind d.sa? with
         | some a => d.cipherArrive (.espOut id) f.cls (d.cipherSource f) (espBlocks a (((d.espAt f).map Prod.snd).getD 0)) f.owner
         | none => d.cipherArrive (.espOut id) f.cls (d.cipherSource f) 1 f.owner)
      else
        let f := d.editFrame f
        let d := d.putFrame id f
        (match d.frameSecy f with
         | some y => d.cipherArrive (.protect id y) f.cls (d.cipherSource f) (if d.bit (Reg.CRY_SECYy_CTRL y) 29
             then blocksOf (12 + d.tagLen y) (f.len - 12) else blocksOf (f.len + d.tagLen y) 0) f.owner
         | none => d)
    | .trlPort _ =>
      (match d.frameSecy f with
       | some y => d.cipherArrive (.protect id y) f.cls (d.cipherSource f) (if d.bit (Reg.CRY_SECYy_CTRL y) 29
           then blocksOf (12 + d.tagLen y) (f.len - 12) else blocksOf (f.len + d.tagLen y) 0) f.owner
       | none => d)
    | _ => d

/-- `CIPHER_MESSAGE_ARRIVE` (R338, R339). -/
def execCipherMessageArrive (f : Nat) (s : State) : Host.Outcome State Fault Refusal :=
  act (fun d => d.frameArrive f) s

/-! ## MACsec (R349, R350) -/

/-- A frame protected under a slot's captured copy and the SecY's captured settings. -/
def Dev.protectFrame (d : Dev) (y : Nat) (f : Frame) (k : KeySlot) (ctrl : Word) : Frame :=
  let conf := Word.bit ctrl 29
  let sc := Word.bit ctrl 23
  let sci := d.sciBytes (Reg.CRY_SECYy_TXSCI y 0) (Reg.CRY_SECYy_TXSCI y 1)
  let data := f.bytes.drop 12
  let tci := Word.fld ctrl 24 2 + (if conf then 12 else 0) + (if sc then 32 else 0)
  let tag := beBytes 2 0x88E5 ++ [BitVec.ofNat 8 tci, BitVec.ofNat 8 (if data.length < 48 then data.length else 0)] ++
    beBytes 4 k.pn ++ (if sc then sci else [])
  let nonce := macsecNonce k (Word.bit ctrl 27) sci k.pn
  let hdr := f.bytes.take 12 ++ tag
  let out := if conf then hdr ++ Config.gcmSeal k.key nonce hdr data
    else hdr ++ data ++ Config.gcmSeal k.key nonce (hdr ++ data) []
  { f.mset 2 16 16 out.length with bytes := out, secured := true }

/-- The verified frame without SecTAG and ICV, and its whole PN; `none` where the ICV fails. An HSR tag and a PRP trailer lie
outside what was protected. -/
def Dev.verifyFrame (d : Dev) (y : Nat) (f : Frame) (k : KeySlot) (ctrl : Word) : Option (List Byte × Nat) :=
  let (hsr, b) := hsrSplit f.bytes
  let n := if f.mbit 3 11 then b.length - 6 else b.length
  let trail := b.drop n
  let t := secTag (b.take n)
  let sl := byteAt b 15 % 64
  let body := if sl = 0 then b.take n else (b.take n).take (12 + t.len + sl + 16)
  let xpn := Word.bit ctrl 27
  let lowest := ((d.rxSc y t).bind (fun r => d.slot? (slotOfAn (d.reg (Reg.CRY_SECYy_RXSLOTr y r)) (t.tci % 4)))).getD k
  let pn := wholePn xpn lowest.pn t.pn
  let sci := t.sci.getD (d.rxSci y ((d.rxSc y t).getD 0))
  let nonce := macsecNonce k xpn sci pn
  if body.length < 12 + t.len + 16 then none
  else
    let hdr := body.take (12 + t.len)
    let plain := if t.tci.testBit 3 then Config.gcmOpen k.key nonce hdr (body.drop (12 + t.len))
      else (Config.gcmOpen k.key nonce (body.take (body.length - 16)) (body.drop (body.length - 16))).map
        (fun _ => slice body (12 + t.len) (body.length - 28 - t.len))
    plain.map (fun p => (b.take 12 ++ hsr ++ p ++ trail, pn))

/-- The slot that a received frame's SecTAG selects (R350). -/
def Dev.verifySlot (d : Dev) (y : Nat) (f : Frame) : Option (Nat × KeySlot) :=
  let t := secTag (hsrSplit f.bytes).2
  (d.rxSc y t).bind (fun r =>
    let i := slotOfAn (d.reg (Reg.CRY_SECYy_RXSLOTr y r)) (t.tci % 4)
    (d.sakOf y i).map (fun k => (i, k)))

/-- A frame past its SecY: to the Press, or to the TRL. -/
def afterVerify (y : Nat) : Place := if y < 16 then .press else .trl

/-- What is done with a verified frame whose ICV has passed (R350). -/
def Dev.verifyOk (d : Dev) (id y : Nat) (f : Frame) (i : Nat) (ctrl : Word) (bs : List Byte) (pn : Nat) : Dev :=
  let lowest := ((d.slot? i).map KeySlot.pn).getD 0
  if pn + Word.fld ctrl 0 12 < lowest then (d.secyCount y 2).freeFrame id
  else
    let d := match d.slot? i with
      | some k => d.setSlot i { k with pn := Nat.max k.pn (pn + 1) }
      | none => d
    (d.secyCount y 0).moveFrame id { f.mset 2 16 16 bs.length with bytes := bs, whole := true } (afterVerify y)

/-! ## ESP (R351) -/

/-- Nonce and associated data of an ESP packet: salt and IV; SPI and sequence number, 12 bytes under ESN. -/
def espNonce (a : SecAssoc) (iv : List Byte) : List Byte := (wordAt a.words 4).bytes ++ iv
def espAad (a : SecAssoc) (seq : Nat) : List Byte :=
  beBytes 4 a.spi.toNat ++ (if a.esn then beBytes 8 seq else beBytes 4 seq)

/-- The bytes of a trailing ICV. -/
def SecAssoc.icv (a : SecAssoc) : Nat := if a.suite = 3 then 0 else 16

/-- An outbound ESP packet that the SA's suite accepts: its place and length. -/
def Dev.espOutOk (d : Dev) (f : Frame) (a : SecAssoc) : Option (Nat × Nat) :=
  (d.espAt f).filter (fun p => a.outbound && decide (a.suite < 4 ∧ beAt f.bytes p.1 4 = a.spi.toNat ∧ 16 + a.icv ≤ p.2 ∧
    p.1 + p.2 ≤ f.len))

/-- The packet encrypted under a captured SA. -/
def espSeal (a : SecAssoc) (f : Frame) (o n : Nat) : Frame :=
  let iv := beBytes 8 a.seq
  let bs := patch (patch f.bytes (o + 4) (beBytes 4 a.seq)) (o + 8) iv
  let data := slice bs (o + 16) (n - 16 - a.icv)
  let out := match a.suite with
    | 1 => Config.gcmSeal a.key (espNonce a iv) (espAad a a.seq) data
    | 2 => data ++ Config.gcmSeal a.key (espNonce a iv) (espAad a a.seq ++ iv ++ data) []
    | _ => Config.ctrCrypt a.key (espNonce a iv ++ beBytes 4 1) data
  { f with bytes := patch bs (o + 16) out, esp := none }

/-- The packet decrypted under a captured SA, with its whole sequence number. -/
def espOpen (a : SecAssoc) (f : Frame) (o seq : Nat) : Option (List Byte) :=
  let iv := slice f.bytes (o + 8) 8
  let n := f.len - o
  let data := slice f.bytes (o + 16) (n - 16 - a.icv)
  let icv := slice f.bytes (o + 16 + data.length) 16
  match a.suite with
  | 1 => (Config.gcmOpen a.key (espNonce a iv) (espAad a seq) (data ++ icv)).map (fun p => patch f.bytes (o + 16) p)
  | 2 => (Config.gcmOpen a.key (espNonce a iv) (espAad a seq ++ iv ++ data) icv).map (fun _ => f.bytes)
  | _ => some (patch f.bytes (o + 16) (Config.ctrCrypt a.key (espNonce a iv ++ beBytes 4 1) data))

/-- A sequence number that the replay window of an SA accepts. -/
def SecAssoc.fresh (a : SecAssoc) (seq : Nat) : Bool :=
  let w := Word.fld (wordAt a.words 5) 0 13
  decide (w = 0 ∨ a.seq < seq ∨ (a.seq < seq + w ∧ seq ∉ a.window))

/-- The window after a number is accepted. -/
def SecAssoc.accept (a : SecAssoc) (seq : Nat) : SecAssoc :=
  let w := Word.fld (wordAt a.words 5) 0 13
  let top := Nat.max a.seq seq
  { a with seq := top, window := (seq :: a.window).filter (fun n => decide (top < n + w)) }

/-- An SA's use counted (R348). -/
def Dev.useSa (d : Dev) (i n : Nat) : Dev := d.setSa i (fun a => { a with packets := a.packets + 1, bytes := a.bytes + n })

/-- A frame of an inbound SA: checks, decryption, the window; on to its slice or to its next pass (R351). -/
def Dev.espInDone (d : Dev) (id : Nat) (f : Frame) (i : Nat) (a : SecAssoc) : Dev :=
  let now := (d.sa? i).getD a
  let format (d : Dev) : Dev := ((d.setSa i (fun a => { a with formatDrop := a.formatDrop + 1 })).cryCount 3).freeFrame id
  match f.espIn with
  | none => format d
  | some o =>
    let seq := wholePn a.esn now.seq (beAt f.bytes (o + 4) 4)
    if a.outbound ∨ 4 ≤ a.suite ∨ beAt f.bytes o 4 ≠ a.spi.toNat ∨ f.len < o + 16 + a.icv then format d
    else if !now.fresh seq then
      ((d.setSa i (fun a => { a with replayDrop := a.replayDrop + 1 })).cryCount 5).freeFrame id
    else
      match espOpen a f o seq with
      | none => ((d.setSa i (fun a => { a with icvFail := a.icvFail + 1 })).cryCount 4).freeFrame id
      | some bs =>
        let d := (d.setSa i (fun a => a.accept seq)).useSa i (f.len - o - 16 - a.icv)
        let f := ({ f with bytes := bs, job := none } : Frame).msetBit 0 16 true
        match f.dest with
        | some t => d.sendSlice id f t
        | none => d.recirculate id f f.next (o + 16)

/-! ## Requests of the CIPHER channel (R352) -/

/-- The request of a thread by its number. -/
def Dev.reqOf (d : Dev) (t tag : Nat) : Option AccReq := (d.thread t).reqs.find? (fun r => decide (r.tag = tag))

/-- The bytes a request covers: under a frame handle, or in the data window; `extra` bytes more. -/
def Dev.reqBytes (d : Dev) (t : Nat) (r : AccReq) (extra : Nat) : Option (List Byte) :=
  let w2 := wordAt r.words 2
  let n := Word.fld (wordAt r.words 3) 0 16 + extra
  let o := Word.fld w2 0 24
  if Word.fld w2 24 8 = 0xFF then d.winRead t o n
  else ((d.handleFrame t (Word.fld w2 24 8)).bind d.frame?).bind (fun f =>
    if o + n ≤ f.len then some (slice f.bytes o n) else none)

/-- The result written in place. -/
def Dev.reqWrite (d : Dev) (t : Nat) (r : AccReq) (bs : List Byte) : Dev :=
  let w2 := wordAt r.words 2
  let o := Word.fld w2 0 24
  if Word.fld w2 24 8 = 0xFF then (d.winWrite t o bs).getD d
  else match d.handleFrame t (Word.fld w2 24 8) with
    | some id => (match d.frame? id with
      | some f => d.putFrame id { f with bytes := patch f.bytes o bs }
      | none => d)
    | none => d

/-- The suites an OP may use. -/
def opSuite (op suite : Nat) : Bool :=
  match op with
  | 1 => decide (suite = 1 ∨ suite = 2)
  | 2 => decide (suite = 1 ∨ suite = 2)
  | 3 => decide (suite = 3)
  | _ => decide (suite = 4)

/-- The key a request names: a DEVICE slot, or a LIVE SA of the suite its OP needs. -/
def Dev.reqKey (d : Dev) (op : Nat) (w1 : Word) : Captured :=
  if Word.bit w1 31 then
    match d.slot? (Word.fld w1 0 8) with
    | some k => if k.purpose = 3 ∧ op < 4 then .slot (Word.fld w1 0 8) k else .none
    | none => .none
  else
    match d.saLive (Word.fld w1 0 20) with
    | some a => if opSuite op a.suite then .sa (Word.fld w1 0 20) a else .none
    | none => .none

/-- Whether the SA a request names belongs to another than the thread's charge slice. -/
def Dev.reqForeign (d : Dev) (t : Nat) (w1 : Word) : Bool :=
  !Word.bit w1 31 && (match d.sa? (Word.fld w1 0 20) with
    | some a => decide (d.thrOwner t ≠ some a.slice)
    | none => false)

/-- A request's work reaches the stage, or is answered at once (R352). -/
def Dev.cipherRequest (d : Dev) (t op : Nat) : Dev :=
  match (d.thread t).reqs.find? (fun r => decide (r.chan = 4 ∧ Word.fld (wordAt r.words 0) 24 8 = op) && r.answer.isNone &&
      !d.cry.msgs.any (fun m => decide (m.2.work = .request t r.tag op))) with
  | none => d
  | some r =>
    let n := Word.fld (wordAt r.words 3) 0 16
    let aad := Word.fld (wordAt r.words 3) 16 16
    if (4 ≤ op ∧ n % 16 ≠ 0) ∨ 16384 < n ∨ (op < 3 ∧ n < aad) ∨ (d.reqBytes t r (if op = 2 then 16 else 0)).isNone = true then
      d.answerReq t r.tag 0x13 []
    else if d.reqForeign t (wordAt r.words 1) then d.answerReq t r.tag 0x11 []
    else
      let c := d.thrClass t
      d.cipherArrive (.request t r.tag op) c (0x400000 + d.cry.nextMsg) (if op < 3 then blocksOf aad (n - aad) else blocksOf 0 n)
        (d.thrOwner t)

/-- A request's result: status and response data. -/
def Dev.requestDone (d : Dev) (t tag op : Nat) (key : List Byte) (gmac : Bool) : Dev :=
  match d.reqOf t tag with
  | none => d
  | some r =>
    let n := Word.fld (wordAt r.words 3) 0 16
    let a := if gmac then n else Word.fld (wordAt r.words 3) 16 16
    let iv := bytesOf (r.words.drop 4 |>.take 4)
    let done (d : Dev) (st : Nat) (bs : List Byte) : Dev := d.answerReq t tag st bs
    match d.reqBytes t r (if op = 2 then 16 else 0) with
    | none => done d 0x13 []
    | some bs =>
      match op with
      | 1 =>
        let out := Config.gcmSeal key (iv.take 12) (bs.take a) (bs.drop a)
        done (d.reqWrite t r (bs.take a ++ out.take (n - a))) 0 (out.drop (n - a))
      | 2 =>
        (match Config.gcmOpen key (iv.take 12) (bs.take a) (bs.drop a) with
         | some p => done (d.reqWrite t r (bs.take a ++ p)) 0 []
         | none => done d 0x12 [])
      | 3 => done (d.reqWrite t r (Config.ctrCrypt key iv bs)) 0 []
      | 4 => done (d.reqWrite t r (Config.xtsEnc key iv bs)) 0 []
      | _ => done (d.reqWrite t r (Config.xtsDec key iv bs)) 0 []

/-- `SEAL` (R352). -/
def execSeal (t : Fin 512) (s : State) : Host.Outcome State Fault Refusal := act (fun d => d.cipherRequest t.val 1) s

/-- `OPEN` (R352). -/
def execOpen (t : Fin 512) (s : State) : Host.Outcome State Fault Refusal := act (fun d => d.cipherRequest t.val 2) s

/-- `CTR` (R352). -/
def execCtr (t : Fin 512) (s : State) : Host.Outcome State Fault Refusal := act (fun d => d.cipherRequest t.val 3) s

/-- `XTS_ENC` (R352). -/
def execXtsEnc (t : Fin 512) (s : State) : Host.Outcome State Fault Refusal := act (fun d => d.cipherRequest t.val 4) s

/-- `XTS_DEC` (R352). -/
def execXtsDec (t : Fin 512) (s : State) : Host.Outcome State Fault Refusal := act (fun d => d.cipherRequest t.val 5) s

/-! ## Decanting (R346, R347) -/

/-- FORMAT unknown, reserved SUITE, or a reserved bit set in the SA format; unused fields and key words are 0 (R346). -/
def saFormatBad (ws : List Word) : Bool :=
  let w (i : Nat) : Word := wordAt ws i
  let suite := Word.fld (w 0) 20 4
  let keys := (if Word.bit (w 0) 17 then 8 else 4) * (if suite = 4 then 2 else 1)
  let out := Word.bit (w 0) 19
  decide (Word.fld (w 0) 24 8 ≠ 1 ∨ suite = 0 ∨ 4 < suite ∨ Word.fld (w 0) 0 17 ≠ 0 ∨ Word.fld (w 1) 20 12 ≠ 0 ∨
    Word.fld (w 2) 20 12 ≠ 0 ∨ Word.fld (w 5) 13 19 ≠ 0 ∨ 4096 < Word.fld (w 5) 0 13 ∨ w 14 ≠ 0 ∨ w 15 ≠ 0) ||
  (ws.drop (16 + keys)).any (fun x => decide (x ≠ 0)) ||
  (if suite = 4 then decide (1 < (w 3).toNat ∨ w 4 ≠ 0 ∨ w 5 ≠ 0 ∨ w 6 ≠ 0 ∨ w 7 ≠ 0)
   else decide (w 12 ≠ 0 ∨ w 13 ≠ 0)) ||
  (if out then decide (w 5 ≠ 0) else decide (w 6 ≠ 0 ∨ w 7 ≠ 0))

/-- DIR, ESN or SUITE inconsistent; equal XTS keys; an outbound SA that starts at 0 (R347). -/
def saInconsistent (ws : List Word) : Bool :=
  let w (i : Nat) : Word := wordAt ws i
  let xts := decide (Word.fld (w 0) 20 4 = 4)
  let n := if Word.bit (w 0) 17 then 8 else 4
  (xts && (Word.bit (w 0) 19 || Word.bit (w 0) 18 || decide ((ws.drop 16).take n = (ws.drop (16 + n)).take n))) ||
  (!xts && Word.bit (w 0) 19 && decide (cat64 (w 6) (w 7) = 0))

/-- A DECANT that fails with a code. -/
def Dev.decantFail (d : Dev) (m tag gen code : Nat) : Dev :=
  ((d.cryCount 7).sqSet Reg.CRY_EVT_STATUS [0]).finish m tag gen ⟨stBadParam, [wd code], false⟩

/-- The unwrapped blob judged, and the SA made LIVE (R347). -/
def Dev.decantDone (d : Dev) (m tag gen : Nat) (key : List Byte) : Dev :=
  match d.cmd? m tag gen with
  | none => d
  | some c =>
    let i := c.pf 1 0 20
    let s := c.slice
    match Config.keyUnwrap key ((bytesOf (c.params.drop 3)).take 136) with
    | none => d.decantFail m tag gen 1
    | some p =>
      let ws := wordsOf 32 p
      if saFormatBad ws then d.decantFail m tag gen 3
      else if Word.fld (wordAt ws 1) 0 20 ≠ d.pasid s then d.decantFail m tag gen 4
      else if Word.fld (wordAt ws 2) 0 20 ≠ i then d.decantFail m tag gen 5
      else if saInconsistent ws then d.decantFail m tag gen 6
      else match d.sa? i with
        | some a => if a.state = 4 then d.finish m tag gen (Res.st stBusy) else d.decantFail m tag gen 7
        | none =>
          if !d.poolRoom s 3 1 then d.finish m tag gen (Res.st stNoResource)
          else
            let a : SecAssoc := ⟨1, s, d.incarnation s, ws, cat64 (wordAt ws 6) (wordAt ws 7), [], 0, 0, 0, 0, 0, false⟩
            let d := d.poolTake s 3 1
            ({ d with cry := { d.cry with sas := Map.put d.cry.sas i a } } : Dev).finish m tag gen (Res.ok [])

/-! ## A message starts, ends, leaves (R336, R341, R353 to R357) -/

/-- The SA of a storage command's namespace. -/
def Dev.unitKey (d : Dev) (k cid : Nat) : Captured × Nat :=
  match (d.conn? k).bind (fun c => Map.get? c.cmds cid) with
  | some m => (match d.saLive (nsSa (d.nsOf m)) with
    | some a => (.sa (nsSa (d.nsOf m)) a, 0)
    | none => (.none, 1))
  | none => (.none, 1)

/-- What a message captures when its first block starts: the key, or why it has none (1 no valid key, 3 malformed, 4 its
numbers are used up). -/
def Dev.startKey (d : Dev) (m : CMsg) : Captured × Nat :=
  match m.work with
  | .protect _ y =>
    let i := slotOfAn (d.reg (Reg.CRY_SECYy_TXSLOT y)) (d.fld (Reg.CRY_SECYy_CTRL y) 24 2)
    (match d.sakOf y i with
     | some k => if k.space ≤ k.pn then (.none, 4) else (.slot i k, 0)
     | none => (.none, 1))
  | .verify f y =>
    (match (d.frame? f).bind (d.verifySlot y) with
     | some (i, k) => (.slot i k, 0)
     | none => (.none, 1))
  | .espOut f =>
    (match d.frame? f with
     | none => (.none, 1)
     | some g =>
       match (g.esp).bind d.saLive with
       | none => (.none, 1)
       | some a => if (d.espOutOk g a).isNone then (.none, 3) else if a.space ≤ a.seq then (.none, 4) else (.sa (g.esp.getD 0) a, 0))
  | .espIn f =>
    (match d.frame? f with
     | none => (.none, 1)
     | some g =>
       let i := g.job.getD 0
       match g.job.bind d.saLive with
       | none => (.none, 1)
       | some a => (match g.dest with
         | some t => if a.slice = t.slice ∧ a.incarnation = t.incarnation then (.sa i a, 0) else (.none, 1)
         | none => (.sa i a, 0)))
  | .request t tag op =>
    (match d.reqOf t tag with
     | some r => (match d.reqKey op (wordAt r.words 1) with
       | .none => (.none, 1)
       | c => (c, 0))
     | none => (.none, 1))
  | .decant mm tag gen =>
    let i := ((d.cmd? mm tag gen).map (fun c => c.pf 2 0 8)).getD 0
    (match d.slot? i with
     | some k => if k.purpose = 2 then (.slot i k, 0) else (.none, 1)
     | none => (.none, 1))
  | .xtsOut k cid _ => d.unitKey k cid
  | .xtsIn k cid _ _ => d.unitKey k cid

/-- The number a message takes at its first block: a SAK's PN, an outbound SA's sequence number. -/
def Dev.takeNumber (d : Dev) (m : CMsg) : Dev :=
  match m.work, m.captured with
  | .protect _ _, .slot i k => d.setSlot i { k with pn := k.pn + 1 }
  | .espOut _, .sa i a => d.setSa i (fun b => { b with seq := a.seq + 1 })
  | _, _ => d

/-- What a frame's end in the stage counts, by why it failed. -/
def Dev.frameFail (d : Dev) (id : Nat) (secy : Option (Nat × Bool)) (how : Nat) : Dev :=
  let pub := (d.frame? id).bind Frame.pub
  let d := d.freeFrame id
  match how, secy with
  | 2, _ => (match pub with
    | some (i, b) => d.pubFaulted i b
    | none => d.cryCount 2)
  | 4, some (y, _) => d.secyCount y 7
  | _, some (y, true) => d.secyCount y 6
  | _, some (y, false) => d.secyCount y 3
  | 3, none => d.cryCount 3
  | _, none => d.cryCount 6

/-- A data unit's end. -/
def Dev.unitEffect (d : Dev) (m : CMsg) (how k cid u : Nat) (out : Bool) (bs : Option (List Byte)) : Dev :=
  match (d.conn? k).bind (fun c => Map.get? c.cmds cid) with
  | none => d
  | some c =>
    match how, m.captured with
    | 0, .sa i a =>
      let ns := d.nsOf c
      let data := bs.getD (slice c.data (unitOffset ns a.unit u) a.unit)
      let tw := unitTweak a ns c.lba u
      (d.useSa i a.unit).unitDone k cid u out (if out then Config.xtsEnc a.key tw data else Config.xtsDec a.key tw data)
    | 2, _ => d.unitFailed k cid 0x40
    | _, _ => d.unitFailed k cid 0x12

/-- What a message's end does: the work done under its captured key, or the report of its failure (R349 to R357). -/
def Dev.msgEffect (d : Dev) (m : CMsg) (how : Nat) : Dev :=
  match m.work with
  | .protect id y =>
    (match how, m.captured, d.frame? id with
     | 0, .slot _ k, some f => (d.putFrame id (d.protectFrame y f k m.ctrl)).secyCount y 5
     | _, _, some _ => d.frameFail id (some (y, true)) how
     | _, _, none => d)
  | .verify id y =>
    (match how, m.captured, d.frame? id with
     | 0, .slot i k, some f => (match d.verifyFrame y f k m.ctrl with
       | some (bs, pn) => d.verifyOk id y f i m.ctrl bs pn
       | none => (d.secyCount y 1).freeFrame id)
     | _, _, some _ => d.frameFail id (some (y, false)) how
     | _, _, none => d)
  | .espOut id =>
    (match how, m.captured, d.frame? id with
     | 0, .sa i a, some f => (match d.espOutOk f a with
       | some (o, n) => (d.putFrame id (espSeal a f o n)).useSa i (n - 16 - a.icv)
       | none => d.frameFail id none 3)
     | _, _, some f =>
       let d := if how = 3 then d.setSa (f.esp.getD 0) (fun a => { a with formatDrop := a.formatDrop + 1 }) else d
       d.frameFail id none how
     | _, _, none => d)
  | .espIn id =>
    (match how, m.captured, d.frame? id with
     | 0, .sa i a, some f => d.espInDone id f i a
     | _, _, some _ => d.frameFail id none how
     | _, _, none => d)
  | .request t tag op =>
    (match how, m.captured with
     | 0, .slot _ k => d.requestDone t tag op k.key false
     | 0, .sa i a => (d.requestDone t tag op a.key (decide (a.suite = 2))).useSa i
         (((d.reqOf t tag).map (fun r => Word.fld (wordAt r.words 3) 0 16)).getD 0)
     | 2, _ => d.answerReq t tag 3 []
     | _, _ => d.answerReq t tag 0x10 [])
  | .decant mm tag gen =>
    (match how, m.captured with
     | 0, .slot _ k => d.decantDone mm tag gen k.key
     | 2, _ => d.finish mm tag gen (Res.st stFaulted)
     | _, _ => d.decantFail mm tag gen 2)
  | .xtsOut k cid u => d.unitEffect m how k cid u true none
  | .xtsIn k cid u bs => d.unitEffect m how k cid u false (some bs)

/-- A message leaves the stage. -/
def Dev.dropMsg (d : Dev) (i : Nat) (m : CMsg) : Dev :=
  let d := ({ d with cry := { d.cry with msgs := Map.del d.cry.msgs i } } : Dev).dropWaiting .cipher i
  match m.captured with
  | .slot s _ => d.showSlot s
  | _ => d

/-- The finished messages of a source leave in the order in which they reached the stage (R336). -/
def Dev.flushSource (d : Dev) (src : Nat) : Dev :=
  let mine := Map.sift d.cry.msgs (fun _ m => decide (m.source = src))
  let out := List.takeWhile (fun (e : Nat × CMsg) => match e.2.place with
    | .finished _ => true
    | _ => false) mine
  out.foldl (fun d e => match e.2.place with
    | .finished how => (d.msgEffect e.2 how).dropMsg e.1 e.2
    | _ => d) d

/-- A message is finished: it leaves when its source's earlier ones have. -/
def Dev.finishMsg (d : Dev) (i how : Nat) : Dev :=
  match Map.get? d.cry.msgs i with
  | some m => (d.setMsg i (fun m => { m with place := .finished how })).flushSource m.source
  | none => d

/-- The SecY whose settings a message uses. -/
def CWork.secy? : CWork → Option Nat
  | .protect _ y => some y
  | .verify _ y => some y
  | _ => none

/-- A message's batch admitted: its blocks are issued; at the first its key is captured and its number taken (R355). -/
def Dev.issueBatch (d : Dev) (i : Nat) (m : CMsg) (n : Nat) : Dev :=
  if m.issued = 0 then
    let ctrl := (m.work.secy?.map (fun y => d.reg (Reg.CRY_SECYy_CTRL y))).getD 0
    let m' := { m with issued := n, captured := (d.startKey m).1, ctrl := ctrl }
    let d := (d.setMsg i (fun _ => m')).takeNumber m'
    match m'.captured with
    | .slot s _ => d.showSlot s
    | _ => d
  else d.setMsg i (fun m => { m with issued := m.issued + n })

/-- The batch an engine issues next (R341): MACsec verification is charged to the device; all else is offered. A refused
first batch waits; a later one parks its message in a context slot. -/
def Dev.batch (d : Dev) (e i : Nat) (m : CMsg) : Dev :=
  let n := Nat.min 64 (m.blocks - m.issued)
  if n = 0 then d
  else if m.issued = 0 ∧ (d.startKey m).2 ≠ 0 then (d.finishMsg i (d.startKey m).2).engineTake e
  else match m.work with
  | .verify _ _ => (d.charge 0 (d.unitCost 3 n) none).issueBatch i m n
  | _ =>
    match d.offer .cipher i m.level (d.unitCost 3 n) m.owner false with
    | (true, d) => d.issueBatch i m n
    | (false, d) =>
      if m.issued = 0 then (d.setMsg i (fun m => { m with place := .waiting })).engineTake e
      else if (d.heldIn e).length < 4 then
        ((d.setMsg i (fun m => { m with place := .held e })).cryCount 1).engineTake e
      else d

/-- `CIPHER_BATCH_ISSUE` (R341). -/
def execCipherBatchIssue (e : Fin 12) (s : State) : Host.Outcome State Fault Refusal :=
  act (fun d => match d.inEngine e.val with
    | some i => (match Map.get? d.cry.msgs i with
      | some m => d.batch e.val i m
      | none => d)
    | none => d.engineTake e.val) s

/-- `CIPHER_MESSAGE_DONE` (R336): the engine has run every block of its message. -/
def execCipherMessageDone (e : Fin 12) (s : State) : Host.Outcome State Fault Refusal :=
  act (fun d => match d.inEngine e.val with
    | some i => (match Map.get? d.cry.msgs i with
      | some m => if m.blocks ≤ m.issued then (d.finishMsg i 0).engineTake e.val else d
      | none => d)
    | none => d) s

/-! ## Engines (R356, R357) -/

/-- The block number of CRY in a fault record: its row of R12. -/
def blkCry : Nat := 12

/-- `CIPHER_ENGINE_FAULT` (R356): the messages in the engine and in its context slots fail; it leaves service. -/
def execCipherEngineFault (e : Fin 12) (s : State) : Host.Outcome State Fault Refusal :=
  act (fun d =>
    if d.engineOn e.val then
      let ids := (d.inEngine e.val).toList ++ d.heldIn e.val
      let d := ids.foldl (fun d i => d.finishMsg i 2) d
      let d := (d.setBit Reg.CRY_ENGINES e.val false).sqSet Reg.CRY_EVT_STATUS [4]
      d.fault { faultRec 3 2 blkCry e.val with failed := ids.length, recoveryUs := 50 }
    else d) s

/-- The DEVICE_RESET of an engine that waits for it (R483): its master, TAG and GEN. -/
def Dev.engineReset (d : Dev) (e : Nat) : Option (Nat × Nat × Nat) :=
  (d.cmd.cmds.find? (fun c => decide (c.opcode = 0x0009 ∧ c.phase = .started ∧ c.pf 0 0 8 = 3 ∧ c.pf 0 8 8 = e))).map
    (fun c => (c.master, c.tag, c.gen))

/-- `CIPHER_ENGINE_RETURN` (R356): a tasted engine with nothing left in it returns, or is retired; a reset of it ends. -/
def execCipherEngineReturn (e : Fin 12) (pass : Bool) (s : State) : Host.Outcome State Fault Refusal :=
  act (fun d =>
    if d.engineOn e.val || (d.inEngine e.val).isSome || !(d.heldIn e.val).isEmpty || d.bit Reg.CRY_ENGINES (16 + e.val) then d
    else
      let w := d.engineReset e.val
      let d := if pass then d.setBit Reg.CRY_ENGINES e.val true
        else (d.setBit Reg.CRY_ENGINES (16 + e.val) true).sqSet Reg.CRY_EVT_STATUS [3]
      let d := match w with
        | some (m, t, g) => d.finish m t g (Res.st (if pass then stOK else stFaulted))
        | none => d
      d.engineTake e.val) s

/-! ## Lifetimes (R353) -/

/-- `SA_SOFT_EXPIRY` (R353): at SOFT, or at three quarters of the number space; reported once. -/
def execSaSoftExpiry (slot : Bool) (i : Fin 1048576) (s : State) : Host.Outcome State Fault Refusal :=
  act (fun d =>
    if slot then
      match d.slot? i.val with
      | some k => if k.purpose = 1 ∧ k.soft = false ∧ 3 * k.space ≤ 4 * k.pn then
          (d.setSlot i.val { k with soft := true }).expire true i.val false none else d
      | none => d
    else
      match d.saLive i.val with
      | some a => if a.soft = false ∧ ((a.softLimit ≠ 0 ∧ a.softLimit ≤ a.packets) ∨ 3 * a.space ≤ 4 * a.seq) then
          (d.setSa i.val (fun a => { a with soft := true })).expire false i.val false (some (a.slice, a.incarnation)) else d
      | none => d) s

/-- `SA_HARD_EXPIRY` (R353): at HARD, or when the last number has been sent; the key is zeroised. -/
def execSaHardExpiry (slot : Bool) (i : Fin 1048576) (s : State) : Host.Outcome State Fault Refusal :=
  act (fun d =>
    if slot then
      match d.slot? i.val with
      | some k => if k.purpose = 1 ∧ k.space ≤ k.pn then (d.zeroSlot i.val).expire true i.val true none else d
      | none => d
    else
      match d.saLive i.val with
      | some a => if (a.hardLimit ≠ 0 ∧ a.hardLimit ≤ a.packets) ∨ (a.outbound = true ∧ a.space ≤ a.seq) then
          (d.setSa i.val (fun a => { a.zeroised with state := 2 })).expire false i.val true (some (a.slice, a.incarnation)) else d
      | none => d) s

/-! ## Key slots (R342 to R344, R354, R355) -/

/-- A slot that a SecY sends with. -/
def Dev.txSlot (d : Dev) (i : Nat) : Bool :=
  (List.range 20).any (fun y => (List.range 4).any (fun a => decide (slotOfAn (d.reg (Reg.CRY_SECYy_TXSLOT y)) a = i)))

/-- What R343 refuses of a slot's sixteen words. -/
def Dev.keyBad (d : Dev) (i : Nat) (ws : List Word) : Bool :=
  let w (j : Nat) : Word := wordAt ws j
  let p := Word.fld (w 1) 28 4
  let persist := Word.bit (w 1) 27
  let long := Word.bit (w 1) 26
  let others := Map.count d.cry.slots (fun j k => k.persist && decide (j ≠ i))
  decide (p = 0 ∨ 3 < p ∨ (w 0).toNat ≠ i ∨ Word.fld (w 1) 0 26 ≠ 0 ∨ (p = 1 ∧ (i = 0 ∨ persist = true)) ∨ (p = 2 ∧ long = false) ∨
    (p = 1 ∧ cat64 (w 6) (w 7) = 0 ∧ d.txSlot i = true) ∨ (persist = true ∧ 32 ≤ others) ∨
    (p ≠ 1 ∧ (w 2 ≠ 0 ∨ w 3 ≠ 0 ∨ w 4 ≠ 0 ∨ w 5 ≠ 0 ∨ w 6 ≠ 0 ∨ w 7 ≠ 0)) ∨
    (long = false ∧ (w 12 ≠ 0 ∨ w 13 ≠ 0 ∨ w 14 ≠ 0 ∨ w 15 ≠ 0)))

/-- A slot loaded from its sixteen words. -/
def Dev.loadSlot (d : Dev) (i : Nat) (ws : List Word) : Dev :=
  let w (j : Nat) : Word := wordAt ws j
  let long := Word.bit (w 1) 26
  d.setSlot i ⟨Word.fld (w 1) 28 4, Word.bit (w 1) 27, long, w 2, [w 3, w 4, w 5], cat64 (w 6) (w 7),
    bytesOf ((ws.drop 8).take (if long then 8 else 4)), false⟩

/-- A slot zeroised by software: empty, and no longer marked FAULTED. -/
def Dev.clearSlot (d : Dev) (i : Nat) : Dev := (d.setBit (Reg.CRY_SLOTs i) 25 false).zeroSlot i

/-- CRY_KEY_CMD after an operation. -/
def Dev.keyCmd (d : Dev) (op slot err : Nat) : Dev := d.setN Reg.CRY_KEY_CMD (err * 2 ^ 28 + op * 2 ^ 24 + slot)

/-- CRY_KEY_CMD with OP 1: the slot loaded from the staged words (R344). -/
def Dev.keyLoad (d : Dev) (slot : Nat) : Dev :=
  let ws := d.regs (Reg.CRY_KEY_STAGE 0) 8 ++ d.regs (Reg.CRY_KEY_DATA 0) 8
  if d.keyBad slot ws then d.keyCmd 1 slot 1
  else if d.bit (Reg.CRY_SLOTs slot) 25 then d.keyCmd 1 slot 2
  else ((d.loadSlot slot ws).setRegs (Reg.CRY_KEY_DATA 0) (List.replicate 8 0)).keyCmd 1 slot 0

/-- `KEY_LOAD` (R344). -/
def execKeyLoad (slot : Fin 256) (s : State) : Host.Outcome State Fault Refusal := act (fun d => d.keyLoad slot.val) s

/-- CRY_KEY_CMD with OP 2 (R344). -/
def Dev.keyErase (d : Dev) (slot : Nat) : Dev := (d.clearSlot slot).keyCmd 2 slot 0

/-- `KEY_ZERO` (R344). -/
def execKeyZero (slot : Fin 256) (s : State) : Host.Outcome State Fault Refusal := act (fun d => d.keyErase slot.val) s

/-- 0x0400 (R343). -/
def runKeySlotWrite (c : Cmd) (d : Dev) : Dev × Option Res :=
  let i := c.pf 0 0 8
  if d.keyBad i c.params then (d, some (Res.st stBadParam))
  else if d.bit (Reg.CRY_SLOTs i) 25 then (d, some (Res.st stFaulted))
  else (d.loadSlot i c.params, some (Res.ok []))

/-- `KEY_SLOT_WRITE`. -/
def execKeySlotWrite (m : Fin 16) (tag : Fin 4096) (gen : Fin 16) (s : State) : Host.Outcome State Fault Refusal :=
  opStep 0x0400 runKeySlotWrite m.val tag.val gen.val s

/-- A command left waiting for the captured copies of a slot or an SA (R355). -/
def Dev.waitCopies (d : Dev) (isSa : Bool) (i : Nat) (c : Cmd) : Dev :=
  { d with cry := { d.cry with waits := d.cry.waits ++ [(isSa, i, c.master, c.tag, c.gen)] } }

/-- 0x0401 (R343, R355): the reply waits while a captured copy is in use. -/
def runKeySlotZero (c : Cmd) (d : Dev) : Dev × Option Res :=
  let i := c.pf 0 0 8
  let d := d.clearSlot i
  if d.copyHeld false i then (d.waitCopies false i c, none) else (d, some (Res.ok []))

/-- `KEY_SLOT_ZERO`. -/
def execKeySlotZero (m : Fin 16) (tag : Fin 4096) (gen : Fin 16) (s : State) : Host.Outcome State Fault Refusal :=
  opStep 0x0401 runKeySlotZero m.val tag.val gen.val s

/-! ## SAs (R345 to R348) -/

/-- 0x0402 (R347): an engine unwraps the blob at U1. -/
def runSaDecant (c : Cmd) (d : Dev) : Dev × Option Res :=
  if d.cry.msgs.any (fun m => decide (m.2.work = .decant c.master c.tag c.gen)) then (d, none)
  else (d.cipherArrive (.decant c.master c.tag c.gen) 1 (0x400000 + d.cry.nextMsg) 9 none, none)

/-- `SA_DECANT`. -/
def execSaDecant (m : Fin 16) (tag : Fin 4096) (gen : Fin 16) (s : State) : Host.Outcome State Fault Refusal :=
  opStep 0x0402 runSaDecant m.val tag.val gen.val s

/-- An SA becomes FREE and leaves pool 3. -/
def Dev.freeSa (d : Dev) (i : Nat) : Dev :=
  match d.sa? i with
  | some a => ({ d with cry := { d.cry with sas := Map.del d.cry.sas i } } : Dev).poolFree a.slice 3 1
  | none => d

/-- 0x0403 (R348): the key goes at once; the reply waits for the captured copies. -/
def runSaDelete (c : Cmd) (d : Dev) : Dev × Option Res :=
  let i := c.pf 1 0 20
  match d.sa? i with
  | none => (d, some (Res.st stBadParam))
  | some a =>
    if a.slice ≠ c.slice then (d, some (Res.st stBadParam))
    else
      let d := d.setSa i (fun a => { a.zeroised with state := 4 })
      if d.copyHeld true i then
        if d.cry.waits.contains (true, i, c.master, c.tag, c.gen) then (d, none) else (d.waitCopies true i c, none)
      else (d.freeSa i, some (Res.ok []))

/-- `SA_DELETE`. -/
def execSaDelete (m : Fin 16) (tag : Fin 4096) (gen : Fin 16) (s : State) : Host.Outcome State Fault Refusal :=
  opStep 0x0403 runSaDelete m.val tag.val gen.val s

/-- The twelve words of SA_STATUS (R348). -/
def Dev.saWords (d : Dev) (i : Nat) : List Word :=
  match d.sa? i with
  | none => List.replicate 10 0 ++ [BitVec.allOnes 32, BitVec.allOnes 32]
  | some a =>
    let left := if a.hardLimit = 0 then 2 ^ 64 - 1 else a.hardLimit - a.packets
    [wd (a.state * 2 ^ 29 + a.suite * 2 ^ 24 + (if a.outbound then 2 ^ 23 else 0) + a.slice * 2 ^ 8 + a.incarnation), lo32 a.seq,
      hi32 a.seq, lo32 a.packets, hi32 a.packets, lo32 a.bytes, hi32 a.bytes, wd a.icvFail, wd a.replayDrop, wd a.formatDrop,
      lo32 left, hi32 left]

/-- 0x0404. -/
def runSaStatus (c : Cmd) (d : Dev) : Dev × Option Res := (d, some (Res.ok (d.saWords (c.pf 1 0 20))))

/-- `SA_STATUS`. -/
def execSaStatus (m : Fin 16) (tag : Fin 4096) (gen : Fin 16) (s : State) : Host.Outcome State Fault Refusal :=
  opStep 0x0404 runSaStatus m.val tag.val gen.val s

/-- `KEY_COPY_RELEASED` (R355): no captured copy is left, so the waiting zeroise or delete replies; a DRAINING SA becomes
FREE. -/
def execKeyCopyReleased (sa : Bool) (i : Fin 1048576) (s : State) : Host.Outcome State Fault Refusal :=
  act (fun d =>
    if d.copyHeld sa i.val then d
    else
      let hit (w : Bool × Nat × Nat × Nat × Nat) : Bool := decide (w.1 = sa ∧ w.2.1 = i.val)
      let ws := d.cry.waits.filter hit
      let d := { d with cry := { d.cry with waits := d.cry.waits.filter (fun w => !hit w) } }
      let draining := match d.sa? i.val with
        | some a => sa && decide (a.state = 4)
        | none => false
      let d := if draining then d.freeSa i.val else d
      ws.foldl (fun d w => d.finish w.2.2.1 w.2.2.2.1 w.2.2.2.2 (Res.ok [])) d) s

/-! ## Checks of the opcodes (R127) -/

/-- Reserved bits of KEY_SLOT_ZERO; what KEY_SLOT_WRITE refuses. -/
def keyZeroBad (c : Cmd) (_ : Dev) : Bool := decide (255 < (c.p 0).toNat)
def keyWriteBad (c : Cmd) (d : Dev) : Bool := decide (255 < (c.p 0).toNat) || d.keyBad (c.pf 0 0 8) c.params

/-- Reserved bits of SA_DECANT, SA_DELETE and SA_STATUS. -/
def saDecantBad (c : Cmd) (_ : Dev) : Bool :=
  decide (255 < (c.p 0).toNat ∨ Word.fld (c.p 1) 20 12 ≠ 0 ∨ 255 < (c.p 2).toNat)
def saDeleteBad (c : Cmd) (_ : Dev) : Bool := decide (255 < (c.p 0).toNat ∨ Word.fld (c.p 1) 20 12 ≠ 0)
def saStatusBad (c : Cmd) (_ : Dev) : Bool := decide (c.p 0 ≠ 0 ∨ Word.fld (c.p 1) 20 12 ≠ 0)

end Sys2Proof.Machine
end

