-- ==== Sys2Proof/Machine/Rings.lean ====
section
/-! DEFINITION. The commands of the rings: doorbells, their service, fetched entries, transmit items, moderation, the queue
opcodes (R192 to R215, R437, R551). -/

namespace Sys2Proof.Machine

/-! ## Doorbells (R149, R150, R203 to R205) -/

/-- A BAR access with Completer Abort (R149). -/
def Dev.badAccess (d : Dev) (f : Nat) : Dev := ((d.pceCount f 5 1).pceEvt f 0).aer f 6 |>.request f (.completerAbort f)

/-- A doorbell of a slice that is invalid: discarded, with its event and cork cause 5 (R204). -/
def Dev.doorbellBad (d : Dev) (s cq n : Nat) : Dev :=
  ((d.sqSet Reg.RNG_EVT_STATUS [4]).setN Reg.RNG_EVT_QUEUE (cq * 2 ^ 23 + s * 1024 + n)).cork s 5

/-- A service of an SQ asked for. -/
def Dev.askService (d : Dev) (q : Nat) : Dev :=
  if d.rng.pending.contains q then d else { d with rng := { d.rng with pending := d.rng.pending ++ [q] } }

/-- A valid SQ tail: recorded; an ANGLE_GATED SQ waits for its angle event (R205). -/
def Dev.tailDoorbell (d : Dev) (q v : Nat) : Dev :=
  let d := d.setFld (Reg.RNG_QSTATE0 0 q) 0 16 v
  if d.bit (Reg.RNG_QCFG2 0 q) 27 ∨ v = d.devIdx 0 q then d else d.askService q

/-- A valid CQ head: the spill moves up, the moderation delay is judged, ARM arms (R212, R215). -/
def Dev.headDoorbell (d : Dev) (q v : Nat) (arm : Bool) : Dev :=
  let d := d.setFld (Reg.RNG_QSTATE0 1 q) 0 16 v
  let d := if d.canIssue (d.home (d.qSlice 1 q)) then d.spillDrain q 65 else d
  let d := if arm then d.setBit (Reg.RNG_QSTATE1 1 q) 29 true else d
  (d.cqDelay q).showFull q

/-- One doorbell word of a slice (R203, R204). -/
def Dev.doorbell (d : Dev) (s : Nat) (w : Word) : Dev :=
  let n := Word.fld w 16 10
  let v := Word.fld w 0 16
  if Word.bit w 31 then
    match d.queue? 1 s n with
    | some q =>
      let head := d.hostIdx 1 q
      if d.qStopped 1 q then d
      else if Word.fld w 26 4 ≠ 0 ∨ fwd16 (d.devIdx 1 q) head < fwd16 v head then d.doorbellBad s 1 n
      else d.headDoorbell q v (Word.bit w 30)
    | none => d.doorbellBad s 1 n
  else
    match d.queue? 0 s n with
    | some q =>
      if d.qStopped 0 q then d
      else if Word.fld w 26 5 ≠ 0 ∨ 32768 ≤ fwd16 v (d.hostIdx 0 q) ∨ d.qSize 0 q < fwd16 v (d.devIdx 0 q) then d.doorbellBad s 0 n
      else d.tailDoorbell q v
    | none => d.doorbellBad s 0 n

/-- `DOORBELL_WRITE` (R203): a write of 4 or 8 bytes to BAR2 through a function. -/
def execDoorbellWrite (f : Fin 4) (addr size : Nat) (lo hi : Word) (s : State) : Host.Outcome State Fault Refusal :=
  act (fun d =>
    let n := addr / 4096
    if !(d.fn f.val).present ∨ 8192 ≤ n then d
    else if (size ≠ 4 ∧ size ≠ 8) ∨ addr % size ≠ 0 then d.badAccess f.val
    else if d.home n ≠ f.val then (d.pceCount f.val 2 1).pceEvt f.val 1
    else
      let d := (d.wakeLink (d.linkOf f.val)).doorbell n lo
      if size = 8 then d.doorbell n hi else d) s

/-- `ANGLE_DOORBELL` (R54, R205): the firing's ARG names the queue. -/
def execAngleDoorbell (slice : Fin 8192) (s : State) : Host.Outcome State Fault Refusal :=
  act (fun d => match d.takeFiring 4 slice.val with
    | none => d
    | some (f, d) =>
      match d.queue? 0 slice.val (Word.fld f.arg 0 10) with
      | none => (d.count (Reg.RNG_COUNTS 2) 1).sqSet Reg.RNG_EVT_STATUS [0]
      | some q =>
        if d.sliceState slice.val ≠ 1 then d.stat slice.val 6 1
        else
          let mark (d : Dev) : Dev := { d with rng := { d.rng with angled := q :: d.rng.angled.filter (· ≠ q) } }
          if d.bit (Reg.RNG_QCFG2 0 q) 27 then
            let d := { d with rng := { d.rng with gateTail := Map.put d.rng.gateTail q (d.hostIdx 0 q) } }
            if d.hostIdx 0 q = d.devIdx 0 q then d else mark (d.askService q)
          else if d.rng.pending.contains q then mark d else d) s

/-- `SQ_DOORBELL_SERVICE` (R205): offered at the slice-doorbell point under entry 7. -/
def execSqDoorbellService (q : Fin 131072) (s : State) : Host.Outcome State Fault Refusal :=
  act (fun d =>
    let sl := d.qSlice 0 q.val
    if d.rng.pending.contains q.val = false ∨ d.sliceState sl ≠ 1 ∨ d.qStopped 0 q.val = true then d
    else
      let (ok, d) := d.offer .doorbell q.val (d.sqClass q.val) (d.unitCost 7 0) (some sl) (d.rng.angled.contains q.val)
      if ok then
        let tail := if d.bit (Reg.RNG_QCFG2 0 q.val) 27 then Map.getD d.rng.gateTail q.val (d.devIdx 0 q.val) else d.hostIdx 0 q.val
        { d with rng := { d.rng with
          pending := d.rng.pending.filter (· ≠ q.val), angled := d.rng.angled.filter (· ≠ q.val),
          fetchTo := Map.put d.rng.fetchTo q.val tail } }
      else d) s

/-! ## Fetched entries (R197 to R202, R209 to R211) -/

/-- The next entry of an SQ may be fetched: served, slice ACTIVE, queue trusted, room for its completion, requests possible,
the function's items within its held store. -/
def Dev.fetchable (d : Dev) (q : Nat) : Bool :=
  let s := d.qSlice 0 q
  decide (d.sliceState s = 1) && !d.qStopped 0 q && d.canIssue (d.home s) &&
  (match Map.get? d.rng.fetchTo q with
   | some t => decide (t ≠ d.devIdx 0 q)
   | none => false) &&
  (match d.boundCq q with
   | some cq => decide (1 ≤ d.room cq) && !d.qStopped 1 cq
   | none => false) &&
  decide (Map.count d.rng.items (fun _ i => decide (d.home i.slice = d.home s)) < 16384)

/-- An entry consumed: the head moves past it and room is reserved; its ring index. -/
def Dev.consume (d : Dev) (q : Nat) : Nat × Dev :=
  let i := d.devIdx 0 q
  let d := d.setFld (Reg.RNG_QSTATE0 0 q) 16 16 (i + 1)
  (i, match d.boundCq q with
    | some cq => d.reserveCq cq
    | none => d)

/-- Fragments of entry words: address and length. -/
def fragsOf (ws : List Word) : Nat → List (Nat × Nat)
  | 0 => []
  | n + 1 => (cat64 (wordAt ws 0) (wordAt ws 1), Word.fld (wordAt ws 2) 0 24) :: fragsOf (ws.drop 4) n

/-- A reserved bit of a fragment entry is set. -/
def fragsBad (ws : List Word) : Nat → Bool
  | 0 => false
  | n + 1 => decide (Word.fld (wordAt ws 2) 24 8 ≠ 0 ∨ wordAt ws 3 ≠ 0) || fragsBad (ws.drop 4) n

/-- Row 6 of R209: reserved bits, and the fields that R198 requires to be 0. -/
def entryReserved (e : List Word) : Bool :=
  let w (i : Nat) : Word := wordAt e i
  let op := Word.fld (w 0) 28 4
  let ind := Word.bit (w 0) 26
  let n := Word.fld (w 0) 12 9
  let zero (l : List Word) : Bool := l.all (fun x => decide (x = 0))
  let frag := if ind then !zero (e.drop 8) else !zero [w 6, w 7] || (decide (n = 1) && !zero (e.drop 12))
  decide (Word.fld (w 0) 21 2 ≠ 0 ∨ Word.fld (w 0) 0 12 ≠ 0 ∨ Word.fld (w 4) 0 8 ≠ 0 ∨ Word.fld (w 5) 20 11 ≠ 0) ||
  (match op with
   | 1 => frag || (!Word.bit (w 0) 23 && !zero [w 4]) || (!Word.bit (w 5) 31 && decide (Word.fld (w 5) 0 20 ≠ 0))
   | 2 => frag || decide (Word.fld (w 0) 23 3 ≠ 0 ∨ Word.bit (w 0) 27 = true) || !zero [w 4, w 5]
   | _ => decide (Word.fld (w 0) 0 28 ≠ 0) || !zero (w 1 :: e.drop 4))

/-- Rows 9 and 10: the SA of an entry. -/
def Dev.entrySa (d : Dev) (s : Nat) (i : Nat) : Option (Nat × Nat) :=
  match d.sa? i with
  | none => some (0x12, 0)
  | some a =>
    if a.slice ≠ s then some (0x13, 6)
    else if a.state = 3 then some (0x40, 0)
    else if a.state ≠ 1 then some (0x12, 0)
    else none

/-- The first check of R209 that an entry fails: status and cork cause. `table` and `code` are what the read of its fragment
table gave. -/
def Dev.entryFault (d : Dev) (q : Nat) (e table : List Word) (code : Nat) : Option (Nat × Nat) :=
  let w (i : Nat) : Word := wordAt e i
  let op := Word.fld (w 0) 28 4
  let n := Word.fld (w 0) 12 9
  let ind := Word.bit (w 0) 26
  let tso := Word.bit (w 0) 23
  let total := (w 1).toNat
  let mss := Word.fld (w 4) 16 16
  let hdr := Word.fld (w 4) 8 8
  let tab := if ind then table else e.drop 8
  if op = 0 ∨ 3 < op then some (0x10, 4)
  else if op = 3 then (if entryReserved e then some (0x10, 0) else none)
  else if (op = 2 ∧ d.qType 0 q ≠ 1) ∨ (op = 1 ∧ d.qType 0 q ≠ 0) then some (0x10, 4)
  else if n = 0 ∨ (!ind ∧ 2 < n) ∨ (ind ∧ 256 < n) then some (0x10, 4)
  else if ind ∧ (w 6).toNat % 16 ≠ 0 then some (0x10, 4)
  else if total = 0 then some (0x01, 0)
  else if entryReserved e then some (0x10, 0)
  else if op = 1 ∧ (total < 14 ∨ (tso ∧ (mss < 64 ∨ hdr < 14 ∨ total ≤ hdr ∨ 262144 < total))) then some (0x10, 0)
  else if op = 1 ∧ tso = false ∧ d.fld Reg.MAC_TX_CTRL 0 14 < total + 4 then some (0x11, 0)
  else
    let sa := if op = 1 ∧ Word.bit (w 5) 31 = true then d.entrySa (d.qSlice 0 q) (Word.fld (w 5) 0 20) else none
    match sa with
    | some r => some r
    | none =>
      if ind ∧ code ≠ 0 then some (code, if code = 0x24 then 7 else 0)
      else if fragsBad tab n ∨ fragBytes (fragsOf tab n) ≠ total then some (0x10, 0)
      else none

/-- KIND of the completion of an entry: NOP, else by the SQ's type (R206, R210). -/
def Dev.entryKind (d : Dev) (q : Nat) (e : List Word) : Nat := if Word.fld (wordAt e 0) 28 4 = 3 then 4 else d.qType 0 q

/-- The payload read of an item issued, or held for a page request (R151). -/
def Dev.readPayload (d : Dev) (id : Nat) (i : Item) (fault : Option Nat) : Dev :=
  let f := d.home i.slice
  match fault with
  | some a =>
    let a := a / 4096 * 4096
    ({ d.setItem id (fun i => { i with phase := .paging a }) with
      pce := { d.pce with pageReqs := (i.slice, a) :: d.pce.pageReqs.filter (· ≠ (i.slice, a)) } } : Dev).request f
      (.pageRequest f i.slice a)
  | none => (d.issueRead f (some i.slice) (.payload id) ((i.frags.headD (0, 0)).1) (fragBytes i.frags)).getD d

/-- An address of the item whose translation the device does not hold, on a slice that uses ATS. -/
def Dev.pageFault (d : Dev) (s : Nat) (fault : Option Nat) : Option Nat :=
  fault.filter (fun a => d.bit (Reg.SLC_SLICE_STATUS s 0) 24 && !d.pce.atc.contains (s, a / 4096 * 4096))

/-- An entry fetched (R209 to R211). -/
def Dev.fetchEntry (d : Dev) (q : Nat) (e table : List Word) (code : Nat) (fault : Option Nat) : Dev :=
  let s := d.qSlice 0 q
  let op := Word.fld (wordAt e 0) 28 4
  let bad := d.entryFault q e table code
  let id := d.rng.nextItem
  if bad.isNone && decide (op = 1) && (d.freeTag (d.linkOf (d.home s))).isNone then d
  else
    let tab := if Word.bit (wordAt e 0) 26 then table else e.drop 8
    let (idx, d) := d.consume q
    let it : Item := ⟨q, s, idx, e, fragsOf tab (Word.fld (wordAt e 0) 12 9), .reading, [], 0, d.entryKind q e, 0, none, none, 0, 0, none⟩
    let d := { d with rng := { d.rng with nextItem := id + 1, items := Map.put d.rng.items id it } }
    match bad with
    | some (st, cause) =>
      let d := d.when (decide (st = 0x10)) (fun d => (d.count (Reg.RNG_COUNTS 3) 1).rngEvt 3 0 q)
      let d := d.when (decide (cause ≠ 0)) (fun d => d.cork s cause)
      d.endItem id st
    | none =>
      match op with
      | 1 => d.readPayload id it (d.pageFault s fault)
      | 2 => d.setItem id (fun i => { i with phase := .posted })
      | _ => d.endItem id 0

/-- `SQ_ENTRY_FETCH` (R211): the entry, the words of its fragment table, how the table's read ended, and the address whose
page fault the host reported for its payload. -/
def execSqEntryFetch (q : Fin 131072) (entry table : List Word) (code : Fin 256) (fault : Option Nat) (s : State) :
    Host.Outcome State Fault Refusal :=
  act (fun d => if d.fetchable q.val && (d.nvqOf q.val).isNone then d.fetchEntry q.val entry table code.val fault else d) s

/-! ## Transmit items (R200, R437) -/

/-- The published stream an SQ feeds (R436). -/
def Dev.feedOf (d : Dev) (q : Nat) : Option Nat :=
  d.pubLive.find? (fun i => decide (d.fld (Reg.PBU_PUB i 0) 0 13 = d.qSlice 0 q ∧ d.fld (Reg.PBU_PUB i 1) 0 10 = d.qNum 0 q))

/-- One complete allData element. -/
def oneAllData (bs : List Byte) : Bool :=
  match tlv bs with
  | some (0xAB, _, []) => true
  | _ => false

/-- A state change of a published stream: the next stNum, sqNum 0, the time, the element; the frame is sent at once; `none`
where the frame would pass the port's limit (R437). -/
def Dev.stateChange (d : Dev) (i : Nat) (bs : List Byte) : Option Dev :=
  let t := d.utcTime
  let d := d.setGpub i (fun p => { p with
    data := bs, t := t, st := if p.st = 0xFFFFFFFF then 1 else p.st + 1, sq := 0, fast := 0, since := d.now })
  match d.pubFrame i with
  | some f => if clampNat 64 9216 (d.fld (Reg.MAC_PORTp_CTRL (d.pubPort i)) 0 14) < f.length + 4 then none else some (d.pubSend i false)
  | none => some d

/-- The port group that carries a slice's host frames. -/
def hostPg (s : Nat) : Nat := if Config.hostGroup s then 1 else 0

/-- A transmit item's bytes written into the Cellar as one frame (R200). -/
def Dev.txFrame (d : Dev) (id : Nat) (i : Item) : Dev :=
  let w (j : Nat) : Word := wordAt i.entry j
  let (cell, d) := d.freeNat
  let f := Frame.new (d.pipeOf (hostPg i.slice)) 16 (d.sqClass i.dq) .offload i.bytes cell d.time d.now
  let f := ((f.mset 4 0 13 i.slice).mset 4 24 8 (d.incarnation i.slice)).msetBit 4 23 true
  let ts := Word.bit (w 0) 27
  let f := { f with offload := [w 0, w 4], esp := if Word.bit (w 5) 31 then some (Word.fld (w 5) 0 20) else none,
                    item := if ts then some id else none }
  let (fid, d) := d.newFrame f
  let d := (d.stat i.slice 2 1).stat i.slice 3 i.bytes.length
  let d := d.setItem id (fun i => { i with count := i.bytes.length })
  if ts then d.setItem id (fun i => { i with phase := .stamping, frame := some fid, bytes := [] }) else d.endItem id 0

/-- A loaded transmit item ends: a feed SQ's element is taken by the process bus, any other becomes a frame. -/
def Dev.txComplete (d : Dev) (id : Nat) (i : Item) : Dev :=
  match d.feedOf i.dq with
  | some p =>
    if oneAllData i.bytes then
      match d.stateChange p i.bytes with
      | some d => (d.setItem id (fun i => { i with count := i.bytes.length })).endItem id 0
      | none => d.endItem id 0x11
    else ((d.count (Reg.RNG_COUNTS 3) 1).rngEvt 3 0 i.dq).endItem id 0x10
  | none => d.txFrame id i

/-- `TX_ITEM_COMPLETE` (R200): an item of a failed port group ends FAULTED (R482). -/
def execTxItemComplete (i : Nat) (s : State) : Host.Outcome State Fault Refusal :=
  act (fun d => match Map.get? d.rng.items i with
    | some t => if t.phase = .loaded ∧ t.kind = 0 then
        (if d.flt.failed.contains (hostPg t.slice) && (d.feedOf t.dq).isNone then d.endItem i 0x40 else d.txComplete i t)
      else d
    | none => d) s

/-- `TX_TIMESTAMP_TAKEN` (R200, R408): the frame's first bit leaves. -/
def execTxTimestampTaken (f : Nat) (s : State) : Host.Outcome State Fault Refusal :=
  act (fun d => match d.frame? f with
    | some g =>
      (match g.place, g.item with
       | .sending p, some id =>
         let t := ((d.time : Int) + (BitVec.ofNat 16 (d.fld (Reg.MAC_PORTp_TS_ADJ p) 0 16)).toInt).toNat
         ((d.putFrame f { g with item := none }).setItem id (fun i => { i with stamp := some t })).endItem id 0
       | _, _ => d)
    | none => d) s

/-- `CQ_MODERATION_EXPIRY` (R215). -/
def execCqModerationExpiry (q : Fin 131072) (s : State) : Host.Outcome State Fault Refusal :=
  act (fun d => if (Map.get? d.rng.delay q.val).isSome then d.cqInterrupt q.val else d) s

/-! ## The queue opcodes (R193 to R196, R551) -/

/-- The numbers of a kind in use in a slice. -/
def Dev.sliceQueues (d : Dev) (cq s : Nat) : List Nat :=
  d.rng.qmap.filterMap (fun p => if p.1 / 1024 = cq * 8192 + s then some (p.1 % 1024) else none)

/-- An interrupt selector that a slice may use (R155, R194). -/
def Dev.vectorOk (d : Dev) (s v : Nat) : Bool :=
  if v.testBit 17 then
    let w := d.reg (Reg.PCE_IMS_ENTRY (v % 2 ^ 17) 3)
    Word.bit w 31 && decide (Word.fld w 27 2 = d.home s ∧ Word.fld w 0 13 = s)
  else decide (v % 2 ^ 17 < 2048)

/-- A deterministic queue by its CLASS. -/
def Dev.bindOk (d : Dev) (s cls bound : Nat) : Bool :=
  match d.queue? 1 s bound with
  | some cq => d.cqDet cq == decide (cls = 3)
  | none => false

/-- What R194 refuses of the words of a queue, from word 1 of R193 on. -/
def Dev.queueBad (d : Dev) (s : Nat) (ws : List Word) : Bool :=
  let w (i : Nat) : Word := wordAt ws i
  let type := Word.fld (w 0) 30 2
  let cls := Word.fld (w 0) 28 2
  let size := Word.fld (w 0) 0 16
  let entry := if type = 2 then 32 else 64
  decide (Word.fld (w 0) 16 11 ≠ 0 ∨ Word.fld (w 3) 10 22 ≠ 0 ∨ Word.fld (w 4) 18 14 ≠ 0 ∨ Word.fld (w 5) 12 20 ≠ 0 ∨ type = 3) ||
  !((List.range 12).any (fun k => decide (size = 2 ^ (k + 4)))) || decide (cat64 (w 1) (w 2) % (size * entry) ≠ 0) ||
  (decide (cls = 3) && !d.bit (Reg.SLC_SLICE_STATUS s 0) 23) ||
  (if type = 2 then Word.bit (w 0) 27 || !d.vectorOk s (Word.fld (w 4) 0 18) else !d.bindOk s cls (Word.fld (w 3) 0 10))

/-- The four configuration words of a queue. -/
def queueCfg (ws : List Word) : List Word :=
  let w (i : Nat) : Word := wordAt ws i
  [w 1, w 2, wd (Word.fld (w 0) 27 5 * 2 ^ 27 + Word.fld (w 3) 0 10 * 65536 + Word.fld (w 0) 0 16),
    wd (Word.fld (w 5) 0 12 * 2 ^ 20 + Word.fld (w 4) 0 18)]

/-- 0x0200 (R193). -/
def runQueueCreate (c : Cmd) (d : Dev) : Dev × Option Res :=
  let s := c.slice
  let ws := c.params.drop 1
  if d.queueBad s ws then (d, some (Res.st stBadParam))
  else
    let cq := if Word.fld (wordAt ws 0) 30 2 = 2 then 1 else 0
    match lowestFree (d.sliceQueues cq s) (d.fld (Reg.SLC_SLICE_STATUS s 1) 0 11) with
    | none => (d, some (Res.st stNoResource))
    | some n =>
      match d.makeQueue cq s n (queueCfg ws) with
      | some (q, d) => (d, some (Res.ok [wd n, wd q]))
      | none => (d, some (Res.st stNoResource))

/-- `QUEUE_CREATE`. -/
def execQueueCreate (m : Fin 16) (tag : Fin 4096) (gen : Fin 16) (s : State) : Host.Outcome State Fault Refusal :=
  opStep 0x0200 runQueueCreate m.val tag.val gen.val s

/-- The queue that QUEUE_DESTROY and QUEUE_STATUS name: kind and device number (R551). -/
def Dev.namedQueue (d : Dev) (c : Cmd) : Option (Nat × Nat) :=
  let type := c.pf 1 30 2
  let cq := if type = 2 then 1 else 0
  (d.queue? cq c.slice (c.pf 1 0 10)).bind (fun q => if type < 3 ∧ (cq = 1 ∨ d.qType 0 q = type) then some (cq, q) else none)

/-- An NVQ's queue, which is of no type of R193. -/
def Dev.ofNvq (d : Dev) (s n : Nat) : Bool := d.sto.conns.any (fun c => !c.2.target && decide (c.2.slice = s ∧ c.2.queue = n))

/-- 0x0201 (R196). -/
def runQueueDestroy (c : Cmd) (d : Dev) : Dev × Option Res :=
  match d.namedQueue c with
  | none => (d, some (Res.st stBadParam))
  | some (cq, q) =>
    if d.sliceState c.slice ≠ 4 then (d, some (Res.st stNotQuiesced))
    else if (cq = 1 ∧ d.boundSqs q ≠ []) ∨ d.ofNvq c.slice (c.pf 1 0 10) = true then (d, some (Res.st stBadParam))
    else (d.freeQueue cq c.slice (c.pf 1 0 10), some (Res.ok []))

/-- `QUEUE_DESTROY`. -/
def execQueueDestroy (m : Fin 16) (tag : Fin 4096) (gen : Fin 16) (s : State) : Host.Outcome State Fault Refusal :=
  opStep 0x0201 runQueueDestroy m.val tag.val gen.val s

/-- The four state words of a queue. -/
def Dev.queueWords (d : Dev) (cq q : Nat) : List Word :=
  [d.reg (Reg.RNG_QSTATE0 cq q), d.reg (Reg.RNG_QSTATE1 cq q), d.reg (Reg.RNG_QSTATE2 cq q), d.reg (Reg.RNG_QSTATE3 cq q)]

/-- 0x0202 (R551); a stopped queue replies FAULTED (R477). -/
def runQueueStatus (c : Cmd) (d : Dev) : Dev × Option Res :=
  match d.namedQueue c with
  | none => (d, some (Res.st stBadParam))
  | some (cq, q) =>
    if d.qStopped cq q then (d, some (Res.st stFaulted))
    else (d, some (Res.ok (d.queueWords cq q)))

/-- `QUEUE_STATUS`. -/
def execQueueStatus (m : Fin 16) (tag : Fin 4096) (gen : Fin 16) (s : State) : Host.Outcome State Fault Refusal :=
  opStep 0x0202 runQueueStatus m.val tag.val gen.val s

/-! ## Checks of the opcodes (R127) -/

/-- Reserved bits and named queue of QUEUE_DESTROY and QUEUE_STATUS; QUEUE_CREATE's words. -/
def queueCreateBad (c : Cmd) (d : Dev) : Bool := decide (255 < (c.p 0).toNat) || d.queueBad c.slice (c.params.drop 1)
def queueNameBad (c : Cmd) (d : Dev) : Bool :=
  decide (255 < (c.p 0).toNat ∨ Word.fld (c.p 1) 10 20 ≠ 0) || (d.namedQueue c).isNone

end Sys2Proof.Machine
end

