-- ==== Sys2Proof/Machine/Dma.lean ====
section
/-! DEFINITION. The commands of the DMA engine: kicks, descriptors, chunks, write-backs, DMA_CHANNEL_SET and STOP
(R216 to R226). -/

namespace Sys2Proof.Machine

/-! ## Kicks and disables (R218, R222) -/

/-- `DMA_KICK_WRITE` (R218). -/
def execDmaKickWrite (c : Fin 64) (s : State) : Host.Outcome State Fault Refusal := act (fun d => d.kick c.val) s

/-- `ANGLE_DMA_KICK` (R54, R66, R218). -/
def execAngleDmaKick (c : Fin 64) (s : State) : Host.Outcome State Fault Refusal :=
  act (fun d => match d.takeFiring 5 c.val with
    | some (_, d) =>
      { d.kick c.val with dma := { (d.kick c.val).dma with angleKicks := c.val :: d.dma.angleKicks.filter (· ≠ c.val) } }
    | none => d) s

/-- The reply of DMA_CHANNEL_STOP (R223): state and head; with a descriptor ended during the stop, its index, status and
bytes. -/
def Dev.stopWords (d : Dev) (c : Nat) (ended : Bool) : List Word :=
  let w0 := wd (d.chState c * 2 ^ 29 + (if ended then 65536 else 0) + d.fld (Reg.DMA_CHc_STATE c) 0 16)
  [w0, if ended then d.reg (Reg.DMA_CHc_LAST c) else 0, if ended then d.reg (Reg.DMA_CHc_LAST_DONE c) else 0]

/-- The DMA_CHANNEL_STOP commands that wait for a channel's boundary reply, with the descriptor that ended there. -/
def Dev.stopReplies (d : Dev) (c : Nat) : Dev :=
  (d.cmd.cmds.filter (fun x => decide (x.opcode = 0x0204 ∧ x.phase = .started ∧ x.pf 0 0 6 = c))).foldl
    (fun d x => d.finish x.master x.tag x.gen (Res.ok (d.stopWords c true))) d

/-- A channel disabled by software, with the commands that waited for its stop (R222). -/
def Dev.chDisableNow (d : Dev) (c status : Nat) : Dev :=
  let ran := (Map.get? d.dma.run c).isSome
  let d := d.chDisable c status
  if ran then d.stopReplies c else d

/-- `DMA_DISABLE_WRITE` (R222): bit 0 disables. -/
def execDmaDisableWrite (c : Fin 64) (v : Word) (s : State) : Host.Outcome State Fault Refusal :=
  act (fun d => if Word.bit v 0 then d.chDisableNow c.val 0x41 else d) s

/-! ## Descriptors (R217 to R220) -/

/-- The address pieces of bytes [off, off + n) of a fragment list. -/
def spanOf : List (Nat × Nat) → Nat → Nat → List (Nat × Nat)
  | [], _, _ => []
  | (a, l) :: fs, off, n =>
    if l ≤ off then spanOf fs (off - l) n
    else
      let k := Nat.min n (l - off)
      if k = 0 then [] else (a + off, k) :: spanOf fs 0 (n - k)

/-- A slice channel. -/
def Dev.chOfSlice (d : Dev) (c : Nat) : Bool := (d.chSlice c).isSome

/-- The fragments of one side of a descriptor: one range, or its table. -/
def sideFrags (table : Bool) (addr len count : Nat) (ws : List Word) : List (Nat × Nat) :=
  if table then fragsOf ws count else [(addr, len)]

/-- A side of a descriptor that R219 calls malformed. -/
def sideBad (table : Bool) (space addr len count : Nat) (ws : List Word) (slice : Bool) : Bool :=
  decide (2 ≤ space ∨ (slice = true ∧ space = 1)) ||
  (if table then decide (count = 0 ∨ 256 < count ∨ addr % 16 ≠ 0) || fragsBad ws count || decide (fragBytes (fragsOf ws count) ≠ len)
   else decide (count ≠ 0)) ||
  (decide (space = 1) && (sideFrags table addr len count ws).any (fun f => decide (hbmEnd < f.1 + f.2)))

/-- The words of a table: read from HBM where its side lies there. -/
def Dev.tableWords (d : Dev) (space addr count : Nat) (ws : List Word) : List Word :=
  if space = 1 then wordsOf (4 * count) (d.hbmBytes addr (16 * count)) else ws

/-- A descriptor read: malformed, or its two sides. -/
def Dev.descSides (d : Dev) (c : Nat) (w src dst : List Word) : Option (List (Nat × Nat) × List (Nat × Nat)) :=
  let g (i : Nat) : Word := wordAt w i
  let len := (g 1).toNat
  let (sa, da) := (cat64 (g 2) (g 3), cat64 (g 4) (g 5))
  let (ss, ds) := (Word.fld (g 0) 24 2, Word.fld (g 0) 22 2)
  let (sc, dc) := (Word.fld (g 6) 0 9, Word.fld (g 6) 16 9)
  let (st, dt) := (Word.bit (g 0) 27, Word.bit (g 0) 26)
  let sw := d.tableWords ss sa sc src
  let dw := d.tableWords ds da dc dst
  if Word.fld (g 0) 8 14 ≠ 0 ∨ Word.fld (g 6) 25 7 ≠ 0 ∨ Word.fld (g 6) 9 7 ≠ 0 then none
  else if sideBad st ss sa len sc sw (d.chOfSlice c) || sideBad dt ds da len dc dw (d.chOfSlice c) then none
  else some (sideFrags st sa len sc sw, sideFrags dt da len dc dw)

/-- After a write-back (R218, R219, R221, R224): a stopping channel is STOPPED, a failed one in ERROR; a pending hand-over
takes place; in run mode, or with a kick remembered, the channel asks to start again. -/
def Dev.afterDesc (d : Dev) (c : Nat) (failed : Bool) : Dev :=
  let stopping := decide (d.chState c = 2)
  let d := if stopping then ((d.setChState c 3).chEvent c [2]).stopReplies c
    else if failed then (d.setChState c 4).chEvent c [3] else d.setChState c 0
  let d := if d.chPending c then d.chHandover c else d
  let again := d.dma.remembered.contains c
  let d := { d with dma := { d.dma with remembered := d.dma.remembered.filter (· ≠ c) } }
  if d.chState c = 0 ∧ failed = false ∧ (again = true ∨ d.bit (Reg.DMA_CHc_CTRL c) 30 = false) then d.kick c
  else if again then d.kick c else d

/-- A descriptor's end: its write-back, its event, its vector (R218). -/
def Dev.finishDesc (d : Dev) (c status : Nat) : Dev :=
  let irq := match Map.get? d.dma.run c with
    | some r => Word.bit (wordAt r.words 0) 30
    | none => false
  let f := d.chFn c
  let sel := d.fld (Reg.DMA_CHc_IRQ c) 0 18
  let d := (d.endDesc c status).chEvent c [0]
  let d := if irq then d.raiseSel f sel else d
  d.afterDesc c (decide (status ≠ 0))

/-- `DMA_DESCRIPTOR_START` (R218): the words of the descriptor at the head and of its tables, as host memory gave them, and
how their reads ended. A ring in HBM is read there. -/
def execDmaDescriptorStart (c : Fin 64) (words src dst : List Word) (code : Fin 256) (s : State) :
    Host.Outcome State Fault Refusal :=
  act (fun d =>
    let k := c.val
    let hbm := d.bit (Reg.DMA_CHc_CTRL k) 25
    if d.dma.kicked.contains k = false ∨ (d.chState k ≠ 0 ∧ d.chState k ≠ 4) ∨ (hbm = false ∧ d.canIssue (d.chFn k) = false) then d
    else match d.offer .dma k (d.chClass k) 0 (d.chSlice k) (d.dma.angleKicks.contains k) with
    | (false, d) => d
    | (true, d) =>
      let d := { d with dma := { d.dma with
        kicked := d.dma.kicked.filter (· ≠ k), angleKicks := d.dma.angleKicks.filter (· ≠ k) } }
      let head := d.fld (Reg.DMA_CHc_STATE k) 0 16
      let w := if hbm then wordsOf 8 (d.hbmBytes (d.descAddr k head) 32) else words.take 8
      let run (sf df : List (Nat × Nat)) : Dev :=
        ({ d with dma := { d.dma with run := Map.put d.dma.run k ⟨head, w, sf, df, 0⟩ } } : Dev).setChState k 1
      if !Word.bit (wordAt w 0) 31 then d.setChState k 0
      else match d.descSides k w src dst with
        | none => (run [] []).finishDesc k 0x10
        | some (sf, df) =>
          if (wordAt w 1).toNat = 0 then (run [] []).finishDesc k 0
          else if code.val ≠ 0 then (run [] []).finishDesc k code.val
          else run sf df) s

/-- A chunk read and written (R220): the next 4 KiB at most; a host source gives `bytes`, or ends in an error. -/
def Dev.chunk (d : Dev) (c : Nat) (r : Desc) (bytes : List Byte) (code : Nat) : Dev :=
  let w0 := wordAt r.words 0
  let n := Nat.min 4096 ((wordAt r.words 1).toNat - r.done)
  let own := d.chSlice c
  let d := d.charge (d.offeredClass (d.chClass c) own) (d.unitCost 5 n) own
  if code ≠ 0 then d.finishDesc c code
  else
    let bs := if Word.fld w0 24 2 = 1 then (spanOf r.src r.done n).flatMap (fun p => d.hbmBytes p.1 p.2) else bytes.take n
    let (d, _) := (spanOf r.dst r.done n).foldl (fun (st : Dev × List Byte) p =>
      (if Word.fld w0 22 2 = 1 then st.1.setHbmBytes p.1 (st.2.take p.2) else st.1.chBytes c p.1 (st.2.take p.2), st.2.drop p.2)) (d, bs)
    { d with dma := { d.dma with run := Map.put d.dma.run c { r with done := r.done + n } } }

/-- `DMA_CHUNK` (R220). -/
def execDmaChunk (c : Fin 64) (bytes : List Byte) (code : Fin 256) (s : State) : Host.Outcome State Fault Refusal :=
  act (fun d => match Map.get? d.dma.run c.val with
    | some r =>
      let left := (wordAt r.words 1).toNat - r.done
      let w0 := wordAt r.words 0
      let host := decide (Word.fld w0 24 2 = 0)
      if left = 0 ∨ ((host || decide (Word.fld w0 22 2 = 0)) = true ∧ d.canIssue (d.chFn c.val) = false) ∨
        (host = true ∧ code.val = 0 ∧ bytes.length < Nat.min 4096 left) then d
      else d.chunk c.val r bytes (if host then code.val else 0)
    | none => d) s

/-- `DMA_WRITEBACK` (R218): every byte has moved. -/
def execDmaWriteback (c : Fin 64) (s : State) : Host.Outcome State Fault Refusal :=
  act (fun d => match Map.get? d.dma.run c.val with
    | some r => if r.done = (wordAt r.words 1).toNat then d.finishDesc c.val 0 else d
    | none => d) s

/-! ## The channel opcodes (R216, R221 to R223) -/

/-- The group of the DMA engine. -/
def groupDma : Nat := 2 ^ 4

/-- OWNER of a channel as staged. -/
def Dev.ownerStaged (d : Dev) (c : Nat) : Word := d.staged (Reg.DMA_CHc_OWNER c)

/-- A channel that management has set up. -/
def Dev.chManaged (d : Dev) (c : Nat) : Bool :=
  !Word.bit (d.ownerStaged c) 31 && decide (Word.fld (d.staged (Reg.DMA_CHc_CTRL c)) 0 16 ≠ 0)

/-- What DMA_CHANNEL_SET refuses with BAD_PARAM (R216). -/
def chanSetBad (c : Cmd) (d : Dev) : Bool :=
  let ch := c.pf 1 0 6
  let size := (c.p 4).toNat
  let own := d.ownerStaged ch
  decide (255 < (c.p 0).toNat ∨ 63 < (c.p 1).toNat ∨ Word.fld (c.p 5) 16 7 ≠ 0 ∨ Word.fld (c.p 6) 18 14 ≠ 0) || !chSizeOk size ||
  decide (cat64 (c.p 2) (c.p 3) % (size * 32) ≠ 0 ∨ c.pf 5 26 2 = 3) ||
  (Word.bit own 31 && decide (own ≠ ownerWord c)) ||
  (match c.slice? with
   | some s => d.chManaged ch || decide (c.pf 5 23 2 ≠ d.home s ∨ c.pf 5 25 1 = 1 ∨ c.pf 5 26 2 = 0)
   | none => decide ((c.p 0).toNat ≠ 0))

/-- 0x0203 (R216): stages the channel's five registers and strobes group 4; a new slice channel takes a unit of pool 2. -/
def runDmaChannelSet (c : Cmd) (d : Dev) : Dev × Option Res :=
  let ch := c.pf 1 0 6
  if chanSetBad c d then (d, some (Res.st stBadParam))
  else
    let fresh := c.slice?.filter (fun _ => !Word.bit (d.ownerStaged ch) 31)
    if (match fresh with
        | some s => !d.poolRoom s 2 1
        | none => false) then (d, some (Res.st stNoResource))
    else
      let d := match fresh with
        | some s => d.poolTake s 2 1
        | none => d
      d.stageStrobe c groupDma [(Reg.DMA_CHc_BASE_LO ch, c.p 2), (Reg.DMA_CHc_BASE_LO ch + 4, c.p 3),
        (Reg.DMA_CHc_CTRL ch, Word.setFld (c.p 5) 0 16 (c.pf 4 0 16)), (Reg.DMA_CHc_IRQ ch, c.p 6),
        (Reg.DMA_CHc_OWNER ch, ownerWord c)] (Res.ok [])

/-- `DMA_CHANNEL_SET`. -/
def execDmaChannelSet (m : Fin 16) (tag : Fin 4096) (gen : Fin 16) (s : State) : Host.Outcome State Fault Refusal :=
  opStep 0x0203 runDmaChannelSet m.val tag.val gen.val s

/-- 0x0204 (R221 to R223): word 0 the channel, word 1 bit 0 the disable mode, word 2 the timeout code. -/
def runDmaChannelStop (c : Cmd) (d : Dev) : Dev × Option Res :=
  let ch := c.pf 0 0 6
  let ran := (Map.get? d.dma.run ch).isSome
  if c.pf 1 0 1 = 1 then
    let d := d.chDisable ch 0x41
    (d, some (Res.ok (d.stopWords ch ran)))
  else
    let d := if d.chState ch = 2 then d else d.gracefulStop ch
    if d.chState ch = 2 then (d, none) else (d, some (Res.ok (d.stopWords ch false)))

/-- `DMA_CHANNEL_STOP`. -/
def execDmaChannelStop (m : Fin 16) (tag : Fin 4096) (gen : Fin 16) (s : State) : Host.Outcome State Fault Refusal :=
  opStep 0x0204 runDmaChannelStop m.val tag.val gen.val s

/-- Reserved bits of DMA_CHANNEL_STOP. -/
def chanStopBad (c : Cmd) (_ : Dev) : Bool := decide (63 < (c.p 0).toNat ∨ 1 < (c.p 1).toNat ∨ 255 < (c.p 2).toNat)

end Sys2Proof.Machine
end

