-- ==== Sys2Proof/Machine/Pcie.lean ====
section
/-! DEFINITION. The commands of the host endpoints: links, bus mastering, resets, completions, timeouts, page requests, the
message store, MSI-X, link power (R144 to R168). -/

namespace Sys2Proof.Machine

/-- The endpoints' PHYs are up: no reset held, stage 1 reached (R497, R499). -/
def Dev.phyOn (d : Dev) : Bool := !d.pins.rstLow && decide (1 ≤ d.stage?)

/-- A command that acts once the PHYs are up. -/
def actPhy (f : Dev → Dev) (s : State) : Host.Outcome State Fault Refusal :=
  actAlways (fun d => if d.phyOn then f d else d) s

/-! ## Work in flight on a function that stops (R160, R165, R166) -/

/-- An item whose payload is unread. -/
def phaseUnread : ItemPhase → Bool
  | .reading => true
  | .paging _ => true
  | _ => false

/-- Items of a function's slices some of whose host transfers have not left: payload unread, or a receive buffer that
coalescing holds. -/
def Dev.unmovedItems (d : Dev) (f : Nat) : List Nat :=
  Map.keys (Map.sift d.rng.items (fun _ i =>
    decide (d.home i.slice = f) && (phaseUnread i.phase || decide (i.phase = .loaded ∧ d.qType 0 i.dq = 1))))

/-- Those items fail with a status; a coalescing context goes with its buffer. -/
def Dev.failUnmoved (d : Dev) (f status : Nat) : Dev :=
  let ids := d.unmovedItems f
  let d := { d with mac := { d.mac with lro := d.mac.lro.filter (fun c => !ids.contains c.item) } }
  ids.foldl (fun d i => d.endItem i status) d

/-- The NVMe reads of a connection fail on their host transfer (R160, R371). -/
def Dev.failReads (d : Dev) (k status : Nat) : Dev :=
  match d.conn? k with
  | none => d
  | some c =>
    (c.cmds.filter (fun p => decide (Word.fld (wordAt p.2.entry 0) 0 8 = 2) && !p.2.done)).foldl (fun d p =>
      (d.dropUnits k (some p.1)).failCmd k p.1 1 status (nvmeStatus 0 0x04 false) (p.2.sent && p.2.resp.isNone)) d

/-- Connections whose NVQ's slice is homed on a function. -/
def Dev.homedNvqs (d : Dev) (f : Nat) : List Nat :=
  Map.keys (Map.sift d.sto.conns (fun _ c => !c.target && decide (d.home c.slice = f)))

/-- Whether the descriptor a channel runs reads or writes host memory through a function. -/
def Dev.descOn (d : Dev) (f c : Nat) : Bool :=
  match Map.get? d.dma.run c with
  | some r =>
    let w0 := wordAt r.words 0
    decide (d.chFn c = f ∧ (Word.fld w0 24 2 = 0 ∨ Word.fld w0 22 2 = 0 ∨ d.bit (Reg.DMA_CHc_CTRL c) 25 = false))
  | none => false

/-- The reads outstanding on a function serve nothing any more: their data will be discarded. -/
def Dev.orphanReads (d : Dev) (f : Nat) : Dev :=
  { d with pce := { d.pce with
    reads := Map.mapVals d.pce.reads (fun _ r => if r.fn = f then { r with item := .other } else r) } }

/-- What becomes of a function's work when it may issue no more requests: items, NVMe reads, channels, slices (R160). -/
def Dev.fnStop (d : Dev) (f status cause : Nat) : Dev :=
  let d := (d.failUnmoved f status).orphanReads f
  let d := (d.homedNvqs f).foldl (fun d k => d.failReads k status) d
  let d := ((List.range 64).filter (d.descOn f)).foldl (fun d c => d.chDisableNow c status) d
  (d.homed f).foldl (fun d s => d.cork s cause) d

/-- The held completion entries of a function are discarded and counted (R161). -/
def Dev.discardHeld (d : Dev) (f : Nat) : Dev :=
  let n := (d.fn f).heldStore.length
  ((d.setFn f (fun p => { p with heldStore := [] })).pceCount f 3 n).setN (Reg.PCE_HELDf f) 0

/-- The tags of a function's reads become free. -/
def Dev.dropReads (d : Dev) (f : Nat) : Dev :=
  ({ d with pce := { d.pce with reads := Map.sift d.pce.reads (fun _ r => decide (r.fn ≠ f)),
                                pageReqs := d.pce.pageReqs.filter (fun p => decide (d.home p.1 ≠ f)) } } : Dev).showTags (d.linkOf f)

/-- The command and reply queues of a master are emptied, its tag records cleared (R165). -/
def Dev.emptyQueues (d : Dev) (m : Nat) : Dev :=
  let d := { d with cmd := { d.cmd with gens := Map.sift d.cmd.gens (fun k _ => decide (k / 4096 ≠ m)) } }
  (((d.setN (Reg.CMD_PIm m) 0).setN (Reg.CMD_CIm m) 0).setN (Reg.CMD_RPIm m) 0).setN (Reg.CMD_RCIm m) 0

/-- A function is reset (R165 steps 1 to 4, R166): the held entries go, its configuration state clears, its reads and items
fail, its tags are free, its master's queues empty. -/
def Dev.fnReset (d : Dev) (f status cause : Nat) (present flr : Bool) : Dev :=
  let d := d.discardHeld f
  let d := d.setFn f (fun p => { PFn.absent with present := present, flr := flr, aer := p.aer })
  ((d.fnStop f status cause).dropReads f).emptyQueues f

/-! ## Links (R144, R145, R165, R167) -/

/-- A width a link can have. -/
def widthOk (w : Nat) (x8 : Bool) : Bool := [1, 2, 4, 8, 16].contains w && (!x8 || decide (w ≤ 8))

/-- A link trained: its status, its functions present, LOW_RATE below 8 GT/s. -/
def Dev.trainLink (d : Dev) (l rate width : Nat) (flit : Bool) : Dev :=
  let fs := d.linkFns l
  let d := d.setN (Reg.PCE_LINK_STATUSl l) (2 ^ 15 + (if flit then 2 ^ 14 else 0) + rate * 256 + width * 8 +
    (if d.bif (l / 2) then 4 else 0))
  let d := { d with pce := { d.pce with trained := Map.put d.pce.trained l width } }
  let d := fs.foldl (fun d f => d.setFn f (fun p => { p with present := true })) d
  if 5 ≤ rate then fs.foldl (fun d f => d.pceEvt f 7) d else d

/-- `PCIE_LINK_UP` (R144): RATE as PCE_LINK_STATUS encodes it, lanes in use, flit mode. 64 GT/s needs flit mode. -/
def execPcieLinkUp (l : Fin 4) (rate : Fin 8) (width : Fin 32) (flit : Bool) (s : State) : Host.Outcome State Fault Refusal :=
  actPhy (fun d =>
    let r := rate.val
    if (d.linkFns l.val).isEmpty ∨ d.linkUp l.val = true ∨ r = 0 ∨ r = 7 ∨ (r = 4 ∧ flit = false) ∨
      widthOk width.val (d.bif (l.val / 2)) = false then d
    else d.trainLink l.val r width.val flit) s

/-- The registers of a link that is not present read 0; one that trains shows so. -/
def Dev.startTraining (d : Dev) (l : Nat) : Dev :=
  d.setN (Reg.PCE_LINK_STATUSl l) (if (d.linkFns l).isEmpty then 0 else 5 * 2 ^ 11 + (if d.bif (l / 2) then 4 else 0))

/-- `PERST_DEASSERT` (R145, R167): the strap is sampled and the endpoint's links train. -/
def execPerstDeassert (e : Fin 2) (strap : Bool) (s : State) : Host.Outcome State Fault Refusal :=
  actPhy (fun d =>
    if d.linkUp (2 * e.val) || d.linkUp (2 * e.val + 1) then d
    else ((d.setBit Reg.GLB_STRAPS e.val strap).startTraining (2 * e.val)).startTraining (2 * e.val + 1)) s

/-- A link goes down (R165). -/
def Dev.linkDown (d : Dev) (l : Nat) : Dev :=
  let fs := d.linkFns l
  let d := d.setN (Reg.PCE_LINK_STATUSl l) (6 * 2 ^ 11 + (if d.bif (l / 2) then 4 else 0))
  let d := fs.foldl (fun d f => (d.fnReset f 0x31 2 false false).pceEvt f 5) d
  let d := { d with slc := { d.slc with
    fences := Map.mapVals d.slc.fences (fun _ f => { f with atsLinks := f.atsLinks.filter (· ≠ l) }) } }
  ({ d with pce := { d.pce with reads := Map.sift d.pce.reads (fun k _ => decide (k / 16384 ≠ l)),
                                trained := Map.del d.pce.trained l } } : Dev).showTags l

/-- `LINK_DOWN` (R165). -/
def execLinkDown (l : Fin 4) (s : State) : Host.Outcome State Fault Refusal :=
  actPhy (fun d => if d.linkUp l.val then d.linkDown l.val else d) s

/-! ## Bus mastering, power state, function-level reset (R159 to R161, R166) -/

/-- `BUS_MASTER_DISABLE` (R160). -/
def execBusMasterDisable (f : Fin 4) (s : State) : Host.Outcome State Fault Refusal :=
  actPhy (fun d =>
    if (d.fn f.val).present && (d.fn f.val).bme then
      ((d.setFn f.val (fun p => { p with bme := false })).fnStop f.val 0x30 1).pceEvt f.val 4
    else d) s

/-- `BUS_MASTER_ENABLE` (R161): starts nothing by itself. -/
def execBusMasterEnable (f : Fin 4) (s : State) : Host.Outcome State Fault Refusal :=
  actPhy (fun d => if (d.fn f.val).present && !(d.fn f.val).flr then d.setFn f.val (fun p => { p with bme := true }) else d) s

/-- `POWER_STATE_WRITE` (R157, R159): D3hot, or D0 again. -/
def execPowerStateWrite (f : Fin 4) (d3 : Bool) (s : State) : Host.Outcome State Fault Refusal :=
  actPhy (fun d =>
    let p := d.fn f.val
    if !p.present ∨ p.flr = true ∨ p.d3 = d3 then d
    else
      let d := d.setFn f.val (fun p => { p with d3 := d3 })
      if d3 then (d.fnStop f.val 0x30 1).pceEvt f.val 4 else d) s

/-- `FUNCTION_LEVEL_RESET` (R166). -/
def execFunctionLevelReset (f : Fin 4) (s : State) : Host.Outcome State Fault Refusal :=
  actPhy (fun d => if (d.fn f.val).present then (d.fnReset f.val 0x32 3 true true).pceEvt f.val 6 else d) s

/-- `FLR_COMPLETE` (R166): configuration requests are answered again. -/
def execFlrComplete (f : Fin 4) (s : State) : Host.Outcome State Fault Refusal :=
  actPhy (fun d => d.setFn f.val (fun p => { p with flr := false })) s

/-! ## Link power (R157, R158) -/

/-- A deterministic queue is homed on a link. -/
def Dev.detHomed (d : Dev) (l : Nat) : Bool :=
  d.rng.qmap.any (fun p =>
    let cq := p.1 / (8192 * 1024)
    decide (d.fld (Reg.RNG_QCFG2 cq p.2) 28 2 = 3 ∧ d.linkOf (d.home (d.qSlice cq p.2)) = l))

/-- Narrowest width of L0p: a value of L0P_MIN that the field does not define acts as the default x4. -/
def Dev.l0pMin (d : Dev) (l : Nat) : Nat :=
  match d.fld (Reg.PCE_PM_CTRLl l) 13 3 with
  | 1 => 1
  | 2 => 2
  | 4 => 8
  | _ => 4

/-- `L0P_ENTRY` (R157): the link's load has been low for L0P_IDLE. -/
def execL0pEntry (l : Fin 4) (s : State) : Host.Outcome State Fault Refusal :=
  act (fun d =>
    let k := Reg.PCE_LINK_STATUSl l.val
    let w := d.fld k 3 5
    if d.linkUp l.val && d.bit k 14 && decide (d.fld k 11 3 ≤ 1 ∧ d.fld (Reg.PCE_PM_CTRLl l.val) 16 8 ≠ 0 ∧ d.l0pMin l.val * 2 ≤ w) &&
      !d.detHomed l.val then (d.setFld k 3 5 (w / 2)).setFld k 11 3 1
    else d) s

/-- `L0P_EXIT` (R157): the width at which the link trained. -/
def execL0pExit (l : Fin 4) (s : State) : Host.Outcome State Fault Refusal :=
  act (fun d =>
    let k := Reg.PCE_LINK_STATUSl l.val
    if d.linkUp l.val ∧ d.fld k 11 3 = 1 then
      (d.setFld k 3 5 (Map.getD d.pce.trained l.val (d.fld k 3 5))).setFld k 11 3 0
    else d) s

/-- `L1_ENTRY` (R157): into L1, or the substate L1.1 or L1.2 that the host has enabled. -/
def execL1Entry (l : Fin 4) (sub : Fin 3) (s : State) : Host.Outcome State Fault Refusal :=
  act (fun d =>
    let k := Reg.PCE_LINK_STATUSl l.val
    if d.linkUp l.val && decide (d.fld k 11 3 = 0 ∧ d.fld (Reg.PCE_PM_CTRLl l.val) 24 8 ≠ 0) && !d.detHomed l.val then
      d.setFld k 11 3 (2 + sub.val)
    else d) s

/-! ## Completions and tags (R152, R162, R163) -/

/-- The oldest item on a link that waits for a free tag: reading, with no read outstanding. -/
def Dev.waitingItem (d : Dev) (l : Nat) : Option Nat :=
  Map.findKey? d.rng.items (fun id i =>
    decide (i.phase = .reading ∧ d.linkOf (d.home i.slice) = l) && !d.pce.reads.any (fun r => decide (r.2.item = .payload id)))

/-- A tag is free: a request that waited for one goes. -/
def Dev.freedTag (d : Dev) (l tag : Nat) : Dev :=
  let d := ({ d with pce := { d.pce with reads := Map.del d.pce.reads (16384 * l + tag) } } : Dev).showTags l
  match d.waitingItem l with
  | some id =>
    (match Map.get? d.rng.items id with
     | some i => (d.issueRead (d.home i.slice) (some i.slice) (.payload id) ((i.frags.headD (0, 0)).1) (fragBytes i.frags)).getD d
     | none => d)
  | none => d

/-- The item a read serves fails. -/
def Dev.failRead (d : Dev) (r : PcieRead) (status : Nat) : Dev :=
  match r.item with
  | .payload id => d.endItem id status
  | .other => d

/-- The requester ID of a function: the bus and device numbers are the host's, the function number the strap's. -/
def Dev.requesterId (d : Dev) (f : Nat) : Nat × Dev :=
  let (b, d) := d.freeNat
  (b % 8192 * 8 + (if d.bif (f / 2) then 0 else f % 2), d)

/-- A late completion (R163): discarded, logged; its tag is free. -/
def Dev.lateCompletion (d : Dev) (l tag : Nat) (r : PcieRead) (status n : Nat) : Dev :=
  let (id, d) := d.requesterId r.fn
  let d := ((d.aer r.fn 5).pceCount r.fn 0 1).pceEvt r.fn 3
  let d := d.lees (wd (2 ^ 28)) (wd (id * 65536 + tag)) (wd status) (wd (r.slice.getD 0xFFFF * 65536 + n % 65536))
  d.freedTag l tag

/-- Data of an outstanding read (R163): an error fails its item; the last data load it. -/
def Dev.completion (d : Dev) (l tag : Nat) (r : PcieRead) (status : Nat) (poisoned : Bool) (bytes : List Byte) : Dev :=
  let d := if poisoned then d.aer r.fn 3 else d
  if status ≠ 0 then (d.failRead r (if status = 4 then 0x22 else 0x21)).freedTag l tag
  else if poisoned then (d.failRead r 0x23).freedTag l tag
  else
    match r.item with
    | .other => d.freedTag l tag
    | .payload id =>
      match Map.get? d.rng.items id with
      | none => d.freedTag l tag
      | some i =>
        let n := fragBytes i.frags
        let bs := (i.bytes ++ bytes).take n
        if bs.length < n then d.setItem id (fun i => { i with bytes := bs })
        else (d.setItem id (fun i => { i with bytes := bs, phase := .loaded })).freedTag l tag

/-- `PCIE_COMPLETION` (R163): completion status field, poison, data. -/
def execPcieCompletion (l : Fin 4) (tag : Fin 16384) (status : Fin 8) (poisoned : Bool) (bytes : List Byte) (s : State) :
    Host.Outcome State Fault Refusal :=
  act (fun d =>
    if !d.linkUp l.val then d
    else match Map.get? d.pce.reads (16384 * l.val + tag.val) with
      | none =>
        let f := (d.linkFns l.val).headD 0
        (d.aer f 5).pceCount f 1 1
      | some r =>
        if r.state = .quarantine then d.lateCompletion l.val tag.val r status.val bytes.length
        else d.completion l.val tag.val r status.val poisoned bytes) s

/-- `COMPLETION_TIMEOUT` (R162): the item fails, the tag enters quarantine. -/
def execCompletionTimeout (l : Fin 4) (tag : Fin 16384) (s : State) : Host.Outcome State Fault Refusal :=
  act (fun d =>
    let k := 16384 * l.val + tag.val
    match Map.get? d.pce.reads k with
    | some r =>
      if r.state = .outstanding then
        let d := (((d.failRead r 0x20).aer r.fn 4).pceCount r.fn 4 1).pceEvt r.fn 2
        ({ d with pce := { d.pce with reads := Map.put d.pce.reads k { r with state := .quarantine, item := .other } } } : Dev).showTags l.val
      else d
    | none => d) s

/-- `QUARANTINE_EXPIRY` (R162). -/
def execQuarantineExpiry (l : Fin 4) (tag : Fin 16384) (s : State) : Host.Outcome State Fault Refusal :=
  act (fun d => match Map.get? d.pce.reads (16384 * l.val + tag.val) with
    | some r => if r.state = .quarantine then d.freedTag l.val tag.val else d
    | none => d) s

/-! ## Translations (R151, R184) -/

/-- A translation enters its link's cache of 4,096. -/
def Dev.cacheAtc (d : Dev) (s a : Nat) : Dev :=
  let l := d.linkOf (d.home s)
  let mine (p : Nat × Nat) : Bool := decide (d.linkOf (d.home p.1) = l)
  { d with pce := { d.pce with
    atc := (s, a) :: (d.pce.atc.filter (fun p => mine p && decide (p ≠ (s, a)))).take 4095 ++ d.pce.atc.filter (fun p => !mine p) } }

/-- The items of a slice that wait for a page. -/
def Dev.pagedItems (d : Dev) (s a : Nat) : List (Nat × Item) :=
  d.rng.items.filter (fun p => decide (p.2.slice = s ∧ p.2.phase = .paging a))

/-- `PAGE_REQUEST_RESPONSE` (R151, R176, R184): success releases the items held, failure fails them and corks the slice; a
response to an abandoned request is discarded and counted. -/
def execPageRequestResponse (slice : Fin 8192) (addr : Nat) (ok : Bool) (s : State) : Host.Outcome State Fault Refusal :=
  act (fun d =>
    let sl := slice.val
    if !d.pce.pageReqs.contains (sl, addr) then { d with slc := { d.slc with lateResponses := d.slc.lateResponses + 1 } }
    else
      let d := { d with pce := { d.pce with pageReqs := d.pce.pageReqs.filter (· ≠ (sl, addr)) } }
      let items := d.pagedItems sl addr
      if ok then
        items.foldl (fun d p => (d.setItem p.1 (fun i => { i with phase := .reading })).readPayload p.1 p.2 none) (d.cacheAtc sl addr)
      else (items.foldl (fun d p => d.endItem p.1 0x24) d).cork sl 7) s

/-- `ATS_INVALIDATE_COMPLETE` (R184). -/
def execAtsInvalidateComplete (l : Fin 4) (slice : Fin 8192) (s : State) : Host.Outcome State Fault Refusal :=
  act (fun d => match Map.get? d.slc.fences slice.val with
    | some f => { d with slc := { d.slc with
        fences := Map.put d.slc.fences slice.val { f with atsLinks := f.atsLinks.filter (· ≠ l.val) } } }
    | none => d) s

/-! ## Interrupts (R155, R161) -/

/-- The message store entry written: a VALID entry holds a unit of pool 1 of its slice; where the slice's quota or the pool has
no room the write has no effect. Clearing MASK sends a message held. -/
def Dev.imsWrite (d : Dev) (m : Nat) (v : Word) : Dev :=
  let e := d.fld (Reg.PCE_IMS_INDEXm m) 0 17
  let k := Reg.PCE_IMS_ENTRY e 3
  let old := d.reg k
  let (so, sn) := (Word.fld old 0 13, Word.fld v 0 13)
  let held := Word.bit old 31
  let keeps := held && Word.bit v 31 && decide (so = sn)
  if Word.bit v 31 && !keeps && !d.poolRoom sn 1 1 then d
  else
    let d := d.when (held && !keeps) (fun d => d.poolFree so 1 1)
    let d := d.when (Word.bit v 31 && !keeps) (fun d => d.poolTake sn 1 1)
    let d := (List.range 3).foldl (fun d i => d.setReg (Reg.PCE_IMS_ENTRY e i) (d.reg (Reg.PCE_IMS_DATAm m i))) d
    let d := d.setReg (Reg.PCE_IMS_ENTRY e 0) (Word.setFld (d.reg (Reg.PCE_IMS_ENTRY e 0)) 0 2 0)
    let pend := Word.bit old 29
    let d := d.setReg k (Word.setBit (Word.setFld v 13 14 0) 29 pend)
    if pend && !Word.bit v 30 && d.canIssue (Word.fld v 27 2) then (d.setBit k 29 false).raiseIms e else d

/-- `IMS_ENTRY_WRITE` (R155). -/
def execImsEntryWrite (m : Fin 16) (v : Word) (s : State) : Host.Outcome State Fault Refusal := act (fun d => d.imsWrite m.val v) s

/-- A vector unmasked: what is pending is sent (R155, R161). -/
def Dev.unmask (d : Dev) (f vec : Nat) : Dev :=
  let d := d.setFn f (fun p => { p with unmasked := vec :: p.unmasked.filter (· ≠ vec) })
  if (d.fn f).pba.contains vec && d.canIssue f && (d.fn f).msixOn then
    (d.setFn f (fun p => { p with pba := p.pba.filter (· ≠ vec) })).sendMsix f vec
  else d

/-- `MSIX_UNMASK` (R155, R161). -/
def execMsixUnmask (f : Fin 4) (vec : Fin 2048) (s : State) : Host.Outcome State Fault Refusal :=
  act (fun d => if (d.fn f.val).present then d.unmask f.val vec.val else d) s

/-- `MSIX_ENABLE_WRITE` (R156): enabled, a function's sources no longer assert INTx. -/
def execMsixEnableWrite (f : Fin 4) (on : Bool) (s : State) : Host.Outcome State Fault Refusal :=
  act (fun d =>
    if (d.fn f.val).present && !(d.fn f.val).flr then
      d.setFn f.val (fun p => { p with msixOn := on, intxPend := if on then [] else p.intxPend })
    else d) s

end Sys2Proof.Machine
end

