-- ==== Sys2Proof/Machine/Pbu.lean ====
section
/-! DEFINITION. The commands of the process bus: sampled values, aligner groups, GOOSE, its entries, its opcodes, channel 0x0C
(R419 to R443). -/

namespace Sys2Proof.Machine

/-! ## Sampled values (R424, R425) -/

/-- Counters of one stream: frames, format drops, confRev mismatches. -/
def Dev.streamCount (d : Dev) (i : Nat) (f : Nat × Nat × Nat → Nat × Nat × Nat) : Dev :=
  { d with pbu := { d.pbu with streams := Map.put d.pbu.streams i (f (Map.getD d.pbu.streams i (0, 0, 0))) } }

/-- A format drop, of a stream where the frame matched one. -/
def Dev.svFormat (d : Dev) (i : Option Nat) : Dev :=
  let d := (d.pbuCount 2).pbuEvt 2 (i.getD 0)
  match i with
  | some i => d.streamCount i (fun (a, b, c) => (a, b + 1, c))
  | none => d

/-- The receive timestamp of a frame. -/
def Frame.stamp (f : Frame) : Nat := cat64 (wordAt f.record 7) (wordAt f.record 8)

/-- The instant its last bit crosses the lane balls: the length of the frame with its FCS at the port's rate after the
timestamp. -/
def Dev.arrival (d : Dev) (f : Frame) : Nat :=
  let r := modeRate (d.pgMode (f.srcPort / 8))
  if f.srcPort < 16 ∧ r ≠ 0 then f.stamp + ceilDiv ((f.len + 4) * 8) r else f.stamp

/-- The frame came on port B of its pair. -/
def Dev.onPortB (d : Dev) (f : Frame) : Bool :=
  match d.pairAt f.srcPort with
  | some (_, _, _, b) => decide (f.srcPort = b)
  | none => false

/-- One ASDU of a matched frame stored as a sample; one whose smpCnt is RATE or above is dropped on its own. -/
def Dev.asduSample (d : Dev) (i : Nat) (f : Frame) (a : Asdu) : Dev :=
  let rate := d.svRate i
  if rate ≤ a.cnt then d.svFormat (some i)
  else
    let exp := d.reg (Reg.PBU_SV i 4)
    let bad := decide (exp ≠ 0 ∧ exp.toNat ≠ a.rev)
    let d := d.when bad (fun d => (d.pbuCount 3).streamCount i (fun (x, y, z) => (x, y, z + 1)))
    d.storeSample i
      { second := sampleSecond rate a.cnt f.stamp, cnt := a.cnt,
        vals := (List.range (a.data.length / 4)).map (fun j => wd (beAt a.data (4 * j) 4)),
        unsync := decide (a.synch = 0), confrev := bad, injected := false, lanB := d.onPortB f, arrival := d.arrival f }

/-- The entry a sampled-value frame matches: by destination, APPID, svID. -/
def Dev.svMatch (d : Dev) (f : Frame) (appid : Nat) (a : Asdu) : Option Nat :=
  d.svLive.find? (fun i => decide (d.svKey i = (f.bytes.take 6, appid, a.svid)))

/-- A sampled-value frame handled (R419, R424). -/
def Dev.svFrame (d : Dev) (id : Nat) (f : Frame) : Dev :=
  let d := d.pbuCount 0
  let drop (d : Dev) : Dev := d.freeFrame id
  match d.pbuPdu f with
  | none => drop (d.svFormat none)
  | some (appid, pdu) =>
    match savPdu pdu with
    | none => drop (d.svFormat none)
    | some (_, []) => drop (d.svFormat none)
    | some (n, a :: as) =>
      match d.svMatch f appid a with
      | none =>
        let d := d.pbuCount 1
        if d.bit Reg.PBU_CTRL 31 then d.slowPath id f 1 else drop d
      | some i =>
        let d := d.streamCount i (fun (x, y, z) => (x + 1, y, z))
        let l := a :: as
        if n ≠ d.svAsdu i ∨ l.length ≠ n ∨ (l.any (fun x => decide (x.data.length ≠ 8 * d.svChannels i ∨ x.svid ≠ a.svid))) = true then
          drop (d.svFormat (some i))
        else (drop (l.foldl (fun d x => d.asduSample i f x) d)).settleStream i

/-- `SV_FRAME` (R424). -/
def execSvFrame (f : Nat) (s : State) : Host.Outcome State Fault Refusal :=
  act (fun d => match d.frame? f with
    | some g => if g.place = .pbu ∧ (d.walk g 0).etf = 0x88BA then d.svFrame f g else d
    | none => d) s

/-! ## Aligner groups (R427 to R432) -/

/-- A group closes on a firing: the waiting set completes first; the target key is the latest at or before now. -/
def Dev.closeGroup (d : Dev) (g : Nat) (x : Firing) : Dev :=
  let d := d.completeSet g true
  let a := d.aligner g
  let (sec, cnt) := keyAt (d.svRate ((d.grpStreams g).headD 0)) d.time
  let seq := (a.seq + 1) % 65536
  let w : SetWait := ⟨d.time, x.cycle, x.quality, x.stepped, x.late, decide (a.prev = some (sec, cnt)), sec, cnt, seq⟩
  let d := d.setAligner g (fun a => { a with seq := seq, prev := some (sec, cnt), waiting := some w })
  if d.setMissing g w = 0 ∨ d.fld (Reg.PBU_GRP g 1) 16 14 = 0 then d.completeSet g false else d

/-- `SAMPLE_SET_CLOSE` (R428): an event of another reference than REF is skipped. -/
def execSampleSetClose (g : Fin 256) (s : State) : Host.Outcome State Fault Refusal :=
  act (fun d => match d.takeFiring 2 g.val with
    | none => d
    | some (x, d) =>
      if !d.grpValid g.val then d
      else if x.ref ≠ d.fld (Reg.PBU_GRP g.val 0) 29 2 then (d.pbuCount 13).pbuEvt 8 g.val
      else d.closeGroup g.val x) s

/-- `SAMPLE_SET_WAIT_EXPIRY` (R428): WAIT_US after the close. -/
def execSampleSetWaitExpiry (g : Fin 256) (s : State) : Host.Outcome State Fault Refusal :=
  act (fun d => d.completeSet g.val false) s

/-! ## GOOSE subscriptions (R433 to R435) -/

/-- The value a TIE reads: true or on, false or off, anything else. -/
def tieValue : Option (Nat × List Byte) → Option Bool
  | some (0x83, [b]) => some (decide (b ≠ 0))
  | some (0x84, [p, b]) => if p = 6 then (match b.toNat / 64 with
      | 2 => some true
      | 1 => some false
      | _ => none) else none
  | _ => none

/-- TIE: a direct-mode write of MERGE and LEADER of one follower. -/
def Dev.gooseTie (d : Dev) (i : Nat) (g : Goose) : Dev :=
  let w := d.reg (Reg.PBU_SUB i 7)
  match tieValue (g.data[Word.fld w 24 8]?) with
  | none => d.pbuCount 20
  | some on =>
    let old := d.reg Reg.GAU_TIE
    let new := tieWith old (Word.fld w 0 2) (Word.fld w 2 2) on
    if tieBad new (fun n => d.bit (Reg.GAU_REFn_CTRL n) 0) then (d.pbuCount 19).pbuEvt 4 i
    else ((d.setReg Reg.GAU_TIE new).hook Reg.GAU_TIE old).sqSet Reg.GLB_COMMIT_STATUS [0]

/-- The delivery of a subscription's frame. -/
def Dev.gooseDeliver (d : Dev) (i : Nat) (f : Frame) : Dev :=
  let w := d.reg (Reg.PBU_SUB i 3)
  if Word.bit w 23 then
    d.deliver (d.deliveryOf f ⟨Word.fld w 0 13, Word.fld w 24 8, d.fld (Reg.PBU_SUB i 4) 0 10, kindRx, 0⟩)
  else d

/-- An accepted message of a subscription (R434). -/
def Dev.gooseAccept (d : Dev) (i : Nat) (f : Frame) (g : Goose) : Dev :=
  let w0 := d.reg (Reg.PBU_SUB i 0)
  let s := d.gsub i
  let change := decide (s.state ≠ 1 ∨ s.st ≠ g.st)
  let d := d.setGsub i (fun s =>
    { s with state := 1, st := g.st, sq := g.sq, deadline := d.now + g.live * 500000, changes := s.changes + (if change then 1 else 0) })
  let d := d.when change (fun d => d.pbuCount 18)
  let d := d.when (Word.bit w0 28 && (change || Word.bit w0 30)) (fun d => d.gooseDeliver i f)
  let d := d.when (change && Word.bit w0 27) (fun d => d.postEvents (d.fld (Reg.PBU_SUB i 5) 0 9) (d.fld (Reg.PBU_SUB i 6) 0 24))
  d.when (change && Word.bit w0 26) (fun d => d.gooseTie i g)

/-- A GOOSE frame handled (R419, R434). -/
def Dev.gooseFrame (d : Dev) (id : Nat) (f : Frame) : Dev :=
  let d := d.pbuCount 14
  match (d.pbuPdu f).bind (fun p => (goosePdu p.2).map (fun g => (p.1, g))) with
  | none => (d.pbuCount 15).freeFrame id
  | some (appid, g) =>
    match d.subLive.find? (fun i => decide (d.subKey i = (f.bytes.take 6, appid, g.ref))) with
    | none =>
      let d := d.pbuCount 16
      if d.bit Reg.PBU_CTRL 30 then d.slowPath id f 2 else d.freeFrame id
    | some i =>
      let exp := d.reg (Reg.PBU_SUB i 8)
      if (exp ≠ 0 ∧ exp.toNat ≠ g.rev) ∨ (g.sim = true ∧ d.bit (Reg.PBU_SUB i 0) 29 = false) then (d.pbuCount 17).freeFrame id
      else (d.gooseAccept i f g).freeFrame id

/-- `GOOSE_FRAME` (R434). -/
def execGooseFrame (f : Nat) (s : State) : Host.Outcome State Fault Refusal :=
  act (fun d => match d.frame? f with
    | some g => if g.place = .pbu ∧ (d.walk g 0).etf = 0x88B8 then d.gooseFrame f g else d
    | none => d) s

/-- `GOOSE_STALE` (R434): the deadline of an ALIVE subscription passes. -/
def execGooseStale (i : Fin 4096) (s : State) : Host.Outcome State Fault Refusal :=
  act (fun d =>
    if (d.gsub i.val).state = 1 then
      let d := (d.setGsub i.val (fun g => { g with state := 2 })).pbuEvt 3 i.val
      d.when (d.bit (Reg.PBU_SUB i.val 0) 27) (fun d =>
        d.postEvents (d.fld (Reg.PBU_SUB i.val 5) 0 9) (2 ^ d.fld (Reg.PBU_SUB i.val 5) 24 5 % 2 ^ 24))
    else d) s

/-! ## GOOSE publication (R438) -/

/-- `GOOSE_EVENT` (R54, R438). -/
def execGooseEvent (i : Fin 256) (s : State) : Host.Outcome State Fault Refusal :=
  act (fun d => match d.takeFiring 3 i.val with
    | some (_, d) => d.pubAgain i.val false
    | none => d) s

/-- `GOOSE_FAST_RETRANSMIT` (R438). -/
def execGooseFastRetransmit (i : Fin 256) (s : State) : Host.Outcome State Fault Refusal :=
  act (fun d =>
    if (d.gpub i.val).fast < d.fld (Reg.PBU_PUB i.val 2) 0 4 then
      (d.setGpub i.val (fun p => { p with fast := p.fast + 1 })).pubAgain i.val false
    else d) s

/-- `GOOSE_HEARTBEAT` (R438). -/
def execGooseHeartbeat (i : Fin 256) (s : State) : Host.Outcome State Fault Refusal :=
  act (fun d => if d.fld (Reg.PBU_PUB i.val 3) 0 16 ≠ 0 then d.pubAgain i.val false else d) s

/-- `PBU_LOCKSTEP_FAULT` (R441): the engines reload; sets completed meanwhile carry FAULT_DELAY. -/
def execPbuLockstepFault (s : State) : Host.Outcome State Fault Refusal :=
  act (fun d => ({ d with pbu := { d.pbu with reload := some d.now } } : Dev).fault { faultRec 3 3 16 0 with recoveryUs := 10 }) s

/-! ## Entries (R443) -/

/-- Entries of a table of PBU_ENT_CMD: base, stride, words of the entry, entries. -/
def pbuTable : Nat → Nat × Nat × Nat × Nat
  | 0 => (Reg.PBU_SV 0 0, 0x100, 48, 1024)
  | 1 => (Reg.PBU_GRP 0 0, 0x100, 64, 256)
  | 2 => (Reg.PBU_SUB 0 0, 0x100, 48, 4096)
  | _ => (Reg.PBU_PUB 0 0, 0x800, 512, 256)

/-- Words the device alone writes: SLOT_BYTES of a group, STNUM and SQNUM of a publication. -/
def pbuReadOnly (t j : Nat) : Bool := decide ((t = 1 ∧ j = 5) ∨ (t = 3 ∧ (j = 5 ∨ j = 6)))

/-- The error of an entry access: 1 index out of range, 2 chunk beyond the entry. -/
def Dev.entErr (d : Dev) (t : Nat) : Nat :=
  let (_, _, w, n) := pbuTable t
  if n ≤ d.fld Reg.PBU_ENT_INDEX 0 12 then 1 else if w ≤ 64 * d.fld Reg.PBU_ENT_INDEX 12 3 then 2 else 0

/-- PBU_ENT_CMD shows the last TABLE, OP and ERR. -/
def Dev.entCmd (d : Dev) (t op err : Nat) : Dev := d.setN Reg.PBU_ENT_CMD (err * 2 ^ 28 + t * 2 ^ 24 + op)

/-- The word numbers of the chunk an access names. -/
def Dev.entWords (d : Dev) (t : Nat) : List Nat :=
  let (_, _, w, _) := pbuTable t
  let c := d.fld Reg.PBU_ENT_INDEX 12 3
  (List.range 64).filterMap (fun j => if 64 * c + j < w then some (64 * c + j) else none)

/-- Key of word `j` of the entry an access names. -/
def Dev.entKey (d : Dev) (t j : Nat) : Nat :=
  let (b, s, _, _) := pbuTable t
  b + s * d.fld Reg.PBU_ENT_INDEX 0 12 + 4 * j

/-- A read of an entry or chunk into PBU_ENT_DATA. -/
def Dev.entRead (d : Dev) (t op : Nat) (get : Dev → Nat → Word) : Dev :=
  match d.entErr t with
  | 0 =>
    let i := d.fld Reg.PBU_ENT_INDEX 0 12
    let ws := (d.entWords t).map (fun j => if t = 1 ∧ j = 5 then wd (d.slotBytes i) else get d (d.entKey t j))
    (d.setRegs (Reg.PBU_ENT_DATA 0) (ws ++ List.replicate (64 - ws.length) 0)).entCmd t op 0
  | e => d.entCmd t op e

/-- `PBU_ENT_READ_ACTIVE` (R443): the word written to PBU_ENT_CMD names the table. -/
def execPbuEntReadActive (v : Word) (s : State) : Host.Outcome State Fault Refusal :=
  act (fun d => d.entRead (Word.fld v 24 2) 1 Dev.reg) s

/-- `PBU_ENT_READ_STAGED` (R443). -/
def execPbuEntReadStaged (v : Word) (s : State) : Host.Outcome State Fault Refusal :=
  act (fun d => d.entRead (Word.fld v 24 2) 2 Dev.staged) s

/-- A write of PBU_ENT_DATA into the staging copy of an entry or chunk; in direct mode it applies by itself. -/
def Dev.entWrite (d : Dev) (m t : Nat) : Dev :=
  match d.entErr t with
  | 0 =>
    let js := (d.entWords t).filter (fun j => !pbuReadOnly t j)
    let c := d.fld Reg.PBU_ENT_INDEX 12 3
    let d := js.foldl (fun d j => d.stage (d.entKey t j) (d.reg (Reg.PBU_ENT_DATA (j - 64 * c))) true m) d
    let d := if d.bit Reg.GLB_DIRECT (if t = 3 then 18 else 17) then d.directWrite (d.entKey t (64 * c)) else d
    d.entCmd t 3 0
  | e => d.entCmd t 3 e

/-- `PBU_ENT_WRITE_STAGED` (R443). -/
def execPbuEntWriteStaged (m : Fin 16) (v : Word) (s : State) : Host.Outcome State Fault Refusal :=
  act (fun d => d.entWrite m.val (Word.fld v 24 2)) s

/-! ## The process-bus opcodes (R423, R427, R433, R436, R442) -/

/-- Groups 17 and 18. -/
def groupPbu : Nat := 2 ^ 17
def groupPub : Nat := 2 ^ 18

/-- The index a command names. -/
def Cmd.entIndex (c : Cmd) : Nat := c.pf 0 16 12

/-- INCARNATION, SLICE_VALID and SLICE from the header. -/
def Cmd.ownWord (c : Cmd) : Word :=
  match c.slice? with
  | some s => wd (c.pf 0 0 8 * 2 ^ 24 + 2 ^ 23 + s)
  | none => 0

/-- The pool of a table's entries. -/
def pbuPool : Nat → Nat
  | 0 => 7
  | 2 => 8
  | _ => 9

/-- An entry's unit held by a slice from now on, or by none. -/
def Dev.setUnit (d : Dev) (t i : Nat) (own : Option Nat) : Dev :=
  let k := 4096 * t + i
  let d := match Map.get? d.pbu.units k with
    | some s => ({ d with pbu := { d.pbu with units := Map.del d.pbu.units k } } : Dev).poolFree s (pbuPool t) 1
    | none => d
  match own with
  | some s => ({ d with pbu := { d.pbu with units := Map.put d.pbu.units k s } } : Dev).poolTake s (pbuPool t) 1
  | none => d

/-- A command that writes an entry: its words staged, its groups strobed; a slice's entry takes a unit of its pool, an entry
no longer VALID gives it back. -/
def Dev.entCommand (d : Dev) (c : Cmd) (t groups : Nat) (ws : List Word) : Dev × Option Res :=
  let i := c.entIndex
  let (b, stride, n, _) := pbuTable t
  let own := if Word.bit (wordAt ws 0) 31 then c.slice? else none
  let held := Map.get? d.pbu.units (4096 * t + i)
  if (match own with
      | some s => decide (held ≠ some s) && !d.poolRoom s (pbuPool t) 1
      | none => false) then (d, some (Res.st stNoResource))
  else
    let ks := ((List.range n).filter (fun j => !pbuReadOnly t j)).map (fun j => (b + stride * i + 4 * j, wordAt ws j))
    match d.stageStrobe c groups ks (Res.ok []) with
    | (d', some r) => if r.status = stBadParam ∨ own = held then (d', some r) else (d'.setUnit t i own, some r)
    | x => x

/-- 0x0800. -/
def runSvSubscribe (c : Cmd) (d : Dev) : Dev × Option Res := d.entCommand c 0 groupPbu ((c.params.drop 1).set 5 c.ownWord)

/-- `SV_SUBSCRIBE`. -/
def execSvSubscribe (m : Fin 16) (tag : Fin 4096) (gen : Fin 16) (s : State) : Host.Outcome State Fault Refusal :=
  opStep 0x0800 runSvSubscribe m.val tag.val gen.val s

/-- A stream that a VALID group or a reference names. -/
def Dev.streamNamed (d : Dev) (i : Nat) : Bool :=
  d.grpLive.any (fun g => (d.grpStreams g).contains i) ||
  (List.range 4).any (fun n => decide (d.fld (Reg.GAU_REFn_CTRL n) 26 2 = 2 ∧ d.fld (Reg.GAU_REFn_CTRL n) 14 10 = i))

/-- An entry's own words as staged, VALID cleared. -/
def Dev.cleared (d : Dev) (t i : Nat) : List Word :=
  let (b, stride, n, _) := pbuTable t
  (List.range n).map (fun j => let w := d.staged (b + stride * i + 4 * j)
                               if j = 0 then Word.setBit w 31 false else w)

/-- 0x0801: refused for a stream that a VALID group or a reference names. -/
def runSvUnsubscribe (c : Cmd) (d : Dev) : Dev × Option Res :=
  if d.streamNamed c.entIndex then (d, some (Res.st stBadParam)) else d.entCommand c 0 groupPbu (d.cleared 0 c.entIndex)

/-- `SV_UNSUBSCRIBE`. -/
def execSvUnsubscribe (m : Fin 16) (tag : Fin 4096) (gen : Fin 16) (s : State) : Host.Outcome State Fault Refusal :=
  opStep 0x0801 runSvUnsubscribe m.val tag.val gen.val s

/-- 0x0802. -/
def runGooseSubscribe (c : Cmd) (d : Dev) : Dev × Option Res := d.entCommand c 2 groupPbu ((c.params.drop 1).set 3 c.ownWord)

/-- `GOOSE_SUBSCRIBE`. -/
def execGooseSubscribe (m : Fin 16) (tag : Fin 4096) (gen : Fin 16) (s : State) : Host.Outcome State Fault Refusal :=
  opStep 0x0802 runGooseSubscribe m.val tag.val gen.val s

/-- 0x0803. -/
def runGooseUnsubscribe (c : Cmd) (d : Dev) : Dev × Option Res := d.entCommand c 2 groupPbu (d.cleared 2 c.entIndex)

/-- `GOOSE_UNSUBSCRIBE`. -/
def execGooseUnsubscribe (m : Fin 16) (tag : Fin 4096) (gen : Fin 16) (s : State) : Host.Outcome State Fault Refusal :=
  opStep 0x0803 runGooseUnsubscribe m.val tag.val gen.val s

/-- 0x0804: SLICE in word 0 and INCARNATION in word 1 are the header's. -/
def runGoosePublishSet (c : Cmd) (d : Dev) : Dev × Option Res :=
  let ws := c.params.drop 1
  let w0 := Word.setFld (wordAt ws 0) 0 13 (c.slice?.getD 0)
  let w1 := Word.setFld (wordAt ws 1) 24 8 (c.pf 0 0 8)
  d.entCommand c 3 groupPub ((ws.set 0 w0).set 1 w1)

/-- `GOOSE_PUBLISH_SET`. -/
def execGoosePublishSet (m : Fin 16) (tag : Fin 4096) (gen : Fin 16) (s : State) : Host.Outcome State Fault Refusal :=
  opStep 0x0804 runGoosePublishSet m.val tag.val gen.val s

/-- 0x0805: SLICE and INCARNATION in word 0 are the header's. Its streams hold their units of pool 7 already. -/
def runAlignerGroupSet (c : Cmd) (d : Dev) : Dev × Option Res :=
  let ws := c.params.drop 1
  let w0 := Word.setFld (Word.setFld (wordAt ws 0) 0 13 (c.slice?.getD 0)) 16 8 (c.pf 0 0 8)
  let ks := ((List.range 64).filter (fun j => !pbuReadOnly 1 j)).map (fun j => (Reg.PBU_GRP c.entIndex j, wordAt (ws.set 0 w0) j))
  d.stageStrobe c groupPbu ks (Res.ok [])

/-- `ALIGNER_GROUP_SET`. -/
def execAlignerGroupSet (m : Fin 16) (tag : Fin 4096) (gen : Fin 16) (s : State) : Host.Outcome State Fault Refusal :=
  opStep 0x0805 runAlignerGroupSet m.val tag.val gen.val s

/-- The counters PBU_STATUS returns (R442). -/
def Dev.pbuStatus (d : Dev) (kind i : Nat) : List Word :=
  match kind with
  | 0 =>
    let (a, b, c) := Map.getD d.pbu.streams i (0, 0, 0)
    let k := match d.rows i with
      | r :: _ => (r.second, r.cnt)
      | [] => (0, 0)
    [wd a, wd b, wd c, wd k.1, wd k.2]
  | 1 => let a := d.aligner i
         [wd a.seq, wd a.delivered, wd a.incomplete, wd a.overruns]
  | 2 => let g := d.gsub i
         [wd g.state, wd g.st, wd g.sq, wd g.changes]
  | _ => let p := d.gpub i
         [wd p.st, wd p.sq, wd p.sent, wd p.faulted]

/-- 0x0807. -/
def runPbuStatus (c : Cmd) (d : Dev) : Dev × Option Res :=
  (d, some (Res.ok (d.pbuStatus (c.pf 0 30 2) (c.pf 0 0 12))))

/-- `PBU_STATUS`: KIND 0 streams, 1 groups, 2 subscriptions, 3 publications. -/
def execPbuStatus (m : Fin 16) (tag : Fin 4096) (gen : Fin 16) (s : State) : Host.Outcome State Fault Refusal :=
  opStep 0x0807 runPbuStatus m.val tag.val gen.val s

/-! ## Channel 0x0C (R440) -/

/-- INJECT: the sample stored as though its frame had arrived now. -/
def Dev.inject (d : Dev) (t : Nat) (r : AccReq) : Dev × Nat × List Byte :=
  let i := Word.fld (wordAt r.words 1) 0 10
  let second := (wordAt r.words 2).toNat
  let cnt := Word.fld (wordAt r.words 3) 0 16
  let rows := d.rows i
  if !d.svValid i ∨ d.svRate i ≤ cnt then (d, accRefused, [])
  else match d.winRead t (wordAt r.words 4).toNat (8 * d.svChannels i) with
    | none => (d, accRefused, [])
    | some bs =>
      let s : Sample := { second := second, cnt := cnt, vals := wordsOf (2 * d.svChannels i) bs, unsync := false, confrev := false,
                          injected := true, lanB := false, arrival := d.time }
      if (d.rowOf i second cnt).isSome then (d, 0x10, [])
      else if 32 ≤ rows.length ∧ (rows.all (fun x => decide (s.key < x.key))) = true then (d, 0x11, [])
      else ((d.storeSample i s).settleStream i, accOk, [])

/-- `INJECT` (R440): OP 0x01 of a thread's oldest request on the channel; an OP the channel does not have answers BAD_OP. -/
def execInject (t : Fin 512) (s : State) : Host.Outcome State Fault Refusal :=
  act (fun d => match d.openReq t.val 0x0C with
    | some r =>
      if Word.fld (wordAt r.words 0) 24 8 = 2 then d
      else d.serve t.val 0x0C (fun r d => if Word.fld (wordAt r.words 0) 24 8 = 1 then d.inject t.val r else (d, accBadOp, []))
    | none => d) s

/-- GROUP_READ: SEQ, target key and MISSING of the waiting set. -/
def Dev.groupRead (d : Dev) (g : Nat) : List Word :=
  match (d.aligner g).waiting with
  | some w => [wd w.seq, wd w.second, wd w.cnt, wd (d.setMissing g w)]
  | none => [0xFFFF, 0, 0, 0]

/-- `GROUP_READ` (R440): OP 0x02. -/
def execGroupRead (t : Fin 512) (s : State) : Host.Outcome State Fault Refusal :=
  act (fun d => match d.openReq t.val 0x0C with
    | some r =>
      if Word.fld (wordAt r.words 0) 24 8 = 2 then
        d.serve t.val 0x0C (fun r d => (d, accOk, bytesOf (d.groupRead (Word.fld (wordAt r.words 1) 0 8))))
      else d
    | none => d) s

/-! ## Checks of the opcodes (R127) -/

/-- Words of an entry that must be 0 where its table reserves bits: a mask of what each word may hold. -/
def svMask (j : Nat) : Nat :=
  match j with
  | 0 => 0xBFC0FFFF
  | 1 => 0xFFFFFFFF
  | 2 => 0xFFFF
  | 3 => 0x3FFF
  | 4 => 0xFFFFFFFF
  | 5 => 0xFF801FFF
  | 6 => 0xFF
  | _ => if 8 ≤ j ∧ j ≤ 40 then 0xFFFFFFFF else 0
def subMask (j : Nat) : Nat :=
  match j with
  | 0 => 0xFC00FFFF
  | 1 => 0xFFFFFFFF
  | 2 => 0xFFFF
  | 3 => 0xFF801FFF
  | 4 => 0x3FF
  | 5 => 0x1F0001FF
  | 6 => 0xFFFFFF
  | 7 => 0xFF00000F
  | 8 => 0xFFFFFFFF
  | 9 => 0xFF
  | _ => if 10 ≤ j ∧ j ≤ 42 then 0xFFFFFFFF else 0
def grpMask (j : Nat) : Nat :=
  match j with
  | 0 => 0xFFFF1FFF
  | 1 => 0x3FFF03FF
  | 2 => 0xFFFFFFC0
  | 3 => 0xFFFFFFFF
  | 4 => 0x1FFFF
  | 5 => 0xFFFF
  | _ => if 8 ≤ j ∧ j ≤ 23 then 0x03FF03FF else 0
def pubMask (j : Nat) : Nat :=
  match j with
  | 0 => 0x800F1FFF
  | 1 => 0xFF0003FF
  | 2 => 0xFFFF000F
  | 3 => 0xFFFF
  | 4 => 0x7FF
  | 5 => 0xFFFFFFFF
  | 6 => 0xFFFFFFFF
  | _ => if 16 ≤ j then 0xFFFFFFFF else 0

/-- Words that set a bit outside their mask. -/
def maskedBad (mask : Nat → Nat) (ws : List Word) : Bool :=
  ((List.range ws.length).zip ws).any (fun p => decide (p.2 &&& ~~~ wd (mask p.1) ≠ 0))

/-- Word 0 of the parameters: reserved bits, the index within the table. -/
def entHeadBad (c : Cmd) (n : Nat) : Bool := decide (Word.fld (c.p 0) 28 4 ≠ 0 ∨ Word.fld (c.p 0) 8 8 ≠ 0 ∨ n ≤ c.entIndex)

/-- What SV_SUBSCRIBE refuses: rates and svID lengths that no field value allows, reserved bits. -/
def svSubscribeBad (c : Cmd) (_ : Dev) : Bool :=
  let ws := c.params.drop 1
  let rate := Word.fld (wordAt ws 3) 0 14
  let n := Word.fld (wordAt ws 6) 0 8
  entHeadBad c 1024 || maskedBad svMask ws ||
  (Word.bit (wordAt ws 0) 31 && decide (rate = 0 ∨ (14400 < rate ∧ rate ≠ 15360) ∨ n = 0 ∨ 129 < n))

/-- What GOOSE_SUBSCRIBE refuses: among the rest a DELIVER whose SQ is no deterministic receive SQ of the slice. -/
def gooseSubscribeBad (c : Cmd) (d : Dev) : Bool :=
  let ws := c.params.drop 1
  let n := Word.fld (wordAt ws 9) 0 8
  entHeadBad c 4096 || maskedBad subMask ws ||
  (Word.bit (wordAt ws 0) 31 && (decide (n = 0 ∨ 129 < n ∨ (Word.bit (wordAt ws 0) 27 = true ∧ 23 < Word.fld (wordAt ws 5) 24 5)) ||
    (Word.bit (wordAt ws 0) 28 && (match c.slice? with
      | some s => (match d.queue? 0 s (Word.fld (wordAt ws 4) 0 10) with
        | some q => decide (d.qType 0 q ≠ 1 ∨ d.sqClass q ≠ 0)
        | none => true)
      | none => true))))

/-- An unsubscription names its entry alone. -/
def svUnsubscribeBad (c : Cmd) (_ : Dev) : Bool := entHeadBad c 1024
def gooseUnsubscribeBad (c : Cmd) (_ : Dev) : Bool := entHeadBad c 4096

/-- A group or publication belongs to a slice. -/
def alignerGroupBad (c : Cmd) (_ : Dev) : Bool := entHeadBad c 256 || maskedBad grpMask (c.params.drop 1) || c.slice?.isNone
def goosePublishBad (c : Cmd) (_ : Dev) : Bool := entHeadBad c 256 || maskedBad pubMask (c.params.drop 1) || c.slice?.isNone

/-- KIND and index of PBU_STATUS. -/
def pbuStatusBad (c : Cmd) (_ : Dev) : Bool :=
  decide (c.pf 0 12 18 ≠ 0 ∨ (pbuTable (c.pf 0 30 2)).2.2.2 ≤ c.pf 0 0 12)

end Sys2Proof.Machine
end

