-- ==== Sys2Proof/Machine/Sto.lean ====
section
/-! DEFINITION. The commands of storage: objects, connections, NVMe commands, channel 0x0D (R360 to R373). -/

namespace Sys2Proof.Machine

/-! ## Objects (R361 to R365, R367) -/

/-- The words of an object in use: KIND 0 a target, 1 an NVQ, 2 a namespace. -/
def Dev.stoObject (d : Dev) (kind i : Nat) : Option (List Word) :=
  match kind with
  | 2 => Map.get? d.sto.namespaces i
  | _ => (d.conn? i).bind (fun c => if c.target = decide (kind = 0) then some c.words else none)

/-- An index some object of either kind uses. -/
def Dev.stoUsed (d : Dev) (kind i : Nat) : Bool :=
  if kind = 2 then (Map.get? d.sto.namespaces i).isSome else (d.conn? i).isSome

/-- The checks of R363 to R365. -/
def Dev.stoBad (d : Dev) (kind i : Nat) (ws : List Word) : Bool :=
  match kind with
  | 0 => targetBad ws || !d.bit (Reg.FWD_NHn (Word.fld (wordAt ws 2) 0 14) 0) 31
  | 1 => d.nvqBad ws
  | _ => d.nsBad i ws

/-- What CREATE answers, in the order of R362's table by row 1, 3, 4, 2; the object made where it answers 0. -/
def Dev.stoCreate (d : Dev) (kind i : Nat) (ws : List Word) : Nat × Dev :=
  let s := Word.fld (wordAt ws 0) 0 13
  if d.stoUsed kind i then (1, d)
  else if d.stoBad kind i ws then (3, d)
  else if !d.sliceLive s (Word.fld (wordAt ws 0) 16 8) then (4, d)
  else
    match kind with
    | 0 =>
      if !d.poolRoom s 5 1 || decide (4096 ≤ Map.count d.sto.conns (fun _ c => c.target)) then (2, d)
      else (0, d.makeTarget i ws)
    | 1 =>
      if !d.poolRoom s 5 1 then (2, d)
      else match d.makeNvq i ws with
        | some d => (0, d)
        | none => (2, d)
    | _ => (0, { d with sto := { d.sto with namespaces := Map.put d.sto.namespaces i ws } })

/-- A connection that an NVQ or a namespace names as its target. -/
def Dev.targetNamed (d : Dev) (i : Nat) : Bool :=
  !(d.nvqsOf i).isEmpty || d.sto.namespaces.any (fun n => decide (Word.fld (wordAt n.2 3) 16 15 = i))

/-- What DESTROY answers; the connection closes, the namespace is gone (R362, R367). -/
def Dev.stoDestroy (d : Dev) (kind i : Nat) (ws : List Word) : Nat × Dev :=
  if kind = 0 then (if d.targetNamed i then (6, d) else (0, d.closeConn i))
  else if d.sliceState (Word.fld (wordAt ws 0) 0 13) ≠ 4 then (5, d)
  else if kind = 1 then (0, d.closeConn i)
  else (0, { d with sto := { d.sto with namespaces := Map.del d.sto.namespaces i } })

/-- How many words an object has in STO_OBJ_DATA. -/
def stoWords (kind : Nat) : Nat :=
  match kind with
  | 0 => 64
  | 1 => 9
  | _ => 5

/-- STO_OBJ_CMD written with an OP: the operation runs to its end; the register shows ERR, KIND, OP (R362). -/
def Dev.stoOperate (d : Dev) (v : Word) (op : Nat) : Dev :=
  let kind := Word.fld v 4 2
  let i := d.fld Reg.STO_OBJ_INDEX 0 15
  let (err, d) :=
    if kind = 3 ∨ (kind = 2 ∧ 16384 ≤ i) then (3, d)
    else if op = 2 then d.stoCreate kind i (d.regs (Reg.STO_OBJ_DATA 0) (stoWords kind))
    else match d.stoObject kind i with
      | none => (1, d)
      | some ws =>
        match op with
        | 1 => (0, d.setRegs (Reg.STO_OBJ_DATA 0) ((List.range 64).map (wordAt ws)))
        | 3 => d.stoDestroy kind i ws
        | _ =>
          if kind ≠ 2 ∧ d.connState i = 4 then
            (0, (d.setConn i (fun c => { c with lost := false })).setConnState i 1)
          else (0, d)
  d.setN Reg.STO_OBJ_CMD (err * 2 ^ 24 + kind * 16 + op)

/-- `STO_OBJ_READ` (R362). -/
def execStoObjRead (v : Word) (s : State) : Host.Outcome State Fault Refusal := act (fun d => d.stoOperate v 1) s
/-- `STO_OBJ_CREATE` (R362). -/
def execStoObjCreate (v : Word) (s : State) : Host.Outcome State Fault Refusal := act (fun d => d.stoOperate v 2) s
/-- `STO_OBJ_DESTROY` (R362). -/
def execStoObjDestroy (v : Word) (s : State) : Host.Outcome State Fault Refusal := act (fun d => d.stoOperate v 3) s
/-- `STO_OBJ_CONNECT` (R367). -/
def execStoObjConnect (v : Word) (s : State) : Host.Outcome State Fault Refusal := act (fun d => d.stoOperate v 4) s

/-! ## Connections (R367) -/

/-- The connection carries TCP: TRANSPORT of its target. -/
def Dev.overTcp (d : Dev) (k : Nat) : Bool :=
  match d.conn? k with
  | some c =>
    let t := if c.target then some c else d.conn? c.targetOf
    (match t with
     | some t => decide (Word.fld (wordAt t.words 0) 30 2 = 0)
     | none => false)
  | none => false

/-- Connect succeeded: LIVE with what the target answered; an NVQ only while its target is LIVE. -/
def Dev.connected (d : Dev) (k cntlid inCapsule depth : Nat) : Dev :=
  match d.conn? k with
  | none => d
  | some c =>
    if d.connState k ≠ 1 ∨ (c.target = false ∧ d.connState c.targetOf ≠ 2) then d
    else
      (d.setConn k (fun c => { c with
        words := if c.target then c.words.set 15 (wd cntlid) else c.words
        inCapsule := inCapsule, depth := depth, retrans := 0, lost := false })).setConnState k 2

/-- Set-up failed: the connection waits to try again. -/
def Dev.connectFailed (d : Dev) (k : Nat) : Dev := if d.connState k = 1 then d.setConnState k 3 else d

/-- The close has ended: the connection is FREE. -/
def Dev.closed (d : Dev) (k : Nat) : Dev := if d.connState k = 5 then d.freeConn k else d

/-- `CONNECT_SUCCESS` (R367). -/
def execConnectSuccess (k : Fin 32768) (cntlid : Fin 65536) (inCapsule : Nat) (depth : Fin 65536) (s : State) :
    Host.Outcome State Fault Refusal :=
  act (fun d => d.connected k.val cntlid.val inCapsule depth.val) s

/-- `CONNECT_FAIL` (R367). -/
def execConnectFail (k : Fin 32768) (s : State) : Host.Outcome State Fault Refusal := act (fun d => d.connectFailed k.val) s

/-- `CONNECTION_LOSS` (R367, R369): a bad header digest sends a TermReq (PDU type 2) and is counted. -/
def execConnectionLoss (k : Fin 32768) (badHeader : Bool) (s : State) : Host.Outcome State Fault Refusal :=
  act (fun d =>
    if d.connState k.val ≠ 2 then d
    else
      let d := if badHeader then (((d.stoCount 4).stoEvt 2 k.val).emit (.capsule k.val 2 [])) else d
      d.loseConn k.val) s

/-- `RECONNECT_EXPIRY` (R367). -/
def execReconnectExpiry (k : Fin 32768) (s : State) : Host.Outcome State Fault Refusal :=
  act (fun d => if d.connState k.val = 3 then (d.setConnState k.val 1).stoCount 3 else d) s

/-- `CTRL_LOSS_EXPIRY` (R367). -/
def execCtrlLossExpiry (k : Fin 32768) (s : State) : Host.Outcome State Fault Refusal :=
  act (fun d =>
    match d.conn? k.val with
    | some c => if c.lost ∧ (d.connState k.val = 3 ∨ d.connState k.val = 1) then d.setConnState k.val 4 else d
    | none => d) s

/-- `CLOSE_DONE` (R367). -/
def execCloseDone (k : Fin 32768) (s : State) : Host.Outcome State Fault Refusal := act (fun d => d.closed k.val) s

/-- A connection that is a target's. -/
def Dev.isTarget (d : Dev) (k : Nat) : Bool := ((d.conn? k).map StoConn.target).getD false

/-- `KEEP_ALIVE_SEND` (R367): the Fabrics command 0x18 on the admin queue, class 1. -/
def execKeepAliveSend (k : Fin 32768) (s : State) : Host.Outcome State Fault Refusal :=
  act (fun d => if d.isTarget k.val && decide (d.connState k.val = 2) then d.emit (.capsule k.val 4 [0x18]) else d) s

/-- `KATO_EXPIRY` (R367). -/
def execKatoExpiry (k : Fin 32768) (s : State) : Host.Outcome State Fault Refusal :=
  act (fun d => if d.isTarget k.val then d.loseConn k.val else d) s

/-- `TCP_RETRANSMIT_TIMEOUT` (R360): the eighth consecutive one loses the connection. -/
def execTcpRetransmitTimeout (k : Fin 32768) (s : State) : Host.Outcome State Fault Refusal :=
  act (fun d =>
    match d.conn? k.val with
    | some c =>
      if d.overTcp k.val && decide (d.connState k.val = 2) then
        (if 8 ≤ c.retrans + 1 then d.loseConn k.val else d.setConn k.val (fun c => { c with retrans := c.retrans + 1 }))
      else d
    | none => d) s

/-- `C2H_TERM_REQ` (R367). -/
def execC2hTermReq (k : Fin 32768) (s : State) : Host.Outcome State Fault Refusal := act (fun d => d.loseConn k.val) s

/-! ## Commands (R360, R366, R370, R371) -/

/-- The namespace an NSID of a slice names. -/
def Dev.nsNamed (d : Dev) (s nsid : Nat) : Option Nat :=
  Map.findKey? d.sto.namespaces (fun _ w => decide (Word.fld (wordAt w 0) 0 13 = s ∧ (wordAt w 1).toNat = nsid))

/-- The bytes an entry moves: blocks with their metadata, or ranges of Dataset Management; a Write Zeroes or Flush none. -/
def nvmeBytes (e ns : List Word) : Nat :=
  match Word.fld (wordAt e 0) 0 8 with
  | 1 | 2 => (Word.fld (wordAt e 12) 0 16 + 1) * (nsLba ns + nsMeta ns)
  | 9 => (Word.fld (wordAt e 10) 0 8 + 1) * 16
  | _ => 0

/-- Reserved fields of a submission entry, fused commands, a metadata pointer. -/
def nvmeReserved (e : List Word) : Bool :=
  decide (Word.fld (wordAt e 0) 8 6 ≠ 0 ∨ 2 ≤ Word.fld (wordAt e 0) 14 2 ∨ wordAt e 2 ≠ 0 ∨ wordAt e 3 ≠ 0 ∨ wordAt e 4 ≠ 0 ∨ wordAt e 5 ≠ 0)

/-- A Write Zeroes on an encrypting namespace: carried out as a Write of encrypted zeros (R370). -/
def zeroWrite (e ns : List Word) : Bool := decide (Word.fld (wordAt e 0) 0 8 = 8) && nsEncrypts ns

/-- The bytes of a Write of zeros. -/
def zeroBytes (e ns : List Word) : Nat := (Word.fld (wordAt e 12) 0 16 + 1) * (nsLba ns + nsMeta ns)

/-- A descriptor type the device takes: Data Block, Segment, Last Segment. -/
def sglOk (t : Nat) : Bool := [0x00, 0x20, 0x30].contains t

/-- The local check an entry fails: SOURCE, CODE, status (R371). `walked` is what the data pointer led to: descriptor type,
address, length; `code` how the host reads of it ended. -/
def Dev.nvmeCheck (d : Dev) (c : StoConn) (e : List Word) (ns : Option Nat) (walked : List (Nat × Nat × Nat)) (code : Nat) :
    Option (Nat × Nat × Nat) :=
  let op := Word.fld (wordAt e 0) 0 8
  let nw := (ns.bind (fun i => Map.get? d.sto.namespaces i)).getD []
  let n := nvmeBytes e nw
  let sgl := decide (Word.fld (wordAt e 0) 14 2 = 1)
  if !([0, 1, 2, 8, 9].contains op) then some (5, 0, nvmeStatus 0 0x01 true)
  else if nvmeReserved e then some (5, 0, nvmeStatus 0 0x02 true)
  else if ns = none ∨ Word.fld (wordAt nw 3) 16 15 ≠ c.targetOf then some (5, 0, nvmeStatus 0 0x0B true)
  else if 2 ^ 20 < n ∨ (zeroWrite e nw = true ∧ 2 ^ 20 < zeroBytes e nw) then some (5, 0, nvmeStatus 0 0x02 true)
  else if n ≠ 0 ∧ sgl = true ∧ (!sglOk (Word.fld (wordAt e 9) 24 8) ∨ (walked.any (fun w => !sglOk w.1)) = true) then
    some (5, 0, nvmeStatus 0 0x11 true)
  else if code ≠ 0 then some (1, code, nvmeStatus 0 0x04 false)
  else if nsEncrypts nw ∧ (op = 1 ∨ op = 2 ∨ op = 8) ∧ (d.saLive (nsSa nw)).isNone then some (2, 0x12, nvmeStatus 0 0x04 false)
  else none

/-- The lowest device CID that is free on a connection. -/
def StoConn.freeCid (c : StoConn) : Nat := ((List.range 256).find? (fun i => (Map.get? c.cmds i).isNone)).getD 0

/-- The next entry of an NVQ may be fetched: its connection LIVE with a free CID, or FAILED (R366, R367). -/
def Dev.nvmeReady (d : Dev) (k : Nat) (c : StoConn) : Bool :=
  (decide (d.connState k = 2) && decide (d.connOut k < Nat.min 256 c.depth)) || decide (d.connState k = 4)

/-- An NVQ's entry fetched: consumed, counted, given a CID, checked, and sent or failed (R366, R371). -/
def Dev.nvmeFetch (d : Dev) (k q : Nat) (c : StoConn) (e : List Word) (walked : List (Nat × Nat × Nat)) (data : List Byte)
    (code : Nat) : Dev :=
  let nsi := d.nsNamed c.slice (wordAt e 1).toNat
  let nw := (nsi.bind (fun i => Map.get? d.sto.namespaces i)).getD []
  let op := Word.fld (wordAt e 0) 0 8
  let bad := if d.connState k = 4 then some (3, 0, hostPathing true) else d.nvmeCheck c e nsi walked code
  let n := nvmeBytes e nw
  let writes := decide (op = 1 ∨ op = 9)
  if bad.isNone && writes && decide (data.length ≠ n) then d
  else
    let (_, d) := d.consume q
    let d := d.stoCount 0
    let cid := c.freeCid
    let zw := zeroWrite e nw
    let held : List Byte := if zw then List.replicate (zeroBytes e nw) 0 else if writes then data else if op = 2 then List.replicate n 0 else []
    let e' := if zw then (e.set 0 (Word.setFld (wordAt e 0) 0 8 1)).set 12 (Word.setBit (wordAt e 12) 25 false) else e
    let m : StoCmd :=
      { entry := if bad.isNone then e' else e, ns := nsi.getD 0, lba := cat64 (wordAt e 10) (wordAt e 11)
        blocks := Word.fld (wordAt e 12) 0 16 + 1, frags := walked.map (fun w => w.2), data := if bad.isNone then held else []
        units := 0, sent := false, r2t := [], placed := 0, resp := none, done := false }
    let d := d.setConn k (fun c => { c with cmds := Map.put c.cmds cid m })
    match bad with
    | some (source, cd, status) =>
      let d := d.when (decide (source = 1 ∧ cd = 0x24)) (fun d => d.cork c.slice 7)
      d.failCmd k cid source cd status false
    | none =>
      let d := if nsEncrypts nw && (decide (op = 1) || zw) then d.cipherUnits k cid m true else d
      d.sendCmd k cid

/-- `NVME_COMMAND_FETCH` (R366). -/
def execNvmeCommandFetch (k : Fin 32768) (entry : List Word) (walked : List (Fin 256 × Nat × Nat)) (data : List Byte)
    (code : Fin 256) (s : State) : Host.Outcome State Fault Refusal :=
  act (fun d =>
    match d.conn? k.val with
    | some c =>
      (match c.target, d.queue? 0 c.slice c.queue with
       | false, some q =>
         if d.nvmeReady k.val c && d.fetchable q then
           d.nvmeFetch k.val q c entry (walked.map (fun w => (w.1.val, w.2.1, w.2.2))) data code.val
         else d
       | _, _ => d)
    | none => d) s

/-- A target's completion: a command failed before frees its CID; another completes once its data have been moved. -/
def Dev.stoResponse (d : Dev) (k : Nat) (words : List Word) : Dev :=
  let cid := Word.fld (wordAt words 3) 0 16
  match (d.conn? k).bind (fun c => Map.get? c.cmds cid) with
  | none => d
  | some m =>
    let d := d.setConn k (fun c => { c with retrans := 0 })
    if !m.sent then d
    else if m.done then d.endCmd k cid false
    else (d.setConn k (fun c => { c with cmds := Map.put c.cmds cid { m with resp := some words } })).settleCmd k cid

/-- `NVME_RESPONSE` (R366). -/
def execNvmeResponse (k : Fin 32768) (words : List Word) (s : State) : Host.Outcome State Fault Refusal :=
  act (fun d => if d.connState k.val = 2 then d.stoResponse k.val words else d) s

/-- Read data placed: into the host's buffers, or kept until all are there and sent through the cipher (R368, R370). -/
def Dev.placeData (d : Dev) (k cid : Nat) (c : StoConn) (m : StoCmd) (off : Nat) (bytes : List Byte) : Dev :=
  let enc := nsEncrypts (d.nsOf m)
  let m := { m with placed := m.placed + bytes.length, data := if enc then patch m.data off bytes else m.data }
  let d := d.setConn k (fun c => { c with retrans := 0, cmds := Map.put c.cmds cid m })
  if !enc then d.scatter c.slice (spanOf m.frags off bytes.length) bytes
  else if m.placed = m.data.length then d.cipherUnits k cid m false
  else d

/-- `C2H_DATA` (R369): a bad data digest fails the command; a SUCCESS flag stands for its completion. -/
def execC2hData (k : Fin 32768) (cid : Fin 256) (off : Nat) (bytes : List Byte) (digestOk success : Bool) (s : State) :
    Host.Outcome State Fault Refusal :=
  act (fun d =>
    match d.conn? k.val with
    | none => d
    | some c =>
      match Map.get? c.cmds cid.val with
      | none => d
      | some m =>
        if d.connState k.val ≠ 2 ∨ !m.sent ∨ m.done ∨ Word.fld (wordAt m.entry 0) 0 8 ≠ 2 then d
        else if !digestOk then
          (((d.stoCount 5).stoEvt 2 k.val).dropUnits k.val (some cid.val)).failCmd k.val cid.val 3 0 (nvmeStatus 0 0x22 false) (!success)
        else if m.data.length < m.placed + bytes.length ∨ m.data.length < off + bytes.length then d
        else
          let d := d.placeData k.val cid.val c m off bytes
          if success then d.stoResponse k.val [0, 0, 0, wd cid.val] else d) s

/-- `READY_TO_TRANSFER` (R360): at most 16 outstanding, of bytes the write has. -/
def execReadyToTransfer (k : Fin 32768) (cid : Fin 256) (off len : Nat) (s : State) : Host.Outcome State Fault Refusal :=
  act (fun d =>
    match (d.conn? k.val).bind (fun c => Map.get? c.cmds cid.val) with
    | none => d
    | some m =>
      if d.connState k.val ≠ 2 ∨ !d.overTcp k.val ∨ !m.sent ∨ m.done ∨ !m.writes ∨ m.data.length < off + len ∨ 16 ≤ m.r2t.length then d
      else
        (d.setConn k.val (fun c => { c with retrans := 0, cmds := Map.put c.cmds cid.val { m with r2t := m.r2t ++ [(off, len)] } })).sendCmd
          k.val cid.val) s

/-- `NVME_COMMAND_TIMEOUT` (R371). -/
def execNvmeCommandTimeout (k : Fin 32768) (cid : Fin 256) (s : State) : Host.Outcome State Fault Refusal :=
  act (fun d =>
    match (d.conn? k.val).bind (fun c => Map.get? c.cmds cid.val) with
    | none => d
    | some m =>
      if d.connState k.val ≠ 2 ∨ m.done then d
      else (((d.stoCount 2).stoEvt 3 k.val).failCmd k.val cid.val 4 0 (hostPathing false) false).loseConn k.val) s

/-- Commands of a slice whose completion is not yet written. -/
def Dev.stoBusy (d : Dev) (s : Nat) : List Nat :=
  Map.keys (Map.sift d.sto.conns (fun _ c => decide (c.slice = s) && c.cmds.any (fun m => !m.2.done)))

/-- `STO_QUIESCE_EXPIRY` (R372): QUIESCE_MS has passed at step 5 of the slice's walk. -/
def execStoQuiesceExpiry (slice : Fin 8192) (s : State) : Host.Outcome State Fault Refusal :=
  act (fun d =>
    match Map.get? d.slc.walks slice.val with
    | some w => if w.step = 5 then (d.stoBusy slice.val).foldl (fun d k => d.loseConn k) d else d
    | none => d) s

/-! ## Channel 0x0D (R315) -/

/-- `STO_CHANNEL_REQUEST` (R315): a connection's state read, or what the transport program reports of it. -/
def execStoChannelRequest (t : Fin 512) (op : Option StoOp) (s : State) : Host.Outcome State Fault Refusal :=
  act (fun d => d.serve t.val 0x0D (fun _ d => match op with
    | none => (d, accBadOp, [])
    | some (.read k) => (d, accOk, (d.reg (Reg.STO_CONN_STATEk k.val)).bytes)
    | some (.update k ev) =>
      (match ev with
       | .success cntlid inCapsule depth => d.connected k.val cntlid.val inCapsule depth.val
       | .fail => d.connectFailed k.val
       | .loss => d.loseConn k.val
       | .closed => d.closed k.val, accOk, []))) s

end Sys2Proof.Machine
end

