-- ==== Sys2Proof/Machine/Slices.lean ====
section
/-! DEFINITION. The commands of the slices: corks, the quiesce walk, the fence, the opcodes 0x0100 to 0x0108 (R169 to R191). -/

namespace Sys2Proof.Machine

/-! ## Corking (R176 to R178, R191) -/

/-- SLC_CORK written: cork with cause 9 where the incarnation matches. -/
def Dev.corkWrite (d : Dev) (v : Word) : Dev :=
  let s := Word.fld v 0 13
  if Word.bit v 31 ∧ d.sliceState s ≠ 0 ∧ d.incarnation s = Word.fld v 16 8 then d.cork s 9 else d

/-- `SLC_CORK_WRITE` (R191). -/
def execSlcCorkWrite (v : Word) (s : State) : Host.Outcome State Fault Refusal := act (fun d => d.corkWrite v) s

/-- A cork cause is still in force (R178); that of a fault, recorded or not, until the slice's reset (R478; log entry 71). -/
def Dev.causeHolds (d : Dev) (s : Nat) : Bool :=
  let f := d.home s
  d.slc.contained.contains s ||
    match d.fld (Reg.SLC_SLICE_STATUS s 0) 25 4 with
    | 1 | 2 | 3 => !(d.fn f).bme || !d.linkUp (d.linkOf f)
    | _ => false

/-- The slice's entries in its home function's held store. -/
def Dev.heldOf (d : Dev) (s : Nat) : List HeldCq := (d.fn (d.home s)).heldStore.filter (fun h => decide (h.slice = s))

/-- The slice's entries leave the held store. -/
def Dev.dropHeld (d : Dev) (s : Nat) : Dev :=
  let f := d.home s
  let d := d.setFn f (fun p => { p with heldStore := p.heldStore.filter (fun h => decide (h.slice ≠ s)) })
  d.setN (Reg.PCE_HELDf f) (d.fn f).heldStore.length

/-- Held entries written once the function may issue requests, and what was spilled meanwhile (R161, R212). -/
def Dev.writeHeld (d : Dev) (s : Nat) : Dev :=
  if !d.canIssue (d.home s) then d
  else
    let d := (d.heldOf s).foldl (fun d h => (d.cqPut h.cq h.words).showFull h.cq) (d.dropHeld s)
    (d.sliceQueues 1 s).foldl (fun d n => match d.queue? 1 s n with
      | some q => (d.spillDrain q 65).showFull q
      | none => d) d

/-- Held entries discarded and counted (R161). -/
def Dev.discardSlice (d : Dev) (s : Nat) : Dev := (d.dropHeld s).pceCount (d.home s) 3 (d.heldOf s).length

/-- The slice's walk record goes. -/
def Dev.dropWalk (d : Dev) (s : Nat) : Dev := { d with slc := { d.slc with walks := Map.del d.slc.walks s } }

/-- STATE of a slice set. -/
def Dev.setSlice (d : Dev) (s st : Nat) : Dev := d.setFld (Reg.SLC_SLICE_STATUS s 0) 29 3 st

/-- Its cork cause cleared. -/
def Dev.clearCause (d : Dev) (s : Nat) : Dev := d.setFld (Reg.SLC_SLICE_STATUS s 0) 25 4 0

/-- 0x0105 (R178). -/
def runSliceUncork (c : Cmd) (d : Dev) : Dev × Option Res :=
  let s := c.slice
  let cause := if d.slc.contained.contains s then 8 else d.fld (Reg.SLC_SLICE_STATUS s 0) 25 4
  if d.sliceState s = 1 then (d, some (Res.ok []))
  else if d.causeHolds s then (d, some ⟨stBadParam, [wd cause], false⟩)
  else ((((((d.clearCause s).dropWalk s).setSlice s 1).writeHeld s).slcEvt s 1), some (Res.ok []))

/-- `SLICE_UNCORK`. -/
def execSliceUncork (m : Fin 16) (tag : Fin 4096) (gen : Fin 16) (s : State) : Host.Outcome State Fault Refusal :=
  opStep 0x0105 runSliceUncork m.val tag.val gen.val s

/-! ## The quiesce walk (R179 to R181) -/

/-- BLOCK of each step: its row in R12, counted from 0. -/
def stepBlocks : List Nat := [4, 8, 11, 12, 13, 6, 16, 14, 5, 3]

/-- The report of R181. -/
def Dev.walkReport (d : Dev) (s : Nat) : List Word :=
  let w := (Map.get? d.slc.walks s).getD ⟨11, [], []⟩
  ((List.range 10).zip stepBlocks).flatMap (fun (i, b) =>
    let res := if i + 1 < w.step then 0 else if i + 1 = w.step then 1 else 2
    [wd (b * 2 ^ 27 + (i + 1) * 2 ^ 23 + res), wd (sat16 (w.completed.getD i 0) * 65536 + sat16 (w.failed.getD i 0))])

/-- A frame at one of these places belongs to the slice. -/
def Dev.sliceFrames (d : Dev) (s : Nat) (p : Place → Bool) : List Nat :=
  (d.framesAt p).filter (fun id => match d.frame? id with
    | some f => decide (f.owner = some s)
    | none => false)

/-- Places up to the end of the classification, and places of a frame that has yet to leave the Cellar. -/
def placeRun : Place → Bool
  | .press | .fragHold | .eofHold | .keyed | .forward | .recirc _ | .offload => true
  | _ => false
def placeLeaves : Place → Bool
  | .toNode _ | .queued _ _ | .sending _ | .copy _ _ => true
  | _ => false

/-- A step of the walk is complete (R180). -/
def Dev.stepDone (d : Dev) (s : Nat) : Nat → Bool
  | 2 => (d.sliceFrames s placeRun).isEmpty
  | 3 => d.noThreadCharges s
  | 4 => !d.cry.msgs.any (fun m => decide (m.2.owner = some s))
  | 5 => (d.stoBusy s).isEmpty
  | 6 => (d.sliceChans s).all (fun c => decide (d.chState c ≠ 1 ∧ d.chState c ≠ 2))
  | 8 => (d.sliceFrames s placeLeaves).isEmpty
  | 9 => !d.rng.items.any (fun i => decide (i.2.slice = s)) &&
      (d.sliceQueues 1 s).all (fun n => match d.queue? 1 s n with
        | some q => (d.spillOf q).isEmpty
        | none => true)
  | 10 => !d.pce.reads.any (fun r => decide (r.2.slice = some s ∧ r.2.state = .outstanding)) && !d.pce.pageReqs.any (fun p => decide (p.1 = s))
  | _ => true

/-- `n` items of the slice failed in the step under way. -/
def Dev.walkFailed (d : Dev) (s : Nat) : Nat → Dev
  | 0 => d
  | n + 1 => (d.walkCount s false).walkFailed s n

/-- What a step does as it starts: FPC discards the inbound messages of the slice, DMA stops its channels, RNG returns the
receive buffers. -/
def Dev.stepStart (d : Dev) (s : Nat) : Nat → Dev
  | 3 => let (d, n) := d.fpcQuiesce s
         d.walkFailed s n
  | 6 => (d.sliceChans s).foldl (fun d c => if d.chState c = 2 then d else d.gracefulStop c) d
  | 9 => (Map.keys (Map.sift d.rng.items (fun _ i => decide (i.slice = s ∧ (i.phase = .posted ∨ i.phase = .stamping))))).foldl
      (fun d id => match Map.get? d.rng.items id with
        | some i => d.endItem id (if i.phase = .posted then 0x03 else 0x40)
        | none => d) d
  | _ => d

/-- The walk has ended: QUIESCED; every SLICE_QUIESCE that waits for it replies (R181). -/
def Dev.walkEnd (d : Dev) (s : Nat) : Dev :=
  let d := (d.setSlice s 4).slcEvt s 2
  let rep := d.walkReport s
  (d.cmd.cmds.filter (fun c => decide (c.opcode = 0x0101 ∧ c.phase = .started ∧ c.slice = s))).foldl
    (fun d c => d.finish c.master c.tag c.gen (Res.ok rep)) d

/-- `QUIESCE_STEP_DONE` (R180): the next step starts, or the walk ends. -/
def execQuiesceStepDone (slice : Fin 8192) (s : State) : Host.Outcome State Fault Refusal :=
  act (fun d =>
    let sl := slice.val
    match Map.get? d.slc.walks sl with
    | none => d
    | some w =>
      if d.sliceState sl ≠ 3 ∨ 10 < w.step ∨ d.stepDone sl w.step = false then d
      else
        let d := { d with slc := { d.slc with walks := Map.put d.slc.walks sl { w with step := w.step + 1 } } }
        if w.step = 10 then d.walkEnd sl else d.stepStart sl (w.step + 1)) s

/-- 0x0101 (R179, R181). -/
def runSliceQuiesce (c : Cmd) (d : Dev) : Dev × Option Res :=
  let s := c.slice
  match d.sliceState s with
  | 4 => (d, some (Res.ok (d.walkReport s)))
  | 3 => (d, none)
  | _ =>
    let d := { d with slc := { d.slc with walks := Map.put d.slc.walks s ⟨1, List.replicate 10 0, List.replicate 10 0⟩ } }
    (d.setSlice s 3, none)

/-- `SLICE_QUIESCE`. -/
def execSliceQuiesce (m : Fin 16) (tag : Fin 4096) (gen : Fin 16) (s : State) : Host.Outcome State Fault Refusal :=
  opStep 0x0101 runSliceQuiesce m.val tag.val gen.val s

/-! ## Creation (R171 to R173) -/

/-- Slices in a state other than FREE. -/
def Dev.usedSlices (d : Dev) : List Nat := (List.range 4).flatMap d.homed

/-- Quotas of R171's words 2 to 7 above their device totals. -/
def quotaOver (c : Cmd) : Bool :=
  decide (131072 < c.pf 2 0 18 ∨ 2 ^ 20 < c.pf 3 0 21 ∨ 1024 < c.pf 4 17 11 ∨ 65536 < c.pf 4 0 17 ∨ 32768 < c.pf 5 16 16 ∨
    64 < c.pf 5 8 7 ∨ 2 ^ 22 < c.pf 6 0 23 ∨ 256 < c.pf 7 23 9 ∨ 4096 < c.pf 7 10 13)

/-- Reserved bits of R171. -/
def createReserved (c : Cmd) : Bool :=
  decide (c.pf 0 31 1 ≠ 0 ∨ c.pf 0 22 6 ≠ 0 ∨ c.pf 1 29 2 ≠ 0 ∨ c.pf 1 11 5 ≠ 0 ∨ c.pf 2 18 14 ≠ 0 ∨ c.pf 3 21 11 ≠ 0 ∨ c.pf 4 28 4 ≠ 0 ∨
    c.pf 5 15 1 ≠ 0 ∨ c.pf 5 0 8 ≠ 0 ∨ c.pf 6 23 9 ≠ 0 ∨ c.pf 7 0 10 ≠ 0 ∨ c.pf 8 16 16 ≠ 0 ∨ c.p 9 ≠ 0 ∨ c.p 10 ≠ 0 ∨ c.p 11 ≠ 0)

/-- The first row of R172, and the second. -/
def sliceCreateBad (c : Cmd) (d : Dev) : Bool :=
  decide (c.pf 1 0 11 = 0 ∨ 1024 < c.pf 1 0 11) || quotaOver c || !(d.fn (c.pf 0 20 2)).present || createReserved c ||
  decide (c.pf 0 29 1 = 1 ∧ c.pf 0 0 20 = 0)

/-- The slices that hold a PASID on a home function: live ones, or those whose fence is open. -/
def Dev.pasidHeld (d : Dev) (home pasid : Nat) (fenced : Bool) : Bool :=
  (d.homed home).any (fun s => decide (d.pasid s = pasid) && (decide (d.sliceState s = 5) == fenced))

/-- What refuses a creation, in the order of R172; the slice ID it takes. -/
def Dev.createCheck (d : Dev) (c : Cmd) : Nat × Nat :=
  let home := c.pf 0 20 2
  let pasid := c.pf 0 0 20
  let qp := c.pf 1 0 11
  let byId := decide (c.pf 1 31 1 = 1)
  let want := c.pf 1 16 13
  if sliceCreateBad c d ∨ d.pasidHeld home pasid false then (stBadParam, 0)
  else if (byId && decide (d.sliceState want = 5)) || d.pasidHeld home pasid true then (stBusy, 0)
  else
    match (if byId then (if d.sliceState want = 0 then some want else none) else lowestFree d.usedSlices 8192) with
    | none => (stNoResource, 0)
    | some s => if d.regN (poolReg 0) < qp then (stNoResource, 0) else (stOK, s)

/-- Groups 2 and 7: the slice table and the EBS. -/
def groupSlice : Nat := 2 ^ 2 + 2 ^ 7

/-- 0x0100 (R171): quotas and limit staged and strobed, the slice ACTIVE. -/
def runSliceCreate (c : Cmd) (d : Dev) : Dev × Option Res :=
  let (st, s) := d.createCheck c
  if st ≠ stOK then (d, some (Res.st st))
  else
    let ws := (List.range 6).map (fun i => (Reg.SLC_QUOTA2 s + 4 * i, c.p (2 + i)))
    match d.stageStrobe c groupSlice ((Reg.EBS_SLICE_LIMITs s, c.p 8) :: ws) (Res.ok [wd (s * 65536 + d.incarnation s)]) with
    | (d, some r) =>
      if r.status = stBadParam then (d, some r)
      else
        let w0 := Word.setFld (wd (2 ^ 29 + c.pf 0 0 22)) 22 3 (c.pf 0 28 1 * 4 + c.pf 0 29 1 * 2 + c.pf 0 30 1)
        let d := (d.setReg (Reg.SLC_SLICE_STATUS s 0) w0).setN (Reg.SLC_SLICE_STATUS s 1) (d.incarnation s * 2 ^ 24 + c.pf 1 0 11)
        (d.poolTake s 0 (c.pf 1 0 11), some r)
    | x => x

/-- `SLICE_CREATE`. -/
def execSliceCreate (m : Fin 16) (tag : Fin 4096) (gen : Fin 16) (s : State) : Host.Outcome State Fault Refusal :=
  opStep 0x0100 runSliceCreate m.val tag.val gen.val s

/-! ## Reset, destruction, the fence (R182 to R184) -/

/-- The dirty set of a slice emptied. -/
def Dev.emptyDirty (d : Dev) (s : Nat) : Dev :=
  let n := (Map.getD d.slc.dirty s []).length
  ({ d with slc := { d.slc with dirty := Map.del d.slc.dirty s } } : Dev).setN Reg.SLC_DIRTY_USED (d.regN Reg.SLC_DIRTY_USED - n)

/-- Its log stopped: set empty, OVERFLOW clear. -/
def Dev.stopDirty (d : Dev) (s : Nat) : Dev := (d.emptyDirty s).setFld (Reg.SLC_SLICE_STATUS s 1) 22 2 0

/-- Its statistics cleared. -/
def Dev.clearSliceStats (d : Dev) (s : Nat) : Dev := (List.range 16).foldl (fun d i => d.setN (Reg.SLC_STATSs s i) 0) d

/-- A queue emptied: as at its creation (R182). -/
def Dev.emptyQueue (d : Dev) (cq q : Nat) : Dev :=
  let d := (d.setN (Reg.RNG_QSTATE0 cq q) 0).setN (Reg.RNG_QSTATE1 cq q) (2 ^ 30)
  let r := d.rng
  { d with rng := if cq = 0 then
      { r with pending := r.pending.filter (· ≠ q), fetchTo := Map.del r.fetchTo q, stopped := r.stopped.filter (· ≠ q)
               angled := r.angled.filter (· ≠ q), gateTail := Map.del r.gateTail q }
    else { r with spill := Map.del r.spill q, delay := Map.del r.delay q, stopped := r.stopped.filter (· ≠ 131072 + q) } }

/-- Every queue of a slice by an operation. -/
def Dev.eachQueue (d : Dev) (s : Nat) (f : Dev → Nat → Nat → Nat → Dev) : Dev :=
  (List.range 2).foldl (fun d cq => (d.sliceQueues cq s).foldl (fun d n => match d.queue? cq s n with
    | some q => f d cq n q
    | none => d) d) d

/-- The slice no longer contained by a fault (R478). -/
def Dev.uncontain (d : Dev) (s : Nat) : Dev := { d with slc := { d.slc with contained := d.slc.contained.filter (· ≠ s) } }

/-- 0x0102 (R182). -/
def runSliceReset (c : Cmd) (d : Dev) : Dev × Option Res :=
  let s := c.slice
  if d.sliceState s ≠ 4 then (d, some (Res.st stNotQuiesced))
  else
    let d := (d.eachQueue s (fun d cq _ q => d.emptyQueue cq q)).discardSlice s
    let d := (((d.stopDirty s).clearSliceStats s).clearCause s).uncontain s
    ((d.dropWalk s).setSlice s 1, some (Res.ok []))

/-- `SLICE_RESET`. -/
def execSliceReset (m : Fin 16) (tag : Fin 4096) (gen : Fin 16) (s : State) : Host.Outcome State Fault Refusal :=
  opStep 0x0102 runSliceReset m.val tag.val gen.val s

/-- A register takes a value at once, with its block's effect: nothing staged stands over it. -/
def Dev.force (d : Dev) (k : Nat) (v : Word) : Dev :=
  let d := d.beforeLate k
  let old := d.reg k
  (((d.setReg k v).markExpert k false).unstage k).hook k old

/-- Order 2 of R183: message store entries of the slice invalidated. -/
def Dev.dropIms (d : Dev) (s : Nat) : Dev :=
  let b := Reg.PCE_IMS_ENTRY 0 3
  let stride := Reg.PCE_IMS_ENTRY 1 3 - b
  let ks := d.rf.act.filterMap (fun p =>
    if b ≤ p.1 ∧ p.1 < b + 131072 * stride ∧ (p.1 - b) % stride = 0 ∧ Word.bit p.2 31 = true ∧ Word.fld p.2 0 13 = s then some p.1 else none)
  (ks.foldl (fun d k => d.setBit k 31 false) d).poolFreeAll s 1

/-- Order 6: its shaper nodes detached and freed, its receive node cleared. -/
def Dev.dropNodes (d : Dev) (s : Nat) : Dev :=
  let ns := d.listedNodes.filter (fun n => match d.nodeOwner n with
    | some o => decide (o.1 = s)
    | none => false)
  let d := ns.foldl (fun d n => (List.range 5).foldl (fun d i =>
    let k := Reg.SCH_NCFG0 n + 4 * i
    d.force k (if i = 3 then Word.setBit (resetOf k) 31 false else resetOf k)) d) d
  (d.force (Reg.SCH_RXNODEs s) (resetOf (Reg.SCH_RXNODEs s))).poolFreeAll s 4

/-- Order 7: streams, aligner groups, subscriptions and publications of the slice. -/
def Dev.dropBus (d : Dev) (s : Nat) : Dev :=
  let free (t : Nat) (d : Dev) (i : Nat) : Dev :=
    let (b, stride, _, _) := pbuTable t
    (d.force (b + stride * i) (Word.setBit (d.reg (b + stride * i)) 31 false)).setUnit t i none
  let held (t i : Nat) : Bool := decide (Map.get? d.pbu.units (4096 * t + i) = some s)
  let d := (d.grpLive.filter (fun g => decide (d.grpSlice g = s))).foldl (free 1) d
  let d := (d.svLive.filter (fun i => held 0 i || decide ((d.svSlice i).map Prod.fst = some s))).foldl (free 0) d
  let d := (d.subLive.filter (fun i => held 2 i || decide (d.bit (Reg.PBU_SUB i 3) 23 = true ∧ d.fld (Reg.PBU_SUB i 3) 0 13 = s))).foldl (free 2) d
  (d.pubLive.filter (fun i => held 3 i || decide (d.fld (Reg.PBU_PUB i 0) 0 13 = s))).foldl (free 3) d

/-- Order 9: its energy joins the device's; the final count of µJ. -/
def Dev.closeEnergy (d : Dev) (s : Nat) : Nat × Dev :=
  let e := d.reg64 (Reg.EBS_SLICE_ENERGYs s 0)
  let pj := Map.getD d.ebs.accum s 0
  let d := (d.addEnergy none (e * 1000000 + pj)).set64 (Reg.EBS_SLICE_ENERGYs s 0) 0
  let d := { d with ebs := { d.ebs with
    accum := Map.del d.ebs.accum s, sliceNow := Map.del d.ebs.sliceNow s, sliceSum := Map.del d.ebs.sliceSum s } }
  (e, d.force (Reg.EBS_SLICE_LIMITs s) 0)

/-- Orders 1 to 7 of R183. -/
def Dev.freeSlice (d : Dev) (s : Nat) : Dev :=
  let d := d.eachQueue s (fun d cq n _ => d.freeQueue cq s n)
  let d := (d.poolFreeAll s 0).discardSlice s |>.dropIms s
  let ups := (List.range 4).filter d.linkUp
  let d := ups.foldl (fun d l => d.emit (.atsInvalidate ((d.linkFns l).headD 0) (d.pasid s))) d
  let d := { d with
    pce := { d.pce with atc := d.pce.atc.filter (fun p => decide (p.1 ≠ s)), pageReqs := d.pce.pageReqs.filter (fun p => decide (p.1 ≠ s)) }
    slc := { d.slc with fences := Map.put d.slc.fences s ⟨false, ups, false, d.home s, d.pasid s⟩ } }
  let d := (d.sliceChans s).foldl (fun d c => (d.chDisable c 0x41).force (Reg.DMA_CHc_OWNER c) 0) d
  let d := d.poolFreeAll s 2
  let d := ({ d with cry := { d.cry with sas := Map.sift d.cry.sas (fun _ a => decide (a.slice ≠ s)) } } : Dev).poolFreeAll s 3
  let conns := Map.keys (Map.sift d.sto.conns (fun _ c => decide (c.slice = s)))
  let d := conns.foldl (fun d k => (d.closeConn k).freeConn k) d
  let d := { d with sto := { d.sto with namespaces := Map.sift d.sto.namespaces (fun _ w => decide (Word.fld (wordAt w 0) 0 13 ≠ s)) } }
  (d.dropNodes s).dropBus s

/-- A Stop Marker for the PASID sent, once the home function may send (R184). -/
def Dev.sendStop (d : Dev) (s : Nat) : Dev :=
  match Map.get? d.slc.fences s with
  | some f =>
    if f.stopSent = true ∨ d.canIssue f.home = false then d
    else ({ d with slc := { d.slc with fences := Map.put d.slc.fences s { f with stopSent := true } } } : Dev).request f.home
      (.stopMarker f.home f.pasid)
  | none => d

/-- 0x0103 (R183): the ten orders, and the slice FENCED. The reply: the fence is open, the final energy. -/
def runSliceDestroy (c : Cmd) (d : Dev) : Dev × Option Res :=
  let s := c.slice
  if d.sliceState s ≠ 4 then (d, some (Res.st stNotQuiesced))
  else
    let d := d.freeSlice s
    let d := (((d.sweepRules s (d.incarnation s)).sweepFwd s (d.incarnation s)).poolFreeAll s 6)
    let d := { d with slc := { d.slc with fences := Map.mapVals d.slc.fences (fun i f => if i = s then { f with sweepDone := true } else f) } }
    let (e, d) := d.closeEnergy s
    let d := ((((d.stopDirty s).clearSliceStats s).uncontain s).dropWalk s).setSlice s 5
    ((d.setBit (Reg.SLC_SLICE_STATUS s 1) 21 true).sendStop s, some (Res.ok [0, lo32 e, hi32 e]))

/-- `SLICE_DESTROY`. -/
def execSliceDestroy (m : Fin 16) (tag : Fin 4096) (gen : Fin 16) (s : State) : Host.Outcome State Fault Refusal :=
  opStep 0x0103 runSliceDestroy m.val tag.val gen.val s

/-- The four conditions of R184. -/
def Dev.fenceClear (d : Dev) (s : Nat) (f : Fence) : Bool :=
  f.sweepDone && f.atsLinks.isEmpty && f.stopSent && !d.pce.reads.any (fun r => decide (r.2.slice = some s))

/-- `FENCE_CLOSE` (R184): FREE, with the next incarnation; quotas read 0. -/
def execFenceClose (slice : Fin 8192) (s : State) : Host.Outcome State Fault Refusal :=
  act (fun d =>
    let sl := slice.val
    let d := d.sendStop sl
    match Map.get? d.slc.fences sl with
    | none => d
    | some f =>
      if d.sliceState sl ≠ 5 ∨ d.fenceClear sl f = false then d
      else
        let next := (d.incarnation sl + 1) % 256
        let d := (d.setN (Reg.SLC_SLICE_STATUS sl 0) 0).setN (Reg.SLC_SLICE_STATUS sl 1) (next * 2 ^ 24)
        let d := (List.range 6).foldl (fun d i => d.force (Reg.SLC_QUOTA2 sl + 4 * i) 0) d
        ({ d with slc := { d.slc with fences := Map.del d.slc.fences sl } } : Dev).slcEvt sl 3) s

/-! ## Status and the dirty log (R185 to R188) -/

/-- 0x0104 (R185). -/
def runSliceStatus (c : Cmd) (d : Dev) : Dev × Option Res :=
  let s := c.slice
  (d, some (Res.ok (d.reg (Reg.SLC_SLICE_STATUS s 0) :: d.reg (Reg.SLC_SLICE_STATUS s 1) ::
    (List.range 16).map (fun i => d.reg (Reg.SLC_STATSs s i)))))

/-- `SLICE_STATUS`. -/
def execSliceStatus (m : Fin 16) (tag : Fin 4096) (gen : Fin 16) (s : State) : Host.Outcome State Fault Refusal :=
  opStep 0x0104 runSliceStatus m.val tag.val gen.val s

/-- Pages taken from the set, oldest first, and written as entries without a PASID; the number written. -/
def Dev.harvest (d : Dev) (s addr n : Nat) : Nat × Dev :=
  let f := d.home s
  let set := Map.getD d.slc.dirty s []
  let gone := set.reverse.take (if d.canIssue f then n else 0)
  let d := { d with slc := { d.slc with dirty := Map.putD d.slc.dirty s [] (set.take (set.length - gone.length)) } }
  let d := d.setN Reg.SLC_DIRTY_USED (d.regN Reg.SLC_DIRTY_USED - gone.length)
  (gone.length, if gone.isEmpty then d
    else d.request f (.hostWrite f none addr (gone.flatMap (fun p => [lo32 (p * 4096 + 1), hi32 (p * 4096 + 1)]))))

/-- Reserved values of SLICE_DIRTY_LOG. -/
def sliceDirtyBad (c : Cmd) (_ : Dev) : Bool :=
  decide (255 < (c.p 0).toNat ∨ 2 < (c.p 1).toNat ∨ ((c.p 1).toNat = 2 ∧ (c.p 2).toNat % 8 ≠ 0))

/-- 0x0106 (R188). -/
def runSliceDirtyLog (c : Cmd) (d : Dev) : Dev × Option Res :=
  let s := c.slice
  let (n, d) :=
    match (c.p 1).toNat with
    | 0 => (0, (d.emptyDirty s).setBit (Reg.SLC_SLICE_STATUS s 1) 23 true)
    | 1 => (0, d.stopDirty s)
    | _ => d.harvest s (cat64 (c.p 2) (c.p 3)) (c.p 4).toNat
  let left := (Map.getD d.slc.dirty s []).length
  (d, some (Res.ok [wd n, wd (left + if d.bit (Reg.SLC_SLICE_STATUS s 1) 22 then 2 ^ 31 else 0)]))

/-- `SLICE_DIRTY_LOG`. -/
def execSliceDirtyLog (m : Fin 16) (tag : Fin 4096) (gen : Fin 16) (s : State) : Host.Outcome State Fault Refusal :=
  opStep 0x0106 runSliceDirtyLog m.val tag.val gen.val s

/-! ## Moving a slice (R189, R190)

The words of an entry after its opening word are the model's (log entry 70). -/

/-- An entry: KIND, length in bytes with the opening word. -/
def stateEntry (kind : Nat) (ws : List Word) : List Word := wd (kind * 2 ^ 24 + 4 * (ws.length + 1)) :: ws

/-- A 64-bit value as two words. -/
def two (n : Nat) : List Word := [lo32 n, hi32 n]

/-- KIND 0x01: number and kind, configuration, indices, phase. -/
def Dev.saveQueue (d : Dev) (cq n q : Nat) : List Word :=
  stateEntry 1 (wd (cq * 2 ^ 31 + n) :: (List.range 4).map (fun i => d.reg (Reg.RNG_QCFG0 cq q + 4 * i)) ++
    [d.reg (Reg.RNG_QSTATE0 cq q), wd (d.fld (Reg.RNG_QSTATE1 cq q) 30 1)])

/-- KIND 0x02. -/
def Dev.saveChan (d : Dev) (c : Nat) : List Word :=
  stateEntry 2 (wd c :: (chShadow c).map d.reg ++ [d.reg (Reg.DMA_CHc_STATE c)])

/-- KIND 0x03: a node; bit 31 where it is the receive node. -/
def Dev.saveNode (d : Dev) (s n : Nat) : List Word :=
  let rx := decide (d.reg (Reg.SCH_RXNODEs s) = wd (2 ^ 31 + n))
  stateEntry 3 (wd (n + if rx then 2 ^ 31 else 0) :: (List.range 4).map (fun i => d.reg (Reg.SCH_NCFG0 n + 4 * i)))

/-- KIND 0x04. -/
def saveSa (i : Nat) (a : SecAssoc) : List Word :=
  stateEntry 4 (wd i :: two a.seq ++ two a.packets ++ two a.bytes ++ [wd a.icvFail, wd a.replayDrop, wd a.formatDrop] ++ a.window.flatMap two)

/-- KIND 0x05: an NVQ, its target, the namespaces of the target. -/
def Dev.saveNvq (d : Dev) (k : Nat) (c : StoConn) : List Word :=
  let t := c.targetOf
  let tw := ((d.conn? t).map StoConn.words).getD []
  let ns := d.sto.namespaces.filter (fun n => decide (Word.fld (wordAt n.2 3) 16 15 = t))
  stateEntry 5 (wd k :: wd t :: (List.range 9).map (wordAt c.words) ++ (List.range 64).map (wordAt tw) ++
    wd ns.length :: ns.flatMap (fun n => wd n.1 :: (List.range 5).map (wordAt n.2)))

/-- KIND 0x06. -/
def Dev.saveGroup (d : Dev) (g : Nat) : List Word := stateEntry 6 (wd g :: (List.range 64).map (fun i => d.reg (Reg.PBU_GRP g i)))

/-- The entries of a slice's record. -/
def Dev.stateEntries (d : Dev) (s : Nat) : List (List Word) :=
  let nvqs := d.sto.conns.filter (fun c => decide (c.2.slice = s) && !c.2.target)
  let queues := [1, 0].flatMap (fun cq => (d.sliceQueues cq s).filterMap (fun n => (d.queue? cq s n).map (fun q => d.saveQueue cq n q)))
  let nodes := d.listedNodes.filter (fun n => decide ((d.nodeOwner n).map Prod.fst = some s))
  nvqs.map (fun c => d.saveNvq c.1 c.2) ++ queues ++ (d.sliceChans s).map d.saveChan ++ nodes.map (d.saveNode s) ++
    (d.cry.sas.filter (fun a => decide (a.2.slice = s))).map (fun a => saveSa a.1 a.2) ++
    (d.grpLive.filter (fun g => decide (d.grpSlice g = s))).map d.saveGroup

/-- The record: header, SHA-384, entries. -/
def Dev.stateRecord (d : Dev) (s : Nat) : List Word :=
  let es := d.stateEntries s
  let body := es.flatten
  [wd (1 * 65536), wd (64 + 4 * body.length), wd (es.length * 65536), 0] ++ wordsOf 12 (Config.sha384 (bytesOf body)) ++ body

/-- 0x0107 (R189): the record written without a PASID; the bytes written. -/
def runSliceStateSave (c : Cmd) (d : Dev) : Dev × Option Res :=
  let s := c.slice
  if d.sliceState s ≠ 4 then (d, some (Res.st stNotQuiesced))
  else if !d.canIssue (d.home s) then (d, some (Res.st stFaulted))
  else
    let r := d.stateRecord s
    (d.request (d.home s) (.hostWrite (d.home s) none (cat64 (c.p 1) (c.p 2)) r), some (Res.ok [wd (4 * r.length)]))

/-- `SLICE_STATE_SAVE`. -/
def execSliceStateSave (m : Fin 16) (tag : Fin 4096) (gen : Fin 16) (s : State) : Host.Outcome State Fault Refusal :=
  opStep 0x0107 runSliceStateSave m.val tag.val gen.val s

/-- Owner fields of storage words rewritten to a slice. -/
def ownedBy (s inc : Nat) (ws : List Word) : List Word := ws.set 0 (Word.setFld (Word.setFld (wordAt ws 0) 0 13 s) 16 8 inc)

/-- A queue of a record: made, unless an NVQ has made it, with its indices and phase; its host index is a doorbell recorded. -/
def Dev.loadQueue (d : Dev) (s : Nat) (ws : List Word) : Option Dev :=
  let cq := if Word.bit (wordAt ws 0) 31 then 1 else 0
  let n := Word.fld (wordAt ws 0) 0 31
  let cfg := (ws.drop 1).take 4
  if d.quota s 0 ≤ n ∨ (cq = 1 ∧ d.vectorOk s (Word.fld (wordAt cfg 3) 0 18) = false) then none
  else
    let made := match d.queue? cq s n with
      | some q => if d.ofNvq s n then some (q, d) else none
      | none => d.makeQueue cq s n cfg
    made.map (fun (q, d) =>
      let d := (d.setReg (Reg.RNG_QSTATE0 cq q) (wordAt ws 5)).setBit (Reg.RNG_QSTATE1 cq q) 30 (Word.bit (wordAt ws 6) 0)
      if cq = 1 ∨ d.bit (Reg.RNG_QCFG2 0 q) 27 = true ∨ d.hostIdx 0 q = d.devIdx 0 q then d else d.askService q)

/-- A channel of a record. -/
def Dev.loadChan (d : Dev) (s : Nat) (ws : List Word) : Option Dev :=
  let c := (wordAt ws 0).toNat
  if 63 < c ∨ Word.bit (d.ownerStaged c) 31 = true ∨ d.chManaged c = true ∨ d.poolRoom s 2 1 = false then none
  else
    let vs := (ws.drop 1).take 5
    let vs := (vs.set 2 (Word.setFld (wordAt vs 2) 23 2 (d.home s))).set 4 (wd (2 ^ 31 + d.incarnation s * 65536 + s))
    let d := ((chShadow c).zip vs).foldl (fun d p => ((d.setReg p.1 p.2).unstage p.1).markExpert p.1 false) d
    some ((d.setReg (Reg.DMA_CHc_STATE c) (wordAt ws 6)).poolTake s 2 1)

/-- A node of a record. -/
def Dev.loadNode (d : Dev) (s : Nat) (ws : List Word) : Option Dev :=
  let n := Word.fld (wordAt ws 0) 0 31
  if 65535 < n ∨ d.nodeFree n = false ∨ d.poolRoom s 4 1 = false then none
  else
    let vs := (ws.drop 1).take 4 ++ [wd (2 ^ 31 + d.incarnation s * 65536 + s)]
    let d := ((List.range 5).zip vs).foldl (fun d p => d.force (Reg.SCH_NCFG0 n + 4 * p.1) p.2) d
    let d := if Word.bit (wordAt ws 0) 31 then d.force (Reg.SCH_RXNODEs s) (wd (2 ^ 31 + n)) else d
    some (d.poolTake s 4 1)

/-- The counters of an SA. -/
def pairsOf : List Word → List Nat
  | a :: b :: r => cat64 a b :: pairsOf r
  | _ => []
def Dev.loadSa (d : Dev) (s : Nat) (ws : List Word) : Option Dev :=
  let i := (wordAt ws 0).toNat
  match d.sa? i with
  | some a =>
    if a.slice ≠ s then none
    else
      let a := { a with
        seq := cat64 (wordAt ws 1) (wordAt ws 2), packets := cat64 (wordAt ws 3) (wordAt ws 4), bytes := cat64 (wordAt ws 5) (wordAt ws 6)
        icvFail := (wordAt ws 7).toNat, replayDrop := (wordAt ws 8).toNat, formatDrop := (wordAt ws 9).toNat, window := pairsOf (ws.drop 10) }
      some { d with cry := { d.cry with sas := Map.put d.cry.sas i a } }
  | none => none

/-- A storage object of a record: made, or already there. -/
def Dev.loadSto (d : Dev) (kind i : Nat) (ws : List Word) : Option Dev :=
  match d.stoObject kind i with
  | some old => if kind ≠ 1 ∧ Word.fld (wordAt old 0) 0 13 = Word.fld (wordAt ws 0) 0 13 then some d else none
  | none => match d.stoCreate kind i ws with
    | (0, d) => some d
    | _ => none

/-- An NVQ of a record with its target and namespaces. -/
def Dev.loadNvq (d : Dev) (s : Nat) (ws : List Word) : Option Dev :=
  let own := ownedBy s (d.incarnation s)
  let t := (wordAt ws 1).toNat
  let n := (wordAt ws 75).toNat
  if 32767 < (wordAt ws 0).toNat ∨ 32767 < t ∨ ws.length < 76 + 6 * n then none
  else
    let d := (d.loadSto 0 t (own ((ws.drop 11).take 64))).bind (fun d => d.loadSto 1 (wordAt ws 0).toNat (own ((ws.drop 2).take 9)))
    (List.range n).foldl (fun (d : Option Dev) j => d.bind (fun d =>
      let e := ws.drop (76 + 6 * j)
      if 16383 < (wordAt e 0).toNat then none else d.loadSto 2 (wordAt e 0).toNat (own ((e.drop 1).take 5)))) d

/-- An aligner group of a record. -/
def Dev.loadGroup (d : Dev) (s : Nat) (ws : List Word) : Option Dev :=
  let g := (wordAt ws 0).toNat
  if 255 < g ∨ d.grpValid g = true then none
  else
    let vs := ownedBy s (d.incarnation s) ((ws.drop 1).take 64)
    some (((List.range 64).filter (fun j => !pbuReadOnly 1 j)).foldl (fun d j => d.force (Reg.PBU_GRP g j) (wordAt vs j)) d)

/-- The entries of a record: KIND and words. -/
def splitEntries : Nat → List Word → Option (List (Nat × List Word))
  | 0, [] => some []
  | 0, _ => none
  | _ + 1, [] => none
  | n + 1, w :: ws =>
    let len := Word.fld w 0 24
    if len % 4 ≠ 0 ∨ len = 0 ∨ ws.length < len / 4 - 1 then none
    else (splitEntries n (ws.drop (len / 4 - 1))).map (fun r => (Word.fld w 24 8, ws.take (len / 4 - 1)) :: r)

/-- A record that the load accepts: FORMAT, LENGTH, DIGEST. -/
def recordEntries (ws : List Word) (limit : Nat) : Option (List (Nat × List Word)) :=
  let body := ws.drop 16
  if ws.length < 16 ∨ Word.fld (wordAt ws 0) 16 16 ≠ 1 ∨ (wordAt ws 1).toNat ≠ 4 * ws.length ∨ limit < 4 * ws.length ∨
    (ws.drop 4).take 12 ≠ wordsOf 12 (Config.sha384 (bytesOf body)) then none
  else splitEntries (Word.fld (wordAt ws 2) 16 16) body

/-- One entry created. -/
def Dev.loadEntry (d : Dev) (s kind : Nat) (ws : List Word) : Option Dev :=
  match kind with
  | 1 => d.loadQueue s ws
  | 2 => d.loadChan s ws
  | 3 => d.loadNode s ws
  | 4 => d.loadSa s ws
  | 5 => d.loadNvq s ws
  | 6 => d.loadGroup s ws
  | _ => none

/-- 0x0108 (R190): every object of the record, or none of them. -/
def runSliceStateLoad (words : List Word) (c : Cmd) (d : Dev) : Dev × Option Res :=
  let s := c.slice
  if d.sliceState s ≠ 4 then (d, some (Res.st stNotQuiesced))
  else if d.sliceQueues 0 s ≠ [] ∨ d.sliceQueues 1 s ≠ [] then (d, some (Res.st stBadParam))
  else
    match recordEntries words (c.p 3).toNat with
    | none => (d, some (Res.st stBadParam))
    | some es =>
      match es.foldl (fun (d : Option Dev) e => d.bind (fun d => d.loadEntry s e.1 e.2)) (some d) with
      | some d => (d, some (Res.ok []))
      | none => (d, some (Res.st stBadParam))

/-- `SLICE_STATE_LOAD`: the words of the record, as host memory gave them. -/
def execSliceStateLoad (m : Fin 16) (tag : Fin 4096) (gen : Fin 16) (words : List Word) (s : State) : Host.Outcome State Fault Refusal :=
  opStep 0x0108 (runSliceStateLoad words) m.val tag.val gen.val s

/-! ## Checks of the opcodes (R127) -/

/-- Only the incarnation; with a timeout code; with a buffer. -/
def incOnlyBad (c : Cmd) (_ : Dev) : Bool := decide (255 < (c.p 0).toNat)
def incTimeoutBad (c : Cmd) (_ : Dev) : Bool :=
  decide (255 < (c.p 0).toNat ∨ 255 < (c.p 1).toNat ∨ (16 < (c.p 1).toNat ∧ (c.p 1).toNat ≠ 255))

end Sys2Proof.Machine
end

