-- ==== Sys2Proof/Machine/Mbx.lean ====
section
/-! DEFINITION. The commands of mailboxes and command queues but taking a packet: mailbox words, queue indices, packets that
come by other paths, replies, the opcodes 0x0000 to 0x0005 (R115 to R139, R550). -/

namespace Sys2Proof.Machine

/-! ## Mailboxes (R115 to R118) -/

/-- An event of MBX_EVTm. -/
def Dev.mbxEvt (d : Dev) (m bit : Nat) : Dev := d.sqSet (Reg.MBX_EVTm m) [bit]

/-- A word written to MBX_INm: stored where IN_FULL is 0. -/
def Dev.mbxIn (d : Dev) (m : Nat) (v : Word) : Dev :=
  if d.bit (Reg.MBX_STATEm m) 0 then d.mbxEvt m 3
  else (d.setReg (Reg.MBX_INm m) v).setBit (Reg.MBX_STATEm m) 0 true

/-- `MBX_IN_WRITE` (R115, R117). -/
def execMbxInWrite (m : Fin 16) (v : Word) (s : State) : Host.Outcome State Fault Refusal := act (fun d => d.mbxIn m.val v) s

/-- How a master is told of its mailbox, by the path of R116: `out` for a word posted to it, else that its IN is empty. -/
def Dev.mbxTell (d : Dev) (m : Nat) (out : Bool) : Dev :=
  let w := if out then d.reg (Reg.MBX_OUTm m) else d.reg (Reg.MBX_EVTm m)
  if m < 4 then
    (if d.bit (Reg.MBX_CTRLm m) (if out then 1 else 0) then d.raiseVec m (d.fld (Reg.MBX_CTRLm m) 16 11) else d)
  else if m = 4 then d.emit (.mctp [w])
  else if m = 5 then d
  else if m = 6 then d.emit (.cmEvent m out)
  else if m = 7 then d
  else d.postEvents (64 * (m - 8)) (2 ^ (if out then 31 else 30))

/-- `MBX_IN_TAKE` (R115, R118): a PING is answered by a PONG; a word of another KIND is ignored. -/
def execMbxInTake (m : Fin 16) (s : State) : Host.Outcome State Fault Refusal :=
  act (fun d =>
    if !d.bit (Reg.MBX_STATEm m.val) 0 then d
    else
      let w := d.reg (Reg.MBX_INm m.val)
      let d := ((d.setBit (Reg.MBX_STATEm m.val) 0 false).mbxEvt m.val 1).mbxTell m.val false
      if Word.fld w 28 4 = 1 then d.post m.val 2 (Word.fld w 0 28) else d.mbxEvt m.val 2) s

/-- The lowest KIND pending for a master. -/
def Dev.pendingKind (d : Dev) (m : Nat) : Option (Nat × Word) :=
  (List.range 16).findSome? (fun k => (Map.get? d.cmd.outPend (16 * m + k)).map (fun w => (k, w)))

/-- The word posted to the TRL master goes out as MBX_OUT: to the member whose command produced it, else to every reachable
one; its mailbox is then empty again (R466). -/
def Dev.mbxTrellis (d : Dev) (kind : Nat) (w : Word) : Dev :=
  let ids := match Map.get? d.cmd.mbxPeer kind with
    | some p => [p]
    | none => d.members.filter d.reachable
  let d := { d with cmd := { d.cmd with mbxPeer := Map.del d.cmd.mbxPeer kind } }
  (d.trlSendAll ids 1 0x63 (beWords [w])).setBit (Reg.MBX_STATEm 7) 1 false

/-- `MBX_OUT_POST` (R115 to R117): KINDs in order, into an empty OUT mailbox. -/
def execMbxOutPost (m : Fin 16) (s : State) : Host.Outcome State Fault Refusal :=
  act (fun d =>
    if d.bit (Reg.MBX_STATEm m.val) 1 then d
    else match d.pendingKind m.val with
      | none => d
      | some (k, w) =>
        let d := { d with cmd := { d.cmd with outPend := Map.del d.cmd.outPend (16 * m.val + k) } }
        let d := ((d.setReg (Reg.MBX_OUTm m.val) w).setBit (Reg.MBX_STATEm m.val) 1 true).mbxEvt m.val 0
        let d := d.mbxTell m.val true
        if m.val = 7 then d.mbxTrellis k w else d) s

/-- MBX_OUT_ACKm written. -/
def Dev.mbxAck (d : Dev) (m : Nat) (v : Word) : Dev := if Word.bit v 0 then d.setBit (Reg.MBX_STATEm m) 1 false else d

/-- `MBX_OUT_ACK_WRITE` (R115, R117). -/
def execMbxOutAckWrite (m : Fin 16) (v : Word) (s : State) : Host.Outcome State Fault Refusal := act (fun d => d.mbxAck m.val v) s

/-! ## Queue indices (R119 to R121) -/

/-- CMD_PIm written: ignored where it goes back or more than 256 slots would wait. -/
def Dev.piWrite (d : Dev) (m v : Nat) : Dev :=
  let pi := d.fld (Reg.CMD_PIm m) 0 16
  let v := v % 65536
  if 32768 ≤ fwd16 v pi ∨ 256 < fwd16 v (d.fld (Reg.CMD_CIm m) 0 16) then d.sqSet (Reg.CMD_STATUSm m) [4]
  else d.setFld (Reg.CMD_PIm m) 0 16 v

/-- `CMD_PI_WRITE` (R120). -/
def execCmdPiWrite (m : Fin 16) (v : Word) (s : State) : Host.Outcome State Fault Refusal := act (fun d => d.piWrite m.val v.toNat) s

/-- CMD_RCIm written: ignored where it goes back or past RPI; replies left unread raise the vector again. -/
def Dev.rciWrite (d : Dev) (m v : Nat) : Dev :=
  let rci := d.fld (Reg.CMD_RCIm m) 0 16
  let rpi := d.fld (Reg.CMD_RPIm m) 0 16
  let v := v % 65536
  if 32768 ≤ fwd16 v rci ∨ fwd16 rpi rci < fwd16 v rci then d.sqSet (Reg.CMD_STATUSm m) [3]
  else
    let d := d.setFld (Reg.CMD_RCIm m) 0 16 v
    if m < 4 ∧ d.bit (Reg.CMD_CTRLm m) 1 = true ∧ v ≠ rpi then d.raiseVec m (d.fld (Reg.CMD_CTRLm m) 16 11) else d

/-- `CMD_RCI_WRITE` (R120, R121). -/
def execCmdRciWrite (m : Fin 16) (v : Word) (s : State) : Host.Outcome State Fault Refusal := act (fun d => d.rciWrite m.val v.toNat) s

/-- Words written into a queue's slots from a word position on, slot 255 followed by slot 0. -/
def Dev.putSlots (d : Dev) (m pos : Nat) : List Word → Dev
  | [] => d
  | w :: ws => (d.setReg (Reg.CMD_QUEUES (m * 4096 + pos % 4096)) w).putSlots m (pos + 1) ws

/-- A packet written into a queue by the device for a master that has no BAR0 (R122): its slots, then PI. -/
def Dev.putPacket (d : Dev) (m peer : Nat) (ws : List Word) : Dev :=
  let pi := d.fld (Reg.CMD_PIm m) 0 16
  let n := Nat.max 1 (ceilDiv ws.length 16)
  let d := if 256 < fwd16 (pi + n) (d.fld (Reg.CMD_CIm m) 0 16) then d else d.putSlots m (pi * 16) ws
  let d := if m = 7 then { d with cmd := { d.cmd with peers := Map.put d.cmd.peers (pi % 256) peer } } else d
  d.piWrite m (pi + n)

/-- The PCI vendor ID (R144). -/
def vendorId : Nat := 0x1F7D

/-- `MCTP_COMMAND_MESSAGE` (R122): a vendor-defined message with another vendor's ID is no packet. -/
def execMctpCommandMessage (vendor : Fin 65536) (words : List Word) (s : State) : Host.Outcome State Fault Refusal :=
  act (fun d => if vendor.val = vendorId then d.putPacket 4 0 words else d) s

/-- `MGMT_CHANNEL_REQUEST` (R315, R324): a supervisor's request; one that sends a packet is answered by the reply. -/
def execMgmtChannelRequest (t : Fin 512) (op : MgmtOp) (s : State) : Host.Outcome State Fault Refusal :=
  act (fun d =>
    let m := 8 + t.val / 64
    match d.openReq t.val 0, isSup t.val, op with
    | none, _, _ => d
    | _, false, _ => d
    | _, _, .packet ws => d.putPacket m 0 ws
    | _, _, .mbxIn w => d.serve t.val 0 (fun _ d => (d.mbxIn m w, accOk, []))
    | _, _, .mbxAck w => d.serve t.val 0 (fun _ d => (d.mbxAck m w, accOk, []))) s

/-! ## Replies (R121, R126, R132, R134) -/

/-- A stale reply goes to the Lees log. -/
def Dev.leesReply (d : Dev) (c : Cmd) : Dev :=
  let seq := d.regN Reg.CMD_LEES_SEQ
  let detail := match d.curGen c.master c.tag with
    | some g => g
    | none => 16 + c.gen
  let d := d.lees (wd (c.master * 2 ^ 24 + c.status)) c.word1 (wd (c.opcode * 65536 + detail)) 0
  ((d.sqSet (Reg.CMD_STATUSm c.master) [2]).post c.master 5 seq).mbxFor c.master 5 c.peer

/-- `COMMAND_REPLY` (R121, R123, R132): QUIET suppresses a reply whose status is OK or EXPERT_STATE. -/
def execCommandReply (m : Fin 16) (tag : Fin 4096) (gen : Fin 16) (s : State) : Host.Outcome State Fault Refusal :=
  act (fun d =>
    match d.cmd? m.val tag.val gen.val with
    | none => d
    | some c =>
      if c.phase ≠ .finished then d
      else
        let d := d.dropCmd m.val tag.val gen.val
        let d := if d.curGen m.val tag.val ≠ some gen.val then d.leesReply c
          else if c.quiet ∧ (c.status = stOK ∨ c.status = stExpert) then d
          else d.writeReply m.val (replyWords c.word1 c.opcode c.status c.replyMax false c.expert c.reply) c.notify c.peer
        d.showOutstanding m.val) s

/-! ## The opcodes 0x0000 to 0x0005 (R133, R139, R550) -/

/-- 0x0000. -/
def runNop (_ : Cmd) (d : Dev) : Dev × Option Res := (d, some (Res.ok []))
/-- `NOP`. -/
def execNop (m : Fin 16) (tag : Fin 4096) (gen : Fin 16) (s : State) : Host.Outcome State Fault Refusal :=
  opStep 0x0000 runNop m.val tag.val gen.val s

/-- 0x0001. -/
def runDeviceInfo (_ : Cmd) (d : Dev) : Dev × Option Res :=
  (d, some (Res.ok (d.reg Reg.GLB_ID :: (List.range 10).map (fun i => wd (poolTotal i)) ++
    [d.reg Reg.UPD_RELEASE, d.reg Reg.UPD_SECVER, d.reg Reg.AGE_PLAN_VERSION, d.reg Reg.LCS_STATE, d.reg Reg.LCS_SERIAL_LO,
     d.reg Reg.LCS_SERIAL_HI])))
/-- `DEVICE_INFO`. -/
def execDeviceInfo (m : Fin 16) (tag : Fin 4096) (gen : Fin 16) (s : State) : Host.Outcome State Fault Refusal :=
  opStep 0x0001 runDeviceInfo m.val tag.val gen.val s

/-- The HC registers in the order of R100. -/
def hcRegs : List Nat := [Reg.EBS_THERMAL_TRIP, Reg.GLB_SUPPLY_FAULT, Reg.GAU_LOST, Reg.TRL_PARTITION, Reg.LCS_VIOLATION, Reg.GLB_HALT]

/-- 0x0002. -/
def runDeviceStatus (_ : Cmd) (d : Dev) : Dev × Option Res :=
  (d, some (Res.ok (hcRegs.map d.reg ++ [d.reg Reg.GLB_PIPE_ROLE, d.reg Reg.GLB_EVT_STATUS])))
/-- `DEVICE_STATUS`. -/
def execDeviceStatus (m : Fin 16) (tag : Fin 4096) (gen : Fin 16) (s : State) : Host.Outcome State Fault Refusal :=
  opStep 0x0002 runDeviceStatus m.val tag.val gen.val s

/-- Reserved bits of CMD_CANCEL: word 0 the TAG, word 1 the GEN. -/
def cancelBad (c : Cmd) (_ : Dev) : Bool := decide (4095 < (c.p 0).toNat ∨ 15 < (c.p 1).toNat)

/-- 0x0003 (R133). -/
def runCmdCancel (c : Cmd) (d : Dev) : Dev × Option Res :=
  let tag := c.pf 0 0 12
  let gen := c.pf 1 0 4
  if d.curGen c.master tag ≠ some gen then (d, some (Res.st stStaleGen))
  else match d.cmd? c.master tag gen with
    | none => (d, some (Res.st stStaleGen))
    | some t =>
      if t.phase = .waiting then (d.finish c.master tag gen (Res.st stTimeout), some (Res.ok []))
      else (d.clearGen c.master tag, some (Res.st stPartial))
/-- `CMD_CANCEL`. -/
def execCmdCancel (m : Fin 16) (tag : Fin 4096) (gen : Fin 16) (s : State) : Host.Outcome State Fault Refusal :=
  opStep 0x0003 runCmdCancel m.val tag.val gen.val s

/-- Count and reserved bits of LEES_READ. -/
def leesReadBad (c : Cmd) (_ : Dev) : Bool := decide ((c.p 1).toNat = 0 ∨ 127 < (c.p 1).toNat)

/-- The Lees entries of a range of sequences that the log still holds, in sequence order (R134, R550). -/
def Dev.leesEntries (d : Dev) (first n : Nat) : List Word :=
  let top := d.regN Reg.CMD_LEES_SEQ
  ((List.range n).map (fun i => (first + i) % 2 ^ 32)).flatMap (fun q =>
    if q < top ∧ top ≤ q + 1024 then d.regs (Reg.CMD_LEES ((q % 1024) * 8)) 8 else [])

/-- 0x0004. -/
def runLeesRead (c : Cmd) (d : Dev) : Dev × Option Res := (d, some (Res.ok (d.leesEntries (c.p 0).toNat (c.pf 1 0 7))))
/-- `LEES_READ`. -/
def execLeesRead (m : Fin 16) (tag : Fin 4096) (gen : Fin 16) (s : State) : Host.Outcome State Fault Refusal :=
  opStep 0x0004 runLeesRead m.val tag.val gen.val s

/-- Reserved bits of NOTIFY_CFG; word 1 is for masters 0 to 3 alone, VECTOR below 2,048. -/
def notifyCfgBad (c : Cmd) (_ : Dev) : Bool :=
  decide (c.pf 0 0 3 ≠ 0 ∨ c.pf 0 4 2 ≠ 0 ∨ c.pf 0 8 24 ≠ 0 ∨ c.pf 1 11 20 ≠ 0 ∨ (4 ≤ c.master ∧ c.p 1 ≠ 0))

/-- 0x0005: the KIND enables, and OUT_IE and VECTOR of a function. -/
def runNotifyCfg (c : Cmd) (d : Dev) : Dev × Option Res :=
  let k := Reg.MBX_CTRLm c.master
  let touched := d.anyExpert [k]
  let d := ((d.setBit k 3 (c.pf 0 3 1 = 1)).setBit k 6 (c.pf 0 6 1 = 1)).setBit k 7 (c.pf 0 7 1 = 1)
  let d := if c.master < 4 then (d.setBit k 1 (c.pf 1 31 1 = 1)).setFld k 16 11 (c.pf 1 0 11) else d
  (d.markExpert k false, some { Res.ok [] with expert := touched })
/-- `NOTIFY_CFG`. -/
def execNotifyCfg (m : Fin 16) (tag : Fin 4096) (gen : Fin 16) (s : State) : Host.Outcome State Fault Refusal :=
  opStep 0x0005 runNotifyCfg m.val tag.val gen.val s

end Sys2Proof.Machine
end

