-- ==== Sys2Proof/Machine/Glb.lean ====
section
/-! DEFINITION. Commits: GLB_COMMIT, GLB_DISCARD, GLB_DIRECT, direct-mode writes, the PTP-timed commit, the strobe
(R99, R101 to R114). -/

namespace Sys2Proof.Machine

/-- A write to GLB_COMMIT (R104). -/
def Dev.glbCommitWrite (d : Dev) (m : Nat) (v : Word) : Dev := (d.setReg Reg.GLB_COMMIT v).raiseStrobe .commit v m
/-- `GLB_COMMIT_WRITE` (R104). -/
def execGlbCommitWrite (m : Fin 16) (v : Word) (s : State) : Host.Outcome State Fault Refusal :=
  act (fun d => d.glbCommitWrite m.val v) s

/-- `GLB_DISCARD_WRITE` (R107). -/
def execGlbDiscardWrite (v : Word) (s : State) : Host.Outcome State Fault Refusal := act (fun d => d.discard v.toNat) s

/-- A write to GLB_DIRECT: a cleared bit leaves direct mode, its group staged from its active values, and a strobe still to
apply does not set it; bits set name the groups of one strobe (R110). -/
def Dev.glbDirectWrite (d : Dev) (m : Nat) (v : Word) : Dev :=
  let old := d.reg Reg.GLB_DIRECT
  let d := (d.setReg Reg.GLB_DIRECT (old &&& v)).discard (old &&& ~~~ v).toNat
  let d := d.setReg Reg.GLB_PAIR_PENDING (d.reg Reg.GLB_PAIR_PENDING &&& v)
  let d := { d with glb := { d.glb with strobes := d.glb.strobes.map (fun (x : Strobe) =>
    if x.src = StrobeSrc.direct then { x with regs := x.regs ++ bitList 23 (x.mask &&& ~~~ v).toNat } else x) } }
  d.raiseStrobe .direct (v &&& ~~~ old &&& maskOf Reg.GLB_DIRECT) m
/-- `GLB_DIRECT_WRITE` (R110). -/
def execGlbDirectWrite (m : Fin 16) (v : Word) (s : State) : Host.Outcome State Fault Refusal :=
  act (fun d => d.glbDirectWrite m.val v) s

/-- A group is in direct mode. -/
def Dev.directMode (d : Dev) (g : Nat) : Bool := decide (g < 23) && d.bit Reg.GLB_DIRECT g

/-- `DIRECT_MODE_WRITE` (R110): on an ST register of a group in direct mode. -/
def execDirectModeWrite (m : Fin 16) (k : Nat) (v : Word) (s : State) : Host.Outcome State Fault Refusal :=
  act (fun d => if accOf k = some .st ∧ d.directMode (groupOf k) then (d.stage k v true m.val).directWrite k else d) s

/-- The strobe of a PTP-timed commit is issued (R105). -/
def Dev.commitAt (d : Dev) (mask : Word) (past : Bool) : Dev :=
  let d := if past then d.sqSet Reg.GLB_COMMIT_STATUS [3] else d
  { d with glb := { d.glb with armed := none } }.raiseStrobe .commitAt mask 0

/-- A write to GLB_COMMIT_AT_MASK: arms, replaces or cancels; a time already past issues at once (R105, R113). -/
def Dev.commitAtMaskWrite (d : Dev) (v : Word) : Dev :=
  let d := d.setReg Reg.GLB_COMMIT_AT_MASK v
  let t := d.reg64 Reg.GLB_COMMIT_AT_LO
  if v.toNat % 2 ^ 23 = 0 then { d with glb := { d.glb with armed := none } }
  else if t < d.time then d.commitAt v true
  else { d with glb := { d.glb with armed := some (t, v) } }
/-- `GLB_COMMIT_AT_MASK_WRITE` (R105). -/
def execGlbCommitAtMaskWrite (_m : Fin 16) (v : Word) (s : State) : Host.Outcome State Fault Refusal :=
  act (fun d => d.commitAtMaskWrite v) s

/-- `COMMIT_AT_FIRE` (R105): the command says that PTP time reaches the armed time. -/
def execCommitAtFire (s : State) : Host.Outcome State Fault Refusal :=
  act (fun d => match d.glb.armed with
    | some (_, v) => d.commitAt v false
    | none => d) s

/-- `STROBE_APPLY` (R103). -/
def execStrobeApply (s : State) : Host.Outcome State Fault Refusal := act (fun d => d.strobeApply) s

/-- `SQ_CLEAR_WRITE` (R99). -/
def execSqClearWrite (k : Nat) (v : Word) (s : State) : Host.Outcome State Fault Refusal :=
  act (fun d => if accOf k = some .sq then d.sqClear k v else d) s

/-! ## Device halt (R487, R488) -/

/-- The device halts: strobes already issued stand, nothing armed fires; the record is written and each enabled function told;
lanes idle, TXDIS high, PAIR_OK and PPS_OUT low. -/
def Dev.halt (d : Dev) (r : FaultRec) : Dev :=
  if d.halted then d
  else
    let d := d.glb.strobes.foldl (fun d _ => d.strobeApply) d
    let d := { d with glb := { d.glb with armed := none } }
    let d := (d.fault { r with level := 4 }).hcSet Reg.GLB_HALT 0 true 5
    { d with pins := { d.pins with txdis := 0xFFFF }, gau := { d.gau with ppsOut := false } }.showPair

end Sys2Proof.Machine
end

