-- ==== Sys2Proof/Machine/Vintage.lean ====
section
/-! DEFINITION. Swaps of rule tables, on this device and across the Trellis domain; drains (R270 to R274, R457). -/

namespace Sys2Proof.Machine

/-! ## Messages from members -/

/-- The oldest message of a TYPE accepted and not yet acted on. -/
def Dev.takeMsg (d : Dev) (kind : Nat) : Option (TrlMsg × Dev) :=
  (d.trl.inbox.find? (fun m => decide (m.kind = kind))).map (fun m =>
    (m, { d with trl := { d.trl with inbox := d.trl.inbox.erase m } }))

/-- The command of a message's TYPE: acts on the oldest one waiting. -/
def msgStep (kind : Nat) (f : TrlMsg → Dev → Dev) (s : State) : Host.Outcome State Fault Refusal :=
  act (fun d => match d.takeMsg kind with
    | some (m, d) => f m d
    | none => d) s

/-- Word `i` of a body in network byte order, and a field of it (R452). -/
def TrlMsg.w (m : TrlMsg) (i : Nat) : Word := wd (beAt m.body (4 * i) 4)
def TrlMsg.f (m : TrlMsg) (i lo n : Nat) : Nat := Word.fld (m.w i) lo n

/-- A class 1 message of words to one member, to several. -/
def Dev.tell (d : Dev) (id kind : Nat) (ws : List Word) : Dev := d.trlSend id 1 kind (beWords ws)
def Dev.tellAll (d : Dev) (ids : List Nat) (kind : Nat) (ws : List Word) : Dev := ids.foldl (fun d id => d.tell id kind ws) d

/-- Device IDs, two per word, the first in the low half. -/
def idPairs : List Nat → List Word
  | [] => []
  | [a] => [wd a]
  | a :: b :: r => wd (b * 65536 + a) :: idPairs r

/-! ## The swap under way -/

/-- The swap ends or changes. -/
def Dev.setSwap (d : Dev) (w : Option Swap) : Dev := { d with cls := { d.cls with swap := w } }

/-- CLS_SWAP_STATUS. -/
def Dev.swapStatus (d : Dev) (st : Nat) : Dev := d.setFld Reg.CLS_SWAP_STATUS 0 3 st

/-- The tables of a mask hold READY, or release it. -/
def Dev.holdTables (d : Dev) (mask : Nat) (b : Bool) : Dev :=
  (bitList 16 mask).foldl (fun d t => d.setBit (Reg.CLS_TBLt_STATUS t) 28 b) d

/-- A mask that no swap may name: empty, or naming a table that is not two-bank or is CLEARING (R274). -/
def Dev.swapMaskBad (d : Dev) (mask : Nat) : Bool :=
  decide (mask % 65536 = 0) || (bitList 16 mask).any (fun t => !d.tblTwoBank t || d.tblClearing t)

/-- A vintage in use: CUR or a valid OLD. -/
def Dev.vintageUsed (d : Dev) (v : Nat) : Bool :=
  decide (v = d.fld Reg.CLS_VINTAGE 0 16) || (d.bit Reg.CLS_VINTAGE_OLD 16 && decide (v = d.fld Reg.CLS_VINTAGE_OLD 0 16))

/-- A swap, a drain or a copy is running, or a named table is held for another swap (R270). -/
def Dev.swapBusy (d : Dev) (mask : Nat) : Bool :=
  d.cls.swap.isSome || d.bit Reg.CLS_VINTAGE_OLD 16 || decide (d.fld Reg.CLS_SWAP_STATUS 0 3 ≠ 0) ||
  (bitList 16 mask).any (fun t => d.bit (Reg.CLS_TBLt_STATUS t) 28 || d.bit (Reg.CLS_TBLt_STATUS t) 30)

/-- STEPS of a swap (R274). -/
def Dev.swapSteps (d : Dev) (w : Swap) : Nat :=
  let sent := if w.at_.isSome then 6 else 0
  let drain := if w.flipped && !d.bit Reg.CLS_VINTAGE_OLD 16 then 16 else 0
  let all := if w.at_.isSome && w.members.all w.done.contains then 32 else 0
  1 + sent + (if w.flipped then 8 else 0) + drain + all

/-- Reply data of a swap: CUR, STEPS, the members listed. -/
def Dev.swapReply (d : Dev) (w : Swap) (listed : List Nat) : List Word :=
  [wd (d.fld Reg.CLS_VINTAGE 0 16 * 65536 + d.swapSteps w), wd listed.length] ++ idPairs listed

/-- The swap's command finishes; a swap that has flipped stays until its drain is done. -/
def Dev.swapFinish (d : Dev) (w : Swap) (status : Nat) (listed : List Nat) : Dev :=
  match w.cmd with
  | some (m, t, g) => d.finish m t g ⟨status, d.swapReply w listed, false⟩
  | none => d

/-- The flip of a domain-wide swap, at T or on receipt (R271): one strobe of group 8. -/
def Dev.timedFlip (d : Dev) (w : Swap) : Dev :=
  (d.issued.strike (2 ^ 8) true).1.applied.flip w.mask w.vintage w.copy

/-- Every member is READY: ACTIVATE carries T to all; sending it is the command's strobe (R271). -/
def Dev.swapActivate (d : Dev) (w : Swap) : Dev :=
  let t := d.time + 1000 * Nat.max 10 (d.fld Reg.CLS_SWAP_LEAD 0 16)
  let d := match w.cmd with
    | some (m, tag, g) => d.setCmd m tag g (fun c => { c with strobed := true })
    | none => d
  let d := d.tellAll w.members 0x24 [wd w.txn, wd w.vintage, hi32 t, lo32 t]
  (d.setSwap (some { w with at_ := some t })).swapStatus 2

/-- A swap of which this device is the originator. -/
def Dev.ownSwap (d : Dev) (txn : Nat) : Option Swap :=
  d.cls.swap.filter (fun w => decide (w.origin = d.selfId ∧ w.txn = txn ∧ w.txn ≠ 0))

/-- A swap in which this device is a member. -/
def Dev.memberSwap (d : Dev) (src txn : Nat) : Option Swap :=
  d.cls.swap.filter (fun w => decide (w.origin = src ∧ w.txn = txn ∧ src ≠ d.selfId))

/-- A member's transaction ends as ABORT unless it has flipped: its banks are released (R457). -/
def Dev.swapAbort (d : Dev) (w : Swap) : Dev :=
  if w.flipped then d
  else ((d.holdTables w.mask false).setSwap none).swapStatus 0

/-- Any transaction of a member that has restarted ends (R456). -/
def Dev.swapForget (d : Dev) (id : Nat) : Dev :=
  match d.cls.swap with
  | some w => if w.origin = id ∧ id ≠ d.selfId then d.swapAbort w else d
  | none => d

/-- The originator's swap is over when its drain is 0 and every member is done; then its command replies OK (R271). -/
def Dev.swapSettle (d : Dev) (w : Swap) : Dev :=
  if w.flipped && !d.bit Reg.CLS_VINTAGE_OLD 16 && w.members.all w.done.contains then
    (d.swapFinish w stOK []).setSwap none
  else d.setSwap (some w)

/-! ## RULE_BANK_SWAP (R271, R272, R274) -/

/-- What makes RULE_BANK_SWAP's parameters bad. -/
def ruleBankSwapBad (c : Cmd) (d : Dev) : Bool :=
  decide (c.pf 0 16 16 ≠ 0 ∨ c.pf 1 16 15 ≠ 0 ∨ c.pf 2 8 24 ≠ 0) || d.swapMaskBad (c.pf 0 0 16) || d.vintageUsed (c.pf 1 0 16)

/-- 0x0304. -/
def runRuleBankSwap (c : Cmd) (d : Dev) : Dev × Option Res :=
  let mask := c.pf 0 0 16
  let w : Swap := ⟨0, mask, c.pf 1 0 16, c.pf 1 31 1 = 1, some (c.master, c.tag, c.gen), d.selfId, [], [], [], [], none, false⟩
  if ruleBankSwapBad c d then answer d (Res.st stBadParam)
  else if d.swapBusy mask then answer d (Res.st stBusy)
  else if (bitList 16 mask).any (fun t => d.bit (Reg.CLS_TBLt_CFG t) 31) then
    let txn := d.trl.nextTxn
    let w := { w with txn := txn, members := d.members }
    let d := { d with trl := { d.trl with nextTxn := if txn = 65535 then 1 else txn + 1 } }
    let lost : List Nat := w.members.filter (fun id => !d.reachable id)
    if !lost.isEmpty then
      let d := d.tellAll w.members 0x23 [wd txn]
      answer d ⟨stBadParam, d.swapReply w lost, false⟩
    else
      let d := (d.tellAll w.members 0x20 [wd txn, wd mask, wd w.vintage]).swapStatus 1
      (if w.members = [] then d.swapActivate w else d.setSwap (some w), none)
  else
    let (d', r) := d.ownStrobe c (2 ^ 8)
    if r.refused ≠ 0 then answer d' (Res.st stBadParam)
    else ((d'.setSwap (some w)).flip mask w.vintage w.copy, none)
/-- `RULE_BANK_SWAP`. -/
def execRuleBankSwap (m : Fin 16) (tag : Fin 4096) (gen : Fin 16) (s : State) : Host.Outcome State Fault Refusal :=
  opStep 0x0304 runRuleBankSwap m.val tag.val gen.val s

/-- RULE_BANK_SWAP's limit has expired (R272): before ACTIVATE nothing applies; SPLIT lists the members without DONE. -/
def Dev.swapTimeout (d : Dev) (c : Cmd) : Dev :=
  match d.cls.swap with
  | none => d.finish c.master c.tag c.gen (Res.st stTimeout)
  | some w =>
    if w.cmd ≠ some (c.master, c.tag, c.gen) then d.finish c.master c.tag c.gen (Res.st stTimeout)
    else
      let late := w.members.filter (fun id => !w.done.contains id)
      let keep := if w.flipped && !d.bit Reg.CLS_VINTAGE_OLD 16 then none else some { w with cmd := none }
      if w.at_.isNone && !w.flipped then
        (((d.tellAll w.members 0x23 [wd w.txn]).swapFinish w stTimeout []).setSwap none).swapStatus 0
      else if !late.isEmpty then ((d.sqSet Reg.CLS_SWAP_EVT [3]).swapFinish w stSplit late).setSwap keep
      else (d.swapFinish w stTimeout []).setSwap keep

/-! ## The transaction's messages (R271, R457) -/

/-- The answer to PREPARE: `none` READY, else the reason to REFUSE. -/
def Dev.prepareRefuse (d : Dev) (src txn mask v : Nat) : Option Nat :=
  let tables := bitList 16 mask
  if tables.any (fun t => !d.tblTwoBank t || !d.bit (Reg.CLS_TBLt_CFG t) 31) then some 1
  else if (match d.cls.swap with
      | some w => decide (w.origin ≠ src ∨ w.txn ≠ txn)
      | none => d.swapBusy mask) || tables.any (fun t => d.tblClearing t) then some 2
  else if d.bit Reg.CLS_VINTAGE_OLD 16 && decide (v = d.fld Reg.CLS_VINTAGE_OLD 0 16) then some 3
  else none

/-- `VINTAGE_PREPARE` (R457): a member already at the vintage answers READY and holds nothing. The message does not say
whether to copy, so that a member copies is a free value. -/
def execVintagePrepare (s : State) : Host.Outcome State Fault Refusal :=
  msgStep 0x20 (fun m d =>
    let txn := m.f 0 0 16
    let mask := m.f 1 0 16
    let v := m.f 2 0 16
    if v = d.fld Reg.CLS_VINTAGE 0 16 then d.tell m.src 0x21 [wd txn, wd v]
    else
      match d.prepareRefuse m.src txn mask v with
      | some r => d.tell m.src 0x22 [wd txn, wd (r * 65536 + v)]
      | none =>
        let (copy, d) := d.freeBool
        let w : Swap := ⟨txn, mask, v, copy, none, m.src, [], [], [], [], none, false⟩
        (((d.setSwap (some w)).holdTables mask true).swapStatus 1).tell m.src 0x21 [wd txn, wd v]) s

/-- `READY` (R271): when every member is READY, ACTIVATE is sent. -/
def execReady (s : State) : Host.Outcome State Fault Refusal :=
  msgStep 0x21 (fun m d =>
    match d.ownSwap (m.f 0 0 16) with
    | some w =>
      if w.at_.isSome ∨ !w.members.contains m.src then d
      else
        let w := { w with ready := m.src :: w.ready.filter (· ≠ m.src) }
        if w.members.all w.ready.contains then d.swapActivate w else d.setSwap (some w)
    | none => d) s

/-- `REFUSE` (R271): ABORT goes to every member, and the command replies BAD_PARAM with the refusing member. -/
def execRefuse (s : State) : Host.Outcome State Fault Refusal :=
  msgStep 0x22 (fun m d =>
    match d.ownSwap (m.f 0 0 16) with
    | some w =>
      if w.at_.isSome ∨ !w.members.contains m.src then d
      else (((d.tellAll w.members 0x23 [wd w.txn]).swapFinish w stBadParam [m.src]).setSwap none).swapStatus 0
    | none => d) s

/-- `VINTAGE_ABORT` (R457). -/
def execVintageAbort (s : State) : Host.Outcome State Fault Refusal :=
  msgStep 0x23 (fun m d =>
    match d.memberSwap m.src (m.f 0 0 16) with
    | some w => d.swapAbort w
    | none => d) s

/-- `VINTAGE_ACTIVATE` (R271): the flip is armed at T, or made on receipt with SWAP_LATE; a member already at the vintage sends
DONE at once (R457). -/
def execVintageActivate (s : State) : Host.Outcome State Fault Refusal :=
  msgStep 0x24 (fun m d =>
    let t := cat64 (m.w 3) (m.w 2)
    match d.memberSwap m.src (m.f 0 0 16) with
    | some w =>
      if w.at_.isSome then d
      else
        let d := d.setSwap (some { w with at_ := some t })
        if t < d.time then (d.sqSet Reg.CLS_SWAP_EVT [2]).timedFlip w else d.swapStatus 2
    | none => if m.f 1 0 16 = d.fld Reg.CLS_VINTAGE 0 16 then d.tell m.src 0x25 [m.w 0, m.w 1] else d) s

/-- `VINTAGE_DONE` (R271). -/
def execVintageDone (s : State) : Host.Outcome State Fault Refusal :=
  msgStep 0x25 (fun m d =>
    match d.ownSwap (m.f 0 0 16) with
    | some w => d.swapSettle { w with done := m.src :: w.done.filter (· ≠ m.src) }
    | none => d) s

/-! ## Flips, drains, holds -/

/-- `TIMED_VINTAGE_FLIP` (R271): the command says that PTP time reaches T. -/
def execTimedVintageFlip (s : State) : Host.Outcome State Fault Refusal :=
  act (fun d => match d.cls.swap with
    | some w => if w.at_.isSome && !w.flipped then d.timedFlip w else d
    | none => d) s

/-- `DRAIN_COMPLETE` (R270): the count of frames stamped OLD is 0; a member sends DONE. -/
def execDrainComplete (s : State) : Host.Outcome State Fault Refusal :=
  act (fun d =>
    if d.bit Reg.CLS_VINTAGE_OLD 16 ∧ d.drainCount none = 0 then
      let d := d.drained
      match d.cls.swap with
      | some w =>
        if w.origin = d.selfId then (if w.cmd.isSome then d.swapSettle w else d.setSwap none)
        else (d.setSwap none).tell w.origin 0x25 [wd w.txn, wd w.vintage]
      | none => d
    else d) s

/-- `READY_HOLD_EXPIRY` (R271): a member READY for 1 s without ACTIVATE or ABORT releases its banks. -/
def execReadyHoldExpiry (s : State) : Host.Outcome State Fault Refusal :=
  act (fun d => match d.cls.swap with
    | some w => if w.origin ≠ d.selfId ∧ w.at_.isNone then d.swapAbort w else d
    | none => d) s

end Sys2Proof.Machine
end

