-- ==== Sys2Proof/Machine/Trl.lean ====
section
/-! DEFINITION. Trellis: links, HELLOs, Wepomer frames, the messages of members, requests to members, the Trellis opcodes
(R444 to R470). -/

namespace Sys2Proof.Machine

/-! ## Links (R445) -/

/-- A transition of LINK from one state to another. -/
def linkStep (t old new : Nat) (s : State) : Host.Outcome State Fault Refusal :=
  act (fun d => d.when (decide (d.trlLink t = old)) (fun d => d.setTrlLink t new)) s

/-- `TRL_LINK_SIGNAL_DETECT` (R445). -/
def execTrlLinkSignalDetect (t : Fin 4) (s : State) : Host.Outcome State Fault Refusal := linkStep t.val 1 2 s
/-- `TRL_LINK_TRAINING_DONE` (R445). -/
def execTrlLinkTrainingDone (t : Fin 4) (s : State) : Host.Outcome State Fault Refusal := linkStep t.val 2 3 s
/-- `TRL_LINK_TRAINING_TIMEOUT` (R445). -/
def execTrlLinkTrainingTimeout (t : Fin 4) (s : State) : Host.Outcome State Fault Refusal := linkStep t.val 2 1 s
/-- `TRL_LINK_ALIGNED` (R445). -/
def execTrlLinkAligned (t : Fin 4) (s : State) : Host.Outcome State Fault Refusal := linkStep t.val 3 4 s
/-- `TRL_LINK_LOCK_LOSS` (R445): an UP link that loses lock, or hears no frame for DEAD_US. -/
def execTrlLinkLockLoss (t : Fin 4) (s : State) : Host.Outcome State Fault Refusal := linkStep t.val 5 1 s

/-! ## HELLO (R446, R449, R456, R469) -/

/-- The message a HELLO carries to a member, or to an unknown neighbour. -/
def Dev.helloMessage (d : Dev) (p : Path) : List Byte :=
  trlMessage 1 (beWords [wd (d.fld Reg.TRL_DOMAIN 0 16 * 65536 + d.selfId), d.reg Reg.TRL_INSTANCE,
    wd (p.epoch * 65536 + p.peerEpoch),
    wd ((if d.bit Reg.TRL_PARTITION 0 then 65536 else 0) + d.fld Reg.CLS_VINTAGE 0 16)])

/-- A path that is DOWN starts as soon as its link or tunnel can carry a HELLO. -/
def Dev.wakePath (d : Dev) (id : Nat) : Dev := if d.pathState id = 1 then d.startPath id else d

/-- `HELLO_SEND` (R446): over a link in HELLO or UP, over the tunnel path of a member; the destination of a HELLO to a
neighbour not yet heard is a free value. -/
def execHelloSend (via : Via) (s : State) : Host.Outcome State Fault Refusal :=
  act (fun d => match via with
    | .link t =>
      if d.trlLink t.val = 4 then
        let (dst, d) := d.freeNat
        d.sendLink t.val 1 (d.wepomer (dst % 512) true 0 (d.helloMessage ⟨0, 0, 0, 0, [], [], 0⟩))
      else if d.trlLink t.val = 5 then
        let id := d.fld (Reg.TRL_PORTt_STATUS t.val) 16 9
        let d := if (d.tunnelOf id).isNone then d.wakePath id else d
        d.sendLink t.val 1 (d.wepomer id true 0 (d.helloMessage (d.path id)))
      else d
    | .tunnel id =>
      if (d.tunnelOf id.val).isSome ∧ id.val ≠ d.selfId then
        let d := d.wakePath id.val
        d.sendWire id.val 1 (d.wepomer id.val true 0 (d.helloMessage (d.path id.val)))
      else d) s

/-- The sync walk toward a member whose path has come UP: SYNC_BEGIN, a LEARN for each local learned entry, SYNC_END
(R469). The port of an entry that no FWD_PORT_NODEp names is a free value. -/
def Dev.syncWalk (d : Dev) (id : Nat) : Dev :=
  if !d.bit Reg.FWD_CTRL 29 then d
  else
    let s0 := d.reg Reg.FWD_LEARN_SEQ + 1
    let mine := d.fwd.l2.filter (fun e => entryValid e.2 && decide (Word.fld (wordAt e.2 0) 27 3 = 2))
    let d := mine.foldl (fun d e =>
      let seq := d.reg Reg.FWD_LEARN_SEQ + 1
      let (any, d) := d.freeNat
      let port := ((List.range 16).find? (fun p => decide (d.fld (Reg.FWD_PORT_NODEp p) 0 16 = Word.fld (wordAt e.2 4) 0 16))).getD (any % 16)
      let ws := [wd (2 ^ 28 + d.selfId * 2 ^ 16 + Word.fld (wordAt e.2 0) 0 12), wordAt e.2 1, wordAt e.2 2, 0, wordAt e.2 4,
        wordAt e.2 5, wd port, 0]
      (d.setReg Reg.FWD_LEARN_SEQ seq).trlSend id 1 0x10 (bytesOf (sealLearn ws seq))) (d.tell id 0x11 [s0])
    d.tell id 0x12 [s0]

/-- A member has restarted (R456): what was learned of it goes, its vintage transaction and the requests to it end, and the
path starts again. -/
def Dev.peerRestarted (d : Dev) (id : Nat) : Dev :=
  let d := d.trlEvt 2 id
  let d := { d with trl := { d.trl with lastSeq := Map.del d.trl.lastSeq id, syncStart := Map.del d.trl.syncStart id } }
  let d := d.sweepL2 (fun ws => Word.bit (wordAt ws 0) 27 && decide (Word.fld (wordAt ws 6) 0 9 = id))
  let d := (d.swapForget id).failPeer id 0x18
  (d.setPath id (fun p => { p with unacked := [], backlog := [], resends := 0, peerEpoch := 0 })).setPathState id 1

/-- A HELLO judged for the path of its sender: a foreign one sets no path; a new INSTANCE, or a peer that has started its end
of an UP path again, starts the path; it is UP at the first HELLO that echoes the own EPOCH (R449, R456). -/
def Dev.helloPath (d : Dev) (mesh : Bool) (h : HelloBody) : Dev :=
  let id := h.id.val
  if h.domain.val ≠ d.fld Reg.TRL_DOMAIN 0 16 ∨ (d.memberIdx id).isNone then (d.trlCount 8).trlEvt 6 id
  else if id = d.selfId ∨ mesh ≠ (d.tunnelOf id).isNone then d
  else
    let known := Map.get? d.trl.instances id
    let d := { d with trl := { d.trl with instances := Map.put d.trl.instances id h.inst } }
    let d := if known.isSome ∧ known ≠ some h.inst then d.peerRestarted id else d
    let d := if d.reachable id ∧ (d.path id).peerEpoch ≠ h.myEpoch.val then d.pathDown id else d
    let d := d.wakePath id
    let d := d.setPath id (fun p => { p with peerEpoch := h.myEpoch.val })
    if d.pathState id = 2 ∧ h.yourEpoch.val = (d.path id).epoch then (d.setPathState id 3).syncWalk id else d

/-- A HELLO on a Trellis link in HELLO or UP: the own ID is a conflict; else the link is UP with that neighbour (R445,
R446). -/
def Dev.helloLink (d : Dev) (t : Nat) (h : HelloBody) : Dev :=
  let st := d.trlLink t
  if st ≠ 4 ∧ st ≠ 5 then d
  else if h.id.val = d.selfId then (d.setTrlLink t 6).trlEvt 7 t
  else
    let d := d.setFld (Reg.TRL_PORTt_STATUS t) 16 9 h.id.val
    (if st = 4 then d.setTrlLink t 5 else d.showCarrying).helloPath true h

/-- `HELLO` (R449). -/
def execHello (via : Via) (h : HelloBody) (s : State) : Host.Outcome State Fault Refusal :=
  act (fun d => match via with
    | .link t => d.helloLink t.val h
    | .tunnel _ => d.helloPath false h) s

/-- `PATH_DEAD` (R450): the command says that no frame has come for DEAD_US, or that 8 resends made no progress. -/
def execPathDead (id : Fin 512) (s : State) : Host.Outcome State Fault Refusal :=
  act (fun d => d.when (decide (2 ≤ d.pathState id.val)) (fun d => d.pathDown id.val)) s

/-- `TRELLIS_RETRANSMIT` (R450): after 8 resends without progress the path goes DOWN. -/
def execTrellisRetransmit (id : Fin 512) (s : State) : Host.Outcome State Fault Refusal :=
  act (fun d =>
    let p := d.path id.val
    if !d.reachable id.val || p.unacked.isEmpty then d
    else if 8 ≤ p.resends then d.pathDown id.val
    else ((d.setPath id.val (fun p => { p with resends := p.resends + 1 })).trlCount 6).resend id.val) s

/-! ## Wepomer frames (R450 to R452) -/

/-- The header and messages of a Wepomer frame, past its Ethernet header and tag. -/
def wepomerOf (bs : List Byte) : Option (List Byte) :=
  let o := if beAt bs 12 2 = 0x8100 then 16 else 12
  if beAt bs o 2 = 0x8A73 then some (bs.drop (o + 2)) else none

/-- The messages of a frame: TYPE and body. -/
def wepomerMessages : Nat → List Byte → List (Nat × List Byte)
  | 0, _ => []
  | n + 1, bs =>
    if bs.length < 4 then []
    else
      let len := beAt bs 2 2
      (byteAt bs 0, (bs.drop 4).take len) :: wepomerMessages n (bs.drop (4 + len))

/-- TYPEs that a sequenced frame may carry (R452); the others are discarded. -/
def trlTypes : List Nat :=
  [0x10, 0x11, 0x12, 0x20, 0x21, 0x22, 0x23, 0x24, 0x25, 0x30, 0x31, 0x32, 0x40, 0x50, 0x51, 0x52, 0x53, 0x54, 0x55, 0x60, 0x61,
   0x62, 0x63, 0x70, 0x71]

/-- A HELLO's body read from its message. -/
def helloOf (b : List Byte) : HelloBody :=
  ⟨Fin.ofNat 65536 (beAt b 0 2), Fin.ofNat 512 (beAt b 2 2), wd (beAt b 4 4), Fin.ofNat 65536 (beAt b 8 2), Fin.ofNat 65536 (beAt b 10 2),
   (beAt b 12 4).testBit 16, Fin.ofNat 65536 (beAt b 14 2)⟩

/-- A frame's ACK taken where it belongs to the current path. -/
def Dev.frameAck (d : Dev) (src epoch ack : Nat) : Dev :=
  if d.reachable src ∧ (d.path src).peerEpoch = epoch then d.takeAck src ack else d

/-- A Wepomer frame taken from a Trellis link or a network port, in a pipeline, with its receive time. -/
def Dev.wepomerTake (d : Dev) (link : Option Nat) (pipe at_ : Nat) (bs : List Byte) : Dev :=
  match wepomerOf bs with
  | none => d
  | some w =>
    let src := beAt w 6 2 % 512
    let epoch := beAt w 8 2
    let msgs := wepomerMessages w.length ((w.drop 16).take (beAt w 14 2))
    if byteAt w 0 ≠ 1 then d
    else if (byteAt w 1).testBit 7 then
      let d := if beAt w 2 2 = d.fld Reg.TRL_DOMAIN 0 16 then d.frameAck src epoch (beAt w 12 2) else d
      (msgs.filter (fun m => decide (m.1 = 1))).foldl (fun d m => match link with
        | some t => d.helloLink t (helloOf m.2)
        | none => d.helloPath false (helloOf m.2)) d
    else if beAt w 2 2 ≠ d.fld Reg.TRL_DOMAIN 0 16 ∨ beAt w 4 2 % 512 ≠ d.selfId ∨ !d.reachable src ∨
        link.isSome ≠ (d.tunnelOf src).isNone then d
    else if epoch ≠ (d.path src).peerEpoch then d.trlCount 10
    else
      let d := d.frameAck src epoch (beAt w 12 2)
      let d := if beAt w 10 2 = (d.path src).recvSeq then
          let d := d.setPath src (fun p => { p with recvSeq := (p.recvSeq + 1) % 65536 })
          { d with trl := { d.trl with inbox := d.trl.inbox ++
              (msgs.filter (fun m => trlTypes.contains m.1)).map (fun m => ⟨src, m.1, m.2, pipe, at_⟩) } }
        else d
      d.sendWire src 1 (d.wepomer src true 0 [])

/-- `WEPOMER_FRAME` (R448, R450): a frame on a Trellis link, through the port's SecY where that verifies (R350), or a received
frame steered to the TRL. -/
def execWepomerFrame (w : Wepomer) (s : State) : Host.Outcome State Fault Refusal :=
  act (fun d => match w with
    | .mesh t bytes =>
      if d.trlLink t.val ≠ 4 ∧ d.trlLink t.val ≠ 5 then d
      else
        let y := 16 + t.val
        (match d.secyReceive y bytes with
         | none => d.wepomerTake (some t.val) (d.trlPipe t.val) d.time bytes
         | some true =>
           let f := Frame.new (d.trlPipe t.val) 17 2 (.verify y) bytes 0 d.time d.now
           (d.newFrame { f with fwdArg := wd (t.val + 1) }).2
         | some false =>
           let d := d.secyCount y 4
           if d.bit (Reg.CRY_SECYy_CTRL y) 28 then d else d.wepomerTake (some t.val) (d.trlPipe t.val) d.time bytes)
    | .frame id =>
      match d.frame? id with
      | none => d
      | some f =>
        if f.place ≠ .trl then d
        else
          let link := if f.fwdArg = 0 then none else some (f.fwdArg.toNat - 1)
          let carries := match link with
            | some _ => true
            | none => decide (f.srcPort < 16) && d.bit (Reg.TRL_TUNNELp f.srcPort) 31
          let d := d.freeFrame id
          if carries then d.wepomerTake link f.pipe (f.m 8 0 16 * 2 ^ 32 + f.m 7 0 32) f.bytes else d) s

/-! ## Learning across the domain (R455, R469) -/

/-- `LEARN` (R455). -/
def execLearn (s : State) : Host.Outcome State Fault Refusal :=
  msgStep 0x10 (fun m d =>
    let ws := wordsOf 8 m.body
    let origin := Word.fld (wordAt ws 0) 16 9
    let seq := wordAt ws 3
    if origin ≠ m.src then d.trlCount 3
    else
      let fresh (d : Dev) : Dev :=
        ({ d with trl := { d.trl with lastSeq := Map.put d.trl.lastSeq origin seq } } : Dev).learnQueue ⟨ws, true⟩
      match Map.get? d.trl.lastSeq origin with
      | none => fresh d
      | some l =>
        let diff := (seq - l).toInt
        if diff ≤ 0 then
          ((d.trlCount 0).trlEvt 5 origin).lees (wd (2 * 2 ^ 28)) seq (wd (Word.fld (wordAt ws 0) 28 4 * 4096 + origin)) l
        else fresh (if 1 < diff then d.trlCount 1 else d)) s

/-- `SYNC_BEGIN` (R469). -/
def execSyncBegin (s : State) : Host.Outcome State Fault Refusal :=
  msgStep 0x11 (fun m d => { d with trl := { d.trl with syncStart := Map.put d.trl.syncStart m.src (m.w 0) } }) s

/-- `SYNC_END` (R469): FOREIGN entries of the sender older than its S0 go. -/
def execSyncEnd (s : State) : Host.Outcome State Fault Refusal :=
  msgStep 0x12 (fun m d =>
    let s0 := m.w 0
    let d := { d with trl := { d.trl with syncStart := Map.del d.trl.syncStart m.src } }
    d.sweepL2 (fun ws => Word.bit (wordAt ws 0) 27 && decide (Word.fld (wordAt ws 6) 0 9 = m.src ∧ (wordAt ws 7 - s0).toInt < 0))) s

/-! ## Peer windows (R461 to R464) -/

/-- Why a window refuses a message, in the order of R462; 0 accepts it. -/
def Dev.windowRefusal (d : Dev) (w src : Nat) (off len : Nat) (write : Bool) : Nat :=
  let size := d.fld (Reg.TRL_WINw_SIZE w) 0 21 * 4096
  let ctrl := d.reg (Reg.TRL_WINw_CTRL w)
  let own := d.reg (Reg.TRL_WINw_OWNER w)
  let peer := Word.fld ctrl 20 9
  let s := Word.fld own 0 13
  if size = 0 then 1
  else if size < off + len ∨ len = 0 ∨ 4096 < len ∨
      (!Word.bit ctrl 29 ∧ hbmEnd < d.reg64 (Reg.TRL_WINw_BASE_LO w) + size) then 2
  else if peer ≠ src ∧ peer ≠ 0x1FF then 3
  else if !Word.bit ctrl (if write then 31 else 30) then 4
  else if Word.bit ctrl 29 ∧ (!Word.bit own 31 ∨ d.sliceState s ≠ 1 ∨ d.incarnation s ≠ Word.fld own 16 8) then 5
  else 0

/-- PEER_RESP to the sender of a request. -/
def Dev.peerResp (d : Dev) (m : TrlMsg) (st : Nat) (data : List Byte) : Dev :=
  d.trlSend m.src 2 0x32 (beWords [wd (m.f 0 16 16 * 65536 + st)] ++ padWord data)

/-- A refusal: counted, its event set, answered (R462). -/
def Dev.windowNack (d : Dev) (m : TrlMsg) (w st : Nat) : Dev :=
  (((d.trlCount 7).countFld (Reg.TRL_WINw_STATUS w) 0 16).trlEvt 1 w).peerResp m st []

/-- A PEER_WRITE or PEER_READ judged against the active window set, then done (R462, R463). -/
def Dev.window (d : Dev) (m : TrlMsg) (write : Bool) (f : Nat → Nat → Bool → Nat → Dev → Dev) : Dev :=
  let w := m.f 0 0 4
  let off := (m.w 1).toNat
  let len := m.f 2 0 16
  match d.windowRefusal w m.src off len write with
  | 0 => f (d.reg64 (Reg.TRL_WINw_BASE_LO w) + off) len (d.bit (Reg.TRL_WINw_CTRL w) 29) (d.fld (Reg.TRL_WINw_OWNER w) 0 13) d
  | st => d.windowNack m w st

/-- `PEER_WRITE` (R462): whole in one step, so OLD_INFLIGHT stays 0. -/
def execPeerWrite (s : State) : Host.Outcome State Fault Refusal :=
  msgStep 0x30 (fun m d => d.window m true (fun addr len host sl d =>
    let bs := (m.body.drop 12).take len
    if !host then (d.setHbmBytes addr bs).peerResp m 0 []
    else if d.canIssue (d.home sl) then (d.sliceBytes sl addr bs).peerResp m 0 []
    else d.peerResp m 6 [])) s

/-- `PEER_READ` (R462): `host` is what the host's memory answers, `none` where the request fails. -/
def execPeerRead (host : Option (List Byte)) (s : State) : Host.Outcome State Fault Refusal :=
  msgStep 0x31 (fun m d => d.window m false (fun addr len inHost sl d =>
    if !inHost then d.peerResp m 0 (d.hbmBytes addr len)
    else
      let f := d.home sl
      match d.canIssue f, d.freeTag (d.linkOf f), host with
      | true, some t, some bs =>
        let d := d.request f (.hostRead f t addr len)
        if bs.length = len then d.peerResp m 0 bs else d.peerResp m 6 []
      | _, _, _ => d.peerResp m 6 [])) s

/-- The oldest request of a thread on channel TRL that has not gone to its member. -/
def Dev.trlReq (d : Dev) (t : Nat) : Option AccReq :=
  (d.thread t).reqs.find? (fun r => decide (r.chan = 0x0B) && r.answer.isNone && !(Map.keys d.trl.reqs).contains r.tag)

/-- A request on channel TRL: an OP the channel does not have is answered BAD_OP, one to an unreachable member fails at
presentation (R316, R464). -/
def Dev.trlRequest (d : Dev) (t op : Nat) (f : AccReq → Nat → Dev → Dev) : Dev :=
  match d.trlReq t with
  | none => d
  | some r =>
    let o := Word.fld (wordAt r.words 0) 24 8
    let dev := Word.fld (wordAt r.words 1) 16 9
    if o = 0 ∨ 3 < o then d.answerReq t r.tag accBadOp []
    else if o ≠ op then d
    else if !d.reachable dev then d.answerReq t r.tag 0x17 []
    else f r dev d

/-- A request recorded as outstanding, and its message sent: its number is its TAG. -/
def Dev.peerRequest (d : Dev) (t : Nat) (r : AccReq) (dev kind : Nat) (reads : Bool) (data : List Byte) : Dev :=
  let d := { d with trl := { d.trl with reqs := Map.put d.trl.reqs r.tag ⟨dev, t, reads⟩ } }
  d.trlSend dev 2 kind (beWords [wd (r.tag % 65536 * 65536 + Word.fld (wordAt r.words 1) 0 4), wordAt r.words 2,
    wd (Word.fld (wordAt r.words 3) 0 16)] ++ padWord data)

/-- LEN of a request lies in 1 to 4,096. -/
def peerLenOk (r : AccReq) : Bool := let n := Word.fld (wordAt r.words 3) 0 16; decide (1 ≤ n ∧ n ≤ 4096)

/-- `TRL_PEER_WRITE_REQUEST` (R464). -/
def execTrlPeerWriteRequest (t : Fin 512) (s : State) : Host.Outcome State Fault Refusal :=
  act (fun d => d.trlRequest t.val 1 (fun r dev d =>
    match d.winRead t.val (wordAt r.words 4).toNat (Word.fld (wordAt r.words 3) 0 16) with
    | some bs => if peerLenOk r then d.peerRequest t.val r dev 0x30 false bs else d.answerReq t.val r.tag accRefused []
    | none => d.answerReq t.val r.tag accRefused [])) s

/-- `TRL_PEER_READ_REQUEST` (R464). -/
def execTrlPeerReadRequest (t : Fin 512) (s : State) : Host.Outcome State Fault Refusal :=
  act (fun d => d.trlRequest t.val 2 (fun r dev d =>
    if peerLenOk r then d.peerRequest t.val r dev 0x31 true [] else d.answerReq t.val r.tag accRefused [])) s

/-- `TRL_SEND_REQUEST` (R464): answered once the message has gone. -/
def execTrlSendRequest (t : Fin 512) (s : State) : Host.Outcome State Fault Refusal :=
  act (fun d => d.trlRequest t.val 3 (fun r dev d =>
    let n := Word.fld (wordAt r.words 2) 0 6
    match d.winRead t.val (wordAt r.words 4).toNat (4 * n) with
    | some bs =>
      if 1 ≤ n ∧ n ≤ 60 then
        (d.trlSend dev 2 0x71 (bytesOf [wd (n * 65536 + Word.fld (wordAt r.words 1) 0 11)] ++ bs)).answerReq t.val r.tag accOk []
      else d.answerReq t.val r.tag accRefused []
    | none => d.answerReq t.val r.tag accRefused [])) s

/-- `PEER_RESP` (R464): the request of that TAG to that member completes. -/
def execPeerResp (s : State) : Host.Outcome State Fault Refusal :=
  msgStep 0x32 (fun m d =>
    match d.trl.reqs.find? (fun e => decide (e.1 % 65536 = m.f 0 16 16 ∧ e.2.dev = m.src)) with
    | none => d
    | some (k, q) =>
      let st := m.f 0 0 8
      let len := match (d.thread q.thread).reqs.find? (fun r => decide (r.tag = k)) with
        | some r => Word.fld (wordAt r.words 3) 0 16
        | none => 0
      let d := { d with trl := { d.trl with reqs := Map.del d.trl.reqs k } }
      d.answerReq q.thread k (if st = 0 then 0 else 0x10 + st) (if q.reads ∧ st = 0 then (m.body.drop 4).take len else [])) s

/-! ## Angle (R458, R459) -/

/-- One slot of the exported frame. -/
def Dev.angleSlot (d : Dev) (n : Nat) : List Byte :=
  let st := d.refState n
  let on := d.bit Reg.TRL_ANGLE_CTRL n
  let q := (if on && decide (2 ≤ st ∧ st ≤ 4) then 0x80 else 0) + (if on && decide (st = 4) then 0x40 else 0)
  if on then
    beBytes 4 (d.angle n).toNat ++ beBytes 4 ((d.gref n).freq * 65536 / 1000000) ++ beBytes 2 (d.fld (Reg.GAU_REFn_ROCOF n) 0 16) ++
      [BitVec.ofNat 8 q, 0]
  else List.replicate 12 0

/-- `ANGLE_EXPORT` (R458). -/
def execAngleExport (s : State) : Host.Outcome State Fault Refusal :=
  act (fun d =>
    if !d.bit Reg.TRL_ANGLE_CTRL 31 then d
    else
      let head := [1, BitVec.ofNat 8 d.trl.angleSeq, 0, 0] ++ (List.range 4).flatMap d.angleSlot
      let bs := head ++ beBytes 2 (crc16 head) ++ [0, 0]
      let d := { d with trl := { d.trl with angleSeq := (d.trl.angleSeq + 1) % 256 } }
      d.trlSendAll (d.members.filter d.reachable) 0 0x40 (beWords [hi32 d.time, lo32 d.time] ++ bs)) s

/-- `ANGLE` (R459): taken in place of the balls where IMPORT and GSYNC are enabled and SOURCE sent it. -/
def execAngle (s : State) : Host.Outcome State Fault Refusal :=
  msgStep 0x40 (fun m d =>
    if d.bit Reg.TRL_ANGLE_CTRL 30 && d.gsyncOn && decide (m.src = d.fld Reg.TRL_ANGLE_CTRL 16 9) then
      gsyncTake (d.time - cat64 (m.w 1) (m.w 0)) ((m.body.drop 8).take 54) false d
    else d) s

/-! ## Frames, messages, commands of members (R454, R465, R466) -/

/-- `FRAME` (R454). -/
def execFrame (s : State) : Host.Outcome State Fault Refusal :=
  msgStep 0x70 (fun m d =>
    let node := m.f 0 0 16
    let bs := (m.body.drop 16).take (m.f 1 0 14)
    let (cell, d) := d.freeNat
    let f := Frame.new m.pipe 17 (m.f 1 30 2) (if node = 0xFFFF then .press else .toNode node) bs cell m.at_ d.now
    (d.newFrame { f with vint := some (m.f 0 16 16) }).2) s

/-- `SEND` (R465). -/
def execSend (s : State) : Host.Outcome State Fault Refusal :=
  msgStep 0x71 (fun m d =>
    let ws := wordsOf 61 m.body
    let n := Nat.min 60 (Word.fld (wordAt ws 0) 16 8)
    d.sendMessage (Word.fld (wordAt ws 0) 8 3) (Word.fld (wordAt ws 0) 0 8) 6 (wd (m.src * 65536 + 4 * n)) none ((ws.drop 1).take n)) s

/-- `CMD` (R466): the packet goes into queue 7. -/
def execCmd (s : State) : Host.Outcome State Fault Refusal :=
  msgStep 0x60 (fun m d => d.putPacket 7 m.src (wordsOf (m.body.length / 4) m.body)) s

/-- `REPLY` (R466): taken as the reply of the TRELLIS_PEER_CMD whose packet it answers. -/
def execReply (s : State) : Host.Outcome State Fault Refusal :=
  msgStep 0x61 (fun m d =>
    let ws := wordsOf (m.body.length / 4) m.body
    match d.trl.peerCmds.find? (fun p => decide (p.1 = m.src) && (match d.cmd? p.2.1 p.2.2.1 p.2.2.2 with
        | some c => decide (c.p 2 = wordAt ws 1)
        | none => false)) with
    | none => d
    | some p =>
      ({ d with trl := { d.trl with peerCmds := d.trl.peerCmds.erase p } } : Dev).finish p.2.1 p.2.2.1 p.2.2.2 (Res.ok ws)) s

/-- `MBX_IN` (R466). -/
def execMbxIn (s : State) : Host.Outcome State Fault Refusal := msgStep 0x62 (fun m d => d.mbxIn 7 (m.w 0)) s

/-- `MBX_OUT` (R466). -/
def execMbxOut (s : State) : Host.Outcome State Fault Refusal :=
  msgStep 0x63 (fun m d => ((d.setReg Reg.TRL_MBX_RX (m.w 0)).setN Reg.TRL_MBX_SRC m.src).trlEvt 8 m.src) s

/-! ## The opcodes (R470) -/

/-- A commit group as a mask. -/
def group (g : Nat) : Nat := 2 ^ g

/-- What makes TRELLIS_PORT_SET bad. -/
def trellisPortSetBad (c : Cmd) (d : Dev) : Bool :=
  let p := c.pf 0 0 4
  let node := c.pf 1 0 16
  decide (c.pf 0 4 26 ≠ 0) ||
  (if c.pf 0 31 1 = 0 then decide (3 < p ∨ c.p 1 ≠ 0)
   else decide (c.pf 1 28 2 ≠ 0) || !d.portPresent p || decide (d.portA p ≠ p) || !d.attached node || decide (d.nodeAt node ≠ p) ||
     decide (d.fld (Reg.MAC_PORTp_CTRL p) 0 14 ≠ 9216))

/-- 0x0900. -/
def runTrellisPortSet (c : Cmd) (d : Dev) : Dev × Option Res :=
  let p := c.pf 0 0 4
  let on := c.pf 0 30 1
  if trellisPortSetBad c d then answer d (Res.st stBadParam)
  else d.stageStrobe c (group 19) [if c.pf 0 31 1 = 0 then (Reg.TRL_PORTt_CTRL p, wd (on * 2 ^ 31))
    else (Reg.TRL_TUNNELp p, Word.setFld (c.p 1) 31 1 on)] (Res.ok [])
/-- `TRELLIS_PORT_SET`. -/
def execTrellisPortSet (m : Fin 16) (tag : Fin 4096) (gen : Fin 16) (s : State) : Host.Outcome State Fault Refusal :=
  opStep 0x0900 runTrellisPortSet m.val tag.val gen.val s

/-- The writes of TRELLIS_DOMAIN_SET to the member table. -/
def domainWrites (c : Cmd) : List (Nat × Word) :=
  (List.range (c.pf 1 0 10)).flatMap (fun i =>
    (List.range 3).map (fun j => (Reg.TRL_MEMBER (c.pf 0 0 9 + i) j, c.p (2 + 3 * i + j))))

/-- The member table a LAST command would leave lacks the device, repeats an ID, or names a port without tunnel. -/
def Dev.domainBad (d : Dev) (n : Nat) : Bool :=
  let w (i : Nat) : Word := d.staged (Reg.TRL_MEMBER i 0)
  let ids := (List.range n).map (fun i => Word.fld (w i) 16 9)
  !ids.contains d.selfId || decide (ids.eraseDups.length ≠ n) ||
  (List.range n).any (fun i => Word.bit (w i) 4 && !Word.bit (d.staged (Reg.TRL_TUNNELp (Word.fld (w i) 0 4))) 31)

/-- What makes TRELLIS_DOMAIN_SET bad. -/
def trellisDomainSetBad (c : Cmd) (d : Dev) : Bool :=
  let n := c.pf 1 0 10
  let last := c.pf 0 0 9 + n
  decide (c.pf 0 9 6 ≠ 0 ∨ c.pf 1 10 22 ≠ 0 ∨ c.paramLen ≠ 8 + 12 * n ∨ 512 < last) ||
  (List.range n).any (fun i => decide (c.pf (2 + 3 * i) 25 7 ≠ 0 ∨ c.pf (2 + 3 * i) 5 11 ≠ 0 ∨ c.pf (4 + 3 * i) 16 16 ≠ 0)) ||
  (decide (c.pf 0 15 1 = 1) && (d.stageAll c.master false (domainWrites c)).domainBad last)

/-- 0x0901: the entries are staged; LAST stages DOMAIN and COUNT and strobes. -/
def runTrellisDomainSet (c : Cmd) (d : Dev) : Dev × Option Res :=
  let ws := domainWrites c
  if trellisDomainSetBad c d then answer d (Res.st stBadParam)
  else if c.pf 0 15 1 = 1 then
    d.stageStrobe c (group 19) (ws ++ [(Reg.TRL_DOMAIN, wd ((c.pf 0 0 9 + c.pf 1 0 10) * 65536 + c.pf 0 16 16))]) (Res.ok [])
  else
    let touched := d.anyExpert (ws.map Prod.fst)
    answer (d.stageAll c.master false ws) { Res.ok [] with expert := touched }
/-- `TRELLIS_DOMAIN_SET`. -/
def execTrellisDomainSet (m : Fin 16) (tag : Fin 4096) (gen : Fin 16) (s : State) : Host.Outcome State Fault Refusal :=
  opStep 0x0901 runTrellisDomainSet m.val tag.val gen.val s

/-- What makes TRELLIS_WINDOW_SET bad: a SPACE 1 window without its slice, reserved bits. The pair of R461 is judged at its
strobe. -/
def trellisWindowSetBad (c : Cmd) (_ : Dev) : Bool :=
  decide (c.pf 0 8 8 ≠ 0 ∨ c.pf 0 20 12 ≠ 0 ∨ c.pf 3 21 11 ≠ 0 ∨ c.pf 4 0 20 ≠ 0) ||
  (decide (c.pf 4 29 1 = 1) && c.slice?.isNone)

/-- 0x0902: OWNER takes the slice of word 1 and the incarnation of parameter word 0. -/
def runTrellisWindowSet (c : Cmd) (d : Dev) : Dev × Option Res :=
  let w := c.pf 0 16 4
  let own := match c.slice? with
    | some sl => wd (2 ^ 31 + c.pf 0 0 8 * 65536 + sl)
    | none => 0
  if trellisWindowSetBad c d then answer d (Res.st stBadParam)
  else d.stageStrobe c (group 20) [(Reg.TRL_WINw_BASE_LO w, c.p 1), (Reg.TRL_WINw_BASE_HI w, c.p 2), (Reg.TRL_WINw_SIZE w, c.p 3),
    (Reg.TRL_WINw_CTRL w, c.p 4), (Reg.TRL_WINw_OWNER w, own)] (Res.ok [])
/-- `TRELLIS_WINDOW_SET`. -/
def execTrellisWindowSet (m : Fin 16) (tag : Fin 4096) (gen : Fin 16) (s : State) : Host.Outcome State Fault Refusal :=
  opStep 0x0902 runTrellisWindowSet m.val tag.val gen.val s

/-- 0x0903. -/
def runTrellisStatus (_ : Cmd) (d : Dev) : Dev × Option Res :=
  let ks := [Reg.TRL_ID, Reg.TRL_DOMAIN, Reg.TRL_PARTITION] ++ (List.range 4).map Reg.TRL_PORTt_STATUS
  (d, some ((Res.ok (ks.map d.reg ++ (List.range d.memberCount).map (fun i =>
    wd (d.memberId i * 65536 + d.fld (Reg.TRL_MEMBER3 i) 29 3)))).touching d [Reg.TRL_DOMAIN]))
/-- `TRELLIS_STATUS`. -/
def execTrellisStatus (m : Fin 16) (tag : Fin 4096) (gen : Fin 16) (s : State) : Host.Outcome State Fault Refusal :=
  opStep 0x0903 runTrellisStatus m.val tag.val gen.val s

/-- What makes TRELLIS_PEER_CMD bad: reserved bits, a member that is unreachable (R468). -/
def trellisPeerCmdBad (c : Cmd) (d : Dev) : Bool := decide (c.pf 0 9 23 ≠ 0) || !d.reachable (c.pf 0 0 9)

/-- 0x0904: the packet goes to the member, whose reply ends the command (R466). -/
def runTrellisPeerCmd (c : Cmd) (d : Dev) : Dev × Option Res :=
  let id := c.pf 0 0 9
  if trellisPeerCmdBad c d then answer d (Res.st stBadParam)
  else
    let d := d.trlSend id 1 0x60 (bytesOf (c.params.drop 1))
    ({ d with trl := { d.trl with peerCmds := d.trl.peerCmds ++ [(id, c.master, c.tag, c.gen)] } }, none)
/-- `TRELLIS_PEER_CMD`. -/
def execTrellisPeerCmd (m : Fin 16) (tag : Fin 4096) (gen : Fin 16) (s : State) : Host.Outcome State Fault Refusal :=
  opStep 0x0904 runTrellisPeerCmd m.val tag.val gen.val s

end Sys2Proof.Machine
end

