-- ==== Sys2Proof/Machine/Ebs.lean ====
section
/-! DEFINITION. The commands of the Energy Budget Scheduler: windows, refused units, GSTRESS, heat, the energy opcodes
(R62 to R80, R549). -/

namespace Sys2Proof.Machine

/-- A command of a part that works from device reset on, before stage 7 too, until a halt. -/
def actOn (f : Dev → Dev) (s : State) : Host.Outcome State Fault Refusal :=
  actAlways (fun d => if !d.halted && !d.pins.rstLow && d.pins.pgLow.isEmpty then f d else d) s

/-! ## Windows (R62, R65, R73, R77, R80) -/

/-- The window that ends: one with negative room is recorded (R65). -/
def Dev.windowEnd (d : Dev) : Dev :=
  if d.ebs.room < 0 then (d.sqSet Reg.EBS_STATUS [4]).count (Reg.EBS_COUNTS 2) 1 else d

/-- The GSTRESS level of the window that begins (R73). -/
def Dev.windowLevel (d : Dev) : Dev :=
  let l := d.levelTarget
  if l = d.ebs.level then d
  else { (d.setFld Reg.EBS_GSTRESS_CTRL 6 2 l).sqSet Reg.EBS_STATUS [2] with ebs := { d.ebs with level := l } }

/-- The effective cap of the window that begins, in 0.1 W (R62, R72). -/
def Dev.windowCap (d : Dev) : Nat × Dev :=
  let (cap, src) := d.effectiveCap
  let changed := decide (cap ≠ d.fld Reg.EBS_CAP_STATUS 16 16)
  let d := d.setN Reg.EBS_CAP_STATUS (cap * 65536 + src)
  (cap, if changed then d.sqSet Reg.EBS_STATUS [0] else d)

/-- The sums of the last 100 windows take the window that ends (R80). -/
def Ebs.shift (e : Ebs) : Ebs :=
  let ks := (Map.keys e.sliceSum ++ Map.keys e.sliceNow).eraseDups
  { e with sliceNow := [],
           sliceSum := ks.foldl (fun m s => Map.putD m s [] (if (Map.getD e.sliceSum s []).all (· = 0) && decide (Map.getD e.sliceNow s 0 = 0)
             then [] else (Map.getD e.sliceNow s 0 :: Map.getD e.sliceSum s []).take 99)) e.sliceSum }

/-- Budget, debt and base energy of the window that begins (R62, R65, R70). -/
def Dev.windowBudget (d : Dev) (cap : Nat) : Dev :=
  let b := cap * 1000000
  let owed := (-d.ebs.room).toNat
  let d := if b < owed then d.count (Reg.EBS_COUNTS 1) 1 else d
  let base := d.baseCost
  let e := d.ebs.shift
  { d with ebs := { e with budget := b, room := (b : Int) - (Nat.min owed b : Nat) - base, class3 := 0,
                           tripHold := d.bit Reg.EBS_THERMAL_TRIP 0 } }.addEnergy none base

/-- `WINDOW_START` (R62). -/
def execWindowStart (s : State) : Host.Outcome State Fault Refusal :=
  actOn (fun d =>
    let (cap, d) := d.windowEnd.windowLevel.windowCap
    (d.windowBudget cap).inc Reg.EBS_WINDOW) s

/-- Engines that are free take up messages that the EBS has admitted. -/
def Dev.engagePoint (d : Dev) (p : Point) : Dev :=
  if p = .cipher then (List.range 12).foldl (fun d e => if (d.inEngine e).isNone then d.engineTake e else d) d else d

/-- `REFUSED_UNIT_ADMITTED` (R64): a refused unit offered again is admitted where its window has room for it. -/
def execRefusedUnitAdmitted (p : Point) (u : Nat) (s : State) : Host.Outcome State Fault Refusal :=
  actOn (fun d =>
    match d.waitingUnit p u with
    | none => d
    | some w =>
      if d.admits w.cls w.cost w.slice then
        let d := (d.dropWaiting p u).charge (d.offeredClass w.cls w.slice) w.cost w.slice
        ({ d with ebs := { d.ebs with granted := d.ebs.granted ++ [(p, u)] } } : Dev).engagePoint p
      else d) s

/-! ## GSTRESS and heat (R73, R75 to R77) -/

/-- `GSTRESS_CHANGE` (R73): the balls change, and the stability filter starts again. -/
def execGstressChange (level : Fin 4) (s : State) : Host.Outcome State Fault Refusal :=
  act (fun d => { d.setFld Reg.EBS_GSTRESS_CTRL 4 2 level.val with ebs := { d.ebs with balls := level.val, ballsAt := d.now } }) s

/-- `GSTRESS_ACCEPT` (R73): the command says that the level has been stable for 100 µs. -/
def execGstressAccept (s : State) : Host.Outcome State Fault Refusal :=
  act (fun d => { d with ebs := { d.ebs with accepted := d.ebs.balls } }) s

/-- The hottest of a list of readings. -/
def hottest (rs : List (BitVec 16)) : Option (BitVec 16) :=
  rs.foldl (fun a r => match a with
    | none => some r
    | some b => if b.toInt < r.toInt then some r else some b) none

/-- The trip follows the hottest reading; it holds classes 2 and 3 until a window start after it has cleared (R77). -/
def Dev.trip (d : Dev) (t : Int) : Dev :=
  let point : Int := 4 * (d.fld Reg.EBS_THERMAL_CTRL 8 8 : Int)
  if point ≤ t then
    { d.hcSet Reg.EBS_THERMAL_TRIP 0 true 0 with ebs := { d.ebs with tripHold := true } }
  else if t < point - 20 then d.hcSet Reg.EBS_THERMAL_TRIP 0 false 0
  else d

/-- `TEMP_READING` (R75 to R77): a second reading running at or above 125 °C halts the device. -/
def execTempReading (readings : List (BitVec 16)) (s : State) : Host.Outcome State Fault Refusal :=
  actOn (fun d =>
    match hottest readings with
    | none => d
    | some r =>
      let before := d.thermalCap
      let last := d.reg Reg.EBS_TEMP
      let d := (d.setFld Reg.EBS_TEMP 0 16 r.toNat).trip r.toInt
      let d := if before.isNone && d.thermalCap.isSome then d.sqSet Reg.EBS_STATUS [3] else d
      let run := if 500 ≤ r.toInt then d.ebs.hotRun + 1 else 0
      let d := { d with ebs := { d.ebs with hotRun := run } }
      if 2 ≤ run then d.halt { faultRec 4 5 18 0 with data := [last, wd r.toNat] } else d) s

/-! ## The energy opcodes (R93, R549) -/

/-- The commit group of EBS and AGE. -/
def groupEbs : Nat := 2 ^ 7

/-- The work of an Expert command that stages and strobes: EXPERT tells of expert state found before it (R10, R130). -/
def Dev.stageExpert (d : Dev) (c : Cmd) (groups : Nat) (ws : List (Nat × Word)) : Dev × Option Res :=
  let found := d.rf.stg.any (fun e => e.2.expert && groups.testBit (groupOf e.1)) || d.anyExpert (ws.map Prod.fst)
  let (d, r) := (d.stageAll c.master true ws).ownStrobe c groups
  answer d (if r.refused &&& groups ≠ 0 then Res.st stBadParam else { Res.ok [] with expert := found })

/-- Reserved bits of ENERGY_CAP_SET. -/
def energyCapSetBad (c : Cmd) (_ : Dev) : Bool := decide (c.pf 0 1 31 ≠ 0 ∨ c.pf 1 16 16 ≠ 0)

/-- 0x0700: a cap below 80 W is clamped as it applies, and the command replies OK_PARTIAL (R72). -/
def runEnergyCapSet (c : Cmd) (d : Dev) : Dev × Option Res :=
  d.stageStrobe c groupEbs [(if c.pf 0 0 1 = 0 then Reg.EBS_CAP_HOST else Reg.EBS_CAP_BMC, wd (c.pf 1 0 16))]
    { Res.ok [] with status := if c.pf 1 0 16 < 800 then stPartial else stOK }
/-- `ENERGY_CAP_SET`. -/
def execEnergyCapSet (m : Fin 16) (tag : Fin 4096) (gen : Fin 16) (s : State) : Host.Outcome State Fault Refusal :=
  opStep 0x0700 runEnergyCapSet m.val tag.val gen.val s

/-- 0x0701. -/
def runEnergyStatus (_ : Cmd) (d : Dev) : Dev × Option Res :=
  let held := (List.range 4).foldl (fun b k => if d.heldClass k then b + 2 ^ k else b) 0
  answer d (Res.ok ([d.reg Reg.EBS_CAP_STATUS, wd (d.ebs.level * 64 + held), d.reg Reg.EBS_TEMP, d.reg Reg.EBS_THERMAL_TRIP] ++
    (List.range 4).map (fun i => d.reg (Reg.EBS_COUNTS i)) ++ [d.reg Reg.EBS_ENERGY_DEVICE_LO, d.reg Reg.EBS_ENERGY_DEVICE_HI]))
/-- `ENERGY_STATUS`. -/
def execEnergyStatus (m : Fin 16) (tag : Fin 4096) (gen : Fin 16) (s : State) : Host.Outcome State Fault Refusal :=
  opStep 0x0701 runEnergyStatus m.val tag.val gen.val s

/-- Reserved bits and range of ENERGY_SLICE_READ. -/
def energySliceReadBad (c : Cmd) (_ : Dev) : Bool :=
  let n := c.pf 1 0 10
  decide (c.pf 0 13 19 ≠ 0 ∨ c.pf 1 10 22 ≠ 0 ∨ n = 0 ∨ 500 < n ∨ 8192 < c.pf 0 0 13 + n)

/-- 0x0702: a FREE slice reads 0. -/
def runEnergySliceRead (c : Cmd) (d : Dev) : Dev × Option Res :=
  answer d (Res.ok ((List.range (c.pf 1 0 10)).flatMap (fun i =>
    let s := c.pf 0 0 13 + i
    if d.sliceState s = 0 then [0, 0] else [d.reg (Reg.EBS_SLICE_ENERGYs s 0), d.reg (Reg.EBS_SLICE_ENERGYs s 1)])))
/-- `ENERGY_SLICE_READ`. -/
def execEnergySliceRead (m : Fin 16) (tag : Fin 4096) (gen : Fin 16) (s : State) : Host.Outcome State Fault Refusal :=
  opStep 0x0702 runEnergySliceRead m.val tag.val gen.val s

/-- Reserved bits of ENERGY_SLICE_LIMIT. -/
def energySliceLimitBad (c : Cmd) (_ : Dev) : Bool := decide (c.pf 0 8 24 ≠ 0 ∨ c.pf 1 16 16 ≠ 0)

/-- 0x0703. -/
def runEnergySliceLimit (c : Cmd) (d : Dev) : Dev × Option Res :=
  d.stageStrobe c groupEbs [(Reg.EBS_SLICE_LIMITs c.slice, wd (c.pf 1 0 16))] (Res.ok [])
/-- `ENERGY_SLICE_LIMIT`. -/
def execEnergySliceLimit (m : Fin 16) (tag : Fin 4096) (gen : Fin 16) (s : State) : Host.Outcome State Fault Refusal :=
  opStep 0x0703 runEnergySliceLimit m.val tag.val gen.val s

/-- Reserved bits of ENERGY_CLASS_SET, and reserves that pass the budget (R109). -/
def energyClassSetBad (c : Cmd) (_ : Dev) : Bool :=
  decide (c.pf 0 8 24 ≠ 0 ∨ c.pf 1 8 24 ≠ 0 ∨ 255 < c.pf 0 0 8 + c.pf 1 0 8)

/-- 0x0704. -/
def runEnergyClassSet (c : Cmd) (d : Dev) : Dev × Option Res :=
  if energyClassSetBad c d then answer d (Res.st stBadParam)
  else d.stageExpert c groupEbs [(Reg.EBS_RESERVE, wd (c.pf 1 0 8 * 256 + c.pf 0 0 8))]
/-- `ENERGY_CLASS_SET`. -/
def execEnergyClassSet (m : Fin 16) (tag : Fin 4096) (gen : Fin 16) (s : State) : Host.Outcome State Fault Refusal :=
  opStep 0x0704 runEnergyClassSet m.val tag.val gen.val s

/-- Reserved bits of ENERGY_STRESS_FORCE. -/
def energyStressForceBad (c : Cmd) (_ : Dev) : Bool := decide (c.pf 0 2 29 ≠ 0)

/-- 0x0705. -/
def runEnergyStressForce (c : Cmd) (d : Dev) : Dev × Option Res :=
  d.stageExpert c groupEbs [(Reg.EBS_GSTRESS_CTRL,
    wd (Word.fld (d.staged Reg.EBS_GSTRESS_CTRL) 0 1 + 2 * c.pf 0 31 1 + 4 * c.pf 0 0 2))]
/-- `ENERGY_STRESS_FORCE`. -/
def execEnergyStressForce (m : Fin 16) (tag : Fin 4096) (gen : Fin 16) (s : State) : Host.Outcome State Fault Refusal :=
  opStep 0x0705 runEnergyStressForce m.val tag.val gen.val s

/-- The words of the energy table, and their registers. -/
def etabKeys : List Nat := (List.range 32).map (fun i => Reg.EBS_ETAB_FIXED0 + 4 * i)

/-- 0x0706 (R71). -/
def runEnergyTableRead (_ : Cmd) (d : Dev) : Dev × Option Res :=
  answer d ((Res.ok (etabKeys.map d.reg)).touching d etabKeys)
/-- `ENERGY_TABLE_READ`. -/
def execEnergyTableRead (m : Fin 16) (tag : Fin 4096) (gen : Fin 16) (s : State) : Host.Outcome State Fault Refusal :=
  opStep 0x0706 runEnergyTableRead m.val tag.val gen.val s

end Sys2Proof.Machine
end

