-- ==== Sys2Proof/Machine/Age.lean ====
section
/-! DEFINITION. The ageing monitors, the ageing log, margin plans and the AVS bus, the ageing opcodes (R81 to R95, R538). -/

namespace Sys2Proof.Machine

/-! ## Monitors and the ageing log (R81, R82) -/

/-- One monitor's reading: its register, the figures of the day and of the period; one outside its plausible range counts for
neither. The wear index that the firmware derives is a free value from 0 to 1,000. -/
def Dev.monitorRead (d : Dev) (m : Nat) (r : BitVec 16) (outside : Bool) : Dev :=
  let (wear, d) := d.freeNat
  let d := d.setN (Reg.AGE_MONm m) (wear % 1001 * 65536 + r.toNat)
  let a := d.age
  if outside then { d with age := { a with excluded := m :: a.excluded.filter (· ≠ m) } }
  else
    let (lo, hi, sum, n) := Map.getD a.day m (65535, 0, 0, 0)
    let (ps, pn) := Map.getD a.period m (0, 0)
    { d with age := { a with excluded := a.excluded.filter (· ≠ m),
                             day := Map.put a.day m (Nat.min lo r.toNat, Nat.max hi r.toNat, sum + r.toNat, n + 1),
                             period := Map.put a.period m (ps + r.toNat, pn + 1) } }

/-- Monitors from `first` on read, one reading each; one out of range sets MONITOR_FAULT (R82). -/
def Dev.monitorsRead (d : Dev) (first count : Nat) (rs : List (BitVec 16)) (outside : List (Fin 128)) : Dev :=
  let bad (m : Nat) : Bool := (outside.map Fin.val).contains m
  let ms := ((List.range count).map (first + ·)).zip rs
  let d := ms.foldl (fun d p => d.monitorRead p.1 p.2 (bad p.1)) d
  if ms.any (fun p => bad p.1) then d.sqSet Reg.AGE_STATUS [4] else d

/-- `RING_OSCILLATOR_READ` (R82): ring oscillators and path replicas. -/
def execRingOscillatorRead (readings : List (BitVec 16)) (outside : List (Fin 128)) (s : State) : Host.Outcome State Fault Refusal :=
  act (fun d => d.monitorsRead 0 80 readings outside) s
/-- `LEAKAGE_READ` (R82). -/
def execLeakageRead (readings : List (BitVec 16)) (outside : List (Fin 128)) (s : State) : Host.Outcome State Fault Refusal :=
  act (fun d => d.monitorsRead 116 12 readings outside) s
/-- `EYE_MONITOR_READ` (R82). -/
def execEyeMonitorRead (readings : List (BitVec 16)) (outside : List (Fin 128)) (s : State) : Host.Outcome State Fault Refusal :=
  act (fun d => d.monitorsRead 80 28 readings outside) s
/-- `HBM_PROBE_READ` (R82). -/
def execHbmProbeRead (readings : List (BitVec 16)) (outside : List (Fin 128)) (s : State) : Host.Outcome State Fault Refusal :=
  act (fun d => d.monitorsRead 108 8 readings outside) s

/-- Halfwords packed two to a word, the first in the low half. -/
def halfwords (xs : List Nat) : List Word := (List.range (ceilDiv xs.length 2)).map (fun i =>
  wd (xs.getD (2 * i) 0 % 65536 + xs.getD (2 * i + 1) 0 % 65536 * 65536))

/-- A record of a size in words. -/
def padTo (n : Nat) (ws : List Word) : List Word := (ws ++ List.replicate (n - ws.length) 0).take n

/-- `DAILY_AGEING_RECORD` (R82): minimum, maximum and mean of each monitor, and the day's powered hours by bin; 32 are kept. -/
def execDailyAgeingRecord (s : State) : Host.Outcome State Fault Refusal :=
  act (fun d =>
    let a := d.age
    let row (m : Nat) : List Nat :=
      let (lo, hi, sum, n) := Map.getD a.day m (0, 0, 0, 0)
      [lo, hi, if n = 0 then 0 else sum / n]
    let w := padTo 256 (halfwords ((List.range 128).flatMap row ++ (List.range 33).map (fun b => Map.getD a.dayBins b 0)))
    { d with age := { a with daily := (w :: a.daily).take 32, day := [], dayBins := [] } }) s

/-- `MONTHLY_AGEING_RECORD` (R82): the mean of each monitor, the period's hours by bin, powered hours; 512 are kept. -/
def execMonthlyAgeingRecord (s : State) : Host.Outcome State Fault Refusal :=
  act (fun d =>
    let a := d.age
    let mean (m : Nat) : Nat :=
      let (sum, n) := Map.getD a.period m (0, 0)
      if n = 0 then 0 else sum / n
    let w := padTo 96 (halfwords ((List.range 128).map mean ++ (List.range 33).map (fun b => Map.getD a.periodBins b 0)) ++
      [d.reg Reg.AGE_POWERED_HOURS])
    { d with age := { a with monthly := (w :: a.monthly).take 512, period := [], periodBins := [] } }) s

/-! ## Margin plans (R84 to R87) -/

/-- The plan in force, and the pending one. -/
def Dev.planCur (d : Dev) : List Word := d.regs Reg.AGE_PLAN_CUR0 64
def Dev.planPend (d : Dev) : List Word := d.regs (Reg.AGE_PLAN_PEND 0) 64

/-- Fields of a plan: word, low bit, width. -/
def planFld (p : List Word) (w lo n : Nat) : Nat := Word.fld (wordAt p w) lo n

/-- Nominal frequency in MHz of the domain in word `w` of a plan: its ceiling as shipped (R19). -/
def nominalMHz (w : Nat) : Nat := Word.fld (resetOf (Reg.AGE_PLAN_CUR0 + 4 * w)) 0 16

/-- What the firmware wants held within the limits of R86: the value, and whether a limit binds. -/
def within (lo hi v : Nat) : Nat × Bool := (clampNat lo hi v, decide (v < lo ∨ hi < v))

/-- VDD_CORE of a new plan. -/
def planVdd (old want : Nat) : Nat × Bool := within (Nat.max 680 (old - 10)) (Nat.min 850 (old + 20)) want

/-- A ceiling: not below 80% of nominal, never above it; lowered only at 850 mV. -/
def planCeiling (w vdd old want : Nat) : Nat × Bool :=
  let n := nominalMHz w
  let lo := if vdd < 850 then old else Nat.max (ceilDiv (n * 80) 100) (ceilDiv (old * 95) 100)
  within lo (Nat.max lo (Nat.min n (old * 105 / 100))) want

/-- A scale: 8% up or down. -/
def planScale (old want : Nat) : Nat × Bool := within (ceilDiv (old * 92) 100) (old * 108 / 100) want

/-- A thermal point: 5 °C down, never above its highest. -/
def planPoint (top old want : Nat) : Nat × Bool := within (Nat.min top (old - 5)) top want

/-- A plan of 64 words: format, version, basis, hours, the fields of words 4 to 16, digest (R84). -/
def sealPlan (version basis hours : Nat) (fields : List Word) : List Word :=
  let ws := padTo 52 ([0x00010000, wd version, wd (basis * 2 ^ 24), wd hours] ++ fields)
  ws ++ wordsOf 12 (Config.sha384 (bytesOf ws))

/-- The plan that the firmware makes from a plan before it and the fields it wants, words 4 to 16; whether a limit binds, and
whether a ceiling at 80% binds (R86, R87). -/
def Dev.makePlan (d : Dev) (before want : List Word) (basis : Nat) : List Word × Bool × Bool :=
  let f (w lo n : Nat) : Nat := Word.fld (wordAt want (w - 4)) lo n
  let (vdd, b0) := planVdd (planFld before 4 16 16) (f 4 16 16)
  let cs := (List.range 8).map (fun i => planCeiling (i + 5) vdd (planFld before (i + 5) 0 16) (f (i + 5) 0 16))
  let (thr, b1) := planPoint 100 (planFld before 13 8 8) (f 13 8 8)
  let (trip, b2) := planPoint 115 (planFld before 13 16 8) (f 13 16 8)
  let trip := Nat.max trip (thr + 5)
  let (base, b3) := planScale (planFld before 14 16 16) (f 14 16 16)
  let (dyn, b4) := planScale (planFld before 14 0 16) (f 14 0 16)
  let dead := (List.range 8).any (fun i =>
    decide ((cs.getD i (0, false)).1 * 100 ≤ nominalMHz (i + 5) * 80 ∧ f (i + 5) 0 16 < (cs.getD i (0, false)).1))
  let bound := b0 || b1 || b2 || b3 || b4 || cs.any Prod.snd
  let life : Word := if dead then 0 else wordAt want 11
  (sealPlan (d.age.lastVersion + 1) basis (d.regN Reg.AGE_POWERED_HOURS)
    ([wd (vdd * 65536 + f 4 0 16)] ++ cs.map (fun c => wd c.1) ++
     [wd (trip * 65536 + thr * 256), wd (base * 65536 + dyn), life, wordAt want 12 &&& 0xFFFF007F#32]), bound, dead)

/-- The energy table of a plan: the calibrated table scaled, every entry; words of FIXED and VAR in turn (R68, R84). -/
def Dev.planTable (d : Dev) (p : List Word) : List Word :=
  let cal (i : Nat) : Nat :=
    if d.age.calibrated.isEmpty then (resetOf (Reg.EBS_ETAB_FIXED0 + 4 * i)).toNat else (wordAt d.age.calibrated i).toNat
  (List.range 32).map (fun i =>
    let k := if i < 2 then planFld p 14 16 16 else planFld p 14 0 16
    if i < 16 then wd (Nat.min (2 ^ 32 - 1) (cal i * k / 4096)) else 0)

/-- A tightening plan: higher voltage or scale, lower ceiling or thermal point. -/
def tightening (old new : List Word) : Bool :=
  decide (planFld old 4 16 16 < planFld new 4 16 16 ∨ planFld old 14 16 16 < planFld new 14 16 16 ∨
    planFld old 14 0 16 < planFld new 14 0 16 ∨ planFld new 13 16 8 < planFld old 13 16 8 ∨ planFld new 13 8 8 < planFld old 13 8 8) ||
  (List.range 8).any (fun i => decide (planFld new (i + 5) 0 16 < planFld old (i + 5) 0 16))

/-! ## Pending and applying (R88, R89, R538) -/

/-- The delay a plan waits: 1 to 168 hours, in GAU clocks. -/
def Dev.planDelay (d : Dev) : Nat := clampNat 1 168 (d.fld Reg.AGE_PLAN_DELAY 0 8) * 1800000000000

/-- A plan becomes pending (R87, R88). -/
def Dev.planPending (d : Dev) (p : List Word) (bound dead : Bool) (clocks : Nat) : Dev :=
  let v := (wordAt p 1).toNat
  let d := (d.setRegs (Reg.AGE_PLAN_PEND 0) p).setN Reg.AGE_PENDING_VERSION v
  let d := { d with age := { d.age with lastVersion := v, shortPlan := bound, exhausted := dead, lastReplan := d.regN Reg.AGE_POWERED_HOURS,
                                        pendWhen := some (.clock (d.now + clocks)) } }
  (d.sqSet Reg.AGE_STATUS ([0] ++ (if bound then [2] else []) ++ (if dead then [3] else []))).postAll (List.range 16) 6 v

/-- A re-plan of the firmware. -/
def Dev.replan (d : Dev) (want : List Word) (basis : Nat) (early : Bool) : Dev :=
  let (p, bound, dead) := d.makePlan d.planCur want basis
  d.planPending p bound dead (if early then 300000000000 else d.planDelay)

/-- `PERIODIC_REPLAN` (R84): `want` is what the firmware wants, words 4 to 16 of a plan. -/
def execPeriodicReplan (want : List Word) (s : State) : Host.Outcome State Fault Refusal := act (fun d => d.replan want 1 false) s

/-- `MARGIN_SHORT_REPLAN` (R87, R88): while a limit binds; with less than a quarter of the guard left the plan applies after
10 minutes. -/
def execMarginShortReplan (want : List Word) (quarter : Bool) (s : State) : Host.Outcome State Fault Refusal :=
  act (fun d => if d.age.shortPlan then d.replan want 2 quarter else d) s

/-- The strobe of a plan: energy table and thermal points; refused where a pair of group 7 disagrees (R71, R89). -/
def Dev.planStrobe (d : Dev) (p : List Word) : Bool × Dev :=
  let ws := etabKeys.zip (d.planTable p) ++ [(Reg.EBS_THERMAL_CTRL, wd (planFld p 13 16 8 * 256 + planFld p 13 8 8))]
  let (d, r) := (d.stageAll 6 false ws).strobeNow groupEbs
  (r.refused = 0, d)

/-- The pending plan is in force (R85, R88). -/
def Dev.planDone (d : Dev) : Dev :=
  let p := d.planPend
  let old := d.planCur
  let d := ((d.setRegs Reg.AGE_PLAN_CUR0 p).setRegs (Reg.AGE_PLAN_PEND 0) (List.replicate 64 0)).setN Reg.AGE_PENDING_VERSION 0
  let d := (d.setReg Reg.AGE_PLAN_VERSION (wordAt p 1)).setReg Reg.AGE_LIFE_H (wordAt p 15)
  { d.sqSet Reg.AGE_STATUS [1] with
    age := { d.age with previous := old, basis := planFld p 2 24 8, pendWhen := none, tightening := false, avsTries := 0 },
    ebs := { d.ebs with oldTable := [] } }

/-- A plan starts to apply: a tightening one raises the voltage first, a loosening one strobes first (R89). -/
def Dev.planStart (d : Dev) : Dev :=
  let p := d.planPend
  let target := planFld p 4 16 16
  let old := etabKeys.map d.reg
  if d.regN Reg.AGE_PENDING_VERSION ≤ d.regN Reg.AGE_PLAN_VERSION then d
  else if tightening d.planCur p then
    let d := { d with age := { d.age with vddTarget := target, tightening := true, avsTries := 0, pendWhen := none } }
    if d.age.vdd < target then { d with ebs := { d.ebs with oldTable := d.planTable p } }
    else
      let (ok, d) := d.planStrobe p
      if ok ∧ target = d.age.vdd then d.planDone else d
  else
    let (ok, d) := d.planStrobe p
    if !ok then d
    else
      let d := { d with age := { d.age with vddTarget := target, tightening := false, avsTries := 0, pendWhen := none } }
      if d.age.vdd = target then d.planDone else { d with ebs := { d.ebs with oldTable := old } }

/-- `PLAN_APPLY` (R88): the command says that the pending plan's time has come. -/
def execPlanApply (s : State) : Host.Outcome State Fault Refusal :=
  act (fun d => if d.regN Reg.AGE_PENDING_VERSION = 0 ∨ d.age.vdd ≠ d.age.vddTarget then d else d.planStart) s

/-- The next voltage toward the target, 10 mV at most. -/
def Dev.nextVdd (d : Dev) : Nat :=
  let v := d.age.vdd
  let t := d.age.vddTarget
  if v < t then Nat.min t (v + 10) else Nat.max t (v - 10)

/-- A voltage write: at the target a tightening plan strobes, a loosening one is done (R89). A third failure ends the change,
records it and leaves the plan pending (R538). -/
def Dev.avsWrite (d : Dev) (ok : Bool) : Dev :=
  let v := d.nextVdd
  let d := d.emit (.avs v)
  if ok then
    let d := { d with age := { d.age with vdd := v, avsTries := 0 } }
    if v ≠ d.age.vddTarget then d
    else if d.age.tightening then
      let (ok, d) := d.planStrobe d.planPend
      if ok then d.planDone else { d with ebs := { d.ebs with oldTable := [] } }
    else d.planDone
  else if 2 ≤ d.age.avsTries then
    { d.fault (faultRec 3 6 19 0) with
      age := { d.age with vddTarget := d.age.vdd, avsTries := 0, pendWhen := none },
      ebs := { d.ebs with oldTable := [] } }
  else { d with age := { d.age with avsTries := d.age.avsTries + 1 } }

/-- `AVS_VOLTAGE_STEP` (R89). -/
def execAvsVoltageStep (ok : Bool) (s : State) : Host.Outcome State Fault Refusal :=
  act (fun d => if d.age.vdd ≠ d.age.vddTarget ∧ d.age.avsTries = 0 then d.avsWrite ok else d) s

/-- `AVS_WRITE_RETRY` (R538). -/
def execAvsWriteRetry (ok : Bool) (s : State) : Host.Outcome State Fault Refusal :=
  act (fun d => if d.age.vdd ≠ d.age.vddTarget ∧ d.age.avsTries ≠ 0 then d.avsWrite ok else d) s

/-! ## The ageing opcodes (R92, R93) -/

/-- The time-weighted mean junction temperature in 0.25 °C, from the middles of the bins. -/
def Dev.meanTemp (d : Dev) : Option Int :=
  let n := (d.age.bins.map Prod.snd).sum
  if n = 0 then none
  else some ((d.age.bins.foldl (fun (a : Int) b => a + (b.2 : Int) * (20 * (b.1 : Int) - 150)) 0) / n)

/-- 0x0B10: version, basis, hours, mean temperature, the 33 bins, the wear of the 128 monitors, LIFE_H with its bounds, the life
left at the present mean, the limiting monitor, flags. Bounds and life at the present mean are free values. -/
def runAgeReport (_ : Cmd) (d : Dev) : Dev × Option Res :=
  let (lo, d) := d.freeWord
  let (hi, d) := d.freeWord
  let (left, d) := d.freeWord
  let (any, d) := d.freeWord
  let mean : Word := match d.meanTemp with
    | some t => BitVec.ofInt 32 t
    | none => any
  let a := d.age
  let flags := (if a.shortPlan then 1 else 0) + (if a.exhausted then 2 else 0) + (if a.excluded.isEmpty then 0 else 4) +
    (if a.fallback then 8 else 0)
  answer d (Res.ok ([d.reg Reg.AGE_PLAN_VERSION, wd a.basis, d.reg Reg.AGE_POWERED_HOURS, mean] ++
    (List.range 33).map (fun b => wd (Map.getD a.bins b 0)) ++ (List.range 128).map (fun m => wd (d.fld (Reg.AGE_MONm m) 16 16)) ++
    [d.reg Reg.AGE_LIFE_H, lo, hi, left, wd (planFld d.planCur 16 0 7), wd flags]))
/-- `AGE_REPORT`. -/
def execAgeReport (m : Fin 16) (tag : Fin 4096) (gen : Fin 16) (s : State) : Host.Outcome State Fault Refusal :=
  opStep 0x0B10 runAgeReport m.val tag.val gen.val s

/-- Selection of AGE_PLAN_READ: 0 in force, 1 previous, 2 pending. -/
def agePlanReadBad (c : Cmd) (_ : Dev) : Bool := decide (2 < (c.p 0).toNat)

/-- 0x0B11: a plan; for the pending one, a mask of the words it changes and the predicted demand in 0.1 W, a free value. -/
def runAgePlanRead (c : Cmd) (d : Dev) : Dev × Option Res :=
  match c.pf 0 0 2 with
  | 0 => answer d (Res.ok d.planCur)
  | 1 => answer d (Res.ok (padTo 64 d.age.previous))
  | _ =>
    let p := d.planPend
    let diff := (List.range 64).foldl (fun b i => if wordAt p i = wordAt d.planCur i then b else b + 2 ^ i) 0
    let (w, d) := d.freeWord
    answer d (Res.ok (p ++ [lo32 diff, hi32 diff, w]))
/-- `AGE_PLAN_READ`. -/
def execAgePlanRead (m : Fin 16) (tag : Fin 4096) (gen : Fin 16) (s : State) : Host.Outcome State Fault Refusal :=
  opStep 0x0B11 runAgePlanRead m.val tag.val gen.val s

/-- What makes AGE_PLAN_SCHEDULE bad: no plan pending; a time after the plan's own; an entry whose ACTION is not COMMIT. -/
def agePlanScheduleBad (c : Cmd) (d : Dev) : Bool :=
  let e := 64 * c.pf 0 6 6 + c.pf 0 0 6
  decide (c.pf 0 12 19 ≠ 0) || decide (d.regN Reg.AGE_PENDING_VERSION = 0) ||
  (if c.pf 0 31 1 = 1 then decide (c.p 1 ≠ 0 ∨ c.p 2 ≠ 0 ∨ Word.fld (d.reg (Reg.GAU_ACTIVE (4 * e + 1))) 24 4 ≠ 7)
   else decide (c.pf 0 0 12 ≠ 0) || (match d.age.pendWhen with
    | some (.clock t) => decide (d.time + 2 * (t - d.now) < cat64 (c.p 1) (c.p 2))
    | some (.ptp t) => decide (t < cat64 (c.p 1) (c.p 2))
    | _ => false))

/-- 0x0B12: word 0 [31] ANGLE, [11:6] channel, [5:0] index; words 1 and 2 the PTP time (R88). -/
def runAgePlanSchedule (c : Cmd) (d : Dev) : Dev × Option Res :=
  if agePlanScheduleBad c d then answer d (Res.st stBadParam)
  else
    let w : PlanWhen := if c.pf 0 31 1 = 1 then .angle (c.pf 0 6 6) (c.pf 0 0 6) else .ptp (cat64 (c.p 1) (c.p 2))
    answer { d with age := { d.age with pendWhen := some w } } (Res.ok [])
/-- `AGE_PLAN_SCHEDULE`. -/
def execAgePlanSchedule (m : Fin 16) (tag : Fin 4096) (gen : Fin 16) (s : State) : Host.Outcome State Fault Refusal :=
  opStep 0x0B12 runAgePlanSchedule m.val tag.val gen.val s

/-- 0x0B13: a plan whose fields are those in force changes nothing. -/
def runAgeReplanNow (want : List Word) (_ : Cmd) (d : Dev) : Dev × Option Res :=
  let (p, bound, dead) := d.makePlan d.planCur want 3
  if (p.drop 4).take 11 = (d.planCur.drop 4).take 11 then answer d (Res.ok [])
  else
    let d := d.planPending p bound dead d.planDelay
    answer d (Res.ok [d.reg Reg.AGE_PENDING_VERSION])
/-- `AGE_REPLAN_NOW` (R93). -/
def execAgeReplanNow (m : Fin 16) (tag : Fin 4096) (gen : Fin 16) (want : List Word) (s : State) : Host.Outcome State Fault Refusal :=
  opStep 0x0B13 (runAgeReplanNow want) m.val tag.val gen.val s

end Sys2Proof.Machine
end

