-- ==== Sys2Proof/Machine/UpdOps.lean ====
section
/-! DEFINITION. Flash banks and manifests: reading them, the check of a boot, the bank a boot takes (R511, R519 to R521, R524,
R526, R530). -/

namespace Sys2Proof.Machine

/-! ## Banks (R519) -/

/-- Bytes of a bank: 512 Mib. -/
def bankSize : Nat := 0x4000000

/-- A bank. -/
def Dev.bank (d : Dev) (b : Nat) : Bank := Map.getD d.upd.banks b ⟨0, [], []⟩

/-- The bank in force. -/
def Dev.inForce (d : Dev) : Nat := d.fld Reg.UPD_BANKS 8 1

/-- A bank changed; UPD_BANKS with it. -/
def Dev.setBank (d : Dev) (b : Nat) (k : Bank) : Dev :=
  ({ d with upd := { d.upd with banks := Map.put d.upd.banks b k } } : Dev).setFld Reg.UPD_BANKS (4 * b) 4 k.state

/-- A bank's state changed. -/
def Dev.setBankState (d : Dev) (b st : Nat) : Dev := d.setBank b { d.bank b with state := st }

/-- The other bank becomes the bank in force. -/
def Dev.setInForce (d : Dev) (b : Nat) : Dev := d.setFld Reg.UPD_BANKS 8 1 b

/-- A bank as the maker shipped it: confirmed, and never written since. Its contents are the maker's. -/
def Bank.shipped (k : Bank) : Bool := decide (k.state = 5) && k.flash.isEmpty

/-- A word of a bank: erased flash reads all ones; what the maker wrote is free. -/
def Bank.word (k : Bank) (i : Nat) : Word :=
  if k.shipped then Config.freeWord (2 ^ 80 + i) else Map.getD k.flash i (BitVec.allOnes 32)

/-- Words and bytes of a bank. -/
def Bank.words (k : Bank) (first n : Nat) : List Word := (List.range n).map (fun i => k.word (first + i))
def Bank.bytes (k : Bank) (off n : Nat) : List Byte := (bytesOf (k.words (off / 4) (ceilDiv n 4))).take n

/-! ## Manifests (R520) -/

/-- An image of a manifest. -/
structure Image where
  typ : Nat
  clusters : Nat
  offset : Nat
  length : Nat
  digest : List Byte
deriving DecidableEq, Repr

/-- COUNT of a bank's manifest; its image entries; SECVER; RELEASE. -/
def Bank.count (k : Bank) : Nat := Word.fld (k.word 1) 0 16
def Bank.image (k : Bank) (i : Nat) : Image :=
  ⟨Word.fld (k.word (8 + 16 * i)) 24 8, Word.fld (k.word (8 + 16 * i)) 16 8, (k.word (9 + 16 * i)).toNat, (k.word (10 + 16 * i)).toNat,
    bytesOf (k.words (12 + 16 * i) 12)⟩
def Bank.images (k : Bank) : List Image := if k.shipped then [] else (List.range (Nat.min 32 k.count)).map k.image
def Bank.secver (k : Bank) : Nat := (k.word 2).toNat
def Bank.release (k : Bank) : Word := k.word 3

/-- Two byte ranges have no byte in common. -/
def apart (a n b m : Nat) : Bool := decide (a + n ≤ b ∨ b + m ≤ a)

/-- Each image apart from those after it. -/
def allApart : List Image → Bool
  | [] => true
  | i :: is => is.all (fun j => apart i.offset i.length j.offset j.length) && allApart is

/-- The structure of a manifest: MAGIC, FORMAT, COUNT, the image types, the images inside the bank, apart from each other and from
the manifest (R521). -/
def Bank.structureOk (k : Bank) : Bool :=
  let is := k.images
  let man := 4 * (8 + 16 * k.count + 48)
  decide (k.word 0 = 0x4D465354#32 ∧ Word.fld (k.word 1) 16 16 = 1 ∧ 1 ≤ k.count ∧ k.count ≤ 32) &&
  is.all (fun i => decide (1 ≤ i.typ ∧ i.typ ≤ 4 ∧ i.offset % 4096 = 0 ∧ i.offset + i.length ≤ bankSize) && apart 0 man i.offset i.length) &&
  decide ((is.filter (fun i => decide (i.typ = 1))).length = 1 ∧ (is.filter (fun i => decide (i.typ = 3))).length ≤ 1) && allApart is

/-- The life-cycle state. -/
def Dev.lcState (d : Dev) : Nat := d.fld Reg.LCS_STATE 28 4

/-- The hash of the owner's key. -/
def Dev.ownerHash (d : Dev) : List Byte := bytesOf (d.regs (Reg.LCS_OWNER_HASH 0) 12)

/-- A signature of a signer known by the hash of its key. -/
def signedBy (hash digest : List Byte) (sig : List Word) : Bool := Config.ecdsaVerify (Config.keyOfHash hash) digest (bytesOf sig)

/-- The signatures of a manifest under R511: the release key in every state that runs firmware, the development key in MANUFACTURE
and RETURN; the owner's too in DEPLOYED under OWNER_SIGN. -/
def Dev.manifestSigned (d : Dev) (k : Bank) : Bool :=
  let n := 8 + 16 * k.count
  let digest := Config.sha384 (bytesOf (k.words 0 n))
  let s := d.lcState
  let one := k.words n 24
  (decide (1 ≤ s ∧ s ≤ 4) && signedBy (Config.fuseHash 1) digest one || decide (s = 1 ∨ s = 4) && signedBy (Config.fuseHash 2) digest one) &&
  (!(decide (s = 3) && d.bit Reg.LCS_STATE 8) || signedBy d.ownerHash digest (k.words (n + 24) 24))

/-- The check of a boot (R524, R526): 0 passed, 1 signature, 2 digest, 3 security version, 4 manifest structure; TYPE and result of
each image. -/
def Dev.bankCheck (d : Dev) (b : Nat) : Nat × List (Nat × Nat) :=
  let k := d.bank b
  if k.shipped then (0, [])
  else if !k.structureOk then (4, [])
  else
    let is := k.images.map (fun (i : Image) => (i.typ, if Config.sha384 (k.bytes i.offset i.length) = i.digest then 0 else 2))
    let r := if !d.manifestSigned k then 1 else if k.secver < d.regN Reg.UPD_SECVER then 3
      else if is.any (fun i => decide (i.2 ≠ 0)) then 2 else 0
    (r, is)

/-- A bank runs: its release, its board configuration record if it holds one (R520). -/
def Dev.runBank (d : Dev) (b : Nat) : Dev :=
  let k := d.bank b
  let d := (d.setInForce b).setBit Reg.GLB_BOOT 26 (decide (b = 1))
  let d := if k.shipped then d else d.setReg Reg.UPD_RELEASE k.release
  match k.images.find? (fun i => decide (i.typ = 4)) with
  | some i => { d with upd := { d.upd with board := k.bytes i.offset i.length } }
  | none => d

/-- A violation of LCS_VIOLATION (R515): the HC register, the block's event. -/
def Dev.violation (d : Dev) (bit : Nat) : Dev :=
  if d.bit Reg.LCS_VIOLATION bit then d else (d.hcSet Reg.LCS_VIOLATION bit true 4).sqSet Reg.LCS_EVT_STATUS [0]

/-- A bank refused at boot: BAD; ROLLBACK_BOOT where its security version is too low (R530). -/
def Dev.refuseBank (d : Dev) (b result : Nat) : Dev :=
  (d.setBankState b 6).when (decide (result = 3)) (fun d => d.violation 2)

/-- A bank that a boot may take is checked: taken where it is CONFIRMED or KEPT and passes, refused where it fails. -/
def Dev.tryBank (d : Dev) (b : Nat) (run : Dev → Nat → Dev) : Bool × Dev :=
  let st := (d.bank b).state
  if st ≠ 4 ∧ st ≠ 5 then (false, d)
  else
    let r := (d.bankCheck b).1
    if r = 0 then (true, run d b) else (false, d.refuseBank b r)

/-- A boot takes the other bank: a record of KIND 8, BANK_CHANGED (R530). -/
def Dev.changeBank (d : Dev) (b : Nat) : Dev :=
  ((d.runBank b).fault (faultRec 3 8 23 b)).sqSet Reg.UPD_EVT_STATUS [5]

/-- The ROM's choice of a bank; whether one passes. A trial bank returns to STAGED, and the other one boots (R530). -/
def Dev.chooseBank (d : Dev) : Bool × Dev :=
  let f := d.inForce
  if (d.bank f).state = 3 then (d.setBankState f 2).tryBank (1 - f) Dev.changeBank
  else
    match d.tryBank f Dev.runBank with
    | (true, d) => (true, d)
    | (false, d) => d.tryBank (1 - f) Dev.changeBank

end Sys2Proof.Machine
end

