-- ==== Sys2Proof/Machine/Boot.lean ====
section
/-! DEFINITION. Device reset, power, straps, the boot stages, supplies and rails, the partner signal, patrol scrubs
(R483, R484, R491 to R504, R536, R537). -/

namespace Sys2Proof.Machine

/-! ## A DEVICE reset (R483, R484) -/

/-- Registers whose contents a device reset keeps: what MRAM holds, the straps, ROLLBACK_BOOT and STATE_DAMAGED (R483, R515). -/
def keptReg (k : Nat) : Bool :=
  let within (b n : Nat) : Bool := decide (b ≤ k ∧ k < b + n)
  [Reg.GLB_STRAPS, Reg.LCS_STATE, Reg.LCS_VIOLATION, Reg.LCS_SERIAL_LO, Reg.LCS_SERIAL_HI, Reg.UPD_BANKS, Reg.UPD_RELEASE, Reg.UPD_SECVER,
   Reg.AGE_PLAN_VERSION, Reg.AGE_POWERED_HOURS, Reg.AGE_LIFE_H].contains k ||
  within (Reg.LCS_CERT 0) 0x8000 || within (Reg.LCS_OWNER_HASH 0) 48 || within (Reg.FLT_MRAM_RING 0) 0xC00 || within Reg.AGE_PLAN_CUR0 256

/-- The supply group of a rail, in the order of R536. -/
def railGroup (r : Nat) : Nat := if r < 2 then 1 else if r < 4 then 2 else if r < 7 then 3 else 0

/-- Bits of GLB_SUPPLY_FAULT whose cause lasts: a power-good input low, a rail outside its window (R494, R537). -/
def Pins.supply (p : Pins) : List Nat := (p.pgLow ++ p.railsOut.map railGroup).eraseDups

/-- Everything returns to its reset value but what MRAM, the boot flash and the pins hold (R483). -/
def Dev.deviceReset (d : Dev) : Dev :=
  let r : Dev := Dev.reset
  let a := d.age
  let slots := Map.sift d.cry.slots (fun _ k => k.persist)
  let r := { r with
    rf := { r.rf with act := Map.sift d.rf.act (fun k _ => keptReg k) },
    age := { r.age with previous := a.previous, lastVersion := a.lastVersion, basis := a.basis, lastReplan := a.lastReplan,
                        calibrated := a.calibrated, daily := a.daily, monthly := a.monthly, bins := a.bins,
                        dayBins := a.dayBins, periodBins := a.periodBins },
    cry := { r.cry with slots := slots },
    flt := { r.flt with mramCount := d.flt.mramCount },
    lcs := { r.lcs with copies := d.lcs.copies, latch := d.lcs.latch, identity := d.lcs.identity },
    upd := { r.upd with banks := d.upd.banks, copies := d.upd.copies, board := d.upd.board },
    pins := { d.pins with txdis := 0xFFFF, pairOk := false },
    out := d.out, freeCtr := d.freeCtr }
  let r := (Map.keys slots).foldl (fun (r : Dev) i => r.showSlot i) r
  let r := (r.setFld Reg.LCS_STATE 0 8 0).setReg Reg.LCS_VIOLATION (r.reg Reg.LCS_VIOLATION &&& 0xC)
  let r := r.setBit Reg.GLB_PAIR 31 d.pins.pairIn
  d.pins.supply.foldl (fun (r : Dev) g => r.setBit Reg.GLB_SUPPLY_FAULT g true) r

/-- `SYS_RST_ASSERT` (R483): SYS_RST_N has been low for 1 µs. -/
def execSysRstAssert (s : State) : Host.Outcome State Fault Refusal :=
  .next (s.onDev (fun d =>
    if d.pins.rstLow then d
    else let r := d.deviceReset; { r with pins := { r.pins with rstLow := true } }))

/-- `SYS_RST_DEASSERT` (R496, R497): the straps are sampled, and the boot starts at stage 0. -/
def execSysRstDeassert (tid : Fin 512) (hold : Bool) (s : State) : Host.Outcome State Fault Refusal :=
  .next (s.onDev (fun d =>
    if d.pins.rstLow then
      let d := { d with now := 0, pins := { d.pins with rstLow := false } }
      (d.setFld Reg.GLB_STRAPS 16 9 tid.val).setBit Reg.GLB_STRAPS 2 hold
    else d))

/-! ## The stages (R497) -/

/-- The value on which at least two of the three copies agree; DEPLOYED where none do (R508). -/
def Lcs.vote (l : Lcs) : Nat × Bool :=
  match l.copies with
  | [a, b, c] => if a = b ∨ a = c then (a, true) else if b = c then (b, true) else (3, false)
  | _ => (3, false)

/-- A fresh 64-bit nonce from the random source (R510). -/
def Dev.freshNonce (d : Dev) : Dev :=
  let (a, d) := d.freeWord
  let (b, d) := d.freeWord
  (d.setReg Reg.LCS_NONCE_LO a).setReg Reg.LCS_NONCE_HI b

/-- At its first boot in MANUFACTURE the device generates its identity key and takes an identity number (R516). -/
def Dev.makeIdentity (d : Dev) : Dev :=
  if d.lcs.identity then d
  else
    let (a, d) := d.freeWord
    let (b, d) := d.freeWord
    { (d.setReg Reg.LCS_SERIAL_LO a).setReg Reg.LCS_SERIAL_HI b with lcs := { d.lcs with identity := true } }

/-- Stage 0: the ROM reads the life-cycle state, which the AON latch takes, and draws a nonce (R508, R510, R513). -/
def Dev.bootRomStage (d : Dev) : Dev :=
  let (st, ok) := d.lcs.vote
  let d := (d.setFld Reg.LCS_STATE 28 4 st).freshNonce
  let d := { d with lcs := { d.lcs with latch := some st } }
  let d := if st = 1 then d.makeIdentity else d
  if ok then d else d.violation 3

/-- A pipeline that failed tasting is left out: a serving one is replaced by the spare, or its port group has none
(R16, R17, R482, R497). -/
def Dev.losePipe (d : Dev) (p : Nat) : Dev :=
  let role := Reg.GLB_PIPE_ROLE
  if d.fld role 4 2 = p then d.setFld role 6 2 3
  else
    let g := if d.fld role 2 2 = p then 1 else 0
    if d.fld role 6 2 = 0 then ((d.setFld role (2 * g) 2 (d.fld role 4 2)).setFld role 4 2 p).setFld role 6 2 3
    else { (d.setBit Reg.FLT_STATUS g true).sqSet Reg.FLT_EVT_STATUS [4] with flt := { d.flt with failed := g :: d.flt.failed } }

/-- A core that failed tasting is left out of service (R332, R497). -/
def Dev.loseCore (d : Dev) (c core : Nat) : Dev :=
  let sp := Reg.FPC_CLc_SPARE c
  if 9 ≤ core then d
  else if d.fld sp 4 4 = core then (d.setFld sp 0 2 3).setFld sp 4 4 0xF
  else match (List.range 8).find? (fun l => decide (d.fld (Reg.FPC_CLc_CORES c) (4 * l) 4 = core)) with
    | some l =>
      let d := (d.coreTakeover c l 0).setFld sp 0 2 3
      { d with fpc := { d.fpc with tasting := Map.del d.fpc.tasting c } }
    | none => d

/-- Stage 4: what failed is left out of service; the 128 monitors are read (R82, R497). -/
def Dev.bootTasting (d : Dev) (r : StageReport) : Dev :=
  let d := (r.pipes.map Fin.val).eraseDups.foldl (fun (d : Dev) p => d.losePipe p) d
  let d := r.cores.foldl (fun (d : Dev) c => d.loseCore c.1.val c.2.val) d
  let d := r.engines.foldl (fun (d : Dev) e => (d.setBit Reg.CRY_ENGINES e.val false).setBit Reg.CRY_ENGINES (16 + e.val) true) d
  d.monitorsRead 0 128 r.monitors r.outside

/-- The digest of a plan holds; the plan as shipped carries none. -/
def planSound (p : List Word) : Bool :=
  let tail := p.drop 52
  decide (wordAt p 1 = 1 ∧ tail.all (fun w => decide (w = 0)) = true) || decide (tail = wordsOf 12 (Config.sha384 (bytesOf (p.take 52))))

/-- The fields of the safe plan, words 4 to 14; GUARD and BASE_SCALE are free (R85). -/
def safeFields (guard base : Nat) : List Word :=
  [wd (820 * 65536 + guard % 65536)] ++ (List.range 8).map (fun i => wd (nominalMHz (i + 5))) ++
    [wd (110 * 65536 + 95 * 256), wd (base % 65536 * 65536 + 4896), 0, 0]

/-- The plan of a boot: made from the plan in force, or the one before it where its digest fails; the safe plan where both fail
(R84, R85). -/
def Dev.bootPlan (d : Dev) (want : List Word) : Dev :=
  let made (before : List Word) (d : Dev) : Dev :=
    let (p, bound, dead) := d.makePlan before want 0
    let d := { d with age := { d.age with shortPlan := bound, exhausted := dead, lastReplan := d.regN Reg.AGE_POWERED_HOURS } }
    (d.setRegs (Reg.AGE_PLAN_PEND 0) p).sqSet Reg.AGE_STATUS ((if bound then [2] else []) ++ (if dead then [3] else []))
  let d := if planSound d.planCur then made d.planCur d
    else if d.age.previous ≠ [] ∧ planSound d.age.previous = true then made d.age.previous d
    else
      let (guard, d) := d.freeNat
      let (base, d) := d.freeNat
      let p := sealPlan (d.age.lastVersion + 1) 0 (d.regN Reg.AGE_POWERED_HOURS) (safeFields guard base)
      { (d.setRegs (Reg.AGE_PLAN_PEND 0) p).sqSet Reg.AGE_STATUS [5] with age := { d.age with fallback := true } }
  { d with age := { d.age with lastVersion := (wordAt d.planPend 1).toNat } }

/-- VDD_CORE taken to the target of a plan in steps of 10 mV over the AVS bus (R89). -/
def Dev.stepVdd (d : Dev) : Nat → Dev
  | 0 => d
  | n + 1 =>
    if d.age.vdd = d.age.vddTarget then d
    else
      let v := d.nextVdd
      ({ d.emit (.avs v) with age := { d.age with vdd := v } } : Dev).stepVdd n

/-- Stage 5: the boot plan is made and applied (R88, R89, R497). -/
def Dev.bootPlanApply (d : Dev) (want : List Word) : Dev :=
  let d := d.bootPlan want
  let t := planFld d.planPend 4 16 16
  let d := ({ d with age := { d.age with vddTarget := t } } : Dev).stepVdd 32
  (d.planStrobe d.planPend).2.planDone

/-- Stage 6: the registers that the board configuration record, the placement records and the images set (R497). -/
def Dev.bootConfigure (d : Dev) (ws : List (Nat × Word)) : Dev := ws.foldl (fun (d : Dev) w => d.setReg w.1 w.2) d

/-- Stage 7: every interface is usable; the boot's time, INSTANCE, TXDIS, PAIR_OK (R456, R499, R502, R504). -/
def Dev.ready (d : Dev) : Dev :=
  let (i, d) := d.freeNat
  let d := d.setN Reg.TRL_INSTANCE (1 + i % (2 ^ 32 - 1))
  let d := (d.setFld Reg.GLB_BOOT 28 4 7).setFld Reg.GLB_BOOT 0 16 (d.now / 500000)
  d.showTxdis.showPair

/-- A boot is going on: no reset held, every supply and rail good, no failure, not stopped after stage 1. -/
def Dev.booting (d : Dev) : Bool :=
  !d.pins.rstLow && d.pins.supply.isEmpty && decide (d.stage? < 7) && !d.bit Reg.GLB_BOOT 27

/-- The ROM stops after stage 1: BOOT_HOLD, a retired device, no bank that passes (R496, R507, R531). -/
def Dev.stopped (d : Dev) : Bool :=
  decide (d.stage? = 1) && (d.bit Reg.GLB_STRAPS 2 || decide (d.lcState = 5) || d.upd.recovery)

/-- The work of the present stage is done: the next one is reached. -/
def Dev.stageDone (d : Dev) (r : StageReport) : Dev :=
  let goto (d : Dev) (n : Nat) : Dev := d.setFld Reg.GLB_BOOT 28 4 n
  match d.stage? with
  | 0 => goto d.bootRomStage 1
  | 1 => goto d 2
  | 2 =>
    match d.chooseBank with
    | (true, d) => goto d 3
    | (false, d) => goto { d with upd := { d.upd with recovery := true } } 1
  | 3 => goto (d.setFld Reg.GLB_HBM_CTRL 30 2 r.trained.val) 4
  | 4 => goto (d.bootTasting r) 5
  | 5 => goto (d.bootPlanApply r.want) 6
  | _ => (d.bootConfigure r.board).ready

/-- `BOOT_STAGE_DONE` (R497). -/
def execBootStageDone (r : StageReport) (s : State) : Host.Outcome State Fault Refusal :=
  .next (s.onDev (fun d => if d.booting && !d.stopped then d.stageDone r else d))

/-- `BOOT_STAGE_DEADLINE` (R498): a record of LEVEL 4, KIND 4 in both rings; the device stops. -/
def execBootStageDeadline (s : State) : Host.Outcome State Fault Refusal :=
  .next (s.onDev (fun d =>
    if d.booting && !d.stopped then
      ((d.fault (faultRec 4 4 0 d.stage?)).setBit Reg.GLB_BOOT 27 true).setFld Reg.GLB_BOOT 0 16 (d.now / 500000)
    else d))

/-! ## Supplies (R491 to R494, R537) -/

/-- Bits of GLB_SUPPLY_FAULT brought up to their causes. -/
def Dev.showSupply (d : Dev) : Dev :=
  (List.range 4).foldl (fun (d : Dev) g => d.hcSet Reg.GLB_SUPPLY_FAULT g (d.pins.supply.contains g) 1) d

/-- A supply fault before stage 7 acts as SYS_RST_N asserted (R494). -/
def Dev.supplyFault (d : Dev) : Dev :=
  let d := d.showSupply
  if d.stage? < 7 ∧ d.bit Reg.GLB_BOOT 27 = false then d.deviceReset else d

/-- `POWER_GOOD_FALL` (R494), while SYS_RST_N is deasserted; the AON latch is lost with its supply (R513). -/
def execPowerGoodFall (g : Fin 4) (s : State) : Host.Outcome State Fault Refusal :=
  .next (s.onDev (fun d =>
    if d.pins.pgLow.contains g.val then d
    else
      let d := { d with pins := { d.pins with pgLow := g.val :: d.pins.pgLow },
                        lcs := { d.lcs with latch := if g.val = 0 then none else d.lcs.latch } }
      if d.pins.rstLow then d else d.supplyFault))

/-- `POWER_GOOD_RISE` (R494): every input has been high for 10 ms; a boot that a fall stopped starts again. -/
def execPowerGoodRise (s : State) : Host.Outcome State Fault Refusal :=
  .next (s.onDev (fun d =>
    let d := { d with pins := { d.pins with pgLow := [] } }
    if d.pins.rstLow then d else (if d.booting then { d with now := 0 } else d).showSupply))

/-- `SUPPLY_FAULT_HOLD` (R487, R494): a bit of GLB_SUPPLY_FAULT has held for 10 µs. -/
def execSupplyFaultHold (g : Fin 4) (mv : List Word) (s : State) : Host.Outcome State Fault Refusal :=
  .next (s.onDev (fun d =>
    if d.stage? = 7 ∧ d.pins.rstLow = false ∧ d.bit Reg.GLB_SUPPLY_FAULT g.val = true then
      d.halt { faultRec 4 6 0 g.val with data := mv, recoveryUs := 0xFFFF }
    else d))

/-- `RAIL_OUT_OF_WINDOW` (R537): judged from stage 1 on. -/
def execRailOutOfWindow (r : Fin 9) (s : State) : Host.Outcome State Fault Refusal :=
  .next (s.onDev (fun d =>
    if d.pins.rstLow ∨ d.stage? = 0 ∨ d.pins.railsOut.contains r.val = true then d
    else ({ d with pins := { d.pins with railsOut := r.val :: d.pins.railsOut } } : Dev).supplyFault))

/-- `RAIL_WITHIN_WINDOW` (R537). -/
def execRailWithinWindow (r : Fin 9) (s : State) : Host.Outcome State Fault Refusal :=
  .next (s.onDev (fun d =>
    let d : Dev := { d with pins := { d.pins with railsOut := d.pins.railsOut.filter (· ≠ r.val) } }
    if d.pins.rstLow then d else d.showSupply))

/-! ## The partner signal, scrubs (R503, R504) -/

/-- `PAIR_IN_CHANGE` (R503): the filtered level. -/
def execPairInChange (level : Bool) (s : State) : Host.Outcome State Fault Refusal :=
  .next (s.onDev (fun d =>
    let d := { d with pins := { d.pins with pairIn := level } }
    if d.pins.rstLow then d else d.setBit Reg.GLB_PAIR 31 level))

/-- `PATROL_SCRUB` (R504): a full pass over the Cellar or the HBM; it changes no contents. -/
def execPatrolScrub (_hbm : Bool) (s : State) : Host.Outcome State Fault Refusal :=
  act (fun d => d) s

end Sys2Proof.Machine
end

