-- ==== Sys2Proof/Machine/Flt.lean ====
section
/-! DEFINITION. Faults: failed items, corrected and uncorrectable errors, pipeline takeover, the fault opcodes (R16, R17, R139,
R472 to R489). -/

namespace Sys2Proof.Machine

/-! ## Failed frames (R473, R474) -/

/-- The port group a pipeline serves. -/
def Dev.pipeGroup (d : Dev) (p : Nat) : Nat := if d.pipeOf 1 = p then 1 else 0

/-- A failed frame is reported: a TX item still waiting for its timestamp ends FAULTED, a thread's frame counts in its cluster, any
other in FRAMES_FAILED of its port group (R473). -/
def Dev.reportFailed (d : Dev) (f : Frame) : Dev :=
  match f.item, f.place with
  | some i, _ => d.endItem i 0x40
  | none, .thread c _ _ => d.fpcCount c 5 1
  | none, _ => d.count (Reg.FLT_COUNTS (d.pipeGroup f.pipe)) 1

/-- A frame fails: reported once, taken from where it stands, freed (R473, R474). -/
def Dev.failFrame (d : Dev) (id : Nat) : Dev :=
  match d.frame? id with
  | none => d
  | some f =>
    let d := d.reportFailed f
    match f.place with
    | .sending p => (d.portCount p 22 1).abortFrame p id
    | .queued n tc => (d.freeFrame id).setQueueAt n tc ((d.queueAt n tc).filter (· ≠ id))
    | .recirc q => (d.setLoop f.pipe q ((d.loop f.pipe q).filter (· ≠ id))).freeFrame id
    | .inbound c h => (d.setChanQueue c h ((d.chanQueue c h).filter (fun (m : InMsg) => decide (m.frame ≠ some id)))).freeFrame id
    | .thread c l _ => (d.freeFrame id).showFrames (64 * c + l)
    | _ => d.freeFrame id

/-! ## Soft state (R479) -/

/-- The pipeline serves a port group that has not failed. -/
def Dev.serves (d : Dev) (p g : Nat) : Bool := decide (d.pipeOf g = p) && !d.flt.failed.contains g

/-- The nodes homed in a pipeline. -/
def Dev.pipeNodes (d : Dev) (p : Nat) : List Nat := (List.range 18 ++ d.listedNodes).eraseDups.filter (fun n => decide (d.pipeOf (d.nodePg n) = p))

/-- Keys of the shapers, deficits and remainders of a pipeline's nodes. -/
def ofNodes (ns : List Nat) (node : Nat → Nat) (k : Nat) : Bool := ns.contains (node k)

/-- The soft state of a pipeline now. -/
def Dev.softOf (d : Dev) (p : Nat) : Soft :=
  let ns := d.pipeNodes p
  ⟨ns.flatMap (fun n => [(2 * n, d.reg (Reg.SCH_NSTATE0 n)), (2 * n + 1, d.reg (Reg.SCH_NSTATE0 n + 4))]),
    Map.sift d.sch.deficit (fun k _ => ofNodes ns (fun k => k / 8 % 65536) k),
    Map.sift d.sch.frac (fun k _ => ofNodes ns (fun k => k / 2) k)⟩

/-- `CONTEXT_CHECKPOINT` (R479): the soft state goes to the alternate slot. -/
def execContextCheckpoint (p : Fin 3) (s : State) : Host.Outcome State Fault Refusal :=
  act (fun d =>
    if d.serves p.val 0 || d.serves p.val 1 then
      let n := Map.getD d.flt.ckptSeq p.val 0
      let slot := 2 * p.val + n % 2
      { d with flt := { d.flt with ckptSeq := Map.put d.flt.ckptSeq p.val (n + 1), ckptBad := d.flt.ckptBad.filter (· ≠ slot),
                                   soft := Map.put d.flt.soft slot (d.softOf p.val) } }
    else d) s

/-- The checkpoint the spare loads: the newer slot, the older one where the newer is damaged (R480). -/
def Dev.checkpoint (d : Dev) (p : Nat) : Option Soft :=
  let n := Map.getD d.flt.ckptSeq p 0
  let newer := 2 * p + (n + 1) % 2
  Map.get? d.flt.soft (if d.flt.ckptBad.contains newer then 2 * p + n % 2 else newer)

/-- The soft state of a pipeline's nodes replaced. -/
def Dev.loadSoft (d : Dev) (p : Nat) (c : Soft) : Dev :=
  let ns := d.pipeNodes p
  let d := c.credit.foldl (fun (d : Dev) e => if ns.contains (e.1 / 2) then d.setReg (Reg.SCH_NSTATE0 (e.1 / 2) + 4 * (e.1 % 2)) e.2 else d) d
  let deficit := c.deficit.foldl (fun m e => if ns.contains (e.1 / 8 % 65536) then Map.put m e.1 e.2 else m)
    (Map.sift d.sch.deficit (fun k _ => !ofNodes ns (fun k => k / 8 % 65536) k))
  let frac := c.frac.foldl (fun m e => if ns.contains (e.1 / 2) then Map.put m e.1 e.2 else m)
    (Map.sift d.sch.frac (fun k _ => !ofNodes ns (fun k => k / 2) k))
  { d with sch := { d.sch with deficit := deficit, frac := frac } }

/-! ## Takeover (R17, R480 to R482) -/

/-- Places of the admission journal: admitted and not yet enqueued, delivered, handed on or dropped (R479). -/
def Place.journal : Place → Bool
  | .press => true
  | .eofHold => true
  | .keyed => true
  | .forward => true
  | .offload => true
  | .toNode _ => true
  | _ => false

/-- Places in a pipeline's own queues. -/
def Place.linked : Place → Bool
  | .queued _ _ => true
  | .recirc _ => true
  | _ => false

/-- The frames of a pipeline at some places. -/
def Dev.pipeFrames (d : Dev) (p : Nat) (at_ : Place → Bool) : List Nat :=
  d.prs.frames.filterMap (fun e => if decide (e.2.pipe = p) && at_ e.2.place then some e.1 else none)

/-- Every frame of a pipeline passes to another, its recirculation queues with them. -/
def Dev.adopt (d : Dev) (p q : Nat) : Dev :=
  let d := (List.range 4).foldl (fun (d : Dev) i => (d.setLoop q i (d.loop q i ++ d.loop p i)).setLoop p i []) d
  { d with prs := { d.prs with frames := Map.mapVals d.prs.frames (fun _ f => if f.pipe = p then { f with pipe := q } else f) } }

/-- The block of a pipeline in a fault record: one of the pipeline's rows of R12. -/
def Dev.pipeBlock (d : Dev) : Nat × Dev :=
  let (n, d) := d.freeNat
  ([7, 8, 9, 10, 14].getD (n % 5) 7, d)

/-- The spare takes over a port group (R480, R481): the journal fails, the queues go on, the soft state is the checkpoint's, the
roles change; frames failed and adopted, and the time, at most 20 µs, are in the record. -/
def Dev.takeover (d : Dev) (p g kind : Nat) (loc : Word) : Dev :=
  let role := Reg.GLB_PIPE_ROLE
  let q := d.fld role 4 2
  let lost := d.pipeFrames p Place.journal
  let kept := d.pipeFrames p Place.linked
  let d := lost.foldl (fun (d : Dev) i => d.failFrame i) d
  let c := d.checkpoint p
  let d := (d.adopt p q).setFld role (2 * g) 2 q
  let d := ((d.setFld role 4 2 p).setFld role 6 2 1).countFld role 8 4
  let d := match c with
    | some c => d.loadSoft q c
    | none => d
  let (us, d) := d.freeNat
  let (blk, d) := d.pipeBlock
  (d.fault { faultRec 3 kind blk p with location := loc, failed := lost.length, completed := kept.length, recoveryUs := us % 21 }).sqSet
    Reg.FLT_EVT_STATUS [3]

/-- A port of a failed group: its link falls (R398, R482). -/
def Dev.dropPort (d : Dev) (p : Nat) : Dev := if d.portPresent p then (d.abortPort p).setLink p 0 else d

/-- A port group fails: every item of it fails, its ports are treated as not enabled (R482). -/
def Dev.failGroup (d : Dev) (p g kind : Nat) (loc : Word) : Dev :=
  let own (x : Place) : Bool := x.journal || x.linked || (match x with
    | .copy q _ => decide (q / 8 = g)
    | .ringFwd q _ => decide (q / 8 = g)
    | _ => false)
  let lost := d.pipeFrames p own
  let d := lost.foldl (fun (d : Dev) i => d.failFrame i) d
  let d := (List.range 8).foldl (fun (d : Dev) i => d.dropPort (8 * g + i)) d
  let d := { (d.setBit Reg.FLT_STATUS g true) with flt := { d.flt with failed := g :: d.flt.failed } }
  let (blk, d) := d.pipeBlock
  ((d.fault { faultRec 3 kind blk p with location := loc, failed := lost.length, recoveryUs := 0xFFFF }).sqSet
    Reg.FLT_EVT_STATUS [4]).showTxdis.showPair

/-- A pipeline fault: takeover where the spare is ready, else its group fails; the spare itself leaves service to be tasted. -/
def Dev.pipeFault (d : Dev) (p kind : Nat) (loc : Word) : Dev :=
  let role := Reg.GLB_PIPE_ROLE
  match (List.range 2).find? (fun g => d.serves p g) with
  | some g => if d.fld role 6 2 = 0 then d.takeover p g kind loc else d.failGroup p g kind loc
  | none =>
    if d.fld role 4 2 = p ∧ d.fld role 6 2 = 0 then
      let (blk, d) := d.pipeBlock
      (d.setFld role 6 2 2).fault { faultRec 3 kind blk p with location := loc, recoveryUs := 0xFFFF }
    else d

/-- `PIPELINE_FAULT` (R17, R480, R482). -/
def execPipelineFault (p : Fin 3) (kind : Fin 16) (loc : Word) (s : State) : Host.Outcome State Fault Refusal :=
  act (fun d => d.pipeFault p.val kind.val loc) s

/-- The status window of a pipeline back at its reset values: kept until it is tasted (R480). -/
def Dev.clearWindow (d : Dev) (p : Nat) : Dev :=
  { d with rf := { d.rf with act := Map.sift d.rf.act (fun k _ =>
    !decide ([7, 8, 9, 10, 14].contains (k / 0x100000) = true ∧ k / 0x10000 % 16 = 12 + p)) } }

/-- A failed group returns on a pipeline (R482). -/
def Dev.regain (d : Dev) (p g : Nat) : Dev :=
  let d := { (d.setBit Reg.FLT_STATUS g false).setFld Reg.GLB_PIPE_ROLE (2 * g) 2 p with
    flt := { d.flt with failed := d.flt.failed.filter (· ≠ g) } }
  ((List.range 8).foldl (fun (d : Dev) i =>
    let q := 8 * g + i
    if d.portPresent q && d.bit (Reg.MAC_PORTp_CTRL q) 31 then d.setLink q 1 else d) d).showTxdis.showPair

/-- The DEVICE_RESET of a pipeline that waits for its tasting (R483). -/
def Dev.pipeReset (d : Dev) (p : Nat) : Option Cmd :=
  d.cmd.cmds.find? (fun c => decide (c.opcode = 0x0009 ∧ c.phase = .started ∧ c.pf 0 0 8 = 1 ∧ c.pf 0 8 8 = p))

/-- `PIPELINE_TASTING_DONE` (R17, R482, R483): the pipeline becomes the spare, or the spare has failed; under a reset of it, a
failed group returns. -/
def execPipelineTastingDone (p : Fin 3) (good : Bool) (s : State) : Host.Outcome State Fault Refusal :=
  act (fun d =>
    let role := Reg.GLB_PIPE_ROLE
    let p := p.val
    let spare := decide (d.fld role 4 2 = p)
    let own := (List.range 2).find? (fun g => decide (d.pipeOf g = p))
    let cmd := d.pipeReset p
    if (spare && decide (d.fld role 6 2 = 1 ∨ d.fld role 6 2 = 2)) || (cmd.isSome && !spare && own.any (fun g => d.flt.failed.contains g)) then
      let d := d.clearWindow p
      let d := match (if good && cmd.isSome then d.flt.failed else []) with
        | g :: gs =>
          let g := (own.filter (fun g => d.flt.failed.contains g)).getD (if gs.isEmpty then g else 0)
          let old := d.pipeOf g
          let d := d.regain p g
          if spare then (d.setFld role 4 2 old).setFld role 6 2 3 else d
        | [] => if spare then d.setFld role 6 2 (if good then 0 else 3) else d
      match cmd with
      | some c => d.finish c.master c.tag c.gen (Res.st (if good then stOK else stFaulted))
      | none => d
    else d) s

/-! ## Corrected errors (R476) -/

/-- The block of a source row of R475 in a record. -/
def sourceBlock (row : Nat) : Nat := [0, 0, 8, 9, 8, 14, 5, 5, 4, 6, 11, 12, 16, 3, 2, 2, 22].getD row 0

/-- `CORRECTED_ERROR` (R476). -/
def execCorrectedError (row : Fin 17) (unit : Fin 65536) (loc : Word) (s : State) : Host.Outcome State Fault Refusal :=
  act (fun d =>
    let r := row.val
    let n := Map.getD d.flt.ceHour r 0 + 1
    let d := (if r = 13 then (d.linkFns (unit.val % 4)).foldl (fun (d : Dev) f => d.aer f 1) d else d).count (Reg.FLT_CORRECTED r) 1
    let d := { d with flt := { d.flt with ceHour := Map.put d.flt.ceHour r n } }
    let d := if d.flt.ceLogged.contains r then d
      else ({ d with flt := { d.flt with ceLogged := r :: d.flt.ceLogged } } : Dev).fault
        { faultRec 0 0 (sourceBlock r) unit.val with location := loc }
    if n = d.fld Reg.FLT_CTRL 0 16 + 1 then d.sqSet Reg.FLT_EVT_STATUS [5] else d) s

/-- The 5 °C bin of a temperature in 0.1 °C, from −40 °C (R82). -/
def tempBin (t : Int) : Nat := clampNat 0 32 ((t + 400) / 50).toNat

/-- `POWERED_HOUR` (R82, R476): the hour is counted under the present temperature; the hourly counts start again. -/
def execPoweredHour (s : State) : Host.Outcome State Fault Refusal :=
  act (fun d =>
    let b := tempBin d.temp
    let up (m : Map Nat) : Map Nat := Map.put m b (Map.getD m b 0 + 1)
    { d.inc Reg.AGE_POWERED_HOURS with
      age := { d.age with bins := up d.age.bins, dayBins := up d.age.dayBins, periodBins := up d.age.periodBins },
      flt := { d.flt with ceHour := [], ceLogged := [] } }) s

/-! ## Uncorrectable errors (R475, R477, R478) -/

/-- A queue stops (R477). -/
def Dev.containQueue (d : Dev) (cq q : Nat) : Dev :=
  let k := 131072 * cq + q
  ({ d with rng := { d.rng with stopped := k :: d.rng.stopped.filter (· ≠ k) } } : Dev).sqSet Reg.FLT_EVT_STATUS [1]

/-- A slice is corked with cause 8 until it has been quiesced and reset (R478). -/
def Dev.containSlice (d : Dev) (s : Nat) : Dev :=
  let live := decide (1 ≤ d.sliceState s ∧ d.sliceState s ≤ 4)
  let d := if live then { d with slc := { d.slc with contained := s :: d.slc.contained.filter (· ≠ s) } } else d
  (d.cork s 8).sqSet Reg.FLT_EVT_STATUS [2]

/-- A slice in a fault record. -/
def Dev.recSlice (d : Dev) (s : Nat) : Option (Nat × Nat) := some (s, d.incarnation s)

/-- The frame looking up a damaged entry fails. -/
def Dev.failLookup (d : Dev) (f : Option Nat) : Dev :=
  match f with
  | some i => d.failFrame i
  | none => d

/-- What an uncorrectable error does, and its record: level, kind, block, unit, slice (R475). -/
def Dev.damage (d : Dev) (e : Damage) : Dev × FaultRec :=
  let put (l k b u : Nat) : FaultRec := faultRec l k b u
  match e with
  | .cell f => (d.failFrame f, { put 0 1 0 0 with failed := 1 })
  | .flow e => (d.htClear .flow e, put 0 1 9 0)
  | .staging k cid => (d.unitFailed k.val cid 0x40, { put 0 1 13 0 with failed := 1 })
  | .dirtySet s => (if d.bit (Reg.SLC_SLICE_STATUS s.val 1) 23 then (d.setBit (Reg.SLC_SLICE_STATUS s.val 1) 22 true).slcEvt s.val 4 else d,
      { put 0 1 4 0 with slice := d.recSlice s.val })
  | .threadData t tag => (d.answerReq t.val tag 3 [], { put 0 1 11 (t.val / 64 * 16 + t.val % 64 / 8) with failed := 1 })
  | .rule store b t e f => ((d.failLookup f).clearEntry t.val b.val ⟨store, e, 0⟩, put 0 1 8 0)
  | .lookup f => (d.failLookup f, put 0 1 9 0)
  | .context p newer =>
    let n := Map.getD d.flt.ckptSeq p.val 0
    let slot := 2 * p.val + (if newer then n + 1 else n) % 2
    ({ d with flt := { d.flt with ckptBad := slot :: d.flt.ckptBad.filter (· ≠ slot) } }, put 0 1 14 p.val)
  | .ring cq s n =>
    (match d.queue? (if cq then 1 else 0) s.val n.val with
      | some q => (d.containQueue (if cq then 1 else 0) q, { put 1 1 5 n.val with slice := d.recSlice s.val })
      | none => (d, { put 1 1 5 n.val with slice := d.recSlice s.val }))
  | .spill s n => (d, { put 0 1 5 n.val with slice := d.recSlice s.val })
  | .slice s => (d.containSlice s.val, { put 2 1 4 0 with slice := d.recSlice s.val })
  | .dmaBuffer c => (if (Map.get? d.dma.run c.val).isSome then d.finishDesc c.val 0x40 else d, { put 0 2 6 c.val with failed := 1 })
  | .channel c => (if (Map.get? d.dma.run c.val).isSome then d.finishDesc c.val 0x40 else (d.setChState c.val 4).chEvent c.val [3], put 1 1 6 c.val)
  | .inbound c h => (d.chanChanged c.val h.val, put 1 1 11 (c.val * 16))
  | .threadMemory t => (d.thrFault t.val 7, put 0 1 11 (t.val / 64 * 16 + t.val % 64 / 8))
  | .rowStore v second cnt =>
    let left := (d.rows v.val).filter (fun (x : Sample) => !decide (x.second = second ∧ x.cnt = cnt.val))
    ({ d with pbu := { d.pbu with rows := Map.putD d.pbu.rows v.val [] left } }, { put 0 1 16 v.val with failed := 1 })
  | .packet m =>
    let k := Reg.CMD_QUEUES (m.val * 4096 + d.fld (Reg.CMD_CIm m.val) 0 16 % 256 * 16 + 3)
    (if d.reg (Reg.CMD_CIm m.val) = d.reg (Reg.CMD_PIm m.val) then d else d.setReg k (d.reg k ^^^ 1), put 0 1 2 m.val)
  | .reply m tag gen =>
    (match d.cmd? m.val tag.val gen.val with
      | some c => if c.phase = .finished then d.finish m.val tag.val gen.val (Res.st stBadHeader) else d
      | none => d, put 0 1 2 m.val)
  | .sa i => (d.setSa i.val (fun a => { a.zeroised with state := 3 }), put 0 1 12 0)
  | .pcie l => (((d.linkFns l.val).foldl (fun (d : Dev) f => d.aer f 11) d).linkDown l.val, put 3 1 3 l.val)
  | .key i => ((d.setBit (Reg.CRY_SLOTs i.val) 25 true).zeroSlot i.val, put 0 1 12 i.val)
  | .plan =>
    let k := Reg.AGE_PLAN_CUR0 + 4 * 63
    (d.setReg k (~~~(d.reg k)), put 0 1 19 0)
  | .lifecycle c => ({ d with lcs := { d.lcs with copies := d.lcs.copies.set c.val (16 + c.val) } }, put 0 1 22 c.val)
  | .ringMemory => (d, put 4 1 2 0)
  | .firmware => (d, put 4 1 2 1)
  | .lockstep => (d, put 4 3 2 2)

/-- `UNCORRECTABLE_ERROR` (R475): contained at its level, recorded; one in the management ring, the Ovsen firmware's memory or the
Cellar-master cores halts the device. -/
def execUncorrectableError (e : Damage) (loc : Word) (s : State) : Host.Outcome State Fault Refusal :=
  act (fun d =>
    let (d, r) := d.damage e
    let r := { r with location := loc }
    if r.level = 4 then d.halt { r with recoveryUs := 0xFFFF } else d.fault r) s

/-! ## Halts and their end (R487, R489) -/

/-- `WATCHDOG_EXPIRY` (R487, R524): suspended while an activation or a revert is under way. -/
def execWatchdogExpiry (s : State) : Host.Outcome State Fault Refusal :=
  act (fun d =>
    if d.fld Reg.UPD_STATE 28 4 = 5 ∨ d.fld Reg.UPD_STATE 28 4 = 8 then d
    else d.halt { faultRec 4 4 2 0 with recoveryUs := 0xFFFF }) s

/-- A write to FLT_HALT_RESET (R489). -/
def Dev.haltReset (d : Dev) (v : Word) : Dev := if d.halted && decide (v = 0x5A170001#32) then d.deviceReset else d

/-- `FLT_HALT_RESET_WRITE` (R489). -/
def execFltHaltResetWrite (v : Word) (s : State) : Host.Outcome State Fault Refusal :=
  .next (s.onDev (fun d => if d.pins.rstLow then d else d.haltReset v))

/-! ## The fault opcodes (R139, R486) -/

/-- FAULT_LOG_READ: word 0 the first record, word 1 the count, 1 to 85. -/
def faultLogBad (c : Cmd) (_ : Dev) : Bool := decide (c.p 1 = 0 ∨ 85 < (c.p 1).toNat)

/-- 0x0B01: the records asked for that the ring still holds, in order (R486). -/
def runFaultLogRead (c : Cmd) (d : Dev) : Dev × Option Res :=
  let n := d.regN Reg.FLT_SEQ
  let ids := ((List.range (c.p 1).toNat).map (fun i => (c.p 0).toNat + i)).filter (fun i => decide (i < n ∧ n ≤ i + 1024))
  (d, some (Res.ok (ids.flatMap (fun i => d.regs (Reg.FLT_RING (i % 1024 * 12)) 12))))
/-- `FAULT_LOG_READ`. -/
def execFaultLogRead (m : Fin 16) (tag : Fin 4096) (gen : Fin 16) (s : State) : Host.Outcome State Fault Refusal :=
  opStep 0x0B01 runFaultLogRead m.val tag.val gen.val s

/-- TASTING_RUN: word 0 a row of R12. -/
def tastingBad (c : Cmd) (_ : Dev) : Bool := decide (23 < (c.p 0).toNat)

/-- 0x0B00: the result of the block's self-test, 1 passed. -/
def runTastingRun (good : Bool) (_ : Cmd) (d : Dev) : Dev × Option Res := (d, some (Res.ok [if good then 1 else 0]))
/-- `TASTING_RUN`. -/
def execTastingRun (m : Fin 16) (tag : Fin 4096) (gen : Fin 16) (good : Bool) (s : State) : Host.Outcome State Fault Refusal :=
  opStep 0x0B00 (runTastingRun good) m.val tag.val gen.val s

/-- The counters of a block, in address order. -/
def blockCounters (b : Nat) : List Nat :=
  let row (k n : Nat) : List Nat := (List.range n).map (fun i => k + 4 * i)
  let pipes (k : Nat → Nat) (n : Nat) : List Nat := (List.range 3).flatMap (fun p => row (k p) n)
  match b with
  | 3 => (List.range 4).flatMap (fun f => row (Reg.PCE_COUNTSf f 0) 6)
  | 5 => row (Reg.RNG_COUNTS 0) 5
  | 7 => pipes (fun p => Reg.PRS_COUNTS p 0) 13
  | 8 => pipes (fun p => Reg.CLS_COUNTS p 0) 10
  | 9 => pipes (fun p => Reg.FWD_COUNTS p 0) 13
  | 10 => pipes (fun p => Reg.TCM_COUNTS p 0) 4
  | 11 => (List.range 8).flatMap (fun c => row (Reg.FPC_CLc_COUNTS c 0) 8)
  | 12 => row (Reg.CRY_COUNTS 0) 8 ++ (List.range 20).flatMap (fun y => row (Reg.CRY_SECYy_COUNTS y 0) 8)
  | 13 => row (Reg.STO_COUNTS 0) 6
  | 14 => pipes (fun p => Reg.SCH_COUNTS p 0) 10
  | 15 => row (Reg.MAC_COUNTS 0) 6
  | 16 => row (Reg.PBU_COUNTS 0) 24
  | 18 => row (Reg.EBS_COUNTS 0) 4
  | 20 => row (Reg.TRL_COUNTS 0) 11
  | 21 => row (Reg.FLT_CORRECTED 0) 17 ++ row (Reg.FLT_COUNTS 0) 4
  | _ => []

/-- COUNTERS_READ: word 0 the block, word 1 [31:16] count, [15:0] first counter. -/
def countersBad (c : Cmd) (_ : Dev) : Bool :=
  let n := c.pf 1 16 16
  decide (23 < (c.p 0).toNat ∨ n = 0 ∨ (blockCounters (c.pf 0 0 5)).length < c.pf 1 0 16 + n)

/-- 0x0B02: a range of a block's counters. -/
def runCountersRead (c : Cmd) (d : Dev) : Dev × Option Res :=
  (d, some (Res.ok ((((blockCounters (c.pf 0 0 5)).drop (c.pf 1 0 16)).take (c.pf 1 16 16)).map d.reg)))
/-- `COUNTERS_READ`. -/
def execCountersRead (m : Fin 16) (tag : Fin 4096) (gen : Fin 16) (s : State) : Host.Outcome State Fault Refusal :=
  opStep 0x0B02 runCountersRead m.val tag.val gen.val s

end Sys2Proof.Machine
end

