-- ==== Sys2Proof/Machine/Lcs.lean ====
section
/-! DEFINITION. Life-cycle states, authorisations, JTAG gating, violations, MCTP control (R499, R505 to R515). -/

namespace Sys2Proof.Machine

/-! ## States and transitions (R505 to R510) -/

/-- The state that judges a transition: a damaged device runs as DEPLOYED (R508). -/
def Dev.fromState (d : Dev) : Nat := if d.bit Reg.LCS_VIOLATION 3 then 3 else d.lcState

/-- The signers a transition needs: bit 0 Trekaran, bit 1 owner; 0 where there is no such transition (R506). -/
def signersOf (src dst : Nat) : Nat :=
  match src, dst with
  | 1, 2 => 1
  | 2, 3 => 1
  | 3, 4 => 3
  | 4, 2 => 1
  | 1, 5 => 1
  | 2, 5 => 1
  | 4, 5 => 1
  | 3, 5 => 2
  | _, _ => 0

/-- 0x0A00: the state, and the target states of the transitions that exist from it, one bit per code. -/
def runLcStatus (_ : Cmd) (d : Dev) : Dev × Option Res :=
  (d, some (Res.ok [d.reg Reg.LCS_STATE,
    wd (markBits ((List.range 6).map (fun t => decide (signersOf d.fromState t ≠ 0))))]))
/-- `LC_STATUS` (R505). -/
def execLcStatus (m : Fin 16) (tag : Fin 4096) (gen : Fin 16) (s : State) : Host.Outcome State Fault Refusal :=
  opStep 0x0A00 runLcStatus m.val tag.val gen.val s

/-- Reserved bits and values of an authorisation record (R509). -/
def lcTransitionBad (c : Cmd) (_ : Dev) : Bool :=
  decide (c.pf 0 9 7 ≠ 0 ∨ c.pf 0 18 6 ≠ 0 ∨ c.pf 0 28 4 = 0 ∨ 2 < c.pf 0 28 4 ∨ c.pf 0 2 6 ≠ 0 ∨ 5 < c.pf 0 24 4)

/-- A signature over a record's words 0 to 16 (R509). -/
def recordSigned (c : Cmd) (hash : List Byte) (first : Nat) : Bool :=
  signedBy hash (Config.sha384 (bytesOf (c.params.take 17))) ((c.params.drop first).take 24)

/-- Words of a record that must be 0. -/
def wordsZero (c : Cmd) (first n : Nat) : Bool := ((c.params.drop first).take n).all (fun w => decide (w = 0))

/-- The signatures a record needs, owner first; SIG2 is 0 where one signer is present (R509). -/
def Dev.recordOk (d : Dev) (c : Cmd) (need : Nat) : Bool :=
  let two := decide (need = 3)
  decide (need ≠ 0 ∧ c.pf 0 16 2 = need) && (!need.testBit 1 || recordSigned c d.ownerHash 17) &&
  (!need.testBit 0 || recordSigned c (Config.fuseHash 0) (if two then 41 else 17)) && (two || wordsZero c 41 24)

/-- An authorisation record is accepted (R506, R509, R510, R512). -/
def Dev.authorised (d : Dev) (c : Cmd) : Bool :=
  let target := c.pf 0 24 4
  let here := decide (c.p 1 = d.reg Reg.LCS_SERIAL_LO ∧ c.p 2 = d.reg Reg.LCS_SERIAL_HI ∧ c.p 3 = d.reg Reg.LCS_NONCE_LO ∧
    c.p 4 = d.reg Reg.LCS_NONCE_HI)
  here &&
  (if c.pf 0 28 4 = 1 then
    d.recordOk c (signersOf d.fromState target) && decide (c.pf 0 0 8 = 0 ∧ (target = 3 ∨ (c.pf 0 8 1 = 0 ∧ wordsZero c 5 12 = true)))
  else decide (target = 0 ∧ d.lcState = 3 ∧ c.pf 0 8 1 = 0) && wordsZero c 5 12 && d.recordOk c 2)

/-- Every key slot and every tenant SA zeroised (R354, R507). -/
def Dev.zeroiseAll (d : Dev) : Dev :=
  let d := (List.range 256).foldl (fun (d : Dev) i => if (d.slot? i).isSome || d.bit (Reg.CRY_SLOTs i) 25 then d.clearSlot i else d) d
  { d with cry := { d.cry with sas := Map.mapVals d.cry.sas (fun _ a => { a.zeroised with state := 2 }) } }

/-- An accepted transition: keys, grants, the new state in all three copies, the owner's key hash; a DEVICE reset follows (R506 to
R508). -/
def Dev.transition (d : Dev) (c : Cmd) : Dev :=
  let t := c.pf 0 24 4
  let d := (d.zeroiseAll.setFld Reg.LCS_STATE 0 8 0).setFld Reg.LCS_STATE 28 4 t
  let d := d.setBit Reg.LCS_VIOLATION 3 false
  let d := if t = 3 then (d.setRegs (Reg.LCS_OWNER_HASH 0) ((c.params.drop 5).take 12)).setBit Reg.LCS_STATE 8 (decide (c.pf 0 8 1 = 1))
    else if t = 2 ∨ t = 5 then (d.setRegs (Reg.LCS_OWNER_HASH 0) (List.replicate 12 0)).setBit Reg.LCS_STATE 8 false else d
  { d with lcs := { d.lcs with copies := [t, t, t], resetDue := true, identity := d.lcs.identity && decide (t ≠ 5) } }

/-- A refusal: counted; the third since device reset locks (R510). -/
def Dev.authRefused (d : Dev) : Dev :=
  let d := (d.count Reg.LCS_AUTH_FAILS 1).sqSet Reg.LCS_EVT_STATUS [1]
  if 3 ≤ d.regN Reg.LCS_AUTH_FAILS then d.violation 1 else d

/-- 0x0A01: the nonce changes whatever the outcome (R507 to R512). -/
def runLcTransition (c : Cmd) (d : Dev) : Dev × Option Res :=
  let ok := !d.bit Reg.LCS_VIOLATION 1 && d.authorised c
  let d := d.freshNonce
  if !ok then (d.authRefused, some (Res.st stLifecycle))
  else if c.pf 0 28 4 = 1 then (d.transition c, some (Res.ok []))
  else ((d.setFld Reg.LCS_STATE 0 8 (d.fld Reg.LCS_STATE 0 8 ||| c.pf 0 0 8)).sqSet Reg.LCS_EVT_STATUS [2], some (Res.ok []))
/-- `LC_TRANSITION`. -/
def execLcTransition (m : Fin 16) (tag : Fin 4096) (gen : Fin 16) (s : State) : Host.Outcome State Fault Refusal :=
  opStep 0x0A01 runLcTransition m.val tag.val gen.val s

/-- `LC_TRANSITION_RESET` (R507): 10 ms after the reply. -/
def execLcTransitionReset (s : State) : Host.Outcome State Fault Refusal :=
  act (fun d => if d.lcs.resetDue then d.deviceReset else d) s

/-- The opcode is permitted in the life-cycle state (R514). -/
def Dev.lcPermits (d : Dev) (op : Nat) : Bool :=
  match d.lcState with
  | 4 => !([0x0100, 0x0402, 0x0400].contains op)
  | 5 => false
  | _ => true

/-! ## Debug and test access (R511 to R513) -/

/-- `LIFECYCLE_LATCH` (R513): the AON domain has read the state word. -/
def execLifecycleLatch (s : State) : Host.Outcome State Fault Refusal :=
  .next (s.onDev (fun d => if d.pins.pgLow.contains 0 then d else { d with lcs := { d.lcs with latch := some d.lcs.vote.1 } }))

/-- A JTAG instruction that the state opens (R511, R513). -/
def Dev.jtagOpen (d : Dev) (j : Jtag) : Bool :=
  let grant (i : Nat) : Bool := d.bit Reg.LCS_STATE i
  let boundary (st : Nat) : Bool := match st with
    | 1 => true
    | 4 => true
    | 3 => d.pins.rstLow || grant 1
    | _ => d.pins.rstLow
  let dbg (st : Nat) : Bool := match st with
    | 3 => grant 0
    | 5 => false
    | _ => true
  match j, d.lcs.latch with
  | .idcode, _ => true
  | .bypass, _ => true
  | .sample, _ => true
  | _, none => false
  | .extest, some st => boundary st
  | .clamp, some st => boundary st
  | .highz, some st => boundary st
  | .dbgPacket _, some st => dbg st
  | .dbgMbxIn _, some st => dbg st
  | .dbgMbxAck _, some st => dbg st
  | .scan, some st => decide (st = 1 ∨ st = 4)
  | .cellarMaster, some st => decide (st = 1 ∨ st = 4)

/-- `JTAG_INSTRUCTION` (R511): one that is not open acts as BYPASS and counts. The DBG master's accesses reach its queue and
mailbox on a running device (R26, R122); what IDCODE and SAMPLE answer is free, and boundary-scan, scan and memory access change
nothing the spec names. -/
def execJtagInstruction (j : Jtag) (s : State) : Host.Outcome State Fault Refusal :=
  .next (s.onDev (fun d =>
    if !d.jtagOpen j then d.count Reg.LCS_DENIED_JTAG 1
    else match j with
      | .idcode => let (w, d) := d.freeWord; d.emit (.jtag w)
      | .sample => let (w, d) := d.freeWord; d.emit (.jtag w)
      | .dbgPacket ws => Dev.live (fun d => d.putPacket 5 0 ws) d
      | .dbgMbxIn w => Dev.live (fun d => d.mbxIn 5 w) d
      | .dbgMbxAck w => Dev.live (fun d => d.mbxAck 5 w) d
      | _ => d))

/-! ## Violations (R515) -/

/-- `GLITCH_DETECT` (R515): GLITCH halts the device. -/
def execGlitchDetect (s : State) : Host.Outcome State Fault Refusal :=
  act (fun d => (d.violation 0).halt { faultRec 4 9 22 0 with recoveryUs := 0xFFFF }) s

/-! ## MCTP control on the sideband (R488, R498, R499) -/

/-- Registers that the sideband serves on a halted or failed device: GLB_HALT, the MRAM record ring. -/
def aonReadable (k : Nat) : Bool :=
  decide (k = Reg.GLB_HALT ∨ (Reg.FLT_MRAM_RING 0 ≤ k ∧ k < Reg.FLT_MRAM_RING 0 + 0xC00 ∧ k % 4 = 0))

/-- `MCTP_CONTROL_MESSAGE`: a message of type 0 is answered in every stage, running or halted; on a halted or failed device one of
type 0x7E whose last eight bytes are a BAR0 offset and a word count reads GLB_HALT or the MRAM ring. -/
def execMctpControlMessage (req : List Byte) (s : State) : Host.Outcome State Fault Refusal :=
  .next (s.onDev (fun d =>
    if d.pins.rstLow then d
    else if byteAt req 0 % 128 = 0 then
      let (n, d) := d.freeNat
      let (bs, d) := d.freeBytes (n % 64)
      d.emit (.sideband 0 ([0, BitVec.ofNat 8 (byteAt req 1 % 128), BitVec.ofNat 8 (byteAt req 2)] ++ bs))
    else if d.halted || d.bit Reg.GLB_BOOT 27 then
      let tail := wordsOf 2 (req.drop (req.length - 8))
      let ks := (List.range (Nat.min 768 (wordAt tail 1).toNat)).map (fun i => (wordAt tail 0).toNat + 4 * i)
      d.emit (.sideband 0x7E (bytesOf ((ks.filter aonReadable).map d.reg)))
    else d))

end Sys2Proof.Machine
end

