-- ==== Sys2Proof/Machine/Upd.lean ====
section
/-! DEFINITION. Staging and confirming firmware, activations on one device and across the domain (R519 to R529, R533). -/

namespace Sys2Proof.Machine

/-! ## The activation state (R523) -/

/-- UPD_STATE.STATE. -/
def Dev.updState (d : Dev) : Nat := d.fld Reg.UPD_STATE 28 4
def Dev.setUpd (d : Dev) (st : Nat) : Dev := d.setFld Reg.UPD_STATE 28 4 st

/-- The activation, and where an ACTIVATING or REVERTING device stands, changed. -/
def Dev.setAct (d : Dev) (a : Option Activation) : Dev := { d with upd := { d.upd with act := a } }
def Dev.setPhase (d : Dev) (n : Nat) : Dev := { d with upd := { d.upd with phase := n } }

/-- The inactive bank. -/
def Dev.inactive (d : Dev) : Nat := 1 - d.inForce

/-- The stepwise commands of R136. -/
def stepwise (op : Nat) : Bool := [0x0101, 0x0103, 0x0204, 0x0304, 0x030B, 0x0A03].contains op

/-- The firmware starts no new command: from the activation instant until the device serves commands again (R524). -/
def Dev.updHolds (d : Dev) : Bool := decide (d.updState = 5 ∨ d.updState = 8)

/-! ## UPDATE_STAGE (R521) -/

/-- A byte range lies in a list of ranges: the number bounds the walk. -/
def covered (rs : List (Nat × Nat)) (off last : Nat) : Nat → Bool
  | 0 => decide (last ≤ off)
  | n + 1 =>
    if last ≤ off then true
    else match rs.find? (fun r => decide (r.1 ≤ off ∧ off < r.1 + r.2)) with
      | some r => covered rs (r.1 + r.2) last n
      | none => false

/-- Every byte of every image has been written. -/
def Bank.complete (k : Bank) : Bool := k.images.all (fun i => covered k.written i.offset (i.offset + i.length) (k.written.length + 1))

/-- Words written into a bank at a byte offset. -/
def Bank.write (k : Bank) (off : Nat) (ws : List Word) : Bank :=
  { k with flash := ((List.range ws.length).zip ws).foldl (fun m e => Map.put m (off / 4 + e.1) e.2) k.flash }

/-- What makes UPDATE_STAGE bad by its own words: reserved bits, an offset that is not aligned, a range past the bank. -/
def updateStageBad (c : Cmd) (_ : Dev) : Bool :=
  decide (c.pf 0 0 30 ≠ 0 ∨ (c.p 1).toNat % 4 ≠ 0 ∨ bankSize < (c.p 1).toNat + 4 * (c.params.length - 2))

/-- A bank becomes STAGED when it is complete. -/
def Dev.stageCheck (d : Dev) (b : Nat) : Dev :=
  if (d.bank b).complete then (d.setBankState b 2).sqSet Reg.UPD_EVT_STATUS [0] else d

/-- A chunk written to the inactive bank; its status (R521). -/
def Dev.stageChunk (d : Dev) (manifest last : Bool) (off : Nat) (ws : List Word) : Nat × Dev :=
  let b := d.inactive
  let k := d.bank b
  let out (d : Dev) : Dev := d.emit (.flash b off ws)
  if d.updState ≠ 0 then (stBusy, d)
  else if manifest && decide (off = 0) then
    let k : Bank := (⟨1, [], []⟩ : Bank).write 0 ws
    let d := out (({ d with upd := { d.upd with erasing := true } } : Dev).setBank b k)
    let d := d.setFld Reg.UPD_STATE 0 16 0
    (if last && !k.structureOk then stBadParam else stOK, d)
  else if d.upd.erasing then (stBusy, d)
  else if k.state ≠ 1 then (stBadParam, d)
  else if manifest then
    let k := k.write off ws
    if last && !k.structureOk then (stBadParam, out (d.setBank b k))
    else (stOK, out (d.setBank b k))
  else
    let n := 4 * ws.length
    if k.structureOk && k.images.any (fun i => decide (i.offset ≤ off ∧ off + n ≤ i.offset + (i.length + 3) / 4 * 4)) then
      let k := k.write off ws
      (stOK, (out (d.setBank b { k with written := (off, n) :: k.written })).stageCheck b)
    else (stBadParam, d)

/-- 0x0A02. -/
def runUpdateStage (c : Cmd) (d : Dev) : Dev × Option Res :=
  let (st, d) := d.stageChunk (decide (c.pf 0 31 1 = 1)) (decide (c.pf 0 30 1 = 1)) (c.p 1).toNat (c.params.drop 2)
  (d, some (Res.st st))
/-- `UPDATE_STAGE`. -/
def execUpdateStage (m : Fin 16) (tag : Fin 4096) (gen : Fin 16) (s : State) : Host.Outcome State Fault Refusal :=
  opStep 0x0A02 runUpdateStage m.val tag.val gen.val s

/-- `BANK_ERASE_DONE` (R521). -/
def execBankEraseDone (s : State) : Host.Outcome State Fault Refusal :=
  act (fun d => if d.upd.erasing then
      ({ d with upd := { d.upd with erasing := false } } : Dev).setFld Reg.UPD_STATE 0 16 1024
    else d) s

/-! ## Results (R525 to R527) -/

/-- A member with a result of R526: bit 15 says that it has reverted. -/
def ActMember.take (a : ActMember) (r : Nat) : ActMember :=
  { a with result := some (if r.testBit 15 ∧ r % 2 ^ 15 = 0 then (a.result.filter (· ≠ 0)).getD 0 else r % 2 ^ 15),
           reverted := a.reverted || r.testBit 15 }

/-- Reply data: the token, the number of members listed, each with its result (R527). -/
def actReply (token : Nat) (ms : List (Nat × Nat)) : List Word :=
  [wd token, wd ms.length] ++ ms.map (fun m => wd (m.2 * 65536 + m.1))

/-- The command of an activation finishes. -/
def Dev.actFinish (d : Dev) (a : Activation) (status : Nat) (ms : List (Nat × Nat)) : Dev :=
  match a.cmd with
  | some (m, t, g) => d.finish m t g ⟨status, actReply a.token ms, false⟩
  | none => d

/-- The other members. -/
def Dev.others (d : Dev) (a : Activation) : List Nat := (a.members.map ActMember.id).filter (· ≠ d.selfId)

/-- A release writes MRAM structures in other formats than the bank in force (R520, R529). -/
def Dev.newFormats (d : Dev) : Bool := decide ((d.bank d.inactive).word 4 ≠ (d.bank d.inForce).word 4)

/-- A revert starts: the old bank is the bank in force again; after images were loaded they are loaded again (R524, R528). -/
def Dev.startRevert (d : Dev) : Dev :=
  match d.updState with
  | 5 => (d.setUpd 8).setPhase (if d.upd.phase = 2 then 2 else 3)
  | 6 => (((d.setBankState d.inForce 2).runBank d.inactive).setUpd 8).setPhase 2
  | 7 => (((d.setBankState d.inForce 2).runBank d.inactive).setUpd 8).setPhase 2
  | _ => d

/-- The outcome KEEP (R525). -/
def Dev.keep (d : Dev) : Dev := if d.updState = 6 then (d.setBankState d.inForce 4).setUpd 7 else d

/-- The originator judges the results: KEEP when all are 0; ABORT at the first that is not; the reply when every device has
reverted (R525). -/
def Dev.actSettle (d : Dev) (a : Activation) : Dev :=
  let rs := a.members.map ActMember.result
  if rs.all (fun r => decide (r = some 0)) && !a.aborted && decide (a.members ≠ []) then
    (((d.tellAll (d.others a) 0x55 [wd a.token, 0x4000]).keep).actFinish a stOK []).setAct none
  else
    let bad := rs.any (fun r => decide (r ≠ none ∧ r ≠ some 0))
    let (a, d) := if bad && !a.aborted then
        ({ a with aborted := true }, (d.tellAll (d.others a) 0x54 [wd a.token]).startRevert)
      else (a, d)
    if a.aborted && a.members.all (fun m => m.reverted) then
      let fails := a.members.filterMap (fun m => match m.result with
        | some r => if r = 0 then none else some (m.id, r)
        | none => none)
      (d.actFinish a stFaulted fails).setAct none
    else d.setAct (some a)

/-- A device reports its result to the originator, which may be itself (R525). -/
def Dev.report (d : Dev) (r : Nat) : Dev :=
  let d := d.setFld Reg.UPD_RESULT 0 16 r
  match d.upd.act with
  | some a =>
    (match a.origin with
      | some o => d.tell o 0x55 [wd a.token, wd r]
      | none => d.actSettle { a with members := a.members.map (fun m => if m.id = d.selfId then m.take r else m) })
  | none => d

/-! ## Arming (R522, R525, R526) -/

/-- The image set of the inactive bank. -/
def Dev.imageSet (d : Dev) : Nat := Word.fld (d.bank d.inactive).release 0 16

/-- Why a device cannot be READY: a code of R526, `none` where it can. -/
def Dev.actRefuse (d : Dev) (set : Option Nat) (room fits : Bool) : Option Nat :=
  if d.lcState = 5 then some 3
  else if d.updState ≠ 0 ∨ (set.isSome ∧ d.cmd.cmds.any (fun c => stepwise c.opcode && decide (c.phase = .started))) then some 2
  else if (d.bank d.inactive).state ≠ 2 ∨ (match set with
      | some n => decide (n ≠ d.imageSet)
      | none => false) = true then some 1
  else if !room then some 4
  else if !fits then some 6
  else none

/-- The firmware's command waits no more for its strobe: COMMIT has been sent (R525, R136). -/
def Dev.actCommit (d : Dev) (a : Activation) : Dev :=
  let d := match a.cmd with
    | some (m, t, g) => d.setCmd m t g (fun c => { c with strobed := true })
    | none => d
  let t := a.at_.getD 0
  ((d.tellAll (d.others a) 0x53 [wd a.token, hi32 t, lo32 t]).setUpd 4).setAct (some { a with committed := true })

/-- An activation ends before its instant: the device is IDLE. -/
def Dev.disarm (d : Dev) : Dev := (d.setUpd 0).setAct none

/-- Device IDs of UPDATE_SCHEDULE: two per word, the first in the low half. -/
def actMembers (c : Cmd) : List Nat :=
  (List.range (c.pf 4 0 10)).map (fun i => c.pf (5 + i / 2) (16 * (i % 2)) 9)

/-- What makes UPDATE_SCHEDULE bad (R522). -/
def updateScheduleBad (c : Cmd) (d : Dev) : Bool :=
  let n := c.pf 4 0 10
  let e := 64 * c.pf 1 6 6 + c.pf 1 0 6
  let w1 := d.reg (Reg.GAU_ACTIVE (4 * e + 1))
  decide (c.pf 0 8 23 ≠ 0 ∨ c.pf 4 10 22 ≠ 0 ∨ 511 < n) ||
  (c.params.drop 5).any (fun w => decide (w &&& ~~~0x01FF01FF#32 ≠ 0)) ||
  (actMembers c).any (fun i => !d.members.contains i || decide (i = d.selfId)) || decide (¬ (actMembers c).Nodup) ||
  (if c.pf 0 31 1 = 1 then
    decide (n ≠ 0 ∨ c.p 3 = 0 ∨ c.pf 1 12 20 ≠ 0 ∨ c.p 2 ≠ 0 ∨ Word.fld w1 24 4 ≠ 8 ∨ d.reg (Reg.GAU_ACTIVE (4 * e + 3)) ≠ c.p 3)
   else false)

/-- An activation prepared by its originator: armed at once alone, else PREPARE goes to every member (R525). -/
def Dev.schedule (d : Dev) (a : Activation) : Dev :=
  let self : ActMember := ⟨d.selfId, true, none, false⟩
  let ids := a.members.map ActMember.id
  let d := (d.setUpd 3).setN Reg.UPD_TOKEN a.token
  let a' := { a with members := self :: a.members }
  if a.members = [] then d.actCommit a'
  else (d.tellAll ids 0x50 [wd a.token, wd d.imageSet]).setAct (some a')

/-- 0x0A03 (R522, R525): a device that cannot be READY itself, or a member out of reach, is listed with its reason. -/
def runUpdateSchedule (room fits : Bool) (c : Cmd) (d : Dev) : Dev × Option Res :=
  let (pick, d) := d.freeNat
  let token := if c.p 3 = 0 then 1 + pick % (2 ^ 32 - 1) else (c.p 3).toNat
  if updateScheduleBad c d then (d, some (Res.st stBadParam))
  else if d.updState ≠ 0 then (d, some (Res.st stBusy))
  else match d.actRefuse none room fits with
    | some r => (d, some ⟨stBadParam, actReply token [(d.selfId, r)], false⟩)
    | none =>
      let ids := actMembers c
      let lost := ids.filter (fun i => !d.reachable i)
      if !lost.isEmpty then
        (d.tellAll ids 0x54 [wd token], some ⟨stBadParam, actReply token (lost.map (fun i => (i, 5))), false⟩)
      else
        let t := if c.pf 0 31 1 = 1 then none else some (cat64 (c.p 1) (c.p 2))
        (d.schedule ⟨token, none, some (c.master, c.tag, c.gen), t, ids.map (fun i => ⟨i, false, none, false⟩), false, false⟩, none)
/-- `UPDATE_SCHEDULE`. -/
def execUpdateSchedule (m : Fin 16) (tag : Fin 4096) (gen : Fin 16) (room fits : Bool) (s : State) : Host.Outcome State Fault Refusal :=
  opStep 0x0A03 (runUpdateSchedule room fits) m.val tag.val gen.val s

/-- `ACT_PREPARE` (R525, R526): READY, or REFUSE with its reason. -/
def execActPrepare (room fits : Bool) (s : State) : Host.Outcome State Fault Refusal :=
  msgStep 0x50 (fun m d =>
    match d.actRefuse (some (m.f 1 0 16)) room fits with
    | some r => d.tell m.src 0x52 [m.w 0, wd r]
    | none =>
      let d := (d.setUpd 3).setReg Reg.UPD_TOKEN (m.w 0)
      (d.setAct (some ⟨(m.w 0).toNat, some m.src, none, none, [], false, false⟩)).tell m.src 0x51 [m.w 0]) s

/-- The activation of a token that this device originates. -/
def Dev.ownAct (d : Dev) (token : Nat) : Option Activation :=
  d.upd.act.filter (fun a => decide (a.token = token ∧ a.origin = none))

/-- The activation of a token that another device originates. -/
def Dev.memberAct (d : Dev) (src token : Nat) : Option Activation :=
  d.upd.act.filter (fun a => decide (a.token = token ∧ a.origin = some src))

/-- `ACT_READY` (R525): when every member is READY, COMMIT is sent. -/
def execActReady (s : State) : Host.Outcome State Fault Refusal :=
  msgStep 0x51 (fun m d =>
    match d.ownAct (m.w 0).toNat with
    | some a =>
      if a.committed then d
      else
        let a := { a with members := a.members.map (fun x => if x.id = m.src then { x with ready := true } else x) }
        if a.members.all (fun x => x.ready) then d.actCommit a else d.setAct (some a)
    | none => d) s

/-- `ACT_REFUSE` (R525): ABORT goes to every member, the command replies BAD_PARAM with the refuser; nothing applies. -/
def execActRefuse (s : State) : Host.Outcome State Fault Refusal :=
  msgStep 0x52 (fun m d =>
    match d.ownAct (m.w 0).toNat with
    | some a =>
      if a.committed then d
      else ((d.tellAll (d.others a) 0x54 [m.w 0]).actFinish a stBadParam [(m.src, m.f 1 0 16)]).disarm
    | none => d) s

/-! ## The activation (R524) -/

/-- The activation instant: no new command starts from here. -/
def Dev.actBegin (d : Dev) : Dev := ((d.setUpd 5).setPhase 0).set64 Reg.UPD_ACT_TIME_LO d.time

/-- An activation that begins after its time (R525). -/
def Dev.actLate (d : Dev) : Dev := (d.sqSet Reg.UPD_EVT_STATUS [3]).actBegin

/-- `ACT_COMMIT` (R525): armed for T, or begun on receipt with ACT_LATE. -/
def execActCommit (s : State) : Host.Outcome State Fault Refusal :=
  msgStep 0x53 (fun m d =>
    let t := cat64 (m.w 2) (m.w 1)
    match d.memberAct m.src (m.w 0).toNat with
    | some a =>
      if d.updState ≠ 3 then d
      else
        let d := (d.setUpd 4).setAct (some { a with at_ := some t, committed := true })
        if t < d.time then d.actLate else d
    | none => d) s

/-- `ACT_ABORT` (R525): a device that has not activated is disarmed; one that has reverts. -/
def execActAbort (s : State) : Host.Outcome State Fault Refusal :=
  msgStep 0x54 (fun m d =>
    match d.memberAct m.src (m.w 0).toNat with
    | some _ => if d.updState = 3 ∨ d.updState = 4 then d.disarm else d.startRevert
    | none => d) s

/-- `ACT_RESULT` (R525): a member's result at the originator, KEEP at a member. -/
def execActResult (s : State) : Host.Outcome State Fault Refusal :=
  msgStep 0x55 (fun m d =>
    let r := m.f 1 0 16
    match d.ownAct (m.w 0).toNat, d.memberAct m.src (m.w 0).toNat with
    | some a, _ => d.actSettle { a with members := a.members.map (fun x => if x.id = m.src then x.take r else x) }
    | none, some _ => if r = 0x4000 then d.keep else d
    | none, none => d) s

/-- `ACT_READY_EXPIRY` (R523): a member READY for 10 s without COMMIT is released. -/
def execActReadyExpiry (s : State) : Host.Outcome State Fault Refusal :=
  act (fun d => match d.upd.act with
    | some a => if d.updState = 3 ∧ a.origin.isSome = true then d.disarm else d
    | none => d) s

/-- `ACTIVATION_START` (R524): the command says that PTP time reaches T. -/
def execActivationStart (s : State) : Host.Outcome State Fault Refusal :=
  act (fun d => match d.upd.act with
    | some a => if d.updState = 4 ∧ a.at_.isSome = true then d.actBegin else d
    | none => d) s

/-- `ACTIVATION_DRAIN_EXPIRY` (R524): 20 ms after the instant a started command still without its strobe replies BUSY; the cores
restart. -/
def execActivationDrainExpiry (s : State) : Host.Outcome State Fault Refusal :=
  act (fun d =>
    if d.updState = 5 ∧ d.upd.phase = 0 then
      let late := d.cmd.cmds.filter (fun c => decide (c.phase = .started) && !c.strobed)
      (late.foldl (fun (d : Dev) c => d.finish c.master c.tag c.gen (Res.st stBusy)) d).setPhase 1
    else d) s

/-- `ACTIVATION_CHECK_DONE` (R524): the check of a boot on the inactive bank; one that fails marks the bank BAD, and the cores restart
on the bank in force. -/
def execActivationCheckDone (s : State) : Host.Outcome State Fault Refusal :=
  act (fun d =>
    if d.updState = 5 ∧ d.upd.phase = 1 then
      let (r, is) := d.bankCheck d.inactive
      let d := ({ d with upd := { d.upd with check := is } } : Dev).setFld Reg.UPD_RESULT 0 16 r
      if r = 0 then { d.setPhase 2 with upd := { d.upd with phase := 2, copies := d.newFormats } }
      else ((d.setBankState d.inactive 6).setUpd 8).setPhase 3
    else d) s

/-- `ACTIVATION_FPC_TIMEOUT` (R524): a thread that has not exited within FPC_MS is reset under R328. -/
def execActivationFpcTimeout (t : Fin 512) (s : State) : Host.Outcome State Fault Refusal :=
  act (fun d => if d.updHolds && decide (d.upd.phase = 2) then d.thrReset t.val else d) s

/-- Registers and memory words that the images and the placement records set, as basic control (R10, R329). -/
def Dev.loadImages (d : Dev) (place : List (Nat × Word)) : Dev :=
  place.foldl (fun (d : Dev) w => (d.force w.1 w.2).markExpert w.1 false) d

/-- `ACTIVATION_COMPLETE` (R524): the images are loaded and the firmware serves commands again. A device that activated is TRIAL and
sends 0; one that reverted is IDLE and sends bit 15 with the reason. -/
def execActivationComplete (place : List (Nat × Word)) (s : State) : Host.Outcome State Fault Refusal :=
  act (fun d =>
    if d.updState = 5 ∧ d.upd.phase = 2 then
      let b := d.inactive
      let d := (((d.loadImages place).setBankState b 3).runBank b).setUpd 6
      (d.sqSet Reg.UPD_EVT_STATUS [1]).report 0
    else if d.updState = 8 then
      let d := if d.upd.phase = 2 then d.loadImages place else d
      let bad := decide ((d.bank d.inactive).state = 6)
      let d := ({ d with upd := { d.upd with copies := false, phase := 0 } } : Dev).setUpd 0
      let d := (d.sqSet Reg.UPD_EVT_STATUS [2]).report (0x8000 + (if bad then d.fld Reg.UPD_RESULT 0 15 else 0))
      (match d.upd.act with
        | some a => if a.origin.isSome then d.setAct none else d
        | none => d)
    else d) s

/-- UPDATE_SCHEDULE's limit has expired (R527). -/
def Dev.actTimeout (d : Dev) (c : Cmd) : Dev :=
  match d.upd.act with
  | none => d.finish c.master c.tag c.gen (Res.st stTimeout)
  | some a =>
    if a.cmd ≠ some (c.master, c.tag, c.gen) then d.finish c.master c.tag c.gen (Res.st stTimeout)
    else if !a.committed then ((d.tellAll (d.others a) 0x54 [wd a.token]).actFinish a stTimeout []).disarm
    else
      let late := a.members.filter (fun m => m.result.isNone || (a.aborted && !m.reverted))
      (d.actFinish a stSplit (late.map (fun m => (m.id, m.result.getD 0xFFFF)))).setAct (some { a with cmd := none, members := [] })

/-! ## Confirmation, status (R528, R533) -/

/-- What makes UPDATE_CONFIRM bad: reserved bits; a state that is not TRIAL or KEPT; another token. -/
def updateConfirmBad (c : Cmd) (d : Dev) : Bool :=
  decide (c.pf 1 1 31 ≠ 0 ∨ (d.updState ≠ 6 ∧ d.updState ≠ 7) ∨ c.p 0 ≠ d.reg Reg.UPD_TOKEN)

/-- 0x0A04 (R528). -/
def runUpdateConfirm (c : Cmd) (d : Dev) : Dev × Option Res :=
  if updateConfirmBad c d then (d, some (Res.st stBadParam))
  else if c.pf 1 0 1 = 1 then (d.startRevert, some (Res.ok []))
  else
    let b := d.inForce
    let d := d.setBankState b 5
    let d := if (d.bank b).shipped then d else d.setN Reg.UPD_SECVER (Nat.max (d.regN Reg.UPD_SECVER) (d.bank b).secver)
    let d := (d.setBit Reg.LCS_VIOLATION 2 false).setUpd 0
    ({ d with upd := { d.upd with copies := false } }, some (Res.ok []))
/-- `UPDATE_CONFIRM`. -/
def execUpdateConfirm (m : Fin 16) (tag : Fin 4096) (gen : Fin 16) (s : State) : Host.Outcome State Fault Refusal :=
  opStep 0x0A04 runUpdateConfirm m.val tag.val gen.val s

/-- RELEASE and SECVER of a bank: those in force for a bank as shipped, 0 for an empty one. -/
def Dev.bankVersions (d : Dev) (b : Nat) : List Word :=
  let k := d.bank b
  if k.state = 0 then [0, 0]
  else if k.shipped then [d.reg Reg.UPD_RELEASE, d.reg Reg.UPD_SECVER]
  else [k.release, wd k.secver]

/-- 0x0A05 (R10, R533): EXPERT_STATE where expert control changed the flow processors since the load. -/
def runUpdateStatus (_ : Cmd) (d : Dev) : Dev × Option Res :=
  let ws := [d.reg Reg.UPD_STATE, d.reg Reg.UPD_TOKEN, d.reg Reg.UPD_RESULT, d.reg Reg.UPD_BANKS] ++ d.bankVersions 0 ++ d.bankVersions 1 ++
    d.upd.check.map (fun i => wd (i.1 * 2 ^ 24 + i.2))
  (d, some { Res.ok ws with expert := d.rf.expert.any (fun k => decide (groupOf k = 11 ∨ (0x40000000 ≤ k ∧ k < 0x52000000))) })
/-- `UPDATE_STATUS`. -/
def execUpdateStatus (m : Fin 16) (tag : Fin 4096) (gen : Fin 16) (s : State) : Host.Outcome State Fault Refusal :=
  opStep 0x0A05 runUpdateStatus m.val tag.val gen.val s

end Sys2Proof.Machine
end

