-- ==== Sys2Proof/Machine/Spdm.lean ====
section
/-! DEFINITION. Identity, measurements, the SPDM responder and the PLDM firmware device on the sideband (R516 to R518, R531). The
layouts of SPDM 1.3 and PLDM messages are PRESUMED from DSP0274 and DSP0267. -/

namespace Sys2Proof.Machine

/-! ## Measurements (R518) -/

/-- Bytes of every image of a type in a bank's manifest, in its order; what the maker shipped is free. -/
def Bank.typeBytes (k : Bank) (t : Nat) : List Byte :=
  if k.shipped then Config.freeBytes (2 ^ 81 + t) 64
  else (k.images.filter (fun i => decide (i.typ = t))).flatMap (fun i => k.bytes i.offset i.length)

/-- Bytes of a bank's manifest. -/
def Bank.manifestBytes (k : Bank) : List Byte :=
  if k.shipped then Config.freeBytes (2 ^ 81) 64 else bytesOf (k.words 0 (8 + 16 * k.count + 48))

/-- What a measurement index measures. -/
def Dev.measured (d : Dev) (i : Nat) : List Byte :=
  let k := d.bank d.inForce
  match i with
  | 1 => Config.bootRom
  | 2 => k.typeBytes 1
  | 3 => k.manifestBytes
  | 4 => k.typeBytes 2
  | 5 => d.upd.board
  | 6 => bytesOf [d.reg Reg.LCS_STATE, d.reg Reg.LCS_VIOLATION]
  | _ => bytesOf [d.reg Reg.UPD_SECVER, d.reg Reg.UPD_RELEASE]

/-- A measurement block: a SHA-384 digest. -/
def Dev.measure (d : Dev) (i : Nat) : List Byte := Config.sha384 (d.measured i)

/-- What makes ATTEST_MEASURE bad: reserved bits of its mask. -/
def attestBad (c : Cmd) (_ : Dev) : Bool := decide (c.pf 8 0 1 ≠ 0 ∨ c.pf 8 8 24 ≠ 0)

/-- 0x0A06: blocks, identity number, a signature over the nonce and the reply before it. -/
def runAttestMeasure (c : Cmd) (d : Dev) : Dev × Option Res :=
  let is := [1, 2, 3, 4, 5, 6, 7].filter (fun i => (c.p 8).getLsbD i)
  let body := [wd is.length] ++ is.flatMap (fun i => wd i :: wordsOf 12 (d.measure i)) ++ [d.reg Reg.LCS_SERIAL_LO, d.reg Reg.LCS_SERIAL_HI]
  let sig := Config.ecdsaSign (Config.sha384 (bytesOf (c.params.take 8) ++ bytesOf body))
  (d, some (if attestBad c d then Res.st stBadParam else Res.ok (body ++ wordsOf 24 sig)))
/-- `ATTEST_MEASURE` (R518). -/
def execAttestMeasure (m : Fin 16) (tag : Fin 4096) (gen : Fin 16) (s : State) : Host.Outcome State Fault Refusal :=
  opStep 0x0A06 runAttestMeasure m.val tag.val gen.val s

/-! ## The certificate chain (R516) -/

/-- Bytes of a DER object that starts at an offset: 0 where there is none. -/
def derLen (bs : List Byte) (o : Nat) : Nat :=
  if byteAt bs o ≠ 0x30 then 0
  else
    let n := byteAt bs (o + 1)
    if n < 128 then 2 + n else 2 + (n - 128) + beAt bs (o + 2) (Nat.min 4 (n - 128))

/-- LCS_CERT as bytes: three certificates, root first. -/
def Dev.certStore (d : Dev) : List Byte := bytesOf (d.regs (Reg.LCS_CERT 0) 0x2000)

/-- The chain of slot 0: length, root digest, certificates. -/
def Dev.certChain (d : Dev) : List Byte :=
  let bs := d.certStore
  let a := derLen bs 0
  let b := derLen bs a
  let c := derLen bs (a + b)
  let n := Nat.min 0x8000 (a + b + c)
  bytesOf [wd ((52 + n) % 65536)] ++ Config.sha384 (bs.take a) ++ bs.take n

/-! ## The SPDM responder (R517) -/

/-- Bytes of numbers. -/
def octets (ns : List Nat) : List Byte := ns.map (BitVec.ofNat 8)

/-- A number as `n` bytes, least significant first. -/
def leBytes : Nat → Nat → List Byte
  | 0, _ => []
  | n + 1, v => BitVec.ofNat 8 v :: leBytes n (v / 256)

/-- A little-endian field. -/
def leAt (bs : List Byte) (o n : Nat) : Nat := beNat (slice bs o n).reverse

/-- An ERROR response: 1 invalid request, 4 unexpected request, 0x41 version mismatch. -/
def spdmError (code : Nat) : List Byte := octets [0x13, 0x7F, code, 0]

/-- A response leaves on the sideband, MCTP message type 5. -/
def Dev.spdmSend (d : Dev) (bs : List Byte) : Dev := d.emit (.sideband 5 bs)

/-- A signature in the manner of SPDM 1.3: the combined prefix with its context, then the hash of the transcript. -/
def spdmSign (context : String) (log : List Byte) : List Byte :=
  let chars (s : String) : List Byte := octets (s.toList.map Char.toNat)
  let mark := chars "dmtf-spdm-v1.3.*"
  let ctx := chars context
  Config.ecdsaSign (Config.sha384
    (mark ++ mark ++ mark ++ mark ++ List.replicate (36 - ctx.length) 0#8 ++ ctx ++ Config.sha384 log))

/-- A request reaches the responder: its code, the negotiation it needs; any but a measurement request ends the log of
measurements. -/
def spdmStep (code need : Nat) (req : List Byte) (f : Dev → Dev) (s : State) : Host.Outcome State Fault Refusal :=
  act (fun d =>
    let d := if code = 0xE0 then d else { d with lcs := { d.lcs with measLog := [] } }
    if byteAt req 1 ≠ code then d.spdmSend (spdmError 1)
    else if byteAt req 0 ≠ (if code = 0x84 then 0x10 else 0x13) then d.spdmSend (spdmError 0x41)
    else if d.lcs.spdm < need ∨ (need = 1 ∧ d.lcs.spdm ≠ 1) ∨ (need = 2 ∧ d.lcs.spdm ≠ 2) then d.spdmSend (spdmError 4)
    else f d) s

/-- `GET_VERSION`: SPDM 1.3; the negotiation starts afresh. -/
def execGetVersion (req : List Byte) (s : State) : Host.Outcome State Fault Refusal :=
  spdmStep 0x84 0 req (fun d =>
    let rsp := octets [0x10, 0x04, 0, 0, 0, 1, 0x00, 0x13]
    ({ d with lcs := { d.lcs with spdm := 1, vca := req ++ rsp, certLog := [], measLog := [] } } : Dev).spdmSend rsp) s

/-- `GET_CAPABILITIES`: CERT_CAP, CHAL_CAP, MEAS_CAP with signature, MEAS_FRESH_CAP; timing exponent and sizes are free. -/
def execGetCapabilities (req : List Byte) (s : State) : Host.Outcome State Fault Refusal :=
  spdmStep 0xE1 1 req (fun d =>
    let (ct, d) := d.freeBytes 1
    let (sizes, d) := d.freeBytes 8
    let rsp := octets [0x13, 0x61, 0, 0, 0] ++ ct ++ octets [0, 0, 0x36, 0, 0, 0] ++ sizes
    ({ d with lcs := { d.lcs with spdm := 2, vca := d.lcs.vca ++ req ++ rsp } } : Dev).spdmSend rsp) s

/-- `NEGOTIATE_ALGORITHMS`: ECDSA P-384, SHA-384, DMTF measurements, each where the requester offers it. -/
def execNegotiateAlgorithms (req : List Byte) (s : State) : Host.Outcome State Fault Refusal :=
  spdmStep 0xE3 2 req (fun d =>
    let meas := byteAt req 6 % 2
    let opaque1 := byteAt req 7 &&& 2
    let asym := leAt req 8 4 &&& 0x80
    let hash := leAt req 12 4 &&& 2
    if asym = 0 ∨ hash = 0 then d.spdmSend (spdmError 1)
    else
      let rsp := octets [0x13, 0x63, 0, 0, 36, 0, meas, opaque1] ++ leBytes 4 (if meas = 1 then 4 else 0) ++ leBytes 4 asym ++
        leBytes 4 hash ++ List.replicate 16 0#8
      ({ d with lcs := { d.lcs with spdm := 3, vca := d.lcs.vca ++ req ++ rsp } } : Dev).spdmSend rsp) s

/-- A response that the log of digests and certificates keeps. -/
def Dev.certSend (d : Dev) (req rsp : List Byte) : Dev :=
  ({ d with lcs := { d.lcs with certLog := d.lcs.certLog ++ req ++ rsp } } : Dev).spdmSend rsp

/-- `GET_DIGESTS`: the digest of slot 0. -/
def execGetDigests (req : List Byte) (s : State) : Host.Outcome State Fault Refusal :=
  spdmStep 0x81 3 req (fun d => d.certSend req (octets [0x13, 0x01, 1, 1] ++ Config.sha384 d.certChain)) s

/-- `GET_CERTIFICATE`: a part of the chain of slot 0. -/
def execGetCertificate (req : List Byte) (s : State) : Host.Outcome State Fault Refusal :=
  spdmStep 0x82 3 req (fun d =>
    let chain := d.certChain
    let size := byteAt req 3 % 2 = 1
    let off := if size then 0 else leAt req 4 2
    let n := if size then 0 else Nat.min (leAt req 6 2) (chain.length - off)
    if byteAt req 2 % 16 ≠ 0 ∨ chain.length < off then d.spdmSend (spdmError 1)
    else d.certSend req (octets [0x13, 0x02, 0, 0] ++ leBytes 2 n ++ leBytes 2 (chain.length - off - n) ++ slice chain off n)) s

/-- The summary of measurements of a CHALLENGE: none; the boot ROM alone; all. -/
def Dev.measSummary (d : Dev) (typ : Nat) : List Byte :=
  let block (i : Nat) : List Byte := octets [i, 1, 51, 0, (if i = 1 then 0 else if i ≤ 4 then 1 else 3)] ++ leBytes 2 48 ++ d.measure i
  if typ = 0 then [] else Config.sha384 ((if typ = 1 then [1] else [1, 2, 3, 4, 5, 6, 7]).flatMap block)

/-- `CHALLENGE`: signed with the identity key; the logs of this exchange end. -/
def execChallenge (req : List Byte) (s : State) : Host.Outcome State Fault Refusal :=
  spdmStep 0x83 3 req (fun d =>
    let typ := byteAt req 3
    if byteAt req 2 ≠ 0 ∨ (typ ≠ 0 ∧ typ ≠ 1 ∧ typ ≠ 0xFF) ∨ req.length ≠ 44 then d.spdmSend (spdmError 1)
    else
      let (nonce, d) := d.freeBytes 32
      let body := octets [0x13, 0x03, 0, 1] ++ Config.sha384 d.certChain ++ nonce ++ d.measSummary typ ++ [0#8, 0#8] ++ slice req 36 8
      let sig := spdmSign "responder-challenge_auth signing" (d.lcs.vca ++ d.lcs.certLog ++ req ++ body)
      ({ d with lcs := { d.lcs with certLog := [] } } : Dev).spdmSend (body ++ sig)) s

/-- `GET_MEASUREMENTS` (R518): the number of blocks, one block, or all, signed where asked. -/
def execGetMeasurements (req : List Byte) (s : State) : Host.Outcome State Fault Refusal :=
  spdmStep 0xE0 3 req (fun d =>
    let signed := byteAt req 2 % 2 = 1
    let op := byteAt req 3
    let is := if op = 0 then [] else if op = 0xFF then [1, 2, 3, 4, 5, 6, 7] else [op]
    let block (i : Nat) : List Byte := octets [i, 1, 51, 0, (if i = 1 then 0 else if i ≤ 4 then 1 else 3)] ++ leBytes 2 48 ++ d.measure i
    let record := is.flatMap block
    let ctx := slice req (if signed then 37 else 4) 8
    if (7 < op ∧ op ≠ 0xFF) ∨ (signed ∧ byteAt req 36 % 16 ≠ 0) ∨ ctx.length ≠ 8 then d.spdmSend (spdmError 1)
    else
      let (nonce, d) := d.freeBytes 32
      let body := octets [0x13, 0x60, if op = 0 then 7 else 0, 0, is.length] ++ leBytes 3 record.length ++ record ++ nonce ++ [0#8, 0#8] ++ ctx
      let log := d.lcs.measLog ++ req ++ body
      if signed then
        ({ d with lcs := { d.lcs with measLog := [] } } : Dev).spdmSend (body ++ spdmSign "responder-measurements signing" (d.lcs.vca ++ log))
      else ({ d with lcs := { d.lcs with measLog := log } } : Dev).spdmSend body) s

/-! ## The PLDM firmware device (R531) -/

/-- The ROM has stopped after stage 1 and serves PLDM: recovery, or BOOT_HOLD. -/
def Dev.recovering (d : Dev) : Bool := d.booting && d.stopped && decide (d.lcState ≠ 5)

/-- A PLDM response: command, completion code, data. -/
def Dev.pldmSend (d : Dev) (cmd code : Nat) (data : List Byte) : Dev :=
  d.emit (.sideband 1 (octets [0, 5, cmd, code] ++ data))

/-- A PLDM request, to the ROM in recovery or to the running firmware. -/
def pldmStep (rom run : Dev → Dev) (s : State) : Host.Outcome State Fault Refusal :=
  .next (s.onDev (fun d => if d.recovering then rom d else Dev.live run d))

/-- `PLDM_REQUEST_UPDATE`: an update opens, as a first UPDATE_STAGE; ALREADY_IN_UPDATE_MODE where one is open. -/
def execPldmRequestUpdate (_req : List Byte) (s : State) : Host.Outcome State Fault Refusal :=
  let open_ (d : Dev) : Dev := ({ d with upd := { d.upd with pldm := true } } : Dev).pldmSend 0x10 0 [0#8, 0#8, 0#8]
  pldmStep (fun d => if d.upd.pldm then d.pldmSend 0x10 0x81 [] else open_ (d.setBank 0 ⟨1, [], []⟩))
    (fun d => if d.upd.pldm then d.pldmSend 0x10 0x81 []
      else if d.updState ≠ 0 then d.pldmSend 0x10 0x8A [] else open_ d) s

/-- `PLDM_TRANSFER`: package bytes at their offset in the bank: the manifest, then the images. -/
def execPldmTransfer (offset : Nat) (data : List Word) (last : Bool) (s : State) : Host.Outcome State Fault Refusal :=
  let bad := decide (offset % 4 ≠ 0 ∨ bankSize < offset + 4 * data.length)
  pldmStep
    (fun d =>
      if !d.upd.pldm then d.pldmSend 0x15 0x80 []
      else if bad then d.pldmSend 0x15 0x82 []
      else ((d.setBank 0 ((d.bank 0).write offset data)).emit (.flash 0 offset data)).pldmSend (if last then 0x16 else 0x15) 0 [])
    (fun d =>
      if !d.upd.pldm then d.pldmSend 0x15 0x80 []
      else if bad then d.pldmSend 0x15 0x82 []
      else
        let man := 4 * (8 + 16 * (if offset = 0 then Word.fld (wordAt data 1) 0 16 else (d.bank d.inactive).count) + 48)
        let (st, d) := d.stageChunk (decide (offset < man)) (decide (man ≤ offset + 4 * data.length)) offset data
        d.pldmSend (if last then 0x16 else 0x15) (if st = stOK then 0 else if st = stBusy then 0x89 else 0x82) []) s

/-- The ROM checks bank 0 as at boot and boots it as KEPT; a bank that fails is BAD. -/
def Dev.romActivate (d : Dev) : Dev :=
  let r := (d.bankCheck 0).1
  let d := { d with upd := { d.upd with pldm := false } }
  if r ≠ 0 then (d.refuseBank 0 r).pldmSend 0x1A 0x8C []
  else
    let d := d.setBankState 0 4
    let d := if d.inForce = 0 then d else d.changeBank 0
    (({ d with upd := { d.upd with recovery := false } } : Dev).setFld Reg.GLB_BOOT 28 4 2).pldmSend 0x1A 0 [0#8, 0#8]

/-- `PLDM_ACTIVATE_FIRMWARE`: as UPDATE_SCHEDULE for this device alone at the PTP time of receipt plus 100 ms. -/
def execPldmActivateFirmware (room fits : Bool) (s : State) : Host.Outcome State Fault Refusal :=
  pldmStep (fun d => if d.upd.pldm then d.romActivate else d.pldmSend 0x1A 0x80 [])
    (fun d =>
      if !d.upd.pldm then d.pldmSend 0x1A 0x80 []
      else match d.actRefuse none room fits with
        | some _ => d.pldmSend 0x1A 0x8C []
        | none =>
          let (pick, d) := d.freeNat
          let token := 1 + pick % (2 ^ 32 - 1)
          let d : Dev := { d with upd := { d.upd with pldm := false } }
          (d.schedule ⟨token, none, none, some (d.time + 100000000), [], false, false⟩).pldmSend 0x1A 0 [0#8, 0#8]) s

end Sys2Proof.Machine
end

