-- ==== Sys2Proof/Machine/Ptp.lean ====
section
/-! DEFINITION. PTP time that steps, PPS_IN, the ACTIVATE event (R52, R105, R522, R524). -/

namespace Sys2Proof.Machine

/-- PTP time takes a new value. An armed commit or activation whose time it passes begins at once, late; angles do not
follow (R52, R105, R525). -/
def Dev.setTime (d : Dev) (t : BitVec 64) : Dev :=
  let d := { d with ptp := t }
  let d := match d.glb.armed with
    | some (at_, v) => if at_ < d.time then d.commitAt v true else d
    | none => d
  match d.upd.act with
  | some a =>
    (match a.at_ with
      | some at_ => if d.updState = 4 ∧ at_ < d.time then d.actLate else d
      | none => d)
  | none => d

/-- `PTP_TIME_STEP` (R52): the servo steps PTP time. -/
def execPtpTimeStep (t : BitVec 64) (s : State) : Host.Outcome State Fault Refusal := act (fun d => d.setTime t) s

/-- The second of TAI nearest to a time, in ns. -/
def nearestSecond (t : Nat) : Nat := (t + 500000000) / 1000000000 * 1000000000

/-- `PPS_IN_EDGE` (R52): where PPS_SRC is 1, the edge marks the second, and PPS_OUT rises with it. -/
def execPpsInEdge (s : State) : Host.Outcome State Fault Refusal :=
  act (fun d =>
    if d.bit Reg.GAU_PTP_CTRL 0 then
      let d := d.setTime (BitVec.ofNat 64 (nearestSecond d.time))
      { d with gau := { d.gau with ppsOut := true } }
    else d) s

/-- The first firing of an action, whatever its target, taken from the list. -/
def Dev.takeAction (d : Dev) (a : Nat) : Option (Firing × Dev) :=
  match d.gau.firings.find? (fun f => decide (f.action = a)) with
  | some f => d.takeFiring a f.target
  | none => none

/-- `ANGLE_ACTIVATE` (R522, R524): ARG names the armed token, else STRAY_ACTIVATE. -/
def execAngleActivate (s : State) : Host.Outcome State Fault Refusal :=
  act (fun d => match d.takeAction 8 with
    | none => d
    | some (f, d) =>
      let armed := match d.upd.act with
        | some a => decide (d.updState = 4 ∧ a.at_ = none ∧ wd a.token = f.arg)
        | none => false
      if armed then d.actBegin else d.sqSet Reg.UPD_EVT_STATUS [4]) s

end Sys2Proof.Machine
end

