-- ==== Sys2Proof/Machine/Bus.lean ====
section
/-! DEFINITION. Register accesses by the masters: windows on selected objects, writes by access type, reads, slow-domain copies, the
MSI-X table (R5, R7, R14, R97 to R101, R110, R112, R149, R225, R334, R335, R393). -/

namespace Sys2Proof.Machine

/-! ## Windows on selected objects (R155, R225, R335, R393) -/

/-- The queue a master's RNG_QSELm names: kind and device number. -/
def Dev.selQueue (d : Dev) (m : Nat) : Nat × Nat := (d.fld (Reg.RNG_QSELm m) 31 1, d.fld (Reg.RNG_QSELm m) 0 17)

/-- The cluster and the data-memory page of a master's FPC_SELm. -/
def Dev.selCluster (d : Dev) (m : Nat) : Nat := d.fld (Reg.FPC_SELm m) 0 3
def Dev.selPage (d : Dev) (m : Nat) : Nat := d.fld (Reg.FPC_SELm m) 8 3

/-- The register a master's access at a BAR0 offset reaches; the number of no register where the window shows nothing there. -/
def Dev.target (d : Dev) (m off : Nat) : Nat :=
  let none_ := 2 ^ 50
  let at_ (b n : Nat) : Bool := decide (b ≤ off ∧ off < b + n)
  if 0x4000000 ≤ off then none_
  else if at_ (Reg.RNG_QCFGm 0) 16 then Reg.RNG_QCFG0 (d.selQueue m).1 (d.selQueue m).2 + (off - Reg.RNG_QCFGm 0)
  else if at_ (Reg.RNG_QSTATEm 0) 16 then Reg.RNG_QSTATE0 (d.selQueue m).1 (d.selQueue m).2 + (off - Reg.RNG_QSTATEm 0)
  else if at_ (Reg.SCH_NCFGm 0) 20 then Reg.SCH_NCFG0 (d.fld (Reg.SCH_NSELm m) 0 16) + (off - Reg.SCH_NCFGm 0)
  else if at_ (Reg.SCH_NSTATEm 0) 12 then Reg.SCH_NSTATE0 (d.fld (Reg.SCH_NSELm m) 0 16) + (off - Reg.SCH_NSTATEm 0)
  else if at_ (Reg.FPC_THRWIN 0) 0x1000 then Reg.FPC_THR_ENTRY (d.selCluster m) 0 + (off - Reg.FPC_THRWIN 0)
  else if at_ (Reg.FPC_CHWIN 0) 0x100 then none_
  else if at_ (Reg.FPC_CHWIN 0) 0x1000 then Reg.FPC_CHh_CFG (d.selCluster m) 0 + (off - Reg.FPC_CHWIN 0)
  else if at_ (Reg.FPC_IMEMWIN 0) 0x40000 then Reg.FPC_IMEM (d.selCluster m) 0 + (off - Reg.FPC_IMEMWIN 0)
  else if at_ (Reg.FPC_DMEMWIN 0) 0x40000 then Reg.FPC_DMEM (d.selCluster m) (d.selPage m * 0x10000) + (off - Reg.FPC_DMEMWIN 0)
  else off

/-! ## Writes (R97, R101, R110, R112) -/

/-- THROTTLE and TRIP held to the plan in force (R78). -/
def Dev.clampThermal (d : Dev) (v : Word) : Word :=
  let p := d.planCur
  let v := Word.setFld v 8 8 (Nat.min (Word.fld v 8 8) (planFld p 13 16 8))
  Word.setFld v 0 8 (Nat.min (Word.fld v 0 8) (planFld p 13 8 8))

/-- What a write to a queue's configuration keeps: CLASS of a CQ is fixed at its creation (R225). -/
def Dev.queueValue (d : Dev) (k : Nat) (v : Word) : Word :=
  match queueOf k with
  | some (1, q) => if k = Reg.RNG_QCFG2 1 q then Word.setFld v 28 2 (d.fld k 28 2) else v
  | _ => v

/-- A staged register that takes no write now: of a free queue number (R225). -/
def Dev.stIgnored (d : Dev) (k : Nat) : Bool :=
  match queueOf k with
  | some (cq, q) => !d.rng.qmap.any (fun p => decide (p.1 / (8192 * 1024) = cq ∧ p.2 = q))
  | none => false

/-- The hand-over window of a shadow set's channel is open: its shadow set is locked (R111). -/
def Dev.shadowLocked (d : Dev) : Shadow → Bool
  | .event c => d.chanPending c && d.nearWrap (d.fld (Reg.GAU_CHANc_CTRL c) 1 2)
  | .gates p => d.gatePending p && d.nearWrap (d.gateRef p)
  | .dma _ => false

/-- A shadow write that lands in the window is held, with SHADOW_LATE (R112). -/
def Dev.holdShadow (d : Dev) (s : Shadow) (k : Nat) (e : Staged) : Dev :=
  let d := { d with glb := { d.glb with held := d.glb.held ++ [(⟨k, e⟩ : Held)] } }
  match s with
  | .gates p => d.schEvt p 0
  | _ => d.sqSet Reg.GAU_EVT_STATUS [0]

/-- A write to an ST register: to staging, or at once in direct mode (R101, R110). -/
def Dev.stWrite (d : Dev) (m k : Nat) (v : Word) (expert : Bool) : Dev :=
  let v := d.queueValue k (if k = Reg.EBS_THERMAL_CTRL then d.clampThermal v else v)
  if d.stIgnored k then d
  else
    match shadowOf k with
    | some s =>
      if d.shadowLocked s then d.holdShadow s k ⟨v &&& maskOf k ||| (d.reg k &&& ~~~ maskOf k), expert, m⟩
      else
        let d := d.stage k v expert m
        let d := match s with
          | .event _ => d.dirtyEntry ((k - Reg.GAU_SHADOW 0) / 16)
          | _ => d
        if d.directMode (groupOf k) then d.directWrite k else d
    | none =>
      let d := d.stage k v expert m
      if d.directMode (groupOf k) then d.directWrite k else d

/-- The plain effect of a write to an RW register: the bits a write changes (R7, R97). -/
def Dev.rwPlain (d : Dev) (k : Nat) (v : Word) (expert : Bool) : Dev :=
  (d.setReg k (v &&& maskOf k ||| (d.reg k &&& ~~~ maskOf k))).markExpert k expert

/-- A thread register that acts when written (R328, R331). -/
def Dev.threadWrite (d : Dev) (c off : Nat) (v : Word) : Option Dev :=
  let t := 64 * c + off / 0x40
  if off % 0x40 = 0x1C then some (d.when (Word.bit v 0) (fun d => d.thrReset t))
  else if off % 0x40 = 0x20 then
    let d := d.when (Word.bit v 0) (fun d => d.thrHalt t)
    let d := d.when (Word.bit v 2) (fun d => d.thrRelease t)
    some (d.when (Word.bit v 1) (fun d => d.thrResume t))
  else none

/-- A write to a register that acts when written, where the register is one. -/
def Dev.actWrite (d : Dev) (m k : Nat) (v : Word) : Option Dev :=
  let nth (b s n : Nat) : Option Nat := if b ≤ k ∧ (k - b) % s = 0 ∧ (k - b) / s < n then some ((k - b) / s) else none
  if k = Reg.GLB_COMMIT then some (d.glbCommitWrite m v)
  else if k = Reg.GLB_DISCARD then some (d.discard v.toNat)
  else if k = Reg.GLB_DIRECT then some (d.glbDirectWrite m v)
  else if k = Reg.GLB_COMMIT_AT_MASK then some (d.commitAtMaskWrite v)
  else if k = Reg.GAU_SNAP_CTRL then some (d.when (Word.bit v 0) Dev.takeSnap)
  else if k = Reg.FLT_HALT_RESET then some (d.haltReset v)
  else if k = Reg.SLC_CORK then some (d.corkWrite v)
  else if k = Reg.CLS_ENT_CMD then
    (match Word.fld v 0 2 with
      | 1 => some d.clsEntRead
      | 2 => some d.clsEntWrite
      | 3 => some d.clsEntInvalidate
      | _ => none)
  else if k = Reg.FWD_TCMD then (if 1 ≤ Word.fld v 0 3 ∧ Word.fld v 0 3 ≤ 6 then some (d.tableOp (Word.fld v 0 3)) else none)
  else if k = Reg.TCM_CMD then
    (match Word.fld v 0 3 with
      | 1 => some d.tcmRead
      | 2 => some d.tcmWrite
      | 3 => some d.tcmInvalidate
      | _ => none)
  else if k = Reg.CRY_KEY_CMD then
    (match Word.fld v 24 2 with
      | 1 => some (d.keyLoad (Word.fld v 0 8))
      | 2 => some (d.keyErase (Word.fld v 0 8))
      | _ => none)
  else if k = Reg.STO_OBJ_CMD then (if 1 ≤ Word.fld v 0 3 ∧ Word.fld v 0 3 ≤ 4 then some (d.stoOperate v (Word.fld v 0 3)) else none)
  else if k = Reg.PBU_ENT_CMD then
    (match Word.fld v 0 2 with
      | 1 => some (d.entRead (Word.fld v 24 2) 1 Dev.reg)
      | 2 => some (d.entRead (Word.fld v 24 2) 2 Dev.staged)
      | 3 => some (d.entWrite m (Word.fld v 24 2))
      | _ => none)
  else if k / 0x100000 = 1 then
    match nth (Reg.MBX_INm 0) 0x20 16, nth (Reg.MBX_OUT_ACKm 0) 0x20 16 with
    | some i, _ => some (d.mbxIn i v)
    | none, some i => some (d.mbxAck i v)
    | none, none => none
  else if k / 0x100000 = 2 then
    match nth (Reg.CMD_PIm 0) 0x20 16, nth (Reg.CMD_RCIm 0) 0x20 16 with
    | some i, _ => some (d.piWrite i v.toNat)
    | none, some i => some (d.rciWrite i v.toNat)
    | none, none => none
  else match nth (Reg.PCE_IMS_DATAm 0 3) 0x20 16, nth (Reg.DMA_CHc_KICK 0) 0x40 64, nth (Reg.DMA_CHc_DISABLE 0) 0x40 64,
      nth (Reg.FPC_CLc_RETIRE 0) 0x100 8 with
    | some i, _, _, _ => some (d.imsWrite i v)
    | none, some c, _, _ => some (d.kick c)
    | none, none, some c, _ => some (if Word.bit v 0 then d.chDisableNow c 0x41 else d)
    | none, none, none, some c => some (if Word.bit v 31 then d.coreTakeover c (Word.fld v 0 3) 0 else d)
    | none, none, none, none =>
      if 0x40000000 ≤ k ∧ k < 0x40800000 ∧ k % 0x100000 < 0x1000 then d.threadWrite ((k - 0x40000000) / 0x100000) (k % 0x100000) v
      else none

/-- LCS_CERT takes writes in MANUFACTURE alone (R516). -/
def Dev.rwClosed (d : Dev) (k : Nat) : Bool := decide (Reg.LCS_CERT 0 ≤ k ∧ k < Reg.LCS_CERT 0 + 0x8000 ∧ d.lcState ≠ 1)

/-- A 32-bit write of a master to a register, by its access type. -/
def Dev.writeReg (d : Dev) (m k : Nat) (v : Word) (expert : Bool) : Dev :=
  match accOf k with
  | none => d
  | some .ro => d
  | some .rs => d
  | some .hc => d
  | some .sq => d.sqClear k v
  | some .wo => d.rwPlain k v expert
  | some .st => d.stWrite m k v expert
  | some .rw =>
    if d.rwClosed k then d
    else match d.actWrite m k v with
      | some d => d
      | none => d.rwPlain k v expert

/-! ## The MSI-X table (R149, R155) -/

/-- A word written into BAR4 of a function: a word of a table entry, whose bit 0 of word 3 masks the vector. -/
def Dev.msixWrite (d : Dev) (f off : Nat) (v : Word) : Dev :=
  if 0x8000 ≤ off then d
  else
    let vec := off / 16
    if off % 16 = 12 then
      if Word.bit v 0 then d.setFn f (fun p => { p with unmasked := p.unmasked.filter (· ≠ vec) }) else d.unmask f vec
    else { d with pce := { d.pce with msixTable := Map.put d.pce.msixTable (8192 * f + off / 4) v } }

/-! ## REGISTER_WRITE (R97, R149) -/

/-- An access through a BAR: 4 or 8 bytes, aligned. -/
def accessOk (off size : Nat) : Bool := decide ((size = 4 ∨ size = 8) ∧ off % size = 0)

/-- A function decodes its BARs: its link is up and it is in D0. -/
def Dev.decodes (d : Dev) (f : Nat) : Bool := (d.fn f).present && !(d.fn f).d3 && !(d.fn f).flr

/-- The words of an access written by a master. -/
def Dev.busWords (d : Dev) (m : Nat) (bar : Bar) (off size : Nat) (lo hi : Word) : Dev :=
  match bar with
  | .bar0 =>
    let d := d.writeReg m (d.target m off) lo true
    if size = 8 then d.writeReg m (d.target m (off + 4)) hi true else d
  | .bar4 =>
    if m < 4 then
      let d := d.msixWrite m off lo
      if size = 8 then d.msixWrite m (off + 4) hi else d
    else d

/-- A write of a master; through an endpoint one of another size or alignment is a Completer Abort (R149). -/
def Dev.busWrite (d : Dev) (m : Nat) (bar : Bar) (off size : Nat) (lo hi : Word) : Dev :=
  if m < 4 then
    if !d.decodes m then d
    else if !accessOk off size then (d.wakeLink (d.linkOf m)).badAccess m
    else (d.wakeLink (d.linkOf m)).busWords m bar off size lo hi
  else if accessOk off size then d.busWords m bar off size lo hi
  else d

/-- `REGISTER_WRITE` (R101): on a halted device only FLT_HALT_RESET takes a write (R488, R489). -/
def execRegisterWrite (m : Fin 16) (bar : Bar) (off size : Nat) (lo hi : Word) (s : State) : Host.Outcome State Fault Refusal :=
  .next (s.onDev (fun d =>
    if d.halted && !d.pins.rstLow && decide (off = Reg.FLT_HALT_RESET ∧ bar = .bar0 ∧ size = 4) then d.haltReset lo
    else Dev.live (fun d => d.busWrite m.val bar off size lo hi) d))

/-! ## Slow-domain copies (R98) -/

/-- Frames of the device stamped with the vintage being drained, of one pipeline or of all (R270). -/
def Dev.stampedOld (d : Dev) (p : Option Nat) : Nat :=
  if d.bit Reg.CLS_VINTAGE_OLD 16 then
    (d.prs.frames.filter (fun e => decide (e.2.vint = some (d.fld Reg.CLS_VINTAGE_OLD 0 16) ∧ (p = none ∨ p = some e.2.pipe)))).length
  else 0

/-- RS registers whose live value follows from the rest of the state. -/
def Dev.derived (d : Dev) : List (Nat × Word) :=
  let pipe (p : Nat) : List (Nat × Word) :=
    [(Reg.CLS_DRAIN_PIPE p, wd (d.stampedOld (some p))),
     (Reg.CLS_RECIRC_DEPTH01 p, wd ((d.loop p 1).length * 65536 + (d.loop p 0).length)),
     (Reg.CLS_RECIRC_DEPTH23 p, wd ((d.loop p 3).length * 65536 + (d.loop p 2).length))]
  let fragsHeld := (d.prs.frames.filter (fun e => decide (e.2.place = .fragHold))).length
  [(Reg.CLS_DRAIN, wd (d.stampedOld none)), (Reg.FWD_LEARN_STATUS, wd d.fwd.learn.length),
   (Reg.PRS_FRAG_STATUS, wd (fragsHeld * 65536 + d.prs.frags.length))] ++
  (List.range 3).flatMap pipe ++
  (List.range 4).map (fun l => (Reg.PCE_LINK_STATUSl l, Word.setBit (d.reg (Reg.PCE_LINK_STATUSl l)) 1 (d.detHomed l))) ++
  (d.fpc.threads.map Prod.fst).map (fun t => (thrReg Reg.FPC_THR_EVENTS t, d.pendingBits t))

/-- The window on a master's selected queue shows the queue selected at the last SLOW edge (R225). -/
def qstateMark (m i : Nat) : Nat := 2 ^ 45 + 4 * m + i

/-- Every RS register copied. -/
def Dev.slowCopy (d : Dev) : Dev :=
  let base := Map.sift d.rf.act (fun k _ => decide (accOf k = some .rs))
  let own := d.derived.foldl (fun (m : Map Word) p => Map.putD m p.1 (resetOf p.1) p.2) base
  let wins := (List.range 16).flatMap (fun m => (List.range 4).map (fun i =>
    (qstateMark m i, d.reg (Reg.RNG_QSTATE0 (d.selQueue m).1 (d.selQueue m).2 + 4 * i))))
  { d with rf := { d.rf with slow := wins.foldl (fun (m : Map Word) p => Map.putD m p.1 0 p.2) own } }

/-- `SLOW_EDGE` (R98). -/
def execSlowEdge (s : State) : Host.Outcome State Fault Refusal := act (fun d => d.slowCopy) s

/-! ## Reads (R5, R97) -/

/-- The low half of a 64-bit quantity, whose read latches the high half (R5). -/
def wideLow (k : Nat) : Bool :=
  let within (b n : Nat) : Bool := decide (b ≤ k ∧ k < b + n ∧ (k - b) % 8 = 0)
  (List.range 4).any (fun i => decide (k = Reg.GAU_CYCLEn_LO i ∨ k = Reg.GAU_WRAPTSn_LO i)) ||
  within (Reg.GAU_SNAP 4) 40 || within (Reg.GAU_STAMPs 0) 128 || within (Reg.EBS_SLICE_ENERGYs 0 0) 0x10000 ||
  within (Reg.SLC_STATSs 0 0) 0x80000 || within (Reg.CRY_SLOT_PNs 0 0) 2048 ||
  (List.range 16).any (fun p => within (Reg.MAC_PORTp_CNT p 0) 192) ||
  decide (k = Reg.LCS_SERIAL_LO ∨ k = Reg.LCS_NONCE_LO ∨ k = Reg.UPD_ACT_TIME_LO)

/-- The value a read of a master returns, by the access type. -/
def Dev.readVal (d : Dev) (m off : Nat) : Word :=
  let k := d.target m off
  let ims := Reg.PCE_IMS_DATAm 0 0
  if k = Reg.GLB_STAGED then wd d.stagedMask
  else if ims ≤ k ∧ k < ims + 16 * 0x20 ∧ (k - ims) % 0x20 < 16 then
    d.reg (Reg.PCE_IMS_ENTRY (d.fld (Reg.PCE_IMS_INDEXm ((k - ims) / 0x20)) 0 17) 0 + (k - ims) % 0x20)
  else match accOf k with
    | none => 0
    | some .wo => 0
    | some .rs =>
      if Reg.RNG_QSTATEm 0 ≤ off ∧ off < Reg.RNG_QSTATEm 0 + 16 then Map.getD d.rf.slow (qstateMark m ((off - Reg.RNG_QSTATEm 0) / 4)) 0
      else (Map.get? d.rf.slow k).getD (resetOf k)
    | some .st => if d.bit Reg.GLB_VIEW m then d.staged k else d.reg k
    | some _ => d.reg k

/-- A read: a low half latches its high half; a high half latched is returned once. -/
def Dev.busRead (d : Dev) (m off : Nat) : Word × Dev :=
  let k := d.target m off
  let d' := if wideLow k then { d with rf := { d.rf with latch := Map.put d.rf.latch (k + 4) (d.readVal m (off + 4)) } } else d
  match Map.get? d.rf.latch k with
  | some v => (v, { d' with rf := { d'.rf with latch := Map.del d'.rf.latch k } })
  | none => (d.readVal m off, d')

/-- Words read in address order. -/
def Dev.busReads (d : Dev) (m off : Nat) : Nat → List Word × Dev
  | 0 => ([], d)
  | n + 1 =>
    let (w, d) := d.busRead m off
    let (ws, d) := d.busReads m (off + 4) n
    (w :: ws, d)

/-- Words written in address order. -/
def Dev.busWrites (d : Dev) (m off : Nat) : List Word → Dev
  | [] => d
  | w :: ws => (d.writeReg m (d.target m off) w true).busWrites m (off + 4) ws

/-! ## The opcodes (R139, R550) -/

/-- The offset of a REG_READ or REG_WRITE, in bits a BAR0 offset has, aligned; the count. -/
def regRangeBad (most : Nat) (c : Cmd) (_ : Dev) : Bool :=
  decide ((c.p 0).toNat % 4 ≠ 0 ∨ 0x4000000 < (c.p 0).toNat + 4 * c.pf 1 0 10 ∨ c.pf 1 10 22 ≠ 0 ∨ c.pf 1 0 10 = 0 ∨ most < c.pf 1 0 10)

/-- 0x0006. -/
def runRegRead (c : Cmd) (d : Dev) : Dev × Option Res :=
  if regRangeBad 1020 c d then (d, some (Res.st stBadParam))
  else let (ws, d) := d.busReads c.master (c.p 0).toNat (c.pf 1 0 10); (d, some (Res.ok ws))
/-- `REG_READ`. -/
def execRegRead (m : Fin 16) (tag : Fin 4096) (gen : Fin 16) (s : State) : Host.Outcome State Fault Refusal :=
  opStep 0x0006 runRegRead m.val tag.val gen.val s

/-- 0x0007. -/
def runRegWrite (c : Cmd) (d : Dev) : Dev × Option Res :=
  if regRangeBad 1018 c d then (d, some (Res.st stBadParam))
  else (d.busWrites c.master (c.p 0).toNat (c.params.drop 2), some (Res.ok []))
/-- `REG_WRITE`. -/
def execRegWrite (m : Fin 16) (tag : Fin 4096) (gen : Fin 16) (s : State) : Host.Outcome State Fault Refusal :=
  opStep 0x0007 runRegWrite m.val tag.val gen.val s

/-- 0x0008: an untimed commit raises the strobe of GLB_COMMIT, a timed one arms. -/
def runCommit (c : Cmd) (d : Dev) : Dev × Option Res :=
  let d := if c.p 1 = 0 ∧ c.p 2 = 0 then d.glbCommitWrite c.master (c.p 0)
    else ((d.setReg Reg.GLB_COMMIT_AT_LO (c.p 1)).setReg Reg.GLB_COMMIT_AT_HI (c.p 2)).commitAtMaskWrite (c.p 0)
  (d, some (Res.ok [wd (d.fld Reg.GLB_COMMIT_SEQ 16 16)]))
/-- `COMMIT`. -/
def execCommit (m : Fin 16) (tag : Fin 4096) (gen : Fin 16) (s : State) : Host.Outcome State Fault Refusal :=
  opStep 0x0008 runCommit m.val tag.val gen.val s

end Sys2Proof.Machine
end

