-- ==== Sys2Proof/Machine/Reset.lean ====
section
/-! DEFINITION. Resets of one domain by command, entries of the management ring (R140, R141, R483, R484). -/

namespace Sys2Proof.Machine

/-! ## Domains (R483) -/

/-- A reset by command writes a record of KIND 8. -/
def Dev.resetRecord (d : Dev) (level block unit : Nat) : Dev := d.fault (faultRec level 8 block unit)

/-- Every strobe raised before applies (R484). -/
def Dev.settleStrobes (d : Dev) : Dev := d.glb.strobes.foldl (fun (d : Dev) _ => d.strobeApply) d

/-- CLUSTER: every thread as by FPC_THR_RESET, inbound queues emptied with their frames failed, the notice ring empty. -/
def Dev.resetCluster (d : Dev) (c : Nat) : Dev :=
  let qs := (Map.keys d.fpc.queues).filter (fun k => decide (k / 256 = c))
  let d := qs.foldl (fun (d : Dev) k =>
    let ids := (d.chanQueue c (k % 256)).filterMap InMsg.frame
    (ids.foldl (fun (d : Dev) i => d.failFrame i) d).setChanQueue c (k % 256) []) d
  let d := ((List.range 64).map (fun i => 64 * c + i)).foldl (fun (d : Dev) t => d.thrReset t) d
  d.setReg (Reg.FPC_CLc_NOTICE_IDX c) 0

/-- DMA_CHANNEL: a disable, then every register but OWNER at its reset value, its shadow set with it. -/
def Dev.resetChannel (d : Dev) (c : Nat) : Dev :=
  let d := d.chDisableNow c 0x41
  let own := Reg.DMA_CHc_OWNER c
  let ks := ((List.range 11).map (fun i => Reg.DMA_CHc_BASE_LO c + 4 * i)).filter (fun k => decide (k ≠ own))
  let d := ks.foldl (fun (d : Dev) k => (d.setReg k (resetOf k)).unstage k) d
  d.setBit (Reg.DMA_PEND (c / 32)) (c % 32) false

/-- STO: every connection that is LIVE or CONNECTING is lost, staging is emptied. -/
def Dev.resetSto (d : Dev) : Dev :=
  (Map.keys d.sto.conns).foldl (fun (d : Dev) k =>
    if d.connState k = 2 then d.loseConn k else if d.connState k = 1 then d.setConnState k 3 else d) d

/-- PBU: each waiting set is delivered at once with its flags; the row store and the duplicate table are emptied. -/
def Dev.resetPbu (d : Dev) : Dev :=
  let d := (Map.keys d.pbu.groups).foldl (fun (d : Dev) g => d.completeSet g true) d
  { d with pbu := { d.pbu with rows := [], nodes := [] } }

/-- TRL: every path DOWN, its requests failing with 0x17; every enabled link retrains. -/
def Dev.resetTrl (d : Dev) : Dev :=
  let d := (d.members.filter (fun i => decide (i ≠ d.selfId))).foldl (fun (d : Dev) i => d.pathDown i) d
  (List.range 4).foldl (fun (d : Dev) t => if d.bit (Reg.TRL_PORTt_CTRL t) 31 then d.setTrlLink t 1 else d) d

/-- MGTPORT: the rings emptied, every OWN 0. -/
def Dev.resetMgt (d : Dev) : Dev :=
  let d := (List.range 32).foldl (fun (d : Dev) i => (d.setBit (Reg.MAC_MGT_RXSLOT (512 * i)) 31 false).setBit (Reg.MAC_MGT_TXSLOT (512 * i)) 31 false) d
  { d with mac := { d.mac with mgtHead := d.fld Reg.MAC_MGT_TX_TAIL 0 16 } }

/-- Indices of a reset domain; `none` for a code above 8. -/
def domainIndices (dom : Nat) : Option Nat := [1, 3, 8, 12, 64, 1, 1, 1, 1][dom]?

/-- A timeout code: 0 to 16, or 0xFF (R135). -/
def timeoutBad (n : Nat) : Bool := decide (16 < n ∧ n ≠ 0xFF)

/-- What makes DEVICE_RESET bad: domain, index, timeout code, reserved bits; a serving pipeline without a ready spare. -/
def deviceResetBad (c : Cmd) (d : Dev) : Bool :=
  let dom := c.pf 0 0 8
  let i := c.pf 0 8 8
  (match domainIndices dom with
    | some n => decide (n ≤ i)
    | none => true) || decide (c.pf 0 16 16 ≠ 0 ∨ c.pf 1 8 24 ≠ 0) || timeoutBad (c.pf 1 0 8) ||
  (decide (dom = 1) && (d.serves i 0 || d.serves i 1) && decide (d.fld Reg.GLB_PIPE_ROLE 6 2 ≠ 0))

/-- PIPELINE: a serving pipeline is taken over first; the reply waits for the tasting. -/
def Dev.resetPipeline (d : Dev) (p : Nat) : Dev :=
  match (List.range 2).find? (fun g => d.serves p g) with
  | some g => d.takeover p g 8 0
  | none =>
    let d := d.resetRecord 3 7 p
    if d.fld Reg.GLB_PIPE_ROLE 4 2 = p then d.setFld Reg.GLB_PIPE_ROLE 6 2 2 else d

/-- CRY_ENGINE: the engine takes no more work, and is tasted when it has finished what it has. -/
def Dev.resetEngine (d : Dev) (e : Nat) : Dev := (d.setBit Reg.CRY_ENGINES e false).resetRecord 3 12 e

/-- 0x0009: a DEVICE reset answers nothing; the reset of a pipeline or an engine is answered once it has been tasted. -/
def runDeviceReset (c : Cmd) (d : Dev) : Dev × Option Res :=
  let i := c.pf 0 8 8
  let done (d : Dev) : Dev × Option Res := (d, some (Res.ok []))
  if deviceResetBad c d then (d, some (Res.st stBadParam))
  else match c.pf 0 0 8 with
    | 0 => ((d.settleStrobes.resetRecord 4 0 0).deviceReset, none)
    | 1 => (d.resetPipeline i, none)
    | 2 => done ((d.resetCluster i).resetRecord 3 11 (16 * i))
    | 3 => if d.bit Reg.CRY_ENGINES (16 + i) then (d, some (Res.st stFaulted)) else (d.resetEngine i, none)
    | 4 => done ((d.resetChannel i).resetRecord 3 6 i)
    | 5 => done (d.resetSto.resetRecord 3 13 0)
    | 6 => done (d.resetPbu.resetRecord 3 16 0)
    | 7 => done (d.resetTrl.resetRecord 3 20 0)
    | _ => done (d.resetMgt.resetRecord 3 15 0)
/-- `DEVICE_RESET`. -/
def execDeviceReset (m : Fin 16) (tag : Fin 4096) (gen : Fin 16) (s : State) : Host.Outcome State Fault Refusal :=
  opStep 0x0009 runDeviceReset m.val tag.val gen.val s

/-! ## The management ring (R140, R141) -/

/-- The BAR0 offset an entry names. -/
def ringOffset (w0 : Word) : Nat := Word.fld w0 27 5 * 0x100000 + Word.fld w0 0 20

/-- What makes an entry malformed. -/
def Dev.ringBad (d : Dev) (w0 w1 w2 w3 : Word) : Bool :=
  let off := ringOffset w0
  decide (23 < Word.fld w0 27 5 ∨ 2 < Word.fld w0 24 3 ∨ Word.fld w0 20 4 ≠ 0 ∨ Word.fld w2 0 12 ≠ 0 ∨ off % 4 ≠ 0 ∨
    (Word.fld w0 24 3 = 1 ∧ Word.fld w1 23 9 ≠ 0) ∨ Word.fld w3 0 16 ≠ crc16 (bytesOf [w0, w1, w2]) ∨
    (d.cmd.ringSeq ≠ 0 ∧ Word.fld w3 16 16 ≠ d.cmd.ringSeq - 1)) || (accOf off).isNone

/-- A command whose level is Expert (R139). -/
def expertOp (op : Nat) : Bool := [0x0006, 0x0007, 0x0008, 0x0009, 0x0704, 0x0705, 0x0904, 0x0B00, 0x0B13].contains op

/-- The entry stored in the ring, its index, the ring's HEAD and TAIL past it. -/
def Dev.ringStore (d : Dev) (ws : List Word) : Dev :=
  let h := d.fld Reg.CMD_MRING_HEAD 0 10
  let d := d.setRegs (Reg.CMD_MRING (4 * h)) ws
  (d.setFld Reg.CMD_MRING_HEAD 0 10 (h + 1)).setFld Reg.CMD_MRING_TAIL 0 10 (h + 1)

/-- An entry consumed by its block's sequencer: a register write of the command's master, a strobe, a fence. A malformed one halts
the device. -/
def Dev.ringEntry (d : Dev) (w0 w1 w2 w3 : Word) : Dev :=
  let bad := d.ringBad w0 w1 w2 w3
  let d := d.ringStore [w0, w1, w2, w3]
  if bad then d.halt { faultRec 4 7 2 0 with recoveryUs := 0xFFFF, data := [w0, w1, w2, w3] }
  else
    let d := { d with cmd := { d.cmd with ringSeq := (Word.fld w3 16 16 + 1) % 65536 + 1 } }
    let m := Word.fld w2 28 4
    let expert := match d.cmd? m (Word.fld w2 12 12) (Word.fld w2 24 4) with
      | some c => expertOp c.opcode
      | none => false
    match Word.fld w0 24 3 with
    | 0 => d.writeReg m (d.target m (ringOffset w0)) w1 expert
    | 1 => d.raiseStrobe .ring w1 m
    | _ => d.settleStrobes

/-- `MRING_ENTRY` (R140, R141). -/
def execMringEntry (w0 w1 w2 w3 : Word) (s : State) : Host.Outcome State Fault Refusal := act (fun d => d.ringEntry w0 w1 w2 w3) s

end Sys2Proof.Machine
end

