-- ==== Sys2Proof/Machine/Checks.lean ====
section
/-! DEFINITION. How the device takes, starts and times out a command packet: the checks of R127, locks, limits
(R119 to R136). -/

namespace Sys2Proof.Machine

/-! ## What each opcode asks of its packet (R127, R139) -/

/-- How a command uses word1.SLICE (R139): no slice; a slice with its incarnation; either; the slice of a delivery; a slice
that may be FENCED (R184). -/
inductive Naming where
  | none | slice | either | delivery | status
deriving DecidableEq, Repr

/-- One opcode: its code, whether a PARAM_LEN fits, how it names a slice, what else check 7 refuses, the objects it changes,
the parameter word of its timeout code. -/
structure OpSpec where
  code : Nat
  len : Cmd → Dev → Bool
  names : Naming
  bad : Cmd → Dev → Bool
  locks : Cmd → Dev → List Nat
  code? : Option Nat

/-- PARAM_LEN is a fixed number of bytes. -/
def bytes (n : Nat) (c : Cmd) (_ : Dev) : Bool := decide (c.paramLen = n)

/-- No further check; no object changed. -/
def noBad (_ : Cmd) (_ : Dev) : Bool := false
def noLock (_ : Cmd) (_ : Dev) : List Nat := []

/-- Lock keys of the objects of R129: a slice, a queue, a table, a DMA channel, an angle channel, a reference, a port, a key
slot, an SA. -/
def lockKey (kind i : Nat) : Nat := kind * 2 ^ 24 + i
def lockSlice (c : Cmd) (_ : Dev) : List Nat := [lockKey 1 c.slice]
def lockQueue (c : Cmd) (_ : Dev) : List Nat := [lockKey 1 c.slice, lockKey 2 (c.slice * 2048 + c.pf 1 31 1 * 1024 + c.pf 1 0 10)]
def lockTable (t : Nat) (_ : Cmd) (_ : Dev) : List Nat := [lockKey 3 t]
def lockRule (c : Cmd) (_ : Dev) : List Nat := [lockKey 3 (c.pf 0 0 4)]
def lockSlot (c : Cmd) (_ : Dev) : List Nat := [lockKey 8 (c.pf 0 0 8)]
def lockSa (c : Cmd) (_ : Dev) : List Nat := [lockKey 9 (c.pf 1 0 20)]
def lockPort (c : Cmd) (_ : Dev) : List Nat := [lockKey 7 (c.pf 0 0 4)]

/-- ANGLE_EVENT_ADD may change any channel bound to its reference. -/
def lockBound (c : Cmd) (d : Dev) : List Nat :=
  ((List.range 64).filter (fun ch => decide (d.fld (Reg.GAU_CHANc_CTRL ch) 1 2 = c.pf 0 0 2))).map (lockKey 5)

/-- The ports of a port group; those of a pair. -/
def lockGroup (c : Cmd) (_ : Dev) : List Nat := (List.range 8).map (fun j => lockKey 7 (8 * c.pf 0 0 1 + j))
def lockPair (c : Cmd) (_ : Dev) : List Nat := if c.pf 1 30 2 = 0 then [] else [lockKey 7 (c.pf 1 0 4), lockKey 7 (c.pf 1 8 4)]

/-- Bits set outside the mask of a register. -/
def overMask (k : Nat) (v : Word) : Bool := decide (v &&& ~~~ maskOf k ≠ 0)

/-- ANGLE_REF_SET: the reference and the layouts of R61. -/
def angleRefBad (c : Cmd) (_ : Dev) : Bool :=
  decide (3 < (c.p 0).toNat) || (List.range 4).any (fun i => overMask (Reg.GAU_REFn_CTRL 0 + 4 * i) (c.p (1 + i)))

/-- ANGLE_EVENT_ADD: reserved bits and actions of the entry (R53, R54, R60). -/
def angleEventBad (c : Cmd) (_ : Dev) : Bool := decide (3 < (c.p 0).toNat ∨ c.pf 2 28 2 ≠ 0 ∨ c.pf 2 16 8 ≠ 0 ∨ 0xA < c.pf 2 24 4)

/-- ANGLE_TIE, ANGLE_PTP_SET. -/
def angleTieBad (c : Cmd) (_ : Dev) : Bool := decide (3 < (c.p 0).toNat ∨ 3 < (c.p 1).toNat ∨ 1 < (c.p 2).toNat)
def anglePtpBad (c : Cmd) (_ : Dev) : Bool := decide (2 < (c.p 0).toNat ∨ 1 < (c.p 1).toNat ∨ 1 < (c.p 2).toNat ∨ 255 < (c.p 3).toNat)

/-- RULE_TABLE_SET: the table and the layouts of R275. -/
def ruleTableBad (c : Cmd) (_ : Dev) : Bool :=
  decide (15 < (c.p 0).toNat) || overMask (Reg.CLS_TBLt_CFG 0) (c.p 1) || overMask (Reg.CLS_TBLt_BASE 0) (c.p 2) ||
  overMask (Reg.CLS_TBLt_SIZE 0) (c.p 3)

/-- A rule key is as long as the table's KEY_LEN. -/
def ruleLen (head : Nat) (c : Cmd) (d : Dev) : Bool := decide (c.paramLen = head + d.tblKeyLen (c.pf 0 0 4))

/-- L2_ADD, L2_DELETE, FLOW_ADD, FLOW_DELETE, LPM_ADD, LPM_DELETE, HIT_SCAN (R299 to R301). -/
def l2KeyBad (c : Cmd) : Bool := decide (c.pf 0 12 19 ≠ 0 ∨ c.pf 2 16 16 ≠ 0)
def lpmWordsBad (c : Cmd) : Bool := lpmBad c.params || decide (c.pf 0 8 8 ≠ 0 ∨ (c.pf 0 28 4 = 4 ∧ (c.p 2 ≠ 0 ∨ c.p 3 ≠ 0 ∨ c.p 4 ≠ 0)))
def hitScanBad (c : Cmd) (_ : Dev) : Bool :=
  decide (c.pf 0 5 24 ≠ 0 ∨ c.pf 1 27 5 ≠ 0 ∨ c.pf 2 16 16 ≠ 0 ∨ c.pf 3 8 24 ≠ 0)

/-- Process-bus words: PARAM_LEN is 4 more than whole words of the entry (R442). -/
def entLen (n : Nat) (c : Cmd) (_ : Dev) : Bool := decide (c.paramLen % 4 = 0 ∧ 8 ≤ c.paramLen ∧ c.paramLen ≤ 4 + 4 * n)

/-- A packet carried to a member is as long as its own PARAM_LEN says. -/
def peerLen (c : Cmd) (_ : Dev) : Bool := decide (c.paramLen = 4 + 16 + c.pf 3 0 16)

/-- UPDATE_STAGE carries whole words; UPDATE_SCHEDULE as many as its COUNT needs. -/
def stageLen (c : Cmd) (_ : Dev) : Bool := decide (12 ≤ c.paramLen ∧ c.paramLen % 4 = 0)
def scheduleLen (c : Cmd) (_ : Dev) : Bool := decide (c.paramLen = 20 + 4 * ceilDiv (c.pf 4 0 10) 2)

/-- TRELLIS_PORT_SET takes its second word for a tunnel alone. -/
def trlPortLen (c : Cmd) (_ : Dev) : Bool := decide (c.paramLen = if c.pf 0 31 1 = 1 then 8 else 4)

def specs0 : List OpSpec :=
  [⟨0x0000, bytes 0, .none, noBad, noLock, none⟩,
   ⟨0x0001, bytes 0, .none, noBad, noLock, none⟩,
   ⟨0x0002, bytes 0, .none, noBad, noLock, none⟩,
   ⟨0x0003, bytes 8, .none, cancelBad, noLock, none⟩,
   ⟨0x0004, bytes 8, .none, leesReadBad, noLock, none⟩,
   ⟨0x0005, bytes 8, .none, notifyCfgBad, noLock, none⟩,
   ⟨0x0006, bytes 8, .none, regRangeBad 1020, noLock, none⟩,
   ⟨0x0007, fun c _ => decide (c.paramLen = 8 + 4 * c.pf 1 0 10), .none, regRangeBad 1018, noLock, none⟩,
   ⟨0x0008, bytes 12, .none, noBad, noLock, none⟩,
   ⟨0x0009, bytes 8, .none, deviceResetBad, fun c _ => if c.pf 0 0 8 = 4 then [lockKey 4 (c.pf 0 8 8)] else [], some 1⟩]

def specs1 : List OpSpec :=
  [⟨0x0100, bytes 48, .none, sliceCreateBad, fun c _ => if c.pf 1 31 1 = 1 then [lockKey 1 (c.pf 1 16 13)] else [], none⟩,
   ⟨0x0101, bytes 8, .slice, incTimeoutBad, lockSlice, some 1⟩,
   ⟨0x0102, bytes 4, .slice, incOnlyBad, lockSlice, none⟩,
   ⟨0x0103, bytes 8, .slice, incTimeoutBad, lockSlice, some 1⟩,
   ⟨0x0104, bytes 4, .status, incOnlyBad, noLock, none⟩,
   ⟨0x0105, bytes 4, .slice, incOnlyBad, lockSlice, none⟩,
   ⟨0x0106, bytes 20, .slice, sliceDirtyBad, lockSlice, none⟩,
   ⟨0x0107, bytes 12, .slice, incOnlyBad, noLock, none⟩,
   ⟨0x0108, bytes 16, .slice, incOnlyBad, lockSlice, none⟩]

def specs2 : List OpSpec :=
  [⟨0x0200, bytes 28, .slice, queueCreateBad, lockSlice, none⟩,
   ⟨0x0201, bytes 8, .slice, queueNameBad, lockQueue, none⟩,
   ⟨0x0202, bytes 8, .slice, queueNameBad, noLock, none⟩,
   ⟨0x0203, bytes 28, .either, chanSetBad, fun c _ => [lockKey 4 (c.pf 1 0 6)], none⟩,
   ⟨0x0204, bytes 12, .none, chanStopBad, fun c _ => [lockKey 4 (c.pf 0 0 6)], some 2⟩]

def specs3 : List OpSpec :=
  [⟨0x0300, bytes 252, .none, fun c d => d.profileBad c.params, noLock, none⟩,
   ⟨0x0301, bytes 20, .none, ruleTableBad, lockRule, none⟩,
   ⟨0x0302, ruleLen 16, .delivery, fun c d => decide (15 < (c.p 0).toNat) || d.ruleAddBad c.slice c.params, lockRule, none⟩,
   ⟨0x0303, ruleLen 4, .none, fun c _ => decide (15 < (c.p 0).toNat), lockRule, none⟩,
   ⟨0x0304, bytes 12, .none, ruleBankSwapBad, fun c _ => (bitList 16 (c.pf 0 0 16)).map (lockKey 3), some 2⟩,
   ⟨0x0305, bytes 20, .delivery, fun c d => l2KeyBad c || d.resultParamBad c.slice (c.p 3) (c.p 4), lockTable 16, none⟩,
   ⟨0x0306, bytes 12, .none, fun c _ => l2KeyBad c, lockTable 16, none⟩,
   ⟨0x0307, bytes 52, .delivery, fun c d => d.resultParamBad c.slice (c.p 10) (c.p 11), lockTable 17, none⟩,
   ⟨0x0308, bytes 44, .none, fun c _ => decide (c.pf 10 0 31 ≠ 0), lockTable 17, none⟩,
   ⟨0x0309, bytes 28, .delivery, fun c d => lpmWordsBad c || d.resultParamBad c.slice (c.p 5) (c.p 6), lockTable 18, none⟩,
   ⟨0x030A, bytes 20, .none, fun c _ => lpmWordsBad c, lockTable 18, none⟩,
   ⟨0x030B, bytes 16, .none, hitScanBad, fun c _ => if c.pf 0 31 1 = 1 then [lockKey 3 (c.pf 0 0 5)] else [], some 3⟩]

def specs4 : List OpSpec :=
  [⟨0x0400, bytes 64, .none, keyWriteBad, lockSlot, none⟩,
   ⟨0x0401, bytes 4, .none, keyZeroBad, lockSlot, none⟩,
   ⟨0x0402, bytes 148, .slice, saDecantBad, lockSa, none⟩,
   ⟨0x0403, bytes 8, .slice, saDeleteBad, lockSa, none⟩,
   ⟨0x0404, bytes 8, .none, saStatusBad, noLock, none⟩]

def specs5 : List OpSpec :=
  [⟨0x0500, bytes 24, .either, shaperBad, noLock, none⟩,
   ⟨0x0501, bytes 16, .either, nodeAttachBad, noLock, none⟩,
   ⟨0x0502, fun c _ => decide (4 ≤ c.paramLen ∧ c.paramLen % 4 = 0), .none, gateListBad, lockPort, none⟩,
   ⟨0x0503, bytes 8, .either, schedStatusBad, noLock, none⟩,
   ⟨0x0504, bytes 20, .none, portModeBad, lockGroup, none⟩,
   ⟨0x0505, bytes 4, .none, fun c _ => decide (15 < (c.p 0).toNat), noLock, none⟩,
   ⟨0x0506, bytes 4, .none, fun c _ => decide (c.pf 0 4 27 ≠ 0), fun c d => if c.pf 0 31 1 = 1 then lockPort c d else [], none⟩]

def specs6 : List OpSpec :=
  [⟨0x0600, bytes 20, .none, angleRefBad, fun c _ => [lockKey 6 (c.pf 0 0 2)], none⟩,
   ⟨0x0601, bytes 4, .none, fun c _ => decide (15 < (c.p 0).toNat), noLock, none⟩,
   ⟨0x0602, bytes 20, .none, angleEventBad, lockBound, none⟩,
   ⟨0x0603, bytes 4, .none, fun c _ => decide (4095 < (c.p 0).toNat), fun c _ => [lockKey 5 (c.pf 0 6 6)], none⟩,
   ⟨0x0604, bytes 12, .none, angleTieBad, fun c _ => [lockKey 6 (c.pf 0 0 2)], none⟩,
   ⟨0x0605, bytes 0, .none, noBad, noLock, none⟩,
   ⟨0x0606, bytes 16, .none, anglePtpBad, noLock, none⟩]

def specs7 : List OpSpec :=
  [⟨0x0700, bytes 8, .none, energyCapSetBad, noLock, none⟩,
   ⟨0x0701, bytes 0, .none, noBad, noLock, none⟩,
   ⟨0x0702, bytes 8, .none, energySliceReadBad, noLock, none⟩,
   ⟨0x0703, bytes 8, .slice, energySliceLimitBad, lockSlice, none⟩,
   ⟨0x0704, bytes 8, .none, energyClassSetBad, noLock, none⟩,
   ⟨0x0705, bytes 4, .none, energyStressForceBad, noLock, none⟩,
   ⟨0x0706, bytes 0, .none, noBad, noLock, none⟩]

def specs8 : List OpSpec :=
  [⟨0x0800, entLen 48, .either, svSubscribeBad, noLock, none⟩,
   ⟨0x0801, bytes 4, .either, svUnsubscribeBad, noLock, none⟩,
   ⟨0x0802, entLen 48, .either, gooseSubscribeBad, noLock, none⟩,
   ⟨0x0803, bytes 4, .either, gooseUnsubscribeBad, noLock, none⟩,
   ⟨0x0804, entLen 512, .slice, goosePublishBad, noLock, none⟩,
   ⟨0x0805, entLen 64, .slice, alignerGroupBad, noLock, none⟩,
   ⟨0x0806, bytes 12, .none, redundancyBad, lockPair, none⟩,
   ⟨0x0807, bytes 4, .none, pbuStatusBad, noLock, none⟩]

def specs9 : List OpSpec :=
  [⟨0x0900, trlPortLen, .none, trellisPortSetBad, noLock, none⟩,
   ⟨0x0901, fun c _ => decide (c.paramLen = 8 + 12 * c.pf 1 0 10), .none, trellisDomainSetBad, noLock, none⟩,
   ⟨0x0902, bytes 20, .either, trellisWindowSetBad, noLock, none⟩,
   ⟨0x0903, bytes 0, .none, noBad, noLock, none⟩,
   ⟨0x0904, peerLen, .none, trellisPeerCmdBad, noLock, none⟩]

def specsA : List OpSpec :=
  [⟨0x0A00, bytes 0, .none, noBad, noLock, none⟩,
   ⟨0x0A01, bytes 260, .none, lcTransitionBad, noLock, none⟩,
   ⟨0x0A02, stageLen, .none, updateStageBad, noLock, none⟩,
   ⟨0x0A03, scheduleLen, .none, updateScheduleBad, noLock, some 0⟩,
   ⟨0x0A04, bytes 8, .none, updateConfirmBad, noLock, none⟩,
   ⟨0x0A05, bytes 0, .none, noBad, noLock, none⟩,
   ⟨0x0A06, bytes 36, .none, attestBad, noLock, none⟩]

def specsB : List OpSpec :=
  [⟨0x0B00, bytes 4, .none, tastingBad, noLock, none⟩,
   ⟨0x0B01, bytes 8, .none, faultLogBad, noLock, none⟩,
   ⟨0x0B02, bytes 8, .none, countersBad, noLock, none⟩,
   ⟨0x0B10, bytes 0, .none, noBad, noLock, none⟩,
   ⟨0x0B11, bytes 4, .none, agePlanReadBad, noLock, none⟩,
   ⟨0x0B12, bytes 12, .none, agePlanScheduleBad, noLock, none⟩,
   ⟨0x0B13, bytes 0, .none, noBad, noLock, none⟩]

/-- Every opcode of R139, with those of R60 and R93. -/
def opSpecs : List OpSpec :=
  specs0 ++ specs1 ++ specs2 ++ specs3 ++ specs4 ++ specs5 ++ specs6 ++ specs7 ++ specs8 ++ specs9 ++ specsA ++ specsB

/-- The opcode's row. -/
def opSpec? (op : Nat) : Option OpSpec := opSpecs.find? (fun s => decide (s.code = op))

/-! ## The checks (R127) -/

/-- An existing slice: not FREE, and FENCED only where that is allowed (R184). -/
def Dev.sliceThere (d : Dev) (s : Nat) (fenced : Bool) : Bool :=
  decide (s < 8192 ∧ d.sliceState s ≠ 0) && (fenced || decide (d.sliceState s ≠ 5))

/-- The slice part of check 7. -/
def Dev.namesBad (d : Dev) (c : Cmd) (n : Naming) : Bool :=
  let own (fenced : Bool) : Bool := d.sliceThere c.slice fenced && decide (d.incarnation c.slice = c.pf 0 0 8)
  match n with
  | .none => decide (c.slice ≠ 0xFFFF)
  | .slice => !own false
  | .status => !own true
  | .either => decide (c.slice ≠ 0xFFFF) && !own false
  | .delivery => decide (c.slice ≠ 0xFFFF) && !d.sliceThere c.slice false

/-- Check 7: the slice, the timeout code, the opcode's own parameters. -/
def Dev.paramsBad (d : Dev) (c : Cmd) (s : OpSpec) : Bool :=
  d.namesBad c s.names || (match s.code? with
    | some w => timeoutBad (c.pf w 0 8)
    | none => false) || s.bad c d

/-- Check 8: another command holds an object this one changes. A SLICE_QUIESCE joins the walk of another (R181). -/
def Dev.lockHeld (d : Dev) (c : Cmd) (s : OpSpec) : Bool :=
  let ks := s.locks c d
  d.cmd.cmds.any (fun o => !isCmd c.master c.tag c.gen o && !(decide (c.opcode = 0x0101 ∧ o.opcode = 0x0101)) &&
    o.locks.any ks.contains)

/-- Checks 4 to 8 in order: the status of the first that fails. -/
def Dev.checkCmd (d : Dev) (c : Cmd) : Option Nat :=
  match opSpec? c.opcode with
  | none => some stBadOpcode
  | some s =>
    if !d.lcPermits c.opcode then some stLifecycle
    else if !s.len c d || decide (4080 < c.replyMax) then some stBadLength
    else if d.paramsBad c s then some stBadParam
    else if d.lockHeld c s then some stBusy
    else none

/-! ## COMMAND_TAKE (R120, R121, R127, R128, R131) -/

/-- Words of a master's queue from slot CI on, slot 255 followed by slot 0. -/
def Dev.packetWords (d : Dev) (m ci n : Nat) : List Word :=
  (List.range n).map (fun i => d.reg (Reg.CMD_QUEUES (m * 4096 + (16 * ci + i) % 4096)))

/-- The slots of a taken packet are given back. -/
def Dev.takeSlots (d : Dev) (m n : Nat) : Dev := d.setFld (Reg.CMD_CIm m) 0 16 (d.fld (Reg.CMD_CIm m) 0 16 + n)

/-- The parameter bytes of a key are gone from the slots (R343). -/
def Dev.wipeParams (d : Dev) (m ci n : Nat) : Dev :=
  (List.range n).foldl (fun d i => d.setReg (Reg.CMD_QUEUES (m * 4096 + (16 * ci + 4 + i) % 4096)) 0) d

/-- The first packet of a queue taken: refused with the status of the first check that fails, else outstanding with one
reply slot. -/
def Dev.takePacket (d : Dev) (m : Nat) : Dev :=
  let ci := d.fld (Reg.CMD_CIm m) 0 16
  let avail := fwd16 (d.fld (Reg.CMD_PIm m) 0 16) ci
  let head := d.packetWords m ci 4
  let w0 := wordAt head 0
  let w1 := wordAt head 1
  let w2 := wordAt head 2
  let w3 := wordAt head 3
  let len := Word.fld w2 0 16
  let n := slotsFor len
  let peer := Map.getD d.cmd.peers (ci % 256) 0
  if 4080 < len ∨ avail < n then
    ((d.takeSlots m avail).sqSet (Reg.CMD_STATUSm m) [5]).refuse m w0 w1 w2 stBadLength false [wd avail] peer
  else
    let params := (d.packetWords m ci (4 + ceilDiv len 4)).drop 4
    let c : Cmd := ⟨m, w0, w1, w2, params, .waiting, 1, 0, 0, false, [], 0, false, [], peer⟩
    let d := d.takeSlots m n
    let d := if c.opcode = 0x0400 then d.wipeParams m ci (ceilDiv len 4) else d
    if crc16 (bytesOf [w0, w1, w2] ++ (bytesOf params).take len) ≠ Word.fld w3 0 16 ∨ Word.fld w0 24 8 ≠ 1 ∨ Word.fld w0 19 5 ≠ 0 ∨
        Word.fld w3 16 16 ≠ 0 then d.refuse m w0 w1 w2 stBadHeader false [] peer
    else if (d.cmd? m c.tag c.gen).isSome then d.refuse m w0 w1 w2 stStaleGen true [] peer
    else
      let d := d.setGen m c.tag c.gen
      match d.checkCmd c with
      | some st => d.refuse m w0 w1 w2 st false [] peer
      | none => { d with cmd := { d.cmd with cmds := d.cmd.cmds ++ [c] } }

/-- `COMMAND_TAKE` (R120, R121, R127): from an enabled queue that holds a packet, once a reply slot is free. -/
def execCommandTake (m : Fin 16) (s : State) : Host.Outcome State Fault Refusal :=
  act (fun d =>
    if d.bit (Reg.CMD_CTRLm m.val) 0 && decide (d.fld (Reg.CMD_PIm m.val) 0 16 ≠ d.fld (Reg.CMD_CIm m.val) 0 16 ∧ 0 < d.freeSlots m.val)
    then d.takePacket m.val
    else d) s

/-! ## COMMAND_START (R121, R123, R129, R135) -/

/-- The limit EXP of a command (R135): its timeout code, or CMD_TIMEOUT; above 16 it is 16. -/
def Dev.limitOf (d : Dev) (c : Cmd) (s : OpSpec) : Nat :=
  let own := d.fld Reg.CMD_TIMEOUT 0 5
  Nat.min 16 (match s.code? with
    | some w => if c.pf w 0 8 = 0xFF then own else c.pf w 0 8
    | none => own)

/-- Commands of the same master taken before this one. -/
def Dev.earlier (d : Dev) (c : Cmd) : List Cmd :=
  (d.cmd.cmds.takeWhile (fun o => !isCmd c.master c.tag c.gen o)).filter (fun o => decide (o.master = c.master))

/-- Whether a waiting command may start: in queue order, after every earlier reply where ORDERED, with room for its reply, and
not while an activation holds new commands (R121, R123, R129, R524). -/
def Dev.cmdReady (d : Dev) (c : Cmd) : Bool :=
  decide (c.phase = .waiting) && (d.earlier c).all (fun o => decide (o.phase ≠ .waiting)) && (!c.ordered || (d.earlier c).isEmpty) &&
  decide (slotsFor c.replyMax ≤ d.freeSlots c.master + c.slots) && !d.updHolds

/-- A command starts: it locks its objects, or replies BUSY where one is held, or where it is stepwise and an activation is under
way (R129, R523). -/
def Dev.startCmd (d : Dev) (c : Cmd) (s : OpSpec) : Dev :=
  let d' := d.setCmd c.master c.tag c.gen (fun o => { o with
    phase := .started, slots := slotsFor c.replyMax, startedAt := d.now, exp := d.limitOf c s, locks := s.locks c d })
  let d' := d'.showOutstanding c.master
  if d.lockHeld c s ∨ (stepwise c.opcode = true ∧ 3 ≤ d.updState) then
    (d'.setCmd c.master c.tag c.gen (fun o => { o with locks := [] })).finish c.master c.tag c.gen (Res.st stBusy)
  else d'

/-- `COMMAND_START` (R121). -/
def execCommandStart (m : Fin 16) (tag : Fin 4096) (gen : Fin 16) (s : State) : Host.Outcome State Fault Refusal :=
  act (fun d =>
    match d.cmd? m.val tag.val gen.val with
    | none => d
    | some c =>
      match opSpec? c.opcode with
      | some o => if d.cmdReady c then d.startCmd c o else d
      | none => d) s

/-! ## COMMAND_TIMEOUT (R136) -/

/-- A command's limit has expired: a stepwise command reports the steps that stand; another has applied nothing. -/
def Dev.expireCmd (d : Dev) (c : Cmd) : Dev :=
  let d := { d with cry := { d.cry with waits := d.cry.waits.filter (fun w => decide (w.2.2 ≠ (c.master, c.tag, c.gen))) } }
  let done (data : List Word) : Dev := d.finish c.master c.tag c.gen ⟨stTimeout, data, false⟩
  match c.opcode with
  | 0x0101 => done (d.walkReport c.slice)
  | 0x0204 => done ((d.stopWords (c.pf 0 0 6) false).take 1)
  | 0x030B => done [0]
  | 0x0304 => d.swapTimeout c
  | 0x0A03 => d.actTimeout c
  | 0x0904 =>
    let d := { d with trl := { d.trl with peerCmds := d.trl.peerCmds.filter (fun p => decide (p.2 ≠ (c.master, c.tag, c.gen))) } }
    d.finish c.master c.tag c.gen (Res.st stTimeout)
  | _ => done []

/-- `COMMAND_TIMEOUT` (R136): of a started command without a result; one that has raised its strobe goes on, unless it is
stepwise. -/
def execCommandTimeout (m : Fin 16) (tag : Fin 4096) (gen : Fin 16) (s : State) : Host.Outcome State Fault Refusal :=
  act (fun d =>
    match d.cmd? m.val tag.val gen.val with
    | none => d
    | some c =>
      if c.phase = .started ∧ (c.strobed = false ∨ stepwise c.opcode = true) then
        (d.expireCmd c).sqSet (Reg.CMD_STATUSm m.val) [1]
      else d) s

end Sys2Proof.Machine
end

