-- ==== Sys2Proof/Machine/Dispatch.lean ====
section
/-! DEFINITION. The meaning of each command. -/

namespace Sys2Proof.Machine

def exec (i : Instr) (s : State) : Host.Outcome State Fault Refusal :=
  match i with
  | .registerWrite m bar off size lo hi => Sys2Proof.Machine.execRegisterWrite m bar off size lo hi s
  | .sqClearWrite k v => Sys2Proof.Machine.execSqClearWrite k v s
  | .glbCommitWrite m v => Sys2Proof.Machine.execGlbCommitWrite m v s
  | .glbDiscardWrite v => Sys2Proof.Machine.execGlbDiscardWrite v s
  | .glbDirectWrite m v => Sys2Proof.Machine.execGlbDirectWrite m v s
  | .directModeWrite m k v => Sys2Proof.Machine.execDirectModeWrite m k v s
  | .glbCommitAtMaskWrite m v => Sys2Proof.Machine.execGlbCommitAtMaskWrite m v s
  | .commitAtFire => Sys2Proof.Machine.execCommitAtFire s
  | .strobeApply => Sys2Proof.Machine.execStrobeApply s
  | .gzxEdge k t => Sys2Proof.Machine.execGzxEdge k t s
  | .gsyncFrame bytes violation => Sys2Proof.Machine.execGsyncFrame bytes violation s
  | .angleWrap n => Sys2Proof.Machine.execAngleWrap n s
  | .holdoverEntry n => Sys2Proof.Machine.execHoldoverEntry n s
  | .freerunEntry n => Sys2Proof.Machine.execFreerunEntry n s
  | .snapshotTake v => Sys2Proof.Machine.execSnapshotTake v s
  | .angleEventDispatch c x => Sys2Proof.Machine.execAngleEventDispatch c x s
  | .gateApply p sent sentB => Sys2Proof.Machine.execGateApply p sent sentB s
  | .sampleSetClose g => Sys2Proof.Machine.execSampleSetClose g s
  | .gooseEvent x => Sys2Proof.Machine.execGooseEvent x s
  | .angleDoorbell slice => Sys2Proof.Machine.execAngleDoorbell slice s
  | .angleDmaKick c => Sys2Proof.Machine.execAngleDmaKick c s
  | .angleWake t => Sys2Proof.Machine.execAngleWake t s
  | .angleCommit => Sys2Proof.Machine.execAngleCommit s
  | .angleActivate => Sys2Proof.Machine.execAngleActivate s
  | .stamp slot => Sys2Proof.Machine.execStamp slot s
  | .angleNotify m => Sys2Proof.Machine.execAngleNotify m s
  | .ppsInEdge => Sys2Proof.Machine.execPpsInEdge s
  | .ptpSecond => Sys2Proof.Machine.execPtpSecond s
  | .ppsOutEnd => Sys2Proof.Machine.execPpsOutEnd s
  | .ptpTimeStep t => Sys2Proof.Machine.execPtpTimeStep t s
  | .angleRefSet m tag gen => Sys2Proof.Machine.execAngleRefSet m tag gen s
  | .angleStatus m tag gen => Sys2Proof.Machine.execAngleStatus m tag gen s
  | .angleEventAdd m tag gen => Sys2Proof.Machine.execAngleEventAdd m tag gen s
  | .angleEventRemove m tag gen => Sys2Proof.Machine.execAngleEventRemove m tag gen s
  | .angleTie m tag gen => Sys2Proof.Machine.execAngleTie m tag gen s
  | .angleSnapshot m tag gen => Sys2Proof.Machine.execAngleSnapshot m tag gen s
  | .anglePtpSet m tag gen => Sys2Proof.Machine.execAnglePtpSet m tag gen s
  | .windowStart => Sys2Proof.Machine.execWindowStart s
  | .refusedUnitAdmitted p u => Sys2Proof.Machine.execRefusedUnitAdmitted p u s
  | .gstressChange level => Sys2Proof.Machine.execGstressChange level s
  | .gstressAccept => Sys2Proof.Machine.execGstressAccept s
  | .tempReading readings => Sys2Proof.Machine.execTempReading readings s
  | .ringOscillatorRead readings outside => Sys2Proof.Machine.execRingOscillatorRead readings outside s
  | .leakageRead readings outside => Sys2Proof.Machine.execLeakageRead readings outside s
  | .eyeMonitorRead readings outside => Sys2Proof.Machine.execEyeMonitorRead readings outside s
  | .hbmProbeRead readings outside => Sys2Proof.Machine.execHbmProbeRead readings outside s
  | .dailyAgeingRecord => Sys2Proof.Machine.execDailyAgeingRecord s
  | .monthlyAgeingRecord => Sys2Proof.Machine.execMonthlyAgeingRecord s
  | .periodicReplan want => Sys2Proof.Machine.execPeriodicReplan want s
  | .marginShortReplan want quarter => Sys2Proof.Machine.execMarginShortReplan want quarter s
  | .planApply => Sys2Proof.Machine.execPlanApply s
  | .avsVoltageStep ok => Sys2Proof.Machine.execAvsVoltageStep ok s
  | .avsWriteRetry ok => Sys2Proof.Machine.execAvsWriteRetry ok s
  | .energyCapSet m tag gen => Sys2Proof.Machine.execEnergyCapSet m tag gen s
  | .energyStatus m tag gen => Sys2Proof.Machine.execEnergyStatus m tag gen s
  | .energySliceRead m tag gen => Sys2Proof.Machine.execEnergySliceRead m tag gen s
  | .energySliceLimit m tag gen => Sys2Proof.Machine.execEnergySliceLimit m tag gen s
  | .energyClassSet m tag gen => Sys2Proof.Machine.execEnergyClassSet m tag gen s
  | .energyStressForce m tag gen => Sys2Proof.Machine.execEnergyStressForce m tag gen s
  | .energyTableRead m tag gen => Sys2Proof.Machine.execEnergyTableRead m tag gen s
  | .ageReport m tag gen => Sys2Proof.Machine.execAgeReport m tag gen s
  | .agePlanRead m tag gen => Sys2Proof.Machine.execAgePlanRead m tag gen s
  | .agePlanSchedule m tag gen => Sys2Proof.Machine.execAgePlanSchedule m tag gen s
  | .ageReplanNow m tag gen want => Sys2Proof.Machine.execAgeReplanNow m tag gen want s
  | .mbxInWrite m v => Sys2Proof.Machine.execMbxInWrite m v s
  | .mbxInTake m => Sys2Proof.Machine.execMbxInTake m s
  | .mbxOutPost m => Sys2Proof.Machine.execMbxOutPost m s
  | .mbxOutAckWrite m v => Sys2Proof.Machine.execMbxOutAckWrite m v s
  | .cmdPiWrite m v => Sys2Proof.Machine.execCmdPiWrite m v s
  | .cmdRciWrite m v => Sys2Proof.Machine.execCmdRciWrite m v s
  | .mctpCommandMessage vendor words => Sys2Proof.Machine.execMctpCommandMessage vendor words s
  | .commandTake m => Sys2Proof.Machine.execCommandTake m s
  | .commandStart m tag gen => Sys2Proof.Machine.execCommandStart m tag gen s
  | .commandReply m tag gen => Sys2Proof.Machine.execCommandReply m tag gen s
  | .commandTimeout m tag gen => Sys2Proof.Machine.execCommandTimeout m tag gen s
  | .mringEntry w0 w1 w2 w3 => Sys2Proof.Machine.execMringEntry w0 w1 w2 w3 s
  | .nop m tag gen => Sys2Proof.Machine.execNop m tag gen s
  | .deviceInfo m tag gen => Sys2Proof.Machine.execDeviceInfo m tag gen s
  | .deviceStatus m tag gen => Sys2Proof.Machine.execDeviceStatus m tag gen s
  | .cmdCancel m tag gen => Sys2Proof.Machine.execCmdCancel m tag gen s
  | .leesRead m tag gen => Sys2Proof.Machine.execLeesRead m tag gen s
  | .notifyCfg m tag gen => Sys2Proof.Machine.execNotifyCfg m tag gen s
  | .regRead m tag gen => Sys2Proof.Machine.execRegRead m tag gen s
  | .regWrite m tag gen => Sys2Proof.Machine.execRegWrite m tag gen s
  | .commit m tag gen => Sys2Proof.Machine.execCommit m tag gen s
  | .deviceReset m tag gen => Sys2Proof.Machine.execDeviceReset m tag gen s
  | .pcieLinkUp l rate width flit => Sys2Proof.Machine.execPcieLinkUp l rate width flit s
  | .perstDeassert e strap => Sys2Proof.Machine.execPerstDeassert e strap s
  | .linkDown l => Sys2Proof.Machine.execLinkDown l s
  | .busMasterDisable f => Sys2Proof.Machine.execBusMasterDisable f s
  | .powerStateWrite f d3 => Sys2Proof.Machine.execPowerStateWrite f d3 s
  | .functionLevelReset f => Sys2Proof.Machine.execFunctionLevelReset f s
  | .flrComplete f => Sys2Proof.Machine.execFlrComplete f s
  | .l0pEntry l => Sys2Proof.Machine.execL0pEntry l s
  | .l0pExit l => Sys2Proof.Machine.execL0pExit l s
  | .l1Entry l sub => Sys2Proof.Machine.execL1Entry l sub s
  | .pcieCompletion l tag status poisoned bytes => Sys2Proof.Machine.execPcieCompletion l tag status poisoned bytes s
  | .completionTimeout l tag => Sys2Proof.Machine.execCompletionTimeout l tag s
  | .quarantineExpiry l tag => Sys2Proof.Machine.execQuarantineExpiry l tag s
  | .pageRequestResponse slice addr ok => Sys2Proof.Machine.execPageRequestResponse slice addr ok s
  | .atsInvalidateComplete l slice => Sys2Proof.Machine.execAtsInvalidateComplete l slice s
  | .imsEntryWrite m v => Sys2Proof.Machine.execImsEntryWrite m v s
  | .msixUnmask f vec => Sys2Proof.Machine.execMsixUnmask f vec s
  | .doorbellWrite f addr size lo hi => Sys2Proof.Machine.execDoorbellWrite f addr size lo hi s
  | .slcCorkWrite v => Sys2Proof.Machine.execSlcCorkWrite v s
  | .quiesceStepDone slice => Sys2Proof.Machine.execQuiesceStepDone slice s
  | .fenceClose slice => Sys2Proof.Machine.execFenceClose slice s
  | .sliceCreate m tag gen => Sys2Proof.Machine.execSliceCreate m tag gen s
  | .sliceQuiesce m tag gen => Sys2Proof.Machine.execSliceQuiesce m tag gen s
  | .sliceReset m tag gen => Sys2Proof.Machine.execSliceReset m tag gen s
  | .sliceDestroy m tag gen => Sys2Proof.Machine.execSliceDestroy m tag gen s
  | .sliceStatus m tag gen => Sys2Proof.Machine.execSliceStatus m tag gen s
  | .sliceUncork m tag gen => Sys2Proof.Machine.execSliceUncork m tag gen s
  | .sliceDirtyLog m tag gen => Sys2Proof.Machine.execSliceDirtyLog m tag gen s
  | .sliceStateSave m tag gen => Sys2Proof.Machine.execSliceStateSave m tag gen s
  | .sliceStateLoad m tag gen words => Sys2Proof.Machine.execSliceStateLoad m tag gen words s
  | .queueCreate m tag gen => Sys2Proof.Machine.execQueueCreate m tag gen s
  | .queueDestroy m tag gen => Sys2Proof.Machine.execQueueDestroy m tag gen s
  | .queueStatus m tag gen => Sys2Proof.Machine.execQueueStatus m tag gen s
  | .dmaChannelSet m tag gen => Sys2Proof.Machine.execDmaChannelSet m tag gen s
  | .dmaChannelStop m tag gen => Sys2Proof.Machine.execDmaChannelStop m tag gen s
  | .sqDoorbellService q => Sys2Proof.Machine.execSqDoorbellService q s
  | .sqEntryFetch q entry table code fault => Sys2Proof.Machine.execSqEntryFetch q entry table code fault s
  | .txItemComplete x => Sys2Proof.Machine.execTxItemComplete x s
  | .txTimestampTaken f => Sys2Proof.Machine.execTxTimestampTaken f s
  | .cqModerationExpiry q => Sys2Proof.Machine.execCqModerationExpiry q s
  | .dmaKickWrite c => Sys2Proof.Machine.execDmaKickWrite c s
  | .dmaDisableWrite c v => Sys2Proof.Machine.execDmaDisableWrite c v s
  | .dmaDescriptorStart c words src dst code => Sys2Proof.Machine.execDmaDescriptorStart c words src dst code s
  | .dmaChunk c bytes code => Sys2Proof.Machine.execDmaChunk c bytes code s
  | .dmaWriteback c => Sys2Proof.Machine.execDmaWriteback c s
  | .pressPass f => Sys2Proof.Machine.execPressPass f s
  | .fragHoldExpiry f => Sys2Proof.Machine.execFragHoldExpiry f s
  | .fragEntryExpiry n => Sys2Proof.Machine.execFragEntryExpiry n s
  | .l4CsumFill f => Sys2Proof.Machine.execL4CsumFill f s
  | .profileSet m tag gen => Sys2Proof.Machine.execProfileSet m tag gen s
  | .classifierLookup f => Sys2Proof.Machine.execClassifierLookup f s
  | .recircEntry p => Sys2Proof.Machine.execRecircEntry p s
  | .tableClearDone t => Sys2Proof.Machine.execTableClearDone t s
  | .timedVintageFlip => Sys2Proof.Machine.execTimedVintageFlip s
  | .drainComplete => Sys2Proof.Machine.execDrainComplete s
  | .bankCopyDone t => Sys2Proof.Machine.execBankCopyDone t s
  | .readyHoldExpiry => Sys2Proof.Machine.execReadyHoldExpiry s
  | .clsEntRead => Sys2Proof.Machine.execClsEntRead s
  | .clsEntWrite => Sys2Proof.Machine.execClsEntWrite s
  | .clsEntInvalidate => Sys2Proof.Machine.execClsEntInvalidate s
  | .ruleTableSet m tag gen => Sys2Proof.Machine.execRuleTableSet m tag gen s
  | .ruleAdd m tag gen => Sys2Proof.Machine.execRuleAdd m tag gen s
  | .ruleDelete m tag gen => Sys2Proof.Machine.execRuleDelete m tag gen s
  | .ruleBankSwap m tag gen => Sys2Proof.Machine.execRuleBankSwap m tag gen s
  | .forwardingLookup f => Sys2Proof.Machine.execForwardingLookup f s
  | .learnApply => Sys2Proof.Machine.execLearnApply s
  | .fwdTableRead => Sys2Proof.Machine.execFwdTableRead s
  | .fwdTableWrite => Sys2Proof.Machine.execFwdTableWrite s
  | .fwdTableInvalidate => Sys2Proof.Machine.execFwdTableInvalidate s
  | .fwdTableSearch => Sys2Proof.Machine.execFwdTableSearch s
  | .fwdTableInsert => Sys2Proof.Machine.execFwdTableInsert s
  | .fwdTableDelete => Sys2Proof.Machine.execFwdTableDelete s
  | .tcmRead => Sys2Proof.Machine.execTcmRead s
  | .tcmWrite => Sys2Proof.Machine.execTcmWrite s
  | .tcmInvalidate => Sys2Proof.Machine.execTcmInvalidate s
  | .rackingMove x j => Sys2Proof.Machine.execRackingMove x j s
  | .l2Add m tag gen => Sys2Proof.Machine.execL2Add m tag gen s
  | .l2Delete m tag gen => Sys2Proof.Machine.execL2Delete m tag gen s
  | .flowAdd m tag gen => Sys2Proof.Machine.execFlowAdd m tag gen s
  | .flowDelete m tag gen => Sys2Proof.Machine.execFlowDelete m tag gen s
  | .lpmAdd m tag gen => Sys2Proof.Machine.execLpmAdd m tag gen s
  | .lpmDelete m tag gen => Sys2Proof.Machine.execLpmDelete m tag gen s
  | .hitScan m tag gen => Sys2Proof.Machine.execHitScan m tag gen s
  | .threadWakeUp t => Sys2Proof.Machine.execThreadWakeUp t s
  | .threadAdmit t => Sys2Proof.Machine.execThreadAdmit t s
  | .eventWait t mask => Sys2Proof.Machine.execEventWait t mask s
  | .threadExit t => Sys2Proof.Machine.execThreadExit t s
  | .chargeSliceSet t slice => Sys2Proof.Machine.execChargeSliceSet t slice s
  | .channelPut t chan w fin => Sys2Proof.Machine.execChannelPut t chan w fin s
  | .channelHoldTimeout c chan => Sys2Proof.Machine.execChannelHoldTimeout c chan s
  | .acceleratorResponse t => Sys2Proof.Machine.execAcceleratorResponse t s
  | .mgmtChannelRequest t op => Sys2Proof.Machine.execMgmtChannelRequest t op s
  | .cellarChannelRequest t op => Sys2Proof.Machine.execCellarChannelRequest t op s
  | .hbmChannelRequest t op => Sys2Proof.Machine.execHbmChannelRequest t op s
  | .lookupChannelRequest t op => Sys2Proof.Machine.execLookupChannelRequest t op s
  | .hashChannelRequest t op => Sys2Proof.Machine.execHashChannelRequest t op s
  | .frameChannelRequest t op => Sys2Proof.Machine.execFrameChannelRequest t op s
  | .recircChannelRequest t handle profile start => Sys2Proof.Machine.execRecircChannelRequest t handle profile start s
  | .dmaChannelRequest t c => Sys2Proof.Machine.execDmaChannelRequest t c s
  | .timerChannelRequest t op => Sys2Proof.Machine.execTimerChannelRequest t op s
  | .eventChannelRequest t dst bits => Sys2Proof.Machine.execEventChannelRequest t dst bits s
  | .stoChannelRequest t op => Sys2Proof.Machine.execStoChannelRequest t op s
  | .seal t => Sys2Proof.Machine.execSeal t s
  | .cipherOpen t => Sys2Proof.Machine.execOpen t s
  | .ctr t => Sys2Proof.Machine.execCtr t s
  | .xtsEnc t => Sys2Proof.Machine.execXtsEnc t s
  | .xtsDec t => Sys2Proof.Machine.execXtsDec t s
  | .trlPeerWriteRequest t => Sys2Proof.Machine.execTrlPeerWriteRequest t s
  | .trlPeerReadRequest t => Sys2Proof.Machine.execTrlPeerReadRequest t s
  | .trlSendRequest t => Sys2Proof.Machine.execTrlSendRequest t s
  | .inject t => Sys2Proof.Machine.execInject t s
  | .groupRead t => Sys2Proof.Machine.execGroupRead t s
  | .inboundEnqueue f => Sys2Proof.Machine.execInboundEnqueue f s
  | .inboundTake t chan => Sys2Proof.Machine.execInboundTake t chan s
  | .eventClear t bits => Sys2Proof.Machine.execEventClear t bits s
  | .threadTimerExpiry t x => Sys2Proof.Machine.execThreadTimerExpiry t x s
  | .allWaitDetect c => Sys2Proof.Machine.execAllWaitDetect c s
  | .fpcThrResetWrite t v => Sys2Proof.Machine.execFpcThrResetWrite t v s
  | .halt t => Sys2Proof.Machine.execHalt t s
  | .resume t => Sys2Proof.Machine.execResume t s
  | .release t => Sys2Proof.Machine.execRelease t s
  | .coreTakeover c core lost => Sys2Proof.Machine.execCoreTakeover c core lost s
  | .cipherMessageArrive f => Sys2Proof.Machine.execCipherMessageArrive f s
  | .cipherBatchIssue e => Sys2Proof.Machine.execCipherBatchIssue e s
  | .cipherMessageDone e => Sys2Proof.Machine.execCipherMessageDone e s
  | .cipherEngineFault e => Sys2Proof.Machine.execCipherEngineFault e s
  | .cipherEngineReturn e pass => Sys2Proof.Machine.execCipherEngineReturn e pass s
  | .saSoftExpiry slot x => Sys2Proof.Machine.execSaSoftExpiry slot x s
  | .saHardExpiry slot x => Sys2Proof.Machine.execSaHardExpiry slot x s
  | .keyCopyReleased sa x => Sys2Proof.Machine.execKeyCopyReleased sa x s
  | .keyLoad slot => Sys2Proof.Machine.execKeyLoad slot s
  | .keyZero slot => Sys2Proof.Machine.execKeyZero slot s
  | .keySlotWrite m tag gen => Sys2Proof.Machine.execKeySlotWrite m tag gen s
  | .keySlotZero m tag gen => Sys2Proof.Machine.execKeySlotZero m tag gen s
  | .saDecant m tag gen => Sys2Proof.Machine.execSaDecant m tag gen s
  | .saDelete m tag gen => Sys2Proof.Machine.execSaDelete m tag gen s
  | .saStatus m tag gen => Sys2Proof.Machine.execSaStatus m tag gen s
  | .stoObjRead v => Sys2Proof.Machine.execStoObjRead v s
  | .stoObjCreate v => Sys2Proof.Machine.execStoObjCreate v s
  | .stoObjDestroy v => Sys2Proof.Machine.execStoObjDestroy v s
  | .stoObjConnect v => Sys2Proof.Machine.execStoObjConnect v s
  | .connectSuccess k cntlid inCapsule depth => Sys2Proof.Machine.execConnectSuccess k cntlid inCapsule depth s
  | .connectFail k => Sys2Proof.Machine.execConnectFail k s
  | .connectionLoss k badHeader => Sys2Proof.Machine.execConnectionLoss k badHeader s
  | .reconnectExpiry k => Sys2Proof.Machine.execReconnectExpiry k s
  | .ctrlLossExpiry k => Sys2Proof.Machine.execCtrlLossExpiry k s
  | .closeDone k => Sys2Proof.Machine.execCloseDone k s
  | .keepAliveSend k => Sys2Proof.Machine.execKeepAliveSend k s
  | .katoExpiry k => Sys2Proof.Machine.execKatoExpiry k s
  | .tcpRetransmitTimeout k => Sys2Proof.Machine.execTcpRetransmitTimeout k s
  | .nvmeCommandFetch k entry walked data code => Sys2Proof.Machine.execNvmeCommandFetch k entry walked data code s
  | .nvmeResponse k words => Sys2Proof.Machine.execNvmeResponse k words s
  | .c2hData k cid off bytes digestOk success => Sys2Proof.Machine.execC2hData k cid off bytes digestOk success s
  | .readyToTransfer k cid off len => Sys2Proof.Machine.execReadyToTransfer k cid off len s
  | .c2hTermReq k => Sys2Proof.Machine.execC2hTermReq k s
  | .nvmeCommandTimeout k cid => Sys2Proof.Machine.execNvmeCommandTimeout k cid s
  | .stoQuiesceExpiry slice => Sys2Proof.Machine.execStoQuiesceExpiry slice s
  | .nodeEnqueue f => Sys2Proof.Machine.execNodeEnqueue f s
  | .portGrant p sent => Sys2Proof.Machine.execPortGrant p sent s
  | .topUp => Sys2Proof.Machine.execTopUp s
  | .shaperSet m tag gen => Sys2Proof.Machine.execShaperSet m tag gen s
  | .nodeAttach m tag gen => Sys2Proof.Machine.execNodeAttach m tag gen s
  | .gateListSet m tag gen => Sys2Proof.Machine.execGateListSet m tag gen s
  | .schedStatus m tag gen => Sys2Proof.Machine.execSchedStatus m tag gen s
  | .linkSignalDetect p => Sys2Proof.Machine.execLinkSignalDetect p s
  | .linkTrainingDone p => Sys2Proof.Machine.execLinkTrainingDone p s
  | .linkTrainingTimeout p => Sys2Proof.Machine.execLinkTrainingTimeout p s
  | .linkAligned p => Sys2Proof.Machine.execLinkAligned p s
  | .linkLockLoss p localFault => Sys2Proof.Machine.execLinkLockLoss p localFault s
  | .remoteFaultReceived p => Sys2Proof.Machine.execRemoteFaultReceived p s
  | .remoteFaultCleared p => Sys2Proof.Machine.execRemoteFaultCleared p s
  | .macFrameReceive p bytes fin => Sys2Proof.Machine.execMacFrameReceive p bytes fin s
  | .macTransmitEnd p => Sys2Proof.Machine.execMacTransmitEnd p s
  | .txOffload f => Sys2Proof.Machine.execTxOffload f s
  | .verifyMpacket p response => Sys2Proof.Machine.execVerifyMpacket p response s
  | .lroHoldExpiry x => Sys2Proof.Machine.execLroHoldExpiry x s
  | .mgtFrameReceive bytes good => Sys2Proof.Machine.execMgtFrameReceive bytes good s
  | .mgtTxTailWrite m v => Sys2Proof.Machine.execMgtTxTailWrite m v s
  | .mgtTxDone => Sys2Proof.Machine.execMgtTxDone s
  | .portModeSet m tag gen => Sys2Proof.Machine.execPortModeSet m tag gen s
  | .portStatus m tag gen => Sys2Proof.Machine.execPortStatus m tag gen s
  | .portStatsRead m tag gen => Sys2Proof.Machine.execPortStatsRead m tag gen s
  | .redundancySet m tag gen => Sys2Proof.Machine.execRedundancySet m tag gen s
  | .dupNodeForget x => Sys2Proof.Machine.execDupNodeForget x s
  | .svFrame f => Sys2Proof.Machine.execSvFrame f s
  | .sampleSetWaitExpiry g => Sys2Proof.Machine.execSampleSetWaitExpiry g s
  | .gooseFrame f => Sys2Proof.Machine.execGooseFrame f s
  | .gooseStale x => Sys2Proof.Machine.execGooseStale x s
  | .gooseFastRetransmit x => Sys2Proof.Machine.execGooseFastRetransmit x s
  | .gooseHeartbeat x => Sys2Proof.Machine.execGooseHeartbeat x s
  | .pbuLockstepFault => Sys2Proof.Machine.execPbuLockstepFault s
  | .pbuEntReadActive v => Sys2Proof.Machine.execPbuEntReadActive v s
  | .pbuEntReadStaged v => Sys2Proof.Machine.execPbuEntReadStaged v s
  | .pbuEntWriteStaged m v => Sys2Proof.Machine.execPbuEntWriteStaged m v s
  | .svSubscribe m tag gen => Sys2Proof.Machine.execSvSubscribe m tag gen s
  | .svUnsubscribe m tag gen => Sys2Proof.Machine.execSvUnsubscribe m tag gen s
  | .gooseSubscribe m tag gen => Sys2Proof.Machine.execGooseSubscribe m tag gen s
  | .gooseUnsubscribe m tag gen => Sys2Proof.Machine.execGooseUnsubscribe m tag gen s
  | .goosePublishSet m tag gen => Sys2Proof.Machine.execGoosePublishSet m tag gen s
  | .alignerGroupSet m tag gen => Sys2Proof.Machine.execAlignerGroupSet m tag gen s
  | .pbuStatus m tag gen => Sys2Proof.Machine.execPbuStatus m tag gen s
  | .trlLinkSignalDetect t => Sys2Proof.Machine.execTrlLinkSignalDetect t s
  | .trlLinkTrainingDone t => Sys2Proof.Machine.execTrlLinkTrainingDone t s
  | .trlLinkTrainingTimeout t => Sys2Proof.Machine.execTrlLinkTrainingTimeout t s
  | .trlLinkAligned t => Sys2Proof.Machine.execTrlLinkAligned t s
  | .trlLinkLockLoss t => Sys2Proof.Machine.execTrlLinkLockLoss t s
  | .helloSend via => Sys2Proof.Machine.execHelloSend via s
  | .hello via h => Sys2Proof.Machine.execHello via h s
  | .pathDead id => Sys2Proof.Machine.execPathDead id s
  | .trellisRetransmit id => Sys2Proof.Machine.execTrellisRetransmit id s
  | .wepomerFrame w => Sys2Proof.Machine.execWepomerFrame w s
  | .learn => Sys2Proof.Machine.execLearn s
  | .syncBegin => Sys2Proof.Machine.execSyncBegin s
  | .syncEnd => Sys2Proof.Machine.execSyncEnd s
  | .vintagePrepare => Sys2Proof.Machine.execVintagePrepare s
  | .ready => Sys2Proof.Machine.execReady s
  | .refuse => Sys2Proof.Machine.execRefuse s
  | .vintageAbort => Sys2Proof.Machine.execVintageAbort s
  | .vintageActivate => Sys2Proof.Machine.execVintageActivate s
  | .vintageDone => Sys2Proof.Machine.execVintageDone s
  | .peerWrite => Sys2Proof.Machine.execPeerWrite s
  | .peerRead host => Sys2Proof.Machine.execPeerRead host s
  | .peerResp => Sys2Proof.Machine.execPeerResp s
  | .angleExport => Sys2Proof.Machine.execAngleExport s
  | .angle => Sys2Proof.Machine.execAngle s
  | .frame => Sys2Proof.Machine.execFrame s
  | .send => Sys2Proof.Machine.execSend s
  | .cmd => Sys2Proof.Machine.execCmd s
  | .reply => Sys2Proof.Machine.execReply s
  | .mbxIn => Sys2Proof.Machine.execMbxIn s
  | .mbxOut => Sys2Proof.Machine.execMbxOut s
  | .actPrepare room fits => Sys2Proof.Machine.execActPrepare room fits s
  | .actReady => Sys2Proof.Machine.execActReady s
  | .actRefuse => Sys2Proof.Machine.execActRefuse s
  | .actCommit => Sys2Proof.Machine.execActCommit s
  | .actAbort => Sys2Proof.Machine.execActAbort s
  | .actResult => Sys2Proof.Machine.execActResult s
  | .trellisPortSet m tag gen => Sys2Proof.Machine.execTrellisPortSet m tag gen s
  | .trellisDomainSet m tag gen => Sys2Proof.Machine.execTrellisDomainSet m tag gen s
  | .trellisWindowSet m tag gen => Sys2Proof.Machine.execTrellisWindowSet m tag gen s
  | .trellisStatus m tag gen => Sys2Proof.Machine.execTrellisStatus m tag gen s
  | .trellisPeerCmd m tag gen => Sys2Proof.Machine.execTrellisPeerCmd m tag gen s
  | .pipelineFault p kind loc => Sys2Proof.Machine.execPipelineFault p kind loc s
  | .pipelineTastingDone p good => Sys2Proof.Machine.execPipelineTastingDone p good s
  | .contextCheckpoint p => Sys2Proof.Machine.execContextCheckpoint p s
  | .correctedError row unit loc => Sys2Proof.Machine.execCorrectedError row unit loc s
  | .uncorrectableError e loc => Sys2Proof.Machine.execUncorrectableError e loc s
  | .poweredHour => Sys2Proof.Machine.execPoweredHour s
  | .watchdogExpiry => Sys2Proof.Machine.execWatchdogExpiry s
  | .fltHaltResetWrite v => Sys2Proof.Machine.execFltHaltResetWrite v s
  | .faultLogRead m tag gen => Sys2Proof.Machine.execFaultLogRead m tag gen s
  | .tastingRun m tag gen good => Sys2Proof.Machine.execTastingRun m tag gen good s
  | .countersRead m tag gen => Sys2Proof.Machine.execCountersRead m tag gen s
  | .sysRstAssert => Sys2Proof.Machine.execSysRstAssert s
  | .sysRstDeassert tid hold => Sys2Proof.Machine.execSysRstDeassert tid hold s
  | .bootStageDone r => Sys2Proof.Machine.execBootStageDone r s
  | .bootStageDeadline => Sys2Proof.Machine.execBootStageDeadline s
  | .powerGoodFall g => Sys2Proof.Machine.execPowerGoodFall g s
  | .powerGoodRise => Sys2Proof.Machine.execPowerGoodRise s
  | .supplyFaultHold g mv => Sys2Proof.Machine.execSupplyFaultHold g mv s
  | .railOutOfWindow r => Sys2Proof.Machine.execRailOutOfWindow r s
  | .pairInChange level => Sys2Proof.Machine.execPairInChange level s
  | .patrolScrub hbm => Sys2Proof.Machine.execPatrolScrub hbm s
  | .lifecycleLatch => Sys2Proof.Machine.execLifecycleLatch s
  | .jtagInstruction j => Sys2Proof.Machine.execJtagInstruction j s
  | .glitchDetect => Sys2Proof.Machine.execGlitchDetect s
  | .lcStatus m tag gen => Sys2Proof.Machine.execLcStatus m tag gen s
  | .lcTransition m tag gen => Sys2Proof.Machine.execLcTransition m tag gen s
  | .lcTransitionReset => Sys2Proof.Machine.execLcTransitionReset s
  | .updateStage m tag gen => Sys2Proof.Machine.execUpdateStage m tag gen s
  | .bankEraseDone => Sys2Proof.Machine.execBankEraseDone s
  | .updateSchedule m tag gen room fits => Sys2Proof.Machine.execUpdateSchedule m tag gen room fits s
  | .updateConfirm m tag gen => Sys2Proof.Machine.execUpdateConfirm m tag gen s
  | .updateStatus m tag gen => Sys2Proof.Machine.execUpdateStatus m tag gen s
  | .attestMeasure m tag gen => Sys2Proof.Machine.execAttestMeasure m tag gen s
  | .activationStart => Sys2Proof.Machine.execActivationStart s
  | .activationDrainExpiry => Sys2Proof.Machine.execActivationDrainExpiry s
  | .activationCheckDone => Sys2Proof.Machine.execActivationCheckDone s
  | .activationFpcTimeout t => Sys2Proof.Machine.execActivationFpcTimeout t s
  | .activationComplete place => Sys2Proof.Machine.execActivationComplete place s
  | .actReadyExpiry => Sys2Proof.Machine.execActReadyExpiry s
  | .getVersion req => Sys2Proof.Machine.execGetVersion req s
  | .getCapabilities req => Sys2Proof.Machine.execGetCapabilities req s
  | .negotiateAlgorithms req => Sys2Proof.Machine.execNegotiateAlgorithms req s
  | .getDigests req => Sys2Proof.Machine.execGetDigests req s
  | .getCertificate req => Sys2Proof.Machine.execGetCertificate req s
  | .challenge req => Sys2Proof.Machine.execChallenge req s
  | .getMeasurements req => Sys2Proof.Machine.execGetMeasurements req s
  | .pldmRequestUpdate req => Sys2Proof.Machine.execPldmRequestUpdate req s
  | .pldmTransfer offset data last => Sys2Proof.Machine.execPldmTransfer offset data last s
  | .pldmActivateFirmware room fits => Sys2Proof.Machine.execPldmActivateFirmware room fits s
  | .busMasterEnable f => Sys2Proof.Machine.execBusMasterEnable f s
  | .msixEnableWrite f on => Sys2Proof.Machine.execMsixEnableWrite f on s
  | .instructionIssue t r => Sys2Proof.Machine.execInstructionIssue t r s
  | .coreTastingDone c pass => Sys2Proof.Machine.execCoreTastingDone c pass s
  | .slowEdge => Sys2Proof.Machine.execSlowEdge s
  | .gsyncSignalChange present => Sys2Proof.Machine.execGsyncSignalChange present s
  | .mctpControlMessage req => Sys2Proof.Machine.execMctpControlMessage req s
  | .railWithinWindow r => Sys2Proof.Machine.execRailWithinWindow r s

end Sys2Proof.Machine
end

