-- ==== Sys2Proof/Machine/Step.lean ====
section
/-! DEFINITION. One step: the command at the front of the queue runs; on an empty queue one GAU clock passes. -/

namespace Sys2Proof.Machine

/-- With no command waiting a GAU clock passes, on a device that is neither in reset nor halted (log entry 1). -/
def State.idle (s : State) : State := s.onDev (fun d => if d.pins.rstLow || d.halted then d else d.tick)

/-- One step: the front command leaves the queue and runs (log entry 1). -/
def step (s : State) : Host.Outcome State Fault Refusal :=
  match s.pending with
  | [] => .next s.idle
  | i :: rest => exec i { s with pending := rest }

/-- The state with the command that a table word spells at the front of its queue. -/
def State.withFetchWord (s : State) (nbits w : Nat) : State :=
  match Sys2Proof.decodeTableWord nbits w with
  | some i => { s with pending := i :: s.pending }
  | none => s

end Sys2Proof.Machine
end

