-- ==== Sys2Proof/Safety.lean ====
section
/-! DEFINITION. What counts as a safe run, in the terms statements use. -/

namespace Sys2Proof.Machine

/-- A state with a command at the front of its queue. -/
def State.push (s : State) (i : Instr) : State := { s with pending := i :: s.pending }

/-- The register file is in its one canonical form: keys strictly rising, no register listed at its reset value; no expert
mark twice. -/
def RegFile.wf (rf : RegFile) : Bool :=
  Map.wf rf.act && rf.act.all (fun e => decide (e.2 ≠ resetOf e.1)) && Map.wf rf.stg

/-- A command of this master, TAG, GEN and opcode has started and waits for its work to end. -/
def Dev.started (d : Dev) (m tag gen op : Nat) (c : Cmd) : Prop :=
  d.cmd? m tag gen = some c ∧ c.opcode = op ∧ c.phase = .started

/-- The command has its result: a status and reply data, to be written by its reply. -/
def Dev.finished (d : Dev) (m tag gen status : Nat) (data : List Word) : Prop :=
  ∃ c, d.cmd? m tag gen = some c ∧ c.phase = .finished ∧ c.status = status ∧ c.reply = data

/-- Every register but those of the list reads in `t` as in `d`. -/
def Dev.sameRegsBut (d t : Dev) (ks : List Nat) : Prop := ∀ k, k ∉ ks → t.reg k = d.reg k

/-- The monitors from `first` on, `count` of them, read as a list of readings says; one said to be out of range is reported. -/
def Dev.showsReadings (t : Dev) (first count : Nat) (rs : List (BitVec 16)) (outside : List (Fin 128)) : Prop :=
  (∀ i, i < rs.length → i < count → t.fld (Reg.AGE_MONm (first + i)) 0 16 = (rs.getD i 0).toNat ∧
    t.fld (Reg.AGE_MONm (first + i)) 16 16 ≤ 1000) ∧
  ((∃ i, i < rs.length ∧ i < count ∧ first + i ∈ outside.map Fin.val) → t.bit Reg.AGE_STATUS 4 = true)

/-- No work is in flight for the hosts: no item, no connection, no channel at work, no frame coalescing, every slice FREE. -/
def Dev.noWork (d : Dev) : Prop :=
  d.rng.items = [] ∧ d.sto.conns = [] ∧ d.dma.run = [] ∧ d.mac.lro = [] ∧
    ∀ sl, sl < 8192 → d.sliceState sl = 0

/-- A command that can neither end a halt nor reach the host links, whose PHYs stay up through one (R488, R489): every row but
SYS_RST_N going low, FLT_HALT_RESET's key, and the rows of links, Bus Master Enable, power states and function resets. -/
def keepsHalt : Instr → Bool
  | .sysRstAssert => false
  | .fltHaltResetWrite v => decide (v ≠ 0x5A170001#32)
  | .registerWrite _ _ _ _ v _ => decide (v ≠ 0x5A170001#32)
  | .pcieLinkUp .. => false
  | .perstDeassert .. => false
  | .linkDown _ => false
  | .busMasterDisable _ => false
  | .busMasterEnable _ => false
  | .powerStateWrite .. => false
  | .functionLevelReset _ => false
  | .flrComplete _ => false
  | _ => true

end Sys2Proof.Machine
end

