-- ==== Sys2Proof/Certificates/Slice0/Obligations.lean ====
section
/-! DEFINITION. The statements for the provers, in the order of OBLIGATIONS.json. -/

open Sys2Proof Sys2Proof.Machine

/-- A step runs the command at the front of the queue, on the state with the queue's rest. -/
def Obligations.StepRunsFrontCommand : Prop :=
  ∀ (i : Instr) (rest : List Instr) (s : State), s.pending = i :: rest → step s = exec i { s with pending := rest }

/-- On an empty queue one GAU clock passes, except on a device in reset or halted (the model's choice, log entry 1). -/
def Obligations.EmptyQueueStepIsOneClock : Prop :=
  ∀ s : State, s.pending = [] →
    step s = .next { s with dev := if s.dev.pins.rstLow || s.dev.halted then s.dev else s.dev.tick }

/-- Every command answers a next state, for every state, and no command touches the queue. -/
def Obligations.EveryCommandAnswersAndKeepsTheQueue : Prop :=
  ∀ (i : Instr) (s : State), ∃ t, exec i s = .next t ∧ t.pending = s.pending

/-- An SQ register's SEQ grows by the number of events set at once, modulo 256, set or not before, and their bits are set; a
write clears the masked events where it carries the register's SEQ, leaves SEQ, and is ignored otherwise; nothing else changes
(R99). -/
def Obligations.SqRegistersCountTheirEvents : Prop :=
  (∀ (d : Dev) (k : Nat) (bits : List Nat), (∀ b ∈ bits, b < 24) → bits.Nodup →
    (d.sqSet k bits).fld k 24 8 = (d.fld k 24 8 + bits.length) % 256 ∧
    (∀ b, b < 24 → (d.sqSet k bits).bit k b = (d.bit k b || bits.contains b)) ∧ d.sameRegsBut (d.sqSet k bits) [k]) ∧
  (∀ (s : State) (k : Nat) (v : Word), s.dev.running = true → accOf k = some .sq →
    (Word.fld v 24 8 ≠ s.dev.fld k 24 8 → exec (.sqClearWrite k v) s = .next s) ∧
    (Word.fld v 24 8 = s.dev.fld k 24 8 → ∃ t, exec (.sqClearWrite k v) s = .next t ∧
      t = { s with dev := { s.dev with rf := t.dev.rf } } ∧ s.dev.sameRegsBut t.dev [k] ∧
      t.dev.fld k 24 8 = s.dev.fld k 24 8 ∧
      (∀ b, b < 24 → t.dev.bit k b = (s.dev.bit k b && !Word.bit v b)) ∧ t.dev.rf.stg = s.dev.rf.stg))

/-- A write to GLB_COMMIT with a bit in groups 0 to 22 issues one strobe, put in its place among those waiting, and counts it;
with no such bit it raises none; no staged write and no other register changes. A write to GLB_COMMIT_AT_MASK arms the commit at
the time the two time registers hold, replaces one armed, cancels it with a mask of no group, and issues it at once where the
time has passed; the time reached issues the armed strobe. -/
def Obligations.CommitsIssueOneStrobeEach : Prop :=
  (∀ (s : State) (m : Fin 16) (v : Word), s.dev.running = true →
     (v.toNat % 2 ^ 23 = 0 → exec (.glbCommitWrite m v) s = .next { s with dev := s.dev.setReg Reg.GLB_COMMIT v }) ∧
     (v.toNat % 2 ^ 23 ≠ 0 → ∃ t, exec (.glbCommitWrite m v) s = .next t ∧
       t = { s with dev := { s.dev with rf := t.dev.rf, glb := { s.dev.glb with
         strobes := placeStrobe ⟨.commit, v, m.val, s.dev.now, []⟩ s.dev.glb.strobes } } } ∧
       t.dev.rf.stg = s.dev.rf.stg ∧ t.dev.reg Reg.GLB_COMMIT = v ∧
       t.dev.fld Reg.GLB_COMMIT_SEQ 16 16 = (s.dev.fld Reg.GLB_COMMIT_SEQ 16 16 + 1) % 65536 ∧
       t.dev.fld Reg.GLB_COMMIT_SEQ 0 16 = s.dev.fld Reg.GLB_COMMIT_SEQ 0 16 ∧
       s.dev.sameRegsBut t.dev [Reg.GLB_COMMIT, Reg.GLB_COMMIT_SEQ])) ∧
  (∀ (s : State) (m : Fin 16) (v : Word), s.dev.running = true →
     (v.toNat % 2 ^ 23 = 0 → ∃ t, exec (.glbCommitAtMaskWrite m v) s = .next t ∧ t.dev.glb.armed = none ∧
       t.dev.glb.strobes = s.dev.glb.strobes ∧ s.dev.sameRegsBut t.dev [Reg.GLB_COMMIT_AT_MASK]) ∧
     (v.toNat % 2 ^ 23 ≠ 0 → s.dev.time ≤ s.dev.reg64 Reg.GLB_COMMIT_AT_LO →
       ∃ t, exec (.glbCommitAtMaskWrite m v) s = .next t ∧
         t.dev.glb.armed = some (s.dev.reg64 Reg.GLB_COMMIT_AT_LO, v) ∧ t.dev.glb.strobes = s.dev.glb.strobes ∧
         t.dev.reg Reg.GLB_COMMIT_AT_MASK = v ∧ s.dev.sameRegsBut t.dev [Reg.GLB_COMMIT_AT_MASK]) ∧
     (v.toNat % 2 ^ 23 ≠ 0 → s.dev.reg64 Reg.GLB_COMMIT_AT_LO < s.dev.time →
       ∃ t, exec (.glbCommitAtMaskWrite m v) s = .next t ∧ t.dev.glb.armed = none ∧
         t.dev.glb.strobes = placeStrobe ⟨.commitAt, v, 0, s.dev.now, []⟩ s.dev.glb.strobes ∧
         t.dev.bit Reg.GLB_COMMIT_STATUS 3 = true) ∧
     (∀ (at_ : Nat) (w : Word), s.dev.glb.armed = some (at_, w) → w.toNat % 2 ^ 23 ≠ 0 →
       ∃ t, exec .commitAtFire s = .next t ∧
         t = { s with dev := { s.dev with rf := t.dev.rf, glb := { s.dev.glb with
           armed := none, strobes := placeStrobe ⟨.commitAt, w, 0, s.dev.now, []⟩ s.dev.glb.strobes } } } ∧
         s.dev.sameRegsBut t.dev [Reg.GLB_COMMIT_SEQ]))

/-- A mask written to GLB_DISCARD drops the staged writes of the groups named that still wait for a strobe: the staging of each
reads its active copy again; nothing else changes and no strobe is raised. A write to GLB_DIRECT clears at once the bits written
0, with the staged writes of their groups dropped, and sets no bit itself; bits newly written 1 are one strobe that names their
groups. In a group in direct mode, a write to a staged register that is in no pair and no shadow set, and whose change has no
effect beyond its value, applies by itself, with STROBE set and without a count in GLB_COMMIT_SEQ; outside direct mode the
command has no effect. -/
def Obligations.DiscardsAndDirectModeAct : Prop :=
  (∀ (s : State) (v : Word), s.dev.running = true →
     ∃ t, exec (.glbDiscardWrite v) s = .next t ∧ t = { s with dev := { s.dev with rf := { s.dev.rf with stg := t.dev.rf.stg } } } ∧
       (∀ k, t.dev.reg k = s.dev.reg k) ∧
       (∀ k, Word.bit v (groupOf k) = true → s.dev.waitsStrobe k = true → t.dev.staged k = s.dev.reg k) ∧
       (∀ k, (Word.bit v (groupOf k) = false ∨ s.dev.waitsStrobe k = false) → t.dev.staged k = s.dev.staged k)) ∧
  (∀ (s : State) (m : Fin 16) (v : Word), s.dev.running = true →
     ∃ t, exec (.glbDirectWrite m v) s = .next t ∧
       t.dev.reg Reg.GLB_DIRECT = s.dev.reg Reg.GLB_DIRECT &&& v ∧
       (∀ k, (s.dev.reg Reg.GLB_DIRECT &&& ~~~ v).toNat.testBit (groupOf k) = true → s.dev.waitsStrobe k = true →
         k ≠ Reg.GLB_DIRECT → k ≠ Reg.GLB_PAIR_PENDING → k ≠ Reg.GLB_COMMIT_SEQ → t.dev.staged k = s.dev.reg k) ∧
       s.dev.sameRegsBut t.dev [Reg.GLB_DIRECT, Reg.GLB_PAIR_PENDING, Reg.GLB_COMMIT_SEQ] ∧
       ((v &&& ~~~ s.dev.reg Reg.GLB_DIRECT &&& maskOf Reg.GLB_DIRECT).toNat % 2 ^ 23 ≠ 0 →
         ∃ x ∈ t.dev.glb.strobes, x.src = .direct ∧ x.mask = v &&& ~~~ s.dev.reg Reg.GLB_DIRECT &&& maskOf Reg.GLB_DIRECT ∧
           x.master = m.val)) ∧
  (∀ (s : State) (m : Fin 16) (k : Nat) (v : Word), s.dev.running = true →
     ((accOf k ≠ some .st ∨ s.dev.directMode (groupOf k) = false) → exec (.directModeWrite m k v) s = .next s) ∧
     (accOf k = some .st → s.dev.directMode (groupOf k) = true → shadowOf k = none →
       (∀ d : Dev, d.pairOf k = none ∧ d.beforeLate k = d ∧ ∀ old, d.hook k old = d) →
       ∃ t, exec (.directModeWrite m k v) s = .next t ∧ t.dev.reg k = v &&& maskOf k ||| (s.dev.reg k &&& ~~~ maskOf k) ∧
         t.dev.staged k = t.dev.reg k ∧ t.dev.bit Reg.GLB_COMMIT_STATUS 0 = true ∧
         s.dev.sameRegsBut t.dev [k, Reg.GLB_COMMIT_STATUS]))

/-- A strobe applies every group it names whose pairs agree and refuses whole each group that holds a disagreeing pair. Of one
that names the single group `g`: refused, its staged writes stay and no register but the commit status, its count and the two
reject registers changes; COMMIT_REJECT is set and GLB_REJECT_GROUPS names the group. -/
def Obligations.StrobeRefusesADisagreeingGroupWhole : Prop :=
  ∀ (s : State) (x : Strobe) (xs : List Strobe) (g off : Nat), s.dev.running = true → s.dev.glb.strobes = x :: xs →
    x.src = .commit → g < 23 → bitList 23 x.mask.toNat = [g] →
    ({ s.dev with glb := { s.dev.glb with strobes := xs } } : Dev).groupBad g = some off →
    ∃ t, exec .strobeApply s = .next t ∧ t.dev.rf.stg = s.dev.rf.stg ∧ t.dev.glb.strobes = xs ∧
      t.dev.reg Reg.GLB_REJECT_GROUPS = wd (2 ^ g) ∧ t.dev.reg Reg.GLB_REJECT_INFO = wd off ∧
      t.dev.bit Reg.GLB_COMMIT_STATUS 2 = true ∧
      t.dev.fld Reg.GLB_COMMIT_SEQ 0 16 = (s.dev.fld Reg.GLB_COMMIT_SEQ 0 16 + 1) % 65536 ∧
      s.dev.sameRegsBut t.dev
        [Reg.GLB_COMMIT_STATUS, Reg.GLB_REJECT_GROUPS, Reg.GLB_REJECT_INFO, Reg.GLB_COMMIT_SEQ]

/-- Where every staged register is in no pair and no shadow set, and changes without an effect beyond its value, the strobe that
goes first gives each register of the groups it names its staged value, leaves every other register but the commit status and
its count, sets STROBE and counts itself applied. -/
def Obligations.StrobeAppliesStagedValues : Prop :=
  ∀ (s : State) (x : Strobe) (xs : List Strobe), s.dev.running = true → s.dev.glb.strobes = x :: xs → x.src = .commit →
    (∀ p ∈ s.dev.rf.stg, shadowOf p.1 = none ∧ ∀ d : Dev, d.pairOf p.1 = none ∧ d.beforeLate p.1 = d ∧ ∀ old, d.hook p.1 old = d) →
    ∃ t, exec .strobeApply s = .next t ∧ t.dev.glb.strobes = xs ∧ t.dev.bit Reg.GLB_COMMIT_STATUS 0 = true ∧
      t.dev.fld Reg.GLB_COMMIT_SEQ 0 16 = (s.dev.fld Reg.GLB_COMMIT_SEQ 0 16 + 1) % 65536 ∧
      ∀ k, k ≠ Reg.GLB_COMMIT_STATUS → k ≠ Reg.GLB_COMMIT_SEQ →
        t.dev.reg k = if groupOf k < 23 ∧ Word.bit x.mask (groupOf k) = true then s.dev.staged k else s.dev.reg k

/-- Mailboxes. A word lands in an empty IN mailbox and fills it; a full one keeps its word and records the overrun. A PING taken
empties the mailbox and makes a PONG with its INFO the pending word of its KIND. The lowest pending KIND moves into an empty OUT
mailbox and fills it; an acknowledgement with bit 0 empties it, one without does nothing. Queue indices. A producer index that
moves forward by no more than the free slots is taken, another leaves a bad-index event; a consumer index of replies likewise,
up to RPI. A packet that comes over MCTP with the vendor ID lies in queue 4 from its old PI on, and PI moves past it; another
vendor's message does nothing. A supervisor's packet lies in the queue of its cluster. -/
def Obligations.MailboxesAndQueuesMove : Prop :=
  (∀ (s : State) (m : Fin 16), s.dev.running = true →
     (∀ v, s.dev.bit (Reg.MBX_STATEm m.val) 0 = false → ∃ t, exec (.mbxInWrite m v) s = .next t ∧
       t = { s with dev := { s.dev with rf := t.dev.rf } } ∧ t.dev.reg (Reg.MBX_INm m.val) = v ∧
       t.dev.bit (Reg.MBX_STATEm m.val) 0 = true ∧ s.dev.sameRegsBut t.dev [Reg.MBX_INm m.val, Reg.MBX_STATEm m.val]) ∧
     (∀ v, s.dev.bit (Reg.MBX_STATEm m.val) 0 = true → ∃ t, exec (.mbxInWrite m v) s = .next t ∧
       t.dev.bit (Reg.MBX_EVTm m.val) 3 = true ∧ s.dev.sameRegsBut t.dev [Reg.MBX_EVTm m.val]) ∧
     (s.dev.bit (Reg.MBX_STATEm m.val) 0 = true → Word.fld (s.dev.reg (Reg.MBX_INm m.val)) 28 4 = 1 →
       ∃ t, exec (.mbxInTake m) s = .next t ∧ t.dev.bit (Reg.MBX_STATEm m.val) 0 = false ∧
         Map.get? t.dev.cmd.outPend (16 * m.val + 2) =
           some (wd (2 * 2 ^ 28 + Word.fld (s.dev.reg (Reg.MBX_INm m.val)) 0 28 % 2 ^ 28))) ∧
     (∀ k w, s.dev.bit (Reg.MBX_STATEm m.val) 1 = false → s.dev.pendingKind m.val = some (k, w) → m.val ≠ 7 →
       ∃ t, exec (.mbxOutPost m) s = .next t ∧ t.dev.reg (Reg.MBX_OUTm m.val) = w ∧
         t.dev.bit (Reg.MBX_STATEm m.val) 1 = true ∧ Map.get? t.dev.cmd.outPend (16 * m.val + k) = none) ∧
     (∀ v, Word.bit v 0 = true → ∃ t, exec (.mbxOutAckWrite m v) s = .next t ∧
       t = { s with dev := s.dev.setBit (Reg.MBX_STATEm m.val) 1 false }) ∧
     (∀ v, Word.bit v 0 = false → exec (.mbxOutAckWrite m v) s = .next s)) ∧
  (∀ (s : State), s.dev.running = true →
     (∀ (m : Fin 16) (v : Word), fwd16 (v.toNat % 65536) (s.dev.fld (Reg.CMD_PIm m.val) 0 16) < 32768 →
       fwd16 (v.toNat % 65536) (s.dev.fld (Reg.CMD_CIm m.val) 0 16) ≤ 256 →
       ∃ t, exec (.cmdPiWrite m v) s = .next t ∧ t = { s with dev := { s.dev with rf := t.dev.rf } } ∧
         t.dev.fld (Reg.CMD_PIm m.val) 0 16 = v.toNat % 65536 ∧ s.dev.sameRegsBut t.dev [Reg.CMD_PIm m.val]) ∧
     (∀ (m : Fin 16) (v : Word), 256 < fwd16 (v.toNat % 65536) (s.dev.fld (Reg.CMD_CIm m.val) 0 16) →
       ∃ t, exec (.cmdPiWrite m v) s = .next t ∧ t.dev.bit (Reg.CMD_STATUSm m.val) 4 = true ∧
         s.dev.sameRegsBut t.dev [Reg.CMD_STATUSm m.val]) ∧
     (∀ (m : Fin 16) (v : Word), 4 ≤ m.val → fwd16 (v.toNat % 65536) (s.dev.fld (Reg.CMD_RCIm m.val) 0 16) < 32768 →
       fwd16 (v.toNat % 65536) (s.dev.fld (Reg.CMD_RCIm m.val) 0 16) ≤
         fwd16 (s.dev.fld (Reg.CMD_RPIm m.val) 0 16) (s.dev.fld (Reg.CMD_RCIm m.val) 0 16) →
       ∃ t, exec (.cmdRciWrite m v) s = .next t ∧ t = { s with dev := { s.dev with rf := t.dev.rf } } ∧
         t.dev.fld (Reg.CMD_RCIm m.val) 0 16 = v.toNat % 65536 ∧ s.dev.sameRegsBut t.dev [Reg.CMD_RCIm m.val]) ∧
     (∀ (vendor : Fin 65536) (ws : List Word), vendor.val ≠ 0x1F7D → exec (.mctpCommandMessage vendor ws) s = .next s) ∧
     (∀ (vendor : Fin 65536) (ws : List Word), vendor.val = 0x1F7D → ws ≠ [] → ws.length ≤ 1024 →
       fwd16 ((s.dev.fld (Reg.CMD_PIm 4) 0 16 + ceilDiv ws.length 16) % 65536) (s.dev.fld (Reg.CMD_CIm 4) 0 16) ≤ 256 →
       fwd16 (s.dev.fld (Reg.CMD_PIm 4) 0 16 + ceilDiv ws.length 16) (s.dev.fld (Reg.CMD_CIm 4) 0 16) ≤ 256 →
       ∃ t, exec (.mctpCommandMessage vendor ws) s = .next t ∧
         t.dev.fld (Reg.CMD_PIm 4) 0 16 = (s.dev.fld (Reg.CMD_PIm 4) 0 16 + ceilDiv ws.length 16) % 65536 ∧
         ∀ i, i < ws.length → t.dev.reg (Reg.CMD_QUEUES (4 * 4096 + (s.dev.fld (Reg.CMD_PIm 4) 0 16 * 16 + i) % 4096)) = wordAt ws i) ∧
     (∀ (t : Fin 512) (ws : List Word), isSup t.val = true → (s.dev.openReq t.val 0).isSome = true →
       exec (.mgmtChannelRequest t (.packet ws)) s = .next { s with dev := s.dev.putPacket (8 + t.val / 64) 0 ws }))

/-- The first packet of an enabled queue that passes every check of its header, its TAG and its opcode becomes an outstanding
command that waits; its slots are given back, its TAG's generation becomes current, and it has one reply slot reserved. A
waiting command that may start does: it takes its reply slots, its limit and its locks, unless another command holds an object
it changes, when it ends with BUSY; a limit that expires ends a started command that has raised no strobe with TIMEOUT. A
finished command of the current generation leaves the record and its reply is written: the words of R123 to R126 from RPI on,
RPI moved past its slots. A QUIET one that ended OK leaves no reply. Stated for a master with its own reply queue and no notice
asked. -/
def Obligations.CommandsAreTakenStartedAndAnswered : Prop :=
  (∀ (s : State) (m : Fin 16) (c : Cmd) (len : Nat), s.dev.running = true → s.dev.bit (Reg.CMD_CTRLm m.val) 0 = true →
     s.dev.fld (Reg.CMD_PIm m.val) 0 16 ≠ s.dev.fld (Reg.CMD_CIm m.val) 0 16 → 0 < s.dev.freeSlots m.val →
     (let ci := s.dev.fld (Reg.CMD_CIm m.val) 0 16
      let head := s.dev.packetWords m.val ci (4 + ceilDiv len 4)
      len = Word.fld (wordAt head 2) 0 16 ∧ len ≤ 4080 ∧ slotsFor len ≤ fwd16 (s.dev.fld (Reg.CMD_PIm m.val) 0 16) ci ∧
        c = ⟨m.val, wordAt head 0, wordAt head 1, wordAt head 2, head.drop 4, .waiting, 1, 0, 0, false, [], 0, false, [],
          Map.getD s.dev.cmd.peers (ci % 256) 0⟩ ∧
        crc16 (bytesOf [wordAt head 0, wordAt head 1, wordAt head 2] ++ (bytesOf (head.drop 4)).take len) =
          Word.fld (wordAt head 3) 0 16 ∧ Word.fld (wordAt head 3) 16 16 = 0) →
     Word.fld c.word0 24 8 = 1 → Word.fld c.word0 19 5 = 0 → s.dev.cmd? m.val c.tag c.gen = none → c.opcode ≠ 0x0400 →
     ((s.dev.takeSlots m.val (slotsFor len)).setGen m.val c.tag c.gen).checkCmd c = none →
     ∃ t, exec (.commandTake m) s = .next t ∧ t.dev.cmd.cmds = s.dev.cmd.cmds ++ [c] ∧ t.dev.curGen m.val c.tag = some c.gen ∧
       t.dev.fld (Reg.CMD_CIm m.val) 0 16 = (s.dev.fld (Reg.CMD_CIm m.val) 0 16 + slotsFor len) % 65536 ∧
       s.dev.sameRegsBut t.dev [Reg.CMD_CIm m.val]) ∧
  (∀ (s : State) (m : Fin 16) (tag : Fin 4096) (gen : Fin 16) (c : Cmd) (o : OpSpec), s.dev.running = true →
     s.dev.cmd? m.val tag.val gen.val = some c → opSpec? c.opcode = some o →
     (s.dev.cmdReady c = true → s.dev.lockHeld c o = false → stepwise c.opcode = false →
       ∃ t, exec (.commandStart m tag gen) s = .next t ∧ t.dev.cmd? m.val tag.val gen.val = some { c with
           phase := .started, slots := slotsFor c.replyMax, startedAt := s.dev.now, exp := s.dev.limitOf c o, locks := o.locks c s.dev } ∧
         s.dev.sameRegsBut t.dev [Reg.CMD_OUTSTANDINGm m.val]) ∧
     (s.dev.cmdReady c = true → s.dev.lockHeld c o = true →
       ∃ t, exec (.commandStart m tag gen) s = .next t ∧ t.dev.finished m.val tag.val gen.val stBusy [] ∧
         s.dev.sameRegsBut t.dev [Reg.CMD_OUTSTANDINGm m.val]) ∧
     (c.phase = .started → c.strobed = false → c.opcode ∉ [0x0101, 0x0204, 0x030B, 0x0304, 0x0A03, 0x0904] →
       ∃ t, exec (.commandTimeout m tag gen) s = .next t ∧ t.dev.finished m.val tag.val gen.val stTimeout [] ∧
         t.dev.bit (Reg.CMD_STATUSm m.val) 1 = true ∧ s.dev.sameRegsBut t.dev [Reg.CMD_STATUSm m.val])) ∧
  (∀ (s : State) (m : Fin 16) (tag : Fin 4096) (gen : Fin 16) (c : Cmd), s.dev.running = true →
     s.dev.cmd? m.val tag.val gen.val = some c → c.phase = .finished → s.dev.curGen m.val tag.val = some gen.val →
     (c.quiet = true → (c.status = stOK ∨ c.status = stExpert) →
       ∃ t, exec (.commandReply m tag gen) s = .next t ∧ t.dev.cmd? m.val tag.val gen.val = none ∧
         s.dev.sameRegsBut t.dev [Reg.CMD_OUTSTANDINGm m.val]) ∧
     (c.quiet = false → c.notify = false → (m.val = 5 ∨ m.val = 6) → c.replyMax ≤ 4080 →
       ∃ t, exec (.commandReply m tag gen) s = .next t ∧ t.dev.cmd? m.val tag.val gen.val = none ∧
         (let ws := replyWords c.word1 c.opcode c.status c.replyMax false c.expert c.reply
          t.dev.fld (Reg.CMD_RPIm m.val) 0 16 = (s.dev.fld (Reg.CMD_RPIm m.val) 0 16 + slotsFor (4 * ws.length - 16)) % 65536 ∧
          t.dev.bit (Reg.CMD_STATUSm m.val) 0 = true ∧
          ∀ i, i < ws.length → t.dev.reg (Reg.CMD_REPLIES (m.val * 4096 + (s.dev.fld (Reg.CMD_RPIm m.val) 0 16 * 16 + i) % 4096)) = wordAt ws i)))

/-- REGISTER_WRITE of one word by a master other than a host: a write to an ordinary ST register whose group is not in direct
mode only stages its writable bits; a write to a plain RW register changes its writable bits at once; one to a RO, RS or HC
register, or outside the register space, changes nothing. A SLOW edge copies every RS register: after it, the slow copy of an RS
register whose live value is stored is that value, and nothing but the slow copies changes. The commands NOP, DEVICE_INFO,
DEVICE_STATUS, LEES_READ and REG_READ of one plain register answer OK with the words the spec names, and change nothing else. -/
def Obligations.RegisterAccessesFollowTheirTypes : Prop :=
  (∀ (s : State) (m : Fin 16) (off : Nat) (lo hi : Word), s.dev.running = true → 4 ≤ m.val → off % 4 = 0 →
     (let k := s.dev.target m.val off
      (accOf k = some .st → shadowOf k = none → queueOf k = none → k ≠ Reg.EBS_THERMAL_CTRL → s.dev.directMode (groupOf k) = false →
        ∃ t, exec (.registerWrite m .bar0 off 4 lo hi) s = .next t ∧
          t = { s with dev := { s.dev with rf := { s.dev.rf with stg := t.dev.rf.stg } } } ∧
          t.dev.staged k = lo &&& maskOf k ||| (s.dev.reg k &&& ~~~ maskOf k) ∧ ∀ j, j ≠ k → t.dev.staged j = s.dev.staged j) ∧
      (accOf k = some .rw → s.dev.rwClosed k = false → s.dev.actWrite m.val k lo = none →
        ∃ t, exec (.registerWrite m .bar0 off 4 lo hi) s = .next t ∧ t = { s with dev := { s.dev with rf := t.dev.rf } } ∧
          t.dev.reg k = lo &&& maskOf k ||| (s.dev.reg k &&& ~~~ maskOf k) ∧ s.dev.sameRegsBut t.dev [k]) ∧
      ((accOf k = none ∨ accOf k = some .ro ∨ accOf k = some .rs ∨ accOf k = some .hc) →
        exec (.registerWrite m .bar0 off 4 lo hi) s = .next s))) ∧
  (∀ s : State, s.dev.running = true →
     ∃ t, exec .slowEdge s = .next t ∧ t = { s with dev := { s.dev with rf := { s.dev.rf with slow := t.dev.rf.slow } } } ∧
       ∀ k, accOf k = some .rs → k ∉ s.dev.derived.map Prod.fst → k < 2 ^ 45 →
         (Map.get? t.dev.rf.slow k).getD (resetOf k) = s.dev.reg k) ∧
  (∀ (s : State) (m : Fin 16) (tag : Fin 4096) (gen : Fin 16) (c : Cmd), s.dev.running = true →
     (s.dev.started m.val tag.val gen.val 0x0000 c →
       exec (.nop m tag gen) s = .next { s with dev := s.dev.finish m.val tag.val gen.val (Res.ok []) }) ∧
     (s.dev.started m.val tag.val gen.val 0x0001 c →
       exec (.deviceInfo m tag gen) s = .next { s with dev := s.dev.finish m.val tag.val gen.val (Res.ok
         (s.dev.reg Reg.GLB_ID :: (List.range 10).map (fun i => wd (poolTotal i)) ++
           [s.dev.reg Reg.UPD_RELEASE, s.dev.reg Reg.UPD_SECVER, s.dev.reg Reg.AGE_PLAN_VERSION, s.dev.reg Reg.LCS_STATE,
            s.dev.reg Reg.LCS_SERIAL_LO, s.dev.reg Reg.LCS_SERIAL_HI])) }) ∧
     (s.dev.started m.val tag.val gen.val 0x0002 c →
       exec (.deviceStatus m tag gen) s = .next { s with dev := s.dev.finish m.val tag.val gen.val (Res.ok
         [s.dev.reg Reg.EBS_THERMAL_TRIP, s.dev.reg Reg.GLB_SUPPLY_FAULT, s.dev.reg Reg.GAU_LOST, s.dev.reg Reg.TRL_PARTITION,
          s.dev.reg Reg.LCS_VIOLATION, s.dev.reg Reg.GLB_HALT, s.dev.reg Reg.GLB_PIPE_ROLE, s.dev.reg Reg.GLB_EVT_STATUS]) }) ∧
     (s.dev.started m.val tag.val gen.val 0x0004 c →
       (c.p 0).toNat + c.pf 1 0 7 ≤ s.dev.regN Reg.CMD_LEES_SEQ → s.dev.regN Reg.CMD_LEES_SEQ ≤ (c.p 0).toNat + 1024 →
       exec (.leesRead m tag gen) s = .next { s with dev := s.dev.finish m.val tag.val gen.val (Res.ok
         ((List.range (c.pf 1 0 7)).flatMap (fun i => s.dev.regs (Reg.CMD_LEES ((((c.p 0).toNat + i) % 1024) * 8)) 8))) }) ∧
     (s.dev.started m.val tag.val gen.val 0x0006 c → c.pf 1 0 10 = 1 → c.pf 1 10 22 = 0 → (c.p 0).toNat % 4 = 0 →
       (c.p 0).toNat + 4 ≤ 0x4000000 → s.dev.target c.master (c.p 0).toNat = (c.p 0).toNat →
       accOf (c.p 0).toNat = some .ro → wideLow (c.p 0).toNat = false → Map.get? s.dev.rf.latch (c.p 0).toNat = none →
       (c.p 0).toNat ≠ Reg.GLB_STAGED → ¬ (Reg.PCE_IMS_DATAm 0 0 ≤ (c.p 0).toNat ∧ (c.p 0).toNat < Reg.PCE_IMS_DATAm 0 0 + 512) →
       exec (.regRead m tag gen) s = .next { s with dev := s.dev.finish m.val tag.val gen.val (Res.ok [s.dev.reg (c.p 0).toNat]) }))

/-- CMD_CANCEL ends a waiting command with TIMEOUT and answers OK; of a started one it drops the generation and answers PARTIAL;
a TAG and GEN that are not current answer STALE_GEN. NOTIFY_CFG writes the three KIND enables of its own master and, from a
function, OUT_IE and the vector. REG_WRITE writes its words. COMMIT raises the strobe of its mask and answers ISSUED. A well-
formed entry of the management ring acts at once as its opcode says and advances HEAD and TAIL: a register write of its master,
a strobe, or, as a fence, every strobe raised before it applied. A malformed one halts the device. -/
def Obligations.CommandRegisterAndRingRowsAct : Prop :=
  (∀ (s : State) (m : Fin 16) (tag : Fin 4096) (gen : Fin 16) (c : Cmd), s.dev.running = true →
     (s.dev.started m.val tag.val gen.val 0x0003 c → s.dev.curGen c.master (c.pf 0 0 12) ≠ some (c.pf 1 0 4) →
       exec (.cmdCancel m tag gen) s = .next { s with dev := s.dev.finish m.val tag.val gen.val (Res.st stStaleGen) }) ∧
     (∀ x, s.dev.started m.val tag.val gen.val 0x0003 c → s.dev.curGen c.master (c.pf 0 0 12) = some (c.pf 1 0 4) →
       s.dev.cmd? c.master (c.pf 0 0 12) (c.pf 1 0 4) = some x → x.phase = .waiting →
       ∃ t, exec (.cmdCancel m tag gen) s = .next t ∧ t.dev.finished m.val tag.val gen.val stOK [] ∧
         t.dev.finished c.master (c.pf 0 0 12) (c.pf 1 0 4) stTimeout [] ∧ s.dev.sameRegsBut t.dev []) ∧
     (s.dev.started m.val tag.val gen.val 0x0005 c →
       ∃ t, exec (.notifyCfg m tag gen) s = .next t ∧ s.dev.sameRegsBut t.dev [Reg.MBX_CTRLm c.master] ∧
         t.dev.bit (Reg.MBX_CTRLm c.master) 3 = decide (c.pf 0 3 1 = 1) ∧
         t.dev.bit (Reg.MBX_CTRLm c.master) 6 = decide (c.pf 0 6 1 = 1) ∧
         t.dev.bit (Reg.MBX_CTRLm c.master) 7 = decide (c.pf 0 7 1 = 1) ∧
         (c.master < 4 → t.dev.bit (Reg.MBX_CTRLm c.master) 1 = decide (c.pf 1 31 1 = 1) ∧
           t.dev.fld (Reg.MBX_CTRLm c.master) 16 11 = c.pf 1 0 11)) ∧
     (s.dev.started m.val tag.val gen.val 0x0007 c → regRangeBad 1018 c s.dev = false →
       ∃ t, exec (.regWrite m tag gen) s = .next t ∧
         t.dev = (s.dev.busWrites c.master (c.p 0).toNat (c.params.drop 2)).finish m.val tag.val gen.val (Res.ok [])) ∧
     (s.dev.started m.val tag.val gen.val 0x0008 c → c.p 1 = 0 → c.p 2 = 0 → (c.p 0).toNat % 2 ^ 23 ≠ 0 →
       ∃ t, exec (.commit m tag gen) s = .next t ∧
         t.dev.glb.strobes = placeStrobe ⟨.commit, c.p 0, c.master, s.dev.now, []⟩ s.dev.glb.strobes ∧
         t.dev.finished m.val tag.val gen.val stOK [wd ((s.dev.fld Reg.GLB_COMMIT_SEQ 16 16 + 1) % 65536)])) ∧
  (∀ (s : State) (w0 w1 w2 w3 : Word), s.dev.running = true →
     (s.dev.ringBad w0 w1 w2 w3 = false → Word.fld w0 24 3 = 1 → w1.toNat % 2 ^ 23 ≠ 0 →
       ∃ t, exec (.mringEntry w0 w1 w2 w3) s = .next t ∧
         t.dev.glb.strobes = placeStrobe ⟨.ring, w1, Word.fld w2 28 4, s.dev.now, []⟩ s.dev.glb.strobes ∧
         t.dev.cmd.ringSeq = (Word.fld w3 16 16 + 1) % 65536 + 1 ∧
         t.dev.fld Reg.CMD_MRING_HEAD 0 10 = (s.dev.fld Reg.CMD_MRING_HEAD 0 10 + 1) % 1024) ∧
     (s.dev.ringBad w0 w1 w2 w3 = true →
       ∃ t, exec (.mringEntry w0 w1 w2 w3) s = .next t ∧ t.dev.halted = true))

/-- Grid observations. The first edge on a GZX input only marks its instant; an edge within 10 ms of the last is ignored; a
later one whose period is out of range is counted invalid by the reference it feeds. A damaged GSYNC frame is counted and
reported; a good one in sequence leaves its SEQ. The signal's presence is shown. A LOCKED or RELOCK reference that steers itself
alone enters HOLDOVER, with its event, and one in HOLDOVER enters FREERUN, where GAU_LOST shows it. -/
def Obligations.GridObservationsAndLossAct : Prop :=
  (∀ (s : State), s.dev.running = true →
     (∀ k : Fin 4, Map.get? s.dev.gau.edges k.val = none → ∃ t, exec (.gzxEdge k s.dev.now) s = .next t ∧
       Map.get? t.dev.gau.edges k.val = some s.dev.now ∧ t.dev.rf = s.dev.rf) ∧
     (∀ (k : Fin 4) (e : Nat), Map.get? s.dev.gau.edges k.val = some e → s.dev.now < e + 5000000 →
       exec (.gzxEdge k s.dev.now) s = .next s) ∧
     (∀ (k n : Fin 4) (e : Nat), Map.get? s.dev.gau.edges k.val = some e → e + 11111000 < s.dev.now → s.dev.fedBy 0 k.val = [n.val] →
       ∃ t, exec (.gzxEdge k s.dev.now) s = .next t ∧ Map.get? t.dev.gau.edges k.val = some s.dev.now ∧
         t.dev.fld (Reg.GAU_REFn_COUNTS n.val) 0 16 = Nat.min (s.dev.fld (Reg.GAU_REFn_COUNTS n.val) 0 16 + 1) 65535 ∧
         t.dev.bit (Reg.GAU_REFn_STATUS n.val) 7 = false ∧
         s.dev.sameRegsBut t.dev [Reg.GAU_REFn_COUNTS n.val, Reg.GAU_REFn_STATUS n.val]) ∧
     (∀ (bytes : List Byte) (bad : Bool), s.dev.bit Reg.GAU_GSYNC_CTRL 0 = true → s.dev.bit Reg.TRL_ANGLE_CTRL 30 = false →
       (bad = true ∨ bytes.length ≠ 54 ∨ crc16 (bytes.take 52) ≠ beAt bytes 52 2) →
       ∃ t, exec (.gsyncFrame bytes bad) s = .next t ∧ t.dev.bit Reg.GAU_EVT_STATUS 4 = true ∧
         t.dev.fld Reg.GAU_GSYNC_STATUS 0 16 = Nat.min (s.dev.fld Reg.GAU_GSYNC_STATUS 0 16 + 1) 65535 ∧
         t.dev.gau = s.dev.gau ∧ s.dev.sameRegsBut t.dev [Reg.GAU_EVT_STATUS, Reg.GAU_GSYNC_STATUS]) ∧
     (∀ (bytes : List Byte), s.dev.bit Reg.GAU_GSYNC_CTRL 0 = true → s.dev.bit Reg.TRL_ANGLE_CTRL 30 = false → bytes.length = 54 →
       crc16 (bytes.take 52) = beAt bytes 52 2 → byteAt bytes 0 = 1 → s.dev.gau.gsyncSeq = none → (∀ i, i < 4 → s.dev.fedBy 1 i = []) →
       ∃ t, exec (.gsyncFrame bytes false) s = .next t ∧ t.dev.gau = { s.dev.gau with gsyncSeq := some (byteAt bytes 1) } ∧
         s.dev.sameRegsBut t.dev [Reg.GAU_GSYNC_STATUS]) ∧
     (∀ p : Bool, ∃ t, exec (.gsyncSignalChange p) s = .next t ∧ t.dev.bit Reg.GAU_GSYNC_STATUS 31 = p ∧
       s.dev.sameRegsBut t.dev [Reg.GAU_GSYNC_STATUS])) ∧
  (∀ (s : State) (n : Fin 4), s.dev.running = true → s.dev.steer n.val = n.val → s.dev.merged n.val = false →
     (∀ k, k < 4 → k ≠ n.val → s.dev.steer k ≠ n.val) →
     (s.dev.refState n.val = 2 → s.dev.fld (Reg.GAU_REFn_LIMITS n.val) 0 16 ≠ 0 → s.dev.bit Reg.GAU_TIE 31 = false →
       ∃ t, exec (.holdoverEntry n) s = .next t ∧ t.dev.refState n.val = 4 ∧ t.dev.bit Reg.GAU_EVT_STATUS (8 + n.val) = true) ∧
     (s.dev.refState n.val = 4 →
       ∃ t, exec (.freerunEntry n) s = .next t ∧ t.dev.refState n.val = 5 ∧ t.dev.bit Reg.GAU_LOST n.val = true) ∧
     ((s.dev.refState n.val = 0 ∨ s.dev.refState n.val = 1) →
       exec (.holdoverEntry n) s = .next s ∧ exec (.freerunEntry n) s = .next s))

/-- An angle of an unmerged reference that reaches 0 counts a cycle and stamps the PTP time, where no channel, no gate list and
no held write waits for the wrap; one whose angle stands still does nothing. A capture takes the four angles, the four cycle
counts and the PTP time, and TAKE reads 0 again; a write with TAKE 0 does nothing; the opcode answers the capture's words too.
PTP time. A second raises PPS_OUT, its end lowers it; a step of the servo sets PTP time and leaves every angle alone, and begins
an armed commit it passes; an edge on PPS_IN counts only where PPS_SRC is 1. -/
def Obligations.WrapsSnapshotsAndPtpAct : Prop :=
  (∀ (s : State) (n : Fin 4), s.dev.running = true →
     (s.dev.refRate n.val = 0 → exec (.angleWrap n) s = .next s) ∧
     (0 < s.dev.refRate n.val → s.dev.merged n.val = false → Word.bit (s.dev.reg Reg.GAU_TIE) (4 * n.val + 2) = false →
       s.dev.refState n.val ≠ 3 → (s.dev.gref n.val).skipWrap = false → (∀ c, c < 64 → s.dev.chanPending c = false) →
       (∀ p, p < 16 → s.dev.gatePending p = false) → s.dev.glb.held = [] →
       ∃ t, exec (.angleWrap n) s = .next t ∧ t.dev.angle n.val = 0 ∧
         t.dev.cycle n.val = (s.dev.cycle n.val + 1) % 2 ^ 48 ∧ t.dev.reg64 (Reg.GAU_WRAPTSn_LO n.val) = s.dev.time)) ∧
  (∀ (s : State), s.dev.running = true →
     (∀ v, Word.bit v 0 = false → exec (.snapshotTake v) s = .next s) ∧
     (∀ v, Word.bit v 0 = true → ∃ t, exec (.snapshotTake v) s = .next t ∧
       t.dev.regs (Reg.GAU_SNAP 0) 14 = (List.range 4).map (fun n => s.dev.reg (Reg.GAU_ANGLEn n)) ++
         (List.range 4).flatMap (fun n => [lo32 (s.dev.cycle n), hi32 (s.dev.cycle n)]) ++ [lo32 s.dev.time, hi32 s.dev.time] ∧
       t.dev.bit Reg.GAU_SNAP_CTRL 0 = false ∧
       s.dev.sameRegsBut t.dev (Reg.GAU_SNAP_CTRL :: (List.range 14).map (fun i => Reg.GAU_SNAP 0 + 4 * i))) ∧
     (∀ (m : Fin 16) (tag : Fin 4096) (gen : Fin 16) (c : Cmd), s.dev.started m.val tag.val gen.val 0x0605 c →
       ∃ t, exec (.angleSnapshot m tag gen) s = .next t ∧ t.dev.finished m.val tag.val gen.val stOK s.dev.capture ∧
         t.dev.regs (Reg.GAU_SNAP 0) 14 = s.dev.capture)) ∧
  (∀ (s : State), s.dev.running = true →
     exec .ptpSecond s = .next { s with dev := { s.dev with gau := { s.dev.gau with ppsOut := true } } } ∧
     exec .ppsOutEnd s = .next { s with dev := { s.dev with gau := { s.dev.gau with ppsOut := false } } } ∧
     (∀ t : BitVec 64, s.dev.glb.armed = none → s.dev.upd.act = none →
       exec (.ptpTimeStep t) s = .next { s with dev := { s.dev with ptp := t } }) ∧
     (∀ (t : BitVec 64) (at_ : Nat) (v : Word), s.dev.glb.armed = some (at_, v) → s.dev.upd.act = none → at_ < t.toNat →
       ∃ u, exec (.ptpTimeStep t) s = .next u ∧ u.dev.glb.armed = none ∧ u.dev.ptp = t ∧ ∀ n, u.dev.angle n = s.dev.angle n) ∧
     (s.dev.bit Reg.GAU_PTP_CTRL 0 = false → exec .ppsInEdge s = .next s) ∧
     (s.dev.bit Reg.GAU_PTP_CTRL 0 = true → s.dev.glb.armed = none → s.dev.upd.act = none →
       exec .ppsInEdge s = .next { s with dev := { s.dev with
         ptp := BitVec.ofNat 64 ((s.dev.time + 500000000) / 1000000000 * 1000000000),
         gau := { s.dev.gau with ppsOut := true } } }))

/-- Targets of angle events that act at once: STAMP stores the PTP time in its slot, NOTIFY posts the argument to its master,
COMMIT raises a strobe of the mask in the argument; each takes its firing off the list. A live entry of an enabled channel that
comes due on a reference whose events fire goes on its way to its target with its cycle, its quality and its argument, once
under a cycle count; a one-shot entry is then no longer valid. The angle opcodes. Each one that sets something stages exactly
the registers and values named here for group 6 and strikes its strobe; ANGLE_STATUS answers eight words for each reference of
its mask. -/
def Obligations.AngleEventsAndOpcodesAct : Prop :=
  (∀ (s : State) (f : Firing) (fs : List Firing), s.dev.running = true → s.dev.gau.firings = f :: fs →
     (∀ slot : Fin 16, f.action = 9 → f.target = slot.val →
       ∃ t, exec (.stamp slot) s = .next t ∧ t.dev.gau.firings = fs ∧
         t.dev.reg64 (Reg.GAU_STAMPs (2 * slot.val)) = s.dev.time ∧
         s.dev.sameRegsBut t.dev [Reg.GAU_STAMPs (2 * slot.val), Reg.GAU_STAMPs (2 * slot.val) + 4]) ∧
     (∀ m : Fin 16, f.action = 10 → f.target = m.val → s.dev.bit (Reg.MBX_CTRLm m.val) 3 = true →
       ∃ t, exec (.angleNotify m) s = .next t ∧ t.dev.gau.firings = fs ∧ t.dev.rf = s.dev.rf ∧
         Map.get? t.dev.cmd.outPend (16 * m.val + 3) = some (wd (3 * 2 ^ 28 + f.arg.toNat % 2 ^ 28))) ∧
     (f.action = 7 → f.arg.toNat % 2 ^ 23 ≠ 0 →
       ∃ t, exec .angleCommit s = .next t ∧ t.dev.gau.firings = fs ∧
         t.dev.glb.strobes = placeStrobe ⟨.angle, f.arg, 0, s.dev.now, []⟩ s.dev.glb.strobes ∧
         s.dev.sameRegsBut t.dev [Reg.GLB_COMMIT_SEQ]) ∧
     (f.action = 8 → s.dev.upd.act = none →
       ∃ t, exec .angleActivate s = .next t ∧ t.dev.bit Reg.UPD_EVT_STATUS 4 = true ∧
         s.dev.sameRegsBut t.dev [Reg.UPD_EVT_STATUS])) ∧
  (∀ (s : State) (c i : Fin 64) (n cyc : Nat), s.dev.running = true → s.dev.chanRef? c.val = some n → s.dev.firesOn n = true →
     (let e := 64 * c.val + i.val
      (Word.bit (s.dev.evt e 1) 31 = true → s.dev.due n e = some (cyc, false) → 0 < Word.fld (s.dev.evt e 1) 24 4 →
        Word.fld (s.dev.evt e 1) 24 4 < 11 →
        ∃ t, exec (.angleEventDispatch c i) s = .next t ∧
          t.dev.gau.firings = s.dev.gau.firings ++
            [⟨Word.fld (s.dev.evt e 1) 24 4, Word.fld (s.dev.evt e 2) 0 16, s.dev.evt e 3, cyc, s.dev.quality n, false, false, n⟩] ∧
          Map.get? t.dev.gau.fired e = some cyc ∧
          (Word.bit (s.dev.evt e 1) 30 = true → Word.bit (t.dev.evt e 1) 31 = false) ∧
          (Word.bit (s.dev.evt e 1) 30 = false → t.dev.rf = s.dev.rf)) ∧
      (Word.bit (s.dev.evt e 1) 31 = false → exec (.angleEventDispatch c i) s = .next s) ∧
      (s.dev.due n e = none → exec (.angleEventDispatch c i) s = .next s))) ∧
  (∀ (s : State) (m : Fin 16) (tag : Fin 4096) (gen : Fin 16) (c : Cmd) (t : Dev) (r : Res), s.dev.running = true →
     (s.dev.started m.val tag.val gen.val 0x0600 c →
       s.dev.stageStrobe c (2 ^ 6) [(Reg.GAU_REFn_CTRL (c.pf 0 0 2), c.p 1), (Reg.GAU_REFn_OFFSET (c.pf 0 0 2), c.p 2),
         (Reg.GAU_REFn_JUMP (c.pf 0 0 2), c.p 3), (Reg.GAU_REFn_LIMITS (c.pf 0 0 2), c.p 4)] (Res.ok []) = (t, some r) →
       exec (.angleRefSet m tag gen) s = .next { s with dev := t.finish m.val tag.val gen.val r }) ∧
     (s.dev.started m.val tag.val gen.val 0x0601 c →
       exec (.angleStatus m tag gen) s = .next { s with dev := s.dev.finish m.val tag.val gen.val (Res.ok
         ((bitList 4 (c.p 0).toNat).flatMap (fun n => [wd (s.dev.refState n), s.dev.reg (Reg.GAU_REFn_FREQ n),
           s.dev.reg (Reg.GAU_REFn_ROCOF n), s.dev.angle n, lo32 (s.dev.cycle n), hi32 (s.dev.cycle n),
           s.dev.reg (Reg.GAU_WRAPTSn_LO n), s.dev.reg (Reg.GAU_WRAPTSn_HI n)]))) }) ∧
     (∀ e, s.dev.started m.val tag.val gen.val 0x0602 c → s.dev.freeEntry (c.pf 0 0 2) = some e →
       s.dev.bit (Reg.GAU_CHANc_CTRL (e / 64)) 0 = true →
       (s.dev.dirtyEntry e).stageStrobe c (2 ^ 6) [(Reg.GAU_SHADOW (4 * e), c.p 1), (Reg.GAU_SHADOW (4 * e + 1), c.p 2),
         (Reg.GAU_SHADOW (4 * e + 2), c.p 3), (Reg.GAU_SHADOW (4 * e + 3), c.p 4)]
         ((Res.ok [wd e]).touching s.dev [Reg.GAU_CHANc_CTRL (e / 64)]) = (t, some r) →
       exec (.angleEventAdd m tag gen) s = .next { s with dev := t.finish m.val tag.val gen.val r }) ∧
     (s.dev.started m.val tag.val gen.val 0x0602 c → s.dev.freeEntry (c.pf 0 0 2) = none →
       exec (.angleEventAdd m tag gen) s = .next { s with dev := s.dev.finish m.val tag.val gen.val (Res.st stNoResource) }) ∧
     (s.dev.started m.val tag.val gen.val 0x0603 c →
       (s.dev.dirtyEntry (c.pf 0 0 12)).stageStrobe c (2 ^ 6) [(Reg.GAU_SHADOW (4 * c.pf 0 0 12 + 1),
         Word.setBit (s.dev.staged (Reg.GAU_SHADOW (4 * c.pf 0 0 12 + 1))) 31 false)] (Res.ok []) = (t, some r) →
       exec (.angleEventRemove m tag gen) s = .next { s with dev := t.finish m.val tag.val gen.val r }) ∧
     (s.dev.started m.val tag.val gen.val 0x0604 c →
       s.dev.stageStrobe c (2 ^ 6) [(Reg.GAU_TIE, tieWith (s.dev.staged Reg.GAU_TIE) (c.pf 0 0 2) (c.pf 1 0 2) (Word.bit (c.p 2) 0))]
         (Res.ok []) = (t, some r) →
       exec (.angleTie m tag gen) s = .next { s with dev := t.finish m.val tag.val gen.val r }) ∧
     (s.dev.started m.val tag.val gen.val 0x0606 c →
       ({ s.dev with gau := { s.dev.gau with ptpRole := c.pf 0 0 2, ptpDomain := c.pf 3 0 8 } } : Dev).stageStrobe c (2 ^ 6)
         [(Reg.GAU_PTP_CTRL, wd (2 * c.pf 1 0 1 + c.pf 2 0 1))] (Res.ok []) = (t, some r) →
       exec (.anglePtpSet m tag gen) s = .next { s with dev := t.finish m.val tag.val gen.val r }))

/-- On one clock in which no reference wraps, a reference in FREERUN that steers itself advances at its last tracked frequency
under LOSS_POLICY 0 and 3, at the nominal 50 or 60 Hz under 1, and not at all under 2, where its cycle count stays and no entry
on it fires (R42). -/
def Obligations.FreerunAdvancesAsItsLossPolicySays : Prop :=
  ∀ (s : State) (n : Fin 4) (policy rate : Nat), s.pending = [] → s.dev.running = true → s.dev.refState n.val = 5 →
    s.dev.steer n.val = n.val → (s.dev.gref n.val).err = 0 → (∀ m, m < 4 → s.dev.wrapsWithin m 1 = false) →
    s.dev.fld (Reg.GAU_REFn_CTRL n.val) 30 2 = policy →
    rate = (if policy = 2 then 0 else if policy = 1 then (if s.dev.bit (Reg.GAU_REFn_CTRL n.val) 28 then 60000000 else 50000000)
      else (s.dev.gref n.val).freq) →
    (∃ t, step s = .next t ∧ t.dev.cycle n.val = s.dev.cycle n.val ∧
      (t.dev.angle n.val).toNat * 10 ^ 15 + (t.dev.gref n.val).frac =
        (s.dev.angle n.val).toNat * 10 ^ 15 + (s.dev.gref n.val).frac + rate * 2 ^ 33 ∧
      (policy = 2 → t.dev.angle n.val = s.dev.angle n.val)) ∧
    (∀ c i, policy = 2 → s.dev.chanRef? c.val = some n.val → exec (.angleEventDispatch c i) s = .next s)

/-- A window starts with the budget of the effective cap, less the debt of the window before and the base energy, with no class
3 energy spent, the GSTRESS level and the trip hold of this moment, and EBS_WINDOW counts it. A refused unit offered again stays
refused where its window has no room for it; where it has, the unit leaves the waiting list, is granted, and its cost is charged
to the window. GSTRESS and heat. A change of the balls is shown and starts their filter again; a stable level is accepted. A
hottest reading is shown; at or above the trip point it trips, more than 5 degrees below it the trip clears; a second one
running at 125 degrees halts the device. -/
def Obligations.EnergyWindowsAdmitUnits : Prop :=
  (∀ (s : State), s.dev.halted = false → s.dev.pins.rstLow = false → s.dev.pins.pgLow = [] →
     ∃ t, exec .windowStart s = .next t ∧ t.dev.ebs.level = s.dev.levelTarget ∧ t.dev.ebs.class3 = 0 ∧
       t.dev.ebs.tripHold = s.dev.bit Reg.EBS_THERMAL_TRIP 0 ∧ t.dev.reg Reg.EBS_WINDOW = s.dev.reg Reg.EBS_WINDOW + 1 ∧
       (s.dev.levelTarget = s.dev.ebs.level → t.dev.ebs.budget = s.dev.effectiveCap.1 * 1000000 ∧
         t.dev.ebs.room = ((s.dev.effectiveCap.1 * 1000000 : Nat) : Int) -
           (Nat.min (-s.dev.ebs.room).toNat (s.dev.effectiveCap.1 * 1000000) : Nat) - s.dev.baseCost)) ∧
  (∀ (s : State) (p : Point) (u : Nat) (w : Waiting), s.dev.halted = false → s.dev.pins.rstLow = false → s.dev.pins.pgLow = [] →
     s.dev.waitingUnit p u = some w →
     (s.dev.admits w.cls w.cost w.slice = false → exec (.refusedUnitAdmitted p u) s = .next s) ∧
     (s.dev.admits w.cls w.cost w.slice = true → p ≠ .cipher →
       ∃ t, exec (.refusedUnitAdmitted p u) s = .next t ∧ t.dev.waitingUnit p u = none ∧
         t.dev.ebs.granted = s.dev.ebs.granted ++ [(p, u)] ∧ t.dev.ebs.room = s.dev.ebs.room - w.cost)) ∧
  (∀ (s : State), s.dev.running = true → s.dev.pins.pgLow = [] →
     (∀ l : Fin 4, ∃ t, exec (.gstressChange l) s = .next t ∧ t.dev.fld Reg.EBS_GSTRESS_CTRL 4 2 = l.val ∧ t.dev.ebs.balls = l.val ∧
       t.dev.ebs.ballsAt = s.dev.now ∧ s.dev.sameRegsBut t.dev [Reg.EBS_GSTRESS_CTRL]) ∧
     exec .gstressAccept s = .next { s with dev := { s.dev with ebs := { s.dev.ebs with accepted := s.dev.ebs.balls } } } ∧
     (∀ r : BitVec 16, r.toInt < 500 → ∃ t, exec (.tempReading [r]) s = .next t ∧ t.dev.fld Reg.EBS_TEMP 0 16 = r.toNat ∧
       t.dev.ebs.hotRun = 0 ∧
       ((4 * (s.dev.fld Reg.EBS_THERMAL_CTRL 8 8 : Int)) ≤ r.toInt → t.dev.bit Reg.EBS_THERMAL_TRIP 0 = true ∧ t.dev.ebs.tripHold = true) ∧
       (r.toInt < 4 * (s.dev.fld Reg.EBS_THERMAL_CTRL 8 8 : Int) - 20 → t.dev.bit Reg.EBS_THERMAL_TRIP 0 = false)) ∧
     (∀ r : BitVec 16, 500 ≤ r.toInt → 1 ≤ s.dev.ebs.hotRun →
       ∃ t, exec (.tempReading [r]) s = .next t ∧ t.dev.halted = true))

/-- The energy opcodes. Those that set something stage exactly the register and value named here for group 7 and strike its
strobe, a cap below 80 W answering PARTIAL; those that read answer the words named. The ageing opcodes: the report's registers
at their places, the plan asked for, a schedule at a PTP time that stands for the pending plan, and a re-plan on request that
changes nothing where its fields are those in force. -/
def Obligations.EnergyAndAgeingOpcodesAct : Prop :=
  (∀ (s : State) (m : Fin 16) (tag : Fin 4096) (gen : Fin 16) (c : Cmd) (t : Dev) (r : Res), s.dev.running = true →
     (s.dev.started m.val tag.val gen.val 0x0700 c →
       s.dev.stageStrobe c (2 ^ 7) [(if c.pf 0 0 1 = 0 then Reg.EBS_CAP_HOST else Reg.EBS_CAP_BMC, wd (c.pf 1 0 16))]
         { Res.ok [] with status := if c.pf 1 0 16 < 800 then stPartial else stOK } = (t, some r) →
       exec (.energyCapSet m tag gen) s = .next { s with dev := t.finish m.val tag.val gen.val r }) ∧
     (s.dev.started m.val tag.val gen.val 0x0701 c →
       ∃ u data, exec (.energyStatus m tag gen) s = .next u ∧ u.dev.finished m.val tag.val gen.val stOK data ∧ data.length = 10 ∧
         wordAt data 0 = s.dev.reg Reg.EBS_CAP_STATUS ∧ wordAt data 2 = s.dev.reg Reg.EBS_TEMP ∧
         wordAt data 3 = s.dev.reg Reg.EBS_THERMAL_TRIP ∧ wordAt data 8 = s.dev.reg Reg.EBS_ENERGY_DEVICE_LO ∧
         wordAt data 9 = s.dev.reg Reg.EBS_ENERGY_DEVICE_HI ∧ u.dev.rf = s.dev.rf) ∧
     (s.dev.started m.val tag.val gen.val 0x0702 c →
       exec (.energySliceRead m tag gen) s = .next { s with dev := s.dev.finish m.val tag.val gen.val (Res.ok
         ((List.range (c.pf 1 0 10)).flatMap (fun i => if s.dev.sliceState (c.pf 0 0 13 + i) = 0 then [0, 0] else
           [s.dev.reg (Reg.EBS_SLICE_ENERGYs (c.pf 0 0 13 + i) 0), s.dev.reg (Reg.EBS_SLICE_ENERGYs (c.pf 0 0 13 + i) 1)]))) }) ∧
     (s.dev.started m.val tag.val gen.val 0x0703 c →
       s.dev.stageStrobe c (2 ^ 7) [(Reg.EBS_SLICE_LIMITs c.slice, wd (c.pf 1 0 16))] (Res.ok []) = (t, some r) →
       exec (.energySliceLimit m tag gen) s = .next { s with dev := t.finish m.val tag.val gen.val r }) ∧
     (s.dev.started m.val tag.val gen.val 0x0704 c → energyClassSetBad c s.dev = false →
       s.dev.stageExpert c (2 ^ 7) [(Reg.EBS_RESERVE, wd (c.pf 1 0 8 * 256 + c.pf 0 0 8))] = (t, some r) →
       exec (.energyClassSet m tag gen) s = .next { s with dev := t.finish m.val tag.val gen.val r }) ∧
     (s.dev.started m.val tag.val gen.val 0x0704 c → 255 < c.pf 0 0 8 + c.pf 1 0 8 →
       exec (.energyClassSet m tag gen) s = .next { s with dev := s.dev.finish m.val tag.val gen.val (Res.st stBadParam) }) ∧
     (s.dev.started m.val tag.val gen.val 0x0705 c →
       s.dev.stageExpert c (2 ^ 7) [(Reg.EBS_GSTRESS_CTRL,
         wd (Word.fld (s.dev.staged Reg.EBS_GSTRESS_CTRL) 0 1 + 2 * c.pf 0 31 1 + 4 * c.pf 0 0 2))] = (t, some r) →
       exec (.energyStressForce m tag gen) s = .next { s with dev := t.finish m.val tag.val gen.val r }) ∧
     (s.dev.started m.val tag.val gen.val 0x0706 c →
       ∃ u, exec (.energyTableRead m tag gen) s = .next u ∧ u.dev.rf = s.dev.rf ∧
         (u.dev.finished m.val tag.val gen.val stOK (etabKeys.map s.dev.reg) ∨
          u.dev.finished m.val tag.val gen.val stExpert (etabKeys.map s.dev.reg) ∧ s.dev.anyExpert etabKeys = true))) ∧
  (∀ (s : State) (m : Fin 16) (tag : Fin 4096) (gen : Fin 16) (c : Cmd), s.dev.running = true →
     (s.dev.started m.val tag.val gen.val 0x0B10 c →
       ∃ t data, exec (.ageReport m tag gen) s = .next t ∧ t.dev.finished m.val tag.val gen.val stOK data ∧ data.length = 171 ∧
         wordAt data 0 = s.dev.reg Reg.AGE_PLAN_VERSION ∧ wordAt data 2 = s.dev.reg Reg.AGE_POWERED_HOURS ∧
         (∀ i, i < 33 → wordAt data (4 + i) = wd (Map.getD s.dev.age.bins i 0)) ∧
         (∀ i, i < 128 → wordAt data (37 + i) = wd (s.dev.fld (Reg.AGE_MONm i) 16 16)) ∧
         wordAt data 165 = s.dev.reg Reg.AGE_LIFE_H ∧ t.dev.rf = s.dev.rf) ∧
     (s.dev.started m.val tag.val gen.val 0x0B11 c → c.pf 0 0 2 = 0 →
       exec (.agePlanRead m tag gen) s = .next { s with dev := s.dev.finish m.val tag.val gen.val (Res.ok s.dev.planCur) }) ∧
     (s.dev.started m.val tag.val gen.val 0x0B11 c → c.pf 0 0 2 = 2 →
       ∃ t data, exec (.agePlanRead m tag gen) s = .next t ∧ t.dev.finished m.val tag.val gen.val stOK data ∧ data.length = 67 ∧
         data.take 64 = s.dev.planPend) ∧
     (s.dev.started m.val tag.val gen.val 0x0B12 c → agePlanScheduleBad c s.dev = false → c.pf 0 31 1 = 0 →
       exec (.agePlanSchedule m tag gen) s = .next { s with dev := ({ s.dev with age := { s.dev.age with
         pendWhen := some (.ptp (cat64 (c.p 1) (c.p 2))) } } : Dev).finish m.val tag.val gen.val (Res.ok []) }) ∧
     (s.dev.started m.val tag.val gen.val 0x0B12 c → s.dev.regN Reg.AGE_PENDING_VERSION = 0 →
       exec (.agePlanSchedule m tag gen) s = .next { s with dev := s.dev.finish m.val tag.val gen.val (Res.st stBadParam) }) ∧
     (∀ want, s.dev.started m.val tag.val gen.val 0x0B13 c →
       (((s.dev.makePlan s.dev.planCur want 3).1.drop 4).take 11 = (s.dev.planCur.drop 4).take 11 →
         exec (.ageReplanNow m tag gen want) s = .next { s with dev := s.dev.finish m.val tag.val gen.val (Res.ok []) }) ∧
       (((s.dev.makePlan s.dev.planCur want 3).1.drop 4).take 11 ≠ (s.dev.planCur.drop 4).take 11 →
         ∃ t, exec (.ageReplanNow m tag gen want) s = .next t ∧
           t.dev.finished m.val tag.val gen.val stOK [wd ((s.dev.age.lastVersion + 1) % 2 ^ 32)] ∧
           t.dev.regN Reg.AGE_PENDING_VERSION = (s.dev.age.lastVersion + 1) % 2 ^ 32)))

/-- Monitor readings of the four groups are shown in order from the group's first monitor on, with a wear index up to 1000, and
one out of range sets MONITOR_FAULT. A daily and a monthly record are put before those kept, and their sums start again. A re-
plan leaves a plan pending under the next version, within the voltage limits of the plan in force, to apply after the delay; one
for a short margin needs a plan that a limit binds, and applies after 10 minutes where the guard is nearly gone. A tightening
plan that applies asks for its voltage first. A voltage write goes 10 mV at most toward the target; a failed one is tried again,
and the third failure ends the change with a record. -/
def Obligations.MonitorsReplansAndPlansAct : Prop :=
  (∀ (s : State), s.dev.running = true →
     (∀ (rs : List (BitVec 16)) (outside : List (Fin 128)),
       (∃ t, exec (.ringOscillatorRead rs outside) s = .next t ∧ t.dev.showsReadings 0 80 rs outside) ∧
       (∃ t, exec (.eyeMonitorRead rs outside) s = .next t ∧ t.dev.showsReadings 80 28 rs outside) ∧
       (∃ t, exec (.hbmProbeRead rs outside) s = .next t ∧ t.dev.showsReadings 108 8 rs outside) ∧
       (∃ t, exec (.leakageRead rs outside) s = .next t ∧ t.dev.showsReadings 116 12 rs outside)) ∧
     (∃ t w, exec .dailyAgeingRecord s = .next t ∧ t.dev.age.daily = (w :: s.dev.age.daily).take 32 ∧ w.length = 256 ∧
       wordAt w 0 = wd ((Map.getD s.dev.age.day 0 (0, 0, 0, 0)).1 % 65536 + (Map.getD s.dev.age.day 0 (0, 0, 0, 0)).2.1 % 65536 * 65536) ∧
       t.dev.age.day = [] ∧ t.dev.age.dayBins = [] ∧ t.dev.rf = s.dev.rf) ∧
     (∃ t w, exec .monthlyAgeingRecord s = .next t ∧ t.dev.age.monthly = (w :: s.dev.age.monthly).take 512 ∧ w.length = 96 ∧
       wordAt w 81 = s.dev.reg Reg.AGE_POWERED_HOURS ∧ t.dev.age.period = [] ∧ t.dev.age.periodBins = [] ∧ t.dev.rf = s.dev.rf)) ∧
  (∀ (s : State) (want : List Word), s.dev.running = true →
     (let old := planFld s.dev.planCur 4 16 16
      let ok (t : Dev) (clocks : Nat) : Prop := t.regN Reg.AGE_PENDING_VERSION = (s.dev.age.lastVersion + 1) % 2 ^ 32 ∧
        t.age.pendWhen = some (.clock (s.dev.now + clocks)) ∧ t.bit Reg.AGE_STATUS 0 = true ∧
        (680 ≤ old → old ≤ 850 → Nat.max 680 (old - 10) ≤ planFld t.planPend 4 16 16 ∧ planFld t.planPend 4 16 16 ≤ Nat.min 850 (old + 20))
      (∃ t, exec (.periodicReplan want) s = .next t ∧ ok t.dev s.dev.planDelay) ∧
      (∀ q, s.dev.age.shortPlan = true →
        ∃ t, exec (.marginShortReplan want q) s = .next t ∧ ok t.dev (if q then 300000000000 else s.dev.planDelay)) ∧
      (∀ q, s.dev.age.shortPlan = false → exec (.marginShortReplan want q) s = .next s))) ∧
  (∀ (s : State), s.dev.running = true →
     (s.dev.regN Reg.AGE_PENDING_VERSION = 0 → exec .planApply s = .next s) ∧
     (s.dev.regN Reg.AGE_PLAN_VERSION < s.dev.regN Reg.AGE_PENDING_VERSION → s.dev.age.vdd = s.dev.age.vddTarget →
       tightening s.dev.planCur s.dev.planPend = true → s.dev.age.vdd < planFld s.dev.planPend 4 16 16 →
       exec .planApply s = .next { s with dev := { s.dev with
         age := { s.dev.age with vddTarget := planFld s.dev.planPend 4 16 16, tightening := true, avsTries := 0, pendWhen := none },
         ebs := { s.dev.ebs with oldTable := s.dev.planTable s.dev.planPend } } }) ∧
     (s.dev.age.avsTries = 0 → s.dev.age.vdd + 10 < s.dev.age.vddTarget →
       exec (.avsVoltageStep true) s = .next { s with dev := { s.dev with
         out := .avs (s.dev.age.vdd + 10) :: s.dev.out,
         age := { s.dev.age with vdd := s.dev.age.vdd + 10, avsTries := 0 } } } ∧
       exec (.avsVoltageStep false) s = .next { s with dev := { s.dev with
         out := .avs (s.dev.age.vdd + 10) :: s.dev.out,
         age := { s.dev.age with avsTries := 1 } } }) ∧
     (s.dev.age.avsTries = 1 → s.dev.age.vdd + 10 < s.dev.age.vddTarget →
       exec (.avsWriteRetry true) s = .next { s with dev := { s.dev with
         out := .avs (s.dev.age.vdd + 10) :: s.dev.out,
         age := { s.dev.age with vdd := s.dev.age.vdd + 10, avsTries := 0 } } }) ∧
     (s.dev.age.avsTries = 2 → s.dev.age.vdd ≠ s.dev.age.vddTarget →
       ∃ t, exec (.avsWriteRetry false) s = .next t ∧ t.dev.age.vdd = s.dev.age.vdd ∧ t.dev.age.vddTarget = s.dev.age.vdd ∧
         t.dev.age.pendWhen = none ∧ t.dev.reg Reg.FLT_SEQ = s.dev.reg Reg.FLT_SEQ + 1))

/-- ENERGY_SLICE_LIMIT, with nothing staged: the slice's limit takes its value under one strobe, and every other register but
the commit status and the strobe count keeps its own. -/
def Obligations.SliceLimitTakesItsValueAtOnce : Prop :=
  ∀ (s : State) (m : Fin 16) (tag : Fin 4096) (gen : Fin 16) (c : Cmd), s.dev.running = true → s.dev.rf.stg = [] →
    s.dev.started m.val tag.val gen.val 0x0703 c → c.slice < 8192 →
    ∃ t, exec (.energySliceLimit m tag gen) s = .next t ∧ t.dev.reg (Reg.EBS_SLICE_LIMITs c.slice) = wd (c.pf 1 0 16) ∧
      s.dev.sameRegsBut t.dev [Reg.EBS_SLICE_LIMITs c.slice, Reg.GLB_COMMIT_SEQ, Reg.GLB_COMMIT_STATUS] ∧ t.dev.rf.stg = []

/-- A link of the endpoints trains once, with the rate, width and flit mode reached shown and its functions present; PERST
released samples the strap and starts training; a link that goes down frees every tag it had and forgets its width. A function
that has no work in flight: clearing Bus Master Enable or entering D3hot stops it and is reported, setting it or returning to D0
starts nothing by itself, a function-level reset clears it and empties its master's queues, and the reset's end answers
configuration requests again. Link power. A link in flit mode halves its width into L0p down to its narrowest and returns to the
width it trained at; an idle link enters L1 or the substate asked for; a link a deterministic queue is homed on does neither. -/
def Obligations.HostLinksAndFunctionsAct : Prop :=
  (∀ (s : State), s.dev.phyOn = true →
     (∀ (l : Fin 4) (rate : Fin 8) (width : Fin 32) (flit : Bool), s.dev.linkUp l.val = true →
       exec (.pcieLinkUp l rate width flit) s = .next s) ∧
     (∀ (l : Fin 4) (rate : Fin 8) (width : Fin 32) (flit : Bool), s.dev.linkUp l.val = false → s.dev.linkFns l.val ≠ [] →
       0 < rate.val → rate.val < 5 → (rate.val = 4 → flit = true) → widthOk width.val (s.dev.bif (l.val / 2)) = true →
       ∃ t, exec (.pcieLinkUp l rate width flit) s = .next t ∧ t.dev.linkUp l.val = true ∧
         t.dev.bit (Reg.PCE_LINK_STATUSl l.val) 14 = flit ∧ t.dev.fld (Reg.PCE_LINK_STATUSl l.val) 8 3 = rate.val ∧
         t.dev.fld (Reg.PCE_LINK_STATUSl l.val) 3 5 = width.val ∧ (∀ f ∈ s.dev.linkFns l.val, (t.dev.fn f).present = true) ∧
         s.dev.sameRegsBut t.dev [Reg.PCE_LINK_STATUSl l.val]) ∧
     (∀ (e : Fin 2) (strap : Bool), s.dev.linkUp (2 * e.val) = false → s.dev.linkUp (2 * e.val + 1) = false →
       ∃ t, exec (.perstDeassert e strap) s = .next t ∧ t.dev.bit Reg.GLB_STRAPS e.val = strap ∧
         t.dev.fld (Reg.PCE_LINK_STATUSl (2 * e.val)) 11 3 = 5 ∧
         s.dev.sameRegsBut t.dev [Reg.GLB_STRAPS, Reg.PCE_LINK_STATUSl (2 * e.val), Reg.PCE_LINK_STATUSl (2 * e.val + 1)]) ∧
     (∀ l : Fin 4, s.dev.linkUp l.val = true → ∃ t, exec (.linkDown l) s = .next t ∧
       (∀ p ∈ t.dev.pce.reads, p.1 / 16384 ≠ l.val) ∧ t.dev.reg (Reg.PCE_TAGSl l.val) = 0 ∧ Map.get? t.dev.pce.trained l.val = none)) ∧
  (∀ (s : State) (f : Fin 4), s.dev.phyOn = true → (s.dev.fn f.val).present = true →
     ((s.dev.fn f.val).bme = true → s.dev.noWork → ∃ t, exec (.busMasterDisable f) s = .next t ∧ (t.dev.fn f.val).bme = false ∧
       t.dev.canIssue f.val = false ∧ t.dev.bit (Reg.PCE_EVT_STATUSf f.val) 4 = true ∧
       s.dev.sameRegsBut t.dev [Reg.PCE_EVT_STATUSf f.val]) ∧
     ((s.dev.fn f.val).flr = false →
       exec (.busMasterEnable f) s = .next { s with dev := s.dev.setFn f.val (fun p => { p with bme := true }) }) ∧
     ((s.dev.fn f.val).flr = false → (s.dev.fn f.val).d3 = false → s.dev.noWork → ∃ t, exec (.powerStateWrite f true) s = .next t ∧
       (t.dev.fn f.val).d3 = true ∧ t.dev.canIssue f.val = false ∧ t.dev.bit (Reg.PCE_EVT_STATUSf f.val) 4 = true ∧
       s.dev.sameRegsBut t.dev [Reg.PCE_EVT_STATUSf f.val]) ∧
     ((s.dev.fn f.val).flr = false → (s.dev.fn f.val).d3 = true →
       exec (.powerStateWrite f false) s = .next { s with dev := s.dev.setFn f.val (fun p => { p with d3 := false }) }) ∧
     (s.dev.noWork → ∃ t, exec (.functionLevelReset f) s = .next t ∧ (t.dev.fn f.val).flr = true ∧ (t.dev.fn f.val).bme = false ∧
       (t.dev.fn f.val).heldStore = [] ∧ (∀ p ∈ t.dev.pce.reads, p.2.fn ≠ f.val) ∧ t.dev.reg (Reg.CMD_PIm f.val) = 0 ∧
       t.dev.reg (Reg.CMD_CIm f.val) = 0 ∧ t.dev.bit (Reg.PCE_EVT_STATUSf f.val) 6 = true) ∧
     exec (.flrComplete f) s = .next { s with dev := s.dev.setFn f.val (fun p => { p with flr := false }) }) ∧
  (∀ (s : State) (l : Fin 4), s.dev.running = true → s.dev.linkUp l.val = true →
     (let k := Reg.PCE_LINK_STATUSl l.val
      (s.dev.detHomed l.val = true → exec (.l0pEntry l) s = .next s ∧ ∀ sub, exec (.l1Entry l sub) s = .next s) ∧
      (s.dev.detHomed l.val = false → s.dev.bit k 14 = true → s.dev.fld k 11 3 ≤ 1 → s.dev.fld (Reg.PCE_PM_CTRLl l.val) 16 8 ≠ 0 →
        s.dev.l0pMin l.val * 2 ≤ s.dev.fld k 3 5 →
        ∃ t, exec (.l0pEntry l) s = .next t ∧ t.dev.fld k 3 5 = s.dev.fld k 3 5 / 2 ∧ t.dev.fld k 11 3 = 1 ∧
          s.dev.sameRegsBut t.dev [k]) ∧
      (∀ w, s.dev.fld k 11 3 = 1 → Map.get? s.dev.pce.trained l.val = some w → w < 32 →
        ∃ t, exec (.l0pExit l) s = .next t ∧ t.dev.fld k 3 5 = w ∧ t.dev.fld k 11 3 = 0 ∧ s.dev.sameRegsBut t.dev [k]) ∧
      (∀ sub, s.dev.detHomed l.val = false → s.dev.fld k 11 3 = 0 → s.dev.fld (Reg.PCE_PM_CTRLl l.val) 24 8 ≠ 0 →
        ∃ t, exec (.l1Entry l sub) s = .next t ∧ t.dev.fld k 11 3 = 2 + sub.val ∧ s.dev.sameRegsBut t.dev [k])))

/-- Completions and tags. The last data of a payload read load its item and free the tag; data with no read are counted as
unexpected; a read that times out puts its tag into quarantine, where a late completion is logged; the quarantine ends with the
tag free. Stated where no other item waits for a tag. Translations and interrupts. A page found enters the cache, an answer to
an abandoned request is only counted, an invalidated link leaves the fence; a message store entry takes the words of its window;
unmasking a vector sends what is pending; MSI-X turned on ends the function's INTx. -/
def Obligations.CompletionsTranslationsInterruptsAct : Prop :=
  (∀ (s : State) (l : Fin 4) (tag : Fin 16384), s.dev.running = true →
     (let k := 16384 * l.val + tag.val
      (∀ st p bs, s.dev.linkUp l.val = true → Map.get? s.dev.pce.reads k = none → ∃ t, exec (.pcieCompletion l tag st p bs) s = .next t ∧
        t.dev.pce.reads = s.dev.pce.reads ∧
        t.dev.reg (Reg.PCE_COUNTSf ((s.dev.linkFns l.val).headD 0) 1) = Word.satAdd (s.dev.reg (Reg.PCE_COUNTSf ((s.dev.linkFns l.val).headD 0) 1)) 1 ∧
        s.dev.sameRegsBut t.dev [Reg.PCE_COUNTSf ((s.dev.linkFns l.val).headD 0) 1]) ∧
      (∀ r id i bs, s.dev.linkUp l.val = true → Map.get? s.dev.pce.reads k = some r → r.state = .outstanding → r.item = .payload id →
        s.dev.rng.items = [(id, i)] → i.bytes = [] → bs.length = fragBytes i.frags →
        ∃ t, exec (.pcieCompletion l tag 0 false bs) s = .next t ∧ Map.get? t.dev.pce.reads k = none ∧
          Map.get? t.dev.rng.items id = some { i with bytes := bs, phase := .loaded } ∧ s.dev.sameRegsBut t.dev [Reg.PCE_TAGSl l.val]) ∧
      (∀ r, Map.get? s.dev.pce.reads k = some r → r.state = .outstanding → r.item = .other →
        ∃ t, exec (.completionTimeout l tag) s = .next t ∧
          Map.get? t.dev.pce.reads k = some { r with state := .quarantine, item := .other } ∧
          t.dev.bit (Reg.PCE_EVT_STATUSf r.fn) 2 = true ∧
          s.dev.sameRegsBut t.dev [Reg.PCE_COUNTSf r.fn 4, Reg.PCE_EVT_STATUSf r.fn, Reg.PCE_TAGSl l.val]) ∧
      (∀ r, Map.get? s.dev.pce.reads k = some r → r.state = .quarantine → s.dev.rng.items = [] →
        (∃ t, exec (.quarantineExpiry l tag) s = .next t ∧ Map.get? t.dev.pce.reads k = none ∧
          s.dev.sameRegsBut t.dev [Reg.PCE_TAGSl l.val]) ∧
        (∀ st p bs, s.dev.linkUp l.val = true → ∃ t, exec (.pcieCompletion l tag st p bs) s = .next t ∧
          Map.get? t.dev.pce.reads k = none ∧ t.dev.reg Reg.CMD_LEES_SEQ = s.dev.reg Reg.CMD_LEES_SEQ + 1 ∧
          t.dev.bit (Reg.PCE_EVT_STATUSf r.fn) 3 = true)))) ∧
  (∀ (s : State), s.dev.running = true →
     (∀ (sl : Fin 8192) (a : Nat) (ok : Bool), (sl.val, a) ∉ s.dev.pce.pageReqs →
       exec (.pageRequestResponse sl a ok) s = .next { s with dev := { s.dev with slc := { s.dev.slc with
         lateResponses := s.dev.slc.lateResponses + 1 } } }) ∧
     (∀ (sl : Fin 8192) (a : Nat), (sl.val, a) ∈ s.dev.pce.pageReqs → s.dev.pagedItems sl.val a = [] →
       ∃ t, exec (.pageRequestResponse sl a true) s = .next t ∧ (sl.val, a) ∈ t.dev.pce.atc ∧ (sl.val, a) ∉ t.dev.pce.pageReqs ∧
         t.dev.rf = s.dev.rf) ∧
     (∀ (l : Fin 4) (sl : Fin 8192) (f : Fence), Map.get? s.dev.slc.fences sl.val = some f →
       ∃ t, exec (.atsInvalidateComplete l sl) s = .next t ∧
         Map.get? t.dev.slc.fences sl.val = some { f with atsLinks := f.atsLinks.filter (· ≠ l.val) } ∧ t.dev.rf = s.dev.rf) ∧
     (∀ (m : Fin 16) (v : Word), Word.bit v 31 = false → Word.bit (s.dev.reg (Reg.PCE_IMS_ENTRY (s.dev.fld (Reg.PCE_IMS_INDEXm m.val) 0 17) 3)) 31 = false →
       Word.bit (s.dev.reg (Reg.PCE_IMS_ENTRY (s.dev.fld (Reg.PCE_IMS_INDEXm m.val) 0 17) 3)) 29 = false →
       ∃ t, exec (.imsEntryWrite m v) s = .next t ∧
         (let e := s.dev.fld (Reg.PCE_IMS_INDEXm m.val) 0 17
          t.dev.reg (Reg.PCE_IMS_ENTRY e 1) = s.dev.reg (Reg.PCE_IMS_DATAm m.val 1) ∧
          t.dev.reg (Reg.PCE_IMS_ENTRY e 2) = s.dev.reg (Reg.PCE_IMS_DATAm m.val 2) ∧
          t.dev.fld (Reg.PCE_IMS_ENTRY e 3) 0 13 = Word.fld v 0 13 ∧ t.dev.fld (Reg.PCE_IMS_ENTRY e 3) 27 2 = Word.fld v 27 2 ∧
          t.dev.bit (Reg.PCE_IMS_ENTRY e 3) 30 = Word.bit v 30 ∧
          s.dev.sameRegsBut t.dev ((List.range 4).map (Reg.PCE_IMS_ENTRY e)))) ∧
     (∀ (m : Fin 16) (v : Word), Word.bit v 31 = true → Word.bit (s.dev.reg (Reg.PCE_IMS_ENTRY (s.dev.fld (Reg.PCE_IMS_INDEXm m.val) 0 17) 3)) 31 = false →
       Word.bit (s.dev.reg (Reg.PCE_IMS_ENTRY (s.dev.fld (Reg.PCE_IMS_INDEXm m.val) 0 17) 3)) 29 = false →
       (s.dev.poolRoom (Word.fld v 0 13) 1 1 = false → exec (.imsEntryWrite m v) s = .next s) ∧
       (s.dev.poolRoom (Word.fld v 0 13) 1 1 = true → ∃ t, exec (.imsEntryWrite m v) s = .next t ∧
         t.dev.bit (Reg.PCE_IMS_ENTRY (s.dev.fld (Reg.PCE_IMS_INDEXm m.val) 0 17) 3) 31 = true ∧
         t.dev.holds (Word.fld v 0 13) 1 = s.dev.holds (Word.fld v 0 13) 1 + 1)) ∧
     (∀ (f : Fin 4) (vec : Fin 2048), (s.dev.fn f.val).present = true → vec.val ∉ (s.dev.fn f.val).pba →
       ∃ t, exec (.msixUnmask f vec) s = .next t ∧ vec.val ∈ (t.dev.fn f.val).unmasked ∧ t.dev.rf = s.dev.rf) ∧
     (∀ (f : Fin 4) (on : Bool), (s.dev.fn f.val).present = true → (s.dev.fn f.val).flr = false →
       ∃ t, exec (.msixEnableWrite f on) s = .next t ∧ (t.dev.fn f.val).msixOn = on ∧
         (on = true → (t.dev.fn f.val).intxPend = []) ∧ t.dev.rf = s.dev.rf))

/-- A write to SLC_CORK corks a live slice only under its incarnation: an ACTIVE slice with no channel becomes CORKED with the
cause first recorded, and SLC_EVT_STATUS names it. The quiesce walk. A step that is not complete stays under way; one that is
gives way to the next, and the last makes the slice QUIESCED. The fence of a destroyed slice closes once its sweep, its
invalidations, its Stop Marker and its reads are done: the slice is FREE under its next incarnation. -/
def Obligations.SlicesCorkQuiesceAndFence : Prop :=
  (∀ (s : State) (v : Word), s.dev.running = true →
     (let sl := Word.fld v 0 13
      ((Word.bit v 31 = false ∨ s.dev.sliceState sl = 0 ∨ s.dev.incarnation sl ≠ Word.fld v 16 8) → exec (.slcCorkWrite v) s = .next s) ∧
      (Word.bit v 31 = true → s.dev.sliceState sl = 1 → s.dev.incarnation sl = Word.fld v 16 8 → s.dev.sliceChans sl = [] →
        s.dev.fld (Reg.SLC_SLICE_STATUS sl 0) 25 4 = 0 →
        ∃ t, exec (.slcCorkWrite v) s = .next t ∧ t.dev.sliceState sl = 2 ∧ t.dev.fld (Reg.SLC_SLICE_STATUS sl 0) 25 4 = 9 ∧
          t.dev.bit Reg.SLC_EVT_STATUS 0 = true ∧ t.dev.reg Reg.SLC_EVT_SLICE = wd sl))) ∧
  (∀ (s : State) (slice : Fin 8192) (w : Walk), s.dev.running = true → Map.get? s.dev.slc.walks slice.val = some w →
     (s.dev.stepDone slice.val w.step = false → exec (.quiesceStepDone slice) s = .next s) ∧
     (s.dev.sliceState slice.val = 3 → s.dev.stepDone slice.val w.step = true → w.step ∈ [1, 3, 4, 6, 7, 9] →
       exec (.quiesceStepDone slice) s = .next { s with dev := { s.dev with slc := { s.dev.slc with
         walks := Map.put s.dev.slc.walks slice.val { w with step := w.step + 1 } } } }) ∧
     (s.dev.sliceState slice.val = 3 → s.dev.stepDone slice.val 10 = true → w.step = 10 →
       ∃ t, exec (.quiesceStepDone slice) s = .next t ∧ t.dev.sliceState slice.val = 4 ∧ t.dev.bit Reg.SLC_EVT_STATUS 2 = true ∧
         s.dev.sameRegsBut t.dev [Reg.SLC_SLICE_STATUS slice.val 0, Reg.SLC_EVT_STATUS, Reg.SLC_EVT_SLICE])) ∧
  (∀ (s : State) (slice : Fin 8192) (f : Fence), s.dev.running = true → Map.get? s.dev.slc.fences slice.val = some f →
     f.stopSent = true →
     (s.dev.fenceClear slice.val f = false → exec (.fenceClose slice) s = .next s) ∧
     (s.dev.fenceClear slice.val f = true → s.dev.sliceState slice.val = 5 →
       ∃ t, exec (.fenceClose slice) s = .next t ∧ t.dev.sliceState slice.val = 0 ∧
         t.dev.incarnation slice.val = (s.dev.incarnation slice.val + 1) % 256 ∧ Map.get? t.dev.slc.fences slice.val = none ∧
         t.dev.bit Reg.SLC_EVT_STATUS 3 = true))

/-- The slice opcodes that set a slice's life: creation is refused or makes the slice ACTIVE with its words once its strobe has
applied; quiescing starts the walk or answers its report; reset, destruction need a QUIESCED slice and leave it ACTIVE or
FENCED; uncorking leaves it ACTIVE unless its cause still holds. The slice opcodes that read, log and move a slice: status
words; the dirty log started empty, stopped, harvested; the state record written, and loaded whole or not at all. -/
def Obligations.SliceOpcodesAct : Prop :=
  (∀ (s : State) (m : Fin 16) (tag : Fin 4096) (gen : Fin 16) (c : Cmd), s.dev.running = true →
     (∀ st sl, s.dev.started m.val tag.val gen.val 0x0100 c → s.dev.createCheck c = (st, sl) → st ≠ stOK →
       exec (.sliceCreate m tag gen) s = .next { s with dev := s.dev.finish m.val tag.val gen.val (Res.st st) }) ∧
     (∀ sl t r, s.dev.started m.val tag.val gen.val 0x0100 c → s.dev.createCheck c = (stOK, sl) →
       s.dev.stageStrobe c (2 ^ 2 + 2 ^ 7) ((Reg.EBS_SLICE_LIMITs sl, c.p 8) ::
         (List.range 6).map (fun i => (Reg.SLC_QUOTA2 sl + 4 * i, c.p (2 + i)))) (Res.ok [wd (sl * 65536 + s.dev.incarnation sl)]) = (t, some r) →
       r.status = stOK →
       ∃ u, exec (.sliceCreate m tag gen) s = .next u ∧ u.dev.sliceState sl = 1 ∧ u.dev.pasid sl = c.pf 0 0 20 ∧
         u.dev.home sl = c.pf 0 20 2 ∧ u.dev.quota sl 0 = c.pf 1 0 11 ∧ u.dev.holds sl 0 = t.holds sl 0 + c.pf 1 0 11 ∧
         u.dev.cmd = (t.finish m.val tag.val gen.val r).cmd) ∧
     (s.dev.started m.val tag.val gen.val 0x0101 c → s.dev.sliceState c.slice = 4 →
       exec (.sliceQuiesce m tag gen) s = .next { s with dev := s.dev.finish m.val tag.val gen.val (Res.ok (s.dev.walkReport c.slice)) }) ∧
     (s.dev.started m.val tag.val gen.val 0x0101 c → (s.dev.sliceState c.slice = 1 ∨ s.dev.sliceState c.slice = 2) →
       ∃ t, exec (.sliceQuiesce m tag gen) s = .next t ∧ t.dev.sliceState c.slice = 3 ∧
         Map.get? t.dev.slc.walks c.slice = some ⟨1, List.replicate 10 0, List.replicate 10 0⟩ ∧
         t.dev.started m.val tag.val gen.val 0x0101 c ∧ s.dev.sameRegsBut t.dev [Reg.SLC_SLICE_STATUS c.slice 0]) ∧
     (s.dev.started m.val tag.val gen.val 0x0102 c → s.dev.sliceState c.slice ≠ 4 →
       exec (.sliceReset m tag gen) s = .next { s with dev := s.dev.finish m.val tag.val gen.val (Res.st stNotQuiesced) }) ∧
     (s.dev.started m.val tag.val gen.val 0x0102 c → s.dev.sliceState c.slice = 4 →
       ∃ t, exec (.sliceReset m tag gen) s = .next t ∧ t.dev.sliceState c.slice = 1 ∧
         t.dev.fld (Reg.SLC_SLICE_STATUS c.slice 0) 25 4 = 0 ∧ Map.get? t.dev.slc.walks c.slice = none ∧
         Map.getD t.dev.slc.dirty c.slice [] = []) ∧
     (s.dev.started m.val tag.val gen.val 0x0103 c → s.dev.sliceState c.slice ≠ 4 →
       exec (.sliceDestroy m tag gen) s = .next { s with dev := s.dev.finish m.val tag.val gen.val (Res.st stNotQuiesced) }) ∧
     (s.dev.started m.val tag.val gen.val 0x0103 c → s.dev.sliceState c.slice = 4 →
       ∃ t, exec (.sliceDestroy m tag gen) s = .next t ∧ t.dev.sliceState c.slice = 5 ∧
         t.dev.bit (Reg.SLC_SLICE_STATUS c.slice 1) 21 = true) ∧
     (s.dev.started m.val tag.val gen.val 0x0105 c → s.dev.sliceState c.slice ≠ 1 → s.dev.causeHolds c.slice = true →
       exec (.sliceUncork m tag gen) s = .next { s with dev := (s.dev.finish m.val tag.val gen.val
         ⟨stBadParam, [wd (s.dev.fld (Reg.SLC_SLICE_STATUS c.slice 0) 25 4)], false⟩) }) ∧
     (s.dev.started m.val tag.val gen.val 0x0105 c → s.dev.sliceState c.slice = 2 → s.dev.causeHolds c.slice = false →
       s.dev.canIssue (s.dev.home c.slice) = false →
       ∃ t, exec (.sliceUncork m tag gen) s = .next t ∧ t.dev.sliceState c.slice = 1 ∧
         t.dev.fld (Reg.SLC_SLICE_STATUS c.slice 0) 25 4 = 0 ∧ t.dev.bit Reg.SLC_EVT_STATUS 1 = true ∧
         t.dev.finished m.val tag.val gen.val stOK [])) ∧
  (∀ (s : State) (m : Fin 16) (tag : Fin 4096) (gen : Fin 16) (c : Cmd), s.dev.running = true →
     (s.dev.started m.val tag.val gen.val 0x0104 c →
       exec (.sliceStatus m tag gen) s = .next { s with dev := s.dev.finish m.val tag.val gen.val (Res.ok
         (s.dev.reg (Reg.SLC_SLICE_STATUS c.slice 0) :: s.dev.reg (Reg.SLC_SLICE_STATUS c.slice 1) ::
           (List.range 16).map (fun i => s.dev.reg (Reg.SLC_STATSs c.slice i)))) }) ∧
     (s.dev.started m.val tag.val gen.val 0x0106 c → c.p 1 = 0 →
       ∃ t, exec (.sliceDirtyLog m tag gen) s = .next t ∧ t.dev.bit (Reg.SLC_SLICE_STATUS c.slice 1) 23 = true ∧
         Map.getD t.dev.slc.dirty c.slice [] = [] ∧
         s.dev.sameRegsBut t.dev [Reg.SLC_SLICE_STATUS c.slice 1, Reg.SLC_DIRTY_USED]) ∧
     (s.dev.started m.val tag.val gen.val 0x0106 c → c.p 1 = 1 →
       ∃ t, exec (.sliceDirtyLog m tag gen) s = .next t ∧ t.dev.fld (Reg.SLC_SLICE_STATUS c.slice 1) 22 2 = 0 ∧
         Map.getD t.dev.slc.dirty c.slice [] = [] ∧ t.dev.finished m.val tag.val gen.val stOK [0, 0] ∧
         s.dev.sameRegsBut t.dev [Reg.SLC_SLICE_STATUS c.slice 1, Reg.SLC_DIRTY_USED]) ∧
     (∀ set, s.dev.started m.val tag.val gen.val 0x0106 c → c.p 1 = 2 → s.dev.canIssue (s.dev.home c.slice) = true →
       Map.getD s.dev.slc.dirty c.slice [] = set →
       ∃ t, exec (.sliceDirtyLog m tag gen) s = .next t ∧
         Map.getD t.dev.slc.dirty c.slice [] = set.take (set.length - Nat.min (c.p 4).toNat set.length)) ∧
     (s.dev.started m.val tag.val gen.val 0x0107 c → s.dev.sliceState c.slice = 4 → s.dev.canIssue (s.dev.home c.slice) = true →
       exec (.sliceStateSave m tag gen) s = .next { s with dev := ((s.dev.request (s.dev.home c.slice)
         (.hostWrite (s.dev.home c.slice) none (cat64 (c.p 1) (c.p 2)) (s.dev.stateRecord c.slice))).finish m.val tag.val gen.val
           (Res.ok [wd (4 * (s.dev.stateRecord c.slice).length)])) }) ∧
     (s.dev.started m.val tag.val gen.val 0x0107 c → s.dev.sliceState c.slice ≠ 4 →
       exec (.sliceStateSave m tag gen) s = .next { s with dev := s.dev.finish m.val tag.val gen.val (Res.st stNotQuiesced) }) ∧
     (∀ ws es, s.dev.started m.val tag.val gen.val 0x0108 c → s.dev.sliceState c.slice = 4 → s.dev.sliceQueues 0 c.slice = [] →
       s.dev.sliceQueues 1 c.slice = [] → recordEntries ws (c.p 3).toNat = some es →
       (∀ t, es.foldl (fun (d : Option Dev) e => d.bind (fun d => d.loadEntry c.slice e.1 e.2)) (some s.dev) = some t →
         exec (.sliceStateLoad m tag gen ws) s = .next { s with dev := t.finish m.val tag.val gen.val (Res.ok []) }) ∧
       (es.foldl (fun (d : Option Dev) e => d.bind (fun d => d.loadEntry c.slice e.1 e.2)) (some s.dev) = none →
         exec (.sliceStateLoad m tag gen ws) s = .next { s with dev := s.dev.finish m.val tag.val gen.val (Res.st stBadParam) })))

/-- A fault in the state of one slice corks it with cause 8, and SLICE_UNCORK replies BAD_PARAM with the cause until a quiesced
slice's reset takes the cause away (R478). -/
def Obligations.SliceFaultCorksUntilReset : Prop :=
  ∀ (s : State) (sl : Fin 8192), s.dev.running = true →
    (∀ loc, s.dev.sliceState sl.val = 1 → s.dev.fld (Reg.SLC_SLICE_STATUS sl.val 0) 25 4 = 0 → s.dev.sliceChans sl.val = [] →
      ∃ u, exec (.uncorrectableError (.slice sl) loc) s = .next u ∧ u.dev.sliceState sl.val = 2 ∧
        u.dev.fld (Reg.SLC_SLICE_STATUS sl.val 0) 25 4 = 8 ∧ sl.val ∈ u.dev.slc.contained) ∧
    (∀ (m : Fin 16) (tag : Fin 4096) (gen : Fin 16) (c : Cmd), c.slice = sl.val → sl.val ∈ s.dev.slc.contained →
      (s.dev.started m.val tag.val gen.val 0x0105 c → s.dev.sliceState sl.val ≠ 1 →
        exec (.sliceUncork m tag gen) s = .next { s with dev := (s.dev.finish m.val tag.val gen.val ⟨stBadParam, [8], false⟩) }) ∧
      (s.dev.started m.val tag.val gen.val 0x0101 c → (s.dev.sliceState sl.val = 1 ∨ s.dev.sliceState sl.val = 2) →
        ∃ u, exec (.sliceQuiesce m tag gen) s = .next u ∧ sl.val ∈ u.dev.slc.contained) ∧
      (s.dev.started m.val tag.val gen.val 0x0102 c → s.dev.sliceState sl.val = 4 →
        ∃ u, exec (.sliceReset m tag gen) s = .next u ∧ sl.val ∉ u.dev.slc.contained ∧ u.dev.causeHolds sl.val = false))

/-- Doorbells. One through a function that is not the slice's home is counted and discarded. A valid tail of an ungated SQ is
recorded and asks for its service; one of a queue that does not exist corks the slice; a valid head of a CQ is recorded and arms
where asked. An angle event for a doorbell of a queue that does not exist is counted; of a gated SQ it lets the entries up to
the recorded tail be fetched and asks for the service. A service that the energy scheduler admits lets the entries up to the
tail be fetched. An entry fetched of a receive SQ that passes every check is posted as a buffer: the head moves past it and room
is reserved. A fetch of an SQ with nothing to fetch does nothing. -/
def Obligations.DoorbellsAndFetchesAct : Prop :=
  (∀ (s : State) (f : Fin 4) (addr : Nat) (w hi : Word), s.dev.running = true → (s.dev.fn f.val).present = true →
     addr / 4096 < 8192 → addr % 4 = 0 →
     (let sl := addr / 4096
      (s.dev.home sl ≠ f.val → ∃ t, exec (.doorbellWrite f addr 4 w hi) s = .next t ∧ t.dev.bit (Reg.PCE_EVT_STATUSf f.val) 1 = true ∧
        s.dev.sameRegsBut t.dev [Reg.PCE_COUNTSf f.val 2, Reg.PCE_EVT_STATUSf f.val]) ∧
      (∀ q, s.dev.home sl = f.val → Word.bit w 31 = false → Word.fld w 26 5 = 0 → s.dev.queue? 0 sl (Word.fld w 16 10) = some q →
        s.dev.qStopped 0 q = false → fwd16 (Word.fld w 0 16) (s.dev.hostIdx 0 q) < 32768 →
        fwd16 (Word.fld w 0 16) (s.dev.devIdx 0 q) ≤ s.dev.qSize 0 q → s.dev.bit (Reg.RNG_QCFG2 0 q) 27 = false →
        Word.fld w 0 16 ≠ s.dev.devIdx 0 q →
        ∃ t, exec (.doorbellWrite f addr 4 w hi) s = .next t ∧ t.dev.hostIdx 0 q = Word.fld w 0 16 ∧ q ∈ t.dev.rng.pending ∧
          t.dev.devIdx 0 q = s.dev.devIdx 0 q) ∧
      (s.dev.home sl = f.val → Word.bit w 31 = false → s.dev.queue? 0 sl (Word.fld w 16 10) = none → s.dev.sliceState sl = 1 →
        s.dev.sliceChans sl = [] → ∃ t, exec (.doorbellWrite f addr 4 w hi) s = .next t ∧ t.dev.sliceState sl = 2 ∧
          t.dev.bit Reg.RNG_EVT_STATUS 4 = true) ∧
      (∀ q, s.dev.home sl = f.val → Word.bit w 31 = true → Word.fld w 26 4 = 0 → s.dev.queue? 1 sl (Word.fld w 16 10) = some q →
        s.dev.qStopped 1 q = false → fwd16 (Word.fld w 0 16) (s.dev.hostIdx 1 q) = fwd16 (s.dev.devIdx 1 q) (s.dev.hostIdx 1 q) →
        s.dev.devIdx 1 q = Word.fld w 0 16 → s.dev.spillOf q = [] →
        ∃ t, exec (.doorbellWrite f addr 4 w hi) s = .next t ∧ t.dev.hostIdx 1 q = Word.fld w 0 16 ∧ Map.get? t.dev.rng.delay q = none ∧
          (Word.bit w 30 = true → t.dev.bit (Reg.RNG_QSTATE1 1 q) 29 = true)))) ∧
  (∀ (s : State), s.dev.running = true →
     (∀ (slice : Fin 8192) (f : Firing) (fs : List Firing), s.dev.gau.firings = f :: fs → f.action = 4 → f.target = slice.val →
       (s.dev.queue? 0 slice.val (Word.fld f.arg 0 10) = none →
         ∃ t, exec (.angleDoorbell slice) s = .next t ∧ t.dev.gau.firings = fs ∧ t.dev.bit Reg.RNG_EVT_STATUS 0 = true ∧
           s.dev.sameRegsBut t.dev [Reg.RNG_COUNTS 2, Reg.RNG_EVT_STATUS]) ∧
       (∀ q, s.dev.queue? 0 slice.val (Word.fld f.arg 0 10) = some q → s.dev.sliceState slice.val = 1 →
         s.dev.bit (Reg.RNG_QCFG2 0 q) 27 = true → s.dev.hostIdx 0 q ≠ s.dev.devIdx 0 q →
         ∃ t, exec (.angleDoorbell slice) s = .next t ∧ t.dev.gau.firings = fs ∧ q ∈ t.dev.rng.pending ∧ q ∈ t.dev.rng.angled ∧
           Map.get? t.dev.rng.gateTail q = some (s.dev.hostIdx 0 q) ∧ t.dev.rf = s.dev.rf)) ∧
     (∀ (q : Fin 131072) (t : Dev), s.dev.rng.pending.contains q.val = true → s.dev.sliceState (s.dev.qSlice 0 q.val) = 1 →
       s.dev.qStopped 0 q.val = false →
       (s.dev.offer .doorbell q.val (s.dev.sqClass q.val) (s.dev.unitCost 7 0) (some (s.dev.qSlice 0 q.val)) (s.dev.rng.angled.contains q.val)
           = (false, t) → exec (.sqDoorbellService q) s = .next { s with dev := t }) ∧
       (s.dev.offer .doorbell q.val (s.dev.sqClass q.val) (s.dev.unitCost 7 0) (some (s.dev.qSlice 0 q.val)) (s.dev.rng.angled.contains q.val)
           = (true, t) → t.bit (Reg.RNG_QCFG2 0 q.val) 27 = false →
         ∃ u, exec (.sqDoorbellService q) s = .next u ∧ q.val ∉ u.dev.rng.pending ∧
           Map.get? u.dev.rng.fetchTo q.val = some (t.hostIdx 0 q.val) ∧ u.dev.rf = t.rf))) ∧
  (∀ (s : State) (q : Fin 131072) (entry table : List Word) (code : Fin 256) (fault : Option Nat), s.dev.running = true →
     (s.dev.fetchable q.val = false → exec (.sqEntryFetch q entry table code fault) s = .next s) ∧
     (s.dev.fetchable q.val = true → s.dev.nvqOf q.val = none → Word.fld (wordAt entry 0) 28 4 = 2 →
       s.dev.entryFault q.val entry table code.val = none →
       ∃ t i, exec (.sqEntryFetch q entry table code fault) s = .next t ∧ Map.get? t.dev.rng.items s.dev.rng.nextItem = some i ∧
         i.phase = .posted ∧ i.dq = q.val ∧ i.index = s.dev.devIdx 0 q.val ∧ i.entry = entry ∧
         t.dev.rng.nextItem = s.dev.rng.nextItem + 1 ∧ t.dev.devIdx 0 q.val = (s.dev.devIdx 0 q.val + 1) % 65536))

/-- Transmit items and moderation. A loaded transmit item that wants a timestamp becomes a frame to be offloaded, and its
completion waits for the frame's first bit; the timestamp ends it. An expired moderation delay disarms its CQ. The queue
opcodes: a creation answers the slice's and the device's number of the queue made from its words, or BAD_PARAM; a destruction
frees a queue of a QUIESCED slice, and is refused on any other; the status is the queue's four state words. -/
def Obligations.TransmitItemsAndQueueOpcodesAct : Prop :=
  (∀ (s : State), s.dev.running = true →
     (∀ (n : Nat) (i : Item), Map.get? s.dev.rng.items n = some i → i.phase = .loaded → i.kind = 0 → s.dev.feedOf i.dq = none →
       s.dev.flt.failed.contains (hostPg i.slice) = false → Word.bit (wordAt i.entry 0) 27 = true →
       ∃ t j g, exec (.txItemComplete n) s = .next t ∧ Map.get? t.dev.rng.items n = some j ∧ j.phase = .stamping ∧
         j.frame = some s.dev.prs.nextFrame ∧ j.count = i.bytes.length ∧ t.dev.frame? s.dev.prs.nextFrame = some g ∧
         g.place = .offload ∧ g.bytes = i.bytes ∧ g.item = some n) ∧
     (∀ (f n p : Nat) (g : Frame) (i : Item), s.dev.frame? f = some g → g.place = .sending p → g.item = some n →
       s.dev.rng.items = [(n, i)] → ∃ t, exec (.txTimestampTaken f) s = .next t ∧ t.dev.frame? f = some { g with item := none } ∧
         Map.get? t.dev.rng.items n = none) ∧
     (∀ q : Fin 131072, Map.get? s.dev.rng.delay q.val = none → exec (.cqModerationExpiry q) s = .next s) ∧
     (∀ (q : Fin 131072) (x : Nat), Map.get? s.dev.rng.delay q.val = some x → ∃ t, exec (.cqModerationExpiry q) s = .next t ∧
       Map.get? t.dev.rng.delay q.val = none ∧ t.dev.bit (Reg.RNG_QSTATE1 1 q.val) 29 = false)) ∧
  (∀ (s : State) (m : Fin 16) (tag : Fin 4096) (gen : Fin 16) (c : Cmd), s.dev.running = true →
     (s.dev.started m.val tag.val gen.val 0x0200 c → s.dev.queueBad c.slice (c.params.drop 1) = true →
       exec (.queueCreate m tag gen) s = .next { s with dev := s.dev.finish m.val tag.val gen.val (Res.st stBadParam) }) ∧
     (∀ n q t, s.dev.started m.val tag.val gen.val 0x0200 c → s.dev.queueBad c.slice (c.params.drop 1) = false → c.pf 1 30 2 ≠ 2 →
       lowestFree (s.dev.sliceQueues 0 c.slice) (s.dev.fld (Reg.SLC_SLICE_STATUS c.slice 1) 0 11) = some n →
       s.dev.makeQueue 0 c.slice n (queueCfg (c.params.drop 1)) = some (q, t) →
       exec (.queueCreate m tag gen) s = .next { s with dev := t.finish m.val tag.val gen.val (Res.ok [wd n, wd q]) } ∧
       t.queue? 0 c.slice n = some q ∧ t.hostIdx 0 q = 0 ∧ t.devIdx 0 q = 0) ∧
     (s.dev.started m.val tag.val gen.val 0x0201 c → s.dev.namedQueue c = none →
       exec (.queueDestroy m tag gen) s = .next { s with dev := s.dev.finish m.val tag.val gen.val (Res.st stBadParam) }) ∧
     (∀ x, s.dev.started m.val tag.val gen.val 0x0201 c → s.dev.namedQueue c = some x → s.dev.sliceState c.slice ≠ 4 →
       exec (.queueDestroy m tag gen) s = .next { s with dev := s.dev.finish m.val tag.val gen.val (Res.st stNotQuiesced) }) ∧
     (∀ q, s.dev.started m.val tag.val gen.val 0x0201 c → s.dev.namedQueue c = some (0, q) → s.dev.sliceState c.slice = 4 →
       s.dev.ofNvq c.slice (c.pf 1 0 10) = false →
       ∃ t, exec (.queueDestroy m tag gen) s = .next t ∧ t.dev.queue? 0 c.slice (c.pf 1 0 10) = none ∧
         t.dev.finished m.val tag.val gen.val stOK [] ∧ t.dev.qFree 0 q = true) ∧
     (∀ cq q, s.dev.started m.val tag.val gen.val 0x0202 c → s.dev.namedQueue c = some (cq, q) → s.dev.qStopped cq q = false →
       exec (.queueStatus m tag gen) s = .next { s with dev := s.dev.finish m.val tag.val gen.val (Res.ok
         [s.dev.reg (Reg.RNG_QSTATE0 cq q), s.dev.reg (Reg.RNG_QSTATE1 cq q), s.dev.reg (Reg.RNG_QSTATE2 cq q),
          s.dev.reg (Reg.RNG_QSTATE3 cq q)]) }))

/-- Kicks and disables of a DMA channel. An idle channel asks to start, a running one remembers one kick, a stopped or disabled
one ignores it; a kick by an angle event is marked so; a disable ends the descriptor and leaves the channel DISABLED.
Descriptors of a channel with a ring in host memory. One not owned by the device leaves the channel idle; a good one runs; a
chunk moves 4 KiB at most; when every byte has moved it is written back, and a channel not pending is idle again. The channel
opcodes: DMA_CHANNEL_SET stages the five registers of the channel for group 4 and strikes its strobe, or is refused by its
checks; DMA_CHANNEL_STOP disables at once, stops an idle channel, or waits for a running one's boundary. -/
def Obligations.DmaChannelsAct : Prop :=
  (∀ (s : State) (c : Fin 64), s.dev.running = true →
     ((s.dev.chState c.val = 0 ∨ s.dev.chState c.val = 4) → s.dev.dma.kicked.contains c.val = false →
       exec (.dmaKickWrite c) s = .next { s with dev := { s.dev with dma := { s.dev.dma with kicked := c.val :: s.dev.dma.kicked } } }) ∧
     (s.dev.chState c.val = 1 → s.dev.dma.remembered.contains c.val = false →
       exec (.dmaKickWrite c) s = .next { s with dev := { s.dev with dma := { s.dev.dma with
         remembered := c.val :: s.dev.dma.remembered } } }) ∧
     ((s.dev.chState c.val = 3 ∨ s.dev.chState c.val = 5) → exec (.dmaKickWrite c) s = .next s) ∧
     (∀ f fs, s.dev.gau.firings = f :: fs → f.action = 5 → f.target = c.val → s.dev.chState c.val = 0 →
       ∃ t, exec (.angleDmaKick c) s = .next t ∧ t.dev.gau.firings = fs ∧ c.val ∈ t.dev.dma.kicked ∧ c.val ∈ t.dev.dma.angleKicks ∧
         t.dev.rf = s.dev.rf) ∧
     (∀ v, Word.bit v 0 = false → exec (.dmaDisableWrite c v) s = .next s) ∧
     (∀ v, Word.bit v 0 = true → ∃ t, exec (.dmaDisableWrite c v) s = .next t ∧ t.dev.chState c.val = 5 ∧
       Map.get? t.dev.dma.run c.val = none ∧ c.val ∉ t.dev.dma.kicked ∧ t.dev.bit (Reg.DMA_CHc_EVT c.val) 1 = true)) ∧
  (∀ (s : State) (c : Fin 64), s.dev.running = true →
     (∀ (ws src dst : List Word) (code : Fin 256), s.dev.dma.kicked.contains c.val = false →
       exec (.dmaDescriptorStart c ws src dst code) s = .next s) ∧
     (∀ (ws src dst : List Word) (t : Dev), s.dev.dma.kicked.contains c.val = true → s.dev.chState c.val = 0 →
       s.dev.bit (Reg.DMA_CHc_CTRL c.val) 25 = false → s.dev.canIssue (s.dev.chFn c.val) = true →
       s.dev.offer .dma c.val (s.dev.chClass c.val) 0 (s.dev.chSlice c.val) (s.dev.dma.angleKicks.contains c.val) = (true, t) →
       (Word.bit (wordAt (ws.take 8) 0) 31 = false → ∃ u, exec (.dmaDescriptorStart c ws src dst 0) s = .next u ∧
         u.dev.chState c.val = 0 ∧ c.val ∉ u.dev.dma.kicked ∧ u.dev.dma.run = t.dma.run) ∧
       (∀ sf df, Word.bit (wordAt (ws.take 8) 0) 31 = true → wordAt (ws.take 8) 1 ≠ 0 → 
           t.descSides c.val (ws.take 8) src dst = some (sf, df) →
         ∃ u, exec (.dmaDescriptorStart c ws src dst 0) s = .next u ∧ u.dev.chState c.val = 1 ∧ c.val ∉ u.dev.dma.kicked ∧
           Map.get? u.dev.dma.run c.val = some ⟨t.fld (Reg.DMA_CHc_STATE c.val) 0 16, ws.take 8, sf, df, 0⟩)) ∧
     (∀ (r : Desc) (bytes : List Byte), Map.get? s.dev.dma.run c.val = some r → r.done < (wordAt r.words 1).toNat →
       s.dev.canIssue (s.dev.chFn c.val) = true → Nat.min 4096 ((wordAt r.words 1).toNat - r.done) ≤ bytes.length →
       ∃ t, exec (.dmaChunk c bytes 0) s = .next t ∧
         Map.get? t.dev.dma.run c.val = some { r with done := r.done + Nat.min 4096 ((wordAt r.words 1).toNat - r.done) }) ∧
     (∀ r : Desc, Map.get? s.dev.dma.run c.val = some r → r.done = (wordAt r.words 1).toNat → s.dev.chState c.val = 1 →
       s.dev.chPending c.val = false →
       ∃ t, exec (.dmaWriteback c) s = .next t ∧ Map.get? t.dev.dma.run c.val = none ∧ t.dev.chState c.val = 0 ∧
         t.dev.reg (Reg.DMA_CHc_LAST_DONE c.val) = wd r.done ∧ t.dev.bit (Reg.DMA_CHc_EVT c.val) 0 = true)) ∧
  (∀ (s : State) (m : Fin 16) (tag : Fin 4096) (gen : Fin 16) (c : Cmd), s.dev.running = true →
     (s.dev.started m.val tag.val gen.val 0x0203 c → chanSetBad c s.dev = true →
       exec (.dmaChannelSet m tag gen) s = .next { s with dev := s.dev.finish m.val tag.val gen.val (Res.st stBadParam) }) ∧
     (∀ t r, s.dev.started m.val tag.val gen.val 0x0203 c → chanSetBad c s.dev = false → c.slice? = none →
       s.dev.stageStrobe c (2 ^ 4) [(Reg.DMA_CHc_BASE_LO (c.pf 1 0 6), c.p 2), (Reg.DMA_CHc_BASE_LO (c.pf 1 0 6) + 4, c.p 3),
         (Reg.DMA_CHc_CTRL (c.pf 1 0 6), Word.setFld (c.p 5) 0 16 (c.pf 4 0 16)), (Reg.DMA_CHc_IRQ (c.pf 1 0 6), c.p 6),
         (Reg.DMA_CHc_OWNER (c.pf 1 0 6), 0)] (Res.ok []) = (t, some r) →
       exec (.dmaChannelSet m tag gen) s = .next { s with dev := t.finish m.val tag.val gen.val r }) ∧
     (s.dev.started m.val tag.val gen.val 0x0204 c → c.pf 1 0 1 = 1 →
       ∃ t, exec (.dmaChannelStop m tag gen) s = .next t ∧ t.dev.chState (c.pf 0 0 6) = 5 ∧
         Map.get? t.dev.dma.run (c.pf 0 0 6) = none) ∧
     (s.dev.started m.val tag.val gen.val 0x0204 c → c.pf 1 0 1 = 0 → s.dev.chState (c.pf 0 0 6) = 0 →
       ∃ t, exec (.dmaChannelStop m tag gen) s = .next t ∧ t.dev.chState (c.pf 0 0 6) = 3 ∧
         t.dev.finished m.val tag.val gen.val stOK [wd (3 * 2 ^ 29 + s.dev.fld (Reg.DMA_CHc_STATE (c.pf 0 0 6)) 0 16), 0, 0]) ∧
     (s.dev.started m.val tag.val gen.val 0x0204 c → c.pf 1 0 1 = 0 → s.dev.chState (c.pf 0 0 6) = 1 →
       ∃ t, exec (.dmaChannelStop m tag gen) s = .next t ∧ t.dev.chState (c.pf 0 0 6) = 2 ∧
         t.dev.started m.val tag.val gen.val 0x0204 c))

/-- Passes of the Press. A frame that does not wait for a pass, and one that is not held, is left alone. A sampled-values frame
of a port that takes them goes to the process bus. A frame that no profile selects raises reason 1, and is dropped where
PRS_CTRL sends such frames nowhere; so does a held fragment that expires. A pass under a profile whose mask takes no exception
goes on with its key. An expired fragment entry is gone. A long frame's last byte fills it in, or drops it where it was bad.
Keys at the Classifier. A profile whose map is off takes its miss action; a key of another length than its table's raises 0x81;
a key found takes its entry's action and sets the entry's HIT; a DROP frees the frame. The head of the highest loop queue enters
the Press for its next pass where the EBS takes it. -/
def Obligations.PressAndClassifierAct : Prop :=
  (∀ (s : State) (f : Nat) (g : Frame), s.dev.running = true → s.dev.frame? f = some g → g.record.length = 12 →
     (let k := s.dev.walk g 0
      (g.place ≠ .press → exec (.pressPass f) s = .next s) ∧
      (g.place ≠ .fragHold → exec (.fragHoldExpiry f) s = .next s) ∧
      (g.place = .press → g.pass = 0 → g.srcPort < 16 → k.etf = 0x88BA → s.dev.bit Reg.PBU_PORT_CTRL g.srcPort = true →
        ∃ t h, exec (.pressPass f) s = .next t ∧ t.dev.frame? f = some h ∧ h.place = .pbu ∧ h.bytes = g.bytes ∧
          s.dev.sameRegsBut t.dev [Reg.PRS_COUNTS g.pipe 11]) ∧
      (g.place = .press → g.pass = 0 → s.dev.steered g k = 0 → k.frag = 0 → (∀ p, p < 64 → s.dev.profOn p = false) →
        s.dev.fld Reg.PRS_CTRL 30 2 = 0 →
        ∃ t, exec (.pressPass f) s = .next t ∧ t.dev.frame? f = none ∧ t.dev.bit (Reg.PRS_EVT_STATUS g.pipe) 2 = true ∧
          s.dev.sameRegsBut t.dev [Reg.PRS_COUNTS g.pipe 0, Reg.PRS_COUNTS g.pipe 8, Reg.PRS_COUNTS g.pipe 10,
            Reg.PRS_EVT_STATUS g.pipe]) ∧
      (∀ p, g.place = .press → g.pass = 0 → s.dev.steered g k = 0 → k.frag = 0 →
        s.dev.selectProfile (g.setWalk k 0 (s.dev.isPtp g k) (g.vint.getD (s.dev.fld Reg.CLS_VINTAGE 0 16))) k = some p → p < 64 →
        s.dev.reg (Reg.PRS_PROFp_EXC_MASK p) = 0 → s.dev.bit (Reg.PRS_PROFp_CTRL p) 26 = false →
        ∃ t h, exec (.pressPass f) s = .next t ∧ t.dev.frame? f = some h ∧ h.place = .keyed ∧ h.profile = p ∧
          h.key.length = s.dev.profKeyLen p ∧ h.m 3 0 8 = 0 ∧ h.bytes = g.bytes) ∧
      (g.place = .fragHold → g.pass = 0 → (∀ p, p < 64 → s.dev.profOn p = false) → s.dev.fld Reg.PRS_CTRL 30 2 = 0 →
        ∃ t, exec (.fragHoldExpiry f) s = .next t ∧ t.dev.frame? f = none ∧ t.dev.bit (Reg.PRS_EVT_STATUS g.pipe) 2 = true) ∧
      (∀ n : Fin 16384, exec (.fragEntryExpiry n) s = .next { s with dev := { s.dev with prs := { s.dev.prs with
        frags := Map.del s.dev.prs.frags n.val } } }) ∧
      (g.whole = true → exec (.l4CsumFill f) s = .next s) ∧
      (g.whole = false → g.bad = true → g.place = .keyed → exec (.l4CsumFill f) s = .next { s with dev := s.dev.freeFrame f }) ∧
      (g.whole = false → g.bad = false → g.place = .keyed →
        ∃ t h, exec (.l4CsumFill f) s = .next t ∧ t.dev.frame? f = some h ∧ h.whole = true ∧ h.place = .keyed ∧ h.key = g.key))) ∧
  (∀ (s : State) (f : Nat) (g : Frame), s.dev.running = true → s.dev.frame? f = some g → g.record.length = 12 →
     (g.place ≠ .keyed → exec (.classifierLookup f) s = .next s) ∧
     (g.place = .keyed → s.dev.bit (Reg.CLS_PMAPp_CTRL g.profile) 31 = false →
       s.dev.reg (Reg.CLS_PMAPp_MISS g.profile 0) = wd (2 ^ 28) → s.dev.reg (Reg.CLS_PMAPp_MISS g.profile 1) = 0 →
       s.dev.reg (Reg.CLS_PMAPp_MISS g.profile 2) = 0 →
       ∃ t, exec (.classifierLookup f) s = .next t ∧ t.dev.frame? f = none ∧ s.dev.sameRegsBut t.dev [Reg.CLS_COUNTS g.pipe 9]) ∧
     (g.place = .keyed → s.dev.bit (Reg.CLS_PMAPp_CTRL g.profile) 31 = true →
       g.key.length ≠ s.dev.tblKeyLen (s.dev.fld (Reg.CLS_PMAPp_CTRL g.profile) 0 4) → s.dev.fld Reg.CLS_CTRL 30 2 = 0 →
       ∃ t, exec (.classifierLookup f) s = .next t ∧ t.dev.frame? f = none ∧ t.dev.bit (Reg.CLS_EVT_STATUS g.pipe) 1 = true ∧
         s.dev.sameRegsBut t.dev [Reg.CLS_COUNTS g.pipe 4, Reg.CLS_COUNTS g.pipe 9, Reg.CLS_EVT_STATUS g.pipe]) ∧
     (∀ tb l ws, g.place = .keyed → s.dev.bit (Reg.CLS_PMAPp_CTRL g.profile) 31 = true →
       tb = s.dev.fld (Reg.CLS_PMAPp_CTRL g.profile) 0 4 → g.key.length = s.dev.tblKeyLen tb →
       s.dev.clsFind tb (s.dev.bankFor tb g.vintage) g.key = some l → s.dev.clsEntry tb (s.dev.bankFor tb g.vintage) l = some ws →
       wordAt ws 1 = 0 → wordAt ws 3 = 0 →
       ∃ t h, exec (.classifierLookup f) s = .next t ∧ t.dev.frame? f = some h ∧ h.place = .forward ∧ h.fwdArg = wordAt ws 2 ∧
         t.dev.clsEntry tb (s.dev.bankFor tb g.vintage) l = some (ws.set 0 (Word.setBit (wordAt ws 0) 30 true))) ∧
     (∀ (p : Fin 3), (∀ q, q < 4 → s.dev.loop p.val q = []) → exec (.recircEntry p) s = .next s) ∧
     (∀ (p : Fin 3) (rest : List Nat) (t : Dev), s.dev.loop p.val 0 = f :: rest → 
       s.dev.offer .recirc f g.cls (s.dev.unitCost 2 g.len) g.owner false = (true, t) →
       exec (.recircEntry p) s = .next { s with dev := ((t.setLoop p.val 0 rest).moveFrame f g .press) }))

/-- The ends of a table's copy and of its clearing, the entry registers. COPYING and CLEARING return to 0; a swap is over with
the last copy; a read of an entry shows its words in CLS_ENT_DATA; an operation on a table that is off, or beyond its size, ends
with its ERR and changes nothing else; a write stores the entry, an invalidation clears its VALID. PROFILE_SET and
RULE_TABLE_SET stage the registers named for their groups and strike their strobes. RULE_ADD stores the entry in the first free
place of its key, or is refused by a busy bank, a table that is off, or no place; RULE_DELETE clears the entry that holds the
key, and answers PARTIAL where none does. -/
def Obligations.RulesAreReadAndChanged : Prop :=
  (∀ (s : State), s.dev.running = true →
     (∀ t : Fin 16, s.dev.bit (Reg.CLS_TBLt_STATUS t.val) 30 = true → ∃ u, exec (.bankCopyDone t) s = .next u ∧
       u.dev.bit (Reg.CLS_TBLt_STATUS t.val) 30 = false ∧ s.dev.sameRegsBut u.dev [Reg.CLS_TBLt_STATUS t.val, Reg.CLS_SWAP_STATUS] ∧
       ((∀ i, i < 16 → i ≠ t.val → s.dev.bit (Reg.CLS_TBLt_STATUS i) 30 = false) → u.dev.fld Reg.CLS_SWAP_STATUS 0 3 = 0)) ∧
     (∀ t : Fin 16, s.dev.tblClearing t.val = true → s.dev.cls.clearing = [] → 
       exec (.tableClearDone t) s = .next { s with dev := s.dev.setBit (Reg.CLS_TBLt_STATUS t.val) 29 false }) ∧
     (∀ t b l, s.dev.entOp false = (t, b, l, 0) → ∃ u, exec .clsEntRead s = .next u ∧
       u.dev.regs (Reg.CLS_ENT_DATA 0) 24 = (List.range 24).map (fun i => wordAt ((s.dev.clsRaw t b l).getD []) i) ∧
       u.dev.regN Reg.CLS_ENT_CMD = 1 ∧ u.dev.cls = s.dev.cls) ∧
     (∀ t b l e, s.dev.entOp true = (t, b, l, e) → e ≠ 0 →
       exec .clsEntWrite s = .next { s with dev := s.dev.setN Reg.CLS_ENT_CMD (4 * e + 2) } ∧
       exec .clsEntInvalidate s = .next { s with dev := s.dev.setN Reg.CLS_ENT_CMD (4 * e + 3) }) ∧
     (∀ t b l, s.dev.entOp true = (t, b, l, 0) → ∃ u ws, exec .clsEntWrite s = .next u ∧ u.dev.clsRaw t b l = some ws ∧
       wordAt ws 0 = s.dev.reg (Reg.CLS_ENT_DATA 0) &&& 0xC0000000#32 ∧ u.dev.regN Reg.CLS_ENT_CMD = 2) ∧
     (∀ t b l ws, s.dev.entOp true = (t, b, l, 0) → s.dev.clsRaw t b l = some ws → ws ≠ [] → ∃ u, exec .clsEntInvalidate s = .next u ∧
       u.dev.clsRaw t b l = some (invalid ws) ∧ u.dev.clsEntry t b l = none ∧ u.dev.regN Reg.CLS_ENT_CMD = 3)) ∧
  (∀ (s : State) (m : Fin 16) (tag : Fin 4096) (gen : Fin 16) (c : Cmd), s.dev.running = true →
     (∀ t r, s.dev.started m.val tag.val gen.val 0x0300 c →
       s.dev.stageStrobe c (2 ^ 5) ((List.range 62).map (fun i => ((profileRegs (c.pf 0 0 6)).getD i 0, c.p (i + 1)))) (Res.ok []) =
         (t, some r) →
       exec (.profileSet m tag gen) s = .next { s with dev := t.finish m.val tag.val gen.val r }) ∧
     (∀ t r, s.dev.started m.val tag.val gen.val 0x0301 c →
       s.dev.stageStrobe c (2 ^ 8) [(Reg.CLS_TBLt_CFG (c.pf 0 0 4), c.p 1), (Reg.CLS_TBLt_BASE (c.pf 0 0 4), c.p 2),
         (Reg.CLS_TBLt_SIZE (c.pf 0 0 4), c.p 3), (Reg.CLS_TBLt_SEED (c.pf 0 0 4), c.p 4)] (Res.ok []) = (t, some r) →
       (t.tblClearing (c.pf 0 0 4) = false →
         exec (.ruleTableSet m tag gen) s = .next { s with dev := t.finish m.val tag.val gen.val r }) ∧
       (r.status = stOK → t.tblClearing (c.pf 0 0 4) = true →
         exec (.ruleTableSet m tag gen) s = .next { s with dev := { t with cls := { t.cls with
           clearing := t.cls.clearing ++ [(c.pf 0 0 4, c.master, c.tag, c.gen)] } } })) ∧
     (s.dev.started m.val tag.val gen.val 0x0302 c → s.dev.bankBusy (c.pf 0 0 4) (s.dev.writeBank (c.pf 0 0 4)) = true →
       exec (.ruleAdd m tag gen) s = .next { s with dev := s.dev.finish m.val tag.val gen.val (Res.st stBusy) }) ∧
     (s.dev.started m.val tag.val gen.val 0x0303 c → s.dev.bankBusy (c.pf 0 0 4) (s.dev.writeBank (c.pf 0 0 4)) = true →
       exec (.ruleDelete m tag gen) s = .next { s with dev := s.dev.finish m.val tag.val gen.val (Res.st stBusy) }) ∧
     (let tb := c.pf 0 0 4
      let b := s.dev.writeBank tb
      let key := (bytesOf (c.params.drop 4)).take (s.dev.tblKeyLen tb)
      s.dev.started m.val tag.val gen.val 0x0302 c → s.dev.bankBusy tb b = false → s.dev.tblSize tb ≠ 0 →
      s.dev.clsFind tb b key = none →
        (s.dev.clsFree tb b key = none →
          exec (.ruleAdd m tag gen) s = .next { s with dev := s.dev.finish m.val tag.val gen.val (Res.st stNoResource) }) ∧
        (∀ l t r, s.dev.clsFree tb b key = some l → s.dev.actionSlice (c.p 1) (c.p 2) = none →
          (s.dev.setEntry tb b l (ruleEntry (s.dev.fld (Reg.CLS_TBLt_CFG tb) 26 3) [c.p 1, c.p 2, c.p 3] key)).ruleDone c
            (entMark tb b l) [locWord l b] = (t, some r) →
          exec (.ruleAdd m tag gen) s = .next { s with dev := t.finish m.val tag.val gen.val r })) ∧
     (let tb := c.pf 0 0 4
      let b := s.dev.writeBank tb
      let key := (bytesOf (c.params.drop 1)).take (s.dev.tblKeyLen tb)
      s.dev.started m.val tag.val gen.val 0x0303 c → s.dev.bankBusy tb b = false →
        (s.dev.clsFind tb b key = none → exec (.ruleDelete m tag gen) s =
          .next { s with dev := s.dev.finish m.val tag.val gen.val ⟨stPartial, [0], false⟩ }) ∧
        (∀ l t r, s.dev.clsFind tb b key = some l → (s.dev.clearEntry tb b l).ruleDone c (entMark tb b l) [] = (t, some r) →
          exec (.ruleDelete m tag gen) s = .next { s with dev := t.finish m.val tag.val gen.val r })))

/-- A member's part in a swap. A PREPARE of the vintage it has is answered READY, and holds nothing; one it cannot take is
answered REFUSE with its reason; one it takes holds the named tables READY. ABORT, and the expiry of the hold, release them
unless the flip has been made. ACTIVATE arms T, or, T past, flips at once with SWAP_LATE. The originator's part in a swap, and
its end. The last READY sends ACTIVATE; a REFUSE ends the swap, its command refused with the member; DONE is recorded, and with
the drain over and every member done the command replies OK. At T the named tables exchange their banks and CUR becomes OLD; a
drain that is complete invalidates OLD. RULE_BANK_SWAP of tables of this device alone flips at once, or is refused. -/
def Obligations.SwapsOfVintages : Prop :=
  (∀ (s : State) (g : TrlMsg) (t : Dev), s.dev.running = true →
     (s.dev.takeMsg 0x20 = none → exec .vintagePrepare s = .next s) ∧
     (s.dev.takeMsg 0x20 = some (g, t) → g.f 2 0 16 = s.dev.fld Reg.CLS_VINTAGE 0 16 →
       exec .vintagePrepare s = .next { s with dev := t.tell g.src 0x21 [wd (g.f 0 0 16), wd (g.f 2 0 16)] }) ∧
     (∀ r, s.dev.takeMsg 0x20 = some (g, t) → g.f 2 0 16 ≠ s.dev.fld Reg.CLS_VINTAGE 0 16 →
       s.dev.prepareRefuse g.src (g.f 0 0 16) (g.f 1 0 16) (g.f 2 0 16) = some r →
       exec .vintagePrepare s = .next { s with dev := t.tell g.src 0x22 [wd (g.f 0 0 16), wd (r * 65536 + g.f 2 0 16)] }) ∧
     (s.dev.takeMsg 0x20 = some (g, t) → g.f 2 0 16 ≠ s.dev.fld Reg.CLS_VINTAGE 0 16 →
       s.dev.prepareRefuse g.src (g.f 0 0 16) (g.f 1 0 16) (g.f 2 0 16) = none →
       ∃ u copy, exec .vintagePrepare s = .next u ∧
         u.dev.cls.swap = some ⟨g.f 0 0 16, g.f 1 0 16, g.f 2 0 16, copy, none, g.src, [], [], [], [], none, false⟩ ∧
         (∀ i, i < 16 → (g.f 1 0 16).testBit i = true → u.dev.bit (Reg.CLS_TBLt_STATUS i) 28 = true)) ∧
     (∀ w, s.dev.takeMsg 0x23 = some (g, t) → s.dev.memberSwap g.src (g.f 0 0 16) = some w → w.flipped = false →
       ∃ u, exec .vintageAbort s = .next u ∧ u.dev.cls.swap = none ∧ u.dev.fld Reg.CLS_SWAP_STATUS 0 3 = 0 ∧
         (∀ i, i < 16 → w.mask.testBit i = true → u.dev.bit (Reg.CLS_TBLt_STATUS i) 28 = false)) ∧
     (∀ w, s.dev.cls.swap = some w → w.origin ≠ s.dev.selfId → w.at_ = none → w.flipped = false →
       ∃ u, exec .readyHoldExpiry s = .next u ∧ u.dev.cls.swap = none ∧ u.dev.fld Reg.CLS_SWAP_STATUS 0 3 = 0 ∧
         (∀ i, i < 16 → w.mask.testBit i = true → u.dev.bit (Reg.CLS_TBLt_STATUS i) 28 = false)) ∧
     (∀ w, s.dev.takeMsg 0x24 = some (g, t) → s.dev.memberSwap g.src (g.f 0 0 16) = some w → w.at_ = none →
       (s.dev.time ≤ cat64 (g.w 3) (g.w 2) → ∃ u, exec .vintageActivate s = .next u ∧
         u.dev.cls.swap = some { w with at_ := some (cat64 (g.w 3) (g.w 2)) } ∧ u.dev.fld Reg.CLS_SWAP_STATUS 0 3 = 2) ∧
       (cat64 (g.w 3) (g.w 2) < s.dev.time → s.dev.rf.stg = [] → ∃ u, exec .vintageActivate s = .next u ∧
         u.dev.bit Reg.CLS_SWAP_EVT 2 = true ∧ u.dev.fld Reg.CLS_VINTAGE 0 16 = w.vintage % 65536 ∧
         u.dev.fld Reg.CLS_VINTAGE_OLD 0 16 = s.dev.fld Reg.CLS_VINTAGE 0 16))) ∧
  (∀ (s : State) (g : TrlMsg) (t : Dev), s.dev.running = true →
     (s.dev.takeMsg 0x21 = none → exec .ready s = .next s) ∧
     (∀ w, s.dev.takeMsg 0x21 = some (g, t) → s.dev.ownSwap (g.f 0 0 16) = some w → w.at_ = none → w.members.contains g.src = true →
       (w.members.all (g.src :: w.ready.filter (· ≠ g.src)).contains = false → ∃ u, exec .ready s = .next u ∧
         u.dev.cls.swap = some { w with ready := g.src :: w.ready.filter (· ≠ g.src) } ∧ u.dev.rf = s.dev.rf) ∧
       (w.members.all (g.src :: w.ready.filter (· ≠ g.src)).contains = true → ∃ u, exec .ready s = .next u ∧
         u.dev.cls.swap = some { w with ready := g.src :: w.ready.filter (· ≠ g.src),
                                        at_ := some (s.dev.time + 1000 * Nat.max 10 (s.dev.fld Reg.CLS_SWAP_LEAD 0 16)) } ∧
         u.dev.fld Reg.CLS_SWAP_STATUS 0 3 = 2)) ∧
     (∀ w m tag gen c, s.dev.takeMsg 0x22 = some (g, t) → s.dev.ownSwap (g.f 0 0 16) = some w → w.at_ = none →
       w.members.contains g.src = true → w.cmd = some (m, tag, gen) → s.dev.cmd? m tag gen = some c →
       ∃ u ws, exec .refuse s = .next u ∧ u.dev.cls.swap = none ∧ u.dev.fld Reg.CLS_SWAP_STATUS 0 3 = 0 ∧
         u.dev.finished m tag gen stBadParam ws) ∧
     (∀ w, s.dev.takeMsg 0x25 = some (g, t) → s.dev.ownSwap (g.f 0 0 16) = some w → w.flipped = false →
       ∃ u, exec .vintageDone s = .next u ∧ u.dev.cls.swap = some { w with done := g.src :: w.done.filter (· ≠ g.src) } ∧
         u.dev.rf = s.dev.rf) ∧
     (∀ w, s.dev.cls.swap = some w → w.at_.isSome = true → w.flipped = false → s.dev.rf.stg = [] → w.vintage < 65536 →
       ∃ u, exec .timedVintageFlip s = .next u ∧ u.dev.fld Reg.CLS_VINTAGE 0 16 = w.vintage ∧
         u.dev.reg Reg.CLS_VINTAGE_OLD = wd (65536 + s.dev.fld Reg.CLS_VINTAGE 0 16) ∧ u.dev.bit Reg.CLS_SWAP_EVT 0 = true ∧
         (∀ i, i < 16 → w.mask.testBit i = true → u.dev.tblActive i = 1 - s.dev.tblActive i)) ∧
     (s.dev.bit Reg.CLS_VINTAGE_OLD 16 = true → s.dev.drainCount none = 0 → s.dev.cls.swap = none →
       ∃ u, exec .drainComplete s = .next u ∧ u.dev.bit Reg.CLS_VINTAGE_OLD 16 = false ∧ u.dev.bit Reg.CLS_SWAP_EVT 1 = true ∧
         u.dev.fld Reg.CLS_SWAP_STATUS 0 3 = 0 ∧
         s.dev.sameRegsBut u.dev [Reg.CLS_VINTAGE_OLD, Reg.CLS_SWAP_EVT, Reg.CLS_SWAP_STATUS]) ∧
     (0 < s.dev.drainCount none → exec .drainComplete s = .next s) ∧
     (∀ (m : Fin 16) (tag : Fin 4096) (gen : Fin 16) (c : Cmd), s.dev.started m.val tag.val gen.val 0x0304 c →
       (ruleBankSwapBad c s.dev = true →
         exec (.ruleBankSwap m tag gen) s = .next { s with dev := s.dev.finish m.val tag.val gen.val (Res.st stBadParam) }) ∧
       (ruleBankSwapBad c s.dev = false → s.dev.swapBusy (c.pf 0 0 16) = true →
         exec (.ruleBankSwap m tag gen) s = .next { s with dev := s.dev.finish m.val tag.val gen.val (Res.st stBusy) }) ∧
       (ruleBankSwapBad c s.dev = false → s.dev.swapBusy (c.pf 0 0 16) = false → s.dev.rf.stg = [] →
         (∀ i, i < 16 → (c.pf 0 0 16).testBit i = true → s.dev.bit (Reg.CLS_TBLt_CFG i) 31 = false) →
         ∃ u, exec (.ruleBankSwap m tag gen) s = .next u ∧ u.dev.fld Reg.CLS_VINTAGE 0 16 = c.pf 1 0 16 ∧
           u.dev.reg Reg.CLS_VINTAGE_OLD = wd (65536 + s.dev.fld Reg.CLS_VINTAGE 0 16) ∧
           (∀ i, i < 16 → (c.pf 0 0 16).testBit i = true → u.dev.tblActive i = 1 - s.dev.tblActive i))))

/-- Forwarding of a frame the Classifier passed on, and learning. A FWD_ARG of no meaning raises 0x94; an L2 lookup takes the
result of the entry of its key, a flow lookup that of its entry, and counts. The oldest learning message is applied: a local one
of a new source stores its entry, or is counted where no place is free; a peer's message of a bad CRC is counted and does
nothing. The table command registers. A table of no size answers ERR 4 to every operation and changes nothing else; a read and a
search show the entry in FWD_TDATA; a write, an invalidation, an insertion, a deletion change the entry named or found; a place
out of range is ERR 3, a key not found ERR 1, one found on insertion ERR 5. The LPM memory's operations likewise; a write or an
invalidation of the odd half of a valid pair is ERR 1. Racking moves a whole entry to a free place that keeps the order. -/
def Obligations.ForwardingResultsAndTables : Prop :=
  (∀ (s : State) (f : Nat) (g : Frame), s.dev.running = true → s.dev.frame? f = some g → g.record.length = 12 →
     (g.place ≠ .forward → exec (.forwardingLookup f) s = .next s) ∧
     (g.place = .forward → Word.fld g.fwdArg 30 2 = 3 → s.dev.fld Reg.FWD_CTRL 30 2 = 0 →
       ∃ t, exec (.forwardingLookup f) s = .next t ∧ t.dev.frame? f = none ∧ t.dev.bit (Reg.FWD_EVT_STATUS g.pipe) 1 = true ∧
         s.dev.sameRegsBut t.dev [Reg.FWD_EVT_STATUS g.pipe]) ∧
     (∀ i a b, g.place = .forward → g.pass = 0 → Word.fld g.fwdArg 30 2 = 0 → Word.fld g.fwdArg 28 2 = 0 → Word.fld g.fwdArg 0 4 = 0 →
       s.dev.htFind .l2 (l2Key g.window 0 (Word.fld g.fwdArg 16 12)) = some i → resOf .l2 (s.dev.htRaw .l2 i) = (a, b) →
       resultBad a b = false → Word.fld a 28 4 = 1 →
       ∃ t h, exec (.forwardingLookup f) s = .next t ∧ t.dev.frame? f = some h ∧ h.place = .toNode (Word.fld a 0 16) ∧
         h.bytes = g.bytes ∧ h.record = g.record ∧ s.dev.sameRegsBut t.dev [Reg.FWD_COUNTS g.pipe 0]) ∧
     (∀ i, g.place = .forward → Word.fld g.fwdArg 30 2 = 1 → Word.fld g.fwdArg 28 2 = 0 → Word.fld g.fwdArg 0 4 = 0 →
       s.dev.htFind .flow ([0, 0] ++ wordsOf 10 (g.key.take 40)) = some i → s.dev.bit Reg.FWD_CTRL 27 = false →
       wordAt (s.dev.htRaw .flow i) 12 = 0 → wordAt (s.dev.htRaw .flow i) 13 = 0 → s.dev.htRaw .flow i ≠ [] →
       ∃ t, exec (.forwardingLookup f) s = .next t ∧ t.dev.frame? f = none ∧ Word.bit (wordAt (t.dev.htRaw .flow i) 0) 30 = true ∧
         s.dev.sameRegsBut t.dev [Reg.FWD_COUNTS g.pipe 2]) ∧
     (s.dev.fwd.learn = [] → exec .learnApply s = .next s) ∧
     (∀ ws rest, s.dev.fwd.learn = ⟨ws, false⟩ :: rest → Word.fld (wordAt ws 0) 28 4 = 1 → 
       s.dev.htFind .l2 (learnKey (sealLearn ws (s.dev.reg Reg.FWD_LEARN_SEQ + 1))) = none → s.dev.bit Reg.FWD_CTRL 29 = false →
       ws.length = 8 →
       (∀ i, s.dev.htFree .l2 (learnKey (sealLearn ws (s.dev.reg Reg.FWD_LEARN_SEQ + 1))) = some i →
         ∃ t, exec .learnApply s = .next t ∧ t.dev.fwd.learn = rest ∧
           t.dev.htRaw .l2 i = learnEntry (sealLearn ws (s.dev.reg Reg.FWD_LEARN_SEQ + 1)) false) ∧
       (s.dev.htFree .l2 (learnKey (sealLearn ws (s.dev.reg Reg.FWD_LEARN_SEQ + 1))) = none →
         ∃ t, exec .learnApply s = .next t ∧ t.dev.fwd.learn = rest ∧ t.dev.bit (Reg.FWD_EVT_STATUS 0) 3 = true ∧
           t.dev.fwd.l2 = s.dev.fwd.l2)) ∧
     (∀ ws rest, s.dev.fwd.learn = ⟨ws, true⟩ :: rest → Word.fld (wordAt ws 7) 0 16 ≠ crc16 (bytesOf (ws.take 7)) →
       ∃ t, exec .learnApply s = .next t ∧ t.dev.fwd = { s.dev.fwd with learn := rest } ∧
         s.dev.sameRegsBut t.dev [Reg.FWD_COUNTS 0 9])) ∧
  (∀ s : State, s.dev.running = true →
     (s.dev.htSize s.dev.tTable = 0 →
       exec .fwdTableRead s = .next { s with dev := s.dev.setN Reg.FWD_TCMD 65 } ∧
       exec .fwdTableWrite s = .next { s with dev := s.dev.setN Reg.FWD_TCMD 66 } ∧
       exec .fwdTableInvalidate s = .next { s with dev := s.dev.setN Reg.FWD_TCMD 67 } ∧
       exec .fwdTableSearch s = .next { s with dev := s.dev.setN Reg.FWD_TCMD 68 } ∧
       exec .fwdTableInsert s = .next { s with dev := s.dev.setN Reg.FWD_TCMD 69 } ∧
       exec .fwdTableDelete s = .next { s with dev := s.dev.setN Reg.FWD_TCMD 70 }) ∧
     (s.dev.bit Reg.FWD_TADDR 31 = false →
       (∀ i, s.dev.tPlace = some i → ∃ t, exec .fwdTableRead s = .next t ∧ t.dev.regN Reg.FWD_TCMD = 1 ∧ t.dev.fwd = s.dev.fwd ∧
         t.dev.regs (Reg.FWD_TDATA 0) 8 = (List.range 8).map (fun j => wordAt (s.dev.htRaw .l2 i) j)) ∧
       (∀ i, s.dev.tPlace = some i → ∃ t, exec .fwdTableWrite s = .next t ∧ t.dev.regN Reg.FWD_TCMD = 2 ∧
         t.dev.htRaw .l2 i = s.dev.tData) ∧
       (∀ i, s.dev.tPlace = some i → ∃ t, exec .fwdTableInvalidate s = .next t ∧ t.dev.regN Reg.FWD_TCMD = 3 ∧
         t.dev.htEntry .l2 i = none) ∧
       (s.dev.tPlace = none → exec .fwdTableRead s = .next { s with dev := s.dev.setN Reg.FWD_TCMD 49 } ∧
         exec .fwdTableWrite s = .next { s with dev := s.dev.setN Reg.FWD_TCMD 50 } ∧
         exec .fwdTableInvalidate s = .next { s with dev := s.dev.setN Reg.FWD_TCMD 51 }) ∧
       (∀ i, s.dev.htFind .l2 s.dev.tData = some i →
         exec .fwdTableInsert s = .next { s with dev := s.dev.setN Reg.FWD_TCMD 85 } ∧
         (∃ t, exec .fwdTableSearch s = .next t ∧ t.dev.regN Reg.FWD_TCMD = 4 ∧ t.dev.reg Reg.FWD_TRESULT = HTable.l2.loc i ∧
           t.dev.regs (Reg.FWD_TDATA 0) 8 = (List.range 8).map (fun j => wordAt (s.dev.htRaw .l2 i) j)) ∧
         (∃ t, exec .fwdTableDelete s = .next t ∧ t.dev.regN Reg.FWD_TCMD = 6 ∧ t.dev.htEntry .l2 i = none)) ∧
       (s.dev.htFind .l2 s.dev.tData = none →
         exec .fwdTableSearch s = .next { s with dev := s.dev.setN Reg.FWD_TCMD 20 } ∧
         exec .fwdTableDelete s = .next { s with dev := s.dev.setN Reg.FWD_TCMD 22 } ∧
         ∀ i, s.dev.htFree .l2 s.dev.tData = some i → ∃ t, exec .fwdTableInsert s = .next t ∧ t.dev.regN Reg.FWD_TCMD = 5 ∧
           t.dev.reg Reg.FWD_TRESULT = HTable.l2.loc i ∧
           t.dev.htRaw .l2 i = s.dev.tData.set 0 (Word.setBit (wordAt s.dev.tData 0) 31 true))) ∧
     (let i := s.dev.fld Reg.TCM_ADDR 0 17
      (∀ ws, s.dev.tcm i = ws → ws.length = 13 → ∃ t, exec .tcmRead s = .next t ∧ t.dev.regs (Reg.TCM_DATA 0) 13 = ws ∧ t.dev.regN Reg.TCM_CMD = 1 ∧
        t.dev.fwd = s.dev.fwd) ∧
      (s.dev.oddHalf i = true → exec .tcmWrite s = .next { s with dev := s.dev.setN Reg.TCM_CMD 18 } ∧
        exec .tcmInvalidate s = .next { s with dev := s.dev.setN Reg.TCM_CMD 19 }) ∧
      (s.dev.oddHalf i = false →
        (∃ t, exec .tcmWrite s = .next t ∧ (t.dev.tcm i).take 12 = s.dev.regs (Reg.TCM_DATA 0) 12 ∧
          wordAt (t.dev.tcm i) 12 = s.dev.reg (Reg.TCM_DATA 12) &&& 0xC00000FF#32 ∧ t.dev.regN Reg.TCM_CMD = 2) ∧
        (∃ t, exec .tcmInvalidate s = .next t ∧ tcmValid (t.dev.tcm i) = false ∧ t.dev.regN Reg.TCM_CMD = 3))) ∧
     (∀ i j : Fin 131072, i.val < s.dev.v6Base → s.dev.tcmLive false = [i.val] → j.val < s.dev.v6Base → j ≠ i →
       ∃ t, exec (.rackingMove i j) s = .next t ∧ t.dev.tcm j.val = s.dev.tcm i.val ∧ tcmValid (t.dev.tcm i.val) = false) ∧
     (∀ i j : Fin 131072, i.val < s.dev.v6Base → i.val ∉ s.dev.tcmLive false → exec (.rackingMove i j) s = .next s))

/-- The forwarding opcodes. L2_ADD and FLOW_ADD store their entry where the key is or in a free place, NO_RESOURCE without one;
the deletions clear the entry found, PARTIAL where none is; LPM_ADD stores a prefix's result or places it; HIT_SCAN answers the
count and the bitmap. -/
def Obligations.ForwardingOpcodes : Prop :=
  ∀ (s : State) (m : Fin 16) (tag : Fin 4096) (gen : Fin 16) (c : Cmd), s.dev.running = true →
    (let e := [wd (2 ^ 31) ||| (c.p 0 &&& 0x80000000#32) >>> 2 ||| (c.p 0 &&& 0xFFF#32), c.p 1, c.p 2 &&& 0xFFFF#32, 0, c.p 3, c.p 4, 0, 0]
     s.dev.started m.val tag.val gen.val 0x0305 c → s.dev.htFind .l2 e = none →
       (s.dev.htFree .l2 e = none →
         exec (.l2Add m tag gen) s = .next { s with dev := s.dev.finish m.val tag.val gen.val (Res.st stNoResource) }) ∧
       (∀ i, s.dev.htFree .l2 e = some i → s.dev.htSlice .l2 e = none → ∃ t x, exec (.l2Add m tag gen) s = .next t ∧
         t.dev.htRaw .l2 i = e ∧ (x = stOK ∨ x = stExpert) ∧ t.dev.finished m.val tag.val gen.val x [HTable.l2.locReply i])) ∧
    (let e := wd (2 ^ 31) :: c.p 12 :: (List.range 10).map c.p ++ [c.p 10, c.p 11, 0, 0]
     s.dev.started m.val tag.val gen.val 0x0307 c → s.dev.htFind .flow e = none →
       (s.dev.htFree .flow e = none →
         exec (.flowAdd m tag gen) s = .next { s with dev := s.dev.finish m.val tag.val gen.val (Res.st stNoResource) }) ∧
       (∀ i, s.dev.htFree .flow e = some i → s.dev.htSlice .flow e = none → ∃ t x, exec (.flowAdd m tag gen) s = .next t ∧
         t.dev.htRaw .flow i = e ∧ (x = stOK ∨ x = stExpert) ∧ t.dev.finished m.val tag.val gen.val x [HTable.flow.locReply i])) ∧
    (s.dev.started m.val tag.val gen.val 0x0306 c →
      (s.dev.htFind .l2 [c.p 0 &&& 0xFFF#32, c.p 1, c.p 2] = none → exec (.l2Delete m tag gen) s =
        .next { s with dev := s.dev.finish m.val tag.val gen.val ⟨stPartial, [0], false⟩ }) ∧
      (∀ i, s.dev.htFind .l2 [c.p 0 &&& 0xFFF#32, c.p 1, c.p 2] = some i → Word.bit (c.p 0) 31 = false →
        ∃ t x, exec (.l2Delete m tag gen) s = .next t ∧ t.dev.htEntry .l2 i = none ∧ (x = stOK ∨ x = stExpert) ∧
          t.dev.finished m.val tag.val gen.val x [])) ∧
    (s.dev.started m.val tag.val gen.val 0x0308 c →
      (s.dev.htFind .flow (0 :: 0 :: (List.range 10).map c.p) = none → exec (.flowDelete m tag gen) s =
        .next { s with dev := s.dev.finish m.val tag.val gen.val ⟨stPartial, [0], false⟩ }) ∧
      (∀ i, s.dev.htFind .flow (0 :: 0 :: (List.range 10).map c.p) = some i → Word.bit (c.p 10) 31 = false →
        ∃ t x, exec (.flowDelete m tag gen) s = .next t ∧ t.dev.htEntry .flow i = none ∧ (x = stOK ∨ x = stExpert) ∧
          t.dev.finished m.val tag.val gen.val x [])) ∧
    (∀ v6 len key care, lpmOf c = (v6, len, key, care) →
      (∀ i, s.dev.started m.val tag.val gen.val 0x0309 c → s.dev.lpmFind v6 key care = some i → s.dev.actionSlice (c.p 5) (c.p 6) = none →
        ∃ t x, exec (.lpmAdd m tag gen) s = .next t ∧ t.dev.tcm i = ((s.dev.tcm i).set 10 (c.p 5)).set 11 (c.p 6) ∧
          (x = stOK ∨ x = stExpert) ∧ t.dev.finished m.val tag.val gen.val x [wd i]) ∧
      (∀ i, s.dev.started m.val tag.val gen.val 0x0309 c → s.dev.lpmFind v6 key care = none → s.dev.actionSlice (c.p 5) (c.p 6) = none →
        v6 = false → (s.dev.lpmPlace v6 len).2 = (some i, false) →
        ∃ t, exec (.lpmAdd m tag gen) s = .next t ∧ [t.dev.tcm i] = lpmEntries v6 key care len (c.p 5) (c.p 6) ∧
          t.dev.finished m.val tag.val gen.val stOK [wd i]) ∧
      (s.dev.started m.val tag.val gen.val 0x030A c → s.dev.lpmFind v6 key care = none → exec (.lpmDelete m tag gen) s =
        .next { s with dev := s.dev.finish m.val tag.val gen.val ⟨stPartial, [0], false⟩ }) ∧
      (∀ i, s.dev.started m.val tag.val gen.val 0x030A c → s.dev.lpmFind v6 key care = some i →
        ∃ t x, exec (.lpmDelete m tag gen) s = .next t ∧ tcmValid (t.dev.tcm i) = false ∧ (x = stOK ∨ x = stExpert) ∧
          t.dev.finished m.val tag.val gen.val x [])) ∧
    (s.dev.started m.val tag.val gen.val 0x030B c →
      (s.dev.scanSize (c.pf 0 0 5) (Word.bit (c.p 0) 29) = none → exec (.hitScan m tag gen) s =
        .next { s with dev := s.dev.finish m.val tag.val gen.val (Res.st stBadParam) }) ∧
      (∀ n, s.dev.scanSize (c.pf 0 0 5) (Word.bit (c.p 0) 29) = some n → c.pf 2 0 16 = 32 → c.pf 1 0 27 + 32 ≤ n →
        Word.bit (c.p 0) 31 = false → exec (.hitScan m tag gen) s = .next { s with dev := s.dev.finish m.val tag.val gen.val (Res.ok
          [32, wd (((List.range 32).filter (fun i => s.dev.scanHit (c.pf 0 0 5) (c.pf 0 30 1) (Word.bit (c.p 0) 29)
            (c.pf 1 0 27 + i))).map (fun i => 2 ^ i)).sum]) }))

/-- Instructions of a thread. A thread that is not RUNNING executes none. An instruction moves the PC on, past the last
instruction word or by its own code it faults; an event wait goes on where a bit under its mask is pending, else the thread is
WAITING; EXIT starts the thread anew, or leaves it IDLE where ENABLE is 0; a charge slice is shown in its register; a put takes
a free port and stages its word, a put to a number from 0x0E on faults. What wakes, stops and restarts threads. A WAITING thread
with a pending bit under its mask wakes; a waking one that the EBS admits runs; an angle event and an expired timer post their
bits; a reset restarts or idles; HALT, RESUME and RELEASE act as the debugger's commands; a held port times its requesters out
once; a cluster whose threads all wait inside it is reported once; a core's threads go to the spare, or fault without one. -/
def Obligations.ThreadsRunWakeAndStop : Prop :=
  (∀ (s : State) (t : Fin 512), s.dev.running = true →
     (s.dev.thrState t.val ≠ 1 → (∀ r, exec (.instructionIssue t r) s = .next s) ∧ (∀ mask, exec (.eventWait t mask) s = .next s) ∧
       (∀ b, exec (.eventClear t b) s = .next s) ∧ exec (.threadExit t) s = .next s ∧ (∀ x, exec (.chargeSliceSet t x) s = .next s) ∧
       (∀ h w fin, exec (.channelPut t h w fin) s = .next s) ∧ (∀ h, exec (.inboundTake t h) s = .next s)) ∧
     (s.dev.thrState t.val = 1 →
       (∀ pc, pc < 32768 → ∃ u, exec (.instructionIssue t (.next pc)) s = .next u ∧ u.dev.pc t.val = pc ∧ u.dev.thrState t.val = 1) ∧
       (∀ code, ∃ u, exec (.instructionIssue t (.fault code)) s = .next u ∧ u.dev.thrState t.val = 6 ∧
         u.dev.fld (thrReg Reg.FPC_THR_FAULT t.val) 24 8 = code.val) ∧
       (∀ mask, s.dev.holding t.val = none → s.dev.pendingBits t.val &&& mask ≠ 0 → ∃ u, exec (.eventWait t mask) s = .next u ∧
         u.dev.thrState t.val = 1 ∧ u.dev.pc t.val = (s.dev.pc t.val + 1) % 32768 ∧ u.dev.reg (thrReg Reg.FPC_THR_WAITMASK t.val) = mask) ∧
       (∀ mask, s.dev.holding t.val = none → s.dev.pendingBits t.val &&& mask = 0 → (s.dev.thread t.val).leaving = false →
         ∃ u, exec (.eventWait t mask) s = .next u ∧ u.dev.thrState t.val = 3 ∧ u.dev.reg (thrReg Reg.FPC_THR_WAITMASK t.val) = mask) ∧
       (∀ b, ∃ u, exec (.eventClear t b) s = .next u ∧
         u.dev.reg (thrReg Reg.FPC_THR_EVENTS t.val) = s.dev.reg (thrReg Reg.FPC_THR_EVENTS t.val) &&& ~~~ b) ∧
       (s.dev.thrOn t.val = true → ∃ u, exec (.threadExit t) s = .next u ∧ u.dev.thrState t.val = 4 ∧
         u.dev.pc t.val = s.dev.fld (thrReg Reg.FPC_THR_ENTRY t.val) 0 15 ∧ u.dev.reg (thrReg Reg.FPC_THR_EVENTS t.val) = 0) ∧
       (s.dev.thrOn t.val = false → ∃ u, exec (.threadExit t) s = .next u ∧ u.dev.thrState t.val = 0) ∧
       (∀ n i, ∃ u, exec (.chargeSliceSet t (some (n, i))) s = .next u ∧
         u.dev.regN (thrReg Reg.FPC_THR_CHARGE t.val) = 2 ^ 31 + i.val * 2 ^ 16 + n.val) ∧
       (∀ (h : Fin 256) w, h.val < 14 → (h.val ≠ 0 ∨ isSup t.val = true) → (s.dev.thread t.val).abort = false → s.dev.holding t.val = none →
         s.dev.holder (t.val / 64) h.val = none → ∃ u, exec (.channelPut t h w false) s = .next u ∧ u.dev.holding t.val = some h.val ∧
           (u.dev.thread t.val).staged = ((s.dev.thread t.val).staged ++ [w]).take 16) ∧
       (∀ (h : Fin 256) w, 14 ≤ h.val → (s.dev.thread t.val).abort = false → ∃ u, exec (.channelPut t h w false) s = .next u ∧
         u.dev.thrState t.val = 6))) ∧
  (∀ (s : State) (t : Fin 512), s.dev.running = true →
     (s.dev.thrState t.val = 3 → s.dev.reg (thrReg Reg.FPC_THR_EVENTS t.val) &&& s.dev.reg (thrReg Reg.FPC_THR_WAITMASK t.val) ≠ 0 →
       ∃ u, exec (.threadWakeUp t) s = .next u ∧ u.dev.thrState t.val = 4) ∧
     (s.dev.thrState t.val ≠ 3 → exec (.threadWakeUp t) s = .next s) ∧
     (s.dev.thrState t.val ≠ 4 → exec (.threadAdmit t) s = .next s) ∧
     (∀ x, s.dev.thrState t.val = 4 → s.dev.offer .wake t.val (s.dev.thrClass t.val) (s.dev.unitCost 4 0) (s.dev.thrOwner t.val)
         (s.dev.fpc.wakeAngle.contains t.val) = (true, x) → ∃ u, exec (.threadAdmit t) s = .next u ∧ u.dev.thrState t.val = 1) ∧
     (∀ f fs, s.dev.gau.firings = f :: fs → f.action = 6 → f.target = t.val → s.dev.thrState t.val ≠ 3 →
       exec (.angleWake t) s = .next { s with dev :=
         (({ s.dev with gau := { s.dev.gau with firings := fs } } : Dev).postEvents t.val (Word.fld f.arg 0 24)) }) ∧
     (∀ i : Fin 4, (Map.get? (s.dev.thread t.val).timers i.val = none → exec (.threadTimerExpiry t i) s = .next s) ∧
       ((Map.get? (s.dev.thread t.val).timers i.val).isSome = true → ∃ u, exec (.threadTimerExpiry t i) s = .next u ∧
         u.dev.bit (thrReg Reg.FPC_THR_EVENTS t.val) (24 + i.val) = true ∧ Map.get? (u.dev.thread t.val).timers i.val = none ∧
         s.dev.sameRegsBut u.dev [thrReg Reg.FPC_THR_EVENTS t.val])) ∧
     (∀ v, Word.bit v 0 = false → exec (.fpcThrResetWrite t v) s = .next s) ∧
     (∀ v, Word.bit v 0 = true → s.dev.thrOn t.val = true → ∃ u, exec (.fpcThrResetWrite t v) s = .next u ∧ u.dev.thrState t.val = 4 ∧
       u.dev.pc t.val = s.dev.fld (thrReg Reg.FPC_THR_ENTRY t.val) 0 15) ∧
     (s.dev.thrState t.val = 1 → ∃ u, exec (.halt t) s = .next u ∧ u.dev.thrState t.val = 5 ∧ (u.dev.thread t.val).prior = 1 ∧
       u.dev.bit (thrReg Reg.FPC_THR_DBG t.val) 0 = true) ∧
     (s.dev.thrState t.val ≠ 5 → exec (.resume t) s = .next s) ∧
     (s.dev.thrState t.val = 5 → (s.dev.thread t.val).prior = 1 → (s.dev.thread t.val).stalled = none →
       ∃ u, exec (.resume t) s = .next u ∧ u.dev.thrState t.val = 1 ∧ u.dev.bit (thrReg Reg.FPC_THR_DBG t.val) 0 = false) ∧
     (s.dev.holding t.val = none → exec (.release t) s = .next s) ∧
     (∀ h, s.dev.holding t.val = some h → s.dev.thrState t.val = 5 → (∀ k, k < 512 → k ≠ t.val → s.dev.thrState k ≠ 2) →
       ∃ u, exec (.release t) s = .next u ∧ u.dev.holding t.val = none ∧ (u.dev.thread t.val).staged = [] ∧
         (u.dev.thread t.val).abort = true ∧ u.dev.bit (thrReg Reg.FPC_THR_DBG t.val) 3 = true) ∧
     (∀ (c : Fin 8) (h : Fin 16), s.dev.holder c.val h.val = none → exec (.channelHoldTimeout c h) s = .next s) ∧
     (∀ (c : Fin 8) (h : Fin 16) who, s.dev.holder c.val h.val = some who → s.dev.fpc.heldNoted.contains (256 * c.val + h.val) = false →
       ∃ u, exec (.channelHoldTimeout c h) s = .next u ∧ u.dev.bit (Reg.FPC_CLc_EVT c.val) 2 = true ∧
         256 * c.val + h.val ∈ u.dev.fpc.heldNoted ∧ exec (.channelHoldTimeout c h) u = .next u) ∧
     (∀ c : Fin 8, s.dev.bit (Reg.FPC_CLc_CTRL c.val) 0 = false → exec (.allWaitDetect c) s = .next s) ∧
     (∀ c : Fin 8, s.dev.bit (Reg.FPC_CLc_CTRL c.val) 0 = true → c.val ∉ s.dev.fpc.allWaitFired →
       (∀ l, 0 < l → l < 64 → s.dev.thrOn (64 * c.val + l) = true ∧ s.dev.internalWait (64 * c.val + l) = true) →
       ∃ u, exec (.allWaitDetect c) s = .next u ∧ u.dev.bit (Reg.FPC_CLc_EVT c.val) 3 = true ∧ c.val ∈ u.dev.fpc.allWaitFired) ∧
     (∀ (c core : Fin 8) (lost : BitVec 8) (sp old : Nat), s.dev.fld (Reg.FPC_CLc_SPARE c.val) 0 2 = 0 →
       s.dev.fld (Reg.FPC_CLc_SPARE c.val) 4 4 = sp → sp ≠ 0xF → s.dev.fld (Reg.FPC_CLc_CORES c.val) (4 * core.val) 4 = old → old ≠ 0xF →
       ∃ u, exec (.coreTakeover c core lost) s = .next u ∧ u.dev.fld (Reg.FPC_CLc_CORES c.val) (4 * core.val) 4 = sp ∧
         u.dev.fld (Reg.FPC_CLc_SPARE c.val) 0 2 = 2 ∧ u.dev.fld (Reg.FPC_CLc_SPARE c.val) 4 4 = 0xF ∧
         Map.get? u.dev.fpc.tasting c.val = some old ∧ u.dev.bit (Reg.FPC_CLc_EVT c.val) 4 = true) ∧
     (∀ (c : Fin 8) (pass : Bool), Map.get? s.dev.fpc.tasting c.val = none → exec (.coreTastingDone c pass) s = .next s) ∧
     (∀ (c : Fin 8) (p : Nat), Map.get? s.dev.fpc.tasting c.val = some p → p < 16 →
       (∃ u, exec (.coreTastingDone c true) s = .next u ∧ u.dev.fld (Reg.FPC_CLc_SPARE c.val) 0 2 = 0 ∧
         u.dev.fld (Reg.FPC_CLc_SPARE c.val) 4 4 = p) ∧
       (∃ u, exec (.coreTastingDone c false) s = .next u ∧ u.dev.fld (Reg.FPC_CLc_SPARE c.val) 0 2 = 3)))

/-- Requests on the channels of the accelerators. Without an open request nothing happens; an operation the channel does not
have is answered BAD_OP; each operation named here is done and answered with its status and data, and the response of an
answered request takes the request off the thread's list. -/
def Obligations.ChannelsAnswerRequests : Prop :=
  ∀ (s : State) (t : Fin 512) (r : AccReq), s.dev.running = true →
    (s.dev.openReq t.val 0x01 = some r → (exec (.cellarChannelRequest t none) s = .next { s with dev :=
        (s.dev.answerReq t.val r.tag 1 []) }) ∧
      (∀ h id f off len, s.dev.handleFrame t.val h = some id → s.dev.frame? id = some f → off + len ≤ f.len →
        exec (.cellarChannelRequest t (some (.read h off len))) s =
          .next { s with dev := s.dev.answerReq t.val r.tag 0 (slice f.bytes off len) })) ∧
    (s.dev.openReq t.val 0x02 = some r → s.dev.thrClass t.val ≠ 3 → ∀ a n, a + n ≤ 48 * 2 ^ 30 →
      exec (.hbmChannelRequest t (some (.read a n))) s = .next { s with dev := s.dev.answerReq t.val r.tag 0 (s.dev.hbmBytes a n) }) ∧
    (s.dev.openReq t.val 0x03 = some r → ∀ (tb : Fin 16) (b : Fin 2) key l, s.dev.clsFind tb.val b.val key = some l →
      exec (.lookupChannelRequest t (some (.rule tb b key))) s =
        .next { s with dev := s.dev.answerReq t.val r.tag 0 (bytesOf (locWord l b.val :: (s.dev.clsRaw tb.val b.val l).getD [])) }) ∧
    (s.dev.openReq t.val 0x05 = some r → ∀ a n bs, s.dev.winRead t.val a n = some bs →
      exec (.hashChannelRequest t (some (.crc16 a n))) s =
        .next { s with dev := s.dev.answerReq t.val r.tag 0 (wd (crc16 bs)).bytes }) ∧
    (s.dev.openReq t.val 0x06 = some r → ∀ h id f, s.dev.handleFrame t.val h = some id → s.dev.frame? id = some f →
      exec (.frameChannelRequest t (some (.release h))) s =
        .next { s with dev := ((s.dev.freeFrame id).showFrames t.val).answerReq t.val r.tag 0 [] } ∧
      (∀ n : Fin 65536, exec (.frameChannelRequest t (some (.node h n))) s =
        .next { s with dev := ((s.dev.moveFrame id f (.toNode n.val)).showFrames t.val).answerReq t.val r.tag 0 [] })) ∧
    (s.dev.openReq t.val 0x07 = some r → ∀ h id f (p : Fin 64) o, s.dev.handleFrame t.val h = some id → s.dev.frame? id = some f →
      (3 ≤ f.pass → exec (.recircChannelRequest t h p o) s = .next { s with dev := s.dev.answerReq t.val r.tag 2 [] }) ∧
      (f.pass < 3 → exec (.recircChannelRequest t h p o) s =
        .next { s with dev := ((s.dev.recirculate id f p.val o).showFrames t.val).answerReq t.val r.tag 0 [] })) ∧
    (s.dev.openReq t.val 0x08 = some r → ∀ c : Fin 64,
      exec (.dmaChannelRequest t c) s = .next { s with dev := (s.dev.kick c.val).answerReq t.val r.tag 0 [] }) ∧
    (s.dev.openReq t.val 0x09 = some r → ∀ (i : Fin 4) (ns : Fin 4294967296), ns.val ≠ 0 → 
      exec (.timerChannelRequest t (some (.arm i ns))) s = .next { s with dev := ((s.dev.setThread t.val (fun th =>
        { th with timers := Map.put th.timers i.val (s.dev.now + ns.val / 2) })).answerReq t.val r.tag 0 []) }) ∧
    (s.dev.openReq t.val 0x0A = some r → ∀ (d : Fin 512) (b : BitVec 24),
      exec (.eventChannelRequest t d b) s = .next { s with dev := (s.dev.postEvents d.val b.toNat).answerReq t.val r.tag 0 [] }) ∧
    (s.dev.openReq t.val 0x0D = some r → ∀ k : Fin 32768, exec (.stoChannelRequest t (some (.read k))) s =
      .next { s with dev := s.dev.answerReq t.val r.tag 0 (s.dev.reg (Reg.STO_CONN_STATEk k.val)).bytes }) ∧
    (s.dev.openReq t.val 0x0C = some r → Word.fld (wordAt r.words 0) 24 8 = 2 → 
      exec (.groupRead t) s =
        .next { s with dev := s.dev.answerReq t.val r.tag 0 (bytesOf (s.dev.groupRead (Word.fld (wordAt r.words 1) 0 8))) } ∧ exec (.inject t) s = .next s) ∧
    (s.dev.openReq t.val 0x0C = some r → Word.fld (wordAt r.words 0) 24 8 = 1 →
      s.dev.svValid (Word.fld (wordAt r.words 1) 0 10) = false →
      exec (.inject t) s = .next { s with dev := s.dev.answerReq t.val r.tag 2 [] }) ∧
    (∀ bs, s.dev.openReq t.val 0x0C = some r → Word.fld (wordAt r.words 0) 24 8 = 1 →
      s.dev.svValid (Word.fld (wordAt r.words 1) 0 10) = true → Word.fld (wordAt r.words 3) 0 16 < s.dev.svRate (Word.fld (wordAt r.words 1) 0 10) →
      s.dev.winRead t.val (wordAt r.words 4).toNat (8 * s.dev.svChannels (Word.fld (wordAt r.words 1) 0 10)) = some bs →
      s.dev.rows (Word.fld (wordAt r.words 1) 0 10) = [] →
      exec (.inject t) s = .next { s with dev := (((s.dev.storeSample (Word.fld (wordAt r.words 1) 0 10) ⟨(wordAt r.words 2).toNat,
        Word.fld (wordAt r.words 3) 0 16, wordsOf (2 * s.dev.svChannels (Word.fld (wordAt r.words 1) 0 10)) bs, false, false, true, false,
        s.dev.time⟩).settleStream (Word.fld (wordAt r.words 1) 0 10)).answerReq t.val r.tag 0 []) }) ∧
    (s.dev.openReq t.val 0x00 = some r → isSup t.val = true →
      (∀ w, exec (.mgmtChannelRequest t (.mbxIn w)) s = .next { s with dev :=
        ((s.dev.mbxIn (8 + t.val / 64) w).answerReq t.val r.tag 0 []) }) ∧
      (∀ ws, exec (.mgmtChannelRequest t (.packet ws)) s = .next { s with dev := s.dev.putPacket (8 + t.val / 64) 0 ws })) ∧
    (∀ i op, (i, op) ∈ [(Instr.trlPeerWriteRequest t, 1), (Instr.trlPeerReadRequest t, 2), (Instr.trlSendRequest t, 3)] →
      s.dev.trlReq t.val = some r → Word.fld (wordAt r.words 0) 24 8 = op →
      (s.dev.reachable (Word.fld (wordAt r.words 1) 16 9) = false →
        exec i s = .next { s with dev := s.dev.answerReq t.val r.tag 0x17 [] }) ∧
      (s.dev.reachable (Word.fld (wordAt r.words 1) 16 9) = true → op = 2 → peerLenOk r = true →
        exec i s = .next { s with dev := s.dev.peerRequest t.val r (Word.fld (wordAt r.words 1) 16 9) 0x31 true [] }) ∧
      (∀ bs, s.dev.reachable (Word.fld (wordAt r.words 1) 16 9) = true → op = 1 → peerLenOk r = true →
        s.dev.winRead t.val (wordAt r.words 4).toNat (Word.fld (wordAt r.words 3) 0 16) = some bs →
        exec i s = .next { s with dev := s.dev.peerRequest t.val r (Word.fld (wordAt r.words 1) 16 9) 0x30 false bs }) ∧
      (∀ bs n, s.dev.reachable (Word.fld (wordAt r.words 1) 16 9) = true → op = 3 → n = Word.fld (wordAt r.words 2) 0 6 → 1 ≤ n → n ≤ 60 →
        s.dev.winRead t.val (wordAt r.words 4).toNat (4 * n) = some bs →
        exec i s = .next { s with dev := (s.dev.trlSend (Word.fld (wordAt r.words 1) 16 9) 2 0x71
          (bytesOf [wd (n * 65536 + Word.fld (wordAt r.words 1) 0 11)] ++ bs)).answerReq t.val r.tag 0 [] })) ∧
    (s.dev.dueReq t.val = none → exec (.acceleratorResponse t) s = .next s) ∧
    (s.dev.dueReq t.val = some r → (s.dev.thread t.val).stalled = none → ∃ u, exec (.acceleratorResponse t) s = .next u ∧
      (u.dev.thread t.val).reqs = (s.dev.thread t.val).reqs.filter (fun q => decide (q.tag ≠ r.tag)))

/-- Requests on channel CIPHER, and inbound messages. A request of a bad length, or of a foreign SA, is answered at once with
its status; a good one joins the cipher stage. A frame bound for a channel that is off is dropped; to a channel with room it is
queued as a message; a take of an empty queue is EMPTY, else takes the oldest message. Messages in the cipher stage and its
engines. A frame with work for the stage joins it; an engine with a message issues its next batch where the EBS admits it; a
message whose blocks have all run leaves; an engine that faults leaves service with its event, and one that is tasted returns,
or is retired. -/
def Obligations.CipherMessagesAct : Prop :=
  (∀ (s : State) (t : Fin 512), s.dev.running = true →
     (∀ i op r, (i, op) ∈ [(Instr.seal t, 1), (Instr.cipherOpen t, 2), (Instr.ctr t, 3), (Instr.xtsEnc t, 4), (Instr.xtsDec t, 5)] →
       (s.dev.thread t.val).reqs = [r] → r.chan = 4 → Word.fld (wordAt r.words 0) 24 8 = op → r.answer = none → s.dev.cry.msgs = [] →
       (16384 < Word.fld (wordAt r.words 3) 0 16 → exec i s = .next { s with dev := s.dev.answerReq t.val r.tag 0x13 [] }) ∧
       (Word.fld (wordAt r.words 3) 0 16 = 64 → Word.fld (wordAt r.words 3) 16 16 ≤ 64 → (s.dev.reqBytes t.val r (if op = 2 then 16 else 0)).isSome = true →
         s.dev.reqForeign t.val (wordAt r.words 1) = true → exec i s = .next { s with dev := s.dev.answerReq t.val r.tag 0x11 [] }) ∧
       (Word.fld (wordAt r.words 3) 0 16 = 64 → Word.fld (wordAt r.words 3) 16 16 ≤ 64 → (s.dev.reqBytes t.val r (if op = 2 then 16 else 0)).isSome = true →
         s.dev.reqForeign t.val (wordAt r.words 1) = false → (∀ e, e < 12 → s.dev.engineOn e = false) → s.dev.thrClass t.val ≠ 0 →
         ∃ u x, exec i s = .next u ∧ u.dev.cry.msgs = [(s.dev.cry.nextMsg, x)] ∧ x.work = .request t.val r.tag op ∧ x.place = .waiting)) ∧
     (∀ f g c h, s.dev.frame? f = some g → g.place = .toChannel c h → c < 8 → 16 ≤ h → s.dev.bit (Reg.FPC_CHh_CFG c h) 31 = false →
       ∃ u, exec (.inboundEnqueue (some f)) s = .next u ∧ u.dev.frame? f = none ∧ u.dev.bit (Reg.FPC_CLc_EVT c) 1 = true) ∧
     (∀ f g c h, s.dev.frame? f = some g → g.place = .toChannel c h → c < 8 → 16 ≤ h → h < 256 → s.dev.bit (Reg.FPC_CHh_CFG c h) 31 = true →
       s.dev.chanQueue c h = [] → ∃ u x y, exec (.inboundEnqueue (some f)) s = .next u ∧ u.dev.frame? f = some y ∧ y.place = .inbound c h ∧
         u.dev.chanQueue c h = [x] ∧ x.frame = some f) ∧
     (s.dev.fpc.arriving = [] → exec (.inboundEnqueue none) s = .next s) ∧
     (∀ h : Fin 256, s.dev.thrState t.val = 1 → s.dev.chanQueue (t.val / 64) h.val = [] → ∃ u, exec (.inboundTake t h) s = .next u ∧
       (u.dev.thread t.val).cond = 3 ∧ u.dev.pc t.val = (s.dev.pc t.val + 1) % 32768) ∧
     (∀ (h : Fin 256) ws rest, s.dev.thrState t.val = 1 → s.dev.chanQueue (t.val / 64) h.val = ⟨ws, none⟩ :: rest →
       ∃ u, exec (.inboundTake t h) s = .next u ∧ u.dev.chanQueue (t.val / 64) h.val = rest ∧ (u.dev.thread t.val).cond = 0)) ∧
  (∀ (s : State) (e : Fin 12), s.dev.running = true →
     (∀ f, s.dev.frame? f = none → exec (.cipherMessageArrive f) s = .next s) ∧
     (∀ f g y, s.dev.frame? f = some g → g.place = .verify y → s.dev.cry.msgs = [] → (∀ x, x < 12 → s.dev.engineOn x = false) →
       ∃ u x, exec (.cipherMessageArrive f) s = .next u ∧ u.dev.cry.msgs = [(s.dev.cry.nextMsg, x)] ∧ x.work = .verify f y ∧
         x.place = .waiting ∧ x.level = 0 ∧ u.dev.rf = s.dev.rf) ∧
     (s.dev.inEngine e.val = none → s.dev.nextFor e.val = none → exec (.cipherBatchIssue e) s = .next s) ∧
     (∀ i m u, s.dev.inEngine e.val = some i → Map.get? s.dev.cry.msgs i = some m → 0 < m.issued → m.issued < m.blocks →
       (∀ f y, m.work ≠ .verify f y) → 
       s.dev.offer .cipher i m.level (s.dev.unitCost 3 (Nat.min 64 (m.blocks - m.issued))) m.owner false = (true, u) →
       exec (.cipherBatchIssue e) s = .next { s with dev := u.setMsg i (fun m' =>
         { m' with issued := m'.issued + Nat.min 64 (m.blocks - m.issued) }) }) ∧
     (s.dev.inEngine e.val = none → exec (.cipherMessageDone e) s = .next s) ∧
     (∀ i m t tag op, s.dev.cry.msgs = [(i, m)] → m.place = .engine e.val → m.blocks ≤ m.issued → m.work = .request t tag op →
       ∃ u, exec (.cipherMessageDone e) s = .next u ∧ u.dev.cry.msgs = []) ∧
     (s.dev.engineOn e.val = false → exec (.cipherEngineFault e) s = .next s) ∧
     (s.dev.engineOn e.val = true → s.dev.cry.msgs = [] → ∃ u, exec (.cipherEngineFault e) s = .next u ∧ u.dev.engineOn e.val = false ∧
       u.dev.bit Reg.CRY_EVT_STATUS 4 = true) ∧
     (s.dev.engineOn e.val = true → ∀ p, exec (.cipherEngineReturn e p) s = .next s) ∧
     (s.dev.engineOn e.val = false → s.dev.cry.msgs = [] → s.dev.bit Reg.CRY_ENGINES (16 + e.val) = false → s.dev.engineReset e.val = none →
       exec (.cipherEngineReturn e true) s = .next { s with dev := s.dev.setBit Reg.CRY_ENGINES e.val true } ∧
       exec (.cipherEngineReturn e false) s = .next { s with dev :=
         ((s.dev.setBit Reg.CRY_ENGINES (16 + e.val) true).sqSet Reg.CRY_EVT_STATUS [3]) }))

/-- Keys, their loading and erasure, and the security associations. A bad load answers ERR 1 and changes nothing else; a good
one fills the slot and clears the staged key; an erasure empties the slot; an SA that is deleted is FREE; limits reached are
reported once, and at the hard one the key is gone. -/
def Obligations.KeysAndAssociations : Prop :=
  ∀ (s : State), s.dev.running = true →
    (∀ i : Fin 256, s.dev.keyBad i.val (s.dev.regs (Reg.CRY_KEY_STAGE 0) 8 ++ s.dev.regs (Reg.CRY_KEY_DATA 0) 8) = true →
      exec (.keyLoad i) s = .next { s with dev := s.dev.setN Reg.CRY_KEY_CMD (2 ^ 28 + 2 ^ 24 + i.val) }) ∧
    (∀ i : Fin 256, s.dev.keyBad i.val (s.dev.regs (Reg.CRY_KEY_STAGE 0) 8 ++ s.dev.regs (Reg.CRY_KEY_DATA 0) 8) = false →
      s.dev.bit (Reg.CRY_SLOTs i.val) 25 = false →
      ∃ u k, exec (.keyLoad i) s = .next u ∧ u.dev.slot? i.val = some k ∧ k.purpose = s.dev.fld (Reg.CRY_KEY_STAGE 1) 28 4 ∧
        k.key = bytesOf ((s.dev.regs (Reg.CRY_KEY_DATA 0) 8).take (if s.dev.bit (Reg.CRY_KEY_STAGE 1) 26 then 8 else 4)) ∧
        u.dev.regs (Reg.CRY_KEY_DATA 0) 8 = List.replicate 8 0 ∧ u.dev.regN Reg.CRY_KEY_CMD = 2 ^ 24 + i.val) ∧
    (∀ i : Fin 256, ∃ u, exec (.keyZero i) s = .next u ∧ u.dev.slot? i.val = none ∧ u.dev.bit (Reg.CRY_SLOTs i.val) 25 = false ∧
      u.dev.regN Reg.CRY_KEY_CMD = 2 * 2 ^ 24 + i.val) ∧
    (∀ (i : Fin 1048576), (s.dev.saLive i.val = none → exec (.saSoftExpiry false i) s = .next s ∧ exec (.saHardExpiry false i) s = .next s) ∧
      (s.dev.slot? i.val = none → exec (.saSoftExpiry true i) s = .next s ∧ exec (.saHardExpiry true i) s = .next s) ∧
      (∀ a, s.dev.saLive i.val = some a → a.soft = false → a.softLimit ≠ 0 → a.softLimit ≤ a.packets →
        ∃ u, exec (.saSoftExpiry false i) s = .next u ∧ u.dev.saLive i.val = some { a with soft := true } ∧
          u.dev.bit Reg.CRY_EVT_STATUS 1 = true ∧ u.dev.regN Reg.CRY_EXPIRY_SEQ = (s.dev.regN Reg.CRY_EXPIRY_SEQ + 1) % 2 ^ 32) ∧
      (∀ a, s.dev.saLive i.val = some a → a.hardLimit ≠ 0 → a.hardLimit ≤ a.packets →
        ∃ u, exec (.saHardExpiry false i) s = .next u ∧ u.dev.sa? i.val = some { a.zeroised with state := 2 } ∧
          u.dev.bit Reg.CRY_EVT_STATUS 2 = true)) ∧
    (∀ (sa : Bool) (i : Fin 1048576), s.dev.copyHeld sa i.val = true → exec (.keyCopyReleased sa i) s = .next s) ∧
    (∀ (i : Fin 1048576) m t g c, s.dev.copyHeld false i.val = false → s.dev.cry.waits = [(false, i.val, m, t, g)] → s.dev.cmd? m t g = some c →
      ∃ u, exec (.keyCopyReleased false i) s = .next u ∧ u.dev.cry.waits = [] ∧ u.dev.finished m t g stOK []) ∧
    (∀ (m : Fin 16) (tag : Fin 4096) (gen : Fin 16) (c : Cmd),
      (s.dev.started m.val tag.val gen.val 0x0400 c → s.dev.keyBad (c.pf 0 0 8) c.params = true →
        exec (.keySlotWrite m tag gen) s = .next { s with dev := s.dev.finish m.val tag.val gen.val (Res.st stBadParam) }) ∧
      (s.dev.started m.val tag.val gen.val 0x0400 c → s.dev.keyBad (c.pf 0 0 8) c.params = false → s.dev.bit (Reg.CRY_SLOTs (c.pf 0 0 8)) 25 = false →
        exec (.keySlotWrite m tag gen) s = .next { s with dev :=
          ((s.dev.loadSlot (c.pf 0 0 8) c.params).finish m.val tag.val gen.val (Res.ok [])) }) ∧
      (s.dev.started m.val tag.val gen.val 0x0401 c → s.dev.copyHeld false (c.pf 0 0 8) = false →
        ∃ u, exec (.keySlotZero m tag gen) s = .next u ∧ u.dev.slot? (c.pf 0 0 8) = none ∧ u.dev.finished m.val tag.val gen.val stOK []) ∧
      (s.dev.started m.val tag.val gen.val 0x0401 c → s.dev.copyHeld false (c.pf 0 0 8) = true →
        ∃ u, exec (.keySlotZero m tag gen) s = .next u ∧ u.dev.slot? (c.pf 0 0 8) = none ∧ u.dev.started m.val tag.val gen.val 0x0401 c) ∧
      (s.dev.started m.val tag.val gen.val 0x0402 c → s.dev.cry.msgs = [] → (∀ x, x < 12 → s.dev.engineOn x = false) →
        ∃ u x, exec (.saDecant m tag gen) s = .next u ∧ u.dev.cry.msgs = [(s.dev.cry.nextMsg, x)] ∧ x.work = .decant c.master c.tag c.gen ∧
          x.level = 1 ∧ x.blocks = 9) ∧
      (s.dev.started m.val tag.val gen.val 0x0403 c → s.dev.sa? (c.pf 1 0 20) = none →
        exec (.saDelete m tag gen) s = .next { s with dev := s.dev.finish m.val tag.val gen.val (Res.st stBadParam) }) ∧
      (∀ a, s.dev.started m.val tag.val gen.val 0x0403 c → s.dev.sa? (c.pf 1 0 20) = some a → a.slice = c.slice →
        s.dev.copyHeld true (c.pf 1 0 20) = false →
        ∃ u, exec (.saDelete m tag gen) s = .next u ∧ u.dev.sa? (c.pf 1 0 20) = none ∧ u.dev.finished m.val tag.val gen.val stOK []) ∧
      (s.dev.started m.val tag.val gen.val 0x0404 c →
        exec (.saStatus m tag gen) s = .next { s with dev := s.dev.finish m.val tag.val gen.val (Res.ok (s.dev.saWords (c.pf 1 0 20))) }))

/-- Objects of storage. An operation on no kind of object is ERR 3, one on an index not in use ERR 1, and neither changes
anything else; a read shows the words, a creation stores them, a destruction removes them while the slice is quiesced, a connect
sets a FAILED connection going again. Connections of storage. Nothing that happens to a FREE connection has an effect.
CONNECTING becomes LIVE with what the target answered, or waits to try again; a loss of a LIVE one without commands leads to
waiting; expiries lead on to CONNECTING and to FAILED; a close ends in FREE; a retransmission is counted, and the eighth is a
loss; a keep-alive is sent while LIVE. Commands of an NVMe queue on a LIVE connection. An entry fetched is counted; a good Flush
is sent; a response ends a command whose data have been moved; read data are placed, or a bad digest is counted and reported;
data asked for wait for the cipher; a command that times out, or that a slice's quiesce no longer waits for, loses the
connection. -/
def Obligations.StorageActs : Prop :=
  (∀ (s : State) (v : Word), s.dev.running = true →
     (Word.fld v 4 2 = 3 →
       exec (.stoObjRead v) s = .next { s with dev := s.dev.setN Reg.STO_OBJ_CMD (3 * 2 ^ 24 + 49) } ∧
       exec (.stoObjCreate v) s = .next { s with dev := s.dev.setN Reg.STO_OBJ_CMD (3 * 2 ^ 24 + 50) } ∧
       exec (.stoObjDestroy v) s = .next { s with dev := s.dev.setN Reg.STO_OBJ_CMD (3 * 2 ^ 24 + 51) } ∧
       exec (.stoObjConnect v) s = .next { s with dev := s.dev.setN Reg.STO_OBJ_CMD (3 * 2 ^ 24 + 52) }) ∧
     (∀ i, Word.fld v 4 2 = 2 → s.dev.fld Reg.STO_OBJ_INDEX 0 15 = i → i < 16384 →
       (Map.get? s.dev.sto.namespaces i = none →
         exec (.stoObjRead v) s = .next { s with dev := s.dev.setN Reg.STO_OBJ_CMD (2 ^ 24 + 33) } ∧
         exec (.stoObjDestroy v) s = .next { s with dev := s.dev.setN Reg.STO_OBJ_CMD (2 ^ 24 + 35) } ∧
         (s.dev.nsBad i (s.dev.regs (Reg.STO_OBJ_DATA 0) 5) = false →
           s.dev.sliceLive (s.dev.fld (Reg.STO_OBJ_DATA 0) 0 13) (s.dev.fld (Reg.STO_OBJ_DATA 0) 16 8) = true →
           ∃ t, exec (.stoObjCreate v) s = .next t ∧ Map.get? t.dev.sto.namespaces i = some (s.dev.regs (Reg.STO_OBJ_DATA 0) 5) ∧
             t.dev.regN Reg.STO_OBJ_CMD = 34 ∧ s.dev.sameRegsBut t.dev [Reg.STO_OBJ_CMD])) ∧
       (∀ ws, Map.get? s.dev.sto.namespaces i = some ws →
         (exec (.stoObjCreate v) s = .next { s with dev := s.dev.setN Reg.STO_OBJ_CMD (2 ^ 24 + 34) }) ∧
         (∃ t, exec (.stoObjRead v) s = .next t ∧ t.dev.regs (Reg.STO_OBJ_DATA 0) 64 = (List.range 64).map (wordAt ws) ∧
           t.dev.regN Reg.STO_OBJ_CMD = 33 ∧ t.dev.sto = s.dev.sto) ∧
         (s.dev.sliceState (Word.fld (wordAt ws 0) 0 13) = 4 → ∃ t, exec (.stoObjDestroy v) s = .next t ∧
           Map.get? t.dev.sto.namespaces i = none ∧ t.dev.regN Reg.STO_OBJ_CMD = 35) ∧
         (s.dev.sliceState (Word.fld (wordAt ws 0) 0 13) ≠ 4 →
           exec (.stoObjDestroy v) s = .next { s with dev := s.dev.setN Reg.STO_OBJ_CMD (5 * 2 ^ 24 + 35) }))) ∧
     (∀ c, Word.fld v 4 2 = 0 → s.dev.conn? (s.dev.fld Reg.STO_OBJ_INDEX 0 15) = some c → c.target = true →
       s.dev.connState (s.dev.fld Reg.STO_OBJ_INDEX 0 15) = 4 → ∃ t, exec (.stoObjConnect v) s = .next t ∧
         t.dev.connState (s.dev.fld Reg.STO_OBJ_INDEX 0 15) = 1 ∧ t.dev.bit Reg.STO_EVT_STATUS 0 = true ∧ t.dev.regN Reg.STO_OBJ_CMD = 4)) ∧
  (∀ (s : State) (k : Fin 32768), s.dev.running = true →
     (∀ i, s.dev.connState k.val = 0 → (i = Instr.connectFail k ∨ (∃ a b c, i = .connectSuccess k a b c) ∨ (∃ b, i = .connectionLoss k b) ∨
         i = .reconnectExpiry k ∨ i = .ctrlLossExpiry k ∨ i = .closeDone k ∨ i = .keepAliveSend k ∨ i = .katoExpiry k ∨
         i = .tcpRetransmitTimeout k ∨ i = .c2hTermReq k ∨ (∃ ws, i = .nvmeResponse k ws)) → exec i s = .next s) ∧
     (∀ c cntlid inCapsule depth, s.dev.conn? k.val = some c → c.target = true → s.dev.connState k.val = 1 → c.words.length = 64 →
       ∃ t x, exec (.connectSuccess k cntlid inCapsule depth) s = .next t ∧ t.dev.connState k.val = 2 ∧ t.dev.conn? k.val = some x ∧
         wordAt x.words 15 = wd cntlid.val ∧ x.inCapsule = inCapsule ∧ x.depth = depth.val ∧ t.dev.bit Reg.STO_EVT_STATUS 0 = true) ∧
     (s.dev.connState k.val = 1 → ∃ t, exec (.connectFail k) s = .next t ∧ t.dev.connState k.val = 3) ∧
     (∀ i c, i ∈ [Instr.connectionLoss k false, Instr.connectionLoss k true, Instr.c2hTermReq k, Instr.katoExpiry k] →
       s.dev.conn? k.val = some c → c.target = true → c.cmds = [] → s.dev.nvqsOf k.val = [] → s.dev.connState k.val = 2 →
       ∃ t x, exec i s = .next t ∧ t.dev.connState k.val = 3 ∧ t.dev.conn? k.val = some x ∧ x.lost = true) ∧
     (s.dev.connState k.val = 3 → ∃ t, exec (.reconnectExpiry k) s = .next t ∧ t.dev.connState k.val = 1 ∧
       t.dev.reg (Reg.STO_COUNTS 3) = Word.satAdd (s.dev.reg (Reg.STO_COUNTS 3)) 1) ∧
     (∀ c, s.dev.conn? k.val = some c → c.lost = true → s.dev.connState k.val = 3 → ∃ t, exec (.ctrlLossExpiry k) s = .next t ∧
       t.dev.connState k.val = 4 ∧ t.dev.bit Reg.STO_EVT_STATUS 1 = true) ∧
     (∀ c, s.dev.conn? k.val = some c → s.dev.connState k.val = 5 → ∃ t, exec (.closeDone k) s = .next t ∧ t.dev.conn? k.val = none ∧
       t.dev.connState k.val = 0) ∧
     (s.dev.isTarget k.val = true → s.dev.connState k.val = 2 →
       exec (.keepAliveSend k) s = .next { s with dev := s.dev.emit (.capsule k.val 4 [0x18]) }) ∧
     (∀ c, s.dev.conn? k.val = some c → s.dev.overTcp k.val = true → s.dev.connState k.val = 2 →
       (c.retrans < 7 → exec (.tcpRetransmitTimeout k) s = .next { s with dev := s.dev.setConn k.val (fun x =>
         { x with retrans := x.retrans + 1 }) }) ∧
       (7 ≤ c.retrans → exec (.tcpRetransmitTimeout k) s = .next { s with dev := s.dev.loseConn k.val }))) ∧
  (∀ (s : State) (k : Fin 32768) (cid : Fin 256) (c : StoConn) (m : StoCmd), s.dev.running = true → s.dev.conn? k.val = some c →
     c.target = false → s.dev.connState k.val = 2 →
     (∀ entry q nw i, s.dev.queue? 0 c.slice c.queue = some q → s.dev.nvmeReady k.val c = true → s.dev.fetchable q = true →
       Word.fld (wordAt entry 0) 0 8 = 0 → nvmeReserved entry = false → s.dev.nsNamed c.slice (wordAt entry 1).toNat = some i →
       Map.get? s.dev.sto.namespaces i = some nw → Word.fld (wordAt nw 3) 16 15 = c.targetOf →
       ∃ t x y, exec (.nvmeCommandFetch k entry [] [] 0) s = .next t ∧ t.dev.conn? k.val = some x ∧
         Map.get? x.cmds c.freeCid = some y ∧ y.entry = entry ∧ y.sent = true ∧ y.ns = i) ∧
     (∀ ws, Map.get? c.cmds cid.val = some m → Word.fld (wordAt ws 3) 0 16 = cid.val → m.sent = true → m.done = false → m.units = 0 →
       ∃ t x, exec (.nvmeResponse k ws) s = .next t ∧ t.dev.conn? k.val = some x ∧ Map.get? x.cmds cid.val = none) ∧
     (∀ off bytes, Map.get? c.cmds cid.val = some m → m.sent = true → m.done = false → Word.fld (wordAt m.entry 0) 0 8 = 2 →
       m.placed + bytes.length ≤ m.data.length → off + bytes.length ≤ m.data.length → nsEncrypts (s.dev.nsOf m) = false →
       ∃ t x y, exec (.c2hData k cid off bytes true false) s = .next t ∧ t.dev.conn? k.val = some x ∧ Map.get? x.cmds cid.val = some y ∧
         y.placed = m.placed + bytes.length ∧ x.retrans = 0) ∧
     (∀ off bytes, Map.get? c.cmds cid.val = some m → m.sent = true → m.done = false → Word.fld (wordAt m.entry 0) 0 8 = 2 →
       ∃ t, exec (.c2hData k cid off bytes false false) s = .next t ∧ t.dev.bit Reg.STO_EVT_STATUS 2 = true ∧
         t.dev.reg (Reg.STO_COUNTS 5) = Word.satAdd (s.dev.reg (Reg.STO_COUNTS 5)) 1) ∧
     (∀ off len, Map.get? c.cmds cid.val = some m → s.dev.overTcp k.val = true → m.sent = true → m.done = false → m.writes = true →
       off + len ≤ m.data.length → m.r2t.length < 16 → m.units ≠ 0 →
       ∃ t x y, exec (.readyToTransfer k cid off len) s = .next t ∧ t.dev.conn? k.val = some x ∧ Map.get? x.cmds cid.val = some y ∧
         y.r2t = m.r2t ++ [(off, len)] ∧ t.dev.out = s.dev.out) ∧
     (Map.get? c.cmds cid.val = none → exec (.nvmeCommandTimeout k cid) s = .next s) ∧
     (Map.get? c.cmds cid.val = some m → m.done = false → ∃ t, exec (.nvmeCommandTimeout k cid) s = .next t ∧ t.dev.connState k.val = 3 ∧
       t.dev.bit Reg.STO_EVT_STATUS 3 = true) ∧
     (∀ sl : Fin 8192, Map.get? s.dev.slc.walks sl.val = none → exec (.stoQuiesceExpiry sl) s = .next s) ∧
     (∀ (sl : Fin 8192) w, Map.get? s.dev.slc.walks sl.val = some w → w.step = 5 → s.dev.stoBusy sl.val = [k.val] →
       ∃ t, exec (.stoQuiesceExpiry sl) s = .next t ∧ t.dev.connState k.val = 3))

/-- The transmit scheduler. A frame bound for a detached node is dropped with its event, one for an attached node with room
joins its queue; a granted delivery without a destination is dropped, a frame granted at the loopback port enters the Press
again as a frame of port 17; a Trellis port sends the head of its queues once the EBS admits it; a top-up tops both buckets up;
a gate event puts its entry in force, or is skipped and counted. The opcodes of the scheduler and the ports. Each that sets
something stages exactly the registers and values named here for its group and strikes its strobe; the others answer the
registers named; with CLEAR a port's counters are 0 after. -/
def Obligations.SchedulerActs : Prop :=
  (∀ (s : State), s.dev.running = true →
     (∀ f g n, s.dev.frame? f = some g → g.place = .toNode n → s.dev.needsCipher g = false → g.edit = none → s.dev.attached n = false →
       ∃ t, exec (.nodeEnqueue f) s = .next t ∧ t.dev.frame? f = none ∧
         t.dev.bit (Reg.SCH_EVT_STATUS (s.dev.pipeOf (s.dev.nodePg n))) 2 = true) ∧
     (∀ f g n, s.dev.frame? f = some g → g.place = .toNode n → s.dev.needsCipher g = false → g.edit = none → s.dev.attached n = true →
       s.dev.flt.failed = [] → g.dest = none → s.dev.backlog n + g.len ≤ (s.dev.fld (Reg.SCH_NCFG3 n) 8 12 + 1) * 4096 →
       ∃ t h, exec (.nodeEnqueue f) s = .next t ∧ t.dev.frame? f = some h ∧ h.place = .queued n (s.dev.frameTc (s.dev.nodeAt n) g) ∧
         t.dev.queueAt n (s.dev.frameTc (s.dev.nodeAt n) g) = s.dev.queueAt n (s.dev.frameTc (s.dev.nodeAt n) g) ++ [f]) ∧
     (∀ f g, s.dev.frame? f = some g → (∀ n, g.place ≠ .toNode n) → exec (.nodeEnqueue f) s = .next s) ∧
     (∀ p : Fin 22, p.val < 16 → s.dev.portPresent p.val = false → ∀ n, exec (.portGrant p n) s = .next s) ∧
     (∀ (p : Fin 22) (n : Nat) (u : Dev), p.val < 16 → s.dev.portPresent p.val = true → s.dev.bit (Reg.MAC_PORTp_CTRL p.val) 30 = false →
       Map.get? s.dev.mac.cur p.val = none → Map.get? s.dev.mac.paused p.val = none →
       s.dev.startNext p.val (s.dev.mayStart p.val) = (u, true) → exec (.portGrant p n) s = .next { s with dev := u }) ∧
     (∀ u f tc g n, s.dev.grantTcs 16 tcOrder = (u, some (f, tc)) → u.frame? f = some g → g.dest = none →
       exec (.portGrant 16 n) s = .next { s with dev := u.freeFrame f }) ∧
     (∀ u f tc g n, s.dev.grantTcs 16 tcOrder = (u, some (f, tc)) → u.frame? f = some g → ∀ x, g.dest = some x →
       exec (.portGrant 16 n) s = .next { s with dev := (u.hostDeliver g (u.deliveryOf g x)).freeFrame f }) ∧
     (∀ u f tc g n, s.dev.grantTcs 17 tcOrder = (u, some (f, tc)) → u.frame? f = some g → ∃ t h, exec (.portGrant 17 n) s = .next t ∧
       t.dev.frame? f = some h ∧ h.place = .press ∧ h.srcPort = 17 ∧ h.pass = 0 ∧ h.bytes = g.bytes ∧ t.dev.rf = u.rf) ∧
     (∀ (t : Fin 4) u f g n, s.dev.trlHead t.val = some (f, g) → 4 ≤ s.dev.trlLink t.val → s.dev.needsCipher g = false →
       s.dev.offer .portGrant f g.cls (s.dev.unitCost 1 (g.len + 4)) none false = (true, u) →
       exec (.portGrant ⟨18 + t.val, by omega⟩ n) s = .next { s with dev := (u.emit (.mesh t.val g.bytes)).freeFrame f }) ∧
     (s.dev.sch.former = [] → s.dev.listedNodes = [] → exec .topUp s = .next s) ∧
     (∀ n, s.dev.sch.former = [] → s.dev.listedNodes = [n] →
       exec .topUp s = .next { s with dev := (s.dev.topBucket n 0).topBucket n 1 }) ∧
     (∀ (p : Fin 256) f fs x y, s.dev.gau.firings = f :: fs → f.action = 1 → f.target = p.val → 
       (p.val < 16 → s.dev.portPresent p.val = true → s.dev.portA p.val = p.val → f.arg.toNat < s.dev.gateLen p.val →
         ∃ t, exec (.gateApply p x y) s = .next t ∧ t.dev.gau.firings = fs ∧
           t.dev.fld (Reg.SCH_PORTp_GSTATE p.val) 0 8 = s.dev.fld (Reg.SCH_GATE_ACTIVE p.val f.arg.toNat) 0 8 ∧
           t.dev.bit (Reg.SCH_PORTp_GSTATE p.val) 17 = s.dev.bit (Reg.SCH_GATE_ACTIVE p.val f.arg.toNat) 9 ∧
           t.dev.fld (Reg.SCH_PORTp_GSTATE p.val) 8 6 = f.arg.toNat) ∧
       (p.val < 16 → s.dev.portPresent p.val = false → ∃ t, exec (.gateApply p x y) s = .next t ∧ t.dev.gau.firings = fs ∧
         t.dev.bit (Reg.SCH_EVT_STATUS (s.dev.pipeOf (s.dev.portGroup p.val))) 3 = true ∧
         t.dev.reg (Reg.SCH_PORTp_GSTATE p.val) = s.dev.reg (Reg.SCH_PORTp_GSTATE p.val)))) ∧
  (∀ (s : State) (m : Fin 16) (tag : Fin 4096) (gen : Fin 16) (c : Cmd) (t : Dev) (r : Res), s.dev.running = true →
     (s.dev.started m.val tag.val gen.val 0x0500 c → s.dev.nodeFree (c.pf 1 0 16) = false →
       s.dev.stageStrobe c (2 ^ 14) [(Reg.SCH_NCFG4 (c.pf 1 0 16), ownerWord c), (Reg.SCH_NCFG0 (c.pf 1 0 16), c.p 2),
         (Reg.SCH_NCFG1 (c.pf 1 0 16), c.p 3), (Reg.SCH_NCFG2 (c.pf 1 0 16), c.p 4), (Reg.SCH_NCFG3 (c.pf 1 0 16),
           Word.setFld (s.dev.staged (Reg.SCH_NCFG3 (c.pf 1 0 16))) 8 12 (c.pf 5 0 12))] (Res.ok []) = (t, some r) →
       exec (.shaperSet m tag gen) s = .next { s with dev := t.finish m.val tag.val gen.val r }) ∧
     (s.dev.started m.val tag.val gen.val 0x0501 c → Word.bit (c.p 1) 31 = false → s.dev.nodeFree (c.pf 1 0 16) = false →
       c.slice? = none → c.pf 2 0 8 < 16 →
       s.dev.stageStrobe c (2 ^ 14) [(Reg.SCH_NCFG4 (c.pf 1 0 16), 0), (Reg.SCH_NCFG3 (c.pf 1 0 16), Word.setBit (Word.setFld (Word.setFld
         (Word.setBit (s.dev.staged (Reg.SCH_NCFG3 (c.pf 1 0 16))) 30 (Word.bit (c.p 1) 30)) 0 8 (c.pf 3 0 8)) 25 5 (c.pf 2 0 8)) 31 true)]
         (Res.ok []) = (t, some r) →
       exec (.nodeAttach m tag gen) s = .next { s with dev := t.finish m.val tag.val gen.val r }) ∧
     (s.dev.started m.val tag.val gen.val 0x0502 c →
       s.dev.stageStrobe c (2 ^ 15) ((Reg.SCH_PORTp_GCTRL (c.pf 0 0 4), wd (c.pf 0 8 2 * 256 + c.pf 0 16 7)) ::
         (List.range (c.pf 0 16 7)).map (fun e => (Reg.SCH_GATE_SHADOW (c.pf 0 0 4) e, c.p (e + 1)))) (Res.ok []) = (t, some r) →
       exec (.gateListSet m tag gen) s = .next { s with dev := t.finish m.val tag.val gen.val r }) ∧
     (s.dev.started m.val tag.val gen.val 0x0503 c → s.dev.showNode (c.pf 1 0 16) = t →
       exec (.schedStatus m tag gen) s = .next { s with dev := (t.finish m.val tag.val gen.val
         ((Res.ok [t.reg (Reg.SCH_NSTATE0 (c.pf 1 0 16)), t.reg (Reg.SCH_NSTATE1 (c.pf 1 0 16)), t.reg (Reg.SCH_NSTATE2 (c.pf 1 0 16)),
           t.reg (Reg.SCH_NCFG3 (c.pf 1 0 16))]).touching t [Reg.SCH_NCFG3 (c.pf 1 0 16)])) }) ∧
     (s.dev.started m.val tag.val gen.val 0x0504 c →
       s.dev.stageStrobe c (2 ^ 16) ((Reg.MAC_PGg_MODE (c.pf 0 0 1), wd (c.pf 1 27 5 * 2 ^ 27)) ::
         (List.range (8 / modeLanes (c.pf 1 29 3))).map (fun j => (Reg.MAC_PORTp_CTRL (8 * c.pf 0 0 1 + j * modeLanes (c.pf 1 29 3)),
           s.dev.modeCtrl c (8 * c.pf 0 0 1 + j * modeLanes (c.pf 1 29 3)) j))) (Res.ok []) = (t, some r) →
       exec (.portModeSet m tag gen) s = .next { s with dev := t.finish m.val tag.val gen.val r }) ∧
     (s.dev.started m.val tag.val gen.val 0x0505 c → s.dev.portPresent (c.pf 0 0 4) = false →
       exec (.portStatus m tag gen) s = .next { s with dev := s.dev.finish m.val tag.val gen.val (Res.ok [0]) }) ∧
     (s.dev.started m.val tag.val gen.val 0x0505 c → s.dev.portPresent (c.pf 0 0 4) = true → s.dev.pgMode (c.pf 0 0 4 / 8) = 0 →
       exec (.portStatus m tag gen) s = .next { s with dev := s.dev.finish m.val tag.val gen.val (Res.ok
         [s.dev.reg (Reg.MAC_PORTp_STATUS (c.pf 0 0 4)), s.dev.reg (Reg.MAC_LANEl_FEC (c.pf 0 0 4) 0),
          s.dev.reg (Reg.MAC_LANEl_FEC (c.pf 0 0 4) 1)]) }) ∧
     (s.dev.started m.val tag.val gen.val 0x0506 c → Word.bit (c.p 0) 31 = false → s.dev.portPresent (c.pf 0 0 4) = true →
       exec (.portStatsRead m tag gen) s = .next { s with dev := s.dev.finish m.val tag.val gen.val (Res.ok
         (s.dev.regs (Reg.MAC_PORTp_CNT (c.pf 0 0 4) 0) 48)) }) ∧
     (s.dev.started m.val tag.val gen.val 0x0506 c → Word.bit (c.p 0) 31 = true → s.dev.portPresent (c.pf 0 0 4) = true →
       ∃ u, exec (.portStatsRead m tag gen) s = .next u ∧ u.dev.finished m.val tag.val gen.val stOK (s.dev.regs (Reg.MAC_PORTp_CNT (c.pf 0 0 4) 0) 48) ∧
         u.dev.regs (Reg.MAC_PORTp_CNT (c.pf 0 0 4) 0) 48 = List.replicate 48 0 ∧ u.dev.fld (Reg.MAC_PORTp_HALF (c.pf 0 0 4)) 0 24 = 0) ∧
     (s.dev.started m.val tag.val gen.val 0x0806 c →
       s.dev.stageStrobe c (2 ^ 16) [(Reg.MAC_PAIRk (c.pf 0 0 3), c.p 1)] (Res.ok []) = (t, some r) →
       exec (.redundancySet m tag gen) s = .next { s with dev := t.finish m.val tag.val gen.val r }))

/-- Links of the network ports. Each event moves an enabled, present port from the one LINK state it belongs to, and acts in no
other; a remote and a local fault are shown; the verify procedure goes on to active, to its next mPacket, or to failed. Frames
at the ports. A port that is not UP receives nothing; a frame the MAC refuses leaves no frame behind; a good one of a port
without pair or SecY enters the Press with its port; a frame sent whole leaves its port; offloads send a host frame on to the
Press; an LRO context flushes; the management port stores a frame in its next owned slot, and sends the next one. -/
def Obligations.PortsAct : Prop :=
  (∀ (s : State) (p : Fin 16), s.dev.running = true →
     (∀ i src dst, (i, src, dst) ∈ [(Instr.linkSignalDetect p, 1, 2), (.linkTrainingDone p, 2, 3), (.linkTrainingTimeout p, 2, 1),
         (.linkAligned p, 3, 4), (.linkLockLoss p false, 4, 1), (.linkLockLoss p true, 4, 1), (.remoteFaultReceived p, 4, 5),
         (.remoteFaultCleared p, 5, 4)] →
       (s.dev.macLink p.val ≠ src → exec i s = .next s) ∧
       (s.dev.macLink p.val = src → s.dev.portPresent p.val = true → s.dev.bit (Reg.MAC_PORTp_CTRL p.val) 31 = true →
         ∃ t, exec i s = .next t ∧ t.dev.macLink p.val = dst ∧ (dst = 4 → t.dev.bit Reg.MAC_EVT_STATUS 0 = true) ∧
           (src = 4 → t.dev.bit Reg.MAC_EVT_STATUS 1 = true) ∧
           (i = .linkLockLoss p true → t.dev.bit (Reg.MAC_PORTp_STATUS p.val) 25 = true) ∧
           (i = .linkLockLoss p false → t.dev.bit (Reg.MAC_PORTp_STATUS p.val) 25 = false) ∧
           (i = .linkAligned p → t.dev.bit (Reg.MAC_PORTp_STATUS p.val) 25 = false) ∧
           (i = .remoteFaultReceived p → t.dev.bit (Reg.MAC_PORTp_STATUS p.val) 24 = true) ∧
           (i = .remoteFaultCleared p → t.dev.bit (Reg.MAC_PORTp_STATUS p.val) 24 = false))) ∧
     (s.dev.fld (Reg.MAC_PORTp_STATUS p.val) 26 2 ≠ 1 → ∀ b, exec (.verifyMpacket p b) s = .next s) ∧
     (s.dev.fld (Reg.MAC_PORTp_STATUS p.val) 26 2 = 1 →
       (∃ t, exec (.verifyMpacket p true) s = .next t ∧ t.dev.fld (Reg.MAC_PORTp_STATUS p.val) 26 2 = 2 ∧
         t.dev.bit (Reg.MAC_PORTp_STATUS p.val) 28 = true ∧ s.dev.sameRegsBut t.dev [Reg.MAC_PORTp_STATUS p.val]) ∧
       (Map.getD s.dev.mac.verifies p.val 0 < 3 → ∃ t, exec (.verifyMpacket p false) s = .next t ∧ t.dev.rf = s.dev.rf ∧
         Map.getD t.dev.mac.verifies p.val 0 = Map.getD s.dev.mac.verifies p.val 0 + 1) ∧
       (3 ≤ Map.getD s.dev.mac.verifies p.val 0 → ∃ t, exec (.verifyMpacket p false) s = .next t ∧
         t.dev.fld (Reg.MAC_PORTp_STATUS p.val) 26 2 = 3 ∧ t.dev.bit Reg.MAC_EVT_STATUS 3 = true))) ∧
  (∀ (s : State), s.dev.running = true →
     (∀ (p : Fin 16) bs fin, s.dev.macLink p.val ≠ 4 → exec (.macFrameReceive p bs fin) s = .next s) ∧
     (∀ (p : Fin 16) bs fin x, s.dev.macLink p.val = 4 → s.dev.portPresent p.val = true → bs.length ≤ 192 → s.dev.rxError p.val bs fin = some x →
       ∃ t, exec (.macFrameReceive p bs fin) s = .next t ∧ t.dev.prs.frames = s.dev.prs.frames ∧
         t.dev.reg64 (Reg.MAC_PORTp_CNT p.val (2 * x)) = (s.dev.reg64 (Reg.MAC_PORTp_CNT p.val (2 * x)) + 1) % 2 ^ 48) ∧
     (∀ (p : Fin 16) bs fin, s.dev.macLink p.val = 4 → s.dev.portPresent p.val = true → s.dev.rxError p.val bs fin = none →
       s.dev.pairAt p.val = none → s.dev.bit (Reg.CRY_SECYy_CTRL p.val) 31 = false →
       ∃ t g, exec (.macFrameReceive p bs fin) s = .next t ∧ t.dev.frame? s.dev.prs.nextFrame = some g ∧ g.bytes = bs ∧ g.place = .press ∧
         g.srcPort = p.val ∧ g.pass = 0 ∧ g.whole = decide (bs.length ≤ 192) ∧ t.dev.prs.nextFrame = s.dev.prs.nextFrame + 1) ∧
     (∀ p : Fin 16, Map.get? s.dev.mac.cur p.val = none → exec (.macTransmitEnd p) s = .next s) ∧
     (∀ (p : Fin 16) f tc g, Map.get? s.dev.mac.cur p.val = some (f, tc) → s.dev.frame? f = some g → s.dev.macLink p.val = 4 → g.whole = true →
       g.item = none → ∃ t, exec (.macTransmitEnd p) s = .next t ∧ t.dev.frame? f = none ∧ Map.get? t.dev.mac.cur p.val = none) ∧
     (∀ f g, s.dev.frame? f = some g → g.place ≠ .offload → exec (.txOffload f) s = .next s) ∧
     (∀ f g, s.dev.frame? f = some g → g.place = .offload → Word.fld (wordAt g.offload 0) 23 3 = 0 →
       exec (.txOffload f) s = .next { s with dev := s.dev.putFrame f { g with place := .press, offload := [] } }) ∧
     (∀ f g, s.dev.frame? f = some g → g.place = .offload → Word.fld (wordAt g.offload 0) 23 3 = 4 →
       (s.dev.txHeaders g).any (fun h => decide (h.2.l3type = 1) && h.2.l4.isSome) = true →
       exec (.txOffload f) s = .next { s with dev := s.dev.putFrame f { s.dev.txL3 g with place := .press, offload := [] } }) ∧
     (∀ f g, s.dev.frame? f = some g → g.place = .offload → Word.bit (wordAt g.offload 0) 23 = true → Word.fld (wordAt g.offload 1) 16 16 = 0 →
       exec (.txOffload f) s = .next { s with dev := (s.dev.count (Reg.MAC_COUNTS 1) 1).freeFrame f }) ∧
     (∀ i, s.dev.mac.lro[i]? = none → exec (.lroHoldExpiry i) s = .next s) ∧
     (∀ i c, s.dev.mac.lro[i]? = some c → c.bytes.length = c.first.bytes.length → exec (.lroHoldExpiry i) s = .next { s with dev :=
       ((({ s.dev with mac := { s.dev.mac with lro := s.dev.mac.lro.filter (fun x => !isLro c.slice c.sq c.tuple x) } } : Dev).count
         (Reg.MAC_COUNTS 2) 1).fillBuffer c.first c.item) }) ∧
     (∀ bs, exec (.mgtFrameReceive bs false) s = .next s) ∧
     (∀ bs, s.dev.bit Reg.MAC_MGT_CTRL 31 = true → 60 ≤ bs.length → bs.length ≤ 1518 →
       s.dev.bit (Reg.MAC_MGT_RXSLOT (512 * s.dev.fld Reg.MAC_MGT_RX_HEAD 0 5)) 31 = true →
       ∃ t, exec (.mgtFrameReceive bs true) s = .next t ∧
         t.dev.reg (Reg.MAC_MGT_RXSLOT (512 * s.dev.fld Reg.MAC_MGT_RX_HEAD 0 5)) = wd bs.length ∧
         t.dev.regN Reg.MAC_MGT_RX_HEAD = (s.dev.fld Reg.MAC_MGT_RX_HEAD 0 5 + 1) % 32 ∧ t.dev.bit Reg.MAC_EVT_STATUS 5 = true) ∧
     (∀ (m : Fin 16) v, exec (.mgtTxTailWrite m v) s = .next { s with dev := s.dev.setFld Reg.MAC_MGT_TX_TAIL 0 16 (Word.fld v 0 16) }) ∧
     (s.dev.mac.mgtHead = s.dev.fld Reg.MAC_MGT_TX_TAIL 0 16 → exec .mgtTxDone s = .next s) ∧
     (s.dev.mac.mgtHead ≠ s.dev.fld Reg.MAC_MGT_TX_TAIL 0 16 → s.dev.bit (Reg.MAC_MGT_TXSLOT (512 * (s.dev.mac.mgtHead % 32))) 31 = true →
       s.dev.bit Reg.MAC_MGT_CTRL 31 = true → ∃ t, exec .mgtTxDone s = .next t ∧ t.dev.mac.mgtHead = (s.dev.mac.mgtHead + 1) % 65536 ∧
         t.dev.bit (Reg.MAC_MGT_TXSLOT (512 * (s.dev.mac.mgtHead % 32))) 31 = false) ∧
     (∀ i : Fin 16384, exec (.dupNodeForget i) s = .next { s with dev := { s.dev with pbu := { s.dev.pbu with nodes := s.dev.pbu.nodes.eraseIdx i.val } } }))

/-- Sampled values. A frame whose PDU cannot be read is a format drop; one that matches no stream is counted and dropped while
the slow path is off; a good ASDU of a matched stream is stored as the sample of its second and count. Sample sets. A firing of
another reference is counted and its set skipped; one of the group's own, with a stream missing and time to wait, leaves the set
waiting for the key of now; when the wait ends the set is an overrun where it cannot be written, else its record goes to its
slot in the slice's memory. -/
def Obligations.SampledValuesAct : Prop :=
  (∀ (s : State) (f : Nat) (g : Frame), s.dev.running = true → s.dev.frame? f = some g →
     (g.place ≠ .pbu → exec (.svFrame f) s = .next s) ∧
     (g.place = .pbu → (s.dev.walk g 0).etf = 0x88BA →
       (s.dev.pbuPdu g = none → ∃ t, exec (.svFrame f) s = .next t ∧ t.dev.frame? f = none ∧ t.dev.bit Reg.PBU_EVT_STATUS 2 = true ∧
         s.dev.sameRegsBut t.dev [Reg.PBU_COUNTS 0, Reg.PBU_COUNTS 2, Reg.PBU_EVT_STATUS, Reg.PBU_EVT_INDEX]) ∧
       (∀ app pdu n a as, s.dev.pbuPdu g = some (app, pdu) → savPdu pdu = some (n, a :: as) → s.dev.svMatch g app a = none →
         s.dev.bit Reg.PBU_CTRL 31 = false → ∃ t, exec (.svFrame f) s = .next t ∧ t.dev.frame? f = none ∧
           t.dev.pbu = s.dev.pbu ∧ s.dev.sameRegsBut t.dev [Reg.PBU_COUNTS 0, Reg.PBU_COUNTS 1]) ∧
       (∀ app pdu a i, s.dev.pbuPdu g = some (app, pdu) → savPdu pdu = some (1, [a]) → s.dev.svMatch g app a = some i →
         s.dev.svAsdu i = 1 → a.data.length = 8 * s.dev.svChannels i → a.cnt < s.dev.svRate i → s.dev.reg (Reg.PBU_SV i 4) = 0 →
         s.dev.svRefs i = [] → s.dev.pbu.groups = [] → (s.dev.rows i).length < 32 →
         s.dev.rowOf i (sampleSecond (s.dev.svRate i) a.cnt g.stamp) a.cnt = none →
         ∃ t, exec (.svFrame f) s = .next t ∧ t.dev.frame? f = none ∧ s.dev.sameRegsBut t.dev [Reg.PBU_COUNTS 0] ∧
           t.dev.rowOf i (sampleSecond (s.dev.svRate i) a.cnt g.stamp) a.cnt = some
             { second := sampleSecond (s.dev.svRate i) a.cnt g.stamp, cnt := a.cnt,
               vals := (List.range (a.data.length / 4)).map (fun j => wd (beAt a.data (4 * j) 4)), unsync := decide (a.synch = 0),
               confrev := false, injected := false, lanB := s.dev.onPortB g, arrival := s.dev.arrival g }))) ∧
  (∀ (s : State) (g : Fin 256), s.dev.running = true →
     (∀ x fs, s.dev.gau.firings = x :: fs → x.action = 2 → x.target = g.val → s.dev.grpValid g.val = true →
       (x.ref ≠ s.dev.fld (Reg.PBU_GRP g.val 0) 29 2 → ∃ t, exec (.sampleSetClose g) s = .next t ∧ t.dev.gau.firings = fs ∧
         t.dev.pbu = s.dev.pbu ∧ t.dev.bit Reg.PBU_EVT_STATUS 8 = true ∧ t.dev.reg Reg.PBU_EVT_INDEX = wd g.val ∧
         s.dev.sameRegsBut t.dev [Reg.PBU_COUNTS 13, Reg.PBU_EVT_STATUS, Reg.PBU_EVT_INDEX]) ∧
       (∀ sec cnt w, x.ref = s.dev.fld (Reg.PBU_GRP g.val 0) 29 2 → (s.dev.aligner g.val).waiting = none →
         keyAt (s.dev.svRate ((s.dev.grpStreams g.val).headD 0)) s.dev.time = (sec, cnt) →
         w = ⟨s.dev.time, x.cycle, x.quality, x.stepped, x.late, decide ((s.dev.aligner g.val).prev = some (sec, cnt)), sec, cnt,
           ((s.dev.aligner g.val).seq + 1) % 65536⟩ → s.dev.setMissing g.val w ≠ 0 → s.dev.fld (Reg.PBU_GRP g.val 1) 16 14 ≠ 0 →
         ∃ t, exec (.sampleSetClose g) s = .next t ∧ t.dev.gau.firings = fs ∧ (t.dev.aligner g.val).waiting = some w ∧
           (t.dev.aligner g.val).seq = w.seq ∧ (t.dev.aligner g.val).prev = some (sec, cnt) ∧ t.dev.rf = s.dev.rf)) ∧
     ((s.dev.aligner g.val).waiting = none → exec (.sampleSetWaitExpiry g) s = .next s) ∧
     (∀ w, (s.dev.aligner g.val).waiting = some w →
       (s.dev.setBlocked g.val = true → ∃ t, exec (.sampleSetWaitExpiry g) s = .next t ∧
         t.dev.aligner g.val = { s.dev.aligner g.val with waiting := none, lost := (s.dev.aligner g.val).lost + 1,
                                                          overruns := (s.dev.aligner g.val).overruns + 1 } ∧
         t.dev.bit Reg.PBU_EVT_STATUS 0 = true ∧
         s.dev.sameRegsBut t.dev [Reg.PBU_COUNTS 12, Reg.PBU_EVT_STATUS, Reg.PBU_EVT_INDEX]) ∧
       (s.dev.setBlocked g.val = false → s.dev.fld (Reg.PBU_GRP g.val 4) 0 17 ≠ 0 →
         ∃ t, exec (.sampleSetWaitExpiry g) s = .next t ∧ (t.dev.aligner g.val).waiting = none ∧ (t.dev.aligner g.val).lost = 0 ∧
           (t.dev.aligner g.val).delivered = (s.dev.aligner g.val).delivered + 1 ∧
           Emission.hostWrite (s.dev.home (s.dev.grpSlice g.val)) (some (s.dev.pasid (s.dev.grpSlice g.val)))
             (cat64 (s.dev.reg (Reg.PBU_GRP g.val 2)) (s.dev.reg (Reg.PBU_GRP g.val 3)) +
               w.seq % s.dev.fld (Reg.PBU_GRP g.val 4) 0 17 * s.dev.slotBytes g.val) (s.dev.setRecord g.val w false) ∈ t.dev.out)))

/-- GOOSE messages received and published. A message that cannot be read or that no subscription names is counted and dropped;
an accepted one makes its subscription ALIVE with its numbers until its deadline, after which it is STALE; a publication repeats
its state with the next sqNum when an angle event, a fast retransmission or its heartbeat is due. Entry accesses of the process
bus. An index out of range is ERR 1, a chunk beyond the entry ERR 2, and neither does anything more; a read shows the words of
the chunk, active or staged; a write stages those that are not the device's own. The process-bus opcodes. A subscription or
publication of a slice takes a unit of its pool, NO_RESOURCE without one, stages its entry and strobes its group, a strobe
refused BAD_PARAM taking none; a stream in use is not unsubscribed; clearing an entry stages its words with VALID 0; a group is
staged under its slice; the status is the counters of the entry named. -/
def Obligations.GooseAndProcessBusRowsAct : Prop :=
  (∀ s : State, s.dev.running = true →
     (∀ f g, s.dev.frame? f = some g → g.place = .pbu → (s.dev.walk g 0).etf = 0x88B8 →
       (s.dev.pbuPdu g = none → ∃ t, exec (.gooseFrame f) s = .next t ∧ t.dev.frame? f = none ∧ t.dev.pbu = s.dev.pbu ∧
         s.dev.sameRegsBut t.dev [Reg.PBU_COUNTS 14, Reg.PBU_COUNTS 15]) ∧
       (∀ app pdu o, s.dev.pbuPdu g = some (app, pdu) → goosePdu pdu = some o →
         (s.dev.subLive.find? (fun i => decide (s.dev.subKey i = (g.bytes.take 6, app, o.ref))) = none →
           s.dev.bit Reg.PBU_CTRL 30 = false → ∃ t, exec (.gooseFrame f) s = .next t ∧ t.dev.frame? f = none ∧
             t.dev.pbu = s.dev.pbu ∧ s.dev.sameRegsBut t.dev [Reg.PBU_COUNTS 14, Reg.PBU_COUNTS 16]) ∧
         (∀ i, s.dev.subLive.find? (fun i => decide (s.dev.subKey i = (g.bytes.take 6, app, o.ref))) = some i →
           (s.dev.reg (Reg.PBU_SUB i 8)).toNat = o.rev → o.sim = false → s.dev.fld (Reg.PBU_SUB i 0) 26 3 = 0 →
           (s.dev.gsub i).state = 1 → (s.dev.gsub i).st ≠ o.st →
           ∃ t, exec (.gooseFrame f) s = .next t ∧ t.dev.frame? f = none ∧
             t.dev.gsub i = ⟨1, o.st, o.sq, (s.dev.gsub i).changes + 1, s.dev.now + o.live * 500000⟩ ∧
             s.dev.sameRegsBut t.dev [Reg.PBU_COUNTS 14, Reg.PBU_COUNTS 18]))) ∧
     (∀ i : Fin 4096,
       ((s.dev.gsub i.val).state ≠ 1 → exec (.gooseStale i) s = .next s) ∧
       ((s.dev.gsub i.val).state = 1 → ∃ t, exec (.gooseStale i) s = .next t ∧
         t.dev.gsub i.val = { s.dev.gsub i.val with state := 2 } ∧ t.dev.bit Reg.PBU_EVT_STATUS 3 = true ∧
         s.dev.sameRegsBut t.dev [Reg.PBU_EVT_STATUS, Reg.PBU_EVT_INDEX,
           thrReg Reg.FPC_THR_EVENTS (s.dev.fld (Reg.PBU_SUB i.val 5) 0 9)])) ∧
     (∀ i : Fin 256, (s.dev.pubValid i.val = false ∨ (s.dev.gpub i.val).data = []) →
       (∀ x fs, s.dev.gau.firings = x :: fs → x.action = 3 → x.target = i.val →
         exec (.gooseEvent i) s = .next { s with dev := { s.dev with gau := { s.dev.gau with firings := fs } } }) ∧
       exec (.gooseHeartbeat i) s = .next s) ∧
     (∀ (i : Fin 256) bs sq, s.dev.pubValid i.val = true → (s.dev.gpub i.val).data ≠ [] →
       sq = (if (s.dev.gpub i.val).sq = 0xFFFFFFFF then 1 else (s.dev.gpub i.val).sq + 1) →
       (s.dev.setGpub i.val (fun p => { p with sq := sq })).pubFrame i.val = some bs →
       (∀ x fs, s.dev.gau.firings = x :: fs → x.action = 3 → x.target = i.val → ∃ t f, exec (.gooseEvent i) s = .next t ∧
         t.dev.gau.firings = fs ∧ (t.dev.gpub i.val).sq = sq ∧ (t.dev.gpub i.val).sent = (s.dev.gpub i.val).sent + 1 ∧
         t.dev.frame? s.dev.prs.nextFrame = some f ∧ f.bytes = bs ∧ f.place = .toNode (s.dev.pubPort i.val) ∧
         s.dev.sameRegsBut t.dev [Reg.PBU_COUNTS 21, Reg.PBU_PUB i.val 5, Reg.PBU_PUB i.val 6]) ∧
       (s.dev.fld (Reg.PBU_PUB i.val 3) 0 16 ≠ 0 → ∃ t f, exec (.gooseHeartbeat i) s = .next t ∧ (t.dev.gpub i.val).sq = sq ∧
         t.dev.frame? s.dev.prs.nextFrame = some f ∧ f.bytes = bs ∧ t.dev.reg (Reg.PBU_PUB i.val 6) = wd sq ∧
         s.dev.sameRegsBut t.dev [Reg.PBU_COUNTS 21, Reg.PBU_PUB i.val 5, Reg.PBU_PUB i.val 6]) ∧
       ((s.dev.gpub i.val).fast < s.dev.fld (Reg.PBU_PUB i.val 2) 0 4 → ∃ t f, exec (.gooseFastRetransmit i) s = .next t ∧
         (t.dev.gpub i.val).sq = sq ∧ (t.dev.gpub i.val).fast = (s.dev.gpub i.val).fast + 1 ∧
         t.dev.frame? s.dev.prs.nextFrame = some f ∧ f.bytes = bs)) ∧
     (∀ i : Fin 256, s.dev.fld (Reg.PBU_PUB i.val 2) 0 4 ≤ (s.dev.gpub i.val).fast → exec (.gooseFastRetransmit i) s = .next s) ∧
     (∃ t, exec .pbuLockstepFault s = .next t ∧ t.dev.reloading = true ∧ t.dev.reg Reg.FLT_SEQ = s.dev.reg Reg.FLT_SEQ + 1 ∧
       t.dev.bit Reg.FLT_EVT_STATUS 0 = true)) ∧
  (∀ (s : State) (v : Word) (m : Fin 16) (tb : Nat), s.dev.running = true → Word.fld v 24 2 = tb →
     (s.dev.entErr tb ≠ 0 →
       exec (.pbuEntReadActive v) s = .next { s with dev := s.dev.entCmd tb 1 (s.dev.entErr tb) } ∧
       exec (.pbuEntReadStaged v) s = .next { s with dev := s.dev.entCmd tb 2 (s.dev.entErr tb) } ∧
       exec (.pbuEntWriteStaged m v) s = .next { s with dev := s.dev.entCmd tb 3 (s.dev.entErr tb) }) ∧
     (s.dev.entErr tb = 0 →
       (∃ t, exec (.pbuEntReadActive v) s = .next t ∧ t.dev.regN Reg.PBU_ENT_CMD = tb * 2 ^ 24 + 1 ∧
         (∀ j ∈ s.dev.entWords tb, t.dev.reg (Reg.PBU_ENT_DATA (j - 64 * s.dev.fld Reg.PBU_ENT_INDEX 12 3)) =
           if tb = 1 ∧ j = 5 then wd (s.dev.slotBytes (s.dev.fld Reg.PBU_ENT_INDEX 0 12)) else s.dev.reg (s.dev.entKey tb j)) ∧
         s.dev.sameRegsBut t.dev (Reg.PBU_ENT_CMD :: (List.range 64).map Reg.PBU_ENT_DATA)) ∧
       (∃ t, exec (.pbuEntReadStaged v) s = .next t ∧ t.dev.regN Reg.PBU_ENT_CMD = tb * 2 ^ 24 + 2 ∧
         (∀ j ∈ s.dev.entWords tb, t.dev.reg (Reg.PBU_ENT_DATA (j - 64 * s.dev.fld Reg.PBU_ENT_INDEX 12 3)) =
           if tb = 1 ∧ j = 5 then wd (s.dev.slotBytes (s.dev.fld Reg.PBU_ENT_INDEX 0 12)) else s.dev.staged (s.dev.entKey tb j)) ∧
         s.dev.sameRegsBut t.dev (Reg.PBU_ENT_CMD :: (List.range 64).map Reg.PBU_ENT_DATA)) ∧
       (s.dev.bit Reg.GLB_DIRECT (if tb = 3 then 18 else 17) = false →
         ∃ t, exec (.pbuEntWriteStaged m v) s = .next t ∧ t.dev.regN Reg.PBU_ENT_CMD = tb * 2 ^ 24 + 3 ∧
           (∀ j ∈ s.dev.entWords tb, pbuReadOnly tb j = false →
             t.dev.staged (s.dev.entKey tb j) = s.dev.reg (Reg.PBU_ENT_DATA (j - 64 * s.dev.fld Reg.PBU_ENT_INDEX 12 3))) ∧
           s.dev.sameRegsBut t.dev [Reg.PBU_ENT_CMD]))) ∧
  (∀ (s : State) (m : Fin 16) (tag : Fin 4096) (gen : Fin 16) (c : Cmd) (t : Dev) (r : Res) (i : Nat),
     s.dev.running = true → c.entIndex = i →
     (∀ sl, c.slice? = some sl → Word.bit (c.p 1) 31 = true →
       (s.dev.started m.val tag.val gen.val 0x0800 c → Map.get? s.dev.pbu.units i = none →
         (s.dev.poolRoom sl 7 1 = false →
           exec (.svSubscribe m tag gen) s = .next { s with dev := s.dev.finish m.val tag.val gen.val (Res.st stNoResource) }) ∧
         (s.dev.poolRoom sl 7 1 = true → s.dev.stageStrobe c (2 ^ 17) ((List.range 48).map (fun j =>
             (Reg.PBU_SV i j, wordAt ((c.params.drop 1).set 5 c.ownWord) j))) (Res.ok []) = (t, some r) →
           exec (.svSubscribe m tag gen) s = .next { s with dev :=
             (if r.status = stBadParam then t else t.setUnit 0 i (some sl)).finish m.val tag.val gen.val r })) ∧
       (s.dev.started m.val tag.val gen.val 0x0802 c → Map.get? s.dev.pbu.units (8192 + i) = none →
         (s.dev.poolRoom sl 8 1 = false →
           exec (.gooseSubscribe m tag gen) s = .next { s with dev := s.dev.finish m.val tag.val gen.val (Res.st stNoResource) }) ∧
         (s.dev.poolRoom sl 8 1 = true → s.dev.stageStrobe c (2 ^ 17) ((List.range 48).map (fun j =>
             (Reg.PBU_SUB i j, wordAt ((c.params.drop 1).set 3 c.ownWord) j))) (Res.ok []) = (t, some r) →
           exec (.gooseSubscribe m tag gen) s = .next { s with dev :=
             (if r.status = stBadParam then t else t.setUnit 2 i (some sl)).finish m.val tag.val gen.val r })) ∧
       (s.dev.started m.val tag.val gen.val 0x0804 c → Map.get? s.dev.pbu.units (12288 + i) = none →
         (s.dev.poolRoom sl 9 1 = false →
           exec (.goosePublishSet m tag gen) s = .next { s with dev := s.dev.finish m.val tag.val gen.val (Res.st stNoResource) }) ∧
         (s.dev.poolRoom sl 9 1 = true → s.dev.stageStrobe c (2 ^ 18) (((List.range 512).filter (fun j => !pbuReadOnly 3 j)).map
             (fun j => (Reg.PBU_PUB i j, wordAt (((c.params.drop 1).set 0 (Word.setFld (c.p 1) 0 13 sl)).set 1
               (Word.setFld (c.p 2) 24 8 (c.pf 0 0 8))) j))) (Res.ok []) = (t, some r) →
           exec (.goosePublishSet m tag gen) s = .next { s with dev :=
             (if r.status = stBadParam then t else t.setUnit 3 i (some sl)).finish m.val tag.val gen.val r })) ∧
       (s.dev.started m.val tag.val gen.val 0x0805 c →
         s.dev.stageStrobe c (2 ^ 17) (((List.range 64).filter (fun j => !pbuReadOnly 1 j)).map (fun j => (Reg.PBU_GRP i j,
           wordAt ((c.params.drop 1).set 0 (Word.setFld (Word.setFld (c.p 1) 0 13 sl) 16 8 (c.pf 0 0 8))) j))) (Res.ok []) = (t, some r) →
         exec (.alignerGroupSet m tag gen) s = .next { s with dev := t.finish m.val tag.val gen.val r })) ∧
     (s.dev.started m.val tag.val gen.val 0x0801 c → s.dev.streamNamed i = true →
       exec (.svUnsubscribe m tag gen) s = .next { s with dev := s.dev.finish m.val tag.val gen.val (Res.st stBadParam) }) ∧
     (s.dev.started m.val tag.val gen.val 0x0801 c → s.dev.streamNamed i = false → Map.get? s.dev.pbu.units i = none →
       s.dev.stageStrobe c (2 ^ 17) ((List.range 48).map (fun j => (Reg.PBU_SV i j,
         if j = 0 then Word.setBit (s.dev.staged (Reg.PBU_SV i 0)) 31 false else s.dev.staged (Reg.PBU_SV i j)))) (Res.ok []) = (t, some r) →
       exec (.svUnsubscribe m tag gen) s = .next { s with dev := t.finish m.val tag.val gen.val r }) ∧
     (s.dev.started m.val tag.val gen.val 0x0803 c → Map.get? s.dev.pbu.units (8192 + i) = none →
       s.dev.stageStrobe c (2 ^ 17) ((List.range 48).map (fun j => (Reg.PBU_SUB i j,
         if j = 0 then Word.setBit (s.dev.staged (Reg.PBU_SUB i 0)) 31 false else s.dev.staged (Reg.PBU_SUB i j)))) (Res.ok []) = (t, some r) →
       exec (.gooseUnsubscribe m tag gen) s = .next { s with dev := t.finish m.val tag.val gen.val r }) ∧
     (s.dev.started m.val tag.val gen.val 0x0807 c →
       exec (.pbuStatus m tag gen) s = .next { s with dev := (s.dev.finish m.val tag.val gen.val
         (Res.ok (s.dev.pbuStatus (c.pf 0 30 2) (c.pf 0 0 12)))) }))

/-- Trellis links and HELLOs. Each link event moves the link from the one state it belongs to, and acts in no other. A HELLO is
sent over a link in HELLO or UP or through a member's tunnel, starting a path that is DOWN; a HELLO received brings the link UP,
is a conflict where it carries the own ID, is counted where it is foreign, and brings a starting path UP where it echoes the own
EPOCH. Paths. A dead path goes DOWN and loses what it had not delivered; a retransmission counts, or gives the path up after
eight; an in-order frame of an UP path delivers its messages and advances the expected SEQ, another delivers none, one of
another EPOCH is counted. -/
def Obligations.TrellisLinksAndPathsAct : Prop :=
  (∀ s : State, s.dev.running = true →
     (∀ (p : Fin 4) i src dst, (i, src, dst) ∈ [(Instr.trlLinkSignalDetect p, 1, 2), (.trlLinkTrainingDone p, 2, 3),
         (.trlLinkTrainingTimeout p, 2, 1), (.trlLinkAligned p, 3, 4), (.trlLinkLockLoss p, 5, 1)] →
       (s.dev.trlLink p.val ≠ src → exec i s = .next s) ∧
       (s.dev.trlLink p.val = src → ∃ u, exec i s = .next u ∧ u.dev.trlLink p.val = dst ∧
         (src = 5 → u.dev.bit Reg.TRL_EVT_STATUS 0 = true ∧ u.dev.fld (Reg.TRL_PORTt_STATUS p.val) 16 9 = 0) ∧
         (src ≠ 5 → s.dev.sameRegsBut u.dev ((List.range 4).map Reg.TRL_PORTt_STATUS)))) ∧
     (∀ (p : Fin 4) (id : Nat), s.dev.fld (Reg.TRL_PORTt_STATUS p.val) 16 9 = id →
       (s.dev.trlLink p.val ≠ 4 → s.dev.trlLink p.val ≠ 5 → exec (.helloSend (.link p)) s = .next s) ∧
       (s.dev.trlLink p.val = 4 → ∃ u f dst, exec (.helloSend (.link p)) s = .next u ∧
         u.dev.frame? s.dev.prs.nextFrame = some f ∧ f.place = .trlPort p.val ∧ s.dev.sameRegsBut u.dev [] ∧
         f.bytes = ethWepomer (s.dev.macOf Reg.TRL_MAC_LO) (s.dev.macOf Reg.TRL_MAC_LO) none
           (s.dev.wepomer dst true 0 (s.dev.helloMessage ⟨0, 0, 0, 0, [], [], 0⟩))) ∧
       (s.dev.trlLink p.val = 5 → s.dev.pathState id ≠ 1 → ∃ u f, exec (.helloSend (.link p)) s = .next u ∧
         u.dev.frame? s.dev.prs.nextFrame = some f ∧ f.place = .trlPort p.val ∧ s.dev.sameRegsBut u.dev [] ∧
         f.bytes = ethWepomer (s.dev.macOf Reg.TRL_MAC_LO) (s.dev.macOf Reg.TRL_MAC_LO) none
           (s.dev.wepomer id true 0 (s.dev.helloMessage (s.dev.path id)))) ∧
       (s.dev.trlLink p.val = 5 → s.dev.pathState id = 1 → s.dev.tunnelOf id = none → (s.dev.path id).epoch < 65536 →
         ∃ u, exec (.helloSend (.link p)) s = .next u ∧ u.dev.pathState id = 2 ∧
           (u.dev.path id).epoch = if (s.dev.path id).epoch = 65535 then 1 else (s.dev.path id).epoch + 1)) ∧
     (∀ (id : Fin 512), s.dev.tunnelOf id.val = none → exec (.helloSend (.tunnel id)) s = .next s) ∧
     (∀ (p : Fin 4) (h : HelloBody),
       (s.dev.trlLink p.val ≠ 4 → s.dev.trlLink p.val ≠ 5 → exec (.hello (.link p) h) s = .next s) ∧
       (s.dev.trlLink p.val = 4 → h.id.val = s.dev.selfId → ∃ u, exec (.hello (.link p) h) s = .next u ∧
         u.dev.trlLink p.val = 6 ∧ u.dev.bit Reg.TRL_EVT_STATUS 7 = true ∧ u.dev.trl = s.dev.trl) ∧
       (s.dev.trlLink p.val = 4 → h.id.val ≠ s.dev.selfId → h.domain.val ≠ s.dev.fld Reg.TRL_DOMAIN 0 16 →
         ∃ u, exec (.hello (.link p) h) s = .next u ∧ u.dev.trlLink p.val = 5 ∧
           u.dev.fld (Reg.TRL_PORTt_STATUS p.val) 16 9 = h.id.val ∧ u.dev.bit Reg.TRL_EVT_STATUS 6 = true ∧ u.dev.trl = s.dev.trl)) ∧
     (∀ (id : Fin 512) (h : HelloBody) (via : Fin 512), h.id = id →
       (h.domain.val ≠ s.dev.fld Reg.TRL_DOMAIN 0 16 → ∃ u, exec (.hello (.tunnel via) h) s = .next u ∧ u.dev.trl = s.dev.trl ∧
         u.dev.bit Reg.TRL_EVT_STATUS 6 = true ∧
         s.dev.sameRegsBut u.dev [Reg.TRL_COUNTS 8, Reg.TRL_EVT_STATUS, Reg.TRL_EVT_INDEX]) ∧
       (h.domain.val = s.dev.fld Reg.TRL_DOMAIN 0 16 → (s.dev.tunnelOf id.val).isSome = true → id.val ≠ s.dev.selfId →
         Map.get? s.dev.trl.instances id.val = some h.inst → s.dev.pathState id.val = 2 → h.yourEpoch.val = (s.dev.path id.val).epoch →
         s.dev.bit Reg.FWD_CTRL 29 = false → ∃ u, exec (.hello (.tunnel via) h) s = .next u ∧ u.dev.reachable id.val = true ∧
           (u.dev.path id.val).peerEpoch = h.myEpoch.val ∧ u.dev.bit Reg.TRL_EVT_STATUS 4 = true))) ∧
  (∀ s : State, s.dev.running = true →
     (∀ id : Fin 512,
       (s.dev.pathState id.val < 2 → exec (.pathDead id) s = .next s) ∧
       (2 ≤ s.dev.pathState id.val → (s.dev.path id.val).epoch < 65536 → ∃ u, exec (.pathDead id) s = .next u ∧
         u.dev.pathState id.val = 1 ∧ (u.dev.path id.val).unacked = [] ∧ (u.dev.path id.val).backlog = [] ∧
         u.dev.trl.reqs = s.dev.trl.reqs.filter (fun r => decide (r.2.dev ≠ id.val)) ∧
         (s.dev.reachable id.val = true → u.dev.bit Reg.TRL_EVT_STATUS 3 = true)) ∧
       ((s.dev.reachable id.val = false ∨ (s.dev.path id.val).unacked = []) → exec (.trellisRetransmit id) s = .next s) ∧
       (s.dev.reachable id.val = true → (s.dev.path id.val).unacked ≠ [] →
         ((s.dev.path id.val).resends < 8 → ∃ u, exec (.trellisRetransmit id) s = .next u ∧
           (u.dev.path id.val) = { s.dev.path id.val with resends := (s.dev.path id.val).resends + 1 } ∧
           s.dev.sameRegsBut u.dev [Reg.TRL_COUNTS 6]) ∧
         (8 ≤ (s.dev.path id.val).resends → (s.dev.path id.val).epoch < 65536 → ∃ u, exec (.trellisRetransmit id) s = .next u ∧
           u.dev.pathState id.val = 1 ∧ (u.dev.path id.val).unacked = []))) ∧
     (∀ (p : Fin 4) (bytes : List Byte), s.dev.trlLink p.val ≠ 4 → s.dev.trlLink p.val ≠ 5 →
       exec (.wepomerFrame (.mesh p bytes)) s = .next s) ∧
     (∀ f, (s.dev.frame? f = none ∨ ∃ g, s.dev.frame? f = some g ∧ g.place ≠ .trl) → exec (.wepomerFrame (.frame f)) s = .next s) ∧
     (∀ (p : Fin 4) (bytes w : List Byte) (src : Nat), s.dev.trlLink p.val = 5 → s.dev.secyReceive (16 + p.val) bytes = none →
       wepomerOf bytes = some w → beAt w 6 2 % 512 = src → byteAt w 0 = 1 → (byteAt w 1).testBit 7 = false →
       beAt w 2 2 = s.dev.fld Reg.TRL_DOMAIN 0 16 → beAt w 4 2 % 512 = s.dev.selfId → s.dev.reachable src = true →
       s.dev.tunnelOf src = none →
       (beAt w 8 2 ≠ (s.dev.path src).peerEpoch →
         exec (.wepomerFrame (.mesh p bytes)) s = .next { s with dev := s.dev.trlCount 10 }) ∧
       (beAt w 8 2 = (s.dev.path src).peerEpoch → (s.dev.path src).unacked = [] →
         (beAt w 10 2 = (s.dev.path src).recvSeq → ∃ u, exec (.wepomerFrame (.mesh p bytes)) s = .next u ∧ u.dev.rf = s.dev.rf ∧
           (u.dev.path src).recvSeq = ((s.dev.path src).recvSeq + 1) % 65536 ∧
           u.dev.trl.inbox = s.dev.trl.inbox ++ ((wepomerMessages w.length ((w.drop 16).take (beAt w 14 2))).filter
             (fun m => trlTypes.contains m.1)).map (fun m => ⟨src, m.1, m.2, s.dev.trlPipe p.val, s.dev.time⟩)) ∧
         (beAt w 10 2 ≠ (s.dev.path src).recvSeq → ∃ u, exec (.wepomerFrame (.mesh p bytes)) s = .next u ∧ u.dev.rf = s.dev.rf ∧
           u.dev.trl = s.dev.trl))))

/-- Messages of a member. Each acts on the oldest message of its TYPE, on none where none waits: learning in sequence, the sync
walk's marks, accesses to the peer windows with their refusals and answers, angles, frames, packets, replies and mailbox words.
-/
def Obligations.MessagesOfMembers : Prop :=
  ∀ (s : State) (g : TrlMsg) (t : Dev), s.dev.running = true →
    (∀ i k, (i, k) ∈ [(Instr.learn, 0x10), (.syncBegin, 0x11), (.syncEnd, 0x12), (.peerWrite, 0x30), (.peerRead none, 0x31),
        (.peerResp, 0x32), (.angle, 0x40), (.cmd, 0x60), (.reply, 0x61), (.mbxIn, 0x62), (.mbxOut, 0x63), (.frame, 0x70),
        (.send, 0x71)] → s.dev.takeMsg k = none → exec i s = .next s) ∧
    (∀ o seq, s.dev.takeMsg 0x10 = some (g, t) → Word.fld (wordAt (wordsOf 8 g.body) 0) 16 9 = o → wordAt (wordsOf 8 g.body) 3 = seq →
      (o ≠ g.src → exec .learn s = .next { s with dev := t.trlCount 3 }) ∧
      (o = g.src → Map.get? s.dev.trl.lastSeq o = none → s.dev.fwd.learn.length < 4096 → ∃ u, exec .learn s = .next u ∧
        u.dev.fwd.learn = s.dev.fwd.learn ++ [⟨wordsOf 8 g.body, true⟩] ∧ Map.get? u.dev.trl.lastSeq o = some seq) ∧
      (∀ l, o = g.src → Map.get? s.dev.trl.lastSeq o = some l → (seq - l).toInt ≤ 0 → ∃ u, exec .learn s = .next u ∧
        u.dev.fwd = s.dev.fwd ∧ u.dev.trl = t.trl ∧ u.dev.bit Reg.TRL_EVT_STATUS 5 = true)) ∧
    (s.dev.takeMsg 0x11 = some (g, t) →
      exec .syncBegin s = .next { s with dev := { t with trl := { t.trl with syncStart := Map.put t.trl.syncStart g.src (g.w 0) } } }) ∧
    (s.dev.takeMsg 0x12 = some (g, t) → ∃ u, exec .syncEnd s = .next u ∧ Map.get? u.dev.trl.syncStart g.src = none ∧
      ∀ i ws, Map.get? s.dev.fwd.l2 i = some ws → Word.bit (wordAt ws 0) 27 = true → Word.fld (wordAt ws 6) 0 9 = g.src →
        (wordAt ws 7 - g.w 0).toInt < 0 → u.dev.htEntry .l2 i = none) ∧
    (∀ w off len, w = g.f 0 0 4 → off = (g.w 1).toNat → len = g.f 2 0 16 →
      (s.dev.takeMsg 0x30 = some (g, t) →
        (∀ st, t.windowRefusal w g.src off len true = st → st ≠ 0 → ∃ u, exec .peerWrite s = .next u ∧ u.dev.dma = s.dev.dma ∧
          u.dev.bit Reg.TRL_EVT_STATUS 1 = true ∧ u.dev.trl = (t.peerResp g st []).trl) ∧
        (t.windowRefusal w g.src off len true = 0 → t.bit (Reg.TRL_WINw_CTRL w) 29 = false → exec .peerWrite s = .next { s with dev :=
          ((t.setHbmBytes (t.reg64 (Reg.TRL_WINw_BASE_LO w) + off) ((g.body.drop 12).take len)).peerResp g 0 []) }) ∧
        (∀ sl, t.windowRefusal w g.src off len true = 0 → t.bit (Reg.TRL_WINw_CTRL w) 29 = true →
          t.fld (Reg.TRL_WINw_OWNER w) 0 13 = sl → t.canIssue (t.home sl) = true → exec .peerWrite s = .next { s with dev :=
          ((t.sliceBytes sl (t.reg64 (Reg.TRL_WINw_BASE_LO w) + off) ((g.body.drop 12).take len)).peerResp g 0 []) })) ∧
      (s.dev.takeMsg 0x31 = some (g, t) →
        (∀ st host, t.windowRefusal w g.src off len false = st → st ≠ 0 → ∃ u, exec (.peerRead host) s = .next u ∧
          u.dev.bit Reg.TRL_EVT_STATUS 1 = true ∧ u.dev.trl = (t.peerResp g st []).trl) ∧
        (∀ host, t.windowRefusal w g.src off len false = 0 → t.bit (Reg.TRL_WINw_CTRL w) 29 = false →
          exec (.peerRead host) s = .next { s with dev :=
            (t.peerResp g 0 (t.hbmBytes (t.reg64 (Reg.TRL_WINw_BASE_LO w) + off) len)) }) ∧
        (∀ sl f tag bs, t.windowRefusal w g.src off len false = 0 → t.bit (Reg.TRL_WINw_CTRL w) 29 = true →
          t.fld (Reg.TRL_WINw_OWNER w) 0 13 = sl → t.home sl = f → t.canIssue f = true → t.freeTag (t.linkOf f) = some tag →
          bs.length = len → exec (.peerRead (some bs)) s = .next { s with dev :=
            ((t.request f (.hostRead f tag (t.reg64 (Reg.TRL_WINw_BASE_LO w) + off) len)).peerResp g 0 bs) }))) ∧
    (s.dev.takeMsg 0x32 = some (g, t) →
      (t.trl.reqs.find? (fun e => decide (e.1 % 65536 = g.f 0 16 16 ∧ e.2.dev = g.src)) = none →
        exec .peerResp s = .next { s with dev := t }) ∧
      (∀ k q, t.trl.reqs.find? (fun e => decide (e.1 % 65536 = g.f 0 16 16 ∧ e.2.dev = g.src)) = some (k, q) →
        g.f 0 0 8 ≠ 0 → exec .peerResp s = .next { s with dev :=
          (({ t with trl := { t.trl with reqs := Map.del t.trl.reqs k } } : Dev).answerReq q.thread k (0x10 + g.f 0 0 8) []) })) ∧
    (s.dev.takeMsg 0x40 = some (g, t) →
      (s.dev.bit Reg.TRL_ANGLE_CTRL 30 = false → exec .angle s = .next { s with dev := t }) ∧
      (s.dev.bit Reg.TRL_ANGLE_CTRL 30 = true → s.dev.gsyncOn = true → g.src = s.dev.fld Reg.TRL_ANGLE_CTRL 16 9 →
        exec .angle s = .next { s with dev :=
          (gsyncTake (s.dev.time - cat64 (g.w 1) (g.w 0)) ((g.body.drop 8).take 54) false t) })) ∧
    (s.dev.takeMsg 0x60 = some (g, t) →
      exec .cmd s = .next { s with dev := t.putPacket 7 g.src (wordsOf (g.body.length / 4) g.body) }) ∧
    (∀ m tag gen c, s.dev.takeMsg 0x61 = some (g, t) → t.trl.peerCmds = [(g.src, m, tag, gen)] → t.cmd? m tag gen = some c →
      c.p 2 = wordAt (wordsOf (g.body.length / 4) g.body) 1 → ∃ u, exec .reply s = .next u ∧ u.dev.trl.peerCmds = [] ∧
        u.dev.cmd = (t.finish m tag gen (Res.ok (wordsOf (g.body.length / 4) g.body))).cmd) ∧
    (s.dev.takeMsg 0x62 = some (g, t) →
      (s.dev.bit (Reg.MBX_STATEm 7) 0 = false → ∃ u, exec .mbxIn s = .next u ∧ u.dev.reg (Reg.MBX_INm 7) = g.w 0 ∧
        u.dev.bit (Reg.MBX_STATEm 7) 0 = true ∧ s.dev.sameRegsBut u.dev [Reg.MBX_INm 7, Reg.MBX_STATEm 7]) ∧
      (s.dev.bit (Reg.MBX_STATEm 7) 0 = true → ∃ u, exec .mbxIn s = .next u ∧ u.dev.bit (Reg.MBX_EVTm 7) 3 = true ∧
        s.dev.sameRegsBut u.dev [Reg.MBX_EVTm 7])) ∧
    (s.dev.takeMsg 0x63 = some (g, t) → ∃ u, exec .mbxOut s = .next u ∧ u.dev.reg Reg.TRL_MBX_RX = g.w 0 ∧
      u.dev.reg Reg.TRL_MBX_SRC = wd g.src ∧ u.dev.bit Reg.TRL_EVT_STATUS 8 = true ∧
      s.dev.sameRegsBut u.dev [Reg.TRL_MBX_RX, Reg.TRL_MBX_SRC, Reg.TRL_EVT_STATUS, Reg.TRL_EVT_INDEX]) ∧
    (s.dev.takeMsg 0x70 = some (g, t) → ∃ u f, exec .frame s = .next u ∧ u.dev.frame? s.dev.prs.nextFrame = some f ∧
      f.bytes = (g.body.drop 16).take (g.f 1 0 14) ∧ f.vint = some (g.f 0 16 16) ∧ f.cls = g.f 1 30 2 ∧ u.dev.rf = s.dev.rf ∧
      (g.f 0 0 16 = 0xFFFF → f.place = .press) ∧ (g.f 0 0 16 ≠ 0xFFFF → f.place = .toNode (g.f 0 0 16))) ∧
    (∀ n, s.dev.takeMsg 0x71 = some (g, t) → n = Nat.min 60 (Word.fld (wordAt (wordsOf 61 g.body) 0) 16 8) →
      exec .send s = .next { s with dev := (t.sendMessage (Word.fld (wordAt (wordsOf 61 g.body) 0) 8 3)
        (Word.fld (wordAt (wordsOf 61 g.body) 0) 0 8) 6 (wd (g.src * 65536 + 4 * n)) none (((wordsOf 61 g.body).drop 1).take n)) })

/-- The angle export and the Trellis opcodes: refused where their parameters are bad, else staged and strobed, or answered; a
packet for a member is sent and its command waits for the reply. -/
def Obligations.AngleExportAndTrellisOpcodes : Prop :=
  ∀ (s : State) (m : Fin 16) (tag : Fin 4096) (gen : Fin 16) (c : Cmd) (t : Dev) (r : Res), s.dev.running = true →
    (s.dev.bit Reg.TRL_ANGLE_CTRL 31 = false → exec .angleExport s = .next s) ∧
    (∀ head, s.dev.bit Reg.TRL_ANGLE_CTRL 31 = true →
      head = [1, BitVec.ofNat 8 s.dev.trl.angleSeq, 0, 0] ++ (List.range 4).flatMap s.dev.angleSlot →
      ∃ u, exec .angleExport s = .next u ∧ u.dev.trl.angleSeq = (s.dev.trl.angleSeq + 1) % 256 ∧ u.dev.rf = s.dev.rf ∧
        ∀ id, s.dev.members.filter s.dev.reachable = [id] → (s.dev.path id).unacked.length < 256 →
          (u.dev.path id).unacked = (s.dev.path id).unacked ++ [((s.dev.path id).sendSeq, 0, trlMessage 0x40
            (beWords [hi32 s.dev.time, lo32 s.dev.time] ++ (head ++ beBytes 2 (crc16 head) ++ [0, 0])))]) ∧
    (s.dev.started m.val tag.val gen.val 0x0900 c →
      (trellisPortSetBad c s.dev = true →
        exec (.trellisPortSet m tag gen) s = .next { s with dev := s.dev.finish m.val tag.val gen.val (Res.st stBadParam) }) ∧
      (trellisPortSetBad c s.dev = false → c.pf 0 31 1 = 0 →
        s.dev.stageStrobe c (2 ^ 19) [(Reg.TRL_PORTt_CTRL (c.pf 0 0 4), wd (c.pf 0 30 1 * 2 ^ 31))] (Res.ok []) = (t, some r) →
        exec (.trellisPortSet m tag gen) s = .next { s with dev := t.finish m.val tag.val gen.val r }) ∧
      (trellisPortSetBad c s.dev = false → c.pf 0 31 1 = 1 →
        s.dev.stageStrobe c (2 ^ 19) [(Reg.TRL_TUNNELp (c.pf 0 0 4), Word.setFld (c.p 1) 31 1 (c.pf 0 30 1))] (Res.ok []) = (t, some r) →
        exec (.trellisPortSet m tag gen) s = .next { s with dev := t.finish m.val tag.val gen.val r })) ∧
    (∀ ws, s.dev.started m.val tag.val gen.val 0x0901 c → ws = (List.range (c.pf 1 0 10)).flatMap (fun i =>
        (List.range 3).map (fun j => (Reg.TRL_MEMBER (c.pf 0 0 9 + i) j, c.p (2 + 3 * i + j)))) →
      (trellisDomainSetBad c s.dev = true →
        exec (.trellisDomainSet m tag gen) s = .next { s with dev := s.dev.finish m.val tag.val gen.val (Res.st stBadParam) }) ∧
      (trellisDomainSetBad c s.dev = false → c.pf 0 15 1 = 0 → s.dev.anyExpert (ws.map Prod.fst) = false →
        exec (.trellisDomainSet m tag gen) s = .next { s with dev :=
          ((s.dev.stageAll c.master false ws).finish m.val tag.val gen.val (Res.ok [])) }) ∧
      (trellisDomainSetBad c s.dev = false → c.pf 0 15 1 = 1 → s.dev.stageStrobe c (2 ^ 19) (ws ++ [(Reg.TRL_DOMAIN,
          wd ((c.pf 0 0 9 + c.pf 1 0 10) * 65536 + c.pf 0 16 16))]) (Res.ok []) = (t, some r) →
        exec (.trellisDomainSet m tag gen) s = .next { s with dev := t.finish m.val tag.val gen.val r })) ∧
    (∀ sl, s.dev.started m.val tag.val gen.val 0x0902 c → c.slice? = some sl →
      (trellisWindowSetBad c s.dev = true →
        exec (.trellisWindowSet m tag gen) s = .next { s with dev := s.dev.finish m.val tag.val gen.val (Res.st stBadParam) }) ∧
      (trellisWindowSetBad c s.dev = false → s.dev.stageStrobe c (2 ^ 20) [(Reg.TRL_WINw_BASE_LO (c.pf 0 16 4), c.p 1),
          (Reg.TRL_WINw_BASE_HI (c.pf 0 16 4), c.p 2), (Reg.TRL_WINw_SIZE (c.pf 0 16 4), c.p 3), (Reg.TRL_WINw_CTRL (c.pf 0 16 4), c.p 4),
          (Reg.TRL_WINw_OWNER (c.pf 0 16 4), wd (2 ^ 31 + c.pf 0 0 8 * 65536 + sl))] (Res.ok []) = (t, some r) →
        exec (.trellisWindowSet m tag gen) s = .next { s with dev := t.finish m.val tag.val gen.val r })) ∧
    (s.dev.started m.val tag.val gen.val 0x0903 c → s.dev.anyExpert [Reg.TRL_DOMAIN] = false →
      exec (.trellisStatus m tag gen) s = .next { s with dev := (s.dev.finish m.val tag.val gen.val (Res.ok
        ([s.dev.reg Reg.TRL_ID, s.dev.reg Reg.TRL_DOMAIN, s.dev.reg Reg.TRL_PARTITION] ++
          (List.range 4).map (fun p => s.dev.reg (Reg.TRL_PORTt_STATUS p)) ++ (List.range s.dev.memberCount).map (fun i =>
            wd (s.dev.memberId i * 65536 + s.dev.fld (Reg.TRL_MEMBER3 i) 29 3))))) }) ∧
    (s.dev.started m.val tag.val gen.val 0x0904 c →
      (trellisPeerCmdBad c s.dev = true →
        exec (.trellisPeerCmd m tag gen) s = .next { s with dev := s.dev.finish m.val tag.val gen.val (Res.st stBadParam) }) ∧
      (trellisPeerCmdBad c s.dev = false → ∃ u, exec (.trellisPeerCmd m tag gen) s = .next u ∧
        u.dev.started m.val tag.val gen.val 0x0904 c ∧
        u.dev.trl.peerCmds = s.dev.trl.peerCmds ++ [(c.pf 0 0 9, c.master, c.tag, c.gen)] ∧
        u.dev.trl.paths = (s.dev.trlSend (c.pf 0 0 9) 1 0x60 (bytesOf (c.params.drop 1))).trl.paths))

/-- A SEND arrives as an inbound message of KIND 6 at the channel it names: HANDLE 0xFF and no slice, the source and the length
in bytes in word 1, the data from word 4 on (R465). -/
def Obligations.SendArrivesAsAnInboundMessage : Prop :=
  ∀ (s : State) (g : TrlMsg) (t : Dev) (h ws : List Word) (n : Nat), s.dev.running = true → s.dev.takeMsg 0x71 = some (g, t) →
    wordsOf 61 g.body = h ++ ws → h.length = 1 → n = Word.fld (wordAt h 0) 16 8 → 1 ≤ n → n ≤ 60 →
    ∃ u m, exec .send s = .next u ∧
      u.dev.fpc.arriving = t.fpc.arriving ++ [(Word.fld (wordAt h 0) 8 3, Word.fld (wordAt h 0) 0 8, m)] ∧ m.length = 64 ∧
      Word.fld (wordAt m 0) 28 4 = 6 ∧ Word.fld (wordAt m 0) 0 8 = 0xFF ∧ Word.bit (wordAt m 2) 23 = false ∧
      Word.fld (wordAt m 1) 16 9 = g.src % 512 ∧ Word.fld (wordAt m 1) 0 16 = 4 * n ∧
      (∀ i, i < n → wordAt m (4 + i) = wordAt ws i) ∧ u.dev.rf = s.dev.rf

/-- Pipeline faults and soft state. A fault of the pipeline that serves a port group is taken over by the ready spare, and fails
the group where the spare is not ready; the ready spare's own fault takes it out of service; any other does nothing. A tasted
spare is ready, or has failed; a checkpoint of a serving pipeline goes to the alternate slot. -/
def Obligations.PipelinesFailOverAndAreTasted : Prop :=
  ∀ (s : State) (p : Fin 3), s.dev.running = true →
    (∀ kind loc g, (List.range 2).find? (fun g => s.dev.serves p.val g) = some g →
      (s.dev.fld Reg.GLB_PIPE_ROLE 6 2 = 0 → ∃ u, exec (.pipelineFault p kind loc) s = .next u ∧
        u.dev.pipeOf g = s.dev.fld Reg.GLB_PIPE_ROLE 4 2 ∧ u.dev.fld Reg.GLB_PIPE_ROLE 4 2 = p.val ∧
        u.dev.fld Reg.GLB_PIPE_ROLE 6 2 = 1 ∧ u.dev.bit Reg.FLT_EVT_STATUS 3 = true) ∧
      (s.dev.fld Reg.GLB_PIPE_ROLE 6 2 ≠ 0 → ∃ u, exec (.pipelineFault p kind loc) s = .next u ∧
        u.dev.flt.failed = g :: s.dev.flt.failed ∧ u.dev.bit Reg.FLT_STATUS g = true ∧ u.dev.bit Reg.FLT_EVT_STATUS 4 = true ∧
        u.dev.pipeOf g = p.val)) ∧
    (∀ kind loc, s.dev.serves p.val 0 = false → s.dev.serves p.val 1 = false →
      (s.dev.fld Reg.GLB_PIPE_ROLE 4 2 = p.val → s.dev.fld Reg.GLB_PIPE_ROLE 6 2 = 0 →
        ∃ u, exec (.pipelineFault p kind loc) s = .next u ∧ u.dev.fld Reg.GLB_PIPE_ROLE 6 2 = 2 ∧
          u.dev.reg Reg.FLT_SEQ = s.dev.reg Reg.FLT_SEQ + 1 ∧ u.dev.prs = s.dev.prs) ∧
      (s.dev.fld Reg.GLB_PIPE_ROLE 4 2 ≠ p.val → exec (.pipelineFault p kind loc) s = .next s)) ∧
    (∀ good, s.dev.pipeReset p.val = none →
      (s.dev.fld Reg.GLB_PIPE_ROLE 4 2 ≠ p.val → exec (.pipelineTastingDone p good) s = .next s) ∧
      (s.dev.fld Reg.GLB_PIPE_ROLE 4 2 = p.val → (s.dev.fld Reg.GLB_PIPE_ROLE 6 2 = 1 ∨ s.dev.fld Reg.GLB_PIPE_ROLE 6 2 = 2) →
        ∃ u, exec (.pipelineTastingDone p good) s = .next u ∧ u.dev.fld Reg.GLB_PIPE_ROLE 6 2 = (if good then 0 else 3) ∧
          u.dev.fld Reg.GLB_PIPE_ROLE 4 2 = p.val ∧ u.dev.pipeOf 0 = s.dev.pipeOf 0 ∧ u.dev.pipeOf 1 = s.dev.pipeOf 1)) ∧
    (s.dev.serves p.val 0 = false → s.dev.serves p.val 1 = false → exec (.contextCheckpoint p) s = .next s) ∧
    ((s.dev.serves p.val 0 = true ∨ s.dev.serves p.val 1 = true) → ∃ u, exec (.contextCheckpoint p) s = .next u ∧
      u.dev.checkpoint p.val = some (s.dev.softOf p.val) ∧ u.dev.rf = s.dev.rf)

/-- Errors and hours. A corrected error is counted by its source, its first of the hour recorded; one of the management ring,
the firmware or the Cellar-master cores halts the device, one of a slice's context corks it, a spilled entry's is recorded
alone; a powered hour starts the hourly counts again; the watchdog halts the device unless an activation is under way. The fault
opcodes answer the records asked for that the ring still holds, the result of a tasting, a range of a block's counters. -/
def Obligations.ErrorsAreContainedAndAnswered : Prop :=
  (∀ (s : State) (loc : Word), s.dev.running = true →
     (∀ (r : Fin 17) (unit : Fin 65536), ∃ u, exec (.correctedError r unit loc) s = .next u ∧
       u.dev.reg (Reg.FLT_CORRECTED r.val) = Word.satAdd (s.dev.reg (Reg.FLT_CORRECTED r.val)) 1 ∧
       Map.getD u.dev.flt.ceHour r.val 0 = Map.getD s.dev.flt.ceHour r.val 0 + 1 ∧ u.dev.flt.ceLogged.contains r.val = true ∧
       (r.val ≠ 13 → s.dev.flt.ceLogged.contains r.val = true →
         Map.getD s.dev.flt.ceHour r.val 0 ≠ s.dev.fld Reg.FLT_CTRL 0 16 → s.dev.sameRegsBut u.dev [Reg.FLT_CORRECTED r.val]) ∧
       (Map.getD s.dev.flt.ceHour r.val 0 = s.dev.fld Reg.FLT_CTRL 0 16 → u.dev.bit Reg.FLT_EVT_STATUS 5 = true)) ∧
     (∀ e ∈ [Damage.ringMemory, .firmware, .lockstep], ∃ u, exec (.uncorrectableError e loc) s = .next u ∧ u.dev.halted = true ∧
       u.dev.pins.txdis = 0xFFFF ∧ u.dev.pins.pairOk = false) ∧
     (∀ sl : Fin 8192, 1 ≤ s.dev.sliceState sl.val → s.dev.sliceState sl.val ≤ 4 →
       ∃ u, exec (.uncorrectableError (.slice sl) loc) s = .next u ∧ sl.val ∈ u.dev.slc.contained ∧
       u.dev.bit Reg.FLT_EVT_STATUS 2 = true ∧ (s.dev.sliceState sl.val = 1 → s.dev.sliceChans sl.val = [] → u.dev.sliceState sl.val = 2)) ∧
     (∀ (sl : Fin 8192) (n : Fin 1024), exec (.uncorrectableError (.spill sl n) loc) s = .next { s with dev :=
       (s.dev.fault { faultRec 0 1 5 n.val with slice := some (sl.val, s.dev.incarnation sl.val), location := loc }) }) ∧
     (∃ u, exec .poweredHour s = .next u ∧ u.dev.reg Reg.AGE_POWERED_HOURS = s.dev.reg Reg.AGE_POWERED_HOURS + 1 ∧
       u.dev.flt.ceHour = [] ∧ u.dev.flt.ceLogged = [] ∧ s.dev.sameRegsBut u.dev [Reg.AGE_POWERED_HOURS]) ∧
     ((s.dev.updState = 5 ∨ s.dev.updState = 8) → exec .watchdogExpiry s = .next s) ∧
     (s.dev.updState ≠ 5 → s.dev.updState ≠ 8 → ∃ u, exec .watchdogExpiry s = .next u ∧ u.dev.halted = true ∧
       u.dev.pins.txdis = 0xFFFF ∧ u.dev.pins.pairOk = false) ∧
     (∃ u, exec .glitchDetect s = .next u ∧ u.dev.halted = true ∧ u.dev.pins.txdis = 0xFFFF)) ∧
  (∀ (s : State) (m : Fin 16) (tag : Fin 4096) (gen : Fin 16) (c : Cmd), s.dev.running = true →
     (s.dev.started m.val tag.val gen.val 0x0B01 c → (c.p 1).toNat = 1 →
       (c.p 0).toNat < s.dev.regN Reg.FLT_SEQ → s.dev.regN Reg.FLT_SEQ ≤ (c.p 0).toNat + 1024 →
       exec (.faultLogRead m tag gen) s = .next { s with dev := (s.dev.finish m.val tag.val gen.val
         (Res.ok (s.dev.regs (Reg.FLT_RING ((c.p 0).toNat % 1024 * 12)) 12))) }) ∧
     (∀ good, s.dev.started m.val tag.val gen.val 0x0B00 c →
       exec (.tastingRun m tag gen good) s = .next { s with dev := s.dev.finish m.val tag.val gen.val (Res.ok [if good then 1 else 0]) }) ∧
     (s.dev.started m.val tag.val gen.val 0x0B02 c → c.pf 0 0 5 = 18 → c.pf 1 0 16 = 0 → c.pf 1 16 16 = 4 →
       exec (.countersRead m tag gen) s = .next { s with dev := (s.dev.finish m.val tag.val gen.val
         (Res.ok (s.dev.regs (Reg.EBS_COUNTS 0) 4))) }))

/-- Reset and the boot. SYS_RST resets the device and holds it; its release samples the straps; each stage's work done leads to
the next, where no stage is stopped; at stage 7 the boot's time is shown; a deadline passed stops the boot with its record.
Supplies, rails and the partner's signal. A power-good input that falls or a rail out of its window shows its bit of
GLB_SUPPLY_FAULT, and before stage 7 resets the device; they clear when all is well; a bit held halts the device; the partner's
level is shown; a scrub changes nothing. -/
def Obligations.ResetBootAndSuppliesAct : Prop :=
  (∀ s : State,
     (s.dev.pins.rstLow = true → exec .sysRstAssert s = .next s) ∧
     (s.dev.pins.rstLow = false → ∃ u, exec .sysRstAssert s = .next u ∧ u.dev.pins.rstLow = true ∧ u.dev.stage? = 0 ∧
       u.dev.halted = false ∧ u.dev.cmd = Dev.reset.cmd ∧ u.dev.prs = Dev.reset.prs ∧ u.dev.rng = Dev.reset.rng ∧
       u.dev.upd.banks = s.dev.upd.banks ∧ ∀ k, keptReg k = false → k ≠ Reg.GLB_PAIR → k ≠ Reg.GLB_SUPPLY_FAULT →
         (∀ i, k ≠ Reg.CRY_SLOTs i ∧ k ≠ Reg.CRY_SLOT_PNs i 0 ∧ k ≠ Reg.CRY_SLOT_PNs i 1) → u.dev.reg k = resetOf k) ∧
     (∀ tid hold, s.dev.pins.rstLow = false → exec (.sysRstDeassert tid hold) s = .next s) ∧
     (∀ tid hold, s.dev.pins.rstLow = true → ∃ u, exec (.sysRstDeassert tid hold) s = .next u ∧ u.dev.pins.rstLow = false ∧
       u.dev.fld Reg.GLB_STRAPS 16 9 = tid.val ∧ u.dev.bit Reg.GLB_STRAPS 2 = hold ∧ s.dev.sameRegsBut u.dev [Reg.GLB_STRAPS]) ∧
     (∀ r, (s.dev.booting = false ∨ s.dev.stopped = true) →
       exec (.bootStageDone r) s = .next s ∧ exec .bootStageDeadline s = .next s) ∧
     (s.dev.booting = true → s.dev.stopped = false →
       (∃ u, exec .bootStageDeadline s = .next u ∧ u.dev.bit Reg.GLB_BOOT 27 = true ∧
         u.dev.reg Reg.FLT_SEQ = s.dev.reg Reg.FLT_SEQ + 1 ∧ u.dev.stage? = s.dev.stage?) ∧
       ∀ r : StageReport,
         (s.dev.stage? = 0 → ∃ u, exec (.bootStageDone r) s = .next u ∧ u.dev.stage? = 1 ∧ u.dev.lcs.latch = some s.dev.lcs.vote.1 ∧
           u.dev.lcState = s.dev.lcs.vote.1 % 16) ∧
         (s.dev.stage? = 1 → exec (.bootStageDone r) s = .next { s with dev := s.dev.setFld Reg.GLB_BOOT 28 4 2 }) ∧
         (s.dev.stage? = 2 → ∃ u, exec (.bootStageDone r) s = .next u ∧
           (s.dev.chooseBank.1 = true → u.dev.stage? = 3 ∧ u.dev.upd.banks = s.dev.chooseBank.2.upd.banks) ∧
           (s.dev.chooseBank.1 = false → u.dev.stage? = 1 ∧ u.dev.upd.recovery = true)) ∧
         (s.dev.stage? = 3 → ∃ u, exec (.bootStageDone r) s = .next u ∧ u.dev.stage? = 4 ∧
           u.dev.fld Reg.GLB_HBM_CTRL 30 2 = r.trained.val ∧ s.dev.sameRegsBut u.dev [Reg.GLB_HBM_CTRL, Reg.GLB_BOOT]) ∧
         (s.dev.stage? = 4 → ∃ u, exec (.bootStageDone r) s = .next u ∧ u.dev.stage? = 5 ∧
           ∀ e ∈ r.engines, u.dev.bit Reg.CRY_ENGINES e.val = false ∧ u.dev.bit Reg.CRY_ENGINES (16 + e.val) = true) ∧
         (s.dev.stage? = 5 → ∃ u, exec (.bootStageDone r) s = .next u ∧ u.dev.stage? = 6) ∧
         (s.dev.stage? = 6 → ∃ u, exec (.bootStageDone r) s = .next u ∧ u.dev.stage? = 7 ∧
           u.dev.fld Reg.GLB_BOOT 0 16 = s.dev.now / 500000 % 65536))) ∧
  (∀ s : State,
     (∀ g : Fin 4,
       (s.dev.pins.pgLow.contains g.val = true → exec (.powerGoodFall g) s = .next s) ∧
       (s.dev.pins.pgLow.contains g.val = false → s.dev.pins.rstLow = false →
         (s.dev.stage? = 7 → ∃ u, exec (.powerGoodFall g) s = .next u ∧ u.dev.pins.pgLow = g.val :: s.dev.pins.pgLow ∧
           u.dev.bit Reg.GLB_SUPPLY_FAULT g.val = true ∧ u.dev.stage? = 7) ∧
         (s.dev.stage? < 7 → s.dev.bit Reg.GLB_BOOT 27 = false → ∃ u, exec (.powerGoodFall g) s = .next u ∧
           u.dev.bit Reg.GLB_SUPPLY_FAULT g.val = true ∧ u.dev.stage? = 0))) ∧
     (s.dev.pins.rstLow = false → s.dev.pins.railsOut = [] → ∃ u, exec .powerGoodRise s = .next u ∧ u.dev.pins.pgLow = [] ∧
       (∀ g : Fin 4, u.dev.bit Reg.GLB_SUPPLY_FAULT g.val = false)) ∧
     (∀ (g : Fin 4) mv,
       (s.dev.bit Reg.GLB_SUPPLY_FAULT g.val = false → exec (.supplyFaultHold g mv) s = .next s) ∧
       (s.dev.running = true → s.dev.bit Reg.GLB_SUPPLY_FAULT g.val = true → ∃ u, exec (.supplyFaultHold g mv) s = .next u ∧
         u.dev.halted = true ∧ u.dev.pins.txdis = 0xFFFF)) ∧
     (∀ r : Fin 9,
       ((s.dev.pins.rstLow = true ∨ s.dev.stage? = 0) → exec (.railOutOfWindow r) s = .next s) ∧
       (s.dev.pins.rstLow = false → s.dev.stage? = 7 → s.dev.pins.railsOut.contains r.val = false →
         ∃ u, exec (.railOutOfWindow r) s = .next u ∧ u.dev.pins.railsOut = r.val :: s.dev.pins.railsOut ∧
           u.dev.bit Reg.GLB_SUPPLY_FAULT (railGroup r.val) = true ∧ u.dev.stage? = 7) ∧
       (s.dev.pins.rstLow = false →
         ∃ u, exec (.railWithinWindow r) s = .next u ∧ u.dev.pins.railsOut = s.dev.pins.railsOut.filter (· ≠ r.val) ∧
         ∀ g : Fin 4, u.dev.bit Reg.GLB_SUPPLY_FAULT g.val = u.dev.pins.supply.contains g.val)) ∧
     (∀ level,
       (s.dev.pins.rstLow = false → ∃ u, exec (.pairInChange level) s = .next u ∧ u.dev.pins.pairIn = level ∧
         u.dev.bit Reg.GLB_PAIR 31 = level ∧ s.dev.sameRegsBut u.dev [Reg.GLB_PAIR]) ∧
       (s.dev.pins.rstLow = true → exec (.pairInChange level) s =
         .next { s with dev := { s.dev with pins := { s.dev.pins with pairIn := level } } })) ∧
     (∀ hbm, exec (.patrolScrub hbm) s = .next s))

/-- The life cycle. Its status is answered; a record that is not accepted is refused, counted and draws a new nonce; an accepted
one writes all three copies and is followed by a device reset; JTAG instructions that the state does not open are counted; MCTP
control is answered in every stage. -/
def Obligations.LifeCycleAndAccess : Prop :=
  ∀ (s : State) (m : Fin 16) (tag : Fin 4096) (gen : Fin 16) (c : Cmd),
    (s.dev.running = true → s.dev.started m.val tag.val gen.val 0x0A00 c →
      exec (.lcStatus m tag gen) s = .next { s with dev := (s.dev.finish m.val tag.val gen.val (Res.ok [s.dev.reg Reg.LCS_STATE,
        wd (markBits ((List.range 6).map (fun t => decide (signersOf s.dev.fromState t ≠ 0))))])) }) ∧
    (s.dev.running = true → s.dev.started m.val tag.val gen.val 0x0A01 c → s.dev.authorised c = false →
      ∃ u, exec (.lcTransition m tag gen) s = .next u ∧ u.dev.finished m.val tag.val gen.val stLifecycle [] ∧
        u.dev.reg Reg.LCS_AUTH_FAILS = Word.satAdd (s.dev.reg Reg.LCS_AUTH_FAILS) 1 ∧ u.dev.bit Reg.LCS_EVT_STATUS 1 = true ∧
        u.dev.lcState = s.dev.lcState ∧ u.dev.lcs.copies = s.dev.lcs.copies) ∧
    (s.dev.running = true → s.dev.started m.val tag.val gen.val 0x0A01 c → s.dev.authorised c = true →
      s.dev.bit Reg.LCS_VIOLATION 1 = false →
      (c.pf 0 28 4 = 1 → ∃ u, exec (.lcTransition m tag gen) s = .next u ∧ u.dev.finished m.val tag.val gen.val stOK [] ∧
        u.dev.lcs.copies = [c.pf 0 24 4, c.pf 0 24 4, c.pf 0 24 4] ∧ u.dev.lcs.resetDue = true ∧ u.dev.lcState = c.pf 0 24 4 ∧
        u.dev.fld Reg.LCS_STATE 0 8 = 0) ∧
      (c.pf 0 28 4 ≠ 1 → ∃ u, exec (.lcTransition m tag gen) s = .next u ∧ u.dev.finished m.val tag.val gen.val stOK [] ∧
        u.dev.fld Reg.LCS_STATE 0 8 = s.dev.fld Reg.LCS_STATE 0 8 ||| c.pf 0 0 8 ∧ u.dev.bit Reg.LCS_EVT_STATUS 2 = true ∧
        u.dev.lcState = s.dev.lcState)) ∧
    (s.dev.running = true → s.dev.lcs.resetDue = false → exec .lcTransitionReset s = .next s) ∧
    (s.dev.running = true → s.dev.lcs.resetDue = true → ∃ u, exec .lcTransitionReset s = .next u ∧ u.dev.stage? = 0 ∧
      u.dev.cmd = Dev.reset.cmd ∧ u.dev.lcs.copies = s.dev.lcs.copies) ∧
    (s.dev.pins.pgLow.contains 0 = true → exec .lifecycleLatch s = .next s) ∧
    (s.dev.pins.pgLow.contains 0 = false → exec .lifecycleLatch s =
      .next { s with dev := { s.dev with lcs := { s.dev.lcs with latch := some s.dev.lcs.vote.1 } } }) ∧
    (∀ j, s.dev.jtagOpen j = false → exec (.jtagInstruction j) s = .next { s with dev := s.dev.count Reg.LCS_DENIED_JTAG 1 }) ∧
    (exec (.jtagInstruction .bypass) s = .next s) ∧
    (∃ u w, exec (.jtagInstruction .idcode) s = .next u ∧ u.dev.out = .jtag w :: s.dev.out ∧ u.dev.rf = s.dev.rf) ∧
    (∀ ws, s.dev.running = true → s.dev.jtagOpen (.dbgPacket ws) = true →
      exec (.jtagInstruction (.dbgPacket ws)) s = .next { s with dev := s.dev.putPacket 5 0 ws }) ∧
    (∀ req, s.dev.pins.rstLow = true → exec (.mctpControlMessage req) s = .next s) ∧
    (∀ req, s.dev.pins.rstLow = false → byteAt req 0 % 128 = 0 → ∃ u bs, exec (.mctpControlMessage req) s = .next u ∧
      u.dev.rf = s.dev.rf ∧ u.dev.out = .sideband 0 ([0, BitVec.ofNat 8 (byteAt req 1 % 128), BitVec.ofNat 8 (byteAt req 2)] ++ bs) :: s.dev.out) ∧
    (∀ req, s.dev.pins.rstLow = false → byteAt req 0 % 128 ≠ 0 → s.dev.halted = false → s.dev.bit Reg.GLB_BOOT 27 = false →
      exec (.mctpControlMessage req) s = .next s)

/-- Updates and their opcodes. A chunk is refused BUSY while an activation is armed or the bank is being erased; the first of a
manifest starts the bank afresh and its erasing, whose end is shown; a schedule that is bad is refused, one of this device alone
is armed at once; a confirmation keeps the bank or starts the revert; status and measurements are answered. -/
def Obligations.UpdateOpcodes : Prop :=
  ∀ (s : State) (m : Fin 16) (tag : Fin 4096) (gen : Fin 16) (c : Cmd), s.dev.running = true →
    (s.dev.started m.val tag.val gen.val 0x0A02 c →
      (s.dev.updState ≠ 0 →
        exec (.updateStage m tag gen) s = .next { s with dev := s.dev.finish m.val tag.val gen.val (Res.st stBusy) }) ∧
      (s.dev.updState = 0 → c.pf 0 31 1 = 1 → c.pf 0 30 1 = 0 → c.p 1 = 0 → ∃ u, exec (.updateStage m tag gen) s = .next u ∧
        u.dev.bank s.dev.inactive = (⟨1, [], []⟩ : Bank).write 0 (c.params.drop 2) ∧ u.dev.upd.erasing = true ∧
        u.dev.finished m.val tag.val gen.val stOK [] ∧ u.dev.fld Reg.UPD_STATE 0 16 = 0) ∧
      (s.dev.updState = 0 → c.pf 0 31 1 = 0 → s.dev.upd.erasing = true →
        exec (.updateStage m tag gen) s = .next { s with dev := s.dev.finish m.val tag.val gen.val (Res.st stBusy) })) ∧
    (s.dev.upd.erasing = false → exec .bankEraseDone s = .next s) ∧
    (s.dev.upd.erasing = true → ∃ u, exec .bankEraseDone s = .next u ∧ u.dev.upd.erasing = false ∧
      u.dev.fld Reg.UPD_STATE 0 16 = 1024 ∧ s.dev.sameRegsBut u.dev [Reg.UPD_STATE]) ∧
    (∀ room fits, s.dev.started m.val tag.val gen.val 0x0A03 c →
      (updateScheduleBad c s.dev = true → ∃ u, exec (.updateSchedule m tag gen room fits) s = .next u ∧
        u.dev.finished m.val tag.val gen.val stBadParam [] ∧ u.dev.upd = s.dev.upd ∧ s.dev.sameRegsBut u.dev []) ∧
      (updateScheduleBad c s.dev = false → s.dev.actRefuse none room fits = none → c.pf 4 0 10 = 0 → c.pf 0 31 1 = 0 → c.p 3 ≠ 0 →
        ∃ u, exec (.updateSchedule m tag gen room fits) s = .next u ∧ u.dev.updState = 4 ∧ u.dev.reg Reg.UPD_TOKEN = c.p 3 ∧
          u.dev.upd.act = some ⟨(c.p 3).toNat, none, some (c.master, c.tag, c.gen), some (cat64 (c.p 1) (c.p 2)),
            [⟨s.dev.selfId, true, none, false⟩], true, false⟩)) ∧
    (s.dev.started m.val tag.val gen.val 0x0A04 c →
      (updateConfirmBad c s.dev = true →
        exec (.updateConfirm m tag gen) s = .next { s with dev := s.dev.finish m.val tag.val gen.val (Res.st stBadParam) }) ∧
      (updateConfirmBad c s.dev = false → c.pf 1 0 1 = 1 → ∃ u, exec (.updateConfirm m tag gen) s = .next u ∧
        u.dev.finished m.val tag.val gen.val stOK [] ∧ u.dev.updState = 8 ∧ u.dev.inForce = s.dev.inactive) ∧
      (updateConfirmBad c s.dev = false → c.pf 1 0 1 = 0 → ∃ u, exec (.updateConfirm m tag gen) s = .next u ∧
        u.dev.finished m.val tag.val gen.val stOK [] ∧ u.dev.updState = 0 ∧ (u.dev.bank s.dev.inForce).state = 5 ∧
        u.dev.inForce = s.dev.inForce)) ∧
    (s.dev.started m.val tag.val gen.val 0x0A05 c → s.dev.rf.expert = [] →
      exec (.updateStatus m tag gen) s = .next { s with dev := (s.dev.finish m.val tag.val gen.val (Res.ok
        ([s.dev.reg Reg.UPD_STATE, s.dev.reg Reg.UPD_TOKEN, s.dev.reg Reg.UPD_RESULT, s.dev.reg Reg.UPD_BANKS] ++
          s.dev.bankVersions 0 ++ s.dev.bankVersions 1 ++ s.dev.upd.check.map (fun i => wd (i.1 * 2 ^ 24 + i.2))))) }) ∧
    (∀ body, s.dev.started m.val tag.val gen.val 0x0A06 c → c.p 8 = 2 →
      body = [1, 1] ++ wordsOf 12 (Config.sha384 Config.bootRom) ++ [s.dev.reg Reg.LCS_SERIAL_LO, s.dev.reg Reg.LCS_SERIAL_HI] →
      exec (.attestMeasure m tag gen) s = .next { s with dev := (s.dev.finish m.val tag.val gen.val (Res.ok
        (body ++ wordsOf 24 (Config.ecdsaSign (Config.sha384 (bytesOf (c.params.take 8) ++ bytesOf body)))))) })

/-- An activation in its messages. A member answers PREPARE with READY, or REFUSE and its reason; the originator sends COMMIT
once all are READY and gives up at a refusal; COMMIT arms a member, or starts it at once where T is past; ABORT and the expiry
of READY release it; KEEP keeps its bank. The course of an activation: its instant; the end of the drain, at which a started
command without its strobe ends BUSY; the check of the staged bank; a thread reset; the images loaded and the bank on trial, or
the revert finished. -/
def Obligations.ActivationsRunTheirCourse : Prop :=
  (∀ (s : State) (g : TrlMsg) (t : Dev), s.dev.running = true →
     (s.dev.takeMsg 0x50 = some (g, t) →
       (∀ room fits r, t.actRefuse (some (g.f 1 0 16)) room fits = some r →
         exec (.actPrepare room fits) s = .next { s with dev := t.tell g.src 0x52 [g.w 0, wd r] }) ∧
       (∀ room fits, t.actRefuse (some (g.f 1 0 16)) room fits = none → ∃ u, exec (.actPrepare room fits) s = .next u ∧
         u.dev.updState = 3 ∧ u.dev.reg Reg.UPD_TOKEN = g.w 0 ∧
         u.dev.upd.act = some ⟨(g.w 0).toNat, some g.src, none, none, [], false, false⟩)) ∧
     (∀ a, s.dev.takeMsg 0x51 = some (g, t) → s.dev.ownAct (g.w 0).toNat = some a → a.committed = false →
       ((∃ x ∈ a.members, x.id ≠ g.src ∧ x.ready = false) → ∃ u, exec .actReady s = .next u ∧ u.dev.rf = s.dev.rf ∧
         u.dev.upd.act = some { a with members := a.members.map (fun x => if x.id = g.src then { x with ready := true } else x) }) ∧
       ((∀ x ∈ a.members, x.id ≠ g.src → x.ready = true) → ∃ u, exec .actReady s = .next u ∧ u.dev.updState = 4 ∧
         u.dev.upd.act = some { a with members := a.members.map (fun x => if x.id = g.src then { x with ready := true } else x),
                                       committed := true })) ∧
     (∀ a, s.dev.takeMsg 0x52 = some (g, t) → s.dev.ownAct (g.w 0).toNat = some a → a.committed = false →
       ∃ u, exec .actRefuse s = .next u ∧ u.dev.updState = 0 ∧ u.dev.upd.act = none ∧
         ∀ m tag gen, a.cmd = some (m, tag, gen) → s.dev.cmd? m tag gen ≠ none →
           u.dev.finished m tag gen stBadParam (actReply a.token [(g.src, g.f 1 0 16)])) ∧
     (∀ a, s.dev.takeMsg 0x53 = some (g, t) → s.dev.memberAct g.src (g.w 0).toNat = some a → s.dev.updState = 3 →
       (s.dev.time ≤ cat64 (g.w 2) (g.w 1) → ∃ u, exec .actCommit s = .next u ∧ u.dev.updState = 4 ∧
         u.dev.upd.act = some { a with at_ := some (cat64 (g.w 2) (g.w 1)), committed := true }) ∧
       (cat64 (g.w 2) (g.w 1) < s.dev.time → ∃ u, exec .actCommit s = .next u ∧ u.dev.updState = 5 ∧
         u.dev.bit Reg.UPD_EVT_STATUS 3 = true ∧ u.dev.upd.phase = 0)) ∧
     (s.dev.takeMsg 0x54 = some (g, t) →
       (s.dev.memberAct g.src (g.w 0).toNat = none → exec .actAbort s = .next { s with dev := t }) ∧
       (∀ a, s.dev.memberAct g.src (g.w 0).toNat = some a → (s.dev.updState = 3 ∨ s.dev.updState = 4) →
         ∃ u, exec .actAbort s = .next u ∧ u.dev.updState = 0 ∧ u.dev.upd.act = none)) ∧
     (∀ a, s.dev.takeMsg 0x55 = some (g, t) → s.dev.memberAct g.src (g.w 0).toNat = some a →
       (g.f 1 0 16 ≠ 0x4000 → exec .actResult s = .next { s with dev := t }) ∧
       (g.f 1 0 16 = 0x4000 → s.dev.updState = 6 → ∃ u, exec .actResult s = .next u ∧ u.dev.updState = 7 ∧
         (u.dev.bank s.dev.inForce).state = 4)) ∧
     (s.dev.updState ≠ 3 → exec .actReadyExpiry s = .next s) ∧
     (∀ a, s.dev.upd.act = some a → a.origin.isSome = true → s.dev.updState = 3 →
       ∃ u, exec .actReadyExpiry s = .next u ∧ u.dev.updState = 0 ∧ u.dev.upd.act = none)) ∧
  (∀ s : State, s.dev.running = true →
     (s.dev.updState ≠ 4 → exec .activationStart s = .next s) ∧
     (∀ a, s.dev.upd.act = some a → a.at_.isSome = true → s.dev.updState = 4 → ∃ u, exec .activationStart s = .next u ∧
       u.dev.updState = 5 ∧ u.dev.upd.phase = 0 ∧ u.dev.reg64 Reg.UPD_ACT_TIME_LO = s.dev.time) ∧
     (s.dev.updState ≠ 5 → exec .activationDrainExpiry s = .next s ∧ exec .activationCheckDone s = .next s) ∧
     (s.dev.updState = 5 → s.dev.upd.phase = 0 → ∃ u, exec .activationDrainExpiry s = .next u ∧ u.dev.upd.phase = 1 ∧
       u.dev.rf = s.dev.rf ∧ ∀ c ∈ s.dev.cmd.cmds, c.phase = .started → c.strobed = false →
         u.dev.finished c.master c.tag c.gen stBusy []) ∧
     (∀ r is, s.dev.updState = 5 → s.dev.upd.phase = 1 → s.dev.bankCheck s.dev.inactive = (r, is) →
       ∃ u, exec .activationCheckDone s = .next u ∧ u.dev.upd.check = is ∧ u.dev.fld Reg.UPD_RESULT 0 16 = r ∧
         (r = 0 → u.dev.upd.phase = 2 ∧ u.dev.updState = 5) ∧
         (r ≠ 0 → u.dev.upd.phase = 3 ∧ u.dev.updState = 8 ∧ (u.dev.bank s.dev.inactive).state = 6)) ∧
     (∀ p : Fin 512, ((s.dev.updHolds = false ∨ s.dev.upd.phase ≠ 2) → exec (.activationFpcTimeout p) s = .next s) ∧
       (s.dev.updHolds = true → s.dev.upd.phase = 2 → exec (.activationFpcTimeout p) s = .next { s with dev := s.dev.thrReset p.val })) ∧
     (s.dev.updState ≠ 5 → s.dev.updState ≠ 8 → ∀ place, exec (.activationComplete place) s = .next s) ∧
     (s.dev.updState = 5 → s.dev.upd.phase = 2 → s.dev.upd.act = none → ∃ u, exec (.activationComplete []) s = .next u ∧
       u.dev.updState = 6 ∧ u.dev.inForce = s.dev.inactive ∧ (u.dev.bank s.dev.inactive).state = 3 ∧
       u.dev.bit Reg.UPD_EVT_STATUS 1 = true ∧ u.dev.fld Reg.UPD_RESULT 0 16 = 0) ∧
     (s.dev.updState = 8 → s.dev.upd.act = none → ∃ u, exec (.activationComplete []) s = .next u ∧
       u.dev.updState = 0 ∧ u.dev.upd.phase = 0 ∧ u.dev.bit Reg.UPD_EVT_STATUS 2 = true))

/-- The SPDM responder. A request of another code is an invalid request, one out of order unexpected; the version, the
capabilities and the algorithms are negotiated in that order; then digests, the chain, challenges and measurements are answered.
-/
def Obligations.SpdmResponderAnswers : Prop :=
  ∀ (s : State) (req : List Byte), s.dev.running = true →
    (∀ i code, (i, code) ∈ [(Instr.getVersion req, 0x84), (.getCapabilities req, 0xE1), (.negotiateAlgorithms req, 0xE3),
        (.getDigests req, 0x81), (.getCertificate req, 0x82), (.challenge req, 0x83), (.getMeasurements req, 0xE0)] →
      byteAt req 1 ≠ code → ∃ u, exec i s = .next u ∧ u.dev.out = .sideband 5 (spdmError 1) :: s.dev.out ∧ u.dev.rf = s.dev.rf ∧
        u.dev.lcs.spdm = s.dev.lcs.spdm) ∧
    (byteAt req 0 = 0x10 → byteAt req 1 = 0x84 → ∃ u, exec (.getVersion req) s = .next u ∧ u.dev.lcs.spdm = 1 ∧
      u.dev.rf = s.dev.rf ∧ u.dev.out = .sideband 5 (octets [0x10, 0x04, 0, 0, 0, 1, 0x00, 0x13]) :: s.dev.out) ∧
    (byteAt req 0 = 0x13 → byteAt req 1 = 0xE1 → s.dev.lcs.spdm = 1 → ∃ u ct sizes, exec (.getCapabilities req) s = .next u ∧
      u.dev.lcs.spdm = 2 ∧ u.dev.rf = s.dev.rf ∧
      u.dev.out = .sideband 5 (octets [0x13, 0x61, 0, 0, 0] ++ ct ++ octets [0, 0, 0x36, 0, 0, 0] ++ sizes) :: s.dev.out) ∧
    (byteAt req 0 = 0x13 → byteAt req 1 = 0xE3 → s.dev.lcs.spdm = 2 → leAt req 8 4 &&& 0x80 ≠ 0 → leAt req 12 4 &&& 2 ≠ 0 →
      ∃ u rsp, exec (.negotiateAlgorithms req) s = .next u ∧ u.dev.lcs.spdm = 3 ∧ u.dev.rf = s.dev.rf ∧
        u.dev.out = .sideband 5 (octets [0x13, 0x63, 0, 0] ++ rsp) :: s.dev.out) ∧
    (s.dev.lcs.spdm = 3 → byteAt req 0 = 0x13 →
      (byteAt req 1 = 0x81 → ∃ u, exec (.getDigests req) s = .next u ∧ u.dev.rf = s.dev.rf ∧
        u.dev.out = .sideband 5 (octets [0x13, 0x01, 1, 1] ++ Config.sha384 s.dev.certChain) :: s.dev.out) ∧
      (byteAt req 1 = 0x82 → byteAt req 2 % 16 = 0 → byteAt req 3 % 2 = 0 → leAt req 4 2 ≤ s.dev.certChain.length →
        ∃ u n, exec (.getCertificate req) s = .next u ∧ u.dev.rf = s.dev.rf ∧
          n = Nat.min (leAt req 6 2) (s.dev.certChain.length - leAt req 4 2) ∧
          u.dev.out = .sideband 5 (octets [0x13, 0x02, 0, 0] ++ leBytes 2 n ++ leBytes 2 (s.dev.certChain.length - leAt req 4 2 - n) ++
            slice s.dev.certChain (leAt req 4 2) n) :: s.dev.out) ∧
      (byteAt req 1 = 0x83 → byteAt req 2 = 0 → byteAt req 3 = 0 → req.length = 44 →
        ∃ u nonce sig, exec (.challenge req) s = .next u ∧ u.dev.rf = s.dev.rf ∧ u.dev.lcs.certLog = [] ∧
          u.dev.out = .sideband 5 (octets [0x13, 0x03, 0, 1] ++ Config.sha384 s.dev.certChain ++ nonce ++ [0#8, 0#8] ++
            slice req 36 8 ++ sig) :: s.dev.out) ∧
      (byteAt req 1 = 0xE0 → byteAt req 2 % 2 = 0 → byteAt req 3 = 0 → (slice req 4 8).length = 8 →
        ∃ u nonce, exec (.getMeasurements req) s = .next u ∧ u.dev.rf = s.dev.rf ∧
          u.dev.out = .sideband 5 (octets [0x13, 0x60, 7, 0, 0] ++ leBytes 3 0 ++ nonce ++ [0#8, 0#8] ++ slice req 4 8) :: s.dev.out))

/-- The PLDM firmware device, of the running firmware and of the ROM in recovery: an update is opened once, a transfer needs one
open and a place inside the bank, an activation arms the device as UPDATE_SCHEDULE does, or boots the bank that was written. -/
def Obligations.PldmFirmwareDeviceUpdates : Prop :=
  ∀ s : State,
    (s.dev.running = true →
      (∀ req, s.dev.upd.pldm = true → exec (.pldmRequestUpdate req) s = .next { s with dev := s.dev.pldmSend 0x10 0x81 [] }) ∧
      (∀ req, s.dev.upd.pldm = false → s.dev.updState = 0 → ∃ u, exec (.pldmRequestUpdate req) s = .next u ∧
        u.dev.upd.pldm = true ∧ u.dev.out = .sideband 1 (octets [0, 5, 0x10, 0] ++ [0#8, 0#8, 0#8]) :: s.dev.out) ∧
      (∀ offset data last, s.dev.upd.pldm = false →
        exec (.pldmTransfer offset data last) s = .next { s with dev := s.dev.pldmSend 0x15 0x80 [] }) ∧
      (∀ offset data last, s.dev.upd.pldm = true → (offset % 4 ≠ 0 ∨ bankSize < offset + 4 * data.length) →
        exec (.pldmTransfer offset data last) s = .next { s with dev := s.dev.pldmSend 0x15 0x82 [] }) ∧
      (∀ data, s.dev.upd.pldm = true → s.dev.updState = 0 → 4 * data.length ≤ 32 → 0 < data.length →
        ∃ u, exec (.pldmTransfer 0 data false) s = .next u ∧ u.dev.upd.erasing = true ∧
          u.dev.bank s.dev.inactive = (⟨1, [], []⟩ : Bank).write 0 data ∧
          u.dev.out = .sideband 1 (octets [0, 5, 0x15, 0] ++ []) :: .flash s.dev.inactive 0 data :: s.dev.out) ∧
      (∀ room fits, s.dev.upd.pldm = false →
        exec (.pldmActivateFirmware room fits) s = .next { s with dev := s.dev.pldmSend 0x1A 0x80 [] }) ∧
      (∀ room fits, s.dev.upd.pldm = true → s.dev.actRefuse none room fits = none →
        ∃ u token, exec (.pldmActivateFirmware room fits) s = .next u ∧ u.dev.updState = 4 ∧ u.dev.upd.pldm = false ∧
          u.dev.upd.act = some ⟨token, none, none, some (s.dev.time + 100000000), [⟨s.dev.selfId, true, none, false⟩], true, false⟩)) ∧
    (s.dev.recovering = true →
      (∀ req, s.dev.upd.pldm = false → ∃ u, exec (.pldmRequestUpdate req) s = .next u ∧ u.dev.upd.pldm = true ∧
        u.dev.bank 0 = ⟨1, [], []⟩) ∧
      (∀ offset data last, s.dev.upd.pldm = true → offset % 4 = 0 → offset + 4 * data.length ≤ bankSize →
        ∃ u, exec (.pldmTransfer offset data last) s = .next u ∧ u.dev.bank 0 = (s.dev.bank 0).write offset data) ∧
      (∀ room fits is, s.dev.upd.pldm = true → s.dev.bankCheck 0 = (0, is) → s.dev.inForce = 0 →
        ∃ u, exec (.pldmActivateFirmware room fits) s = .next u ∧ u.dev.stage? = 2 ∧ (u.dev.bank 0).state = 4 ∧
          u.dev.upd.recovery = false) ∧
      (∀ room fits r is, s.dev.upd.pldm = true → s.dev.bankCheck 0 = (r, is) → r ≠ 0 →
        ∃ u, exec (.pldmActivateFirmware room fits) s = .next u ∧ u.dev.stage? = s.dev.stage? ∧ (u.dev.bank 0).state = 6))

/-- DEVICE_RESET. Bad parameters are refused; a DEVICE reset returns the device to the boot's first stage with nothing
outstanding, and answers nothing; a domain's reset puts that domain back, writes its record and answers OK; an engine out of
service answers FAULTED, and one in service leaves service while the command waits for its tasting. -/
def Obligations.DeviceResetPutsADomainBack : Prop :=
  ∀ (s : State) (m : Fin 16) (tag : Fin 4096) (gen : Fin 16) (c : Cmd), s.dev.running = true →
    s.dev.started m.val tag.val gen.val 0x0009 c →
    (deviceResetBad c s.dev = true →
      exec (.deviceReset m tag gen) s = .next { s with dev := s.dev.finish m.val tag.val gen.val (Res.st stBadParam) }) ∧
    (deviceResetBad c s.dev = false →
      (c.pf 0 0 8 = 0 → ∃ u, exec (.deviceReset m tag gen) s = .next u ∧ u.dev.stage? = 0 ∧ u.dev.halted = false ∧
        u.dev.cmd = Dev.reset.cmd ∧ u.dev.prs = Dev.reset.prs ∧ u.dev.pins.txdis = 0xFFFF) ∧
      (c.pf 0 0 8 = 3 → s.dev.bit Reg.CRY_ENGINES (16 + c.pf 0 8 8) = true →
        exec (.deviceReset m tag gen) s = .next { s with dev := s.dev.finish m.val tag.val gen.val (Res.st stFaulted) }) ∧
      (c.pf 0 0 8 = 3 → s.dev.bit Reg.CRY_ENGINES (16 + c.pf 0 8 8) = false →
        ∃ u, exec (.deviceReset m tag gen) s = .next u ∧ u.dev.bit Reg.CRY_ENGINES (c.pf 0 8 8) = false ∧
          u.dev.started m.val tag.val gen.val 0x0009 c) ∧
      (c.pf 0 0 8 = 2 → exec (.deviceReset m tag gen) s = .next { s with dev :=
        (((s.dev.resetCluster (c.pf 0 8 8)).resetRecord 3 11 (16 * c.pf 0 8 8)).finish m.val tag.val gen.val (Res.ok [])) }) ∧
      (c.pf 0 0 8 = 4 → exec (.deviceReset m tag gen) s = .next { s with dev :=
        (((s.dev.resetChannel (c.pf 0 8 8)).resetRecord 3 6 (c.pf 0 8 8)).finish m.val tag.val gen.val (Res.ok [])) }) ∧
      (c.pf 0 0 8 = 5 → exec (.deviceReset m tag gen) s = .next { s with dev :=
        ((s.dev.resetSto.resetRecord 3 13 0).finish m.val tag.val gen.val (Res.ok [])) }) ∧
      (c.pf 0 0 8 = 6 → ∃ u, exec (.deviceReset m tag gen) s = .next u ∧ u.dev.finished m.val tag.val gen.val stOK [] ∧
        u.dev.pbu.rows = [] ∧ u.dev.pbu.nodes = []) ∧
      (c.pf 0 0 8 = 7 → exec (.deviceReset m tag gen) s = .next { s with dev :=
        ((s.dev.resetTrl.resetRecord 3 20 0).finish m.val tag.val gen.val (Res.ok [])) }) ∧
      (c.pf 0 0 8 = 8 → ∃ u, exec (.deviceReset m tag gen) s = .next u ∧ u.dev.finished m.val tag.val gen.val stOK [] ∧
        ∀ i, i < 32 → u.dev.bit (Reg.MAC_MGT_RXSLOT (512 * i)) 31 = false ∧ u.dev.bit (Reg.MAC_MGT_TXSLOT (512 * i)) 31 = false))

/-- FLT_HALT_RESET. Its key, written on a halted device, resets it; any other value, and any write on a device that is not
halted, is ignored. -/
def Obligations.HaltResetTakesItsKeyAlone : Prop :=
  ∀ (s : State) (v : Word),
    (s.dev.halted = true → s.dev.pins.rstLow = false → v = 0x5A170001#32 →
      ∃ u, exec (.fltHaltResetWrite v) s = .next u ∧ u.dev.halted = false ∧ u.dev.stage? = 0 ∧ u.dev.cmd = Dev.reset.cmd ∧
        u.dev.rng = Dev.reset.rng ∧ u.dev.prs = Dev.reset.prs ∧ (∀ m hi, exec (.registerWrite m .bar0 Reg.FLT_HALT_RESET 4 v hi) s =
          exec (.fltHaltResetWrite v) s)) ∧
    ((s.dev.halted = false ∨ s.dev.pins.rstLow = true ∨ v ≠ 0x5A170001#32) → exec (.fltHaltResetWrite v) s = .next s)

/-- With SYS_RST_N low only its release lets the device do anything: any other step leaves it in reset, with its registers as
they are but for the count of JTAG instructions refused, and of the rest nothing but the pins, the latched life cycle, and what
JTAG sends out, changes. -/
def Obligations.InResetNothingRuns : Prop :=
  ∀ s t : State, s.dev.pins.rstLow = true → (∀ tid hold, s.pending.head? ≠ some (.sysRstDeassert tid hold)) → step s = .next t →
    t.dev.pins.rstLow = true ∧ s.dev.sameRegsBut t.dev [Reg.LCS_DENIED_JTAG] ∧ t.dev.rf.stg = s.dev.rf.stg ∧
    t.dev = { s.dev with rf := t.dev.rf, pins := t.dev.pins, lcs := { s.dev.lcs with latch := t.dev.lcs.latch },
                         out := t.dev.out, freeCtr := t.dev.freeCtr }

/-- A device halted after its boot stays halted: no step but SYS_RST_N going low and the key of FLT_HALT_RESET ends the halt,
and, with the rows of the host links' PHYs set aside, no step changes any register but those of supplies, the partner's signal
and refused JTAG instructions, or any frame, command taken, thread, connection, key, item or angle. -/
def Obligations.HaltHoldsUntilReset : Prop :=
  ∀ s t : State, s.dev.halted = true → s.dev.stage? = 7 → s.dev.pins.rstLow = false → s.pending.head?.all keepsHalt = true →
    step s = .next t →
    t.dev.halted = true ∧ t.dev.stage? = 7 ∧ t.dev.pins.rstLow = false ∧ t.dev.pins.txdis = s.dev.pins.txdis ∧
    s.dev.sameRegsBut t.dev [Reg.GLB_SUPPLY_FAULT, Reg.GLB_EVT_STATUS, Reg.GLB_PAIR, Reg.LCS_DENIED_JTAG] ∧
    t.dev = { s.dev with rf := t.dev.rf, cmd := { s.dev.cmd with outPend := t.dev.cmd.outPend }, pins := t.dev.pins,
                         lcs := { s.dev.lcs with latch := t.dev.lcs.latch }, out := t.dev.out, freeCtr := t.dev.freeCtr }

/-- The machine after reset: the boot's stage 0, nothing queued and no command outstanding, every slice FREE with incarnation 0,
no reference running, and the registers named at the values the spec gives. -/
def Obligations.ResetStateIsAsTheSpecGives : Prop :=
  State.reset.pending = [] ∧ State.reset.dev.stage? = 0 ∧ State.reset.dev.running = false ∧ State.reset.dev.halted = false ∧
  State.reset.dev.noWork ∧ State.reset.dev.rf.wf = true ∧
  (∀ sl, State.reset.dev.incarnation sl = 0) ∧ (∀ n : Fin 4, State.reset.dev.refState n.val = 0 ∧ State.reset.dev.cycle n.val = 0) ∧
  (∀ k, State.reset.dev.reg k = resetOf k) ∧ State.reset.dev.reg Reg.FLT_CTRL = 0x01F403E8
end

