-- ==== Sys2Proof/Laws/Bits.lean ====
section
/-! SUPPORT. Bit fields: reading a field after one is replaced. -/

namespace Sys2Proof

theorem Word.bit_fld (w : Word) (lo n i : Nat) : (Word.fld w lo n).testBit i = (decide (i < n) && w.getLsbD (lo + i)) := by
  simp [Word.fld, Nat.testBit_mod_two_pow, BitVec.getLsbD]

theorem Word.getLsbD_setFld (w : Word) (lo n v i : Nat) (h : i < 32) :
    (Word.setFld w lo n v).getLsbD i = if lo ≤ i ∧ i < lo + n then v.testBit (i - lo) else w.getLsbD i := by
  unfold Word.setFld
  simp only [BitVec.getLsbD_or, BitVec.getLsbD_and, BitVec.getLsbD_not, BitVec.getLsbD_ofNat, h, decide_true, Bool.true_and,
    Nat.testBit_shiftLeft, Nat.testBit_two_pow_sub_one, Nat.testBit_mod_two_pow]
  by_cases h1 : lo ≤ i
  · by_cases h2 : i < lo + n
    · have : i - lo < n := by omega
      simp [h1, h2, this]
    · have : ¬ (i - lo < n) := by omega
      simp [h1, h2, this]
  · simp [h1]

/-- A field reads as it was replaced. -/
theorem Word.fld_setFld_same (w : Word) (lo n v : Nat) (h : lo + n ≤ 32) :
    Word.fld (Word.setFld w lo n v) lo n = v % 2 ^ n := by
  apply Nat.eq_of_testBit_eq
  intro i
  rw [Word.bit_fld, Nat.testBit_mod_two_pow]
  by_cases hi : i < n
  · rw [Word.getLsbD_setFld _ _ _ _ _ (by omega)]
    have h2 : lo ≤ lo + i ∧ lo + i < lo + n := by omega
    simp [hi]
  · simp [hi]

/-- A field reads as before where one beside it is replaced. -/
theorem Word.fld_setFld_other (w : Word) (lo n v l m : Nat) (h : l + m ≤ 32) (hd : l + m ≤ lo ∨ lo + n ≤ l) :
    Word.fld (Word.setFld w lo n v) l m = Word.fld w l m := by
  apply Nat.eq_of_testBit_eq
  intro i
  rw [Word.bit_fld, Word.bit_fld]
  by_cases hi : i < m
  · rw [Word.getLsbD_setFld _ _ _ _ _ (by omega)]
    have h2 : ¬ (lo ≤ l + i ∧ l + i < lo + n) := by omega
    simp [h2]
  · simp [hi]

theorem Word.bit_setFld_other (w : Word) (lo n v i : Nat) (h : i < 32) (hd : i < lo ∨ lo + n ≤ i) :
    Word.bit (Word.setFld w lo n v) i = Word.bit w i := by
  have h2 : ¬ (lo ≤ i ∧ i < lo + n) := by omega
  have := Word.getLsbD_setFld w lo n v i h
  simp only [h2, if_false] at this
  exact this

/-- A bit reads as it was set. -/
theorem Word.bit_setBit_same (w : Word) (i : Nat) (b : Bool) (h : i < 32) : Word.bit (Word.setBit w i b) i = b := by
  have := Word.getLsbD_setFld w i 1 (if b then 1 else 0) i h
  simp only [Nat.le_refl, Nat.lt_add_one, and_self, if_true, Nat.sub_self] at this
  unfold Word.setBit Word.bit
  cases b <;> simpa [BitVec.getLsbD] using this

theorem Word.bit_setBit_other (w : Word) (i j : Nat) (b : Bool) (h : j < 32) (hd : j ≠ i) :
    Word.bit (Word.setBit w i b) j = Word.bit w j :=
  Word.bit_setFld_other w i 1 _ j h (by omega)

theorem Word.fld_lt (w : Word) (lo n : Nat) : Word.fld w lo n < 2 ^ n := Nat.mod_lt _ (Nat.two_pow_pos n)

end Sys2Proof
end

