-- ==== Sys2Proof/Laws/Map.lean ====
section
/-! SUPPORT. The sparse maps: reading after a write, and that every operation keeps the keys rising. -/

namespace Sys2Proof.Map

theorem get?_put_same {α : Type} (m : Map α) (k : Nat) (v : α) : get? (put m k v) k = some v := by
  induction m with
  | nil => simp [put, get?]
  | cons e r ih =>
    obtain ⟨j, w⟩ := e
    unfold put
    split
    · simp [get?]
    · split
      · simp [get?]
      · have h : j ≠ k := fun h => by omega
        simp [get?, h, ih]

theorem get?_put_other {α : Type} (m : Map α) (k j : Nat) (v : α) (h : j ≠ k) : get? (put m k v) j = get? m j := by
  induction m with
  | nil => simp [put, get?, Ne.symm h]
  | cons e r ih =>
    obtain ⟨i, w⟩ := e
    unfold put
    split
    · simp [get?, Ne.symm h]
    · split
      · next hk => subst hk; simp [get?, Ne.symm h]
      · simp only [get?, ih]

theorem get?_del_same {α : Type} (m : Map α) (k : Nat) : get? (del m k) k = none := by
  induction m with
  | nil => rfl
  | cons e r ih =>
    obtain ⟨j, w⟩ := e
    unfold del
    split
    · exact ih
    · next h => simp [get?, h, ih]

theorem get?_del_other {α : Type} (m : Map α) (k j : Nat) (h : j ≠ k) : get? (del m k) j = get? m j := by
  induction m with
  | nil => rfl
  | cons e r ih =>
    obtain ⟨i, w⟩ := e
    unfold del
    split
    · next hk => subst hk; simp [get?, Ne.symm h, ih]
    · simp only [get?, ih]

/-- What is read after a write: the written value under the key written, else what was there. -/
theorem get?_put {α : Type} (m : Map α) (k j : Nat) (v : α) : get? (put m k v) j = if j = k then some v else get? m j := by
  split
  · next h => subst h; exact get?_put_same m j v
  · next h => exact get?_put_other m k j v h

theorem get?_del {α : Type} (m : Map α) (k j : Nat) : get? (del m k) j = if j = k then none else get? m j := by
  split
  · next h => subst h; exact get?_del_same m j
  · next h => exact get?_del_other m k j h

/-- Reading with a default, after a write that lists nothing at the default. -/
theorem getD_putD {α : Type} [DecidableEq α] (m : Map α) (k j : Nat) (z v : α) :
    (get? (putD m k z v) j).getD z = if j = k then v else (get? m j).getD z := by
  unfold putD
  split
  · next h => rw [get?_del]; split <;> simp [h]
  · rw [get?_put]; split <;> simp

@[simp] theorem getD_put {α : Type} (m : Map α) (k j : Nat) (z v : α) :
    getD (put m k v) j z = if j = k then v else getD m j z := by
  unfold getD; rw [get?_put]; split <;> rfl

/-! ## The canonical form -/

theorem above_mono {α : Type} {a b : Nat} (h : a ≤ b) : ∀ m : Map α, above b m = true → above a m = true
  | [], _ => rfl
  | (j, _) :: r, hm => by
    simp only [above, Bool.and_eq_true, decide_eq_true_eq] at hm ⊢
    exact ⟨by omega, hm.2⟩

theorem wf_of_above {α : Type} {b : Nat} : ∀ m : Map α, above b m = true → wf m = true
  | [], _ => rfl
  | (_, _) :: _, hm => by
    simp only [above, Bool.and_eq_true] at hm
    exact hm.2

theorem above_put {α : Type} {b : Nat} (k : Nat) (v : α) (hk : b < k) :
    ∀ m : Map α, above b m = true → above b (put m k v) = true
  | [], _ => by simp [put, above, hk]
  | (j, w) :: r, hm => by
    simp only [above, Bool.and_eq_true, decide_eq_true_eq] at hm
    unfold put
    split
    · next h => simp only [above, Bool.and_eq_true, decide_eq_true_eq]; exact ⟨hk, h, hm.2⟩
    · split
      · next h => simp only [above, Bool.and_eq_true, decide_eq_true_eq]; exact ⟨hk, h ▸ hm.2⟩
      · next h1 h2 =>
        simp only [above, Bool.and_eq_true, decide_eq_true_eq]
        exact ⟨hm.1, above_put k v (by omega) r hm.2⟩

/-- A write keeps the keys rising. -/
theorem wf_put {α : Type} (m : Map α) (k : Nat) (v : α) (h : wf m = true) : wf (put m k v) = true := by
  cases m with
  | nil => simp [put, wf, above]
  | cons e r =>
    obtain ⟨j, w⟩ := e
    unfold put
    split
    · next hk => simp only [wf, above, Bool.and_eq_true, decide_eq_true_eq]; exact ⟨hk, h⟩
    · split
      · next hk => subst hk; exact h
      · next h1 h2 => exact above_put k v (by omega) r h

theorem above_del {α : Type} {b : Nat} (k : Nat) : ∀ m : Map α, above b m = true → above b (del m k) = true
  | [], _ => rfl
  | (j, w) :: r, hm => by
    simp only [above, Bool.and_eq_true, decide_eq_true_eq] at hm
    unfold del
    split
    · exact above_del k r (above_mono (by omega) r hm.2)
    · simp only [above, Bool.and_eq_true, decide_eq_true_eq]
      exact ⟨hm.1, above_del k r hm.2⟩

/-- A removal keeps the keys rising. -/
theorem wf_del {α : Type} (m : Map α) (k : Nat) (h : wf m = true) : wf (del m k) = true := by
  cases m with
  | nil => rfl
  | cons e r =>
    obtain ⟨j, w⟩ := e
    unfold del
    split
    · exact wf_of_above _ (above_del k r h)
    · exact above_del k r h

theorem wf_putD {α : Type} [DecidableEq α] (m : Map α) (k : Nat) (z v : α) (h : wf m = true) : wf (putD m k z v) = true := by
  unfold putD
  split
  · exact wf_del m k h
  · exact wf_put m k v h

end Sys2Proof.Map
end

