-- ==== Sys2Proof/Laws/State.lean ====
section
/-! SUPPORT. One lemma per field of the state per named update: what the update leaves alone. -/

namespace Sys2Proof.Machine

@[simp] theorem Dev.setReg_glb (d : Dev) (k : Nat) (v : Word) : (d.setReg k v).glb = d.glb := rfl
@[simp] theorem Dev.setReg_gau (d : Dev) (k : Nat) (v : Word) : (d.setReg k v).gau = d.gau := rfl
@[simp] theorem Dev.setReg_ebs (d : Dev) (k : Nat) (v : Word) : (d.setReg k v).ebs = d.ebs := rfl
@[simp] theorem Dev.setReg_age (d : Dev) (k : Nat) (v : Word) : (d.setReg k v).age = d.age := rfl
@[simp] theorem Dev.setReg_cmd (d : Dev) (k : Nat) (v : Word) : (d.setReg k v).cmd = d.cmd := rfl
@[simp] theorem Dev.setReg_pce (d : Dev) (k : Nat) (v : Word) : (d.setReg k v).pce = d.pce := rfl
@[simp] theorem Dev.setReg_slc (d : Dev) (k : Nat) (v : Word) : (d.setReg k v).slc = d.slc := rfl
@[simp] theorem Dev.setReg_rng (d : Dev) (k : Nat) (v : Word) : (d.setReg k v).rng = d.rng := rfl
@[simp] theorem Dev.setReg_dma (d : Dev) (k : Nat) (v : Word) : (d.setReg k v).dma = d.dma := rfl
@[simp] theorem Dev.setReg_prs (d : Dev) (k : Nat) (v : Word) : (d.setReg k v).prs = d.prs := rfl
@[simp] theorem Dev.setReg_cls (d : Dev) (k : Nat) (v : Word) : (d.setReg k v).cls = d.cls := rfl
@[simp] theorem Dev.setReg_fwd (d : Dev) (k : Nat) (v : Word) : (d.setReg k v).fwd = d.fwd := rfl
@[simp] theorem Dev.setReg_fpc (d : Dev) (k : Nat) (v : Word) : (d.setReg k v).fpc = d.fpc := rfl
@[simp] theorem Dev.setReg_cry (d : Dev) (k : Nat) (v : Word) : (d.setReg k v).cry = d.cry := rfl
@[simp] theorem Dev.setReg_sch (d : Dev) (k : Nat) (v : Word) : (d.setReg k v).sch = d.sch := rfl
@[simp] theorem Dev.setReg_mac (d : Dev) (k : Nat) (v : Word) : (d.setReg k v).mac = d.mac := rfl
@[simp] theorem Dev.setReg_pbu (d : Dev) (k : Nat) (v : Word) : (d.setReg k v).pbu = d.pbu := rfl
@[simp] theorem Dev.setReg_sto (d : Dev) (k : Nat) (v : Word) : (d.setReg k v).sto = d.sto := rfl
@[simp] theorem Dev.setReg_trl (d : Dev) (k : Nat) (v : Word) : (d.setReg k v).trl = d.trl := rfl
@[simp] theorem Dev.setReg_flt (d : Dev) (k : Nat) (v : Word) : (d.setReg k v).flt = d.flt := rfl
@[simp] theorem Dev.setReg_lcs (d : Dev) (k : Nat) (v : Word) : (d.setReg k v).lcs = d.lcs := rfl
@[simp] theorem Dev.setReg_upd (d : Dev) (k : Nat) (v : Word) : (d.setReg k v).upd = d.upd := rfl
@[simp] theorem Dev.setReg_pins (d : Dev) (k : Nat) (v : Word) : (d.setReg k v).pins = d.pins := rfl
@[simp] theorem Dev.setReg_out (d : Dev) (k : Nat) (v : Word) : (d.setReg k v).out = d.out := rfl
@[simp] theorem Dev.setReg_freeCtr (d : Dev) (k : Nat) (v : Word) : (d.setReg k v).freeCtr = d.freeCtr := rfl
@[simp] theorem Dev.setReg_now (d : Dev) (k : Nat) (v : Word) : (d.setReg k v).now = d.now := rfl
@[simp] theorem Dev.setReg_ptp (d : Dev) (k : Nat) (v : Word) : (d.setReg k v).ptp = d.ptp := rfl

@[simp] theorem Dev.sqSet_glb (d : Dev) (k : Nat) (bits : List Nat) : (d.sqSet k bits).glb = d.glb := rfl
@[simp] theorem Dev.sqSet_gau (d : Dev) (k : Nat) (bits : List Nat) : (d.sqSet k bits).gau = d.gau := rfl
@[simp] theorem Dev.sqSet_ebs (d : Dev) (k : Nat) (bits : List Nat) : (d.sqSet k bits).ebs = d.ebs := rfl
@[simp] theorem Dev.sqSet_age (d : Dev) (k : Nat) (bits : List Nat) : (d.sqSet k bits).age = d.age := rfl
@[simp] theorem Dev.sqSet_cmd (d : Dev) (k : Nat) (bits : List Nat) : (d.sqSet k bits).cmd = d.cmd := rfl
@[simp] theorem Dev.sqSet_pce (d : Dev) (k : Nat) (bits : List Nat) : (d.sqSet k bits).pce = d.pce := rfl
@[simp] theorem Dev.sqSet_slc (d : Dev) (k : Nat) (bits : List Nat) : (d.sqSet k bits).slc = d.slc := rfl
@[simp] theorem Dev.sqSet_rng (d : Dev) (k : Nat) (bits : List Nat) : (d.sqSet k bits).rng = d.rng := rfl
@[simp] theorem Dev.sqSet_dma (d : Dev) (k : Nat) (bits : List Nat) : (d.sqSet k bits).dma = d.dma := rfl
@[simp] theorem Dev.sqSet_prs (d : Dev) (k : Nat) (bits : List Nat) : (d.sqSet k bits).prs = d.prs := rfl
@[simp] theorem Dev.sqSet_cls (d : Dev) (k : Nat) (bits : List Nat) : (d.sqSet k bits).cls = d.cls := rfl
@[simp] theorem Dev.sqSet_fwd (d : Dev) (k : Nat) (bits : List Nat) : (d.sqSet k bits).fwd = d.fwd := rfl
@[simp] theorem Dev.sqSet_fpc (d : Dev) (k : Nat) (bits : List Nat) : (d.sqSet k bits).fpc = d.fpc := rfl
@[simp] theorem Dev.sqSet_cry (d : Dev) (k : Nat) (bits : List Nat) : (d.sqSet k bits).cry = d.cry := rfl
@[simp] theorem Dev.sqSet_sch (d : Dev) (k : Nat) (bits : List Nat) : (d.sqSet k bits).sch = d.sch := rfl
@[simp] theorem Dev.sqSet_mac (d : Dev) (k : Nat) (bits : List Nat) : (d.sqSet k bits).mac = d.mac := rfl
@[simp] theorem Dev.sqSet_pbu (d : Dev) (k : Nat) (bits : List Nat) : (d.sqSet k bits).pbu = d.pbu := rfl
@[simp] theorem Dev.sqSet_sto (d : Dev) (k : Nat) (bits : List Nat) : (d.sqSet k bits).sto = d.sto := rfl
@[simp] theorem Dev.sqSet_trl (d : Dev) (k : Nat) (bits : List Nat) : (d.sqSet k bits).trl = d.trl := rfl
@[simp] theorem Dev.sqSet_flt (d : Dev) (k : Nat) (bits : List Nat) : (d.sqSet k bits).flt = d.flt := rfl
@[simp] theorem Dev.sqSet_lcs (d : Dev) (k : Nat) (bits : List Nat) : (d.sqSet k bits).lcs = d.lcs := rfl
@[simp] theorem Dev.sqSet_upd (d : Dev) (k : Nat) (bits : List Nat) : (d.sqSet k bits).upd = d.upd := rfl
@[simp] theorem Dev.sqSet_pins (d : Dev) (k : Nat) (bits : List Nat) : (d.sqSet k bits).pins = d.pins := rfl
@[simp] theorem Dev.sqSet_out (d : Dev) (k : Nat) (bits : List Nat) : (d.sqSet k bits).out = d.out := rfl
@[simp] theorem Dev.sqSet_freeCtr (d : Dev) (k : Nat) (bits : List Nat) : (d.sqSet k bits).freeCtr = d.freeCtr := rfl
@[simp] theorem Dev.sqSet_now (d : Dev) (k : Nat) (bits : List Nat) : (d.sqSet k bits).now = d.now := rfl
@[simp] theorem Dev.sqSet_ptp (d : Dev) (k : Nat) (bits : List Nat) : (d.sqSet k bits).ptp = d.ptp := rfl

@[simp] theorem Dev.stage_glb (d : Dev) (k : Nat) (v : Word) (x : Bool) (m : Nat) : (d.stage k v x m).glb = d.glb := rfl
@[simp] theorem Dev.stage_gau (d : Dev) (k : Nat) (v : Word) (x : Bool) (m : Nat) : (d.stage k v x m).gau = d.gau := rfl
@[simp] theorem Dev.stage_ebs (d : Dev) (k : Nat) (v : Word) (x : Bool) (m : Nat) : (d.stage k v x m).ebs = d.ebs := rfl
@[simp] theorem Dev.stage_age (d : Dev) (k : Nat) (v : Word) (x : Bool) (m : Nat) : (d.stage k v x m).age = d.age := rfl
@[simp] theorem Dev.stage_cmd (d : Dev) (k : Nat) (v : Word) (x : Bool) (m : Nat) : (d.stage k v x m).cmd = d.cmd := rfl
@[simp] theorem Dev.stage_pce (d : Dev) (k : Nat) (v : Word) (x : Bool) (m : Nat) : (d.stage k v x m).pce = d.pce := rfl
@[simp] theorem Dev.stage_slc (d : Dev) (k : Nat) (v : Word) (x : Bool) (m : Nat) : (d.stage k v x m).slc = d.slc := rfl
@[simp] theorem Dev.stage_rng (d : Dev) (k : Nat) (v : Word) (x : Bool) (m : Nat) : (d.stage k v x m).rng = d.rng := rfl
@[simp] theorem Dev.stage_dma (d : Dev) (k : Nat) (v : Word) (x : Bool) (m : Nat) : (d.stage k v x m).dma = d.dma := rfl
@[simp] theorem Dev.stage_prs (d : Dev) (k : Nat) (v : Word) (x : Bool) (m : Nat) : (d.stage k v x m).prs = d.prs := rfl
@[simp] theorem Dev.stage_cls (d : Dev) (k : Nat) (v : Word) (x : Bool) (m : Nat) : (d.stage k v x m).cls = d.cls := rfl
@[simp] theorem Dev.stage_fwd (d : Dev) (k : Nat) (v : Word) (x : Bool) (m : Nat) : (d.stage k v x m).fwd = d.fwd := rfl
@[simp] theorem Dev.stage_fpc (d : Dev) (k : Nat) (v : Word) (x : Bool) (m : Nat) : (d.stage k v x m).fpc = d.fpc := rfl
@[simp] theorem Dev.stage_cry (d : Dev) (k : Nat) (v : Word) (x : Bool) (m : Nat) : (d.stage k v x m).cry = d.cry := rfl
@[simp] theorem Dev.stage_sch (d : Dev) (k : Nat) (v : Word) (x : Bool) (m : Nat) : (d.stage k v x m).sch = d.sch := rfl
@[simp] theorem Dev.stage_mac (d : Dev) (k : Nat) (v : Word) (x : Bool) (m : Nat) : (d.stage k v x m).mac = d.mac := rfl
@[simp] theorem Dev.stage_pbu (d : Dev) (k : Nat) (v : Word) (x : Bool) (m : Nat) : (d.stage k v x m).pbu = d.pbu := rfl
@[simp] theorem Dev.stage_sto (d : Dev) (k : Nat) (v : Word) (x : Bool) (m : Nat) : (d.stage k v x m).sto = d.sto := rfl
@[simp] theorem Dev.stage_trl (d : Dev) (k : Nat) (v : Word) (x : Bool) (m : Nat) : (d.stage k v x m).trl = d.trl := rfl
@[simp] theorem Dev.stage_flt (d : Dev) (k : Nat) (v : Word) (x : Bool) (m : Nat) : (d.stage k v x m).flt = d.flt := rfl
@[simp] theorem Dev.stage_lcs (d : Dev) (k : Nat) (v : Word) (x : Bool) (m : Nat) : (d.stage k v x m).lcs = d.lcs := rfl
@[simp] theorem Dev.stage_upd (d : Dev) (k : Nat) (v : Word) (x : Bool) (m : Nat) : (d.stage k v x m).upd = d.upd := rfl
@[simp] theorem Dev.stage_pins (d : Dev) (k : Nat) (v : Word) (x : Bool) (m : Nat) : (d.stage k v x m).pins = d.pins := rfl
@[simp] theorem Dev.stage_out (d : Dev) (k : Nat) (v : Word) (x : Bool) (m : Nat) : (d.stage k v x m).out = d.out := rfl
@[simp] theorem Dev.stage_freeCtr (d : Dev) (k : Nat) (v : Word) (x : Bool) (m : Nat) : (d.stage k v x m).freeCtr = d.freeCtr := rfl
@[simp] theorem Dev.stage_now (d : Dev) (k : Nat) (v : Word) (x : Bool) (m : Nat) : (d.stage k v x m).now = d.now := rfl
@[simp] theorem Dev.stage_ptp (d : Dev) (k : Nat) (v : Word) (x : Bool) (m : Nat) : (d.stage k v x m).ptp = d.ptp := rfl

@[simp] theorem Dev.unstage_glb (d : Dev) (k : Nat) : (d.unstage k).glb = d.glb := rfl
@[simp] theorem Dev.unstage_gau (d : Dev) (k : Nat) : (d.unstage k).gau = d.gau := rfl
@[simp] theorem Dev.unstage_ebs (d : Dev) (k : Nat) : (d.unstage k).ebs = d.ebs := rfl
@[simp] theorem Dev.unstage_age (d : Dev) (k : Nat) : (d.unstage k).age = d.age := rfl
@[simp] theorem Dev.unstage_cmd (d : Dev) (k : Nat) : (d.unstage k).cmd = d.cmd := rfl
@[simp] theorem Dev.unstage_pce (d : Dev) (k : Nat) : (d.unstage k).pce = d.pce := rfl
@[simp] theorem Dev.unstage_slc (d : Dev) (k : Nat) : (d.unstage k).slc = d.slc := rfl
@[simp] theorem Dev.unstage_rng (d : Dev) (k : Nat) : (d.unstage k).rng = d.rng := rfl
@[simp] theorem Dev.unstage_dma (d : Dev) (k : Nat) : (d.unstage k).dma = d.dma := rfl
@[simp] theorem Dev.unstage_prs (d : Dev) (k : Nat) : (d.unstage k).prs = d.prs := rfl
@[simp] theorem Dev.unstage_cls (d : Dev) (k : Nat) : (d.unstage k).cls = d.cls := rfl
@[simp] theorem Dev.unstage_fwd (d : Dev) (k : Nat) : (d.unstage k).fwd = d.fwd := rfl
@[simp] theorem Dev.unstage_fpc (d : Dev) (k : Nat) : (d.unstage k).fpc = d.fpc := rfl
@[simp] theorem Dev.unstage_cry (d : Dev) (k : Nat) : (d.unstage k).cry = d.cry := rfl
@[simp] theorem Dev.unstage_sch (d : Dev) (k : Nat) : (d.unstage k).sch = d.sch := rfl
@[simp] theorem Dev.unstage_mac (d : Dev) (k : Nat) : (d.unstage k).mac = d.mac := rfl
@[simp] theorem Dev.unstage_pbu (d : Dev) (k : Nat) : (d.unstage k).pbu = d.pbu := rfl
@[simp] theorem Dev.unstage_sto (d : Dev) (k : Nat) : (d.unstage k).sto = d.sto := rfl
@[simp] theorem Dev.unstage_trl (d : Dev) (k : Nat) : (d.unstage k).trl = d.trl := rfl
@[simp] theorem Dev.unstage_flt (d : Dev) (k : Nat) : (d.unstage k).flt = d.flt := rfl
@[simp] theorem Dev.unstage_lcs (d : Dev) (k : Nat) : (d.unstage k).lcs = d.lcs := rfl
@[simp] theorem Dev.unstage_upd (d : Dev) (k : Nat) : (d.unstage k).upd = d.upd := rfl
@[simp] theorem Dev.unstage_pins (d : Dev) (k : Nat) : (d.unstage k).pins = d.pins := rfl
@[simp] theorem Dev.unstage_out (d : Dev) (k : Nat) : (d.unstage k).out = d.out := rfl
@[simp] theorem Dev.unstage_freeCtr (d : Dev) (k : Nat) : (d.unstage k).freeCtr = d.freeCtr := rfl
@[simp] theorem Dev.unstage_now (d : Dev) (k : Nat) : (d.unstage k).now = d.now := rfl
@[simp] theorem Dev.unstage_ptp (d : Dev) (k : Nat) : (d.unstage k).ptp = d.ptp := rfl

@[simp] theorem Dev.markExpert_glb (d : Dev) (k : Nat) (x : Bool) : (d.markExpert k x).glb = d.glb := rfl
@[simp] theorem Dev.markExpert_gau (d : Dev) (k : Nat) (x : Bool) : (d.markExpert k x).gau = d.gau := rfl
@[simp] theorem Dev.markExpert_ebs (d : Dev) (k : Nat) (x : Bool) : (d.markExpert k x).ebs = d.ebs := rfl
@[simp] theorem Dev.markExpert_age (d : Dev) (k : Nat) (x : Bool) : (d.markExpert k x).age = d.age := rfl
@[simp] theorem Dev.markExpert_cmd (d : Dev) (k : Nat) (x : Bool) : (d.markExpert k x).cmd = d.cmd := rfl
@[simp] theorem Dev.markExpert_pce (d : Dev) (k : Nat) (x : Bool) : (d.markExpert k x).pce = d.pce := rfl
@[simp] theorem Dev.markExpert_slc (d : Dev) (k : Nat) (x : Bool) : (d.markExpert k x).slc = d.slc := rfl
@[simp] theorem Dev.markExpert_rng (d : Dev) (k : Nat) (x : Bool) : (d.markExpert k x).rng = d.rng := rfl
@[simp] theorem Dev.markExpert_dma (d : Dev) (k : Nat) (x : Bool) : (d.markExpert k x).dma = d.dma := rfl
@[simp] theorem Dev.markExpert_prs (d : Dev) (k : Nat) (x : Bool) : (d.markExpert k x).prs = d.prs := rfl
@[simp] theorem Dev.markExpert_cls (d : Dev) (k : Nat) (x : Bool) : (d.markExpert k x).cls = d.cls := rfl
@[simp] theorem Dev.markExpert_fwd (d : Dev) (k : Nat) (x : Bool) : (d.markExpert k x).fwd = d.fwd := rfl
@[simp] theorem Dev.markExpert_fpc (d : Dev) (k : Nat) (x : Bool) : (d.markExpert k x).fpc = d.fpc := rfl
@[simp] theorem Dev.markExpert_cry (d : Dev) (k : Nat) (x : Bool) : (d.markExpert k x).cry = d.cry := rfl
@[simp] theorem Dev.markExpert_sch (d : Dev) (k : Nat) (x : Bool) : (d.markExpert k x).sch = d.sch := rfl
@[simp] theorem Dev.markExpert_mac (d : Dev) (k : Nat) (x : Bool) : (d.markExpert k x).mac = d.mac := rfl
@[simp] theorem Dev.markExpert_pbu (d : Dev) (k : Nat) (x : Bool) : (d.markExpert k x).pbu = d.pbu := rfl
@[simp] theorem Dev.markExpert_sto (d : Dev) (k : Nat) (x : Bool) : (d.markExpert k x).sto = d.sto := rfl
@[simp] theorem Dev.markExpert_trl (d : Dev) (k : Nat) (x : Bool) : (d.markExpert k x).trl = d.trl := rfl
@[simp] theorem Dev.markExpert_flt (d : Dev) (k : Nat) (x : Bool) : (d.markExpert k x).flt = d.flt := rfl
@[simp] theorem Dev.markExpert_lcs (d : Dev) (k : Nat) (x : Bool) : (d.markExpert k x).lcs = d.lcs := rfl
@[simp] theorem Dev.markExpert_upd (d : Dev) (k : Nat) (x : Bool) : (d.markExpert k x).upd = d.upd := rfl
@[simp] theorem Dev.markExpert_pins (d : Dev) (k : Nat) (x : Bool) : (d.markExpert k x).pins = d.pins := rfl
@[simp] theorem Dev.markExpert_out (d : Dev) (k : Nat) (x : Bool) : (d.markExpert k x).out = d.out := rfl
@[simp] theorem Dev.markExpert_freeCtr (d : Dev) (k : Nat) (x : Bool) : (d.markExpert k x).freeCtr = d.freeCtr := rfl
@[simp] theorem Dev.markExpert_now (d : Dev) (k : Nat) (x : Bool) : (d.markExpert k x).now = d.now := rfl
@[simp] theorem Dev.markExpert_ptp (d : Dev) (k : Nat) (x : Bool) : (d.markExpert k x).ptp = d.ptp := rfl

@[simp] theorem Dev.emit_rf (d : Dev) (e : Emission) : (d.emit e).rf = d.rf := rfl
@[simp] theorem Dev.emit_glb (d : Dev) (e : Emission) : (d.emit e).glb = d.glb := rfl
@[simp] theorem Dev.emit_gau (d : Dev) (e : Emission) : (d.emit e).gau = d.gau := rfl
@[simp] theorem Dev.emit_ebs (d : Dev) (e : Emission) : (d.emit e).ebs = d.ebs := rfl
@[simp] theorem Dev.emit_age (d : Dev) (e : Emission) : (d.emit e).age = d.age := rfl
@[simp] theorem Dev.emit_cmd (d : Dev) (e : Emission) : (d.emit e).cmd = d.cmd := rfl
@[simp] theorem Dev.emit_pce (d : Dev) (e : Emission) : (d.emit e).pce = d.pce := rfl
@[simp] theorem Dev.emit_slc (d : Dev) (e : Emission) : (d.emit e).slc = d.slc := rfl
@[simp] theorem Dev.emit_rng (d : Dev) (e : Emission) : (d.emit e).rng = d.rng := rfl
@[simp] theorem Dev.emit_dma (d : Dev) (e : Emission) : (d.emit e).dma = d.dma := rfl
@[simp] theorem Dev.emit_prs (d : Dev) (e : Emission) : (d.emit e).prs = d.prs := rfl
@[simp] theorem Dev.emit_cls (d : Dev) (e : Emission) : (d.emit e).cls = d.cls := rfl
@[simp] theorem Dev.emit_fwd (d : Dev) (e : Emission) : (d.emit e).fwd = d.fwd := rfl
@[simp] theorem Dev.emit_fpc (d : Dev) (e : Emission) : (d.emit e).fpc = d.fpc := rfl
@[simp] theorem Dev.emit_cry (d : Dev) (e : Emission) : (d.emit e).cry = d.cry := rfl
@[simp] theorem Dev.emit_sch (d : Dev) (e : Emission) : (d.emit e).sch = d.sch := rfl
@[simp] theorem Dev.emit_mac (d : Dev) (e : Emission) : (d.emit e).mac = d.mac := rfl
@[simp] theorem Dev.emit_pbu (d : Dev) (e : Emission) : (d.emit e).pbu = d.pbu := rfl
@[simp] theorem Dev.emit_sto (d : Dev) (e : Emission) : (d.emit e).sto = d.sto := rfl
@[simp] theorem Dev.emit_trl (d : Dev) (e : Emission) : (d.emit e).trl = d.trl := rfl
@[simp] theorem Dev.emit_flt (d : Dev) (e : Emission) : (d.emit e).flt = d.flt := rfl
@[simp] theorem Dev.emit_lcs (d : Dev) (e : Emission) : (d.emit e).lcs = d.lcs := rfl
@[simp] theorem Dev.emit_upd (d : Dev) (e : Emission) : (d.emit e).upd = d.upd := rfl
@[simp] theorem Dev.emit_pins (d : Dev) (e : Emission) : (d.emit e).pins = d.pins := rfl
@[simp] theorem Dev.emit_freeCtr (d : Dev) (e : Emission) : (d.emit e).freeCtr = d.freeCtr := rfl
@[simp] theorem Dev.emit_now (d : Dev) (e : Emission) : (d.emit e).now = d.now := rfl
@[simp] theorem Dev.emit_ptp (d : Dev) (e : Emission) : (d.emit e).ptp = d.ptp := rfl

@[simp] theorem Dev.emit_out (d : Dev) (e : Emission) : (d.emit e).out = e :: d.out := rfl
@[simp] theorem State.onDev_dev (s : State) (f : Dev → Dev) : (s.onDev f).dev = f s.dev := rfl
@[simp] theorem State.onDev_pending (s : State) (f : Dev → Dev) : (s.onDev f).pending = s.pending := rfl

end Sys2Proof.Machine
end

