-- ==== Sys2Proof/Laws/Ops.lean ====
section
/-! SUPPORT. What the shared operations do: registers read after a write, events, what a command on a running device
answers, what an opcode's work answers. -/

namespace Sys2Proof.Machine

/-! ## Registers -/

/-- A register read after one is written. -/
theorem Dev.reg_setReg (d : Dev) (k j : Nat) (v : Word) : (d.setReg k v).reg j = if j = k then v else d.reg j := by
  unfold Dev.reg Dev.setReg
  by_cases h : j = k
  · subst h; simp [Map.getD_putD]
  · simp only [h, if_false]
    by_cases hv : v = resetOf k
    · simp [Map.putD, hv, Map.get?_del, h]
    · simp [Map.putD, hv, Map.get?_put, h]

@[simp] theorem Dev.reg_setReg_same (d : Dev) (k : Nat) (v : Word) : (d.setReg k v).reg k = v := by
  simp [Dev.reg_setReg]

theorem Dev.reg_setReg_other (d : Dev) {k j : Nat} (v : Word) (h : j ≠ k) : (d.setReg k v).reg j = d.reg j := by
  simp [Dev.reg_setReg, h]

@[simp] theorem Dev.reg_stage (d : Dev) (k j : Nat) (v : Word) (x : Bool) (m : Nat) : (d.stage k v x m).reg j = d.reg j := rfl
@[simp] theorem Dev.reg_unstage (d : Dev) (k j : Nat) : (d.unstage k).reg j = d.reg j := rfl
@[simp] theorem Dev.reg_markExpert (d : Dev) (k j : Nat) (x : Bool) : (d.markExpert k x).reg j = d.reg j := rfl
@[simp] theorem Dev.reg_emit (d : Dev) (e : Emission) (j : Nat) : (d.emit e).reg j = d.reg j := rfl
@[simp] theorem Dev.reg_setCmd (d : Dev) (m tag gen j : Nat) (f : Cmd → Cmd) : (d.setCmd m tag gen f).reg j = d.reg j := rfl
@[simp] theorem Dev.reg_finish (d : Dev) (m tag gen j : Nat) (r : Res) : (d.finish m tag gen r).reg j = d.reg j := rfl
@[simp] theorem Dev.rf_setCmd (d : Dev) (m tag gen : Nat) (f : Cmd → Cmd) : (d.setCmd m tag gen f).rf = d.rf := rfl
@[simp] theorem Dev.rf_finish (d : Dev) (m tag gen : Nat) (r : Res) : (d.finish m tag gen r).rf = d.rf := rfl

/-- A register other than the one an event sets keeps its value. -/
theorem Dev.reg_sqSet_other (d : Dev) {k j : Nat} (bits : List Nat) (h : j ≠ k) : (d.sqSet k bits).reg j = d.reg j :=
  Dev.reg_setReg_other d _ h

theorem Dev.reg_setFld (d : Dev) (k lo n v j : Nat) :
    (d.setFld k lo n v).reg j = if j = k then Word.setFld (d.reg k) lo n v else d.reg j := Dev.reg_setReg d k j _

theorem Dev.fld_setFld_same (d : Dev) (k lo n v : Nat) (h : lo + n ≤ 32) : (d.setFld k lo n v).fld k lo n = v % 2 ^ n := by
  simp [Dev.fld, Dev.setFld, Word.fld_setFld_same _ _ _ _ h]

theorem Dev.bit_setBit_same (d : Dev) (k i : Nat) (b : Bool) (h : i < 32) : (d.setBit k i b).bit k i = b := by
  have := Word.bit_setBit_same (d.reg k) i b h
  simpa [Dev.bit, Dev.setBit, Dev.setFld, Word.setBit] using this

theorem Dev.staged_stage (d : Dev) (k j : Nat) (v : Word) (x : Bool) (m : Nat) :
    (d.stage k v x m).staged j = if j = k then v &&& maskOf k ||| (d.reg k &&& ~~~ maskOf k) else d.staged j := by
  unfold Dev.staged Dev.stage
  by_cases h : j = k
  · simp [Map.get?_put, h]
  · simp only [Map.get?_put, h, if_false]; rfl

/-! ## The canonical form of the register file -/

theorem Dev.wf_setReg (d : Dev) (k : Nat) (v : Word) (h : Map.wf d.rf.act = true) : Map.wf (d.setReg k v).rf.act = true :=
  Map.wf_putD d.rf.act k (resetOf k) v h

theorem Dev.wf_stage (d : Dev) (k : Nat) (v : Word) (x : Bool) (m : Nat) (h : Map.wf d.rf.stg = true) :
    Map.wf (d.stage k v x m).rf.stg = true := Map.wf_put d.rf.stg k _ h

/-! ## Events -/

/-- A write to an SQ register with a stale sequence number does nothing (R99). -/
theorem Dev.sqClear_stale (d : Dev) (k : Nat) (v : Word) (h : Word.fld v 24 8 ≠ d.fld k 24 8) : d.sqClear k v = d := by
  unfold Dev.sqClear
  have : ¬ Word.fld v 24 8 = Word.fld (d.reg k) 24 8 := h
  simp [this]

/-! ## Commands on a running device -/

theorem act_run {f : Dev → Dev} {s : State} (h : s.dev.running = true) : act f s = .next { s with dev := f s.dev } := by
  simp [act, State.onDev, Dev.live, h]

theorem act_dead {f : Dev → Dev} {s : State} (h : s.dev.running = false) : act f s = .next s := by
  simp [act, State.onDev, Dev.live, h]

/-- Everything a command on the device can do to the state: the device changes, or nothing does; the queue stays. -/
theorem act_cases (f : Dev → Dev) (s : State) :
    ∃ t, act f s = .next t ∧ t.pending = s.pending ∧ (t.dev = f s.dev ∨ t.dev = s.dev) := by
  cases h : s.dev.running
  · exact ⟨s, act_dead h, rfl, .inr rfl⟩
  · exact ⟨_, act_run h, rfl, .inl rfl⟩

theorem Dev.cmd?_finish (d : Dev) (m tag gen : Nat) (r : Res) (c : Cmd) (h : d.cmd? m tag gen = some c) :
    (d.finish m tag gen r).cmd? m tag gen = some { c with
      phase := .finished, status := if r.expert && decide (r.status = stOK) then stExpert else r.status,
      expert := r.expert, reply := r.data } := by
  unfold Dev.cmd? at h ⊢
  unfold Dev.finish Dev.setCmd
  simp only
  generalize d.cmd.cmds = l at h
  induction l with
  | nil => simp at h
  | cons x xs ih =>
    by_cases hx : isCmd m tag gen x = true
    · have hc : x = c := by simpa [List.find?, hx] using h
      subst hc
      have : isCmd m tag gen { x with
          phase := .finished, status := if r.expert && decide (r.status = stOK) then stExpert else r.status,
          expert := r.expert, reply := r.data } = true := hx
      simp only [List.map, hx, if_true, List.find?, this]
    · simp only [Bool.not_eq_true] at hx
      simp only [List.find?, hx] at h
      simp only [List.map, hx, Bool.false_eq_true, if_false, List.find?]
      exact ih h

/-- What a started opcode's work leaves: its result in the command's record, or the record as the work left it. -/
theorem Dev.runOp_some {d d' : Dev} {op m tag gen : Nat} {f : Cmd → Dev → Dev × Option Res} {c : Cmd} {r : Res}
    (hc : d.cmd? m tag gen = some c) (ho : c.opcode = op) (hp : c.phase = .started) (hf : f c d = (d', some r)) :
    d.runOp op m tag gen f = d'.finish m tag gen r := by
  simp [Dev.runOp, hc, ho, hp, hf]

theorem Dev.runOp_none {d d' : Dev} {op m tag gen : Nat} {f : Cmd → Dev → Dev × Option Res} {c : Cmd}
    (hc : d.cmd? m tag gen = some c) (ho : c.opcode = op) (hp : c.phase = .started) (hf : f c d = (d', none)) :
    d.runOp op m tag gen f = d' := by
  simp [Dev.runOp, hc, ho, hp, hf]

end Sys2Proof.Machine
end

