-- ==== Sys2Proof/Laws/Strobe.lean ====
section
/-! SUPPORT. What a bottling strobe does to registers that belong to no pair, to no shadow set and have no effect of their own
when they change: each register of a named group takes its staged value. -/

namespace Sys2Proof.Machine

/-- A staged register that is in no pair and in no shadow set, and whose change has no effect beyond its value. -/
def PlainKey (k : Nat) : Prop :=
  shadowOf k = none ∧ (∀ d : Dev, d.pairOf k = none) ∧ (∀ (d : Dev) (old : Word), d.hook k old = d) ∧ ∀ d : Dev, d.beforeLate k = d

/-- Every register that holds a staged write is plain. -/
def Dev.PlainStaged (d : Dev) : Prop := ∀ p ∈ d.rf.stg, PlainKey p.1

theorem Map.get?_none_of_not_mem {α : Type} (m : Map α) (k : Nat) (h : ∀ p ∈ m, p.1 ≠ k) : Map.get? m k = none := by
  induction m with
  | nil => rfl
  | cons e r ih =>
    obtain ⟨j, v⟩ := e
    have hj : j ≠ k := h (j, v) (by simp)
    simp only [Map.get?, hj, if_false]
    exact ih (fun p hp => h p (by simp [hp]))

theorem Map.mem_of_get? {α : Type} (m : Map α) (k : Nat) (v : α) (h : Map.get? m k = some v) : (k, v) ∈ m := by
  induction m with
  | nil => simp [Map.get?] at h
  | cons e r ih =>
    obtain ⟨j, w⟩ := e
    simp only [Map.get?] at h
    split at h
    · next hj => subst hj; simp at h; subst h; simp
    · exact List.mem_cons_of_mem _ (ih h)

theorem Map.mem_del {α : Type} (m : Map α) (k : Nat) (p : Nat × α) (h : p ∈ Map.del m k) : p ∈ m := by
  induction m with
  | nil => simp [Map.del] at h
  | cons e r ih =>
    obtain ⟨j, w⟩ := e
    simp only [Map.del] at h
    split at h
    · exact List.mem_cons_of_mem _ (ih h)
    · rcases List.mem_cons.mp h with h | h
      · subst h; simp
      · exact List.mem_cons_of_mem _ (ih h)

/-- One plain register applied. -/
theorem Dev.applyKey_plain (d : Dev) (k : Nat) (hp : PlainKey k) :
    d.applyKey k = match Map.get? d.rf.stg k with
      | none => d
      | some e => ((d.setReg k e.val).markExpert k e.expert).unstage k := by
  unfold Dev.applyKey
  cases Map.get? d.rf.stg k with
  | none => rfl
  | some e => simp [hp.1, hp.2.2.1, hp.2.2.2]

theorem Dev.reg_applyKey (d : Dev) (k j : Nat) (hp : PlainKey k) :
    (d.applyKey k).reg j = if j = k then d.staged k else d.reg j := by
  rw [Dev.applyKey_plain d k hp]
  unfold Dev.staged
  cases h : Map.get? d.rf.stg k with
  | none => by_cases hj : j = k <;> simp [hj]
  | some e => simp [Dev.reg_setReg]

theorem Dev.staged_applyKey (d : Dev) (k j : Nat) (hp : PlainKey k) : (d.applyKey k).staged j = d.staged j := by
  rw [Dev.applyKey_plain d k hp]
  cases h : Map.get? d.rf.stg k with
  | none => rfl
  | some e =>
    by_cases hj : j = k
    · subst hj
      simp [Dev.staged, Dev.unstage, Dev.markExpert, Dev.setReg, Map.get?_del, h]
      exact Dev.reg_setReg_same d j e.val
    · have : (((d.setReg k e.val).markExpert k e.expert).unstage k).reg j = d.reg j := by
        simp [Dev.reg_setReg, hj]
      unfold Dev.staged
      rw [this]
      simp [Dev.unstage, Dev.markExpert, Dev.setReg, Map.get?_del, hj]

theorem Dev.applyKey_only_rf (d : Dev) (k : Nat) (hp : PlainKey k) : ∃ rf, d.applyKey k = { d with rf := rf } := by
  rw [Dev.applyKey_plain d k hp]
  cases Map.get? d.rf.stg k with
  | none => exact ⟨d.rf, rfl⟩
  | some e => exact ⟨_, rfl⟩

theorem Dev.stg_applyKey (d : Dev) (k : Nat) (hp : PlainKey k) :
    ∀ p ∈ (d.applyKey k).rf.stg, p ∈ d.rf.stg := by
  rw [Dev.applyKey_plain d k hp]
  cases Map.get? d.rf.stg k with
  | none => exact fun p hp => hp
  | some e => exact fun p hp => Map.mem_del d.rf.stg k p hp

theorem Dev.plainStaged_applyKey (d : Dev) (k : Nat) (hp : PlainKey k) (h : d.PlainStaged) : (d.applyKey k).PlainStaged :=
  fun p hm => h p (Dev.stg_applyKey d k hp p hm)

/-- A list of plain registers applied: each takes its staged value, staged values stay as they read, and only the register file
changes. -/
theorem Dev.foldl_applyKey (ks : List Nat) (hk : ∀ k ∈ ks, PlainKey k) (d : Dev) :
    (∀ j, (ks.foldl (fun d k => d.applyKey k) d).reg j = if j ∈ ks then d.staged j else d.reg j) ∧
    (∀ j, (ks.foldl (fun d k => d.applyKey k) d).staged j = d.staged j) ∧
    (∃ rf, ks.foldl (fun d k => d.applyKey k) d = { d with rf := rf }) ∧
    (∀ p ∈ (ks.foldl (fun d k => d.applyKey k) d).rf.stg, p ∈ d.rf.stg) := by
  induction ks generalizing d with
  | nil => exact ⟨fun j => by simp, fun j => rfl, ⟨d.rf, rfl⟩, fun p h => h⟩
  | cons k ks ih =>
    have hp := hk k (by simp)
    obtain ⟨h1, h2, ⟨rf, h3⟩, h4⟩ := ih (fun j hj => hk j (by simp [hj])) (d.applyKey k)
    refine ⟨fun j => ?_, fun j => ?_, ?_, fun p hm => ?_⟩
    · show (ks.foldl (fun d k => d.applyKey k) (d.applyKey k)).reg j = _
      rw [h1, Dev.staged_applyKey d k j hp, Dev.reg_applyKey d k j hp]
      by_cases hj : j ∈ ks
      · simp [hj]
      · by_cases hjk : j = k <;> simp [hj, hjk]
    · show (ks.foldl (fun d k => d.applyKey k) (d.applyKey k)).staged j = _
      rw [h2, Dev.staged_applyKey d k j hp]
    · obtain ⟨rf', h5⟩ := Dev.applyKey_only_rf d k hp
      exact ⟨rf, by show ks.foldl (fun d k => d.applyKey k) (d.applyKey k) = _; rw [h3, h5]⟩
    · exact Dev.stg_applyKey d k hp p (h4 p hm)

theorem Dev.groupBad_plain (d : Dev) (g : Nat) (h : d.PlainStaged) : d.groupBad g = none := by
  unfold Dev.groupBad
  rw [List.findSome?_eq_none_iff]
  intro k hk
  have hm : k ∈ (d.rf.stg.filter (fun p => decide (groupOf p.1 = g))).map Prod.fst := by
    unfold Dev.groupKeys at hk
    split at hk
    · exact List.mem_reverse.mp hk
    · exact hk
  obtain ⟨p, hp, rfl⟩ := List.mem_map.mp hm
  rw [(h p (List.mem_filter.mp hp).1).2.1 d]

theorem Dev.mem_groupKeys (d : Dev) (g k : Nat) :
    k ∈ d.groupKeys g ↔ ∃ p ∈ d.rf.stg, p.1 = k ∧ groupOf k = g := by
  have : k ∈ d.groupKeys g ↔ k ∈ (d.rf.stg.filter (fun p => decide (groupOf p.1 = g))).map Prod.fst := by
    unfold Dev.groupKeys
    split
    · exact List.mem_reverse
    · exact Iff.rfl
  rw [this, List.mem_map]
  constructor
  · rintro ⟨p, hp, rfl⟩
    obtain ⟨h1, h2⟩ := List.mem_filter.mp hp
    exact ⟨p, h1, rfl, by simpa using h2⟩
  · rintro ⟨p, hp, rfl, hg⟩
    exact ⟨p, List.mem_filter.mpr ⟨hp, by simpa using hg⟩, rfl⟩

theorem Dev.staged_of_not_staged (d : Dev) (k : Nat) (h : ∀ p ∈ d.rf.stg, p.1 ≠ k) : d.staged k = d.reg k := by
  unfold Dev.staged
  rw [Map.get?_none_of_not_mem d.rf.stg k h]

/-- Groups applied where every staged register is plain: none is refused, each register of a named group takes its staged value,
every other register keeps its own, and only the register file changes. -/
theorem Dev.applyGroups_plain (gs : List Nat) (d : Dev) (h : d.PlainStaged) :
    (d.applyGroups gs).2.1 = 0 ∧ (d.applyGroups gs).2.2.1 = none ∧
    (∀ j, (d.applyGroups gs).1.reg j = if groupOf j ∈ gs then d.staged j else d.reg j) ∧
    (∀ j, (d.applyGroups gs).1.staged j = d.staged j) ∧
    (∃ rf, (d.applyGroups gs).1 = { d with rf := rf }) := by
  induction gs generalizing d with
  | nil => exact ⟨rfl, rfl, fun j => by simp [Dev.applyGroups], fun j => rfl, d.rf, rfl⟩
  | cons g gs ih =>
    have hk : ∀ k ∈ d.groupKeys g, PlainKey k := by
      intro k hk
      obtain ⟨p, hp, rfl, _⟩ := (d.mem_groupKeys g k).mp hk
      exact h p hp
    obtain ⟨f1, f2, ⟨rf, f3⟩, f4⟩ := Dev.foldl_applyKey (d.groupKeys g) hk d
    obtain ⟨i1, i2, i3, i4, ⟨rf', i5⟩⟩ := ih ((d.groupKeys g).foldl (fun d k => d.applyKey k) d) (fun p hp => h p (f4 p hp))
    have hb := d.groupBad_plain g h
    simp only [Dev.applyGroups, hb, Dev.applyKeys]
    refine ⟨i1, i2, fun j => ?_, fun j => by rw [i4, f2], rf', by rw [i5, f3]⟩
    rw [i3, f2, f1]
    by_cases hj : groupOf j ∈ gs
    · simp [hj]
    · by_cases hg : groupOf j = g
      · subst hg
        simp only [hj, if_false, List.mem_cons, true_or, if_true]
        by_cases hm : j ∈ d.groupKeys (groupOf j)
        · simp [hm]
        · simp only [hm, if_false]
          refine (d.staged_of_not_staged j ?_).symm
          intro p hp hpj
          exact hm ((d.mem_groupKeys (groupOf j) j).mpr ⟨p, hp, hpj, rfl⟩)
      · have hm : j ∉ d.groupKeys g := fun hm => hg ((d.mem_groupKeys g j).mp hm).choose_spec.2.2
        simp [hj, hg, hm]

/-- A strobe where every staged register is plain: nothing is refused, and each register of the groups named takes its staged
value; of the rest only GLB_COMMIT_STATUS changes. -/
theorem Dev.strike_plain (d : Dev) (mask : Nat) (timed : Bool) (h : d.PlainStaged) :
    (d.strike mask timed).2.refused = 0 ∧
    (∀ j, j ≠ Reg.GLB_COMMIT_STATUS →
      (d.strike mask timed).1.reg j = if groupOf j ∈ bitList 23 mask then d.staged j else d.reg j) ∧
    (∃ rf, (d.strike mask timed).1 = { d with rf := rf }) := by
  obtain ⟨h1, h2, h3, h4, rf, h5⟩ := Dev.applyGroups_plain (bitList 23 mask) d h
  unfold Dev.strike
  generalize hr : d.applyGroups (bitList 23 mask) = r at *
  obtain ⟨d', r1, r2, r3⟩ := r
  simp only at h1 h2 h3 h4 h5
  subst h1 h2
  simp only [Dev.rejectGroups, if_true]
  refine ⟨trivial, fun j hj => ?_, ?_⟩
  · rw [Dev.reg_sqSet_other _ _ hj]; exact h3 j
  · subst h5; exact ⟨_, rfl⟩

/-! ## A command that stages its writes and raises its own strobe (R130) -/

/-- What a staged write holds: the writable bits of the value, the other bits of the register. -/
def Dev.masked (d : Dev) (k : Nat) (v : Word) : Word := v &&& maskOf k ||| (d.reg k &&& ~~~ maskOf k)

theorem Map.mem_put {α : Type} (m : Map α) (k : Nat) (v : α) (p : Nat × α) (h : p ∈ Map.put m k v) : p = (k, v) ∨ p ∈ m := by
  induction m with
  | nil => simp [Map.put] at h; exact .inl h
  | cons e r ih =>
    obtain ⟨j, w⟩ := e
    simp only [Map.put] at h
    split at h
    · rcases List.mem_cons.mp h with h | h
      · exact .inl h
      · exact .inr h
    · split at h
      · rcases List.mem_cons.mp h with h | h
        · exact .inl h
        · exact .inr (List.mem_cons_of_mem _ h)
      · rcases List.mem_cons.mp h with h | h
        · exact .inr (by simp [h])
        · rcases ih h with h | h
          · exact .inl h
          · exact .inr (List.mem_cons_of_mem _ h)

theorem Dev.plainStaged_stage (d : Dev) (k : Nat) (v : Word) (x : Bool) (m : Nat) (hk : PlainKey k) (h : d.PlainStaged) :
    (d.stage k v x m).PlainStaged := by
  intro p hp
  rcases Map.mem_put d.rf.stg k _ p hp with rfl | hp
  · exact hk
  · exact h p hp

/-- Staging a list of values of distinct registers: each is staged, the others stay as they were, no register changes. -/
theorem Dev.stageAll_spec (m : Nat) (x : Bool) (ws : List (Nat × Word)) (d : Dev) (hn : (ws.map Prod.fst).Nodup) :
    (∀ j, (d.stageAll m x ws).reg j = d.reg j) ∧
    (∀ j, j ∉ ws.map Prod.fst → (d.stageAll m x ws).staged j = d.staged j) ∧
    (∀ p ∈ ws, (d.stageAll m x ws).staged p.1 = d.masked p.1 p.2) ∧
    (∃ rf, d.stageAll m x ws = { d with rf := rf }) ∧
    (d.PlainStaged → (∀ p ∈ ws, PlainKey p.1) → (d.stageAll m x ws).PlainStaged) := by
  induction ws generalizing d with
  | nil => exact ⟨fun _ => rfl, fun _ _ => rfl, by simp, ⟨d.rf, rfl⟩, fun h _ => h⟩
  | cons p ws ih =>
    obtain ⟨k, v⟩ := p
    simp only [List.map_cons, List.nodup_cons] at hn
    obtain ⟨h1, h2, h3, ⟨rf, h4⟩, h5⟩ := ih (d.stage k v x m) hn.2
    refine ⟨fun j => ?_, fun j hj => ?_, fun p hp => ?_, ⟨rf, ?_⟩, fun hs hk => ?_⟩
    · show ((d.stage k v x m).stageAll m x ws).reg j = _
      rw [h1]; rfl
    · show ((d.stage k v x m).stageAll m x ws).staged j = _
      simp only [List.map_cons, List.mem_cons, not_or] at hj
      rw [h2 j hj.2, Dev.staged_stage, if_neg hj.1]
    · show ((d.stage k v x m).stageAll m x ws).staged p.1 = _
      rcases List.mem_cons.mp hp with rfl | hp
      · rw [h2 k hn.1, Dev.staged_stage, if_pos rfl]; rfl
      · rw [h3 p hp]; rfl
    · show (d.stage k v x m).stageAll m x ws = _
      rw [h4]; rfl
    · exact h5 (d.plainStaged_stage k v x m (hk (k, v) (by simp)) hs) (fun p hp => hk p (by simp [hp]))

/-- A command that stages plain registers of its own groups, where nothing else but plain registers is staged: its strobe is not
refused, the registers take their values, the result stands, and of the rest of the device only GLB_COMMIT_SEQ,
GLB_COMMIT_STATUS and the mark that the strobe was raised change. -/
theorem Dev.stageStrobe_plain (d : Dev) (c : Cmd) (groups : Nat) (ws : List (Nat × Word)) (res : Res)
    (hs : d.rf.stg = []) (hn : (ws.map Prod.fst).Nodup) (hk : ∀ p ∈ ws, PlainKey p.1)
    (hg : ∀ p ∈ ws, groupOf p.1 ∈ bitList 23 groups) (hm : groups % 2 ^ 23 ≠ 0)
    (hq : ∀ p ∈ ws, p.1 ≠ Reg.GLB_COMMIT_SEQ ∧ p.1 ≠ Reg.GLB_COMMIT_STATUS) :
    (∃ x, (d.stageStrobe c groups ws res).2 = some { res with expert := x }) ∧
    (∀ p ∈ ws, (d.stageStrobe c groups ws res).1.reg p.1 = d.masked p.1 p.2) ∧
    (∀ j, j ∉ ws.map Prod.fst → j ≠ Reg.GLB_COMMIT_SEQ → j ≠ Reg.GLB_COMMIT_STATUS →
      (d.stageStrobe c groups ws res).1.reg j = d.reg j) ∧
    (∃ rf, (d.stageStrobe c groups ws res).1 = { d.markStrobed c with rf := rf }) := by
  have hs0 : d.PlainStaged := by intro p hp; rw [hs] at hp; simp at hp
  obtain ⟨a1, a2, a3, ⟨rf, a4⟩, a5⟩ := Dev.stageAll_spec c.master false ws d hn
  have a6 := a5 hs0 hk
  have hd0 : ∀ j, d.staged j = d.reg j := by
    intro j; exact d.staged_of_not_staged j (by rw [hs]; simp)
  generalize hd1 : d.stageAll c.master false ws = d1 at a1 a2 a3 a4 a6
  have hst : ∀ j, (d1.markStrobed c).issued.staged j =
      match Map.get? d1.rf.stg j with
      | some e => e.val
      | none => (d1.markStrobed c).issued.reg j := fun _ => rfl
  have hps : ((d1.markStrobed c).issued).PlainStaged := a6
  obtain ⟨b1, b2, ⟨rf', b3⟩⟩ := Dev.strike_plain ((d1.markStrobed c).issued) groups false hps
  have hseq : ∀ j, j ≠ Reg.GLB_COMMIT_SEQ → (d1.markStrobed c).issued.reg j = d.reg j := by
    intro j hj
    unfold Dev.issued
    rw [Dev.reg_setFld, if_neg hj]
    show d1.reg j = d.reg j
    exact a1 j
  have hstg : ∀ j, j ≠ Reg.GLB_COMMIT_SEQ → (d1.markStrobed c).issued.staged j = d1.staged j := by
    intro j hj
    rw [hst]
    unfold Dev.staged
    cases Map.get? d1.rf.stg j with
    | none => exact (hseq j hj).trans (a1 j).symm
    | some e => rfl
  have happ : ∀ j, j ≠ Reg.GLB_COMMIT_SEQ → j ≠ Reg.GLB_COMMIT_STATUS →
      (d.stageStrobe c groups ws res).1.reg j = if groupOf j ∈ bitList 23 groups then d1.staged j else d.reg j := by
    intro j h1 h2
    have : (d.stageStrobe c groups ws res).1 = (((d1.markStrobed c).issued).strike groups false).1.applied := by
      unfold Dev.stageStrobe Dev.ownStrobe Dev.strobeNow
      rw [hd1, if_neg hm]
    rw [this]
    unfold Dev.applied
    rw [Dev.reg_setFld, if_neg h1, b2 j h2, hstg j h1, hseq j h1]
  have hwhole : (d.stageStrobe c groups ws res).1 = (((d1.markStrobed c).issued).strike groups false).1.applied := by
    unfold Dev.stageStrobe Dev.ownStrobe Dev.strobeNow
    rw [hd1, if_neg hm]
  refine ⟨?_, fun p hp => ?_, fun j hj h1 h2 => ?_, ?_⟩
  · unfold Dev.stageStrobe Dev.ownStrobe Dev.strobeNow
    rw [hd1, if_neg hm]
    simp only [Res.struck, b1, Nat.zero_and, ne_eq, not_true_eq_false, if_false]
    exact ⟨_, rfl⟩
  · rw [happ p.1 (hq p hp).1 (hq p hp).2, if_pos (hg p hp), a3 p hp]
  · rw [happ j h1 h2]
    by_cases hb : groupOf j ∈ bitList 23 groups
    · rw [if_pos hb, a2 j hj, hd0]
    · rw [if_neg hb]
  · rw [hwhole, b3, a4]
    exact ⟨_, rfl⟩

end Sys2Proof.Machine
end

