-- ==== Sys2Proof/Laws/Steps.lean ====
section
/-! SUPPORT. What a command answers, by the part it belongs to: an opcode whose work ends, a row of the host links' PHYs, a firmware
device row; small facts of the records kept by number. -/

namespace Sys2Proof.Machine

/-- An opcode whose work ends: its result is kept for the reply. -/
theorem opStep_ok {s : State} {op m tag gen : Nat} {f : Cmd → Dev → Dev × Option Res} {c : Cmd} {d' : Dev} {r : Res}
    (h : s.dev.running = true) (hs : s.dev.started m tag gen op c) (hf : f c s.dev = (d', some r)) :
    opStep op f m tag gen s = .next { s with dev := d'.finish m tag gen r } := by
  unfold opStep; rw [act_run h, Dev.runOp_some hs.1 hs.2.1 hs.2.2 hf]

/-- An opcode whose work goes on: its command stays started. -/
theorem opStep_wait {s : State} {op m tag gen : Nat} {f : Cmd → Dev → Dev × Option Res} {c : Cmd} {d' : Dev}
    (h : s.dev.running = true) (hs : s.dev.started m tag gen op c) (hf : f c s.dev = (d', none)) :
    opStep op f m tag gen s = .next { s with dev := d' } := by
  unfold opStep; rw [act_run h, Dev.runOp_none hs.1 hs.2.1 hs.2.2 hf]

/-- A row of a host link's PHY acts once its PHY is on. -/
theorem actPhy_run {f : Dev → Dev} {s : State} (h : s.dev.phyOn = true) : actPhy f s = .next { s with dev := f s.dev } := by
  simp [actPhy, actAlways, State.onDev, h]

/-- A running device is not in recovery. -/
theorem Dev.recovering_of_running {d : Dev} (h : d.running = true) : d.recovering = false := by
  simp only [Dev.running, Bool.and_eq_true, decide_eq_true_eq] at h
  simp [Dev.recovering, Dev.booting, h.1.1.1]

/-- The oldest firing of an action to a target is taken where it is the first. -/
theorem Dev.takeFiring_head {d : Dev} {f : Firing} {fs : List Firing} {a t : Nat} (h : d.gau.firings = f :: fs)
    (ha : f.action = a) (ht : f.target = t) :
    d.takeFiring a t = some (f, { d with gau := { d.gau with firings := fs } }) := by
  simp [Dev.takeFiring, h, List.findIdx?_cons, ha, ht]

/-- A record read after one is put. -/
theorem Map.getD_put_any {α : Type} (m : Map α) (k j : Nat) (z v : α) :
    Map.getD (Map.put m k v) j z = if j = k then v else Map.getD m j z := by
  unfold Map.getD; rw [Map.get?_put]; split <;> rfl

/-- A function's state after one is changed. -/
theorem Dev.fn_setFn (d : Dev) (f g : Nat) (h : PFn → PFn) :
    (d.setFn f h).fn g = if g = f then h (d.fn f) else d.fn g := by
  unfold Dev.fn Dev.setFn; simp only [Map.getD_put_any]; rfl

/-! ## Reset values by block -/

/-- A row found is a row of the list. -/
theorem mem_of_findRow {rs : List RegRow} {k : Nat} {p : RegRow × Nat} (h : findRow rs k = some p) : p.1 ∈ rs := by
  induction rs with
  | nil => cases h
  | cons r rs ih =>
    simp only [findRow] at h
    split at h
    · cases h; exact List.mem_cons_self ..
    · exact List.mem_cons_of_mem _ (ih h)

/-- The position a row found gives the key. -/
theorem index_of_findRow {rs : List RegRow} {k : Nat} {p : RegRow × Nat} (h : findRow rs k = some p) : p.1.index? k = some p.2 := by
  induction rs with
  | nil => cases h
  | cons r rs ih =>
    simp only [findRow] at h
    split at h
    · rename_i i e; cases h; exact e
    · exact ih h

/-- A register resets to 0 where every row of its block does, or does not hold it. -/
theorem resetOf_zero {b k : Nat} (hk : k / 0x100000 = b)
    (h : ∀ r ∈ blockRows b, (r.reset = 0 ∧ r.rinc = 0) ∨ r.index? k = none) : resetOf k = 0 := by
  unfold resetOf rowOf
  rw [hk]
  cases e : findRow (blockRows b) k with
  | none => rfl
  | some p =>
    rcases h _ (mem_of_findRow e) with ⟨h1, h2⟩ | h1
    · simp [h1, h2]
    · rw [index_of_findRow e] at h1; cases h1

/-- The status words of the slice table reset to 0. -/
theorem resetOf_sliceStatus {sl : Nat} (h : sl < 8192) : resetOf (Reg.SLC_SLICE_STATUS sl 0) = 0 := by
  refine resetOf_zero (b := 4) (by unfold Reg.SLC_SLICE_STATUS; omega) ?_
  intro r hr
  simp only [blockRows, rowsSLC, List.mem_cons, List.not_mem_nil, or_false] at hr
  rcases hr with rfl | rfl | rfl | rfl | rfl | rfl | rfl | rfl | rfl | rfl | rfl | rfl | rfl | rfl | rfl | rfl | rfl | rfl | rfl |
    rfl | rfl | rfl | rfl | rfl | rfl
  all_goals first
    | exact .inl ⟨rfl, rfl⟩
    | (right; unfold Reg.SLC_SLICE_STATUS RegRow.index?
       simp only [ite_eq_left_iff]
       intro _
       rw [if_neg]
       simp only [Bool.and_eq_true, decide_eq_true_eq, not_and]
       omega)

end Sys2Proof.Machine
end

