-- ==== Sys2Proof/WellFormed.lean ====
section
/-! DEFINITION. Which commands spell an event that the spec's formats admit: the widths that the operand types leave
open. The machine runs an ill-formed command too; the checks say which commands the spec's formats can spell. -/

namespace Sys2Proof

/-- Bytes of BAR0 and of BAR4 that hold something (R97, R148): 64 MiB; the table and the PBA. -/
def Bar.size : Bar → Nat
  | .bar0 => 0x4000000
  | .bar4 => 0x10000

/-- A command packet of at most 16 + 4,080 bytes, in whole words (R123). -/
def packetOk (ws : List Word) : Bool := decide (4 ≤ ws.length ∧ ws.length ≤ 1024)

/-- A damaged structure exists (R475): an entry of the rule store, of the flow table. -/
def Damage.wf : Damage → Bool
  | .rule _ _ _ e _ => decide (e < 2 ^ 21)
  | .flow e => decide (e < 2 ^ 27)
  | _ => true

/-- The command's operands fit the formats of the spec. -/
def Instr.wf : Instr → Bool
  | .registerWrite _ bar off size _ _ => decide (0 < size ∧ off + size ≤ bar.size)
  | .sqClearWrite k _ => decide (k < 0x4000000 ∧ k % 4 = 0)
  | .directModeWrite _ k _ => decide (k < 0x4000000 ∧ k % 4 = 0)
  | .gsyncFrame bytes _ => decide (bytes.length = 54)
  | .mctpCommandMessage _ ws => packetOk ws
  | .mgmtChannelRequest _ (.packet ws) => packetOk ws
  | .jtagInstruction (.dbgPacket ws) => packetOk ws
  | .pageRequestResponse _ addr _ => decide (addr < 2 ^ 64)
  | .doorbellWrite _ addr size _ _ => decide (addr + size ≤ 0x2000000)
  | .nvmeResponse _ ws => decide (ws.length = 4)
  | .uncorrectableError e _ => e.wf
  | _ => true

end Sys2Proof
end

