-- ==== Sys2Proof/Tests/Slice0.lean ====
section
/-! SUPPORT. The author's tests: states that meet the hypotheses of the statements, clause by clause; ill-formed commands that the
checks refuse; single steps against values worked out from the spec. -/

namespace Sys2Proof.Machine

set_option Elab.async false

/-! ## Small states -/

/-- A device that has booted. -/
def live : State := { State.reset with dev := Dev.reset.setFld Reg.GLB_BOOT 28 4 7 }

/-- A started command of master 0, TAG 1, GEN 0. -/
def cmdOf (op slice : Nat) (ps : List Word) : Cmd :=
  ⟨0, wd op, wd (slice * 65536 + 1), wd (4080 * 65536 + 4 * ps.length), ps, .started, 1, 0, 7, false, [], 0, false, [], 0⟩

/-- A running device with one started command. -/
def cmdState (op slice : Nat) (ps : List Word) : State :=
  live.onDev (fun d => { d with cmd := { d.cmd with cmds := [cmdOf op slice ps] } })

/-- A ring item with nothing in it. -/
def item0 : Item := ⟨0, 0, 0, [], [], .reading, [], 0, 0, 0, none, none, 0, 0, none⟩

/-- A queue of a slice. -/
def State.withQ (s : State) (cq sl n : Nat) (cfg : List Word) : State :=
  s.onDev (fun d => match d.makeQueue cq sl n cfg with | some (_, t) => t | none => d)

/-- Function 0 up on link 0, and allowed to issue. -/
def State.upFn0 (s : State) : State :=
  s.onDev (fun d => { d.setReg (Reg.PCE_LINK_STATUSl 0) 0xC480 with pce := { d.pce with
    fns := [(0, { PFn.absent with present := true, bme := true })] } })

/-- A frame of port 0 with the EtherType `t`, at a place. -/
def frameAt (p : Place) (t : Nat) : Frame := Frame.new 0 0 2 p (List.replicate 12 0 ++ octets [t / 256, t % 256] ++ List.replicate 46 0) 0 0 0

/-- A running device with one frame, number 0. -/
def frameState (f : Frame) : State := live.onDev (fun d => (d.newFrame f).2)

/-- A thread in a state. -/
def State.thrIn (s : State) (t st : Nat) : State := s.onDev (fun d => d.setFld (thrReg Reg.FPC_THR_STATE t) 29 3 st)

/-- A thread with one open request. -/
def State.withReq (s : State) (t chan : Nat) (ws : List Word) : State :=
  s.onDev (fun d => d.setThread t (fun th => { th with pages := 1, reqs := [⟨9, chan, ws, none, false⟩] }))

/-- A frame of the process bus: EtherType, APPID, PDU. -/
def pbuAt (t app : Nat) (pdu : List Byte) : Frame :=
  Frame.new 0 0 2 .pbu (List.replicate 12 0 ++ beBytes 2 t ++ beBytes 2 app ++ beBytes 2 (8 + pdu.length) ++ [0, 0, 0, 0] ++ pdu) 0 0 0

/-- A savPdu of one ASDU: svID AB, smpCnt 3999, confRev 9, synchronised, one channel. -/
def sv1 : List Byte := [0x60, 34, 0x80, 1, 1, 0xA2, 29, 0x30, 27, 0x80, 2, 0x41, 0x42, 0x82, 2, 0x0F, 0x9F, 0x83, 4, 0, 0, 0, 9,
  0x85, 1, 1, 0x87, 8, 1, 2, 3, 4, 0, 0, 0, 0]

/-- A sampled-value frame of APPID 0x4000; a PDU of one byte cannot be read. -/
def svf (pdu : List Byte) : Frame := if pdu = [1] then Frame.new 0 0 2 .pbu (List.replicate 12 0 ++ [0x88, 0xBA, 0x40, 0, 0xFF, 0, 0, 0]) 0 0 0
  else pbuAt 0x88BA 0x4000 pdu

/-- A stream that matches it: 1 ASDU, 1 channel, 4,000 samples a second. -/
def svEntry (i : Nat) (d : Dev) : Dev :=
  (((d.setReg (Reg.PBU_SV i 0) 0x80004000).setReg (Reg.PBU_SV i 3) 4000).setReg (Reg.PBU_SV i 6) 2).setReg (Reg.PBU_SV i 8) 0x4241

/-- A goosePdu: gocbRef G, 2,000 ms, stNum 2, sqNum 3, confRev 1, one Boolean. -/
def go1 : List Byte := [0x61, 21, 0x80, 1, 0x47, 0x81, 2, 0x07, 0xD0, 0x85, 1, 2, 0x86, 1, 3, 0x88, 1, 1, 0xAB, 3, 0x83, 1, 1]

/-- A GOOSE frame of APPID 1. -/
def gof (pdu : List Byte) : Frame := if pdu = [1] then Frame.new 0 0 2 .pbu (List.replicate 12 0 ++ [0x88, 0xB8, 0, 1, 0xFF, 0, 0, 0]) 0 0 0
  else pbuAt 0x88B8 1 pdu

/-- A subscription that matches it. -/
def subEntry (i : Nat) (d : Dev) : Dev :=
  (((d.setReg (Reg.PBU_SUB i 0) 0x80000001).setReg (Reg.PBU_SUB i 8) 1).setReg (Reg.PBU_SUB i 9) 1).setReg (Reg.PBU_SUB i 10) 0x47

/-- The template of a publication of APPID 1. -/
def pubTemplate : List Byte := List.replicate 12 0 ++ [0x88, 0xB8, 0, 1, 0, 63, 0, 0, 0, 0, 0x61, 53, 0x80, 30] ++ List.replicate 30 0x47 ++
    [0x84, 8, 0, 0, 0, 0, 0, 0, 0, 0, 0x85, 1, 2, 0x86, 1, 3, 0xAB, 3, 0x83, 1, 1]

/-- A publication at port 3 with its template, fed by SQ 0 of slice 5. -/
def pubEntry (i : Nat) (d : Dev) : Dev :=
  (((d.setReg (Reg.PBU_PUB i 0) 0x80030005).setReg (Reg.PBU_PUB i 2) 0x00010000).setReg (Reg.PBU_PUB i 4) (wd pubTemplate.length)).setRegs
    (Reg.PBU_PUB i 16) (wordsOf 20 pubTemplate)

/-- A ring at a page with nothing else set. -/
def ringCfg : List Word := [0, 0x1000, 0, 0]

/-- Units of a pool for a slice. -/
def roomy (sl : Nat) (d : Dev) : Dev := ((d.setSlice sl 1).setReg (Reg.SLC_QUOTA4 sl) 0xFFFFFFFF).setReg (Reg.SLC_QUOTA7 sl) 0xFFFFFFFF

/-- Entries as a command gives them. -/
def svWords : List Word := [0x80004000, 0, 0, 4000, 0, 0, 2, 0, 0x4241] ++ List.replicate 39 0
def subWords : List Word := [0x80000001, 0, 0, 0, 0, 0, 0, 0, 1, 1, 0x47] ++ List.replicate 37 0
def pubWords : List Word := [0x80030005, 0, 0x00010000, 0, wd pubTemplate.length] ++ List.replicate 11 0 ++ wordsOf 20 pubTemplate ++
  List.replicate 476 0

/-- A domain of two members, 1 (the device) and 9, the path to 9 in a state, through the tunnel of port 2 or over a mesh. -/
def inDomain (st : Nat) (tunnel : Bool) (d : Dev) : Dev :=
  (((((d.setReg Reg.TRL_ID 1).setReg Reg.TRL_DOMAIN 0x00020007).setReg (Reg.TRL_MEMBER 0 0) 0x00010000).setReg (Reg.TRL_MEMBER 1 0)
    (if tunnel then 0x00090012 else 0x00090000)).setFld (Reg.TRL_MEMBER3 1) 29 3 st)

/-- A message of member 9 that waits. -/
def State.withMsg (s : State) (kind : Nat) (body : List Byte) : State :=
  s.onDev (fun d => { d with trl := { d.trl with inbox := [⟨9, kind, body, 1, 5⟩] } })

/-- A HELLO. -/
def helloOfMember (domain id my your : Nat) : HelloBody := ⟨Fin.ofNat 65536 domain, Fin.ofNat 512 id, 77, Fin.ofNat 65536 my, Fin.ofNat 65536 your, false, 1⟩

/-- A Wepomer frame of member 9 to member 1 of domain 7: SYNC_BEGIN in a sequenced frame. -/
def wepBytes (epoch seq : Nat) : List Byte :=
  List.replicate 12 0 ++ [0x8A, 0x73, 1, 0, 0, 7, 0, 1, 0, 9] ++ beBytes 2 epoch ++ beBytes 2 seq ++ [0, 0, 0, 8, 0x11, 0, 0, 4, 1, 2, 3, 4]

/-- A report of a boot stage with nothing failed and nothing set. -/
def sr0 : StageReport := ⟨0, [], [], [], [], [], [], []⟩

/-- A device that boots, at a stage. -/
def bootAt (n : Nat) : State := { State.reset with dev := Dev.reset.setFld Reg.GLB_BOOT 28 4 n }

/-- The activation state of UPD, with its activation. -/
def updAt (st phase : Nat) (a : Option Activation) (d : Dev) : Dev :=
  { d.setFld Reg.UPD_STATE 28 4 st with upd := { d.upd with act := a, phase := phase } }

/-- A manifest of one image with no bytes: enough for a bank to parse. -/
def oneImage : List Word := [0x4D465354, 0x00010001, 0, 9, 0, 0, 0, 0] ++ [0x01000000, 4096, 0, 0] ++ List.replicate 60 0

/-! ## States with a full table, and a record with its digest -/

/-- With nothing of the slice table listed, every slice is FREE. -/
theorem free_slices {d : Dev} (h : d.rf.act.all (fun e => decide (e.1 < 0x420000 ∨ 0x460000 ≤ e.1)) = true) :
    ∀ sl, sl < 8192 → d.sliceState sl = 0 := by
  intro sl hs
  have hn : ∀ m : Map Word, m.all (fun e => decide (e.1 < 0x420000 ∨ 0x460000 ≤ e.1)) = true →
      Map.get? m (Reg.SLC_SLICE_STATUS sl 0) = none := by
    intro m
    induction m with
    | nil => intro _; rfl
    | cons e m ih =>
      intro hm
      simp only [List.all_cons, Bool.and_eq_true, decide_eq_true_eq] at hm
      have : e.1 ≠ Reg.SLC_SLICE_STATUS sl 0 := by unfold Reg.SLC_SLICE_STATUS; omega
      simp only [Map.get?, if_neg this]
      exact ih (by simpa using hm.2)
  unfold Dev.sliceState Dev.fld Dev.reg
  rw [hn _ h, Option.getD_none, resetOf_sliceStatus hs]
  rfl

/-- A quota register is in no pair and its change does nothing beyond its value. -/
theorem plain_quota2 (d : Dev) : d.pairOf (Reg.SLC_QUOTA2 7) = none ∧ d.beforeLate (Reg.SLC_QUOTA2 7) = d ∧
    ∀ old, d.hook (Reg.SLC_QUOTA2 7) old = d :=
  ⟨rfl, rfl, fun _ => rfl⟩

/-- The one staged register of a state is plain. -/
theorem staged_plain (s : State) (h : s.dev.rf.stg.map Prod.fst = [Reg.SLC_QUOTA2 7]) :
    ∀ p ∈ s.dev.rf.stg, shadowOf p.1 = none ∧ ∀ d : Dev, d.pairOf p.1 = none ∧ d.beforeLate p.1 = d ∧ ∀ old, d.hook p.1 old = d := by
  intro p hp
  have : p.1 ∈ s.dev.rf.stg.map Prod.fst := List.mem_map_of_mem hp
  rw [h, List.mem_singleton] at this
  rw [this]
  exact ⟨by decide +kernel, plain_quota2⟩

/-- A pair whose second part is known. -/
theorem pair_of {α β : Type} {x : α × β} {b : β} (h : x.2 = b) : x = (x.1, b) := by rw [← h]

/-- What a command's staging and strobe answer, as a pair. -/
theorem strobe_pair (d : Dev) (c : Cmd) (g : Nat) (ws : List (Nat × Word)) (res : Res) :
    d.stageStrobe c g ws res = ((d.stageStrobe c g ws res).1,
      some (Res.struck ((d.stageAll c.master false ws).ownStrobe c g).2 g { res with expert := res.expert || d.anyExpert (ws.map Prod.fst) })) := rfl

/-- What an option that is some holds. -/
theorem some_of {α : Type} {x : Option α} (h : x.isSome = true) : x = some (x.get h) := (Option.some_get h).symm

/-- A map that lists `n` keys from `lo` on, each with one value. -/
def fullMap {α : Type} (lo : Nat) : Nat → α → Map α
  | 0, _ => []
  | n + 1, v => (lo, v) :: fullMap (lo + 1) n v

theorem get?_full {α : Type} (v : α) : ∀ (n lo k : Nat),
    Map.get? (fullMap lo n v) k = if lo ≤ k ∧ k < lo + n then some v else none := by
  intro n
  induction n with
  | zero => intro lo k; rw [if_neg (by omega)]; rfl
  | succ n ih =>
    intro lo k
    simp only [fullMap, Map.get?]
    split
    · rename_i h; subst h; rw [if_pos (by omega)]
    · rename_i h
      rw [ih]
      by_cases h2 : lo ≤ k ∧ k < lo + (n + 1)
      · rw [if_pos h2, if_pos (by omega)]
      · rw [if_neg h2, if_neg (by omega)]

theorem filter_full {α : Type} (p : α → Bool) (v : α) (h : p v = true) : ∀ n lo : Nat,
    (fullMap lo n v).filter (fun e => p e.2) = fullMap lo n v := by
  intro n
  induction n with
  | zero => intro lo; rfl
  | succ n ih => intro lo; simp only [fullMap, List.filter_cons, h, if_true, ih]

theorem free?_full {α : Type} (m : Map α) : ∀ n lo : Nat, (∀ k, lo ≤ k → k < lo + n → (Map.get? m k).isNone = false) →
    Map.free? m lo n = none := by
  intro n
  induction n with
  | zero => intro lo _; rfl
  | succ n ih =>
    intro lo h
    rw [Map.free?, if_neg (by rw [h lo (by omega) (by omega)]; decide)]
    exact ih (lo + 1) (fun k h1 h2 => h k (by omega) (by omega))

/-- The address table with its places below `n` taken, by another key. -/
def State.fullL2 (s : State) (n : Nat) : State := s.onDev (fun d => { d with fwd := { d.fwd with l2 := fullMap 0 n [0x80000000] } })

theorem full_entry {s : State} {n i : Nat} (h : i < n) : (s.fullL2 n).dev.htEntry .l2 i = some [0x80000000] := by
  show (Map.get? (fullMap 0 n [0x80000000]) i).filter entryValid = _
  rw [get?_full, if_pos (by omega)]
  rfl

theorem full_htFind {s : State} {n : Nat} (key : List Word)
    (h : decide (htKeyWords .l2 [0x80000000] = htKeyWords .l2 key) = false) : (s.fullL2 n).dev.htFind .l2 key = none := by
  have hz : ¬ (s.fullL2 n).dev.htSize .l2 = 0 := by show ¬ 2 ^ 19 = 0; decide
  unfold Dev.htFind
  rw [if_neg hz, List.find?_eq_none]
  intro i _
  by_cases hi : i < n
  · rw [full_entry hi]; simpa using h
  · have : (s.fullL2 n).dev.htEntry .l2 i = none := by
      show (Map.get? (fullMap 0 n [0x80000000]) i).filter entryValid = _
      rw [get?_full, if_neg (by omega)]
      rfl
    rw [this]; simp

theorem full_htFree {s : State} {n : Nat} (key : List Word) (hn : 2 ^ 20 + 65536 ≤ n)
    (h : ((s.fullL2 n).dev.htSlots .l2 key).all (fun i => decide (i < 2 ^ 20)) = true) :
    (s.fullL2 n).dev.htFree .l2 key = none := by
  have hf : ((s.fullL2 n).dev.htSlots .l2 key).find? (fun i => ((s.fullL2 n).dev.htEntry .l2 i).isNone) = none := by
    rw [List.find?_eq_none]
    intro i hi
    have := List.all_eq_true.mp h i hi
    simp only [decide_eq_true_eq] at this
    rw [full_entry (by omega)]
    decide
  have hz : ¬ (s.fullL2 n).dev.htSize .l2 = 0 := by show ¬ 2 ^ 19 = 0; decide
  unfold Dev.htFree
  rw [if_neg hz, hf]
  show Map.free? ((fullMap 0 n [0x80000000]).filter (fun e => entryValid e.2)) (2 ^ 20) 65536 = none
  rw [filter_full entryValid [0x80000000] (by decide)]
  exact free?_full _ _ _ (fun k h1 h2 => by rw [get?_full, if_pos (by omega)]; rfl)

/-- Every place of every rule table, up to `n`, taken by another key. -/
def State.fullCls (s : State) (n : Nat) : State := s.onDev (fun d => { d with cls := { d.cls with
  entries := fullMap 0 n [0x80000000], overflow := fullMap 0 n [0x80000000] } })

theorem full_raw {s : State} {n t b : Nat} {l : Loc} :
    (s.fullCls n).dev.clsEntry t b l = some [0x80000000] ∨ (s.fullCls n).dev.clsEntry t b l = none := by
  show ((if l.store then Map.get? (fullMap 0 n [0x80000000]) (ovfKey b t l.index)
    else Map.get? (fullMap 0 n [0x80000000]) (clsKey b t l.index)).filter entryValid = _) ∨
    (if l.store then Map.get? (fullMap 0 n [0x80000000]) (ovfKey b t l.index)
    else Map.get? (fullMap 0 n [0x80000000]) (clsKey b t l.index)).filter entryValid = _
  rw [get?_full, get?_full]
  by_cases h1 : l.store = true
  · rw [if_pos h1]
    by_cases h2 : 0 ≤ ovfKey b t l.index ∧ ovfKey b t l.index < 0 + n
    · rw [if_pos h2]; exact .inl rfl
    · rw [if_neg h2]; exact .inr rfl
  · rw [if_neg h1]
    by_cases h2 : 0 ≤ clsKey b t l.index ∧ clsKey b t l.index < 0 + n
    · rw [if_pos h2]; exact .inl rfl
    · rw [if_neg h2]; exact .inr rfl

theorem full_clsFind {s : State} {n t b : Nat} (key : List Byte) (h : decide (([] : List Word) = keyWords key) = false) :
    (s.fullCls n).dev.clsFind t b key = none := by
  unfold Dev.clsFind
  split
  · rfl
  · rw [List.find?_eq_none]
    intro l _
    rcases full_raw (s := s) (n := n) (t := t) (b := b) (l := l) with hr | hr
    · rw [hr]; simpa using h
    · rw [hr]; simp

theorem full_clsFree {s : State} {n t b : Nat} (key : List Byte) (hb : b < 2 ∧ t < 16 ∧ 2 ^ 30 ≤ n)
    (h : (slotsOf ((s.fullCls n).dev.reg (Reg.CLS_TBLt_SEED t)) t ((s.fullCls n).dev.tblSize t / 4) key).all
      (fun l => !l.store && decide (l.index < 2 ^ 21)) = true) :
    (s.fullCls n).dev.clsFree t b key = none := by
  have hf : (slotsOf ((s.fullCls n).dev.reg (Reg.CLS_TBLt_SEED t)) t ((s.fullCls n).dev.tblSize t / 4) key).find?
      (fun l => ((s.fullCls n).dev.clsEntry t b l).isNone) = none := by
    rw [List.find?_eq_none]
    intro l hl
    have := List.all_eq_true.mp h l hl
    simp only [Bool.and_eq_true, Bool.not_eq_true', decide_eq_true_eq] at this
    have hr : (s.fullCls n).dev.clsEntry t b l = some [0x80000000] := by
      show (if l.store then Map.get? (fullMap 0 n [0x80000000]) (ovfKey b t l.index)
        else Map.get? (fullMap 0 n [0x80000000]) (clsKey b t l.index)).filter entryValid = _
      rw [if_neg (by rw [this.1]; decide), get?_full, if_pos (by unfold clsKey; omega)]
      rfl
    rw [hr]; decide
  have hs : (s.fullCls n).dev.ovfSize t ≤ 65536 := by unfold Dev.ovfSize; split <;> omega
  have ho : Map.free? ((fullMap 0 n [0x80000000]).filter (fun e => entryValid e.2)) (ovfKey b t 0)
      ((s.fullCls n).dev.ovfSize t) = none := by
    rw [filter_full entryValid [0x80000000] (by decide)]
    exact free?_full _ _ _ (fun k h1 h2 => by rw [get?_full, if_pos (by unfold ovfKey at *; omega)]; rfl)
  unfold Dev.clsFree
  rw [hf]
  show (Map.free? ((fullMap 0 n [0x80000000]).filter (fun e => entryValid e.2)) (ovfKey b t 0)
    ((s.fullCls n).dev.ovfSize t)).map _ = none
  rw [ho]
  rfl

theorem len_wordsOf : ∀ (n : Nat) (bs : List Byte), (wordsOf n bs).length = n := by
  intro n
  induction n with
  | zero => intro bs; rfl
  | succ n ih => intro bs; simp only [wordsOf, List.length_cons, ih]

/-- A record of SLICE_STATE_LOAD with its digest; empty, and with one entry of no kind. -/
def recordOf (h : List Word) (body : List Word) : List Word := h ++ (wordsOf 12 (Config.sha384 (bytesOf body)) ++ body)

theorem record_entries {h body : List Word} {limit n : Nat} {es : List (Nat × List Word)} (h4 : h.length = 4)
    (h1 : Word.fld (wordAt h 0) 16 16 = 1) (h2 : (wordAt h 1).toNat = 4 * (16 + body.length)) (h3 : 4 * (16 + body.length) ≤ limit)
    (h5 : Word.fld (wordAt h 2) 16 16 = n) (hs : splitEntries n body = some es) : recordEntries (recordOf h body) limit = some es := by
  have hl : (recordOf h body).length = 16 + body.length := by
    simp only [recordOf, List.length_append, len_wordsOf, h4]; omega
  have hd : (recordOf h body).drop 16 = body := by
    unfold recordOf
    rw [← List.append_assoc]
    exact List.drop_left' (by simp only [List.length_append, len_wordsOf, h4])
  have ht : ((recordOf h body).drop 4).take 12 = wordsOf 12 (Config.sha384 (bytesOf body)) := by
    unfold recordOf
    rw [List.drop_left' h4]
    exact List.take_left' (len_wordsOf _ _)
  have hw : ∀ i, i < 4 → wordAt (recordOf h body) i = wordAt h i := by
    intro i hi
    unfold recordOf wordAt
    rw [List.getElem?_append_left (by omega)]
  unfold recordEntries
  rw [if_neg]
  · rw [hd, hw 2 (by omega), h5]; exact hs
  · rw [hl, hw 0 (by omega), hw 1 (by omega), hd, ht]
    intro hc
    rcases hc with hc | hc | hc | hc | hc
    · omega
    · exact hc h1
    · exact hc h2
    · omega
    · exact hc rfl

/-! ## Hypotheses met -/

/-- The hypotheses of `Obligations.StepRunsFrontCommand` are met: one state. -/
theorem test_witness_StepRunsFrontCommand :
    ∃ (i : Instr) (rest : List Instr) (s : State), s.pending = i :: rest :=
  ⟨_, _, { live with pending := [.slowEdge, .stamp 0] }, rfl⟩

/-- The hypotheses of `Obligations.EmptyQueueStepIsOneClock` are met: one state. -/
theorem test_witness_EmptyQueueStepIsOneClock :
    ∃ (s : State), s.pending = [] :=
  ⟨live, by decide +kernel⟩

/-- The hypotheses of `Obligations.CommitsIssueOneStrobeEach` (CommitWriteIssuesOneStrobe) are met: each clause. -/
theorem test_witness_CommitWriteIssuesOneStrobe :
    (∃ (s : State) (v : Word), s.dev.running = true ∧ v.toNat % 2 ^ 23 = 0) ∧
    (∃ (s : State) (v : Word), s.dev.running = true ∧ v.toNat % 2 ^ 23 ≠ 0) :=
  ⟨⟨live, 0x00800000, by decide +kernel⟩,
   ⟨live, 0x00400000, by decide +kernel⟩⟩

/-- The hypotheses of `Obligations.CommitsIssueOneStrobeEach` (TimedCommitArmsReplacesCancelsAndFires) are met: each clause. -/
theorem test_witness_TimedCommitArmsReplacesCancelsAndFires :
    (∃ (s : State) (v : Word), s.dev.running = true ∧ v.toNat % 2 ^ 23 = 0) ∧
    (∃ (s : State) (v : Word), s.dev.running = true ∧ v.toNat % 2 ^ 23 ≠ 0 ∧ s.dev.time ≤ s.dev.reg64 Reg.GLB_COMMIT_AT_LO) ∧
    (∃ (s : State) (v : Word), s.dev.running = true ∧ v.toNat % 2 ^ 23 ≠ 0 ∧ s.dev.reg64 Reg.GLB_COMMIT_AT_LO < s.dev.time) ∧
    (∃ (s : State) (at_ : Nat) (w : Word), s.dev.running = true ∧ s.dev.glb.armed = some (at_, w) ∧ w.toNat % 2 ^ 23 ≠ 0) :=
  ⟨⟨live.onDev (fun d => { d with glb := { d.glb with armed := some (9, 1) } }), 0x00800000, by decide +kernel⟩,
   ⟨live.onDev (fun d => d.setReg Reg.GLB_COMMIT_AT_LO 9), 2, by decide +kernel⟩,
   ⟨live.onDev (fun d => { d with ptp := 20 }), 2, by decide +kernel⟩,
   ⟨live.onDev (fun d => { d with glb := { d.glb with armed := some (9, 1) } }), _, _, by decide +kernel, rfl, by decide +kernel⟩⟩

/-- The hypotheses of `Obligations.DiscardsAndDirectModeAct` (DiscardReloadsStagingFromActive) are met: one state. -/
theorem test_witness_DiscardReloadsStagingFromActive :
    ∃ (s : State), s.dev.running = true :=
  ⟨live.onDev (fun d => d.stage Reg.EBS_CAP_HOST 1000 true 0), by decide +kernel⟩

/-- The hypotheses of `Obligations.DiscardsAndDirectModeAct` (DirectWriteClearsBitsAndRaisesOneStrobe) are met: one state. -/
theorem test_witness_DirectWriteClearsBitsAndRaisesOneStrobe :
    ∃ (s : State), s.dev.running = true :=
  ⟨live.onDev (fun d => (d.setReg Reg.GLB_DIRECT 0x81).stage Reg.EBS_CAP_HOST 1000 true 0), by decide +kernel⟩

/-- The hypotheses of `Obligations.DiscardsAndDirectModeAct` (DirectModeWriteAppliesByItself) are met: each clause. -/
theorem test_witness_DirectModeWriteAppliesByItself :
    (∃ (s : State) (k : Nat), s.dev.running = true ∧ (accOf k ≠ some .st ∨ s.dev.directMode (groupOf k) = false)) ∧
    (∃ (s : State) (k : Nat), s.dev.running = true ∧ accOf k = some .st ∧ s.dev.directMode (groupOf k) = true ∧ shadowOf k = none ∧ (∀ d :
      Dev, d.pairOf k = none ∧ d.beforeLate k = d ∧ ∀ old, d.hook k old = d)) :=
  ⟨⟨live, Reg.EBS_CAP_HOST, by decide +kernel⟩,
   ⟨(live.onDev (fun d => d.setReg Reg.GLB_DIRECT 0x4)), Reg.SLC_QUOTA2 7, by decide +kernel, by decide +kernel, by decide +kernel,
     by decide +kernel, plain_quota2⟩⟩

/-- The hypotheses of `Obligations.StrobeRefusesADisagreeingGroupWhole` are met: one state. -/
theorem test_witness_StrobeRefusesADisagreeingGroupWhole :
    ∃ (s : State) (x : Strobe) (xs : List Strobe) (g : Nat) (off : Nat), s.dev.running = true ∧ s.dev.glb.strobes = x :: xs ∧ x.src =
      .commit ∧ g < 23 ∧ bitList 23 x.mask.toNat = [g] ∧ ({ s.dev with glb := { s.dev.glb with strobes := xs } } : Dev).groupBad g = some
      off :=
  ⟨live.onDev (fun d => { (d.stage Reg.GAU_TIE 0x4 true 0) with glb := { d.glb with strobes := [⟨.commit, 0x40, 0, 0, []⟩] } }), _, _, _,
    _, by decide +kernel, rfl, by decide +kernel, by decide +kernel, rfl, rfl⟩

/-- The hypotheses of `Obligations.StrobeAppliesStagedValues` are met: one state. -/
theorem test_witness_StrobeAppliesStagedValues :
    ∃ (s : State) (x : Strobe) (xs : List Strobe), s.dev.running = true ∧ s.dev.glb.strobes = x :: xs ∧ x.src = .commit ∧ (∀ p ∈
      s.dev.rf.stg, shadowOf p.1 = none ∧ ∀ d : Dev, d.pairOf p.1 = none ∧ d.beforeLate p.1 = d ∧ ∀ old, d.hook p.1 old = d) :=
  ⟨(live.onDev (fun d => { (d.stage (Reg.SLC_QUOTA2 7) 0x11 true 0) with glb := { d.glb with strobes := [⟨.commit, 0x4, 0, 0, []⟩] } })),
    ⟨.commit, 0x4, 0, 0, []⟩, [], by decide +kernel, by decide +kernel, by decide +kernel, staged_plain _ (by decide +kernel)⟩

/-- The hypotheses of `Obligations.MailboxesAndQueuesMove` (MailboxWordsMoveAsTheirFullBitsSay) are met: each clause. -/
theorem test_witness_MailboxWordsMoveAsTheirFullBitsSay :
    (∃ (s : State) (m : Fin 16), s.dev.running = true ∧ s.dev.bit (Reg.MBX_STATEm m.val) 0 = false) ∧
    (∃ (s : State) (m : Fin 16), s.dev.running = true ∧ s.dev.bit (Reg.MBX_STATEm m.val) 0 = true) ∧
    (∃ (s : State) (m : Fin 16), s.dev.running = true ∧ s.dev.bit (Reg.MBX_STATEm m.val) 0 = true ∧ Word.fld (s.dev.reg (Reg.MBX_INm
      m.val)) 28 4 = 1) ∧
    (∃ (s : State) (m : Fin 16) (k : _) (w : _), s.dev.running = true ∧ s.dev.bit (Reg.MBX_STATEm m.val) 1 = false ∧ s.dev.pendingKind
      m.val = some (k, w) ∧ m.val ≠ 7) ∧
    (∃ (s : State) (v : _), s.dev.running = true ∧ Word.bit v 0 = true) ∧
    (∃ (s : State) (v : _), s.dev.running = true ∧ Word.bit v 0 = false) :=
  ⟨⟨live, 15, by decide +kernel⟩,
   ⟨live.onDev (fun d => d.setBit (Reg.MBX_STATEm 0) 0 true), 0, by decide +kernel⟩,
   ⟨live.onDev (fun d => (d.setBit (Reg.MBX_STATEm 3) 0 true).setReg (Reg.MBX_INm 3) 0x1ABCDEF0), 3, by decide +kernel⟩,
   ⟨live.onDev (fun d => d.post 3 5 9), 3, _, _, by decide +kernel, by decide +kernel, rfl, by decide +kernel⟩,
   ⟨live.onDev (fun d => d.setBit (Reg.MBX_STATEm 3) 1 true), 1, by decide +kernel⟩,
   ⟨live, 2, by decide +kernel⟩⟩

/-- The hypotheses of `Obligations.MailboxesAndQueuesMove` (QueueIndicesAndDeliveredPackets) are met: each clause. -/
theorem test_witness_QueueIndicesAndDeliveredPackets :
    (∃ (s : State) (m : Fin 16) (v : Word), s.dev.running = true ∧ fwd16 (v.toNat % 65536) (s.dev.fld (Reg.CMD_PIm m.val) 0 16) < 32768 ∧
      fwd16 (v.toNat % 65536) (s.dev.fld (Reg.CMD_CIm m.val) 0 16) ≤ 256) ∧
    (∃ (s : State) (m : Fin 16) (v : Word), s.dev.running = true ∧ 256 < fwd16 (v.toNat % 65536) (s.dev.fld (Reg.CMD_CIm m.val) 0 16)) ∧
    (∃ (s : State) (m : Fin 16) (v : Word), s.dev.running = true ∧ 4 ≤ m.val ∧ fwd16 (v.toNat % 65536) (s.dev.fld (Reg.CMD_RCIm m.val) 0
      16) < 32768 ∧ fwd16 (v.toNat % 65536) (s.dev.fld (Reg.CMD_RCIm m.val) 0 16) ≤ fwd16 (s.dev.fld (Reg.CMD_RPIm m.val) 0 16) (s.dev.fld
      (Reg.CMD_RCIm m.val) 0 16)) ∧
    (∃ (s : State) (vendor : Fin 65536), s.dev.running = true ∧ vendor.val ≠ 0x1F7D) ∧
    (∃ (s : State) (vendor : Fin 65536) (ws : List Word), s.dev.running = true ∧ vendor.val = 0x1F7D ∧ ws ≠ [] ∧ ws.length ≤ 1024 ∧ fwd16
      ((s.dev.fld (Reg.CMD_PIm 4) 0 16 + ceilDiv ws.length 16) % 65536) (s.dev.fld (Reg.CMD_CIm 4) 0 16) ≤ 256 ∧ fwd16 (s.dev.fld
      (Reg.CMD_PIm 4) 0 16 + ceilDiv ws.length 16) (s.dev.fld (Reg.CMD_CIm 4) 0 16) ≤ 256) ∧
    (∃ (s : State) (t : Fin 512), s.dev.running = true ∧ isSup t.val = true ∧ (s.dev.openReq t.val 0).isSome = true) :=
  ⟨⟨live, 2, 256, by decide +kernel⟩,
   ⟨live, 2, 257, by decide +kernel⟩,
   ⟨live.onDev (fun d => d.setFld (Reg.CMD_RPIm 4) 0 16 2), 4, 2, by decide +kernel⟩,
   ⟨live, 0x1F7E, by decide +kernel⟩,
   ⟨live, 0x1F7D, [1, 2, 3, 4, 5], by decide +kernel⟩,
   ⟨live.onDev (fun d => d.setThread 0 (fun t => { t with reqs := [⟨0, 0, [], none, false⟩] })), 0, by decide +kernel⟩⟩

/-- The hypotheses of `Obligations.CommandsAreTakenStartedAndAnswered` (CommandTakeMakesTheFirstPacketOutstanding) are met: one state. -/
theorem test_witness_CommandTakeMakesTheFirstPacketOutstanding :
    ∃ (s : State) (m : Fin 16) (c : Cmd) (len : Nat), s.dev.running = true ∧ s.dev.bit (Reg.CMD_CTRLm m.val) 0 = true ∧ s.dev.fld (Reg.CMD_PIm m.val) 0 16 ≠ s.dev.fld (Reg.CMD_CIm m.val) 0 16 ∧ 0 < s.dev.freeSlots m.val ∧ (let ci := s.dev.fld (Reg.CMD_CIm m.val) 0 16; let head := s.dev.packetWords m.val ci (4 + ceilDiv len 4); len = Word.fld (wordAt head 2) 0 16 ∧ len ≤ 4080 ∧ slotsFor len ≤ fwd16 (s.dev.fld (Reg.CMD_PIm m.val) 0 16) ci ∧ c = ⟨m.val, wordAt head 0, wordAt head 1, wordAt head 2, head.drop 4, .waiting, 1, 0, 0, false, [], 0, false, [], Map.getD s.dev.cmd.peers (ci % 256) 0⟩ ∧ crc16 (bytesOf [wordAt head 0, wordAt head 1, wordAt head 2] ++ (bytesOf (head.drop 4)).take len) = Word.fld (wordAt head 3) 0 16 ∧ Word.fld (wordAt head 3) 16 16 = 0) ∧ Word.fld c.word0 24 8 = 1 ∧ Word.fld c.word0 19 5 = 0 ∧ s.dev.cmd? m.val c.tag c.gen = none ∧ c.opcode ≠ 0x0400 ∧ ((s.dev.takeSlots m.val (slotsFor len)).setGen m.val c.tag c.gen).checkCmd c = none :=
  ⟨(live.onDev (fun d => d.putPacket 5 0 [0x01000001, 0xFFFF0001, 0x00000000, wd (crc16 (bytesOf [0x01000001, 0xFFFF0001,
    0x00000000]))])), 5, ⟨5, 0x01000001, 0xFFFF0001, 0, [], .waiting, 1, 0, 0, false, [], 0, false, [], 0⟩, 0, by decide +kernel⟩

/-- The hypotheses of `Obligations.CommandsAreTakenStartedAndAnswered` (CommandsStartLockAndTimeOut) are met: each clause. -/
theorem test_witness_CommandsStartLockAndTimeOut :
    (∃ (s : State) (m : Fin 16) (tag : Fin 4096) (gen : Fin 16) (c : Cmd) (o : OpSpec), s.dev.running = true ∧ s.dev.cmd? m.val tag.val
      gen.val = some c ∧ opSpec? c.opcode = some o ∧ s.dev.cmdReady c = true ∧ s.dev.lockHeld c o = false ∧ stepwise c.opcode = false) ∧
    (∃ (s : State) (m : Fin 16) (tag : Fin 4096) (gen : Fin 16) (c : Cmd) (o : OpSpec), s.dev.running = true ∧ s.dev.cmd? m.val tag.val
      gen.val = some c ∧ opSpec? c.opcode = some o ∧ s.dev.cmdReady c = true ∧ s.dev.lockHeld c o = true) ∧
    (∃ (s : State) (m : Fin 16) (tag : Fin 4096) (gen : Fin 16) (c : Cmd) (o : OpSpec), s.dev.running = true ∧ s.dev.cmd? m.val tag.val
      gen.val = some c ∧ opSpec? c.opcode = some o ∧ c.phase = .started ∧ c.strobed = false ∧ c.opcode ∉ [0x0101, 0x0204, 0x030B, 0x0304,
      0x0A03, 0x0904]) :=
  ⟨⟨(cmdState 0x0105 3 []).onDev (fun d => { d with cmd := { d.cmd with cmds := [{ cmdOf 0x0105 3 [] with phase := .waiting }] } }), 0, 1,
     0, _, _, by decide +kernel, rfl, rfl, by decide +kernel⟩,
   ⟨(cmdState 0x0105 3 []).onDev (fun d =>
     { d with cmd := { d.cmd with cmds := [{ cmdOf 0x0105 3 [] with phase := .waiting }, { cmdOf 0x0102 3 [] with word1 := 0x00030002, locks := [lockKey 1 3] }] } }),
     0, 1, 0, _, _, by decide +kernel, rfl, rfl, by decide +kernel⟩,
   ⟨cmdState 0x0105 3 [], 0, 1, 0, _, _, by decide +kernel, rfl, rfl, by decide +kernel⟩⟩

/-- The hypotheses of `Obligations.CommandsAreTakenStartedAndAnswered` (CommandReplyWritesTheReply) are met: each clause. -/
theorem test_witness_CommandReplyWritesTheReply :
    (∃ (s : State) (m : Fin 16) (tag : Fin 4096) (gen : Fin 16) (c : Cmd), s.dev.running = true ∧ s.dev.cmd? m.val tag.val gen.val = some
      c ∧ c.phase = .finished ∧ s.dev.curGen m.val tag.val = some gen.val ∧ c.quiet = true ∧ (c.status = stOK ∨ c.status = stExpert)) ∧
    (∃ (s : State) (m : Fin 16) (tag : Fin 4096) (gen : Fin 16) (c : Cmd), s.dev.running = true ∧ s.dev.cmd? m.val tag.val gen.val = some
      c ∧ c.phase = .finished ∧ s.dev.curGen m.val tag.val = some gen.val ∧ c.quiet = false ∧ c.notify = false ∧ (m.val = 5 ∨ m.val = 6) ∧
      c.replyMax ≤ 4080) :=
  ⟨⟨live.onDev (fun d => { d with cmd := { d.cmd with cmds := [{ cmdOf 0x10001 0 [] with phase := .finished }], gens := [(1, 0)] } }), 0,
     1, 0, _, by decide +kernel, rfl, by decide +kernel⟩,
   ⟨live.onDev (fun d =>
     { d with cmd := { d.cmd with cmds := [{ cmdOf 0x0001 0 [] with master := 6, phase := .finished, reply := [7, 8] }], gens := [(4096 * 6 + 1, 0)] } }),
     6, 1, 0, _, by decide +kernel, rfl, by decide +kernel⟩⟩

/-- The hypotheses of `Obligations.RegisterAccessesFollowTheirTypes` (RegisterWriteFollowsTheAccessType) are met: each clause. -/
theorem test_witness_RegisterWriteFollowsTheAccessType :
    (∃ (s : State) (m : Fin 16) (off : Nat), s.dev.running = true ∧ 4 ≤ m.val ∧ off % 4 = 0 ∧ accOf (s.dev.target m.val off) = some .st ∧
      shadowOf (s.dev.target m.val off) = none ∧ queueOf (s.dev.target m.val off) = none ∧ (s.dev.target m.val off) ≠ Reg.EBS_THERMAL_CTRL
      ∧ s.dev.directMode (groupOf (s.dev.target m.val off)) = false) ∧
    (∃ (s : State) (m : Fin 16) (off : Nat) (lo : Word), s.dev.running = true ∧ 4 ≤ m.val ∧ off % 4 = 0 ∧ accOf (s.dev.target m.val off) =
      some .rw ∧ s.dev.rwClosed (s.dev.target m.val off) = false ∧ s.dev.actWrite m.val (s.dev.target m.val off) lo = none) ∧
    (∃ (s : State) (m : Fin 16) (off : Nat), s.dev.running = true ∧ 4 ≤ m.val ∧ off % 4 = 0 ∧ (accOf (s.dev.target m.val off) = none ∨
      accOf (s.dev.target m.val off) = some .ro ∨ accOf (s.dev.target m.val off) = some .rs ∨ accOf (s.dev.target m.val off) = some .hc)) :=
  ⟨⟨live, 4, (Reg.SLC_QUOTA2 7), by decide +kernel⟩,
   ⟨live, 4, Reg.GLB_VIEW, 0xFFFFFFFF, by decide +kernel⟩,
   ⟨live, 4, Reg.GLB_ID, by decide +kernel⟩⟩

/-- The hypotheses of `Obligations.RegisterAccessesFollowTheirTypes` (SlowEdgeCopiesStatusRegisters) are met: one state. -/
theorem test_witness_SlowEdgeCopiesStatusRegisters :
    ∃ (s : State), s.dev.running = true :=
  ⟨live.onDev (fun d => d.setReg (Reg.MAC_PORTp_STATUS 3) 7), by decide +kernel⟩

/-- The hypotheses of `Obligations.RegisterAccessesFollowTheirTypes` (DeviceReadsAnswerTheirRegisters) are met: each clause. -/
theorem test_witness_DeviceReadsAnswerTheirRegisters :
    (∃ (s : State) (m : Fin 16) (tag : Fin 4096) (gen : Fin 16) (c : Cmd), s.dev.running = true ∧ s.dev.started m.val tag.val gen.val
      0x0000 c) ∧
    (∃ (s : State) (m : Fin 16) (tag : Fin 4096) (gen : Fin 16) (c : Cmd), s.dev.running = true ∧ s.dev.started m.val tag.val gen.val
      0x0001 c) ∧
    (∃ (s : State) (m : Fin 16) (tag : Fin 4096) (gen : Fin 16) (c : Cmd), s.dev.running = true ∧ s.dev.started m.val tag.val gen.val
      0x0002 c) ∧
    (∃ (s : State) (m : Fin 16) (tag : Fin 4096) (gen : Fin 16) (c : Cmd), s.dev.running = true ∧ s.dev.started m.val tag.val gen.val
      0x0004 c ∧ (c.p 0).toNat + c.pf 1 0 7 ≤ s.dev.regN Reg.CMD_LEES_SEQ ∧ s.dev.regN Reg.CMD_LEES_SEQ ≤ (c.p 0).toNat + 1024) ∧
    (∃ (s : State) (m : Fin 16) (tag : Fin 4096) (gen : Fin 16) (c : Cmd), s.dev.running = true ∧ s.dev.started m.val tag.val gen.val
      0x0006 c ∧ c.pf 1 0 10 = 1 ∧ c.pf 1 10 22 = 0 ∧ (c.p 0).toNat % 4 = 0 ∧ (c.p 0).toNat + 4 ≤ 0x4000000 ∧ s.dev.target c.master (c.p
      0).toNat = (c.p 0).toNat ∧ accOf (c.p 0).toNat = some .ro ∧ wideLow (c.p 0).toNat = false ∧ Map.get? s.dev.rf.latch (c.p 0).toNat =
      none ∧ (c.p 0).toNat ≠ Reg.GLB_STAGED ∧ ¬ (Reg.PCE_IMS_DATAm 0 0 ≤ (c.p 0).toNat ∧ (c.p 0).toNat < Reg.PCE_IMS_DATAm 0 0 + 512)) :=
  ⟨⟨cmdState 0x0000 0xFFFF [], 0, 1, 0, _, by decide +kernel, ⟨rfl, by decide +kernel, by decide +kernel⟩⟩,
   ⟨cmdState 0x0001 0xFFFF [], 0, 1, 0, _, by decide +kernel, ⟨rfl, by decide +kernel, by decide +kernel⟩⟩,
   ⟨cmdState 0x0002 0xFFFF [], 0, 1, 0, _, by decide +kernel, ⟨rfl, by decide +kernel, by decide +kernel⟩⟩,
   ⟨(cmdState 0x0004 0xFFFF [0, 2]).onDev (fun d => (d.lees 1 2 3 4).lees 5 6 7 8), 0, 1, 0, _, by decide +kernel, ⟨rfl,
     by decide +kernel, by decide +kernel⟩, by decide +kernel⟩,
   ⟨cmdState 0x0006 0xFFFF [0, 1], 0, 1, 0, _, by decide +kernel, ⟨rfl, by decide +kernel, by decide +kernel⟩, by decide +kernel⟩⟩

/-- The hypotheses of `Obligations.CommandRegisterAndRingRowsAct` (CommandAndRegisterOpcodesAct) are met: each clause. -/
theorem test_witness_CommandAndRegisterOpcodesAct :
    (∃ (s : State) (m : Fin 16) (tag : Fin 4096) (gen : Fin 16) (c : Cmd), s.dev.running = true ∧ s.dev.started m.val tag.val gen.val
      0x0003 c ∧ s.dev.curGen c.master (c.pf 0 0 12) ≠ some (c.pf 1 0 4)) ∧
    (∃ (s : State) (m : Fin 16) (tag : Fin 4096) (gen : Fin 16) (c : Cmd) (x : _), s.dev.running = true ∧ s.dev.started m.val tag.val
      gen.val 0x0003 c ∧ s.dev.curGen c.master (c.pf 0 0 12) = some (c.pf 1 0 4) ∧ s.dev.cmd? c.master (c.pf 0 0 12) (c.pf 1 0 4) = some x
      ∧ x.phase = .waiting) ∧
    (∃ (s : State) (m : Fin 16) (tag : Fin 4096) (gen : Fin 16) (c : Cmd), s.dev.running = true ∧ s.dev.started m.val tag.val gen.val
      0x0005 c) ∧
    (∃ (s : State) (m : Fin 16) (tag : Fin 4096) (gen : Fin 16) (c : Cmd), s.dev.running = true ∧ s.dev.started m.val tag.val gen.val
      0x0007 c ∧ regRangeBad 1018 c s.dev = false) ∧
    (∃ (s : State) (m : Fin 16) (tag : Fin 4096) (gen : Fin 16) (c : Cmd), s.dev.running = true ∧ s.dev.started m.val tag.val gen.val
      0x0008 c ∧ c.p 1 = 0 ∧ c.p 2 = 0 ∧ (c.p 0).toNat % 2 ^ 23 ≠ 0) :=
  ⟨⟨cmdState 0x0003 0xFFFF [9, 0], 0, 1, 0, _, by decide +kernel, ⟨rfl, by decide +kernel, by decide +kernel⟩, by decide +kernel⟩,
   ⟨live.onDev (fun d =>
     { d with cmd := { d.cmd with cmds := [cmdOf 0x0003 0xFFFF [9, 0], { cmdOf 0x0105 3 [] with word1 := 0x00030009, phase := .waiting }], gens := [(1, 0), (9, 0)] } }),
     0, 1, 0, _, _, by decide +kernel, ⟨rfl, by decide +kernel, by decide +kernel⟩, by decide +kernel, rfl, by decide +kernel⟩,
   ⟨cmdState 0x0005 0xFFFF [0x88, 0x80000123], 0, 1, 0, _, by decide +kernel, ⟨rfl, by decide +kernel, by decide +kernel⟩⟩,
   ⟨cmdState 0x0007 0xFFFF [wd Reg.GLB_VIEW, 1, 5], 0, 1, 0, _, by decide +kernel, ⟨rfl, by decide +kernel, by decide +kernel⟩,
     by decide +kernel⟩,
   ⟨cmdState 0x0008 0xFFFF [4, 0, 0], 0, 1, 0, _, by decide +kernel, ⟨rfl, by decide +kernel, by decide +kernel⟩, by decide +kernel⟩⟩

/-- The hypotheses of `Obligations.CommandRegisterAndRingRowsAct` (RingEntriesAct) are met: each clause. -/
theorem test_witness_RingEntriesAct :
    (∃ (s : State) (w0 : Word) (w1 : Word) (w2 : Word) (w3 : Word), s.dev.running = true ∧ s.dev.ringBad w0 w1 w2 w3 = false ∧ Word.fld w0
      24 3 = 1 ∧ w1.toNat % 2 ^ 23 ≠ 0) ∧
    (∃ (s : State) (w0 : Word) (w1 : Word) (w2 : Word) (w3 : Word), s.dev.running = true ∧ s.dev.ringBad w0 w1 w2 w3 = true) :=
  ⟨⟨live, 0x01000000, 0x4, 0x50000000, (wd (crc16 (bytesOf [0x01000000, 0x4, 0x50000000]))), by decide +kernel⟩,
   ⟨live, 0x01000000, 0x4, 0x50000000, 0xFFFF, by decide +kernel⟩⟩

/-- The hypotheses of `Obligations.GridObservationsAndLossAct` (GridObservationsAreTakenOrCounted) are met: each clause. -/
theorem test_witness_GridObservationsAreTakenOrCounted :
    (∃ (s : State) (k : Fin 4), s.dev.running = true ∧ Map.get? s.dev.gau.edges k.val = none) ∧
    (∃ (s : State) (k : Fin 4) (e : Nat), s.dev.running = true ∧ Map.get? s.dev.gau.edges k.val = some e ∧ s.dev.now < e + 5000000) ∧
    (∃ (s : State) (k : Fin 4) (n : Fin 4) (e : Nat), s.dev.running = true ∧ Map.get? s.dev.gau.edges k.val = some e ∧ e + 11111000 <
      s.dev.now ∧ s.dev.fedBy 0 k.val = [n.val]) ∧
    (∃ (s : State) (bytes : List Byte) (bad : Bool), s.dev.running = true ∧ s.dev.bit Reg.GAU_GSYNC_CTRL 0 = true ∧ s.dev.bit
      Reg.TRL_ANGLE_CTRL 30 = false ∧ (bad = true ∨ bytes.length ≠ 54 ∨ crc16 (bytes.take 52) ≠ beAt bytes 52 2)) ∧
    (∃ (s : State) (bytes : List Byte), s.dev.running = true ∧ s.dev.bit Reg.GAU_GSYNC_CTRL 0 = true ∧ s.dev.bit Reg.TRL_ANGLE_CTRL 30 =
      false ∧ bytes.length = 54 ∧ crc16 (bytes.take 52) = beAt bytes 52 2 ∧ byteAt bytes 0 = 1 ∧ s.dev.gau.gsyncSeq = none ∧ (∀ i, i < 4 →
      s.dev.fedBy 1 i = [])) :=
  ⟨⟨live.onDev (fun d => { d with now := 77 }), 3, by decide +kernel⟩,
   ⟨live.onDev (fun d => { d with now := 5000006, gau := { d.gau with edges := [(3, 7)] } }), 3, _, by decide +kernel, rfl,
     by decide +kernel⟩,
   ⟨(live.onDev (fun d =>
     { (d.setFld (Reg.GAU_REFn_STATUS 3) 0 3 1).setFld (Reg.GAU_REFn_CTRL 3) 24 2 2 with now := 11111008, gau := { d.gau with edges := [(2, 7)] } })),
     2, 3, 7, by decide +kernel⟩,
   ⟨live.onDev (fun d => d.setBit Reg.GAU_GSYNC_CTRL 0 true), [1], false, by decide +kernel⟩,
   ⟨live.onDev (fun d => d.setBit Reg.GAU_GSYNC_CTRL 0 true), ((1#8 :: 9#8 :: List.replicate 50 0#8) ++ (let c := crc16 (1#8 :: 9#8 :: List.replicate 50 0#8); [BitVec.ofNat 8 (c / 256), BitVec.ofNat 8 c])), by decide +kernel⟩⟩

/-- The hypotheses of `Obligations.WrapsSnapshotsAndPtpAct` (AngleWrapCountsACycleAndStampsIt) are met: each clause. -/
theorem test_witness_AngleWrapCountsACycleAndStampsIt :
    (∃ (s : State) (n : Fin 4), s.dev.running = true ∧ s.dev.refRate n.val = 0) ∧
    (∃ (s : State) (n : Fin 4), s.dev.running = true ∧ 0 < s.dev.refRate n.val ∧ s.dev.merged n.val = false ∧ Word.bit (s.dev.reg
      Reg.GAU_TIE) (4 * n.val + 2) = false ∧ s.dev.refState n.val ≠ 3 ∧ (s.dev.gref n.val).skipWrap = false ∧ (∀ c, c < 64 →
      s.dev.chanPending c = false) ∧ (∀ p, p < 16 → s.dev.gatePending p = false) ∧ s.dev.glb.held = []) :=
  ⟨⟨live, 2, by decide +kernel⟩,
   ⟨live.onDev (fun d => { (d.setFld (Reg.GAU_REFn_STATUS 2) 0 3 1).setN (Reg.GAU_ANGLEn 2) 0xFFFFFFF0 with ptp := 99 }), 2,
     by decide +kernel⟩⟩

/-- The hypotheses of `Obligations.GridObservationsAndLossAct` (LossOfTheGridEntersHoldoverThenFreerun) are met: each clause. -/
theorem test_witness_LossOfTheGridEntersHoldoverThenFreerun :
    (∃ (s : State) (n : Fin 4), s.dev.running = true ∧ s.dev.steer n.val = n.val ∧ s.dev.merged n.val = false ∧ (∀ k, k < 4 → k ≠ n.val →
      s.dev.steer k ≠ n.val) ∧ s.dev.refState n.val = 2 ∧ s.dev.fld (Reg.GAU_REFn_LIMITS n.val) 0 16 ≠ 0 ∧ s.dev.bit Reg.GAU_TIE 31 =
      false) ∧
    (∃ (s : State) (n : Fin 4), s.dev.running = true ∧ s.dev.steer n.val = n.val ∧ s.dev.merged n.val = false ∧ (∀ k, k < 4 → k ≠ n.val →
      s.dev.steer k ≠ n.val) ∧ s.dev.refState n.val = 4) ∧
    (∃ (s : State) (n : Fin 4), s.dev.running = true ∧ s.dev.steer n.val = n.val ∧ s.dev.merged n.val = false ∧ (∀ k, k < 4 → k ≠ n.val →
      s.dev.steer k ≠ n.val) ∧ (s.dev.refState n.val = 0 ∨ s.dev.refState n.val = 1)) :=
  ⟨⟨live.onDev (fun d => (d.setFld (Reg.GAU_REFn_STATUS 2) 0 3 2).setBit Reg.GAU_TIE 31 false), 2, by decide +kernel⟩,
   ⟨live.onDev (fun d => d.setFld (Reg.GAU_REFn_STATUS 2) 0 3 4), 2, by decide +kernel⟩,
   ⟨live.onDev (fun d => (d.setFld (Reg.GAU_REFn_STATUS 2) 0 3 1)), 2, by decide +kernel⟩⟩

/-- The hypotheses of `Obligations.WrapsSnapshotsAndPtpAct` (SnapshotCapturesAnglesCyclesAndTime) are met: each clause. -/
theorem test_witness_SnapshotCapturesAnglesCyclesAndTime :
    (∃ (s : State) (v : _), s.dev.running = true ∧ Word.bit v 0 = false) ∧
    (∃ (s : State) (v : _), s.dev.running = true ∧ Word.bit v 0 = true) ∧
    (∃ (s : State) (m : Fin 16) (tag : Fin 4096) (gen : Fin 16) (c : Cmd), s.dev.running = true ∧ s.dev.started m.val tag.val gen.val
      0x0605 c) :=
  ⟨⟨live, 2, by decide +kernel⟩,
   ⟨live.onDev (fun d => { (d.setReg (Reg.GAU_ANGLEn 1) 5).setReg (Reg.GAU_CYCLEn_LO 3) 8 with ptp := 0x100000002 }), 1,
     by decide +kernel⟩,
   ⟨(cmdState 0x0605 0xFFFF []).onDev (fun d => d.setReg (Reg.GAU_ANGLEn 1) 5), 0, 1, 0, _, by decide +kernel, ⟨rfl, by decide +kernel,
     by decide +kernel⟩⟩⟩

/-- The hypotheses of `Obligations.AngleEventsAndOpcodesAct` (AngleEventsStampNotifyAndCommit) are met: each clause. -/
theorem test_witness_AngleEventsStampNotifyAndCommit :
    (∃ (s : State) (f : Firing) (fs : List Firing) (slot : Fin 16), s.dev.running = true ∧ s.dev.gau.firings = f :: fs ∧ f.action = 9 ∧
      f.target = slot.val) ∧
    (∃ (s : State) (f : Firing) (fs : List Firing) (m : Fin 16), s.dev.running = true ∧ s.dev.gau.firings = f :: fs ∧ f.action = 10 ∧
      f.target = m.val ∧ s.dev.bit (Reg.MBX_CTRLm m.val) 3 = true) ∧
    (∃ (s : State) (f : Firing) (fs : List Firing), s.dev.running = true ∧ s.dev.gau.firings = f :: fs ∧ f.action = 7 ∧ f.arg.toNat % 2 ^
      23 ≠ 0) ∧
    (∃ (s : State) (f : Firing) (fs : List Firing), s.dev.running = true ∧ s.dev.gau.firings = f :: fs ∧ f.action = 8 ∧ s.dev.upd.act =
      none) :=
  ⟨⟨live.onDev (fun d => { d with ptp := 0x100000002, gau := { d.gau with firings := [⟨9, 15, 0, 0, 0, false, false, 0⟩] } }), _, _, 15,
     by decide +kernel, rfl, by decide +kernel⟩,
   ⟨live.onDev (fun d =>
     { d.setBit (Reg.MBX_CTRLm 15) 3 true with gau := { d.gau with firings := [⟨10, 15, 0xF0000123, 0, 0, false, false, 0⟩] } }), _, _,
     15, by decide +kernel, rfl, by decide +kernel⟩,
   ⟨live.onDev (fun d => { d with gau := { d.gau with firings := [⟨7, 0, 4, 0, 0, false, false, 0⟩] } }), _, _, by decide +kernel, rfl,
     by decide +kernel⟩,
   ⟨live.onDev (fun d => { d with gau := { d.gau with firings := [⟨8, 0, 4, 0, 0, false, false, 0⟩] } }), _, _, by decide +kernel, rfl,
     by decide +kernel⟩⟩

/-- The hypotheses of `Obligations.AngleEventsAndOpcodesAct` (AngleEventsDispatchWhenDue) are met: each clause. -/
theorem test_witness_AngleEventsDispatchWhenDue :
    (∃ (s : State) (c : Fin 64) (i : Fin 64) (n : Nat) (cyc : Nat), s.dev.running = true ∧ s.dev.chanRef? c.val = some n ∧ s.dev.firesOn n
      = true ∧ Word.bit (s.dev.evt (64 * c.val + i.val) 1) 31 = true ∧ s.dev.due n (64 * c.val + i.val) = some (cyc, false) ∧ 0 < Word.fld
      (s.dev.evt (64 * c.val + i.val) 1) 24 4 ∧ Word.fld (s.dev.evt (64 * c.val + i.val) 1) 24 4 < 11) ∧
    (∃ (s : State) (c : Fin 64) (i : Fin 64) (n : Nat), s.dev.running = true ∧ s.dev.chanRef? c.val = some n ∧ s.dev.firesOn n = true ∧
      Word.bit (s.dev.evt (64 * c.val + i.val) 1) 31 = false) ∧
    (∃ (s : State) (c : Fin 64) (i : Fin 64) (n : Nat), s.dev.running = true ∧ s.dev.chanRef? c.val = some n ∧ s.dev.firesOn n = true ∧
      s.dev.due n (64 * c.val + i.val) = none) :=
  ⟨⟨live.onDev (fun d => ((((d.setFld (Reg.GAU_REFn_STATUS 2) 0 3 2).setReg (Reg.GAU_CHANc_CTRL 63) 5).setReg (Reg.GAU_ANGLEn 2)
     0x80000000).setReg (Reg.GAU_ACTIVE (4 * 4095)) 0x7FFFFFFF).setReg (Reg.GAU_ACTIVE (4 * 4095 + 1)) 0xCA000000), 63, 63, 2, 0,
     by decide +kernel⟩,
   ⟨live.onDev (fun d => ((d.setFld (Reg.GAU_REFn_STATUS 2) 0 3 2).setReg (Reg.GAU_CHANc_CTRL 0) 5)), 0, 0, _, by decide +kernel, rfl,
     by decide +kernel⟩,
   ⟨live.onDev (fun d => ((d.setFld (Reg.GAU_REFn_STATUS 2) 0 3 2).setReg (Reg.GAU_CHANc_CTRL 0) 5).setReg (Reg.GAU_ACTIVE 0) 0x90000000),
     0, 0, _, by decide +kernel, rfl, by decide +kernel⟩⟩

/-- The hypotheses of `Obligations.WrapsSnapshotsAndPtpAct` (PtpSecondsAndSteps) are met: each clause. -/
theorem test_witness_PtpSecondsAndSteps :
    (∃ (s : State), s.dev.running = true ∧ s.dev.glb.armed = none ∧ s.dev.upd.act = none) ∧
    (∃ (s : State) (t : BitVec 64) (at_ : Nat) (v : Word), s.dev.running = true ∧ s.dev.glb.armed = some (at_, v) ∧ s.dev.upd.act = none ∧
      at_ < t.toNat) ∧
    (∃ (s : State), s.dev.running = true ∧ s.dev.bit Reg.GAU_PTP_CTRL 0 = false) ∧
    (∃ (s : State), s.dev.running = true ∧ s.dev.bit Reg.GAU_PTP_CTRL 0 = true ∧ s.dev.glb.armed = none ∧ s.dev.upd.act = none) :=
  ⟨⟨live.onDev (fun d => { d with ptp := 1600000000 }), by decide +kernel⟩,
   ⟨live.onDev (fun d => { d with glb := { d.glb with armed := some (9, 1) } }), 10, _, _, by decide +kernel, rfl, by decide +kernel⟩,
   ⟨live, by decide +kernel⟩,
   ⟨live.onDev (fun d => { d.setBit Reg.GAU_PTP_CTRL 0 true with ptp := 1500000000 }), by decide +kernel⟩⟩

/-- The hypotheses of `Obligations.AngleEventsAndOpcodesAct` (AngleOpcodesStageAndAnswer) are met: each clause. -/
theorem test_witness_AngleOpcodesStageAndAnswer :
    (∃ (s : State) (m : Fin 16) (tag : Fin 4096) (gen : Fin 16) (c : Cmd) (t : Dev) (r : Res), s.dev.running = true ∧ s.dev.started m.val
      tag.val gen.val 0x0600 c ∧ s.dev.stageStrobe c (2 ^ 6) [(Reg.GAU_REFn_CTRL (c.pf 0 0 2), c.p 1), (Reg.GAU_REFn_OFFSET (c.pf 0 0 2),
      c.p 2), (Reg.GAU_REFn_JUMP (c.pf 0 0 2), c.p 3), (Reg.GAU_REFn_LIMITS (c.pf 0 0 2), c.p 4)] (Res.ok []) = (t, some r)) ∧
    (∃ (s : State) (m : Fin 16) (tag : Fin 4096) (gen : Fin 16) (c : Cmd), s.dev.running = true ∧ s.dev.started m.val tag.val gen.val
      0x0601 c) ∧
    (∃ (s : State) (m : Fin 16) (tag : Fin 4096) (gen : Fin 16) (c : Cmd) (t : Dev) (r : Res) (e : _), s.dev.running = true ∧
      s.dev.started m.val tag.val gen.val 0x0602 c ∧ s.dev.freeEntry (c.pf 0 0 2) = some e ∧ s.dev.bit (Reg.GAU_CHANc_CTRL (e / 64)) 0 =
      true ∧ (s.dev.dirtyEntry e).stageStrobe c (2 ^ 6) [(Reg.GAU_SHADOW (4 * e), c.p 1), (Reg.GAU_SHADOW (4 * e + 1), c.p 2),
      (Reg.GAU_SHADOW (4 * e + 2), c.p 3), (Reg.GAU_SHADOW (4 * e + 3), c.p 4)] ((Res.ok [wd e]).touching s.dev [Reg.GAU_CHANc_CTRL (e /
      64)]) = (t, some r)) ∧
    (∃ (s : State) (m : Fin 16) (tag : Fin 4096) (gen : Fin 16) (c : Cmd), s.dev.running = true ∧ s.dev.started m.val tag.val gen.val
      0x0602 c ∧ s.dev.freeEntry (c.pf 0 0 2) = none) ∧
    (∃ (s : State) (m : Fin 16) (tag : Fin 4096) (gen : Fin 16) (c : Cmd) (t : Dev) (r : Res), s.dev.running = true ∧ s.dev.started m.val
      tag.val gen.val 0x0603 c ∧ (s.dev.dirtyEntry (c.pf 0 0 12)).stageStrobe c (2 ^ 6) [(Reg.GAU_SHADOW (4 * c.pf 0 0 12 + 1),
      Word.setBit (s.dev.staged (Reg.GAU_SHADOW (4 * c.pf 0 0 12 + 1))) 31 false)] (Res.ok []) = (t, some r)) ∧
    (∃ (s : State) (m : Fin 16) (tag : Fin 4096) (gen : Fin 16) (c : Cmd) (t : Dev) (r : Res), s.dev.running = true ∧ s.dev.started m.val
      tag.val gen.val 0x0604 c ∧ s.dev.stageStrobe c (2 ^ 6) [(Reg.GAU_TIE, tieWith (s.dev.staged Reg.GAU_TIE) (c.pf 0 0 2) (c.pf 1 0 2)
      (Word.bit (c.p 2) 0))] (Res.ok []) = (t, some r)) ∧
    (∃ (s : State) (m : Fin 16) (tag : Fin 4096) (gen : Fin 16) (c : Cmd) (t : Dev) (r : Res), s.dev.running = true ∧ s.dev.started m.val
      tag.val gen.val 0x0606 c ∧ ({ s.dev with gau := { s.dev.gau with ptpRole := c.pf 0 0 2, ptpDomain := c.pf 3 0 8 } } :
      Dev).stageStrobe c (2 ^ 6) [(Reg.GAU_PTP_CTRL, wd (2 * c.pf 1 0 1 + c.pf 2 0 1))] (Res.ok []) = (t, some r)) :=
  ⟨⟨cmdState 0x0600 0xFFFF [3, 1, 2, 3, 4], 0, 1, 0, _, _, _, by decide +kernel, ⟨rfl, by decide +kernel, by decide +kernel⟩, rfl⟩,
   ⟨cmdState 0x0601 0xFFFF [15], 0, 1, 0, _, by decide +kernel, ⟨rfl, by decide +kernel, by decide +kernel⟩⟩,
   ⟨(cmdState 0x0602 0xFFFF [2, 1, 0x89000000, 3, 4]).onDev (fun d => d.setReg (Reg.GAU_CHANc_CTRL 5) 5), 0, 1, 0, _, _, _, _,
     by decide +kernel, ⟨rfl, by decide +kernel, by decide +kernel⟩, rfl, by decide +kernel, rfl⟩,
   ⟨cmdState 0x0602 0xFFFF [2, 1, 0x89000000, 3, 4], 0, 1, 0, _, by decide +kernel, ⟨rfl, by decide +kernel, by decide +kernel⟩,
     by decide +kernel⟩,
   ⟨cmdState 0x0603 0xFFFF [4095], 0, 1, 0, _, _, _, by decide +kernel, ⟨rfl, by decide +kernel, by decide +kernel⟩, rfl⟩,
   ⟨cmdState 0x0604 0xFFFF [3, 1, 1], 0, 1, 0, _, _, _, by decide +kernel, ⟨rfl, by decide +kernel, by decide +kernel⟩, rfl⟩,
   ⟨cmdState 0x0606 0xFFFF [1, 1, 1, 7], 0, 1, 0, _, _, _, by decide +kernel, ⟨rfl, by decide +kernel, by decide +kernel⟩, rfl⟩⟩

/-- The hypotheses of `Obligations.EnergyWindowsAdmitUnits` (WindowStartSetsBudgetLevelAndHold) are met: one state. -/
theorem test_witness_WindowStartSetsBudgetLevelAndHold :
    ∃ (s : State), s.dev.halted = false ∧ s.dev.pins.rstLow = false ∧ s.dev.pins.pgLow = [] :=
  ⟨live.onDev (fun d => { d with ebs := { d.ebs with room := -5000, level := d.levelTarget } }), by decide +kernel⟩

/-- The hypotheses of `Obligations.EnergyWindowsAdmitUnits` (RefusedUnitIsAdmittedWhereThereIsRoom) are met: each clause. -/
theorem test_witness_RefusedUnitIsAdmittedWhereThereIsRoom :
    (∃ (s : State) (p : Point) (u : Nat) (w : Waiting), s.dev.halted = false ∧ s.dev.pins.rstLow = false ∧ s.dev.pins.pgLow = [] ∧
      s.dev.waitingUnit p u = some w ∧ s.dev.admits w.cls w.cost w.slice = false) ∧
    (∃ (s : State) (p : Point) (u : Nat) (w : Waiting), s.dev.halted = false ∧ s.dev.pins.rstLow = false ∧ s.dev.pins.pgLow = [] ∧
      s.dev.waitingUnit p u = some w ∧ s.dev.admits w.cls w.cost w.slice = true ∧ p ≠ .cipher) :=
  ⟨⟨live.onDev (fun d => { d with ebs := { d.ebs with room := 3, waiting := [⟨.wake, 7, 3, 10, none, false⟩] } }), .wake, 7, _,
     by decide +kernel, by decide +kernel, by decide +kernel, rfl, by decide +kernel⟩,
   ⟨live.onDev (fun d => { d with ebs := { d.ebs with waiting := [⟨.wake, 7, 1, 10, none, false⟩] } }), .wake, 7, _, by decide +kernel,
     by decide +kernel, by decide +kernel, rfl, by decide +kernel⟩⟩

/-- The hypotheses of `Obligations.EnergyWindowsAdmitUnits` (GstressAndTemperatureAct) are met: each clause. -/
theorem test_witness_GstressAndTemperatureAct :
    (∃ (s : State), s.dev.running = true ∧ s.dev.pins.pgLow = []) ∧
    (∃ (s : State) (r : BitVec 16), s.dev.running = true ∧ s.dev.pins.pgLow = [] ∧ r.toInt < 500) ∧
    (∃ (s : State) (r : BitVec 16), s.dev.running = true ∧ s.dev.pins.pgLow = [] ∧ 500 ≤ r.toInt ∧ 1 ≤ s.dev.ebs.hotRun) :=
  ⟨⟨live.onDev (fun d => { d with now := 8 }), by decide +kernel⟩,
   ⟨live, 499, by decide +kernel⟩,
   ⟨(live.onDev (fun d => { d with ebs := { d.ebs with hotRun := 1 } })), 500, by decide +kernel⟩⟩

/-- The hypotheses of `Obligations.EnergyAndAgeingOpcodesAct` (EnergyOpcodesStageAndAnswer) are met: each clause. -/
theorem test_witness_EnergyOpcodesStageAndAnswer :
    (∃ (s : State) (m : Fin 16) (tag : Fin 4096) (gen : Fin 16) (c : Cmd) (t : Dev) (r : Res), s.dev.running = true ∧ s.dev.started m.val
      tag.val gen.val 0x0700 c ∧ s.dev.stageStrobe c (2 ^ 7) [(if c.pf 0 0 1 = 0 then Reg.EBS_CAP_HOST else Reg.EBS_CAP_BMC, wd (c.pf 1 0
      16))] { Res.ok [] with status := if c.pf 1 0 16 < 800 then stPartial else stOK } = (t, some r)) ∧
    (∃ (s : State) (m : Fin 16) (tag : Fin 4096) (gen : Fin 16) (c : Cmd), s.dev.running = true ∧ s.dev.started m.val tag.val gen.val
      0x0701 c) ∧
    (∃ (s : State) (m : Fin 16) (tag : Fin 4096) (gen : Fin 16) (c : Cmd), s.dev.running = true ∧ s.dev.started m.val tag.val gen.val
      0x0702 c) ∧
    (∃ (s : State) (m : Fin 16) (tag : Fin 4096) (gen : Fin 16) (c : Cmd) (t : Dev) (r : Res), s.dev.running = true ∧ s.dev.started m.val
      tag.val gen.val 0x0703 c ∧ s.dev.stageStrobe c (2 ^ 7) [(Reg.EBS_SLICE_LIMITs c.slice, wd (c.pf 1 0 16))] (Res.ok []) = (t, some r)) ∧
    (∃ (s : State) (m : Fin 16) (tag : Fin 4096) (gen : Fin 16) (c : Cmd) (t : Dev) (r : Res), s.dev.running = true ∧ s.dev.started m.val
      tag.val gen.val 0x0704 c ∧ energyClassSetBad c s.dev = false ∧ s.dev.stageExpert c (2 ^ 7) [(Reg.EBS_RESERVE, wd (c.pf 1 0 8 * 256 +
      c.pf 0 0 8))] = (t, some r)) ∧
    (∃ (s : State) (m : Fin 16) (tag : Fin 4096) (gen : Fin 16) (c : Cmd), s.dev.running = true ∧ s.dev.started m.val tag.val gen.val
      0x0704 c ∧ 255 < c.pf 0 0 8 + c.pf 1 0 8) ∧
    (∃ (s : State) (m : Fin 16) (tag : Fin 4096) (gen : Fin 16) (c : Cmd) (t : Dev) (r : Res), s.dev.running = true ∧ s.dev.started m.val
      tag.val gen.val 0x0705 c ∧ s.dev.stageExpert c (2 ^ 7) [(Reg.EBS_GSTRESS_CTRL, wd (Word.fld (s.dev.staged Reg.EBS_GSTRESS_CTRL) 0 1
      + 2 * c.pf 0 31 1 + 4 * c.pf 0 0 2))] = (t, some r)) ∧
    (∃ (s : State) (m : Fin 16) (tag : Fin 4096) (gen : Fin 16) (c : Cmd), s.dev.running = true ∧ s.dev.started m.val tag.val gen.val
      0x0706 c) :=
  ⟨⟨cmdState 0x0700 0xFFFF [1, 799], 0, 1, 0, _, _, _, by decide +kernel, ⟨rfl, by decide +kernel, by decide +kernel⟩, rfl⟩,
   ⟨cmdState 0x0701 0xFFFF [], 0, 1, 0, _, by decide +kernel, ⟨rfl, by decide +kernel, by decide +kernel⟩⟩,
   ⟨(cmdState 0x0702 0xFFFF [4, 2]).onDev (fun d => (d.setSlice 5 1).setReg (Reg.EBS_SLICE_ENERGYs 5 0) 9), 0, 1, 0, _, by decide +kernel,
     ⟨rfl, by decide +kernel, by decide +kernel⟩⟩,
   ⟨cmdState 0x0703 8191 [0, 1234], 0, 1, 0, _, _, _, by decide +kernel, ⟨rfl, by decide +kernel, by decide +kernel⟩, rfl⟩,
   ⟨cmdState 0x0704 0xFFFF [255, 0], 0, 1, 0, _, _, _, by decide +kernel, ⟨rfl, by decide +kernel, by decide +kernel⟩, by decide +kernel,
     rfl⟩,
   ⟨cmdState 0x0704 0xFFFF [255, 1], 0, 1, 0, _, by decide +kernel, ⟨rfl, by decide +kernel, by decide +kernel⟩, by decide +kernel⟩,
   ⟨cmdState 0x0705 0xFFFF [0x80000003], 0, 1, 0, _, _, _, by decide +kernel, ⟨rfl, by decide +kernel, by decide +kernel⟩, rfl⟩,
   ⟨cmdState 0x0706 0xFFFF [], 0, 1, 0, _, by decide +kernel, ⟨rfl, by decide +kernel, by decide +kernel⟩⟩⟩

/-- The hypotheses of `Obligations.MonitorsReplansAndPlansAct` (MonitorReadingsAndAgeingRecords) are met: one state. -/
theorem test_witness_MonitorReadingsAndAgeingRecords :
    ∃ (s : State), s.dev.running = true :=
  ⟨live, by decide +kernel⟩

/-- The hypotheses of `Obligations.MonitorsReplansAndPlansAct` (ReplansArePendingWithinTheirLimits) are met: each clause. -/
theorem test_witness_ReplansArePendingWithinTheirLimits :
    (∃ (s : State), s.dev.running = true ∧ s.dev.age.shortPlan = true) ∧
    (∃ (s : State), s.dev.running = true ∧ s.dev.age.shortPlan = false) :=
  ⟨⟨live.onDev (fun d => { d with age := { d.age with shortPlan := true } }), by decide +kernel⟩,
   ⟨live, by decide +kernel⟩⟩

/-- The hypotheses of `Obligations.MonitorsReplansAndPlansAct` (PlansApplyOverTheirVoltageSteps) are met: each clause. -/
theorem test_witness_PlansApplyOverTheirVoltageSteps :
    (∃ (s : State), s.dev.running = true ∧ s.dev.regN Reg.AGE_PENDING_VERSION = 0) ∧
    (∃ (s : State), s.dev.running = true ∧ s.dev.regN Reg.AGE_PLAN_VERSION < s.dev.regN Reg.AGE_PENDING_VERSION ∧ s.dev.age.vdd =
      s.dev.age.vddTarget ∧ tightening s.dev.planCur s.dev.planPend = true ∧ s.dev.age.vdd < planFld s.dev.planPend 4 16 16) ∧
    (∃ (s : State), s.dev.running = true ∧ s.dev.age.avsTries = 0 ∧ s.dev.age.vdd + 10 < s.dev.age.vddTarget) ∧
    (∃ (s : State), s.dev.running = true ∧ s.dev.age.avsTries = 1 ∧ s.dev.age.vdd + 10 < s.dev.age.vddTarget) ∧
    (∃ (s : State), s.dev.running = true ∧ s.dev.age.avsTries = 2 ∧ s.dev.age.vdd ≠ s.dev.age.vddTarget) :=
  ⟨⟨live, by decide +kernel⟩,
   ⟨live.onDev (fun d => ({ d.setReg Reg.AGE_PENDING_VERSION 9 with age := { d.age with vdd := 700, vddTarget := 700 } } : Dev).setReg
     (Reg.AGE_PLAN_PEND 4) 0x02E40000), by decide +kernel⟩,
   ⟨live.onDev (fun d => { d with age := { d.age with vddTarget := 780 } }), by decide +kernel⟩,
   ⟨live.onDev (fun d => { d with age := { d.age with vddTarget := 780, avsTries := 1 } }), by decide +kernel⟩,
   ⟨live.onDev (fun d => { d with age := { d.age with vddTarget := 740, avsTries := 2 } }), by decide +kernel⟩⟩

/-- The hypotheses of `Obligations.EnergyAndAgeingOpcodesAct` (AgeingOpcodesAnswer) are met: each clause. -/
theorem test_witness_AgeingOpcodesAnswer :
    (∃ (s : State) (m : Fin 16) (tag : Fin 4096) (gen : Fin 16) (c : Cmd), s.dev.running = true ∧ s.dev.started m.val tag.val gen.val
      0x0B10 c) ∧
    (∃ (s : State) (m : Fin 16) (tag : Fin 4096) (gen : Fin 16) (c : Cmd), s.dev.running = true ∧ s.dev.started m.val tag.val gen.val
      0x0B11 c ∧ c.pf 0 0 2 = 0) ∧
    (∃ (s : State) (m : Fin 16) (tag : Fin 4096) (gen : Fin 16) (c : Cmd), s.dev.running = true ∧ s.dev.started m.val tag.val gen.val
      0x0B11 c ∧ c.pf 0 0 2 = 2) ∧
    (∃ (s : State) (m : Fin 16) (tag : Fin 4096) (gen : Fin 16) (c : Cmd), s.dev.running = true ∧ s.dev.started m.val tag.val gen.val
      0x0B12 c ∧ agePlanScheduleBad c s.dev = false ∧ c.pf 0 31 1 = 0) ∧
    (∃ (s : State) (m : Fin 16) (tag : Fin 4096) (gen : Fin 16) (c : Cmd), s.dev.running = true ∧ s.dev.started m.val tag.val gen.val
      0x0B12 c ∧ s.dev.regN Reg.AGE_PENDING_VERSION = 0) ∧
    (∃ (s : State) (m : Fin 16) (tag : Fin 4096) (gen : Fin 16) (c : Cmd) (want : _), s.dev.running = true ∧ s.dev.started m.val tag.val
      gen.val 0x0B13 c ∧ ((s.dev.makePlan s.dev.planCur want 3).1.drop 4).take 11 = (s.dev.planCur.drop 4).take 11) ∧
    (∃ (s : State) (m : Fin 16) (tag : Fin 4096) (gen : Fin 16) (c : Cmd) (want : _), s.dev.running = true ∧ s.dev.started m.val tag.val
      gen.val 0x0B13 c ∧ ((s.dev.makePlan s.dev.planCur want 3).1.drop 4).take 11 ≠ (s.dev.planCur.drop 4).take 11) :=
  ⟨⟨(cmdState 0x0B10 0xFFFF []).onDev (fun d => { d.setReg (Reg.AGE_MONm 127) 0x00210005 with age := { d.age with bins := [(32, 5)] } }),
     0, 1, 0, _, by decide +kernel, ⟨rfl, by decide +kernel, by decide +kernel⟩⟩,
   ⟨cmdState 0x0B11 0xFFFF [0], 0, 1, 0, _, by decide +kernel, ⟨rfl, by decide +kernel, by decide +kernel⟩, by decide +kernel⟩,
   ⟨cmdState 0x0B11 0xFFFF [2], 0, 1, 0, _, by decide +kernel, ⟨rfl, by decide +kernel, by decide +kernel⟩, by decide +kernel⟩,
   ⟨(cmdState 0x0B12 0xFFFF [0, 5, 6]).onDev (fun d => d.setReg Reg.AGE_PENDING_VERSION 9), 0, 1, 0, _, by decide +kernel, ⟨rfl,
     by decide +kernel, by decide +kernel⟩, by decide +kernel⟩,
   ⟨cmdState 0x0B12 0xFFFF [0, 5, 6], 0, 1, 0, _, by decide +kernel, ⟨rfl, by decide +kernel, by decide +kernel⟩, by decide +kernel⟩,
   ⟨cmdState 0x0B13 0xFFFF [], 0, 1, 0, _, (cmdState 0x0B13 0xFFFF []).dev.planCur.drop 4, by decide +kernel, ⟨rfl, by decide +kernel,
     by decide +kernel⟩, by decide +kernel⟩,
   ⟨cmdState 0x0B13 0xFFFF [], 0, 1, 0, _, [], by decide +kernel, ⟨rfl, by decide +kernel, by decide +kernel⟩, by decide +kernel⟩⟩

/-- The hypotheses of `Obligations.HostLinksAndFunctionsAct` (HostLinksTrainAndGoDown) are met: each clause. -/
theorem test_witness_HostLinksTrainAndGoDown :
    (∃ (s : State) (l : Fin 4), s.dev.phyOn = true ∧ s.dev.linkUp l.val = true) ∧
    (∃ (s : State) (l : Fin 4) (rate : Fin 8) (width : Fin 32) (flit : Bool), s.dev.phyOn = true ∧ s.dev.linkUp l.val = false ∧
      s.dev.linkFns l.val ≠ [] ∧ 0 < rate.val ∧ rate.val < 5 ∧ (rate.val = 4 → flit = true) ∧ widthOk width.val (s.dev.bif (l.val / 2)) =
      true) ∧
    (∃ (s : State) (e : Fin 2), s.dev.phyOn = true ∧ s.dev.linkUp (2 * e.val) = false ∧ s.dev.linkUp (2 * e.val + 1) = false) :=
  ⟨⟨live.onDev (fun d => d.setBit (Reg.PCE_LINK_STATUSl 3) 15 true), 3, by decide +kernel⟩,
   ⟨live, 2, 4, 16, true, by decide +kernel⟩,
   ⟨live, 1, by decide +kernel⟩⟩

/-- The hypotheses of `Obligations.HostLinksAndFunctionsAct` (FunctionsStopResetAndReturn) are met: each clause. -/
theorem test_witness_FunctionsStopResetAndReturn :
    (∃ (s : State) (f : Fin 4), s.dev.phyOn = true ∧ (s.dev.fn f.val).present = true ∧ (s.dev.fn f.val).bme = true ∧ s.dev.noWork) ∧
    (∃ (s : State) (f : Fin 4), s.dev.phyOn = true ∧ (s.dev.fn f.val).present = true ∧ (s.dev.fn f.val).flr = false) ∧
    (∃ (s : State) (f : Fin 4), s.dev.phyOn = true ∧ (s.dev.fn f.val).present = true ∧ (s.dev.fn f.val).flr = false ∧ (s.dev.fn f.val).d3
      = false ∧ s.dev.noWork) ∧
    (∃ (s : State) (f : Fin 4), s.dev.phyOn = true ∧ (s.dev.fn f.val).present = true ∧ (s.dev.fn f.val).flr = false ∧ (s.dev.fn f.val).d3
      = true) ∧
    (∃ (s : State) (f : Fin 4), s.dev.phyOn = true ∧ (s.dev.fn f.val).present = true ∧ s.dev.noWork) ∧
    (∃ (s : State) (f : Fin 4), s.dev.phyOn = true ∧ (s.dev.fn f.val).present = true) :=
  ⟨⟨(live.onDev (fun d => { d with pce := { d.pce with fns := [(1, { PFn.absent with present := true, bme := true })] } })), 1,
     by decide +kernel, by decide +kernel, by decide +kernel, ⟨by decide +kernel, by decide +kernel, by decide +kernel, by decide +kernel,
     free_slices (by decide +kernel)⟩⟩,
   ⟨live.onDev (fun d => { d with pce := { d.pce with fns := [(1, { PFn.absent with present := true })] } }), 1, by decide +kernel⟩,
   ⟨(live.onDev (fun d => { d with pce := { d.pce with fns := [(1, { PFn.absent with present := true, bme := true })] } })), 1,
     by decide +kernel, by decide +kernel, by decide +kernel, by decide +kernel, ⟨by decide +kernel, by decide +kernel, by decide +kernel,
     by decide +kernel, free_slices (by decide +kernel)⟩⟩,
   ⟨live.onDev (fun d => { d with pce := { d.pce with fns := [(1, { PFn.absent with present := true, d3 := true })] } }), 1,
     by decide +kernel⟩,
   ⟨(live.onDev (fun d =>
     { (d.setReg (Reg.CMD_PIm 1) 3) with pce := { d.pce with reads := [(3, ⟨.outstanding, 1, none, .other, 0⟩)], fns := [(1, { PFn.absent with present := true, bme := true })] } })),
     1, by decide +kernel, by decide +kernel, ⟨by decide +kernel, by decide +kernel, by decide +kernel, by decide +kernel, free_slices
     (by decide +kernel)⟩⟩,
   ⟨live.onDev (fun d => { d with pce := { d.pce with fns := [(1, { PFn.absent with present := true, flr := true })] } }), 1,
     by decide +kernel⟩⟩

/-- The hypotheses of `Obligations.HostLinksAndFunctionsAct` (LinkPowerStates) are met: each clause. -/
theorem test_witness_LinkPowerStates :
    (∃ (s : State) (l : Fin 4), s.dev.running = true ∧ s.dev.linkUp l.val = true ∧ s.dev.detHomed l.val = true) ∧
    (∃ (s : State) (l : Fin 4), s.dev.running = true ∧ s.dev.linkUp l.val = true ∧ s.dev.detHomed l.val = false ∧ s.dev.bit
      (Reg.PCE_LINK_STATUSl l.val) 14 = true ∧ s.dev.fld (Reg.PCE_LINK_STATUSl l.val) 11 3 ≤ 1 ∧ s.dev.fld (Reg.PCE_PM_CTRLl l.val) 16 8 ≠
      0 ∧ s.dev.l0pMin l.val * 2 ≤ s.dev.fld (Reg.PCE_LINK_STATUSl l.val) 3 5) ∧
    (∃ (s : State) (l : Fin 4) (w : _), s.dev.running = true ∧ s.dev.linkUp l.val = true ∧ s.dev.fld (Reg.PCE_LINK_STATUSl l.val) 11 3 = 1
      ∧ Map.get? s.dev.pce.trained l.val = some w ∧ w < 32) ∧
    (∃ (s : State) (l : Fin 4), s.dev.running = true ∧ s.dev.linkUp l.val = true ∧ s.dev.detHomed l.val = false ∧ s.dev.fld
      (Reg.PCE_LINK_STATUSl l.val) 11 3 = 0 ∧ s.dev.fld (Reg.PCE_PM_CTRLl l.val) 24 8 ≠ 0) :=
  ⟨⟨((live.upFn0.onDev (fun d => d.setSlice 5 1)).withQ 0 5 3 [0, 0, 0x38000040, 0]), 0, by decide +kernel⟩,
   ⟨live.onDev (fun d => ((d.setReg (Reg.PCE_LINK_STATUSl 0) 0xC480).setReg (Reg.PCE_PM_CTRLl 0) 0x01010000)), 0, by decide +kernel⟩,
   ⟨live.onDev (fun d => { d.setReg (Reg.PCE_LINK_STATUSl 0) 0xCC40 with pce := { d.pce with trained := [(0, 16)] } }), 0, _,
     by decide +kernel, by decide +kernel, by decide +kernel, rfl, by decide +kernel⟩,
   ⟨live.onDev (fun d => ((d.setReg (Reg.PCE_LINK_STATUSl 0) 0xC480).setReg (Reg.PCE_PM_CTRLl 0) 0x01010000)), 0, by decide +kernel⟩⟩

/-- The hypotheses of `Obligations.CompletionsTranslationsInterruptsAct` (CompletionsLoadTimeOutAndQuarantine) are met: each clause. -/
theorem test_witness_CompletionsLoadTimeOutAndQuarantine :
    (∃ (s : State) (l : Fin 4) (tag : Fin 16384), s.dev.running = true ∧ s.dev.linkUp l.val = true ∧ Map.get? s.dev.pce.reads (16384 *
      l.val + tag.val) = none) ∧
    (∃ (s : State) (l : Fin 4) (tag : Fin 16384) (r : _) (id : _) (i : _) (bs : List Byte), s.dev.running = true ∧ s.dev.linkUp l.val =
      true ∧ Map.get? s.dev.pce.reads (16384 * l.val + tag.val) = some r ∧ r.state = .outstanding ∧ r.item = .payload id ∧ s.dev.rng.items
      = [(id, i)] ∧ i.bytes = [] ∧ bs.length = fragBytes i.frags) ∧
    (∃ (s : State) (l : Fin 4) (tag : Fin 16384) (r : _), s.dev.running = true ∧ Map.get? s.dev.pce.reads (16384 * l.val + tag.val) = some
      r ∧ r.state = .outstanding ∧ r.item = .other) ∧
    (∃ (s : State) (l : Fin 4) (tag : Fin 16384) (r : _), s.dev.running = true ∧ Map.get? s.dev.pce.reads (16384 * l.val + tag.val) = some
      r ∧ r.state = .quarantine ∧ s.dev.rng.items = []) ∧
    (∃ (s : State) (l : Fin 4) (tag : Fin 16384) (r : _), s.dev.running = true ∧ Map.get? s.dev.pce.reads (16384 * l.val + tag.val) = some
      r ∧ r.state = .quarantine ∧ s.dev.rng.items = [] ∧ s.dev.linkUp l.val = true) :=
  ⟨⟨live.onDev (fun d => d.setReg (Reg.PCE_LINK_STATUSl 0) 0xC480), 0, 3, by decide +kernel⟩,
   ⟨live.onDev (fun d =>
     { d.setReg (Reg.PCE_LINK_STATUSl 3) 0xC480 with pce := { d.pce with reads := [(16384 * 3 + 5, ⟨.outstanding, 3, some 0, .payload 4, 0⟩)] }, rng := { d.rng with items := [(4, { item0 with frags := [(0, 2)] })] } }),
     3, 5, _, _, _, [1, 2], by decide +kernel, by decide +kernel, rfl, by decide +kernel, rfl, rfl, by decide +kernel⟩,
   ⟨live.onDev (fun d => { d with pce := { d.pce with reads := [(16384 * 3 + 5, ⟨.outstanding, 3, none, .other, 0⟩)] } }), 3, 5, _,
     by decide +kernel, rfl, by decide +kernel⟩,
   ⟨live.onDev (fun d => { d with pce := { d.pce with reads := [(16384 * 3 + 5, ⟨.quarantine, 3, none, .other, 0⟩)] } }), 3, 5, _,
     by decide +kernel, rfl, by decide +kernel⟩,
   ⟨live.onDev (fun d =>
     { d.setReg (Reg.PCE_LINK_STATUSl 3) 0xC480 with pce := { d.pce with reads := [(16384 * 3 + 5, ⟨.quarantine, 3, none, .other, 0⟩)] } }),
     3, 5, _, by decide +kernel, rfl, by decide +kernel⟩⟩

/-- The hypotheses of `Obligations.CompletionsTranslationsInterruptsAct` (TranslationsAndInterruptsAct) are met: each clause. -/
theorem test_witness_TranslationsAndInterruptsAct :
    (∃ (s : State) (sl : Fin 8192) (a : Nat), s.dev.running = true ∧ (sl.val, a) ∉ s.dev.pce.pageReqs) ∧
    (∃ (s : State) (sl : Fin 8192) (a : Nat), s.dev.running = true ∧ (sl.val, a) ∈ s.dev.pce.pageReqs ∧ s.dev.pagedItems sl.val a = []) ∧
    (∃ (s : State) (sl : Fin 8192) (f : Fence), s.dev.running = true ∧ Map.get? s.dev.slc.fences sl.val = some f) ∧
    (∃ (s : State) (m : Fin 16) (v : Word), s.dev.running = true ∧ Word.bit v 31 = false ∧ Word.bit (s.dev.reg (Reg.PCE_IMS_ENTRY
      (s.dev.fld (Reg.PCE_IMS_INDEXm m.val) 0 17) 3)) 31 = false ∧ Word.bit (s.dev.reg (Reg.PCE_IMS_ENTRY (s.dev.fld (Reg.PCE_IMS_INDEXm
      m.val) 0 17) 3)) 29 = false) ∧
    (∃ (s : State) (m : Fin 16) (v : Word), s.dev.running = true ∧ Word.bit v 31 = true ∧ Word.bit (s.dev.reg (Reg.PCE_IMS_ENTRY
      (s.dev.fld (Reg.PCE_IMS_INDEXm m.val) 0 17) 3)) 31 = false ∧ Word.bit (s.dev.reg (Reg.PCE_IMS_ENTRY (s.dev.fld (Reg.PCE_IMS_INDEXm
      m.val) 0 17) 3)) 29 = false ∧ s.dev.poolRoom (Word.fld v 0 13) 1 1 = false) ∧
    (∃ (s : State) (m : Fin 16) (v : Word), s.dev.running = true ∧ Word.bit v 31 = true ∧ Word.bit (s.dev.reg (Reg.PCE_IMS_ENTRY
      (s.dev.fld (Reg.PCE_IMS_INDEXm m.val) 0 17) 3)) 31 = false ∧ Word.bit (s.dev.reg (Reg.PCE_IMS_ENTRY (s.dev.fld (Reg.PCE_IMS_INDEXm
      m.val) 0 17) 3)) 29 = false ∧ s.dev.poolRoom (Word.fld v 0 13) 1 1 = true) ∧
    (∃ (s : State) (f : Fin 4) (vec : Fin 2048), s.dev.running = true ∧ (s.dev.fn f.val).present = true ∧ vec.val ∉ (s.dev.fn f.val).pba) ∧
    (∃ (s : State) (f : Fin 4), s.dev.running = true ∧ (s.dev.fn f.val).present = true ∧ (s.dev.fn f.val).flr = false) :=
  ⟨⟨live, 5, 0x1000, by decide +kernel⟩,
   ⟨live.onDev (fun d => { d with pce := { d.pce with pageReqs := [(5, 0x1000)] } }), 5, 0x1000, by decide +kernel⟩,
   ⟨live.onDev (fun d => { d with slc := { d.slc with fences := [(5, ⟨false, [0, 1], true, 0, 0⟩)] } }), 5, _, by decide +kernel, rfl⟩,
   ⟨live.onDev (fun d => ((d.setReg (Reg.PCE_IMS_INDEXm 2) 131071).setReg (Reg.PCE_IMS_DATAm 2 1) 7).setReg (Reg.PCE_IMS_DATAm 2 2) 8), 2,
     0x48000005, by decide +kernel⟩,
   ⟨live, 2, 0x80000005, by decide +kernel⟩,
   ⟨live.onDev (fun d => (d.setSlice 5 1).setReg (Reg.SLC_QUOTA2 5) 0xFFFFFFFF), 2, 0x80000005, by decide +kernel⟩,
   ⟨live.onDev (fun d => { d with pce := { d.pce with fns := [(3, { PFn.absent with present := true })] } }), 3, 2047, by decide +kernel⟩,
   ⟨live.onDev (fun d => { d with pce := { d.pce with fns := [(3, { PFn.absent with present := true, intxPend := [7] })] } }), 3,
     by decide +kernel⟩⟩

/-- The hypotheses of `Obligations.SlicesCorkQuiesceAndFence` (SliceCorksUnderItsIncarnation) are met: each clause. -/
theorem test_witness_SliceCorksUnderItsIncarnation :
    (∃ (s : State) (v : Word), s.dev.running = true ∧ (Word.bit v 31 = false ∨ s.dev.sliceState (Word.fld v 0 13) = 0 ∨ s.dev.incarnation
      (Word.fld v 0 13) ≠ Word.fld v 16 8)) ∧
    (∃ (s : State) (v : Word), s.dev.running = true ∧ Word.bit v 31 = true ∧ s.dev.sliceState (Word.fld v 0 13) = 1 ∧ s.dev.incarnation
      (Word.fld v 0 13) = Word.fld v 16 8 ∧ s.dev.sliceChans (Word.fld v 0 13) = [] ∧ s.dev.fld (Reg.SLC_SLICE_STATUS (Word.fld v 0 13) 0)
      25 4 = 0) :=
  ⟨⟨live, 0x80030005, by decide +kernel⟩,
   ⟨(live.onDev (fun d => d.setSlice 8191 1)).onDev (fun d => d.setFld (Reg.SLC_SLICE_STATUS 8191 1) 24 8 255), 0x80FF1FFF,
     by decide +kernel⟩⟩

/-- The hypotheses of `Obligations.SlicesCorkQuiesceAndFence` (QuiesceWalkGoesStepByStep) are met: each clause. -/
theorem test_witness_QuiesceWalkGoesStepByStep :
    (∃ (s : State) (slice : Fin 8192) (w : Walk), s.dev.running = true ∧ Map.get? s.dev.slc.walks slice.val = some w ∧ s.dev.stepDone
      slice.val w.step = false) ∧
    (∃ (s : State) (slice : Fin 8192) (w : Walk), s.dev.running = true ∧ Map.get? s.dev.slc.walks slice.val = some w ∧ s.dev.sliceState
      slice.val = 3 ∧ s.dev.stepDone slice.val w.step = true ∧ w.step ∈ [1, 3, 4, 6, 7, 9]) ∧
    (∃ (s : State) (slice : Fin 8192) (w : Walk), s.dev.running = true ∧ Map.get? s.dev.slc.walks slice.val = some w ∧ s.dev.sliceState
      slice.val = 3 ∧ s.dev.stepDone slice.val 10 = true ∧ w.step = 10) :=
  ⟨⟨(live.onDev (fun d => d.setSlice 5 3)).onDev (fun d =>
     { d with slc := { d.slc with walks := [(5, ⟨9, [], []⟩)] }, rng := { d.rng with items := [(0, { item0 with slice := 5 })] } }), 5, _,
     by decide +kernel, rfl, by decide +kernel⟩,
   ⟨(live.onDev (fun d => d.setSlice 5 3)).onDev (fun d =>
     { d with slc := { d.slc with walks := [(5, ⟨9, [], []⟩)] }, rng := { d.rng with items := [(0, { item0 with slice := 6 })] } }), 5, _,
     by decide +kernel, rfl, by decide +kernel⟩,
   ⟨((cmdState 0x0101 5 [0, 0]).onDev (fun d => d.setSlice 5 3)).onDev (fun d =>
     { d with slc := { d.slc with walks := [(5, ⟨10, [], []⟩)] } }), 5, _, by decide +kernel, rfl, by decide +kernel⟩⟩

/-- The hypotheses of `Obligations.SlicesCorkQuiesceAndFence` (FenceClosesIntoTheNextIncarnation) are met: each clause. -/
theorem test_witness_FenceClosesIntoTheNextIncarnation :
    (∃ (s : State) (slice : Fin 8192) (f : Fence), s.dev.running = true ∧ Map.get? s.dev.slc.fences slice.val = some f ∧ f.stopSent = true
      ∧ s.dev.fenceClear slice.val f = false) ∧
    (∃ (s : State) (slice : Fin 8192) (f : Fence), s.dev.running = true ∧ Map.get? s.dev.slc.fences slice.val = some f ∧ f.stopSent = true
      ∧ s.dev.fenceClear slice.val f = true ∧ s.dev.sliceState slice.val = 5) :=
  ⟨⟨(live.onDev (fun d => d.setSlice 5 5)).onDev (fun d => { d with slc := { d.slc with fences := [(5, ⟨true, [1], true, 0, 0⟩)] } }), 5,
     _, by decide +kernel, rfl, by decide +kernel⟩,
   ⟨((live.onDev (fun d => d.setSlice 5 5)).onDev (fun d => d.setFld (Reg.SLC_SLICE_STATUS 5 1) 24 8 255)).onDev (fun d =>
     { d with slc := { d.slc with fences := [(5, ⟨true, [], true, 0, 0⟩)] } }), 5, _, by decide +kernel, rfl, by decide +kernel⟩⟩

/-- The hypotheses of `Obligations.SliceOpcodesAct` (SliceLifeOpcodes) are met: each clause. -/
theorem test_witness_SliceLifeOpcodes :
    (∃ (s : State) (m : Fin 16) (tag : Fin 4096) (gen : Fin 16) (c : Cmd) (st : _) (sl : _), s.dev.running = true ∧ s.dev.started m.val
      tag.val gen.val 0x0100 c ∧ s.dev.createCheck c = (st, sl) ∧ st ≠ stOK) ∧
    (∃ (s : State) (m : Fin 16) (tag : Fin 4096) (gen : Fin 16) (c : Cmd) (sl : _) (t : _) (r : _), s.dev.running = true ∧ s.dev.started
      m.val tag.val gen.val 0x0100 c ∧ s.dev.createCheck c = (stOK, sl) ∧ (s.dev.stageStrobe c (2 ^ 2 + 2 ^ 7) ((Reg.EBS_SLICE_LIMITs sl,
      c.p 8) :: (List.range 6).map (fun i => (Reg.SLC_QUOTA2 sl + 4 * i, c.p (2 + i)))) (Res.ok [wd (sl * 65536 + s.dev.incarnation sl)])
      = (t, some r)) ∧ r.status = stOK) ∧
    (∃ (s : State) (m : Fin 16) (tag : Fin 4096) (gen : Fin 16) (c : Cmd), s.dev.running = true ∧ s.dev.started m.val tag.val gen.val
      0x0101 c ∧ s.dev.sliceState c.slice = 4) ∧
    (∃ (s : State) (m : Fin 16) (tag : Fin 4096) (gen : Fin 16) (c : Cmd), s.dev.running = true ∧ s.dev.started m.val tag.val gen.val
      0x0101 c ∧ (s.dev.sliceState c.slice = 1 ∨ s.dev.sliceState c.slice = 2)) ∧
    (∃ (s : State) (m : Fin 16) (tag : Fin 4096) (gen : Fin 16) (c : Cmd), s.dev.running = true ∧ s.dev.started m.val tag.val gen.val
      0x0102 c ∧ s.dev.sliceState c.slice ≠ 4) ∧
    (∃ (s : State) (m : Fin 16) (tag : Fin 4096) (gen : Fin 16) (c : Cmd), s.dev.running = true ∧ s.dev.started m.val tag.val gen.val
      0x0102 c ∧ s.dev.sliceState c.slice = 4) ∧
    (∃ (s : State) (m : Fin 16) (tag : Fin 4096) (gen : Fin 16) (c : Cmd), s.dev.running = true ∧ s.dev.started m.val tag.val gen.val
      0x0103 c ∧ s.dev.sliceState c.slice ≠ 4) ∧
    (∃ (s : State) (m : Fin 16) (tag : Fin 4096) (gen : Fin 16) (c : Cmd), s.dev.running = true ∧ s.dev.started m.val tag.val gen.val
      0x0103 c ∧ s.dev.sliceState c.slice = 4) ∧
    (∃ (s : State) (m : Fin 16) (tag : Fin 4096) (gen : Fin 16) (c : Cmd), s.dev.running = true ∧ s.dev.started m.val tag.val gen.val
      0x0105 c ∧ s.dev.sliceState c.slice ≠ 1 ∧ s.dev.causeHolds c.slice = true) ∧
    (∃ (s : State) (m : Fin 16) (tag : Fin 4096) (gen : Fin 16) (c : Cmd), s.dev.running = true ∧ s.dev.started m.val tag.val gen.val
      0x0105 c ∧ s.dev.sliceState c.slice = 2 ∧ s.dev.causeHolds c.slice = false ∧ s.dev.canIssue (s.dev.home c.slice) = false) :=
  ⟨⟨cmdState 0x0100 0 [0, 0, 0, 0, 0, 0, 0, 0, 0, 0, 0, 0], 0, 1, 0, _, _, _, by decide +kernel, ⟨rfl, by decide +kernel,
     by decide +kernel⟩, rfl, by decide +kernel⟩,
   ⟨(cmdState 0x0100 0 [7, 3, 0, 0, 0, 0, 0, 0, 0, 0, 0, 0]).upFn0, 0, 1, 0, _, _, _, _, by decide +kernel, ⟨rfl, by decide +kernel,
     by decide +kernel⟩, rfl, rfl, by decide +kernel⟩,
   ⟨(cmdState 0x0101 5 [0, 0]).onDev (fun d => d.setSlice 5 4), 0, 1, 0, _, by decide +kernel, ⟨rfl, by decide +kernel,
     by decide +kernel⟩, by decide +kernel⟩,
   ⟨(cmdState 0x0101 5 [0, 0]).onDev (fun d => d.setSlice 5 2), 0, 1, 0, _, by decide +kernel, ⟨rfl, by decide +kernel,
     by decide +kernel⟩, by decide +kernel⟩,
   ⟨(cmdState 0x0102 5 [0]).onDev (fun d => d.setSlice 5 3), 0, 1, 0, _, by decide +kernel, ⟨rfl, by decide +kernel, by decide +kernel⟩,
     by decide +kernel⟩,
   ⟨((cmdState 0x0102 5 [0]).onDev (fun d => d.setFld (Reg.SLC_SLICE_STATUS 5 0) 25 7 (64 + 9))).onDev (fun d =>
     { d with slc := { d.slc with walks := [(5, ⟨11, [], []⟩)], dirty := [(5, [3])] } }), 0, 1, 0, _, by decide +kernel, ⟨rfl,
     by decide +kernel, by decide +kernel⟩, by decide +kernel⟩,
   ⟨(cmdState 0x0103 5 [0]).onDev (fun d => d.setSlice 5 3), 0, 1, 0, _, by decide +kernel, ⟨rfl, by decide +kernel, by decide +kernel⟩,
     by decide +kernel⟩,
   ⟨((cmdState 0x0103 5 [0]).onDev (fun d => d.setSlice 5 4)).withQ 1 5 0 [0, 0, 64, 0] , 0, 1, 0, _, by decide +kernel, ⟨rfl,
     by decide +kernel, by decide +kernel⟩, by decide +kernel⟩,
   ⟨(cmdState 0x0105 5 [0]).onDev (fun d => d.setFld (Reg.SLC_SLICE_STATUS 5 0) 25 7 (32 + 1)), 0, 1, 0, _, by decide +kernel, ⟨rfl,
     by decide +kernel, by decide +kernel⟩, by decide +kernel⟩,
   ⟨(cmdState 0x0105 5 [0]).onDev (fun d => d.setFld (Reg.SLC_SLICE_STATUS 5 0) 25 7 (32 + 9)), 0, 1, 0, _, by decide +kernel, ⟨rfl,
     by decide +kernel, by decide +kernel⟩, by decide +kernel⟩⟩

/-- The hypotheses of `Obligations.SliceOpcodesAct` (SliceStatusLogAndRecordOpcodes) are met: each clause. -/
theorem test_witness_SliceStatusLogAndRecordOpcodes :
    (∃ (s : State) (m : Fin 16) (tag : Fin 4096) (gen : Fin 16) (c : Cmd), s.dev.running = true ∧ s.dev.started m.val tag.val gen.val
      0x0104 c) ∧
    (∃ (s : State) (m : Fin 16) (tag : Fin 4096) (gen : Fin 16) (c : Cmd), s.dev.running = true ∧ s.dev.started m.val tag.val gen.val
      0x0106 c ∧ c.p 1 = 0) ∧
    (∃ (s : State) (m : Fin 16) (tag : Fin 4096) (gen : Fin 16) (c : Cmd), s.dev.running = true ∧ s.dev.started m.val tag.val gen.val
      0x0106 c ∧ c.p 1 = 1) ∧
    (∃ (s : State) (m : Fin 16) (tag : Fin 4096) (gen : Fin 16) (c : Cmd) (set : _), s.dev.running = true ∧ s.dev.started m.val tag.val
      gen.val 0x0106 c ∧ c.p 1 = 2 ∧ s.dev.canIssue (s.dev.home c.slice) = true ∧ Map.getD s.dev.slc.dirty c.slice [] = set) ∧
    (∃ (s : State) (m : Fin 16) (tag : Fin 4096) (gen : Fin 16) (c : Cmd), s.dev.running = true ∧ s.dev.started m.val tag.val gen.val
      0x0107 c ∧ s.dev.sliceState c.slice = 4 ∧ s.dev.canIssue (s.dev.home c.slice) = true) ∧
    (∃ (s : State) (m : Fin 16) (tag : Fin 4096) (gen : Fin 16) (c : Cmd), s.dev.running = true ∧ s.dev.started m.val tag.val gen.val
      0x0107 c ∧ s.dev.sliceState c.slice ≠ 4) ∧
    (∃ (s : State) (m : Fin 16) (tag : Fin 4096) (gen : Fin 16) (c : Cmd) (ws : List Word) (es : _) (t : _), s.dev.running = true ∧
      s.dev.started m.val tag.val gen.val 0x0108 c ∧ s.dev.sliceState c.slice = 4 ∧ s.dev.sliceQueues 0 c.slice = [] ∧ s.dev.sliceQueues 1
      c.slice = [] ∧ recordEntries ws (c.p 3).toNat = some es ∧ (es.foldl (fun (d : Option Dev) e => d.bind (fun d => d.loadEntry c.slice
      e.1 e.2)) (some s.dev) = some t)) ∧
    (∃ (s : State) (m : Fin 16) (tag : Fin 4096) (gen : Fin 16) (c : Cmd) (ws : List Word) (es : _), s.dev.running = true ∧ s.dev.started
      m.val tag.val gen.val 0x0108 c ∧ s.dev.sliceState c.slice = 4 ∧ s.dev.sliceQueues 0 c.slice = [] ∧ s.dev.sliceQueues 1 c.slice = []
      ∧ recordEntries ws (c.p 3).toNat = some es ∧ (es.foldl (fun (d : Option Dev) e => d.bind (fun d => d.loadEntry c.slice e.1 e.2))
      (some s.dev) = none)) :=
  ⟨⟨cmdState 0x0104 5 [0], 0, 1, 0, _, by decide +kernel, ⟨rfl, by decide +kernel, by decide +kernel⟩⟩,
   ⟨((cmdState 0x0106 5 [0, 0, 0, 0, 0]).onDev (fun d => { d with slc := { d.slc with dirty := [(5, [3, 4])] } })).onDev (fun d =>
     d.setReg Reg.SLC_DIRTY_USED 2), 0, 1, 0, _, by decide +kernel, ⟨rfl, by decide +kernel, by decide +kernel⟩, by decide +kernel⟩,
   ⟨((cmdState 0x0106 5 [0, 1, 0, 0, 0]).onDev (fun d => { d with slc := { d.slc with dirty := [(5, [3, 4])] } })).onDev (fun d =>
     d.setReg Reg.SLC_DIRTY_USED 2), 0, 1, 0, _, by decide +kernel, ⟨rfl, by decide +kernel, by decide +kernel⟩, by decide +kernel⟩,
   ⟨((cmdState 0x0106 5 [0, 2, 0, 0, 1]).upFn0).onDev (fun d => { d with slc := { d.slc with dirty := [(5, [3, 4])] } }), 0, 1, 0, _, _,
     by decide +kernel, ⟨rfl, by decide +kernel, by decide +kernel⟩, by decide +kernel, by decide +kernel, rfl⟩,
   ⟨((cmdState 0x0107 5 [0, 0, 0, 4096]).upFn0).onDev (fun d => d.setSlice 5 4), 0, 1, 0, _, by decide +kernel, ⟨rfl, by decide +kernel,
     by decide +kernel⟩, by decide +kernel⟩,
   ⟨cmdState 0x0107 5 [0, 0, 0, 4096], 0, 1, 0, _, by decide +kernel, ⟨rfl, by decide +kernel, by decide +kernel⟩, by decide +kernel⟩,
   ⟨((cmdState 0x0108 5 [0, 0, 0, 68]).onDev (fun d => d.setSlice 5 4)), 0, 1, 0, cmdOf 0x0108 5 [0, 0, 0, 68], recordOf [0x00010000, 64,
     0, 0] [], [], _, by decide +kernel, ⟨by decide +kernel, by decide +kernel, by decide +kernel⟩, by decide +kernel, by decide +kernel,
     by decide +kernel, record_entries (n := 0) rfl (by decide +kernel) (by decide +kernel) (by decide +kernel) (by decide +kernel) rfl,
     rfl⟩,
   ⟨((cmdState 0x0108 5 [0, 0, 0, 68]).onDev (fun d => d.setSlice 5 4)), 0, 1, 0, cmdOf 0x0108 5 [0, 0, 0, 68], recordOf [0x00010000, 68,
     0x00010000, 0] [4], [(0, [])], by decide +kernel, ⟨by decide +kernel, by decide +kernel, by decide +kernel⟩, by decide +kernel,
     by decide +kernel, by decide +kernel, record_entries (n := 1) rfl (by decide +kernel) (by decide +kernel) (by decide +kernel)
     (by decide +kernel) rfl, rfl⟩⟩

/-- The hypotheses of `Obligations.DoorbellsAndFetchesAct` (DoorbellsRecordIndicesOrCork) are met: each clause. -/
theorem test_witness_DoorbellsRecordIndicesOrCork :
    (∃ (s : State) (f : Fin 4) (addr : Nat), s.dev.running = true ∧ (s.dev.fn f.val).present = true ∧ addr / 4096 < 8192 ∧ addr % 4 = 0 ∧
      s.dev.home (addr / 4096) ≠ f.val) ∧
    (∃ (s : State) (f : Fin 4) (addr : Nat) (w : Word) (q : _), s.dev.running = true ∧ (s.dev.fn f.val).present = true ∧ addr / 4096 <
      8192 ∧ addr % 4 = 0 ∧ s.dev.home (addr / 4096) = f.val ∧ Word.bit w 31 = false ∧ Word.fld w 26 5 = 0 ∧ s.dev.queue? 0 (addr / 4096)
      (Word.fld w 16 10) = some q ∧ s.dev.qStopped 0 q = false ∧ fwd16 (Word.fld w 0 16) (s.dev.hostIdx 0 q) < 32768 ∧ fwd16 (Word.fld w 0
      16) (s.dev.devIdx 0 q) ≤ s.dev.qSize 0 q ∧ s.dev.bit (Reg.RNG_QCFG2 0 q) 27 = false ∧ Word.fld w 0 16 ≠ s.dev.devIdx 0 q) ∧
    (∃ (s : State) (f : Fin 4) (addr : Nat) (w : Word), s.dev.running = true ∧ (s.dev.fn f.val).present = true ∧ addr / 4096 < 8192 ∧ addr
      % 4 = 0 ∧ s.dev.home (addr / 4096) = f.val ∧ Word.bit w 31 = false ∧ s.dev.queue? 0 (addr / 4096) (Word.fld w 16 10) = none ∧
      s.dev.sliceState (addr / 4096) = 1 ∧ s.dev.sliceChans (addr / 4096) = []) ∧
    (∃ (s : State) (f : Fin 4) (addr : Nat) (w : Word) (q : _), s.dev.running = true ∧ (s.dev.fn f.val).present = true ∧ addr / 4096 <
      8192 ∧ addr % 4 = 0 ∧ s.dev.home (addr / 4096) = f.val ∧ Word.bit w 31 = true ∧ Word.fld w 26 4 = 0 ∧ s.dev.queue? 1 (addr / 4096)
      (Word.fld w 16 10) = some q ∧ s.dev.qStopped 1 q = false ∧ fwd16 (Word.fld w 0 16) (s.dev.hostIdx 1 q) = fwd16 (s.dev.devIdx 1 q)
      (s.dev.hostIdx 1 q) ∧ s.dev.devIdx 1 q = Word.fld w 0 16 ∧ s.dev.spillOf q = []) :=
  ⟨⟨live.upFn0.onDev (fun d => d.setFld (Reg.SLC_SLICE_STATUS 5 0) 20 2 1), 0, (5 * 4096), by decide +kernel⟩,
   ⟨(live.upFn0.onDev (fun d => d.setSlice 5 1)).withQ 0 5 3 [0, 0, 64, 0], 0, (5 * 4096), 0x00030040, _, by decide +kernel,
     by decide +kernel, by decide +kernel, by decide +kernel, by decide +kernel, by decide +kernel, by decide +kernel, rfl,
     by decide +kernel⟩,
   ⟨(live.upFn0.onDev (fun d => d.setSlice 5 1)), 0, (5 * 4096), 0x00030040, by decide +kernel⟩,
   ⟨((live.upFn0.onDev (fun d => d.setSlice 5 1)).withQ 1 5 3 [0, 0, 64, 0]).onDev (fun d =>
     { d.setReg (Reg.RNG_QSTATE0 1 0) 0xFFFF0001 with rng := { d.rng with delay := [(0, 5)] } }), 0, (5 * 4096 + 4092), 0xC003FFFF, _,
     by decide +kernel, by decide +kernel, by decide +kernel, by decide +kernel, by decide +kernel, by decide +kernel, by decide +kernel,
     rfl, by decide +kernel⟩⟩

/-- The hypotheses of `Obligations.DoorbellsAndFetchesAct` (SqServicesOpenTheFetch) are met: each clause. -/
theorem test_witness_SqServicesOpenTheFetch :
    (∃ (s : State) (slice : Fin 8192) (f : Firing) (fs : List Firing), s.dev.running = true ∧ s.dev.gau.firings = f :: fs ∧ f.action = 4 ∧
      f.target = slice.val ∧ s.dev.queue? 0 slice.val (Word.fld f.arg 0 10) = none) ∧
    (∃ (s : State) (slice : Fin 8192) (f : Firing) (fs : List Firing) (q : _), s.dev.running = true ∧ s.dev.gau.firings = f :: fs ∧
      f.action = 4 ∧ f.target = slice.val ∧ s.dev.queue? 0 slice.val (Word.fld f.arg 0 10) = some q ∧ s.dev.sliceState slice.val = 1 ∧
      s.dev.bit (Reg.RNG_QCFG2 0 q) 27 = true ∧ s.dev.hostIdx 0 q ≠ s.dev.devIdx 0 q) ∧
    (∃ (s : State) (q : Fin 131072) (t : Dev), s.dev.running = true ∧ s.dev.rng.pending.contains q.val = true ∧ s.dev.sliceState
      (s.dev.qSlice 0 q.val) = 1 ∧ s.dev.qStopped 0 q.val = false ∧ s.dev.offer .doorbell q.val (s.dev.sqClass q.val) (s.dev.unitCost 7 0)
      (some (s.dev.qSlice 0 q.val)) (s.dev.rng.angled.contains q.val) = (false, t)) ∧
    (∃ (s : State) (q : Fin 131072) (t : Dev), s.dev.running = true ∧ s.dev.rng.pending.contains q.val = true ∧ s.dev.sliceState
      (s.dev.qSlice 0 q.val) = 1 ∧ s.dev.qStopped 0 q.val = false ∧ s.dev.offer .doorbell q.val (s.dev.sqClass q.val) (s.dev.unitCost 7 0)
      (some (s.dev.qSlice 0 q.val)) (s.dev.rng.angled.contains q.val) = (true, t) ∧ t.bit (Reg.RNG_QCFG2 0 q.val) 27 = false) :=
  ⟨⟨live.onDev (fun d => { d with gau := { d.gau with firings := [⟨4, 5, 3, 0, 0, false, false, 0⟩] } }), 5, _, _, by decide +kernel, rfl,
     by decide +kernel⟩,
   ⟨((((live.onDev (fun d => d.setSlice 5 1)).withQ 0 5 3 [0, 0, 0x08000040, 0]).onDev (fun d => d.setFld (Reg.RNG_QSTATE0 0 0) 0 16
     9)).onDev (fun d => { d with gau := { d.gau with firings := [⟨4, 5, 3, 0, 0, false, false, 0⟩] } })), 5, ⟨4, 5, 3, 0, 0, false,
     false, 0⟩, [], 0, by decide +kernel⟩,
   ⟨(((live.onDev (fun d => d.setSlice 5 1)).withQ 0 5 3 [0, 0, 0x20000040, 0]).onDev (fun d => d.setFld (Reg.RNG_QSTATE0 0 0) 0 16
     9)).onDev (fun d => { d with rng := { d.rng with pending := [0] }, ebs := { d.ebs with room := -1 } }), 0, _, by decide +kernel,
     by decide +kernel, by decide +kernel, by decide +kernel, rfl⟩,
   ⟨(((live.onDev (fun d => d.setSlice 5 1)).withQ 0 5 3 [0, 0, 0x10000040, 0]).onDev (fun d => d.setFld (Reg.RNG_QSTATE0 0 0) 0 16
     9)).onDev (fun d => { d with rng := { d.rng with pending := [0] }, ebs := { d.ebs with granted := [(.doorbell, 0)] } }), 0, _,
     by decide +kernel, by decide +kernel, by decide +kernel, by decide +kernel, rfl, by decide +kernel⟩⟩

/-- The hypotheses of `Obligations.DoorbellsAndFetchesAct` (FetchedEntriesBecomeItems) are met: each clause. -/
theorem test_witness_FetchedEntriesBecomeItems :
    (∃ (s : State) (q : Fin 131072), s.dev.running = true ∧ s.dev.fetchable q.val = false) ∧
    (∃ (s : State) (q : Fin 131072) (entry : List Word) (table : List Word) (code : Fin 256), s.dev.running = true ∧ s.dev.fetchable q.val
      = true ∧ s.dev.nvqOf q.val = none ∧ Word.fld (wordAt entry 0) 28 4 = 2 ∧ s.dev.entryFault q.val entry table code.val = none) :=
  ⟨⟨live, 0, by decide +kernel⟩,
   ⟨(((live.upFn0.onDev (fun d => d.setSlice 5 1)).withQ 1 5 2 [0, 0, 64, 0]).withQ 0 5 3 [0, 0, 0x40020040, 0]).onDev (fun d =>
     { d.setReg (Reg.RNG_QSTATE0 0 0) 0xFFFF0009 with rng := { d.rng with fetchTo := [(0, 9)] } }), 0, [0x20001000, 2048, 0, 0, 0, 0, 0,
     0, 0x1000, 0, 2048, 0, 0, 0, 0, 0], [], 0, by decide +kernel⟩⟩

/-- The hypotheses of `Obligations.TransmitItemsAndQueueOpcodesAct` (TransmitItemsBecomeFramesAndEnd) are met: each clause. -/
theorem test_witness_TransmitItemsBecomeFramesAndEnd :
    (∃ (s : State) (n : Nat) (i : Item), s.dev.running = true ∧ Map.get? s.dev.rng.items n = some i ∧ i.phase = .loaded ∧ i.kind = 0 ∧
      s.dev.feedOf i.dq = none ∧ s.dev.flt.failed.contains (hostPg i.slice) = false ∧ Word.bit (wordAt i.entry 0) 27 = true) ∧
    (∃ (s : State) (f : Nat) (n : Nat) (p : Nat) (g : Frame) (i : Item), s.dev.running = true ∧ s.dev.frame? f = some g ∧ g.place =
      .sending p ∧ g.item = some n ∧ s.dev.rng.items = [(n, i)]) ∧
    (∃ (s : State) (q : Fin 131072), s.dev.running = true ∧ Map.get? s.dev.rng.delay q.val = none) ∧
    (∃ (s : State) (q : Fin 131072) (x : Nat), s.dev.running = true ∧ Map.get? s.dev.rng.delay q.val = some x) :=
  ⟨⟨((live.onDev (fun d => d.setSlice 5 1)).withQ 0 5 3 [0, 0, 64, 0]).onDev (fun d =>
     { d with rng := { d.rng with items := [(7, { item0 with phase := .loaded, slice := 5, entry := [0x18001000], bytes := [1, 2, 3] })] } }),
     7, _, by decide +kernel, rfl, by decide +kernel⟩,
   ⟨live.onDev (fun d =>
     { (d.newFrame { Frame.new 0 16 2 (.sending 4) [1, 2] 0 0 0 with item := some 7 }).2 with rng := { d.rng with items := [(7, { item0 with phase := .stamping, slice := 5 })] } }),
     0, _, _, _, _, by decide +kernel, rfl, rfl, rfl, rfl⟩,
   ⟨live, 3, by decide +kernel⟩,
   ⟨((live.onDev (fun d => d.setSlice 5 1)).withQ 1 5 3 [0, 0, 64, 0]).onDev (fun d =>
     { d.setBit (Reg.RNG_QSTATE1 1 0) 29 true with rng := { d.rng with delay := [(0, 5)] } }), 0, _, by decide +kernel, rfl⟩⟩

/-- The hypotheses of `Obligations.TransmitItemsAndQueueOpcodesAct` (QueueOpcodes) are met: each clause. -/
theorem test_witness_QueueOpcodes :
    (∃ (s : State) (m : Fin 16) (tag : Fin 4096) (gen : Fin 16) (c : Cmd), s.dev.running = true ∧ s.dev.started m.val tag.val gen.val
      0x0200 c ∧ s.dev.queueBad c.slice (c.params.drop 1) = true) ∧
    (∃ (s : State) (m : Fin 16) (tag : Fin 4096) (gen : Fin 16) (c : Cmd) (n : _) (q : _) (t : _), s.dev.running = true ∧ s.dev.started
      m.val tag.val gen.val 0x0200 c ∧ s.dev.queueBad c.slice (c.params.drop 1) = false ∧ c.pf 1 30 2 ≠ 2 ∧ lowestFree (s.dev.sliceQueues
      0 c.slice) (s.dev.fld (Reg.SLC_SLICE_STATUS c.slice 1) 0 11) = some n ∧ s.dev.makeQueue 0 c.slice n (queueCfg (c.params.drop 1)) =
      some (q, t)) ∧
    (∃ (s : State) (m : Fin 16) (tag : Fin 4096) (gen : Fin 16) (c : Cmd), s.dev.running = true ∧ s.dev.started m.val tag.val gen.val
      0x0201 c ∧ s.dev.namedQueue c = none) ∧
    (∃ (s : State) (m : Fin 16) (tag : Fin 4096) (gen : Fin 16) (c : Cmd) (x : _), s.dev.running = true ∧ s.dev.started m.val tag.val
      gen.val 0x0201 c ∧ s.dev.namedQueue c = some x ∧ s.dev.sliceState c.slice ≠ 4) ∧
    (∃ (s : State) (m : Fin 16) (tag : Fin 4096) (gen : Fin 16) (c : Cmd) (q : _), s.dev.running = true ∧ s.dev.started m.val tag.val
      gen.val 0x0201 c ∧ s.dev.namedQueue c = some (0, q) ∧ s.dev.sliceState c.slice = 4 ∧ s.dev.ofNvq c.slice (c.pf 1 0 10) = false) ∧
    (∃ (s : State) (m : Fin 16) (tag : Fin 4096) (gen : Fin 16) (c : Cmd) (cq : _) (q : _), s.dev.running = true ∧ s.dev.started m.val
      tag.val gen.val 0x0202 c ∧ s.dev.namedQueue c = some (cq, q) ∧ s.dev.qStopped cq q = false) :=
  ⟨⟨cmdState 0x0200 5 [0, 0, 0, 0, 0, 0, 0], 0, 1, 0, _, by decide +kernel, ⟨rfl, by decide +kernel, by decide +kernel⟩,
     by decide +kernel⟩,
   ⟨((cmdState 0x0200 5 [0, 64, 0, 0, 2, 0, 0]).onDev (fun d => (d.setSlice 5 1).setFld (Reg.SLC_SLICE_STATUS 5 1) 0 11 4)).withQ 1 5 2
     [0, 0, 64, 0], 0, 1, 0, _, _, _, _, by decide +kernel, ⟨rfl, by decide +kernel, by decide +kernel⟩, by decide +kernel,
     by decide +kernel, rfl, rfl⟩,
   ⟨cmdState 0x0201 5 [0, 3], 0, 1, 0, _, by decide +kernel, ⟨rfl, by decide +kernel, by decide +kernel⟩, by decide +kernel⟩,
   ⟨(cmdState 0x0201 5 [0, 3]).withQ 0 5 3 [0, 0, 64, 0], 0, 1, 0, _, _, by decide +kernel, ⟨rfl, by decide +kernel, by decide +kernel⟩,
     rfl, by decide +kernel⟩,
   ⟨((cmdState 0x0201 5 [0, 3]).withQ 0 5 3 [0, 0, 64, 0]).onDev (fun d => d.setSlice 5 4), 0, 1, 0, _, _, by decide +kernel, ⟨rfl,
     by decide +kernel, by decide +kernel⟩, rfl, by decide +kernel⟩,
   ⟨(cmdState 0x0202 5 [0, 3]).withQ 0 5 3 [0, 0, 64, 0], 0, 1, 0, _, _, _, by decide +kernel, ⟨rfl, by decide +kernel,
     by decide +kernel⟩, rfl, by decide +kernel⟩⟩

/-- The hypotheses of `Obligations.DmaChannelsAct` (DmaKicksAndDisables) are met: each clause. -/
theorem test_witness_DmaKicksAndDisables :
    (∃ (s : State) (c : Fin 64), s.dev.running = true ∧ (s.dev.chState c.val = 0 ∨ s.dev.chState c.val = 4) ∧ s.dev.dma.kicked.contains
      c.val = false) ∧
    (∃ (s : State) (c : Fin 64), s.dev.running = true ∧ s.dev.chState c.val = 1 ∧ s.dev.dma.remembered.contains c.val = false) ∧
    (∃ (s : State) (c : Fin 64), s.dev.running = true ∧ (s.dev.chState c.val = 3 ∨ s.dev.chState c.val = 5)) ∧
    (∃ (s : State) (c : Fin 64) (f : _) (fs : _), s.dev.running = true ∧ s.dev.gau.firings = f :: fs ∧ f.action = 5 ∧ f.target = c.val ∧
      s.dev.chState c.val = 0) ∧
    (∃ (s : State) (v : _), s.dev.running = true ∧ Word.bit v 0 = false) ∧
    (∃ (s : State) (v : _), s.dev.running = true ∧ Word.bit v 0 = true) :=
  ⟨⟨live.onDev (fun d => d.setChState 63 0), 63, by decide +kernel⟩,
   ⟨live.onDev (fun d => d.setChState 63 1), 63, by decide +kernel⟩,
   ⟨live.onDev (fun d => d.setChState 63 5), 63, by decide +kernel⟩,
   ⟨live.onDev (fun d => { d.setChState 9 0 with gau := { d.gau with firings := [⟨5, 9, 3, 0, 0, false, false, 0⟩] } }), 9, _, _,
     by decide +kernel, rfl, by decide +kernel⟩,
   ⟨live, 2, by decide +kernel⟩,
   ⟨live.onDev (fun d =>
     { d.setChState 63 1 with dma := { d.dma with kicked := [63, 1], run := [(63, ⟨5, [0x80000000, 10], [(0, 10)], [(0, 10)], 3⟩)] } }),
     1, by decide +kernel⟩⟩

/-- The hypotheses of `Obligations.DmaChannelsAct` (DmaDescriptorsRunChunkByChunk) are met: each clause. -/
theorem test_witness_DmaDescriptorsRunChunkByChunk :
    (∃ (s : State) (c : Fin 64), s.dev.running = true ∧ s.dev.dma.kicked.contains c.val = false) ∧
    (∃ (s : State) (c : Fin 64) (ws : List Word) (t : Dev), s.dev.running = true ∧ s.dev.dma.kicked.contains c.val = true ∧ s.dev.chState
      c.val = 0 ∧ s.dev.bit (Reg.DMA_CHc_CTRL c.val) 25 = false ∧ s.dev.canIssue (s.dev.chFn c.val) = true ∧ s.dev.offer .dma c.val
      (s.dev.chClass c.val) 0 (s.dev.chSlice c.val) (s.dev.dma.angleKicks.contains c.val) = (true, t) ∧ Word.bit (wordAt (ws.take 8) 0) 31
      = false) ∧
    (∃ (s : State) (c : Fin 64) (ws : List Word) (src : List Word) (dst : List Word) (t : Dev) (sf : _) (df : _), s.dev.running = true ∧
      s.dev.dma.kicked.contains c.val = true ∧ s.dev.chState c.val = 0 ∧ s.dev.bit (Reg.DMA_CHc_CTRL c.val) 25 = false ∧ s.dev.canIssue
      (s.dev.chFn c.val) = true ∧ s.dev.offer .dma c.val (s.dev.chClass c.val) 0 (s.dev.chSlice c.val) (s.dev.dma.angleKicks.contains
      c.val) = (true, t) ∧ Word.bit (wordAt (ws.take 8) 0) 31 = true ∧ wordAt (ws.take 8) 1 ≠ 0 ∧ t.descSides c.val (ws.take 8) src dst =
      some (sf, df)) ∧
    (∃ (s : State) (c : Fin 64) (r : Desc) (bytes : List Byte), s.dev.running = true ∧ Map.get? s.dev.dma.run c.val = some r ∧ r.done <
      (wordAt r.words 1).toNat ∧ s.dev.canIssue (s.dev.chFn c.val) = true ∧ Nat.min 4096 ((wordAt r.words 1).toNat - r.done) ≤
      bytes.length) ∧
    (∃ (s : State) (c : Fin 64) (r : Desc), s.dev.running = true ∧ Map.get? s.dev.dma.run c.val = some r ∧ r.done = (wordAt r.words
      1).toNat ∧ s.dev.chState c.val = 1 ∧ s.dev.chPending c.val = false) :=
  ⟨⟨live, 5, by decide +kernel⟩,
   ⟨live.upFn0.onDev (fun d => { (d.setReg (Reg.DMA_CHc_CTRL 5) 0xC0000010).setChState 5 0 with dma := { d.dma with kicked := [5] } }), 5,
     [0, 0, 0, 0, 0, 0, 0, 0], _, by decide +kernel, by decide +kernel, by decide +kernel, by decide +kernel, by decide +kernel, rfl,
     by decide +kernel⟩,
   ⟨live.upFn0.onDev (fun d => { (d.setReg (Reg.DMA_CHc_CTRL 5) 0xC0000010).setChState 5 0 with dma := { d.dma with kicked := [5] } }), 5,
     [0x80000000, 5000, 0x1000, 0, 0x4000, 0, 0, 0], [], [], _, _, _, by decide +kernel, by decide +kernel, by decide +kernel,
     by decide +kernel, by decide +kernel, rfl, by decide +kernel, by decide +kernel, rfl⟩,
   ⟨live.upFn0.onDev (fun d =>
     { d.setChState 5 1 with dma := { d.dma with run := [(5, ⟨0, [0x80000000, 10, 0x1000, 0, 0x4000, 0, 0, 0], [(0x1000, 10)], [(0x4000, 10)], 6⟩)] } }),
     5, _, [1, 2, 3, 4, 5], by decide +kernel, rfl, by decide +kernel⟩,
   ⟨live.upFn0.onDev (fun d =>
     { (d.setChState 5 1).setReg (Reg.DMA_CHc_CTRL 5) 0xC0000010 with dma := { d.dma with run := [(5, ⟨0, [0xC0000000, 10, 0x1000, 0, 0x4000, 0, 0, 0], [(0x1000, 10)], [(0x4000, 10)], 10⟩)], remembered := [5] } }),
     5, _, by decide +kernel, rfl, by decide +kernel⟩⟩

/-- The hypotheses of `Obligations.DmaChannelsAct` (DmaChannelOpcodes) are met: each clause. -/
theorem test_witness_DmaChannelOpcodes :
    (∃ (s : State) (m : Fin 16) (tag : Fin 4096) (gen : Fin 16) (c : Cmd), s.dev.running = true ∧ s.dev.started m.val tag.val gen.val
      0x0203 c ∧ chanSetBad c s.dev = true) ∧
    (∃ (s : State) (m : Fin 16) (tag : Fin 4096) (gen : Fin 16) (c : Cmd) (t : _) (r : _), s.dev.running = true ∧ s.dev.started m.val
      tag.val gen.val 0x0203 c ∧ chanSetBad c s.dev = false ∧ c.slice? = none ∧ s.dev.stageStrobe c (2 ^ 4) [(Reg.DMA_CHc_BASE_LO (c.pf 1
      0 6), c.p 2), (Reg.DMA_CHc_BASE_LO (c.pf 1 0 6) + 4, c.p 3), (Reg.DMA_CHc_CTRL (c.pf 1 0 6), Word.setFld (c.p 5) 0 16 (c.pf 4 0
      16)), (Reg.DMA_CHc_IRQ (c.pf 1 0 6), c.p 6), (Reg.DMA_CHc_OWNER (c.pf 1 0 6), 0)] (Res.ok []) = (t, some r)) ∧
    (∃ (s : State) (m : Fin 16) (tag : Fin 4096) (gen : Fin 16) (c : Cmd), s.dev.running = true ∧ s.dev.started m.val tag.val gen.val
      0x0204 c ∧ c.pf 1 0 1 = 1) ∧
    (∃ (s : State) (m : Fin 16) (tag : Fin 4096) (gen : Fin 16) (c : Cmd), s.dev.running = true ∧ s.dev.started m.val tag.val gen.val
      0x0204 c ∧ c.pf 1 0 1 = 0 ∧ s.dev.chState (c.pf 0 0 6) = 0) ∧
    (∃ (s : State) (m : Fin 16) (tag : Fin 4096) (gen : Fin 16) (c : Cmd), s.dev.running = true ∧ s.dev.started m.val tag.val gen.val
      0x0204 c ∧ c.pf 1 0 1 = 0 ∧ s.dev.chState (c.pf 0 0 6) = 1) :=
  ⟨⟨cmdState 0x0203 0 [0, 5, 0, 0, 16, 0x0C000000, 0, 0], 0, 1, 0, _, by decide +kernel, ⟨rfl, by decide +kernel, by decide +kernel⟩,
     by decide +kernel⟩,
   ⟨cmdState 0x0203 0xFFFF [0, 5, 0x1000, 0, 16, 0x80000000, 0, 0], 0, 1, 0, _, _, _, by decide +kernel, ⟨rfl, by decide +kernel,
     by decide +kernel⟩, by decide +kernel, by decide +kernel, rfl⟩,
   ⟨(cmdState 0x0204 0 [5, 1]).onDev (fun d =>
     { d.setChState 5 1 with dma := { d.dma with run := [(5, ⟨0, [0xC0000000, 10, 0x1000, 0, 0x4000, 0, 0, 0], [(0x1000, 10)], [(0x4000, 10)], 3⟩)] } }),
     0, 1, 0, _, by decide +kernel, ⟨rfl, by decide +kernel, by decide +kernel⟩, by decide +kernel⟩,
   ⟨(cmdState 0x0204 0 [5, 0]).onDev (fun d => d.setChState 5 0), 0, 1, 0, _, by decide +kernel, ⟨rfl, by decide +kernel,
     by decide +kernel⟩, by decide +kernel⟩,
   ⟨(cmdState 0x0204 0 [5, 0]).onDev (fun d => d.setChState 5 1), 0, 1, 0, _, by decide +kernel, ⟨rfl, by decide +kernel,
     by decide +kernel⟩, by decide +kernel⟩⟩

/-- The hypotheses of `Obligations.PressAndClassifierAct` (PressPassesFrames) are met: each clause. -/
theorem test_witness_PressPassesFrames :
    (∃ (s : State) (f : Nat) (g : Frame), s.dev.running = true ∧ s.dev.frame? f = some g ∧ g.record.length = 12 ∧ g.place ≠ .press) ∧
    (∃ (s : State) (f : Nat) (g : Frame), s.dev.running = true ∧ s.dev.frame? f = some g ∧ g.record.length = 12 ∧ g.place ≠ .fragHold) ∧
    (∃ (s : State) (f : Nat) (g : Frame), s.dev.running = true ∧ s.dev.frame? f = some g ∧ g.record.length = 12 ∧ g.place = .press ∧
      g.pass = 0 ∧ g.srcPort < 16 ∧ (s.dev.walk g 0).etf = 0x88BA ∧ s.dev.bit Reg.PBU_PORT_CTRL g.srcPort = true) ∧
    (∃ (s : State) (f : Nat) (g : Frame), s.dev.running = true ∧ s.dev.frame? f = some g ∧ g.record.length = 12 ∧ g.place = .press ∧
      g.pass = 0 ∧ s.dev.steered g (s.dev.walk g 0) = 0 ∧ (s.dev.walk g 0).frag = 0 ∧ (∀ p, p < 64 → s.dev.profOn p = false) ∧ s.dev.fld
      Reg.PRS_CTRL 30 2 = 0) ∧
    (∃ (s : State) (f : Nat) (g : Frame) (p : _), s.dev.running = true ∧ s.dev.frame? f = some g ∧ g.record.length = 12 ∧ g.place = .press
      ∧ g.pass = 0 ∧ s.dev.steered g (s.dev.walk g 0) = 0 ∧ (s.dev.walk g 0).frag = 0 ∧ s.dev.selectProfile (g.setWalk (s.dev.walk g 0) 0
      (s.dev.isPtp g (s.dev.walk g 0)) (g.vint.getD (s.dev.fld Reg.CLS_VINTAGE 0 16))) (s.dev.walk g 0) = some p ∧ p < 64 ∧ s.dev.reg
      (Reg.PRS_PROFp_EXC_MASK p) = 0 ∧ s.dev.bit (Reg.PRS_PROFp_CTRL p) 26 = false) ∧
    (∃ (s : State) (f : Nat) (g : Frame), s.dev.running = true ∧ s.dev.frame? f = some g ∧ g.record.length = 12 ∧ g.place = .fragHold ∧
      g.pass = 0 ∧ (∀ p, p < 64 → s.dev.profOn p = false) ∧ s.dev.fld Reg.PRS_CTRL 30 2 = 0) ∧
    (∃ (s : State) (f : Nat) (g : Frame), s.dev.running = true ∧ s.dev.frame? f = some g ∧ g.record.length = 12) ∧
    (∃ (s : State) (f : Nat) (g : Frame), s.dev.running = true ∧ s.dev.frame? f = some g ∧ g.record.length = 12 ∧ g.whole = true) ∧
    (∃ (s : State) (f : Nat) (g : Frame), s.dev.running = true ∧ s.dev.frame? f = some g ∧ g.record.length = 12 ∧ g.whole = false ∧ g.bad
      = true ∧ g.place = .keyed) ∧
    (∃ (s : State) (f : Nat) (g : Frame), s.dev.running = true ∧ s.dev.frame? f = some g ∧ g.record.length = 12 ∧ g.whole = false ∧ g.bad
      = false ∧ g.place = .keyed) :=
  ⟨⟨frameState (frameAt .keyed 0x0800), 0, _, by decide +kernel, rfl, by decide +kernel⟩,
   ⟨frameState (frameAt .keyed 0x0800), 0, _, by decide +kernel, rfl, by decide +kernel⟩,
   ⟨(frameState (frameAt .press 0x88BA)).onDev (fun d => d.setBit Reg.PBU_PORT_CTRL 0 true), 0, _, by decide +kernel, rfl,
     by decide +kernel⟩,
   ⟨(frameState (frameAt .press 0x88B5)).onDev (fun d => d.setReg Reg.PRS_CTRL 0), 0, _, by decide +kernel, rfl, by decide +kernel⟩,
   ⟨(frameState (frameAt .press 0x88B5)).onDev (fun d => ((d.setReg (Reg.PRS_PROFp_CTRL 63) 0x80000000).setReg (Reg.PRS_PROFp_SEL0 63)
     0xE0000001).setReg (Reg.PRS_PROFp_EXC_MASK 63) 0), 0, _, _, by decide +kernel, rfl, by decide +kernel, by decide +kernel,
     by decide +kernel, by decide +kernel, by decide +kernel, rfl, by decide +kernel⟩,
   ⟨(frameState (frameAt .fragHold 0x0800)).onDev (fun d => d.setReg Reg.PRS_CTRL 0), 0, _, by decide +kernel, rfl, by decide +kernel⟩,
   ⟨(frameState { frameAt .keyed 0x0800 with record := List.replicate 12 0 }), 0, _, by decide +kernel, rfl, by decide +kernel⟩,
   ⟨frameState (frameAt .keyed 0x0800), 0, _, by decide +kernel, rfl, by decide +kernel⟩,
   ⟨frameState { frameAt .keyed 0x0800 with whole := false, bad := true }, 0, _, by decide +kernel, rfl, by decide +kernel⟩,
   ⟨frameState { frameAt .keyed 0x0800 with whole := false, key := [3, 4] }, 0, _, by decide +kernel, rfl, by decide +kernel⟩⟩

/-- The hypotheses of `Obligations.PressAndClassifierAct` (ClassifierActsOnKeys) are met: each clause. -/
theorem test_witness_ClassifierActsOnKeys :
    (∃ (s : State) (f : Nat) (g : Frame), s.dev.running = true ∧ s.dev.frame? f = some g ∧ g.record.length = 12 ∧ g.place ≠ .keyed) ∧
    (∃ (s : State) (f : Nat) (g : Frame), s.dev.running = true ∧ s.dev.frame? f = some g ∧ g.record.length = 12 ∧ g.place = .keyed ∧
      s.dev.bit (Reg.CLS_PMAPp_CTRL g.profile) 31 = false ∧ s.dev.reg (Reg.CLS_PMAPp_MISS g.profile 0) = wd (2 ^ 28) ∧ s.dev.reg
      (Reg.CLS_PMAPp_MISS g.profile 1) = 0 ∧ s.dev.reg (Reg.CLS_PMAPp_MISS g.profile 2) = 0) ∧
    (∃ (s : State) (f : Nat) (g : Frame), s.dev.running = true ∧ s.dev.frame? f = some g ∧ g.record.length = 12 ∧ g.place = .keyed ∧
      s.dev.bit (Reg.CLS_PMAPp_CTRL g.profile) 31 = true ∧ g.key.length ≠ s.dev.tblKeyLen (s.dev.fld (Reg.CLS_PMAPp_CTRL g.profile) 0 4) ∧
      s.dev.fld Reg.CLS_CTRL 30 2 = 0) ∧
    (∃ (s : State) (f : Nat) (g : Frame) (tb : _) (l : _) (ws : List Word), s.dev.running = true ∧ s.dev.frame? f = some g ∧
      g.record.length = 12 ∧ g.place = .keyed ∧ s.dev.bit (Reg.CLS_PMAPp_CTRL g.profile) 31 = true ∧ tb = s.dev.fld (Reg.CLS_PMAPp_CTRL
      g.profile) 0 4 ∧ g.key.length = s.dev.tblKeyLen tb ∧ s.dev.clsFind tb (s.dev.bankFor tb g.vintage) g.key = some l ∧ s.dev.clsEntry
      tb (s.dev.bankFor tb g.vintage) l = some ws ∧ wordAt ws 1 = 0 ∧ wordAt ws 3 = 0) ∧
    (∃ (s : State) (f : Nat) (g : Frame) (p : Fin 3), s.dev.running = true ∧ s.dev.frame? f = some g ∧ g.record.length = 12 ∧ (∀ q, q < 4
      → s.dev.loop p.val q = [])) ∧
    (∃ (s : State) (f : Nat) (g : Frame) (p : Fin 3) (rest : List Nat) (t : Dev), s.dev.running = true ∧ s.dev.frame? f = some g ∧
      g.record.length = 12 ∧ s.dev.loop p.val 0 = f :: rest ∧ s.dev.offer .recirc f g.cls (s.dev.unitCost 2 g.len) g.owner false = (true,
      t)) :=
  ⟨⟨frameState (frameAt .press 0x0800), 0, _, by decide +kernel, rfl, by decide +kernel⟩,
   ⟨(frameState (frameAt .keyed 0x0800)).onDev (fun d => ((d.setReg (Reg.CLS_PMAPp_MISS 0 0) 0x10000000).setReg (Reg.CLS_PMAPp_MISS 0 1)
     0).setReg (Reg.CLS_PMAPp_MISS 0 2) 0), 0, _, by decide +kernel, rfl, by decide +kernel⟩,
   ⟨(frameState (frameAt .keyed 0x0800)).onDev (fun d => (d.setReg (Reg.CLS_PMAPp_CTRL 0) 0x80000005).setReg Reg.CLS_CTRL 0), 0, _,
     by decide +kernel, rfl, by decide +kernel⟩,
   ⟨(frameState { frameAt .keyed 0x0800 with key := List.replicate 8 7 }).onDev (fun d => ((d.setReg (Reg.CLS_PMAPp_CTRL 0)
     0x80000005).setReg (Reg.CLS_TBLt_SIZE 5) 64).setEntry 5 0 ⟨true, 3, 3⟩ [0x80000000, 0, 0x12345678, 0, 0x07070707, 0x07070707]), 0, _,
     _, _, _, by decide +kernel, rfl, by decide +kernel, by decide +kernel, by decide +kernel, rfl, by decide +kernel, rfl, rfl,
     by decide +kernel⟩,
   ⟨(frameState { frameAt .keyed 0x0800 with record := List.replicate 12 0 }), 0, _, 2, by decide +kernel, rfl, by decide +kernel⟩,
   ⟨(frameState { frameAt (.recirc 0) 0x0800 with key := [1] }).onDev (fun d => d.setLoop 2 0 [0]), _, _, 2, _, _, by decide +kernel, rfl,
     by decide +kernel, rfl, rfl⟩⟩

/-- The hypotheses of `Obligations.RulesAreReadAndChanged` (RuleEntriesAreReadAndChanged) are met: each clause. -/
theorem test_witness_RuleEntriesAreReadAndChanged :
    (∃ (s : State) (t : Fin 16), s.dev.running = true ∧ s.dev.bit (Reg.CLS_TBLt_STATUS t.val) 30 = true) ∧
    (∃ (s : State) (t : Fin 16), s.dev.running = true ∧ s.dev.tblClearing t.val = true ∧ s.dev.cls.clearing = []) ∧
    (∃ (s : State) (t : _) (b : _) (l : _), s.dev.running = true ∧ s.dev.entOp false = (t, b, l, 0)) ∧
    (∃ (s : State) (t : _) (b : _) (l : _) (e : _), s.dev.running = true ∧ s.dev.entOp true = (t, b, l, e) ∧ e ≠ 0) ∧
    (∃ (s : State) (t : _) (b : _) (l : _), s.dev.running = true ∧ s.dev.entOp true = (t, b, l, 0)) ∧
    (∃ (s : State) (t : _) (b : _) (l : _) (ws : List Word), s.dev.running = true ∧ s.dev.entOp true = (t, b, l, 0) ∧ s.dev.clsRaw t b l =
      some ws ∧ ws ≠ []) :=
  ⟨⟨live.onDev (fun d => (d.setBit (Reg.CLS_TBLt_STATUS 15) 30 true).setReg Reg.CLS_SWAP_STATUS 4), 15, by decide +kernel⟩,
   ⟨live.onDev (fun d => d.setBit (Reg.CLS_TBLt_STATUS 15) 29 true), 15, by decide +kernel⟩,
   ⟨(live.onDev (fun d => (d.setReg (Reg.CLS_TBLt_SIZE 5) 64).setReg Reg.CLS_ENT_ADDR 0x9400003F)).onDev (fun d => d.setEntry 5 0 ⟨true,
     63, 3⟩ [0x80000000, 0, 0x12345678, 0, 0x07070707, 0x07070707]), _, _, _, by decide +kernel, rfl⟩,
   ⟨live.onDev (fun d => ((d.setReg (Reg.CLS_TBLt_SIZE 5) 0).setReg (Reg.CLS_TBLt_CFG 5) 0).setReg Reg.CLS_ENT_ADDR 0x1400003F), _, _, _,
     _, by decide +kernel, rfl, by decide +kernel⟩,
   ⟨live.onDev (fun d => (((d.setReg (Reg.CLS_TBLt_SIZE 5) 64).setReg (Reg.CLS_TBLt_CFG 5) 0).setReg (Reg.CLS_ENT_DATA 0)
     0xFFFFFFFF).setReg Reg.CLS_ENT_ADDR 0x1400003F), _, _, _, by decide +kernel, rfl⟩,
   ⟨(live.onDev (fun d => (((d.setReg (Reg.CLS_TBLt_SIZE 5) 64).setReg (Reg.CLS_TBLt_CFG 5) 0).setEntry 5 0 ⟨false, 63, 1⟩ [0x80000000, 0,
     0x12345678, 0, 7, 7]).setReg Reg.CLS_ENT_ADDR 0x1400003F)), 5, 0, ⟨false, 63, 0⟩, [0x80000000, 0, 0x12345678, 0, 7, 7],
     by decide +kernel⟩⟩

/-- The hypotheses of `Obligations.RulesAreReadAndChanged` (ProfileAndRuleOpcodes) are met: each clause. -/
theorem test_witness_ProfileAndRuleOpcodes :
    (∃ (s : State) (m : Fin 16) (tag : Fin 4096) (gen : Fin 16) (c : Cmd) (t : _) (r : _), s.dev.running = true ∧ s.dev.started m.val
      tag.val gen.val 0x0300 c ∧ (s.dev.stageStrobe c (2 ^ 5) ((List.range 62).map (fun i => ((profileRegs (c.pf 0 0 6)).getD i 0, c.p (i
      + 1)))) (Res.ok []) = (t, some r))) ∧
    (∃ (s : State) (m : Fin 16) (tag : Fin 4096) (gen : Fin 16) (c : Cmd) (t : _) (r : _), s.dev.running = true ∧ s.dev.started m.val
      tag.val gen.val 0x0301 c ∧ s.dev.stageStrobe c (2 ^ 8) [(Reg.CLS_TBLt_CFG (c.pf 0 0 4), c.p 1), (Reg.CLS_TBLt_BASE (c.pf 0 0 4), c.p
      2), (Reg.CLS_TBLt_SIZE (c.pf 0 0 4), c.p 3), (Reg.CLS_TBLt_SEED (c.pf 0 0 4), c.p 4)] (Res.ok []) = (t, some r) ∧ t.tblClearing
      (c.pf 0 0 4) = false) ∧
    (∃ (s : State) (m : Fin 16) (tag : Fin 4096) (gen : Fin 16) (c : Cmd) (t : _) (r : _), s.dev.running = true ∧ s.dev.started m.val
      tag.val gen.val 0x0301 c ∧ s.dev.stageStrobe c (2 ^ 8) [(Reg.CLS_TBLt_CFG (c.pf 0 0 4), c.p 1), (Reg.CLS_TBLt_BASE (c.pf 0 0 4), c.p
      2), (Reg.CLS_TBLt_SIZE (c.pf 0 0 4), c.p 3), (Reg.CLS_TBLt_SEED (c.pf 0 0 4), c.p 4)] (Res.ok []) = (t, some r) ∧ r.status = stOK ∧
      t.tblClearing (c.pf 0 0 4) = true) ∧
    (∃ (s : State) (m : Fin 16) (tag : Fin 4096) (gen : Fin 16) (c : Cmd), s.dev.running = true ∧ s.dev.started m.val tag.val gen.val
      0x0302 c ∧ s.dev.bankBusy (c.pf 0 0 4) (s.dev.writeBank (c.pf 0 0 4)) = true) ∧
    (∃ (s : State) (m : Fin 16) (tag : Fin 4096) (gen : Fin 16) (c : Cmd), s.dev.running = true ∧ s.dev.started m.val tag.val gen.val
      0x0303 c ∧ s.dev.bankBusy (c.pf 0 0 4) (s.dev.writeBank (c.pf 0 0 4)) = true) ∧
    (∃ (s : State) (m : Fin 16) (tag : Fin 4096) (gen : Fin 16) (c : Cmd), s.dev.running = true ∧ s.dev.started m.val tag.val gen.val
      0x0302 c ∧ s.dev.bankBusy (c.pf 0 0 4) (s.dev.writeBank (c.pf 0 0 4)) = false ∧ s.dev.tblSize (c.pf 0 0 4) ≠ 0 ∧ s.dev.clsFind (c.pf
      0 0 4) (s.dev.writeBank (c.pf 0 0 4)) ((bytesOf (c.params.drop 4)).take (s.dev.tblKeyLen (c.pf 0 0 4))) = none ∧ s.dev.clsFree (c.pf
      0 0 4) (s.dev.writeBank (c.pf 0 0 4)) ((bytesOf (c.params.drop 4)).take (s.dev.tblKeyLen (c.pf 0 0 4))) = none) ∧
    (∃ (s : State) (m : Fin 16) (tag : Fin 4096) (gen : Fin 16) (c : Cmd) (l : _) (t : _) (r : _), s.dev.running = true ∧ s.dev.started
      m.val tag.val gen.val 0x0302 c ∧ s.dev.bankBusy (c.pf 0 0 4) (s.dev.writeBank (c.pf 0 0 4)) = false ∧ s.dev.tblSize (c.pf 0 0 4) ≠ 0
      ∧ s.dev.clsFind (c.pf 0 0 4) (s.dev.writeBank (c.pf 0 0 4)) ((bytesOf (c.params.drop 4)).take (s.dev.tblKeyLen (c.pf 0 0 4))) = none
      ∧ s.dev.clsFree (c.pf 0 0 4) (s.dev.writeBank (c.pf 0 0 4)) ((bytesOf (c.params.drop 4)).take (s.dev.tblKeyLen (c.pf 0 0 4))) = some
      l ∧ s.dev.actionSlice (c.p 1) (c.p 2) = none ∧ (s.dev.setEntry (c.pf 0 0 4) (s.dev.writeBank (c.pf 0 0 4)) l (ruleEntry (s.dev.fld
      (Reg.CLS_TBLt_CFG (c.pf 0 0 4)) 26 3) [c.p 1, c.p 2, c.p 3] ((bytesOf (c.params.drop 4)).take (s.dev.tblKeyLen (c.pf 0 0
      4))))).ruleDone c (entMark (c.pf 0 0 4) (s.dev.writeBank (c.pf 0 0 4)) l) [locWord l (s.dev.writeBank (c.pf 0 0 4))] = (t, some r)) ∧
    (∃ (s : State) (m : Fin 16) (tag : Fin 4096) (gen : Fin 16) (c : Cmd), s.dev.running = true ∧ s.dev.started m.val tag.val gen.val
      0x0303 c ∧ s.dev.bankBusy (c.pf 0 0 4) (s.dev.writeBank (c.pf 0 0 4)) = false ∧ s.dev.clsFind (c.pf 0 0 4) (s.dev.writeBank (c.pf 0
      0 4)) ((bytesOf (c.params.drop 1)).take (s.dev.tblKeyLen (c.pf 0 0 4))) = none) ∧
    (∃ (s : State) (m : Fin 16) (tag : Fin 4096) (gen : Fin 16) (c : Cmd) (l : _) (t : _) (r : _), s.dev.running = true ∧ s.dev.started
      m.val tag.val gen.val 0x0303 c ∧ s.dev.bankBusy (c.pf 0 0 4) (s.dev.writeBank (c.pf 0 0 4)) = false ∧ s.dev.clsFind (c.pf 0 0 4)
      (s.dev.writeBank (c.pf 0 0 4)) ((bytesOf (c.params.drop 1)).take (s.dev.tblKeyLen (c.pf 0 0 4))) = some l ∧ (s.dev.clearEntry (c.pf
      0 0 4) (s.dev.writeBank (c.pf 0 0 4)) l).ruleDone c (entMark (c.pf 0 0 4) (s.dev.writeBank (c.pf 0 0 4)) l) [] = (t, some r)) :=
  ⟨⟨cmdState 0x0300 0xFFFF (5 :: List.replicate 62 0), 0, 1, 0, _, _, _, by decide +kernel, ⟨rfl, by decide +kernel, by decide +kernel⟩,
     rfl⟩,
   ⟨cmdState 0x0301 0xFFFF [5, 0, 0, 0, 0], 0, 1, 0, _, _, _, by decide +kernel, ⟨rfl, by decide +kernel, by decide +kernel⟩, rfl,
     by decide +kernel⟩,
   ⟨cmdState 0x0301 0xFFFF [5, 0, 0, 64, 0], 0, 1, 0, _, _, _, by decide +kernel, ⟨rfl, by decide +kernel, by decide +kernel⟩, rfl,
     by decide +kernel⟩,
   ⟨(cmdState 0x0302 0xFFFF [5, 0, 0, 0, 7, 7]).onDev (fun d => d.setBit (Reg.CLS_TBLt_STATUS 5) 29 true), 0, 1, 0, _, by decide +kernel,
     ⟨rfl, by decide +kernel, by decide +kernel⟩, by decide +kernel⟩,
   ⟨(cmdState 0x0303 0xFFFF [5, 7, 7]).onDev (fun d => d.setBit (Reg.CLS_TBLt_STATUS 5) 29 true), 0, 1, 0, _, by decide +kernel, ⟨rfl,
     by decide +kernel, by decide +kernel⟩, by decide +kernel⟩,
   ⟨((cmdState 0x0302 0xFFFF [5, 0x12345, 0, 0, 7, 7]).onDev (fun d => (d.setReg (Reg.CLS_TBLt_SIZE 5) 64).setReg (Reg.CLS_TBLt_CFG 5)
     0)).fullCls (2 ^ 40), 0, 1, 0, cmdOf 0x0302 0xFFFF [5, 0x12345, 0, 0, 7, 7], by decide +kernel, ⟨by decide +kernel,
     by decide +kernel, by decide +kernel⟩, by decide +kernel, by decide +kernel, full_clsFind _ (by decide +kernel), full_clsFree _ (by
     decide) (by decide +kernel)⟩,
   ⟨(cmdState 0x0302 0xFFFF [5, 0x12345, 0, 0, 7, 7]).onDev (fun d => (d.setReg (Reg.CLS_TBLt_SIZE 5) 64).setReg (Reg.CLS_TBLt_CFG 5) 0),
     0, 1, 0, _, _, _, _, by decide +kernel, ⟨rfl, by decide +kernel, by decide +kernel⟩, by decide +kernel, by decide +kernel,
     by decide +kernel, rfl, by decide +kernel, rfl⟩,
   ⟨(cmdState 0x0303 0xFFFF [5, 7, 7]).onDev (fun d => (d.setReg (Reg.CLS_TBLt_SIZE 5) 64).setReg (Reg.CLS_TBLt_CFG 5) 0), 0, 1, 0, _,
     by decide +kernel, ⟨rfl, by decide +kernel, by decide +kernel⟩, by decide +kernel⟩,
   ⟨(cmdState 0x0303 0xFFFF [5, 7, 7]).onDev (fun d => ((d.setReg (Reg.CLS_TBLt_SIZE 5) 64).setReg (Reg.CLS_TBLt_CFG 5) 0).setEntry 5 0
     ⟨true, 3, 3⟩ [0x80000000, 0, 0x12345678, 0, 7, 7]), 0, 1, 0, _, _, _, _, by decide +kernel, ⟨rfl, by decide +kernel,
     by decide +kernel⟩, by decide +kernel, rfl, rfl⟩⟩

/-- The hypotheses of `Obligations.SwapsOfVintages` (MembersOfASwap) are met: each clause. -/
theorem test_witness_MembersOfASwap :
    (∃ (s : State), s.dev.running = true ∧ s.dev.takeMsg 0x20 = none) ∧
    (∃ (s : State) (g : TrlMsg) (t : Dev), s.dev.running = true ∧ s.dev.takeMsg 0x20 = some (g, t) ∧ g.f 2 0 16 = s.dev.fld
      Reg.CLS_VINTAGE 0 16) ∧
    (∃ (s : State) (g : TrlMsg) (t : Dev) (r : _), s.dev.running = true ∧ s.dev.takeMsg 0x20 = some (g, t) ∧ g.f 2 0 16 ≠ s.dev.fld
      Reg.CLS_VINTAGE 0 16 ∧ s.dev.prepareRefuse g.src (g.f 0 0 16) (g.f 1 0 16) (g.f 2 0 16) = some r) ∧
    (∃ (s : State) (g : TrlMsg) (t : Dev), s.dev.running = true ∧ s.dev.takeMsg 0x20 = some (g, t) ∧ g.f 2 0 16 ≠ s.dev.fld
      Reg.CLS_VINTAGE 0 16 ∧ s.dev.prepareRefuse g.src (g.f 0 0 16) (g.f 1 0 16) (g.f 2 0 16) = none) ∧
    (∃ (s : State) (g : TrlMsg) (t : Dev) (w : _), s.dev.running = true ∧ s.dev.takeMsg 0x23 = some (g, t) ∧ s.dev.memberSwap g.src (g.f 0
      0 16) = some w ∧ w.flipped = false) ∧
    (∃ (s : State) (w : _), s.dev.running = true ∧ s.dev.cls.swap = some w ∧ w.origin ≠ s.dev.selfId ∧ w.at_ = none ∧ w.flipped = false) ∧
    (∃ (s : State) (g : TrlMsg) (t : Dev) (w : _), s.dev.running = true ∧ s.dev.takeMsg 0x24 = some (g, t) ∧ s.dev.memberSwap g.src (g.f 0
      0 16) = some w ∧ w.at_ = none ∧ s.dev.time ≤ cat64 (g.w 3) (g.w 2)) ∧
    (∃ (s : State) (g : TrlMsg) (t : Dev) (w : _), s.dev.running = true ∧ s.dev.takeMsg 0x24 = some (g, t) ∧ s.dev.memberSwap g.src (g.f 0
      0 16) = some w ∧ w.at_ = none ∧ cat64 (g.w 3) (g.w 2) < s.dev.time ∧ s.dev.rf.stg = []) :=
  ⟨⟨live, by decide +kernel⟩,
   ⟨live.onDev (fun d => { d with trl := { d.trl with inbox := [⟨7, 0x20, octets [0, 0, 0, 1, 0, 0, 0, 2, 0, 0, 0, 1], 0, 0⟩] } }), _, _,
     by decide +kernel, rfl, by decide +kernel⟩,
   ⟨live.onDev (fun d => { d with trl := { d.trl with inbox := [⟨7, 0x20, octets [0, 0, 0, 1, 0, 0, 0, 2, 0, 0, 0, 9], 0, 0⟩] } }), _, _,
     _, by decide +kernel, rfl, by decide +kernel, rfl⟩,
   ⟨live.onDev (fun d =>
     { d.setReg (Reg.CLS_TBLt_CFG 1) 0xC0000000 with trl := { d.trl with inbox := [⟨7, 0x20, octets [0, 0, 0, 1, 0, 0, 0, 2, 0, 0, 0, 9], 0, 0⟩] } }),
     _, _, by decide +kernel, rfl, by decide +kernel⟩,
   ⟨live.onDev (fun d =>
     { d.setBit (Reg.CLS_TBLt_STATUS 1) 28 true with cls := { d.cls with swap := some ⟨1, 2, 9, false, none, 7, [], [], [], [], none, false⟩ }, trl := { d.trl with inbox := [⟨7, 0x23, octets [0, 0, 0, 1], 0, 0⟩] } }),
     _, _, _, by decide +kernel, rfl, rfl, by decide +kernel⟩,
   ⟨live.onDev (fun d =>
     { d.setBit (Reg.CLS_TBLt_STATUS 1) 28 true with cls := { d.cls with swap := some ⟨1, 2, 9, false, none, 7, [], [], [], [], none, false⟩ } }),
     _, by decide +kernel, rfl, by decide +kernel⟩,
   ⟨live.onDev (fun d =>
     { d.setBit (Reg.CLS_TBLt_STATUS 1) 28 true with cls := { d.cls with swap := some ⟨1, 2, 9, false, none, 7, [], [], [], [], none, false⟩ }, trl := { d.trl with inbox := [⟨7, 0x24, octets [0, 0, 0, 1, 0, 0, 0, 9, 0, 0, 0, 1, 0, 0, 0, 2], 0, 0⟩] } }),
     _, _, _, by decide +kernel, rfl, rfl, by decide +kernel⟩,
   ⟨live.onDev (fun d =>
     { d.setBit (Reg.CLS_TBLt_STATUS 1) 28 true with ptp := 5, cls := { d.cls with swap := some ⟨1, 2, 9, false, none, 7, [], [], [], [], none, false⟩ }, trl := { d.trl with inbox := [⟨7, 0x24, octets [0, 0, 0, 1, 0, 0, 0, 9, 0, 0, 0, 0, 0, 0, 0, 2], 0, 0⟩] } }),
     _, _, _, by decide +kernel, rfl, rfl, by decide +kernel⟩⟩

/-- The hypotheses of `Obligations.SwapsOfVintages` (OriginatorOfASwap) are met: each clause. -/
theorem test_witness_OriginatorOfASwap :
    (∃ (s : State), s.dev.running = true ∧ s.dev.takeMsg 0x21 = none) ∧
    (∃ (s : State) (g : TrlMsg) (t : Dev) (w : _), s.dev.running = true ∧ s.dev.takeMsg 0x21 = some (g, t) ∧ s.dev.ownSwap (g.f 0 0 16) =
      some w ∧ w.at_ = none ∧ w.members.contains g.src = true ∧ w.members.all (g.src :: w.ready.filter (· ≠ g.src)).contains = false) ∧
    (∃ (s : State) (g : TrlMsg) (t : Dev) (w : _), s.dev.running = true ∧ s.dev.takeMsg 0x21 = some (g, t) ∧ s.dev.ownSwap (g.f 0 0 16) =
      some w ∧ w.at_ = none ∧ w.members.contains g.src = true ∧ w.members.all (g.src :: w.ready.filter (· ≠ g.src)).contains = true) ∧
    (∃ (s : State) (g : TrlMsg) (t : Dev) (w : _) (m : _) (tag : _) (gen : _) (c : _), s.dev.running = true ∧ s.dev.takeMsg 0x22 = some
      (g, t) ∧ s.dev.ownSwap (g.f 0 0 16) = some w ∧ w.at_ = none ∧ w.members.contains g.src = true ∧ w.cmd = some (m, tag, gen) ∧
      s.dev.cmd? m tag gen = some c) ∧
    (∃ (s : State) (g : TrlMsg) (t : Dev) (w : _), s.dev.running = true ∧ s.dev.takeMsg 0x25 = some (g, t) ∧ s.dev.ownSwap (g.f 0 0 16) =
      some w ∧ w.flipped = false) ∧
    (∃ (s : State) (w : _), s.dev.running = true ∧ s.dev.cls.swap = some w ∧ w.at_.isSome = true ∧ w.flipped = false ∧ s.dev.rf.stg = [] ∧
      w.vintage < 65536) ∧
    (∃ (s : State), s.dev.running = true ∧ s.dev.bit Reg.CLS_VINTAGE_OLD 16 = true ∧ s.dev.drainCount none = 0 ∧ s.dev.cls.swap = none) ∧
    (∃ (s : State), s.dev.running = true ∧ 0 < s.dev.drainCount none) ∧
    (∃ (s : State) (m : Fin 16) (tag : Fin 4096) (gen : Fin 16) (c : Cmd), s.dev.running = true ∧ s.dev.started m.val tag.val gen.val
      0x0304 c ∧ ruleBankSwapBad c s.dev = true) ∧
    (∃ (s : State) (m : Fin 16) (tag : Fin 4096) (gen : Fin 16) (c : Cmd), s.dev.running = true ∧ s.dev.started m.val tag.val gen.val
      0x0304 c ∧ ruleBankSwapBad c s.dev = false ∧ s.dev.swapBusy (c.pf 0 0 16) = true) ∧
    (∃ (s : State) (m : Fin 16) (tag : Fin 4096) (gen : Fin 16) (c : Cmd), s.dev.running = true ∧ s.dev.started m.val tag.val gen.val
      0x0304 c ∧ ruleBankSwapBad c s.dev = false ∧ s.dev.swapBusy (c.pf 0 0 16) = false ∧ s.dev.rf.stg = [] ∧ (∀ i, i < 16 → (c.pf 0 0
      16).testBit i = true → s.dev.bit (Reg.CLS_TBLt_CFG i) 31 = false)) :=
  ⟨⟨live, by decide +kernel⟩,
   ⟨live.onDev (fun d =>
     { d with cls := { d.cls with swap := some ⟨1, 2, 9, false, none, 0, [], [], [], [7, 8], none, false⟩ }, trl := { d.trl with inbox := [⟨7, 0x21, octets [0, 0, 0, 1, 0, 0, 0, 9], 0, 0⟩] } }),
     _, _, _, by decide +kernel, rfl, rfl, by decide +kernel⟩,
   ⟨live.onDev (fun d =>
     { d with cls := { d.cls with swap := some ⟨1, 2, 9, false, none, 0, [8], [], [], [7, 8], none, false⟩ }, trl := { d.trl with inbox := [⟨7, 0x21, octets [0, 0, 0, 1, 0, 0, 0, 9], 0, 0⟩] } }),
     _, _, _, by decide +kernel, rfl, rfl, by decide +kernel⟩,
   ⟨(cmdState 0x0304 0xFFFF [2, 9, 0]).onDev (fun d =>
     { d.setReg Reg.CLS_SWAP_STATUS 1 with cls := { d.cls with swap := some ⟨1, 2, 9, false, some (0, 1, 0), 0, [8], [], [], [7, 8], none, false⟩ }, trl := { d.trl with inbox := [⟨7, 0x22, octets [0, 0, 0, 1, 0, 0, 0, 9], 0, 0⟩] } }),
     _, _, _, _, _, _, _, by decide +kernel, rfl, rfl, by decide +kernel, by decide +kernel, rfl, rfl⟩,
   ⟨live.onDev (fun d =>
     { d with cls := { d.cls with swap := some ⟨1, 2, 9, false, none, 0, [8], [], [8], [7, 8], some 3, false⟩ }, trl := { d.trl with inbox := [⟨7, 0x25, octets [0, 0, 0, 1, 0, 0, 0, 9], 0, 0⟩] } }),
     _, _, _, by decide +kernel, rfl, rfl, by decide +kernel⟩,
   ⟨live.onDev (fun d =>
     { d with cls := { d.cls with swap := some ⟨1, 0x8002, 65535, false, none, 0, [8], [], [8], [7, 8], some 3, false⟩ } }), _,
     by decide +kernel, rfl, by decide +kernel⟩,
   ⟨live.onDev (fun d => (d.setReg Reg.CLS_VINTAGE_OLD 0x10009).setReg Reg.CLS_SWAP_STATUS 3), by decide +kernel⟩,
   ⟨(frameState (frameAt .keyed 0x0800)).onDev (fun d => (d.setReg Reg.CLS_VINTAGE_OLD 0x10000).setReg Reg.CLS_SWAP_STATUS 3),
     by decide +kernel⟩,
   ⟨cmdState 0x0304 0xFFFF [0, 9, 0], 0, 1, 0, _, by decide +kernel, ⟨rfl, by decide +kernel, by decide +kernel⟩, by decide +kernel⟩,
   ⟨(cmdState 0x0304 0xFFFF [2, 9, 0]).onDev (fun d => (d.setReg (Reg.CLS_TBLt_CFG 1) 0x40000000).setReg Reg.CLS_SWAP_STATUS 1), 0, 1, 0,
     _, by decide +kernel, ⟨rfl, by decide +kernel, by decide +kernel⟩, by decide +kernel⟩,
   ⟨(cmdState 0x0304 0xFFFF [2, 9, 0]).onDev (fun d => d.setReg (Reg.CLS_TBLt_CFG 1) 0x40000000), 0, 1, 0, _, by decide +kernel, ⟨rfl,
     by decide +kernel, by decide +kernel⟩, by decide +kernel⟩⟩

/-- The hypotheses of `Obligations.ForwardingResultsAndTables` (ForwardingResultsAndLearning) are met: each clause. -/
theorem test_witness_ForwardingResultsAndLearning :
    (∃ (s : State) (f : Nat) (g : Frame), s.dev.running = true ∧ s.dev.frame? f = some g ∧ g.record.length = 12 ∧ g.place ≠ .forward) ∧
    (∃ (s : State) (f : Nat) (g : Frame), s.dev.running = true ∧ s.dev.frame? f = some g ∧ g.record.length = 12 ∧ g.place = .forward ∧
      Word.fld g.fwdArg 30 2 = 3 ∧ s.dev.fld Reg.FWD_CTRL 30 2 = 0) ∧
    (∃ (s : State) (f : Nat) (g : Frame) (i : _) (a : _) (b : _), s.dev.running = true ∧ s.dev.frame? f = some g ∧ g.record.length = 12 ∧
      g.place = .forward ∧ g.pass = 0 ∧ Word.fld g.fwdArg 30 2 = 0 ∧ Word.fld g.fwdArg 28 2 = 0 ∧ Word.fld g.fwdArg 0 4 = 0 ∧ s.dev.htFind
      .l2 (l2Key g.window 0 (Word.fld g.fwdArg 16 12)) = some i ∧ resOf .l2 (s.dev.htRaw .l2 i) = (a, b) ∧ resultBad a b = false ∧
      Word.fld a 28 4 = 1) ∧
    (∃ (s : State) (f : Nat) (g : Frame) (i : _), s.dev.running = true ∧ s.dev.frame? f = some g ∧ g.record.length = 12 ∧ g.place =
      .forward ∧ Word.fld g.fwdArg 30 2 = 1 ∧ Word.fld g.fwdArg 28 2 = 0 ∧ Word.fld g.fwdArg 0 4 = 0 ∧ s.dev.htFind .flow ([0, 0] ++
      wordsOf 10 (g.key.take 40)) = some i ∧ s.dev.bit Reg.FWD_CTRL 27 = false ∧ wordAt (s.dev.htRaw .flow i) 12 = 0 ∧ wordAt (s.dev.htRaw
      .flow i) 13 = 0 ∧ s.dev.htRaw .flow i ≠ []) ∧
    (∃ (s : State) (f : Nat) (g : Frame), s.dev.running = true ∧ s.dev.frame? f = some g ∧ g.record.length = 12 ∧ s.dev.fwd.learn = []) ∧
    (∃ (s : State) (f : Nat) (g : Frame) (ws : List Word) (rest : _) (i : _), s.dev.running = true ∧ s.dev.frame? f = some g ∧
      g.record.length = 12 ∧ s.dev.fwd.learn = ⟨ws, false⟩ :: rest ∧ Word.fld (wordAt ws 0) 28 4 = 1 ∧ s.dev.htFind .l2 (learnKey
      (sealLearn ws (s.dev.reg Reg.FWD_LEARN_SEQ + 1))) = none ∧ s.dev.bit Reg.FWD_CTRL 29 = false ∧ ws.length = 8 ∧ s.dev.htFree .l2
      (learnKey (sealLearn ws (s.dev.reg Reg.FWD_LEARN_SEQ + 1))) = some i) ∧
    (∃ (s : State) (f : Nat) (g : Frame) (ws : List Word) (rest : _), s.dev.running = true ∧ s.dev.frame? f = some g ∧ g.record.length =
      12 ∧ s.dev.fwd.learn = ⟨ws, false⟩ :: rest ∧ Word.fld (wordAt ws 0) 28 4 = 1 ∧ s.dev.htFind .l2 (learnKey (sealLearn ws (s.dev.reg
      Reg.FWD_LEARN_SEQ + 1))) = none ∧ s.dev.bit Reg.FWD_CTRL 29 = false ∧ ws.length = 8 ∧ s.dev.htFree .l2 (learnKey (sealLearn ws
      (s.dev.reg Reg.FWD_LEARN_SEQ + 1))) = none) ∧
    (∃ (s : State) (f : Nat) (g : Frame) (ws : List Word) (rest : _), s.dev.running = true ∧ s.dev.frame? f = some g ∧ g.record.length =
      12 ∧ s.dev.fwd.learn = ⟨ws, true⟩ :: rest ∧ Word.fld (wordAt ws 7) 0 16 ≠ crc16 (bytesOf (ws.take 7))) :=
  ⟨⟨frameState (frameAt .keyed 0x0800), 0, _, by decide +kernel, rfl, by decide +kernel⟩,
   ⟨(frameState { frameAt .forward 0x0800 with fwdArg := 0xC0000000 }).onDev (fun d => d.setReg Reg.FWD_CTRL 0), 0, _, by decide +kernel,
     rfl, by decide +kernel⟩,
   ⟨((frameState { frameAt .forward 0x0800 with fwdArg := 0x00050000, record := List.replicate 12 0 }).onDev (fun d => d.htPut .l2 (2 ^ 20
     + 65535) [0x80000005, 0, 0, 0, 0x10000123, 0, 0, 0])), 0, _, 2 ^ 20 + 65535, 0x10000123, 0, by decide +kernel, rfl,
     by decide +kernel⟩,
   ⟨((frameState { frameAt .forward 0x0800 with fwdArg := 0x40000000, record := List.replicate 12 0 }).onDev (fun d => ((d.setReg
     Reg.FWD_CTRL 0).setReg Reg.FWD_FLOW_SIZE 64).htPut .flow (2 ^ 26) (0x80000000 :: List.replicate 15 0))), 0, _, 2 ^ 26,
     by decide +kernel, rfl, by decide +kernel⟩,
   ⟨(frameState { frameAt .keyed 0x0800 with record := List.replicate 12 0 }), 0, _, by decide +kernel, rfl, by decide +kernel⟩,
   ⟨(((frameState { frameAt .keyed 0x0800 with record := List.replicate 12 0 }).onDev (fun d =>
     { d.setReg Reg.FWD_CTRL 0 with fwd := { d.fwd with learn := [⟨[0x10000005, 1, 2, 0, 0x10000007, 0, 3, 0], false⟩] } }))), 0, _,
     [0x10000005, 1, 2, 0, 0x10000007, 0, 3, 0], [], 356804, by decide +kernel, rfl, by decide +kernel⟩,
   ⟨((((frameState { frameAt .keyed 0x0800 with record := List.replicate 12 0 }).onDev (fun d =>
     { d.setReg Reg.FWD_CTRL 0 with fwd := { d.fwd with learn := [⟨[0x10000005, 1, 2, 0, 0x10000007, 0, 3, 0], false⟩] } })))).fullL2 (2 ^
     40), 0, _, [0x10000005, 1, 2, 0, 0x10000007, 0, 3, 0], [], by decide +kernel, rfl, by decide +kernel, by decide +kernel,
     by decide +kernel, full_htFind _ (by decide +kernel), by decide +kernel, by decide +kernel, full_htFree _ (by decide)
     (by decide +kernel)⟩,
   ⟨(((frameState { frameAt .keyed 0x0800 with record := List.replicate 12 0 }).onDev (fun d =>
     { d with fwd := { d.fwd with learn := [⟨[0x10000005, 1, 2, 0, 0x10000007, 0, 3, 0xFFFF0000], true⟩] } }))), 0, _, [0x10000005, 1, 2,
     0, 0x10000007, 0, 3, 0xFFFF0000], [], by decide +kernel, rfl, by decide +kernel⟩⟩

/-- The hypotheses of `Obligations.ForwardingResultsAndTables` (TableCommandRegistersAct) are met: each clause. -/
theorem test_witness_TableCommandRegistersAct :
    (∃ (s : State), s.dev.running = true ∧ s.dev.htSize s.dev.tTable = 0) ∧
    (∃ (s : State) (i : _), s.dev.running = true ∧ s.dev.bit Reg.FWD_TADDR 31 = false ∧ s.dev.tPlace = some i) ∧
    (∃ (s : State), s.dev.running = true ∧ s.dev.bit Reg.FWD_TADDR 31 = false ∧ s.dev.tPlace = none) ∧
    (∃ (s : State) (i : _), s.dev.running = true ∧ s.dev.bit Reg.FWD_TADDR 31 = false ∧ s.dev.htFind .l2 s.dev.tData = some i) ∧
    (∃ (s : State), s.dev.running = true ∧ s.dev.bit Reg.FWD_TADDR 31 = false ∧ s.dev.htFind .l2 s.dev.tData = none) ∧
    (∃ (s : State) (i : _), s.dev.running = true ∧ s.dev.bit Reg.FWD_TADDR 31 = false ∧ s.dev.htFind .l2 s.dev.tData = none ∧ s.dev.htFree
      .l2 s.dev.tData = some i) ∧
    (∃ (s : State) (ws : List Word), s.dev.running = true ∧ s.dev.tcm (s.dev.fld Reg.TCM_ADDR 0 17) = ws ∧ ws.length = 13) ∧
    (∃ (s : State), s.dev.running = true ∧ s.dev.oddHalf (s.dev.fld Reg.TCM_ADDR 0 17) = true) ∧
    (∃ (s : State), s.dev.running = true ∧ s.dev.oddHalf (s.dev.fld Reg.TCM_ADDR 0 17) = false) ∧
    (∃ (s : State) (i : Fin 131072) (j : Fin 131072), s.dev.running = true ∧ i.val < s.dev.v6Base ∧ s.dev.tcmLive false = [i.val] ∧ j.val
      < s.dev.v6Base ∧ j ≠ i) ∧
    (∃ (s : State) (i : Fin 131072), s.dev.running = true ∧ i.val < s.dev.v6Base ∧ i.val ∉ s.dev.tcmLive false) :=
  ⟨⟨live.onDev (fun d => d.setReg Reg.FWD_TADDR 0x80000000), by decide +kernel⟩,
   ⟨(live.onDev (fun d => (d.setReg Reg.FWD_TADDR 0x4000FFFF).setReg (Reg.FWD_TDATA 0) 5)).onDev (fun d => d.htPut .l2 (2 ^ 20 + 65535)
     [0x80000005, 0, 0, 0, 0x10000123, 0, 0, 0]), _, by decide +kernel, by decide +kernel, rfl⟩,
   ⟨live.onDev (fun d => d.setReg Reg.FWD_TADDR 0x40010000), by decide +kernel⟩,
   ⟨((live.onDev (fun d => (d.setReg Reg.FWD_TADDR 0).setReg (Reg.FWD_TDATA 0) 5)).onDev (fun d => d.htPut .l2 (2 ^ 20) [0x80000005, 0, 0,
     0, 0x10000123, 0, 0, 0])), 2 ^ 20, by decide +kernel⟩,
   ⟨live, by decide +kernel⟩,
   ⟨live, _, by decide +kernel, by decide +kernel, by decide +kernel, rfl⟩,
   ⟨live.onDev (fun d => { d.setReg Reg.TCM_ADDR 131071 with fwd := { d.fwd with tcm := [(131071, List.replicate 13 9)] } }), _,
     by decide +kernel, rfl, by decide +kernel⟩,
   ⟨live.onDev (fun d =>
     { (d.setReg Reg.TCM_ADDR 131071).setReg Reg.TCM_CTRL 0x00100000 with fwd := { d.fwd with tcm := [(131070, List.replicate 13 0x80000000)] } }),
     by decide +kernel⟩,
   ⟨live.onDev (fun d =>
     { (d.setReg Reg.TCM_ADDR 5).setReg Reg.TCM_CTRL 0x00100000 with fwd := { d.fwd with tcm := [(131070, List.replicate 13 0x80000000)] } }),
     by decide +kernel⟩,
   ⟨live.onDev (fun d => { d.setReg Reg.TCM_CTRL 0x00100000 with fwd := { d.fwd with tcm := [(5, List.replicate 13 0x80000020)] } }), 5,
     16383, by decide +kernel⟩,
   ⟨live.onDev (fun d => { d.setReg Reg.TCM_CTRL 0x00100000 with fwd := { d.fwd with tcm := [(5, List.replicate 13 0x80000020)] } }), 6,
     by decide +kernel⟩⟩

/-- The hypotheses of `Obligations.ForwardingOpcodes` are met: each clause. -/
theorem test_witness_ForwardingOpcodes :
    (∃ (s : State) (m : Fin 16) (tag : Fin 4096) (gen : Fin 16) (c : Cmd), s.dev.running = true ∧ s.dev.started m.val tag.val gen.val
      0x0305 c ∧ s.dev.htFind .l2 ([wd (2 ^ 31) ||| (c.p 0 &&& 0x80000000#32) >>> 2 ||| (c.p 0 &&& 0xFFF#32), c.p 1, c.p 2 &&& 0xFFFF#32,
      0, c.p 3, c.p 4, 0, 0]) = none ∧ s.dev.htFree .l2 ([wd (2 ^ 31) ||| (c.p 0 &&& 0x80000000#32) >>> 2 ||| (c.p 0 &&& 0xFFF#32), c.p 1,
      c.p 2 &&& 0xFFFF#32, 0, c.p 3, c.p 4, 0, 0]) = none) ∧
    (∃ (s : State) (m : Fin 16) (tag : Fin 4096) (gen : Fin 16) (c : Cmd) (i : _), s.dev.running = true ∧ s.dev.started m.val tag.val
      gen.val 0x0305 c ∧ s.dev.htFind .l2 ([wd (2 ^ 31) ||| (c.p 0 &&& 0x80000000#32) >>> 2 ||| (c.p 0 &&& 0xFFF#32), c.p 1, c.p 2 &&&
      0xFFFF#32, 0, c.p 3, c.p 4, 0, 0]) = none ∧ s.dev.htFree .l2 ([wd (2 ^ 31) ||| (c.p 0 &&& 0x80000000#32) >>> 2 ||| (c.p 0 &&&
      0xFFF#32), c.p 1, c.p 2 &&& 0xFFFF#32, 0, c.p 3, c.p 4, 0, 0]) = some i ∧ s.dev.htSlice .l2 ([wd (2 ^ 31) ||| (c.p 0 &&&
      0x80000000#32) >>> 2 ||| (c.p 0 &&& 0xFFF#32), c.p 1, c.p 2 &&& 0xFFFF#32, 0, c.p 3, c.p 4, 0, 0]) = none) ∧
    (∃ (s : State) (m : Fin 16) (tag : Fin 4096) (gen : Fin 16) (c : Cmd), s.dev.running = true ∧ s.dev.started m.val tag.val gen.val
      0x0307 c ∧ s.dev.htFind .flow (wd (2 ^ 31) :: c.p 12 :: (List.range 10).map c.p ++ [c.p 10, c.p 11, 0, 0]) = none ∧ s.dev.htFree
      .flow (wd (2 ^ 31) :: c.p 12 :: (List.range 10).map c.p ++ [c.p 10, c.p 11, 0, 0]) = none) ∧
    (∃ (s : State) (m : Fin 16) (tag : Fin 4096) (gen : Fin 16) (c : Cmd) (i : _), s.dev.running = true ∧ s.dev.started m.val tag.val
      gen.val 0x0307 c ∧ s.dev.htFind .flow (wd (2 ^ 31) :: c.p 12 :: (List.range 10).map c.p ++ [c.p 10, c.p 11, 0, 0]) = none ∧
      s.dev.htFree .flow (wd (2 ^ 31) :: c.p 12 :: (List.range 10).map c.p ++ [c.p 10, c.p 11, 0, 0]) = some i ∧ s.dev.htSlice .flow (wd
      (2 ^ 31) :: c.p 12 :: (List.range 10).map c.p ++ [c.p 10, c.p 11, 0, 0]) = none) ∧
    (∃ (s : State) (m : Fin 16) (tag : Fin 4096) (gen : Fin 16) (c : Cmd), s.dev.running = true ∧ s.dev.started m.val tag.val gen.val
      0x0306 c ∧ s.dev.htFind .l2 [c.p 0 &&& 0xFFF#32, c.p 1, c.p 2] = none) ∧
    (∃ (s : State) (m : Fin 16) (tag : Fin 4096) (gen : Fin 16) (c : Cmd) (i : _), s.dev.running = true ∧ s.dev.started m.val tag.val
      gen.val 0x0306 c ∧ s.dev.htFind .l2 [c.p 0 &&& 0xFFF#32, c.p 1, c.p 2] = some i ∧ Word.bit (c.p 0) 31 = false) ∧
    (∃ (s : State) (m : Fin 16) (tag : Fin 4096) (gen : Fin 16) (c : Cmd), s.dev.running = true ∧ s.dev.started m.val tag.val gen.val
      0x0308 c ∧ s.dev.htFind .flow (0 :: 0 :: (List.range 10).map c.p) = none) ∧
    (∃ (s : State) (m : Fin 16) (tag : Fin 4096) (gen : Fin 16) (c : Cmd) (i : _), s.dev.running = true ∧ s.dev.started m.val tag.val
      gen.val 0x0308 c ∧ s.dev.htFind .flow (0 :: 0 :: (List.range 10).map c.p) = some i ∧ Word.bit (c.p 10) 31 = false) ∧
    (∃ (s : State) (m : Fin 16) (tag : Fin 4096) (gen : Fin 16) (c : Cmd) (v6 : _) (len : _) (key : _) (care : _) (i : _), s.dev.running =
      true ∧ lpmOf c = (v6, len, key, care) ∧ s.dev.started m.val tag.val gen.val 0x0309 c ∧ s.dev.lpmFind v6 key care = some i ∧
      s.dev.actionSlice (c.p 5) (c.p 6) = none) ∧
    (∃ (s : State) (m : Fin 16) (tag : Fin 4096) (gen : Fin 16) (c : Cmd) (v6 : _) (len : _) (key : _) (care : _) (i : _), s.dev.running =
      true ∧ lpmOf c = (v6, len, key, care) ∧ s.dev.started m.val tag.val gen.val 0x0309 c ∧ s.dev.lpmFind v6 key care = none ∧
      s.dev.actionSlice (c.p 5) (c.p 6) = none ∧ v6 = false ∧ (s.dev.lpmPlace v6 len).2 = (some i, false)) ∧
    (∃ (s : State) (m : Fin 16) (tag : Fin 4096) (gen : Fin 16) (c : Cmd) (v6 : _) (len : _) (key : _) (care : _), s.dev.running = true ∧
      lpmOf c = (v6, len, key, care) ∧ s.dev.started m.val tag.val gen.val 0x030A c ∧ s.dev.lpmFind v6 key care = none) ∧
    (∃ (s : State) (m : Fin 16) (tag : Fin 4096) (gen : Fin 16) (c : Cmd) (v6 : _) (len : _) (key : _) (care : _) (i : _), s.dev.running =
      true ∧ lpmOf c = (v6, len, key, care) ∧ s.dev.started m.val tag.val gen.val 0x030A c ∧ s.dev.lpmFind v6 key care = some i) ∧
    (∃ (s : State) (m : Fin 16) (tag : Fin 4096) (gen : Fin 16) (c : Cmd), s.dev.running = true ∧ s.dev.started m.val tag.val gen.val
      0x030B c ∧ s.dev.scanSize (c.pf 0 0 5) (Word.bit (c.p 0) 29) = none) ∧
    (∃ (s : State) (m : Fin 16) (tag : Fin 4096) (gen : Fin 16) (c : Cmd) (n : _), s.dev.running = true ∧ s.dev.started m.val tag.val
      gen.val 0x030B c ∧ s.dev.scanSize (c.pf 0 0 5) (Word.bit (c.p 0) 29) = some n ∧ c.pf 2 0 16 = 32 ∧ c.pf 1 0 27 + 32 ≤ n ∧ Word.bit
      (c.p 0) 31 = false) :=
  ⟨⟨(cmdState 0x0305 0xFFFF [5, 1, 2, 0x10000007, 0]).fullL2 (2 ^ 40), 0, 1, 0, cmdOf 0x0305 0xFFFF [5, 1, 2, 0x10000007, 0],
     by decide +kernel, ⟨by decide +kernel, by decide +kernel, by decide +kernel⟩, full_htFind _ (by decide +kernel), full_htFree _ (by
     decide) (by decide +kernel)⟩,
   ⟨(cmdState 0x0305 0xFFFF [5, 1, 2, 0x10000007, 0]), 0, 1, 0, _, _, by decide +kernel, ⟨rfl, by decide +kernel, by decide +kernel⟩,
     by decide +kernel, rfl, by decide +kernel⟩,
   ⟨(cmdState 0x0307 0xFFFF (List.replicate 10 3 ++ [0x10000007, 0, 0])), 0, 1, 0, _, by decide +kernel, ⟨rfl, by decide +kernel,
     by decide +kernel⟩, by decide +kernel⟩,
   ⟨(cmdState 0x0307 0xFFFF (List.replicate 10 3 ++ [0x10000007, 0, 0])).onDev (fun d => d.setReg Reg.FWD_FLOW_SIZE 64), 0, 1, 0, _, _,
     by decide +kernel, ⟨rfl, by decide +kernel, by decide +kernel⟩, by decide +kernel, rfl, by decide +kernel⟩,
   ⟨(cmdState 0x0306 0xFFFF [5, 1, 2]), 0, 1, 0, _, by decide +kernel, ⟨rfl, by decide +kernel, by decide +kernel⟩, by decide +kernel⟩,
   ⟨((cmdState 0x0306 0xFFFF [5, 1, 2]).onDev (fun d => d.htPut .l2 (2 ^ 20) [0x80000005, 1, 2, 0, 0x10000123, 0, 0, 0])), 0, 1, 0, _, 2 ^
     20, by decide +kernel, ⟨rfl, by decide +kernel, by decide +kernel⟩, by decide +kernel⟩,
   ⟨(cmdState 0x0308 0xFFFF (List.replicate 10 3 ++ [0])).onDev (fun d => d.setReg Reg.FWD_FLOW_SIZE 64), 0, 1, 0, _, by decide +kernel,
     ⟨rfl, by decide +kernel, by decide +kernel⟩, by decide +kernel⟩,
   ⟨((cmdState 0x0308 0xFFFF (List.replicate 10 3 ++ [0])).onDev (fun d => (d.setReg Reg.FWD_FLOW_SIZE 64).htPut .flow (2 ^ 26)
     (0x80000000 :: 0 :: List.replicate 10 3 ++ [0x10000007, 0, 0, 0]))), 0, 1, 0, _, 2 ^ 26, by decide +kernel, ⟨rfl, by decide +kernel,
     by decide +kernel⟩, by decide +kernel⟩,
   ⟨(cmdState 0x0309 0xFFFF [0x40000018, 0x0A000000, 0, 0, 0, 0x10000123, 0]).onDev (fun d =>
     { d.setReg Reg.TCM_CTRL 0x00100000 with fwd := { d.fwd with tcm := [(7, (lpmEntries false (lpmKey false 0 0x0A000000) (lpmCare false 24) 24 0x10000001 0).headD [])] } }),
     0, 1, 0, cmdOf 0x0309 0xFFFF [0x40000018, 0x0A000000, 0, 0, 0, 0x10000123, 0], _, _, _, _, _, by decide +kernel, rfl,
     ⟨by decide +kernel, by decide +kernel, by decide +kernel⟩, rfl, by decide +kernel⟩,
   ⟨(cmdState 0x0309 0xFFFF [0x40000018, 0x0A000000, 0, 0, 0, 0x10000123, 0]).onDev (fun d => d.setReg Reg.TCM_CTRL 0x00100000), 0, 1, 0,
     cmdOf 0x0309 0xFFFF [0x40000018, 0x0A000000, 0, 0, 0, 0x10000123, 0], _, _, _, _, _, by decide +kernel, rfl, ⟨by decide +kernel,
     by decide +kernel, by decide +kernel⟩, by decide +kernel, by decide +kernel, by decide +kernel, rfl⟩,
   ⟨(cmdState 0x030A 0xFFFF [0x40000018, 0x0A000000, 0, 0, 0]).onDev (fun d => d.setReg Reg.TCM_CTRL 0x00100000), 0, 1, 0, cmdOf 0x030A
     0xFFFF [0x40000018, 0x0A000000, 0, 0, 0], _, _, _, _, by decide +kernel, rfl, ⟨by decide +kernel, by decide +kernel,
     by decide +kernel⟩, by decide +kernel⟩,
   ⟨(cmdState 0x030A 0xFFFF [0x40000018, 0x0A000000, 0, 0, 0]).onDev (fun d =>
     { d.setReg Reg.TCM_CTRL 0x00100000 with fwd := { d.fwd with tcm := [(7, (lpmEntries false (lpmKey false 0 0x0A000000) (lpmCare false 24) 24 0x10000001 0).headD [])] } }),
     0, 1, 0, cmdOf 0x030A 0xFFFF [0x40000018, 0x0A000000, 0, 0, 0], _, _, _, _, _, by decide +kernel, rfl, ⟨by decide +kernel,
     by decide +kernel, by decide +kernel⟩, rfl⟩,
   ⟨(cmdState 0x030B 0xFFFF [19, 0, 32]), 0, 1, 0, _, by decide +kernel, ⟨rfl, by decide +kernel, by decide +kernel⟩, by decide +kernel⟩,
   ⟨(cmdState 0x030B 0xFFFF [18, 131040, 32]).onDev (fun d =>
     { d.setReg Reg.TCM_CTRL 0x00100000 with fwd := { d.fwd with tcm := [(131071, List.replicate 13 0xC0000000), (131041, List.replicate 13 0xC0000000)] } }),
     0, 1, 0, _, _, by decide +kernel, ⟨rfl, by decide +kernel, by decide +kernel⟩, rfl, by decide +kernel⟩⟩

/-- The hypotheses of `Obligations.ThreadsRunWakeAndStop` (ThreadsRunTheirInstructions) are met: each clause. -/
theorem test_witness_ThreadsRunTheirInstructions :
    (∃ (s : State) (t : Fin 512), s.dev.running = true ∧ s.dev.thrState t.val ≠ 1) ∧
    (∃ (s : State) (t : Fin 512) (pc : _), s.dev.running = true ∧ s.dev.thrState t.val = 1 ∧ pc < 32768) ∧
    (∃ (s : State) (t : Fin 512), s.dev.running = true ∧ s.dev.thrState t.val = 1) ∧
    (∃ (s : State) (t : Fin 512) (mask : _), s.dev.running = true ∧ s.dev.thrState t.val = 1 ∧ s.dev.holding t.val = none ∧
      s.dev.pendingBits t.val &&& mask ≠ 0) ∧
    (∃ (s : State) (t : Fin 512) (mask : _), s.dev.running = true ∧ s.dev.thrState t.val = 1 ∧ s.dev.holding t.val = none ∧
      s.dev.pendingBits t.val &&& mask = 0 ∧ (s.dev.thread t.val).leaving = false) ∧
    (∃ (s : State) (t : Fin 512), s.dev.running = true ∧ s.dev.thrState t.val = 1 ∧ s.dev.thrOn t.val = true) ∧
    (∃ (s : State) (t : Fin 512), s.dev.running = true ∧ s.dev.thrState t.val = 1 ∧ s.dev.thrOn t.val = false) ∧
    (∃ (s : State) (t : Fin 512) (h : Fin 256), s.dev.running = true ∧ s.dev.thrState t.val = 1 ∧ h.val < 14 ∧ (h.val ≠ 0 ∨ isSup t.val =
      true) ∧ (s.dev.thread t.val).abort = false ∧ s.dev.holding t.val = none ∧ s.dev.holder (t.val / 64) h.val = none) ∧
    (∃ (s : State) (t : Fin 512) (h : Fin 256), s.dev.running = true ∧ s.dev.thrState t.val = 1 ∧ 14 ≤ h.val ∧ (s.dev.thread t.val).abort
      = false) :=
  ⟨⟨live, 511, by decide +kernel⟩,
   ⟨live.thrIn 511 1, 511, 32767, by decide +kernel⟩,
   ⟨live.thrIn 511 1, 511, by decide +kernel⟩,
   ⟨(live.thrIn 511 1).onDev (fun d => (d.setReg (thrReg Reg.FPC_THR_EVENTS 511) 6).setPc 511 32767), 511, 4, by decide +kernel⟩,
   ⟨(live.thrIn 511 1).onDev (fun d => (d.setReg (thrReg Reg.FPC_THR_EVENTS 511) 6).setPc 511 32767), 511, 8, by decide +kernel⟩,
   ⟨(live.thrIn 511 1).onDev (fun d => ((d.setReg (thrReg Reg.FPC_THR_EVENTS 511) 7).setReg (thrReg Reg.FPC_THR_CFG 511)
     0x80000000).setReg (thrReg Reg.FPC_THR_ENTRY 511) 0x7FFF), 511, by decide +kernel⟩,
   ⟨(live.thrIn 511 1), 511, by decide +kernel⟩,
   ⟨(live.thrIn 511 1), 511, 13, by decide +kernel⟩,
   ⟨(live.thrIn 511 1), 511, 14, by decide +kernel⟩⟩

/-- The hypotheses of `Obligations.ThreadsRunWakeAndStop` (ThreadsWakeStopAndMove) are met: each clause. -/
theorem test_witness_ThreadsWakeStopAndMove :
    (∃ (s : State) (t : Fin 512), s.dev.running = true ∧ s.dev.thrState t.val = 3 ∧ s.dev.reg (thrReg Reg.FPC_THR_EVENTS t.val) &&&
      s.dev.reg (thrReg Reg.FPC_THR_WAITMASK t.val) ≠ 0) ∧
    (∃ (s : State) (t : Fin 512), s.dev.running = true ∧ s.dev.thrState t.val ≠ 3) ∧
    (∃ (s : State) (t : Fin 512), s.dev.running = true ∧ s.dev.thrState t.val ≠ 4) ∧
    (∃ (s : State) (t : Fin 512) (x : _), s.dev.running = true ∧ s.dev.thrState t.val = 4 ∧ s.dev.offer .wake t.val (s.dev.thrClass t.val)
      (s.dev.unitCost 4 0) (s.dev.thrOwner t.val) (s.dev.fpc.wakeAngle.contains t.val) = (true, x)) ∧
    (∃ (s : State) (t : Fin 512) (f : _) (fs : _), s.dev.running = true ∧ s.dev.gau.firings = f :: fs ∧ f.action = 6 ∧ f.target = t.val ∧
      s.dev.thrState t.val ≠ 3) ∧
    (∃ (s : State) (t : Fin 512) (i : Fin 4), s.dev.running = true ∧ Map.get? (s.dev.thread t.val).timers i.val = none) ∧
    (∃ (s : State) (t : Fin 512) (i : Fin 4), s.dev.running = true ∧ (Map.get? (s.dev.thread t.val).timers i.val).isSome = true) ∧
    (∃ (s : State) (v : _), s.dev.running = true ∧ Word.bit v 0 = false) ∧
    (∃ (s : State) (t : Fin 512) (v : _), s.dev.running = true ∧ Word.bit v 0 = true ∧ s.dev.thrOn t.val = true) ∧
    (∃ (s : State) (t : Fin 512), s.dev.running = true ∧ s.dev.thrState t.val = 1) ∧
    (∃ (s : State) (t : Fin 512), s.dev.running = true ∧ s.dev.thrState t.val ≠ 5) ∧
    (∃ (s : State) (t : Fin 512), s.dev.running = true ∧ s.dev.thrState t.val = 5 ∧ (s.dev.thread t.val).prior = 1 ∧ (s.dev.thread
      t.val).stalled = none) ∧
    (∃ (s : State) (t : Fin 512), s.dev.running = true ∧ s.dev.holding t.val = none) ∧
    (∃ (s : State) (t : Fin 512) (h : _), s.dev.running = true ∧ s.dev.holding t.val = some h ∧ s.dev.thrState t.val = 5 ∧ (∀ k, k < 512 →
      k ≠ t.val → s.dev.thrState k ≠ 2)) ∧
    (∃ (s : State) (c : Fin 8) (h : Fin 16), s.dev.running = true ∧ s.dev.holder c.val h.val = none) ∧
    (∃ (s : State) (c : Fin 8) (h : Fin 16) (who : _), s.dev.running = true ∧ s.dev.holder c.val h.val = some who ∧
      s.dev.fpc.heldNoted.contains (256 * c.val + h.val) = false) ∧
    (∃ (s : State) (c : Fin 8), s.dev.running = true ∧ s.dev.bit (Reg.FPC_CLc_CTRL c.val) 0 = false) ∧
    (∃ (s : State) (c : Fin 8), s.dev.running = true ∧ s.dev.bit (Reg.FPC_CLc_CTRL c.val) 0 = true ∧ c.val ∉ s.dev.fpc.allWaitFired ∧ (∀
      l, 0 < l → l < 64 → s.dev.thrOn (64 * c.val + l) = true ∧ s.dev.internalWait (64 * c.val + l) = true)) ∧
    (∃ (s : State) (c : Fin 8) (core : Fin 8) (sp : Nat) (old : Nat), s.dev.running = true ∧ s.dev.fld (Reg.FPC_CLc_SPARE c.val) 0 2 = 0 ∧
      s.dev.fld (Reg.FPC_CLc_SPARE c.val) 4 4 = sp ∧ sp ≠ 0xF ∧ s.dev.fld (Reg.FPC_CLc_CORES c.val) (4 * core.val) 4 = old ∧ old ≠ 0xF) ∧
    (∃ (s : State) (c : Fin 8), s.dev.running = true ∧ Map.get? s.dev.fpc.tasting c.val = none) ∧
    (∃ (s : State) (c : Fin 8) (p : Nat), s.dev.running = true ∧ Map.get? s.dev.fpc.tasting c.val = some p ∧ p < 16) :=
  ⟨⟨(live.thrIn 511 3).onDev (fun d => (d.setReg (thrReg Reg.FPC_THR_EVENTS 511) 7).setReg (thrReg Reg.FPC_THR_WAITMASK 511) 4), 511,
     by decide +kernel⟩,
   ⟨live, 511, by decide +kernel⟩,
   ⟨live, 511, by decide +kernel⟩,
   ⟨live.thrIn 511 4, 511, _, by decide +kernel, by decide +kernel, rfl⟩,
   ⟨live.onDev (fun d => { d with gau := { d.gau with firings := [⟨6, 511, 0xFFFFFF, 0, 0, false, false, 0⟩] } }), 511, _, _,
     by decide +kernel, rfl, by decide +kernel⟩,
   ⟨live, 511, 3, by decide +kernel⟩,
   ⟨live.onDev (fun d => d.setThread 511 (fun th => { th with timers := [(3, 9)] })), 511, 3, by decide +kernel⟩,
   ⟨live, 2, by decide +kernel⟩,
   ⟨(live.thrIn 511 6).onDev (fun d => (d.setReg (thrReg Reg.FPC_THR_CFG 511) 0x80000000).setReg (thrReg Reg.FPC_THR_ENTRY 511) 0x7FFF),
     511, 1, by decide +kernel⟩,
   ⟨live.thrIn 511 1, 511, by decide +kernel⟩,
   ⟨live, 511, by decide +kernel⟩,
   ⟨(live.thrIn 511 5).onDev (fun d => d.setThread 511 (fun th => { th with prior := 1 })), 511, by decide +kernel⟩,
   ⟨live, 511, by decide +kernel⟩,
   ⟨(live.thrIn 511 5).onDev (fun d => (d.setHold 511 (some 4)).setThread 511 (fun th => { th with staged := [1] })), 511, _,
     by decide +kernel, rfl, by decide +kernel⟩,
   ⟨live, 7, 13, by decide +kernel⟩,
   ⟨live.onDev (fun d => d.setHold 511 (some 13)), 7, 13, _, by decide +kernel, rfl, by decide +kernel⟩,
   ⟨live.onDev (fun d => d.setReg (Reg.FPC_CLc_CTRL 7) 0), 7, by decide +kernel⟩,
   ⟨live.onDev (fun d =>
     { d with rf := { d.rf with act := (List.range 63).flatMap (fun l => [(thrReg Reg.FPC_THR_CFG (449 + l), 0x80000000#32), (thrReg Reg.FPC_THR_STATE (449 + l), 0x60000000#32)]) ++ d.rf.act } }),
     7, by decide +kernel, by decide +kernel, by decide +kernel, by intro l h0 h; revert h0; revert h; revert l; decide +kernel⟩,
   ⟨live, 7, 7, _, _, by decide +kernel, by decide +kernel, rfl, by decide +kernel, rfl, by decide +kernel⟩,
   ⟨live, 7, by decide +kernel⟩,
   ⟨live.onDev (fun d => { d.setReg (Reg.FPC_CLc_SPARE 7) 0xF2 with fpc := { d.fpc with tasting := [(7, 7)] } }), 7, _, by decide +kernel,
     rfl, by decide +kernel⟩⟩

/-- The hypotheses of `Obligations.ChannelsAnswerRequests` are met: each clause. -/
theorem test_witness_ChannelsAnswerRequests :
    (∃ (s : State) (t : Fin 512) (r : AccReq), s.dev.running = true ∧ s.dev.openReq t.val 0x01 = some r) ∧
    (∃ (s : State) (t : Fin 512) (r : AccReq) (h : _) (id : _) (f : _) (off : _) (len : _), s.dev.running = true ∧ s.dev.openReq t.val
      0x01 = some r ∧ s.dev.handleFrame t.val h = some id ∧ s.dev.frame? id = some f ∧ off + len ≤ f.len) ∧
    (∃ (s : State) (t : Fin 512) (r : AccReq) (a : _) (n : _), s.dev.running = true ∧ s.dev.openReq t.val 0x02 = some r ∧ s.dev.thrClass
      t.val ≠ 3 ∧ a + n ≤ 48 * 2 ^ 30) ∧
    (∃ (s : State) (t : Fin 512) (r : AccReq) (tb : Fin 16) (b : Fin 2) (key : _) (l : _), s.dev.running = true ∧ s.dev.openReq t.val 0x03
      = some r ∧ s.dev.clsFind tb.val b.val key = some l) ∧
    (∃ (s : State) (t : Fin 512) (r : AccReq) (a : _) (n : _) (bs : List Byte), s.dev.running = true ∧ s.dev.openReq t.val 0x05 = some r ∧
      s.dev.winRead t.val a n = some bs) ∧
    (∃ (s : State) (t : Fin 512) (r : AccReq) (h : _) (id : _) (f : _), s.dev.running = true ∧ s.dev.openReq t.val 0x06 = some r ∧
      s.dev.handleFrame t.val h = some id ∧ s.dev.frame? id = some f) ∧
    (∃ (s : State) (t : Fin 512) (r : AccReq) (h : _) (id : _) (f : _), s.dev.running = true ∧ s.dev.openReq t.val 0x07 = some r ∧
      s.dev.handleFrame t.val h = some id ∧ s.dev.frame? id = some f ∧ 3 ≤ f.pass) ∧
    (∃ (s : State) (t : Fin 512) (r : AccReq) (h : _) (id : _) (f : _), s.dev.running = true ∧ s.dev.openReq t.val 0x07 = some r ∧
      s.dev.handleFrame t.val h = some id ∧ s.dev.frame? id = some f ∧ f.pass < 3) ∧
    (∃ (s : State) (t : Fin 512) (r : AccReq), s.dev.running = true ∧ s.dev.openReq t.val 0x08 = some r) ∧
    (∃ (s : State) (t : Fin 512) (r : AccReq) (ns : Fin 4294967296), s.dev.running = true ∧ s.dev.openReq t.val 0x09 = some r ∧ ns.val ≠
      0) ∧
    (∃ (s : State) (t : Fin 512) (r : AccReq), s.dev.running = true ∧ s.dev.openReq t.val 0x0A = some r) ∧
    (∃ (s : State) (t : Fin 512) (r : AccReq), s.dev.running = true ∧ s.dev.openReq t.val 0x0D = some r) ∧
    (∃ (s : State) (t : Fin 512) (r : AccReq), s.dev.running = true ∧ s.dev.openReq t.val 0x0C = some r ∧ Word.fld (wordAt r.words 0) 24 8
      = 2) ∧
    (∃ (s : State) (t : Fin 512) (r : AccReq), s.dev.running = true ∧ s.dev.openReq t.val 0x0C = some r ∧ Word.fld (wordAt r.words 0) 24 8
      = 1 ∧ s.dev.svValid (Word.fld (wordAt r.words 1) 0 10) = false) ∧
    (∃ (s : State) (t : Fin 512) (r : AccReq) (bs : List Byte), s.dev.running = true ∧ s.dev.openReq t.val 0x0C = some r ∧ Word.fld
      (wordAt r.words 0) 24 8 = 1 ∧ s.dev.svValid (Word.fld (wordAt r.words 1) 0 10) = true ∧ Word.fld (wordAt r.words 3) 0 16 <
      s.dev.svRate (Word.fld (wordAt r.words 1) 0 10) ∧ s.dev.winRead t.val (wordAt r.words 4).toNat (8 * s.dev.svChannels (Word.fld
      (wordAt r.words 1) 0 10)) = some bs ∧ s.dev.rows (Word.fld (wordAt r.words 1) 0 10) = []) ∧
    (∃ (s : State) (t : Fin 512) (r : AccReq), s.dev.running = true ∧ s.dev.openReq t.val 0x00 = some r ∧ isSup t.val = true) ∧
    (∃ (s : State) (t : Fin 512) (r : AccReq) (i : _) (op : _), s.dev.running = true ∧ (i, op) ∈ [(Instr.trlPeerWriteRequest t, 1),
      (Instr.trlPeerReadRequest t, 2), (Instr.trlSendRequest t, 3)] ∧ s.dev.trlReq t.val = some r ∧ Word.fld (wordAt r.words 0) 24 8 = op
      ∧ s.dev.reachable (Word.fld (wordAt r.words 1) 16 9) = false) ∧
    (∃ (s : State) (t : Fin 512) (r : AccReq) (i : _) (op : _), s.dev.running = true ∧ (i, op) ∈ [(Instr.trlPeerWriteRequest t, 1),
      (Instr.trlPeerReadRequest t, 2), (Instr.trlSendRequest t, 3)] ∧ s.dev.trlReq t.val = some r ∧ Word.fld (wordAt r.words 0) 24 8 = op
      ∧ s.dev.reachable (Word.fld (wordAt r.words 1) 16 9) = true ∧ op = 2 ∧ peerLenOk r = true) ∧
    (∃ (s : State) (t : Fin 512) (r : AccReq) (i : _) (op : _) (bs : List Byte), s.dev.running = true ∧ (i, op) ∈
      [(Instr.trlPeerWriteRequest t, 1), (Instr.trlPeerReadRequest t, 2), (Instr.trlSendRequest t, 3)] ∧ s.dev.trlReq t.val = some r ∧
      Word.fld (wordAt r.words 0) 24 8 = op ∧ s.dev.reachable (Word.fld (wordAt r.words 1) 16 9) = true ∧ op = 1 ∧ peerLenOk r = true ∧
      s.dev.winRead t.val (wordAt r.words 4).toNat (Word.fld (wordAt r.words 3) 0 16) = some bs) ∧
    (∃ (s : State) (t : Fin 512) (r : AccReq) (i : _) (op : _) (bs : List Byte) (n : _), s.dev.running = true ∧ (i, op) ∈
      [(Instr.trlPeerWriteRequest t, 1), (Instr.trlPeerReadRequest t, 2), (Instr.trlSendRequest t, 3)] ∧ s.dev.trlReq t.val = some r ∧
      Word.fld (wordAt r.words 0) 24 8 = op ∧ s.dev.reachable (Word.fld (wordAt r.words 1) 16 9) = true ∧ op = 3 ∧ n = Word.fld (wordAt
      r.words 2) 0 6 ∧ 1 ≤ n ∧ n ≤ 60 ∧ s.dev.winRead t.val (wordAt r.words 4).toNat (4 * n) = some bs) ∧
    (∃ (s : State) (t : Fin 512), s.dev.running = true ∧ s.dev.dueReq t.val = none) ∧
    (∃ (s : State) (t : Fin 512) (r : AccReq), s.dev.running = true ∧ s.dev.dueReq t.val = some r ∧ (s.dev.thread t.val).stalled = none) :=
  ⟨⟨live.withReq 511 1 [], 511, _, by decide +kernel, rfl⟩,
   ⟨(frameState (frameAt (.thread 7 63 2) 0x0800)).withReq 511 1 [], 511, _, 2, _, _, 10, 50, by decide +kernel, rfl, rfl, rfl,
     by decide +kernel⟩,
   ⟨live.withReq 511 2 [], 511, _, 48 * 2 ^ 30 - 4, 4, by decide +kernel, rfl, by decide +kernel⟩,
   ⟨((live.withReq 511 3 []).onDev (fun d => ((d.setReg (Reg.CLS_TBLt_SIZE 5) 64).setReg (Reg.CLS_TBLt_CFG 5) 0).setEntry 5 0 ⟨true, 3, 3⟩
     [0x80000000, 0, 0x12345678, 0, 7, 7])), 511, _, 5, 0, octets [7, 0, 0, 0, 7, 0, 0, 0], _, by decide +kernel, rfl, rfl⟩,
   ⟨live.withReq 511 5 [], 511, _, 4092, 4, List.replicate 4 0, by decide +kernel, rfl, by decide +kernel⟩,
   ⟨(frameState (frameAt (.thread 7 63 2) 0x0800)).withReq 511 6 [], 511, _, 2, _, _, by decide +kernel, rfl, rfl, rfl⟩,
   ⟨(frameState { frameAt (.thread 7 63 2) 0x0800 with record := [0x06000000] }).withReq 511 7 [], 511, _, 2, _, _, by decide +kernel,
     rfl, rfl, rfl, by decide +kernel⟩,
   ⟨(frameState { frameAt (.thread 7 63 2) 0x0800 with record := List.replicate 12 0 }).withReq 511 7 [], 511, _, 2, _, _,
     by decide +kernel, rfl, rfl, rfl, by decide +kernel⟩,
   ⟨live.withReq 511 8 [], 511, _, by decide +kernel, rfl⟩,
   ⟨live.withReq 511 9 [], 511, _, 4294967295, by decide +kernel, rfl, by decide +kernel⟩,
   ⟨live.withReq 511 10 [], 511, _, by decide +kernel, rfl⟩,
   ⟨live.withReq 511 13 [], 511, _, by decide +kernel, rfl⟩,
   ⟨live.withReq 511 12 [0x02000000, 255], 511, _, by decide +kernel, rfl, by decide +kernel⟩,
   ⟨live.withReq 511 12 [0x01000000, 5], 511, _, by decide +kernel, rfl, by decide +kernel⟩,
   ⟨(live.withReq 511 12 [0x01000000, 1023, 0, 3999, 0]).onDev (svEntry 1023), 511, _, List.replicate 8 0, by decide +kernel, rfl,
     by decide +kernel⟩,
   ⟨live.withReq 448 0 [], 448, _, by decide +kernel, rfl, by decide +kernel⟩,
   ⟨(live.withReq 511 11 [0x01000000, 0x00050000, 3, 0, 0]), 511, _, .trlPeerWriteRequest 511, 1, by decide +kernel, by simp, rfl,
     by decide +kernel⟩,
   ⟨((live.withReq 511 11 [0x02000000, 0x00090000, 3, 4, 0]).onDev (inDomain 3 true)), 511, _, .trlPeerReadRequest 511, 2,
     by decide +kernel, by simp, rfl, by decide +kernel⟩,
   ⟨((live.withReq 511 11 [0x01000000, 0x00090000, 3, 4, 0]).onDev (inDomain 3 true)), 511, _, .trlPeerWriteRequest 511, 1, _,
     by decide +kernel, by simp, rfl, by decide +kernel, by decide +kernel, by decide +kernel, by decide +kernel, rfl⟩,
   ⟨((live.withReq 511 11 [0x03000000, 0x00090000, 3, 4, 0]).onDev (inDomain 3 true)), 511, _, .trlSendRequest 511, 3, List.replicate 12
     0, 3, by decide +kernel, by simp, rfl, by decide +kernel⟩,
   ⟨live, 511, by decide +kernel⟩,
   ⟨live.onDev (fun d => d.setThread 511 (fun th => { th with reqs := [⟨9, 1, [], some (0, []), false⟩, ⟨10, 1, [], none, false⟩] })),
     511, _, by decide +kernel, rfl, by decide +kernel⟩⟩

/-- The hypotheses of `Obligations.CipherMessagesAct` (CipherRequestsAndInboundMessages) are met: each clause. -/
theorem test_witness_CipherRequestsAndInboundMessages :
    (∃ (s : State) (t : Fin 512) (i : _) (op : _) (r : _), s.dev.running = true ∧ (i, op) ∈ [(Instr.seal t, 1), (Instr.cipherOpen t, 2),
      (Instr.ctr t, 3), (Instr.xtsEnc t, 4), (Instr.xtsDec t, 5)] ∧ (s.dev.thread t.val).reqs = [r] ∧ r.chan = 4 ∧ Word.fld (wordAt
      r.words 0) 24 8 = op ∧ r.answer = none ∧ s.dev.cry.msgs = [] ∧ 16384 < Word.fld (wordAt r.words 3) 0 16) ∧
    (∃ (s : State) (t : Fin 512) (i : _) (op : _) (r : _), s.dev.running = true ∧ (i, op) ∈ [(Instr.seal t, 1), (Instr.cipherOpen t, 2),
      (Instr.ctr t, 3), (Instr.xtsEnc t, 4), (Instr.xtsDec t, 5)] ∧ (s.dev.thread t.val).reqs = [r] ∧ r.chan = 4 ∧ Word.fld (wordAt
      r.words 0) 24 8 = op ∧ r.answer = none ∧ s.dev.cry.msgs = [] ∧ Word.fld (wordAt r.words 3) 0 16 = 64 ∧ Word.fld (wordAt r.words 3)
      16 16 ≤ 64 ∧ (s.dev.reqBytes t.val r (if op = 2 then 16 else 0)).isSome = true ∧ s.dev.reqForeign t.val (wordAt r.words 1) = true) ∧
    (∃ (s : State) (t : Fin 512) (i : _) (op : _) (r : _), s.dev.running = true ∧ (i, op) ∈ [(Instr.seal t, 1), (Instr.cipherOpen t, 2),
      (Instr.ctr t, 3), (Instr.xtsEnc t, 4), (Instr.xtsDec t, 5)] ∧ (s.dev.thread t.val).reqs = [r] ∧ r.chan = 4 ∧ Word.fld (wordAt
      r.words 0) 24 8 = op ∧ r.answer = none ∧ s.dev.cry.msgs = [] ∧ Word.fld (wordAt r.words 3) 0 16 = 64 ∧ Word.fld (wordAt r.words 3)
      16 16 ≤ 64 ∧ (s.dev.reqBytes t.val r (if op = 2 then 16 else 0)).isSome = true ∧ s.dev.reqForeign t.val (wordAt r.words 1) = false ∧
      (∀ e, e < 12 → s.dev.engineOn e = false) ∧ s.dev.thrClass t.val ≠ 0) ∧
    (∃ (s : State) (f : _) (g : _) (c : _) (h : _), s.dev.running = true ∧ s.dev.frame? f = some g ∧ g.place = .toChannel c h ∧ c < 8 ∧ 16
      ≤ h ∧ s.dev.bit (Reg.FPC_CHh_CFG c h) 31 = false) ∧
    (∃ (s : State) (f : _) (g : _) (c : _) (h : _), s.dev.running = true ∧ s.dev.frame? f = some g ∧ g.place = .toChannel c h ∧ c < 8 ∧ 16
      ≤ h ∧ h < 256 ∧ s.dev.bit (Reg.FPC_CHh_CFG c h) 31 = true ∧ s.dev.chanQueue c h = []) ∧
    (∃ (s : State), s.dev.running = true ∧ s.dev.fpc.arriving = []) ∧
    (∃ (s : State) (t : Fin 512) (h : Fin 256), s.dev.running = true ∧ s.dev.thrState t.val = 1 ∧ s.dev.chanQueue (t.val / 64) h.val = []) ∧
    (∃ (s : State) (t : Fin 512) (h : Fin 256) (ws : List Word) (rest : _), s.dev.running = true ∧ s.dev.thrState t.val = 1 ∧
      s.dev.chanQueue (t.val / 64) h.val = ⟨ws, none⟩ :: rest) :=
  ⟨⟨(live.withReq 511 4 [0x01000000, 0, 0xFF000000, 16385]), 511, .seal 511, 1, _, by decide +kernel, by simp, rfl, by decide +kernel⟩,
   ⟨((live.withReq 511 4 [0x05000000, 0x00000005, 0xFF000000, 64, 0]).onDev (fun d =>
     { d with cry := { d.cry with sas := [(5, ⟨1, 7, 0, [], 0, [], 0, 0, 0, 0, 0, false⟩)] } })), 511, .xtsDec 511, 5, _,
     by decide +kernel, by simp, rfl, by decide +kernel⟩,
   ⟨((live.withReq 511 4 [0x05000000, 0x80000000, 0xFF000000, 64]).onDev (fun d => (d.setReg Reg.CRY_ENGINES 0).setFld (thrReg
     Reg.FPC_THR_CFG 511) 29 2 1)), 511, .xtsDec 511, 5, _, by decide +kernel, by simp, rfl, by decide +kernel⟩,
   ⟨frameState (frameAt (.toChannel 7 255) 0x0800), 0, _, _, _, by decide +kernel, rfl, rfl, by decide +kernel⟩,
   ⟨(frameState (frameAt (.toChannel 7 255) 0x0800)).onDev (fun d => d.setReg (Reg.FPC_CHh_CFG 7 255) 0x80000000), 0, _, _, _,
     by decide +kernel, rfl, rfl, by decide +kernel⟩,
   ⟨frameState (frameAt (.toChannel 7 255) 0x0800), by decide +kernel⟩,
   ⟨live.thrIn 511 1, 511, 255, by decide +kernel⟩,
   ⟨(live.thrIn 511 1).onDev (fun d => d.setChanQueue 7 255 [⟨[1], none⟩, ⟨[2], none⟩]), 511, 255, _, _, by decide +kernel,
     by decide +kernel, rfl⟩⟩

/-- The hypotheses of `Obligations.CipherMessagesAct` (CipherMessagesAndEngines) are met: each clause. -/
theorem test_witness_CipherMessagesAndEngines :
    (∃ (s : State) (f : _), s.dev.running = true ∧ s.dev.frame? f = none) ∧
    (∃ (s : State) (f : _) (g : _) (y : _), s.dev.running = true ∧ s.dev.frame? f = some g ∧ g.place = .verify y ∧ s.dev.cry.msgs = [] ∧
      (∀ x, x < 12 → s.dev.engineOn x = false)) ∧
    (∃ (s : State) (e : Fin 12), s.dev.running = true ∧ s.dev.inEngine e.val = none ∧ s.dev.nextFor e.val = none) ∧
    (∃ (s : State) (e : Fin 12) (i : _) (m : _) (u : _), s.dev.running = true ∧ s.dev.inEngine e.val = some i ∧ Map.get? s.dev.cry.msgs i
      = some m ∧ 0 < m.issued ∧ m.issued < m.blocks ∧ (∀ f y, m.work ≠ .verify f y) ∧ s.dev.offer .cipher i m.level (s.dev.unitCost 3
      (Nat.min 64 (m.blocks - m.issued))) m.owner false = (true, u)) ∧
    (∃ (s : State) (e : Fin 12), s.dev.running = true ∧ s.dev.inEngine e.val = none) ∧
    (∃ (s : State) (e : Fin 12) (i : _) (m : _) (t : _) (tag : _) (op : _), s.dev.running = true ∧ s.dev.cry.msgs = [(i, m)] ∧ m.place =
      .engine e.val ∧ m.blocks ≤ m.issued ∧ m.work = .request t tag op) ∧
    (∃ (s : State) (e : Fin 12), s.dev.running = true ∧ s.dev.engineOn e.val = false) ∧
    (∃ (s : State) (e : Fin 12), s.dev.running = true ∧ s.dev.engineOn e.val = true ∧ s.dev.cry.msgs = []) ∧
    (∃ (s : State) (e : Fin 12), s.dev.running = true ∧ s.dev.engineOn e.val = true) ∧
    (∃ (s : State) (e : Fin 12), s.dev.running = true ∧ s.dev.engineOn e.val = false ∧ s.dev.cry.msgs = [] ∧ s.dev.bit Reg.CRY_ENGINES (16
      + e.val) = false ∧ s.dev.engineReset e.val = none) :=
  ⟨⟨live, 0, by decide +kernel⟩,
   ⟨(frameState (frameAt (.verify 19) 0x88E5)).onDev (fun d => d.setReg Reg.CRY_ENGINES 0), 0, _, _, by decide +kernel, rfl, rfl,
     by decide +kernel⟩,
   ⟨live, 11, by decide +kernel⟩,
   ⟨(live.onDev (fun d => { d with cry := { d.cry with msgs := [(3, ⟨.espIn 5, 2, 7, 100, 64, .engine 11, .none, none, 0⟩)] } })), 11, _,
     _, _, by decide +kernel, rfl, rfl, by decide +kernel, by decide +kernel, (fun _ _ h => nomatch h), rfl⟩,
   ⟨live, 11, by decide +kernel⟩,
   ⟨live.onDev (fun d => { d with cry := { d.cry with msgs := [(3, ⟨.request 5 9 1, 2, 7, 100, 100, .engine 11, .none, none, 0⟩)] } }),
     11, _, _, _, _, _, by decide +kernel, rfl, by decide +kernel, by decide +kernel, rfl⟩,
   ⟨live.onDev (fun d => d.setReg Reg.CRY_ENGINES 0), 11, by decide +kernel⟩,
   ⟨live, 11, by decide +kernel⟩,
   ⟨live, 11, by decide +kernel⟩,
   ⟨live.onDev (fun d => d.setReg Reg.CRY_ENGINES 0), 11, by decide +kernel⟩⟩

/-- The hypotheses of `Obligations.KeysAndAssociations` are met: each clause. -/
theorem test_witness_KeysAndAssociations :
    (∃ (s : State) (i : Fin 256), s.dev.running = true ∧ s.dev.keyBad i.val (s.dev.regs (Reg.CRY_KEY_STAGE 0) 8 ++ s.dev.regs
      (Reg.CRY_KEY_DATA 0) 8) = true) ∧
    (∃ (s : State) (i : Fin 256), s.dev.running = true ∧ s.dev.keyBad i.val (s.dev.regs (Reg.CRY_KEY_STAGE 0) 8 ++ s.dev.regs
      (Reg.CRY_KEY_DATA 0) 8) = false ∧ s.dev.bit (Reg.CRY_SLOTs i.val) 25 = false) ∧
    (∃ (s : State) (i : Fin 1048576), s.dev.running = true ∧ s.dev.saLive i.val = none) ∧
    (∃ (s : State) (i : Fin 1048576), s.dev.running = true ∧ s.dev.slot? i.val = none) ∧
    (∃ (s : State) (i : Fin 1048576) (a : _), s.dev.running = true ∧ s.dev.saLive i.val = some a ∧ a.soft = false ∧ a.softLimit ≠ 0 ∧
      a.softLimit ≤ a.packets) ∧
    (∃ (s : State) (i : Fin 1048576) (a : _), s.dev.running = true ∧ s.dev.saLive i.val = some a ∧ a.hardLimit ≠ 0 ∧ a.hardLimit ≤
      a.packets) ∧
    (∃ (s : State) (sa : Bool) (i : Fin 1048576), s.dev.running = true ∧ s.dev.copyHeld sa i.val = true) ∧
    (∃ (s : State) (i : Fin 1048576) (m : _) (t : _) (g : _) (c : _), s.dev.running = true ∧ s.dev.copyHeld false i.val = false ∧
      s.dev.cry.waits = [(false, i.val, m, t, g)] ∧ s.dev.cmd? m t g = some c) ∧
    (∃ (s : State) (m : Fin 16) (tag : Fin 4096) (gen : Fin 16) (c : Cmd), s.dev.running = true ∧ s.dev.started m.val tag.val gen.val
      0x0400 c ∧ s.dev.keyBad (c.pf 0 0 8) c.params = true) ∧
    (∃ (s : State) (m : Fin 16) (tag : Fin 4096) (gen : Fin 16) (c : Cmd), s.dev.running = true ∧ s.dev.started m.val tag.val gen.val
      0x0400 c ∧ s.dev.keyBad (c.pf 0 0 8) c.params = false ∧ s.dev.bit (Reg.CRY_SLOTs (c.pf 0 0 8)) 25 = false) ∧
    (∃ (s : State) (m : Fin 16) (tag : Fin 4096) (gen : Fin 16) (c : Cmd), s.dev.running = true ∧ s.dev.started m.val tag.val gen.val
      0x0401 c ∧ s.dev.copyHeld false (c.pf 0 0 8) = false) ∧
    (∃ (s : State) (m : Fin 16) (tag : Fin 4096) (gen : Fin 16) (c : Cmd), s.dev.running = true ∧ s.dev.started m.val tag.val gen.val
      0x0401 c ∧ s.dev.copyHeld false (c.pf 0 0 8) = true) ∧
    (∃ (s : State) (m : Fin 16) (tag : Fin 4096) (gen : Fin 16) (c : Cmd), s.dev.running = true ∧ s.dev.started m.val tag.val gen.val
      0x0402 c ∧ s.dev.cry.msgs = [] ∧ (∀ x, x < 12 → s.dev.engineOn x = false)) ∧
    (∃ (s : State) (m : Fin 16) (tag : Fin 4096) (gen : Fin 16) (c : Cmd), s.dev.running = true ∧ s.dev.started m.val tag.val gen.val
      0x0403 c ∧ s.dev.sa? (c.pf 1 0 20) = none) ∧
    (∃ (s : State) (m : Fin 16) (tag : Fin 4096) (gen : Fin 16) (c : Cmd) (a : _), s.dev.running = true ∧ s.dev.started m.val tag.val
      gen.val 0x0403 c ∧ s.dev.sa? (c.pf 1 0 20) = some a ∧ a.slice = c.slice ∧ s.dev.copyHeld true (c.pf 1 0 20) = false) ∧
    (∃ (s : State) (m : Fin 16) (tag : Fin 4096) (gen : Fin 16) (c : Cmd), s.dev.running = true ∧ s.dev.started m.val tag.val gen.val
      0x0404 c) :=
  ⟨⟨live, 255, by decide +kernel⟩,
   ⟨live.onDev (fun d => ((d.setReg (Reg.CRY_KEY_STAGE 0) 255).setReg (Reg.CRY_KEY_STAGE 1) 0x34000000).setReg (Reg.CRY_KEY_DATA 0) 9),
     255, by decide +kernel⟩,
   ⟨live, 5, by decide +kernel⟩,
   ⟨live, 5, by decide +kernel⟩,
   ⟨live.onDev (fun d =>
     { d.setReg Reg.CRY_EXPIRY_SEQ 0xFFFFFFFF with cry := { d.cry with sas := [(1048575, ⟨1, 5, 0, [0, 0, 0, 0, 0, 0, 0, 0, 3, 0, 0, 0], 0, [], 3, 0, 0, 0, 0, false⟩)] } }),
     1048575, _, by decide +kernel, rfl, by decide +kernel⟩,
   ⟨live.onDev (fun d =>
     { d.setReg Reg.CRY_EXPIRY_SEQ 0xFFFFFFFF with cry := { d.cry with sas := [(1048575, ⟨1, 5, 0, [0, 0, 0, 0, 0, 0, 0, 0, 3, 0, 3, 0], 0, [], 3, 0, 0, 0, 0, false⟩)] } }),
     1048575, _, by decide +kernel, rfl, by decide +kernel⟩,
   ⟨live.onDev (fun d =>
     { d with cry := { d.cry with msgs := [(3, ⟨.espIn 5, 2, 7, 100, 64, .engine 11, .slot 5 ⟨3, false, true, 0, [], 0, [], false⟩, none, 0⟩)] } }),
     false, 5, by decide +kernel⟩,
   ⟨(cmdState 0x0401 0xFFFF [5]).onDev (fun d => { d with cry := { d.cry with waits := [(false, 5, 0, 1, 0)] } }), 5, _, _, _, _,
     by decide +kernel, by decide +kernel, rfl, rfl⟩,
   ⟨cmdState 0x0400 0xFFFF [5], 0, 1, 0, _, by decide +kernel, ⟨rfl, by decide +kernel, by decide +kernel⟩, by decide +kernel⟩,
   ⟨cmdState 0x0400 0xFFFF ([5, 0x30000000] ++ List.replicate 14 0), 0, 1, 0, _, by decide +kernel, ⟨rfl, by decide +kernel,
     by decide +kernel⟩, by decide +kernel⟩,
   ⟨cmdState 0x0401 0xFFFF [5], 0, 1, 0, _, by decide +kernel, ⟨rfl, by decide +kernel, by decide +kernel⟩, by decide +kernel⟩,
   ⟨(cmdState 0x0401 0xFFFF [5]).onDev (fun d =>
     { d with cry := { d.cry with msgs := [(3, ⟨.espIn 5, 2, 7, 100, 64, .engine 11, .slot 5 ⟨3, false, true, 0, [], 0, [], false⟩, none, 0⟩)] } }),
     0, 1, 0, _, by decide +kernel, ⟨rfl, by decide +kernel, by decide +kernel⟩, by decide +kernel⟩,
   ⟨(cmdState 0x0402 5 [0, 7, 3]).onDev (fun d => d.setReg Reg.CRY_ENGINES 0), 0, 1, 0, _, by decide +kernel, ⟨rfl, by decide +kernel,
     by decide +kernel⟩, by decide +kernel⟩,
   ⟨cmdState 0x0403 5 [0, 7], 0, 1, 0, _, by decide +kernel, ⟨rfl, by decide +kernel, by decide +kernel⟩, by decide +kernel⟩,
   ⟨(cmdState 0x0403 5 [0, 1048575]).onDev (fun d =>
     { d with cry := { d.cry with sas := [(1048575, ⟨1, 5, 0, [], 0, [], 3, 0, 0, 0, 0, false⟩)] } }), 0, 1, 0, _, _, by decide +kernel,
     ⟨rfl, by decide +kernel, by decide +kernel⟩, rfl, by decide +kernel⟩,
   ⟨cmdState 0x0404 0xFFFF [0, 7], 0, 1, 0, _, by decide +kernel, ⟨rfl, by decide +kernel, by decide +kernel⟩⟩⟩

/-- The hypotheses of `Obligations.StorageActs` (StorageObjects) are met: each clause. -/
theorem test_witness_StorageObjects :
    (∃ (s : State) (v : Word), s.dev.running = true ∧ Word.fld v 4 2 = 3) ∧
    (∃ (s : State) (v : Word) (i : _), s.dev.running = true ∧ Word.fld v 4 2 = 2 ∧ s.dev.fld Reg.STO_OBJ_INDEX 0 15 = i ∧ i < 16384 ∧
      Map.get? s.dev.sto.namespaces i = none) ∧
    (∃ (s : State) (v : Word) (i : _), s.dev.running = true ∧ Word.fld v 4 2 = 2 ∧ s.dev.fld Reg.STO_OBJ_INDEX 0 15 = i ∧ i < 16384 ∧
      Map.get? s.dev.sto.namespaces i = none ∧ s.dev.nsBad i (s.dev.regs (Reg.STO_OBJ_DATA 0) 5) = false ∧ s.dev.sliceLive (s.dev.fld
      (Reg.STO_OBJ_DATA 0) 0 13) (s.dev.fld (Reg.STO_OBJ_DATA 0) 16 8) = true) ∧
    (∃ (s : State) (v : Word) (i : _) (ws : List Word), s.dev.running = true ∧ Word.fld v 4 2 = 2 ∧ s.dev.fld Reg.STO_OBJ_INDEX 0 15 = i ∧
      i < 16384 ∧ Map.get? s.dev.sto.namespaces i = some ws) ∧
    (∃ (s : State) (v : Word) (i : _) (ws : List Word), s.dev.running = true ∧ Word.fld v 4 2 = 2 ∧ s.dev.fld Reg.STO_OBJ_INDEX 0 15 = i ∧
      i < 16384 ∧ Map.get? s.dev.sto.namespaces i = some ws ∧ s.dev.sliceState (Word.fld (wordAt ws 0) 0 13) = 4) ∧
    (∃ (s : State) (v : Word) (i : _) (ws : List Word), s.dev.running = true ∧ Word.fld v 4 2 = 2 ∧ s.dev.fld Reg.STO_OBJ_INDEX 0 15 = i ∧
      i < 16384 ∧ Map.get? s.dev.sto.namespaces i = some ws ∧ s.dev.sliceState (Word.fld (wordAt ws 0) 0 13) ≠ 4) ∧
    (∃ (s : State) (v : Word) (c : _), s.dev.running = true ∧ Word.fld v 4 2 = 0 ∧ s.dev.conn? (s.dev.fld Reg.STO_OBJ_INDEX 0 15) = some c
      ∧ c.target = true ∧ s.dev.connState (s.dev.fld Reg.STO_OBJ_INDEX 0 15) = 4) :=
  ⟨⟨live, 0x31, by decide +kernel⟩,
   ⟨live.onDev (fun d => d.setReg Reg.STO_OBJ_INDEX 16383), 0x21, _, by decide +kernel, by decide +kernel, rfl, by decide +kernel⟩,
   ⟨live.onDev (fun d =>
     { ((((d.setReg Reg.STO_OBJ_INDEX 16383).setReg (Reg.STO_OBJ_DATA 0) 5).setReg (Reg.STO_OBJ_DATA 1) 7).setReg (Reg.STO_OBJ_DATA 3) 0x00030009).setSlice 5 1 with sto := { d.sto with conns := [(3, ⟨true, [5], [], 0, 0, 0, false⟩)] } }),
     0x22, _, by decide +kernel, by decide +kernel, rfl, by decide +kernel⟩,
   ⟨((live.onDev (fun d =>
     { d.setReg Reg.STO_OBJ_INDEX 16383 with sto := { d.sto with namespaces := [(16383, [5, 7, 0, 9, 0])] } })).onDev (fun d => d.setSlice
     5 4)), 0x22, 16383, _, by decide +kernel, by decide +kernel, by decide +kernel, by decide +kernel, rfl⟩,
   ⟨(live.onDev (fun d => { d.setReg Reg.STO_OBJ_INDEX 16383 with sto := { d.sto with namespaces := [(16383, [5, 7, 0, 9, 0])] } })).onDev
     (fun d => d.setSlice 5 4), 0x23, _, _, by decide +kernel, by decide +kernel, rfl, by decide +kernel, rfl, by decide +kernel⟩,
   ⟨(live.onDev (fun d => { d.setReg Reg.STO_OBJ_INDEX 16383 with sto := { d.sto with namespaces := [(16383, [5, 7, 0, 9, 0])] } })),
     0x23, _, _, by decide +kernel, by decide +kernel, rfl, by decide +kernel, rfl, by decide +kernel⟩,
   ⟨live.onDev (fun d =>
     { (d.setReg Reg.STO_OBJ_INDEX 32767).setFld (Reg.STO_CONN_STATEk 32767) 29 3 4 with sto := { d.sto with conns := [(32767, ⟨true, [5], [], 0, 0, 0, true⟩)] } }),
     4, _, by decide +kernel, by decide +kernel, rfl, by decide +kernel⟩⟩

/-- The hypotheses of `Obligations.StorageActs` (StorageConnections) are met: each clause. -/
theorem test_witness_StorageConnections :
    (∃ (s : State) (k : Fin 32768) (i : _), s.dev.running = true ∧ s.dev.connState k.val = 0 ∧ (i = Instr.connectFail k ∨ (∃ a b c, i =
      .connectSuccess k a b c) ∨ (∃ b, i = .connectionLoss k b) ∨ i = .reconnectExpiry k ∨ i = .ctrlLossExpiry k ∨ i = .closeDone k ∨ i =
      .keepAliveSend k ∨ i = .katoExpiry k ∨ i = .tcpRetransmitTimeout k ∨ i = .c2hTermReq k ∨ (∃ ws, i = .nvmeResponse k ws))) ∧
    (∃ (s : State) (k : Fin 32768) (c : _), s.dev.running = true ∧ s.dev.conn? k.val = some c ∧ c.target = true ∧ s.dev.connState k.val =
      1 ∧ c.words.length = 64) ∧
    (∃ (s : State) (k : Fin 32768), s.dev.running = true ∧ s.dev.connState k.val = 1) ∧
    (∃ (s : State) (k : Fin 32768) (i : _) (c : _), s.dev.running = true ∧ i ∈ [Instr.connectionLoss k false, Instr.connectionLoss k true,
      Instr.c2hTermReq k, Instr.katoExpiry k] ∧ s.dev.conn? k.val = some c ∧ c.target = true ∧ c.cmds = [] ∧ s.dev.nvqsOf k.val = [] ∧
      s.dev.connState k.val = 2) ∧
    (∃ (s : State) (k : Fin 32768), s.dev.running = true ∧ s.dev.connState k.val = 3) ∧
    (∃ (s : State) (k : Fin 32768) (c : _), s.dev.running = true ∧ s.dev.conn? k.val = some c ∧ c.lost = true ∧ s.dev.connState k.val = 3) ∧
    (∃ (s : State) (k : Fin 32768) (c : _), s.dev.running = true ∧ s.dev.conn? k.val = some c ∧ s.dev.connState k.val = 5) ∧
    (∃ (s : State) (k : Fin 32768), s.dev.running = true ∧ s.dev.isTarget k.val = true ∧ s.dev.connState k.val = 2) ∧
    (∃ (s : State) (k : Fin 32768) (c : _), s.dev.running = true ∧ s.dev.conn? k.val = some c ∧ s.dev.overTcp k.val = true ∧
      s.dev.connState k.val = 2 ∧ c.retrans < 7) ∧
    (∃ (s : State) (k : Fin 32768) (c : _), s.dev.running = true ∧ s.dev.conn? k.val = some c ∧ s.dev.overTcp k.val = true ∧
      s.dev.connState k.val = 2 ∧ 7 ≤ c.retrans) :=
  ⟨⟨live, 32767, .connectFail 32767, by decide +kernel, by decide +kernel, .inl rfl⟩,
   ⟨live.onDev (fun d =>
     { d.setFld (Reg.STO_CONN_STATEk 32767) 29 3 1 with sto := { d.sto with conns := [(32767, ⟨true, List.replicate 64 0, [], 0, 0, 3, true⟩)] } }),
     32767, _, by decide +kernel, rfl, by decide +kernel⟩,
   ⟨live.onDev (fun d =>
     { d.setFld (Reg.STO_CONN_STATEk 32767) 29 3 1 with sto := { d.sto with conns := [(32767, ⟨true, List.replicate 64 0, [], 0, 0, 3, true⟩)] } }),
     32767, by decide +kernel⟩,
   ⟨live.onDev (fun d =>
     { d.setFld (Reg.STO_CONN_STATEk 32767) 29 3 2 with sto := { d.sto with conns := [(32767, ⟨true, List.replicate 64 0, [], 0, 0, 3, false⟩)] } }),
     32767, .katoExpiry 32767, _, by decide +kernel, by simp, rfl, by decide +kernel⟩,
   ⟨live.onDev (fun d =>
     { d.setFld (Reg.STO_CONN_STATEk 32767) 29 3 3 with sto := { d.sto with conns := [(32767, ⟨true, List.replicate 64 0, [], 0, 0, 3, true⟩)] } }),
     32767, by decide +kernel⟩,
   ⟨live.onDev (fun d =>
     { d.setFld (Reg.STO_CONN_STATEk 32767) 29 3 3 with sto := { d.sto with conns := [(32767, ⟨true, List.replicate 64 0, [], 0, 0, 3, true⟩)] } }),
     32767, _, by decide +kernel, rfl, by decide +kernel⟩,
   ⟨live.onDev (fun d =>
     { d.setFld (Reg.STO_CONN_STATEk 32767) 29 3 5 with sto := { d.sto with conns := [(32767, ⟨true, List.replicate 64 0, [], 0, 0, 3, true⟩)] } }),
     32767, _, by decide +kernel, rfl, by decide +kernel⟩,
   ⟨live.onDev (fun d =>
     { d.setFld (Reg.STO_CONN_STATEk 32767) 29 3 2 with sto := { d.sto with conns := [(32767, ⟨true, List.replicate 64 0, [], 0, 0, 3, false⟩)] } }),
     32767, by decide +kernel⟩,
   ⟨live.onDev (fun d =>
     { d.setFld (Reg.STO_CONN_STATEk 32767) 29 3 2 with sto := { d.sto with conns := [(32767, ⟨true, List.replicate 64 0, [], 0, 0, 6, false⟩)] } }),
     32767, _, by decide +kernel, rfl, by decide +kernel⟩,
   ⟨live.onDev (fun d =>
     { d.setFld (Reg.STO_CONN_STATEk 32767) 29 3 2 with sto := { d.sto with conns := [(32767, ⟨true, List.replicate 64 0, [], 0, 0, 7, false⟩)] } }),
     32767, _, by decide +kernel, rfl, by decide +kernel⟩⟩

/-- The hypotheses of `Obligations.StorageActs` (StorageCommands) are met: each clause. -/
theorem test_witness_StorageCommands :
    (∃ (s : State) (k : Fin 32768) (c : StoConn) (entry : _) (q : _) (nw : _) (i : _), s.dev.running = true ∧ s.dev.conn? k.val = some c ∧
      c.target = false ∧ s.dev.connState k.val = 2 ∧ s.dev.queue? 0 c.slice c.queue = some q ∧ s.dev.nvmeReady k.val c = true ∧
      s.dev.fetchable q = true ∧ Word.fld (wordAt entry 0) 0 8 = 0 ∧ nvmeReserved entry = false ∧ s.dev.nsNamed c.slice (wordAt entry
      1).toNat = some i ∧ Map.get? s.dev.sto.namespaces i = some nw ∧ Word.fld (wordAt nw 3) 16 15 = c.targetOf) ∧
    (∃ (s : State) (k : Fin 32768) (cid : Fin 256) (c : StoConn) (m : StoCmd) (ws : List Word), s.dev.running = true ∧ s.dev.conn? k.val =
      some c ∧ c.target = false ∧ s.dev.connState k.val = 2 ∧ Map.get? c.cmds cid.val = some m ∧ Word.fld (wordAt ws 3) 0 16 = cid.val ∧
      m.sent = true ∧ m.done = false ∧ m.units = 0) ∧
    (∃ (s : State) (k : Fin 32768) (cid : Fin 256) (c : StoConn) (m : StoCmd) (off : _) (bytes : List Byte), s.dev.running = true ∧
      s.dev.conn? k.val = some c ∧ c.target = false ∧ s.dev.connState k.val = 2 ∧ Map.get? c.cmds cid.val = some m ∧ m.sent = true ∧
      m.done = false ∧ Word.fld (wordAt m.entry 0) 0 8 = 2 ∧ m.placed + bytes.length ≤ m.data.length ∧ off + bytes.length ≤ m.data.length
      ∧ nsEncrypts (s.dev.nsOf m) = false) ∧
    (∃ (s : State) (k : Fin 32768) (cid : Fin 256) (c : StoConn) (m : StoCmd), s.dev.running = true ∧ s.dev.conn? k.val = some c ∧
      c.target = false ∧ s.dev.connState k.val = 2 ∧ Map.get? c.cmds cid.val = some m ∧ m.sent = true ∧ m.done = false ∧ Word.fld (wordAt
      m.entry 0) 0 8 = 2) ∧
    (∃ (s : State) (k : Fin 32768) (cid : Fin 256) (c : StoConn) (m : StoCmd) (off : _) (len : _), s.dev.running = true ∧ s.dev.conn?
      k.val = some c ∧ c.target = false ∧ s.dev.connState k.val = 2 ∧ Map.get? c.cmds cid.val = some m ∧ s.dev.overTcp k.val = true ∧
      m.sent = true ∧ m.done = false ∧ m.writes = true ∧ off + len ≤ m.data.length ∧ m.r2t.length < 16 ∧ m.units ≠ 0) ∧
    (∃ (s : State) (k : Fin 32768) (cid : Fin 256) (c : StoConn), s.dev.running = true ∧ s.dev.conn? k.val = some c ∧ c.target = false ∧
      s.dev.connState k.val = 2 ∧ Map.get? c.cmds cid.val = none) ∧
    (∃ (s : State) (k : Fin 32768) (cid : Fin 256) (c : StoConn) (m : StoCmd), s.dev.running = true ∧ s.dev.conn? k.val = some c ∧
      c.target = false ∧ s.dev.connState k.val = 2 ∧ Map.get? c.cmds cid.val = some m ∧ m.done = false) ∧
    (∃ (s : State) (k : Fin 32768) (c : StoConn) (sl : Fin 8192), s.dev.running = true ∧ s.dev.conn? k.val = some c ∧ c.target = false ∧
      s.dev.connState k.val = 2 ∧ Map.get? s.dev.slc.walks sl.val = none) ∧
    (∃ (s : State) (k : Fin 32768) (c : StoConn) (sl : Fin 8192) (w : _), s.dev.running = true ∧ s.dev.conn? k.val = some c ∧ c.target =
      false ∧ s.dev.connState k.val = 2 ∧ Map.get? s.dev.slc.walks sl.val = some w ∧ w.step = 5 ∧ s.dev.stoBusy sl.val = [k.val]) :=
  ⟨⟨((((((live.upFn0.onDev (fun d => d.setSlice 5 1)).withQ 1 5 3 [0, 0, 0x80000040, 0]).withQ 0 5 3 [0, 0, 0x20030040, 0])).onDev (fun d
     => { d.setReg (Reg.RNG_QSTATE0 0 0) 0x00000009 with rng := { d.rng with fetchTo := [(0, 9)] } })).onDev (fun d =>
     { d.setFld (Reg.STO_CONN_STATEk 9) 29 3 2 with sto := { conns := [(9, ⟨false, [5, 0x00040003], [], 0, 128, 0, false⟩)], namespaces := [(7, [5, 1, 0, 0x00040009, 0])] } })),
     9, _, 0 :: 1 :: List.replicate 14 0, 0, _, 7, by decide +kernel, rfl, by decide +kernel, by decide +kernel, by decide +kernel,
     by decide +kernel, by decide +kernel, by decide +kernel, by decide +kernel, by decide +kernel, rfl, by decide +kernel⟩,
   ⟨(live.onDev (fun d =>
     { d.setFld (Reg.STO_CONN_STATEk 9) 29 3 2 with sto := { d.sto with conns := [(9, ⟨false, [5, 0x00040003], [(255, ⟨[], 7, 0, 0, [], [], 0, true, [], 0, none, false⟩)], 0, 128, 0, false⟩)] } })),
     9, 255, _, _, [0, 0, 0, 255], by decide +kernel, rfl, by decide +kernel, by decide +kernel, rfl, by decide +kernel⟩,
   ⟨(live.onDev (fun d =>
     { d.setFld (Reg.STO_CONN_STATEk 9) 29 3 2 with sto := { d.sto with conns := [(9, ⟨false, [5, 0x00040003], [(255, ⟨[2], 7, 0, 0, [(0x1000, 4)], [0, 0, 0, 0], 0, true, [], 2, none, false⟩)], 0, 128, 4, false⟩)] } })),
     9, 255, _, _, 2, [7, 8], by decide +kernel, rfl, by decide +kernel, by decide +kernel, rfl, by decide +kernel⟩,
   ⟨live.onDev (fun d =>
     { d.setFld (Reg.STO_CONN_STATEk 9) 29 3 2 with sto := { d.sto with conns := [(9, ⟨false, [5, 0x00040003], [(255, ⟨[2], 7, 0, 0, [(0x1000, 4)], [0, 0, 0, 0], 0, true, [], 2, none, false⟩)], 0, 128, 4, false⟩)] } }),
     9, 255, _, _, by decide +kernel, rfl, by decide +kernel, by decide +kernel, rfl, by decide +kernel⟩,
   ⟨live.onDev (fun d =>
     { d.setFld (Reg.STO_CONN_STATEk 9) 29 3 2 with sto := { d.sto with conns := [(4, ⟨true, [5], [], 0, 128, 4, false⟩), (9, ⟨false, [5, 0x00040003], [(255, ⟨[1], 7, 0, 0, [(0x1000, 4)], [0, 0, 0, 0], 3, true, [], 2, none, false⟩)], 0, 128, 4, false⟩)] } }),
     9, 255, _, _, 2, 2, by decide +kernel, rfl, by decide +kernel, by decide +kernel, rfl, by decide +kernel⟩,
   ⟨live.onDev (fun d =>
     { d.setFld (Reg.STO_CONN_STATEk 9) 29 3 2 with sto := { d.sto with conns := [(9, ⟨false, [5, 0x00040003], [], 0, 128, 4, false⟩)] } }),
     9, 255, _, by decide +kernel, rfl, by decide +kernel⟩,
   ⟨live.onDev (fun d =>
     { d.setFld (Reg.STO_CONN_STATEk 9) 29 3 2 with sto := { d.sto with conns := [(9, ⟨false, [5, 0x00040003], [(255, ⟨[2], 7, 0, 0, [(0x1000, 4)], [0, 0, 0, 0], 0, true, [], 2, none, false⟩)], 0, 128, 4, false⟩)] } }),
     9, 255, _, _, by decide +kernel, rfl, by decide +kernel, by decide +kernel, rfl, by decide +kernel⟩,
   ⟨live.onDev (fun d =>
     { d.setFld (Reg.STO_CONN_STATEk 9) 29 3 2 with sto := { d.sto with conns := [(9, ⟨false, [5, 0x00040003], [], 0, 128, 4, false⟩)] } }),
     9, _, 5, by decide +kernel, rfl, by decide +kernel⟩,
   ⟨(live.onDev (fun d =>
     { d.setFld (Reg.STO_CONN_STATEk 9) 29 3 2 with slc := { d.slc with walks := [(5, ⟨5, [], []⟩)] }, sto := { d.sto with conns := [(9, ⟨false, [5, 0x00040003], [(255, ⟨[2], 7, 0, 0, [(0x1000, 4)], [0, 0, 0, 0], 0, true, [], 2, none, false⟩)], 0, 128, 4, false⟩)] } })),
     9, _, 5, _, by decide +kernel, rfl, by decide +kernel, by decide +kernel, rfl, by decide +kernel⟩⟩

/-- The hypotheses of `Obligations.SchedulerActs` (SchedulerQueuesAndGrants) are met: each clause. -/
theorem test_witness_SchedulerQueuesAndGrants :
    (∃ (s : State) (f : _) (g : _) (n : _), s.dev.running = true ∧ s.dev.frame? f = some g ∧ g.place = .toNode n ∧ s.dev.needsCipher g =
      false ∧ g.edit = none ∧ s.dev.attached n = false) ∧
    (∃ (s : State) (f : _) (g : _) (n : _), s.dev.running = true ∧ s.dev.frame? f = some g ∧ g.place = .toNode n ∧ s.dev.needsCipher g =
      false ∧ g.edit = none ∧ s.dev.attached n = true ∧ s.dev.flt.failed = [] ∧ g.dest = none ∧ s.dev.backlog n + g.len ≤ (s.dev.fld
      (Reg.SCH_NCFG3 n) 8 12 + 1) * 4096) ∧
    (∃ (s : State) (f : _) (g : _), s.dev.running = true ∧ s.dev.frame? f = some g ∧ (∀ n, g.place ≠ .toNode n)) ∧
    (∃ (s : State) (p : Fin 22), s.dev.running = true ∧ p.val < 16 ∧ s.dev.portPresent p.val = false) ∧
    (∃ (s : State) (p : Fin 22) (u : Dev), s.dev.running = true ∧ p.val < 16 ∧ s.dev.portPresent p.val = true ∧ s.dev.bit
      (Reg.MAC_PORTp_CTRL p.val) 30 = false ∧ Map.get? s.dev.mac.cur p.val = none ∧ Map.get? s.dev.mac.paused p.val = none ∧
      s.dev.startNext p.val (s.dev.mayStart p.val) = (u, true)) ∧
    (∃ (s : State) (u : _) (f : _) (tc : _) (g : _), s.dev.running = true ∧ s.dev.grantTcs 16 tcOrder = (u, some (f, tc)) ∧ u.frame? f =
      some g ∧ g.dest = none) ∧
    (∃ (s : State) (u : _) (f : _) (tc : _) (g : _) (x : _), s.dev.running = true ∧ s.dev.grantTcs 16 tcOrder = (u, some (f, tc)) ∧
      u.frame? f = some g ∧ g.dest = some x) ∧
    (∃ (s : State) (u : _) (f : _) (tc : _) (g : _), s.dev.running = true ∧ s.dev.grantTcs 17 tcOrder = (u, some (f, tc)) ∧ u.frame? f =
      some g) ∧
    (∃ (s : State) (t : Fin 4) (u : _) (f : _) (g : _), s.dev.running = true ∧ s.dev.trlHead t.val = some (f, g) ∧ 4 ≤ s.dev.trlLink t.val
      ∧ s.dev.needsCipher g = false ∧ s.dev.offer .portGrant f g.cls (s.dev.unitCost 1 (g.len + 4)) none false = (true, u)) ∧
    (∃ (s : State), s.dev.running = true ∧ s.dev.sch.former = [] ∧ s.dev.listedNodes = []) ∧
    (∃ (s : State) (n : _), s.dev.running = true ∧ s.dev.sch.former = [] ∧ s.dev.listedNodes = [n]) ∧
    (∃ (s : State) (p : Fin 256) (f : _) (fs : _), s.dev.running = true ∧ s.dev.gau.firings = f :: fs ∧ f.action = 1 ∧ f.target = p.val ∧
      p.val < 16 ∧ s.dev.portPresent p.val = true ∧ s.dev.portA p.val = p.val ∧ f.arg.toNat < s.dev.gateLen p.val) ∧
    (∃ (s : State) (p : Fin 256) (f : _) (fs : _), s.dev.running = true ∧ s.dev.gau.firings = f :: fs ∧ f.action = 1 ∧ f.target = p.val ∧
      p.val < 16 ∧ s.dev.portPresent p.val = false) :=
  ⟨⟨(frameState (frameAt (.toNode 3) 0x800)).onDev (fun d => d.setBit (Reg.SCH_NCFG3 3) 31 false), 0, _, _, by decide +kernel, rfl, rfl,
     by decide +kernel⟩,
   ⟨(frameState (frameAt (.toNode 3) 0x800)), 0, _, _, by decide +kernel, rfl, rfl, by decide +kernel⟩,
   ⟨frameState (frameAt .press 0x800), 0, _, by decide +kernel, rfl, by intro n h; cases h⟩,
   ⟨live.onDev (fun d => d.setReg (Reg.MAC_PGg_MODE 0) 0xA0000000), 3, by decide +kernel⟩,
   ⟨live.onDev (fun d => (d.newFrame (frameAt (.toNode 3) 0x800)).2.enqueue 0 (frameAt (.toNode 3) 0x800) 3), 3, _, by decide +kernel,
     by decide +kernel, by decide +kernel, by decide +kernel, by decide +kernel, by decide +kernel, rfl⟩,
   ⟨live.onDev (fun d => (d.newFrame (frameAt (.toNode 16) 0x800)).2.enqueue 0 (frameAt (.toNode 16) 0x800) 16), _, _, _, _,
     by decide +kernel, rfl, rfl, by decide +kernel⟩,
   ⟨(live.onDev (fun d => (d.newFrame ({ frameAt (.toNode 16) 0x800 with dest := some ⟨5, 0, 0, 0, 0⟩ })).2.enqueue 0
     ({ frameAt (.toNode 16) 0x800 with dest := some ⟨5, 0, 0, 0, 0⟩ }) 16)), _, _, _, _, _, by decide +kernel, rfl, rfl, rfl⟩,
   ⟨live.onDev (fun d => (d.newFrame (frameAt (.toNode 17) 0x800)).2.enqueue 0 (frameAt (.toNode 17) 0x800) 17), _, _, _, _,
     by decide +kernel, rfl, rfl⟩,
   ⟨((frameState (frameAt (.trlPort 2) 0x800)).onDev (fun d => d.setFld (Reg.TRL_PORTt_STATUS 2) 29 3 4)), 2, _, _, _, by decide +kernel,
     rfl, by decide +kernel, by decide +kernel, rfl⟩,
   ⟨live, by decide +kernel⟩,
   ⟨live.onDev (fun d => d.setReg (Reg.SCH_NCFG0 9) 5), _, by decide +kernel, by decide +kernel, rfl⟩,
   ⟨live.onDev (fun d =>
     { (d.setFld (Reg.SCH_PORTp_GCTRL 3) 0 7 64).setReg (Reg.SCH_GATE_ACTIVE 3 63) 0x281 with gau := { d.gau with firings := [⟨1, 3, 63, 0, 0, false, false, 0⟩] } }),
     3, _, _, by decide +kernel, rfl, by decide +kernel⟩,
   ⟨live.onDev (fun d =>
     { (d.setReg (Reg.MAC_PGg_MODE 0) 0xA0000000) with gau := { d.gau with firings := [⟨1, 3, 63, 0, 0, false, false, 0⟩] } }), 3, _, _,
     by decide +kernel, rfl, by decide +kernel⟩⟩

/-- The hypotheses of `Obligations.SchedulerActs` (SchedulerAndPortOpcodes) are met: each clause. -/
theorem test_witness_SchedulerAndPortOpcodes :
    (∃ (s : State) (m : Fin 16) (tag : Fin 4096) (gen : Fin 16) (c : Cmd) (t : Dev) (r : Res), s.dev.running = true ∧ s.dev.started m.val
      tag.val gen.val 0x0500 c ∧ s.dev.nodeFree (c.pf 1 0 16) = false ∧ s.dev.stageStrobe c (2 ^ 14) [(Reg.SCH_NCFG4 (c.pf 1 0 16),
      ownerWord c), (Reg.SCH_NCFG0 (c.pf 1 0 16), c.p 2), (Reg.SCH_NCFG1 (c.pf 1 0 16), c.p 3), (Reg.SCH_NCFG2 (c.pf 1 0 16), c.p 4),
      (Reg.SCH_NCFG3 (c.pf 1 0 16), Word.setFld (s.dev.staged (Reg.SCH_NCFG3 (c.pf 1 0 16))) 8 12 (c.pf 5 0 12))] (Res.ok []) = (t, some
      r)) ∧
    (∃ (s : State) (m : Fin 16) (tag : Fin 4096) (gen : Fin 16) (c : Cmd) (t : Dev) (r : Res), s.dev.running = true ∧ s.dev.started m.val
      tag.val gen.val 0x0501 c ∧ Word.bit (c.p 1) 31 = false ∧ s.dev.nodeFree (c.pf 1 0 16) = false ∧ c.slice? = none ∧ c.pf 2 0 8 < 16 ∧
      s.dev.stageStrobe c (2 ^ 14) [(Reg.SCH_NCFG4 (c.pf 1 0 16), 0), (Reg.SCH_NCFG3 (c.pf 1 0 16), Word.setBit (Word.setFld (Word.setFld
      (Word.setBit (s.dev.staged (Reg.SCH_NCFG3 (c.pf 1 0 16))) 30 (Word.bit (c.p 1) 30)) 0 8 (c.pf 3 0 8)) 25 5 (c.pf 2 0 8)) 31 true)]
      (Res.ok []) = (t, some r)) ∧
    (∃ (s : State) (m : Fin 16) (tag : Fin 4096) (gen : Fin 16) (c : Cmd) (t : Dev) (r : Res), s.dev.running = true ∧ s.dev.started m.val
      tag.val gen.val 0x0502 c ∧ (s.dev.stageStrobe c (2 ^ 15) ((Reg.SCH_PORTp_GCTRL (c.pf 0 0 4), wd (c.pf 0 8 2 * 256 + c.pf 0 16 7)) ::
      (List.range (c.pf 0 16 7)).map (fun e => (Reg.SCH_GATE_SHADOW (c.pf 0 0 4) e, c.p (e + 1)))) (Res.ok []) = (t, some r))) ∧
    (∃ (s : State) (m : Fin 16) (tag : Fin 4096) (gen : Fin 16) (c : Cmd) (t : Dev), s.dev.running = true ∧ s.dev.started m.val tag.val
      gen.val 0x0503 c ∧ s.dev.showNode (c.pf 1 0 16) = t) ∧
    (∃ (s : State) (m : Fin 16) (tag : Fin 4096) (gen : Fin 16) (c : Cmd) (t : Dev) (r : Res), s.dev.running = true ∧ s.dev.started m.val
      tag.val gen.val 0x0504 c ∧ (s.dev.stageStrobe c (2 ^ 16) ((Reg.MAC_PGg_MODE (c.pf 0 0 1), wd (c.pf 1 27 5 * 2 ^ 27)) :: (List.range
      (8 / modeLanes (c.pf 1 29 3))).map (fun j => (Reg.MAC_PORTp_CTRL (8 * c.pf 0 0 1 + j * modeLanes (c.pf 1 29 3)), s.dev.modeCtrl c (8
      * c.pf 0 0 1 + j * modeLanes (c.pf 1 29 3)) j))) (Res.ok []) = (t, some r))) ∧
    (∃ (s : State) (m : Fin 16) (tag : Fin 4096) (gen : Fin 16) (c : Cmd), s.dev.running = true ∧ s.dev.started m.val tag.val gen.val
      0x0505 c ∧ s.dev.portPresent (c.pf 0 0 4) = false) ∧
    (∃ (s : State) (m : Fin 16) (tag : Fin 4096) (gen : Fin 16) (c : Cmd), s.dev.running = true ∧ s.dev.started m.val tag.val gen.val
      0x0505 c ∧ s.dev.portPresent (c.pf 0 0 4) = true ∧ s.dev.pgMode (c.pf 0 0 4 / 8) = 0) ∧
    (∃ (s : State) (m : Fin 16) (tag : Fin 4096) (gen : Fin 16) (c : Cmd), s.dev.running = true ∧ s.dev.started m.val tag.val gen.val
      0x0506 c ∧ Word.bit (c.p 0) 31 = false ∧ s.dev.portPresent (c.pf 0 0 4) = true) ∧
    (∃ (s : State) (m : Fin 16) (tag : Fin 4096) (gen : Fin 16) (c : Cmd), s.dev.running = true ∧ s.dev.started m.val tag.val gen.val
      0x0506 c ∧ Word.bit (c.p 0) 31 = true ∧ s.dev.portPresent (c.pf 0 0 4) = true) ∧
    (∃ (s : State) (m : Fin 16) (tag : Fin 4096) (gen : Fin 16) (c : Cmd) (t : Dev) (r : Res), s.dev.running = true ∧ s.dev.started m.val
      tag.val gen.val 0x0806 c ∧ s.dev.stageStrobe c (2 ^ 16) [(Reg.MAC_PAIRk (c.pf 0 0 3), c.p 1)] (Res.ok []) = (t, some r)) :=
  ⟨⟨cmdState 0x0500 0xFFFF [0, 5, 10, 20, 0, 30], 0, 1, 0, _, _, _, by decide +kernel, ⟨rfl, by decide +kernel, by decide +kernel⟩,
     by decide +kernel, rfl⟩,
   ⟨cmdState 0x0501 0xFFFF [0, 5, 3, 9], 0, 1, 0, _, _, _, by decide +kernel, ⟨rfl, by decide +kernel, by decide +kernel⟩,
     by decide +kernel, by decide +kernel, by decide +kernel, by decide +kernel, rfl⟩,
   ⟨cmdState 0x0502 0xFFFF [0x40103, 1, 2, 3, 4], 0, 1, 0, _, _, _, by decide +kernel, ⟨rfl, by decide +kernel, by decide +kernel⟩, rfl⟩,
   ⟨cmdState 0x0503 0xFFFF [0, 5], 0, 1, 0, _, _, by decide +kernel, ⟨rfl, by decide +kernel, by decide +kernel⟩, rfl⟩,
   ⟨cmdState 0x0504 0xFFFF [0, 0xB0000000, 1, 0, 0], 0, 1, 0, _, _, _, by decide +kernel, ⟨rfl, by decide +kernel, by decide +kernel⟩,
     rfl⟩,
   ⟨(cmdState 0x0505 0xFFFF [3]).onDev (fun d => d.setReg (Reg.MAC_PGg_MODE 0) 0xA0000000), 0, 1, 0, _, by decide +kernel, ⟨rfl,
     by decide +kernel, by decide +kernel⟩, by decide +kernel⟩,
   ⟨(cmdState 0x0505 0xFFFF [3]).onDev (fun d => ((d.setReg (Reg.MAC_PGg_MODE 0) 0).setReg (Reg.MAC_LANEl_FEC 3 0) 7)), 0, 1, 0, _,
     by decide +kernel, ⟨rfl, by decide +kernel, by decide +kernel⟩, by decide +kernel⟩,
   ⟨(cmdState 0x0506 0xFFFF [3]).onDev (fun d => d.setReg (Reg.MAC_PORTp_CNT 3 47) 9), 0, 1, 0, _, by decide +kernel, ⟨rfl,
     by decide +kernel, by decide +kernel⟩, by decide +kernel⟩,
   ⟨(cmdState 0x0506 0xFFFF [0x80000003]).onDev (fun d => (d.setReg (Reg.MAC_PORTp_CNT 3 47) 0x8000).setReg (Reg.MAC_PORTp_HALF 3)
     0x800000), 0, 1, 0, _, by decide +kernel, ⟨rfl, by decide +kernel, by decide +kernel⟩, by decide +kernel⟩,
   ⟨cmdState 0x0806 0xFFFF [7, 0x40000201, 0], 0, 1, 0, _, _, _, by decide +kernel, ⟨rfl, by decide +kernel, by decide +kernel⟩, rfl⟩⟩

/-- The hypotheses of `Obligations.PortsAct` (PortLinksTrainAndFail) are met: each clause. -/
theorem test_witness_PortLinksTrainAndFail :
    (∃ (s : State) (p : Fin 16) (i : _) (src : _) (dst : _), s.dev.running = true ∧ (i, src, dst) ∈ [(Instr.linkSignalDetect p, 1, 2),
      (.linkTrainingDone p, 2, 3), (.linkTrainingTimeout p, 2, 1), (.linkAligned p, 3, 4), (.linkLockLoss p false, 4, 1), (.linkLockLoss p
      true, 4, 1), (.remoteFaultReceived p, 4, 5), (.remoteFaultCleared p, 5, 4)] ∧ s.dev.macLink p.val ≠ src) ∧
    (∃ (s : State) (p : Fin 16) (i : _) (src : _) (dst : _), s.dev.running = true ∧ (i, src, dst) ∈ [(Instr.linkSignalDetect p, 1, 2),
      (.linkTrainingDone p, 2, 3), (.linkTrainingTimeout p, 2, 1), (.linkAligned p, 3, 4), (.linkLockLoss p false, 4, 1), (.linkLockLoss p
      true, 4, 1), (.remoteFaultReceived p, 4, 5), (.remoteFaultCleared p, 5, 4)] ∧ s.dev.macLink p.val = src ∧ s.dev.portPresent p.val =
      true ∧ s.dev.bit (Reg.MAC_PORTp_CTRL p.val) 31 = true) ∧
    (∃ (s : State) (p : Fin 16), s.dev.running = true ∧ s.dev.fld (Reg.MAC_PORTp_STATUS p.val) 26 2 ≠ 1) ∧
    (∃ (s : State) (p : Fin 16), s.dev.running = true ∧ s.dev.fld (Reg.MAC_PORTp_STATUS p.val) 26 2 = 1) ∧
    (∃ (s : State) (p : Fin 16), s.dev.running = true ∧ s.dev.fld (Reg.MAC_PORTp_STATUS p.val) 26 2 = 1 ∧ Map.getD s.dev.mac.verifies
      p.val 0 < 3) ∧
    (∃ (s : State) (p : Fin 16), s.dev.running = true ∧ s.dev.fld (Reg.MAC_PORTp_STATUS p.val) 26 2 = 1 ∧ 3 ≤ Map.getD s.dev.mac.verifies
      p.val 0) :=
  ⟨⟨live.onDev (fun d => d.setFld (Reg.MAC_PORTp_STATUS 15) 29 3 2), 15, .linkSignalDetect 15, 1, 2, by decide +kernel, by simp,
     by decide +kernel⟩,
   ⟨live.onDev (fun d => (d.setBit (Reg.MAC_PORTp_CTRL 15) 31 true).setFld (Reg.MAC_PORTp_STATUS 15) 29 3 3), 15, .linkAligned 15, 3, 4,
     by decide +kernel, by simp, by decide +kernel⟩,
   ⟨live, 15, by decide +kernel⟩,
   ⟨live.onDev (fun d => d.setFld (Reg.MAC_PORTp_STATUS 15) 26 2 1), 15, by decide +kernel⟩,
   ⟨live.onDev (fun d => d.setFld (Reg.MAC_PORTp_STATUS 15) 26 2 1), 15, by decide +kernel⟩,
   ⟨live.onDev (fun d => { d.setFld (Reg.MAC_PORTp_STATUS 15) 26 2 1 with mac := { d.mac with verifies := [(15, 3)] } }), 15,
     by decide +kernel⟩⟩

/-- The hypotheses of `Obligations.PortsAct` (FramesAtThePorts) are met: each clause. -/
theorem test_witness_FramesAtThePorts :
    (∃ (s : State) (p : Fin 16), s.dev.running = true ∧ s.dev.macLink p.val ≠ 4) ∧
    (∃ (s : State) (p : Fin 16) (bs : List Byte) (fin : _) (x : _), s.dev.running = true ∧ s.dev.macLink p.val = 4 ∧ s.dev.portPresent
      p.val = true ∧ bs.length ≤ 192 ∧ s.dev.rxError p.val bs fin = some x) ∧
    (∃ (s : State) (p : Fin 16) (bs : List Byte) (fin : _), s.dev.running = true ∧ s.dev.macLink p.val = 4 ∧ s.dev.portPresent p.val =
      true ∧ s.dev.rxError p.val bs fin = none ∧ s.dev.pairAt p.val = none ∧ s.dev.bit (Reg.CRY_SECYy_CTRL p.val) 31 = false) ∧
    (∃ (s : State) (p : Fin 16), s.dev.running = true ∧ Map.get? s.dev.mac.cur p.val = none) ∧
    (∃ (s : State) (p : Fin 16) (f : _) (tc : _) (g : _), s.dev.running = true ∧ Map.get? s.dev.mac.cur p.val = some (f, tc) ∧
      s.dev.frame? f = some g ∧ s.dev.macLink p.val = 4 ∧ g.whole = true ∧ g.item = none) ∧
    (∃ (s : State) (f : _) (g : _), s.dev.running = true ∧ s.dev.frame? f = some g ∧ g.place ≠ .offload) ∧
    (∃ (s : State) (f : _) (g : _), s.dev.running = true ∧ s.dev.frame? f = some g ∧ g.place = .offload ∧ Word.fld (wordAt g.offload 0) 23
      3 = 0) ∧
    (∃ (s : State) (f : _) (g : _), s.dev.running = true ∧ s.dev.frame? f = some g ∧ g.place = .offload ∧ Word.fld (wordAt g.offload 0) 23
      3 = 4 ∧ ((s.dev.txHeaders g).any (fun h => decide (h.2.l3type = 1) && h.2.l4.isSome) = true)) ∧
    (∃ (s : State) (f : _) (g : _), s.dev.running = true ∧ s.dev.frame? f = some g ∧ g.place = .offload ∧ Word.bit (wordAt g.offload 0) 23
      = true ∧ Word.fld (wordAt g.offload 1) 16 16 = 0) ∧
    (∃ (s : State) (i : Nat), s.dev.running = true ∧ s.dev.mac.lro[i]? = none) ∧
    (∃ (s : State) (i : Nat) (c : LroCtx), s.dev.running = true ∧ s.dev.mac.lro[i]? = some c ∧ c.bytes.length = c.first.bytes.length) ∧
    (∃ (s : State) (bs : List Byte), s.dev.running = true ∧ s.dev.bit Reg.MAC_MGT_CTRL 31 = true ∧ 60 ≤ bs.length ∧ bs.length ≤ 1518 ∧
      s.dev.bit (Reg.MAC_MGT_RXSLOT (512 * s.dev.fld Reg.MAC_MGT_RX_HEAD 0 5)) 31 = true) ∧
    (∃ (s : State), s.dev.running = true ∧ s.dev.mac.mgtHead = s.dev.fld Reg.MAC_MGT_TX_TAIL 0 16) ∧
    (∃ (s : State), s.dev.running = true ∧ s.dev.mac.mgtHead ≠ s.dev.fld Reg.MAC_MGT_TX_TAIL 0 16 ∧ s.dev.bit (Reg.MAC_MGT_TXSLOT (512 *
      (s.dev.mac.mgtHead % 32))) 31 = true ∧ s.dev.bit Reg.MAC_MGT_CTRL 31 = true) :=
  ⟨⟨live, 3, by decide +kernel⟩,
   ⟨live.onDev (fun d => ((d.setFld (Reg.MAC_PORTp_STATUS 3) 29 3 4).setReg (Reg.MAC_PORTp_CNT 3 12) 0xFFFFFFFF).setReg (Reg.MAC_PORTp_CNT
     3 13) 0xFFFF), 3, [1, 2], .good, _, by decide +kernel, by decide +kernel, by decide +kernel, by decide +kernel, rfl⟩,
   ⟨live.onDev (fun d => (d.setFld (Reg.MAC_PORTp_STATUS 3) 29 3 4)), 3, (List.replicate 60 2), .good, by decide +kernel⟩,
   ⟨live, 3, by decide +kernel⟩,
   ⟨(frameState (frameAt (.sending 3) 0x800)).onDev (fun d =>
     { d.setFld (Reg.MAC_PORTp_STATUS 3) 29 3 4 with mac := { d.mac with cur := [(3, (0, 5))] } }), 3, _, _, _, by decide +kernel, rfl,
     rfl, by decide +kernel⟩,
   ⟨frameState (frameAt .press 0x800), 0, _, by decide +kernel, rfl, by decide +kernel⟩,
   ⟨frameState { frameAt .offload 0x800 with offload := [0, 0, 0, 0] }, 0, _, by decide +kernel, rfl, by decide +kernel⟩,
   ⟨frameState
     { frameAt .offload 0x800 with bytes := List.replicate 12 0 ++ [8, 0, 0x45, 0, 0, 40, 0, 0, 0, 0, 64, 17, 0, 0, 1, 2, 3, 4, 5, 6, 7, 8] ++ [0, 1, 0, 2, 0, 20, 0, 0] ++ List.replicate 12 9, offload := [0x2000000, 0] },
     0, _, by decide +kernel, rfl, by decide +kernel⟩,
   ⟨frameState { frameAt .offload 0x800 with offload := [0x800000, 0] }, 0, _, by decide +kernel, rfl, by decide +kernel⟩,
   ⟨live, 0, by decide +kernel⟩,
   ⟨(live.onDev (fun d =>
     { d with mac := { d.mac with lro := [⟨5, 3, [1], [4, 5], 0, 0, 0, 0, 0, ⟨5, 0, 3, [4, 5], 0, none, 0, none, 0⟩, 0, 0⟩] } })), 0, _,
     by decide +kernel, rfl, by decide +kernel⟩,
   ⟨live.onDev (fun d => ((d.setBit Reg.MAC_MGT_CTRL 31 true).setReg Reg.MAC_MGT_RX_HEAD 31).setReg (Reg.MAC_MGT_RXSLOT (512 * 31))
     0x80000000), (List.replicate 1518 7), by decide +kernel⟩,
   ⟨live, by decide +kernel⟩,
   ⟨live.onDev (fun d =>
     { ((d.setBit Reg.MAC_MGT_CTRL 31 true).setReg (Reg.MAC_MGT_TXSLOT (512 * 31)) 0x80000040) with mac := { d.mac with mgtHead := 65535 } }),
     by decide +kernel⟩⟩

/-- The hypotheses of `Obligations.SampledValuesAct` (SampledValueFrames) are met: each clause. -/
theorem test_witness_SampledValueFrames :
    (∃ (s : State) (f : Nat) (g : Frame), s.dev.running = true ∧ s.dev.frame? f = some g ∧ g.place ≠ .pbu) ∧
    (∃ (s : State) (f : Nat) (g : Frame), s.dev.running = true ∧ s.dev.frame? f = some g ∧ g.place = .pbu ∧ (s.dev.walk g 0).etf = 0x88BA
      ∧ s.dev.pbuPdu g = none) ∧
    (∃ (s : State) (f : Nat) (g : Frame) (app : _) (pdu : _) (n : _) (a : _) (as : _), s.dev.running = true ∧ s.dev.frame? f = some g ∧
      g.place = .pbu ∧ (s.dev.walk g 0).etf = 0x88BA ∧ s.dev.pbuPdu g = some (app, pdu) ∧ savPdu pdu = some (n, a :: as) ∧ s.dev.svMatch g
      app a = none ∧ s.dev.bit Reg.PBU_CTRL 31 = false) ∧
    (∃ (s : State) (f : Nat) (g : Frame) (app : _) (pdu : _) (a : _) (i : _), s.dev.running = true ∧ s.dev.frame? f = some g ∧ g.place =
      .pbu ∧ (s.dev.walk g 0).etf = 0x88BA ∧ s.dev.pbuPdu g = some (app, pdu) ∧ savPdu pdu = some (1, [a]) ∧ s.dev.svMatch g app a = some
      i ∧ s.dev.svAsdu i = 1 ∧ a.data.length = 8 * s.dev.svChannels i ∧ a.cnt < s.dev.svRate i ∧ s.dev.reg (Reg.PBU_SV i 4) = 0 ∧
      s.dev.svRefs i = [] ∧ s.dev.pbu.groups = [] ∧ (s.dev.rows i).length < 32 ∧ s.dev.rowOf i (sampleSecond (s.dev.svRate i) a.cnt
      g.stamp) a.cnt = none) :=
  ⟨⟨frameState (frameAt .press 0x88BA), 0, _, by decide +kernel, rfl, by decide +kernel⟩,
   ⟨frameState (svf [1]), 0, _, by decide +kernel, rfl, by decide +kernel⟩,
   ⟨frameState (svf sv1), 0, _, _, _, _, _, _, by decide +kernel, rfl, by decide +kernel, by decide +kernel, rfl, rfl, by decide +kernel⟩,
   ⟨(frameState (svf sv1)).onDev (svEntry 1023), 0, _, _, _, _, _, by decide +kernel, rfl, by decide +kernel, by decide +kernel, rfl, rfl,
     rfl, by decide +kernel⟩⟩

/-- The hypotheses of `Obligations.SampledValuesAct` (SampleSetsCloseAndComplete) are met: each clause. -/
theorem test_witness_SampleSetsCloseAndComplete :
    (∃ (s : State) (g : Fin 256) (x : _) (fs : _), s.dev.running = true ∧ s.dev.gau.firings = x :: fs ∧ x.action = 2 ∧ x.target = g.val ∧
      s.dev.grpValid g.val = true ∧ x.ref ≠ s.dev.fld (Reg.PBU_GRP g.val 0) 29 2) ∧
    (∃ (s : State) (g : Fin 256) (x : _) (fs : _) (sec : _) (cnt : _) (w : _), s.dev.running = true ∧ s.dev.gau.firings = x :: fs ∧
      x.action = 2 ∧ x.target = g.val ∧ s.dev.grpValid g.val = true ∧ x.ref = s.dev.fld (Reg.PBU_GRP g.val 0) 29 2 ∧ (s.dev.aligner
      g.val).waiting = none ∧ keyAt (s.dev.svRate ((s.dev.grpStreams g.val).headD 0)) s.dev.time = (sec, cnt) ∧ w = ⟨s.dev.time, x.cycle,
      x.quality, x.stepped, x.late, decide ((s.dev.aligner g.val).prev = some (sec, cnt)), sec, cnt, ((s.dev.aligner g.val).seq + 1) %
      65536⟩ ∧ s.dev.setMissing g.val w ≠ 0 ∧ s.dev.fld (Reg.PBU_GRP g.val 1) 16 14 ≠ 0) ∧
    (∃ (s : State) (g : Fin 256), s.dev.running = true ∧ (s.dev.aligner g.val).waiting = none) ∧
    (∃ (s : State) (g : Fin 256) (w : _), s.dev.running = true ∧ (s.dev.aligner g.val).waiting = some w ∧ s.dev.setBlocked g.val = true) ∧
    (∃ (s : State) (g : Fin 256) (w : _), s.dev.running = true ∧ (s.dev.aligner g.val).waiting = some w ∧ s.dev.setBlocked g.val = false ∧
      s.dev.fld (Reg.PBU_GRP g.val 4) 0 17 ≠ 0) :=
  ⟨⟨live.onDev (fun d =>
     { d.setReg (Reg.PBU_GRP 255 0) 0xE0000000 with gau := { d.gau with firings := [⟨2, 255, 0, 0, 0, false, false, 2⟩] } }), 255, _, _,
     by decide +kernel, rfl, by decide +kernel⟩,
   ⟨live.onDev (fun d =>
     { (svEntry 0 (d.setReg (Reg.PBU_GRP 255 0) 0xE0000000)).setFld (Reg.PBU_GRP 255 1) 16 14 5 with gau := { d.gau with firings := [⟨2, 255, 0, 7, 1, true, false, 3⟩] } }),
     255, _, _, _, _, _, by decide +kernel, rfl, by decide +kernel, by decide +kernel, by decide +kernel, by decide +kernel,
     by decide +kernel, rfl, rfl, by decide +kernel⟩,
   ⟨live, 255, by decide +kernel⟩,
   ⟨live.onDev (fun d => d.setAligner 255 (fun a => { a with waiting := some ⟨0, 7, 1, true, false, false, 0, 0, 1⟩ })), 255, _,
     by decide +kernel, rfl, by decide +kernel⟩,
   ⟨((live.upFn0.onDev (fun d => d.setSlice 5 1)).withQ 1 5 0 ringCfg).onDev (fun d => ((((svEntry 0 d).setReg (Reg.PBU_GRP 255 0)
     0xE0000005).setReg (Reg.PBU_GRP 255 2) 0x1000).setReg (Reg.PBU_GRP 255 4) 16).setAligner 255 (fun a =>
     { a with waiting := some ⟨0, 7, 1, true, false, false, 0, 0, 17⟩ })), 255, _, by decide +kernel, rfl, by decide +kernel⟩⟩

/-- The hypotheses of `Obligations.GooseAndProcessBusRowsAct` (GooseSubscriptionsAndPublications) are met: each clause. -/
theorem test_witness_GooseSubscriptionsAndPublications :
    (∃ (s : State) (f : _) (g : _), s.dev.running = true ∧ s.dev.frame? f = some g ∧ g.place = .pbu ∧ (s.dev.walk g 0).etf = 0x88B8 ∧
      s.dev.pbuPdu g = none) ∧
    (∃ (s : State) (f : _) (g : _) (app : _) (pdu : _) (o : _), s.dev.running = true ∧ s.dev.frame? f = some g ∧ g.place = .pbu ∧
      (s.dev.walk g 0).etf = 0x88B8 ∧ s.dev.pbuPdu g = some (app, pdu) ∧ goosePdu pdu = some o ∧ (s.dev.subLive.find? (fun i => decide
      (s.dev.subKey i = (g.bytes.take 6, app, o.ref))) = none) ∧ s.dev.bit Reg.PBU_CTRL 30 = false) ∧
    (∃ (s : State) (f : _) (g : _) (app : _) (pdu : _) (o : _) (i : _), s.dev.running = true ∧ s.dev.frame? f = some g ∧ g.place = .pbu ∧
      (s.dev.walk g 0).etf = 0x88B8 ∧ s.dev.pbuPdu g = some (app, pdu) ∧ goosePdu pdu = some o ∧ (s.dev.subLive.find? (fun i => decide
      (s.dev.subKey i = (g.bytes.take 6, app, o.ref))) = some i) ∧ (s.dev.reg (Reg.PBU_SUB i 8)).toNat = o.rev ∧ o.sim = false ∧ s.dev.fld
      (Reg.PBU_SUB i 0) 26 3 = 0 ∧ (s.dev.gsub i).state = 1 ∧ (s.dev.gsub i).st ≠ o.st) ∧
    (∃ (s : State) (i : Fin 4096), s.dev.running = true ∧ (s.dev.gsub i.val).state ≠ 1) ∧
    (∃ (s : State) (i : Fin 4096), s.dev.running = true ∧ (s.dev.gsub i.val).state = 1) ∧
    (∃ (s : State) (i : Fin 256) (x : _) (fs : _), s.dev.running = true ∧ (s.dev.pubValid i.val = false ∨ (s.dev.gpub i.val).data = []) ∧
      s.dev.gau.firings = x :: fs ∧ x.action = 3 ∧ x.target = i.val) ∧
    (∃ (s : State) (i : Fin 256), s.dev.running = true ∧ (s.dev.pubValid i.val = false ∨ (s.dev.gpub i.val).data = [])) ∧
    (∃ (s : State) (i : Fin 256) (bs : List Byte) (sq : _) (x : _) (fs : _), s.dev.running = true ∧ s.dev.pubValid i.val = true ∧
      (s.dev.gpub i.val).data ≠ [] ∧ sq = (if (s.dev.gpub i.val).sq = 0xFFFFFFFF then 1 else (s.dev.gpub i.val).sq + 1) ∧ ((s.dev.setGpub
      i.val (fun p => { p with sq := sq })).pubFrame i.val = some bs) ∧ s.dev.gau.firings = x :: fs ∧ x.action = 3 ∧ x.target = i.val) ∧
    (∃ (s : State) (i : Fin 256) (bs : List Byte) (sq : _), s.dev.running = true ∧ s.dev.pubValid i.val = true ∧ (s.dev.gpub i.val).data ≠
      [] ∧ sq = (if (s.dev.gpub i.val).sq = 0xFFFFFFFF then 1 else (s.dev.gpub i.val).sq + 1) ∧ ((s.dev.setGpub i.val (fun p =>
      { p with sq := sq })).pubFrame i.val = some bs) ∧ s.dev.fld (Reg.PBU_PUB i.val 3) 0 16 ≠ 0) ∧
    (∃ (s : State) (i : Fin 256) (bs : List Byte) (sq : _), s.dev.running = true ∧ s.dev.pubValid i.val = true ∧ (s.dev.gpub i.val).data ≠
      [] ∧ sq = (if (s.dev.gpub i.val).sq = 0xFFFFFFFF then 1 else (s.dev.gpub i.val).sq + 1) ∧ ((s.dev.setGpub i.val (fun p =>
      { p with sq := sq })).pubFrame i.val = some bs) ∧ (s.dev.gpub i.val).fast < s.dev.fld (Reg.PBU_PUB i.val 2) 0 4) ∧
    (∃ (s : State) (i : Fin 256), s.dev.running = true ∧ s.dev.fld (Reg.PBU_PUB i.val 2) 0 4 ≤ (s.dev.gpub i.val).fast) :=
  ⟨⟨frameState (gof [1]), 0, _, by decide +kernel, rfl, by decide +kernel⟩,
   ⟨frameState (gof go1), 0, _, _, _, _, by decide +kernel, rfl, by decide +kernel, by decide +kernel, rfl, rfl, by decide +kernel⟩,
   ⟨(frameState (gof go1)).onDev (fun d => (subEntry 4095 d).setGsub 4095 (fun g => { g with state := 1, st := 1, changes := 4 })), 0, _,
     _, _, _, _, by decide +kernel, rfl, by decide +kernel, by decide +kernel, rfl, rfl, rfl, by decide +kernel⟩,
   ⟨live, 4095, by decide +kernel⟩,
   ⟨live.onDev (fun d => (((subEntry 4095 d).setBit (Reg.PBU_SUB 4095 0) 27 true).setReg (Reg.PBU_SUB 4095 5) 0x050001FF).setGsub 4095
     (fun g => { g with state := 1, st := 1, changes := 4 })), 4095, by decide +kernel⟩,
   ⟨live.onDev (fun d => { d with gau := { d.gau with firings := [⟨3, 255, 0, 7, 1, true, false, 3⟩] } }), 255, _, _, by decide +kernel,
     by decide +kernel, rfl, by decide +kernel⟩,
   ⟨live.onDev (fun d => (pubEntry 255 d).setFld (Reg.PBU_PUB 255 3) 0 16 5), 255, by decide +kernel⟩,
   ⟨live.onDev (fun d =>
     { (pubEntry 255 d).setGpub 255 (fun p => { p with data := [0xAB, 3, 0x83, 1, 1], sq := 0xFFFFFFFF }) with gau := { d.gau with firings := [⟨3, 255, 0, 7, 1, true, false, 3⟩] } }),
     255, _, _, _, _, by decide +kernel, by decide +kernel, by decide +kernel, rfl, some_of (by decide +kernel), rfl, by decide +kernel⟩,
   ⟨live.onDev (fun d =>
     { ((pubEntry 255 d).setFld (Reg.PBU_PUB 255 3) 0 16 5).setGpub 255 (fun p => { p with data := [0xAB, 3, 0x83, 1, 1], sq := 8 }) with gau := { d.gau with firings := [⟨3, 255, 0, 7, 1, true, false, 3⟩] } }),
     255, _, _, by decide +kernel, by decide +kernel, by decide +kernel, rfl, some_of (by decide +kernel), by decide +kernel⟩,
   ⟨live.onDev (fun d =>
     { ((pubEntry 255 d).setFld (Reg.PBU_PUB 255 2) 0 4 3).setGpub 255 (fun p => { p with data := [0xAB, 3, 0x83, 1, 1], sq := 8, fast := 2 }) with gau := { d.gau with firings := [⟨3, 255, 0, 7, 1, true, false, 3⟩] } }),
     255, _, _, by decide +kernel, by decide +kernel, by decide +kernel, rfl, some_of (by decide +kernel), by decide +kernel⟩,
   ⟨live, 255, by decide +kernel⟩⟩

/-- The hypotheses of `Obligations.GooseAndProcessBusRowsAct` (ProcessBusEntryAccesses) are met: each clause. -/
theorem test_witness_ProcessBusEntryAccesses :
    (∃ (s : State) (v : Word) (tb : Nat), s.dev.running = true ∧ Word.fld v 24 2 = tb ∧ s.dev.entErr tb ≠ 0) ∧
    (∃ (s : State) (v : Word) (tb : Nat), s.dev.running = true ∧ Word.fld v 24 2 = tb ∧ s.dev.entErr tb = 0) ∧
    (∃ (s : State) (v : Word) (tb : Nat), s.dev.running = true ∧ Word.fld v 24 2 = tb ∧ s.dev.entErr tb = 0 ∧ s.dev.bit Reg.GLB_DIRECT (if
      tb = 3 then 18 else 17) = false) :=
  ⟨⟨live.onDev (fun d => d.setReg Reg.PBU_ENT_INDEX 256), 0x01000000, _, by decide +kernel, rfl, by decide +kernel⟩,
   ⟨live.onDev (fun d => svEntry 0 ((d.setReg Reg.PBU_ENT_INDEX 255).setReg (Reg.PBU_GRP 255 0) 0x80000000)), 0x01000000, _,
     by decide +kernel, rfl, by decide +kernel⟩,
   ⟨live.onDev (fun d => (List.range 64).foldl (fun d j => d.setReg (Reg.PBU_ENT_DATA j) 0xFFFFFFFF) (d.setReg Reg.PBU_ENT_INDEX 0x00FF)),
     0x03000000, _, by decide +kernel, rfl, by decide +kernel⟩⟩

/-- The hypotheses of `Obligations.GooseAndProcessBusRowsAct` (ProcessBusOpcodes) are met: each clause. -/
theorem test_witness_ProcessBusOpcodes :
    (∃ (s : State) (m : Fin 16) (tag : Fin 4096) (gen : Fin 16) (c : Cmd) (i : Nat) (sl : _), s.dev.running = true ∧ c.entIndex = i ∧
      c.slice? = some sl ∧ Word.bit (c.p 1) 31 = true ∧ s.dev.started m.val tag.val gen.val 0x0800 c ∧ Map.get? s.dev.pbu.units i = none ∧
      s.dev.poolRoom sl 7 1 = false) ∧
    (∃ (s : State) (m : Fin 16) (tag : Fin 4096) (gen : Fin 16) (c : Cmd) (t : Dev) (r : Res) (i : Nat) (sl : _), s.dev.running = true ∧
      c.entIndex = i ∧ c.slice? = some sl ∧ Word.bit (c.p 1) 31 = true ∧ s.dev.started m.val tag.val gen.val 0x0800 c ∧ Map.get?
      s.dev.pbu.units i = none ∧ s.dev.poolRoom sl 7 1 = true ∧ (s.dev.stageStrobe c (2 ^ 17) ((List.range 48).map (fun j => (Reg.PBU_SV i
      j, wordAt ((c.params.drop 1).set 5 c.ownWord) j))) (Res.ok []) = (t, some r))) ∧
    (∃ (s : State) (m : Fin 16) (tag : Fin 4096) (gen : Fin 16) (c : Cmd) (i : Nat) (sl : _), s.dev.running = true ∧ c.entIndex = i ∧
      c.slice? = some sl ∧ Word.bit (c.p 1) 31 = true ∧ s.dev.started m.val tag.val gen.val 0x0802 c ∧ Map.get? s.dev.pbu.units (8192 + i)
      = none ∧ s.dev.poolRoom sl 8 1 = false) ∧
    (∃ (s : State) (m : Fin 16) (tag : Fin 4096) (gen : Fin 16) (c : Cmd) (t : Dev) (r : Res) (i : Nat) (sl : _), s.dev.running = true ∧
      c.entIndex = i ∧ c.slice? = some sl ∧ Word.bit (c.p 1) 31 = true ∧ s.dev.started m.val tag.val gen.val 0x0802 c ∧ Map.get?
      s.dev.pbu.units (8192 + i) = none ∧ s.dev.poolRoom sl 8 1 = true ∧ (s.dev.stageStrobe c (2 ^ 17) ((List.range 48).map (fun j =>
      (Reg.PBU_SUB i j, wordAt ((c.params.drop 1).set 3 c.ownWord) j))) (Res.ok []) = (t, some r))) ∧
    (∃ (s : State) (m : Fin 16) (tag : Fin 4096) (gen : Fin 16) (c : Cmd) (i : Nat) (sl : _), s.dev.running = true ∧ c.entIndex = i ∧
      c.slice? = some sl ∧ Word.bit (c.p 1) 31 = true ∧ s.dev.started m.val tag.val gen.val 0x0804 c ∧ Map.get? s.dev.pbu.units (12288 +
      i) = none ∧ s.dev.poolRoom sl 9 1 = false) ∧
    (∃ (s : State) (m : Fin 16) (tag : Fin 4096) (gen : Fin 16) (c : Cmd) (t : Dev) (r : Res) (i : Nat) (sl : _), s.dev.running = true ∧
      c.entIndex = i ∧ c.slice? = some sl ∧ Word.bit (c.p 1) 31 = true ∧ s.dev.started m.val tag.val gen.val 0x0804 c ∧ Map.get?
      s.dev.pbu.units (12288 + i) = none ∧ s.dev.poolRoom sl 9 1 = true ∧ (s.dev.stageStrobe c (2 ^ 18) (((List.range 512).filter (fun j
      => !pbuReadOnly 3 j)).map (fun j => (Reg.PBU_PUB i j, wordAt (((c.params.drop 1).set 0 (Word.setFld (c.p 1) 0 13 sl)).set 1
      (Word.setFld (c.p 2) 24 8 (c.pf 0 0 8))) j))) (Res.ok []) = (t, some r))) ∧
    (∃ (s : State) (m : Fin 16) (tag : Fin 4096) (gen : Fin 16) (c : Cmd) (t : Dev) (r : Res) (i : Nat) (sl : _), s.dev.running = true ∧
      c.entIndex = i ∧ c.slice? = some sl ∧ Word.bit (c.p 1) 31 = true ∧ s.dev.started m.val tag.val gen.val 0x0805 c ∧ (s.dev.stageStrobe
      c (2 ^ 17) (((List.range 64).filter (fun j => !pbuReadOnly 1 j)).map (fun j => (Reg.PBU_GRP i j, wordAt ((c.params.drop 1).set 0
      (Word.setFld (Word.setFld (c.p 1) 0 13 sl) 16 8 (c.pf 0 0 8))) j))) (Res.ok []) = (t, some r))) ∧
    (∃ (s : State) (m : Fin 16) (tag : Fin 4096) (gen : Fin 16) (c : Cmd) (i : Nat), s.dev.running = true ∧ c.entIndex = i ∧ s.dev.started
      m.val tag.val gen.val 0x0801 c ∧ s.dev.streamNamed i = true) ∧
    (∃ (s : State) (m : Fin 16) (tag : Fin 4096) (gen : Fin 16) (c : Cmd) (t : Dev) (r : Res) (i : Nat), s.dev.running = true ∧ c.entIndex
      = i ∧ s.dev.started m.val tag.val gen.val 0x0801 c ∧ s.dev.streamNamed i = false ∧ Map.get? s.dev.pbu.units i = none ∧
      (s.dev.stageStrobe c (2 ^ 17) ((List.range 48).map (fun j => (Reg.PBU_SV i j, if j = 0 then Word.setBit (s.dev.staged (Reg.PBU_SV i
      0)) 31 false else s.dev.staged (Reg.PBU_SV i j)))) (Res.ok []) = (t, some r))) ∧
    (∃ (s : State) (m : Fin 16) (tag : Fin 4096) (gen : Fin 16) (c : Cmd) (t : Dev) (r : Res) (i : Nat), s.dev.running = true ∧ c.entIndex
      = i ∧ s.dev.started m.val tag.val gen.val 0x0803 c ∧ Map.get? s.dev.pbu.units (8192 + i) = none ∧ (s.dev.stageStrobe c (2 ^ 17)
      ((List.range 48).map (fun j => (Reg.PBU_SUB i j, if j = 0 then Word.setBit (s.dev.staged (Reg.PBU_SUB i 0)) 31 false else
      s.dev.staged (Reg.PBU_SUB i j)))) (Res.ok []) = (t, some r))) ∧
    (∃ (s : State) (m : Fin 16) (tag : Fin 4096) (gen : Fin 16) (c : Cmd) (i : Nat), s.dev.running = true ∧ c.entIndex = i ∧ s.dev.started
      m.val tag.val gen.val 0x0807 c) :=
  ⟨⟨(cmdState 0x0800 5 ([0x03FF0000] ++ svWords)).onDev (fun d => d.setReg (poolReg 7) 0), 0, 1, 0, cmdOf 0x0800 5 ([0x03FF0000] ++
     svWords), _, _, by decide +kernel, rfl, rfl, by decide +kernel, ⟨by decide +kernel, by decide +kernel, by decide +kernel⟩,
     by decide +kernel⟩,
   ⟨(cmdState 0x0800 5 ([0x03FF0000] ++ svWords)).onDev (fun d => roomy 5 d), 0, 1, 0, cmdOf 0x0800 5 ([0x03FF0000] ++ svWords), _, _, _,
     _, by decide +kernel, rfl, rfl, by decide +kernel, ⟨by decide +kernel, by decide +kernel, by decide +kernel⟩, by decide +kernel,
     by decide +kernel, strobe_pair ..⟩,
   ⟨(cmdState 0x0802 5 ([0x0FFF0000] ++ subWords)).onDev (fun d => d.setReg (poolReg 8) 0), 0, 1, 0, cmdOf 0x0802 5 ([0x0FFF0000] ++
     subWords), _, _, by decide +kernel, rfl, rfl, by decide +kernel, ⟨by decide +kernel, by decide +kernel, by decide +kernel⟩,
     by decide +kernel⟩,
   ⟨(cmdState 0x0802 5 ([0x0FFF0000] ++ subWords)).onDev (fun d => roomy 5 d), 0, 1, 0, cmdOf 0x0802 5 ([0x0FFF0000] ++ subWords), _, _,
     _, _, by decide +kernel, rfl, rfl, by decide +kernel, ⟨by decide +kernel, by decide +kernel, by decide +kernel⟩, by decide +kernel,
     by decide +kernel, strobe_pair ..⟩,
   ⟨(cmdState 0x0804 5 ([0x00FF0000] ++ pubWords)).onDev (fun d => d.setReg (poolReg 9) 0), 0, 1, 0, cmdOf 0x0804 5 ([0x00FF0000] ++
     pubWords), _, _, by decide +kernel, rfl, rfl, by decide +kernel, ⟨by decide +kernel, by decide +kernel, by decide +kernel⟩,
     by decide +kernel⟩,
   ⟨((cmdState 0x0804 5 ([0x00FF0000] ++ pubWords)).onDev (fun d => roomy 5 d)).withQ 0 5 0 [0, 0, 0x30000008, 0], 0, 1, 0, cmdOf 0x0804 5
     ([0x00FF0000] ++ pubWords), _, _, _, _, by decide +kernel, rfl, rfl, by decide +kernel, ⟨by decide +kernel, by decide +kernel,
     by decide +kernel⟩, by decide +kernel, by decide +kernel, strobe_pair ..⟩,
   ⟨(cmdState 0x0805 5 ([0x00FF0000, 0x80000000] ++ List.replicate 63 0)), 0, 1, 0, cmdOf 0x0805 5 ([0x00FF0000, 0x80000000] ++
     List.replicate 63 0), _, _, _, _, by decide +kernel, rfl, rfl, by decide +kernel, ⟨by decide +kernel, by decide +kernel,
     by decide +kernel⟩, strobe_pair ..⟩,
   ⟨(cmdState 0x0801 5 [0x03FF0000]).onDev (fun d => (d.setReg (Reg.PBU_GRP 3 0) 0x80000005).setReg (Reg.PBU_GRP 3 8) 1023), 0, 1, 0,
     cmdOf 0x0801 5 [0x03FF0000], _, by decide +kernel, rfl, ⟨by decide +kernel, by decide +kernel, by decide +kernel⟩, by decide +kernel⟩,
   ⟨(cmdState 0x0801 5 [0x03FF0000]).onDev (svEntry 1023), 0, 1, 0, cmdOf 0x0801 5 [0x03FF0000], _, _, _, by decide +kernel, rfl,
     ⟨by decide +kernel, by decide +kernel, by decide +kernel⟩, by decide +kernel, by decide +kernel, strobe_pair ..⟩,
   ⟨(cmdState 0x0803 5 [0x0FFF0000]).onDev (subEntry 4095), 0, 1, 0, cmdOf 0x0803 5 [0x0FFF0000], _, _, _, by decide +kernel, rfl,
     ⟨by decide +kernel, by decide +kernel, by decide +kernel⟩, by decide +kernel, strobe_pair ..⟩,
   ⟨(cmdState 0x0807 5 [0x80000FFF]).onDev (fun d => d.setGsub 4095 (fun g => { g with st := 8 })), 0, 1, 0, cmdOf 0x0807 5 [0x80000FFF],
     _, by decide +kernel, rfl, ⟨by decide +kernel, by decide +kernel, by decide +kernel⟩⟩⟩

/-- The hypotheses of `Obligations.TrellisLinksAndPathsAct` (TrellisLinksAndHellos) are met: each clause. -/
theorem test_witness_TrellisLinksAndHellos :
    (∃ (s : State) (p : Fin 4) (i : _) (src : _) (dst : _), s.dev.running = true ∧ (i, src, dst) ∈ [(Instr.trlLinkSignalDetect p, 1, 2),
      (.trlLinkTrainingDone p, 2, 3), (.trlLinkTrainingTimeout p, 2, 1), (.trlLinkAligned p, 3, 4), (.trlLinkLockLoss p, 5, 1)] ∧
      s.dev.trlLink p.val ≠ src) ∧
    (∃ (s : State) (p : Fin 4) (i : _) (src : _) (dst : _), s.dev.running = true ∧ (i, src, dst) ∈ [(Instr.trlLinkSignalDetect p, 1, 2),
      (.trlLinkTrainingDone p, 2, 3), (.trlLinkTrainingTimeout p, 2, 1), (.trlLinkAligned p, 3, 4), (.trlLinkLockLoss p, 5, 1)] ∧
      s.dev.trlLink p.val = src) ∧
    (∃ (s : State) (p : Fin 4) (id : Nat), s.dev.running = true ∧ s.dev.fld (Reg.TRL_PORTt_STATUS p.val) 16 9 = id ∧ s.dev.trlLink p.val ≠
      4 ∧ s.dev.trlLink p.val ≠ 5) ∧
    (∃ (s : State) (p : Fin 4) (id : Nat), s.dev.running = true ∧ s.dev.fld (Reg.TRL_PORTt_STATUS p.val) 16 9 = id ∧ s.dev.trlLink p.val =
      4) ∧
    (∃ (s : State) (p : Fin 4) (id : Nat), s.dev.running = true ∧ s.dev.fld (Reg.TRL_PORTt_STATUS p.val) 16 9 = id ∧ s.dev.trlLink p.val =
      5 ∧ s.dev.pathState id ≠ 1) ∧
    (∃ (s : State) (p : Fin 4) (id : Nat), s.dev.running = true ∧ s.dev.fld (Reg.TRL_PORTt_STATUS p.val) 16 9 = id ∧ s.dev.trlLink p.val =
      5 ∧ s.dev.pathState id = 1 ∧ s.dev.tunnelOf id = none ∧ (s.dev.path id).epoch < 65536) ∧
    (∃ (s : State) (id : Fin 512), s.dev.running = true ∧ s.dev.tunnelOf id.val = none) ∧
    (∃ (s : State) (p : Fin 4), s.dev.running = true ∧ s.dev.trlLink p.val ≠ 4 ∧ s.dev.trlLink p.val ≠ 5) ∧
    (∃ (s : State) (p : Fin 4) (h : HelloBody), s.dev.running = true ∧ s.dev.trlLink p.val = 4 ∧ h.id.val = s.dev.selfId) ∧
    (∃ (s : State) (p : Fin 4) (h : HelloBody), s.dev.running = true ∧ s.dev.trlLink p.val = 4 ∧ h.id.val ≠ s.dev.selfId ∧ h.domain.val ≠
      s.dev.fld Reg.TRL_DOMAIN 0 16) ∧
    (∃ (s : State) (id : Fin 512) (h : HelloBody), s.dev.running = true ∧ h.id = id ∧ h.domain.val ≠ s.dev.fld Reg.TRL_DOMAIN 0 16) ∧
    (∃ (s : State) (id : Fin 512) (h : HelloBody), s.dev.running = true ∧ h.id = id ∧ h.domain.val = s.dev.fld Reg.TRL_DOMAIN 0 16 ∧
      (s.dev.tunnelOf id.val).isSome = true ∧ id.val ≠ s.dev.selfId ∧ Map.get? s.dev.trl.instances id.val = some h.inst ∧ s.dev.pathState
      id.val = 2 ∧ h.yourEpoch.val = (s.dev.path id.val).epoch ∧ s.dev.bit Reg.FWD_CTRL 29 = false) :=
  ⟨⟨live.onDev (fun d => d.setFld (Reg.TRL_PORTt_STATUS 3) 29 3 4), 3, .trlLinkLockLoss 3, 5, 1, by decide +kernel, by simp,
     by decide +kernel⟩,
   ⟨live.onDev (fun d => d.setFld (Reg.TRL_PORTt_STATUS 3) 29 3 5), 3, .trlLinkLockLoss 3, 5, 1, by decide +kernel, by simp,
     by decide +kernel⟩,
   ⟨live, 3, _, by decide +kernel, rfl, by decide +kernel⟩,
   ⟨live.onDev (fun d => d.setFld (Reg.TRL_PORTt_STATUS 3) 29 3 4), 3, _, by decide +kernel, rfl, by decide +kernel⟩,
   ⟨live.onDev (fun d => (inDomain 3 false d).setReg (Reg.TRL_PORTt_STATUS 3) 0xA00900FF), 3, _, by decide +kernel, rfl,
     by decide +kernel⟩,
   ⟨live.onDev (fun d => ((inDomain 1 false d).setReg (Reg.TRL_PORTt_STATUS 3) 0xA00900FF).setPath 9 (fun p =>
     { p with epoch := 65535 })), 3, _, by decide +kernel, rfl, by decide +kernel⟩,
   ⟨live, 3, by decide +kernel⟩,
   ⟨live, 3, by decide +kernel⟩,
   ⟨live.onDev (fun d => (inDomain 3 false d).setReg (Reg.TRL_PORTt_STATUS 3) 0x800900FF), 3, (helloOfMember 7 1 1 1), by decide +kernel⟩,
   ⟨live.onDev (fun d => (inDomain 3 false d).setReg (Reg.TRL_PORTt_STATUS 3) 0x800000FF), 3, (helloOfMember 8 9 1 1), by decide +kernel⟩,
   ⟨live, _, (helloOfMember 7 9 1 1), by decide +kernel, rfl, by decide +kernel⟩,
   ⟨live.onDev (fun d =>
     { inDomain 2 true d with trl := { d.trl with instances := [(9, 77)], paths := [(9, ⟨65535, 0, 0, 0, [], [], 0⟩)] } }), _,
     (helloOfMember 7 9 3 65535), by decide +kernel, rfl, by decide +kernel⟩⟩

/-- The hypotheses of `Obligations.TrellisLinksAndPathsAct` (TrellisPathsAndFrames) are met: each clause. -/
theorem test_witness_TrellisPathsAndFrames :
    (∃ (s : State) (id : Fin 512), s.dev.running = true ∧ s.dev.pathState id.val < 2) ∧
    (∃ (s : State) (id : Fin 512), s.dev.running = true ∧ 2 ≤ s.dev.pathState id.val ∧ (s.dev.path id.val).epoch < 65536) ∧
    (∃ (s : State) (id : Fin 512), s.dev.running = true ∧ (s.dev.reachable id.val = false ∨ (s.dev.path id.val).unacked = [])) ∧
    (∃ (s : State) (id : Fin 512), s.dev.running = true ∧ s.dev.reachable id.val = true ∧ (s.dev.path id.val).unacked ≠ [] ∧ (s.dev.path
      id.val).resends < 8) ∧
    (∃ (s : State) (id : Fin 512), s.dev.running = true ∧ s.dev.reachable id.val = true ∧ (s.dev.path id.val).unacked ≠ [] ∧ 8 ≤
      (s.dev.path id.val).resends ∧ (s.dev.path id.val).epoch < 65536) ∧
    (∃ (s : State) (p : Fin 4), s.dev.running = true ∧ s.dev.trlLink p.val ≠ 4 ∧ s.dev.trlLink p.val ≠ 5) ∧
    (∃ (s : State) (f : _), s.dev.running = true ∧ (s.dev.frame? f = none ∨ ∃ g, s.dev.frame? f = some g ∧ g.place ≠ .trl)) ∧
    (∃ (s : State) (p : Fin 4) (bytes : List Byte) (w : List Byte) (src : Nat), s.dev.running = true ∧ s.dev.trlLink p.val = 5 ∧
      s.dev.secyReceive (16 + p.val) bytes = none ∧ wepomerOf bytes = some w ∧ beAt w 6 2 % 512 = src ∧ byteAt w 0 = 1 ∧ (byteAt w
      1).testBit 7 = false ∧ beAt w 2 2 = s.dev.fld Reg.TRL_DOMAIN 0 16 ∧ beAt w 4 2 % 512 = s.dev.selfId ∧ s.dev.reachable src = true ∧
      s.dev.tunnelOf src = none ∧ beAt w 8 2 ≠ (s.dev.path src).peerEpoch) ∧
    (∃ (s : State) (p : Fin 4) (bytes : List Byte) (w : List Byte) (src : Nat), s.dev.running = true ∧ s.dev.trlLink p.val = 5 ∧
      s.dev.secyReceive (16 + p.val) bytes = none ∧ wepomerOf bytes = some w ∧ beAt w 6 2 % 512 = src ∧ byteAt w 0 = 1 ∧ (byteAt w
      1).testBit 7 = false ∧ beAt w 2 2 = s.dev.fld Reg.TRL_DOMAIN 0 16 ∧ beAt w 4 2 % 512 = s.dev.selfId ∧ s.dev.reachable src = true ∧
      s.dev.tunnelOf src = none ∧ beAt w 8 2 = (s.dev.path src).peerEpoch ∧ (s.dev.path src).unacked = [] ∧ beAt w 10 2 = (s.dev.path
      src).recvSeq) ∧
    (∃ (s : State) (p : Fin 4) (bytes : List Byte) (w : List Byte) (src : Nat), s.dev.running = true ∧ s.dev.trlLink p.val = 5 ∧
      s.dev.secyReceive (16 + p.val) bytes = none ∧ wepomerOf bytes = some w ∧ beAt w 6 2 % 512 = src ∧ byteAt w 0 = 1 ∧ (byteAt w
      1).testBit 7 = false ∧ beAt w 2 2 = s.dev.fld Reg.TRL_DOMAIN 0 16 ∧ beAt w 4 2 % 512 = s.dev.selfId ∧ s.dev.reachable src = true ∧
      s.dev.tunnelOf src = none ∧ beAt w 8 2 = (s.dev.path src).peerEpoch ∧ (s.dev.path src).unacked = [] ∧ beAt w 10 2 ≠ (s.dev.path
      src).recvSeq) :=
  ⟨⟨live.onDev (fun d =>
     { inDomain 1 true d with trl := { d.trl with instances := [(9, 77)], paths := [(9, ⟨65535, 0, 0, 0, [], [], 0⟩)] } }), 9,
     by decide +kernel⟩,
   ⟨live.onDev (fun d =>
     { inDomain 3 true d with trl := { d.trl with reqs := [(5, ⟨9, 3, true⟩), (6, ⟨8, 3, true⟩)], paths := [(9, ⟨65535, 0, 0, 0, [(1, 1, [5])], [(1, [6])], 0⟩)] } }),
     9, by decide +kernel⟩,
   ⟨live.onDev (fun d => { inDomain 3 true d with trl := { d.trl with paths := [(9, ⟨65535, 0, 0, 0, [], [(1, [6])], 0⟩)] } }), 9,
     by decide +kernel⟩,
   ⟨live.onDev (fun d =>
     { (inDomain 3 true d).setReg (Reg.TRL_TUNNELp 2) 0x80000002 with trl := { d.trl with paths := [(9, ⟨65535, 0, 0, 0, [(1, 1, [5])], [(1, [6])], 7⟩)] } }),
     9, by decide +kernel⟩,
   ⟨live.onDev (fun d =>
     { (inDomain 3 true d).setReg (Reg.TRL_TUNNELp 2) 0x80000002 with trl := { d.trl with paths := [(9, ⟨65535, 0, 0, 0, [(1, 1, [5])], [(1, [6])], 8⟩)] } }),
     9, by decide +kernel⟩,
   ⟨live, 3, by decide +kernel⟩,
   ⟨live, 3, by decide +kernel⟩,
   ⟨live.onDev (fun d =>
     { (inDomain 3 false d).setReg (Reg.TRL_PORTt_STATUS 3) 0xA00900FF with trl := { d.trl with paths := [(9, ⟨65535, 4, 0, 65535, [], [(1, [6])], 0⟩)] } }),
     3, (wepBytes 5 65535), _, _, by decide +kernel, by decide +kernel, by decide +kernel, some_of (by decide +kernel), rfl,
     by decide +kernel⟩,
   ⟨live.onDev (fun d =>
     { (inDomain 3 false d).setReg (Reg.TRL_PORTt_STATUS 3) 0xA00900FF with trl := { d.trl with paths := [(9, ⟨65535, 5, 0, 65535, [], [(1, [6])], 0⟩)] } }),
     3, (wepBytes 5 65535), _, _, by decide +kernel, by decide +kernel, by decide +kernel, some_of (by decide +kernel), rfl,
     by decide +kernel⟩,
   ⟨live.onDev (fun d =>
     { (inDomain 3 false d).setReg (Reg.TRL_PORTt_STATUS 3) 0xA00900FF with trl := { d.trl with paths := [(9, ⟨65535, 5, 0, 0, [], [(1, [6])], 0⟩)] } }),
     3, (wepBytes 5 65535), _, _, by decide +kernel, by decide +kernel, by decide +kernel, some_of (by decide +kernel), rfl,
     by decide +kernel⟩⟩

/-- The hypotheses of `Obligations.MessagesOfMembers` are met: each clause. -/
theorem test_witness_MessagesOfMembers :
    (∃ (s : State) (i : _) (k : _), s.dev.running = true ∧ (i, k) ∈ [(Instr.learn, 0x10), (.syncBegin, 0x11), (.syncEnd, 0x12),
      (.peerWrite, 0x30), (.peerRead none, 0x31), (.peerResp, 0x32), (.angle, 0x40), (.cmd, 0x60), (.reply, 0x61), (.mbxIn, 0x62),
      (.mbxOut, 0x63), (.frame, 0x70), (.send, 0x71)] ∧ s.dev.takeMsg k = none) ∧
    (∃ (s : State) (g : TrlMsg) (t : Dev) (o : _) (seq : _), s.dev.running = true ∧ s.dev.takeMsg 0x10 = some (g, t) ∧ Word.fld (wordAt
      (wordsOf 8 g.body) 0) 16 9 = o ∧ wordAt (wordsOf 8 g.body) 3 = seq ∧ o ≠ g.src) ∧
    (∃ (s : State) (g : TrlMsg) (t : Dev) (o : _) (seq : _), s.dev.running = true ∧ s.dev.takeMsg 0x10 = some (g, t) ∧ Word.fld (wordAt
      (wordsOf 8 g.body) 0) 16 9 = o ∧ wordAt (wordsOf 8 g.body) 3 = seq ∧ o = g.src ∧ Map.get? s.dev.trl.lastSeq o = none ∧
      s.dev.fwd.learn.length < 4096) ∧
    (∃ (s : State) (g : TrlMsg) (t : Dev) (o : _) (seq : _) (l : _), s.dev.running = true ∧ s.dev.takeMsg 0x10 = some (g, t) ∧ Word.fld
      (wordAt (wordsOf 8 g.body) 0) 16 9 = o ∧ wordAt (wordsOf 8 g.body) 3 = seq ∧ o = g.src ∧ Map.get? s.dev.trl.lastSeq o = some l ∧
      (seq - l).toInt ≤ 0) ∧
    (∃ (s : State) (g : TrlMsg) (t : Dev), s.dev.running = true ∧ s.dev.takeMsg 0x11 = some (g, t)) ∧
    (∃ (s : State) (g : TrlMsg) (t : Dev), s.dev.running = true ∧ s.dev.takeMsg 0x12 = some (g, t)) ∧
    (∃ (s : State) (g : TrlMsg) (t : Dev) (w : _) (off : _) (len : _) (st : _), s.dev.running = true ∧ w = g.f 0 0 4 ∧ off = (g.w 1).toNat
      ∧ len = g.f 2 0 16 ∧ s.dev.takeMsg 0x30 = some (g, t) ∧ t.windowRefusal w g.src off len true = st ∧ st ≠ 0) ∧
    (∃ (s : State) (g : TrlMsg) (t : Dev) (w : _) (off : _) (len : _), s.dev.running = true ∧ w = g.f 0 0 4 ∧ off = (g.w 1).toNat ∧ len =
      g.f 2 0 16 ∧ s.dev.takeMsg 0x30 = some (g, t) ∧ t.windowRefusal w g.src off len true = 0 ∧ t.bit (Reg.TRL_WINw_CTRL w) 29 = false) ∧
    (∃ (s : State) (g : TrlMsg) (t : Dev) (w : _) (off : _) (len : _) (sl : _), s.dev.running = true ∧ w = g.f 0 0 4 ∧ off = (g.w 1).toNat
      ∧ len = g.f 2 0 16 ∧ s.dev.takeMsg 0x30 = some (g, t) ∧ t.windowRefusal w g.src off len true = 0 ∧ t.bit (Reg.TRL_WINw_CTRL w) 29 =
      true ∧ t.fld (Reg.TRL_WINw_OWNER w) 0 13 = sl ∧ t.canIssue (t.home sl) = true) ∧
    (∃ (s : State) (g : TrlMsg) (t : Dev) (w : _) (off : _) (len : _) (st : _), s.dev.running = true ∧ w = g.f 0 0 4 ∧ off = (g.w 1).toNat
      ∧ len = g.f 2 0 16 ∧ s.dev.takeMsg 0x31 = some (g, t) ∧ t.windowRefusal w g.src off len false = st ∧ st ≠ 0) ∧
    (∃ (s : State) (g : TrlMsg) (t : Dev) (w : _) (off : _) (len : _), s.dev.running = true ∧ w = g.f 0 0 4 ∧ off = (g.w 1).toNat ∧ len =
      g.f 2 0 16 ∧ s.dev.takeMsg 0x31 = some (g, t) ∧ t.windowRefusal w g.src off len false = 0 ∧ t.bit (Reg.TRL_WINw_CTRL w) 29 = false) ∧
    (∃ (s : State) (g : TrlMsg) (t : Dev) (w : _) (off : _) (len : _) (sl : _) (f : _) (tag : _) (bs : List Byte), s.dev.running = true ∧
      w = g.f 0 0 4 ∧ off = (g.w 1).toNat ∧ len = g.f 2 0 16 ∧ s.dev.takeMsg 0x31 = some (g, t) ∧ t.windowRefusal w g.src off len false =
      0 ∧ t.bit (Reg.TRL_WINw_CTRL w) 29 = true ∧ t.fld (Reg.TRL_WINw_OWNER w) 0 13 = sl ∧ t.home sl = f ∧ t.canIssue f = true ∧ t.freeTag
      (t.linkOf f) = some tag ∧ bs.length = len) ∧
    (∃ (s : State) (g : TrlMsg) (t : Dev), s.dev.running = true ∧ s.dev.takeMsg 0x32 = some (g, t) ∧ (t.trl.reqs.find? (fun e => decide
      (e.1 % 65536 = g.f 0 16 16 ∧ e.2.dev = g.src)) = none)) ∧
    (∃ (s : State) (g : TrlMsg) (t : Dev) (k : _) (q : _), s.dev.running = true ∧ s.dev.takeMsg 0x32 = some (g, t) ∧ (t.trl.reqs.find?
      (fun e => decide (e.1 % 65536 = g.f 0 16 16 ∧ e.2.dev = g.src)) = some (k, q)) ∧ g.f 0 0 8 ≠ 0) ∧
    (∃ (s : State) (g : TrlMsg) (t : Dev), s.dev.running = true ∧ s.dev.takeMsg 0x40 = some (g, t) ∧ s.dev.bit Reg.TRL_ANGLE_CTRL 30 =
      false) ∧
    (∃ (s : State) (g : TrlMsg) (t : Dev), s.dev.running = true ∧ s.dev.takeMsg 0x40 = some (g, t) ∧ s.dev.bit Reg.TRL_ANGLE_CTRL 30 =
      true ∧ s.dev.gsyncOn = true ∧ g.src = s.dev.fld Reg.TRL_ANGLE_CTRL 16 9) ∧
    (∃ (s : State) (g : TrlMsg) (t : Dev), s.dev.running = true ∧ s.dev.takeMsg 0x60 = some (g, t)) ∧
    (∃ (s : State) (g : TrlMsg) (t : Dev) (m : _) (tag : _) (gen : _) (c : _), s.dev.running = true ∧ s.dev.takeMsg 0x61 = some (g, t) ∧
      t.trl.peerCmds = [(g.src, m, tag, gen)] ∧ t.cmd? m tag gen = some c ∧ c.p 2 = wordAt (wordsOf (g.body.length / 4) g.body) 1) ∧
    (∃ (s : State) (g : TrlMsg) (t : Dev), s.dev.running = true ∧ s.dev.takeMsg 0x62 = some (g, t) ∧ s.dev.bit (Reg.MBX_STATEm 7) 0 =
      false) ∧
    (∃ (s : State) (g : TrlMsg) (t : Dev), s.dev.running = true ∧ s.dev.takeMsg 0x62 = some (g, t) ∧ s.dev.bit (Reg.MBX_STATEm 7) 0 =
      true) ∧
    (∃ (s : State) (g : TrlMsg) (t : Dev), s.dev.running = true ∧ s.dev.takeMsg 0x63 = some (g, t)) ∧
    (∃ (s : State) (g : TrlMsg) (t : Dev), s.dev.running = true ∧ s.dev.takeMsg 0x70 = some (g, t)) ∧
    (∃ (s : State) (g : TrlMsg) (t : Dev) (n : _), s.dev.running = true ∧ s.dev.takeMsg 0x71 = some (g, t) ∧ n = Nat.min 60 (Word.fld
      (wordAt (wordsOf 61 g.body) 0) 16 8)) :=
  ⟨⟨live, .send, 0x71, by decide +kernel, by simp, by decide +kernel⟩,
   ⟨live.withMsg 0x10 (beBytes 4 0), _, _, _, _, by decide +kernel, rfl, rfl, rfl, by decide +kernel⟩,
   ⟨live.withMsg 0x10 (bytesOf [0x00090000, 0, 0, 8]), _, _, _, _, by decide +kernel, rfl, rfl, rfl, by decide +kernel⟩,
   ⟨(live.withMsg 0x10 (bytesOf [0x00090000, 0, 0, 8])).onDev (fun d => { d with trl := { d.trl with lastSeq := [(9, 8)] } }), _, _, _, _,
     _, by decide +kernel, rfl, rfl, rfl, by decide +kernel, rfl, by decide +kernel⟩,
   ⟨live.withMsg 0x11 [0, 0, 0, 7], _, _, by decide +kernel, rfl⟩,
   ⟨(live.withMsg 0x12 [0, 0, 0, 7]).onDev (fun d =>
     { d with trl := { d.trl with syncStart := [(9, 7)] }, fwd := { d.fwd with l2 := [(3, [0x88000000, 0, 0, 0, 0, 0, 9, 6]), (4, [0x88000000, 0, 0, 0, 0, 0, 9, 7])] } }),
     _, _, by decide +kernel, rfl⟩,
   ⟨(live.withMsg 0x30 [0, 7, 0, 15, 0, 0, 0, 0, 0, 0, 0, 4, 1, 2, 3, 4]), _, _, _, _, _, _, by decide +kernel, rfl, rfl, rfl, rfl, rfl,
     by decide +kernel⟩,
   ⟨(live.withMsg 0x30 [0, 7, 0, 15, 0, 0, 0, 0, 0, 0, 0, 4, 1, 2, 3, 4]).onDev (fun d => ((d.setReg (Reg.TRL_WINw_SIZE 15) 1).setReg
     (Reg.TRL_WINw_CTRL 15) 0xDFF00000)), _, _, _, _, _, by decide +kernel, rfl, rfl, rfl, rfl, by decide +kernel⟩,
   ⟨((live.withMsg 0x30 [0, 7, 0, 15, 0, 0, 0, 0, 0, 0, 0, 4, 1, 2, 3, 4]).upFn0).onDev (fun d => (((d.setReg (Reg.TRL_WINw_SIZE 15)
     1).setReg (Reg.TRL_WINw_CTRL 15) 0xFFF00000).setSlice 5 1).setReg (Reg.TRL_WINw_OWNER 15) 0x80000005), _, _, _, _, _, _,
     by decide +kernel, rfl, rfl, rfl, rfl, by decide +kernel, by decide +kernel, rfl, by decide +kernel⟩,
   ⟨(live.withMsg 0x31 [0, 7, 0, 15, 0, 0, 0, 0, 0, 0, 0, 4]), _, _, _, _, _, _, by decide +kernel, rfl, rfl, rfl, rfl, rfl,
     by decide +kernel⟩,
   ⟨(live.withMsg 0x31 [0, 7, 0, 15, 0, 0, 0, 0, 0, 0, 0, 4]).onDev (fun d =>
     { ((inDomain 3 true d).setReg (Reg.TRL_WINw_SIZE 15) 1).setReg (Reg.TRL_WINw_CTRL 15) 0xDFF00000 with dma := { d.dma with hbm := [(0, 0x04030201)] }, trl := { d.trl with inbox := [⟨9, 0x31, [0, 7, 0, 15, 0, 0, 0, 0, 0, 0, 0, 4], 1, 5⟩] } }),
     _, _, _, _, _, by decide +kernel, rfl, rfl, rfl, rfl, by decide +kernel⟩,
   ⟨((live.withMsg 0x31 [0, 7, 0, 15, 0, 0, 0, 0, 0, 0, 0, 4]).upFn0).onDev (fun d => (((d.setReg (Reg.TRL_WINw_SIZE 15) 1).setReg
     (Reg.TRL_WINw_CTRL 15) 0xFFF00000).setSlice 5 1).setReg (Reg.TRL_WINw_OWNER 15) 0x80000005), _, _, _, _, _, _, _, _, [1, 2, 3, 4],
     by decide +kernel, rfl, rfl, rfl, rfl, by decide +kernel, by decide +kernel, rfl, rfl, by decide +kernel, rfl, by decide +kernel⟩,
   ⟨(live.withMsg 0x32 [0, 7, 0, 1]), _, _, by decide +kernel, rfl, by decide +kernel⟩,
   ⟨(live.withMsg 0x32 [0, 7, 0, 1]).onDev (fun d =>
     { d.setThread 511 (fun th => { th with reqs := [⟨7, 0xB, [], none, false⟩] }) with trl := { d.trl with reqs := [(7, ⟨9, 511, true⟩)] } }),
     _, _, _, _, by decide +kernel, rfl, rfl, by decide +kernel⟩,
   ⟨(live.withMsg 0x40 (List.replicate 62 0)), _, _, by decide +kernel, rfl, by decide +kernel⟩,
   ⟨(live.withMsg 0x40 (List.replicate 62 0)).onDev (fun d => (d.setReg Reg.TRL_ANGLE_CTRL 0x40090000).setBit Reg.GAU_GSYNC_CTRL 0 true),
     _, _, by decide +kernel, rfl, by decide +kernel⟩,
   ⟨live.withMsg 0x60 (List.replicate 64 0), _, _, by decide +kernel, rfl⟩,
   ⟨(cmdState 0x0904 0xFFFF [9, 0, 6]).onDev (fun d =>
     { d with trl := { d.trl with inbox := [⟨9, 0x61, [0, 0, 0, 0, 6, 0, 0, 0], 1, 5⟩], peerCmds := [(9, 0, 1, 0)] } }), _, _, _, _, _, _,
     by decide +kernel, rfl, rfl, rfl, by decide +kernel⟩,
   ⟨live.withMsg 0x62 [0, 0, 0, 9], _, _, by decide +kernel, rfl, by decide +kernel⟩,
   ⟨(live.withMsg 0x62 [0, 0, 0, 9]).onDev (fun d => d.setBit (Reg.MBX_STATEm 7) 0 true), _, _, by decide +kernel, rfl, by decide +kernel⟩,
   ⟨(live.withMsg 0x63 [0, 0, 0, 9]), _, _, by decide +kernel, rfl⟩,
   ⟨(live.withMsg 0x70 ([0, 3, 0xFF, 0xFF, 0xC0, 0, 0, 60] ++ List.replicate 8 0 ++ List.replicate 60 8)), _, _, by decide +kernel, rfl⟩,
   ⟨(live.withMsg 0x71 (bytesOf [0x00010305, 44])), _, _, _, by decide +kernel, rfl, rfl⟩⟩

/-- The hypotheses of `Obligations.AngleExportAndTrellisOpcodes` are met: each clause. -/
theorem test_witness_AngleExportAndTrellisOpcodes :
    (∃ (s : State), s.dev.running = true ∧ s.dev.bit Reg.TRL_ANGLE_CTRL 31 = false) ∧
    (∃ (s : State) (head : _), s.dev.running = true ∧ s.dev.bit Reg.TRL_ANGLE_CTRL 31 = true ∧ head = [1, BitVec.ofNat 8
      s.dev.trl.angleSeq, 0, 0] ++ (List.range 4).flatMap s.dev.angleSlot) ∧
    (∃ (s : State) (m : Fin 16) (tag : Fin 4096) (gen : Fin 16) (c : Cmd), s.dev.running = true ∧ s.dev.started m.val tag.val gen.val
      0x0900 c ∧ trellisPortSetBad c s.dev = true) ∧
    (∃ (s : State) (m : Fin 16) (tag : Fin 4096) (gen : Fin 16) (c : Cmd) (t : Dev) (r : Res), s.dev.running = true ∧ s.dev.started m.val
      tag.val gen.val 0x0900 c ∧ trellisPortSetBad c s.dev = false ∧ c.pf 0 31 1 = 0 ∧ s.dev.stageStrobe c (2 ^ 19) [(Reg.TRL_PORTt_CTRL
      (c.pf 0 0 4), wd (c.pf 0 30 1 * 2 ^ 31))] (Res.ok []) = (t, some r)) ∧
    (∃ (s : State) (m : Fin 16) (tag : Fin 4096) (gen : Fin 16) (c : Cmd) (t : Dev) (r : Res), s.dev.running = true ∧ s.dev.started m.val
      tag.val gen.val 0x0900 c ∧ trellisPortSetBad c s.dev = false ∧ c.pf 0 31 1 = 1 ∧ s.dev.stageStrobe c (2 ^ 19) [(Reg.TRL_TUNNELp
      (c.pf 0 0 4), Word.setFld (c.p 1) 31 1 (c.pf 0 30 1))] (Res.ok []) = (t, some r)) ∧
    (∃ (s : State) (m : Fin 16) (tag : Fin 4096) (gen : Fin 16) (c : Cmd) (ws : List (Nat × Word)), s.dev.running = true ∧ s.dev.started
      m.val tag.val gen.val 0x0901 c ∧ (ws = (List.range (c.pf 1 0 10)).flatMap (fun i => (List.range 3).map (fun j => (Reg.TRL_MEMBER
      (c.pf 0 0 9 + i) j, c.p (2 + 3 * i + j))))) ∧ trellisDomainSetBad c s.dev = true) ∧
    (∃ (s : State) (m : Fin 16) (tag : Fin 4096) (gen : Fin 16) (c : Cmd) (ws : List (Nat × Word)), s.dev.running = true ∧ s.dev.started
      m.val tag.val gen.val 0x0901 c ∧ (ws = (List.range (c.pf 1 0 10)).flatMap (fun i => (List.range 3).map (fun j => (Reg.TRL_MEMBER
      (c.pf 0 0 9 + i) j, c.p (2 + 3 * i + j))))) ∧ trellisDomainSetBad c s.dev = false ∧ c.pf 0 15 1 = 0 ∧ s.dev.anyExpert (ws.map
      Prod.fst) = false) ∧
    (∃ (s : State) (m : Fin 16) (tag : Fin 4096) (gen : Fin 16) (c : Cmd) (t : Dev) (r : Res) (ws : List (Nat × Word)), s.dev.running =
      true ∧ s.dev.started m.val tag.val gen.val 0x0901 c ∧ (ws = (List.range (c.pf 1 0 10)).flatMap (fun i => (List.range 3).map (fun j
      => (Reg.TRL_MEMBER (c.pf 0 0 9 + i) j, c.p (2 + 3 * i + j))))) ∧ trellisDomainSetBad c s.dev = false ∧ c.pf 0 15 1 = 1 ∧
      s.dev.stageStrobe c (2 ^ 19) (ws ++ [(Reg.TRL_DOMAIN, wd ((c.pf 0 0 9 + c.pf 1 0 10) * 65536 + c.pf 0 16 16))]) (Res.ok []) = (t,
      some r)) ∧
    (∃ (s : State) (m : Fin 16) (tag : Fin 4096) (gen : Fin 16) (c : Cmd) (sl : _), s.dev.running = true ∧ s.dev.started m.val tag.val
      gen.val 0x0902 c ∧ c.slice? = some sl ∧ trellisWindowSetBad c s.dev = true) ∧
    (∃ (s : State) (m : Fin 16) (tag : Fin 4096) (gen : Fin 16) (c : Cmd) (t : Dev) (r : Res) (sl : _), s.dev.running = true ∧
      s.dev.started m.val tag.val gen.val 0x0902 c ∧ c.slice? = some sl ∧ trellisWindowSetBad c s.dev = false ∧ s.dev.stageStrobe c (2 ^
      20) [(Reg.TRL_WINw_BASE_LO (c.pf 0 16 4), c.p 1), (Reg.TRL_WINw_BASE_HI (c.pf 0 16 4), c.p 2), (Reg.TRL_WINw_SIZE (c.pf 0 16 4), c.p
      3), (Reg.TRL_WINw_CTRL (c.pf 0 16 4), c.p 4), (Reg.TRL_WINw_OWNER (c.pf 0 16 4), wd (2 ^ 31 + c.pf 0 0 8 * 65536 + sl))] (Res.ok [])
      = (t, some r)) ∧
    (∃ (s : State) (m : Fin 16) (tag : Fin 4096) (gen : Fin 16) (c : Cmd), s.dev.running = true ∧ s.dev.started m.val tag.val gen.val
      0x0903 c ∧ s.dev.anyExpert [Reg.TRL_DOMAIN] = false) ∧
    (∃ (s : State) (m : Fin 16) (tag : Fin 4096) (gen : Fin 16) (c : Cmd), s.dev.running = true ∧ s.dev.started m.val tag.val gen.val
      0x0904 c ∧ trellisPeerCmdBad c s.dev = true) ∧
    (∃ (s : State) (m : Fin 16) (tag : Fin 4096) (gen : Fin 16) (c : Cmd), s.dev.running = true ∧ s.dev.started m.val tag.val gen.val
      0x0904 c ∧ trellisPeerCmdBad c s.dev = false) :=
  ⟨⟨live, by decide +kernel⟩,
   ⟨live.onDev (fun d => { (inDomain 3 true d).setReg Reg.TRL_ANGLE_CTRL 0x8000000F with trl := { d.trl with angleSeq := 255 } }), _,
     by decide +kernel, by decide +kernel, rfl⟩,
   ⟨cmdState 0x0900 0xFFFF [0x40000004, 0], 0, 1, 0, _, by decide +kernel, ⟨rfl, by decide +kernel, by decide +kernel⟩, by decide +kernel⟩,
   ⟨cmdState 0x0900 0xFFFF [0x40000003, 0], 0, 1, 0, _, _, _, by decide +kernel, ⟨rfl, by decide +kernel, by decide +kernel⟩,
     by decide +kernel, by decide +kernel, rfl⟩,
   ⟨(cmdState 0x0900 0xFFFF [0xC0000003, 3]).onDev (fun d => (d.setFld (Reg.MAC_PORTp_CTRL 3) 0 14 9216)), 0, 1, 0, _, _, _,
     by decide +kernel, ⟨rfl, by decide +kernel, by decide +kernel⟩, by decide +kernel, by decide +kernel, rfl⟩,
   ⟨cmdState 0x0901 0xFFFF [0x200, 0], 0, 1, 0, _, _, by decide +kernel, ⟨rfl, by decide +kernel, by decide +kernel⟩, rfl,
     by decide +kernel⟩,
   ⟨cmdState 0x0901 0xFFFF [0x00070000, 1, 0x00090000, 1, 2], 0, 1, 0, _, _, by decide +kernel, ⟨rfl, by decide +kernel,
     by decide +kernel⟩, rfl, by decide +kernel⟩,
   ⟨(cmdState 0x0901 0xFFFF [0x00078000, 1, 0x00090000, 1, 2]).onDev (fun d => d.setReg Reg.TRL_ID 9), 0, 1, 0, _, _, _, _,
     by decide +kernel, ⟨rfl, by decide +kernel, by decide +kernel⟩, rfl, by decide +kernel, by decide +kernel, rfl⟩,
   ⟨cmdState 0x0902 5 [0x00000100, 0, 0, 0, 0], 0, 1, 0, _, _, by decide +kernel, ⟨rfl, by decide +kernel, by decide +kernel⟩, rfl,
     by decide +kernel⟩,
   ⟨cmdState 0x0902 5 [0x000F0003, 0, 0, 1, 0xC0000000], 0, 1, 0, _, _, _, _, by decide +kernel, ⟨rfl, by decide +kernel,
     by decide +kernel⟩, rfl, by decide +kernel, rfl⟩,
   ⟨(cmdState 0x0903 5 []).onDev (fun d => (inDomain 3 true d).setReg (Reg.TRL_PORTt_STATUS 3) 0xA00900FF), 0, 1, 0, _, by decide +kernel,
     ⟨rfl, by decide +kernel, by decide +kernel⟩, by decide +kernel⟩,
   ⟨(cmdState 0x0904 0xFFFF [9, 0, 6]), 0, 1, 0, _, by decide +kernel, ⟨rfl, by decide +kernel, by decide +kernel⟩, by decide +kernel⟩,
   ⟨(cmdState 0x0904 0xFFFF [9, 0, 6]).onDev (inDomain 3 true), 0, 1, 0, _, by decide +kernel, ⟨rfl, by decide +kernel,
     by decide +kernel⟩, by decide +kernel⟩⟩

/-- The hypotheses of `Obligations.PipelinesFailOverAndAreTasted` are met: each clause. -/
theorem test_witness_PipelinesFailOverAndAreTasted :
    (∃ (s : State) (p : Fin 3) (g : _), s.dev.running = true ∧ ((List.range 2).find? (fun g => s.dev.serves p.val g) = some g) ∧ s.dev.fld
      Reg.GLB_PIPE_ROLE 6 2 = 0) ∧
    (∃ (s : State) (p : Fin 3) (g : _), s.dev.running = true ∧ ((List.range 2).find? (fun g => s.dev.serves p.val g) = some g) ∧ s.dev.fld
      Reg.GLB_PIPE_ROLE 6 2 ≠ 0) ∧
    (∃ (s : State) (p : Fin 3), s.dev.running = true ∧ s.dev.serves p.val 0 = false ∧ s.dev.serves p.val 1 = false ∧ s.dev.fld
      Reg.GLB_PIPE_ROLE 4 2 = p.val ∧ s.dev.fld Reg.GLB_PIPE_ROLE 6 2 = 0) ∧
    (∃ (s : State) (p : Fin 3), s.dev.running = true ∧ s.dev.serves p.val 0 = false ∧ s.dev.serves p.val 1 = false ∧ s.dev.fld
      Reg.GLB_PIPE_ROLE 4 2 ≠ p.val) ∧
    (∃ (s : State) (p : Fin 3), s.dev.running = true ∧ s.dev.pipeReset p.val = none ∧ s.dev.fld Reg.GLB_PIPE_ROLE 4 2 ≠ p.val) ∧
    (∃ (s : State) (p : Fin 3), s.dev.running = true ∧ s.dev.pipeReset p.val = none ∧ s.dev.fld Reg.GLB_PIPE_ROLE 4 2 = p.val ∧ (s.dev.fld
      Reg.GLB_PIPE_ROLE 6 2 = 1 ∨ s.dev.fld Reg.GLB_PIPE_ROLE 6 2 = 2)) ∧
    (∃ (s : State) (p : Fin 3), s.dev.running = true ∧ s.dev.serves p.val 0 = false ∧ s.dev.serves p.val 1 = false) ∧
    (∃ (s : State) (p : Fin 3), s.dev.running = true ∧ (s.dev.serves p.val 0 = true ∨ s.dev.serves p.val 1 = true)) :=
  ⟨⟨live, 0, _, by decide +kernel, rfl, by decide +kernel⟩,
   ⟨live.onDev (fun d => d.setFld Reg.GLB_PIPE_ROLE 6 2 3), 1, _, by decide +kernel, rfl, by decide +kernel⟩,
   ⟨live.onDev (fun d => d.setReg Reg.FLT_SEQ 0xFFFFFFFF), 2, by decide +kernel⟩,
   ⟨live.onDev (fun d => { d with flt := { d.flt with failed := [1] } }), 1, by decide +kernel⟩,
   ⟨live, 1, by decide +kernel⟩,
   ⟨live.onDev (fun d => d.setFld Reg.GLB_PIPE_ROLE 6 2 1), 2, by decide +kernel⟩,
   ⟨live, 2, by decide +kernel⟩,
   ⟨live.onDev (fun d => d.setReg (Reg.SCH_NSTATE0 3) 77), 0, by decide +kernel⟩⟩

/-- The hypotheses of `Obligations.ErrorsAreContainedAndAnswered` (ErrorsAreCountedRecordedAndContained) are met: each clause. -/
theorem test_witness_ErrorsAreCountedRecordedAndContained :
    (∃ (s : State) (sl : Fin 8192), s.dev.running = true ∧ 1 ≤ s.dev.sliceState sl.val ∧ s.dev.sliceState sl.val ≤ 4) ∧
    (∃ (s : State), s.dev.running = true ∧ (s.dev.updState = 5 ∨ s.dev.updState = 8)) ∧
    (∃ (s : State), s.dev.running = true ∧ s.dev.updState ≠ 5 ∧ s.dev.updState ≠ 8) :=
  ⟨⟨live.onDev (fun d => d.setSlice 8191 1), 8191, by decide +kernel⟩,
   ⟨live.onDev (fun d => d.setFld Reg.UPD_STATE 28 4 5), by decide +kernel⟩,
   ⟨live, by decide +kernel⟩⟩

/-- The hypotheses of `Obligations.ErrorsAreContainedAndAnswered` (FaultOpcodesAnswer) are met: each clause. -/
theorem test_witness_FaultOpcodesAnswer :
    (∃ (s : State) (m : Fin 16) (tag : Fin 4096) (gen : Fin 16) (c : Cmd), s.dev.running = true ∧ s.dev.started m.val tag.val gen.val
      0x0B01 c ∧ (c.p 1).toNat = 1 ∧ (c.p 0).toNat < s.dev.regN Reg.FLT_SEQ ∧ s.dev.regN Reg.FLT_SEQ ≤ (c.p 0).toNat + 1024) ∧
    (∃ (s : State) (m : Fin 16) (tag : Fin 4096) (gen : Fin 16) (c : Cmd), s.dev.running = true ∧ s.dev.started m.val tag.val gen.val
      0x0B00 c) ∧
    (∃ (s : State) (m : Fin 16) (tag : Fin 4096) (gen : Fin 16) (c : Cmd), s.dev.running = true ∧ s.dev.started m.val tag.val gen.val
      0x0B02 c ∧ c.pf 0 0 5 = 18 ∧ c.pf 1 0 16 = 0 ∧ c.pf 1 16 16 = 4) :=
  ⟨⟨(cmdState 0x0B01 0xFFFF [1023, 1]).onDev (fun d => d.setReg Reg.FLT_SEQ 2047), 0, 1, 0, _, by decide +kernel, ⟨rfl, by decide +kernel,
     by decide +kernel⟩, by decide +kernel⟩,
   ⟨(cmdState 0x0B00 0xFFFF [23]), 0, 1, 0, _, by decide +kernel, ⟨rfl, by decide +kernel, by decide +kernel⟩⟩,
   ⟨(cmdState 0x0B02 0xFFFF [18, 0x00040000]).onDev (fun d => d.setReg (Reg.EBS_COUNTS 3) 7), 0, 1, 0, _, by decide +kernel, ⟨rfl,
     by decide +kernel, by decide +kernel⟩, by decide +kernel⟩⟩

/-- The hypotheses of `Obligations.ResetBootAndSuppliesAct` (ResetAndBootStages) are met: each clause. -/
theorem test_witness_ResetAndBootStages :
    (∃ (s : State), s.dev.pins.rstLow = true) ∧
    (∃ (s : State), s.dev.pins.rstLow = false) ∧
    (∃ (s : State), (s.dev.booting = false ∨ s.dev.stopped = true)) ∧
    (∃ (s : State), s.dev.booting = true ∧ s.dev.stopped = false) ∧
    (∃ (s : State), s.dev.booting = true ∧ s.dev.stopped = false ∧ s.dev.stage? = 0) ∧
    (∃ (s : State), s.dev.booting = true ∧ s.dev.stopped = false ∧ s.dev.stage? = 1) ∧
    (∃ (s : State), s.dev.booting = true ∧ s.dev.stopped = false ∧ s.dev.stage? = 2) ∧
    (∃ (s : State), s.dev.booting = true ∧ s.dev.stopped = false ∧ s.dev.stage? = 3) ∧
    (∃ (s : State), s.dev.booting = true ∧ s.dev.stopped = false ∧ s.dev.stage? = 4) ∧
    (∃ (s : State), s.dev.booting = true ∧ s.dev.stopped = false ∧ s.dev.stage? = 5) ∧
    (∃ (s : State), s.dev.booting = true ∧ s.dev.stopped = false ∧ s.dev.stage? = 6) :=
  ⟨⟨live.onDev (fun d => { d with pins := { d.pins with rstLow := true } }), by decide +kernel⟩,
   ⟨live.onDev (fun d =>
     { (d.setBit Reg.GLB_HALT 0 true).setReg (Reg.LCS_CERT 3) 7 with cry := { d.cry with slots := [(3, { purpose := 1, persist := true, key256 := true, ssci := 0, salt := [], pn := 5, key := [], soft := 0 })] } }),
     by decide +kernel⟩,
   ⟨live, by decide +kernel⟩,
   ⟨bootAt 3, by decide +kernel⟩,
   ⟨(bootAt 0).onDev (fun d => { d with lcs := { d.lcs with copies := [19, 4, 4] } }), by decide +kernel⟩,
   ⟨bootAt 1, by decide +kernel⟩,
   ⟨bootAt 2, by decide +kernel⟩,
   ⟨bootAt 3, by decide +kernel⟩,
   ⟨bootAt 4, by decide +kernel⟩,
   ⟨bootAt 5, by decide +kernel⟩,
   ⟨(bootAt 6).onDev (fun d => { d with now := 65536 * 500000 + 1000000 }), by decide +kernel⟩⟩

/-- The hypotheses of `Obligations.ResetBootAndSuppliesAct` (SuppliesRailsAndPartner) are met: each clause. -/
theorem test_witness_SuppliesRailsAndPartner :
    (∃ (s : State) (g : Fin 4), s.dev.pins.pgLow.contains g.val = true) ∧
    (∃ (s : State) (g : Fin 4), s.dev.pins.pgLow.contains g.val = false ∧ s.dev.pins.rstLow = false ∧ s.dev.stage? = 7) ∧
    (∃ (s : State) (g : Fin 4), s.dev.pins.pgLow.contains g.val = false ∧ s.dev.pins.rstLow = false ∧ s.dev.stage? < 7 ∧ s.dev.bit
      Reg.GLB_BOOT 27 = false) ∧
    (∃ (s : State), s.dev.pins.rstLow = false ∧ s.dev.pins.railsOut = []) ∧
    (∃ (s : State) (g : Fin 4), s.dev.bit Reg.GLB_SUPPLY_FAULT g.val = false) ∧
    (∃ (s : State) (g : Fin 4), s.dev.running = true ∧ s.dev.bit Reg.GLB_SUPPLY_FAULT g.val = true) ∧
    (∃ (s : State), (s.dev.pins.rstLow = true ∨ s.dev.stage? = 0)) ∧
    (∃ (s : State) (r : Fin 9), s.dev.pins.rstLow = false ∧ s.dev.stage? = 7 ∧ s.dev.pins.railsOut.contains r.val = false) ∧
    (∃ (s : State), s.dev.pins.rstLow = false) ∧
    (∃ (s : State), s.dev.pins.rstLow = true) :=
  ⟨⟨live.onDev (fun d => { d with pins := { d.pins with pgLow := [3] } }), 3, by decide +kernel⟩,
   ⟨live, 3, by decide +kernel⟩,
   ⟨bootAt 4, 3, by decide +kernel⟩,
   ⟨live.onDev (fun d => { d.setReg Reg.GLB_SUPPLY_FAULT 15 with pins := { d.pins with pgLow := [3] } }), by decide +kernel⟩,
   ⟨live, 3, by decide +kernel⟩,
   ⟨live.onDev (fun d => d.setReg Reg.GLB_SUPPLY_FAULT 15), 3, by decide +kernel⟩,
   ⟨bootAt 0, by decide +kernel⟩,
   ⟨live, 8, by decide +kernel⟩,
   ⟨live.onDev (fun d => { d.setReg Reg.GLB_SUPPLY_FAULT 15 with pins := { d.pins with railsOut := [8, 1] } }), by decide +kernel⟩,
   ⟨live.onDev (fun d => { d with pins := { d.pins with rstLow := true } }), by decide +kernel⟩⟩

/-- The hypotheses of `Obligations.LifeCycleAndAccess` are met: each clause. -/
theorem test_witness_LifeCycleAndAccess :
    (∃ (s : State) (m : Fin 16) (tag : Fin 4096) (gen : Fin 16) (c : Cmd), s.dev.running = true ∧ s.dev.started m.val tag.val gen.val
      0x0A00 c) ∧
    (∃ (s : State) (m : Fin 16) (tag : Fin 4096) (gen : Fin 16) (c : Cmd), s.dev.running = true ∧ s.dev.started m.val tag.val gen.val
      0x0A01 c ∧ s.dev.authorised c = false) ∧
    ((∀ a b c, Config.ecdsaVerify a b c = true) → ∃ (s : State) (m : Fin 16) (tag : Fin 4096) (gen : Fin 16) (c : Cmd), s.dev.running =
      true ∧ s.dev.started m.val tag.val gen.val 0x0A01 c ∧ s.dev.authorised c = true ∧ s.dev.bit Reg.LCS_VIOLATION 1 = false ∧ c.pf 0 28
      4 = 1) ∧
    ((∀ a b c, Config.ecdsaVerify a b c = true) → ∃ (s : State) (m : Fin 16) (tag : Fin 4096) (gen : Fin 16) (c : Cmd), s.dev.running =
      true ∧ s.dev.started m.val tag.val gen.val 0x0A01 c ∧ s.dev.authorised c = true ∧ s.dev.bit Reg.LCS_VIOLATION 1 = false ∧ c.pf 0 28
      4 ≠ 1) ∧
    (∃ (s : State), s.dev.running = true ∧ s.dev.lcs.resetDue = false) ∧
    (∃ (s : State), s.dev.running = true ∧ s.dev.lcs.resetDue = true) ∧
    (∃ (s : State), s.dev.pins.pgLow.contains 0 = true) ∧
    (∃ (s : State), s.dev.pins.pgLow.contains 0 = false) ∧
    (∃ (s : State) (j : _), s.dev.jtagOpen j = false) ∧
    (∃ (s : State) (ws : List Word), s.dev.running = true ∧ s.dev.jtagOpen (.dbgPacket ws) = true) ∧
    (∃ (s : State), s.dev.pins.rstLow = true) ∧
    (∃ (s : State) (req : _), s.dev.pins.rstLow = false ∧ byteAt req 0 % 128 = 0) ∧
    (∃ (s : State) (req : _), s.dev.pins.rstLow = false ∧ byteAt req 0 % 128 ≠ 0 ∧ s.dev.halted = false ∧ s.dev.bit Reg.GLB_BOOT 27 =
      false) :=
  ⟨⟨(cmdState 0x0A00 0xFFFF []).onDev (fun d => d.setFld Reg.LCS_STATE 28 4 3), 0, 1, 0, _, by decide +kernel, ⟨rfl, by decide +kernel,
     by decide +kernel⟩⟩,
   ⟨(cmdState 0x0A01 0xFFFF (List.replicate 65 0)).onDev (fun d => d.setReg Reg.LCS_AUTH_FAILS 2), 0, 1, 0, _, by decide +kernel, ⟨rfl,
     by decide +kernel, by decide +kernel⟩, by decide +kernel⟩,
   (fun hv => ⟨((cmdState 0x0A01 0xFFFF ([0x12010000, 0, 0, 0, 0] ++ List.replicate 60 0)).onDev (fun d => (((((d.setFld Reg.LCS_STATE 28
     4 1).setReg Reg.LCS_SERIAL_LO 0).setReg Reg.LCS_SERIAL_HI 0).setReg Reg.LCS_NONCE_LO 0).setReg Reg.LCS_NONCE_HI 0))), 0, 1, 0, cmdOf
     0x0A01 0xFFFF ([0x12010000, 0, 0, 0, 0] ++ List.replicate 60 0), by decide +kernel, ⟨by decide +kernel, by decide +kernel,
     by decide +kernel⟩, by unfold Dev.authorised Dev.recordOk recordSigned signedBy; simp only [hv]; decide +kernel, by decide +kernel⟩),
   (fun hv => ⟨((cmdState 0x0A01 0xFFFF ([0x00020005, 0, 0, 0, 0] ++ List.replicate 60 0)).onDev (fun d => (((((d.setFld Reg.LCS_STATE 28
     4 3).setReg Reg.LCS_SERIAL_LO 0).setReg Reg.LCS_SERIAL_HI 0).setReg Reg.LCS_NONCE_LO 0).setReg Reg.LCS_NONCE_HI 0))), 0, 1, 0, cmdOf
     0x0A01 0xFFFF ([0x00020005, 0, 0, 0, 0] ++ List.replicate 60 0), by decide +kernel, ⟨by decide +kernel, by decide +kernel,
     by decide +kernel⟩, by unfold Dev.authorised Dev.recordOk recordSigned signedBy; simp only [hv]; decide +kernel, by decide +kernel⟩),
   ⟨live, by decide +kernel⟩,
   ⟨live.onDev (fun d => { d with lcs := { d.lcs with resetDue := true, copies := [4, 4, 4] } }), by decide +kernel⟩,
   ⟨live.onDev (fun d => { d with pins := { d.pins with pgLow := [0] } }), by decide +kernel⟩,
   ⟨live.onDev (fun d => { d with lcs := { d.lcs with copies := [4, 4, 4] } }), by decide +kernel⟩,
   ⟨live.onDev (fun d => { d with lcs := { d.lcs with latch := some 3 } }), .scan, by decide +kernel⟩,
   ⟨live.onDev (fun d => { d with lcs := { d.lcs with latch := some 4 } }), (List.replicate 16 0), by decide +kernel⟩,
   ⟨live.onDev (fun d => { d with pins := { d.pins with rstLow := true } }), by decide +kernel⟩,
   ⟨live, [0, 0x81, 2], by decide +kernel⟩,
   ⟨live, [0x7E, 0, 0, 0, 0], by decide +kernel⟩⟩

/-- The hypotheses of `Obligations.UpdateOpcodes` are met: each clause. -/
theorem test_witness_UpdateOpcodes :
    (∃ (s : State) (m : Fin 16) (tag : Fin 4096) (gen : Fin 16) (c : Cmd), s.dev.running = true ∧ s.dev.started m.val tag.val gen.val
      0x0A02 c ∧ s.dev.updState ≠ 0) ∧
    (∃ (s : State) (m : Fin 16) (tag : Fin 4096) (gen : Fin 16) (c : Cmd), s.dev.running = true ∧ s.dev.started m.val tag.val gen.val
      0x0A02 c ∧ s.dev.updState = 0 ∧ c.pf 0 31 1 = 1 ∧ c.pf 0 30 1 = 0 ∧ c.p 1 = 0) ∧
    (∃ (s : State) (m : Fin 16) (tag : Fin 4096) (gen : Fin 16) (c : Cmd), s.dev.running = true ∧ s.dev.started m.val tag.val gen.val
      0x0A02 c ∧ s.dev.updState = 0 ∧ c.pf 0 31 1 = 0 ∧ s.dev.upd.erasing = true) ∧
    (∃ (s : State), s.dev.running = true ∧ s.dev.upd.erasing = false) ∧
    (∃ (s : State), s.dev.running = true ∧ s.dev.upd.erasing = true) ∧
    (∃ (s : State) (m : Fin 16) (tag : Fin 4096) (gen : Fin 16) (c : Cmd), s.dev.running = true ∧ s.dev.started m.val tag.val gen.val
      0x0A03 c ∧ updateScheduleBad c s.dev = true) ∧
    (∃ (s : State) (m : Fin 16) (tag : Fin 4096) (gen : Fin 16) (c : Cmd) (room : _) (fits : _), s.dev.running = true ∧ s.dev.started
      m.val tag.val gen.val 0x0A03 c ∧ updateScheduleBad c s.dev = false ∧ s.dev.actRefuse none room fits = none ∧ c.pf 4 0 10 = 0 ∧ c.pf
      0 31 1 = 0 ∧ c.p 3 ≠ 0) ∧
    (∃ (s : State) (m : Fin 16) (tag : Fin 4096) (gen : Fin 16) (c : Cmd), s.dev.running = true ∧ s.dev.started m.val tag.val gen.val
      0x0A04 c ∧ updateConfirmBad c s.dev = true) ∧
    (∃ (s : State) (m : Fin 16) (tag : Fin 4096) (gen : Fin 16) (c : Cmd), s.dev.running = true ∧ s.dev.started m.val tag.val gen.val
      0x0A04 c ∧ updateConfirmBad c s.dev = false ∧ c.pf 1 0 1 = 1) ∧
    (∃ (s : State) (m : Fin 16) (tag : Fin 4096) (gen : Fin 16) (c : Cmd), s.dev.running = true ∧ s.dev.started m.val tag.val gen.val
      0x0A04 c ∧ updateConfirmBad c s.dev = false ∧ c.pf 1 0 1 = 0) ∧
    (∃ (s : State) (m : Fin 16) (tag : Fin 4096) (gen : Fin 16) (c : Cmd), s.dev.running = true ∧ s.dev.started m.val tag.val gen.val
      0x0A05 c ∧ s.dev.rf.expert = []) ∧
    (∃ (s : State) (m : Fin 16) (tag : Fin 4096) (gen : Fin 16) (c : Cmd) (body : _), s.dev.running = true ∧ s.dev.started m.val tag.val
      gen.val 0x0A06 c ∧ c.p 8 = 2 ∧ body = [1, 1] ++ wordsOf 12 (Config.sha384 Config.bootRom) ++ [s.dev.reg Reg.LCS_SERIAL_LO, s.dev.reg
      Reg.LCS_SERIAL_HI]) :=
  ⟨⟨(cmdState 0x0A02 0xFFFF [0x80000000, 0, 7]).onDev (fun d => updAt 4 0 none d), 0, 1, 0, _, by decide +kernel, ⟨rfl, by decide +kernel,
     by decide +kernel⟩, by decide +kernel⟩,
   ⟨(cmdState 0x0A02 0xFFFF [0x80000000, 0, 7]), 0, 1, 0, _, by decide +kernel, ⟨rfl, by decide +kernel, by decide +kernel⟩,
     by decide +kernel⟩,
   ⟨(cmdState 0x0A02 0xFFFF [0x00000000, 4096, 7]).onDev (fun d => { d with upd := { d.upd with erasing := true } }), 0, 1, 0, _,
     by decide +kernel, ⟨rfl, by decide +kernel, by decide +kernel⟩, by decide +kernel⟩,
   ⟨live, by decide +kernel⟩,
   ⟨live.onDev (fun d => { d with upd := { d.upd with erasing := true } }), by decide +kernel⟩,
   ⟨(cmdState 0x0A03 0xFFFF [0x100, 0, 0, 0, 0]), 0, 1, 0, _, by decide +kernel, ⟨rfl, by decide +kernel, by decide +kernel⟩,
     by decide +kernel⟩,
   ⟨(cmdState 0x0A03 0xFFFF [0, 3, 4, 9, 0]).onDev (fun d => d.setBank d.inactive ⟨2, [], []⟩), 0, 1, 0, _, true, true, by decide +kernel,
     ⟨rfl, by decide +kernel, by decide +kernel⟩, by decide +kernel⟩,
   ⟨(cmdState 0x0A04 0xFFFF [9, 0]), 0, 1, 0, _, by decide +kernel, ⟨rfl, by decide +kernel, by decide +kernel⟩, by decide +kernel⟩,
   ⟨(cmdState 0x0A04 0xFFFF [9, 1]).onDev (fun d => (updAt 6 0 none d).setReg Reg.UPD_TOKEN 9), 0, 1, 0, _, by decide +kernel, ⟨rfl,
     by decide +kernel, by decide +kernel⟩, by decide +kernel⟩,
   ⟨(cmdState 0x0A04 0xFFFF [9, 0]).onDev (fun d => (updAt 7 0 none d).setReg Reg.UPD_TOKEN 9), 0, 1, 0, _, by decide +kernel, ⟨rfl,
     by decide +kernel, by decide +kernel⟩, by decide +kernel⟩,
   ⟨(cmdState 0x0A05 0xFFFF []).onDev (fun d => { d with upd := { d.upd with check := [(1, 2)] } }), 0, 1, 0, _, by decide +kernel, ⟨rfl,
     by decide +kernel, by decide +kernel⟩, by decide +kernel⟩,
   ⟨(cmdState 0x0A06 0xFFFF [0, 0, 0, 0, 0, 0, 0, 0, 2]), 0, 1, 0, _, _, by decide +kernel, ⟨rfl, by decide +kernel, by decide +kernel⟩,
     by decide +kernel, rfl⟩⟩

/-- The hypotheses of `Obligations.ActivationsRunTheirCourse` (ActivationAcrossMembers) are met: each clause. -/
theorem test_witness_ActivationAcrossMembers :
    (∃ (s : State) (g : TrlMsg) (t : Dev) (room : _) (fits : _) (r : _), s.dev.running = true ∧ s.dev.takeMsg 0x50 = some (g, t) ∧
      t.actRefuse (some (g.f 1 0 16)) room fits = some r) ∧
    (∃ (s : State) (g : TrlMsg) (t : Dev) (room : _) (fits : _), s.dev.running = true ∧ s.dev.takeMsg 0x50 = some (g, t) ∧ t.actRefuse
      (some (g.f 1 0 16)) room fits = none) ∧
    (∃ (s : State) (g : TrlMsg) (t : Dev) (a : _), s.dev.running = true ∧ s.dev.takeMsg 0x51 = some (g, t) ∧ s.dev.ownAct (g.w 0).toNat =
      some a ∧ a.committed = false ∧ (∃ x ∈ a.members, x.id ≠ g.src ∧ x.ready = false)) ∧
    (∃ (s : State) (g : TrlMsg) (t : Dev) (a : _), s.dev.running = true ∧ s.dev.takeMsg 0x51 = some (g, t) ∧ s.dev.ownAct (g.w 0).toNat =
      some a ∧ a.committed = false ∧ (∀ x ∈ a.members, x.id ≠ g.src → x.ready = true)) ∧
    (∃ (s : State) (g : TrlMsg) (t : Dev) (a : _), s.dev.running = true ∧ s.dev.takeMsg 0x52 = some (g, t) ∧ s.dev.ownAct (g.w 0).toNat =
      some a ∧ a.committed = false) ∧
    (∃ (s : State) (g : TrlMsg) (t : Dev) (a : _), s.dev.running = true ∧ s.dev.takeMsg 0x53 = some (g, t) ∧ s.dev.memberAct g.src (g.w
      0).toNat = some a ∧ s.dev.updState = 3 ∧ s.dev.time ≤ cat64 (g.w 2) (g.w 1)) ∧
    (∃ (s : State) (g : TrlMsg) (t : Dev) (a : _), s.dev.running = true ∧ s.dev.takeMsg 0x53 = some (g, t) ∧ s.dev.memberAct g.src (g.w
      0).toNat = some a ∧ s.dev.updState = 3 ∧ cat64 (g.w 2) (g.w 1) < s.dev.time) ∧
    (∃ (s : State) (g : TrlMsg) (t : Dev), s.dev.running = true ∧ s.dev.takeMsg 0x54 = some (g, t) ∧ s.dev.memberAct g.src (g.w 0).toNat =
      none) ∧
    (∃ (s : State) (g : TrlMsg) (t : Dev) (a : _), s.dev.running = true ∧ s.dev.takeMsg 0x54 = some (g, t) ∧ s.dev.memberAct g.src (g.w
      0).toNat = some a ∧ (s.dev.updState = 3 ∨ s.dev.updState = 4)) ∧
    (∃ (s : State) (g : TrlMsg) (t : Dev) (a : _), s.dev.running = true ∧ s.dev.takeMsg 0x55 = some (g, t) ∧ s.dev.memberAct g.src (g.w
      0).toNat = some a ∧ g.f 1 0 16 ≠ 0x4000) ∧
    (∃ (s : State) (g : TrlMsg) (t : Dev) (a : _), s.dev.running = true ∧ s.dev.takeMsg 0x55 = some (g, t) ∧ s.dev.memberAct g.src (g.w
      0).toNat = some a ∧ g.f 1 0 16 = 0x4000 ∧ s.dev.updState = 6) ∧
    (∃ (s : State), s.dev.running = true ∧ s.dev.updState ≠ 3) ∧
    (∃ (s : State) (a : _), s.dev.running = true ∧ s.dev.upd.act = some a ∧ a.origin.isSome = true ∧ s.dev.updState = 3) :=
  ⟨⟨live.withMsg 0x50 [0, 0, 0, 7, 0, 0, 0, 0], _, _, true, true, _, by decide +kernel, rfl, rfl⟩,
   ⟨((live.withMsg 0x50 [0, 0, 0, 7, 0, 0, 0, 0])).onDev (fun d => d.setBank d.inactive ⟨2, [(3, 0)], []⟩), _, _, true, true,
     by decide +kernel, rfl, by decide +kernel⟩,
   ⟨((live.withMsg 0x51 [0, 0, 0, 7])).onDev (updAt 3 0 (some ⟨7, none, none, none, [⟨9, false, none, false⟩, ⟨8, false, none, false⟩],
     false, false⟩)), _, _, _, by decide +kernel, rfl, rfl, by decide +kernel⟩,
   ⟨((live.withMsg 0x51 [0, 0, 0, 7])).onDev (updAt 3 0 (some ⟨7, none, none, none, [⟨9, false, none, false⟩, ⟨8, true, none, false⟩],
     false, false⟩)), _, _, _, by decide +kernel, rfl, rfl, by decide +kernel⟩,
   ⟨((cmdState 0x0A03 0xFFFF []).withMsg 0x52 [0, 0, 0, 7, 0, 0, 0, 4]).onDev (updAt 3 0 (some ⟨7, none, some (0, 1, 0), none, [⟨9, false,
     none, false⟩], false, false⟩)), _, _, _, by decide +kernel, rfl, rfl, by decide +kernel⟩,
   ⟨((live.withMsg 0x53 [0, 0, 0, 7, 0, 0, 0, 1, 0, 0, 0, 0])).onDev (updAt 3 0 (some ⟨7, some 9, none, none, [], false, false⟩)), _, _,
     _, by decide +kernel, rfl, rfl, by decide +kernel⟩,
   ⟨((live.withMsg 0x53 [0, 0, 0, 7, 0, 0, 0, 0, 0, 0, 0, 1])).onDev (fun d =>
     { updAt 3 0 (some ⟨7, some 9, none, none, [], false, false⟩) d with ptp := 2 }), _, _, _, by decide +kernel, rfl, rfl,
     by decide +kernel⟩,
   ⟨((live.withMsg 0x54 [0, 0, 0, 7])), _, _, by decide +kernel, rfl, by decide +kernel⟩,
   ⟨((live.withMsg 0x54 [0, 0, 0, 7])).onDev (updAt 4 0 (some ⟨7, some 9, none, none, [], false, false⟩)), _, _, _, by decide +kernel,
     rfl, rfl, by decide +kernel⟩,
   ⟨((live.withMsg 0x55 [0, 0, 0, 7, 0, 0, 0, 1])).onDev (updAt 6 0 (some ⟨7, some 9, none, none, [], false, false⟩)), _, _, _,
     by decide +kernel, rfl, rfl, by decide +kernel⟩,
   ⟨((live.withMsg 0x55 [0, 0, 0, 7, 0, 0, 0x40, 0])).onDev (updAt 6 0 (some ⟨7, some 9, none, none, [], false, false⟩)), _, _, _,
     by decide +kernel, rfl, rfl, by decide +kernel⟩,
   ⟨live, by decide +kernel⟩,
   ⟨live.onDev (updAt 3 0 (some ⟨7, some 9, none, none, [], false, false⟩)), _, by decide +kernel, rfl, by decide +kernel⟩⟩

/-- The hypotheses of `Obligations.ActivationsRunTheirCourse` (ActivationRunsItsCourse) are met: each clause. -/
theorem test_witness_ActivationRunsItsCourse :
    (∃ (s : State), s.dev.running = true ∧ s.dev.updState ≠ 4) ∧
    (∃ (s : State) (a : _), s.dev.running = true ∧ s.dev.upd.act = some a ∧ a.at_.isSome = true ∧ s.dev.updState = 4) ∧
    (∃ (s : State), s.dev.running = true ∧ s.dev.updState ≠ 5) ∧
    (∃ (s : State), s.dev.running = true ∧ s.dev.updState = 5 ∧ s.dev.upd.phase = 0) ∧
    (∃ (s : State) (r : _) (is : _), s.dev.running = true ∧ s.dev.updState = 5 ∧ s.dev.upd.phase = 1 ∧ s.dev.bankCheck s.dev.inactive =
      (r, is)) ∧
    (∃ (s : State), s.dev.running = true ∧ (s.dev.updHolds = false ∨ s.dev.upd.phase ≠ 2)) ∧
    (∃ (s : State), s.dev.running = true ∧ s.dev.updHolds = true ∧ s.dev.upd.phase = 2) ∧
    (∃ (s : State), s.dev.running = true ∧ s.dev.updState ≠ 5 ∧ s.dev.updState ≠ 8) ∧
    (∃ (s : State), s.dev.running = true ∧ s.dev.updState = 5 ∧ s.dev.upd.phase = 2 ∧ s.dev.upd.act = none) ∧
    (∃ (s : State), s.dev.running = true ∧ s.dev.updState = 8 ∧ s.dev.upd.act = none) :=
  ⟨⟨live, by decide +kernel⟩,
   ⟨live.onDev (fun d => { updAt 4 0 (some ⟨7, some 9, none, some 5, [], true, false⟩) d with ptp := 0xFFFFFFFFFFFFFFFF }), _,
     by decide +kernel, rfl, by decide +kernel⟩,
   ⟨live, by decide +kernel⟩,
   ⟨(cmdState 0x0A03 0xFFFF []).onDev (updAt 5 0 none), by decide +kernel⟩,
   ⟨live.onDev (fun d => updAt 5 1 none (d.setBank d.inactive ⟨2, [(3, 0)], []⟩)), _, _, by decide +kernel, by decide +kernel,
     by decide +kernel, rfl⟩,
   ⟨live, by decide +kernel⟩,
   ⟨live.onDev (updAt 8 2 none), by decide +kernel⟩,
   ⟨live, by decide +kernel⟩,
   ⟨live.onDev (updAt 5 2 none), by decide +kernel⟩,
   ⟨live.onDev (updAt 8 2 none), by decide +kernel⟩⟩

/-- The hypotheses of `Obligations.SpdmResponderAnswers` are met: each clause. -/
theorem test_witness_SpdmResponderAnswers :
    (∃ (s : State) (req : List Byte) (i : _) (code : _), s.dev.running = true ∧ (i, code) ∈ [(Instr.getVersion req, 0x84),
      (.getCapabilities req, 0xE1), (.negotiateAlgorithms req, 0xE3), (.getDigests req, 0x81), (.getCertificate req, 0x82), (.challenge
      req, 0x83), (.getMeasurements req, 0xE0)] ∧ byteAt req 1 ≠ code) ∧
    (∃ (s : State) (req : List Byte), s.dev.running = true ∧ byteAt req 0 = 0x10 ∧ byteAt req 1 = 0x84) ∧
    (∃ (s : State) (req : List Byte), s.dev.running = true ∧ byteAt req 0 = 0x13 ∧ byteAt req 1 = 0xE1 ∧ s.dev.lcs.spdm = 1) ∧
    (∃ (s : State) (req : List Byte), s.dev.running = true ∧ byteAt req 0 = 0x13 ∧ byteAt req 1 = 0xE3 ∧ s.dev.lcs.spdm = 2 ∧ leAt req 8 4
      &&& 0x80 ≠ 0 ∧ leAt req 12 4 &&& 2 ≠ 0) ∧
    (∃ (s : State) (req : List Byte), s.dev.running = true ∧ s.dev.lcs.spdm = 3 ∧ byteAt req 0 = 0x13 ∧ byteAt req 1 = 0x81) ∧
    (∃ (s : State) (req : List Byte), s.dev.running = true ∧ s.dev.lcs.spdm = 3 ∧ byteAt req 0 = 0x13 ∧ byteAt req 1 = 0x82 ∧ byteAt req 2
      % 16 = 0 ∧ byteAt req 3 % 2 = 0 ∧ leAt req 4 2 ≤ s.dev.certChain.length) ∧
    (∃ (s : State) (req : List Byte), s.dev.running = true ∧ s.dev.lcs.spdm = 3 ∧ byteAt req 0 = 0x13 ∧ byteAt req 1 = 0x83 ∧ byteAt req 2
      = 0 ∧ byteAt req 3 = 0 ∧ req.length = 44) ∧
    (∃ (s : State) (req : List Byte), s.dev.running = true ∧ s.dev.lcs.spdm = 3 ∧ byteAt req 0 = 0x13 ∧ byteAt req 1 = 0xE0 ∧ byteAt req 2
      % 2 = 0 ∧ byteAt req 3 = 0 ∧ (slice req 4 8).length = 8) :=
  ⟨⟨live, [0x13, 0x82], .getDigests [0x13, 0x82], 0x81, by decide +kernel, by simp, by decide +kernel⟩,
   ⟨live, [0x10, 0x84], by decide +kernel⟩,
   ⟨live.onDev (fun d => { d with lcs := { d.lcs with spdm := 1 } }), [0x13, 0xE1], by decide +kernel⟩,
   ⟨live.onDev (fun d => { d with lcs := { d.lcs with spdm := 2 } }), ([0x13, 0xE3, 0, 0, 0, 0, 0, 0, 0x80, 0, 0, 0, 2, 0, 0, 0]),
     by decide +kernel⟩,
   ⟨live.onDev (fun d => { d with lcs := { d.lcs with spdm := 3 } }), [0x13, 0x81], by decide +kernel⟩,
   ⟨live.onDev (fun d => { d with lcs := { d.lcs with spdm := 3 } }), [0x13, 0x82, 0, 0, 4, 0, 8, 0], by decide +kernel⟩,
   ⟨live.onDev (fun d => { d with lcs := { d.lcs with spdm := 3 } }), ([0x13, 0x83, 0, 0] ++ List.replicate 40 0), by decide +kernel⟩,
   ⟨live.onDev (fun d => { d with lcs := { d.lcs with spdm := 3 } }), ([0x13, 0xE0, 0, 0] ++ List.replicate 8 0), by decide +kernel⟩⟩

/-- The hypotheses of `Obligations.PldmFirmwareDeviceUpdates` are met: each clause. -/
theorem test_witness_PldmFirmwareDeviceUpdates :
    (∃ (s : State), s.dev.running = true ∧ s.dev.upd.pldm = true) ∧
    (∃ (s : State), s.dev.running = true ∧ s.dev.upd.pldm = false ∧ s.dev.updState = 0) ∧
    (∃ (s : State), s.dev.running = true ∧ s.dev.upd.pldm = false) ∧
    (∃ (s : State) (offset : _) (data : List Word), s.dev.running = true ∧ s.dev.upd.pldm = true ∧ (offset % 4 ≠ 0 ∨ bankSize < offset + 4
      * data.length)) ∧
    (∃ (s : State) (data : List Word), s.dev.running = true ∧ s.dev.upd.pldm = true ∧ s.dev.updState = 0 ∧ 4 * data.length ≤ 32 ∧ 0 <
      data.length) ∧
    (∃ (s : State) (room : _) (fits : _), s.dev.running = true ∧ s.dev.upd.pldm = true ∧ s.dev.actRefuse none room fits = none) ∧
    (∃ (s : State), s.dev.recovering = true ∧ s.dev.upd.pldm = false) ∧
    (∃ (s : State) (offset : _) (data : List Word), s.dev.recovering = true ∧ s.dev.upd.pldm = true ∧ offset % 4 = 0 ∧ offset + 4 *
      data.length ≤ bankSize) ∧
    (∃ (s : State) (is : _), s.dev.recovering = true ∧ s.dev.upd.pldm = true ∧ s.dev.bankCheck 0 = (0, is) ∧ s.dev.inForce = 0) ∧
    (∃ (s : State) (r : _) (is : _), s.dev.recovering = true ∧ s.dev.upd.pldm = true ∧ s.dev.bankCheck 0 = (r, is) ∧ r ≠ 0) :=
  ⟨⟨live.onDev (fun d => { d with upd := { d.upd with pldm := true } }), by decide +kernel⟩,
   ⟨live, by decide +kernel⟩,
   ⟨live, by decide +kernel⟩,
   ⟨live.onDev (fun d => { d with upd := { d.upd with pldm := true } }), 2, [1], by decide +kernel⟩,
   ⟨live.onDev (fun d => { d with upd := { d.upd with pldm := true } }), [1], by decide +kernel⟩,
   ⟨live.onDev (fun d => { d.setBank d.inactive ⟨2, [], []⟩ with upd := { (d.setBank d.inactive ⟨2, [], []⟩).upd with pldm := true } }),
     true, true, by decide +kernel⟩,
   ⟨(bootAt 1).onDev (fun d => { d with upd := { d.upd with recovery := true } }), by decide +kernel⟩,
   ⟨(bootAt 1).onDev (fun d => { d with upd := { d.upd with recovery := true, pldm := true } }), (bankSize - 4), [7], by decide +kernel⟩,
   ⟨(bootAt 1).onDev (fun d => { d with upd := { d.upd with recovery := true, pldm := true } }), _, by decide +kernel, by decide +kernel,
     rfl, by decide +kernel⟩,
   ⟨(bootAt 1).onDev (fun d => { d with upd := { d.upd with recovery := true, pldm := true, banks := [(0, ⟨1, [], []⟩)] } }), _, _,
     by decide +kernel, by decide +kernel, rfl, by decide +kernel⟩⟩

/-- The hypotheses of `Obligations.SqRegistersCountTheirEvents` are met: each clause. -/
theorem test_witness_SqRegistersCountTheirEvents :
    (∃ (bits : List Nat), (∀ b ∈ bits, b < 24) ∧ bits.Nodup) ∧
    (∃ (bits : List Nat) (b : _), (∀ b ∈ bits, b < 24) ∧ bits.Nodup ∧ b < 24) ∧
    (∃ (s : State) (k : Nat) (v : Word), s.dev.running = true ∧ accOf k = some .sq ∧ Word.fld v 24 8 ≠ s.dev.fld k 24 8) ∧
    (∃ (s : State) (k : Nat) (v : Word), s.dev.running = true ∧ accOf k = some .sq ∧ Word.fld v 24 8 = s.dev.fld k 24 8) :=
  ⟨⟨[0, 23], by decide +kernel⟩,
   ⟨[0, 23], 23, by decide +kernel⟩,
   ⟨live.onDev (fun d => d.sqSet Reg.GLB_EVT_STATUS [0, 2]), Reg.GLB_EVT_STATUS, 0x01000001, by decide +kernel⟩,
   ⟨live.onDev (fun d => d.sqSet Reg.GLB_EVT_STATUS [0, 2]), Reg.GLB_EVT_STATUS, 0x02000001, by decide +kernel⟩⟩

/-- The hypotheses of `Obligations.FreerunAdvancesAsItsLossPolicySays` are met: each clause. -/
theorem test_witness_FreerunAdvancesAsItsLossPolicySays :
    (∃ (s : State) (n : Fin 4) (policy : Nat) (rate : Nat), s.pending = [] ∧ s.dev.running = true ∧ s.dev.refState n.val = 5 ∧ s.dev.steer
      n.val = n.val ∧ (s.dev.gref n.val).err = 0 ∧ (∀ m, m < 4 → s.dev.wrapsWithin m 1 = false) ∧ s.dev.fld (Reg.GAU_REFn_CTRL n.val) 30 2
      = policy ∧ rate = (if policy = 2 then 0 else if policy = 1 then (if s.dev.bit (Reg.GAU_REFn_CTRL n.val) 28 then 60000000 else
      50000000) else (s.dev.gref n.val).freq)) ∧
    (∃ (s : State) (n : Fin 4) (policy : Nat) (rate : Nat) (c : Fin 64), s.pending = [] ∧ s.dev.running = true ∧ s.dev.refState n.val = 5
      ∧ s.dev.steer n.val = n.val ∧ (s.dev.gref n.val).err = 0 ∧ (∀ m, m < 4 → s.dev.wrapsWithin m 1 = false) ∧ s.dev.fld
      (Reg.GAU_REFn_CTRL n.val) 30 2 = policy ∧ rate = (if policy = 2 then 0 else if policy = 1 then (if s.dev.bit (Reg.GAU_REFn_CTRL
      n.val) 28 then 60000000 else 50000000) else (s.dev.gref n.val).freq) ∧ policy = 2 ∧ s.dev.chanRef? c.val = some n.val) :=
  ⟨⟨live.onDev (fun d => ((d.setFld (Reg.GAU_REFn_CTRL 3) 28 4 5).setRefState 3 5)), 3, 1, 60000000, by decide +kernel⟩,
   ⟨live.onDev (fun d => ((d.setFld (Reg.GAU_REFn_CTRL 3) 30 2 2).setRefState 3 5).setReg (Reg.GAU_CHANc_CTRL 7) 7), 3, 2, 0, (7 : Fin
     64), by decide +kernel⟩⟩

/-- The hypotheses of `Obligations.SendArrivesAsAnInboundMessage` are met: one state. -/
theorem test_witness_SendArrivesAsAnInboundMessage :
    ∃ (s : State) (g : TrlMsg) (t : Dev) (h : List Word) (ws : List Word) (n : Nat), s.dev.running = true ∧ s.dev.takeMsg 0x71 = some (g,
      t) ∧ wordsOf 61 g.body = h ++ ws ∧ h.length = 1 ∧ n = Word.fld (wordAt h 0) 16 8 ∧ 1 ≤ n ∧ n ≤ 60 :=
  ⟨live.withMsg 0x71 [9, 2, 60, 0, 4, 3, 2, 1], _, _, [_], _, 60, by decide +kernel, rfl, rfl, by decide +kernel, rfl, by decide +kernel⟩

/-- The hypotheses of `Obligations.SliceFaultCorksUntilReset` are met: each clause. -/
theorem test_witness_SliceFaultCorksUntilReset :
    (∃ (s : State) (sl : Fin 8192), s.dev.running = true ∧ s.dev.sliceState sl.val = 1 ∧ s.dev.fld (Reg.SLC_SLICE_STATUS sl.val 0) 25 4 =
      0 ∧ s.dev.sliceChans sl.val = []) ∧
    (∃ (s : State) (sl : Fin 8192) (m : Fin 16) (tag : Fin 4096) (gen : Fin 16) (c : Cmd), s.dev.running = true ∧ c.slice = sl.val ∧
      sl.val ∈ s.dev.slc.contained ∧ s.dev.started m.val tag.val gen.val 0x0105 c ∧ s.dev.sliceState sl.val ≠ 1) ∧
    (∃ (s : State) (sl : Fin 8192) (m : Fin 16) (tag : Fin 4096) (gen : Fin 16) (c : Cmd), s.dev.running = true ∧ c.slice = sl.val ∧
      sl.val ∈ s.dev.slc.contained ∧ s.dev.started m.val tag.val gen.val 0x0101 c ∧ (s.dev.sliceState sl.val = 1 ∨ s.dev.sliceState sl.val
      = 2)) ∧
    (∃ (s : State) (sl : Fin 8192) (m : Fin 16) (tag : Fin 4096) (gen : Fin 16) (c : Cmd), s.dev.running = true ∧ c.slice = sl.val ∧
      sl.val ∈ s.dev.slc.contained ∧ s.dev.started m.val tag.val gen.val 0x0102 c ∧ s.dev.sliceState sl.val = 4) :=
  ⟨⟨live.onDev (fun d => d.setSlice 8191 1), 8191, by decide +kernel⟩,
   ⟨((cmdState 0x0105 8191 []).onDev (fun d => { (d.setSlice 8191 2) with slc := { d.slc with contained := [8191] } })), 8191, 0, 1, 0,
     cmdOf 0x0105 8191 [], by decide +kernel, by decide +kernel, by decide +kernel, ⟨by decide +kernel, by decide +kernel,
     by decide +kernel⟩, by decide +kernel⟩,
   ⟨((cmdState 0x0101 8191 []).onDev (fun d => { (d.setSlice 8191 2) with slc := { d.slc with contained := [8191] } })), 8191, 0, 1, 0,
     cmdOf 0x0101 8191 [], by decide +kernel, by decide +kernel, by decide +kernel, ⟨by decide +kernel, by decide +kernel,
     by decide +kernel⟩, by decide +kernel⟩,
   ⟨((cmdState 0x0102 8191 []).onDev (fun d => { (d.setSlice 8191 4) with slc := { d.slc with contained := [8191] } })), 8191, 0, 1, 0,
     cmdOf 0x0102 8191 [], by decide +kernel, by decide +kernel, by decide +kernel, ⟨by decide +kernel, by decide +kernel,
     by decide +kernel⟩, by decide +kernel⟩⟩

/-- The hypotheses of `Obligations.DeviceResetPutsADomainBack` are met: each clause. -/
theorem test_witness_DeviceResetPutsADomainBack :
    (∃ (s : State) (m : Fin 16) (tag : Fin 4096) (gen : Fin 16) (c : Cmd), s.dev.running = true ∧ s.dev.started m.val tag.val gen.val
      0x0009 c ∧ deviceResetBad c s.dev = true) ∧
    (∃ (s : State) (m : Fin 16) (tag : Fin 4096) (gen : Fin 16) (c : Cmd), s.dev.running = true ∧ s.dev.started m.val tag.val gen.val
      0x0009 c ∧ deviceResetBad c s.dev = false ∧ c.pf 0 0 8 = 0) ∧
    (∃ (s : State) (m : Fin 16) (tag : Fin 4096) (gen : Fin 16) (c : Cmd), s.dev.running = true ∧ s.dev.started m.val tag.val gen.val
      0x0009 c ∧ deviceResetBad c s.dev = false ∧ c.pf 0 0 8 = 3 ∧ s.dev.bit Reg.CRY_ENGINES (16 + c.pf 0 8 8) = true) ∧
    (∃ (s : State) (m : Fin 16) (tag : Fin 4096) (gen : Fin 16) (c : Cmd), s.dev.running = true ∧ s.dev.started m.val tag.val gen.val
      0x0009 c ∧ deviceResetBad c s.dev = false ∧ c.pf 0 0 8 = 3 ∧ s.dev.bit Reg.CRY_ENGINES (16 + c.pf 0 8 8) = false) ∧
    (∃ (s : State) (m : Fin 16) (tag : Fin 4096) (gen : Fin 16) (c : Cmd), s.dev.running = true ∧ s.dev.started m.val tag.val gen.val
      0x0009 c ∧ deviceResetBad c s.dev = false ∧ c.pf 0 0 8 = 2) ∧
    (∃ (s : State) (m : Fin 16) (tag : Fin 4096) (gen : Fin 16) (c : Cmd), s.dev.running = true ∧ s.dev.started m.val tag.val gen.val
      0x0009 c ∧ deviceResetBad c s.dev = false ∧ c.pf 0 0 8 = 4) ∧
    (∃ (s : State) (m : Fin 16) (tag : Fin 4096) (gen : Fin 16) (c : Cmd), s.dev.running = true ∧ s.dev.started m.val tag.val gen.val
      0x0009 c ∧ deviceResetBad c s.dev = false ∧ c.pf 0 0 8 = 5) ∧
    (∃ (s : State) (m : Fin 16) (tag : Fin 4096) (gen : Fin 16) (c : Cmd), s.dev.running = true ∧ s.dev.started m.val tag.val gen.val
      0x0009 c ∧ deviceResetBad c s.dev = false ∧ c.pf 0 0 8 = 6) ∧
    (∃ (s : State) (m : Fin 16) (tag : Fin 4096) (gen : Fin 16) (c : Cmd), s.dev.running = true ∧ s.dev.started m.val tag.val gen.val
      0x0009 c ∧ deviceResetBad c s.dev = false ∧ c.pf 0 0 8 = 7) ∧
    (∃ (s : State) (m : Fin 16) (tag : Fin 4096) (gen : Fin 16) (c : Cmd), s.dev.running = true ∧ s.dev.started m.val tag.val gen.val
      0x0009 c ∧ deviceResetBad c s.dev = false ∧ c.pf 0 0 8 = 8) :=
  ⟨⟨cmdState 0x0009 0xFFFF [9, 0], 0, 1, 0, _, by decide +kernel, ⟨rfl, by decide +kernel, by decide +kernel⟩, by decide +kernel⟩,
   ⟨cmdState 0x0009 0xFFFF [0, 0], 0, 1, 0, _, by decide +kernel, ⟨rfl, by decide +kernel, by decide +kernel⟩, by decide +kernel⟩,
   ⟨(cmdState 0x0009 0xFFFF [0x303, 0]).onDev (fun d => d.setBit Reg.CRY_ENGINES 19 true), 0, 1, 0, _, by decide +kernel, ⟨rfl,
     by decide +kernel, by decide +kernel⟩, by decide +kernel⟩,
   ⟨(cmdState 0x0009 0xFFFF [0x303, 0]), 0, 1, 0, _, by decide +kernel, ⟨rfl, by decide +kernel, by decide +kernel⟩, by decide +kernel⟩,
   ⟨(cmdState 0x0009 0xFFFF [0x302, 0]), 0, 1, 0, _, by decide +kernel, ⟨rfl, by decide +kernel, by decide +kernel⟩, by decide +kernel⟩,
   ⟨(cmdState 0x0009 0xFFFF [0x3F04, 0]), 0, 1, 0, _, by decide +kernel, ⟨rfl, by decide +kernel, by decide +kernel⟩, by decide +kernel⟩,
   ⟨(cmdState 0x0009 0xFFFF [5, 0]), 0, 1, 0, _, by decide +kernel, ⟨rfl, by decide +kernel, by decide +kernel⟩, by decide +kernel⟩,
   ⟨(cmdState 0x0009 0xFFFF [6, 0]), 0, 1, 0, _, by decide +kernel, ⟨rfl, by decide +kernel, by decide +kernel⟩, by decide +kernel⟩,
   ⟨(cmdState 0x0009 0xFFFF [7, 0]), 0, 1, 0, _, by decide +kernel, ⟨rfl, by decide +kernel, by decide +kernel⟩, by decide +kernel⟩,
   ⟨(cmdState 0x0009 0xFFFF [8, 0]).onDev (fun d => d.setBit (Reg.MAC_MGT_RXSLOT (512 * 31)) 31 true), 0, 1, 0, _, by decide +kernel,
     ⟨rfl, by decide +kernel, by decide +kernel⟩, by decide +kernel⟩⟩

/-- The hypotheses of `Obligations.HaltResetTakesItsKeyAlone` are met: each clause. -/
theorem test_witness_HaltResetTakesItsKeyAlone :
    (∃ (s : State) (v : Word), s.dev.halted = true ∧ s.dev.pins.rstLow = false ∧ v = 0x5A170001#32) ∧
    (∃ (s : State) (v : Word), (s.dev.halted = false ∨ s.dev.pins.rstLow = true ∨ v ≠ 0x5A170001#32)) :=
  ⟨⟨live.onDev (fun d => d.setBit Reg.GLB_HALT 0 true), 0x5A170001, by decide +kernel⟩,
   ⟨live.onDev (fun d => d.setBit Reg.GLB_HALT 0 true), 0x5A170000, by decide +kernel⟩⟩

/-- The hypotheses of `Obligations.InResetNothingRuns` are met: one state. -/
theorem test_witness_InResetNothingRuns :
    ∃ (s : State), s.dev.pins.rstLow = true ∧ (∀ tid hold, s.pending.head? ≠ some (.sysRstDeassert tid hold)) :=
  ⟨({ State.reset with pending := [.sysRstAssert] }).onDev (fun d => { d with pins := { d.pins with rstLow := true } }),
    by decide +kernel⟩

/-- The hypotheses of `Obligations.HaltHoldsUntilReset` are met: one state. -/
theorem test_witness_HaltHoldsUntilReset :
    ∃ (s : State), s.dev.halted = true ∧ s.dev.stage? = 7 ∧ s.dev.pins.rstLow = false ∧ s.pending.head?.all keepsHalt = true :=
  ⟨{ (live.onDev (fun d => d.setBit Reg.GLB_HALT 0 true)) with pending := [.topUp] }, by decide +kernel⟩

/-- The hypotheses of `Obligations.SliceLimitTakesItsValueAtOnce` are met: one state. -/
theorem test_witness_SliceLimitTakesItsValueAtOnce :
    ∃ (s : State) (m : Fin 16) (tag : Fin 4096) (gen : Fin 16) (c : Cmd), s.dev.running = true ∧ s.dev.rf.stg = [] ∧ s.dev.started m.val
      tag.val gen.val 0x0703 c ∧ c.slice < 8192 :=
  ⟨cmdState 0x0703 8191 [0, 0xABCD], 0, 1, 0, _, by decide +kernel, by decide +kernel, ⟨rfl, by decide +kernel, by decide +kernel⟩,
    by decide +kernel⟩

/-! ## Ill-formed commands refused -/

theorem test_wf_register_write : (Instr.registerWrite 0 .bar0 0x3FFFFFC 8 0 0).wf = false ∧
    (Instr.registerWrite 0 .bar4 0xFFFC 4 0 0).wf = true := by decide

theorem test_wf_register_addresses : (Instr.sqClearWrite 2 0).wf = false ∧ (Instr.sqClearWrite 0x4000000 0).wf = false ∧
    (Instr.directModeWrite 0 6 0).wf = false ∧ (Instr.directModeWrite 0 8 0).wf = true := by decide

theorem test_wf_gsync_frame : (Instr.gsyncFrame [] false).wf = false := by decide

theorem test_wf_packets : (Instr.mctpCommandMessage 0 [1, 2, 3]).wf = false ∧ (Instr.mgmtChannelRequest 0 (.packet [])).wf = false ∧
    (Instr.jtagInstruction (.dbgPacket [1])).wf = false ∧ (Instr.mctpCommandMessage 0 [1, 2, 3, 4]).wf = true := by decide

theorem test_wf_host_addresses : (Instr.pageRequestResponse 0 0x10000000000000000 true).wf = false ∧
    (Instr.doorbellWrite 0 0x1FFFFFE 4 0 0).wf = false ∧ (Instr.doorbellWrite 0 0x1FFFFFC 4 0 0).wf = true := by decide

theorem test_wf_nvme_response : (Instr.nvmeResponse 0 [1, 2, 3]).wf = false ∧ (Instr.nvmeResponse 0 [1, 2, 3, 4]).wf = true := by decide

theorem test_wf_damage : (Instr.uncorrectableError (.rule false 0 0 0x200000 none) 0).wf = false ∧
    (Instr.uncorrectableError (.flow 0x8000000) 0).wf = false ∧ (Instr.uncorrectableError (.flow 0) 0).wf = true := by decide

/-- No row of the opcode table has bits. -/
theorem test_decode_nothing : decodeTableWord 32 0x0105 = none ∧ decodeTableWord 0 0 = none := by decide

/-! ## Single steps, against values worked out from the spec -/

/-- A next state that satisfies a check. -/
def nexts (o : Host.Outcome State Fault Refusal) (p : State → Bool) : Bool :=
  match o with
  | .next u => p u
  | _ => false

/-- The registers listed in either state agree outside a list of keys. -/
def same (s u : State) (ks : List Nat) : Bool :=
  (s.dev.rf.act.map Prod.fst ++ u.dev.rf.act.map Prod.fst).all (fun k => ks.contains k || decide (s.dev.reg k = u.dev.reg k))

theorem test_step_mbxInWrite :
    let s : State := live
    nexts (execMbxInWrite 15 0x10000007 s) (fun u => decide
      (u.dev.reg (Reg.MBX_INm 15) = 0x10000007 ∧ u.dev.bit (Reg.MBX_STATEm 15) 0 = true ∧ same s u [Reg.MBX_INm 15, Reg.MBX_STATEm 15])) = true := by
  decide +kernel

theorem test_step_cmdPiWrite :
    let s : State := live
    nexts (execCmdPiWrite 2 257 s) (fun u => decide
      (u.dev.bit (Reg.CMD_STATUSm 2) 4 = true ∧ same s u [Reg.CMD_STATUSm 2])) = true := by
  decide +kernel

theorem test_step_commandTake :
    let s : State := live.onDev (fun d => d.putPacket 5 0 [0x01000001, 0xFFFF0001, 0x00000000, wd (crc16 (bytesOf [0x01000001, 0xFFFF0001,
        0x00000000]))])
    nexts (execCommandTake 5 s) (fun u => decide
      (u.dev.cmd.cmds = [⟨5, 0x01000001, 0xFFFF0001, 0, [], .waiting, 1, 0, 0, false, [], 0, false, [], 0⟩] ∧
      u.dev.curGen 5 1 = some 0 ∧
      u.dev.fld (Reg.CMD_CIm 5) 0 16 = 1 ∧
      same s u [Reg.CMD_CIm 5])) = true := by
  decide +kernel

theorem test_step_angleWrap :
    let s : State := live.onDev (fun d => { (d.setFld (Reg.GAU_REFn_STATUS 2) 0 3 1).setN (Reg.GAU_ANGLEn 2) 0xFFFFFFF0 with ptp := 99 })
    nexts (execAngleWrap 2 s) (fun u => decide
      (u.dev.angle 2 = 0 ∧ u.dev.cycle 2 = s.dev.cycle 2 + 1 ∧ u.dev.reg64 (Reg.GAU_WRAPTSn_LO 2) = s.dev.time)) = true := by
  decide +kernel

theorem test_step_ppsInEdge :
    let s : State := live.onDev (fun d => { d.setBit Reg.GAU_PTP_CTRL 0 true with ptp := 1500000000 })
    nexts (execPpsInEdge s) (fun u => decide
      (u.dev.ptp = 2000000000 ∧ u.dev.gau.ppsOut = true)) = true := by
  decide +kernel

theorem test_step_windowStart :
    let s : State := live.onDev (fun d => { d with ebs := { d.ebs with room := -5000, level := d.levelTarget } })
    nexts (execWindowStart s) (fun u => decide
      (u.dev.ebs.level = s.dev.levelTarget ∧ u.dev.ebs.class3 = 0 ∧ u.dev.ebs.tripHold = s.dev.bit Reg.EBS_THERMAL_TRIP 0 ∧ u.dev.reg
      Reg.EBS_WINDOW = s.dev.reg Reg.EBS_WINDOW + 1 ∧ u.dev.ebs.budget = s.dev.effectiveCap.1 * 1000000 ∧ u.dev.ebs.room =
      ((s.dev.effectiveCap.1 * 1000000 : Nat) : Int) - 5000 - s.dev.baseCost)) = true := by
  decide +kernel

theorem test_step_pcieLinkUp :
    let s : State := live
    nexts (execPcieLinkUp 2 4 16 true s) (fun u => decide
      (u.dev.linkUp 2 = true ∧ u.dev.bit (Reg.PCE_LINK_STATUSl 2) 14 = true ∧ u.dev.fld (Reg.PCE_LINK_STATUSl 2) 8 3 = 4 ∧ u.dev.fld
      (Reg.PCE_LINK_STATUSl 2) 3 5 = 16 ∧ (s.dev.linkFns 2).all (fun f => (u.dev.fn f).present) = true ∧ same s u
      [Reg.PCE_LINK_STATUSl 2])) = true := by
  decide +kernel

theorem test_step_slcCorkWrite :
    let s : State := (live.onDev (fun d => d.setSlice 8191 1)).onDev (fun d => d.setFld (Reg.SLC_SLICE_STATUS 8191 1) 24 8 255)
    nexts (execSlcCorkWrite 0x80FF1FFF s) (fun u => decide
      (u.dev.sliceState 8191 = 2 ∧ u.dev.fld (Reg.SLC_SLICE_STATUS 8191 0) 25 4 = 9 ∧ u.dev.bit Reg.SLC_EVT_STATUS 0 = true ∧ u.dev.reg
      Reg.SLC_EVT_SLICE = wd 8191)) = true := by
  decide +kernel

theorem test_step_doorbellWrite :
    let s : State := (live.upFn0.onDev (fun d => d.setSlice 5 1)).withQ 0 5 3 [0, 0, 64, 0]
    nexts (execDoorbellWrite 0 (5 * 4096) 4 0x00030040 0 s) (fun u => decide
      (u.dev.hostIdx 0 0 = 64 ∧ 0 ∈ u.dev.rng.pending ∧ u.dev.devIdx 0 0 = 0)) = true := by
  decide +kernel

theorem test_step_dmaKickWrite :
    let s : State := live.onDev (fun d => d.setChState 63 0)
    nexts (execDmaKickWrite 63 s) (fun u => decide
      (u = { s with dev := { s.dev with dma := { s.dev.dma with kicked := [63] } } })) = true := by
  decide +kernel

theorem test_step_pressPass :
    let s : State := (frameState (frameAt .press 0x88B5)).onDev (fun d => d.setReg Reg.PRS_CTRL 0)
    nexts (execPressPass 0 s) (fun u => decide
      (u.dev.frame? 0 = none ∧ u.dev.bit (Reg.PRS_EVT_STATUS 0) 2 = true ∧ same s u [Reg.PRS_COUNTS 0 0, Reg.PRS_COUNTS 0 8,
      Reg.PRS_COUNTS 0 10, Reg.PRS_EVT_STATUS 0])) = true := by
  decide +kernel

theorem test_step_forwardingLookup :
    let s : State := (frameState { frameAt .forward 0x0800 with fwdArg := 0x00050000 }).onDev (fun d => d.htPut .l2 (2 ^ 20 + 65535) [0x80000005, 0, 0, 0, 0x10000123, 0, 0, 0])
    nexts (execForwardingLookup 0 s) (fun u => decide
      ((u.dev.frame? 0).map (fun h => (h.place, h.bytes, h.record)) = some (.toNode 0x123, (frameAt .forward 0x0800).bytes, (frameAt
      .forward 0x0800).record) ∧ same s u [Reg.FWD_COUNTS 0 0])) = true := by
  decide +kernel

theorem test_step_eventWait :
    let s : State := (live.thrIn 511 1).onDev (fun d => (d.setReg (thrReg Reg.FPC_THR_EVENTS 511) 6).setPc 511 32767)
    nexts (execEventWait 511 4 s) (fun u => decide
      (u.dev.thrState 511 = 1 ∧ u.dev.pc 511 = 0 ∧ u.dev.reg (thrReg Reg.FPC_THR_WAITMASK 511) = 4)) = true := by
  decide +kernel

theorem test_step_keyLoad :
    let s : State := live.onDev (fun d => ((d.setReg (Reg.CRY_KEY_STAGE 0) 255).setReg (Reg.CRY_KEY_STAGE 1) 0x34000000).setReg (Reg.CRY_KEY_DATA 0)
        9)
    nexts (execKeyLoad 255 s) (fun u => decide
      ((u.dev.slot? 255).map (fun k => (k.purpose, k.key)) = some (3, octets (9 :: List.replicate 31 0)) ∧ u.dev.regs (Reg.CRY_KEY_DATA
      0) 8 = List.replicate 8 0 ∧ u.dev.regN Reg.CRY_KEY_CMD = 2 ^ 24 + 255)) = true := by
  decide +kernel

theorem test_step_connectionLoss :
    let s : State := live.onDev (fun d => { d.setFld (Reg.STO_CONN_STATEk 32767) 29 3 2 with sto := { d.sto with conns := [(32767, ⟨true, List.replicate 64 0, [], 0, 0, 3, false⟩)] } })
    nexts (execConnectionLoss 32767 true s) (fun u => decide
      (u.dev.connState 32767 = 3 ∧ (u.dev.conn? 32767).map StoConn.lost = some true)) = true := by
  decide +kernel

theorem test_step_macFrameReceive :
    let s : State := live.onDev (fun d => (d.setFld (Reg.MAC_PORTp_STATUS 3) 29 3 4))
    nexts (execMacFrameReceive 3 (List.replicate 60 2) .good s) (fun u => decide
      ((u.dev.frame? 0).map (fun g => (g.bytes, g.place, g.srcPort, g.pass, g.whole)) = some (List.replicate 60 2, .press, 3, 0, true)
      ∧ u.dev.prs.nextFrame = 1)) = true := by
  decide +kernel

theorem test_step_svFrame :
    let s : State := (frameState (svf sv1)).onDev (svEntry 1023)
    nexts (execSvFrame 0 s) (fun u => decide
      (u.dev.frame? 0 = none ∧
      same s u [Reg.PBU_COUNTS 0] ∧
      u.dev.rowOf 1023 (sampleSecond 4000 3999 (svf sv1).stamp) 3999 = some { second := sampleSecond 4000 3999 (svf sv1).stamp, cnt := 3999, vals := [0x01020304, 0], unsync := false, confrev := false, injected := false, lanB := false, arrival := s.dev.arrival (svf sv1) })) = true := by
  decide +kernel

theorem test_step_sampleSetWaitExpiry :
    let s : State := ((live.upFn0.onDev (fun d => d.setSlice 5 1)).withQ 1 5 0 ringCfg).onDev (fun d => ((((svEntry 0 d).setReg (Reg.PBU_GRP 255 0) 0xE0000005).setReg (Reg.PBU_GRP 255 2) 0x1000).setReg (Reg.PBU_GRP 255 4) 16).setAligner 255 (fun a => { a with waiting := some ⟨0, 7, 1, true, false, false, 0, 0, 17⟩ }))
    nexts (execSampleSetWaitExpiry 255 s) (fun u => decide
      ((u.dev.aligner 255).waiting = none ∧
      (u.dev.aligner 255).lost = 0 ∧
      (u.dev.aligner 255).delivered = 1 ∧
      Emission.hostWrite (s.dev.home 5) (some (s.dev.pasid 5)) (0x1000 + 1 * 64) (s.dev.setRecord 255 ⟨0, 7, 1, true, false, false, 0, 0, 17⟩ false) ∈ u.dev.out ∧
      s.dev.slotBytes 255 = 64 ∧
      cat64 (s.dev.reg (Reg.PBU_GRP 255 2)) (s.dev.reg (Reg.PBU_GRP 255 3)) = 0x1000)) = true := by
  decide +kernel

theorem test_step_trlLinkTrainingDone :
    let s : State := live.onDev (fun d => d.setFld (Reg.TRL_PORTt_STATUS 3) 29 3 2)
    nexts (execTrlLinkTrainingDone 3 s) (fun u => decide
      (u.dev.trlLink 3 = 3)) = true := by
  decide +kernel

theorem test_step_correctedError :
    let s : State := live.onDev (fun d => { (d.setReg (Reg.FLT_CORRECTED 16) 0xFFFFFFFF).setReg Reg.FLT_CTRL 2 with flt := { d.flt with ceHour := [(16, 3)], ceLogged := [16] } })
    nexts (execCorrectedError 16 65535 9 s) (fun u => decide
      (u.dev.reg (Reg.FLT_CORRECTED 16) = 0xFFFFFFFF ∧ Map.getD u.dev.flt.ceHour 16 0 = 4 ∧ u.dev.flt.ceLogged.contains 16 = true ∧
      same s u [Reg.FLT_CORRECTED 16])) = true := by
  decide +kernel

theorem test_step_bankEraseDone :
    let s : State := live.onDev (fun d => { d with upd := { d.upd with erasing := true } })
    nexts (execBankEraseDone s) (fun u => decide
      (u.dev.upd.erasing = false ∧ u.dev.fld Reg.UPD_STATE 0 16 = 1024 ∧ same s u [Reg.UPD_STATE])) = true := by
  decide +kernel

end Sys2Proof.Machine
end

section
/-! PROOFS. O16: GAU clocks in which no reference wraps. Each of the four references moves its own angle and its own remainders,
and a reference reads nothing another one moves, so that all four advance from the same device (R35, R42). -/

namespace Sys2Proof.Machine

/-! ## One reference's clocks -/

/-- `d'` is `d` but for the angles and the records of the references `ns`, whose tracked frequencies stay. -/
structure Dev.SameButRefs (ns : List Nat) (d d' : Dev) : Prop where
  reg : ∀ k, (∀ m ∈ ns, k ≠ Reg.GAU_ANGLEn m) → d'.reg k = d.reg k
  gref : ∀ m, m ∉ ns → d'.gref m = d.gref m
  freq : ∀ m, (d'.gref m).freq = (d.gref m).freq

theorem angleKey_injective {m n : Nat} (h : Reg.GAU_ANGLEn m = Reg.GAU_ANGLEn n) : m = n := by
  unfold Reg.GAU_ANGLEn at h; omega

@[simp] theorem Dev.gref_setReg (d : Dev) (k n : Nat) (v : Word) : (d.setReg k v).gref n = d.gref n := rfl

theorem Dev.gref_setGref (d : Dev) (n m : Nat) (f : GRef → GRef) :
    (d.setGref n f).gref m = if m = n then f (d.gref n) else d.gref m := by
  by_cases h : m = n
  · subst h; simp [Dev.setGref, Dev.gref]
  · simp [Dev.setGref, Dev.gref, h]

/-- A reference at rest keeps its angle and its record (R42). -/
theorem Dev.gain_of_rest {d : Dev} {n k : Nat} (h : d.refRate n = 0) : d.gain n k = (0, d.gref n) := by
  simp [Dev.gain, h]

/-- The counts gained and the fraction left of a reference without error: the rate times the clocks, nothing lost (R35). -/
theorem Dev.gain_of_no_error {d : Dev} {n k : Nat} (h : (d.gref n).err = 0) :
    (d.gain n k).1 * 10 ^ 15 + (d.gain n k).2.frac = (d.gref n).frac + k * d.refRate n * 2 ^ 33 := by
  by_cases hr : d.refRate n = 0
  · simp [Dev.gain_of_rest hr, hr]
  · simp only [Dev.gain, if_neg hr, h, Int.natAbs_zero, Nat.min_zero]
    generalize (d.gref n).frac + k * d.refRate n * 2 ^ 33 = counts
    simp
    omega

/-- A reference's clocks leave its tracked frequency. -/
theorem Dev.freq_gain (d : Dev) (n k : Nat) : (d.gain n k).2.freq = (d.gref n).freq := by
  by_cases hr : d.refRate n = 0
  · rw [Dev.gain_of_rest hr]
  · simp only [Dev.gain, if_neg hr]

/-- A rate does not depend on angles and remainders. -/
theorem Dev.refRate_congr {ns : List Nat} {d d' : Dev} (h : d.SameButRefs ns d') (n : Nat) : d'.refRate n = d.refRate n := by
  have hst : d'.reg (Reg.GAU_REFn_STATUS n) = d.reg (Reg.GAU_REFn_STATUS n) :=
    h.reg _ fun j _ => by unfold Reg.GAU_REFn_STATUS Reg.GAU_ANGLEn; omega
  have hct : ∀ m, d'.reg (Reg.GAU_REFn_CTRL m) = d.reg (Reg.GAU_REFn_CTRL m) := fun m =>
    h.reg _ fun j _ => by unfold Reg.GAU_REFn_CTRL Reg.GAU_ANGLEn; omega
  have hstate : d'.refState n = d.refState n := by rw [Dev.refState, Dev.fld, hst]; rfl
  have hsteer : d'.steer n = d.steer n := by rw [Dev.steer, Dev.fld, hst]; rfl
  have hloss : ∀ m, d'.lossPolicy m = d.lossPolicy m := fun m => by rw [Dev.lossPolicy, Dev.fld, hct]; rfl
  have hnom : ∀ m, d'.nominal m = d.nominal m := fun m => by rw [Dev.nominal, Dev.bit, hct]; rfl
  simp only [Dev.refRate, hstate, hsteer, hloss, hnom, h.freq]

/-- What a reference gains does not depend on the other references' angles and remainders. -/
theorem Dev.gain_congr {ns : List Nat} {d d' : Dev} (h : d.SameButRefs ns d') {n : Nat} (hn : n ∉ ns) (k : Nat) :
    d'.gain n k = d.gain n k := by
  have hlim : d'.fld (Reg.GAU_REFn_LIMITS n) 16 16 = d.fld (Reg.GAU_REFn_LIMITS n) 16 16 := by
    rw [Dev.fld, h.reg _ fun j _ => by unfold Reg.GAU_REFn_LIMITS Reg.GAU_ANGLEn; omega, Dev.fld]
  unfold Dev.gain
  rw [Dev.refRate_congr h, h.gref n hn, hlim]

theorem Dev.angle_congr {ns : List Nat} {d d' : Dev} (h : d.SameButRefs ns d') {n : Nat} (hn : n ∉ ns) :
    d'.angle n = d.angle n :=
  h.reg _ fun _ hm hk => hn (angleKey_injective hk ▸ hm)

theorem Dev.cycle_congr {ns : List Nat} {d d' : Dev} (h : d.SameButRefs ns d') (n : Nat) : d'.cycle n = d.cycle n := by
  have hlo := h.reg (Reg.GAU_CYCLEn_LO n) fun j _ => by unfold Reg.GAU_CYCLEn_LO Reg.GAU_ANGLEn; omega
  have hhi := h.reg (Reg.GAU_CYCLEn_LO n + 4) fun j _ => by unfold Reg.GAU_CYCLEn_LO Reg.GAU_ANGLEn; omega
  simp only [Dev.cycle, Dev.reg64, hlo, hhi]

theorem Dev.SameButRefs.refl (d : Dev) : d.SameButRefs [] d := ⟨fun _ _ => rfl, fun _ _ => rfl, fun _ => rfl⟩

theorem Dev.SameButRefs.trans {ns ms : List Nat} {d d' d'' : Dev} (h : d.SameButRefs ns d') (h' : d'.SameButRefs ms d'') :
    d.SameButRefs (ns ++ ms) d'' where
  reg k hk := (h'.reg k fun m hm => hk m (by simp [hm])).trans (h.reg k fun m hm => hk m (by simp [hm]))
  gref m hm := by
    simp only [List.mem_append, not_or] at hm
    exact (h'.gref m hm.2).trans (h.gref m hm.1)
  freq m := (h'.freq m).trans (h.freq m)

/-- `d'` is `d` after `k` clocks without a wrap of the reference `n`: its counts and record are those of `gain`. -/
def Dev.Gained (d : Dev) (n k : Nat) (d' : Dev) : Prop :=
  (d'.angle n).toNat = (d.angle n).toNat + (d.gain n k).1 ∧ d'.gref n = (d.gain n k).2

/-- The reference's record as `advance` leaves it: written only where it changes. -/
def Dev.takeGain (d : Dev) (n k : Nat) : Dev :=
  if (d.gain n k).2 = d.gref n then d else d.setGref n (fun _ => (d.gain n k).2)

theorem Dev.reg_takeGain (d : Dev) (n k j : Nat) : (d.takeGain n k).reg j = d.reg j := by
  unfold Dev.takeGain; split <;> rfl

theorem Dev.gref_takeGain (d : Dev) (n k m : Nat) : (d.takeGain n k).gref m = if m = n then (d.gain n k).2 else d.gref m := by
  unfold Dev.takeGain
  split
  · next h => split <;> simp [*]
  · exact Dev.gref_setGref d n m _

/-- A reference that does not wrap: its record and its angle are written. -/
theorem Dev.advance_eq {d : Dev} {n k : Nat} (h : d.wrapsWithin n k = false) :
    d.advance n k = ((d.takeGain n k).setN (Reg.GAU_ANGLEn n) ((d.angle n).toNat + (d.gain n k).1), none) := by
  simp only [Dev.wrapsWithin, decide_eq_false_iff_not] at h
  simp only [Dev.advance, Dev.takeGain, if_neg h]

/-- A reference that does not wrap takes what it gains, and the rest of the device stays. -/
theorem Dev.advance_of_no_wrap {d : Dev} {n k : Nat} (h : d.wrapsWithin n k = false) :
    ∃ d', d.advance n k = (d', none) ∧ d.SameButRefs [n] d' ∧ d.Gained n k d' := by
  have hlt : (d.angle n).toNat + (d.gain n k).1 < 2 ^ 32 := by simpa [Dev.wrapsWithin] using h
  refine ⟨_, Dev.advance_eq h, ⟨fun j hj => ?_, fun m hm => ?_, fun m => ?_⟩, ?_, ?_⟩
  · rw [Dev.setN, Dev.reg_setReg_other _ _ (hj n (by simp)), Dev.reg_takeGain]
  · rw [Dev.setN, Dev.gref_setReg, Dev.gref_takeGain, if_neg (by simpa using hm)]
  · rw [Dev.setN, Dev.gref_setReg, Dev.gref_takeGain]
    split
    · next he => rw [he, Dev.freq_gain]
    · rfl
  · rw [Dev.angle, Dev.setN, Dev.reg_setReg_same, BitVec.toNat_ofNat, Nat.mod_eq_of_lt hlt]
  · rw [Dev.setN, Dev.gref_setReg, Dev.gref_takeGain, if_pos rfl]

/-! ## The four references together -/

/-- `k` clocks of one reference, with what its wrap does where it wraps. -/
def Dev.advanceRef (k : Nat) (d : Dev) (n : Nat) : Dev :=
  match d.advance n k with
  | (d, some r) => d.angleWrap n r
  | (d, none) => d

theorem Dev.ticks_eq_foldl (d : Dev) (k : Nat) :
    d.ticks k = (List.range 4).foldl (Dev.advanceRef k) { d with now := d.now + k, ptp := d.ptp + BitVec.ofNat 64 (2 * k) } := rfl

theorem Dev.Gained.trans {ns : List Nat} {d d₁ d₂ : Dev} {n k : Nat} (h : d.Gained n k d₁) (hs : d₁.SameButRefs ns d₂)
    (hn : n ∉ ns) : d.Gained n k d₂ :=
  ⟨by rw [Dev.angle_congr hs hn, h.1], by rw [hs.gref n hn, h.2]⟩

theorem Dev.Gained.of_congr {ns : List Nat} {d d₁ d₂ : Dev} {n k : Nat} (hs : d.SameButRefs ns d₁) (hn : n ∉ ns)
    (h : d₁.Gained n k d₂) : d.Gained n k d₂ :=
  ⟨by rw [h.1, Dev.angle_congr hs hn, Dev.gain_congr hs hn], by rw [h.2, Dev.gain_congr hs hn]⟩

theorem Dev.wrapsWithin_congr {ns : List Nat} {d d' : Dev} (h : d.SameButRefs ns d') {n : Nat} (hn : n ∉ ns) (k : Nat) :
    d'.wrapsWithin n k = d.wrapsWithin n k := by
  simp only [Dev.wrapsWithin, Dev.angle_congr h hn, Dev.gain_congr h hn]

/-- References of which none wraps, advanced one after the other, each take what they gain on the device before the first. -/
theorem Dev.foldl_advanceRef {k : Nat} (ns : List Nat) (d : Dev) (hnd : ns.Nodup) (hw : ∀ m ∈ ns, d.wrapsWithin m k = false) :
    d.SameButRefs ns (ns.foldl (Dev.advanceRef k) d) ∧ ∀ m ∈ ns, d.Gained m k (ns.foldl (Dev.advanceRef k) d) := by
  induction ns generalizing d with
  | nil => exact ⟨.refl d, by simp⟩
  | cons n ns ih =>
    obtain ⟨hn, hnd⟩ := List.nodup_cons.mp hnd
    obtain ⟨d₁, ha, hs₁, hg₁⟩ := Dev.advance_of_no_wrap (hw n (by simp))
    have hoff : ∀ m ∈ ns, m ∉ [n] := fun m hm he => hn (List.mem_singleton.mp he ▸ hm)
    obtain ⟨hs₂, hg₂⟩ := ih d₁ hnd fun m hm => by rw [Dev.wrapsWithin_congr hs₁ (hoff m hm)]; exact hw m (by simp [hm])
    have hstep : d.advanceRef k n = d₁ := by simp only [Dev.advanceRef, ha]
    simp only [List.foldl_cons, hstep]
    refine ⟨hs₁.trans hs₂, fun m hm => ?_⟩
    rcases List.mem_cons.mp hm with rfl | hm
    · exact hg₁.trans hs₂ hn
    · exact (hg₂ m hm).of_congr hs₁ (hoff m hm)

/-- GAU clocks in which no reference wraps: every reference takes what it gains, and every register but the angles stays. -/
theorem Dev.ticks_of_no_wrap {d : Dev} {k : Nat} (hw : ∀ m, m < 4 → d.wrapsWithin m k = false) :
    d.SameButRefs (List.range 4) (d.ticks k) ∧ ∀ m, m < 4 → d.Gained m k (d.ticks k) := by
  obtain ⟨⟨hr, hg, hf⟩, hm⟩ := Dev.foldl_advanceRef (List.range 4)
    { d with now := d.now + k, ptp := d.ptp + BitVec.ofNat 64 (2 * k) } List.nodup_range (fun m hm => hw m (List.mem_range.mp hm))
  rw [Dev.ticks_eq_foldl]
  exact ⟨⟨hr, hg, hf⟩, fun m h => hm m (List.mem_range.mpr h)⟩

/-! ## FREERUN (R42) -/

/-- A running device with no command waiting passes one GAU clock. -/
theorem step_of_no_command {s : State} (hp : s.pending = []) (hr : s.dev.running = true) :
    ∃ t, step s = .next t ∧ t.dev = s.dev.ticks 1 := by
  simp only [Dev.running, Bool.and_eq_true, Bool.not_eq_true'] at hr
  obtain ⟨⟨⟨-, hhalt⟩, -⟩, hrst⟩ := hr
  refine ⟨s.idle, by simp only [step, hp], ?_⟩
  simp [State.idle, hhalt, hrst, Dev.tick]

/-- The rate of a reference in FREERUN that steers itself, by its own LOSS_POLICY. -/
theorem Dev.refRate_freerun {d : Dev} {n : Nat} (h5 : d.refState n = 5) (hs : d.steer n = n) :
    d.refRate n = if d.lossPolicy n = 2 then 0 else if d.lossPolicy n = 1 then d.nominal n else (d.gref n).freq := by
  simp only [Dev.refRate, h5, hs]

/-- No event fires on a reference frozen under LOSS_POLICY 2. -/
theorem Dev.firesOn_frozen {d : Dev} {n : Nat} (h5 : d.refState n = 5) (hs : d.steer n = n) (h2 : d.lossPolicy n = 2) :
    d.firesOn n = false := by
  simp [Dev.firesOn, h5, hs, h2]

/-- No entry of a channel is dispatched whose reference fires no events. -/
theorem angleEventDispatch_of_not_firesOn {s : State} {c i : Fin 64} {n : Nat} (hr : s.dev.running = true)
    (hc : s.dev.chanRef? c.val = some n) (hf : s.dev.firesOn n = false) : exec (.angleEventDispatch c i) s = .next s := by
  have : exec (.angleEventDispatch c i) s = execAngleEventDispatch c i s := rfl
  rw [this, execAngleEventDispatch, act_run hr]
  simp [hc, hf]

/-- Settles O16: on a clock without a wrap the reference takes what it gains, and its gain is that of the rate its LOSS_POLICY
names; frozen, it fires no events. -/
theorem freerunAdvancesAsItsLossPolicySays : Obligations.FreerunAdvancesAsItsLossPolicySays := by
  unfold Obligations.FreerunAdvancesAsItsLossPolicySays
  intro s n policy rate hp hr h5 hs herr hw hpol hrate
  have hrr : s.dev.refRate n.val = rate := by
    rw [Dev.refRate_freerun h5 hs, hrate, ← hpol, Dev.lossPolicy, Dev.nominal]
  obtain ⟨t, hstep, ht⟩ := step_of_no_command hp hr
  obtain ⟨hsame, hgain⟩ := Dev.ticks_of_no_wrap hw
  rw [← ht] at hsame hgain
  obtain ⟨hang, hgref⟩ := hgain n.val n.isLt
  refine ⟨⟨t, hstep, Dev.cycle_congr hsame n.val, ?_, fun h2 => ?_⟩, fun c i h2 hc => ?_⟩
  · have hcount := Dev.gain_of_no_error (k := 1) herr
    rw [hang, hgref, Nat.add_mul, Nat.add_assoc, hcount, hrr, Nat.one_mul, Nat.add_assoc]
  · have hrest : s.dev.refRate n.val = 0 := by rw [hrr, hrate, if_pos h2]
    exact BitVec.eq_of_toNat_eq (by rw [hang, Dev.gain_of_rest hrest, Nat.add_zero])
  · exact angleEventDispatch_of_not_firesOn hr hc (Dev.firesOn_frozen h5 hs (hpol.trans h2))

end Sys2Proof.Machine
end

section
/-! PROOFS. O4: what setting events and clearing them leave in an SQ register's word, bit by bit, then on the device (R99). -/

namespace Sys2Proof

/-- A field reads the same in two words that agree on its bits. -/
theorem Word.fld_congr {w u : Word} {lo n : Nat} (h : ∀ i, i < n → Word.bit w (lo + i) = Word.bit u (lo + i)) :
    Word.fld w lo n = Word.fld u lo n := by
  apply Nat.eq_of_testBit_eq
  intro i
  rw [Word.bit_fld, Word.bit_fld]
  by_cases hi : i < n
  · exact congrArg _ (h i hi)
  · simp [hi]

/-- Bits set one after another: each listed bit reads 1, every other as before. -/
theorem Word.bit_foldl_setBit {i : Nat} (hi : i < 32) (bits : List Nat) (w : Word) :
    Word.bit (bits.foldl (fun e b => Word.setBit e b true) w) i = (Word.bit w i || bits.contains i) := by
  induction bits generalizing w with
  | nil => simp
  | cons b bs ih =>
    rw [List.foldl_cons, ih]
    by_cases h : i = b
    · subst h; simp [Word.bit_setBit_same w i true hi]
    · simp [Word.bit_setBit_other w b i true hi h, h]

/-- The mask of an SQ clear holds the events, bits [23:0], and not SEQ. -/
theorem Word.bit_clearEvents (w v : Word) {i : Nat} (hi : i < 32) :
    Word.bit (w &&& ~~~ (v &&& wd 0xFFFFFF)) i = (Word.bit w i && !(Word.bit v i && decide (i < 24))) := by
  have hmask : (wd 0xFFFFFF).getLsbD i = decide (i < 24) := Nat.testBit_two_pow_sub_one 24 i
  change (w &&& ~~~ (v &&& wd 0xFFFFFF)).getLsbD i = (w.getLsbD i && !(v.getLsbD i && decide (i < 24)))
  simp only [BitVec.getLsbD_and, BitVec.getLsbD_not, hi, decide_true, Bool.true_and, hmask]

/-- Clearing events leaves SEQ. -/
theorem Word.seq_clearEvents (w v : Word) : Word.fld (w &&& ~~~ (v &&& wd 0xFFFFFF)) 24 8 = Word.fld w 24 8 :=
  Word.fld_congr fun i hi => by
    have hnot : ¬ 24 + i < 24 := by omega
    simp [Word.bit_clearEvents w v (i := 24 + i) (by omega), hnot]

end Sys2Proof

namespace Sys2Proof.Machine

/-! ## Events set -/

/-- SEQ advances by the number of events, modulo 256, whatever bits stood before. -/
theorem Dev.seq_sqSet (d : Dev) (k : Nat) (bits : List Nat) :
    (d.sqSet k bits).fld k 24 8 = (d.fld k 24 8 + bits.length) % 256 := by
  simp [Dev.sqSet, Dev.fld, Word.fld_setFld_same]

/-- An event bit reads 1 where it was set or stood before. -/
theorem Dev.bit_sqSet (d : Dev) (k : Nat) (bits : List Nat) {b : Nat} (hb : b < 24) :
    (d.sqSet k bits).bit k b = (d.bit k b || bits.contains b) := by
  have hb32 : b < 32 := by omega
  simp only [Dev.sqSet, Dev.bit, Dev.reg_setReg_same]
  rw [Word.bit_setFld_other _ 24 8 _ b hb32 (.inl hb), Word.bit_foldl_setBit hb32]

theorem Dev.sameRegsBut_sqSet (d : Dev) (k : Nat) (bits : List Nat) : d.sameRegsBut (d.sqSet k bits) [k] :=
  fun _ hj => Dev.reg_sqSet_other d bits (List.ne_of_not_mem_cons hj)

/-! ## Events cleared -/

/-- A write that carries the register's SEQ puts the word without the masked events in its place. -/
theorem Dev.sqClear_current {d : Dev} {k : Nat} {v : Word} (h : Word.fld v 24 8 = d.fld k 24 8) :
    d.sqClear k v = d.setReg k (d.reg k &&& ~~~ (v &&& wd 0xFFFFFF)) :=
  if_pos h

/-- On a running device the command is a write to the SQ register it names. -/
theorem exec_sqClearWrite {s : State} {k : Nat} (v : Word) (hr : s.dev.running = true) (hk : accOf k = some .sq) :
    exec (.sqClearWrite k v) s = .next { s with dev := s.dev.sqClear k v } := by
  have hexec : exec (.sqClearWrite k v) s = execSqClearWrite k v s := rfl
  rw [hexec, execSqClearWrite, act_run hr, if_pos hk]

/-- Settles O4: an event set is a bit set and SEQ advanced by the events' number; a write with the register's SEQ is that
register rewritten without the masked events, and one with a stale SEQ does nothing. -/
theorem sqRegistersCountTheirEvents : Obligations.SqRegistersCountTheirEvents := by
  unfold Obligations.SqRegistersCountTheirEvents
  refine ⟨fun d k bits _ _ => ⟨d.seq_sqSet k bits, fun b hb => d.bit_sqSet k bits hb, d.sameRegsBut_sqSet k bits⟩,
    fun s k v hr hk => ⟨fun hstale => ?_, fun hseq => ⟨_, exec_sqClearWrite v hr hk, ?_⟩⟩⟩
  · rw [exec_sqClearWrite v hr hk, Dev.sqClear_stale _ _ _ hstale]
  · rw [Dev.sqClear_current hseq]
    refine ⟨rfl, fun j hj => Dev.reg_setReg_other _ _ (List.ne_of_not_mem_cons hj), ?_, fun b hb => ?_, rfl⟩
    · simp only [Dev.fld, Dev.reg_setReg_same, Word.seq_clearEvents]
    · simp only [Dev.bit, Dev.reg_setReg_same, Word.bit_clearEvents _ _ (show b < 32 by omega), hb, decide_true, Bool.and_true]

end Sys2Proof.Machine
end

section
/-! PROOFS. O46: a SEND taken from the inbox becomes the words of an inbound message, read back word by word (R319, R465). -/

namespace Sys2Proof

/-- A field of a number's word is that field of the number: what the word cuts off lies above it. -/
theorem Word.fld_wd (v : Nat) {lo n : Nat} (h : lo + n ≤ 32) : Word.fld (wd v) lo n = v / 2 ^ lo % 2 ^ n := by
  apply Nat.eq_of_testBit_eq
  intro i
  rw [Word.bit_fld, BitVec.getLsbD_ofNat, Nat.testBit_mod_two_pow, Nat.testBit_div_two_pow, Nat.add_comm lo i]
  by_cases hi : i < n
  · have hw : i + lo < 32 := by omega
    simp [hi, hw]
  · simp [hi]

theorem wordAt_cons_zero (w : Word) (ws : List Word) : wordAt (w :: ws) 0 = w := rfl

theorem wordAt_cons_succ (w : Word) (ws : List Word) (i : Nat) : wordAt (w :: ws) (i + 1) = wordAt ws i := rfl

/-- Words past the end read 0, and so does padding. -/
theorem wordAt_append_zeros (ws : List Word) (k i : Nat) : wordAt (ws ++ List.replicate k 0) i = wordAt ws i := by
  rcases Nat.lt_or_ge i ws.length with hi | hi
  · simp [wordAt, List.getElem?_append_left hi]
  · rw [wordAt, wordAt, List.getElem?_append_right hi, List.getElem?_eq_none hi, List.getElem?_replicate]
    split <;> rfl

theorem wordAt_take {ws : List Word} {n i : Nat} (h : i < n) : wordAt (ws.take n) i = wordAt ws i := by
  simp only [wordAt, List.getElem?_take_of_lt h]

end Sys2Proof

namespace Sys2Proof.Machine

/-! ## The words of a message without a slice (R319) -/

/-- The 64 words that `Dev.sendMessage` sends to a channel for a KIND, an ARG and its data, where no slice is named. -/
def messageWords (kind : Nat) (arg : Word) (data : List Word) : List Word :=
  let ws := [wd (kind * 2 ^ 28 + 0xFF), arg, 0, 0] ++ data
  ws ++ List.replicate (64 - ws.length) 0

theorem Dev.arriving_sendMessage (d : Dev) (c h kind : Nat) (arg : Word) (data : List Word) :
    (d.sendMessage c h kind arg none data).fpc.arriving = d.fpc.arriving ++ [(c, h, messageWords kind arg data)] := rfl

@[simp] theorem Dev.sendMessage_rf (d : Dev) (c h kind : Nat) (arg : Word) (sl : Option (Nat × Nat)) (data : List Word) :
    (d.sendMessage c h kind arg sl data).rf = d.rf := rfl

theorem length_messageWords (kind : Nat) (arg : Word) {data : List Word} (h : data.length ≤ 60) :
    (messageWords kind arg data).length = 64 := by
  simp only [messageWords, List.length_append, List.length_replicate, List.length_cons, List.length_nil]
  omega

/-- Four words and the data: the padding reads as the words past the end. -/
theorem wordAt_messageWords (kind : Nat) (arg : Word) (data : List Word) (i : Nat) :
    wordAt (messageWords kind arg data) i = wordAt (wd (kind * 2 ^ 28 + 0xFF) :: arg :: 0 :: 0 :: data) i :=
  wordAt_append_zeros _ _ i

/-- KIND stands in word 0. -/
theorem kind_messageWords {kind : Nat} (arg : Word) (data : List Word) (h : kind < 16) :
    Word.fld (wordAt (messageWords kind arg data) 0) 28 4 = kind := by
  rw [wordAt_messageWords, wordAt_cons_zero, Word.fld_wd _ (by decide)]
  omega

/-- HANDLE is 0xFF: no frame comes with the message. -/
theorem handle_messageWords (kind : Nat) (arg : Word) (data : List Word) :
    Word.fld (wordAt (messageWords kind arg data) 0) 0 8 = 0xFF := by
  rw [wordAt_messageWords, wordAt_cons_zero, Word.fld_wd _ (by decide)]
  omega

theorem arg_messageWords (kind : Nat) (arg : Word) (data : List Word) : wordAt (messageWords kind arg data) 1 = arg := by
  rw [wordAt_messageWords, wordAt_cons_succ, wordAt_cons_zero]

/-- SLICE_VALID is 0: word 2 names no slice. -/
theorem sliceValid_messageWords (kind : Nat) (arg : Word) (data : List Word) :
    Word.bit (wordAt (messageWords kind arg data) 2) 23 = false := by
  rw [wordAt_messageWords, wordAt_cons_succ, wordAt_cons_succ, wordAt_cons_zero]
  decide

/-- The data stand from word 4 on. -/
theorem data_messageWords (kind : Nat) (arg : Word) (data : List Word) (i : Nat) :
    wordAt (messageWords kind arg data) (4 + i) = wordAt data i := by
  rw [wordAt_messageWords, Nat.add_comm 4 i]
  simp only [wordAt_cons_succ]

/-! ## A SEND's ARG (R465): the source device above the length in bytes -/

theorem source_sendArg {src n : Nat} (h : n ≤ 60) : Word.fld (wd (src * 65536 + 4 * n)) 16 9 = src % 512 := by
  rw [Word.fld_wd _ (by decide)]
  omega

theorem length_sendArg {src n : Nat} (h : n ≤ 60) : Word.fld (wd (src * 65536 + 4 * n)) 0 16 = 4 * n := by
  rw [Word.fld_wd _ (by decide)]
  omega

/-! ## A message taken from the inbox -/

theorem Dev.rf_of_takeMsg {d t : Dev} {kind : Nat} {g : TrlMsg} (h : d.takeMsg kind = some (g, t)) : t.rf = d.rf := by
  obtain ⟨m, -, hm⟩ := Option.map_eq_some_iff.mp h
  obtain ⟨-, rfl⟩ := Prod.mk.inj hm
  rfl

/-- A running device acts on the message taken. -/
theorem msgStep_some {s : State} {kind : Nat} {f : TrlMsg → Dev → Dev} {g : TrlMsg} {t : Dev} (hr : s.dev.running = true)
    (ht : s.dev.takeMsg kind = some (g, t)) : msgStep kind f s = .next { s with dev := f g t } := by
  rw [msgStep, act_run hr, ht]

/-- A SEND of up to 60 words becomes a message of KIND 6 to the channel its first word names. -/
theorem exec_send {s : State} {g : TrlMsg} {t : Dev} {w : Word} {ws : List Word} (hr : s.dev.running = true)
    (ht : s.dev.takeMsg 0x71 = some (g, t)) (hw : wordsOf 61 g.body = w :: ws) (hn : Word.fld w 16 8 ≤ 60) :
    exec .send s = .next { s with
      dev := t.sendMessage (Word.fld w 8 3) (Word.fld w 0 8) 6 (wd (g.src * 65536 + 4 * Word.fld w 16 8)) none
        (ws.take (Word.fld w 16 8)) } := by
  have hmin : Nat.min 60 (Word.fld w 16 8) = Word.fld w 16 8 := Nat.min_eq_right hn
  have hexec : exec .send s = execSend s := rfl
  rw [hexec, execSend, msgStep_some hr ht]
  simp only [hw, wordAt_cons_zero, hmin, List.drop_succ_cons, List.drop_zero]

/-- Settles O46: the message that a SEND becomes is `messageWords` of KIND 6, the source and length, and the words sent. -/
theorem sendArrivesAsAnInboundMessage : Obligations.SendArrivesAsAnInboundMessage := by
  unfold Obligations.SendArrivesAsAnInboundMessage
  intro s g t h ws n hr ht hws hlen hn _ hle
  obtain ⟨w, rfl⟩ := List.length_eq_one_iff.mp hlen
  rw [List.singleton_append] at hws
  rw [wordAt_cons_zero] at hn ⊢
  subst hn
  have hdata : (ws.take (Word.fld w 16 8)).length ≤ 60 := (List.length_take_le _ _).trans hle
  refine ⟨_, _, exec_send hr ht hws hle, Dev.arriving_sendMessage _ _ _ _ _ _, length_messageWords _ _ hdata,
    kind_messageWords _ _ (by decide), handle_messageWords _ _ _, sliceValid_messageWords _ _ _, ?_, ?_, fun i hi => ?_, ?_⟩
  · rw [arg_messageWords, source_sendArg hle]
  · rw [arg_messageWords, length_sendArg hle]
  · rw [data_messageWords, wordAt_take hi]
  · exact (Dev.sendMessage_rf _ _ _ _ _ _ _).trans (Dev.rf_of_takeMsg ht)

end Sys2Proof.Machine
end

section
/-! PROOFS. O25: a fault in a slice's own state corks it, and the cause is in force until the slice's reset (R176, R178, R478;
that a contained slice answers cause 8 whatever cause was recorded first is log entry 71). -/

namespace Sys2Proof.Machine

/-- A field of a register reads as before where one beside it is replaced. -/
theorem Dev.fld_setFld_other (d : Dev) (k v : Nat) {lo n l m : Nat} (h : l + m ≤ 32) (hd : l + m ≤ lo ∨ lo + n ≤ l) :
    (d.setFld k lo n v).fld k l m = d.fld k l m := by
  simp [Dev.fld, Dev.setFld, Word.fld_setFld_other _ _ _ _ _ _ h hd]

/-! ## What leaves the slices alone: events, notify vectors, fault records -/

/-- `d'` has the slices of `d`: the status words of the slice table, and the records kept of slices. -/
structure Dev.KeepsSlices (d d' : Dev) : Prop where
  status : ∀ sl, sl < 8192 → d'.reg (Reg.SLC_SLICE_STATUS sl 0) = d.reg (Reg.SLC_SLICE_STATUS sl 0)
  slc : d'.slc = d.slc

namespace Dev.KeepsSlices

theorem refl (d : Dev) : d.KeepsSlices d := ⟨fun _ _ => rfl, rfl⟩

theorem trans {d d' d'' : Dev} (h : d.KeepsSlices d') (h' : d'.KeepsSlices d'') : d.KeepsSlices d'' :=
  ⟨fun sl hl => (h'.status sl hl).trans (h.status sl hl), h'.slc.trans h.slc⟩

theorem fld {d d' : Dev} (h : d.KeepsSlices d') {sl : Nat} (hl : sl < 8192) (lo n : Nat) :
    d'.fld (Reg.SLC_SLICE_STATUS sl 0) lo n = d.fld (Reg.SLC_SLICE_STATUS sl 0) lo n := by
  rw [Dev.fld, h.status sl hl, Dev.fld]

theorem sliceState {d d' : Dev} (h : d.KeepsSlices d') {sl : Nat} (hl : sl < 8192) : d'.sliceState sl = d.sliceState sl :=
  h.fld hl 29 3

/-- A register outside the slice table. -/
theorem setReg (d : Dev) {k : Nat} (v : Word) (hk : k < 0x420000 ∨ 0x460000 ≤ k) : d.KeepsSlices (d.setReg k v) :=
  ⟨fun sl hl => Dev.reg_setReg_other d v (by unfold Reg.SLC_SLICE_STATUS; omega), rfl⟩

/-- Words written above the slice table. -/
theorem setRegs (ws : List Word) (d : Dev) {k : Nat} (hk : 0x460000 ≤ k) : d.KeepsSlices (d.setRegs k ws) := by
  induction ws generalizing d k with
  | nil => exact refl d
  | cons w ws ih => exact (setReg d w (.inr hk)).trans (ih _ (by omega))

theorem setFn (d : Dev) (f : Nat) (g : PFn → PFn) : d.KeepsSlices (d.setFn f g) := ⟨fun _ _ => rfl, rfl⟩

/-- A request wakes its link at most, whose status is among the registers of the host links. -/
theorem request (d : Dev) {f : Nat} (e : Emission) (hf : f < 4) : d.KeepsSlices (d.request f e) := by
  have hlink : d.linkOf f < 4 := by unfold Dev.linkOf; split <;> omega
  have hwake : d.KeepsSlices (d.wakeLink (d.linkOf f)) := by
    simp only [Dev.wakeLink]
    split
    · exact setReg d _ (.inl (by unfold Reg.PCE_LINK_STATUSl; omega))
    · exact refl d
  exact hwake.trans ⟨fun _ _ => rfl, rfl⟩

theorem raiseVec (d : Dev) {f : Nat} (vec : Nat) (hf : f < 4) : d.KeepsSlices (d.raiseVec f vec) := by
  simp only [Dev.raiseVec]
  split
  · exact setFn ..
  · split
    · exact (setFn ..).trans (request _ _ hf)
    · split
      · exact setFn ..
      · exact request _ _ hf

theorem setFlt (d : Dev) (x : Flt) : d.KeepsSlices { d with flt := x } := ⟨fun _ _ => rfl, rfl⟩

theorem notifyFn (d : Dev) (base : Nat) {f : Nat} (hf : f < 4) : d.KeepsSlices (d.notifyFn base f) := by
  unfold Dev.notifyFn
  split
  · exact raiseVec d _ hf
  · exact refl d

theorem notifyAll (d : Dev) (base : Nat) : d.KeepsSlices (d.notifyAll base) :=
  (((notifyFn d base (by decide)).trans (notifyFn _ base (by decide))).trans (notifyFn _ base (by decide))).trans
    (notifyFn _ base (by decide))

theorem slcEvt (d : Dev) (sl bit : Nat) : d.KeepsSlices (d.slcEvt sl bit) :=
  (setReg d _ (.inl (by decide))).trans (setReg _ _ (.inl (by decide)))

theorem faultEvent (d : Dev) (bits : List Nat) : d.KeepsSlices (d.sqSet Reg.FLT_EVT_STATUS bits) :=
  setReg d _ (.inr (by decide))

/-- A slice's statistics stand above the slice table. -/
theorem stat (d : Dev) (sl i n : Nat) : d.KeepsSlices (d.stat sl i n) := by
  have hk : 0x460000 ≤ Reg.SLC_STATSs sl (2 * i) := by unfold Reg.SLC_STATSs; omega
  exact (setReg d _ (.inr hk)).trans (setReg _ _ (.inr (by omega)))

/-- A record goes to the fault unit's own registers (R486). -/
theorem fault (d : Dev) (r : FaultRec) : d.KeepsSlices (d.fault r) := by
  have hring : ∀ i, 0x460000 ≤ Reg.FLT_RING i := fun i => by unfold Reg.FLT_RING; omega
  have hmram : ∀ i, 0x460000 ≤ Reg.FLT_MRAM_RING i := fun i => by unfold Reg.FLT_MRAM_RING; omega
  have hlog : ∀ i ws, d.KeepsSlices ((d.setRegs (Reg.FLT_RING i) ws).inc Reg.FLT_SEQ) := fun i ws =>
    (setRegs ws d (hring i)).trans (setReg _ _ (.inr (by decide)))
  simp only [Dev.fault]
  refine .trans ?_ ((faultEvent ..).trans (notifyAll ..))
  split
  · exact ((hlog _ _).trans (setRegs _ _ (hmram _))).trans (setFlt ..)
  · exact hlog _ _

end Dev.KeepsSlices

/-! ## The cork of an ACTIVE slice (R176, R177) -/

/-- The owners of the channels are registers of the DMA engine. -/
theorem Dev.sliceChans_setReg (d : Dev) {k : Nat} (v : Word) (sl : Nat) (hk : k < 0x600000) :
    (d.setReg k v).sliceChans sl = d.sliceChans sl := by
  have howner : (d.setReg k v).chOwner = d.chOwner := funext fun c => by
    unfold Dev.chOwner
    rw [Dev.reg_setReg_other d v (by unfold Reg.DMA_CHc_OWNER; omega)]
  unfold Dev.sliceChans Dev.chSlice
  rw [howner]

theorem Dev.sliceChans_stat (d : Dev) {sl i : Nat} (n : Nat) (hl : sl < 8192) (hi : i < 8) :
    (d.stat sl i n).sliceChans sl = d.sliceChans sl := by
  have hk : Reg.SLC_STATSs sl (2 * i) + 4 < 0x600000 := by unfold Reg.SLC_STATSs; omega
  exact (Dev.sliceChans_setReg _ _ _ hk).trans (Dev.sliceChans_setReg d _ _ (by omega))

/-- The status word of a slice with a cork cause recorded and STATE CORKED. -/
def Dev.recordCork (d : Dev) (sl cause : Nat) : Dev :=
  (d.setFld (Reg.SLC_SLICE_STATUS sl 0) 25 4 cause).setFld (Reg.SLC_SLICE_STATUS sl 0) 29 3 2

theorem Dev.sliceState_recordCork (d : Dev) (sl cause : Nat) : (d.recordCork sl cause).sliceState sl = 2 :=
  Dev.fld_setFld_same _ _ _ _ _ (by decide)

theorem Dev.cause_recordCork (d : Dev) (sl : Nat) {cause : Nat} (h : cause < 2 ^ 4) :
    (d.recordCork sl cause).fld (Reg.SLC_SLICE_STATUS sl 0) 25 4 = cause := by
  rw [Dev.recordCork, Dev.fld_setFld_other _ _ _ (by decide) (by decide), Dev.fld_setFld_same _ _ _ _ _ (by decide),
    Nat.mod_eq_of_lt h]

/-- The first cork of an ACTIVE slice without channels is counted and recorded; its event and notification leave the slices. -/
theorem Dev.keepsSlices_cork {d : Dev} {sl : Nat} (cause : Nat) (hl : sl < 8192) (hst : d.sliceState sl = 1)
    (hc : d.fld (Reg.SLC_SLICE_STATUS sl 0) 25 4 = 0) (hch : d.sliceChans sl = []) :
    ((d.stat sl 7 1).recordCork sl cause).KeepsSlices (d.cork sl cause) := by
  have hcs : (d.stat sl 7 1).fld (Reg.SLC_SLICE_STATUS sl 0) 25 4 = 0 := ((Dev.KeepsSlices.stat d sl 7 1).fld hl 25 4).trans hc
  have hkey : Reg.SLC_SLICE_STATUS sl 0 < 0x600000 := by unfold Reg.SLC_SLICE_STATUS; omega
  have hchs : ((d.stat sl 7 1).recordCork sl cause).sliceChans sl = [] := by
    rw [Dev.recordCork, Dev.setFld, Dev.sliceChans_setReg _ _ _ hkey, Dev.setFld, Dev.sliceChans_setReg _ _ _ hkey,
      Dev.sliceChans_stat d 1 hl (by decide), hch]
  rw [Dev.recordCork] at hchs ⊢
  simp only [Dev.cork, hst, hcs, hchs, true_or, if_true, List.foldl_nil]
  exact (Dev.KeepsSlices.slcEvt ..).trans (Dev.KeepsSlices.notifyFn _ _ (Word.fld_lt _ 20 2))

/-! ## Containment (R478) -/

/-- The slice noted as contained. -/
def Dev.noteContained (d : Dev) (sl : Nat) : Dev :=
  { d with slc := { d.slc with contained := sl :: d.slc.contained.filter (· ≠ sl) } }

/-- The containment of an ACTIVE slice is noted before its cork. -/
theorem Dev.containSlice_eq {d : Dev} {sl : Nat} (hst : d.sliceState sl = 1) :
    d.containSlice sl = ((d.noteContained sl).cork sl 8).sqSet Reg.FLT_EVT_STATUS [2] := by
  simp [Dev.containSlice, hst, Dev.noteContained]

/-- A slice that is ACTIVE, has no channels and no cork cause, is contained: corked with cause 8. -/
theorem Dev.containSlice_active {d : Dev} {sl : Nat} (hl : sl < 8192) (hst : d.sliceState sl = 1)
    (hc : d.fld (Reg.SLC_SLICE_STATUS sl 0) 25 4 = 0) (hch : d.sliceChans sl = []) :
    (d.containSlice sl).sliceState sl = 2 ∧ (d.containSlice sl).fld (Reg.SLC_SLICE_STATUS sl 0) 25 4 = 8 ∧
      sl ∈ (d.containSlice sl).slc.contained := by
  have hkeep : (((d.noteContained sl).stat sl 7 1).recordCork sl 8).KeepsSlices (d.containSlice sl) := by
    rw [Dev.containSlice_eq hst]
    exact (Dev.keepsSlices_cork (d := d.noteContained sl) 8 hl hst hc hch).trans (.faultEvent ..)
  refine ⟨?_, ?_, ?_⟩
  · rw [hkeep.sliceState hl, Dev.sliceState_recordCork]
  · rw [hkeep.fld hl, Dev.cause_recordCork _ _ (by decide)]
  · rw [hkeep.slc]
    exact List.mem_cons_self

/-- Damage to a slice's own state: the slice is contained, the record is of level 2 (R475). -/
theorem Dev.damage_slice (d : Dev) (sl : Fin 8192) :
    d.damage (.slice sl) = (d.containSlice sl.val, { faultRec 2 1 4 0 with slice := d.recSlice sl.val }) := rfl

/-- A fault in a slice's own state contains the slice and is recorded; it does not halt the device. -/
theorem exec_sliceError {s : State} (sl : Fin 8192) (loc : Word) (hr : s.dev.running = true) :
    exec (.uncorrectableError (.slice sl) loc) s = .next { s with
      dev := (s.dev.containSlice sl.val).fault { faultRec 2 1 4 0 with slice := s.dev.recSlice sl.val, location := loc } } := by
  have hexec : exec (.uncorrectableError (.slice sl) loc) s = execUncorrectableError (.slice sl) loc s := rfl
  rw [hexec, execUncorrectableError, act_run hr]
  simp [Dev.damage_slice, faultRec]

theorem Dev.causeHolds_of_contained {d : Dev} {sl : Nat} (h : sl ∈ d.slc.contained) : d.causeHolds sl = true := by
  simp [Dev.causeHolds, h]

/-- Without containment and without a recorded cause nothing holds a slice corked. -/
theorem Dev.causeHolds_of_no_cause {d : Dev} {sl : Nat} (h : sl ∉ d.slc.contained)
    (hc : d.fld (Reg.SLC_SLICE_STATUS sl 0) 25 4 = 0) : d.causeHolds sl = false := by
  simp [Dev.causeHolds, h, hc]

/-! ## The opcodes on a contained slice -/

/-- A contained slice is not uncorked: the reply names cause 8 (R178, R478). -/
theorem runSliceUncork_contained {c : Cmd} {d : Dev} (hst : d.sliceState c.slice ≠ 1) (h : c.slice ∈ d.slc.contained) :
    runSliceUncork c d = (d, some ⟨stBadParam, [8], false⟩) := by
  simp [runSliceUncork, hst, h, Dev.causeHolds_of_contained h]

/-- A quiesce that starts its walk leaves the containment (R179). -/
theorem runSliceQuiesce_starts {c : Cmd} {d : Dev} (h : d.sliceState c.slice = 1 ∨ d.sliceState c.slice = 2) :
    ∃ t, runSliceQuiesce c d = (t, none) ∧ t.slc.contained = d.slc.contained := by
  unfold runSliceQuiesce
  rcases h with h | h <;> simp only [h] <;> exact ⟨_, rfl, rfl⟩

/-- What a reset of a QUIESCED slice ends with: cause, containment and walk gone, STATE ACTIVE (R182). -/
def Dev.resetSliceState (d : Dev) (sl : Nat) : Dev := (((d.clearCause sl).uncontain sl).dropWalk sl).setSlice sl 1

theorem runSliceReset_quiesced {c : Cmd} {d : Dev} (h : d.sliceState c.slice = 4) :
    ∃ t : Dev, runSliceReset c d = (t.resetSliceState c.slice, some (Res.ok [])) := by
  unfold runSliceReset
  rw [if_neg (not_not.mpr h)]
  exact ⟨_, rfl⟩

theorem Dev.not_contained_resetSliceState (d : Dev) (sl : Nat) : sl ∉ (d.resetSliceState sl).slc.contained := fun h =>
  of_decide_eq_true (List.mem_filter.mp (show sl ∈ d.slc.contained.filter (· ≠ sl) from h)).2 rfl

theorem Dev.cause_resetSliceState (d : Dev) (sl : Nat) :
    (d.resetSliceState sl).fld (Reg.SLC_SLICE_STATUS sl 0) 25 4 = 0 :=
  (Dev.fld_setFld_other _ _ _ (by decide) (by decide)).trans (Dev.fld_setFld_same d _ _ _ _ (by decide))

/-- Settles O25: containment keeps cause 8 in force through an uncork and a quiesce, and the reset of the quiesced slice ends it. -/
theorem sliceFaultCorksUntilReset : Obligations.SliceFaultCorksUntilReset := by
  unfold Obligations.SliceFaultCorksUntilReset
  refine fun s sl hr => ⟨fun loc hst hc hch => ?_, fun m tag gen c hcs hin => ?_⟩
  · obtain ⟨hstate, hcause, hmem⟩ := Dev.containSlice_active sl.isLt hst hc hch
    have hkeep := Dev.KeepsSlices.fault (s.dev.containSlice sl.val)
      { faultRec 2 1 4 0 with slice := s.dev.recSlice sl.val, location := loc }
    exact ⟨_, exec_sliceError sl loc hr, (hkeep.sliceState sl.isLt).trans hstate, (hkeep.fld sl.isLt 25 4).trans hcause,
      hkeep.slc ▸ hmem⟩
  · rw [← hcs] at hin ⊢
    refine ⟨fun hs hst => ?_, fun hs hst => ?_, fun hs hst => ?_⟩
    · exact opStep_ok hr hs (runSliceUncork_contained hst hin)
    · obtain ⟨t, hrun, hkept⟩ := runSliceQuiesce_starts hst
      exact ⟨_, opStep_wait hr hs hrun, hkept ▸ hin⟩
    · obtain ⟨t, hrun⟩ := runSliceReset_quiesced hst
      have hout := t.not_contained_resetSliceState c.slice
      exact ⟨_, opStep_ok hr hs hrun, hout, Dev.causeHolds_of_no_cause hout (t.cause_resetSliceState c.slice)⟩

end Sys2Proof.Machine
end

section
/-! PROOFS. O1, O2, O3, O56, O57, O58, O59: which rows act on a device that does not run, what they change in reset and through a
halt, and the end of a halt (R488, R489, R498, R499; log entry 11). -/

namespace Sys2Proof.Machine

/-! ## Rows by what they need -/

/-- The rows that act on a device that does not run too (log entry 11): resets, boot, supplies, pins, JTAG and MCTP control; the
host links' PHYs; windows and temperatures; the PLDM firmware device; a write that may be FLT_HALT_RESET's key. -/
def actsOffRunning : Instr → Bool
  | .registerWrite .. | .fltHaltResetWrite _ => true
  | .sysRstAssert | .sysRstDeassert .. | .bootStageDone _ | .bootStageDeadline => true
  | .powerGoodFall _ | .powerGoodRise | .supplyFaultHold .. | .railOutOfWindow _ | .railWithinWindow _ | .pairInChange _ => true
  | .lifecycleLatch | .jtagInstruction _ | .mctpControlMessage _ => true
  | .pcieLinkUp .. | .perstDeassert .. | .linkDown _ | .busMasterDisable _ | .busMasterEnable _ | .powerStateWrite ..
  | .functionLevelReset _ | .flrComplete _ => true
  | .windowStart | .refusedUnitAdmitted .. | .tempReading _ => true
  | .pldmRequestUpdate _ | .pldmTransfer .. | .pldmActivateFirmware .. => true
  | _ => false

/-- Every other row acts on a running device alone. -/
theorem actsOffRunning_or_act (i : Instr) : actsOffRunning i = true ∨ ∃ f : Dev → Dev, ∀ s, exec i s = act f s := by
  cases i with
  | registerWrite | fltHaltResetWrite | sysRstAssert | sysRstDeassert | bootStageDone | bootStageDeadline | powerGoodFall
  | powerGoodRise | supplyFaultHold | railOutOfWindow | railWithinWindow | pairInChange | lifecycleLatch | jtagInstruction
  | mctpControlMessage | pcieLinkUp | perstDeassert | linkDown | busMasterDisable | busMasterEnable | powerStateWrite
  | functionLevelReset | flrComplete | windowStart | refusedUnitAdmitted | tempReading | pldmRequestUpdate | pldmTransfer
  | pldmActivateFirmware => exact .inl rfl
  | _ => exact .inr ⟨_, fun _ => rfl⟩

theorem exec_onDev (i : Instr) : ∃ f : Dev → Dev, ∀ s, exec i s = .next (s.onDev f) := by
  cases i <;> exact ⟨_, fun _ => rfl⟩

/-! ## Devices that do not run -/

theorem Dev.running_of_rstLow {d : Dev} (h : d.pins.rstLow = true) : d.running = false := by simp [Dev.running, h]

theorem Dev.running_of_halted {d : Dev} (h : d.halted = true) : d.running = false := by simp [Dev.running, h]

theorem Dev.live_dead {f : Dev → Dev} {d : Dev} (h : d.running = false) : d.live f = d := by simp [Dev.live, h]

theorem Dev.booting_of_rstLow {d : Dev} (h : d.pins.rstLow = true) : d.booting = false := by simp [Dev.booting, h]

theorem Dev.booting_of_stage7 {d : Dev} (h : d.stage? = 7) : d.booting = false := by simp [Dev.booting, h]

theorem State.onDev_same {s : State} {f : Dev → Dev} (h : f s.dev = s.dev) : s.onDev f = s := by
  rw [State.onDev, h]

theorem actPhy_off {f : Dev → Dev} {s : State} (h : s.dev.phyOn = false) : actPhy f s = .next s := by
  simp [actPhy, actAlways, State.onDev, h]

theorem actOn_rstLow {f : Dev → Dev} {s : State} (h : s.dev.pins.rstLow = true) : actOn f s = .next s := by
  simp [actOn, actAlways, State.onDev, h]

theorem actOn_halted {f : Dev → Dev} {s : State} (h : s.dev.halted = true) : actOn f s = .next s := by
  simp [actOn, actAlways, State.onDev, h]

/-- PLDM reaches the ROM of a boot and the running firmware alone. -/
theorem pldmStep_off {rom run : Dev → Dev} {s : State} (hb : s.dev.booting = false) (hr : s.dev.running = false) :
    pldmStep rom run s = .next s := by
  simp [pldmStep, State.onDev, Dev.recovering, hb, Dev.live_dead hr]

/-! ## A device in reset -/

/-- What a device held in reset still lets change: the count of JTAG instructions refused, the pins, the life cycle latched, what
is sent, and the free values drawn. -/
structure Dev.HeldInReset (d t : Dev) : Prop where
  rstLow : t.pins.rstLow = true
  regs : d.sameRegsBut t [Reg.LCS_DENIED_JTAG]
  stg : t.rf.stg = d.rf.stg
  rest : t = { d with rf := t.rf, pins := t.pins, lcs := { d.lcs with latch := t.lcs.latch }, out := t.out, freeCtr := t.freeCtr }

theorem Dev.HeldInReset.refl {d : Dev} (h : d.pins.rstLow = true) : d.HeldInReset d := ⟨h, fun _ _ => rfl, rfl, rfl⟩

/-- In reset no row but these touches the device: power-good inputs and rails, the partner's level, the life cycle's latch, JTAG. -/
def actsInReset : Instr → Bool
  | .sysRstDeassert .. | .powerGoodFall _ | .powerGoodRise | .railWithinWindow _ | .pairInChange _ | .lifecycleLatch
  | .jtagInstruction _ => true
  | _ => false

theorem exec_rstLow {i : Instr} {s : State} (h : s.dev.pins.rstLow = true) (hi : actsInReset i = false) : exec i s = .next s := by
  have hrun := Dev.running_of_rstLow h
  have hphy : s.dev.phyOn = false := by simp [Dev.phyOn, h]
  have hboot := Dev.booting_of_rstLow h
  rcases actsOffRunning_or_act i with hoff | ⟨f, hf⟩
  · cases i with
    | registerWrite => exact congrArg _ (State.onDev_same (by simp [h, Dev.live_dead hrun]))
    | pcieLinkUp | perstDeassert | linkDown | busMasterDisable | busMasterEnable | powerStateWrite | functionLevelReset
    | flrComplete => exact actPhy_off hphy
    | windowStart | refusedUnitAdmitted | tempReading => exact actOn_rstLow h
    | pldmRequestUpdate | pldmTransfer | pldmActivateFirmware => exact pldmStep_off hboot hrun
    | fltHaltResetWrite | sysRstAssert | bootStageDone | bootStageDeadline | supplyFaultHold | railOutOfWindow
    | mctpControlMessage => exact congrArg _ (State.onDev_same (by simp [h, hboot]))
    | sysRstDeassert | powerGoodFall | powerGoodRise | railWithinWindow | pairInChange | lifecycleLatch | jtagInstruction => cases hi
    | _ => cases hoff
  · rw [hf, act_dead hrun]

/-- A JTAG instruction on a device that does not run: refused it is counted, else it draws and sends a word at most. -/
theorem exec_jtag_cases {j : Jtag} {s t : State} (hrun : s.dev.running = false) (e : exec (.jtagInstruction j) s = .next t) :
    t.dev = s.dev.count Reg.LCS_DENIED_JTAG 1 ∨ t.dev = s.dev ∨
      t.dev = s.dev.freeWord.2.emit (.jtag s.dev.freeWord.1) := by
  obtain rfl : s.onDev _ = t := Host.Outcome.next.inj e
  simp only [State.onDev_dev]
  split
  · exact .inl rfl
  · cases j with
    | idcode | sample => exact .inr (.inr rfl)
    | dbgPacket | dbgMbxIn | dbgMbxAck => exact .inr (.inl (Dev.live_dead hrun))
    | _ => exact .inr (.inl rfl)

theorem exec_heldInReset {i : Instr} {s t : State} (h : s.dev.pins.rstLow = true) (hi : ∀ tid hold, i ≠ .sysRstDeassert tid hold)
    (e : exec i s = .next t) : s.dev.HeldInReset t.dev := by
  by_cases hact : actsInReset i = true
  · cases i with
    | sysRstDeassert tid hold => exact absurd rfl (hi tid hold)
    | powerGoodFall g =>
      obtain rfl : s.onDev _ = t := Host.Outcome.next.inj e
      simp only [State.onDev_dev, h, if_true]
      split
      · exact .refl h
      · exact ⟨rfl, fun _ _ => rfl, rfl, rfl⟩
    | powerGoodRise | railWithinWindow | pairInChange =>
      obtain rfl : s.onDev _ = t := Host.Outcome.next.inj e
      simp only [State.onDev_dev, h, if_true]
      exact ⟨rfl, fun _ _ => rfl, rfl, rfl⟩
    | lifecycleLatch =>
      obtain rfl : s.onDev _ = t := Host.Outcome.next.inj e
      simp only [State.onDev_dev]
      split
      · exact .refl h
      · exact ⟨h, fun _ _ => rfl, rfl, rfl⟩
    | jtagInstruction j =>
      rcases exec_jtag_cases (Dev.running_of_rstLow h) e with ht | ht | ht <;> rw [ht]
      · exact ⟨h, fun k hk => Dev.reg_setReg_other _ _ (List.ne_of_not_mem_cons hk), rfl, rfl⟩
      · exact .refl h
      · exact ⟨h, fun _ _ => rfl, rfl, rfl⟩
    | _ => cases hact
  · rw [exec_rstLow h (Bool.not_eq_true _ ▸ hact)] at e
    cases e
    exact .refl h

/-- Settles O57: in reset a row but the release of SYS_RST_N keeps the device held. -/
theorem inResetNothingRuns : Obligations.InResetNothingRuns := by
  unfold Obligations.InResetNothingRuns
  intro s t h hrel hstep
  have held : s.dev.HeldInReset t.dev := by
    rw [step] at hstep
    split at hstep
    · cases hstep
      rw [State.idle, State.onDev_same (by simp [h])]
      exact .refl h
    · next i rest hp =>
      exact exec_heldInReset (s := { s with pending := rest }) h (fun tid hold hi => hrel tid hold (by simp [hp, hi])) hstep
  exact ⟨held.rstLow, held.regs, held.stg, held.rest⟩

/-! ## A halted device -/

/-- What a device halted after its boot still lets change, the host links' PHYs set aside: the registers of supplies, of the
partner's signal and of refused JTAG instructions, the words pending for masters, the pins, the life cycle latched, what is sent,
and the free values drawn. -/
structure Dev.StaysHalted (d t : Dev) : Prop where
  rstLow : t.pins.rstLow = d.pins.rstLow
  txdis : t.pins.txdis = d.pins.txdis
  regs : d.sameRegsBut t [Reg.GLB_SUPPLY_FAULT, Reg.GLB_EVT_STATUS, Reg.GLB_PAIR, Reg.LCS_DENIED_JTAG]
  rest : t = { d with rf := t.rf, cmd := { d.cmd with outPend := t.cmd.outPend }, pins := t.pins,
                      lcs := { d.lcs with latch := t.lcs.latch }, out := t.out, freeCtr := t.freeCtr }

namespace Dev.StaysHalted

theorem refl (d : Dev) : d.StaysHalted d := ⟨rfl, rfl, fun _ _ => rfl, rfl⟩

theorem trans {d d' d'' : Dev} (h : d.StaysHalted d') (h' : d'.StaysHalted d'') : d.StaysHalted d'' where
  rstLow := h'.rstLow.trans h.rstLow
  txdis := h'.txdis.trans h.txdis
  regs k hk := (h'.regs k hk).trans (h.regs k hk)
  rest := by rw [h'.rest, h.rest]

/-- A register of supplies, of the partner's signal, of refused JTAG instructions. -/
theorem setReg {d t : Dev} (h : d.StaysHalted t) {k : Nat} (v : Word)
    (hk : k ∈ [Reg.GLB_SUPPLY_FAULT, Reg.GLB_EVT_STATUS, Reg.GLB_PAIR, Reg.LCS_DENIED_JTAG]) : d.StaysHalted (t.setReg k v) :=
  h.trans ⟨rfl, rfl, fun _ hj => Dev.reg_setReg_other t v fun he => hj (he ▸ hk), rfl⟩

theorem setPins (d : Dev) {p : Pins} (hr : p.rstLow = d.pins.rstLow) (ht : p.txdis = d.pins.txdis) :
    d.StaysHalted { d with pins := p } := ⟨hr, ht, fun _ _ => rfl, rfl⟩

theorem postAll (ms : List Nat) (kind info : Nat) (d : Dev) : d.StaysHalted (d.postAll ms kind info) := by
  have hpost : ∀ (m : Nat) (d : Dev), d.StaysHalted (d.post m kind info) := fun m d => by
    unfold Dev.post
    split
    · exact ⟨rfl, rfl, fun _ _ => rfl, rfl⟩
    · exact refl d
  induction ms generalizing d with
  | nil => exact refl d
  | cons m ms ih => exact (hpost m d).trans (ih _)

theorem hcSetSupply (d : Dev) (g : Nat) (b : Bool) : d.StaysHalted (d.hcSet Reg.GLB_SUPPLY_FAULT g b 1) := by
  dsimp only [Dev.hcSet]
  split
  · exact (((refl d).setReg _ (by simp)).setReg _ (by simp)).trans (postAll ..)
  · exact (refl d).setReg _ (by simp)

theorem showSupply {d t : Dev} (h : d.StaysHalted t) : d.StaysHalted t.showSupply := by
  have hfold : ∀ (gs : List Nat) (d : Dev), d.StaysHalted
      (gs.foldl (fun (d : Dev) g => d.hcSet Reg.GLB_SUPPLY_FAULT g (d.pins.supply.contains g) 1) d) := fun gs => by
    induction gs with
    | nil => exact refl
    | cons g gs ih => exact fun d => (hcSetSupply d g _).trans (ih _)
  exact h.trans (hfold _ t)

/-- What does not change on a halted device: that it is halted, and its boot's stage. -/
theorem halted {d t : Dev} (h : d.StaysHalted t) : t.halted = d.halted := by
  rw [Dev.halted, Dev.bit, h.regs _ (by decide)]; rfl

theorem stage {d t : Dev} (h : d.StaysHalted t) : t.stage? = d.stage? := by
  rw [Dev.stage?, Dev.fld, h.regs _ (by decide)]; rfl

/-- A supply fault of a device past its boot is shown, and resets nothing (R494). -/
theorem supplyFault {d t : Dev} (h : d.StaysHalted t) (h7 : d.stage? = 7) : d.StaysHalted t.supplyFault := by
  have hshow := h.showSupply
  have hstage : ¬ t.showSupply.stage? < 7 := by rw [hshow.stage, h7]; decide
  rw [Dev.supplyFault]
  simpa only [hstage, false_and, if_false] using hshow

end Dev.StaysHalted

theorem Dev.haltReset_of_not_key {d : Dev} {v : Word} (h : v ≠ 0x5A170001#32) : d.haltReset v = d := by simp [Dev.haltReset, h]

/-- On a halted device no row but these touches the device: power-good inputs and rails, the partner's level, the life cycle's
latch, JTAG and MCTP control. -/
def actsOnHalted : Instr → Bool
  | .powerGoodFall _ | .powerGoodRise | .railOutOfWindow _ | .railWithinWindow _ | .pairInChange _ | .lifecycleLatch
  | .jtagInstruction _ | .mctpControlMessage _ => true
  | _ => false

theorem exec_halted {i : Instr} {s : State} (h : s.dev.halted = true) (h7 : s.dev.stage? = 7) (hr : s.dev.pins.rstLow = false)
    (hk : keepsHalt i = true) (hi : actsOnHalted i = false) : exec i s = .next s := by
  have hrun := Dev.running_of_halted h
  have hboot := Dev.booting_of_stage7 h7
  rcases actsOffRunning_or_act i with hoff | ⟨f, hf⟩
  · cases i with
    | registerWrite =>
      have hv := of_decide_eq_true hk
      exact congrArg _ (State.onDev_same (by simp [Dev.live_dead hrun, Dev.haltReset_of_not_key hv]))
    | fltHaltResetWrite =>
      have hv := of_decide_eq_true hk
      exact congrArg _ (State.onDev_same (by simp [Dev.haltReset_of_not_key hv]))
    | supplyFaultHold => exact congrArg _ (State.onDev_same (by simp [Dev.halt, h]))
    | sysRstDeassert | bootStageDone | bootStageDeadline => exact congrArg _ (State.onDev_same (by simp [hr, hboot]))
    | windowStart | refusedUnitAdmitted | tempReading => exact actOn_halted h
    | pldmRequestUpdate | pldmTransfer | pldmActivateFirmware => exact pldmStep_off hboot hrun
    | sysRstAssert | pcieLinkUp | perstDeassert | linkDown | busMasterDisable | busMasterEnable | powerStateWrite
    | functionLevelReset | flrComplete => cases hk
    | powerGoodFall | powerGoodRise | railOutOfWindow | railWithinWindow | pairInChange | lifecycleLatch | jtagInstruction
    | mctpControlMessage => cases hi
    | _ => cases hoff
  · rw [hf, act_dead hrun]

theorem exec_staysHalted {i : Instr} {s t : State} (h : s.dev.halted = true) (h7 : s.dev.stage? = 7)
    (hr : s.dev.pins.rstLow = false) (hk : keepsHalt i = true) (e : exec i s = .next t) : s.dev.StaysHalted t.dev := by
  by_cases hact : actsOnHalted i = true
  · cases i with
    | powerGoodFall g =>
      obtain rfl : s.onDev _ = t := Host.Outcome.next.inj e
      simp only [State.onDev_dev, hr, Bool.false_eq_true, if_false]
      split
      · exact .refl _
      · exact .supplyFault ⟨hr.symm, rfl, fun _ _ => rfl, rfl⟩ h7
    | powerGoodRise =>
      obtain rfl : s.onDev _ = t := Host.Outcome.next.inj e
      have hpins : s.dev.StaysHalted { s.dev with pins := { s.dev.pins with pgLow := [] } } := .setPins _ rfl rfl
      have hboot := Dev.booting_of_stage7 (hpins.stage.trans h7)
      simp only [State.onDev_dev, hboot, Bool.false_eq_true, if_false]
      rw [if_neg (by simp [hr])]
      exact hpins.showSupply
    | railOutOfWindow r =>
      obtain rfl : s.onDev _ = t := Host.Outcome.next.inj e
      simp only [State.onDev_dev]
      split
      · exact .refl _
      · exact .supplyFault (.setPins _ rfl rfl) h7
    | railWithinWindow r =>
      obtain rfl : s.onDev _ = t := Host.Outcome.next.inj e
      simp only [State.onDev_dev]
      rw [if_neg (by simp [hr])]
      exact .showSupply (.setPins _ rfl rfl)
    | pairInChange level =>
      obtain rfl : s.onDev _ = t := Host.Outcome.next.inj e
      simp only [State.onDev_dev]
      have hpins : s.dev.StaysHalted { s.dev with pins := { s.dev.pins with pairIn := level } } := .setPins _ rfl rfl
      rw [if_neg (by simp [hr])]
      exact hpins.setReg (k := Reg.GLB_PAIR) _ (by simp)
    | lifecycleLatch =>
      obtain rfl : s.onDev _ = t := Host.Outcome.next.inj e
      simp only [State.onDev_dev]
      split
      · exact .refl _
      · exact ⟨rfl, rfl, fun _ _ => rfl, rfl⟩
    | jtagInstruction j =>
      rcases exec_jtag_cases (Dev.running_of_halted h) e with ht | ht | ht <;> rw [ht]
      · exact .setReg (.refl _) _ (by simp)
      · exact .refl _
      · exact ⟨rfl, rfl, fun _ _ => rfl, rfl⟩
    | mctpControlMessage req =>
      obtain rfl : s.onDev _ = t := Host.Outcome.next.inj e
      simp only [State.onDev_dev, hr, h, Bool.false_eq_true, if_false, Bool.true_or, if_true]
      split <;> exact ⟨rfl, rfl, fun _ _ => rfl, rfl⟩
    | _ => cases hact
  · rw [exec_halted h h7 hr hk (Bool.not_eq_true _ ▸ hact)] at e
    cases e
    exact .refl _

/-- Settles O58: on a halted device a row that cannot end the halt changes only what supplies, the partner, JTAG and the sideband
show. -/
theorem haltHoldsUntilReset : Obligations.HaltHoldsUntilReset := by
  unfold Obligations.HaltHoldsUntilReset
  intro s t h h7 hr hk hstep
  have stays : s.dev.StaysHalted t.dev := by
    rw [step] at hstep
    split at hstep
    · cases hstep
      rw [State.idle, State.onDev_same (by simp [h])]
      exact .refl _
    · next i rest hp =>
      rw [hp] at hk
      exact exec_staysHalted (s := { s with pending := rest }) h h7 hr hk hstep
  exact ⟨stays.halted.trans h, stays.stage.trans h7, stays.rstLow.trans hr, stays.txdis, stays.regs, stays.rest⟩

/-! ## Changes of the register file alone -/

/-- `t` is `d` but for the register file. -/
def Dev.RfOnly (d t : Dev) : Prop := ∃ rf, t = { d with rf := rf }

namespace Dev.RfOnly

theorem refl (d : Dev) : d.RfOnly d := ⟨d.rf, rfl⟩

theorem setReg {d t : Dev} (h : d.RfOnly t) (k : Nat) (v : Word) : d.RfOnly (t.setReg k v) := by
  obtain ⟨rf, rfl⟩ := h
  exact ⟨_, rfl⟩

theorem set64 {d t : Dev} (h : d.RfOnly t) (k v : Nat) : d.RfOnly (t.set64 k v) := (h.setReg ..).setReg ..

theorem foldl {α : Type} {g : Dev → α → Dev} {d t : Dev} (h : d.RfOnly t) (hg : ∀ {t : Dev}, d.RfOnly t → ∀ a, d.RfOnly (g t a))
    (as : List α) : d.RfOnly (as.foldl g t) := by
  induction as generalizing t with
  | nil => exact h
  | cons a as ih => exact ih (hg h a)

end Dev.RfOnly

/-! ## FLT_HALT_RESET (R489) -/

theorem Map.get?_sift_none {α : Type} {m : Map α} {p : Nat → α → Bool} {k : Nat} (h : ∀ v, p k v = false) :
    Map.get? (Map.sift m p) k = none := by
  refine Map.get?_none_of_not_mem _ k fun e he hk => ?_
  have hp := (List.mem_filter.mp he).2
  rw [hk, h] at hp
  cases hp

/-- The registers that show a key slot lie in the window of the cipher block. -/
theorem Dev.reg_showSlot (d : Dev) (i : Nat) {k : Nat} (hk : k < 0xc00000) : (d.showSlot i).reg k = d.reg k := by
  have hs : k ≠ Reg.CRY_SLOTs i := by unfold Reg.CRY_SLOTs; omega
  have hlo : k ≠ Reg.CRY_SLOT_PNs i 0 := by unfold Reg.CRY_SLOT_PNs; omega
  have hhi : k ≠ Reg.CRY_SLOT_PNs i 0 + 4 := by unfold Reg.CRY_SLOT_PNs; omega
  simp only [Dev.showSlot]
  split <;> simp [Dev.set64, Dev.setN, Dev.reg_setReg, hs, hlo, hhi]

theorem Dev.reg_foldl_showSlot (is : List Nat) (d : Dev) {k : Nat} (hk : k < 0xc00000) :
    (is.foldl (fun (d : Dev) i => d.showSlot i) d).reg k = d.reg k := by
  induction is generalizing d with
  | nil => rfl
  | cons i is ih => exact (ih _).trans (d.reg_showSlot i hk)

theorem Dev.reg_foldl_supply (gs : List Nat) (d : Dev) {k : Nat} (hk : k ≠ Reg.GLB_SUPPLY_FAULT) :
    (gs.foldl (fun (d : Dev) g => d.setBit Reg.GLB_SUPPLY_FAULT g true) d).reg k = d.reg k := by
  induction gs generalizing d with
  | nil => rfl
  | cons g gs ih => exact (ih _).trans (Dev.reg_setReg_other d _ hk)

/-- What a device reset keeps, on the device as after reset, before the registers that follow from it are shown (R483). -/
def Dev.kept (d : Dev) : Dev :=
  let r : Dev := Dev.reset
  let a := d.age
  { r with
    rf := { r.rf with act := Map.sift d.rf.act (fun k _ => keptReg k) },
    age := { r.age with previous := a.previous, lastVersion := a.lastVersion, basis := a.basis, lastReplan := a.lastReplan,
                        calibrated := a.calibrated, daily := a.daily, monthly := a.monthly, bins := a.bins,
                        dayBins := a.dayBins, periodBins := a.periodBins },
    cry := { r.cry with slots := Map.sift d.cry.slots (fun _ k => k.persist) },
    flt := { r.flt with mramCount := d.flt.mramCount },
    lcs := { r.lcs with copies := d.lcs.copies, latch := d.lcs.latch, identity := d.lcs.identity },
    upd := { r.upd with banks := d.upd.banks, copies := d.upd.copies, board := d.upd.board },
    pins := { d.pins with txdis := 0xFFFF, pairOk := false },
    out := d.out, freeCtr := d.freeCtr }

/-- The key slots kept are shown again. -/
def Dev.showKept (d : Dev) : Dev := (Map.keys d.cry.slots).foldl (fun (r : Dev) i => r.showSlot i) d

/-- The grants and violations that a device reset clears, and the partner's level. -/
def Dev.clearGrants (d : Dev) : Dev :=
  ((d.setFld Reg.LCS_STATE 0 8 0).setReg Reg.LCS_VIOLATION (d.reg Reg.LCS_VIOLATION &&& 0xC)).setBit Reg.GLB_PAIR 31 d.pins.pairIn

/-- The supply bits whose causes last are shown. -/
def Dev.setSupply (d : Dev) (gs : List Nat) : Dev := gs.foldl (fun (d : Dev) g => d.setBit Reg.GLB_SUPPLY_FAULT g true) d

theorem Dev.RfOnly.showSlot {d t : Dev} (h : d.RfOnly t) (i : Nat) : d.RfOnly (t.showSlot i) := by
  simp only [Dev.showSlot]
  split
  · exact (h.setReg ..).set64 ..
  · exact (h.setReg ..).set64 ..

theorem Dev.RfOnly.showKept {d t : Dev} (h : d.RfOnly t) : d.RfOnly t.showKept := h.foldl (fun h i => h.showSlot i) _

theorem Dev.RfOnly.clearGrants {d t : Dev} (h : d.RfOnly t) : d.RfOnly t.clearGrants := ((h.setReg ..).setReg ..).setReg ..

theorem Dev.RfOnly.setSupply {d t : Dev} (h : d.RfOnly t) (gs : List Nat) : d.RfOnly (t.setSupply gs) :=
  h.foldl (fun h _ => h.setReg ..) _

theorem Dev.deviceReset_eq (d : Dev) : d.deviceReset = d.kept.showKept.clearGrants.setSupply d.pins.supply := by
  have hpair : d.kept.showKept.pins.pairIn = d.pins.pairIn := by
    obtain ⟨rf, h⟩ := (Dev.RfOnly.refl d.kept).showKept
    rw [h]; rfl
  have hgrants : d.kept.showKept.clearGrants = ((d.kept.showKept.setFld Reg.LCS_STATE 0 8 0).setReg Reg.LCS_VIOLATION
      (d.kept.showKept.reg Reg.LCS_VIOLATION &&& 0xC)).setBit Reg.GLB_PAIR 31 d.pins.pairIn := by
    rw [Dev.clearGrants, hpair]
  rw [hgrants]
  rfl

/-- A device reset puts a register of the first blocks back that MRAM and the pins do not hold (R483). -/
theorem Dev.reg_deviceReset (d : Dev) {k : Nat} (hk : k < 0xc00000) (hkept : keptReg k = false)
    (hpins : k ∉ [Reg.GLB_SUPPLY_FAULT, Reg.GLB_PAIR]) : d.deviceReset.reg k = resetOf k := by
  simp only [List.mem_cons, List.not_mem_nil, or_false, not_or] at hpins
  have hst : k ≠ Reg.LCS_STATE := by unfold Reg.LCS_STATE; omega
  have hvi : k ≠ Reg.LCS_VIOLATION := by unfold Reg.LCS_VIOLATION; omega
  have hgrants : ∀ d : Dev, d.clearGrants.reg k = d.reg k := fun d => by
    rw [Dev.clearGrants, Dev.setBit, Dev.setFld, Dev.reg_setReg_other _ _ hpins.2, Dev.reg_setReg_other _ _ hvi, Dev.setFld,
      Dev.reg_setReg_other _ _ hst]
  have hbase : Map.get? (Map.sift d.rf.act fun k _ => keptReg k) k = none := Map.get?_sift_none fun _ => hkept
  rw [Dev.deviceReset_eq, Dev.setSupply, Dev.reg_foldl_supply _ _ hpins.1, hgrants, Dev.showKept, Dev.reg_foldl_showSlot _ _ hk,
    Dev.reg, show d.kept.rf.act = Map.sift d.rf.act fun k _ => keptReg k from rfl, hbase, Option.getD_none]

theorem Dev.deviceReset_rfOnly (d : Dev) : d.kept.RfOnly d.deviceReset := by
  rw [Dev.deviceReset_eq]
  exact (Dev.RfOnly.refl _).showKept.clearGrants.setSupply _

/-- A device reset leaves commands, rings and the Press as after reset (R483). -/
theorem Dev.deviceReset_blocks (d : Dev) :
    d.deviceReset.cmd = Dev.reset.cmd ∧ d.deviceReset.rng = Dev.reset.rng ∧ d.deviceReset.prs = Dev.reset.prs := by
  obtain ⟨rf, h⟩ := d.deviceReset_rfOnly
  rw [h]
  exact ⟨rfl, rfl, rfl⟩

/-- Settles O56: the key ends a halt by a device reset; without the key, or without a halt, nothing changes. -/
theorem haltResetTakesItsKeyAlone : Obligations.HaltResetTakesItsKeyAlone := by
  unfold Obligations.HaltResetTakesItsKeyAlone
  refine fun s v => ⟨fun h hr hv => ?_, fun hoff => ?_⟩
  · have hexec : exec (.fltHaltResetWrite v) s = .next { s with dev := s.dev.deviceReset } := by
      refine congrArg Host.Outcome.next ?_
      simp [State.onDev, hr, Dev.haltReset, h, hv]
    obtain ⟨hcmd, hrng, hprs⟩ := s.dev.deviceReset_blocks
    refine ⟨_, hexec, ?_, ?_, hcmd, hrng, hprs, fun m hi => ?_⟩
    · rw [Dev.halted, Dev.bit, Dev.reg_deviceReset _ (by decide) (by decide) (by decide)]; decide
    · rw [Dev.stage?, Dev.fld, Dev.reg_deviceReset _ (by decide) (by decide) (by decide)]; decide
    · rw [hexec]
      refine congrArg Host.Outcome.next ?_
      simp [State.onDev, hr, Dev.haltReset, h, hv]
  · refine congrArg Host.Outcome.next (State.onDev_same ?_)
    split
    · rfl
    · next hr =>
      rcases hoff with h | h | h
      · simp [Dev.haltReset, h]
      · exact absurd h hr
      · exact Dev.haltReset_of_not_key h

/-! ## Steps -/

/-- Settles O1: the queue's front command runs on the rest of the queue. -/
theorem stepRunsFrontCommand : Obligations.StepRunsFrontCommand := by
  unfold Obligations.StepRunsFrontCommand
  intro i rest s hp
  rw [step, hp]

/-- Settles O2: an empty queue lets one GAU clock pass. -/
theorem emptyQueueStepIsOneClock : Obligations.EmptyQueueStepIsOneClock := by
  unfold Obligations.EmptyQueueStepIsOneClock
  intro s hp
  simp only [step, hp, State.idle, State.onDev]

/-- Settles O3: every row is a change of the device. -/
theorem everyCommandAnswersAndKeepsTheQueue : Obligations.EveryCommandAnswersAndKeepsTheQueue := by
  unfold Obligations.EveryCommandAnswersAndKeepsTheQueue
  intro i s
  obtain ⟨f, hf⟩ := exec_onDev i
  exact ⟨_, hf s, rfl⟩

/-! ## The machine after reset -/

/-- A slice number above 8,191 whose second status word falls on a register with a reset value of its own: the control word of
the first flow-processor thread. -/
def sliceNumberAtThread : Nat := (0x40000000 - 0x420000) / 0x20

theorem reset_incarnation_sliceNumberAtThread : State.reset.dev.incarnation sliceNumberAtThread = 0x40 := by decide

/-- Refutes O59: its slice numbers are not held below 8,192, and the status word of a slice number beyond the table is another
register, which need not reset to 0. -/
theorem not_resetStateIsAsTheSpecGives : ¬ Obligations.ResetStateIsAsTheSpecGives := by
  unfold Obligations.ResetStateIsAsTheSpecGives
  rintro ⟨-, -, -, -, -, -, hinc, -⟩
  have h := hinc sliceNumberAtThread
  rw [reset_incarnation_sliceNumberAtThread] at h
  exact absurd h (by decide)

end Sys2Proof.Machine
end

section
/-! PROOFS. What register writes leave: the registers outside a list, fields and bits read back; changes outside the register file. -/

namespace Sys2Proof.Machine

/-! ## Registers outside a list -/

namespace Dev.sameRegsBut

variable {d t u : Dev} {ks : List Nat}

theorem refl (d : Dev) (ks : List Nat) : d.sameRegsBut d ks := fun _ _ => rfl

theorem trans (h : d.sameRegsBut t ks) (h' : t.sameRegsBut u ks) : d.sameRegsBut u ks := fun k hk => (h' k hk).trans (h k hk)

theorem mono {js : List Nat} (h : d.sameRegsBut t js) (hs : js ⊆ ks) : d.sameRegsBut t ks := fun k hk => h k fun hj => hk (hs hj)

/-- A register of the list written; fields, bits, events and counters are such writes. -/
theorem setReg (h : d.sameRegsBut t ks) {k : Nat} {v : Word} (hk : k ∈ ks) : d.sameRegsBut (t.setReg k v) ks :=
  fun j hj => (Dev.reg_setReg_other t v fun he : j = k => hj (he ▸ hk)).trans (h j hj)

theorem set64 (h : d.sameRegsBut t ks) {k v : Nat} (hlo : k ∈ ks) (hhi : k + 4 ∈ ks) : d.sameRegsBut (t.set64 k v) ks :=
  (h.setReg hlo).setReg hhi

/-- A change outside the register file. -/
theorem of_rf (h : d.sameRegsBut t ks) (hrf : u.rf = t.rf) : d.sameRegsBut u ks :=
  fun k hk => (by rw [Dev.reg, hrf]; rfl : u.reg k = t.reg k).trans (h k hk)

end Dev.sameRegsBut

/-- A change outside the register file leaves every register. -/
theorem Dev.reg_congr {d t : Dev} (h : t.rf = d.rf) (k : Nat) : t.reg k = d.reg k := by rw [Dev.reg, h]; rfl

/-! ## Fields and bits read back -/

theorem Dev.fld_setReg (d : Dev) (k j lo n : Nat) (v : Word) :
    (d.setReg k v).fld j lo n = if j = k then Word.fld v lo n else d.fld j lo n := by
  unfold Dev.fld; rw [Dev.reg_setReg]; split <;> rfl

theorem Dev.bit_setReg (d : Dev) (k j i : Nat) (v : Word) :
    (d.setReg k v).bit j i = if j = k then Word.bit v i else d.bit j i := by
  unfold Dev.bit; rw [Dev.reg_setReg]; split <;> rfl

theorem Dev.fld_setReg_other (d : Dev) {k j : Nat} (lo n : Nat) (v : Word) (h : j ≠ k) : (d.setReg k v).fld j lo n = d.fld j lo n := by
  rw [Dev.fld_setReg, if_neg h]

theorem Dev.bit_setReg_other (d : Dev) {k j : Nat} (i : Nat) (v : Word) (h : j ≠ k) : (d.setReg k v).bit j i = d.bit j i := by
  rw [Dev.bit_setReg, if_neg h]

/-- A bit beside a field that is replaced. -/
theorem Dev.bit_setFld_other (d : Dev) (k v : Nat) {lo n i : Nat} (h : i < 32) (hd : i < lo ∨ lo + n ≤ i) :
    (d.setFld k lo n v).bit k i = d.bit k i := by
  rw [Dev.bit, Dev.setFld, Dev.reg_setReg_same, Word.bit_setFld_other _ _ _ _ _ h hd, Dev.bit]

theorem Dev.bit_setBit_other (d : Dev) (k : Nat) {i j : Nat} (b : Bool) (h : j < 32) (hd : j ≠ i) :
    (d.setBit k i b).bit k j = d.bit k j := Dev.bit_setFld_other d k _ h (by omega)

theorem Dev.fld_setBit_other (d : Dev) (k : Nat) {i lo n : Nat} (b : Bool) (h : lo + n ≤ 32) (hd : i < lo ∨ lo + n ≤ i) :
    (d.setBit k i b).fld k lo n = d.fld k lo n := Dev.fld_setFld_other d k _ h (by omega)

/-- An event reads 1 once set. -/
theorem Dev.bit_sqSet_mem (d : Dev) (k : Nat) {bits : List Nat} {b : Nat} (hb : b < 24) (hm : b ∈ bits) :
    (d.sqSet k bits).bit k b = true := by
  rw [Dev.bit_sqSet d k bits hb, List.contains_iff_mem.mpr hm, Bool.or_true]

end Sys2Proof.Machine
end

section
/-! PROOFS. O5: commits, at once and at a PTP time (R104, R105). -/

namespace Sys2Proof.Machine

/-- A strobe of a mask with a group is counted as issued and takes its place among those waiting (R103, R104). -/
theorem Dev.raiseStrobe_of_groups (d : Dev) (src : StrobeSrc) (m : Nat) {mask : Word} (h : mask.toNat % 2 ^ 23 ≠ 0) :
    d.raiseStrobe src mask m = { d.issued with glb := { d.glb with
      strobes := placeStrobe ⟨src, mask, m, d.now, []⟩ d.glb.strobes } } := by
  rw [Dev.raiseStrobe, if_neg h]
  rfl

/-- A mask of no group raises no strobe. -/
theorem Dev.raiseStrobe_of_no_group (d : Dev) (src : StrobeSrc) (m : Nat) {mask : Word} (h : mask.toNat % 2 ^ 23 = 0) :
    d.raiseStrobe src mask m = d := by
  rw [Dev.raiseStrobe, if_pos h]

theorem Dev.issued_fld_issued (d : Dev) :
    d.issued.fld Reg.GLB_COMMIT_SEQ 16 16 = (d.fld Reg.GLB_COMMIT_SEQ 16 16 + 1) % 65536 :=
  Dev.fld_setFld_same d _ 16 16 _ (by decide)

theorem Dev.issued_fld_applied (d : Dev) : d.issued.fld Reg.GLB_COMMIT_SEQ 0 16 = d.fld Reg.GLB_COMMIT_SEQ 0 16 :=
  Dev.fld_setFld_other d _ _ (by decide) (by decide)

theorem Dev.sameRegsBut.issued {d t : Dev} {ks : List Nat} (h : d.sameRegsBut t ks) (hk : Reg.GLB_COMMIT_SEQ ∈ ks) :
    d.sameRegsBut t.issued ks := h.setReg hk

/-- The time registers of a timed commit are not its mask register. -/
theorem Dev.commitAt_time (d : Dev) (v : Word) :
    (d.setReg Reg.GLB_COMMIT_AT_MASK v).reg64 Reg.GLB_COMMIT_AT_LO = d.reg64 Reg.GLB_COMMIT_AT_LO := by
  rw [Dev.reg64, Dev.reg_setReg_other _ _ (by decide), Dev.reg_setReg_other _ _ (by decide), Dev.reg64]

theorem Dev.commitAtMaskWrite_cancel (d : Dev) {v : Word} (h : v.toNat % 2 ^ 23 = 0) : d.commitAtMaskWrite v =
    { d.setReg Reg.GLB_COMMIT_AT_MASK v with glb := { d.glb with armed := none } } := by
  rw [Dev.commitAtMaskWrite, if_pos h]
  rfl

theorem Dev.commitAtMaskWrite_arm (d : Dev) {v : Word} (h : v.toNat % 2 ^ 23 ≠ 0) (ht : d.time ≤ d.reg64 Reg.GLB_COMMIT_AT_LO) :
    d.commitAtMaskWrite v =
      { d.setReg Reg.GLB_COMMIT_AT_MASK v with glb := { d.glb with armed := some (d.reg64 Reg.GLB_COMMIT_AT_LO, v) } } := by
  have hnot : ¬ d.reg64 Reg.GLB_COMMIT_AT_LO < (d.setReg Reg.GLB_COMMIT_AT_MASK v).time := not_lt.mpr ht
  rw [Dev.commitAtMaskWrite, if_neg h, Dev.commitAt_time, if_neg hnot]
  rfl

theorem Dev.commitAtMaskWrite_past (d : Dev) {v : Word} (h : v.toNat % 2 ^ 23 ≠ 0) (ht : d.reg64 Reg.GLB_COMMIT_AT_LO < d.time) :
    d.commitAtMaskWrite v = (d.setReg Reg.GLB_COMMIT_AT_MASK v).commitAt v true := by
  have hlt : d.reg64 Reg.GLB_COMMIT_AT_LO < (d.setReg Reg.GLB_COMMIT_AT_MASK v).time := ht
  rw [Dev.commitAtMaskWrite, if_neg h, Dev.commitAt_time, if_pos hlt]

/-- A timed commit's strobe is issued; one whose time had passed is marked so. -/
theorem Dev.commitAt_of_groups (d : Dev) (past : Bool) {v : Word} (h : v.toNat % 2 ^ 23 ≠ 0) : d.commitAt v past =
    { (if past then d.sqSet Reg.GLB_COMMIT_STATUS [3] else d).issued with glb := { d.glb with
      armed := none, strobes := placeStrobe ⟨.commitAt, v, 0, d.now, []⟩ d.glb.strobes } } := by
  simp only [Dev.commitAt, Dev.raiseStrobe_of_groups _ _ _ h]
  cases past <;> rfl

theorem Dev.commitAt_past_bit (d : Dev) {v : Word} (h : v.toNat % 2 ^ 23 ≠ 0) :
    (d.commitAt v true).bit Reg.GLB_COMMIT_STATUS 3 = true := by
  rw [Dev.commitAt_of_groups _ _ h]
  exact (Dev.bit_setReg_other _ 3 _ (by decide)).trans (Dev.bit_sqSet_mem d _ (by decide) (by decide))

/-- Settles O5: GLB_COMMIT issues its strobe, and the timed commit is armed, replaced, cancelled, issued late, or fired. -/
theorem commitsIssueOneStrobeEach : Obligations.CommitsIssueOneStrobeEach := by
  unfold Obligations.CommitsIssueOneStrobeEach
  refine ⟨fun s m v hr => ⟨fun h => ?_, fun h => ?_⟩, fun s m v hr => ⟨fun h => ?_, fun h ht => ?_, fun h ht => ?_, fun at_ w ha h => ?_⟩⟩
  · have hd : s.dev.glbCommitWrite m.val v = s.dev.setReg Reg.GLB_COMMIT v := Dev.raiseStrobe_of_no_group _ _ _ h
    rw [← hd]
    exact act_run hr
  · have hd := Dev.raiseStrobe_of_groups (s.dev.setReg Reg.GLB_COMMIT v) .commit m.val h
    refine ⟨{ s with dev := s.dev.glbCommitWrite m.val v }, act_run hr, ?_⟩
    rw [Dev.glbCommitWrite, hd]
    refine ⟨rfl, rfl, ?_, ?_, ?_, ?_⟩
    · exact (Dev.reg_setReg_other _ _ (by decide)).trans (Dev.reg_setReg_same ..)
    · exact (Dev.issued_fld_issued _).trans (by rw [Dev.fld_setReg_other _ _ _ _ (by decide)])
    · exact (Dev.issued_fld_applied _).trans (Dev.fld_setReg_other _ _ _ _ (by decide))
    · exact ((Dev.sameRegsBut.refl _ _).setReg (by decide)).issued (by decide)
  · refine ⟨{ s with dev := s.dev.commitAtMaskWrite v }, act_run hr, ?_⟩
    rw [Dev.commitAtMaskWrite_cancel _ h]
    exact ⟨rfl, rfl, (Dev.sameRegsBut.refl _ _).setReg (by decide)⟩
  · refine ⟨{ s with dev := s.dev.commitAtMaskWrite v }, act_run hr, ?_⟩
    rw [Dev.commitAtMaskWrite_arm _ h ht]
    exact ⟨rfl, rfl, Dev.reg_setReg_same .., (Dev.sameRegsBut.refl _ _).setReg (by decide)⟩
  · refine ⟨{ s with dev := s.dev.commitAtMaskWrite v }, act_run hr, ?_⟩
    rw [Dev.commitAtMaskWrite_past _ h ht]
    refine ⟨?_, ?_, Dev.commitAt_past_bit _ h⟩
    · rw [Dev.commitAt_of_groups _ _ h]
    · rw [Dev.commitAt_of_groups _ _ h]; rfl
  · have hrun : exec .commitAtFire s = .next { s with dev := s.dev.commitAt w false } := by
      refine (act_run hr).trans ?_
      rw [ha]
    refine ⟨_, hrun, ?_⟩
    rw [Dev.commitAt_of_groups _ _ h]
    exact ⟨rfl, (Dev.sameRegsBut.refl _ _).issued (by decide)⟩

end Sys2Proof.Machine
end

section
/-! PROOFS. O6, O8: discards, GLB_DIRECT, a direct-mode write, and a strobe of plain registers (R103, R104, R107, R110). A
discard, and a bit of GLB_DIRECT that is cleared, leave the staged writes that travel with a hand-over (log entry 48). -/

namespace Sys2Proof

theorem mem_bitList {n v i : Nat} : i ∈ bitList n v ↔ i < n ∧ v.testBit i = true := by
  simp [bitList]

theorem Map.get?_filter_key {α : Type} (m : Map α) (p : Nat → Bool) (k : Nat) :
    Map.get? (List.filter (fun e => p e.1) m) k = if p k then Map.get? m k else none := by
  induction m with
  | nil => simp [Map.get?]
  | cons e r ih =>
    obtain ⟨j, w⟩ := e
    by_cases hj : j = k
    · subst hj
      cases hp : p j <;> simp [hp, Map.get?, ih]
    · cases hp : p j <;> simp [hp, Map.get?, ih, hj]

end Sys2Proof

namespace Sys2Proof.Machine

/-! ## Discards (R107) -/

/-- What a discard of a mask drops: staged writes of its groups that wait for a strobe. -/
def Dev.discards (d : Dev) (mask k : Nat) : Bool := mask.testBit (groupOf k) && d.waitsStrobe k

theorem Dev.get?_stg_discard (d : Dev) (mask k : Nat) :
    Map.get? (d.discard mask).rf.stg k = if d.discards mask k then none else Map.get? d.rf.stg k := by
  refine (Map.get?_filter_key d.rf.stg (fun k => !d.discards mask k) k).trans ?_
  cases d.discards mask k <;> rfl

theorem Dev.staged_of_none {d : Dev} {k : Nat} (h : Map.get? d.rf.stg k = none) : d.staged k = d.reg k := by
  rw [Dev.staged, h]

theorem Dev.staged_discard (d : Dev) (mask k : Nat) :
    (d.discard mask).staged k = if d.discards mask k then d.reg k else d.staged k := by
  have h := d.get?_stg_discard mask k
  split
  · next hd => rw [if_pos hd] at h; exact Dev.staged_of_none h
  · next hd =>
    rw [if_neg hd] at h
    unfold Dev.staged
    rw [h]
    rfl

/-- A write to a register outside the staging copies leaves which staged writes wait for a strobe. -/
theorem Dev.waitsStrobe_setReg (d : Dev) {j : Nat} (k : Nat) (v : Word) (hj : j < 0x600000) :
    (d.setReg j v).waitsStrobe k = d.waitsStrobe k := by
  have hpend : ∀ x, (d.setReg j v).shadowPending x = d.shadowPending x := fun x => by
    cases x with
    | event c => exact Dev.bit_setReg_other d _ v (by unfold Reg.GAU_CHAN_PEND; omega)
    | dma c => exact Dev.bit_setReg_other d _ v (by unfold Reg.DMA_PEND; omega)
    | gates p => exact Dev.bit_setReg_other d _ v (by unfold Reg.SCH_GATE_PEND; omega)
  unfold Dev.waitsStrobe
  split <;> simp only [hpend]

/-! ## GLB_DIRECT (R110) -/

theorem mem_placeStrobe (x : Strobe) (xs : List Strobe) : x ∈ placeStrobe x xs := by
  induction xs with
  | nil => exact List.mem_cons_self
  | cons y ys ih =>
    rw [placeStrobe]
    split
    · exact List.mem_cons_self
    · exact List.mem_cons_of_mem _ ih

/-- A write to GLB_DIRECT before the strobe of the bits newly set. -/
def Dev.leaveDirect (d : Dev) (v : Word) : Dev :=
  let old := d.reg Reg.GLB_DIRECT
  let d := (d.setReg Reg.GLB_DIRECT (old &&& v)).discard (old &&& ~~~ v).toNat
  let d := d.setReg Reg.GLB_PAIR_PENDING (d.reg Reg.GLB_PAIR_PENDING &&& v)
  { d with glb := { d.glb with strobes := d.glb.strobes.map (fun (x : Strobe) =>
    if x.src = StrobeSrc.direct then { x with regs := x.regs ++ bitList 23 (x.mask &&& ~~~ v).toNat } else x) } }

theorem Dev.glbDirectWrite_eq (d : Dev) (m : Nat) (v : Word) : d.glbDirectWrite m v =
    (d.leaveDirect v).raiseStrobe .direct (v &&& ~~~ d.reg Reg.GLB_DIRECT &&& maskOf Reg.GLB_DIRECT) m := rfl

theorem Dev.reg_leaveDirect (d : Dev) (v : Word) {k : Nat} (h : k ∉ [Reg.GLB_DIRECT, Reg.GLB_PAIR_PENDING]) :
    (d.leaveDirect v).reg k = d.reg k := by
  simp only [List.mem_cons, List.not_mem_nil, or_false, not_or] at h
  exact (Dev.reg_setReg_other _ _ h.2).trans (Dev.reg_setReg_other d _ h.1)

theorem Dev.get?_stg_leaveDirect (d : Dev) (v : Word) {k : Nat}
    (hg : (d.reg Reg.GLB_DIRECT &&& ~~~ v).toNat.testBit (groupOf k) = true) (hw : d.waitsStrobe k = true) :
    Map.get? (d.leaveDirect v).rf.stg k = none := by
  refine (Dev.get?_stg_discard (d.setReg Reg.GLB_DIRECT (d.reg Reg.GLB_DIRECT &&& v)) _ k).trans (if_pos ?_)
  rw [Dev.discards, Dev.waitsStrobe_setReg _ _ _ (by decide), hg, hw, Bool.true_and]

/-- A strobe raised changes its count at most, of the registers, and no staged write. -/
theorem Dev.raiseStrobe_reg (d : Dev) (src : StrobeSrc) (mask : Word) (m : Nat) {k : Nat} (h : k ≠ Reg.GLB_COMMIT_SEQ) :
    (d.raiseStrobe src mask m).reg k = d.reg k := by
  by_cases hm : mask.toNat % 2 ^ 23 = 0
  · rw [Dev.raiseStrobe_of_no_group _ _ _ hm]
  · rw [Dev.raiseStrobe_of_groups _ _ _ hm]
    exact Dev.reg_setReg_other d _ h

theorem Dev.raiseStrobe_stg (d : Dev) (src : StrobeSrc) (mask : Word) (m : Nat) :
    (d.raiseStrobe src mask m).rf.stg = d.rf.stg := by
  by_cases hm : mask.toNat % 2 ^ 23 = 0
  · rw [Dev.raiseStrobe_of_no_group _ _ _ hm]
  · rw [Dev.raiseStrobe_of_groups _ _ _ hm]
    rfl

/-! ## A direct-mode write of a plain register (R110) -/

/-- A staged register of plain effect, written in direct mode, takes its staged value at once. -/
theorem Dev.directWrite_plain (d : Dev) {k : Nat} {v : Word} {m : Nat} (hp : PlainKey k) :
    ((d.stage k v true m).directWrite k) =
      (((((d.stage k v true m).setReg k (d.masked k v)).markExpert k true).unstage k).sqSet Reg.GLB_COMMIT_STATUS [0]) := by
  have hget : Map.get? (d.stage k v true m).rf.stg k = some ⟨d.masked k v, true, m⟩ := Map.get?_put_same ..
  simp only [Dev.directWrite, hp.2.1, Dev.applyKeys, List.foldl_cons, List.foldl_nil]
  rw [Dev.applyKey_plain _ _ hp, hget]

/-- Settles O6: the staged writes dropped are those of the groups named that wait; a strobe is raised by bits of GLB_DIRECT newly
set alone; a plain register in direct mode takes its value at once. -/
theorem discardsAndDirectModeAct : Obligations.DiscardsAndDirectModeAct := by
  unfold Obligations.DiscardsAndDirectModeAct
  refine ⟨fun s v hr => ?_, fun s m v hr => ?_, fun s m k v hr => ⟨fun hoff => ?_, fun hacc hdir hsh hplain => ?_⟩⟩
  · refine ⟨{ s with dev := s.dev.discard v.toNat }, act_run hr, rfl, fun _ => rfl, fun k hg hw => ?_, fun k hk => ?_⟩
    · have hd : s.dev.discards v.toNat k = true := by rw [Dev.discards, hw, Bool.and_true]; exact hg
      rw [Dev.staged_discard, if_pos hd]
    · have hd : s.dev.discards v.toNat k = false := by
        rcases hk with h | h
        · rw [Dev.discards, show v.toNat.testBit (groupOf k) = false from h, Bool.false_and]
        · rw [Dev.discards, h, Bool.and_false]
      rw [Dev.staged_discard, hd, if_neg Bool.false_ne_true]
  · refine ⟨{ s with dev := s.dev.glbDirectWrite m.val v }, act_run hr, ?_⟩
    rw [Dev.glbDirectWrite_eq]
    refine ⟨?_, fun k hg hw hdir hpair hseq => ?_, fun k hk => ?_, fun hnew => ?_⟩
    · rw [Dev.raiseStrobe_reg _ _ _ _ (by decide)]
      exact (Dev.reg_setReg_other _ _ (by decide)).trans (Dev.reg_setReg_same ..)
    · have hnone := s.dev.get?_stg_leaveDirect v hg hw
      rw [Dev.staged_of_none (by rw [Dev.raiseStrobe_stg]; exact hnone), Dev.raiseStrobe_reg _ _ _ _ hseq,
        Dev.reg_leaveDirect _ _ (by simp [hdir, hpair])]
    · simp only [List.mem_cons, List.not_mem_nil, or_false, not_or] at hk
      obtain ⟨hdir, hpair, hseq⟩ := hk
      rw [Dev.raiseStrobe_reg _ _ _ _ hseq, Dev.reg_leaveDirect _ _ (by simp [hdir, hpair])]
    · rw [Dev.raiseStrobe_of_groups _ _ _ hnew]
      exact ⟨_, mem_placeStrobe _ _, rfl, rfl, rfl⟩
  · have hcond : ¬ (accOf k = some .st ∧ s.dev.directMode (groupOf k) = true) := by
      rintro ⟨ha, hd⟩
      rcases hoff with h | h
      · exact h ha
      · rw [hd] at h; cases h
    exact (act_run hr).trans (by rw [if_neg hcond])
  · have hp : PlainKey k := ⟨hsh, fun d => (hplain d).1, fun d => (hplain d).2.2, fun d => (hplain d).2.1⟩
    have hk : k ≠ Reg.GLB_COMMIT_STATUS := fun he => absurd (he ▸ hacc) (by decide)
    have hrun : exec (.directModeWrite m k v) s = .next { s with dev := (s.dev.stage k v true m.val).directWrite k } :=
      (act_run hr).trans (by rw [if_pos ⟨hacc, hdir⟩])
    refine ⟨_, hrun, ?_⟩
    simp only [Dev.directWrite_plain _ hp]
    have hreg : ∀ j, j ≠ Reg.GLB_COMMIT_STATUS → ((((((s.dev.stage k v true m.val).setReg k (s.dev.masked k v)).markExpert k true).unstage
        k).sqSet Reg.GLB_COMMIT_STATUS [0])).reg j = if j = k then s.dev.masked k v else s.dev.reg j := fun j hj => by
      rw [Dev.reg_sqSet_other _ _ hj, Dev.reg_unstage, Dev.reg_markExpert, Dev.reg_setReg, Dev.reg_stage]
    refine ⟨(hreg k hk).trans (if_pos rfl), Dev.staged_of_none (Map.get?_del_same _ _), Dev.bit_sqSet_mem _ _ (by decide) (by decide),
      fun j hj => ?_⟩
    simp only [List.mem_cons, List.not_mem_nil, or_false, not_or] at hj
    exact (hreg j hj.2).trans (if_neg hj.1)

/-! ## A strobe of plain registers (R103, R104) -/

/-- A strobe applied sets STROBE. -/
theorem Dev.strike_sets_strobe (d : Dev) (mask : Nat) (timed : Bool) :
    (d.strike mask timed).1.bit Reg.GLB_COMMIT_STATUS 0 = true := by
  have hmem : 0 ∈ (if timed then [0, 1] else [0]) := by cases timed <;> decide
  exact Dev.bit_sqSet_mem _ _ (by decide) hmem

/-- The strobe that goes first, raised by a commit, strikes its groups and counts as applied. -/
theorem Dev.strobeApply_commit {d : Dev} {x : Strobe} {xs : List Strobe} (h : d.glb.strobes = x :: xs) (hx : x.src = .commit) :
    d.strobeApply = (({ d with glb := { d.glb with strobes := xs } } : Dev).strike x.mask.toNat false).1.applied := by
  simp [Dev.strobeApply, h, hx, StrobeSrc.rank]

theorem Dev.applied_fld_applied (d : Dev) :
    d.applied.fld Reg.GLB_COMMIT_SEQ 0 16 = (d.fld Reg.GLB_COMMIT_SEQ 0 16 + 1) % 65536 :=
  Dev.fld_setFld_same d _ 0 16 _ (by decide)

/-- Settles O8: where all that is staged is plain, the first strobe gives each register of its groups its staged value. -/
theorem strobeAppliesStagedValues : Obligations.StrobeAppliesStagedValues := by
  unfold Obligations.StrobeAppliesStagedValues
  intro s x xs hr hs hx hplain
  have hps : ({ s.dev with glb := { s.dev.glb with strobes := xs } } : Dev).PlainStaged := fun p hp =>
    have h := hplain p hp
    ⟨h.1, fun d => (h.2 d).1, fun d => (h.2 d).2.2, fun d => (h.2 d).2.1⟩
  obtain ⟨-, hreg, rf, hrf⟩ := Dev.strike_plain _ x.mask.toNat false hps
  have hseq : ∀ d : Dev, (d.strike x.mask.toNat false).1.reg Reg.GLB_COMMIT_SEQ = d.reg Reg.GLB_COMMIT_SEQ → (d.strike x.mask.toNat
      false).1.applied.fld Reg.GLB_COMMIT_SEQ 0 16 = (d.fld Reg.GLB_COMMIT_SEQ 0 16 + 1) % 65536 := fun d h => by
    rw [Dev.applied_fld_applied, Dev.fld, h, Dev.fld]
  refine ⟨{ s with dev := s.dev.strobeApply }, act_run hr, ?_⟩
  rw [Dev.strobeApply_commit hs hx]
  refine ⟨by rw [hrf]; rfl, ?_, ?_, fun k hst hsq => ?_⟩
  · exact (Dev.bit_setReg_other _ 0 _ (by decide)).trans (Dev.strike_sets_strobe ..)
  · exact hseq _ ((hreg _ (by decide)).trans (if_neg fun h => absurd (mem_bitList.mp h).1 (by decide)))
  · rw [Dev.applied, Dev.setFld, Dev.reg_setReg_other _ _ hsq, hreg k hst]
    exact if_congr mem_bitList rfl rfl

end Sys2Proof.Machine
end

section
/-! PROOFS. What telling a host changes: interrupts, messages of the message store, notify vectors (R155 to R157, R160). -/

namespace Sys2Proof.Machine

/-- The registers that telling a host may change: of the links, which wake, and of the interrupt message store. -/
abbrev hostReg (k : Nat) : Prop := (0x300000 ≤ k ∧ k < 0x300400) ∨ (0x10000000 ≤ k ∧ k < 0x10200000)

/-- `t` is `d` but for what an interrupt or a message to a host changes: the functions' records, the message store's pending bits,
what is sent, and the status of a link that wakes. -/
structure Dev.ToldHost (d t : Dev) : Prop where
  regs : ∀ k, ¬ hostReg k → t.reg k = d.reg k
  rest : t = { d with rf := { d.rf with act := t.rf.act }, pce := t.pce, out := t.out }

namespace Dev.ToldHost

theorem refl (d : Dev) : d.ToldHost d := ⟨fun _ _ => rfl, rfl⟩

theorem trans {d t u : Dev} (h : d.ToldHost t) (h' : t.ToldHost u) : d.ToldHost u where
  regs k hk := (h'.regs k hk).trans (h.regs k hk)
  rest := by rw [h'.rest, h.rest]

theorem setFn (d : Dev) (f : Nat) (g : PFn → PFn) : d.ToldHost (d.setFn f g) := ⟨fun _ _ => rfl, rfl⟩

theorem emit (d : Dev) (e : Emission) : d.ToldHost (d.emit e) := ⟨fun _ _ => rfl, rfl⟩

theorem setReg (d : Dev) {k : Nat} (v : Word) (hk : hostReg k) : d.ToldHost (d.setReg k v) :=
  ⟨fun j hj => Dev.reg_setReg_other d v fun he : j = k => hj (he ▸ hk), rfl⟩

theorem wakeLink (d : Dev) {l : Nat} (hl : l < 4) : d.ToldHost (d.wakeLink l) := by
  simp only [Dev.wakeLink]
  split
  · exact setReg d _ (.inl (by unfold Reg.PCE_LINK_STATUSl; omega))
  · exact refl d

/-- Every function is on one of the four links. -/
theorem linkOf_lt (d : Dev) {f : Nat} (hf : f < 4) : d.linkOf f < 4 := by unfold Dev.linkOf; split <;> omega

theorem request (d : Dev) {f : Nat} (e : Emission) (hf : f < 4) : d.ToldHost (d.request f e) :=
  (wakeLink d (linkOf_lt d hf)).trans (emit _ e)

theorem raiseVec (d : Dev) {f : Nat} (vec : Nat) (hf : f < 4) : d.ToldHost (d.raiseVec f vec) := by
  simp only [Dev.raiseVec]
  split
  · exact setFn ..
  · split
    · exact (setFn ..).trans (request _ _ hf)
    · split
      · exact setFn ..
      · exact request _ _ hf

theorem raiseIms (d : Dev) {e : Nat} (he : e < 2 ^ 17) : d.ToldHost (d.raiseIms e) := by
  have hf : Word.fld (d.reg (Reg.PCE_IMS_ENTRY e 3)) 27 2 < 4 := Word.fld_lt _ 27 2
  simp only [Dev.raiseIms]
  split
  · exact refl d
  · split
    · exact setReg d _ (.inr (by unfold Reg.PCE_IMS_ENTRY; omega))
    · exact request _ _ hf

theorem raiseSel (d : Dev) {f : Nat} (sel : Nat) (hf : f < 4) : d.ToldHost (d.raiseSel f sel) := by
  unfold Dev.raiseSel
  split
  · exact raiseIms d (Nat.mod_lt _ (by decide))
  · exact raiseVec d _ hf

theorem notifyFn (d : Dev) (base : Nat) {f : Nat} (hf : f < 4) : d.ToldHost (d.notifyFn base f) := by
  unfold Dev.notifyFn
  split
  · exact raiseVec d _ hf
  · exact refl d

theorem notifyAll (d : Dev) (base : Nat) : d.ToldHost (d.notifyAll base) :=
  (((notifyFn d base (by decide)).trans (notifyFn _ base (by decide))).trans (notifyFn _ base (by decide))).trans
    (notifyFn _ base (by decide))

variable {d t : Dev}

theorem fld (h : d.ToldHost t) {k : Nat} (lo n : Nat) (hk : ¬ hostReg k) : t.fld k lo n = d.fld k lo n := by
  rw [Dev.fld, h.regs k hk, Dev.fld]

theorem bit (h : d.ToldHost t) {k : Nat} (i : Nat) (hk : ¬ hostReg k) : t.bit k i = d.bit k i := by
  rw [Dev.bit, h.regs k hk, Dev.bit]

theorem cmd (h : d.ToldHost t) : t.cmd = d.cmd := by rw [h.rest]

end Dev.ToldHost

end Sys2Proof.Machine
end

section
/-! PROOFS. O9: mailbox words, queue indices, packets that come by other paths (R115 to R122, R315; log entries 24 and 47). -/

namespace Sys2Proof.Machine

/-! ## Mailboxes -/

/-- Events posted to a thread change its event register alone. -/
theorem Dev.reg_postEvents (d : Dev) (t bits : Nat) {k : Nat} (hk : k < 0x300000) : (d.postEvents t bits).reg k = d.reg k := by
  unfold Dev.postEvents
  refine Dev.reg_setReg_other _ _ ?_
  unfold thrReg Reg.FPC_THR_EVENTS
  omega

theorem Dev.postEvents_cmd (d : Dev) (t bits : Nat) : (d.postEvents t bits).cmd = d.cmd := by
  rw [Dev.postEvents]
  exact Dev.setReg_cmd ..

/-- How a master is told of its mailbox changes no register of mailboxes and queues, and nothing of the commands. -/
theorem Dev.mbxTell_keeps (d : Dev) {m : Nat} (out : Bool) (hm : m < 16) :
    (∀ k, k < 0x300000 → (d.mbxTell m out).reg k = d.reg k) ∧ (d.mbxTell m out).cmd = d.cmd := by
  by_cases h4 : m < 4
  · have htold : d.ToldHost (d.mbxTell m out) := by
      rw [Dev.mbxTell, if_pos h4]
      by_cases hb : d.bit (Reg.MBX_CTRLm m) (if out then 1 else 0) = true
      · rw [if_pos hb]; exact .raiseVec d _ h4
      · rw [if_neg hb]; exact .refl d
    exact ⟨fun k hk => htold.regs k (by omega), htold.cmd⟩
  · by_cases h8 : m < 8
    · have htell : (d.mbxTell m out).rf = d.rf ∧ (d.mbxTell m out).cmd = d.cmd := by
        have hm' : m = 4 ∨ m = 5 ∨ m = 6 ∨ m = 7 := by omega
        rcases hm' with rfl | rfl | rfl | rfl <;> simp [Dev.mbxTell, Dev.emit]
      exact ⟨fun k _ => Dev.reg_congr htell.1 k, htell.2⟩
    · have htell : d.mbxTell m out = d.postEvents (64 * (m - 8)) (2 ^ (if out then 31 else 30)) := by
        rw [Dev.mbxTell, if_neg h4, if_neg (show m ≠ 4 by omega), if_neg (show m ≠ 5 by omega), if_neg (show m ≠ 6 by omega),
          if_neg (show m ≠ 7 by omega)]
      rw [htell]
      exact ⟨fun k hk => d.reg_postEvents _ _ hk, d.postEvents_cmd _ _⟩

theorem Dev.mbxTell_bit (d : Dev) {m : Nat} (out : Bool) (hm : m < 16) (i : Nat) {k : Nat} (hk : k < 0x300000) :
    (d.mbxTell m out).bit k i = d.bit k i := by
  rw [Dev.bit, (d.mbxTell_keeps out hm).1 k hk, Dev.bit]

/-- A word of a KIND without an enable bit is always pending once posted (R117, R118). -/
theorem Dev.post_kind (d : Dev) (m info : Nat) {kind : Nat} (h : kind ∉ [3, 6, 7]) : d.post m kind info =
    { d with cmd := { d.cmd with outPend := Map.put d.cmd.outPend (16 * m + kind) (wd (kind * 2 ^ 28 + info % 2 ^ 28)) } } := by
  simp only [List.mem_cons, List.not_mem_nil, or_false, not_or] at h
  simp [Dev.post, Dev.kindEnabled, h]

/-- A PING taken: the mailbox empty, its master told, a PONG pending. -/
theorem exec_mbxInTake_ping {s : State} {m : Fin 16} (hr : s.dev.running = true) (hfull : s.dev.bit (Reg.MBX_STATEm m.val) 0 = true)
    (hping : Word.fld (s.dev.reg (Reg.MBX_INm m.val)) 28 4 = 1) :
    exec (.mbxInTake m) s = .next { s with dev :=
      ((((s.dev.setBit (Reg.MBX_STATEm m.val) 0 false).mbxEvt m.val 1).mbxTell m.val false).post m.val 2
        (Word.fld (s.dev.reg (Reg.MBX_INm m.val)) 0 28)) } := by
  refine (act_run hr).trans ?_
  simp only [hfull, Bool.not_true, Bool.false_eq_true, if_false, hping, if_true]

/-- The pending word of a KIND taken off. -/
def Dev.unpost (d : Dev) (m k : Nat) : Dev := { d with cmd := { d.cmd with outPend := Map.del d.cmd.outPend (16 * m + k) } }

/-- A pending word posted to a master other than the Trellis one. -/
theorem exec_mbxOutPost_some {s : State} {m : Fin 16} {k : Nat} {w : Word} (hr : s.dev.running = true)
    (hempty : s.dev.bit (Reg.MBX_STATEm m.val) 1 = false) (hpend : s.dev.pendingKind m.val = some (k, w)) (h7 : m.val ≠ 7) :
    exec (.mbxOutPost m) s = .next { s with dev :=
      (((((s.dev.unpost m.val k).setReg (Reg.MBX_OUTm m.val) w).setBit (Reg.MBX_STATEm m.val) 1 true).mbxEvt m.val 0).mbxTell
        m.val true) } := by
  refine (act_run hr).trans ?_
  simp only [hempty, Bool.false_eq_true, if_false, hpend, h7, Dev.unpost]

/-! ## Queue indices and slots -/

theorem Dev.piWrite_forward {d : Dev} {m v : Nat} (hpi : fwd16 (v % 65536) (d.fld (Reg.CMD_PIm m) 0 16) < 32768)
    (hci : fwd16 (v % 65536) (d.fld (Reg.CMD_CIm m) 0 16) ≤ 256) : d.piWrite m v = d.setFld (Reg.CMD_PIm m) 0 16 (v % 65536) := by
  rw [Dev.piWrite, if_neg (by omega)]

theorem Dev.piWrite_overfull {d : Dev} {m v : Nat} (hci : 256 < fwd16 (v % 65536) (d.fld (Reg.CMD_CIm m) 0 16)) :
    d.piWrite m v = d.sqSet (Reg.CMD_STATUSm m) [4] := by
  rw [Dev.piWrite, if_pos (.inr hci)]

theorem Dev.rciWrite_forward {d : Dev} {m v : Nat} (hm : 4 ≤ m) (hrci : fwd16 (v % 65536) (d.fld (Reg.CMD_RCIm m) 0 16) < 32768)
    (hrpi : fwd16 (v % 65536) (d.fld (Reg.CMD_RCIm m) 0 16) ≤ fwd16 (d.fld (Reg.CMD_RPIm m) 0 16) (d.fld (Reg.CMD_RCIm m) 0 16)) :
    d.rciWrite m v = d.setFld (Reg.CMD_RCIm m) 0 16 (v % 65536) := by
  simp only [Dev.rciWrite]
  rw [if_neg (by omega), if_neg (by omega)]

/-- Words put into slots change those slots alone. -/
theorem Dev.reg_putSlots_other (ws : List Word) (d : Dev) (m pos : Nat) {k : Nat}
    (hk : ∀ i, i < ws.length → k ≠ Reg.CMD_QUEUES (m * 4096 + (pos + i) % 4096)) : (d.putSlots m pos ws).reg k = d.reg k := by
  induction ws generalizing d pos with
  | nil => rfl
  | cons w ws ih =>
    have h0 := hk 0 (by simp)
    refine (ih _ (pos + 1) fun i hi => ?_).trans (Dev.reg_setReg_other d w h0)
    rw [Nat.add_assoc, Nat.add_comm 1 i]
    exact hk (i + 1) (by simpa using hi)

/-- Up to 4,096 words put into slots lie there. -/
theorem Dev.reg_putSlots (ws : List Word) (d : Dev) (m pos : Nat) (hlen : ws.length ≤ 4096) {i : Nat} (hi : i < ws.length) :
    (d.putSlots m pos ws).reg (Reg.CMD_QUEUES (m * 4096 + (pos + i) % 4096)) = wordAt ws i := by
  induction ws generalizing d pos i with
  | nil => cases hi
  | cons w ws ih =>
    simp only [List.length_cons] at hlen hi
    cases i with
    | zero =>
      refine (Dev.reg_putSlots_other ws _ m (pos + 1) fun j hj => ?_).trans (Dev.reg_setReg_same d _ w)
      unfold Reg.CMD_QUEUES; omega
    | succ i =>
      have h := ih (d.setReg (Reg.CMD_QUEUES (m * 4096 + pos % 4096)) w) (pos + 1) (by omega) (by omega : i < ws.length)
      rw [Nat.add_assoc, Nat.add_comm 1 i] at h
      exact h

/-- A packet put into the management sideband's queue: its slots, then PI (R122). -/
theorem Dev.putPacket_mctp {d : Dev} {ws : List Word} (hne : ws ≠ []) (hlen : ws.length ≤ 1024)
    (hwrap : fwd16 ((d.fld (Reg.CMD_PIm 4) 0 16 + ceilDiv ws.length 16) % 65536) (d.fld (Reg.CMD_CIm 4) 0 16) ≤ 256)
    (hroom : fwd16 (d.fld (Reg.CMD_PIm 4) 0 16 + ceilDiv ws.length 16) (d.fld (Reg.CMD_CIm 4) 0 16) ≤ 256) :
    d.putPacket 4 0 ws = (d.putSlots 4 (d.fld (Reg.CMD_PIm 4) 0 16 * 16) ws).setFld (Reg.CMD_PIm 4) 0 16
      ((d.fld (Reg.CMD_PIm 4) 0 16 + ceilDiv ws.length 16) % 65536) := by
  have hpos := List.length_pos_iff.mpr hne
  have hn : Nat.max 1 (ceilDiv ws.length 16) = ceilDiv ws.length 16 := Nat.max_eq_right (by unfold ceilDiv; omega)
  have hle : ceilDiv ws.length 16 ≤ 64 := by unfold ceilDiv; omega
  have hpi : ∀ k, k < 0x240000 → (d.putSlots 4 (d.fld (Reg.CMD_PIm 4) 0 16 * 16) ws).fld k 0 16 = d.fld k 0 16 := fun k hk => by
    rw [Dev.fld, Dev.reg_putSlots_other ws d 4 _ fun i _ => by unfold Reg.CMD_QUEUES; omega, Dev.fld]
  have hlt := Word.fld_lt (d.reg (Reg.CMD_PIm 4)) 0 16
  simp only [Dev.putPacket, hn, if_neg (not_lt.mpr hroom), if_neg (by decide : ¬ 4 = 7)]
  refine Dev.piWrite_forward ?_ ?_
  · rw [hpi _ (by decide)]
    change d.fld (Reg.CMD_PIm 4) 0 16 < 65536 at hlt
    unfold fwd16
    omega
  · rw [hpi _ (by decide)]
    exact hwrap

/-- Settles O9: each row is its one write, by the bits and indices it finds. -/
theorem mailboxesAndQueuesMove : Obligations.MailboxesAndQueuesMove := by
  unfold Obligations.MailboxesAndQueuesMove
  refine ⟨fun s m hr => ⟨fun v hempty => ?_, fun v hfull => ?_, fun hfull hping => ?_, fun k w hempty hpend h7 => ?_,
    fun v hv => ?_, fun v hv => ?_⟩, fun s hr => ⟨fun m v hpi hci => ?_, fun m v hci => ?_, fun m v hm hrci hrpi => ?_,
    fun vendor ws hv => ?_, fun vendor ws hv hne hlen hwrap hroom => ?_, fun t ws hsup hreq => ?_⟩⟩
  · have hin : s.dev.mbxIn m.val v = (s.dev.setReg (Reg.MBX_INm m.val) v).setBit (Reg.MBX_STATEm m.val) 0 true := by
      rw [Dev.mbxIn, hempty, if_neg Bool.false_ne_true]
    refine ⟨{ s with dev := s.dev.mbxIn m.val v }, act_run hr, ?_⟩
    rw [hin]
    refine ⟨rfl, ?_, Dev.bit_setBit_same _ _ _ _ (by decide), ((Dev.sameRegsBut.refl _ _).setReg (by simp)).setReg (by simp)⟩
    exact (Dev.reg_setReg_other _ _ (by unfold Reg.MBX_INm Reg.MBX_STATEm; omega)).trans (Dev.reg_setReg_same ..)
  · have hin : s.dev.mbxIn m.val v = s.dev.sqSet (Reg.MBX_EVTm m.val) [3] := by rw [Dev.mbxIn, hfull, if_pos rfl]; rfl
    refine ⟨{ s with dev := s.dev.mbxIn m.val v }, act_run hr, ?_⟩
    rw [hin]
    exact ⟨Dev.bit_sqSet_mem _ _ (by decide) (by decide), Dev.sameRegsBut_sqSet _ _ _⟩
  · refine ⟨_, exec_mbxInTake_ping hr hfull hping, ?_, ?_⟩
    · rw [Dev.post_kind (kind := 2) _ _ _ (by decide)]
      refine (Dev.mbxTell_bit _ false m.isLt 0 (by unfold Reg.MBX_STATEm; omega)).trans ?_
      exact (Dev.bit_setReg_other _ 0 _ (by unfold Reg.MBX_STATEm Reg.MBX_EVTm; omega)).trans (Dev.bit_setBit_same _ _ _ _ (by decide))
    · rw [Dev.post_kind (kind := 2) _ _ _ (by decide)]
      exact Map.get?_put_same ..
  · refine ⟨_, exec_mbxOutPost_some hr hempty hpend h7, ?_, ?_, ?_⟩
    · refine ((Dev.mbxTell_keeps _ true m.isLt).1 _ (by unfold Reg.MBX_OUTm; omega)).trans ?_
      refine (Dev.reg_setReg_other _ _ (by unfold Reg.MBX_OUTm Reg.MBX_EVTm; omega)).trans ?_
      exact (Dev.reg_setReg_other _ _ (by unfold Reg.MBX_OUTm Reg.MBX_STATEm; omega)).trans (Dev.reg_setReg_same ..)
    · refine (Dev.mbxTell_bit _ true m.isLt 1 (by unfold Reg.MBX_STATEm; omega)).trans ?_
      exact (Dev.bit_setReg_other _ 1 _ (by unfold Reg.MBX_STATEm Reg.MBX_EVTm; omega)).trans (Dev.bit_setBit_same _ _ _ _ (by decide))
    · rw [(Dev.mbxTell_keeps _ true m.isLt).2]
      exact Map.get?_del_same ..
  · refine ⟨{ s with dev := s.dev.mbxAck m.val v }, act_run hr, ?_⟩
    rw [Dev.mbxAck, if_pos hv]
  · refine (act_run hr).trans ?_
    rw [Dev.mbxAck, hv, if_neg Bool.false_ne_true]
  · refine ⟨{ s with dev := s.dev.piWrite m.val v.toNat }, act_run hr, ?_⟩
    rw [Dev.piWrite_forward hpi hci]
    refine ⟨rfl, ?_, (Dev.sameRegsBut.refl _ _).setReg (by simp)⟩
    exact (Dev.fld_setFld_same _ _ _ _ _ (by decide)).trans (Nat.mod_eq_of_lt (Nat.mod_lt _ (by decide)))
  · refine ⟨{ s with dev := s.dev.piWrite m.val v.toNat }, act_run hr, ?_⟩
    rw [Dev.piWrite_overfull hci]
    exact ⟨Dev.bit_sqSet_mem _ _ (by decide) (by decide), Dev.sameRegsBut_sqSet _ _ _⟩
  · refine ⟨{ s with dev := s.dev.rciWrite m.val v.toNat }, act_run hr, ?_⟩
    rw [Dev.rciWrite_forward hm hrci hrpi]
    refine ⟨rfl, ?_, (Dev.sameRegsBut.refl _ _).setReg (by simp)⟩
    exact (Dev.fld_setFld_same _ _ _ _ _ (by decide)).trans (Nat.mod_eq_of_lt (Nat.mod_lt _ (by decide)))
  · refine (act_run hr).trans ?_
    rw [if_neg (by exact hv)]
  · have hrun : exec (.mctpCommandMessage vendor ws) s = .next { s with dev := s.dev.putPacket 4 0 ws } :=
      (act_run hr).trans (by rw [if_pos (by exact hv)])
    refine ⟨_, hrun, ?_⟩
    rw [Dev.putPacket_mctp hne hlen hwrap hroom]
    refine ⟨?_, fun i hi => ?_⟩
    · exact (Dev.fld_setFld_same _ _ _ _ _ (by decide)).trans (Nat.mod_eq_of_lt (Nat.mod_lt _ (by decide)))
    · refine (Dev.reg_setReg_other _ _ (by unfold Reg.CMD_QUEUES Reg.CMD_PIm; omega)).trans ?_
      exact Dev.reg_putSlots ws _ 4 _ (by omega) hi
  · refine (act_run hr).trans ?_
    obtain ⟨r, hreq⟩ := Option.isSome_iff_exists.mp hreq
    simp only [hreq, hsup]

end Sys2Proof.Machine
end

section
/-! PROOFS. O10: commands taken, started, timed out and answered (R120 to R136; log entries 22 and 24). -/

namespace Sys2Proof.Machine

/-! ## The record of an outstanding command -/

/-- A command's record is found by the master, the TAG and the GEN it holds. -/
theorem Dev.cmd?_key {d : Dev} {m tag gen : Nat} {c : Cmd} (h : d.cmd? m tag gen = some c) : c.master = m ∧ c.tag = tag ∧ c.gen = gen := by
  simpa [isCmd] using List.find?_some h

/-- A record changed that keeps its master, TAG and GEN is found as changed. -/
theorem Dev.cmd?_setCmd {d : Dev} {m tag gen : Nat} {c : Cmd} (f : Cmd → Cmd) (h : d.cmd? m tag gen = some c)
    (hf : ∀ c, isCmd m tag gen (f c) = isCmd m tag gen c) : (d.setCmd m tag gen f).cmd? m tag gen = some (f c) := by
  have hcomp : (isCmd m tag gen ∘ fun c => if isCmd m tag gen c then f c else c) = isCmd m tag gen := by
    funext x
    by_cases hx : isCmd m tag gen x = true <;> simp [hx, hf]
  simp only [Dev.cmd?, Dev.setCmd, List.find?_map, hcomp]
  rw [show d.cmd.cmds.find? (isCmd m tag gen) = some c from h, Option.map_some, if_pos (List.find?_some h)]

/-- A record dropped is not found. -/
theorem Dev.cmd?_dropCmd (d : Dev) (m tag gen : Nat) : (d.dropCmd m tag gen).cmd? m tag gen = none := by
  simp only [Dev.cmd?, Dev.dropCmd, List.find?_eq_none]
  exact fun c hc => by simpa using (List.mem_filter.mp hc).2

/-- A command that ended with a status and data. -/
theorem Dev.finished_finish {d : Dev} {m tag gen : Nat} {c : Cmd} (h : d.cmd? m tag gen = some c) (status : Nat) (data : List Word) :
    (d.finish m tag gen ⟨status, data, false⟩).finished m tag gen status data :=
  ⟨_, d.cmd?_finish m tag gen _ c h, rfl, by simp, rfl⟩

theorem Dev.cmd?_showOutstanding (d : Dev) (m' m tag gen : Nat) : (d.showOutstanding m').cmd? m tag gen = d.cmd? m tag gen := rfl

/-- The count of outstanding commands is one register. -/
theorem Dev.sameRegsBut.shown {d t : Dev} (h : t.rf = d.rf) (m : Nat) : d.sameRegsBut (t.showOutstanding m) [Reg.CMD_OUTSTANDINGm m] :=
  ((Dev.sameRegsBut.refl d _).of_rf h).setReg (by simp)

/-! ## A packet taken (R120, R127) -/

theorem Dev.wordAt_packetWords (d : Dev) (m ci : Nat) {i n : Nat} (hi : i < n) :
    wordAt (d.packetWords m ci n) i = d.reg (Reg.CMD_QUEUES (m * 4096 + (16 * ci + i) % 4096)) := by
  simp [wordAt, Dev.packetWords, hi]

/-- The header of a packet reads the same however much of it is read. -/
theorem Dev.wordAt_packetWords_head (d : Dev) (m ci k : Nat) {i : Nat} (hi : i < 4) :
    wordAt (d.packetWords m ci 4) i = wordAt (d.packetWords m ci (4 + k)) i := by
  rw [d.wordAt_packetWords m ci hi, d.wordAt_packetWords m ci (by omega)]

/-- A packet that passes every check joins the commands and waits. -/
theorem Dev.takePacket_good {d : Dev} {m len : Nat} {c : Cmd} (head : List Word)
    (hhead : head = d.packetWords m (d.fld (Reg.CMD_CIm m) 0 16) (4 + ceilDiv len 4))
    (hlen : len = Word.fld (wordAt head 2) 0 16) (hmax : len ≤ 4080)
    (hslots : slotsFor len ≤ fwd16 (d.fld (Reg.CMD_PIm m) 0 16) (d.fld (Reg.CMD_CIm m) 0 16))
    (hc : c = ⟨m, wordAt head 0, wordAt head 1, wordAt head 2, head.drop 4, .waiting, 1, 0, 0, false, [], 0, false, [],
      Map.getD d.cmd.peers (d.fld (Reg.CMD_CIm m) 0 16 % 256) 0⟩)
    (hcrc : crc16 (bytesOf [wordAt head 0, wordAt head 1, wordAt head 2] ++ (bytesOf (head.drop 4)).take len) =
      Word.fld (wordAt head 3) 0 16) (hres : Word.fld (wordAt head 3) 16 16 = 0)
    (hver : Word.fld c.word0 24 8 = 1) (hflags : Word.fld c.word0 19 5 = 0) (hnew : d.cmd? m c.tag c.gen = none)
    (hop : c.opcode ≠ 0x0400) (hck : ((d.takeSlots m (slotsFor len)).setGen m c.tag c.gen).checkCmd c = none) :
    d.takePacket m = { (d.takeSlots m (slotsFor len)).setGen m c.tag c.gen with
      cmd := { ((d.takeSlots m (slotsFor len)).setGen m c.tag c.gen).cmd with cmds := d.cmd.cmds ++ [c] } } := by
  have hw : ∀ i, i < 4 → wordAt (d.packetWords m (d.fld (Reg.CMD_CIm m) 0 16) 4) i = wordAt head i := fun i hi => by
    rw [hhead, d.wordAt_packetWords_head m _ (ceilDiv len 4) hi]
  have hnew' : (d.takeSlots m (slotsFor len)).cmd? m c.tag c.gen = none := hnew
  simp only [Dev.takePacket, hw 0 (by decide), hw 1 (by decide), hw 2 (by decide), hw 3 (by decide), ← hlen, ← hhead, ← hc]
  have h0 : c.word0 = wordAt head 0 := by rw [hc]
  rw [h0] at hver hflags
  rw [if_neg (by omega), if_neg hop, if_neg (by simp [hcrc, hres, hver, hflags]), hnew']
  simp only [Option.isSome_none, Bool.false_eq_true, if_false, hck]
  rfl

/-! ## A reply written (R121, R125, R126) -/

/-- Words put into a master's reply queue change its slots alone. -/
theorem Dev.reg_putReply_other (ws : List Word) (d : Dev) (m pos : Nat) {k : Nat}
    (hk : ∀ i, i < ws.length → k ≠ Reg.CMD_REPLIES (m * 4096 + (pos + i) % 4096)) : (d.putReply m pos ws).reg k = d.reg k := by
  induction ws generalizing d pos with
  | nil => rfl
  | cons w ws ih =>
    have h0 := hk 0 (by simp)
    refine (ih _ (pos + 1) fun i hi => ?_).trans (Dev.reg_setReg_other d w h0)
    rw [Nat.add_assoc, Nat.add_comm 1 i]
    exact hk (i + 1) (by simpa using hi)

/-- Up to 4,096 words put into a reply queue lie there. -/
theorem Dev.reg_putReply (ws : List Word) (d : Dev) (m pos : Nat) (hlen : ws.length ≤ 4096) {i : Nat} (hi : i < ws.length) :
    (d.putReply m pos ws).reg (Reg.CMD_REPLIES (m * 4096 + (pos + i) % 4096)) = wordAt ws i := by
  induction ws generalizing d pos i with
  | nil => cases hi
  | cons w ws ih =>
    simp only [List.length_cons] at hlen hi
    cases i with
    | zero =>
      refine (Dev.reg_putReply_other ws _ m (pos + 1) fun j hj => ?_).trans (Dev.reg_setReg_same d _ w)
      unfold Reg.CMD_REPLIES; omega
    | succ i =>
      have h := ih (d.setReg (Reg.CMD_REPLIES (m * 4096 + pos % 4096)) w) (pos + 1) (by omega) (by omega : i < ws.length)
      rw [Nat.add_assoc, Nat.add_comm 1 i] at h
      exact h

theorem Dev.cmd_putReply (ws : List Word) (d : Dev) (m pos : Nat) : (d.putReply m pos ws).cmd = d.cmd := by
  induction ws generalizing d pos with
  | nil => rfl
  | cons w ws ih => exact ih _ _

/-- The words from a list of bytes are as many as asked for. -/
theorem length_wordsOf (n : Nat) (bs : List Byte) : (wordsOf n bs).length = n := by
  induction n generalizing bs with
  | zero => rfl
  | succ n ih => simp [wordsOf, ih]

/-- A reply is a header of four words and at most REPLY_MAX bytes. -/
theorem length_replyWords {w1 : Word} {op status replyMax : Nat} {dup expert : Bool} {data : List Word} :
    (replyWords w1 op status replyMax dup expert data).length ≤ 4 + ceilDiv replyMax 4 := by
  have h : ((bytesOf data).take replyMax).length ≤ replyMax := by simp
  simp only [replyWords, List.length_append, length_wordsOf, List.length_cons, List.length_nil]
  unfold ceilDiv
  omega

/-- A reply without a notice, of a master that reads its queue itself and has no vector. -/
theorem Dev.writeReply_plain {d : Dev} {m : Nat} (ws : List Word) (peer : Nat) (hm : m = 5 ∨ m = 6) :
    d.writeReply m ws false peer = ((d.putReply m (d.fld (Reg.CMD_RPIm m) 0 16 * 16) ws).setFld (Reg.CMD_RPIm m) 0 16
      (d.fld (Reg.CMD_RPIm m) 0 16 + slotsFor (4 * ws.length - 16))).sqSet (Reg.CMD_STATUSm m) [0] := by
  have h4 : ¬ m < 4 := by omega
  simp only [Dev.writeReply, h4, and_false, decide_false, Bool.and_false, Bool.false_eq_true, if_false]
  rw [if_neg (by omega), if_neg (by omega), if_neg (by omega)]

/-- The keys that waited on a command no longer do. -/
def Dev.dropWaits (d : Dev) (c : Cmd) : Dev :=
  { d with cry := { d.cry with waits := d.cry.waits.filter (fun w => decide (w.2.2 ≠ (c.master, c.tag, c.gen))) } }

/-- A command's limit expired without data of its own. -/
theorem Dev.expireCmd_plain {d : Dev} {c : Cmd} (hop : c.opcode ∉ [0x0101, 0x0204, 0x030B, 0x0304, 0x0A03, 0x0904]) :
    d.expireCmd c = (d.dropWaits c).finish c.master c.tag c.gen ⟨stTimeout, [], false⟩ := by
  simp only [List.mem_cons, List.not_mem_nil, or_false, not_or] at hop
  obtain ⟨h1, h2, h3, h4, h5, h6⟩ := hop
  unfold Dev.expireCmd
  split
  · next h => exact absurd h h1
  · next h => exact absurd h h2
  · next h => exact absurd h h3
  · next h => exact absurd h h4
  · next h => exact absurd h h5
  · next h => exact absurd h h6
  · rfl

/-- The change of a command's record as it starts. -/
def Dev.begin (d : Dev) (c : Cmd) (o : OpSpec) (x : Cmd) : Cmd :=
  { x with phase := .started, slots := slotsFor c.replyMax, startedAt := d.now, exp := d.limitOf c o, locks := o.locks c d }

theorem Dev.startCmd_free {d : Dev} {c : Cmd} {o : OpSpec} (hfree : d.lockHeld c o = false) (hstep : stepwise c.opcode = false) :
    d.startCmd c o = (d.setCmd c.master c.tag c.gen (d.begin c o)).showOutstanding c.master := by
  simp only [Dev.startCmd, hfree, hstep, Bool.false_eq_true, false_and, or_false, if_false]
  rfl

theorem Dev.startCmd_held {d : Dev} {c : Cmd} {o : OpSpec} (hheld : d.lockHeld c o = true) :
    d.startCmd c o = (((d.setCmd c.master c.tag c.gen (d.begin c o)).showOutstanding c.master).setCmd c.master c.tag c.gen (fun x => { x with locks := [] })).finish
        c.master c.tag c.gen (Res.st stBusy) := by
  simp only [Dev.startCmd, hheld, true_or, if_true]
  rfl

/-- Settles O10: the record of a command follows each row, and its reply lies in the queue. -/
theorem commandsAreTakenStartedAndAnswered : Obligations.CommandsAreTakenStartedAndAnswered := by
  unfold Obligations.CommandsAreTakenStartedAndAnswered
  refine ⟨fun s m c len hr hen hpi hfree hpk hver hflags hnew hop hck => ?_, fun s m tag gen c o hr hc ho => ⟨fun hready hfree hstep => ?_,
    fun hready hheld => ?_, fun hph hstr hop => ?_⟩, fun s m tag gen c hr hc hph hgen => ⟨fun hq hst => ?_, fun hq hn hm hmax => ?_⟩⟩
  · obtain ⟨hlen, hmax, hslots, hceq, hcrc, hres⟩ := hpk
    have htake := Dev.takePacket_good _ rfl hlen hmax hslots hceq hcrc hres hver hflags hnew hop hck
    refine ⟨{ s with dev := s.dev.takePacket m.val }, ?_, ?_⟩
    · refine (act_run hr).trans ?_
      rw [if_pos (by simp [hen, hpi, hfree])]
    · rw [htake]
      refine ⟨rfl, Map.get?_put_same .., Dev.fld_setFld_same _ _ _ _ _ (by decide), ?_⟩
      exact ((Dev.sameRegsBut.refl s.dev _).setReg (k := Reg.CMD_CIm m.val) (by simp)).of_rf rfl
  · obtain ⟨hma, htag, hgn⟩ := Dev.cmd?_key hc
    refine ⟨{ s with dev := s.dev.startCmd c o }, ?_, ?_⟩
    · refine (act_run hr).trans ?_
      simp only [hc, ho, hready, if_true]
    · have hstart := Dev.startCmd_free hfree hstep
      rw [hma, htag, hgn] at hstart
      rw [hstart]
      refine ⟨(Dev.cmd?_showOutstanding ..).trans ?_, .shown rfl _⟩
      exact Dev.cmd?_setCmd (s.dev.begin c o) hc fun _ => rfl
  · obtain ⟨hma, htag, hgn⟩ := Dev.cmd?_key hc
    refine ⟨{ s with dev := s.dev.startCmd c o }, ?_, ?_⟩
    · refine (act_run hr).trans ?_
      simp only [hc, ho, hready, if_true]
    · rw [Dev.startCmd_held hheld, hma, htag, hgn]
      have hbegun := Dev.cmd?_setCmd (s.dev.begin c o) hc fun _ => rfl
      refine ⟨Dev.finished_finish (Dev.cmd?_setCmd (fun x => { x with locks := [] }) hbegun fun _ => rfl) stBusy [], ?_⟩
      exact (Dev.sameRegsBut.shown (t := s.dev.setCmd m.val tag.val gen.val (s.dev.begin c o)) rfl m.val).of_rf rfl
  · obtain ⟨hma, htag, hgn⟩ := Dev.cmd?_key hc
    refine ⟨{ s with dev := (s.dev.expireCmd c).sqSet (Reg.CMD_STATUSm m.val) [1] }, ?_, ?_⟩
    · refine (act_run hr).trans ?_
      simp only [hc, hph, hstr, true_or, and_self, if_true]
    · rw [Dev.expireCmd_plain hop, hma, htag, hgn]
      refine ⟨Dev.finished_finish (d := s.dev.dropWaits c) hc stTimeout [], Dev.bit_sqSet_mem _ _ (by decide) (by decide), ?_⟩
      exact ((Dev.sameRegsBut.refl s.dev _).of_rf rfl).setReg (by simp)
  · refine ⟨{ s with dev := (s.dev.dropCmd m.val tag.val gen.val).showOutstanding m.val }, ?_, ?_⟩
    · refine (act_run hr).trans ?_
      have hgen' : (s.dev.dropCmd m.val tag.val gen.val).curGen m.val tag.val = some gen.val := hgen
      simp only [hc, hph, ne_eq, not_true, if_false, hgen', hq, true_and, if_pos hst]
    · exact ⟨Dev.cmd?_dropCmd .., .shown rfl _⟩
  · have hlen := length_replyWords (w1 := c.word1) (op := c.opcode) (status := c.status) (replyMax := c.replyMax) (dup := false)
      (expert := c.expert) (data := c.reply)
    generalize hws : replyWords c.word1 c.opcode c.status c.replyMax false c.expert c.reply = ws at hlen
    have hrun : exec (.commandReply m tag gen) s =
        .next { s with dev := ((s.dev.dropCmd m.val tag.val gen.val).writeReply m.val ws false c.peer).showOutstanding m.val } := by
      refine (act_run hr).trans ?_
      have hgen' : (s.dev.dropCmd m.val tag.val gen.val).curGen m.val tag.val = some gen.val := hgen
      simp only [hc, hph, ne_eq, not_true, if_false, hgen', hq, Bool.false_eq_true, false_and, hn, hws]
    refine ⟨_, hrun, ?_⟩
    rw [Dev.writeReply_plain ws c.peer hm]
    refine ⟨?_, ?_, ?_, fun i hi => ?_⟩
    · exact (congrArg (fun l => l.cmds.find? (isCmd m.val tag.val gen.val)) (Dev.cmd_putReply ws _ _ _)).trans
        (Dev.cmd?_dropCmd s.dev m.val tag.val gen.val)
    · refine (Dev.fld_setReg_other _ 0 16 _ (by unfold Reg.CMD_RPIm Reg.CMD_OUTSTANDINGm; omega)).trans ?_
      refine (Dev.fld_setReg_other _ 0 16 _ (by unfold Reg.CMD_RPIm Reg.CMD_STATUSm; omega)).trans ?_
      exact Dev.fld_setFld_same _ _ _ _ _ (by decide)
    · refine (Dev.bit_setReg_other _ 0 _ (by unfold Reg.CMD_STATUSm Reg.CMD_OUTSTANDINGm; omega)).trans ?_
      exact Dev.bit_sqSet_mem _ _ (by decide) (by decide)
    · refine (Dev.reg_setReg_other _ _ (by unfold Reg.CMD_REPLIES Reg.CMD_OUTSTANDINGm; omega)).trans ?_
      refine (Dev.reg_setReg_other _ _ (by unfold Reg.CMD_REPLIES Reg.CMD_STATUSm; omega)).trans ?_
      refine (Dev.reg_setReg_other _ _ (by unfold Reg.CMD_REPLIES Reg.CMD_RPIm; omega)).trans ?_
      exact Dev.reg_putReply ws _ m.val _ (by unfold ceilDiv at hlen; omega) hi

end Sys2Proof.Machine
end

section
/-! PROOFS. O11: register writes and reads by their access types, the slow copies, the first opcodes (R97, R98, R101, R139). -/

namespace Sys2Proof

/-- Writes of a list of values leave a key that none of them names. -/
theorem Map.get?_foldl_putD {α : Type} [DecidableEq α] (z : Nat → α) (ps : List (Nat × α)) (m : Map α) {k : Nat} (hk : k ∉ ps.map Prod.fst) :
    Map.get? (ps.foldl (fun m p => Map.putD m p.1 (z p.1) p.2) m) k = Map.get? m k := by
  induction ps generalizing m with
  | nil => rfl
  | cons p ps ih =>
    simp only [List.map_cons, List.mem_cons, not_or] at hk
    rw [List.foldl_cons, ih _ hk.2, Map.putD]
    split
    · exact Map.get?_del_other _ _ _ hk.1
    · exact Map.get?_put_other _ _ _ _ hk.1

theorem Map.get?_sift_key {α : Type} (m : Map α) (p : Nat → Bool) (k : Nat) :
    Map.get? (Map.sift m (fun k _ => p k)) k = if p k then Map.get? m k else none := Map.get?_filter_key m p k

end Sys2Proof

namespace Sys2Proof.Machine

/-! ## Writes (R97, R101) -/

/-- A word written by a master other than a host reaches the register it names. -/
theorem exec_registerWrite_word {s : State} {m : Fin 16} {off : Nat} {lo hi : Word} (hr : s.dev.running = true) (hm : 4 ≤ m.val)
    (hoff : off % 4 = 0) : exec (.registerWrite m .bar0 off 4 lo hi) s =
      .next { s with dev := s.dev.writeReg m.val (s.dev.target m.val off) lo true } := by
  have hhalt : s.dev.halted = false := by simp only [Dev.running, Bool.and_eq_true, Bool.not_eq_true'] at hr; simp [hr]
  have hok : accessOk off 4 = true := by simp [accessOk, hoff]
  have hbus : s.dev.busWrite m.val .bar0 off 4 lo hi = s.dev.writeReg m.val (s.dev.target m.val off) lo true := by
    rw [Dev.busWrite, if_neg (by omega), hok, if_pos rfl, Dev.busWords, if_neg (by decide)]
  show Host.Outcome.next (s.onDev _) = _
  rw [State.onDev, hhalt, Bool.false_and, Bool.false_and, if_neg Bool.false_ne_true, Dev.live, hr, if_pos rfl, hbus]

/-- An ordinary staged register outside direct mode is staged alone. -/
theorem Dev.writeReg_staged {d : Dev} {m k : Nat} {v : Word} (hacc : accOf k = some .st) (hsh : shadowOf k = none) (hq : queueOf k = none)
    (hth : k ≠ Reg.EBS_THERMAL_CTRL) (hdir : d.directMode (groupOf k) = false) : d.writeReg m k v true = d.stage k v true m := by
  have hig : d.stIgnored k = false := by simp [Dev.stIgnored, hq]
  have hdir' : (d.stage k v true m).directMode (groupOf k) = false := hdir
  simp only [Dev.writeReg, hacc, Dev.stWrite, Dev.queueValue, hq, if_neg hth, hig, hsh, hdir', Bool.false_eq_true, if_false]

/-- A plain RW register takes its writable bits at once. -/
theorem Dev.writeReg_plain {d : Dev} {m k : Nat} {v : Word} (hacc : accOf k = some .rw) (hopen : d.rwClosed k = false)
    (hact : d.actWrite m k v = none) :
    d.writeReg m k v true = (d.setReg k (v &&& maskOf k ||| (d.reg k &&& ~~~ maskOf k))).markExpert k true := by
  simp only [Dev.writeReg, hacc, hopen, hact, Bool.false_eq_true, if_false, Dev.rwPlain]

/-! ## Slow copies (R98) -/

/-- The slow copy of an RS register whose live value is stored. -/
theorem Dev.slow_slowCopy {d : Dev} {k : Nat} (hrs : accOf k = some .rs) (hder : k ∉ d.derived.map Prod.fst) (hk : k < 2 ^ 45) :
    (Map.get? d.slowCopy.rf.slow k).getD (resetOf k) = d.reg k := by
  have hwin : ∀ wins : List (Nat × Word), (∀ p ∈ wins, 2 ^ 45 ≤ p.1) → k ∉ wins.map Prod.fst := fun wins hw hm => by
    obtain ⟨p, hp, he⟩ := List.mem_map.mp hm
    have := hw p hp
    omega
  have hslow : Map.get? d.slowCopy.rf.slow k = Map.get? d.rf.act k := by
    refine (Map.get?_foldl_putD (fun _ => 0) _ _ (hwin _ fun p hp => ?_)).trans ?_
    · simp only [List.mem_flatMap, List.mem_map] at hp
      obtain ⟨m, -, i, -, rfl⟩ := hp
      simp only [qstateMark]
      omega
    · refine (Map.get?_foldl_putD resetOf _ _ hder).trans ?_
      refine (Map.get?_sift_key d.rf.act (fun k => decide (accOf k = some .rs)) k).trans ?_
      rw [if_pos (by simpa using hrs)]
  rw [hslow, Dev.reg]

/-! ## LEES_READ and REG_READ (R134, R550) -/

/-- The Lees entries of a range the log holds whole. -/
theorem Dev.leesEntries_held {d : Dev} {first n : Nat} (hlast : first + n ≤ d.regN Reg.CMD_LEES_SEQ)
    (hfirst : d.regN Reg.CMD_LEES_SEQ ≤ first + 1024) :
    d.leesEntries first n = (List.range n).flatMap (fun i => d.regs (Reg.CMD_LEES (((first + i) % 1024) * 8)) 8) := by
  have hlt : d.regN Reg.CMD_LEES_SEQ < 2 ^ 32 := (d.reg Reg.CMD_LEES_SEQ).isLt
  simp only [Dev.leesEntries, List.flatMap_map]
  refine List.flatMap_congr fun i hi => ?_
  have hi := List.mem_range.mp hi
  rw [Nat.mod_eq_of_lt (by omega), if_pos (by omega)]

/-- A read of one plain RO register changes nothing. -/
theorem Dev.busReads_plain {d : Dev} {m k : Nat} (htgt : d.target m k = k) (hacc : accOf k = some .ro) (hwide : wideLow k = false)
    (hlatch : Map.get? d.rf.latch k = none) (hst : k ≠ Reg.GLB_STAGED)
    (hims : ¬ (Reg.PCE_IMS_DATAm 0 0 ≤ k ∧ k < Reg.PCE_IMS_DATAm 0 0 + 512)) : d.busReads m k 1 = ([d.reg k], d) := by
  have hval : d.readVal m k = d.reg k := by
    simp only [Dev.readVal, htgt, if_neg hst, hacc]
    rw [if_neg (by omega)]
  simp only [Dev.busReads, Dev.busRead, htgt, hwide, hlatch, hval, Bool.false_eq_true, if_false]

/-- Settles O11: each access does what its register's type says, and the opcodes answer what they read. -/
theorem registerAccessesFollowTheirTypes : Obligations.RegisterAccessesFollowTheirTypes := by
  unfold Obligations.RegisterAccessesFollowTheirTypes
  refine ⟨fun s m off lo hi hr hm hoff => ⟨fun hacc hsh hq hth hdir => ?_, fun hacc hopen hact => ?_, fun hacc => ?_⟩, fun s hr => ?_,
    fun s m tag gen c hr => ⟨fun hc => ?_, fun hc => ?_, fun hc => ?_, fun hc hlast hfirst => ?_,
      fun hc hn hres hal hlim htgt hacc hwide hlatch hst hims => ?_⟩⟩
  · refine ⟨_, exec_registerWrite_word hr hm hoff, ?_⟩
    rw [Dev.writeReg_staged hacc hsh hq hth hdir]
    exact ⟨rfl, (Dev.staged_stage ..).trans (if_pos rfl), fun j hj => (Dev.staged_stage ..).trans (if_neg hj)⟩
  · refine ⟨_, exec_registerWrite_word hr hm hoff, ?_⟩
    rw [Dev.writeReg_plain hacc hopen hact]
    exact ⟨rfl, Dev.reg_setReg_same .., (Dev.sameRegsBut.refl _ _).setReg (by simp)⟩
  · rw [exec_registerWrite_word hr hm hoff]
    have hkeep : s.dev.writeReg m.val (s.dev.target m.val off) lo true = s.dev := by
      rcases hacc with h | h | h | h <;> rw [Dev.writeReg, h]
    rw [hkeep]
  · exact ⟨_, act_run hr, rfl, fun k hrs hder hk => Dev.slow_slowCopy hrs hder hk⟩
  · exact opStep_ok hr hc rfl
  · exact opStep_ok hr hc rfl
  · exact opStep_ok hr hc rfl
  · exact opStep_ok hr hc (by rw [runLeesRead, Dev.leesEntries_held hlast hfirst])
  · refine opStep_ok hr hc ?_
    have hok : regRangeBad 1020 c s.dev = false := by
      simp only [regRangeBad, decide_eq_false_iff_not]
      omega
    rw [runRegRead, hok, if_neg Bool.false_ne_true, hn, Dev.busReads_plain htgt hacc hwide hlatch hst hims]

end Sys2Proof.Machine
end

section
/-! PROOFS. O13: grid observations and the loss of a source (R32, R36, R41, R50, R59, R61; log entries 8 and 14). -/

namespace Sys2Proof

/-- A fold whose steps all leave the start leaves it. -/
theorem foldl_eq_start {α β : Type} {f : β → α → β} {b : β} {l : List α} (h : ∀ a ∈ l, f b a = b) : l.foldl f b = b := by
  induction l with
  | nil => rfl
  | cons a l ih => rw [List.foldl_cons, h a (by simp)]; exact ih fun x hx => h x (by simp [hx])

end Sys2Proof

namespace Sys2Proof.Machine

/-! ## Observations -/

/-- Time that has come passes no further. -/
theorem Dev.runTo_now (d : Dev) : d.runTo d.now = d := by
  simp [Dev.runTo]

theorem min_succ_sat (a : Nat) : (if a + 1 < 2 ^ 16 then a + 1 else 2 ^ 16 - 1) = Nat.min (a + 1) 65535 := by
  change _ = min (a + 1) 65535
  split <;> omega

/-- A saturating 16-bit counter reads one more, up to its most. -/
theorem Dev.fld_countFld (d : Dev) (k : Nat) {lo : Nat} (h : lo + 16 ≤ 32) :
    (d.countFld k lo 16).fld k lo 16 = Nat.min (d.fld k lo 16 + 1) 65535 := by
  rw [Dev.countFld, Dev.fld_setFld_same _ _ _ _ _ h, min_succ_sat]
  exact Nat.mod_eq_of_lt (lt_of_le_of_lt (Nat.min_le_right ..) (by decide))

theorem Dev.gzxEdge_late {d : Dev} {k n e : Nat} (he : Map.get? d.gau.edges k = some e) (hlate : e + 11111000 < d.now)
    (hfed : d.fedBy 0 k = [n]) :
    gzxEdge k d = ({ d with gau := { d.gau with edges := Map.put d.gau.edges k d.now } } : Dev).gauInvalid n := by
  have hper : periodOk ((d.now - e) * 2) = false := by
    simp only [periodOk, decide_eq_false_iff_not]
    omega
  simp only [gzxEdge, he, if_neg (show ¬ d.now - e < 5000000 by omega), hfed, List.foldl_cons, List.foldl_nil, Dev.crossing, hper,
    Bool.false_eq_true, if_false]

/-- A damaged frame is counted and reported (R59). -/
theorem gsyncTake_damaged {age : Nat} {bs : List Byte} {bad : Bool} (d : Dev)
    (h : bad = true ∨ bs.length ≠ 54 ∨ crc16 (bs.take 52) ≠ beAt bs 52 2) :
    gsyncTake age bs bad d = (d.sqSet Reg.GAU_EVT_STATUS [4]).countFld Reg.GAU_GSYNC_STATUS 0 16 := by
  have hgood : (decide (bs.length = 54) && !bad && decide (crc16 (bs.take 52) = beAt bs 52 2) && decide (byteAt bs 0 = 1)) = false := by
    rcases h with h | h | h <;> simp [h]
  simp only [gsyncTake, hgood, Bool.false_and, Bool.false_eq_true, if_false]

/-- The references a source feeds do not depend on the receiver's status. -/
theorem Dev.fedBy_gsyncStatus (d : Dev) (src i j : Nat) (b : Bool) : (d.setBit Reg.GAU_GSYNC_STATUS i b).fedBy src j = d.fedBy src j := by
  have hst : ∀ n ∈ List.range 4, (d.setBit Reg.GAU_GSYNC_STATUS i b).reg (Reg.GAU_REFn_STATUS n) = d.reg (Reg.GAU_REFn_STATUS n) :=
    fun n hn => Dev.reg_setReg_other _ _ (by have := List.mem_range.mp hn; unfold Reg.GAU_REFn_STATUS Reg.GAU_GSYNC_STATUS; omega)
  have hct : ∀ n ∈ List.range 4, (d.setBit Reg.GAU_GSYNC_STATUS i b).reg (Reg.GAU_REFn_CTRL n) = d.reg (Reg.GAU_REFn_CTRL n) :=
    fun n hn => Dev.reg_setReg_other _ _ (by have := List.mem_range.mp hn; unfold Reg.GAU_REFn_CTRL Reg.GAU_GSYNC_STATUS; omega)
  refine List.filter_congr fun n hn => ?_
  simp only [Dev.refState, Dev.fld, hst n hn, hct n hn]
  congr

/-- The slots of a good frame that feed no reference: their tie bits alone. -/
theorem gsyncSlots_unfed (age : Nat) (bs : List Byte) (ss : List Nat) (hss : ∀ i ∈ ss, i < 4) (d : Dev) (hfed : ∀ i, i < 4 → d.fedBy 1 i = []) :
    (ss.foldl (gsyncSlot age bs) d).gau = d.gau ∧ d.sameRegsBut (ss.foldl (gsyncSlot age bs) d) [Reg.GAU_GSYNC_STATUS] := by
  induction ss generalizing d with
  | nil => exact ⟨rfl, .refl d _⟩
  | cons i ss ih =>
    have hi := hss i (by simp)
    have hslot : gsyncSlot age bs d i = d.setBit Reg.GAU_GSYNC_STATUS (27 + i) ((byteAt bs (14 + 12 * i)).testBit 6) := by
      rw [gsyncSlot, Dev.fedBy_gsyncStatus, hfed i hi]; rfl
    rw [List.foldl_cons, hslot]
    obtain ⟨hgau, hregs⟩ := ih (fun j hj => hss j (by simp [hj])) (d.setBit Reg.GAU_GSYNC_STATUS (27 + i)
      ((byteAt bs (14 + 12 * i)).testBit 6)) fun j hj => by rw [Dev.fedBy_gsyncStatus, hfed j hj]
    exact ⟨hgau, ((Dev.sameRegsBut.refl d _).setReg (by simp)).trans hregs⟩

/-- A good frame, the first one, that feeds no reference (R59). -/
theorem gsyncTake_good {age : Nat} {bs : List Byte} (d : Dev) (hlen : bs.length = 54) (hcrc : crc16 (bs.take 52) = beAt bs 52 2)
    (hver : byteAt bs 0 = 1) (hseq : d.gau.gsyncSeq = none) : gsyncTake age bs false d =
      (List.range 4).foldl (gsyncSlot age bs) { d with gau := { d.gau with gsyncSeq := some (byteAt bs 1) } } := by
  simp [gsyncTake, hlen, hcrc, hver, hseq]

/-! ## The loss of a source (R41, R50) -/

/-- A reference that steers itself alone has no group to follow it. -/
theorem Dev.syncGroup_alone {d : Dev} {n : Nat} (h : ∀ k, k < 4 → k ≠ n → d.steer k ≠ n) : d.syncGroup n = d :=
  foldl_eq_start fun m hm => if_neg fun hc => h m (List.mem_range.mp hm) hc.1 hc.2.1

/-! ## HC registers (R100) -/

/-- Words posted to masters change no register. -/
theorem Dev.rf_post (d : Dev) (m kind info : Nat) : (d.post m kind info).rf = d.rf := by
  unfold Dev.post; split <;> rfl

theorem Dev.rf_postAll (ms : List Nat) (kind info : Nat) (d : Dev) : (d.postAll ms kind info).rf = d.rf := by
  induction ms generalizing d with
  | nil => rfl
  | cons m ms ih => exact (ih (d.post m kind info)).trans (d.rf_post m kind info)

theorem Dev.sameRegsBut.hcSet {d t : Dev} {ks : List Nat} (h : d.sameRegsBut t ks) {k : Nat} (i : Nat) (b : Bool) (ev : Nat) (hk : k ∈ ks)
    (hev : Reg.GLB_EVT_STATUS ∈ ks) : d.sameRegsBut (t.hcSet k i b ev) ks := by
  simp only [Dev.hcSet]
  split
  · exact ((h.setReg hk).setReg hev).of_rf (Dev.rf_postAll ..)
  · exact h.setReg hk

/-- A cause shown in an HC register. -/
theorem Dev.bit_hcSet (d : Dev) {k i : Nat} (b : Bool) (ev : Nat) (hi : i < 32) (hk : k ≠ Reg.GLB_EVT_STATUS) :
    (d.hcSet k i b ev).bit k i = b := by
  have hsame : (d.hcSet k i b ev).reg k = (d.setBit k i b).reg k := by
    simp only [Dev.hcSet]
    split
    · exact (Dev.reg_congr (Dev.rf_postAll ..) k).trans (Dev.reg_setReg_other _ _ hk)
    · rfl
  rw [Dev.bit, hsame]
  exact Dev.bit_setBit_same d k i b hi

/-! ## Holdover and freerun (R41, R43) -/

/-- A change of a reference's STATE: its field, GAU_LOST and the event of its rise. -/
theorem Dev.reg_setRefState_other (d : Dev) (n st : Nat) {k : Nat} (h : k ∉ [Reg.GAU_REFn_STATUS n, Reg.GAU_LOST, Reg.GLB_EVT_STATUS]) :
    (d.setRefState n st).reg k = d.reg k := by
  simp only [List.mem_cons, List.not_mem_nil, or_false, not_or] at h
  exact ((Dev.sameRegsBut.refl _ [Reg.GAU_LOST, Reg.GLB_EVT_STATUS]).hcSet n _ 2 (by simp) (by simp) k (by simp [h.2])).trans
    (Dev.reg_setReg_other d _ h.1)

/-- The status of a reference whose STATE changes. -/
theorem Dev.status_setRefState (d : Dev) (n st : Nat) :
    (d.setRefState n st).reg (Reg.GAU_REFn_STATUS n) = Word.setFld (d.reg (Reg.GAU_REFn_STATUS n)) 0 3 st := by
  have hst : Reg.GAU_REFn_STATUS n ∉ [Reg.GAU_LOST, Reg.GLB_EVT_STATUS] := by
    simp only [List.mem_cons, List.not_mem_nil, or_false, not_or]
    unfold Reg.GAU_REFn_STATUS Reg.GAU_LOST Reg.GLB_EVT_STATUS
    omega
  exact ((Dev.sameRegsBut.refl _ [Reg.GAU_LOST, Reg.GLB_EVT_STATUS]).hcSet n _ 2 (by simp) (by simp) _ hst).trans (Dev.reg_setReg_same ..)

theorem Dev.refState_setRefState (d : Dev) (n : Nat) {st : Nat} (h : st < 8) : (d.setRefState n st).refState n = st := by
  rw [Dev.refState, Dev.fld, Dev.status_setRefState, Word.fld_setFld_same _ _ _ _ (by decide)]
  exact Nat.mod_eq_of_lt h

/-- A change of a reference's STATE leaves who steers whom. -/
theorem Dev.steer_setRefState (d : Dev) (n st k : Nat) : (d.setRefState n st).steer k = d.steer k := by
  by_cases h : k = n
  · subst h
    rw [Dev.steer, Dev.fld, Dev.status_setRefState, Word.fld_setFld_other _ _ _ _ _ _ (by decide) (by decide)]
    rfl
  · rw [Dev.steer, Dev.fld, Dev.reg_setRefState_other, Dev.steer, Dev.fld]
    simp only [List.mem_cons, List.not_mem_nil, or_false, not_or]
    unfold Reg.GAU_REFn_STATUS Reg.GAU_LOST Reg.GLB_EVT_STATUS
    omega

theorem Dev.merged_setRefState (d : Dev) (n st : Nat) : (d.setRefState n st).merged n = d.merged n := by
  rw [Dev.merged, Dev.bit, Dev.status_setRefState, Word.bit_setFld_other _ _ _ _ _ (by decide) (by decide)]
  rfl

/-- What steers a reference is one field of its status. -/
theorem Dev.steer_congr {d t : Dev} {k : Nat} (h : t.reg (Reg.GAU_REFn_STATUS k) = d.reg (Reg.GAU_REFn_STATUS k)) : t.steer k = d.steer k := by
  rw [Dev.steer, Dev.fld, h]; rfl

/-- A reference that steers itself alone goes to HOLDOVER, and no further. -/
theorem Dev.enterHoldover_alone {d : Dev} {n : Nat} (hself : d.steer n = n)
    (halone : ∀ k, k < 4 → k ≠ n → d.steer k ≠ n) (hhold : d.fld (Reg.GAU_REFn_LIMITS n) 0 16 ≠ 0) (htie : d.bit Reg.GAU_TIE 31 = false) :
    d.enterHoldover n = ((d.setRefState n 4).sqSet Reg.GAU_EVT_STATUS [8 + n]).setGref n (fun g => { g with beyond := 0, agree := 0 }) := by
  generalize ht : ((d.setRefState n 4).sqSet Reg.GAU_EVT_STATUS [8 + n]).setGref n (fun g => { g with beyond := 0, agree := 0 }) = t
  have hreg : ∀ k, k ≠ Reg.GAU_EVT_STATUS → t.reg k = (d.setRefState n 4).reg k := fun k hk => by
    rw [← ht]; exact Dev.reg_sqSet_other _ _ hk
  have hst : ∀ k, t.reg (Reg.GAU_REFn_STATUS k) = (d.setRefState n 4).reg (Reg.GAU_REFn_STATUS k) := fun k =>
    hreg _ (by unfold Reg.GAU_REFn_STATUS Reg.GAU_EVT_STATUS; omega)
  have hsteer : ∀ k, t.steer k = d.steer k := fun k => (Dev.steer_congr (hst k)).trans (d.steer_setRefState n 4 k)
  have hlim : t.fld (Reg.GAU_REFn_LIMITS n) 0 16 = d.fld (Reg.GAU_REFn_LIMITS n) 0 16 := by
    rw [Dev.fld, hreg _ (by unfold Reg.GAU_REFn_LIMITS Reg.GAU_EVT_STATUS; omega), Dev.reg_setRefState_other, Dev.fld]
    simp only [List.mem_cons, List.not_mem_nil, or_false, not_or]
    unfold Reg.GAU_REFn_LIMITS Reg.GAU_REFn_STATUS Reg.GAU_LOST Reg.GLB_EVT_STATUS
    omega
  have htie' : t.bit Reg.GAU_TIE 31 = false := by
    rw [Dev.bit, hreg _ (by decide), Dev.reg_setRefState_other, ← htie, Dev.bit]
    simp only [List.mem_cons, List.not_mem_nil, or_false, not_or]
    unfold Reg.GAU_TIE Reg.GAU_REFn_STATUS Reg.GAU_LOST Reg.GLB_EVT_STATUS
    omega
  simp only [Dev.enterHoldover, ht]
  rw [if_neg (hlim ▸ hhold), Dev.followerPromote, htie', if_neg Bool.false_ne_true, hsteer, hself]
  exact Dev.syncGroup_alone fun k hk hn => hsteer k ▸ halone k hk hn

/-- A device with a condition that fails is left alone. -/
theorem Dev.when_false (d : Dev) {c : Bool} (f : Dev → Dev) (h : c = false) : d.when c f = d := by rw [Dev.when, h]; rfl

theorem Dev.when_true (d : Dev) {c : Bool} (f : Dev → Dev) (h : c = true) : d.when c f = f d := by rw [Dev.when, h]; rfl

/-- Settles O13: each observation is what the frame or the edge says, and a reference on its own follows its loss alone. -/
theorem gridObservationsAndLossAct : Obligations.GridObservationsAndLossAct := by
  unfold Obligations.GridObservationsAndLossAct
  refine ⟨fun s hr => ⟨fun k hk => ?_, fun k e he hsoon => ?_, fun k n e he hlate hfed => ?_, fun bytes bad hon htrl hbad => ?_,
    fun bytes hon htrl hlen hcrc hver hseq hfed => ?_, fun p => ?_⟩, fun s n hr hself hm halone => ⟨fun hst hhold htie => ?_, fun hst => ?_,
    fun hst => ⟨?_, ?_⟩⟩⟩
  · refine ⟨{ s with dev := gzxEdge k.val (s.dev.runTo s.dev.now) }, act_run hr, ?_⟩
    simp only [s.dev.runTo_now, gzxEdge, hk]
    exact ⟨Map.get?_put_same .., trivial⟩
  · refine (act_run hr).trans ?_
    simp only [s.dev.runTo_now, gzxEdge, he]
    rw [if_pos (by omega)]
  · refine ⟨{ s with dev := gzxEdge k.val (s.dev.runTo s.dev.now) }, act_run hr, ?_⟩
    rw [s.dev.runTo_now, Dev.gzxEdge_late he hlate hfed]
    refine ⟨Map.get?_put_same .., ?_, ?_, ?_⟩
    · exact (Dev.fld_setReg_other _ 0 16 _ (by unfold Reg.GAU_REFn_COUNTS Reg.GAU_REFn_STATUS; omega)).trans (Dev.fld_countFld _ _ (by decide))
    · exact Dev.bit_setBit_same _ _ _ _ (by decide)
    · exact (((Dev.sameRegsBut.refl s.dev _).of_rf rfl).setReg (k := Reg.GAU_REFn_COUNTS n.val) (by simp)).setReg
        (k := Reg.GAU_REFn_STATUS n.val) (by simp)
  · refine ⟨{ s with dev := (s.dev.sqSet Reg.GAU_EVT_STATUS [4]).countFld Reg.GAU_GSYNC_STATUS 0 16 }, ?_, ?_⟩
    · refine (act_run hr).trans ?_
      rw [Dev.when_true _ _ (by rw [Dev.gsyncOn, hon, htrl]; rfl), gsyncTake_damaged _ hbad]
    · refine ⟨?_, ?_, rfl, ((Dev.sameRegsBut.refl s.dev _).setReg (by simp)).setReg (by simp)⟩
      · exact (Dev.bit_setReg_other _ 4 _ (by decide)).trans (Dev.bit_sqSet_mem _ _ (by decide) (by decide))
      · exact (Dev.fld_countFld _ _ (by decide)).trans (by rw [Dev.fld, Dev.reg_sqSet_other _ _ (by decide), Dev.fld])
  · refine ⟨{ s with dev := gsyncTake (22800 + s.dev.regN Reg.GAU_GSYNC_DELAY) bytes false s.dev }, ?_, ?_⟩
    · refine (act_run hr).trans ?_
      rw [Dev.when_true _ _ (by rw [Dev.gsyncOn, hon, htrl]; rfl)]
    · rw [gsyncTake_good _ hlen hcrc hver hseq]
      obtain ⟨hgau, hregs⟩ := gsyncSlots_unfed (22800 + s.dev.regN Reg.GAU_GSYNC_DELAY) bytes (List.range 4) (fun i hi => List.mem_range.mp hi)
        { s.dev with gau := { s.dev.gau with gsyncSeq := some (byteAt bytes 1) } } hfed
      exact ⟨hgau, hregs⟩
  · exact ⟨{ s with dev := s.dev.setBit Reg.GAU_GSYNC_STATUS 31 p }, act_run hr, Dev.bit_setBit_same _ _ _ _ (by decide),
      (Dev.sameRegsBut.refl s.dev _).setReg (by simp)⟩
  · refine ⟨{ s with dev := s.dev.enterHoldover n.val }, ?_, ?_⟩
    · refine (act_run hr).trans ?_
      rw [Dev.when_true _ _ (by simp [hst, hself])]
    · rw [Dev.enterHoldover_alone hself halone hhold htie]
      refine ⟨?_, ?_⟩
      · refine Eq.trans ?_ (s.dev.refState_setRefState n.val (st := 4) (by decide))
        exact congrArg (Word.fld · 0 3) (Dev.reg_sqSet_other _ _ (by unfold Reg.GAU_REFn_STATUS Reg.GAU_EVT_STATUS; omega))
      · exact Dev.bit_sqSet_mem _ _ (by omega) (by simp)
  · generalize ht : (s.dev.setRefState n.val 5).setGref n.val (fun g => { g with agree := 0, beyond := 0 }) = t
    have hrf : t.rf = (s.dev.setRefState n.val 5).rf := by rw [← ht]; rfl
    have hsteer : ∀ k, t.steer k = s.dev.steer k := fun k => (Dev.steer_congr (Dev.reg_congr hrf _)).trans (s.dev.steer_setRefState n.val 5 k)
    have hsync : t.syncGroup n.val = t := Dev.syncGroup_alone fun k hk hn => hsteer k ▸ halone k hk hn
    refine ⟨{ s with dev := t }, ?_, ?_, ?_⟩
    · refine (act_run hr).trans ?_
      rw [Dev.when_true _ _ (by simp [hst, hself]), ht, hsync]
    · exact (congrArg (Word.fld · 0 3) (Dev.reg_congr hrf _)).trans (s.dev.refState_setRefState n.val (st := 5) (by decide))
    · exact (congrArg (Word.bit · n.val) (Dev.reg_congr hrf _)).trans (Dev.bit_hcSet _ _ 2 (by omega) (by decide))
  · refine (act_run hr).trans ?_
    rw [Dev.when_false]
    rcases hst with h | h <;> simp [h]
  · refine (act_run hr).trans ?_
    rw [Dev.when_false]
    rcases hst with h | h <;> simp [h]

end Sys2Proof.Machine
end

section
/-! PROOFS. O15: angle events at their targets, their dispatch, and the angle opcodes (R37, R53 to R56, R60; log entries 19 and 66). -/

namespace Sys2Proof.Machine

/-! ## 64-bit registers -/

theorem cat64_halves {v : Nat} (h : v < 2 ^ 64) : cat64 (lo32 v) (hi32 v) = v := by
  simp only [cat64, lo32, hi32, BitVec.toNat_ofNat]
  omega

/-- A 64-bit register reads as it was written. -/
theorem Dev.reg64_set64 (d : Dev) (k : Nat) {v : Nat} (h : v < 2 ^ 64) : (d.set64 k v).reg64 k = v := by
  have hlo : (d.set64 k v).reg k = lo32 v := (Dev.reg_setReg_other _ _ (by omega)).trans (Dev.reg_setReg_same ..)
  rw [Dev.reg64, hlo, Dev.set64, Dev.reg_setReg_same, cat64_halves h]

theorem Dev.time_lt (d : Dev) : d.time < 2 ^ 64 := d.ptp.isLt

/-! ## Firings at their targets (R54) -/

/-- The firings with the first one taken. -/
def Dev.nextFirings (d : Dev) (fs : List Firing) : Dev := { d with gau := { d.gau with firings := fs } }

theorem Dev.takeAction_head {d : Dev} {f : Firing} {fs : List Firing} {a : Nat} (h : d.gau.firings = f :: fs) (ha : f.action = a) :
    d.takeAction a = some (f, d.nextFirings fs) := by
  simp only [Dev.takeAction, h, List.find?_cons, ha, decide_true]
  exact Dev.takeFiring_head h ha rfl

/-! ## Dispatch (R53 to R56) -/

/-- The record of a firing, on its way to its target. -/
def Dev.launch (d : Dev) (n e cyc : Nat) : Dev :=
  { d with gau := { d.gau with
    fired := Map.put d.gau.fired e cyc
    firings := d.gau.firings ++ [⟨Word.fld (d.evt e 1) 24 4, Word.fld (d.evt e 2) 0 16, d.evt e 3, cyc, d.quality n, false, false, n⟩] } }

theorem Dev.fireEntry_repeated {d : Dev} {n e cyc : Nat} (h0 : 0 < Word.fld (d.evt e 1) 24 4) (h11 : Word.fld (d.evt e 1) 24 4 < 11)
    (h1 : Word.bit (d.evt e 1) 30 = false) : d.fireEntry n e cyc false false = d.launch n e cyc := by
  simp only [Dev.fireEntry, h1, if_neg (not_le.mpr h11), if_neg h0.ne', Bool.false_eq_true, if_false]
  rfl

/-- A one-shot entry is no longer valid once fired. -/
theorem Dev.fireEntry_oneshot {d : Dev} {n e cyc : Nat} (h0 : 0 < Word.fld (d.evt e 1) 24 4)
    (h11 : Word.fld (d.evt e 1) 24 4 < 11) (h1 : Word.bit (d.evt e 1) 30 = true) :
    (d.fireEntry n e cyc false false).gau = (d.launch n e cyc).gau ∧ Word.bit ((d.fireEntry n e cyc false false).evt e 1) 31 = false := by
  have hfire : d.fireEntry n e cyc false false =
      (if d.gau.dirty.contains e then (d.launch n e cyc).setBit (Reg.GAU_ACTIVE (4 * e + 1)) 31 false
        else ((d.launch n e cyc).setBit (Reg.GAU_ACTIVE (4 * e + 1)) 31 false).setBit (Reg.GAU_SHADOW (4 * e + 1)) 31 false) := by
    simp only [Dev.fireEntry, h1, if_neg (not_le.mpr h11), if_neg h0.ne', if_true]
    rfl
  have hbit : ((d.launch n e cyc).setBit (Reg.GAU_ACTIVE (4 * e + 1)) 31 false).bit (Reg.GAU_ACTIVE (4 * e + 1)) 31 = false :=
    Dev.bit_setBit_same _ _ _ _ (by decide)
  rw [hfire]
  split
  · exact ⟨rfl, hbit⟩
  · refine ⟨rfl, (Dev.bit_setReg_other _ 31 _ ?_).trans hbit⟩
    unfold Reg.GAU_ACTIVE Reg.GAU_SHADOW
    omega

/-- A live entry that comes due in time on a reference whose events fire. -/
theorem exec_angleEventDispatch_due {s : State} {c i : Fin 64} {n cyc : Nat} (hr : s.dev.running = true) (hc : s.dev.chanRef? c.val = some n)
    (hf : s.dev.firesOn n = true) (hv : Word.bit (s.dev.evt (64 * c.val + i.val) 1) 31 = true)
    (hd : s.dev.due n (64 * c.val + i.val) = some (cyc, false)) :
    exec (.angleEventDispatch c i) s = .next { s with dev := s.dev.fireEntry n (64 * c.val + i.val) cyc false false } := by
  refine (act_run hr).trans ?_
  simp only [hc, hf, hv, hd, Bool.and_self, if_true]
  rfl

/-- Settles O15: an event acts at its target, a due entry is launched once, and each opcode is its staging and its strobe. -/
theorem angleEventsAndOpcodesAct : Obligations.AngleEventsAndOpcodesAct := by
  unfold Obligations.AngleEventsAndOpcodesAct
  refine ⟨fun s f fs hr hfs => ⟨fun slot ha ht => ?_, fun m ha ht hen => ?_, fun ha hg => ?_, fun ha hact => ?_⟩,
    fun s c i n cyc hr hc hf => ⟨fun hv hd h0 h11 => ?_, fun hv => ?_, fun hd => ?_⟩,
    fun s m tag gen c t r hr => ⟨fun hs h => opStep_ok hr hs h, fun hs => opStep_ok hr hs rfl, fun e hs he hb h => opStep_ok hr hs ?_,
      fun hs he => opStep_ok hr hs ?_, fun hs h => opStep_ok hr hs h, fun hs h => opStep_ok hr hs h, fun hs h => opStep_ok hr hs h⟩⟩
  · refine ⟨{ s with dev := (s.dev.nextFirings fs).set64 (Reg.GAU_STAMPs (2 * slot.val)) s.dev.time }, ?_, rfl, ?_, ?_⟩
    · refine (act_run hr).trans ?_
      rw [Dev.takeFiring_head hfs ha ht]
      rfl
    · exact Dev.reg64_set64 _ _ s.dev.time_lt
    · exact ((Dev.sameRegsBut.refl s.dev _).of_rf rfl).set64 (k := Reg.GAU_STAMPs (2 * slot.val)) (by simp) (by simp)
  · have hpost : (s.dev.nextFirings fs).kindEnabled m.val 3 = true := hen
    refine ⟨{ s with dev := (s.dev.nextFirings fs).post m.val 3 f.arg.toNat }, ?_, ?_⟩
    · refine (act_run hr).trans ?_
      rw [Dev.takeFiring_head hfs ha ht]
      rfl
    · rw [Dev.post, hpost, if_pos rfl]
      exact ⟨rfl, rfl, Map.get?_put_same ..⟩
  · refine ⟨{ s with dev := (s.dev.nextFirings fs).raiseStrobe .angle f.arg 0 }, ?_, ?_⟩
    · refine (act_run hr).trans ?_
      simp [hfs, List.findIdx?_cons, ha, Dev.nextFirings]
    · rw [Dev.raiseStrobe_of_groups _ _ _ hg]
      exact ⟨rfl, rfl, ((Dev.sameRegsBut.refl s.dev _).of_rf rfl).issued (t := s.dev.nextFirings fs) (by simp)⟩
  · refine ⟨{ s with dev := (s.dev.nextFirings fs).sqSet Reg.UPD_EVT_STATUS [4] }, ?_, ?_, ?_⟩
    · refine (act_run hr).trans ?_
      rw [Dev.takeAction_head hfs ha]
      simp only [Dev.nextFirings, hact, Bool.false_eq_true, if_false]
    · exact Dev.bit_sqSet_mem _ _ (by decide) (by decide)
    · exact ((Dev.sameRegsBut.refl s.dev _).of_rf (u := s.dev.nextFirings fs) rfl).setReg (by simp)
  · refine ⟨_, exec_angleEventDispatch_due hr hc hf hv hd, ?_⟩
    cases h1 : Word.bit (s.dev.evt (64 * c.val + i.val) 1) 30 with
    | true =>
      obtain ⟨hgau, hbit⟩ := Dev.fireEntry_oneshot (n := n) (cyc := cyc) h0 h11 h1
      rw [hgau]
      exact ⟨rfl, Map.get?_put_same .., fun _ => hbit, fun h => absurd h (by decide)⟩
    | false =>
      rw [Dev.fireEntry_repeated h0 h11 h1]
      exact ⟨rfl, Map.get?_put_same .., fun h => absurd h (by decide), fun _ => rfl⟩
  · refine (act_run hr).trans ?_
    simp only [hc, hv, Bool.and_false, Bool.false_eq_true, if_false]
  · refine (act_run hr).trans ?_
    simp only [hc, hd]
    split <;> rfl
  · simp only [runAngleEventAdd, he, hb, if_true]
    exact h
  · simp only [runAngleEventAdd, he]
    rfl

end Sys2Proof.Machine
end

section
/-! PROOFS. O17: energy windows, refused units, GSTRESS and heat (R62 to R77; log entry 11). -/

namespace Sys2Proof.Machine

/-- A row of a part that works from device reset on acts while the device is neither halted nor in reset nor without power. -/
theorem actOn_run {f : Dev → Dev} {s : State} (hh : s.dev.halted = false) (hr : s.dev.pins.rstLow = false) (hp : s.dev.pins.pgLow = []) :
    actOn f s = .next { s with dev := f s.dev } := by
  simp [actOn, actAlways, State.onDev, hh, hr, hp]

theorem Dev.not_halted_of_running {d : Dev} (h : d.running = true) : d.halted = false ∧ d.pins.rstLow = false := by
  simp only [Dev.running, Bool.and_eq_true, Bool.not_eq_true'] at h
  exact ⟨h.1.1.2, h.2⟩

/-! ## What the caps, the level and the base energy read -/

theorem Dev.effectiveCap_congr {d t : Dev} (hlevel : t.ebs.level = d.ebs.level)
    (hreg : ∀ k ∈ [Reg.EBS_CAP_HOST, Reg.EBS_CAP_BMC, Reg.EBS_TEMP, Reg.EBS_THERMAL_CTRL, Reg.EBS_GSTRESS_L1, Reg.EBS_GSTRESS_L2,
      Reg.EBS_GSTRESS_L3], t.reg k = d.reg k) : t.effectiveCap = d.effectiveCap := by
  simp only [List.forall_mem_cons, List.not_mem_nil, IsEmpty.forall_iff, implies_true, and_true] at hreg
  obtain ⟨hhost, hbmc, htemp, hctrl, h1, h2, h3⟩ := hreg
  have hheat : t.thermalCap = d.thermalCap := by
    unfold Dev.thermalCap Dev.temp Dev.fld; rw [htemp, hctrl]
  have hstress : t.stressCap = d.stressCap := by
    unfold Dev.stressCap Dev.fld; rw [hlevel, h1, h2, h3]
  unfold Dev.effectiveCap Dev.fld
  rw [hheat, hstress, hhost, hbmc]

theorem Dev.baseCost_congr {d t : Dev} (hreg : ∀ k ∈ [Reg.EBS_ETAB_FIXED0, Reg.EBS_ETAB_VAR0, Reg.EBS_TEMP], t.reg k = d.reg k) :
    t.baseCost = d.baseCost := by
  simp only [List.forall_mem_cons, List.not_mem_nil, IsEmpty.forall_iff, implies_true, and_true] at hreg
  obtain ⟨hfix, hvar, htemp⟩ := hreg
  simp only [Dev.baseCost, Dev.etab, Dev.temp, Dev.fld, Dev.regN, Nat.mul_zero, Nat.add_zero, hfix, hvar, htemp]

theorem Dev.levelTarget_congr {d t : Dev} (hreg : t.reg Reg.EBS_GSTRESS_CTRL = d.reg Reg.EBS_GSTRESS_CTRL)
    (hacc : t.ebs.accepted = d.ebs.accepted) : t.levelTarget = d.levelTarget := by
  unfold Dev.levelTarget Dev.bit Dev.fld
  rw [hreg, hacc]

/-! ## A window starts (R62, R65, R73) -/

theorem Dev.windowEnd_keeps (d : Dev) : d.windowEnd.ebs = d.ebs ∧ d.sameRegsBut d.windowEnd [Reg.EBS_STATUS, Reg.EBS_COUNTS 2] := by
  unfold Dev.windowEnd
  split
  · exact ⟨rfl, ((Dev.sameRegsBut.refl d _).setReg (by simp)).setReg (by simp)⟩
  · exact ⟨rfl, .refl d _⟩

/-- The level of the window that begins, where it changes. -/
def Dev.takeLevel (d : Dev) : Dev :=
  { (d.setFld Reg.EBS_GSTRESS_CTRL 6 2 d.levelTarget).sqSet Reg.EBS_STATUS [2] with ebs := { d.ebs with level := d.levelTarget } }

theorem Dev.windowLevel_eq (d : Dev) : d.windowLevel = if d.levelTarget = d.ebs.level then d else d.takeLevel := rfl

theorem Dev.windowLevel_keeps (d : Dev) : d.windowLevel.ebs = { d.ebs with level := d.levelTarget } ∧
    d.sameRegsBut d.windowLevel [Reg.EBS_STATUS, Reg.EBS_GSTRESS_CTRL] := by
  rw [Dev.windowLevel_eq]
  split
  · next h => exact ⟨by rw [h], .refl d _⟩
  · exact ⟨rfl, (((Dev.sameRegsBut.refl d _).setReg (by simp)).setReg (k := Reg.EBS_STATUS) (by simp)).of_rf rfl⟩

theorem Dev.windowCap_keeps (d : Dev) : d.windowCap.1 = d.effectiveCap.1 ∧ d.windowCap.2.ebs = d.ebs ∧
    d.sameRegsBut d.windowCap.2 [Reg.EBS_STATUS, Reg.EBS_CAP_STATUS] := by
  have hset : d.sameRegsBut (d.setN Reg.EBS_CAP_STATUS (d.effectiveCap.1 * 65536 + d.effectiveCap.2)) [Reg.EBS_STATUS, Reg.EBS_CAP_STATUS] :=
    (Dev.sameRegsBut.refl d _).setReg (by simp)
  refine ⟨rfl, ?_⟩
  simp only [Dev.windowCap]
  split
  · exact ⟨rfl, hset.setReg (by simp)⟩
  · exact ⟨rfl, hset⟩

/-- The registers a window start writes before its budget. -/
def windowRegs : List Nat := [Reg.EBS_STATUS, Reg.EBS_COUNTS 2, Reg.EBS_GSTRESS_CTRL, Reg.EBS_CAP_STATUS]

/-- A device up to its window's cap. -/
def Dev.windowHead (d : Dev) : Dev := d.windowEnd.windowLevel.windowCap.2

theorem Dev.windowHead_regs (d : Dev) : d.sameRegsBut d.windowHead windowRegs :=
  (d.windowEnd_keeps.2.mono (by decide)).trans ((d.windowEnd.windowLevel_keeps.2.mono (by decide)).trans
    (d.windowEnd.windowLevel.windowCap_keeps.2.2.mono (by decide)))

theorem Dev.windowHead_ebs (d : Dev) : d.windowHead.ebs = { d.ebs with level := d.levelTarget } := by
  have hlevel : d.windowEnd.levelTarget = d.levelTarget :=
    Dev.levelTarget_congr (d.windowEnd_keeps.2 _ (by decide)) (by rw [d.windowEnd_keeps.1])
  rw [Dev.windowHead, d.windowEnd.windowLevel.windowCap_keeps.2.1, d.windowEnd.windowLevel_keeps.1, d.windowEnd_keeps.1, hlevel]

/-- Energy added to an owner's counter changes, of the EBS, the accumulators alone. -/
theorem Dev.addEnergy_ebs (d : Dev) (own : Option Nat) (pj : Nat) : ∃ a, (d.addEnergy own pj).ebs = { d.ebs with accum := a } := ⟨_, rfl⟩

/-- Energy added to an owner's counter changes its two words alone. -/
theorem Dev.sameRegsBut_addEnergy (d : Dev) (own : Option Nat) (pj : Nat) :
    d.sameRegsBut (d.addEnergy own pj) [energyReg own, energyReg own + 4] := by
  obtain ⟨n, hn⟩ : ∃ n, (d.addEnergy own pj).rf = (d.count64 (energyReg own) n).rf := ⟨_, rfl⟩
  exact ((Dev.sameRegsBut.refl d _).set64 (k := energyReg own) (by simp) (by simp)).of_rf hn

/-- A window of a budget: debt and base energy taken off, nothing of class 3 spent. -/
def Dev.openWindow (d : Dev) (b base : Nat) : Dev :=
  ({ d with ebs := { d.ebs.shift with budget := b, room := (b : Int) - (Nat.min (-d.ebs.room).toNat b : Nat) - base, class3 := 0,
                                      tripHold := d.bit Reg.EBS_THERMAL_TRIP 0 } } : Dev).addEnergy none base

/-- A debt beyond a whole budget is counted (R65). -/
def Dev.countDebt (d : Dev) (b : Nat) : Dev := if b < (-d.ebs.room).toNat then d.count (Reg.EBS_COUNTS 1) 1 else d

theorem Dev.windowBudget_eq (d : Dev) (cap : Nat) : d.windowBudget cap =
    (d.countDebt (cap * 1000000)).openWindow (cap * 1000000) (d.countDebt (cap * 1000000)).baseCost := by
  unfold Dev.windowBudget Dev.countDebt Dev.openWindow
  generalize cap * 1000000 = b
  by_cases h : b < (-d.ebs.room).toNat
  · simp only [if_pos h]; rfl
  · simp only [if_neg h]

theorem Dev.countDebt_keeps (d : Dev) (b : Nat) : (d.countDebt b).ebs = d.ebs ∧ d.sameRegsBut (d.countDebt b) [Reg.EBS_COUNTS 1] := by
  unfold Dev.countDebt
  split
  · exact ⟨rfl, (Dev.sameRegsBut.refl d _).setReg (by simp)⟩
  · exact ⟨rfl, .refl d _⟩

theorem Dev.openWindow_ebs (d : Dev) (b base : Nat) : ∃ a, (d.openWindow b base).ebs = { d.ebs.shift with
    budget := b, room := (b : Int) - (Nat.min (-d.ebs.room).toNat b : Nat) - base, class3 := 0
    tripHold := d.bit Reg.EBS_THERMAL_TRIP 0, accum := a } := Dev.addEnergy_ebs ..

theorem Dev.openWindow_window (d : Dev) (b base : Nat) : (d.openWindow b base).reg Reg.EBS_WINDOW = d.reg Reg.EBS_WINDOW :=
  Dev.sameRegsBut_addEnergy _ none base _ (by decide)

/-- The budget of a window in terms of the device before it. -/
theorem Dev.windowBudget_ebs (d : Dev) (cap : Nat) : ∃ a, (d.windowBudget cap).ebs = { d.ebs.shift with
    budget := cap * 1000000
    room := ((cap * 1000000 : Nat) : Int) - (Nat.min (-d.ebs.room).toNat (cap * 1000000) : Nat) - d.baseCost
    class3 := 0, tripHold := d.bit Reg.EBS_THERMAL_TRIP 0, accum := a } := by
  rw [Dev.windowBudget_eq]
  generalize cap * 1000000 = b
  obtain ⟨hebs, hregs⟩ := d.countDebt_keeps b
  have hbase : (d.countDebt b).baseCost = d.baseCost :=
    Dev.baseCost_congr fun k hk => hregs k fun hm => absurd hm (by revert k; decide)
  obtain ⟨a, ha⟩ := (d.countDebt b).openWindow_ebs b (d.countDebt b).baseCost
  rw [hbase] at ha ⊢
  rw [hebs, Dev.bit, hregs _ (by decide)] at ha
  exact ⟨a, ha⟩

theorem Dev.windowBudget_window (d : Dev) (cap : Nat) : (d.windowBudget cap).reg Reg.EBS_WINDOW = d.reg Reg.EBS_WINDOW := by
  rw [Dev.windowBudget_eq, Dev.openWindow_window]
  exact (d.countDebt_keeps _).2 _ (by decide)

theorem exec_windowStart {s : State} (hh : s.dev.halted = false) (hr : s.dev.pins.rstLow = false) (hp : s.dev.pins.pgLow = []) :
    exec .windowStart s = .next { s with dev :=
      (s.dev.windowHead.windowBudget s.dev.windowEnd.windowLevel.windowCap.1).inc Reg.EBS_WINDOW } := by
  refine (actOn_run hh hr hp).trans ?_
  unfold Dev.windowHead
  generalize s.dev.windowEnd.windowLevel.windowCap = w
  rfl

/-! ## A refused unit (R64) -/

theorem Dev.waitingUnit_dropWaiting (d : Dev) (p : Point) (u : Nat) : (d.dropWaiting p u).waitingUnit p u = none := by
  simp only [Dev.waitingUnit, Dev.dropWaiting, List.find?_eq_none]
  intro w hw h
  have hn := (List.mem_filter.mp hw).2
  rw [h] at hn
  cases hn

/-- The window's account once a unit is charged to it. -/
def Ebs.charged (e : Ebs) (cls pj : Nat) (own : Option Nat) : Ebs :=
  let e := { e with room := e.room - pj, class3 := if cls = 3 then e.class3 + pj else e.class3 }
  match own with
  | some s => if 2 ≤ cls then { e with sliceNow := Map.put e.sliceNow s (Map.getD e.sliceNow s 0 + pj) } else e
  | none => e

theorem Ebs.charged_keeps (e : Ebs) (cls pj : Nat) (own : Option Nat) : (e.charged cls pj own).waiting = e.waiting ∧
    (e.charged cls pj own).granted = e.granted ∧ (e.charged cls pj own).room = e.room - pj := by
  cases own with
  | none => exact ⟨rfl, rfl, rfl⟩
  | some sl =>
    simp only [Ebs.charged]
    split <;> exact ⟨rfl, rfl, rfl⟩

theorem Dev.charge_eq (d : Dev) (cls pj : Nat) (own : Option Nat) :
    d.charge cls pj own = ({ d with ebs := d.ebs.charged cls pj own } : Dev).addEnergy own pj := by
  cases own <;> rfl

/-- A charge takes its cost off the window's room, and leaves the lists of waiting and granted units. -/
theorem Dev.charge_ebs (d : Dev) (cls pj : Nat) (own : Option Nat) : (d.charge cls pj own).ebs.waiting = d.ebs.waiting ∧
    (d.charge cls pj own).ebs.granted = d.ebs.granted ∧ (d.charge cls pj own).ebs.room = d.ebs.room - pj := by
  rw [Dev.charge_eq]
  obtain ⟨a, ha⟩ := Dev.addEnergy_ebs { d with ebs := Ebs.charged d.ebs cls pj own } own pj
  rw [ha]
  exact Ebs.charged_keeps d.ebs cls pj own

/-! ## Heat (R75 to R77) -/

theorem hottest_one (r : BitVec 16) : hottest [r] = some r := rfl

/-- A trip or its end: the trip register and the event of its rise. -/
theorem Dev.trip_regs (d : Dev) (t : Int) : d.sameRegsBut (d.trip t) [Reg.EBS_THERMAL_TRIP, Reg.GLB_EVT_STATUS] := by
  simp only [Dev.trip]
  split
  · exact ((Dev.sameRegsBut.refl d _).hcSet 0 true 0 (by simp) (by simp)).of_rf rfl
  · split
    · exact (Dev.sameRegsBut.refl d _).hcSet 0 false 0 (by simp) (by simp)
    · exact .refl d _

theorem Dev.ebs_post (d : Dev) (m kind info : Nat) : (d.post m kind info).ebs = d.ebs := by
  unfold Dev.post; split <;> rfl

theorem Dev.ebs_postAll (ms : List Nat) (kind info : Nat) (d : Dev) : (d.postAll ms kind info).ebs = d.ebs := by
  induction ms generalizing d with
  | nil => rfl
  | cons m ms ih => exact (ih (d.post m kind info)).trans (d.ebs_post m kind info)

theorem Dev.ebs_hcSet (d : Dev) (k i : Nat) (b : Bool) (ev : Nat) : (d.hcSet k i b ev).ebs = d.ebs := by
  simp only [Dev.hcSet]
  split
  · exact Dev.ebs_postAll ..
  · rfl

theorem Dev.hotRun_trip (d : Dev) (t : Int) : (d.trip t).ebs.hotRun = d.ebs.hotRun := by
  simp only [Dev.trip]
  split
  · rfl
  · split
    · rw [Dev.ebs_hcSet]
    · rfl

/-- A reading at or above the trip point trips. -/
theorem Dev.trip_hot {d : Dev} {t : Int} (h : 4 * (d.fld Reg.EBS_THERMAL_CTRL 8 8 : Int) ≤ t) :
    (d.trip t).bit Reg.EBS_THERMAL_TRIP 0 = true ∧ (d.trip t).ebs.tripHold = true := by
  simp only [Dev.trip, if_pos h]
  exact ⟨Dev.bit_hcSet d true 0 (by decide) (by decide), trivial⟩

/-- One more than 5 degrees below it clears the trip. -/
theorem Dev.trip_cool {d : Dev} {t : Int} (h : t < 4 * (d.fld Reg.EBS_THERMAL_CTRL 8 8 : Int) - 20) :
    (d.trip t).bit Reg.EBS_THERMAL_TRIP 0 = false := by
  simp only [Dev.trip, if_neg (show ¬ 4 * (d.fld Reg.EBS_THERMAL_CTRL 8 8 : Int) ≤ t by omega), if_pos h]
  exact Dev.bit_hcSet d false 0 (by decide) (by decide)

/-- A device that takes a reading, before it judges how many run at 125 degrees. -/
def Dev.readTemp (d : Dev) (r : BitVec 16) : Dev :=
  let d' := (d.setFld Reg.EBS_TEMP 0 16 r.toNat).trip r.toInt
  if d.thermalCap.isNone && d'.thermalCap.isSome then d'.sqSet Reg.EBS_STATUS [3] else d'

theorem Dev.readTemp_trip (d : Dev) (r : BitVec 16) : (d.readTemp r).ebs = ((d.setFld Reg.EBS_TEMP 0 16 r.toNat).trip r.toInt).ebs ∧
    ((d.setFld Reg.EBS_TEMP 0 16 r.toNat).trip r.toInt).sameRegsBut (d.readTemp r) [Reg.EBS_STATUS] := by
  simp only [Dev.readTemp]
  split
  · exact ⟨rfl, (Dev.sameRegsBut.refl _ _).setReg (by simp)⟩
  · exact ⟨rfl, .refl _ _⟩

theorem exec_tempReading_one {s : State} {r : BitVec 16} (hr : s.dev.running = true) (hp : s.dev.pins.pgLow = []) :
    exec (.tempReading [r]) s = .next { s with dev :=
      (let run := if 500 ≤ r.toInt then (s.dev.readTemp r).ebs.hotRun + 1 else 0
       let d : Dev := { s.dev.readTemp r with ebs := { (s.dev.readTemp r).ebs with hotRun := run } }
       if 2 ≤ run then d.halt { faultRec 4 5 18 0 with data := [s.dev.reg Reg.EBS_TEMP, wd r.toNat] } else d) } := by
  obtain ⟨hh, hl⟩ := Dev.not_halted_of_running hr
  exact actOn_run hh hl hp

/-- A device that halts is halted (R488). -/
theorem Dev.halted_halt (d : Dev) (r : FaultRec) : (d.halt r).halted = true := by
  unfold Dev.halt
  split
  · assumption
  · exact (Dev.bit_setReg_other _ 0 _ (by decide)).trans (Dev.bit_hcSet _ true 5 (by decide) (by decide))

/-- Settles O17: a window's budget, the units it admits, and what GSTRESS and heat show. -/
theorem energyWindowsAdmitUnits : Obligations.EnergyWindowsAdmitUnits := by
  unfold Obligations.EnergyWindowsAdmitUnits
  refine ⟨fun s hh hr hp => ?_, fun s p u w hh hr hp hw => ⟨fun hno => ?_, fun hyes hpt => ?_⟩,
    fun s hr hp => ⟨fun l => ?_, act_run hr, fun r hcool => ?_, fun r hhot hrun => ?_⟩⟩
  · have hregs := s.dev.windowHead_regs
    have hebs := s.dev.windowHead_ebs
    obtain ⟨a, hbud⟩ := s.dev.windowHead.windowBudget_ebs s.dev.windowEnd.windowLevel.windowCap.1
    refine ⟨_, exec_windowStart hh hr hp, ?_, ?_, ?_, ?_, fun hlevel => ?_⟩
    · exact (congrArg Ebs.level hbud).trans (by rw [hebs]; rfl)
    · exact congrArg Ebs.class3 hbud
    · exact (congrArg Ebs.tripHold hbud).trans (congrArg (Word.bit · 0) (hregs _ (by decide)))
    · refine (Dev.reg_setReg_same ..).trans ?_
      rw [Dev.windowBudget_window, hregs _ (by decide)]
    · have hend := s.dev.windowEnd_keeps
      have hlev := s.dev.windowEnd.windowLevel_keeps
      have hcap : s.dev.windowEnd.windowLevel.windowCap.1 = s.dev.effectiveCap.1 := by
        rw [s.dev.windowEnd.windowLevel.windowCap_keeps.1]
        refine congrArg Prod.fst (Dev.effectiveCap_congr ?_ fun k hk => (hlev.2 k ?_).trans (hend.2 k ?_))
        · rw [hlev.1, hend.1, Dev.levelTarget_congr (hend.2 _ (by decide)) (by rw [hend.1])]
          exact hlevel
        · exact fun hm => absurd hm (by revert k; decide)
        · exact fun hm => absurd hm (by revert k; decide)
      have hbase : s.dev.windowHead.baseCost = s.dev.baseCost :=
        Dev.baseCost_congr fun k hk => hregs k fun hm => absurd hm (by revert k; decide)
      rw [hbase, hebs] at hbud
      rw [hcap] at hbud ⊢
      generalize s.dev.effectiveCap.1 * 1000000 = b at hbud ⊢
      exact ⟨congrArg Ebs.budget hbud, congrArg Ebs.room hbud⟩
  · refine (actOn_run hh hr hp).trans ?_
    simp only [hw, hno, Bool.false_eq_true, if_false]
  · obtain ⟨hwait, hgrant, hroom⟩ := (s.dev.dropWaiting p u).charge_ebs (s.dev.offeredClass w.cls w.slice) w.cost w.slice
    generalize ht : (s.dev.dropWaiting p u).charge (s.dev.offeredClass w.cls w.slice) w.cost w.slice = t at hwait hgrant hroom
    refine ⟨{ s with dev := { t with ebs := { t.ebs with granted := t.ebs.granted ++ [(p, u)] } } }, ?_, ?_, ?_, ?_⟩
    · refine (actOn_run hh hr hp).trans ?_
      simp only [hw, hyes, if_true, ht, Dev.engagePoint, if_neg hpt]
    · exact (congrArg (List.find? fun w : Waiting => decide (w.point = p ∧ w.unit = u)) hwait).trans (s.dev.waitingUnit_dropWaiting p u)
    · exact congrArg (· ++ [(p, u)]) hgrant
    · exact hroom
  · refine ⟨_, act_run hr, ?_, rfl, rfl, ((Dev.sameRegsBut.refl s.dev _).setReg (k := Reg.EBS_GSTRESS_CTRL) (by simp)).of_rf rfl⟩
    exact (Dev.fld_setFld_same s.dev _ _ _ _ (by decide)).trans (Nat.mod_eq_of_lt l.isLt)
  · obtain ⟨hebs, hregs⟩ := s.dev.readTemp_trip r
    have htrip := (s.dev.setFld Reg.EBS_TEMP 0 16 r.toNat).trip_regs r.toInt
    have hpoint : (s.dev.setFld Reg.EBS_TEMP 0 16 r.toNat).fld Reg.EBS_THERMAL_CTRL 8 8 = s.dev.fld Reg.EBS_THERMAL_CTRL 8 8 :=
      Dev.fld_setReg_other _ 8 8 _ (by decide)
    have hbit : (s.dev.readTemp r).bit Reg.EBS_THERMAL_TRIP 0 =
        ((s.dev.setFld Reg.EBS_TEMP 0 16 r.toNat).trip r.toInt).bit Reg.EBS_THERMAL_TRIP 0 := congrArg (Word.bit · 0) (hregs _ (by decide))
    refine ⟨_, exec_tempReading_one hr hp, ?_⟩
    simp only [if_neg (show ¬ 500 ≤ r.toInt by omega), if_neg (show ¬ 2 ≤ 0 by omega)]
    refine ⟨?_, trivial, fun h => ?_, fun h => ?_⟩
    · refine (congrArg (Word.fld · 0 16) ((hregs _ (by decide)).trans (htrip _ (by decide)))).trans ?_
      exact (Dev.fld_setFld_same s.dev _ _ _ _ (by decide)).trans (Nat.mod_eq_of_lt r.isLt)
    · obtain ⟨hb, hh⟩ := Dev.trip_hot (hpoint ▸ h)
      exact ⟨hbit.trans hb, (congrArg Ebs.tripHold hebs).trans hh⟩
    · exact hbit.trans (Dev.trip_cool (hpoint ▸ h))
  · have hrun' : (s.dev.readTemp r).ebs.hotRun = s.dev.ebs.hotRun := by
      rw [(s.dev.readTemp_trip r).1, Dev.hotRun_trip]; rfl
    refine ⟨_, exec_tempReading_one hr hp, ?_⟩
    simp only [if_pos hhot, hrun', if_pos (show 2 ≤ s.dev.ebs.hotRun + 1 by omega)]
    exact Dev.halted_halt _ _

end Sys2Proof.Machine
end

section
/-! PROOFS. O18: the energy and the ageing opcodes (R71, R72, R80, R84, R88, R92, R93, R549; log entries 54 and 55). -/

namespace Sys2Proof

/-! ## Words of a list in parts -/

theorem wordAt_append_left {ws : List Word} (vs : List Word) {i : Nat} (h : i < ws.length) : wordAt (ws ++ vs) i = wordAt ws i := by
  rw [wordAt, List.getElem?_append_left h, wordAt]

theorem wordAt_append_right {ws : List Word} (vs : List Word) {i : Nat} (h : ws.length ≤ i) : wordAt (ws ++ vs) i = wordAt vs (i - ws.length) := by
  rw [wordAt, List.getElem?_append_right h, wordAt]

theorem wordAt_map_range (f : Nat → Word) {n i : Nat} (h : i < n) : wordAt ((List.range n).map f) i = f i := by
  simp [wordAt, h]

end Sys2Proof

namespace Sys2Proof.Machine

/-! ## Answers -/

/-- An opcode that answers and changes no register and no record. -/
theorem exec_answered {s : State} {op m tag gen : Nat} {f : Cmd → Dev → Dev × Option Res} {c : Cmd} {d : Dev} {status : Nat} {data : List Word}
    (hr : s.dev.running = true) (hs : s.dev.started m tag gen op c) (hf : f c s.dev = (d, some ⟨status, data, false⟩)) (hcmd : d.cmd = s.dev.cmd) :
    ∃ t, opStep op f m tag gen s = .next t ∧ t.dev.rf = d.rf ∧ t.dev.finished m tag gen status data := by
  have hc : d.cmd? m tag gen = some c := by rw [Dev.cmd?, hcmd]; exact hs.1
  exact ⟨_, opStep_ok hr hs hf, rfl, Dev.finished_finish hc status data⟩

/-! ## A plan that becomes pending (R84, R87, R88) -/

theorem version_sealPlan (version basis hours : Nat) (fields : List Word) : wordAt (sealPlan version basis hours fields) 1 = wd version := rfl

theorem Dev.version_makePlan (d : Dev) (before want : List Word) (basis : Nat) :
    wordAt (d.makePlan before want basis).1 1 = wd (d.age.lastVersion + 1) := version_sealPlan ..

theorem Dev.cmds_post (d : Dev) (m kind info : Nat) : (d.post m kind info).cmd.cmds = d.cmd.cmds := by
  unfold Dev.post; split <;> rfl

theorem Dev.cmds_postAll (ms : List Nat) (kind info : Nat) (d : Dev) : (d.postAll ms kind info).cmd.cmds = d.cmd.cmds := by
  induction ms generalizing d with
  | nil => rfl
  | cons m ms ih => exact (ih (d.post m kind info)).trans (d.cmds_post m kind info)

theorem Dev.cmd_setRegs (ws : List Word) (d : Dev) (k : Nat) : (d.setRegs k ws).cmd = d.cmd := by
  induction ws generalizing d k with
  | nil => rfl
  | cons w ws ih => exact ih _ _

theorem Dev.cmds_planPending (d : Dev) (p : List Word) (bound dead : Bool) (clocks : Nat) :
    (d.planPending p bound dead clocks).cmd.cmds = d.cmd.cmds :=
  (Dev.cmds_postAll ..).trans (congrArg _ (Dev.cmd_setRegs p d (Reg.AGE_PLAN_PEND 0)))

theorem Dev.version_planPending (d : Dev) (p : List Word) (bound dead : Bool) (clocks : Nat) :
    (d.planPending p bound dead clocks).reg Reg.AGE_PENDING_VERSION = wordAt p 1 := by
  refine (Dev.reg_congr (Dev.rf_postAll ..) _).trans ((Dev.reg_setReg_other _ _ (by decide)).trans ((Dev.reg_setReg_same ..).trans ?_))
  exact BitVec.ofNat_toNat ..

/-- The parts of the ageing report (R92). -/
def Dev.ageReport (d : Dev) (mean lo hi left w flags : Word) : List Word :=
  [d.reg Reg.AGE_PLAN_VERSION, wd d.age.basis, d.reg Reg.AGE_POWERED_HOURS, mean] ++
  (List.range 33).map (fun b => wd (Map.getD d.age.bins b 0)) ++ (List.range 128).map (fun m => wd (d.fld (Reg.AGE_MONm m) 16 16)) ++
  [d.reg Reg.AGE_LIFE_H, lo, hi, left, w, flags]

theorem runAgeReport_eq (c : Cmd) (d : Dev) : ∃ n mean lo hi left w flags,
    runAgeReport c d = ({ d with freeCtr := n }, some (Res.ok (d.ageReport mean lo hi left w flags))) :=
  ⟨_, _, _, _, _, _, _, rfl⟩

theorem Dev.wordAt_ageReport_bins (d : Dev) {mean lo hi left w flags : Word} {i : Nat} (h : i < 33) :
    wordAt (d.ageReport mean lo hi left w flags) (4 + i) = wd (Map.getD d.age.bins i 0) := by
  rw [Dev.ageReport, wordAt_append_left _ (by simp; omega), wordAt_append_left _ (by simp; omega), wordAt_append_right _ (by simp)]
  exact (congrArg _ (by simp)).trans (wordAt_map_range (fun b => wd (Map.getD d.age.bins b 0)) h)

theorem Dev.wordAt_ageReport_wear (d : Dev) {mean lo hi left w flags : Word} {i : Nat} (h : i < 128) :
    wordAt (d.ageReport mean lo hi left w flags) (37 + i) = wd (d.fld (Reg.AGE_MONm i) 16 16) := by
  rw [Dev.ageReport, wordAt_append_left _ (by simp; omega), wordAt_append_right _ (by simp)]
  exact (congrArg _ (by simp)).trans (wordAt_map_range (fun m => wd (d.fld (Reg.AGE_MONm m) 16 16)) h)

theorem Dev.wordAt_ageReport_life (d : Dev) {mean lo hi left w flags : Word} :
    wordAt (d.ageReport mean lo hi left w flags) 165 = d.reg Reg.AGE_LIFE_H := by
  rw [Dev.ageReport, wordAt_append_right _ (by simp)]
  exact (congrArg _ (by simp)).trans (wordAt_cons_zero ..)

/-- An opcode's result where registers it names may have been changed by expert control (R10). -/
theorem Dev.finished_touching {d : Dev} {m tag gen : Nat} {c : Cmd} (h : d.cmd? m tag gen = some c) (data : List Word) (ks : List Nat) :
    (d.finish m tag gen ((Res.ok data).touching d ks)).finished m tag gen stOK data ∨
    (d.finish m tag gen ((Res.ok data).touching d ks)).finished m tag gen stExpert data ∧ d.anyExpert ks = true := by
  have hfin := d.cmd?_finish m tag gen ((Res.ok data).touching d ks) c h
  cases hx : d.anyExpert ks with
  | false => exact .inl ⟨_, hfin, rfl, by simp [Res.touching, Res.ok, hx], rfl⟩
  | true => exact .inr ⟨⟨_, hfin, rfl, by simp [Res.touching, Res.ok, hx], rfl⟩, rfl⟩

/-- Settles O18: each opcode is its staging and its strobe, or the words it answers. -/
theorem energyAndAgeingOpcodesAct : Obligations.EnergyAndAgeingOpcodesAct := by
  unfold Obligations.EnergyAndAgeingOpcodesAct
  refine ⟨fun s m tag gen c t r hr => ⟨fun hs h => opStep_ok hr hs h, fun hs => ?_, fun hs => opStep_ok hr hs rfl,
    fun hs h => opStep_ok hr hs h, fun hs hb h => opStep_ok hr hs ?_, fun hs hsum => opStep_ok hr hs ?_, fun hs h => opStep_ok hr hs h,
    fun hs => ?_⟩, fun s m tag gen c hr => ⟨fun hs => ?_, fun hs hp => opStep_ok hr hs ?_, fun hs hp => ?_,
    fun hs hb hp => opStep_ok hr hs ?_, fun hs hv => opStep_ok hr hs ?_, fun want hs => ⟨fun hsame => opStep_ok hr hs ?_, fun hnew => ?_⟩⟩⟩
  · obtain ⟨u, hrun, hrf, hfin⟩ := exec_answered (f := runEnergyStatus) hr hs rfl rfl
    exact ⟨u, _, hrun, hfin, rfl, rfl, rfl, rfl, rfl, rfl, hrf⟩
  · rw [runEnergyClassSet, hb, if_neg Bool.false_ne_true]
    exact h
  · have hb : energyClassSetBad c s.dev = true := by simp [energyClassSetBad, hsum]
    rw [runEnergyClassSet, hb, if_pos rfl]
    rfl
  · exact ⟨_, opStep_ok hr hs rfl, rfl, Dev.finished_touching hs.1 _ _⟩
  · obtain ⟨n, mean, lo, hi, left, w, flags, hrep⟩ := runAgeReport_eq c s.dev
    obtain ⟨t, hrun, hrf, hfin⟩ := exec_answered (f := runAgeReport) hr hs hrep rfl
    exact ⟨t, _, hrun, hfin, by simp [Dev.ageReport], rfl, rfl, fun i h => s.dev.wordAt_ageReport_bins h,
      fun i h => s.dev.wordAt_ageReport_wear h, s.dev.wordAt_ageReport_life, hrf⟩
  · rw [runAgePlanRead, hp]
    rfl
  · have hread : ∃ d data, runAgePlanRead c s.dev = (d, some ⟨stOK, s.dev.planPend ++ data, false⟩) ∧ d.cmd = s.dev.cmd ∧ data.length = 3 := by
      rw [runAgePlanRead, hp]
      exact ⟨_, _, rfl, rfl, rfl⟩
    obtain ⟨d, data, hf, hcmd, hlen⟩ := hread
    have hpend : s.dev.planPend.length = 64 := by simp [Dev.planPend, Dev.regs]
    obtain ⟨t, hrun, -, hfin⟩ := exec_answered hr hs hf hcmd
    exact ⟨t, _, hrun, hfin, by simp [hpend, hlen], by rw [← hpend, List.take_left]⟩
  · rw [runAgePlanSchedule, hb, if_neg Bool.false_ne_true]
    simp only [hp, if_neg (show ¬ 0 = 1 by decide), answer]
  · have hb : agePlanScheduleBad c s.dev = true := by simp [agePlanScheduleBad, hv]
    rw [runAgePlanSchedule, hb, if_pos rfl]
    rfl
  · simp only [runAgeReplanNow, if_pos hsame]
    rfl
  · have hver := s.dev.version_makePlan s.dev.planCur want 3
    generalize hp : s.dev.makePlan s.dev.planCur want 3 = p at hnew hver
    have hf : runAgeReplanNow want c s.dev = (s.dev.planPending p.1 p.2.1 p.2.2 s.dev.planDelay,
        some ⟨stOK, [wordAt p.1 1], false⟩) := by
      simp only [runAgeReplanNow, hp, if_neg hnew]
      rw [Dev.version_planPending]
      rfl
    have hc : (s.dev.planPending p.1 p.2.1 p.2.2 s.dev.planDelay).cmd? m.val tag.val gen.val = some c := by
      rw [Dev.cmd?, Dev.cmds_planPending]; exact hs.1
    have hword : wordAt p.1 1 = wd ((s.dev.age.lastVersion + 1) % 2 ^ 32) := by
      rw [hver]
      exact BitVec.eq_of_toNat_eq (by simp [wd])
    refine ⟨_, opStep_ok hr hs hf, ?_, ?_⟩
    · rw [← hword]; exact Dev.finished_finish hc _ _
    · refine (congrArg BitVec.toNat (Dev.version_planPending ..)).trans ?_
      rw [hver]; exact BitVec.toNat_ofNat ..

end Sys2Proof.Machine
end

section
/-! PROOFS. O19: monitors, ageing records, re-plans, plans that apply, voltage writes (R82 to R89, R538; log entries 54 and 55). -/

namespace Sys2Proof.Machine

theorem length_padTo (n : Nat) (ws : List Word) : (padTo n ws).length = n := by
  simp [padTo]; omega

theorem wordAt_padTo {n : Nat} (ws : List Word) {i : Nat} (h : i < n) : wordAt (padTo n ws) i = wordAt ws i := by
  rw [padTo, wordAt_take h, wordAt_append_zeros]

/-! ## Words written from a register on -/

theorem Dev.reg_setRegs_other (ws : List Word) (d : Dev) (b : Nat) {k : Nat} (hk : k < b ∨ b + 4 * ws.length ≤ k) :
    (d.setRegs b ws).reg k = d.reg k := by
  induction ws generalizing d b with
  | nil => rfl
  | cons w ws ih =>
    simp only [List.length_cons] at hk
    exact (ih (d.setReg b w) (b + 4) (by omega)).trans (Dev.reg_setReg_other d w (by omega))

theorem Dev.reg_setRegs (ws : List Word) (d : Dev) (b : Nat) {i : Nat} (hi : i < ws.length) : (d.setRegs b ws).reg (b + 4 * i) = wordAt ws i := by
  induction ws generalizing d b i with
  | nil => cases hi
  | cons w ws ih =>
    cases i with
    | zero => exact (Dev.reg_setRegs_other ws _ (b + 4) (by omega)).trans (Dev.reg_setReg_same d b w)
    | succ i =>
      have h := ih (d.setReg b w) (b + 4) (by simpa using hi : i < ws.length)
      rw [show b + 4 + 4 * i = b + 4 * (i + 1) by omega] at h
      exact h

theorem Dev.wordAt_regs (d : Dev) (b : Nat) {i n : Nat} (hi : i < n) : wordAt (d.regs b n) i = d.reg (b + 4 * i) := by
  simp [wordAt, Dev.regs, hi]

/-- Words posted to masters change the pending words alone. -/
theorem Dev.postAll_rest (ms : List Nat) (kind info : Nat) (d : Dev) : ∃ c, d.postAll ms kind info = { d with cmd := c } := by
  have hpost : ∀ (d : Dev) (m : Nat), ∃ c, d.post m kind info = { d with cmd := c } := fun d m => by
    unfold Dev.post
    split
    · exact ⟨_, rfl⟩
    · exact ⟨d.cmd, rfl⟩
  induction ms generalizing d with
  | nil => exact ⟨d.cmd, rfl⟩
  | cons m ms ih =>
    obtain ⟨c, hc⟩ := hpost d m
    obtain ⟨c', hc'⟩ := ih (d.post m kind info)
    exact ⟨c', hc'.trans (by rw [hc])⟩

/-- Words written from a register on change the register file alone. -/
theorem Dev.setRegs_rest (d : Dev) (b : Nat) (ws : List Word) : ∃ rf, d.setRegs b ws = { d with rf := rf } := by
  induction ws generalizing d b with
  | nil => exact ⟨d.rf, rfl⟩
  | cons w ws ih =>
    obtain ⟨rf, h⟩ := ih (d.setReg b w) (b + 4)
    exact ⟨rf, h⟩

/-! ## Monitors (R82) -/

theorem Dev.rf_monitorRead (d : Dev) (m : Nat) (r : BitVec 16) (outside : Bool) :
    ∃ wear, wear ≤ 1000 ∧ (d.monitorRead m r outside).rf = (d.setN (Reg.AGE_MONm m) (wear * 65536 + r.toNat)).rf := by
  refine ⟨Config.freeNat d.freeCtr % 1001, Nat.lt_succ_iff.mp (Nat.mod_lt _ (by decide)), ?_⟩
  unfold Dev.monitorRead
  cases outside <;> rfl

/-- Readings of distinct monitors: each is shown with its wear index, and no other register changes. -/
theorem Dev.foldl_monitorRead (bad : Nat → Bool) (ms : List (Nat × BitVec 16)) (hn : (ms.map Prod.fst).Nodup) (d : Dev) :
    (∀ k, (∀ p ∈ ms, k ≠ Reg.AGE_MONm p.1) → (ms.foldl (fun d p => d.monitorRead p.1 p.2 (bad p.1)) d).reg k = d.reg k) ∧
    (∀ p ∈ ms, (ms.foldl (fun d p => d.monitorRead p.1 p.2 (bad p.1)) d).fld (Reg.AGE_MONm p.1) 0 16 = p.2.toNat ∧
      (ms.foldl (fun d p => d.monitorRead p.1 p.2 (bad p.1)) d).fld (Reg.AGE_MONm p.1) 16 16 ≤ 1000) := by
  induction ms generalizing d with
  | nil => exact ⟨fun _ _ => rfl, by simp⟩
  | cons q ms ih =>
    obtain ⟨m, r⟩ := q
    simp only [List.map_cons, List.nodup_cons] at hn
    obtain ⟨hother, hshown⟩ := ih hn.2 (d.monitorRead m r (bad m))
    obtain ⟨wear, hwear, hrf⟩ := d.rf_monitorRead m r (bad m)
    refine ⟨fun k hk => ?_, fun p hp => ?_⟩
    · refine (hother k fun p hp => hk p (by simp [hp])).trans ?_
      exact (Dev.reg_congr hrf k).trans (Dev.reg_setReg_other d _ (hk (m, r) (by simp)))
    · rcases List.mem_cons.mp hp with rfl | hp
      · have hself := hother (Reg.AGE_MONm m) fun p hp he => hn.1 (List.mem_map.mpr ⟨p, hp, by unfold Reg.AGE_MONm at he; omega⟩)
        rw [Dev.reg_congr hrf, Dev.setN, Dev.reg_setReg_same] at hself
        have hr := r.isLt
        rw [List.foldl_cons, Dev.fld, Dev.fld, hself, Word.fld_wd _ (by decide), Word.fld_wd _ (by decide)]
        dsimp only
        omega
      · exact hshown p hp

theorem mem_zip_readings {first count i : Nat} {rs : List (BitVec 16)} (hi : i < rs.length) (hc : i < count) :
    (first + i, rs.getD i 0) ∈ ((List.range count).map (first + ·)).zip rs := by
  refine List.mem_iff_getElem.mpr ⟨i, by simp [hi, hc], ?_⟩
  simp [hi]

theorem sublist_map_fst_zip {α β : Type} (l : List α) (rs : List β) : ((l.zip rs).map Prod.fst).Sublist l := by
  induction l generalizing rs with
  | nil => simp
  | cons a l ih =>
    cases rs with
    | nil => simp
    | cons r rs => exact (ih rs).cons_cons a

/-- The readings of one group of monitors. -/
theorem Dev.showsReadings_monitorsRead (d : Dev) (first count : Nat) (rs : List (BitVec 16)) (outside : List (Fin 128)) :
    (d.monitorsRead first count rs outside).showsReadings first count rs outside := by
  have hn : ((((List.range count).map (first + ·)).zip rs).map Prod.fst).Nodup := by
    refine List.Nodup.sublist (sublist_map_fst_zip _ rs) ?_
    exact (List.nodup_range (n := count)).map (f := (first + ·)) fun a b h => by simpa using h
  have hshown := (Dev.foldl_monitorRead (fun m => (outside.map Fin.val).contains m) _ hn d).2
  simp only [Dev.monitorsRead]
  generalize ht : List.foldl _ d _ = t at hshown
  refine ⟨fun i hi hc => ?_, fun ⟨i, hi, hc, ho⟩ => ?_⟩
  · have hp := hshown _ (mem_zip_readings (first := first) hi hc)
    split
    · have hst : Reg.AGE_MONm (first + i) ≠ Reg.AGE_STATUS := by unfold Reg.AGE_MONm Reg.AGE_STATUS; omega
      exact ⟨(Dev.fld_setReg_other _ 0 16 _ hst).trans hp.1, ((Dev.fld_setReg_other _ 16 16 _ hst).trans_le hp.2)⟩
    · exact hp
  · rw [if_pos]
    · exact Dev.bit_sqSet_mem _ _ (by decide) (by decide)
    · exact List.any_eq_true.mpr ⟨_, mem_zip_readings hi hc, by simpa using ho⟩

/-! ## Ageing records (R82) -/

theorem length_halfwords (xs : List Nat) : (halfwords xs).length = ceilDiv xs.length 2 := by simp [halfwords]

theorem wordAt_halfwords {xs : List Nat} {i : Nat} (h : 2 * i < xs.length) :
    wordAt (halfwords xs) i = wd (xs.getD (2 * i) 0 % 65536 + xs.getD (2 * i + 1) 0 % 65536 * 65536) := by
  rw [halfwords, wordAt_map_range _ (by unfold ceilDiv; omega)]

/-- Rows of three figures for each monitor, and what follows them. -/
theorem length_rows (row : Nat → List Nat) (hrow : ∀ m, (row m).length = 3) (n : Nat) : ((List.range n).flatMap row).length = 3 * n := by
  simp [List.length_flatMap, hrow, Nat.mul_comm]

/-- The first monitor's row stands first. -/
theorem rows_cons (row : Nat → List Nat) (n : Nat) :
    (List.range (n + 1)).flatMap row = row 0 ++ ((List.range n).map Nat.succ).flatMap row := by
  rw [List.range_succ_eq_map, List.flatMap_cons]

/-! ## Re-plans (R84 to R88) -/

theorem clampNat_mem {lo hi v : Nat} (h : lo ≤ hi) : lo ≤ clampNat lo hi v ∧ clampNat lo hi v ≤ hi := by
  unfold clampNat; split <;> [skip; split] <;> omega

theorem vdd_makePlan (d : Dev) (before want : List Word) (basis : Nat) : ∃ f, f < 2 ^ 16 ∧
    wordAt (d.makePlan before want basis).1 4 = wd ((planVdd (planFld before 4 16 16) (planFld want 0 16 16)).1 * 65536 + f) :=
  ⟨Word.fld (wordAt want 0) 0 16, Word.fld_lt _ 0 16, rfl⟩

theorem length_makePlan (d : Dev) (before want : List Word) (basis : Nat) : (d.makePlan before want basis).1.length = 64 := by
  simp only [Dev.makePlan, sealPlan, List.length_append, length_padTo, length_wordsOf]

/-- The voltage of a new plan keeps to the limits of R86. -/
theorem vdd_makePlan_mem (d : Dev) (before want : List Word) (basis : Nat) (hlo : 680 ≤ planFld before 4 16 16)
    (hhi : planFld before 4 16 16 ≤ 850) :
    Nat.max 680 (planFld before 4 16 16 - 10) ≤ planFld (d.makePlan before want basis).1 4 16 16 ∧
    planFld (d.makePlan before want basis).1 4 16 16 ≤ Nat.min 850 (planFld before 4 16 16 + 20) := by
  obtain ⟨f, hf, hw⟩ := vdd_makePlan d before want basis
  have hle : Nat.max 680 (planFld before 4 16 16 - 10) ≤ Nat.min 850 (planFld before 4 16 16 + 20) := by
    change max _ _ ≤ min _ _; omega
  have hmem := clampNat_mem (v := planFld want 0 16 16) hle
  have htop : Nat.min 850 (planFld before 4 16 16 + 20) ≤ 850 := Nat.min_le_left ..
  change _ ≤ (planVdd (planFld before 4 16 16) (planFld want 0 16 16)).1 ∧ (planVdd (planFld before 4 16 16) (planFld want 0 16 16)).1 ≤ _ at hmem
  generalize (planVdd (planFld before 4 16 16) (planFld want 0 16 16)).1 = v at hw hmem
  have hv : planFld (d.makePlan before want basis).1 4 16 16 = v := by
    rw [planFld, hw, Word.fld_wd _ (by decide)]
    omega
  rw [hv]
  exact hmem

/-- A plan that becomes pending: its time, its event and its words (R87, R88). -/
theorem Dev.pendWhen_planPending (d : Dev) (p : List Word) (bound dead : Bool) (clocks : Nat) :
    (d.planPending p bound dead clocks).age.pendWhen = some (.clock (d.now + clocks)) := by
  simp only [Dev.planPending]
  obtain ⟨c, hc⟩ := Dev.postAll_rest (List.range 16) 6 (wordAt p 1).toNat (Dev.sqSet _ Reg.AGE_STATUS _)
  obtain ⟨rf, hrf⟩ := d.setRegs_rest (Reg.AGE_PLAN_PEND 0) p
  rw [hc, hrf]
  rfl

theorem Dev.status_planPending (d : Dev) (p : List Word) (bound dead : Bool) (clocks : Nat) :
    (d.planPending p bound dead clocks).bit Reg.AGE_STATUS 0 = true := by
  refine (congrArg (Word.bit · 0) (Dev.reg_congr (Dev.rf_postAll ..) _)).trans ?_
  exact Dev.bit_sqSet_mem _ _ (by decide) (by simp)

theorem Dev.planPend_planPending (d : Dev) {p : List Word} (bound dead : Bool) (clocks : Nat) {w : Nat} (hw : w < 64) (hp : p.length = 64) :
    wordAt (d.planPending p bound dead clocks).planPend w = wordAt p w := by
  rw [Dev.planPend, Dev.wordAt_regs _ _ hw]
  refine (Dev.reg_congr (Dev.rf_postAll ..) _).trans ?_
  refine (Dev.reg_setReg_other _ _ (by unfold Reg.AGE_PLAN_PEND Reg.AGE_STATUS; omega)).trans ?_
  refine (Dev.reg_setReg_other _ _ (by unfold Reg.AGE_PLAN_PEND Reg.AGE_PENDING_VERSION; omega)).trans ?_
  exact Dev.reg_setRegs _ _ _ (by omega)

/-- A re-plan leaves its plan pending under the next version, within the limits of R86, to apply after the delay. -/
theorem Dev.replan_pending (d : Dev) (want : List Word) (basis clocks : Nat) {t : Dev}
    (ht : t = d.planPending (d.makePlan d.planCur want basis).1 (d.makePlan d.planCur want basis).2.1
      (d.makePlan d.planCur want basis).2.2 clocks) :
    t.regN Reg.AGE_PENDING_VERSION = (d.age.lastVersion + 1) % 2 ^ 32 ∧ t.age.pendWhen = some (.clock (d.now + clocks)) ∧
    t.bit Reg.AGE_STATUS 0 = true ∧ (680 ≤ planFld d.planCur 4 16 16 → planFld d.planCur 4 16 16 ≤ 850 →
      Nat.max 680 (planFld d.planCur 4 16 16 - 10) ≤ planFld t.planPend 4 16 16 ∧
      planFld t.planPend 4 16 16 ≤ Nat.min 850 (planFld d.planCur 4 16 16 + 20)) := by
  have hver := d.version_makePlan d.planCur want basis
  have hlen := length_makePlan d d.planCur want basis
  have hvdd := vdd_makePlan_mem d d.planCur want basis
  generalize d.makePlan d.planCur want basis = p at ht hver hlen hvdd
  subst ht
  refine ⟨?_, d.pendWhen_planPending .., d.status_planPending .., fun hlo hhi => ?_⟩
  · rw [Dev.regN, Dev.version_planPending, hver]
    exact BitVec.toNat_ofNat ..
  · have hword : planFld (d.planPending p.1 p.2.1 p.2.2 clocks).planPend 4 16 16 = planFld p.1 4 16 16 :=
      congrArg (Word.fld · 16 16) (d.planPend_planPending _ _ _ (by decide) hlen)
    rw [hword]
    exact hvdd hlo hhi

/-- A re-plan that waits the delay of its register, and one that waits 10 minutes. -/
theorem Dev.replan_late (d : Dev) (want : List Word) (basis : Nat) : d.replan want basis false =
    d.planPending (d.makePlan d.planCur want basis).1 (d.makePlan d.planCur want basis).2.1 (d.makePlan d.planCur want basis).2.2
      d.planDelay := by
  simp only [Dev.replan, Bool.false_eq_true, if_false]

theorem Dev.replan_early (d : Dev) (want : List Word) (basis : Nat) : d.replan want basis true =
    d.planPending (d.makePlan d.planCur want basis).1 (d.makePlan d.planCur want basis).2.1 (d.makePlan d.planCur want basis).2.2
      300000000000 := by
  simp only [Dev.replan, if_true]

theorem exec_periodicReplan {s : State} (want : List Word) (hr : s.dev.running = true) :
    exec (.periodicReplan want) s = .next { s with dev := s.dev.replan want 1 false } := act_run hr

theorem exec_marginShortReplan {s : State} (want : List Word) (q : Bool) (hr : s.dev.running = true) :
    exec (.marginShortReplan want q) s = .next { s with dev := if s.dev.age.shortPlan then s.dev.replan want 2 q else s.dev } := act_run hr

/-- A tightening plan that wants more voltage asks for it first (R89). -/
theorem Dev.planStart_tightening {d : Dev} (hv : d.regN Reg.AGE_PLAN_VERSION < d.regN Reg.AGE_PENDING_VERSION)
    (ht : tightening d.planCur d.planPend = true) (hlow : d.age.vdd < planFld d.planPend 4 16 16) : d.planStart =
    { d with
      age := { d.age with vddTarget := planFld d.planPend 4 16 16, tightening := true, avsTries := 0, pendWhen := none }
      ebs := { d.ebs with oldTable := d.planTable d.planPend } } := by
  have hle : ¬ d.regN Reg.AGE_PENDING_VERSION ≤ d.regN Reg.AGE_PLAN_VERSION := not_le.mpr hv
  simp only [Dev.planStart, if_neg hle, ht, if_true, if_pos hlow]
  rfl

/-! ## Voltage writes (R89, R538) -/

theorem Dev.nextVdd_up {d : Dev} (h : d.age.vdd + 10 < d.age.vddTarget) : d.nextVdd = d.age.vdd + 10 := by
  simp only [Dev.nextVdd, if_pos (show d.age.vdd < d.age.vddTarget by omega)]
  exact Nat.min_eq_right (by omega)

/-- A write that succeeds below the target. -/
theorem Dev.avsWrite_ok {d : Dev} (h : d.age.vdd + 10 < d.age.vddTarget) : d.avsWrite true =
    { d with out := .avs (d.age.vdd + 10) :: d.out, age := { d.age with vdd := d.age.vdd + 10, avsTries := 0 } } := by
  have hne : d.age.vdd + 10 ≠ d.age.vddTarget := by omega
  simp only [Dev.avsWrite, Dev.nextVdd_up h, Dev.emit, if_true]
  rw [if_pos hne]

theorem Dev.avsWrite_failed {d : Dev} (h : d.age.avsTries < 2) : d.avsWrite false =
    { d with out := .avs d.nextVdd :: d.out, age := { d.age with avsTries := d.age.avsTries + 1 } } := by
  have h2 : ¬ 2 ≤ d.age.avsTries := by omega
  exact if_neg h2

/-- The third failure: a record, the change given up (R538). -/
theorem Dev.avsWrite_third {d : Dev} (h : d.age.avsTries = 2) : d.avsWrite false =
    { (d.emit (.avs d.nextVdd)).fault (faultRec 3 6 19 0) with
      age := { d.age with vddTarget := d.age.vdd, avsTries := 0, pendWhen := none }
      ebs := { d.ebs with oldTable := [] } } := by
  have h2 : 2 ≤ d.age.avsTries := by omega
  exact if_pos h2

/-! ## Fault records (R485, R486) -/

/-- The registers a fault record may change: the rings, their count and event, and those of telling the hosts. -/
abbrev faultReg (k : Nat) : Prop := k = Reg.FLT_SEQ ∨ k = Reg.FLT_EVT_STATUS ∨ (0x1510000 ≤ k ∧ k < 0x151C000) ∨
  (0x1520000 ≤ k ∧ k < 0x1520C00) ∨ hostReg k

/-- A record's words in the fault ring. -/
def Dev.putRing (d : Dev) (ws : List Word) : Dev :=
  (d.setRegs (Reg.FLT_RING ((d.regN Reg.FLT_SEQ % 1024) * 12)) ws).inc Reg.FLT_SEQ

/-- A record's words in the MRAM ring. -/
def Dev.putMram (d : Dev) (ws : List Word) : Dev :=
  { (d.setRegs (Reg.FLT_MRAM_RING ((d.flt.mramCount % 64) * 12)) ws) with flt := { d.flt with mramCount := d.flt.mramCount + 1 } }

/-- A record in the fault ring, and in the MRAM ring at LEVEL 3 or 4. -/
def Dev.putRecord (d : Dev) (r : FaultRec) (ws : List Word) : Dev := if 3 ≤ r.level then (d.putRing ws).putMram ws else d.putRing ws

theorem Dev.fault_eq (d : Dev) (r : FaultRec) : d.fault r =
    ((d.putRecord r (r.words d.ptp.toNat (d.regN Reg.FLT_SEQ))).sqSet Reg.FLT_EVT_STATUS [0]).notifyAll (Reg.FLT_NOTIFY_VECTORf 0) := by
  rfl

theorem FaultRec.length_words (r : FaultRec) (t n : Nat) : (r.words t n).length = 12 := rfl

section
variable {ws : List Word} (hw : ws.length = 12)
include hw

theorem Dev.reg_putRing (d : Dev) {k : Nat} (hk : k < 0x1510000 ∨ 0x151C000 ≤ k) (hs : k ≠ Reg.FLT_SEQ) : (d.putRing ws).reg k = d.reg k :=
  (Dev.reg_setReg_other _ _ hs).trans (Dev.reg_setRegs_other _ _ _ (by rw [hw]; unfold Reg.FLT_RING; omega))

theorem Dev.seq_putRing (d : Dev) : (d.putRing ws).reg Reg.FLT_SEQ = d.reg Reg.FLT_SEQ + 1 := by
  refine (Dev.reg_setReg_same ..).trans ?_
  rw [Dev.reg_setRegs_other _ _ _ (by rw [hw]; unfold Reg.FLT_RING Reg.FLT_SEQ; omega)]

theorem Dev.reg_putMram (d : Dev) {k : Nat} (hk : k < 0x1520000 ∨ 0x1520C00 ≤ k) : (d.putMram ws).reg k = d.reg k := by
  have hregs := Dev.reg_setRegs_other ws d (Reg.FLT_MRAM_RING ((d.flt.mramCount % 64) * 12)) (k := k)
    (by rw [hw]; unfold Reg.FLT_MRAM_RING; omega)
  exact hregs

theorem Dev.reg_putRecord (d : Dev) (r : FaultRec) {k : Nat} (hring : k < 0x1510000 ∨ 0x151C000 ≤ k) (hmram : k < 0x1520000 ∨ 0x1520C00 ≤ k)
    (hseq : k ≠ Reg.FLT_SEQ) : (d.putRecord r ws).reg k = d.reg k := by
  unfold Dev.putRecord
  split
  · rw [Dev.reg_putMram hw _ hmram, Dev.reg_putRing hw _ hring hseq]
  · exact Dev.reg_putRing hw _ hring hseq

theorem Dev.seq_putRecord (d : Dev) (r : FaultRec) : (d.putRecord r ws).reg Reg.FLT_SEQ = d.reg Reg.FLT_SEQ + 1 := by
  unfold Dev.putRecord
  split
  · rw [Dev.reg_putMram hw _ (.inl (by decide)), Dev.seq_putRing hw]
  · exact Dev.seq_putRing hw d

end

/-- A record changes no other register. -/
theorem Dev.reg_fault (d : Dev) (r : FaultRec) {k : Nat} (hk : ¬ faultReg k) : (d.fault r).reg k = d.reg k := by
  simp only [faultReg, not_or] at hk
  obtain ⟨hseq, hevt, hring, hmram, hhost⟩ := hk
  rw [Dev.fault_eq, (Dev.ToldHost.notifyAll _ _).regs k (by simpa [hostReg] using hhost), Dev.reg_sqSet_other _ _ hevt]
  exact Dev.reg_putRecord (r.length_words ..) d r (by omega) (by omega) hseq

/-- A record counts itself in FLT_SEQ. -/
theorem Dev.seq_fault (d : Dev) (r : FaultRec) : (d.fault r).reg Reg.FLT_SEQ = d.reg Reg.FLT_SEQ + 1 := by
  rw [Dev.fault_eq, (Dev.ToldHost.notifyAll _ _).regs _ (by decide), Dev.reg_sqSet_other _ _ (by decide), Dev.seq_putRecord (r.length_words ..)]

theorem Dev.setRegs_act (ws : List Word) (d : Dev) (b : Nat) : ∃ a, d.setRegs b ws = { d with rf := { d.rf with act := a } } := by
  induction ws generalizing d b with
  | nil => exact ⟨d.rf.act, rfl⟩
  | cons w ws ih =>
    obtain ⟨a, h⟩ := ih (d.setReg b w) (b + 4)
    exact ⟨a, h⟩

theorem Dev.putRing_rest (d : Dev) (ws : List Word) : ∃ a, d.putRing ws = { d with rf := { d.rf with act := a } } := by
  obtain ⟨a, h⟩ := Dev.setRegs_act ws d (Reg.FLT_RING ((d.regN Reg.FLT_SEQ % 1024) * 12))
  rw [Dev.putRing, h]
  exact ⟨_, rfl⟩

theorem Dev.putMram_rest (d : Dev) (ws : List Word) : ∃ a f, d.putMram ws = { d with rf := { d.rf with act := a }, flt := f } := by
  obtain ⟨a, h⟩ := Dev.setRegs_act ws d (Reg.FLT_MRAM_RING ((d.flt.mramCount % 64) * 12))
  rw [Dev.putMram, h]
  exact ⟨_, _, rfl⟩

theorem Dev.putRecord_rest (d : Dev) (r : FaultRec) (ws : List Word) :
    ∃ a f, d.putRecord r ws = { d with rf := { d.rf with act := a }, flt := f } := by
  obtain ⟨a, ha⟩ := d.putRing_rest ws
  unfold Dev.putRecord
  split
  · obtain ⟨b, f, hb⟩ := (d.putRing ws).putMram_rest ws
    rw [hb, ha]
    exact ⟨_, _, rfl⟩
  · exact ⟨a, d.flt, ha⟩

/-- Beside the registers a record changes the count of the MRAM ring, the functions' records and what is sent. -/
theorem Dev.fault_rest (d : Dev) (r : FaultRec) :
    ∃ a f p o, d.fault r = { d with rf := { d.rf with act := a }, flt := f, pce := p, out := o } := by
  obtain ⟨a, f, ht⟩ := d.putRecord_rest r (r.words d.ptp.toNat (d.regN Reg.FLT_SEQ))
  rw [Dev.fault_eq, (Dev.ToldHost.notifyAll _ _).rest, ht]
  exact ⟨_, _, _, _, rfl⟩

/-- Settles O19: monitors show their readings, records are put before those kept, plans pend and apply, voltages step. -/
theorem monitorsReplansAndPlansAct : Obligations.MonitorsReplansAndPlansAct := by
  unfold Obligations.MonitorsReplansAndPlansAct
  refine ⟨fun s hr => ⟨fun rs outside => ⟨?_, ?_, ?_, ?_⟩, ?_, ?_⟩, fun s want hr => ⟨?_, fun q hshort => ?_, fun q hno => ?_⟩,
    fun s hr => ⟨fun hp => ?_, fun hv hvdd ht hlow => ?_, fun htry hlow => ⟨?_, ?_⟩, fun htry hlow => ?_, fun htry hne => ?_⟩⟩
  · exact ⟨_, act_run hr, Dev.showsReadings_monitorsRead ..⟩
  · exact ⟨_, act_run hr, Dev.showsReadings_monitorsRead ..⟩
  · exact ⟨_, act_run hr, Dev.showsReadings_monitorsRead ..⟩
  · exact ⟨_, act_run hr, Dev.showsReadings_monitorsRead ..⟩
  · refine ⟨_, _, act_run hr, rfl, length_padTo .., ?_, rfl, rfl, rfl⟩
    rw [wordAt_padTo _ (by decide), wordAt_halfwords (by rw [List.length_append, length_rows _ (fun _ => rfl)]; simp), rows_cons]
    rfl
  · refine ⟨_, _, act_run hr, rfl, length_padTo .., ?_, rfl, rfl, rfl⟩
    have hlen : ∀ f g : Nat → Nat, (halfwords ((List.range 128).map f ++ (List.range 33).map g)).length = 81 := fun f g => by
      rw [length_halfwords]; simp [ceilDiv]
    rw [wordAt_padTo _ (by decide), wordAt_append_right _ (by rw [hlen]), hlen]
    rfl
  · exact ⟨_, exec_periodicReplan want hr, s.dev.replan_pending want 1 s.dev.planDelay (s.dev.replan_late want 1)⟩
  · refine ⟨_, exec_marginShortReplan want q hr, ?_⟩
    rw [hshort, if_pos rfl]
    cases q with
    | true => exact s.dev.replan_pending want 2 _ (s.dev.replan_early want 2)
    | false => exact s.dev.replan_pending want 2 _ (s.dev.replan_late want 2)
  · rw [exec_marginShortReplan want q hr, hno, if_neg Bool.false_ne_true]
  · refine (act_run hr).trans ?_
    rw [if_pos (.inl hp)]
  · refine (act_run hr).trans ?_
    rw [if_neg (by omega), Dev.planStart_tightening hv ht hlow]
  · refine (act_run hr).trans ?_
    rw [if_pos ⟨by omega, htry⟩, Dev.avsWrite_ok hlow]
  · refine (act_run hr).trans ?_
    rw [if_pos ⟨by omega, htry⟩, Dev.avsWrite_failed (by omega), Dev.nextVdd_up hlow, htry]
  · refine (act_run hr).trans ?_
    rw [if_pos ⟨by omega, by omega⟩, Dev.avsWrite_ok hlow]
  · refine ⟨{ s with dev := s.dev.avsWrite false }, ?_, ?_⟩
    · refine (act_run hr).trans ?_
      rw [if_pos ⟨hne, by omega⟩]
    · rw [Dev.avsWrite_third htry]
      exact ⟨rfl, rfl, rfl, Dev.seq_fault ..⟩

end Sys2Proof.Machine
end

section
/-! PROOFS. O20, refuted: a staged write keeps the reserved bits that the register holds (R7), so that a limit register whose reserved
bits are not 0 does not read the value alone. -/

namespace Sys2Proof.Machine

/-- ENERGY_SLICE_LIMIT of slice 3, limit 5, started. -/
def limitCmd : Cmd := ⟨5, wd 0x0703, wd (3 * 65536 + 1), wd 8, [0, 5], .started, 1, 0, 7, false, [], 0, false, [], 0⟩

/-- A running device with that command, on which bit 16 of the slice's limit register, a reserved bit, reads 1. -/
def strayLimit : State := { State.reset with dev :=
  { (Dev.reset.setFld Reg.GLB_BOOT 28 4 7).setReg (Reg.EBS_SLICE_LIMITs 3) 0x10000#32 with
    cmd := { Dev.reset.cmd with cmds := [limitCmd] } } }

/-- The register that an outcome's state reads. -/
def regAfter (o : Host.Outcome State Fault Refusal) (k : Nat) : Word :=
  match o with
  | .next t => t.dev.reg k
  | _ => 0

/-- The limit applied to that device reads 5 with the reserved bit beside it. -/
theorem regAfter_strayLimit : regAfter (exec (.energySliceLimit 5 1 0) strayLimit) (Reg.EBS_SLICE_LIMITs 3) = 0x10005#32 := by
  decide +kernel

/-- Refutes O20: the staged value of a limit register keeps bit 16, a reserved bit that the register holds; it does not read 5. -/
theorem not_sliceLimitTakesItsValueAtOnce : ¬ Obligations.SliceLimitTakesItsValueAtOnce := by
  unfold Obligations.SliceLimitTakesItsValueAtOnce
  intro h
  obtain ⟨t, hrun, hreg, -⟩ := h strayLimit 5 1 0 limitCmd (by decide +kernel) rfl ⟨rfl, by decide +kernel, rfl⟩ (by decide +kernel)
  have hafter := regAfter_strayLimit
  rw [hrun] at hafter
  exact absurd (hreg.symm.trans hafter) (by decide +kernel)

end Sys2Proof.Machine
end

section
/-! PROOFS. The host endpoints: links train and go down, functions stop and are reset, links rest and wake (R144 to R168). -/

namespace Sys2Proof.Machine

/-! ## A trained link's status -/

/-- The word PCE_LINK_STATUS shows of a link that has trained. -/
def trainedStatus (rate width : Nat) (flit x8 : Bool) : Nat :=
  2 ^ 15 + (if flit then 2 ^ 14 else 0) + rate * 256 + width * 8 + (if x8 then 4 else 0)

theorem Word.bit_wd (v : Nat) {i : Nat} (h : i < 32) : Word.bit (wd v) i = v.testBit i := by
  refine (BitVec.getLsbD_ofNat 32 v i).trans ?_
  rw [decide_eq_true h, Bool.true_and]

theorem trainedStatus_fields {rate width : Nat} (flit x8 : Bool) (hr : rate < 8) (hw : width < 32) :
    Word.bit (wd (trainedStatus rate width flit x8)) 15 = true ∧ Word.bit (wd (trainedStatus rate width flit x8)) 14 = flit ∧
      Word.fld (wd (trainedStatus rate width flit x8)) 8 3 = rate ∧ Word.fld (wd (trainedStatus rate width flit x8)) 3 5 = width := by
  rw [Word.bit_wd _ (by decide), Word.bit_wd _ (by decide), Word.fld_wd _ (by decide), Word.fld_wd _ (by decide),
    Nat.testBit_eq_decide_div_mod_eq, Nat.testBit_eq_decide_div_mod_eq, trainedStatus]
  refine ⟨decide_eq_true ?_, ?_, ?_, ?_⟩
  · split <;> split <;> omega
  · cases flit
    · exact decide_eq_false (by simp only [Bool.false_eq_true, if_false]; split <;> omega)
    · exact decide_eq_true (by simp only [if_true]; split <;> omega)
  · split <;> split <;> omega
  · split <;> split <;> omega

/-- A function made present on a trained link. -/
def PFn.shown (p : PFn) : PFn := { p with present := true }

theorem Dev.present_showAll (fs : List Nat) (d : Dev) {f : Nat} (h : f ∈ fs ∨ (d.fn f).present = true) :
    ((fs.foldl (fun d g => d.setFn g PFn.shown) d).fn f).present = true := by
  induction fs generalizing d with
  | nil => exact h.resolve_left List.not_mem_nil
  | cons g fs ih =>
    refine ih (d.setFn g PFn.shown) ?_
    rw [Dev.fn_setFn]
    by_cases hg : f = g
    · right; rw [if_pos hg]; rfl
    · rw [if_neg hg]; exact h.imp_left (fun hm => (List.mem_cons.mp hm).resolve_left hg)

theorem Dev.rf_foldl_setFn (fs : List Nat) (g : PFn → PFn) (d : Dev) : (fs.foldl (fun d f => d.setFn f g) d).rf = d.rf := by
  induction fs generalizing d with
  | nil => rfl
  | cons f fs ih => exact ih (d.setFn f g)

/-- A link that trains below 8 GT/s shows its status, and its functions are present. -/
theorem Dev.trainLink_eq (d : Dev) (l width : Nat) {rate : Nat} (flit : Bool) (h : rate < 5) : ∃ p,
    d.trainLink l rate width flit = (d.linkFns l).foldl (fun d f => d.setFn f PFn.shown)
      { d.setN (Reg.PCE_LINK_STATUSl l) (trainedStatus rate width flit (d.bif (l / 2))) with pce := p } :=
  ⟨_, if_neg (by omega)⟩

/-! ## PERST released -/

theorem Dev.sameRegsBut_startTraining (d : Dev) (l : Nat) : d.sameRegsBut (d.startTraining l) [Reg.PCE_LINK_STATUSl l] :=
  (Dev.sameRegsBut.refl _ _).setReg (List.mem_singleton.mpr rfl)

theorem Dev.mem_linkFns_double (d : Dev) {e : Nat} (h : e < 2) : 2 * e ∈ d.linkFns (2 * e) := by
  refine List.mem_filter.mpr ⟨List.mem_range.mpr (by omega), decide_eq_true ?_⟩
  unfold Dev.linkOf
  split
  · rfl
  · omega

theorem Dev.state_startTraining (d : Dev) {l : Nat} (h : d.linkFns l ≠ []) :
    (d.startTraining l).fld (Reg.PCE_LINK_STATUSl l) 11 3 = 5 := by
  rw [Dev.startTraining, if_neg (by simpa using h), Dev.setN, Dev.fld_setReg, if_pos rfl, Word.fld_wd _ (by decide)]
  split <;> omega

theorem linkStatus_inj {a b : Nat} (h : a ≠ b) : Reg.PCE_LINK_STATUSl a ≠ Reg.PCE_LINK_STATUSl b := by
  unfold Reg.PCE_LINK_STATUSl; omega

/-! ## A function without work in flight -/

/-- Where no slice is live, none is homed on a function. -/
theorem Dev.homed_of_free {d : Dev} (f : Nat) (h : ∀ sl, sl < 8192 → d.sliceState sl = 0) : d.homed f = [] := by
  refine List.filter_eq_nil_iff.mpr fun sl hm => ?_
  obtain ⟨p, -, hp⟩ := List.mem_filterMap.mp hm
  obtain ⟨hin, hsl⟩ := Option.ite_none_right_eq_some.mp hp
  have hlt : sl < 8192 := by have := Option.some.inj hsl; omega
  simp [h sl hlt]

/-- With no work in flight a function's stop reaches only its reads. -/
theorem Dev.fnStop_noWork {d : Dev} (f status cause : Nat) (h : d.noWork) :
    ∃ r m, d.fnStop f status cause = { d with pce := { d.pce with reads := r }, mac := m } := by
  obtain ⟨hitems, hconns, hrun, -, hfree⟩ := h
  have hnone : d.unmovedItems f = [] := by rw [Dev.unmovedItems, hitems]; rfl
  have hmoved : ∃ m, (d.failUnmoved f status).orphanReads f = { d with pce := (d.orphanReads f).pce, mac := m } := by
    unfold Dev.failUnmoved; rw [hnone]; exact ⟨_, rfl⟩
  obtain ⟨m, hm⟩ := hmoved
  have hnvq (t : Dev) (ht : t.sto = d.sto) : t.homedNvqs f = [] := by rw [Dev.homedNvqs, ht, hconns]; rfl
  have hdesc (t : Dev) (ht : t.dma = d.dma) : (List.range 64).filter (t.descOn f) = [] :=
    List.filter_eq_nil_iff.mpr fun c _ => by simp only [Dev.descOn, ht, hrun]; exact Bool.false_ne_true
  have hhomed (t : Dev) (ht : t.rf = d.rf) : t.homed f = [] :=
    Dev.homed_of_free f fun sl hsl => by rw [Dev.sliceState, Dev.fld, Dev.reg_congr ht]; exact hfree sl hsl
  refine ⟨(d.orphanReads f).pce.reads, m, ?_⟩
  unfold Dev.fnStop
  simp only [hm]
  rw [hnvq _ (by rfl), List.foldl_nil, hdesc _ (by rfl), List.foldl_nil, hhomed _ (by rfl), List.foldl_nil]
  rfl

/-- No work of the hosts is in flight where the parts that hold it, and the slices, are as they were. -/
theorem Dev.noWork.of_parts {d t : Dev} (h : d.noWork) (hrng : t.rng = d.rng) (hsto : t.sto = d.sto) (hdma : t.dma = d.dma)
    (hmac : t.mac = d.mac) (hsl : ∀ sl, t.sliceState sl = d.sliceState sl) : t.noWork := by
  obtain ⟨hitems, hconns, hrun, hlro, hfree⟩ := h
  exact ⟨by rw [hrng, hitems], by rw [hsto, hconns], by rw [hdma, hrun], by rw [hmac, hlro], fun sl h => by rw [hsl, hfree sl h]⟩

theorem Dev.noWork.setFn {d : Dev} (h : d.noWork) (f : Nat) (g : PFn → PFn) : (d.setFn f g).noWork :=
  h.of_parts rfl rfl rfl rfl fun _ => rfl

/-- A function made unable to issue requests stops, and its event 4 reports so (R160). -/
theorem Dev.stopped_function {d : Dev} {f : Nat} (g : PFn → PFn) (status cause : Nat) (h : d.noWork) :
    ∃ t, ((d.setFn f g).fnStop f status cause).pceEvt f 4 = t ∧ t.fn f = g (d.fn f) ∧ t.bit (Reg.PCE_EVT_STATUSf f) 4 = true ∧ d.sameRegsBut t [Reg.PCE_EVT_STATUSf f] := by
  obtain ⟨r, m, hstop⟩ := Dev.fnStop_noWork f status cause (h.setFn f g)
  refine ⟨_, rfl, ?_, Dev.bit_sqSet_mem _ _ (by decide) (List.mem_singleton.mpr rfl), ?_⟩
  · rw [hstop]
    exact (Dev.fn_setFn d f f g).trans (if_pos rfl)
  · rw [hstop]
    exact (Dev.sameRegsBut.refl d _).trans (Dev.sameRegsBut_sqSet _ _ _)

/-! ## A function reset -/

/-- The registers of the endpoints are none of the slice table's. -/
theorem Dev.sliceState_discardHeld (d : Dev) {f : Nat} (hf : f < 4) (sl : Nat) :
    (d.discardHeld f).sliceState sl = d.sliceState sl := by
  have hheld : Reg.SLC_SLICE_STATUS sl 0 ≠ Reg.PCE_HELDf f := by unfold Reg.SLC_SLICE_STATUS Reg.PCE_HELDf; omega
  have hcount : Reg.SLC_SLICE_STATUS sl 0 ≠ Reg.PCE_COUNTSf f 3 := by unfold Reg.SLC_SLICE_STATUS Reg.PCE_COUNTSf; omega
  unfold Dev.sliceState Dev.discardHeld Dev.setN Dev.pceCount Dev.count
  rw [Dev.fld_setReg_other _ _ _ _ hheld, Dev.fld_setReg_other _ _ _ _ hcount]
  rfl

theorem Dev.noWork.discardHeld {d : Dev} (h : d.noWork) {f : Nat} (hf : f < 4) : (d.discardHeld f).noWork :=
  h.of_parts rfl rfl rfl rfl (d.sliceState_discardHeld hf)

/-- A function's configuration as a reset leaves it. -/
def PFn.cleared (present flr : Bool) (p : PFn) : PFn := { PFn.absent with present := present, flr := flr, aer := p.aer }

theorem Dev.fnReset_eq (d : Dev) (f status cause : Nat) (present flr : Bool) : d.fnReset f status cause present flr =
    (((((d.discardHeld f).setFn f (PFn.cleared present flr)).fnStop f status cause).dropReads f).emptyQueues f) := rfl

/-- What a function holds after its reset with no work in flight: its configuration cleared, its reads gone. -/
theorem Dev.pce_fnReset {d : Dev} {f : Nat} (status cause : Nat) (present flr : Bool) (h : d.noWork) (hf : f < 4) :
    (∃ p, (d.fnReset f status cause present flr).fn f = PFn.cleared present flr p) ∧
    ∀ p ∈ (d.fnReset f status cause present flr).pce.reads, p.2.fn ≠ f := by
  obtain ⟨r, m, hstop⟩ := Dev.fnStop_noWork f status cause
    ((h.discardHeld hf).setFn f (PFn.cleared present flr))
  rw [Dev.fnReset_eq, hstop]
  exact ⟨⟨_, (Dev.fn_setFn _ f f _).trans (if_pos rfl)⟩, fun p hp => of_decide_eq_true (List.mem_filter.mp hp).2⟩

/-- A master's queues are empty after a reset: their indices read 0. -/
theorem Dev.reg_emptyQueues (d : Dev) (m : Nat) :
    (d.emptyQueues m).reg (Reg.CMD_PIm m) = 0 ∧ (d.emptyQueues m).reg (Reg.CMD_CIm m) = 0 := by
  unfold Dev.emptyQueues Dev.setN
  simp only [Dev.reg_setReg, Reg.CMD_PIm, Reg.CMD_CIm, Reg.CMD_RPIm, Reg.CMD_RCIm]
  exact ⟨by rw [if_neg (by omega), if_neg (by omega), if_neg (by omega), if_pos trivial]; rfl,
    by rw [if_neg (by omega), if_neg (by omega), if_pos trivial]; rfl⟩

/-- A function that is reset and reports it with an event. -/
theorem Dev.reset_function {d : Dev} {f : Nat} (status cause ev : Nat) (present flr : Bool) (h : d.noWork) (hf : f < 4) (hev : ev < 24) :
    ∃ t, (d.fnReset f status cause present flr).pceEvt f ev = t ∧ (∃ p, t.fn f = PFn.cleared present flr p) ∧
      (∀ p ∈ t.pce.reads, p.2.fn ≠ f) ∧ t.reg (Reg.CMD_PIm f) = 0 ∧ t.reg (Reg.CMD_CIm f) = 0 ∧
      t.bit (Reg.PCE_EVT_STATUSf f) ev = true := by
  obtain ⟨hfn, hreads⟩ := Dev.pce_fnReset status cause present flr h hf
  have hidx : (d.fnReset f status cause present flr).reg (Reg.CMD_PIm f) = 0 ∧
      (d.fnReset f status cause present flr).reg (Reg.CMD_CIm f) = 0 := by
    rw [Dev.fnReset_eq]; exact Dev.reg_emptyQueues _ f
  have hpi : Reg.CMD_PIm f ≠ Reg.PCE_EVT_STATUSf f := by unfold Reg.CMD_PIm Reg.PCE_EVT_STATUSf; omega
  have hci : Reg.CMD_CIm f ≠ Reg.PCE_EVT_STATUSf f := by unfold Reg.CMD_CIm Reg.PCE_EVT_STATUSf; omega
  generalize d.fnReset f status cause present flr = u at hfn hreads hidx
  exact ⟨_, rfl, hfn, hreads, (Dev.reg_sqSet_other _ _ hpi).trans hidx.1, (Dev.reg_sqSet_other _ _ hci).trans hidx.2,
    Dev.bit_sqSet_mem _ _ hev (List.mem_singleton.mpr rfl)⟩

/-! ## A link down -/

theorem Map.get?_del_trained (m : Map Nat) (l : Nat) : Map.get? (Map.del m l) l = none := Map.get?_del_same m l

/-- No tag of a link is in use in a state where every read left is another link's. -/
theorem Dev.tagCount_none {d : Dev} {l : Nat} (st : TagState) (h : ∀ p ∈ d.pce.reads, p.1 / 16384 ≠ l) : d.tagCount l st = 0 := by
  unfold Dev.tagCount Map.count
  exact List.length_eq_zero_iff.mpr (List.filter_eq_nil_iff.mpr fun p hp => by simp [h p hp])

/-- A link that goes down has no read left, no tag in use and no width. -/
theorem Dev.linkDown_tags (d : Dev) (l : Nat) : (∀ p ∈ (d.linkDown l).pce.reads, p.1 / 16384 ≠ l) ∧
    (d.linkDown l).reg (Reg.PCE_TAGSl l) = 0 ∧ Map.get? (d.linkDown l).pce.trained l = none := by
  unfold Dev.linkDown
  refine ⟨fun p hp => of_decide_eq_true (List.mem_filter.mp hp).2, ?_, Map.get?_del_same _ _⟩
  rw [Dev.showTags, Dev.setN, Dev.reg_setReg_same, Dev.tagCount_none, Dev.tagCount_none]
  · rfl
  all_goals exact fun p hp => of_decide_eq_true (List.mem_filter.mp hp).2

/-! ## Link power -/

/-- Two fields of one register replaced, one after the other. -/
theorem Dev.fld_setFld_setFld (d : Dev) (k : Nat) {lo n lo' n' : Nat} (v v' : Nat) (h : lo + n ≤ lo') (h' : lo' + n' ≤ 32)
    (hv : v < 2 ^ n) (hv' : v' < 2 ^ n') :
    ((d.setFld k lo n v).setFld k lo' n' v').fld k lo n = v ∧ ((d.setFld k lo n v).setFld k lo' n' v').fld k lo' n' = v' :=
  ⟨by rw [Dev.fld_setFld_other _ _ _ (by omega) (by omega), Dev.fld_setFld_same _ _ _ _ _ (by omega), Nat.mod_eq_of_lt hv],
    by rw [Dev.fld_setFld_same _ _ _ _ _ h', Nat.mod_eq_of_lt hv']⟩

theorem Dev.sameRegsBut_setFld (d : Dev) (k lo n v : Nat) : d.sameRegsBut (d.setFld k lo n v) [k] :=
  (Dev.sameRegsBut.refl _ _).setReg (List.mem_singleton.mpr rfl)

/-- A link rests in L0p where it may (R157). -/
theorem exec_l0pEntry_ready {s : State} {l : Fin 4} (hr : s.dev.running = true) (hup : s.dev.linkUp l.val = true)
    (hflit : s.dev.bit (Reg.PCE_LINK_STATUSl l.val) 14 = true) (hst : s.dev.fld (Reg.PCE_LINK_STATUSl l.val) 11 3 ≤ 1)
    (hidle : s.dev.fld (Reg.PCE_PM_CTRLl l.val) 16 8 ≠ 0)
    (hmin : s.dev.l0pMin l.val * 2 ≤ s.dev.fld (Reg.PCE_LINK_STATUSl l.val) 3 5) (hdet : s.dev.detHomed l.val = false) :
    exec (.l0pEntry l) s = .next { s with dev := (s.dev.setFld (Reg.PCE_LINK_STATUSl l.val) 3 5
      (s.dev.fld (Reg.PCE_LINK_STATUSl l.val) 3 5 / 2)).setFld (Reg.PCE_LINK_STATUSl l.val) 11 3 1 } := by
  refine (act_run hr).trans ?_
  simp only [hup, hflit, hdet, hst, hidle, hmin, ne_eq, not_false_eq_true, and_self, decide_true, Bool.and_self, Bool.not_false, if_true]

/-- A link returns to the width it trained at (R157). -/
theorem exec_l0pExit_trained {s : State} {l : Fin 4} {w : Nat} (hr : s.dev.running = true) (hup : s.dev.linkUp l.val = true)
    (hst : s.dev.fld (Reg.PCE_LINK_STATUSl l.val) 11 3 = 1) (hw : Map.get? s.dev.pce.trained l.val = some w) :
    exec (.l0pExit l) s = .next { s with dev :=
      (s.dev.setFld (Reg.PCE_LINK_STATUSl l.val) 3 5 w).setFld (Reg.PCE_LINK_STATUSl l.val) 11 3 0 } := by
  refine (act_run hr).trans ?_
  rw [if_pos ⟨hup, hst⟩, Map.getD, hw]; rfl

/-- A link enters L1, or the substate asked for, where it may (R157). -/
theorem exec_l1Entry_ready {s : State} {l : Fin 4} (sub : Fin 3) (hr : s.dev.running = true) (hup : s.dev.linkUp l.val = true)
    (hst : s.dev.fld (Reg.PCE_LINK_STATUSl l.val) 11 3 = 0) (hidle : s.dev.fld (Reg.PCE_PM_CTRLl l.val) 24 8 ≠ 0)
    (hdet : s.dev.detHomed l.val = false) :
    exec (.l1Entry l sub) s = .next { s with dev := s.dev.setFld (Reg.PCE_LINK_STATUSl l.val) 11 3 (2 + sub.val) } := by
  refine (act_run hr).trans ?_
  simp only [hup, hst, hdet, hidle, ne_eq, not_false_eq_true, and_self, decide_true, Bool.and_self, Bool.not_false, if_true]

/-- Settles O21: a stop without work in flight touches a function's reads alone; the rest is each row's one write. -/
theorem hostLinksAndFunctionsAct : Obligations.HostLinksAndFunctionsAct := by
  unfold Obligations.HostLinksAndFunctionsAct
  refine ⟨fun s hp => ⟨?_, ?_, ?_, ?_⟩, fun s f hp hpres => ⟨?_, ?_, ?_, ?_, ?_, ?_⟩, fun s l hr hup => ⟨?_, ?_, ?_, ?_⟩⟩
  · intro l rate width flit hup
    refine (actPhy_run hp).trans ?_
    rw [if_pos (.inr (.inl hup))]
  · intro l rate width flit hup hfns hr0 hr5 hflit hw
    have hno : ¬ ((s.dev.linkFns l.val).isEmpty ∨ s.dev.linkUp l.val = true ∨ rate.val = 0 ∨ rate.val = 7 ∨
        (rate.val = 4 ∧ flit = false) ∨ widthOk width.val (s.dev.bif (l.val / 2)) = false) := by
      rintro (h | h | h | h | ⟨h, hf⟩ | h)
      · exact hfns (List.isEmpty_iff.mp h)
      · rw [hup] at h; cases h
      · omega
      · omega
      · rw [hflit h] at hf; cases hf
      · rw [hw] at h; cases h
    obtain ⟨p, hd⟩ := s.dev.trainLink_eq l.val width.val flit hr5
    obtain ⟨hbup, hbflit, hfrate, hfwidth⟩ := trainedStatus_fields flit (s.dev.bif (l.val / 2)) rate.isLt width.isLt
    have hreg : (s.dev.trainLink l.val rate.val width.val flit).reg (Reg.PCE_LINK_STATUSl l.val) =
        wd (trainedStatus rate.val width.val flit (s.dev.bif (l.val / 2))) := by
      rw [hd, Dev.reg_congr (Dev.rf_foldl_setFn _ _ _)]
      exact Dev.reg_setReg_same _ _ _
    refine ⟨_, (actPhy_run hp).trans (by rw [if_neg hno]), ?_, ?_, ?_, ?_, ?_, ?_⟩
    · rw [Dev.linkUp, Dev.bit, hreg, hbup]
    · rw [Dev.bit, hreg, hbflit]
    · rw [Dev.fld, hreg, hfrate]
    · rw [Dev.fld, hreg, hfwidth]
    · intro f hf
      rw [hd]
      exact Dev.present_showAll _ _ (.inl hf)
    · rw [hd]
      exact ((Dev.sameRegsBut.refl s.dev _).setReg (List.mem_singleton.mpr rfl)).of_rf (Dev.rf_foldl_setFn _ _ _)
  · intro e strap h0 h1
    have hne : Reg.PCE_LINK_STATUSl (2 * e.val) ≠ Reg.PCE_LINK_STATUSl (2 * e.val + 1) := linkStatus_inj (by omega)
    have hstrap (l : Nat) : Reg.GLB_STRAPS ≠ Reg.PCE_LINK_STATUSl l := by unfold Reg.GLB_STRAPS Reg.PCE_LINK_STATUSl; omega
    refine ⟨_, (actPhy_run hp).trans (by rw [if_neg (by rw [h0, h1]; decide)]), ?_, ?_, ?_⟩
    · rw [Dev.bit, Dev.sameRegsBut_startTraining _ _ _ (by simpa using hstrap _),
        Dev.sameRegsBut_startTraining _ _ _ (by simpa using hstrap _)]
      exact Dev.bit_setBit_same _ _ _ _ (by omega)
    · rw [Dev.fld, Dev.sameRegsBut_startTraining _ _ _ (by simpa using hne)]
      exact Dev.state_startTraining _ (List.ne_nil_of_mem (Dev.mem_linkFns_double _ e.isLt))
    · exact ((((Dev.sameRegsBut.refl s.dev _).setReg (by simp)).setReg (by simp)).setReg (by simp))
  · intro l hup
    refine ⟨_, (actPhy_run hp).trans (by rw [if_pos hup]), s.dev.linkDown_tags l.val⟩
  · intro hbme hw
    obtain ⟨t, ht, hfn, hev, hregs⟩ := Dev.stopped_function (fun p => { p with bme := false }) 0x30 1 hw (f := f.val)
    refine ⟨{ s with dev := t }, (actPhy_run hp).trans (by rw [if_pos (by rw [hpres, hbme]; rfl), ht]), ?_, ?_, hev, hregs⟩
    · simp only [hfn]
    · simp only [Dev.canIssue, hfn, Bool.and_false, Bool.false_and]
  · intro hflr
    refine (actPhy_run hp).trans ?_
    rw [hpres, hflr]; rfl
  · intro hflr hd3 hw
    obtain ⟨t, ht, hfn, hev, hregs⟩ := Dev.stopped_function (fun p => { p with d3 := true }) 0x30 1 hw (f := f.val)
    have hno : ¬ ((!(s.dev.fn f.val).present) = true ∨ (s.dev.fn f.val).flr = true ∨ (s.dev.fn f.val).d3 = true) := by
      rw [hpres, hflr, hd3]; decide
    refine ⟨{ s with dev := t }, (actPhy_run hp).trans (by simp only [if_neg hno, if_true, ht]), ?_, ?_, hev, hregs⟩
    · simp only [hfn]
    · simp only [Dev.canIssue, hfn, Bool.not_true, Bool.and_false, Bool.false_and]
  · intro hflr hd3
    have hno : ¬ ((!(s.dev.fn f.val).present) = true ∨ (s.dev.fn f.val).flr = true ∨ (s.dev.fn f.val).d3 = false) := by
      rw [hpres, hflr, hd3]; decide
    refine (actPhy_run hp).trans ?_
    simp only [if_neg hno, Bool.false_eq_true, if_false]
  · intro hw
    obtain ⟨t, ht, ⟨p, hfn⟩, hreads, hpi, hci, hev⟩ := Dev.reset_function 0x32 3 6 true true hw f.isLt (by decide)
    exact ⟨{ s with dev := t }, (actPhy_run hp).trans (by rw [if_pos hpres, ht]), congrArg PFn.flr hfn, congrArg PFn.bme hfn,
      congrArg PFn.heldStore hfn, hreads, hpi, hci, hev⟩
  · exact actPhy_run hp
  · intro hdet
    refine ⟨(act_run hr).trans ?_, fun sub => (act_run hr).trans ?_⟩
    · simp only [hdet, Bool.not_true, Bool.and_false, Bool.false_eq_true, if_false]
    · simp only [hdet, Bool.not_true, Bool.and_false, Bool.false_eq_true, if_false]
  · intro hdet hflit hst hidle hmin
    have hlt := Word.fld_lt (s.dev.reg (Reg.PCE_LINK_STATUSl l.val)) 3 5
    obtain ⟨hw, hs⟩ := s.dev.fld_setFld_setFld (Reg.PCE_LINK_STATUSl l.val)
      (s.dev.fld (Reg.PCE_LINK_STATUSl l.val) 3 5 / 2) 1 (by decide : 3 + 5 ≤ 11) (by decide : 11 + 3 ≤ 32)
      (lt_of_le_of_lt (Nat.div_le_self _ _) hlt) (by decide)
    refine ⟨_, exec_l0pEntry_ready hr hup hflit hst hidle hmin hdet, hw, hs, ?_⟩
    exact (s.dev.sameRegsBut_setFld _ _ _ _).trans (Dev.sameRegsBut_setFld _ _ _ _ _)
  · intro w hst hw hlt
    obtain ⟨hfw, hs⟩ := s.dev.fld_setFld_setFld (Reg.PCE_LINK_STATUSl l.val) w 0 (by decide : 3 + 5 ≤ 11) (by decide : 11 + 3 ≤ 32)
      hlt (by decide)
    refine ⟨_, exec_l0pExit_trained hr hup hst hw, hfw, hs, ?_⟩
    exact (s.dev.sameRegsBut_setFld _ _ _ _).trans (Dev.sameRegsBut_setFld _ _ _ _ _)
  · intro sub hdet hst hidle
    refine ⟨_, exec_l1Entry_ready sub hr hup hst hidle hdet, ?_, s.dev.sameRegsBut_setFld _ _ _ _⟩
    exact (Dev.fld_setFld_same _ _ _ _ _ (by decide)).trans (Nat.mod_eq_of_lt (by omega))

end Sys2Proof.Machine
end

section
/-! PROOFS. Completions and tags, translations, the message store and the MSI-X table (R151 to R156, R162, R163). -/

namespace Sys2Proof.Machine

/-! ## A tag that becomes free -/

/-- With no item left waiting for a tag, the tag is free and nothing is read. -/
theorem Dev.freedTag_idle {d : Dev} {l : Nat} (tag : Nat)
    (h : ∀ p ∈ d.rng.items, p.2.phase ≠ .reading) : d.freedTag l tag =
      ({ d with pce := { d.pce with reads := Map.del d.pce.reads (16384 * l + tag) } } : Dev).showTags l := by
  have hnone : (({ d with pce := { d.pce with reads := Map.del d.pce.reads (16384 * l + tag) } } : Dev).showTags l).waitingItem l =
      none := by
    unfold Dev.waitingItem Map.findKey?
    rw [List.find?_eq_none.mpr, Option.map_none]
    intro p hp
    simp [h p hp]
  simp only [Dev.freedTag, hnone]

theorem Dev.reads_freedTag_idle {d : Dev} {l : Nat} (tag : Nat) (h : ∀ p ∈ d.rng.items, p.2.phase ≠ .reading) :
    Map.get? (d.freedTag l tag).pce.reads (16384 * l + tag) = none := by
  rw [Dev.freedTag_idle tag h]; exact Map.get?_del_same _ _

theorem Dev.regs_freedTag_idle {d : Dev} {l : Nat} (tag : Nat) (h : ∀ p ∈ d.rng.items, p.2.phase ≠ .reading) :
    d.sameRegsBut (d.freedTag l tag) [Reg.PCE_TAGSl l] := by
  rw [Dev.freedTag_idle tag h]
  exact ((Dev.sameRegsBut.refl d _).of_rf rfl).setReg (List.mem_singleton.mpr rfl)

theorem Dev.rng_freedTag_idle {d : Dev} {l : Nat} (tag : Nat) (h : ∀ p ∈ d.rng.items, p.2.phase ≠ .reading) :
    (d.freedTag l tag).rng = d.rng := by
  rw [Dev.freedTag_idle tag h]; rfl

/-! ## Completions -/

/-- The item whose payload a read has brought whole. -/
def Dev.itemLoaded (d : Dev) (id : Nat) (bs : List Byte) : Dev := d.setItem id (fun i => { i with bytes := bs, phase := .loaded })

/-- The last data of a read load the one item there is. -/
theorem Dev.completion_whole {d : Dev} {l tag id : Nat} {r : PcieRead} {i : Item} {bs : List Byte} (hitem : r.item = .payload id)
    (hitems : d.rng.items = [(id, i)]) (hempty : i.bytes = []) (hlen : bs.length = fragBytes i.frags) :
    d.completion l tag r 0 false bs = (d.itemLoaded id bs).freedTag l tag := by
  have hget : Map.get? d.rng.items id = some i := by rw [hitems]; simp [Map.get?]
  have htake : bs.take (fragBytes i.frags) = bs := List.take_of_length_le hlen.le
  unfold Dev.completion
  simp only [Bool.false_eq_true, if_false, ne_eq, not_true_eq_false, hitem, hget, hempty, List.nil_append, htake, hlen, lt_irrefl]
  rfl

theorem Dev.itemLoaded_eq {d : Dev} {id : Nat} {i : Item} (bs : List Byte) (hitems : d.rng.items = [(id, i)]) :
    d.itemLoaded id bs = { d with rng := { d.rng with items := [(id, { i with bytes := bs, phase := .loaded })] } } := by
  have hget : Map.get? d.rng.items id = some i := by rw [hitems]; simp [Map.get?]
  unfold Dev.itemLoaded Dev.setItem
  rw [hget, hitems]
  simp [Map.put]

/-- The Lees log's words lie above its sequence number, below the endpoints' registers. -/
theorem Dev.reg_lees_other (d : Dev) (w0 w1 w2 w3 : Word) {k : Nat} (h : 0x300000 ≤ k) :
    (d.lees w0 w1 w2 w3).reg k = d.reg k := by
  have hseq : k ≠ Reg.CMD_LEES_SEQ := by unfold Reg.CMD_LEES_SEQ; omega
  have hlog : Reg.CMD_LEES ((d.regN Reg.CMD_LEES_SEQ % 1024) * 8) + 32 ≤ k := by unfold Reg.CMD_LEES; omega
  unfold Dev.lees Dev.inc
  rw [Dev.reg_setReg_other _ _ hseq, Dev.reg_setRegs_other _ _ _ (.inr hlog)]

theorem Dev.seq_lees (d : Dev) (w0 w1 w2 w3 : Word) :
    (d.lees w0 w1 w2 w3).reg Reg.CMD_LEES_SEQ = d.reg Reg.CMD_LEES_SEQ + 1 := by
  have hlog : Reg.CMD_LEES_SEQ < Reg.CMD_LEES ((d.regN Reg.CMD_LEES_SEQ % 1024) * 8) := by unfold Reg.CMD_LEES Reg.CMD_LEES_SEQ; omega
  unfold Dev.lees Dev.inc
  rw [Dev.reg_setReg_same, Dev.reg_setRegs_other _ _ _ (.inl hlog)]

theorem Dev.rng_lees (d : Dev) (w0 w1 w2 w3 : Word) : (d.lees w0 w1 w2 w3).rng = d.rng := by
  obtain ⟨rf, h⟩ := Dev.setRegs_rest d (Reg.CMD_LEES ((d.regN Reg.CMD_LEES_SEQ % 1024) * 8))
    [w0, w1, w2, w3, lo32 d.ptp.toNat, hi32 d.ptp.toNat, wd (d.regN Reg.CMD_LEES_SEQ), 0]
  simp only [Dev.lees, Dev.inc, Dev.setReg_rng, h]

/-- A late completion counted and reported, before its entry in the Lees log. -/
def Dev.lateCounted (d : Dev) (r : PcieRead) : Dev := (((d.requesterId r.fn).2.aer r.fn 5).pceCount r.fn 0 1).pceEvt r.fn 3

theorem Dev.lateCompletion_eq (d : Dev) (l tag : Nat) (r : PcieRead) (status n : Nat) : ∃ w0 w1 w2 w3,
    d.lateCompletion l tag r status n = ((d.lateCounted r).lees w0 w1 w2 w3).freedTag l tag := ⟨_, _, _, _, rfl⟩

/-- A late completion is logged, reported, and frees its tag (R163). -/
theorem Dev.lateCompletion_logged {d : Dev} {l : Nat} (tag : Nat) (r : PcieRead) (status n : Nat) (hl : l < 4) (h : d.rng.items = []) :
    Map.get? (d.lateCompletion l tag r status n).pce.reads (16384 * l + tag) = none ∧
      (d.lateCompletion l tag r status n).reg Reg.CMD_LEES_SEQ = d.reg Reg.CMD_LEES_SEQ + 1 ∧
      (d.lateCompletion l tag r status n).bit (Reg.PCE_EVT_STATUSf r.fn) 3 = true := by
  obtain ⟨w0, w1, w2, w3, e⟩ := d.lateCompletion_eq l tag r status n
  have hitems : ∀ p ∈ ((d.lateCounted r).lees w0 w1 w2 w3).rng.items, p.2.phase ≠ .reading := by
    rw [Dev.rng_lees]
    exact fun p hp => absurd (h ▸ hp) List.not_mem_nil
  have hseq : Reg.CMD_LEES_SEQ ∉ [Reg.PCE_TAGSl l] := by unfold Reg.CMD_LEES_SEQ Reg.PCE_TAGSl; simp; omega
  have hev : Reg.PCE_EVT_STATUSf r.fn ∉ [Reg.PCE_TAGSl l] := by unfold Reg.PCE_EVT_STATUSf Reg.PCE_TAGSl; simp; omega
  have hcounted : (d.lateCounted r).reg Reg.CMD_LEES_SEQ = d.reg Reg.CMD_LEES_SEQ := by
    unfold Dev.lateCounted Dev.pceEvt Dev.pceCount Dev.count
    rw [Dev.reg_sqSet_other _ _ (by unfold Reg.CMD_LEES_SEQ Reg.PCE_EVT_STATUSf; omega),
      Dev.reg_setReg_other _ _ (by unfold Reg.CMD_LEES_SEQ Reg.PCE_COUNTSf; omega)]
    rfl
  rw [e]
  refine ⟨Dev.reads_freedTag_idle tag hitems, ?_, ?_⟩
  · rw [Dev.regs_freedTag_idle tag hitems _ hseq, Dev.seq_lees, hcounted]
  · rw [Dev.bit, Dev.regs_freedTag_idle tag hitems _ hev, Dev.reg_lees_other _ _ _ _ _ (by unfold Reg.PCE_EVT_STATUSf; omega)]
    exact Dev.bit_sqSet_mem _ _ (by decide) (List.mem_singleton.mpr rfl)

/-- Data that no read asked for are counted (R163). -/
theorem exec_pcieCompletion_unread {s : State} {l : Fin 4} {tag : Fin 16384} (st : Fin 8) (p : Bool) (bs : List Byte)
    (hr : s.dev.running = true) (hup : s.dev.linkUp l.val = true) (hget : Map.get? s.dev.pce.reads (16384 * l.val + tag.val) = none) :
    exec (.pcieCompletion l tag st p bs) s = .next { s with dev :=
      (s.dev.aer ((s.dev.linkFns l.val).headD 0) 5).pceCount ((s.dev.linkFns l.val).headD 0) 1 1 } := by
  refine (act_run hr).trans ?_
  rw [hup, hget]; rfl

/-- Data of a read whose tag is known. -/
theorem exec_pcieCompletion_read {s : State} {l : Fin 4} {tag : Fin 16384} {r : PcieRead} (st : Fin 8) (p : Bool) (bs : List Byte)
    (hr : s.dev.running = true) (hup : s.dev.linkUp l.val = true) (hget : Map.get? s.dev.pce.reads (16384 * l.val + tag.val) = some r) :
    exec (.pcieCompletion l tag st p bs) s = .next { s with dev :=
      (if r.state = .quarantine then s.dev.lateCompletion l.val tag.val r st.val bs.length
       else s.dev.completion l.val tag.val r st.val p bs) } := by
  refine (act_run hr).trans ?_
  rw [hup, hget]; rfl

theorem exec_quarantineExpiry_free {s : State} {l : Fin 4} {tag : Fin 16384} {r : PcieRead} (hr : s.dev.running = true)
    (hget : Map.get? s.dev.pce.reads (16384 * l.val + tag.val) = some r) (hst : r.state = .quarantine) :
    exec (.quarantineExpiry l tag) s = .next { s with dev := s.dev.freedTag l.val tag.val } := by
  refine (act_run hr).trans ?_
  simp only [hget, if_pos hst]

/-- A read that timed out, its tag in quarantine, before the count of tags is shown. -/
def Dev.timedOut (d : Dev) (k : Nat) (r : PcieRead) : Dev :=
  let d := ((d.aer r.fn 4).pceCount r.fn 4 1).pceEvt r.fn 2
  { d with pce := { d.pce with reads := Map.put d.pce.reads k { r with state := .quarantine, item := .other } } }

theorem exec_completionTimeout_other {s : State} {l : Fin 4} {tag : Fin 16384} {r : PcieRead} (hr : s.dev.running = true)
    (hget : Map.get? s.dev.pce.reads (16384 * l.val + tag.val) = some r) (hst : r.state = .outstanding) (hitem : r.item = .other) :
    exec (.completionTimeout l tag) s = .next { s with dev := (s.dev.timedOut (16384 * l.val + tag.val) r).showTags l.val } := by
  refine (act_run hr).trans ?_
  simp only [hget, if_pos hst, Dev.failRead, hitem]
  rfl

/-! ## Translations -/

/-- A page found for which no item waits enters the cache (R151). -/
theorem exec_pageFound {s : State} {sl : Fin 8192} {a : Nat} (hr : s.dev.running = true) (hmem : (sl.val, a) ∈ s.dev.pce.pageReqs)
    (hidle : s.dev.pagedItems sl.val a = []) :
    exec (.pageRequestResponse sl a true) s = .next { s with dev := ({ s.dev with pce := { s.dev.pce with
      pageReqs := s.dev.pce.pageReqs.filter (· ≠ (sl.val, a)) } } : Dev).cacheAtc sl.val a } := by
  refine (act_run hr).trans ?_
  have hnone : ({ s.dev with pce := { s.dev.pce with pageReqs := s.dev.pce.pageReqs.filter (· ≠ (sl.val, a)) } } : Dev).pagedItems
    sl.val a = [] := hidle
  rw [if_neg (by simpa using hmem)]
  simp only [hnone, if_true, List.foldl_nil]

/-! ## The message store -/

/-- The words a master's window gives entry `e` of the message store. -/
def Dev.imsFill (d : Dev) (m e : Nat) (v : Word) (pend : Bool) : Dev :=
  let d := (List.range 3).foldl (fun d i => d.setReg (Reg.PCE_IMS_ENTRY e i) (d.reg (Reg.PCE_IMS_DATAm m i))) d
  let d := d.setReg (Reg.PCE_IMS_ENTRY e 0) (Word.setFld (d.reg (Reg.PCE_IMS_ENTRY e 0)) 0 2 0)
  d.setReg (Reg.PCE_IMS_ENTRY e 3) (Word.setBit (Word.setFld v 13 14 0) 29 pend)

/-- An entry that is not VALID becomes invalid again: its words alone are written. -/
theorem Dev.imsWrite_invalid {d : Dev} {m : Nat} {v : Word} (hv : Word.bit v 31 = false)
    (hold : Word.bit (d.reg (Reg.PCE_IMS_ENTRY (d.fld (Reg.PCE_IMS_INDEXm m) 0 17) 3)) 31 = false)
    (hpend : Word.bit (d.reg (Reg.PCE_IMS_ENTRY (d.fld (Reg.PCE_IMS_INDEXm m) 0 17) 3)) 29 = false) :
    d.imsWrite m v = d.imsFill m (d.fld (Reg.PCE_IMS_INDEXm m) 0 17) v false := by
  unfold Dev.imsWrite
  simp only [hv, hold, hpend, Bool.false_and, Bool.false_eq_true, if_false, Dev.when]
  rfl

/-- An entry made VALID takes a unit of its slice's pool where there is room, and is not written where there is none. -/
theorem Dev.imsWrite_valid {d : Dev} {m : Nat} {v : Word} (hv : Word.bit v 31 = true)
    (hold : Word.bit (d.reg (Reg.PCE_IMS_ENTRY (d.fld (Reg.PCE_IMS_INDEXm m) 0 17) 3)) 31 = false)
    (hpend : Word.bit (d.reg (Reg.PCE_IMS_ENTRY (d.fld (Reg.PCE_IMS_INDEXm m) 0 17) 3)) 29 = false) :
    d.imsWrite m v = if d.poolRoom (Word.fld v 0 13) 1 1 then
      (d.poolTake (Word.fld v 0 13) 1 1).imsFill m (d.fld (Reg.PCE_IMS_INDEXm m) 0 17) v false else d := by
  unfold Dev.imsWrite
  simp only [hv, hold, hpend, Bool.false_and, Bool.false_eq_true, if_false, Dev.when, Bool.not_false, Bool.and_true, Bool.true_and, if_true]
  cases d.poolRoom (Word.fld v 0 13) 1 1 <;> rfl

theorem Dev.imsFill_w3 (d : Dev) (m e : Nat) (v : Word) (pend : Bool) :
    (d.imsFill m e v pend).reg (Reg.PCE_IMS_ENTRY e 3) = Word.setBit (Word.setFld v 13 14 0) 29 pend := Dev.reg_setReg_same _ _ _

theorem imsEntry_ne {e i j : Nat} (h : i ≠ j) : Reg.PCE_IMS_ENTRY e i ≠ Reg.PCE_IMS_ENTRY e j := by
  unfold Reg.PCE_IMS_ENTRY; omega

theorem imsData_ne {e i j m : Nat} (hm : m < 16) (hj : j < 3) : Reg.PCE_IMS_DATAm m j ≠ Reg.PCE_IMS_ENTRY e i := by
  unfold Reg.PCE_IMS_ENTRY Reg.PCE_IMS_DATAm; omega

/-- Words 1 and 2 of a filled entry are the window's. -/
theorem Dev.imsFill_words (d : Dev) {m : Nat} (e : Nat) (v : Word) (pend : Bool) (hm : m < 16) :
    (d.imsFill m e v pend).reg (Reg.PCE_IMS_ENTRY e 1) = d.reg (Reg.PCE_IMS_DATAm m 1) ∧
      (d.imsFill m e v pend).reg (Reg.PCE_IMS_ENTRY e 2) = d.reg (Reg.PCE_IMS_DATAm m 2) := by
  unfold Dev.imsFill
  rw [show List.range 3 = [0, 1, 2] from rfl]
  simp only [List.foldl_cons, List.foldl_nil]
  constructor
  · rw [Dev.reg_setReg_other _ _ (imsEntry_ne (by decide)), Dev.reg_setReg_other _ _ (imsEntry_ne (by decide)),
      Dev.reg_setReg_other _ _ (imsEntry_ne (by decide)), Dev.reg_setReg_same, Dev.reg_setReg_other _ _ (imsData_ne hm (by decide))]
  · rw [Dev.reg_setReg_other _ _ (imsEntry_ne (by decide)), Dev.reg_setReg_other _ _ (imsEntry_ne (by decide)),
      Dev.reg_setReg_same, Dev.reg_setReg_other _ _ (imsData_ne hm (by decide)), Dev.reg_setReg_other _ _ (imsData_ne hm (by decide))]

theorem Dev.sameRegsBut_imsFill (d : Dev) (m e : Nat) (v : Word) (pend : Bool) :
    d.sameRegsBut (d.imsFill m e v pend) ((List.range 4).map (Reg.PCE_IMS_ENTRY e)) := by
  have hmem {i : Nat} (hi : i < 4) : Reg.PCE_IMS_ENTRY e i ∈ (List.range 4).map (Reg.PCE_IMS_ENTRY e) :=
    List.mem_map_of_mem (List.mem_range.mpr hi)
  exact (((((Dev.sameRegsBut.refl d _).setReg (hmem (by decide))).setReg (hmem (by decide))).setReg (hmem (by decide))).setReg
    (hmem (by decide))).setReg (hmem (by decide))

theorem Dev.slc_imsFill (d : Dev) (m e : Nat) (v : Word) (pend : Bool) : (d.imsFill m e v pend).slc = d.slc := rfl

/-- A unit taken of a pool is held. -/
theorem Dev.holds_poolTake (d : Dev) (s pool n : Nat) : (d.poolTake s pool n).holds s pool = d.holds s pool + n := by
  exact (Map.getD_putD _ _ _ _ _).trans (if_pos rfl)

/-! ## MSI-X -/

/-- A vector with nothing pending is unmasked and sends nothing. -/
theorem Dev.unmask_quiet {d : Dev} {f vec : Nat} (h : vec ∉ (d.fn f).pba) :
    d.unmask f vec = d.setFn f (fun p => { p with unmasked := vec :: p.unmasked.filter (· ≠ vec) }) := by
  have hno : ((d.setFn f (fun p => { p with unmasked := vec :: p.unmasked.filter (· ≠ vec) })).fn f).pba.contains vec = false := by
    rw [Dev.fn_setFn, if_pos rfl]
    exact Bool.eq_false_iff.mpr fun hc => h (List.contains_iff_mem.mp hc)
  unfold Dev.unmask
  simp only [hno, Bool.false_and, Bool.false_eq_true, if_false]

/-- Settles O22: with no item waiting a freed tag is read off at once; an entry of the message store is its window's words. -/
theorem completionsTranslationsInterruptsAct : Obligations.CompletionsTranslationsInterruptsAct := by
  unfold Obligations.CompletionsTranslationsInterruptsAct
  refine ⟨fun s l tag hr => ⟨?_, ?_, ?_, ?_⟩, fun s hr => ⟨?_, ?_, ?_, ?_, ?_, ?_, ?_⟩⟩
  · intro st p bs hup hget
    refine ⟨_, exec_pcieCompletion_unread st p bs hr hup hget, rfl, Dev.reg_setReg_same _ _ _, ?_⟩
    exact ((Dev.sameRegsBut.refl _ _).of_rf rfl).setReg (List.mem_singleton.mpr rfl)
  · intro r id i bs hup hget hst hitem hitems hempty hlen
    have hq : r.state ≠ .quarantine := by rw [hst]; decide
    have hloaded := Dev.itemLoaded_eq bs hitems
    have hidle : ∀ p ∈ (s.dev.itemLoaded id bs).rng.items, p.2.phase ≠ .reading := by
      rw [hloaded]
      intro p hp
      rw [List.mem_singleton.mp hp]
      exact ItemPhase.noConfusion
    refine ⟨{ s with dev := (s.dev.itemLoaded id bs).freedTag l.val tag.val }, (exec_pcieCompletion_read 0 false bs hr hup hget).trans ?_, Dev.reads_freedTag_idle _ hidle, ?_, ?_⟩
    · rw [if_neg hq]
      exact congrArg (fun t : Dev => Host.Outcome.next { s with dev := t }) (Dev.completion_whole hitem hitems hempty hlen)
    · exact (congrArg (fun r : Rng => Map.get? r.items id) ((Dev.rng_freedTag_idle _ hidle).trans (congrArg Dev.rng hloaded))).trans
        (if_pos rfl)
    · refine Dev.sameRegsBut.trans (t := s.dev.itemLoaded id bs) ?_ (Dev.regs_freedTag_idle _ hidle)
      rw [hloaded]; exact (Dev.sameRegsBut.refl _ _).of_rf rfl
  · intro r hget hst hitem
    have hne : Reg.PCE_EVT_STATUSf r.fn ≠ Reg.PCE_TAGSl l.val := by unfold Reg.PCE_EVT_STATUSf Reg.PCE_TAGSl; omega
    refine ⟨_, exec_completionTimeout_other hr hget hst hitem, Map.get?_put_same _ _ _, ?_, ?_⟩
    · refine (Dev.bit_setReg_other _ _ _ hne).trans ?_
      exact Dev.bit_sqSet_mem _ _ (by decide) (List.mem_singleton.mpr rfl)
    · refine Dev.sameRegsBut.setReg ?_ (by simp)
      refine Dev.sameRegsBut.of_rf (t := ((s.dev.aer r.fn 4).pceCount r.fn 4 1).pceEvt r.fn 2) ?_ rfl
      exact ((Dev.sameRegsBut.refl _ _).setReg (by simp)).trans ((Dev.sameRegsBut_sqSet _ _ _).mono (by simp))
  · intro r hget hst hitems
    have hidle : ∀ p ∈ s.dev.rng.items, p.2.phase ≠ .reading := fun p hp => absurd (hitems ▸ hp) List.not_mem_nil
    refine ⟨⟨_, exec_quarantineExpiry_free hr hget hst, Dev.reads_freedTag_idle _ hidle, Dev.regs_freedTag_idle _ hidle⟩,
      fun st p bs hup => ⟨_, (exec_pcieCompletion_read st p bs hr hup hget).trans (by rw [if_pos hst]), ?_⟩⟩
    exact Dev.lateCompletion_logged tag.val r st.val bs.length l.isLt hitems
  · intro sl a ok hno
    refine (act_run hr).trans ?_
    rw [if_pos (by simpa using hno)]
  · intro sl a hmem hidle
    refine ⟨_, exec_pageFound hr hmem hidle, List.mem_cons_self, fun hm => ?_, rfl⟩
    exact of_decide_eq_true (List.mem_filter.mp hm).2 rfl
  · intro l sl f hf
    refine ⟨_, (act_run hr).trans (by rw [hf]), Map.get?_put_same _ _ _, ?_⟩
    rfl
  · intro m v hv hold hpend
    obtain ⟨h1, h2⟩ := s.dev.imsFill_words (s.dev.fld (Reg.PCE_IMS_INDEXm m.val) 0 17) v false m.isLt
    refine ⟨_, (act_run hr).trans (by rw [Dev.imsWrite_invalid hv hold hpend]), h1, h2, ?_, ?_, ?_, s.dev.sameRegsBut_imsFill _ _ _ _⟩
    · rw [Dev.fld, Dev.imsFill_w3, Word.setBit, Word.fld_setFld_other _ _ _ _ _ _ (by decide) (by decide),
        Word.fld_setFld_other _ _ _ _ _ _ (by decide) (by decide)]
    · rw [Dev.fld, Dev.imsFill_w3, Word.setBit, Word.fld_setFld_other _ _ _ _ _ _ (by decide) (by decide),
        Word.fld_setFld_other _ _ _ _ _ _ (by decide) (by decide)]
    · rw [Dev.bit, Dev.imsFill_w3, Word.bit_setBit_other _ _ _ _ (by decide) (by decide),
        Word.bit_setFld_other _ _ _ _ _ (by decide) (by decide)]
  · intro m v hv hold hpend
    have heq := Dev.imsWrite_valid hv hold hpend
    refine ⟨fun hroom => (act_run hr).trans (by rw [heq, hroom]; rfl), fun hroom => ⟨_, (act_run hr).trans (by rw [heq, if_pos hroom]), ?_, ?_⟩⟩
    · rw [Dev.bit, Dev.imsFill_w3, Word.bit_setBit_other _ _ _ _ (by decide) (by decide),
        Word.bit_setFld_other _ _ _ _ _ (by decide) (by decide), hv]
    · exact s.dev.holds_poolTake _ _ _
  · intro f vec hpres hno
    refine ⟨_, (act_run hr).trans (by rw [if_pos hpres, Dev.unmask_quiet hno]), ?_, ?_⟩
    · rw [Dev.fn_setFn, if_pos rfl]
      exact List.mem_cons_self
    · rfl
  · intro f on hpres hflr
    refine ⟨_, (act_run hr).trans (by rw [if_pos (by rw [hpres, hflr]; rfl)]), ?_, ?_, ?_⟩
    · rw [Dev.fn_setFn, if_pos rfl]
    · intro hon
      rw [Dev.fn_setFn, if_pos rfl, if_pos hon]
    · rfl

end Sys2Proof.Machine
end

section
/-! PROOFS. Corks asked for by register, the quiesce walk's steps, the fence of a destroyed slice (R176 to R191). -/

namespace Sys2Proof.Machine

/-! ## Registers of the slice table have no effect beyond their value -/

theorem inRows_none {k base stride n len : Nat} (h : k < base ∨ base + n * stride ≤ k) : inRows k base stride n len = none :=
  if_neg (by omega)

/-- A register of the slice table changes without an effect beyond its value. -/
theorem Dev.hook_sliceTable (d : Dev) {k : Nat} (old : Word) (hlo : 0x420000 ≤ k) (hhi : k < 0x460000) : d.hook k old = d := by
  have hctrl : k ∉ (List.range 4).map Reg.GAU_REFn_CTRL := fun hm => by
    obtain ⟨i, hi, rfl⟩ := List.mem_map.mp hm
    have := List.mem_range.mp hi
    unfold Reg.GAU_REFn_CTRL at *; omega
  have hchan : k ∉ (List.range 64).map Reg.GAU_CHANc_CTRL := fun hm => by
    obtain ⟨i, hi, rfl⟩ := List.mem_map.mp hm
    have := List.mem_range.mp hi
    unfold Reg.GAU_CHANc_CTRL at *; omega
  have htie : k ≠ Reg.GAU_TIE := by unfold Reg.GAU_TIE; omega
  have hcap : ¬ (k = Reg.EBS_CAP_HOST ∨ k = Reg.EBS_CAP_BMC) := by unfold Reg.EBS_CAP_HOST Reg.EBS_CAP_BMC; omega
  unfold Dev.hook
  rw [if_neg hctrl, if_neg hchan, if_neg htie, if_neg hcap]
  unfold Dev.hookLate thrCfgAt chanCfgAt
  simp only [Reg.CLS_TBLt_CFG, Reg.FPC_THR_CFG, Reg.FPC_CHh_CFG, Reg.SCH_NCFG0, Reg.MAC_PGg_MODE, Reg.MAC_PORTp_CTRL, Reg.MAC_PAIRk,
    Reg.PBU_SV, Reg.PBU_SUB, Reg.PBU_PUB, Reg.TRL_PORTt_CTRL, Reg.TRL_MEMBER]
  repeat rw [inRows_none (by omega)]
  simp only [Option.bind_none]
  rw [if_neg (by unfold Reg.TRL_DOMAIN; omega), if_neg (by unfold Reg.GLB_PAIR; omega)]

theorem Dev.beforeLate_sliceTable (d : Dev) {k : Nat} (hhi : k < 0x460000) : d.beforeLate k = d := by
  unfold Dev.beforeLate
  rw [inRows_none (by unfold Reg.PBU_GRP; omega)]

/-- A register of the slice table takes a value at once. -/
theorem Dev.force_sliceTable (d : Dev) {k : Nat} (v : Word) (hlo : 0x420000 ≤ k) (hhi : k < 0x460000) :
    d.force k v = ((d.setReg k v).markExpert k false).unstage k := by
  unfold Dev.force
  rw [Dev.beforeLate_sliceTable d hhi]
  exact Dev.hook_sliceTable _ _ hlo hhi

/-- The quotas of a slice read 0. -/
def Dev.clearQuotas (d : Dev) (sl : Nat) : Dev := (List.range 6).foldl (fun d i => d.force (Reg.SLC_QUOTA2 sl + 4 * i) 0) d

theorem Dev.clearQuotas_keeps (d : Dev) {sl : Nat} (hl : sl < 8192) :
    (d.clearQuotas sl).slc = d.slc ∧ d.sameRegsBut (d.clearQuotas sl) ((List.range 6).map (fun i => Reg.SLC_QUOTA2 sl + 4 * i)) := by
  have hkey (is : List Nat) (his : ∀ i ∈ is, i < 6) (t : Dev) :
      (is.foldl (fun d i => d.force (Reg.SLC_QUOTA2 sl + 4 * i) 0) t).slc = t.slc ∧
        t.sameRegsBut (is.foldl (fun d i => d.force (Reg.SLC_QUOTA2 sl + 4 * i) 0) t)
          ((List.range 6).map (fun i => Reg.SLC_QUOTA2 sl + 4 * i)) := by
    induction is generalizing t with
    | nil => exact ⟨rfl, .refl _ _⟩
    | cons i is ih =>
      have hi := his i List.mem_cons_self
      have hforce : t.force (Reg.SLC_QUOTA2 sl + 4 * i) 0 =
          ((t.setReg (Reg.SLC_QUOTA2 sl + 4 * i) 0).markExpert (Reg.SLC_QUOTA2 sl + 4 * i) false).unstage (Reg.SLC_QUOTA2 sl + 4 * i) :=
        t.force_sliceTable 0 (by unfold Reg.SLC_QUOTA2; omega) (by unfold Reg.SLC_QUOTA2; omega)
      obtain ⟨hslc, hregs⟩ := ih (fun j hj => his j (List.mem_cons_of_mem _ hj)) (t.force (Reg.SLC_QUOTA2 sl + 4 * i) 0)
      rw [hforce] at hslc hregs
      rw [List.foldl_cons, hforce]
      refine ⟨hslc, Dev.sameRegsBut.trans ?_ hregs⟩
      intro j hj
      rw [Dev.reg_unstage, Dev.reg_markExpert, Dev.reg_setReg_other]
      rintro rfl
      exact hj (List.mem_map_of_mem (List.mem_range.mpr hi))
  exact hkey _ (fun i hi => List.mem_range.mp hi) d

theorem sliceStatus_not_quota {sl j : Nat} (hj : j < 2) : Reg.SLC_SLICE_STATUS sl j ∉ (List.range 6).map (fun i => Reg.SLC_QUOTA2 sl + 4 * i) := by
  intro hm
  obtain ⟨i, -, he⟩ := List.mem_map.mp hm
  unfold Reg.SLC_QUOTA2 Reg.SLC_SLICE_STATUS at he
  omega

/-! ## Corks -/

/-- A live slice's cork ends with the event that names it and the notification of its home. -/
theorem Dev.cork_ends {d : Dev} {sl : Nat} (cause : Nat) (h : d.sliceState sl = 1) :
    ∃ u : Dev, d.cork sl cause = (u.slcEvt sl 0).notifyFn (Reg.SLC_NOTIFY_VECTORf 0) (u.home sl) := by
  unfold Dev.cork
  simp only [h, true_or, if_true]
  exact ⟨_, rfl⟩

theorem slcEvt_bit (d : Dev) (sl : Nat) {b : Nat} (hb : b < 24) : (d.slcEvt sl b).bit Reg.SLC_EVT_STATUS b = true := by
  unfold Dev.slcEvt Dev.setN
  rw [Dev.bit_setReg_other _ _ _ (by decide)]
  exact Dev.bit_sqSet_mem _ _ hb (List.mem_singleton.mpr rfl)

theorem Dev.cork_event {d : Dev} {sl : Nat} (cause : Nat) (h : d.sliceState sl = 1) :
    (d.cork sl cause).bit Reg.SLC_EVT_STATUS 0 = true ∧ (d.cork sl cause).reg Reg.SLC_EVT_SLICE = wd sl := by
  obtain ⟨u, hu⟩ := Dev.cork_ends cause h
  have told := Dev.ToldHost.notifyFn (u.slcEvt sl 0) (Reg.SLC_NOTIFY_VECTORf 0) (f := u.home sl) (Word.fld_lt _ 20 2)
  rw [hu, told.bit _ (by decide), told.regs _ (by decide)]
  exact ⟨slcEvt_bit u sl (by decide), Dev.reg_setReg_same _ _ _⟩

/-! ## The walk -/

theorem Dev.stepStart_plain (d : Dev) (sl : Nat) {k : Nat} (h : k ∈ [2, 4, 5, 7, 8, 10]) : d.stepStart sl k = d := by
  simp only [List.mem_cons, List.not_mem_nil, or_false] at h
  rcases h with rfl | rfl | rfl | rfl | rfl | rfl <;> rfl

theorem Dev.rf_finishAll (cs : List Cmd) (r : Cmd → Res) (d : Dev) :
    (cs.foldl (fun d c => d.finish c.master c.tag c.gen (r c)) d).rf = d.rf := by
  induction cs generalizing d with
  | nil => rfl
  | cons c cs ih => exact (ih _).trans (Dev.rf_finish d c.master c.tag c.gen (r c))

/-- A walk that ends makes its slice QUIESCED and names it. -/
theorem Dev.walkEnd_quiesced (d : Dev) (sl : Nat) : (d.walkEnd sl).sliceState sl = 4 ∧ (d.walkEnd sl).bit Reg.SLC_EVT_STATUS 2 = true ∧
    d.sameRegsBut (d.walkEnd sl) [Reg.SLC_SLICE_STATUS sl 0, Reg.SLC_EVT_STATUS, Reg.SLC_EVT_SLICE] := by
  have hrf : (d.walkEnd sl).rf = ((d.setSlice sl 4).slcEvt sl 2).rf := Dev.rf_finishAll _ _ _
  have hslice : Reg.SLC_SLICE_STATUS sl 0 ≠ Reg.SLC_EVT_SLICE := by unfold Reg.SLC_SLICE_STATUS Reg.SLC_EVT_SLICE; omega
  have hev : Reg.SLC_SLICE_STATUS sl 0 ≠ Reg.SLC_EVT_STATUS := by unfold Reg.SLC_SLICE_STATUS Reg.SLC_EVT_STATUS; omega
  refine ⟨?_, ?_, ?_⟩
  · rw [Dev.sliceState, Dev.fld, Dev.reg_congr hrf, Dev.slcEvt, Dev.setN, Dev.reg_setReg_other _ _ hslice, Dev.reg_sqSet_other _ _ hev]
    exact Dev.fld_setFld_same _ _ _ _ _ (by decide)
  · rw [Dev.bit, Dev.reg_congr hrf]
    exact slcEvt_bit _ sl (by decide)
  · refine Dev.sameRegsBut.of_rf (t := (d.setSlice sl 4).slcEvt sl 2) ?_ hrf
    refine Dev.sameRegsBut.setReg ?_ (by simp)
    exact ((Dev.sameRegsBut.refl d _).setReg (by simp)).trans ((Dev.sameRegsBut_sqSet _ _ _).mono (by simp))

/-- The walk's record moved to its next step. -/
def Dev.walkMoved (d : Dev) (sl : Nat) (w : Walk) : Dev :=
  { d with slc := { d.slc with walks := Map.put d.slc.walks sl { w with step := w.step + 1 } } }

theorem exec_quiesceStepDone_done {s : State} {slice : Fin 8192} {w : Walk} (hr : s.dev.running = true)
    (hw : Map.get? s.dev.slc.walks slice.val = some w) (hst : s.dev.sliceState slice.val = 3) (hstep : w.step ≤ 10)
    (hdone : s.dev.stepDone slice.val w.step = true) : exec (.quiesceStepDone slice) s = .next { s with dev :=
      (if w.step = 10 then (s.dev.walkMoved slice.val w).walkEnd slice.val
       else (s.dev.walkMoved slice.val w).stepStart slice.val (w.step + 1)) } := by
  refine (act_run hr).trans ?_
  simp only [hw]
  rw [if_neg (by rw [hdone]; simp [hst]; omega)]
  rfl

/-! ## The fence -/

theorem Dev.sendStop_sent {d : Dev} {sl : Nat} {f : Fence} (h : Map.get? d.slc.fences sl = some f) (hs : f.stopSent = true) :
    d.sendStop sl = d := by
  unfold Dev.sendStop
  rw [h]
  exact if_pos (.inl hs)

/-- The slice FREE under its next incarnation. -/
def Dev.freed (d : Dev) (sl : Nat) : Dev :=
  (((d.setN (Reg.SLC_SLICE_STATUS sl 0) 0).setN (Reg.SLC_SLICE_STATUS sl 1) ((d.incarnation sl + 1) % 256 * 2 ^ 24)).clearQuotas sl)

/-- The fence closed: the slice freed, its event 3 named. -/
def Dev.fenceClosed (d : Dev) (sl : Nat) : Dev :=
  ({ d.freed sl with slc := { (d.freed sl).slc with fences := Map.del (d.freed sl).slc.fences sl } } : Dev).slcEvt sl 3

theorem exec_fenceClose_stopped {s : State} {slice : Fin 8192} {f : Fence} (hr : s.dev.running = true)
    (hf : Map.get? s.dev.slc.fences slice.val = some f) (hs : f.stopSent = true) : exec (.fenceClose slice) s = .next { s with dev :=
      (if s.dev.sliceState slice.val ≠ 5 ∨ s.dev.fenceClear slice.val f = false then s.dev else s.dev.fenceClosed slice.val) } := by
  refine (act_run hr).trans ?_
  simp only [Dev.sendStop_sent hf hs, hf]
  rfl

theorem Dev.freed_status (d : Dev) {sl : Nat} (hl : sl < 8192) : (d.freed sl).reg (Reg.SLC_SLICE_STATUS sl 0) = 0 ∧
    (d.freed sl).reg (Reg.SLC_SLICE_STATUS sl 1) = wd ((d.incarnation sl + 1) % 256 * 2 ^ 24) := by
  have hne : Reg.SLC_SLICE_STATUS sl 0 ≠ Reg.SLC_SLICE_STATUS sl 1 := by unfold Reg.SLC_SLICE_STATUS; omega
  obtain ⟨-, hregs⟩ := (((d.setN (Reg.SLC_SLICE_STATUS sl 0) 0).setN (Reg.SLC_SLICE_STATUS sl 1)
    ((d.incarnation sl + 1) % 256 * 2 ^ 24))).clearQuotas_keeps hl
  unfold Dev.freed
  rw [hregs _ (sliceStatus_not_quota (by decide)), hregs _ (sliceStatus_not_quota (by decide))]
  refine ⟨?_, Dev.reg_setReg_same _ _ _⟩
  exact (Dev.reg_setReg_other _ _ hne).trans (Dev.reg_setReg_same _ _ _)

theorem Dev.fenceClosed_freed (d : Dev) {sl : Nat} (hl : sl < 8192) : (d.fenceClosed sl).sliceState sl = 0 ∧
    (d.fenceClosed sl).incarnation sl = (d.incarnation sl + 1) % 256 ∧ Map.get? (d.fenceClosed sl).slc.fences sl = none ∧
    (d.fenceClosed sl).bit Reg.SLC_EVT_STATUS 3 = true := by
  obtain ⟨h0, h1⟩ := d.freed_status hl
  have hev (t : Dev) (j : Nat) : (t.slcEvt sl 3).reg (Reg.SLC_SLICE_STATUS sl j) = t.reg (Reg.SLC_SLICE_STATUS sl j) := by
    rw [Dev.slcEvt, Dev.setN, Dev.reg_setReg_other _ _ (by unfold Reg.SLC_SLICE_STATUS Reg.SLC_EVT_SLICE; omega),
      Dev.reg_sqSet_other _ _ (by unfold Reg.SLC_SLICE_STATUS Reg.SLC_EVT_STATUS; omega)]
  unfold Dev.fenceClosed
  refine ⟨?_, ?_, Map.get?_del_same _ _, slcEvt_bit _ _ (by decide)⟩
  · rw [Dev.sliceState, Dev.fld, hev]
    exact congrArg (fun w => Word.fld w 29 3) h0
  · rw [Dev.incarnation, Dev.fld, hev]
    refine (congrArg (fun w => Word.fld w 24 8) h1).trans ?_
    rw [Word.fld_wd _ (by decide)]
    omega

/-- Settles O23: a first cork, by the rule of `cork`; the walk's end and the fence's close write the status words read here. -/
theorem slicesCorkQuiesceAndFence : Obligations.SlicesCorkQuiesceAndFence := by
  unfold Obligations.SlicesCorkQuiesceAndFence
  refine ⟨fun s v hr => ⟨?_, ?_⟩, fun s slice w hr hw => ⟨?_, ?_, ?_⟩, fun s slice f hr hf hs => ⟨?_, ?_⟩⟩
  · intro hno
    refine (act_run hr).trans ?_
    unfold Dev.corkWrite
    rw [if_neg]
    rintro ⟨hb, hst, hinc⟩
    rcases hno with h | h | h
    · rw [h] at hb; cases hb
    · exact hst h
    · exact h hinc
  · intro hb hst hinc hch hc
    have hl : Word.fld v 0 13 < 8192 := Word.fld_lt v 0 13
    have hkeep := Dev.keepsSlices_cork 9 hl hst hc hch
    obtain ⟨hev, hname⟩ := Dev.cork_event (sl := Word.fld v 0 13) 9 hst
    have hrun : exec (.slcCorkWrite v) s = .next { s with dev := s.dev.cork (Word.fld v 0 13) 9 } := by
      refine (act_run hr).trans ?_
      rw [Dev.corkWrite, if_pos ⟨hb, by rw [hst]; decide, hinc⟩]
    refine ⟨_, hrun, ?_, ?_, hev, hname⟩
    · rw [hkeep.sliceState hl, Dev.sliceState_recordCork]
    · rw [hkeep.fld hl, Dev.cause_recordCork _ _ (by decide)]
  · intro hno
    refine (act_run hr).trans ?_
    simp only [hw]
    rw [if_pos (.inr (.inr hno))]
  · intro hst hdone hstep
    have hnext : w.step + 1 ∈ [2, 4, 5, 7, 8, 10] := by simp only [List.mem_cons, List.not_mem_nil, or_false] at hstep ⊢; omega
    have hle : w.step < 10 := by simp only [List.mem_cons, List.not_mem_nil, or_false] at hstep; omega
    rw [exec_quiesceStepDone_done hr hw hst hle.le hdone, if_neg hle.ne, Dev.stepStart_plain _ _ hnext]
    rfl
  · intro hst hdone hstep
    obtain ⟨h4, hev, hregs⟩ := (s.dev.walkMoved slice.val w).walkEnd_quiesced slice.val
    have hrun : exec (.quiesceStepDone slice) s = .next { s with dev := (s.dev.walkMoved slice.val w).walkEnd slice.val } := by
      rw [exec_quiesceStepDone_done hr hw hst hstep.le (hstep ▸ hdone), if_pos hstep]
    refine ⟨_, hrun, h4, hev, ?_⟩
    exact Dev.sameRegsBut.trans (t := s.dev.walkMoved slice.val w) (fun _ _ => rfl) hregs
  · intro hno
    rw [exec_fenceClose_stopped hr hf hs, if_pos (.inr hno)]
  · intro hclear hst
    have hrun : exec (.fenceClose slice) s = .next { s with dev := s.dev.fenceClosed slice.val } := by
      rw [exec_fenceClose_stopped hr hf hs, if_neg (by rw [hclear, hst]; decide)]
    exact ⟨_, hrun, s.dev.fenceClosed_freed slice.isLt⟩

end Sys2Proof.Machine
end

section
/-! PROOFS. Doorbells, their service, entries fetched (R197 to R213). -/

namespace Sys2Proof.Machine

/-! ## The cork of an ACTIVE slice without channels, whatever its recorded cause -/

/-- A slice's cork counted, and its cause recorded where none was. -/
def Dev.causeNoted (d : Dev) (sl cause : Nat) : Dev :=
  if (d.stat sl 7 1).fld (Reg.SLC_SLICE_STATUS sl 0) 25 4 = 0 then (d.stat sl 7 1).setFld (Reg.SLC_SLICE_STATUS sl 0) 25 4 cause
  else d.stat sl 7 1

/-- The slice CORKED, before its event. -/
def Dev.corked (d : Dev) (sl cause : Nat) : Dev := (d.causeNoted sl cause).setFld (Reg.SLC_SLICE_STATUS sl 0) 29 3 2

theorem Dev.sliceChans_corked (d : Dev) {sl : Nat} (cause : Nat) (hl : sl < 8192) : (d.corked sl cause).sliceChans sl = d.sliceChans sl := by
  have hkey : Reg.SLC_SLICE_STATUS sl 0 < 0x600000 := by unfold Reg.SLC_SLICE_STATUS; omega
  rw [Dev.corked, Dev.setFld, Dev.sliceChans_setReg _ _ _ hkey, Dev.causeNoted]
  split
  · rw [Dev.setFld, Dev.sliceChans_setReg _ _ _ hkey, Dev.sliceChans_stat _ _ hl (by decide)]
  · rw [Dev.sliceChans_stat _ _ hl (by decide)]

theorem Dev.cork_active {d : Dev} {sl : Nat} (cause : Nat) (hl : sl < 8192) (hst : d.sliceState sl = 1) (hch : d.sliceChans sl = []) :
    d.cork sl cause = ((d.corked sl cause).slcEvt sl 0).notifyFn (Reg.SLC_NOTIFY_VECTORf 0) ((d.corked sl cause).home sl) := by
  have hchs := (d.sliceChans_corked cause hl).trans hch
  unfold Dev.corked Dev.causeNoted at hchs ⊢
  unfold Dev.cork
  simp only [hst, true_or, if_true, hchs, List.foldl_nil]

theorem Dev.sliceState_cork {d : Dev} {sl : Nat} (cause : Nat) (hl : sl < 8192) (hst : d.sliceState sl = 1) (hch : d.sliceChans sl = []) :
    (d.cork sl cause).sliceState sl = 2 := by
  have hkeep : (d.corked sl cause).KeepsSlices (d.cork sl cause) := by
    rw [Dev.cork_active cause hl hst hch]
    exact (Dev.KeepsSlices.slcEvt ..).trans (Dev.KeepsSlices.notifyFn _ _ (Word.fld_lt _ 20 2))
  rw [hkeep.sliceState hl]
  exact Dev.fld_setFld_same _ _ _ _ _ (by decide)

/-- A cork writes registers of the slices, and those that telling a host changes. -/
theorem Dev.reg_cork {d : Dev} {sl : Nat} (cause : Nat) (hl : sl < 8192) (hst : d.sliceState sl = 1) (hch : d.sliceChans sl = [])
    {k : Nat} (hk : k < 0x400000 ∨ 0x500000 ≤ k) (hh : ¬ hostReg k) : (d.cork sl cause).reg k = d.reg k := by
  have told := Dev.ToldHost.notifyFn ((d.corked sl cause).slcEvt sl 0) (Reg.SLC_NOTIFY_VECTORf 0) (f := (d.corked sl cause).home sl)
    (Word.fld_lt _ 20 2)
  have hstatus : k ≠ Reg.SLC_SLICE_STATUS sl 0 := by unfold Reg.SLC_SLICE_STATUS; omega
  have hstat : (d.stat sl 7 1).reg k = d.reg k := by
    unfold Dev.stat Dev.count64 Dev.set64
    rw [Dev.reg_setReg_other _ _ (by unfold Reg.SLC_STATSs; omega), Dev.reg_setReg_other _ _ (by unfold Reg.SLC_STATSs; omega)]
  have hnoted : (d.causeNoted sl cause).reg k = d.reg k := by
    unfold Dev.causeNoted
    split
    · exact (Dev.reg_setReg_other _ _ hstatus).trans hstat
    · exact hstat
  rw [Dev.cork_active cause hl hst hch, told.regs k hh, Dev.slcEvt, Dev.setN, Dev.reg_setReg_other _ _ (by unfold Reg.SLC_EVT_SLICE; omega),
    Dev.reg_sqSet_other _ _ (by unfold Reg.SLC_EVT_STATUS; omega), Dev.corked, Dev.setFld, Dev.reg_setReg_other _ _ hstatus, hnoted]

/-! ## A doorbell's word -/

theorem Dev.mem_pending_askService (d : Dev) (q : Nat) : q ∈ (d.askService q).rng.pending := by
  unfold Dev.askService
  split
  next h => exact List.contains_iff_mem.mp h
  next => exact List.mem_append_right _ (List.mem_singleton.mpr rfl)

theorem Dev.rf_askService (d : Dev) (q : Nat) : (d.askService q).rf = d.rf := by unfold Dev.askService; split <;> rfl

/-- A valid tail of an SQ is taken. -/
theorem Dev.doorbell_tail {d : Dev} {sl q : Nat} {w : Word} (hdir : Word.bit w 31 = false) (hres : Word.fld w 26 5 = 0)
    (hq : d.queue? 0 sl (Word.fld w 16 10) = some q) (hrun : d.qStopped 0 q = false) (hfwd : fwd16 (Word.fld w 0 16) (d.hostIdx 0 q) < 32768)
    (hsize : fwd16 (Word.fld w 0 16) (d.devIdx 0 q) ≤ d.qSize 0 q) : d.doorbell sl w = d.tailDoorbell q (Word.fld w 0 16) := by
  have hno : ¬ (Word.fld w 26 5 ≠ 0 ∨ 32768 ≤ fwd16 (Word.fld w 0 16) (d.hostIdx 0 q) ∨
      d.qSize 0 q < fwd16 (Word.fld w 0 16) (d.devIdx 0 q)) := by omega
  unfold Dev.doorbell
  simp only [hdir, hq, hrun, Bool.false_eq_true, if_false, if_neg hno]

theorem Dev.tailDoorbell_recorded {d : Dev} {q v : Nat} (hv : v < 65536) (hgate : d.bit (Reg.RNG_QCFG2 0 q) 27 = false)
    (hne : v ≠ d.devIdx 0 q) : (d.tailDoorbell q v).hostIdx 0 q = v ∧ q ∈ (d.tailDoorbell q v).rng.pending ∧
      (d.tailDoorbell q v).devIdx 0 q = d.devIdx 0 q := by
  have hdev : (d.setFld (Reg.RNG_QSTATE0 0 q) 0 16 v).devIdx 0 q = d.devIdx 0 q := Dev.fld_setFld_other _ _ _ (by decide) (by decide)
  have hcfg : (d.setFld (Reg.RNG_QSTATE0 0 q) 0 16 v).bit (Reg.RNG_QCFG2 0 q) 27 = false :=
    (Dev.bit_setReg_other _ _ _ (by unfold Reg.RNG_QCFG2 Reg.RNG_QSTATE0; omega)).trans hgate
  have hrf := (d.setFld (Reg.RNG_QSTATE0 0 q) 0 16 v).rf_askService q
  unfold Dev.tailDoorbell
  simp only [hdev, hcfg, hne, Bool.false_eq_true, or_self, if_false]
  refine ⟨?_, Dev.mem_pending_askService _ q, ?_⟩
  · rw [Dev.hostIdx, Dev.fld, Dev.reg_congr hrf]
    exact (Dev.fld_setFld_same _ _ _ _ _ (by decide)).trans (Nat.mod_eq_of_lt hv)
  · rw [Dev.devIdx, Dev.fld, Dev.reg_congr hrf]
    exact hdev

/-- A doorbell of an SQ that does not exist. -/
theorem Dev.doorbell_missing {d : Dev} {sl : Nat} {w : Word} (hdir : Word.bit w 31 = false)
    (hq : d.queue? 0 sl (Word.fld w 16 10) = none) : d.doorbell sl w = d.doorbellBad sl 0 (Word.fld w 16 10) := by
  unfold Dev.doorbell
  simp only [hdir, hq, Bool.false_eq_true, if_false]

theorem Dev.doorbellBad_corks {d : Dev} {sl : Nat} (cq n : Nat) (hl : sl < 8192) (hst : d.sliceState sl = 1) (hch : d.sliceChans sl = []) :
    (d.doorbellBad sl cq n).sliceState sl = 2 ∧ (d.doorbellBad sl cq n).bit Reg.RNG_EVT_STATUS 4 = true := by
  have hkeep : d.KeepsSlices ((d.sqSet Reg.RNG_EVT_STATUS [4]).setN Reg.RNG_EVT_QUEUE (cq * 2 ^ 23 + sl * 1024 + n)) :=
    (Dev.KeepsSlices.setReg d _ (by decide)).trans (Dev.KeepsSlices.setReg _ _ (by decide))
  have hst' := (hkeep.sliceState hl).trans hst
  have hch' : ((d.sqSet Reg.RNG_EVT_STATUS [4]).setN Reg.RNG_EVT_QUEUE (cq * 2 ^ 23 + sl * 1024 + n)).sliceChans sl = [] :=
    ((Dev.sliceChans_setReg _ _ _ (by decide)).trans (Dev.sliceChans_setReg d _ _ (by decide))).trans hch
  unfold Dev.doorbellBad
  refine ⟨Dev.sliceState_cork 5 hl hst' hch', ?_⟩
  rw [Dev.bit, Dev.reg_cork 5 hl hst' hch' (by decide) (by decide)]
  exact (Dev.bit_setReg_other _ _ _ (by decide)).trans (Dev.bit_sqSet_mem _ _ (by decide) (List.mem_singleton.mpr rfl))

/-- A valid head of a CQ is taken. -/
theorem Dev.doorbell_head {d : Dev} {sl q : Nat} {w : Word} (hdir : Word.bit w 31 = true) (hres : Word.fld w 26 4 = 0)
    (hq : d.queue? 1 sl (Word.fld w 16 10) = some q) (hrun : d.qStopped 1 q = false)
    (hfwd : fwd16 (Word.fld w 0 16) (d.hostIdx 1 q) = fwd16 (d.devIdx 1 q) (d.hostIdx 1 q)) :
    d.doorbell sl w = d.headDoorbell q (Word.fld w 0 16) (Word.bit w 30) := by
  have hno : ¬ (Word.fld w 26 4 ≠ 0 ∨ fwd16 (d.devIdx 1 q) (d.hostIdx 1 q) < fwd16 (Word.fld w 0 16) (d.hostIdx 1 q)) := by omega
  unfold Dev.doorbell
  simp only [hdir, hq, hrun, Bool.false_eq_true, if_false, if_true, if_neg hno]

/-! ## What CQ_FULL's update leaves -/

theorem Dev.rng_setBit (d : Dev) (k i : Nat) (b : Bool) : (d.setBit k i b).rng = d.rng := rfl


theorem state0_ne_state1 (cq q cq' q' : Nat) : Reg.RNG_QSTATE0 cq q ≠ Reg.RNG_QSTATE1 cq' q' := by
  have h0 : Reg.RNG_QSTATE0 cq q % 64 = 16 := by unfold Reg.RNG_QSTATE0; omega
  have h1 : Reg.RNG_QSTATE1 cq' q' % 64 = 20 := by unfold Reg.RNG_QSTATE1; omega
  intro h
  rw [h, h1] at h0
  cases h0

/-- `t` differs from `d` in registers alone, and in none of the queues' indices, nor in bits 0 to 27 and 29 of their second state words. -/
structure Dev.FullShown (d t : Dev) : Prop where
  rng : t.rng = d.rng
  idx : ∀ cq q, t.reg (Reg.RNG_QSTATE0 cq q) = d.reg (Reg.RNG_QSTATE0 cq q)
  armed : ∀ cq q, t.bit (Reg.RNG_QSTATE1 cq q) 29 = d.bit (Reg.RNG_QSTATE1 cq q) 29

namespace Dev.FullShown

theorem refl (d : Dev) : d.FullShown d := ⟨rfl, fun _ _ => rfl, fun _ _ => rfl⟩

theorem trans {d t u : Dev} (h : d.FullShown t) (h' : t.FullShown u) : d.FullShown u :=
  ⟨h'.rng.trans h.rng, fun cq q => (h'.idx cq q).trans (h.idx cq q), fun cq q => (h'.armed cq q).trans (h.armed cq q)⟩

/-- A bit other than ARMED of a second state word. -/
theorem setBit (d : Dev) (cq q : Nat) {i : Nat} (b : Bool) (hi : i ≠ 29) : d.FullShown (d.setBit (Reg.RNG_QSTATE1 cq q) i b) where
  rng := Dev.rng_setBit ..
  idx cq' q' := Dev.reg_setReg_other _ _ (state0_ne_state1 cq' q' cq q)
  armed cq' q' := by
    by_cases h : Reg.RNG_QSTATE1 cq' q' = Reg.RNG_QSTATE1 cq q
    · rw [h, Dev.bit_setBit_other _ _ _ (by decide) (Ne.symm hi)]
    · exact Dev.bit_setReg_other _ _ _ h

/-- A register outside the queues' words. -/
theorem setReg (d : Dev) {k : Nat} (v : Word) (hk : k < 0x20000000) : d.FullShown (d.setReg k v) :=
  ⟨rfl, fun _ _ => Dev.reg_setReg_other _ _ (by unfold Reg.RNG_QSTATE0; omega),
    fun _ _ => Dev.bit_setReg_other _ _ _ (by unfold Reg.RNG_QSTATE1; omega)⟩

theorem setBits (qs : List Nat) (d : Dev) (cq : Nat) (b : Bool) :
    d.FullShown (qs.foldl (fun d q => d.setBit (Reg.RNG_QSTATE1 cq q) 28 b) d) := by
  induction qs generalizing d with
  | nil => exact refl d
  | cons q qs ih => exact (setBit d cq q b (by decide)).trans (ih _)

theorem rngEvt (d : Dev) (b cq q : Nat) : d.FullShown (d.rngEvt b cq q) :=
  (setReg d _ (by decide)).trans (setReg _ _ (by decide))

theorem showFull (d : Dev) (cq : Nat) : d.FullShown (d.showFull cq) := by
  unfold Dev.showFull
  have h := (setBit d 1 cq (decide (d.room cq = 0)) (by decide : 31 ≠ 29)).trans (setBits ((d.setBit (Reg.RNG_QSTATE1 1 cq) 31
    (decide (d.room cq = 0))).boundSqs cq) _ 0 (decide (d.room cq = 0)))
  dsimp only
  split
  · exact h.trans (rngEvt ..)
  · exact h

end Dev.FullShown

/-- A head of a CQ with nothing spilled, moved to the tail: no delay is left, and ARM arms. -/
theorem Dev.headDoorbell_emptied {d : Dev} {q v : Nat} (arm : Bool) (hv : v < 65536) (hdev : d.devIdx 1 q = v) (hspill : d.spillOf q = []) :
    (d.headDoorbell q v arm).hostIdx 1 q = v ∧ Map.get? (d.headDoorbell q v arm).rng.delay q = none ∧
      (arm = true → (d.headDoorbell q v arm).bit (Reg.RNG_QSTATE1 1 q) 29 = true) := by
  have hdrain (c : Bool) : (if c = true then (d.setFld (Reg.RNG_QSTATE0 1 q) 0 16 v).spillDrain q 65 else d.setFld (Reg.RNG_QSTATE0 1 q) 0 16 v) =
      d.setFld (Reg.RNG_QSTATE0 1 q) 0 16 v := by
    have hnone : (d.setFld (Reg.RNG_QSTATE0 1 q) 0 16 v).spillOf q = [] := hspill
    cases c
    · rfl
    · simp only [if_true, Dev.spillDrain, hnone]
  obtain ⟨u, hu⟩ : ∃ u, (if arm then (d.setFld (Reg.RNG_QSTATE0 1 q) 0 16 v).setBit (Reg.RNG_QSTATE1 1 q) 29 true
      else d.setFld (Reg.RNG_QSTATE0 1 q) 0 16 v) = u := ⟨_, rfl⟩
  have hword : u.reg (Reg.RNG_QSTATE0 1 q) = (d.setFld (Reg.RNG_QSTATE0 1 q) 0 16 v).reg (Reg.RNG_QSTATE0 1 q) := by
    rw [← hu]
    split
    · exact Dev.reg_setReg_other _ _ (state0_ne_state1 1 q 1 q)
    · rfl
  have hhost : u.hostIdx 1 q = v := by
    rw [Dev.hostIdx, Dev.fld, hword]
    exact (Dev.fld_setFld_same _ _ _ _ _ (by decide)).trans (Nat.mod_eq_of_lt hv)
  have hidx : u.devIdx 1 q = v := by
    rw [Dev.devIdx, Dev.fld, hword]
    exact (Dev.fld_setFld_other d _ _ (by decide) (by decide)).trans hdev
  have hused : u.cqUsed q = 0 := by rw [Dev.cqUsed, hhost, hidx, fwd16]; omega
  have harm : arm = true → u.bit (Reg.RNG_QSTATE1 1 q) 29 = true := by
    rintro rfl
    rw [← hu, if_pos rfl, Dev.bit_setBit_same _ _ _ _ (by decide)]
  have hhead : d.headDoorbell q v arm = ({ u with rng := { u.rng with delay := Map.del u.rng.delay q } } : Dev).showFull q := by
    unfold Dev.headDoorbell
    simp only [hdrain, hu, Dev.cqDelay, hused, if_true]
  have hfull := Dev.FullShown.showFull ({ u with rng := { u.rng with delay := Map.del u.rng.delay q } } : Dev) q
  rw [hhead]
  refine ⟨?_, ?_, fun ha => (hfull.armed 1 q).trans (harm ha)⟩
  · rw [Dev.hostIdx, Dev.fld, hfull.idx]
    exact hhost
  · rw [hfull.rng]
    exact Map.get?_del_same _ _

/-! ## Entries fetched -/

theorem Dev.rng_setFld (d : Dev) (k lo n v : Nat) : (d.setFld k lo n v).rng = d.rng := rfl

/-- An entry consumed moves the head of its SQ and reserves room: nothing else of the queues' records. -/
theorem Dev.consume_moves (d : Dev) (q : Nat) : (d.consume q).1 = d.devIdx 0 q ∧ (d.consume q).2.rng = d.rng ∧
    (d.consume q).2.devIdx 0 q = (d.devIdx 0 q + 1) % 65536 := by
  have hidx : (d.setFld (Reg.RNG_QSTATE0 0 q) 16 16 (d.devIdx 0 q + 1)).devIdx 0 q = (d.devIdx 0 q + 1) % 65536 :=
    Dev.fld_setFld_same _ _ _ _ _ (by decide)
  have hrng := d.rng_setFld (Reg.RNG_QSTATE0 0 q) 16 16 (d.devIdx 0 q + 1)
  unfold Dev.consume
  dsimp only
  split
  next cq _ =>
    have hfull := Dev.FullShown.showFull ((d.setFld (Reg.RNG_QSTATE0 0 q) 16 16 (d.devIdx 0 q + 1)).setFld (Reg.RNG_QSTATE1 1 cq) 0 16
      ((d.setFld (Reg.RNG_QSTATE0 0 q) 16 16 (d.devIdx 0 q + 1)).reserved cq + 1)) cq
    refine ⟨rfl, ?_, ?_⟩
    · rw [Dev.reserveCq, hfull.rng, Dev.rng_setFld, hrng]
    · refine Eq.trans ?_ hidx
      exact congrArg (fun w => Word.fld w 16 16) ((hfull.idx 0 q).trans (Dev.reg_setReg_other _ _ (state0_ne_state1 0 q 1 cq)))
  next => exact ⟨rfl, hrng, hidx⟩

/-- The item of an entry just fetched. -/
def Dev.fetchedItem (d : Dev) (q : Nat) (entry table : List Word) : Item :=
  ⟨q, d.qSlice 0 q, (d.consume q).1, entry, fragsOf (if Word.bit (wordAt entry 0) 26 then table else entry.drop 8)
    (Word.fld (wordAt entry 0) 12 9), .reading, [], 0, (d.consume q).2.entryKind q entry, 0, none, none, 0, 0, none⟩

/-- The device with the item of an entry just fetched. -/
def Dev.withItem (d : Dev) (id : Nat) (it : Item) : Dev :=
  { d with rng := { d.rng with nextItem := id + 1, items := Map.put d.rng.items id it } }

/-- A receive entry that passes every check is posted. -/
theorem Dev.fetchEntry_receive {d : Dev} {q : Nat} {entry table : List Word} {code : Nat} (fault : Option Nat)
    (hop : Word.fld (wordAt entry 0) 28 4 = 2) (hok : d.entryFault q entry table code = none) :
    d.fetchEntry q entry table code fault = ((d.consume q).2.withItem d.rng.nextItem (d.fetchedItem q entry table)).setItem d.rng.nextItem
      (fun i => { i with phase := .posted }) := by
  unfold Dev.fetchEntry
  simp only [hop, hok, Option.isNone_none, Bool.true_and, show decide (2 = 1) = false from rfl, Bool.false_and, Bool.false_eq_true, if_false]
  rfl

theorem Dev.setItem_withItem (d : Dev) (id : Nat) (it : Item) (g : Item → Item) : (d.withItem id it).setItem id g =
    { d.withItem id it with rng := { (d.withItem id it).rng with items := Map.put (d.withItem id it).rng.items id (g it) } } := by
  have hget : Map.get? (d.withItem id it).rng.items id = some it := Map.get?_put_same _ _ _
  unfold Dev.setItem
  rw [hget]

/-! ## The rows -/

section
variable {s : State} {f : Fin 4} {addr : Nat} (w hi : Word) (hr : s.dev.running = true) (hpres : (s.dev.fn f.val).present = true)
  (hl : addr / 4096 < 8192) (hal : addr % 4 = 0)
include hr hpres hl hal

/-- A doorbell of four bytes through a function that is not its slice's home. -/
theorem exec_doorbell_foreign (hh : s.dev.home (addr / 4096) ≠ f.val) :
    exec (.doorbellWrite f addr 4 w hi) s = .next { s with dev := (s.dev.pceCount f.val 2 1).pceEvt f.val 1 } := by
  refine (act_run hr).trans ?_
  simp only [hpres, hal, Bool.not_true, Bool.false_eq_true, false_or, not_le.mpr hl, if_false, ne_eq, not_true_eq_false, false_and, hh,
    not_false_eq_true, if_true]

theorem exec_doorbell_home (hh : s.dev.home (addr / 4096) = f.val) :
    exec (.doorbellWrite f addr 4 w hi) s = .next { s with dev := (s.dev.wakeLink (s.dev.linkOf f.val)).doorbell (addr / 4096) w } := by
  refine (act_run hr).trans ?_
  simp only [hpres, hal, Bool.not_true, Bool.false_eq_true, false_or, not_le.mpr hl, if_false, ne_eq, not_true_eq_false, false_and, hh,
    if_neg (show ¬ 4 = 8 by decide)]

end

theorem not_hostReg_rng {k : Nat} (h : 0x20000000 ≤ k) : ¬ hostReg k := by omega

theorem state_not_host (cq q : Nat) : ¬ hostReg (Reg.RNG_QSTATE0 cq q) ∧ ¬ hostReg (Reg.RNG_QSTATE1 cq q) ∧ ¬ hostReg (Reg.RNG_QCFG2 cq q) :=
  ⟨not_hostReg_rng (by unfold Reg.RNG_QSTATE0; omega), not_hostReg_rng (by unfold Reg.RNG_QSTATE1; omega),
    not_hostReg_rng (by unfold Reg.RNG_QCFG2; omega)⟩

namespace Dev.ToldHost

variable {d t : Dev}

theorem rng (h : d.ToldHost t) : t.rng = d.rng := by rw [h.rest]

theorem hostIdx (h : d.ToldHost t) (cq q : Nat) : t.hostIdx cq q = d.hostIdx cq q := h.fld _ _ (state_not_host cq q).1

theorem devIdx (h : d.ToldHost t) (cq q : Nat) : t.devIdx cq q = d.devIdx cq q := h.fld _ _ (state_not_host cq q).1

theorem qSize (h : d.ToldHost t) (cq q : Nat) : t.qSize cq q = d.qSize cq q := h.fld _ _ (state_not_host cq q).2.2

theorem queue? (h : d.ToldHost t) (cq s n : Nat) : t.queue? cq s n = d.queue? cq s n := by rw [Dev.queue?, h.rng]; rfl

theorem qStopped (h : d.ToldHost t) (cq q : Nat) : t.qStopped cq q = d.qStopped cq q := by rw [Dev.qStopped, h.rng]; rfl

theorem spillOf (h : d.ToldHost t) (q : Nat) : t.spillOf q = d.spillOf q := by rw [Dev.spillOf, h.rng]; rfl

theorem sliceState (h : d.ToldHost t) {sl : Nat} (hl : sl < 8192) : t.sliceState sl = d.sliceState sl :=
  h.fld _ _ (by unfold Reg.SLC_SLICE_STATUS; omega)

theorem sliceChans (h : d.ToldHost t) (sl : Nat) : t.sliceChans sl = d.sliceChans sl := by
  have howner : ∀ c < 64, t.chOwner c = d.chOwner c := fun c hc => by
    unfold Dev.chOwner
    rw [h.regs _ (by unfold Reg.DMA_CHc_OWNER; omega)]
  unfold Dev.sliceChans Dev.chSlice
  exact List.filter_congr fun c hc => by rw [howner c (List.mem_range.mp hc)]

end Dev.ToldHost

/-! ## Angle doorbells and the service -/

/-- The firings left when the first is taken. -/
def Dev.fired (d : Dev) (fs : List Firing) : Dev := { d with gau := { d.gau with firings := fs } }

/-- An angle event for a gated SQ with entries: what is recorded may be fetched, and its service is asked for. -/
def Dev.gateOpened (d : Dev) (q : Nat) : Dev :=
  let d := ({ d with rng := { d.rng with gateTail := Map.put d.rng.gateTail q (d.hostIdx 0 q) } } : Dev).askService q
  { d with rng := { d.rng with angled := q :: d.rng.angled.filter (· ≠ q) } }

theorem Dev.askService_rest (d : Dev) (q : Nat) : ∃ p, d.askService q = { d with rng := { d.rng with pending := p } } := by
  unfold Dev.askService
  split
  · exact ⟨d.rng.pending, rfl⟩
  · exact ⟨_, rfl⟩

theorem Dev.gateOpened_keeps (d : Dev) (q : Nat) : (d.gateOpened q).gau = d.gau ∧ q ∈ (d.gateOpened q).rng.pending ∧
    q ∈ (d.gateOpened q).rng.angled ∧ Map.get? (d.gateOpened q).rng.gateTail q = some (d.hostIdx 0 q) ∧ (d.gateOpened q).rf = d.rf := by
  obtain ⟨p, hp⟩ := ({ d with rng := { d.rng with gateTail := Map.put d.rng.gateTail q (d.hostIdx 0 q) } } : Dev).askService_rest q
  have hmem := ({ d with rng := { d.rng with gateTail := Map.put d.rng.gateTail q (d.hostIdx 0 q) } } : Dev).mem_pending_askService q
  unfold Dev.gateOpened
  rw [hp] at hmem ⊢
  exact ⟨rfl, hmem, List.mem_cons_self, Map.get?_put_same _ _ _, rfl⟩

section
variable {s : State} {slice : Fin 8192} {f : Firing} {fs : List Firing} (hr : s.dev.running = true)
  (hf : s.dev.gau.firings = f :: fs) (ha : f.action = 4) (ht : f.target = slice.val)
include hr hf ha ht

theorem exec_angleDoorbell_missing (hq : s.dev.queue? 0 slice.val (Word.fld f.arg 0 10) = none) :
    exec (.angleDoorbell slice) s = .next { s with dev :=
      ((s.dev.fired fs).count (Reg.RNG_COUNTS 2) 1).sqSet Reg.RNG_EVT_STATUS [0] } := by
  have hq' : (s.dev.fired fs).queue? 0 slice.val (Word.fld f.arg 0 10) = none := hq
  refine (act_run hr).trans ?_
  rw [Dev.takeFiring_head hf ha ht]
  unfold Dev.fired at hq'
  simp only [hq']
  rfl

theorem exec_angleDoorbell_gated {q : Nat} (hq : s.dev.queue? 0 slice.val (Word.fld f.arg 0 10) = some q) (hst : s.dev.sliceState slice.val = 1)
    (hgate : s.dev.bit (Reg.RNG_QCFG2 0 q) 27 = true) (hne : s.dev.hostIdx 0 q ≠ s.dev.devIdx 0 q) :
    exec (.angleDoorbell slice) s = .next { s with dev := (s.dev.fired fs).gateOpened q } := by
  have hq' : (s.dev.fired fs).queue? 0 slice.val (Word.fld f.arg 0 10) = some q := hq
  have hst' : ¬ (s.dev.fired fs).sliceState slice.val ≠ 1 := fun h => h hst
  have hgate' : (s.dev.fired fs).bit (Reg.RNG_QCFG2 0 q) 27 = true := hgate
  have hne' : ¬ ({ s.dev.fired fs with rng := { (s.dev.fired fs).rng with
    gateTail := Map.put (s.dev.fired fs).rng.gateTail q ((s.dev.fired fs).hostIdx 0 q) } } : Dev).hostIdx 0 q =
      ({ s.dev.fired fs with rng := { (s.dev.fired fs).rng with
        gateTail := Map.put (s.dev.fired fs).rng.gateTail q ((s.dev.fired fs).hostIdx 0 q) } } : Dev).devIdx 0 q := hne
  refine (act_run hr).trans ?_
  rw [Dev.takeFiring_head hf ha ht]
  unfold Dev.fired at *
  simp only [hq', if_neg hst', hgate', if_true, if_neg hne']
  rfl

end

/-- The entries of an SQ up to `tail` may be fetched. -/
def Dev.served (d : Dev) (q tail : Nat) : Dev :=
  { d with rng := { d.rng with
    pending := d.rng.pending.filter (· ≠ q), angled := d.rng.angled.filter (· ≠ q), fetchTo := Map.put d.rng.fetchTo q tail } }

section
variable {s : State} {q : Fin 131072} {t : Dev} (hr : s.dev.running = true) (hp : s.dev.rng.pending.contains q.val = true)
  (hst : s.dev.sliceState (s.dev.qSlice 0 q.val) = 1) (hq : s.dev.qStopped 0 q.val = false)
include hr hp hst hq

theorem exec_sqDoorbellService_offered {ok : Bool} (ho : s.dev.offer .doorbell q.val (s.dev.sqClass q.val) (s.dev.unitCost 7 0)
    (some (s.dev.qSlice 0 q.val)) (s.dev.rng.angled.contains q.val) = (ok, t)) :
    exec (.sqDoorbellService q) s = .next { s with dev := (if ok then t.served q.val
      (if t.bit (Reg.RNG_QCFG2 0 q.val) 27 then Map.getD t.rng.gateTail q.val (t.devIdx 0 q.val) else t.hostIdx 0 q.val) else t) } := by
  have hno : ¬ (s.dev.rng.pending.contains q.val = false ∨ s.dev.sliceState (s.dev.qSlice 0 q.val) ≠ 1 ∨ s.dev.qStopped 0 q.val = true) := by
    rw [hp, hst, hq]; decide
  refine (act_run hr).trans ?_
  simp only [if_neg hno, ho]
  rfl

end

/-- Settles O26: each row by its rule; what shows a full CQ writes bits that no index holds. -/
theorem doorbellsAndFetchesAct : Obligations.DoorbellsAndFetchesAct := by
  unfold Obligations.DoorbellsAndFetchesAct
  refine ⟨fun s f addr w hi hr hpres hl hal => ⟨?_, ?_, ?_, ?_⟩, fun s hr => ⟨fun slice f fs hf ha ht => ⟨?_, ?_⟩,
    fun q t hp hst hq => ⟨?_, ?_⟩⟩, fun s q entry table code fault hr => ⟨?_, ?_⟩⟩
  · intro hh
    refine ⟨_, exec_doorbell_foreign w hi hr hpres hl hal hh, Dev.bit_sqSet_mem _ _ (by decide) (List.mem_singleton.mpr rfl), ?_⟩
    exact ((Dev.sameRegsBut.refl _ _).setReg (by simp)).trans ((Dev.sameRegsBut_sqSet _ _ _).mono (by simp))
  · intro q hh hdir hres hq hrun hfwd hsize hgate hne
    have told := Dev.ToldHost.wakeLink s.dev (Dev.ToldHost.linkOf_lt s.dev f.isLt)
    have hrow := exec_doorbell_home w hi hr hpres hl hal hh
    rw [Dev.doorbell_tail hdir hres ((told.queue? _ _ _).trans hq) ((told.qStopped _ _).trans hrun) (by rwa [told.hostIdx])
      (by rwa [told.devIdx, told.qSize])] at hrow
    obtain ⟨hhost, hmem, hdev⟩ := Dev.tailDoorbell_recorded (Word.fld_lt w 0 16) ((told.bit _ (state_not_host 0 q).2.2).trans hgate)
      (by rwa [told.devIdx])
    exact ⟨_, hrow, hhost, hmem, hdev.trans (told.devIdx 0 q)⟩
  · intro hh hdir hq hst hch
    have told := Dev.ToldHost.wakeLink s.dev (Dev.ToldHost.linkOf_lt s.dev f.isLt)
    have hrow := exec_doorbell_home w hi hr hpres hl hal hh
    rw [Dev.doorbell_missing hdir ((told.queue? _ _ _).trans hq)] at hrow
    exact ⟨_, hrow, Dev.doorbellBad_corks 0 _ hl ((told.sliceState hl).trans hst) ((told.sliceChans _).trans hch)⟩
  · intro q hh hdir hres hq hrun hfwd hdev hspill
    have told := Dev.ToldHost.wakeLink s.dev (Dev.ToldHost.linkOf_lt s.dev f.isLt)
    have hrow := exec_doorbell_home w hi hr hpres hl hal hh
    rw [Dev.doorbell_head hdir hres ((told.queue? _ _ _).trans hq) ((told.qStopped _ _).trans hrun)
      (by rw [told.hostIdx, told.devIdx, hfwd])] at hrow
    exact ⟨_, hrow, Dev.headDoorbell_emptied _ (Word.fld_lt w 0 16) ((told.devIdx _ _).trans hdev) ((told.spillOf q).trans hspill)⟩
  · intro hq
    refine ⟨_, exec_angleDoorbell_missing hr hf ha ht hq, rfl, Dev.bit_sqSet_mem _ _ (by decide) (List.mem_singleton.mpr rfl), ?_⟩
    refine Dev.sameRegsBut.trans (t := (s.dev.fired fs).count (Reg.RNG_COUNTS 2) 1) ?_ ((Dev.sameRegsBut_sqSet _ _ _).mono (by simp))
    exact Dev.sameRegsBut.setReg (t := s.dev.fired fs) (fun _ _ => rfl) (by simp)
  · intro q hq hst hgate hne
    obtain ⟨hgau, hpend, hang, htail, hrf⟩ := (s.dev.fired fs).gateOpened_keeps q
    exact ⟨_, exec_angleDoorbell_gated hr hf ha ht hq hst hgate hne, congrArg Gau.firings hgau, hpend, hang, htail, hrf⟩
  · intro ho
    exact exec_sqDoorbellService_offered hr hp hst hq ho
  · intro ho hgate
    have hrow := exec_sqDoorbellService_offered hr hp hst hq ho
    rw [if_pos rfl, if_neg (by rw [hgate]; decide)] at hrow
    exact ⟨_, hrow, fun hm => of_decide_eq_true (List.mem_filter.mp hm).2 rfl, Map.get?_put_same _ _ _, rfl⟩
  · intro hno
    refine (act_run hr).trans ?_
    rw [hno]; rfl
  · intro hyes hnvq hop hok
    have hrow : exec (.sqEntryFetch q entry table code fault) s =
        .next { s with dev := s.dev.fetchEntry q.val entry table code.val fault } := by
      refine (act_run hr).trans ?_
      rw [hyes, hnvq]; rfl
    rw [Dev.fetchEntry_receive fault hop hok, Dev.setItem_withItem] at hrow
    obtain ⟨hi, -, hdev⟩ := s.dev.consume_moves q.val
    exact ⟨_, _, hrow, Map.get?_put_same _ _ _, rfl, rfl, hi, rfl, rfl, hdev⟩

end Sys2Proof.Machine
end

section
/-! PROOFS. O27, refuted: a queue is freed by writing its registers' reset values, and only the 131,072 queues of each kind have a
QSTATE2 that resets to the free mark; a state whose queue map names a device number beyond them has a queue that never reads free. -/

namespace Sys2Proof.Machine

/-- QUEUE_DESTROY of SQ 0 of slice 3, started. -/
def destroyCmd : Cmd := ⟨5, wd 0x0201, wd (3 * 65536 + 1), wd 8, [0, 0], .started, 1, 0, 7, false, [], 0, false, [], 0⟩

/-- A running device with that command, the slice QUIESCED, its SQ 0 mapped to device number 1,048,576. -/
def strayQueue : State := { State.reset with dev :=
  { (Dev.reset.setFld Reg.GLB_BOOT 28 4 7).setFld (Reg.SLC_SLICE_STATUS 3 0) 29 3 4 with
    cmd := { Dev.reset.cmd with cmds := [destroyCmd] }
    rng := { Dev.reset.rng with qmap := [(qkey 0 3 0, 1048576)] } } }

/-- The second state word of that queue resets to 0, not to the free mark. -/
theorem regAfter_strayQueue : regAfter (exec (.queueDestroy 5 1 0) strayQueue) (Reg.RNG_QSTATE2 0 1048576) = 0#32 := by
  decide +kernel

/-- Refutes O27: after the destruction of the queue of device number 1,048,576 its QSTATE2 reads 0, which is not the mark of a free queue. -/
theorem not_transmitItemsAndQueueOpcodesAct : ¬ Obligations.TransmitItemsAndQueueOpcodesAct := by
  unfold Obligations.TransmitItemsAndQueueOpcodesAct
  intro h
  obtain ⟨-, -, -, -, hdestroy, -⟩ := h.2 strayQueue 5 1 0 destroyCmd (by decide +kernel)
  obtain ⟨t, hrun, -, -, hfree⟩ := hdestroy 1048576 ⟨rfl, by decide +kernel, rfl⟩ (by decide +kernel) (by decide +kernel)
    (by decide +kernel)
  have hafter := regAfter_strayQueue
  rw [hrun] at hafter
  have hmark : t.dev.reg (Reg.RNG_QSTATE2 0 1048576) = BitVec.allOnes 32 := of_decide_eq_true hfree
  exact absurd (hmark.symm.trans hafter) (by decide)

end Sys2Proof.Machine
end

section
/-! PROOFS. The DMA engine: kicks, disables, descriptors, stops (R216 to R226). -/

namespace Sys2Proof.Machine

/-! ## Writes to host memory -/

/-- The registers that a write to host memory may change: those that telling a host changes, and the slices' dirty logs. -/
abbrev memWriteReg (k : Nat) : Prop := hostReg k ∨ (0x400000 ≤ k ∧ k < 0x460000)

/-- `t` is `d` but for what writes to host memory, interrupts and marked pages change. -/
structure Dev.HostWritten (d t : Dev) : Prop where
  regs : ∀ k, ¬ memWriteReg k → t.reg k = d.reg k
  rest : t = { d with rf := { d.rf with act := t.rf.act }, pce := t.pce, slc := t.slc, out := t.out }

theorem Dev.ToldHost.written {d t : Dev} (h : d.ToldHost t) : d.HostWritten t where
  regs k hk := h.regs k fun hh => hk (.inl hh)
  rest := h.rest.trans (by rw [h.rest])

namespace Dev.HostWritten

variable {d t u : Dev}

theorem refl (d : Dev) : d.HostWritten d := ⟨fun _ _ => rfl, rfl⟩

theorem trans (h : d.HostWritten t) (h' : t.HostWritten u) : d.HostWritten u where
  regs k hk := (h'.regs k hk).trans (h.regs k hk)
  rest := by rw [h'.rest, h.rest]

theorem setReg (d : Dev) {k : Nat} (v : Word) (hk : memWriteReg k) : d.HostWritten (d.setReg k v) :=
  ⟨fun j hj => Dev.reg_setReg_other d v fun he : j = k => hj (he ▸ hk), rfl⟩

theorem setSlc (d : Dev) (x : Slc) : d.HostWritten { d with slc := x } := ⟨fun _ _ => rfl, rfl⟩

theorem slcEvt (d : Dev) (s b : Nat) : d.HostWritten (d.slcEvt s b) := (setReg d _ (by decide)).trans (setReg _ _ (by decide))

theorem markPage (d : Dev) {s : Nat} (pg : Nat) (hs : s < 8192) : d.HostWritten (d.markPage s pg) := by
  unfold Dev.markPage
  dsimp only
  split
  · exact refl d
  · split
    · exact (setReg d _ (by unfold Reg.SLC_SLICE_STATUS; omega)).trans (slcEvt _ _ _)
    · exact (setSlc d _).trans (setReg _ _ (by decide))

theorem markDirty (d : Dev) {s : Nat} (addr len : Nat) (hs : s < 8192) : d.HostWritten (d.markDirty s addr len) := by
  have hpages : ∀ (ps : List Nat) (d : Dev), d.HostWritten (ps.foldl (fun d p => d.markPage s p) d) := by
    intro ps
    induction ps with
    | nil => exact refl
    | cons p ps ih => exact fun d => (markPage d p hs).trans (ih _)
  unfold Dev.markDirty
  split
  · exact hpages _ d
  · exact refl d

theorem request (d : Dev) {f : Nat} (e : Emission) (hf : f < 4) : d.HostWritten (d.request f e) := (Dev.ToldHost.request d e hf).written

theorem sliceWrite (d : Dev) {s : Nat} (addr : Nat) (ws : List Word) (hs : s < 8192) : d.HostWritten (d.sliceWrite s addr ws) :=
  (markDirty d addr _ hs).trans (request _ _ (Word.fld_lt _ 20 2))

theorem sliceBytes (d : Dev) {s : Nat} (addr : Nat) (bs : List Byte) (hs : s < 8192) : d.HostWritten (d.sliceBytes s addr bs) :=
  (markDirty d addr _ hs).trans (request _ _ (Word.fld_lt _ 20 2))

theorem fld (h : d.HostWritten t) {k : Nat} (lo n : Nat) (hk : ¬ memWriteReg k) : t.fld k lo n = d.fld k lo n := by
  rw [Dev.fld, h.regs k hk, Dev.fld]

theorem bit (h : d.HostWritten t) {k : Nat} (i : Nat) (hk : ¬ memWriteReg k) : t.bit k i = d.bit k i := by
  rw [Dev.bit, h.regs k hk, Dev.bit]

theorem dma (h : d.HostWritten t) : t.dma = d.dma := by rw [h.rest]

theorem chSlice_lt {d : Dev} {c s : Nat} (h : d.chSlice c = some s) : s < 8192 := by
  unfold Dev.chSlice Dev.chOwner at h
  dsimp only at h
  split at h
  · rw [Option.map_some, Option.some.injEq] at h
    rw [← h]
    exact Word.fld_lt _ 0 13
  · cases h

theorem chWrite (d : Dev) (c addr : Nat) (ws : List Word) : d.HostWritten (d.chWrite c addr ws) := by
  unfold Dev.chWrite
  split
  next s hs => exact (markDirty d addr _ (chSlice_lt hs)).trans (request _ _ (Word.fld_lt _ 23 2))
  next => exact request d _ (Word.fld_lt _ 23 2)

end Dev.HostWritten

/-! ## Kicks -/

theorem Dev.kick_free {d : Dev} {c : Nat} (h : d.chState c = 0 ∨ d.chState c = 4) (hk : d.dma.kicked.contains c = false) :
    d.kick c = { d with dma := { d.dma with kicked := c :: d.dma.kicked } } := by
  unfold Dev.kick
  rcases h with h | h <;> simp only [h, hk, Bool.false_eq_true, if_false]

theorem Dev.kick_running {d : Dev} {c : Nat} (h : d.chState c = 1) (hk : d.dma.remembered.contains c = false) :
    d.kick c = { d with dma := { d.dma with remembered := c :: d.dma.remembered } } := by
  unfold Dev.kick
  simp only [h, hk, Bool.false_eq_true, if_false]

theorem Dev.kick_stopped {d : Dev} {c : Nat} (h : d.chState c = 3 ∨ d.chState c = 5) : d.kick c = d := by
  unfold Dev.kick
  rcases h with h | h <;> simp only [h]

/-- A kick changes what the engine remembers of kicks alone. -/
theorem Dev.kick_rest (d : Dev) (c : Nat) : ∃ ks rs, d.kick c = { d with dma := { d.dma with kicked := ks, remembered := rs } } := by
  unfold Dev.kick
  split
  · split
    · exact ⟨d.dma.kicked, d.dma.remembered, rfl⟩
    · exact ⟨_, d.dma.remembered, rfl⟩
  · split
    · exact ⟨d.dma.kicked, d.dma.remembered, rfl⟩
    · exact ⟨_, d.dma.remembered, rfl⟩
  · split
    · exact ⟨d.dma.kicked, d.dma.remembered, rfl⟩
    · exact ⟨d.dma.kicked, _, rfl⟩
  · exact ⟨d.dma.kicked, d.dma.remembered, rfl⟩

/-- An idle channel that is kicked asks to start. -/
theorem Dev.mem_kicked_kick {d : Dev} {c : Nat} (h : d.chState c = 0) : c ∈ (d.kick c).dma.kicked := by
  unfold Dev.kick
  simp only [h]
  split
  next hk => exact List.contains_iff_mem.mp hk
  next => exact List.mem_cons_self

/-! ## Channel states and events -/

theorem Dev.chState_setChState (d : Dev) (c : Nat) {st : Nat} (h : st < 8) : (d.setChState c st).chState c = st :=
  (Dev.fld_setFld_same _ _ _ _ _ (by decide)).trans (Nat.mod_eq_of_lt h)

/-- An event writes the channel's EVT and the engine's two event registers alone. -/
theorem Dev.reg_chEvent_other (d : Dev) (c : Nat) (bits : List Nat) {k : Nat}
    (h : k ∉ [Reg.DMA_CHc_EVT c, Reg.DMA_EVT_STATUS, Reg.DMA_EVT_CHANNEL]) : (d.chEvent c bits).reg k = d.reg k := by
  simp only [List.mem_cons, List.not_mem_nil, or_false, not_or] at h
  obtain ⟨hevt, hstatus, hchan⟩ := h
  rw [Dev.chEvent, Dev.setN, Dev.reg_setReg_other _ _ hchan, Dev.reg_sqSet_other _ _ hstatus, Dev.reg_sqSet_other _ _ hevt]

theorem Dev.chEvent_rest (d : Dev) (c : Nat) (bits : List Nat) : ∃ a, d.chEvent c bits = { d with rf := { d.rf with act := a } } := ⟨_, rfl⟩

theorem Dev.chState_chEvent (d : Dev) {c : Nat} (bits : List Nat) (hc : c < 64) : (d.chEvent c bits).chState c = d.chState c := by
  unfold Dev.chState Dev.fld
  rw [Dev.reg_chEvent_other]
  simp only [Reg.DMA_CHc_STATE, Reg.DMA_CHc_EVT, Reg.DMA_EVT_STATUS, Reg.DMA_EVT_CHANNEL, List.mem_cons, List.not_mem_nil, or_false]
  omega

theorem Dev.bit_chEvent (d : Dev) {c b : Nat} {bits : List Nat} (hc : c < 64) (hb : b < 24) (hm : b ∈ bits) :
    (d.chEvent c bits).bit (Reg.DMA_CHc_EVT c) b = true := by
  have hchan : Reg.DMA_CHc_EVT c ≠ Reg.DMA_EVT_CHANNEL := by unfold Reg.DMA_CHc_EVT Reg.DMA_EVT_CHANNEL; omega
  have hstatus : Reg.DMA_CHc_EVT c ≠ Reg.DMA_EVT_STATUS := by unfold Reg.DMA_CHc_EVT Reg.DMA_EVT_STATUS; omega
  rw [Dev.chEvent, Dev.setN, Dev.bit_setReg_other _ _ _ hchan, Dev.bit, Dev.reg_sqSet_other _ _ hstatus]
  exact Dev.bit_sqSet_mem _ _ hb hm

/-- ENABLE cleared: nothing beyond the channel's CTRL and its staged copy changes. -/
theorem Dev.clearEnable_rest (d : Dev) (c : Nat) : ∃ rf, d.clearEnable c = { d with rf := rf } := by
  unfold Dev.clearEnable
  dsimp only
  split <;> exact ⟨_, rfl⟩

theorem Dev.reg_clearEnable_other (d : Dev) (c : Nat) {k : Nat} (h : k ≠ Reg.DMA_CHc_CTRL c) : (d.clearEnable c).reg k = d.reg k := by
  unfold Dev.clearEnable
  dsimp only
  split
  · exact Dev.reg_setReg_other d _ h
  · exact Dev.reg_setReg_other d _ h

theorem Dev.chState_clearEnable (d : Dev) (c : Nat) : (d.clearEnable c).chState c = d.chState c := by
  unfold Dev.chState Dev.fld
  rw [Dev.reg_clearEnable_other _ _ (by unfold Reg.DMA_CHc_STATE Reg.DMA_CHc_CTRL; omega)]

/-! ## A descriptor's end -/

/-- The descriptor's words written back where the channel can. -/
def Dev.descWritten (d : Dev) (c : Nat) (r : Desc) (status : Nat) : Dev :=
  if d.bit (Reg.DMA_CHc_CTRL c) 25 then
    d.hbmPut (d.descAddr c r.index) [Word.setFld (Word.setBit (wordAt r.words 0) 31 false) 0 8 status, wd r.done]
  else if d.canIssue (d.chFn c) then
    d.chWrite c (d.descAddr c r.index) [Word.setFld (Word.setBit (wordAt r.words 0) 31 false) 0 8 status, wd r.done]
  else d

/-- LAST, DONE and the head of a channel whose descriptor has ended. -/
def Dev.descNoted (d : Dev) (c : Nat) (r : Desc) (status : Nat) : Dev :=
  (((d.setN (Reg.DMA_CHc_LAST c) (r.index % 65536 * 65536 + status)).setN (Reg.DMA_CHc_LAST_DONE c) r.done).setFld (Reg.DMA_CHc_STATE c)
    0 16 (r.index + 1)).setFld (Reg.DMA_CHc_STATE c) 16 13 0

theorem Dev.endDesc_some {d : Dev} {c : Nat} {r : Desc} (status : Nat) (h : Map.get? d.dma.run c = some r) :
    d.endDesc c status = { (d.descWritten c r status).descNoted c r status with dma := { ((d.descWritten c r status).descNoted c r status).dma with
      run := Map.del ((d.descWritten c r status).descNoted c r status).dma.run c } } := by
  unfold Dev.endDesc
  rw [h]
  rfl

theorem Dev.run_endDesc (d : Dev) (c status : Nat) : Map.get? (d.endDesc c status).dma.run c = none := by
  cases h : Map.get? d.dma.run c with
  | none => unfold Dev.endDesc; rw [h]; exact h
  | some r => rw [Dev.endDesc_some status h]; exact Map.get?_del_same _ _

/-- The write-back leaves the engine's registers. -/
theorem Dev.reg_descWritten (d : Dev) (c : Nat) (r : Desc) (status : Nat) {k : Nat} (hk : ¬ memWriteReg k) :
    (d.descWritten c r status).reg k = d.reg k := by
  unfold Dev.descWritten
  split
  · rfl
  · split
    · exact (Dev.HostWritten.chWrite ..).regs k hk
    · rfl

/-- A disabled channel runs nothing, is DISABLED, and reports it. -/
theorem Dev.chDisable_disabled (d : Dev) {c : Nat} (status : Nat) (hc : c < 64) : (d.chDisable c status).chState c = 5 ∧
    Map.get? (d.chDisable c status).dma.run c = none ∧ c ∉ (d.chDisable c status).dma.kicked ∧
    (d.chDisable c status).bit (Reg.DMA_CHc_EVT c) 1 = true := by
  unfold Dev.chDisable
  refine ⟨?_, ?_, ?_, Dev.bit_chEvent _ hc (by decide) (List.mem_singleton.mpr rfl)⟩
  · rw [Dev.chState_chEvent _ _ hc]
    exact Dev.chState_setChState _ c (by decide)
  · exact (d.clearEnable c).run_endDesc c status
  · exact fun hm => of_decide_eq_true (List.mem_filter.mp hm).2 rfl

theorem Dev.finishAll_rest (f : Cmd → Dev → Res) (xs : List Cmd) (d : Dev) :
    ∃ m, xs.foldl (fun d x => d.finish x.master x.tag x.gen (f x d)) d = { d with cmd := m } := by
  induction xs generalizing d with
  | nil => exact ⟨d.cmd, rfl⟩
  | cons x xs ih =>
    obtain ⟨m, hm⟩ := ih (d.finish x.master x.tag x.gen (f x d))
    exact ⟨m, hm⟩

theorem Dev.stopReplies_rest (d : Dev) (c : Nat) : ∃ m, d.stopReplies c = { d with cmd := m } :=
  Dev.finishAll_rest (fun _ d => Res.ok (d.stopWords c true)) _ d

theorem Dev.chDisableNow_rest (d : Dev) (c status : Nat) : ∃ m, d.chDisableNow c status = { d.chDisable c status with cmd := m } := by
  unfold Dev.chDisableNow
  dsimp only
  split
  · exact Dev.stopReplies_rest _ c
  · exact ⟨(d.chDisable c status).cmd, rfl⟩

/-! ## The end of a descriptor that has moved every byte -/

theorem dmaReg_kept {k : Nat} (h : 0x600000 ≤ k) (h' : k < 0x700000) : ¬ memWriteReg k := by omega

/-- A running channel whose hand-over does not wait is idle after its descriptor. -/
theorem Dev.afterDesc_idle {d : Dev} {c : Nat} (hc : c < 64) (hst : d.chState c = 1) (hpend : d.chPending c = false) :
    ∃ ks rs, d.afterDesc c false = { d.setChState c 0 with dma := { d.dma with kicked := ks, remembered := rs } } := by
  have hpend' : (d.setChState c 0).chPending c = false :=
    (Dev.bit_setReg_other _ _ _ (by unfold Reg.DMA_PEND Reg.DMA_CHc_STATE; omega)).trans hpend
  unfold Dev.afterDesc
  simp only [hst, show ¬ 1 = 2 by decide, decide_false, Bool.false_eq_true, if_false, hpend']
  split
  · obtain ⟨ks, rs, hk⟩ := Dev.kick_rest ({ d.setChState c 0 with dma := { (d.setChState c 0).dma with
      remembered := (d.setChState c 0).dma.remembered.filter (· ≠ c) } } : Dev) c
    exact ⟨ks, rs, hk⟩
  · split
    · obtain ⟨ks, rs, hk⟩ := Dev.kick_rest ({ d.setChState c 0 with dma := { (d.setChState c 0).dma with
        remembered := (d.setChState c 0).dma.remembered.filter (· ≠ c) } } : Dev) c
      exact ⟨ks, rs, hk⟩
    · exact ⟨(d.setChState c 0).dma.kicked, _, rfl⟩

/-- What the end of a descriptor leaves before the channel goes on: nothing runs, LAST_DONE shows its bytes, the state is unchanged. -/
theorem Dev.endDesc_noted {d : Dev} {c : Nat} {r : Desc} (status : Nat) (hc : c < 64) (h : Map.get? d.dma.run c = some r) :
    (d.endDesc c status).chState c = d.chState c ∧ (d.endDesc c status).reg (Reg.DMA_CHc_LAST_DONE c) = wd r.done ∧
      (d.endDesc c status).chPending c = d.chPending c := by
  have hkept {k : Nat} (h0 : 0x600000 ≤ k) (h1 : k < 0x700000) := d.reg_descWritten c r status (dmaReg_kept h0 h1)
  have hother {k : Nat} (t : Dev) (hs : k ≠ Reg.DMA_CHc_STATE c) (hd : k ≠ Reg.DMA_CHc_LAST_DONE c) (hl : k ≠ Reg.DMA_CHc_LAST c) :
      (t.descNoted c r status).reg k = t.reg k := by
    rw [Dev.descNoted, Dev.setFld, Dev.reg_setReg_other _ _ hs, Dev.setFld, Dev.reg_setReg_other _ _ hs, Dev.setN,
      Dev.reg_setReg_other _ _ hd, Dev.setN, Dev.reg_setReg_other _ _ hl]
  rw [Dev.endDesc_some status h]
  refine ⟨?_, ?_, ?_⟩
  · have hstate : ((d.descWritten c r status).descNoted c r status).chState c = (d.descWritten c r status).chState c := by
      rw [Dev.descNoted, Dev.chState, Dev.fld_setFld_other _ _ _ (by decide) (by decide), Dev.fld_setFld_other _ _ _ (by decide) (by decide),
        Dev.setN, Dev.fld_setReg_other _ _ _ _ (by unfold Reg.DMA_CHc_STATE Reg.DMA_CHc_LAST_DONE; omega), Dev.setN,
        Dev.fld_setReg_other _ _ _ _ (by unfold Reg.DMA_CHc_STATE Reg.DMA_CHc_LAST; omega), Dev.chState]
    refine Eq.trans hstate ?_
    rw [Dev.chState, Dev.fld, hkept (by unfold Reg.DMA_CHc_STATE; omega) (by unfold Reg.DMA_CHc_STATE; omega)]
    rfl
  · have hdone : ((d.descWritten c r status).descNoted c r status).reg (Reg.DMA_CHc_LAST_DONE c) = wd r.done := by
      have hne : Reg.DMA_CHc_LAST_DONE c ≠ Reg.DMA_CHc_STATE c := by unfold Reg.DMA_CHc_STATE Reg.DMA_CHc_LAST_DONE; omega
      rw [Dev.descNoted, Dev.setFld, Dev.reg_setReg_other _ _ hne, Dev.setFld, Dev.reg_setReg_other _ _ hne]
      exact Dev.reg_setReg_same _ _ _
    exact hdone
  · have hpend : ((d.descWritten c r status).descNoted c r status).reg (Reg.DMA_PEND (c / 32)) = d.reg (Reg.DMA_PEND (c / 32)) := by
      rw [hother _ (by unfold Reg.DMA_PEND Reg.DMA_CHc_STATE; omega) (by unfold Reg.DMA_PEND Reg.DMA_CHc_LAST_DONE; omega)
        (by unfold Reg.DMA_PEND Reg.DMA_CHc_LAST; omega), hkept (by unfold Reg.DMA_PEND; omega) (by unfold Reg.DMA_PEND; omega)]
    exact congrArg (fun w => Word.bit w (c % 32)) hpend

/-- A vector raised for a channel's descriptor, where it asks for one. -/
def Dev.descRaised (d : Dev) (irq : Bool) (f sel : Nat) : Dev := if irq then d.raiseSel f sel else d

theorem Dev.finishDesc_eq {d : Dev} {c : Nat} {r : Desc} (status : Nat) (h : Map.get? d.dma.run c = some r) : d.finishDesc c status =
    ((((d.endDesc c status).chEvent c [0]).descRaised (Word.bit (wordAt r.words 0) 30) (d.chFn c) (d.fld (Reg.DMA_CHc_IRQ c) 0 18)).afterDesc
      c (decide (status ≠ 0))) := by
  unfold Dev.finishDesc
  rw [h]
  rfl

theorem Dev.finishDesc_done {d : Dev} {c : Nat} {r : Desc} (hc : c < 64) (h : Map.get? d.dma.run c = some r) (hst : d.chState c = 1)
    (hpend : d.chPending c = false) : Map.get? (d.finishDesc c 0).dma.run c = none ∧ (d.finishDesc c 0).chState c = 0 ∧
      (d.finishDesc c 0).reg (Reg.DMA_CHc_LAST_DONE c) = wd r.done ∧ (d.finishDesc c 0).bit (Reg.DMA_CHc_EVT c) 0 = true := by
  obtain ⟨hstate, hdone, hpnd⟩ := d.endDesc_noted 0 hc h
  have hrun := d.run_endDesc c 0
  have hbit := (d.endDesc c 0).bit_chEvent hc (by decide : 0 < 24) (List.mem_singleton.mpr rfl)
  have hother {k : Nat} (hk : k ∉ [Reg.DMA_CHc_EVT c, Reg.DMA_EVT_STATUS, Reg.DMA_EVT_CHANNEL]) :=
    (d.endDesc c 0).reg_chEvent_other c [0] hk
  have hother' {k : Nat} (h0 : k ≠ Reg.DMA_CHc_EVT c) (h1 : k < 0x601000 ∨ 0x601010 ≤ k) := hother (k := k) (by
    simp only [Reg.DMA_EVT_STATUS, Reg.DMA_EVT_CHANNEL, List.mem_cons, List.not_mem_nil, or_false]; omega)
  have hdma : ((d.endDesc c 0).chEvent c [0]).dma = (d.endDesc c 0).dma := rfl
  rw [Dev.finishDesc_eq 0 h]
  generalize hu : (d.endDesc c 0).chEvent c [0] = u at *
  have told : u.ToldHost (u.descRaised (Word.bit (wordAt r.words 0) 30) (d.chFn c) (d.fld (Reg.DMA_CHc_IRQ c) 0 18)) := by
    unfold Dev.descRaised
    split
    · exact Dev.ToldHost.raiseSel u _ (Word.fld_lt _ 23 2)
    · exact .refl u
  generalize hv : u.descRaised (Word.bit (wordAt r.words 0) 30) (d.chFn c) (d.fld (Reg.DMA_CHc_IRQ c) 0 18) = v at *
  have hkept {k : Nat} (h0 : 0x600000 ≤ k) (h1 : k < 0x700000) : v.reg k = u.reg k := told.regs k (by omega)
  have hvst : v.chState c = 1 := by
    rw [Dev.chState, Dev.fld, hkept (by unfold Reg.DMA_CHc_STATE; omega) (by unfold Reg.DMA_CHc_STATE; omega),
      hother' (by unfold Reg.DMA_CHc_STATE Reg.DMA_CHc_EVT; omega) (by unfold Reg.DMA_CHc_STATE; omega)]
    exact hstate.trans hst
  have hvpend : v.chPending c = false := by
    rw [Dev.chPending, Dev.bit, hkept (by unfold Reg.DMA_PEND; omega) (by unfold Reg.DMA_PEND; omega),
      hother' (by unfold Reg.DMA_PEND Reg.DMA_CHc_EVT; omega) (by unfold Reg.DMA_PEND; omega)]
    exact hpnd.trans hpend
  obtain ⟨ks, rs, hafter⟩ := Dev.afterDesc_idle hc hvst hvpend
  have hfalse : decide (0 ≠ 0) = false := rfl
  rw [hfalse, hafter]
  refine ⟨?_, ?_, ?_, ?_⟩
  · have hvdma : v.dma = u.dma := by rw [told.rest]
    exact (congrArg (fun x : Dma => Map.get? x.run c) (hvdma.trans hdma)).trans hrun
  · exact Dev.chState_setChState v c (by decide)
  · refine (Dev.reg_setReg_other _ _ (by unfold Reg.DMA_CHc_STATE Reg.DMA_CHc_LAST_DONE; omega)).trans ?_
    rw [hkept (by unfold Reg.DMA_CHc_LAST_DONE; omega) (by unfold Reg.DMA_CHc_LAST_DONE; omega),
      hother' (by unfold Reg.DMA_CHc_LAST_DONE Reg.DMA_CHc_EVT; omega) (by unfold Reg.DMA_CHc_LAST_DONE; omega), hdone]
  · refine (Dev.bit_setReg_other _ _ _ (by unfold Reg.DMA_CHc_STATE Reg.DMA_CHc_EVT; omega)).trans ?_
    rw [Dev.bit, hkept (by unfold Reg.DMA_CHc_EVT; omega) (by unfold Reg.DMA_CHc_EVT; omega)]
    exact hbit

/-! ## A descriptor that starts -/

/-- The channel's kick taken. -/
def Dev.kickTaken (d : Dev) (k : Nat) : Dev :=
  { d with dma := { d.dma with kicked := d.dma.kicked.filter (· ≠ k), angleKicks := d.dma.angleKicks.filter (· ≠ k) } }

/-- A descriptor run by a channel. -/
def Dev.running? (d : Dev) (k : Nat) (r : Desc) : Dev :=
  ({ d with dma := { d.dma with run := Map.put d.dma.run k r } } : Dev).setChState k 1

theorem Dev.chState_kickTaken (d : Dev) (k : Nat) {st : Nat} (h : st < 8) : ((d.kickTaken k).setChState k st).chState k = st :=
  Dev.chState_setChState _ k h

section
variable {s t : State} {d : Dev} {c : Fin 64} (ws src dst : List Word) (hr : s.dev.running = true)
  (hk : s.dev.dma.kicked.contains c.val = true) (hst : s.dev.chState c.val = 0) (hbm : s.dev.bit (Reg.DMA_CHc_CTRL c.val) 25 = false)
  (hcan : s.dev.canIssue (s.dev.chFn c.val) = true)
  (ho : s.dev.offer .dma c.val (s.dev.chClass c.val) 0 (s.dev.chSlice c.val) (s.dev.dma.angleKicks.contains c.val) = (true, d))
include hr hk hst hbm hcan ho

/-- A descriptor that the device does not own leaves the channel idle. -/
theorem exec_dmaDescriptorStart_unowned (hown : Word.bit (wordAt (ws.take 8) 0) 31 = false) :
    exec (.dmaDescriptorStart c ws src dst 0) s = .next { s with dev := (d.kickTaken c.val).setChState c.val 0 } := by
  have hno : ¬ (s.dev.dma.kicked.contains c.val = false ∨ (s.dev.chState c.val ≠ 0 ∧ s.dev.chState c.val ≠ 4) ∨
      (s.dev.bit (Reg.DMA_CHc_CTRL c.val) 25 = false ∧ s.dev.canIssue (s.dev.chFn c.val) = false)) := by
    rw [hk, hst, hbm, hcan]; decide
  refine (act_run hr).trans ?_
  rw [if_neg hno, ho]
  simp only [hbm, Bool.false_eq_true, if_false, hown, Bool.not_false, if_true]
  rfl

/-- A good descriptor runs. -/
theorem exec_dmaDescriptorStart_good {sf df : List (Nat × Nat)} (hown : Word.bit (wordAt (ws.take 8) 0) 31 = true)
    (hlen : wordAt (ws.take 8) 1 ≠ 0) (hsides : d.descSides c.val (ws.take 8) src dst = some (sf, df)) :
    exec (.dmaDescriptorStart c ws src dst 0) s = .next { s with dev := ((d.kickTaken c.val).running? c.val
      ⟨d.fld (Reg.DMA_CHc_STATE c.val) 0 16, ws.take 8, sf, df, 0⟩) } := by
  have hno : ¬ (s.dev.dma.kicked.contains c.val = false ∨ (s.dev.chState c.val ≠ 0 ∧ s.dev.chState c.val ≠ 4) ∨
      (s.dev.bit (Reg.DMA_CHc_CTRL c.val) 25 = false ∧ s.dev.canIssue (s.dev.chFn c.val) = false)) := by
    rw [hk, hst, hbm, hcan]; decide
  have hlen' : ¬ (wordAt (ws.take 8) 1).toNat = 0 := fun h => hlen (BitVec.eq_of_toNat_eq h)
  have hsides' : (d.kickTaken c.val).descSides c.val (ws.take 8) src dst = some (sf, df) := hsides
  unfold Dev.kickTaken at hsides'
  refine (act_run hr).trans ?_
  rw [if_neg hno, ho]
  simp only [hbm, Bool.false_eq_true, if_false, hown, Bool.not_true, hsides', if_neg hlen', show ¬ (0 : Fin 256).val ≠ 0 by decide]
  rfl

end

/-! ## Chunks and stops -/

/-- A chunk that a host source has given moves 4 KiB at most, and no more than is left. -/
theorem exec_dmaChunk_moved {s : State} {c : Fin 64} {r : Desc} {bytes : List Byte} (hr : s.dev.running = true)
    (h : Map.get? s.dev.dma.run c.val = some r) (hleft : r.done < (wordAt r.words 1).toNat) (hcan : s.dev.canIssue (s.dev.chFn c.val) = true)
    (hlen : Nat.min 4096 ((wordAt r.words 1).toNat - r.done) ≤ bytes.length) :
    exec (.dmaChunk c bytes 0) s = .next { s with dev := s.dev.chunk c.val r bytes 0 } := by
  have hne : (wordAt r.words 1).toNat - r.done ≠ 0 := by omega
  refine (act_run hr).trans ?_
  simp only [h, hne, hcan, not_lt.mpr hlen, and_false, Bool.true_eq_false, or_self, if_false, show (0 : Fin 256).val = 0 from rfl,
    ite_self]

theorem Dev.run_chunk (d : Dev) (c : Nat) (r : Desc) (bytes : List Byte) : Map.get? (d.chunk c r bytes 0).dma.run c =
    some { r with done := r.done + Nat.min 4096 ((wordAt r.words 1).toNat - r.done) } := by
  unfold Dev.chunk
  exact Map.get?_put_same _ _ _

theorem Dev.gracefulStop_idle {d : Dev} {c : Nat} (h : d.chState c = 0) :
    d.gracefulStop c = ((d.clearEnable c).setChState c 3).chEvent c [2] := by
  unfold Dev.gracefulStop
  simp only [h, true_or, if_true]

theorem Dev.gracefulStop_running {d : Dev} {c : Nat} (h : d.chState c = 1) : d.gracefulStop c = (d.clearEnable c).setChState c 2 := by
  unfold Dev.gracefulStop
  simp only [h, show ¬ (1 = 0 ∨ 1 = 4) by decide, if_false, if_true]

/-- The head of an idle channel that is stopped stays. -/
theorem Dev.stopWords_gracefulStop {d : Dev} {c : Nat} (hc : c < 64) (h : d.chState c = 0) : (d.gracefulStop c).chState c = 3 ∧
    (d.gracefulStop c).stopWords c false = [wd (3 * 2 ^ 29 + d.fld (Reg.DMA_CHc_STATE c) 0 16), 0, 0] := by
  have hst : (d.gracefulStop c).chState c = 3 := by
    rw [Dev.gracefulStop_idle h, Dev.chState_chEvent _ _ hc, Dev.chState_setChState _ _ (by decide)]
  have hhead : (d.gracefulStop c).fld (Reg.DMA_CHc_STATE c) 0 16 = d.fld (Reg.DMA_CHc_STATE c) 0 16 := by
    rw [Dev.gracefulStop_idle h, Dev.fld, Dev.reg_chEvent_other]
    · refine (Dev.fld_setFld_other _ _ _ (by decide) (by decide)).trans ?_
      rw [Dev.fld, Dev.reg_clearEnable_other _ _ (by unfold Reg.DMA_CHc_STATE Reg.DMA_CHc_CTRL; omega), Dev.fld]
    · simp only [Reg.DMA_CHc_STATE, Reg.DMA_CHc_EVT, Reg.DMA_EVT_STATUS, Reg.DMA_EVT_CHANNEL, List.mem_cons, List.not_mem_nil, or_false]
      omega
  refine ⟨hst, ?_⟩
  rw [Dev.stopWords, hst, hhead]
  rfl

section
variable {s : State} {m : Fin 16} {tag : Fin 4096} {gen : Fin 16} {c : Cmd} (hr : s.dev.running = true)
  (hs : s.dev.started m.val tag.val gen.val 0x0204 c)
include hr hs

theorem exec_dmaChannelStop_disable (hmode : c.pf 1 0 1 = 1) : ∃ t, exec (.dmaChannelStop m tag gen) s = .next t ∧
    t.dev.chState (c.pf 0 0 6) = 5 ∧ Map.get? t.dev.dma.run (c.pf 0 0 6) = none := by
  have hc : c.pf 0 0 6 < 64 := Word.fld_lt _ 0 6
  obtain ⟨h5, hrun, -, -⟩ := s.dev.chDisable_disabled 0x41 hc
  have hstop : runDmaChannelStop c s.dev = (s.dev.chDisable (c.pf 0 0 6) 0x41, some (Res.ok ((s.dev.chDisable (c.pf 0 0 6) 0x41).stopWords
      (c.pf 0 0 6) (Map.get? s.dev.dma.run (c.pf 0 0 6)).isSome))) := if_pos hmode
  have hrow := opStep_ok hr hs hstop
  refine ⟨_, hrow, ?_, ?_⟩
  · exact h5
  · exact hrun

theorem exec_dmaChannelStop_idle (hmode : c.pf 1 0 1 = 0) (hst : s.dev.chState (c.pf 0 0 6) = 0) :
    ∃ t, exec (.dmaChannelStop m tag gen) s = .next t ∧ t.dev.chState (c.pf 0 0 6) = 3 ∧
      t.dev.finished m.val tag.val gen.val stOK [wd (3 * 2 ^ 29 + s.dev.fld (Reg.DMA_CHc_STATE (c.pf 0 0 6)) 0 16), 0, 0] := by
  have hc : c.pf 0 0 6 < 64 := Word.fld_lt _ 0 6
  obtain ⟨h3, hwords⟩ := Dev.stopWords_gracefulStop hc hst
  have hrun : runDmaChannelStop c s.dev = (s.dev.gracefulStop (c.pf 0 0 6), some (Res.ok
      [wd (3 * 2 ^ 29 + s.dev.fld (Reg.DMA_CHc_STATE (c.pf 0 0 6)) 0 16), 0, 0])) := by
    unfold runDmaChannelStop
    simp only [hmode, show ¬ 0 = 1 by decide, if_false, hst, show ¬ 0 = 2 by decide, h3, show ¬ 3 = 2 by decide, hwords]
  have hcmd : (s.dev.gracefulStop (c.pf 0 0 6)).cmd = s.dev.cmd := by
    obtain ⟨rf, hrf⟩ := s.dev.clearEnable_rest (c.pf 0 0 6)
    rw [Dev.gracefulStop_idle hst, hrf]
    rfl
  obtain ⟨t, ht, hrf, hfin⟩ := exec_answered hr hs hrun hcmd
  exact ⟨t, ht, by rw [Dev.chState, Dev.fld, Dev.reg_congr hrf]; exact h3, hfin⟩

theorem exec_dmaChannelStop_running (hmode : c.pf 1 0 1 = 0) (hst : s.dev.chState (c.pf 0 0 6) = 1) :
    ∃ t, exec (.dmaChannelStop m tag gen) s = .next t ∧ t.dev.chState (c.pf 0 0 6) = 2 ∧
      t.dev.started m.val tag.val gen.val 0x0204 c := by
  have hrun : runDmaChannelStop c s.dev = (s.dev.gracefulStop (c.pf 0 0 6), none) := by
    unfold runDmaChannelStop
    simp only [hmode, show ¬ 0 = 1 by decide, if_false, hst, show ¬ 1 = 2 by decide, Dev.gracefulStop_running hst,
      Dev.chState_setChState _ _ (show 2 < 8 by decide), if_true]
  obtain ⟨rf, hrf⟩ := s.dev.clearEnable_rest (c.pf 0 0 6)
  rw [Dev.gracefulStop_running hst] at hrun
  refine ⟨_, opStep_wait hr hs hrun, Dev.chState_setChState _ _ (by decide), ?_⟩
  rw [hrf]
  exact hs

end

/-- Settles O28: kicks and stops by the channel's state; a descriptor's end writes LAST, DONE and the state, which nothing after it touches. -/
theorem dmaChannelsAct : Obligations.DmaChannelsAct := by
  unfold Obligations.DmaChannelsAct
  refine ⟨fun s c hr => ⟨?_, ?_, ?_, ?_, ?_, ?_⟩, fun s c hr => ⟨?_, ?_, ?_, ?_⟩, fun s m tag gen c hr => ⟨?_, ?_, ?_, ?_, ?_⟩⟩
  · intro hst hk
    exact (act_run hr).trans (by rw [Dev.kick_free hst hk])
  · intro hst hk
    exact (act_run hr).trans (by rw [Dev.kick_running hst hk])
  · intro hst
    exact (act_run hr).trans (by rw [Dev.kick_stopped hst])
  · intro f fs hf ha ht hst
    obtain ⟨ks, rs, hkick⟩ := (s.dev.fired fs).kick_rest c.val
    have hmem := Dev.mem_kicked_kick (d := s.dev.fired fs) (c := c.val) hst
    rw [hkick] at hmem
    have hrow : exec (.angleDmaKick c) s = .next { s with dev := { (s.dev.fired fs).kick c.val with
        dma := { ((s.dev.fired fs).kick c.val).dma with angleKicks := c.val :: s.dev.dma.angleKicks.filter (· ≠ c.val) } } } := by
      refine (act_run hr).trans ?_
      rw [Dev.takeFiring_head hf ha ht]
      rfl
    rw [hkick] at hrow
    exact ⟨_, hrow, rfl, hmem, List.mem_cons_self, rfl⟩
  · intro v hv
    exact (act_run hr).trans (by rw [hv]; rfl)
  · intro v hv
    obtain ⟨m, hm⟩ := s.dev.chDisableNow_rest c.val 0x41
    have hrow : exec (.dmaDisableWrite c v) s = .next { s with dev := s.dev.chDisableNow c.val 0x41 } :=
      (act_run hr).trans (by rw [if_pos hv])
    rw [hm] at hrow
    exact ⟨_, hrow, s.dev.chDisable_disabled 0x41 c.isLt⟩
  · intro ws src dst code hk
    refine (act_run hr).trans ?_
    rw [if_pos (.inl hk)]
  · intro ws src dst t hk hst hbm hcan ho
    refine ⟨fun hown => ?_, fun sf df hown hlen hsides => ?_⟩
    · refine ⟨_, exec_dmaDescriptorStart_unowned ws src dst hr hk hst hbm hcan ho hown, t.chState_kickTaken c.val (by decide), ?_, rfl⟩
      exact fun hm => of_decide_eq_true (List.mem_filter.mp hm).2 rfl
    · refine ⟨_, exec_dmaDescriptorStart_good ws src dst hr hk hst hbm hcan ho hown hlen hsides, Dev.chState_setChState _ _ (by decide), ?_,
        Map.get?_put_same _ _ _⟩
      exact fun hm => of_decide_eq_true (List.mem_filter.mp hm).2 rfl
  · intro r bytes h hleft hcan hlen
    exact ⟨_, exec_dmaChunk_moved hr h hleft hcan hlen, s.dev.run_chunk c.val r bytes⟩
  · intro r h hdone hst hpend
    have hrow : exec (.dmaWriteback c) s = .next { s with dev := s.dev.finishDesc c.val 0 } := by
      refine (act_run hr).trans ?_
      rw [h]
      exact congrArg _ (congrArg _ (if_pos hdone))
    exact ⟨_, hrow, Dev.finishDesc_done c.isLt h hst hpend⟩
  · intro hs hbad
    exact opStep_ok hr hs (by rw [runDmaChannelSet, if_pos hbad])
  · intro t r hs hok hnone hstrobe
    refine opStep_ok hr hs ?_
    unfold runDmaChannelSet
    simp only [hok, Bool.false_eq_true, if_false, hnone, Option.filter_none, ownerWord]
    exact hstrobe
  · intro hs hmode
    exact exec_dmaChannelStop_disable hr hs hmode
  · intro hs hmode hst
    exact exec_dmaChannelStop_idle hr hs hmode hst
  · intro hs hmode hst
    exact exec_dmaChannelStop_running hr hs hmode hst

end Sys2Proof.Machine
end


section
/-! DEFINITION. Passes of the Press and lookups of the Classifier (O29). -/

namespace Sys2Proof.Machine

/-! ## The metadata record -/

theorem wordAt_set (ws : List Word) (i j : Nat) (v : Word) :
    wordAt (ws.set i v) j = if j = i ∧ i < ws.length then v else wordAt ws j := by
  unfold wordAt
  by_cases hij : j = i
  · subst hij
    by_cases hl : j < ws.length
    · simp [hl]
    · simp [hl]
  · simp [List.getElem?_set_ne (Ne.symm hij), hij]

/-- A field of the record apart from the one set. -/
theorem Frame.m_mset_apart (f : Frame) (v : Nat) {w lo n w' l k : Nat} (h : w' ≠ w ∨ (l + k ≤ 32 ∧ (l + k ≤ lo ∨ lo + n ≤ l))) :
    (f.mset w lo n v).m w' l k = f.m w' l k := by
  unfold Frame.m Frame.mset
  dsimp only
  rw [wordAt_set]
  split
  · obtain ⟨hw, hlen⟩ := ‹_ ∧ _›
    subst hw
    have happart := h.resolve_left fun hne => hne rfl
    exact Word.fld_setFld_other _ _ _ _ _ _ happart.1 happart.2
  · rfl

theorem Frame.m_mset_same (f : Frame) (v : Nat) {w lo n : Nat} (hw : w < f.record.length) (h : lo + n ≤ 32) :
    (f.mset w lo n v).m w lo n = v % 2 ^ n := by
  unfold Frame.m Frame.mset
  dsimp only
  rw [wordAt_set, if_pos ⟨rfl, hw⟩, Word.fld_setFld_same _ _ _ _ h]

theorem Frame.m_mword_other (f : Frame) (v : Word) {w w' : Nat} (h : w' ≠ w) (l k : Nat) :
    (f.mword w v).m w' l k = f.m w' l k := by
  unfold Frame.m Frame.mword
  dsimp only
  rw [wordAt_set, if_neg fun hc => h hc.1]

/-- `g` is `f` but for the words of its record. -/
def Frame.Recorded (f g : Frame) : Prop := ∃ r, g = { f with record := r } ∧ r.length = f.record.length

namespace Frame.Recorded

variable {f g : Frame}

theorem refl (f : Frame) : f.Recorded f := ⟨_, rfl, rfl⟩

theorem mset (h : f.Recorded g) (w lo n v : Nat) : f.Recorded (g.mset w lo n v) := by
  obtain ⟨r, rfl, hr⟩ := h
  exact ⟨_, rfl, by rw [List.length_set, hr]⟩

theorem msetBit (h : f.Recorded g) (w i : Nat) (b : Bool) : f.Recorded (g.msetBit w i b) := h.mset w i 1 _

theorem mword (h : f.Recorded g) (w : Nat) (v : Word) : f.Recorded (g.mword w v) := by
  obtain ⟨r, rfl, hr⟩ := h
  exact ⟨_, rfl, by rw [List.length_set, hr]⟩

theorem length (h : f.Recorded g) : g.record.length = f.record.length := by
  obtain ⟨r, rfl, hr⟩ := h
  exact hr

theorem pipe (h : f.Recorded g) : g.pipe = f.pipe := by
  obtain ⟨r, rfl, hr⟩ := h
  rfl

theorem bytes (h : f.Recorded g) : g.bytes = f.bytes := by
  obtain ⟨r, rfl, hr⟩ := h
  rfl

end Frame.Recorded

/-- The walk's results change the record alone, and keep its length and the upper half of word 0. -/
theorem Frame.setWalk_rest (f : Frame) (k : Headers) (frag : Nat) (ptp : Bool) (vintage : Nat) :
    f.Recorded (f.setWalk k frag ptp vintage) := by
  have hwalk := (((((((((Frame.Recorded.refl f).mset 2 8 8 (offOf k.l3)).mset 2 0 8 (offOf k.l4)).mset 3 30 2 k.l3type).mset 3 27 3
    k.l4type).mset 3 21 2 frag).mset 3 16 3 k.mpls).mset 3 13 3 k.tunType).msetBit 3 8 k.stop).mset 6 8 8 (offOf k.tun) |>.mset 6 0 8
    (offOf k.pay)
  unfold Frame.setWalk
  dsimp only
  split
  · exact ((((hwalk.mset 3 19 2 k.vlans).mset 6 16 16 k.tci).msetBit 3 12 k.hsr).msetBit 3 10 ptp).mset 0 0 16 vintage
  · exact hwalk

theorem Frame.m_setWalk (f : Frame) (k : Headers) (frag : Nat) (ptp : Bool) (vintage : Nat) {l n : Nat} (hl : 16 ≤ l) (hn : l + n ≤ 32) :
    (f.setWalk k frag ptp vintage).m 0 l n = f.m 0 l n := by
  unfold Frame.setWalk
  dsimp only
  split
  · simp (disch := omega) only [Frame.msetBit, Frame.m_mset_apart]
  · simp (disch := omega) only [Frame.msetBit, Frame.m_mset_apart]

/-! ## Frames of the device -/

theorem Dev.frame?_putFrame (d : Dev) (id : Nat) (f : Frame) : (d.putFrame id f).frame? id = some f := Map.get?_put_same _ _ _

theorem Dev.frame?_moveFrame (d : Dev) (id : Nat) (f : Frame) (p : Place) :
    (d.moveFrame id f p).frame? id = some { f with place := p } := Map.get?_put_same _ _ _

theorem Dev.frame?_freeFrame (d : Dev) (id : Nat) : (d.freeFrame id).frame? id = none := Map.get?_del_same _ _

/-! ## Passes -/

theorem Dev.selectProfile_none {d : Dev} (h : ∀ p, p < 64 → d.profOn p = false) (f : Frame) (k : Headers) : d.selectProfile f k = none := by
  unfold Dev.selectProfile
  rw [List.find?_eq_none]
  intro p hp
  simp [h p (List.mem_range.mp hp)]

/-- The end of a pass that no profile selects (R233). -/
def Dev.pressUnselected (d : Dev) (id : Nat) (f : Frame) : Dev :=
  let d := (d.prsCount f 0).prsEvt f 2
  d.pressException id f 1 (d.fld Reg.PRS_CTRL 30 2) (d.reg Reg.PRS_NOMATCH_TARGET)

/-- Its checksum results stored, of a pass under profile `p` (R240, R242). -/
def Frame.checked (f : Frame) (k : Headers) (image : Option (List Byte)) (p : Nat) : Frame :=
  let f := { f.mset 0 19 6 p with image := image }
  let late := !f.whole && decide (192 < f.len)
  let host := decide (f.srcPort = 16)
  let l3 := if host then 0 else l3Csum f k
  let l4 := if host ∨ late = true then 0 else l4Csum f k
  if host then f else f.setCsum l3 l4

/-- The frame with its key and its hash (R236 to R239). -/
def Dev.keyedFrame (d : Dev) (f : Frame) (k : Headers) (image : Option (List Byte)) (p : Nat) : Frame :=
  (({ f with key := (d.buildKey f k image p).1 } : Frame).msetBit 3 9 (d.buildKey f k image p).2).mword 5
    (d.hashKey p (d.buildKey f k image p).1)

/-- The reasons of a pass under profile `p` (R247). -/
def Dev.passReasons (d : Dev) (f : Frame) (k : Headers) (image : Option (List Byte)) (unresolved : Bool) (p : Nat) : List Nat :=
  let f := { f.mset 0 19 6 p with image := image }
  let late := !f.whole && decide (192 < f.len)
  let host := decide (f.srcPort = 16)
  let l3 := if host then 0 else l3Csum f k
  let l4 := if host ∨ late = true then 0 else l4Csum f k
  let f := if host then f else f.setCsum l3 l4
  let e := d.keyedFrame f k image p
  reasons k (d.buildKey f k image p).2 unresolved (decide (e.len ≤ e.start ∧ e.pass ≠ 0)) l3 l4

/-- The hits and the reasons of a pass counted (R251). -/
def Dev.passCounted (d : Dev) (f : Frame) (rs : List Nat) (p : Nat) : Dev :=
  rs.foldl (fun d r => d.reasonCount f r) (d.count (Reg.PRS_PROF_HITSp f.pipe p) 1)

/-- The end of a pass under profile `p` (R233 to R248). -/
def Dev.pressUnder (d : Dev) (id : Nat) (f : Frame) (k : Headers) (image : Option (List Byte)) (unresolved : Bool) (p : Nat) : Dev :=
  let late := !f.whole && decide (192 < f.len)
  let rs := d.passReasons f k image unresolved p
  let f := d.keyedFrame (f.checked k image p) k image p
  let d := d.passCounted f rs p
  d.pressOut id f p rs (if late && d.bit (Reg.PRS_PROFp_CTRL p) 26 then .eofHold else .keyed)

/-- The profile of a pass (R233, R238). -/
def Dev.profileOf (d : Dev) (f : Frame) (k : Headers) : Option Nat :=
  if f.pass = 0 then d.selectProfile f k else if d.profOn f.next then some f.next else none

theorem Dev.profileOf_first {d : Dev} {f : Frame} (hpass : f.pass = 0) (k : Headers) : d.profileOf f k = d.selectProfile f k :=
  if_pos hpass

theorem Dev.pressFinish_eq (d : Dev) (id : Nat) (f : Frame) (k : Headers) (frag : Nat) (image : Option (List Byte)) (unresolved : Bool) :
    d.pressFinish id f k frag image unresolved =
      let f := f.setWalk k frag (d.isPtp f k) (f.vint.getD (d.fld Reg.CLS_VINTAGE 0 16))
      match d.profileOf f k with
      | none => d.pressUnselected id f
      | some p => d.pressUnder id f k image unresolved p := by
  unfold Dev.pressFinish
  extract_lets g prof
  have hprof : d.profileOf g k = prof := rfl
  clear_value prof g
  rw [hprof]
  cases prof <;> rfl

theorem Frame.pass_setWalk (f : Frame) (k : Headers) (frag : Nat) (ptp : Bool) (vintage : Nat) :
    (f.setWalk k frag ptp vintage).pass = f.pass := Frame.m_setWalk f k frag ptp vintage (by decide) (by decide)

/-! ## A frame that no profile selects -/

/-- A frame that no profile selects, dropped (R233, R248, R251). -/
def Dev.dropUnmatched (d : Dev) (id : Nat) (f : Frame) : Dev :=
  ((((d.prsCount f 0).prsEvt f 2).prsCount f 8).prsCount f 10).freeFrame id

theorem Dev.reg_prsCount (d : Dev) (f : Frame) {i k : Nat} (h : k ≠ Reg.PRS_COUNTS f.pipe i) : (d.prsCount f i).reg k = d.reg k :=
  Dev.reg_setReg_other _ _ h

theorem Dev.reg_prsEvt (d : Dev) (f : Frame) {i k : Nat} (h : k ≠ Reg.PRS_EVT_STATUS f.pipe) : (d.prsEvt f i).reg k = d.reg k :=
  Dev.reg_sqSet_other _ _ h

theorem Dev.sameRegsBut.prsCount {d t : Dev} {ks : List Nat} (h : d.sameRegsBut t ks) {f : Frame} {i : Nat}
    (hk : Reg.PRS_COUNTS f.pipe i ∈ ks) : d.sameRegsBut (t.prsCount f i) ks := h.setReg hk

theorem Dev.sameRegsBut.prsEvt {d t : Dev} {ks : List Nat} (h : d.sameRegsBut t ks) {f : Frame} {i : Nat}
    (hk : Reg.PRS_EVT_STATUS f.pipe ∈ ks) : d.sameRegsBut (t.prsEvt f i) ks := h.setReg hk

theorem Dev.bit_prsEvt (d : Dev) (f : Frame) {i : Nat} (hi : i < 24) : (d.prsEvt f i).bit (Reg.PRS_EVT_STATUS f.pipe) i = true :=
  Dev.bit_sqSet_mem d _ hi (List.mem_singleton.mpr rfl)

theorem Dev.bit_prsCount (d : Dev) (f : Frame) (i b : Nat) :
    (d.prsCount f i).bit (Reg.PRS_EVT_STATUS f.pipe) b = d.bit (Reg.PRS_EVT_STATUS f.pipe) b := by
  unfold Dev.bit
  rw [d.reg_prsCount f (by unfold Reg.PRS_EVT_STATUS Reg.PRS_COUNTS; omega)]

theorem Dev.dropUnmatched_shows (d : Dev) (id : Nat) (f : Frame) :
    (d.dropUnmatched id f).frame? id = none ∧ (d.dropUnmatched id f).bit (Reg.PRS_EVT_STATUS f.pipe) 2 = true ∧
    d.sameRegsBut (d.dropUnmatched id f) [Reg.PRS_COUNTS f.pipe 0, Reg.PRS_COUNTS f.pipe 8, Reg.PRS_COUNTS f.pipe 10,
      Reg.PRS_EVT_STATUS f.pipe] := by
  refine ⟨Dev.frame?_freeFrame _ _, ?_, ?_⟩
  · have hfree : (d.dropUnmatched id f).bit (Reg.PRS_EVT_STATUS f.pipe) 2 =
        ((((d.prsCount f 0).prsEvt f 2).prsCount f 8).prsCount f 10).bit (Reg.PRS_EVT_STATUS f.pipe) 2 := rfl
    rw [hfree, Dev.bit_prsCount, Dev.bit_prsCount, Dev.bit_prsEvt _ _ (by decide)]
  · have hregs : d.sameRegsBut ((((d.prsCount f 0).prsEvt f 2).prsCount f 8).prsCount f 10) [Reg.PRS_COUNTS f.pipe 0,
        Reg.PRS_COUNTS f.pipe 8, Reg.PRS_COUNTS f.pipe 10, Reg.PRS_EVT_STATUS f.pipe] :=
      ((((Dev.sameRegsBut.refl d _).prsCount (by simp)).prsEvt (by simp)).prsCount (by simp)).prsCount (by simp)
    exact hregs.of_rf rfl

theorem Dev.pressUnselected_dropped {d : Dev} (hdst : d.fld Reg.PRS_CTRL 30 2 = 0) (id : Nat) (f : Frame) :
    d.pressUnselected id f = d.dropUnmatched id f := by
  have hctrl : ((d.prsCount f 0).prsEvt f 2).fld Reg.PRS_CTRL 30 2 = 0 := by
    unfold Dev.fld
    rw [Dev.reg_prsEvt _ _ (by unfold Reg.PRS_CTRL Reg.PRS_EVT_STATUS; omega),
      Dev.reg_prsCount _ _ (by unfold Reg.PRS_CTRL Reg.PRS_COUNTS; omega)]
    exact hdst
  unfold Dev.pressUnselected
  dsimp only
  rw [hctrl]
  rfl

theorem Dev.pressFinish_unmatched {d : Dev} {f : Frame} (hpass : f.pass = 0) (hoff : ∀ p, p < 64 → d.profOn p = false)
    (hdst : d.fld Reg.PRS_CTRL 30 2 = 0) (id : Nat) (k : Headers) (frag : Nat) (image : Option (List Byte)) (unresolved : Bool) :
    d.pressFinish id f k frag image unresolved = d.dropUnmatched id f := by
  rw [Dev.pressFinish_eq]
  dsimp only
  rw [Dev.profileOf_first ((Frame.pass_setWalk ..).trans hpass), Dev.selectProfile_none hoff]
  dsimp only
  rw [Dev.pressUnselected_dropped hdst]
  unfold Dev.dropUnmatched Dev.prsCount Dev.prsEvt
  rw [(f.setWalk_rest ..).pipe]

/-! ## A frame under its profile -/

/-- A reason counted changes registers of the pipelines alone. -/
theorem Dev.reg_reasonCount (d : Dev) (f : Frame) (r : Nat) {k : Nat} (hk : k < 0x7c0000) : (d.reasonCount f r).reg k = d.reg k := by
  have hcount (i : Nat) (d : Dev) : (d.prsCount f i).reg k = d.reg k :=
    Dev.reg_setReg_other _ _ (by unfold Reg.PRS_COUNTS; omega)
  have hevt (i : Nat) (d : Dev) : (d.prsEvt f i).reg k = d.reg k :=
    Dev.reg_sqSet_other _ _ (by unfold Reg.PRS_EVT_STATUS; omega)
  unfold Dev.reasonCount
  split <;> simp only [hcount, hevt]

theorem Dev.reg_foldl_reasonCount (f : Frame) {k : Nat} (hk : k < 0x7c0000) (rs : List Nat) (d : Dev) :
    (rs.foldl (fun d r => d.reasonCount f r) d).reg k = d.reg k := by
  induction rs generalizing d with
  | nil => rfl
  | cons r rs ih => rw [List.foldl_cons, ih, Dev.reg_reasonCount d f r hk]

theorem length_extract (f : Frame) (k : Headers) (image : Option (List Byte)) (x : Word) (st : List Byte × Bool) :
    (extract f k image x st).1.length = st.1.length := by
  unfold extract
  split
  · generalize List.range _ = js
    induction js generalizing st with
    | nil => rfl
    | cons j js ih =>
      rw [List.foldl_cons, ih]
      split <;> simp
  · rfl

theorem length_foldl_extract (f : Frame) (k : Headers) (image : Option (List Byte)) (xs : List Word) (st : List Byte × Bool) :
    (xs.foldl (fun st x => extract f k image x st) st).1.length = st.1.length := by
  induction xs generalizing st with
  | nil => rfl
  | cons x xs ih => rw [List.foldl_cons, ih, length_extract]

theorem Dev.length_maskBytes (d : Dev) (base : Nat) (bs : List Byte) : (d.maskBytes base bs).length = bs.length := by
  simp [Dev.maskBytes]

theorem Dev.length_buildKey (d : Dev) (f : Frame) (k : Headers) (image : Option (List Byte)) (p : Nat) :
    (d.buildKey f k image p).1.length = d.profKeyLen p := by
  unfold Dev.buildKey
  dsimp only
  rw [Dev.length_maskBytes, length_foldl_extract]
  simp

theorem Frame.setCsum_rest (f : Frame) (l3 l4 : Nat) : f.Recorded (f.setCsum l3 l4) := by
  unfold Frame.setCsum
  split
  · exact .refl f
  split
  · exact ((Recorded.refl f).mset ..).mset ..
  split
  · exact .refl f
  · exact (((Recorded.refl f).mset ..).mset ..).msetBit ..

theorem Frame.profile_setCsum (f : Frame) (l3 l4 : Nat) : (f.setCsum l3 l4).profile = f.profile := by
  unfold Frame.setCsum Frame.profile
  split
  · rfl
  split
  · simp (disch := omega) only [Frame.m_mset_apart]
  split
  · rfl
  · simp (disch := omega) only [Frame.msetBit, Frame.m_mset_apart]

theorem Frame.checked_shows {f : Frame} {p : Nat} (hlen : f.record.length = 12) (hp : p < 64) (k : Headers) (image : Option (List Byte)) :
    (f.checked k image p).profile = p ∧ (f.checked k image p).record.length = 12 ∧ (f.checked k image p).bytes = f.bytes := by
  unfold Frame.checked
  dsimp only
  have hprof : ({ f.mset 0 19 6 p with image := image } : Frame).profile = p :=
    (Frame.m_mset_same f p (by omega) (by decide)).trans (Nat.mod_eq_of_lt hp)
  have hrec : ({ f.mset 0 19 6 p with image := image } : Frame).record.length = 12 := ((Recorded.refl f).mset 0 19 6 p).length.trans hlen
  split
  · exact ⟨hprof, hrec, rfl⟩
  · exact ⟨(Frame.profile_setCsum _ _ _).trans hprof, (Frame.setCsum_rest _ _ _).length.trans hrec, (Frame.setCsum_rest _ _ _).bytes⟩

theorem Dev.keyedFrame_shows (d : Dev) (f : Frame) (k : Headers) (image : Option (List Byte)) (p : Nat) :
    (d.keyedFrame f k image p).profile = f.profile ∧ (d.keyedFrame f k image p).key.length = d.profKeyLen p ∧
    (d.keyedFrame f k image p).record.length = f.record.length ∧ (d.keyedFrame f k image p).bytes = f.bytes := by
  refine ⟨?_, d.length_buildKey f k image p, ?_, rfl⟩
  · simp (disch := omega) only [Frame.profile, Dev.keyedFrame, Frame.msetBit, Frame.m_mset_apart, Frame.m_mword_other]
    rfl
  · exact ((((Frame.Recorded.refl ({ f with key := (d.buildKey f k image p).1 } : Frame)).msetBit 3 9 _).mword 5 _).length)

theorem Dev.reg_passCounted (d : Dev) (f : Frame) (rs : List Nat) (p : Nat) {k : Nat} (hk : k < 0x7c0000) :
    (d.passCounted f rs p).reg k = d.reg k :=
  (Dev.reg_foldl_reasonCount f hk rs _).trans (Dev.reg_setReg_other _ _ (by unfold Reg.PRS_PROF_HITSp; omega))

/-- A pass under a profile whose mask takes no exception goes on with its key (R233 to R248). -/
theorem Dev.pressUnder_keyed {d : Dev} {f : Frame} {p : Nat} (hlen : f.record.length = 12) (hp : p < 64)
    (hmask : d.reg (Reg.PRS_PROFp_EXC_MASK p) = 0) (hwait : d.bit (Reg.PRS_PROFp_CTRL p) 26 = false)
    (id : Nat) (k : Headers) (image : Option (List Byte)) (unresolved : Bool) :
    ∃ (t : Dev) (h : Frame), d.pressUnder id f k image unresolved p = t.moveFrame id h .keyed ∧ h.profile = p ∧
      h.key.length = d.profKeyLen p ∧ h.m 3 0 8 = 0 ∧ h.bytes = f.bytes := by
  obtain ⟨hcp, hcl, hcb⟩ := Frame.checked_shows hlen hp k image
  obtain ⟨hkp, hkk, hkl, hkb⟩ := d.keyedFrame_shows (f.checked k image p) k image p
  unfold Dev.pressUnder Dev.pressOut
  dsimp only
  generalize d.passReasons f k image unresolved p = rs
  generalize d.keyedFrame (f.checked k image p) k image p = e at hkp hkk hkl hkb ⊢
  have hctrl : (d.passCounted e rs p).bit (Reg.PRS_PROFp_CTRL p) 26 = false := by
    unfold Dev.bit
    rw [Dev.reg_passCounted _ _ _ _ (by unfold Reg.PRS_PROFp_CTRL; omega)]
    exact hwait
  have hnone : rs.find? (fun r => Word.bit (0 : Word) r) = none := by simp [Word.bit]
  rw [hctrl, Dev.reg_passCounted _ _ _ _ (by unfold Reg.PRS_PROFp_EXC_MASK; omega), hmask, hnone, Bool.and_false]
  refine ⟨_, e.setExc 0, rfl, ?_, hkk, ?_, hkb.trans hcb⟩
  · simp (disch := omega) only [Frame.profile, Frame.setExc, Frame.m_mset_apart]
    exact hkp.trans hcp
  · exact Frame.m_mset_same e 0 (by omega) (by decide)

theorem Dev.pressFinish_keyed {d : Dev} {f : Frame} {k : Headers} {frag p : Nat} (hpass : f.pass = 0) (hlen : f.record.length = 12)
    (hsel : d.selectProfile (f.setWalk k frag (d.isPtp f k) (f.vint.getD (d.fld Reg.CLS_VINTAGE 0 16))) k = some p) (hp : p < 64)
    (hmask : d.reg (Reg.PRS_PROFp_EXC_MASK p) = 0) (hwait : d.bit (Reg.PRS_PROFp_CTRL p) 26 = false)
    (id : Nat) (image : Option (List Byte)) (unresolved : Bool) :
    ∃ (t : Dev) (h : Frame), d.pressFinish id f k frag image unresolved = t.moveFrame id h .keyed ∧ h.profile = p ∧
      h.key.length = d.profKeyLen p ∧ h.m 3 0 8 = 0 ∧ h.bytes = f.bytes := by
  have hwalk := f.setWalk_rest k frag (d.isPtp f k) (f.vint.getD (d.fld Reg.CLS_VINTAGE 0 16))
  rw [Dev.pressFinish_eq]
  dsimp only
  rw [Dev.profileOf_first ((Frame.pass_setWalk ..).trans hpass), hsel]
  obtain ⟨t, h, e, hprof, hkey, hexc, hbytes⟩ := Dev.pressUnder_keyed (hwalk.length.trans hlen) hp hmask hwait id k image unresolved
  exact ⟨t, h, e, hprof, hkey, hexc, hbytes.trans hwalk.bytes⟩

/-! ## Steps of the Press -/

theorem exec_pressPass {s : State} {f : Nat} {g : Frame} (hr : s.dev.running = true) (hf : s.dev.frame? f = some g) :
    exec (.pressPass f) s = .next { s with dev := if g.place = .press then s.dev.pressPass f g else s.dev } := by
  refine (act_run hr).trans ?_
  rw [hf]

theorem exec_fragHoldExpiry {s : State} {f : Nat} {g : Frame} (hr : s.dev.running = true) (hf : s.dev.frame? f = some g) :
    exec (.fragHoldExpiry f) s = .next { s with dev :=
      (if g.place = .fragHold then s.dev.pressUnresolved f g (s.dev.walk g (s.dev.leadOf g)) true else s.dev) } := by
  refine (act_run hr).trans ?_
  rw [hf]

theorem exec_l4CsumFill {s : State} {f : Nat} {g : Frame} (hr : s.dev.running = true) (hf : s.dev.frame? f = some g) :
    exec (.l4CsumFill f) s = .next { s with dev := s.dev.fillL4 f g } := by
  refine (act_run hr).trans ?_
  rw [hf]

theorem Dev.leadOf_first {d : Dev} {f : Frame} (hpass : f.pass = 0) : d.leadOf f = 0 := if_pos hpass

/-- A first pass of a frame that is not steered and is no fragment (R227). -/
theorem Dev.pressPass_whole {d : Dev} {f : Frame} (hpass : f.pass = 0) (hsteer : d.steered f (d.walk f 0) = 0) (hfrag : (d.walk f 0).frag = 0)
    (id : Nat) : d.pressPass id f = d.pressFinish id f (d.walk f 0) 0 none false := by
  unfold Dev.pressPass
  dsimp only
  rw [Dev.leadOf_first hpass, if_neg (fun h => h hsteer), hfrag, if_neg (by decide), if_neg (by simp)]

theorem Dev.pressPass_sampled {d : Dev} {f : Frame} (hpass : f.pass = 0) (hport : f.srcPort < 16) (htype : (d.walk f 0).etf = 0x88BA)
    (htaken : d.bit Reg.PBU_PORT_CTRL f.srcPort = true) (id : Nat) :
    d.pressPass id f = d.steerFrame id f (d.walk f 0) 1 := by
  have hsteer : d.steered f (d.walk f 0) = 1 := by
    unfold Dev.steered
    rw [if_neg (by omega), if_pos ⟨Or.inl htype, htaken⟩]
  unfold Dev.pressPass
  dsimp only
  rw [Dev.leadOf_first hpass, hsteer, if_pos (by decide)]

/-- A steered sampled-values frame stands at the process bus with its bytes (R232). -/
theorem Dev.steerFrame_bus (d : Dev) (id : Nat) (f : Frame) (k : Headers) : ∃ h : Frame,
    (d.steerFrame id f k 1).frame? id = some h ∧ h.place = .pbu ∧ h.bytes = f.bytes ∧
    d.sameRegsBut (d.steerFrame id f k 1) [Reg.PRS_COUNTS f.pipe 11] := by
  have hwalk := f.setWalk_rest k k.frag (d.isPtp f k) (f.vint.getD (d.fld Reg.CLS_VINTAGE 0 16))
  refine ⟨_, Dev.frame?_moveFrame _ id _ .pbu, rfl, hwalk.bytes, ?_⟩
  have hcount := (Dev.sameRegsBut.refl d [Reg.PRS_COUNTS f.pipe 11]).prsCount
    (f := f.setWalk k k.frag (d.isPtp f k) (f.vint.getD (d.fld Reg.CLS_VINTAGE 0 16))) (i := 11) (by rw [hwalk.pipe]; simp)
  exact hcount.of_rf rfl

theorem Dev.fillL4_keyed {d : Dev} {f : Frame} (hwhole : f.whole = false) (hgood : f.bad = false) (hplace : f.place = .keyed) (id : Nat) :
    ∃ h : Frame, (d.fillL4 id f).frame? id = some h ∧ h.whole = true ∧ h.place = .keyed ∧ h.key = f.key := by
  unfold Dev.fillL4
  rw [if_neg (by simp [hwhole]), if_neg (by simp [hgood])]
  dsimp only
  rw [if_neg (by simp [hplace])]
  refine ⟨_, Dev.frame?_putFrame _ _ _, ?_⟩
  split
  · exact ⟨rfl, hplace, rfl⟩
  · exact ⟨rfl, hplace, rfl⟩

theorem Dev.fillL4_bad {d : Dev} {f : Frame} (hwhole : f.whole = false) (hbad : f.bad = true) (hplace : f.place = .keyed) (id : Nat) :
    d.fillL4 id f = d.freeFrame id := by
  unfold Dev.fillL4 Dev.dropBad
  rw [if_neg (by simp [hwhole]), if_pos hbad, hplace]

/-! ## Keys at the Classifier -/

theorem exec_classifierLookup {s : State} {f : Nat} {g : Frame} (hr : s.dev.running = true) (hf : s.dev.frame? f = some g) :
    exec (.classifierLookup f) s = .next { s with dev := if g.place = .keyed then s.dev.classify f g else s.dev } := by
  refine (act_run hr).trans ?_
  rw [hf]

theorem Dev.sameRegsBut.clsCount {d t : Dev} {ks : List Nat} (h : d.sameRegsBut t ks) {f : Frame} {i : Nat}
    (hk : Reg.CLS_COUNTS f.pipe i ∈ ks) : d.sameRegsBut (t.clsCount f i) ks := h.setReg hk

theorem Dev.sameRegsBut.clsEvt {d t : Dev} {ks : List Nat} (h : d.sameRegsBut t ks) {f : Frame} {i : Nat}
    (hk : Reg.CLS_EVT_STATUS f.pipe ∈ ks) : d.sameRegsBut (t.clsEvt f i) ks := h.setReg hk

theorem Dev.bit_clsEvt (d : Dev) (f : Frame) {i : Nat} (hi : i < 24) : (d.clsEvt f i).bit (Reg.CLS_EVT_STATUS f.pipe) i = true :=
  Dev.bit_sqSet_mem d _ hi (List.mem_singleton.mpr rfl)

theorem Dev.bit_clsCount (d : Dev) (f : Frame) (i b : Nat) :
    (d.clsCount f i).bit (Reg.CLS_EVT_STATUS f.pipe) b = d.bit (Reg.CLS_EVT_STATUS f.pipe) b :=
  Dev.bit_setReg_other d _ _ (by unfold Reg.CLS_EVT_STATUS Reg.CLS_COUNTS; omega)

/-- The lookup's words 9 and 10 leave the frame's profile, vintage, key and pipeline. -/
theorem Frame.m_lookup (f : Frame) (l n : Nat) : ((f.mword 9 0).mword 10 0).m 0 l n = f.m 0 l n := by
  rw [Frame.m_mword_other _ _ (by decide), Frame.m_mword_other _ _ (by decide)]

theorem Dev.clsAction_drop (d : Dev) (id : Nat) (f : Frame) (miss : Bool) :
    d.clsAction id f (wd (2 ^ 28)) 0 0 miss = (d.clsCount f 9).freeFrame id := by
  unfold Dev.clsAction
  rw [show actionBad (wd (2 ^ 28)) 0 0 = false by decide, show Word.fld (wd (2 ^ 28)) 28 4 = 1 by decide,
    show Word.bit (wd (2 ^ 28)) 27 = false by decide]
  rfl

/-- A profile whose map is off, its miss action DROP (R261). -/
theorem Dev.classify_off_drop {d : Dev} {f : Frame} (hoff : d.bit (Reg.CLS_PMAPp_CTRL f.profile) 31 = false)
    (h0 : d.reg (Reg.CLS_PMAPp_MISS f.profile 0) = wd (2 ^ 28)) (h1 : d.reg (Reg.CLS_PMAPp_MISS f.profile 1) = 0)
    (h2 : d.reg (Reg.CLS_PMAPp_MISS f.profile 2) = 0) (id : Nat) : d.classify id f = (d.clsCount f 9).freeFrame id := by
  have hprof : ((f.mword 9 0).mword 10 0).profile = f.profile := f.m_lookup 19 6
  unfold Dev.classify
  dsimp only
  rw [if_pos (by simpa [Dev.bit] using hoff)]
  unfold Dev.clsMiss
  dsimp only
  rw [hprof, h0, h1, h2, Dev.clsAction_drop]
  rfl

/-- A lookup whose key has not its table's length, dropped (R261, R265). -/
def Dev.dropMisfit (d : Dev) (id : Nat) (f : Frame) : Dev := (((d.clsCount f 4).clsEvt f 1).clsCount f 9).freeFrame id

theorem Dev.dropMisfit_shows (d : Dev) (id : Nat) (f : Frame) :
    (d.dropMisfit id f).frame? id = none ∧ (d.dropMisfit id f).bit (Reg.CLS_EVT_STATUS f.pipe) 1 = true ∧
    d.sameRegsBut (d.dropMisfit id f) [Reg.CLS_COUNTS f.pipe 4, Reg.CLS_COUNTS f.pipe 9, Reg.CLS_EVT_STATUS f.pipe] := by
  refine ⟨Dev.frame?_freeFrame _ _, ?_, ?_⟩
  · have hfree : (d.dropMisfit id f).bit (Reg.CLS_EVT_STATUS f.pipe) 1 =
        (((d.clsCount f 4).clsEvt f 1).clsCount f 9).bit (Reg.CLS_EVT_STATUS f.pipe) 1 := rfl
    rw [hfree, Dev.bit_clsCount, Dev.bit_clsEvt _ _ (by decide)]
  · have hregs : d.sameRegsBut (((d.clsCount f 4).clsEvt f 1).clsCount f 9)
        [Reg.CLS_COUNTS f.pipe 4, Reg.CLS_COUNTS f.pipe 9, Reg.CLS_EVT_STATUS f.pipe] :=
      (((Dev.sameRegsBut.refl d _).clsCount (by simp)).clsEvt (by simp)).clsCount (by simp)
    exact hregs.of_rf rfl

theorem Dev.classify_misfit {d : Dev} {f : Frame} (hon : d.bit (Reg.CLS_PMAPp_CTRL f.profile) 31 = true)
    (hlen : f.key.length ≠ d.tblKeyLen (d.fld (Reg.CLS_PMAPp_CTRL f.profile) 0 4)) (hdst : d.fld Reg.CLS_CTRL 30 2 = 0) (id : Nat) :
    d.classify id f = d.dropMisfit id f := by
  unfold Dev.classify
  extract_lets pm f1 t bank f2 known d1
  rw [if_neg (by simpa [Dev.bit] using hon), if_pos (show f2.key.length ≠ d.tblKeyLen t from hlen)]
  unfold Dev.clsException Dev.exception
  dsimp only
  rw [hdst]
  rfl

theorem Dev.moveUnit_same (d : Dev) (o : Option Nat) : d.moveUnit o o = d := if_pos rfl

theorem Dev.cls_showTable (d : Dev) (t : Nat) : (d.showTable t).cls = d.cls := rfl

/-- An entry's words are read back. -/
theorem Dev.clsRaw_setEntry (d : Dev) (t bank : Nat) (l : Loc) (ws : List Word) :
    (d.setEntry t bank l ws).clsRaw t bank l = some ws := by
  unfold Dev.setEntry Dev.clsRaw
  rw [Dev.cls_showTable]
  by_cases hs : l.store = true
  · rw [if_pos hs, if_pos hs]
    exact Map.get?_put_same _ _ _
  · rw [if_neg hs, if_neg hs]
    exact Map.get?_put_same _ _ _

/-- HIT set in an entry leaves it VALID. -/
theorem entryValid_hit {ws : List Word} (h : entryValid ws = true) : entryValid (ws.set 0 (Word.setBit (wordAt ws 0) 30 true)) = true := by
  unfold entryValid at h ⊢
  rw [wordAt_set]
  split
  · rw [Word.bit_setBit_other _ _ _ _ (by decide) (by decide)]
    exact h
  · exact h

/-- CONTINUE with no arguments: the frame goes to Forwarding under its FWD_ARG (R259). -/
theorem Dev.clsAction_continue (d : Dev) (id : Nat) (f : Frame) (w2 : Word) (miss : Bool) :
    ∃ h : Frame, d.clsAction id f 0 w2 0 miss = d.moveFrame id h .forward ∧ h.fwdArg = w2 := by
  refine ⟨{ (((f.mset 9 28 4 0).mword 10 w2).mword 11 0) with fwdArg := w2 }, ?_, rfl⟩
  have hgood : actionBad 0 w2 0 = false := by
    unfold actionBad
    rw [show Word.fld (0 : Word) 28 4 = 0 by decide]
    rfl
  unfold Dev.clsAction
  rw [hgood, show Word.fld (0 : Word) 28 4 = 0 by decide, show Word.bit (0 : Word) 27 = false by decide]
  rfl

/-- The lookup of a table reads its registers and its entries. -/
theorem Dev.clsFind_congr {d t : Dev} (hcls : t.cls = d.cls) (hreg : ∀ k, k < 0x8c0000 → t.reg k = d.reg k) {tb : Nat} (htb : tb < 16)
    (bank : Nat) (key : List Byte) : t.clsFind tb bank key = d.clsFind tb bank key := by
  have hsize : t.tblSize tb = d.tblSize tb := by
    unfold Dev.tblSize Dev.fld
    rw [hreg _ (by unfold Reg.CLS_TBLt_SIZE; omega)]
  have hclear : t.tblClearing tb = d.tblClearing tb := by
    unfold Dev.tblClearing Dev.bit
    rw [hreg _ (by unfold Reg.CLS_TBLt_STATUS; omega)]
  have hentry : t.clsEntry = d.clsEntry := by
    funext tb bank l
    unfold Dev.clsEntry Dev.clsRaw
    rw [hcls]
  unfold Dev.clsFind Dev.ovfUsed
  rw [hsize, hclear, hentry, hcls, hreg _ (by unfold Reg.CLS_TBLt_SEED; omega)]

/-- A key found takes its entry's action and sets its HIT (R256, R260). -/
theorem Dev.classify_found {d : Dev} {f : Frame} {tb : Nat} {l : Loc} {ws : List Word} (hon : d.bit (Reg.CLS_PMAPp_CTRL f.profile) 31 = true)
    (htb : tb = d.fld (Reg.CLS_PMAPp_CTRL f.profile) 0 4) (hlen : f.key.length = d.tblKeyLen tb)
    (hfind : d.clsFind tb (d.bankFor tb f.vintage) f.key = some l) (hent : d.clsEntry tb (d.bankFor tb f.vintage) l = some ws)
    (h1 : wordAt ws 1 = 0) (h3 : wordAt ws 3 = 0) (id : Nat) :
    ∃ (h : Frame) (t : Dev), d.classify id f = (t.setEntry tb (d.bankFor tb f.vintage) l
      (ws.set 0 (Word.setBit (wordAt ws 0) 30 true))).moveFrame id h .forward ∧ h.fwdArg = wordAt ws 2 := by
  have htb16 : tb < 16 := by rw [htb]; exact Word.fld_lt _ 0 4
  have hvint : ((f.mword 9 0).mword 10 0).vintage = f.vintage := f.m_lookup 0 16
  unfold Dev.classify
  extract_lets pm f1 t bank f2 known d1
  have ht : t = tb := htb.symm
  have hbank : bank = d.bankFor tb f.vintage := by
    show d.bankFor t f1.vintage = _
    rw [ht, hvint]
  have hd1 : d1.cls = d.cls ∧ ∀ k, k < 0x8c0000 → d1.reg k = d.reg k := by
    unfold d1 Dev.when
    split
    · exact ⟨rfl, fun k hk => Dev.reg_setReg_other _ _ (by unfold Reg.CLS_COUNTS; omega)⟩
    · exact ⟨rfl, fun _ _ => rfl⟩
  have hkey : f2.key = f.key := rfl
  clear_value d1 known f2 bank t
  subst ht hbank
  rw [if_neg (by simpa [Dev.bit] using hon), hkey, if_neg (not_not_intro hlen), Dev.clsFind_congr hd1.1 hd1.2 htb16, hfind]
  have hent1 : d1.clsEntry t (d.bankFor t f.vintage) l = some ws := by
    unfold Dev.clsEntry Dev.clsRaw
    rw [hd1.1]
    exact hent
  dsimp only
  rw [hent1]
  dsimp only
  rw [h1, h3]
  obtain ⟨h, e, harg⟩ := Dev.clsAction_continue ((d1.clsCount f2 0).setEntry t (d.bankFor t f.vintage) l
    (ws.set 0 (Word.setBit (wordAt ws 0) 30 true))) id ((f2.mset 9 22 2 l.found).mset 9 0 21 l.index) (wordAt ws 2) false
  exact ⟨h, _, e, harg⟩

/-! ## The recirculation loop -/

theorem exec_recircEntry_empty {s : State} {p : Fin 3} (hr : s.dev.running = true) (h : ∀ q, q < 4 → s.dev.loop p.val q = []) :
    exec (.recircEntry p) s = .next s := by
  have hnone : (List.range 4).find? (fun q => !(s.dev.loop p.val q).isEmpty) = none := by
    rw [List.find?_eq_none]
    intro q hq
    simp [h q (List.mem_range.mp hq)]
  refine (act_run hr).trans ?_
  rw [hnone]

theorem exec_recircEntry_head {s : State} {p : Fin 3} {f : Nat} {g : Frame} {rest : List Nat} {t : Dev} (hr : s.dev.running = true)
    (hf : s.dev.frame? f = some g) (hq : s.dev.loop p.val 0 = f :: rest)
    (ho : s.dev.offer .recirc f g.cls (s.dev.unitCost 2 g.len) g.owner false = (true, t)) :
    exec (.recircEntry p) s = .next { s with dev := ((t.setLoop p.val 0 rest).moveFrame f g .press) } := by
  have hfirst : (List.range 4).find? (fun q => !(s.dev.loop p.val q).isEmpty) = some 0 := by
    rw [show List.range 4 = 0 :: [1, 2, 3] by decide, List.find?_cons, hq]
    rfl
  refine (act_run hr).trans ?_
  rw [hfirst]
  dsimp only
  rw [hq]
  dsimp only
  rw [hf]
  dsimp only
  rw [ho]
  rfl

/-- Settles O29: a pass is its walk, its profile, its key and its reasons, a lookup its table's entry and its action; each clause is
the one branch that its hypotheses choose. -/
theorem pressAndClassifierAct : Obligations.PressAndClassifierAct := by
  unfold Obligations.PressAndClassifierAct
  refine ⟨fun s f g hr hf hlen => ?_, fun s f g hr hf hlen => ?_⟩
  · have hpass := exec_pressPass hr hf
    have hhold := exec_fragHoldExpiry hr hf
    have hfill := exec_l4CsumFill hr hf
    dsimp only
    refine ⟨fun hp => ?_, fun hp => ?_, fun hp h0 hport htype htaken => ?_, fun hp h0 hsteer hfrag hoff hdst => ?_,
      fun p hp h0 hsteer hfrag hsel hp64 hmask hwait => ?_, fun hp h0 hoff hdst => ?_, fun n => act_run hr, fun hw => ?_,
      fun hw hb hp => ?_, fun hw hb hp => ?_⟩
    · rw [hpass, if_neg hp]
    · rw [hhold, if_neg hp]
    · rw [if_pos hp, Dev.pressPass_sampled h0 hport htype htaken] at hpass
      obtain ⟨h, hfr, hplace, hbytes, hregs⟩ := s.dev.steerFrame_bus f g (s.dev.walk g 0)
      exact ⟨_, h, hpass, hfr, hplace, hbytes, hregs⟩
    · rw [if_pos hp, Dev.pressPass_whole h0 hsteer hfrag, Dev.pressFinish_unmatched h0 hoff hdst] at hpass
      exact ⟨_, hpass, s.dev.dropUnmatched_shows f g⟩
    · rw [if_pos hp, Dev.pressPass_whole h0 hsteer hfrag] at hpass
      obtain ⟨t, h, e, hprof, hkey, hexc, hbytes⟩ := Dev.pressFinish_keyed h0 hlen hsel hp64 hmask hwait f none false
      rw [e] at hpass
      exact ⟨_, { h with place := .keyed }, hpass, Dev.frame?_moveFrame t f h .keyed, rfl, hprof, hkey, hexc, hbytes⟩
    · rw [if_pos hp, Dev.leadOf_first h0] at hhold
      unfold Dev.pressUnresolved at hhold
      rw [Dev.pressFinish_unmatched h0 hoff hdst] at hhold
      obtain ⟨hgone, hevt, -⟩ := s.dev.dropUnmatched_shows f g
      exact ⟨_, hhold, hgone, hevt⟩
    · rw [hfill]
      unfold Dev.fillL4
      rw [if_pos hw]
    · rw [hfill, Dev.fillL4_bad hw hb hp]
    · obtain ⟨h, hfr, hrest⟩ := Dev.fillL4_keyed (d := s.dev) hw hb hp f
      exact ⟨_, h, hfill, hfr, hrest⟩
  · have hlook := exec_classifierLookup hr hf
    refine ⟨fun hp => ?_, fun hp hoff m0 m1 m2 => ?_, fun hp hon hkey hdst => ?_,
      fun tb l ws hp hon htb hkey hfind hent h1 h3 => ?_, fun p => exec_recircEntry_empty hr, fun p rest t => exec_recircEntry_head hr hf⟩
    · rw [hlook, if_neg hp]
    · rw [if_pos hp, Dev.classify_off_drop hoff m0 m1 m2] at hlook
      have hregs : s.dev.sameRegsBut (s.dev.clsCount g 9) [Reg.CLS_COUNTS g.pipe 9] := (Dev.sameRegsBut.refl _ _).clsCount (by simp)
      exact ⟨_, hlook, Dev.frame?_freeFrame _ _, hregs.of_rf rfl⟩
    · rw [if_pos hp, Dev.classify_misfit hon hkey hdst] at hlook
      exact ⟨_, hlook, s.dev.dropMisfit_shows f g⟩
    · obtain ⟨h, t, e, harg⟩ := Dev.classify_found hon htb hkey hfind hent h1 h3 f
      rw [if_pos hp, e] at hlook
      have hvalid : entryValid ws = true := (Option.filter_eq_some_iff.mp hent).2
      refine ⟨_, { h with place := .forward }, hlook, Dev.frame?_moveFrame _ f h .forward, rfl, harg, ?_⟩
      show Option.filter entryValid _ = _
      have hraw := t.clsRaw_setEntry tb (s.dev.bankFor tb g.vintage) l (ws.set 0 (Word.setBit (wordAt ws 0) 30 true))
      exact (congrArg _ hraw).trans (by simp [Option.filter, entryValid_hit hvalid])

end Sys2Proof.Machine
end


section
/-! DEFINITION. Forwarding of frames, learning, and the table command registers (O32). -/

namespace Sys2Proof.Machine

/-! ## Pool 6 follows an entry -/

theorem Dev.moveUnit_rest (d : Dev) (old new : Option Nat) :
    ∃ rf slc, d.moveUnit old new = { d with rf := rf, slc := slc } := by
  unfold Dev.moveUnit
  split
  · exact ⟨d.rf, d.slc, rfl⟩
  · cases old <;> cases new <;> exact ⟨_, _, rfl⟩

theorem Dev.fwd_moveUnit (d : Dev) (old new : Option Nat) : (d.moveUnit old new).fwd = d.fwd := by
  obtain ⟨rf, slc, h⟩ := d.moveUnit_rest old new
  rw [h]

theorem Dev.reg_moveUnit (d : Dev) (old new : Option Nat) {k : Nat} (hk : 0x460000 ≤ k) : (d.moveUnit old new).reg k = d.reg k := by
  have hpool : k ≠ poolReg 6 := by
    have : poolReg 6 < 0x460000 := by decide
    omega
  have htake (d : Dev) (s : Nat) : (d.poolTake s 6 1).reg k = d.reg k := Dev.reg_setReg_other _ _ hpool
  have hfree (d : Dev) (s : Nat) : (d.poolFree s 6 1).reg k = d.reg k := Dev.reg_setReg_other _ _ hpool
  unfold Dev.moveUnit
  split
  · rfl
  · cases old <;> cases new <;> simp only [htake, hfree]

/-! ## The hashed tables -/

theorem Dev.htMap_setHt (d : Dev) (t : HTable) (m : Map (List Word)) : (d.setHt t m).htMap t = m := by cases t <;> rfl

theorem Dev.reg_setHt (d : Dev) (t : HTable) (m : Map (List Word)) (k : Nat) : (d.setHt t m).reg k = d.reg k := by cases t <;> rfl

theorem Dev.htRaw_htPut (d : Dev) (t : HTable) (i : Nat) (ws : List Word) : (d.htPut t i ws).htRaw t i = ws := by
  unfold Dev.htPut Dev.htRaw
  dsimp only
  rw [Dev.htMap_setHt, Map.getD_put, if_pos rfl]

theorem Dev.reg_htPut (d : Dev) (t : HTable) (i : Nat) (ws : List Word) {k : Nat} (hk : 0x460000 ≤ k) : (d.htPut t i ws).reg k = d.reg k :=
  (Dev.reg_setHt _ _ _ _).trans (Dev.reg_moveUnit _ _ _ hk)

/-- The L2 table's entries change; the learning queue stays. -/
theorem Dev.learn_htPut (d : Dev) (t : HTable) (i : Nat) (ws : List Word) : (d.htPut t i ws).fwd.learn = d.fwd.learn := by
  have h := congrArg Fwd.learn (d.fwd_moveUnit (d.htSlice t (d.htRaw t i)) (d.htSlice t ws))
  cases t <;> exact h

theorem entryValid_invalid (ws : List Word) : entryValid (invalid ws) = false := by
  unfold entryValid invalid
  rw [wordAt_set]
  split
  · exact Word.bit_setBit_same _ _ _ (by decide)
  · rename_i h
    have hempty : ws = [] := List.eq_nil_of_length_eq_zero (by
      have : ¬ 0 < ws.length := fun hl => h ⟨rfl, hl⟩
      omega)
    rw [hempty]
    decide

theorem Dev.htEntry_htClear (d : Dev) (t : HTable) (i : Nat) : (d.htClear t i).htEntry t i = none := by
  unfold Dev.htClear
  split
  · rename_i ws h
    unfold Dev.htPut Dev.htEntry
    dsimp only
    rw [Dev.htMap_setHt, Map.get?_put_same]
    simp [entryValid_invalid]
  · rename_i h
    unfold Dev.htEntry
    rw [h]
    rfl

theorem Dev.htEntry_congr {d t : Dev} (h : t.fwd = d.fwd) (tb : HTable) (i : Nat) : t.htEntry tb i = d.htEntry tb i := by
  unfold Dev.htEntry
  cases tb <;> simp only [Dev.htMap, h]

theorem Dev.htRaw_congr {d t : Dev} (h : t.fwd = d.fwd) (tb : HTable) (i : Nat) : t.htRaw tb i = d.htRaw tb i := by
  unfold Dev.htRaw
  cases tb <;> simp only [Dev.htMap, h]

/-! ## The words of an LPM entry -/

theorem Map.get?_getD_putD {α : Type} [DecidableEq α] (m : Map α) (k j : Nat) (z v : α) :
    (Map.get? (Map.putD m k z v) j).getD z = if j = k then v else (Map.get? m j).getD z := Map.getD_putD m k j z v

theorem Dev.tcm_tcmPut (d : Dev) (i j : Nat) (ws : List Word) : (d.tcmPut i ws).tcm j = if j = i then ws else d.tcm j := by
  unfold Dev.tcm Dev.tcmPut
  dsimp only
  rw [Map.get?_getD_putD, Dev.fwd_moveUnit]

theorem Dev.reg_tcmPut (d : Dev) (i : Nat) (ws : List Word) {k : Nat} (hk : 0x460000 ≤ k) : (d.tcmPut i ws).reg k = d.reg k :=
  Dev.reg_moveUnit _ _ _ hk

theorem tcmValid_clear (ws : List Word) : tcmValid (ws.set 12 (Word.setBit (wordAt ws 12) 31 false)) = false := by
  unfold tcmValid
  rw [wordAt_set]
  split
  · exact Word.bit_setBit_same _ _ _ (by decide)
  · rename_i h
    have hshort : ws.length ≤ 12 := by
      have : ¬ 12 < ws.length := fun hl => h ⟨rfl, hl⟩
      omega
    have hzero : wordAt ws 12 = 0 := by
      unfold wordAt
      rw [List.getElem?_eq_none hshort]
      rfl
    rw [hzero]
    decide

theorem Dev.tcmValid_tcmClear (d : Dev) (i : Nat) : tcmValid ((d.tcmClear i).tcm i) = false := by
  unfold Dev.tcmClear
  rw [Dev.tcm_tcmPut, if_pos rfl, tcmValid_clear]

theorem Dev.tcm_tcmClear_other (d : Dev) {i j : Nat} (h : j ≠ i) : (d.tcmClear i).tcm j = d.tcm j := by
  unfold Dev.tcmClear
  rw [Dev.tcm_tcmPut, if_neg h]

theorem Dev.tcm_congr {d t : Dev} (h : t.fwd = d.fwd) (i : Nat) : t.tcm i = d.tcm i := by
  unfold Dev.tcm
  rw [h]

/-- A racking move of an IPv4 entry copies it and clears its old place (R296). -/
theorem Dev.tcm_tcmMove (d : Dev) {i j : Nat} (h : j ≠ i) :
    (d.tcmMove false i j).tcm j = d.tcm i ∧ tcmValid ((d.tcmMove false i j).tcm i) = false := by
  have hcounts : (d.tcmMove false i j).fwd = ((d.tcmClear i).tcmPut j (d.tcm i)).fwd := rfl
  rw [Dev.tcm_congr hcounts, Dev.tcm_congr hcounts, Dev.tcm_tcmPut, if_pos rfl, Dev.tcm_tcmPut, if_neg h.symm]
  exact ⟨rfl, d.tcmValid_tcmClear i⟩

theorem exec_rackingMove_alone {s : State} {i j : Fin 131072} (hr : s.dev.running = true) (hi : i.val < s.dev.v6Base)
    (hlive : s.dev.tcmLive false = [i.val]) (hj : j.val < s.dev.v6Base) (hne : j ≠ i) :
    exec (.rackingMove i j) s = .next { s with dev := s.dev.tcmMove false i.val j.val } := by
  have hv6 : decide (s.dev.v6Base ≤ i.val) = false := decide_eq_false (by omega)
  have hji : j.val ≠ i.val := fun h => hne (Fin.ext h)
  refine (act_run hr).trans ?_
  dsimp only
  rw [hv6, hlive, show s.dev.tcmRange false = (0, s.dev.v6Base, 1) from rfl]
  dsimp only
  rw [if_pos (by simp [hji, hj, Nat.mod_one])]

theorem exec_rackingMove_dead {s : State} {i j : Fin 131072} (hr : s.dev.running = true) (hi : i.val < s.dev.v6Base)
    (hdead : i.val ∉ s.dev.tcmLive false) : exec (.rackingMove i j) s = .next s := by
  have hv6 : decide (s.dev.v6Base ≤ i.val) = false := decide_eq_false (by omega)
  refine (act_run hr).trans ?_
  dsimp only
  rw [hv6, show s.dev.tcmRange false = (0, s.dev.v6Base, 1) from rfl]
  dsimp only
  rw [if_neg (by simp [hdead])]

/-! ## Lookups -/

theorem exec_forwardingLookup {s : State} {f : Nat} {g : Frame} (hr : s.dev.running = true) (hf : s.dev.frame? f = some g) :
    exec (.forwardingLookup f) s = .next { s with dev := if g.place = .forward then s.dev.forward f g else s.dev } := by
  refine (act_run hr).trans ?_
  rw [hf]

theorem Dev.bit_fwdEvt (d : Dev) (f : Frame) {i : Nat} (hi : i < 24) : (d.fwdEvt f i).bit (Reg.FWD_EVT_STATUS f.pipe) i = true :=
  Dev.bit_sqSet_mem d _ hi (List.mem_singleton.mpr rfl)

/-- The exception of a frame that FWD_CTRL sends nowhere (R281). -/
theorem Dev.fwdException_drop {d : Dev} (h : d.fld Reg.FWD_CTRL 30 2 = 0) (id : Nat) (f : Frame) (reason : Nat) :
    d.fwdException id f reason = d.freeFrame id := by
  unfold Dev.fwdException Dev.exception
  rw [h]
  rfl

theorem Dev.forward_reserved {d : Dev} {f : Frame} (h3 : Word.fld f.fwdArg 30 2 = 3) (hdst : d.fld Reg.FWD_CTRL 30 2 = 0) (id : Nat) :
    d.forward id f = (d.fwdEvt f 1).freeFrame id := by
  unfold Dev.forward
  dsimp only
  rw [if_pos (Or.inl h3)]
  refine Dev.fwdException_drop ?_ id f 0x94
  unfold Dev.fld
  rw [show (d.fwdEvt f 1).reg Reg.FWD_CTRL = d.reg Reg.FWD_CTRL from
    Dev.reg_sqSet_other _ _ (by unfold Reg.FWD_CTRL Reg.FWD_EVT_STATUS; omega)]
  exact hdst

/-- LEARN and FALLBACK are 0 where the field of both is. -/
theorem bits_of_fld_zero {w : Word} (h : Word.fld w 28 2 = 0) : Word.bit w 28 = false ∧ Word.bit w 29 = false := by
  have hbit (i : Nat) (hi : i < 2) : Word.bit w (28 + i) = false := by
    have := Word.bit_fld w 28 2 i
    rw [h] at this
    simpa [hi, Word.bit, BitVec.testBit_toNat] using this.symm
  exact ⟨hbit 0 (by decide), hbit 1 (by decide)⟩

/-- The lookup that FWD_ARG names first (R277). -/
def Dev.lookupBy (d : Dev) (id : Nat) (f : Frame) (first : Nat) : Dev :=
  match first with
  | 0 => d.fwdL2 id f (Word.fld f.fwdArg 16 12)
  | 1 => d.fwdFlow id f false (Word.fld f.fwdArg 4 12)
  | _ => d.fwdLpm id f (Word.fld f.fwdArg 4 12)

/-- A plain lookup, no learning and no fallback asked (R277). -/
theorem Dev.forward_plain {d : Dev} {f : Frame} {first : Nat} (hfirst : Word.fld f.fwdArg 30 2 = first) (h3 : first ≠ 3)
    (hplain : Word.fld f.fwdArg 28 2 = 0) (h0 : Word.fld f.fwdArg 0 4 = 0) (hlead : first = 0 → f.pass = 0) (id : Nat) :
    d.forward id f = d.lookupBy id f first := by
  obtain ⟨hlearn, hfall⟩ := bits_of_fld_zero hplain
  unfold Dev.forward
  extract_lets a first' bd vrf learn lead
  have hlearn' : learn = false := by
    unfold learn a
    rw [hlearn, Bool.false_and]
  have hgood : ¬ (first' = 3 ∨ Word.fld a 0 4 ≠ 0 ∨ Word.bit a 29 = true ∧ first' ≠ 1) := by
    rintro (h | h | h)
    · exact h3 (hfirst.symm.trans h)
    · exact h h0
    · exact Bool.noConfusion (hfall.symm.trans h.1)
  have heth : ¬ ((first' = 0 ∨ learn = true) ∧ lead ≠ 0) := by
    rintro ⟨h | h, hl⟩
    · exact hl (if_pos (hlead (hfirst.symm.trans h)))
    · exact Bool.noConfusion (hlearn'.symm.trans h)
  have hfirst' : first' = first := hfirst
  rw [if_neg hgood, if_neg heth, hlearn', show Word.bit a 29 = false from hfall, hfirst', if_neg Bool.false_ne_true]
  rfl

theorem Frame.bulk_keeps (f : Frame) (b : Bool) : (f.bulk b).bytes = f.bytes ∧ (f.bulk b).record = f.record := by
  unfold Frame.bulk
  split <;> exact ⟨rfl, rfl⟩

/-- A result that names a node (R280). -/
theorem Dev.fwdResult_node {a b : Word} (hgood : resultBad a b = false) (hkind : Word.fld a 28 4 = 1) (d : Dev) (id : Nat) (f : Frame) :
    d.fwdResult id f a b 0 = d.moveFrame id (f.bulk (Word.bit a 27)) (.toNode (Word.fld a 0 16)) := by
  unfold Dev.fwdResult
  rw [if_neg (by simp [hgood]), hkind]
  rfl

/-- The result DROP (R280). -/
theorem Dev.fwdResult_drop (d : Dev) (id : Nat) (f : Frame) : d.fwdResult id f 0 0 0 = d.freeFrame id := by
  unfold Dev.fwdResult
  rw [if_neg (by decide), show Word.fld (0 : Word) 28 4 = 0 by decide]
  rfl

theorem Dev.sameRegsBut_fwdCount (d : Dev) (f : Frame) (i : Nat) : d.sameRegsBut (d.fwdCount f i) [Reg.FWD_COUNTS f.pipe i] :=
  (Dev.sameRegsBut.refl d _).setReg (List.mem_singleton.mpr rfl)

/-- The flow entry found, with its HIT set (R285). -/
def Dev.flowHit (d : Dev) (i : Nat) : Dev :=
  d.setHt .flow (Map.put (d.htMap .flow) i ((d.htRaw .flow i).set 0 (Word.setBit (wordAt (d.htRaw .flow i) 0) 30 true)))

theorem Dev.fwdFlow_drop {d : Dev} {f : Frame} {i : Nat} (hfind : d.htFind .flow ([0, 0] ++ wordsOf 10 (f.key.take 40)) = some i)
    (hcount : d.bit Reg.FWD_CTRL 27 = false) (ha : wordAt (d.htRaw .flow i) 12 = 0) (hb : wordAt (d.htRaw .flow i) 13 = 0)
    (id vrf : Nat) (fallback : Bool) : d.fwdFlow id f fallback vrf = ((d.flowHit i).fwdCount f 2).freeFrame id := by
  unfold Dev.fwdFlow
  dsimp only
  rw [hfind]
  dsimp only
  rw [hcount, ha, hb, Dev.fwdResult_drop]
  rfl

theorem Dev.hit_flowHit {d : Dev} {i : Nat} (h : d.htRaw .flow i ≠ []) : Word.bit (wordAt ((d.flowHit i).htRaw .flow i) 0) 30 = true := by
  have hraw : (d.flowHit i).htRaw .flow i = (d.htRaw .flow i).set 0 (Word.setBit (wordAt (d.htRaw .flow i) 0) 30 true) := by
    unfold Dev.flowHit
    rw [Dev.htRaw, Dev.htMap_setHt, Map.getD_put, if_pos rfl]
  rw [hraw, wordAt_set, if_pos ⟨rfl, List.length_pos_iff.mpr h⟩]
  exact Word.bit_setBit_same _ _ _ (by decide)

/-! ## Learning -/

/-- The learning queue after its oldest message was taken. -/
def Dev.leftToLearn (d : Dev) (rest : List LearnMsg) : Dev := { d with fwd := { d.fwd with learn := rest } }

theorem exec_learnApply_local {s : State} {ws : List Word} {rest : List LearnMsg} (hr : s.dev.running = true)
    (h : s.dev.fwd.learn = ⟨ws, false⟩ :: rest) :
    exec .learnApply s = .next { s with dev := (s.dev.leftToLearn rest).learnLocal ws } := by
  refine (act_run hr).trans ?_
  rw [h]
  rfl

theorem exec_learnApply_foreign {s : State} {ws : List Word} {rest : List LearnMsg} (hr : s.dev.running = true)
    (h : s.dev.fwd.learn = ⟨ws, true⟩ :: rest) :
    exec .learnApply s = .next { s with dev := (s.dev.leftToLearn rest).learnForeign ws } := by
  refine (act_run hr).trans ?_
  rw [h]
  rfl

theorem exec_learnApply_empty {s : State} (hr : s.dev.running = true) (h : s.dev.fwd.learn = []) : exec .learnApply s = .next s := by
  refine (act_run hr).trans ?_
  rw [h]

/-- The sequence and the CRC stand past word 0. -/
theorem wordAt_sealLearn_zero (ws : List Word) (seq : Word) : wordAt (sealLearn ws seq) 0 = wordAt ws 0 := by
  unfold sealLearn
  dsimp only
  rw [wordAt_set, if_neg (by simp), wordAt_set, if_neg (by simp)]

/-- A local message of a new source that is not told to the domain: its entry is placed, or the miss is counted (R289). -/
theorem Dev.learnLocal_new {d : Dev} {ws : List Word} (hkind : Word.fld (wordAt ws 0) 28 4 = 1)
    (hnew : d.htFind .l2 (learnKey (sealLearn ws (d.reg Reg.FWD_LEARN_SEQ + 1))) = none) (hown : d.bit Reg.FWD_CTRL 29 = false) :
    d.learnLocal ws = match d.htFree .l2 (learnKey (sealLearn ws (d.reg Reg.FWD_LEARN_SEQ + 1))) with
      | some i => d.htPut .l2 i (learnEntry (sealLearn ws (d.reg Reg.FWD_LEARN_SEQ + 1)) false)
      | none => (d.learnCount 8).sqSet (Reg.FWD_EVT_STATUS 0) [3] := by
  have hkind' : Word.fld (wordAt (sealLearn ws (d.reg Reg.FWD_LEARN_SEQ + 1)) 0) 28 4 = 1 := by rw [wordAt_sealLearn_zero, hkind]
  unfold Dev.learnLocal Dev.learnAt
  dsimp only
  generalize sealLearn ws (d.reg Reg.FWD_LEARN_SEQ + 1) = ws at hnew hkind' ⊢
  rw [hkind', hnew, if_neg (by decide)]
  dsimp only
  rw [if_neg Bool.false_ne_true]
  cases hfree : d.htFree .l2 (learnKey ws) with
  | none => rfl
  | some i =>
    dsimp only
    have hsame : (d.htPut .l2 i (learnEntry ws false)).bit Reg.FWD_CTRL 29 = false := by
      unfold Dev.bit
      rw [Dev.reg_htPut _ _ _ _ (by decide)]
      exact hown
    rw [if_neg (show ¬ (1 : Nat) = 2 by decide), hsame]
    rfl

/-! ## The table command registers -/

theorem exec_tableOp {s : State} (hr : s.dev.running = true) :
    exec .fwdTableRead s = .next { s with dev := s.dev.tableOp 1 } ∧ exec .fwdTableWrite s = .next { s with dev := s.dev.tableOp 2 } ∧
    exec .fwdTableInvalidate s = .next { s with dev := s.dev.tableOp 3 } ∧ exec .fwdTableSearch s = .next { s with dev := s.dev.tableOp 4 } ∧
    exec .fwdTableInsert s = .next { s with dev := s.dev.tableOp 5 } ∧ exec .fwdTableDelete s = .next { s with dev := s.dev.tableOp 6 } :=
  ⟨act_run hr, act_run hr, act_run hr, act_run hr, act_run hr, act_run hr⟩

theorem Dev.tableOp_off {d : Dev} (h : d.htSize d.tTable = 0) (op : Nat) : d.tableOp op = d.tDone op 4 := by
  unfold Dev.tableOp
  dsimp only
  rw [if_pos h]

theorem Dev.regN_tDone (d : Dev) (op err : Nat) (h : err * 16 + op < 2 ^ 32) : (d.tDone op err).regN Reg.FWD_TCMD = err * 16 + op := by
  unfold Dev.regN Dev.tDone Dev.setN
  rw [Dev.reg_setReg_same]
  exact Nat.mod_eq_of_lt h

theorem Dev.regs_congr {d t : Dev} {b n : Nat} (h : ∀ i, i < n → t.reg (b + 4 * i) = d.reg (b + 4 * i)) : t.regs b n = d.regs b n :=
  List.map_congr_left fun i hi => h i (List.mem_range.mp hi)

theorem Dev.regs_setRegs (d : Dev) (b : Nat) (ws : List Word) : (d.setRegs b ws).regs b ws.length = ws := by
  refine List.ext_getElem (by simp [Dev.regs]) fun i h1 h2 => ?_
  simp only [Dev.regs, List.getElem_map, List.getElem_range, Dev.reg_setRegs ws d b h2]
  simp [wordAt, h2]

theorem Dev.fwd_tShow (d : Dev) (t : HTable) (i : Nat) : (d.tShow t i).fwd = d.fwd := by
  obtain ⟨rf, h⟩ := d.setRegs_rest (Reg.FWD_TDATA 0) ((List.range t.words).map (fun j => wordAt (d.htRaw t i) j))
  unfold Dev.tShow
  rw [h]

/-- The words shown stay when a register before FWD_TDATA changes. -/
theorem Dev.regs_tShow (d : Dev) (i : Nat) {t : Dev} (h : ∀ k, 0x902040 ≤ k → t.reg k = (d.tShow .l2 i).reg k) :
    t.regs (Reg.FWD_TDATA 0) 8 = (List.range 8).map (fun j => wordAt (d.htRaw .l2 i) j) := by
  rw [Dev.regs_congr (d := d.tShow .l2 i) fun j _ => h _ (by unfold Reg.FWD_TDATA; omega)]
  have := d.regs_setRegs (Reg.FWD_TDATA 0) ((List.range HTable.l2.words).map (fun j => wordAt (d.htRaw .l2 i) j))
  rwa [List.length_map, List.length_range] at this

section
variable {d : Dev} (hl2 : d.bit Reg.FWD_TADDR 31 = false)
include hl2

theorem Dev.tTable_l2 : d.tTable = .l2 := by
  unfold Dev.tTable
  rw [hl2]
  rfl

/-- An operation on the L2 table, which is never of no size (R286). -/
theorem Dev.tableOp_l2 (op : Nat) : d.tableOp op = match op with
    | 1 => (match d.tPlace with
      | some i => (d.tShow .l2 i).tDone 1 0
      | none => d.tDone 1 3)
    | 2 => (match d.tPlace with
      | some i => ((d.htPut .l2 i d.tData).markExpert (htMark .l2 i) true).tDone 2 0
      | none => d.tDone 2 3)
    | 3 => (match d.tPlace with
      | some i => ((d.htClear .l2 i).markExpert (htMark .l2 i) true).tDone 3 0
      | none => d.tDone 3 3)
    | 4 => (match d.htFind .l2 d.tData with
      | some i => ((d.tShow .l2 i).setReg Reg.FWD_TRESULT (HTable.l2.loc i)).tDone 4 0
      | none => d.tDone 4 1)
    | 5 => (match d.htFind .l2 d.tData with
      | some _ => d.tDone 5 5
      | none => (match d.htFree .l2 d.tData with
        | some i => (((d.htPut .l2 i (d.tData.set 0 (Word.setBit (wordAt d.tData 0) 31 true))).markExpert (htMark .l2 i) true).setReg
            Reg.FWD_TRESULT (HTable.l2.loc i)).tDone 5 0
        | none => d.tDone 5 2))
    | _ => (match d.htFind .l2 d.tData with
      | some i => ((d.htClear .l2 i).markExpert (htMark .l2 i) true).tDone 6 0
      | none => d.tDone 6 1) := by
  unfold Dev.tableOp
  extract_lets t key
  have ht : t = .l2 := Dev.tTable_l2 hl2
  clear_value t
  subst ht
  exact (if_neg (show d.htSize .l2 ≠ 0 from Nat.pow_pos (by decide) |>.ne')).trans rfl

end

theorem Dev.regN_tShow_done (d : Dev) (i op : Nat) (h : op < 2 ^ 32) : ((d.tShow .l2 i).tDone op 0).regN Reg.FWD_TCMD = op := by
  rw [Dev.regN_tDone _ _ _ (by omega)]
  omega

theorem Dev.htRaw_tDone (d : Dev) (t : HTable) (i op err : Nat) : (d.tDone op err).htRaw t i = d.htRaw t i := by cases t <;> rfl

theorem Dev.htRaw_markExpert (d : Dev) (t : HTable) (i k : Nat) (x : Bool) : (d.markExpert k x).htRaw t i = d.htRaw t i := by cases t <;> rfl

theorem Dev.htRaw_setReg (d : Dev) (t : HTable) (i k : Nat) (v : Word) : (d.setReg k v).htRaw t i = d.htRaw t i := by cases t <;> rfl

theorem Dev.htEntry_tDone (d : Dev) (t : HTable) (i k op err : Nat) (x : Bool) :
    ((d.markExpert k x).tDone op err).htEntry t i = d.htEntry t i := by cases t <;> rfl

/-- The operations at the place FWD_TADDR names. -/
theorem tableOps_atPlace {s : State} (hr : s.dev.running = true) (hl2 : s.dev.bit Reg.FWD_TADDR 31 = false) {i : Nat}
    (hi : s.dev.tPlace = some i) :
    (∃ t, exec .fwdTableRead s = .next t ∧ t.dev.regN Reg.FWD_TCMD = 1 ∧ t.dev.fwd = s.dev.fwd ∧
      t.dev.regs (Reg.FWD_TDATA 0) 8 = (List.range 8).map (fun j => wordAt (s.dev.htRaw .l2 i) j)) ∧
    (∃ t, exec .fwdTableWrite s = .next t ∧ t.dev.regN Reg.FWD_TCMD = 2 ∧ t.dev.htRaw .l2 i = s.dev.tData) ∧
    (∃ t, exec .fwdTableInvalidate s = .next t ∧ t.dev.regN Reg.FWD_TCMD = 3 ∧ t.dev.htEntry .l2 i = none) := by
  obtain ⟨hread, hwrite, hclear, -, -, -⟩ := exec_tableOp hr
  rw [Dev.tableOp_l2 hl2] at hread hwrite hclear
  simp only [hi] at hread hwrite hclear
  refine ⟨⟨_, hread, ?_, ?_, ?_⟩, ⟨_, hwrite, ?_, ?_⟩, ⟨_, hclear, ?_, ?_⟩⟩
  · exact Dev.regN_tDone _ 1 0 (by decide)
  · exact s.dev.fwd_tShow .l2 i
  · exact s.dev.regs_tShow i fun k hk => Dev.reg_setReg_other _ _ (by unfold Reg.FWD_TCMD; omega)
  · exact Dev.regN_tDone _ 2 0 (by decide)
  · exact (Dev.htRaw_tDone ..).trans ((Dev.htRaw_markExpert ..).trans (Dev.htRaw_htPut ..))
  · exact Dev.regN_tDone _ 3 0 (by decide)
  · exact (Dev.htEntry_tDone ..).trans (Dev.htEntry_htClear ..)

/-- The operations on a key that the table holds. -/
theorem tableOps_found {s : State} (hr : s.dev.running = true) (hl2 : s.dev.bit Reg.FWD_TADDR 31 = false) {i : Nat}
    (hi : s.dev.htFind .l2 s.dev.tData = some i) :
    exec .fwdTableInsert s = .next { s with dev := s.dev.setN Reg.FWD_TCMD 85 } ∧
    (∃ t, exec .fwdTableSearch s = .next t ∧ t.dev.regN Reg.FWD_TCMD = 4 ∧ t.dev.reg Reg.FWD_TRESULT = HTable.l2.loc i ∧
      t.dev.regs (Reg.FWD_TDATA 0) 8 = (List.range 8).map (fun j => wordAt (s.dev.htRaw .l2 i) j)) ∧
    (∃ t, exec .fwdTableDelete s = .next t ∧ t.dev.regN Reg.FWD_TCMD = 6 ∧ t.dev.htEntry .l2 i = none) := by
  obtain ⟨-, -, -, hsearch, hinsert, hdelete⟩ := exec_tableOp hr
  rw [Dev.tableOp_l2 hl2] at hsearch hinsert hdelete
  simp only [hi] at hsearch hinsert hdelete
  refine ⟨hinsert, ⟨_, hsearch, ?_, ?_, ?_⟩, ⟨_, hdelete, ?_, ?_⟩⟩
  · exact Dev.regN_tDone _ 4 0 (by decide)
  · exact (Dev.reg_setReg_other _ _ (by decide)).trans (Dev.reg_setReg_same _ _ _)
  · exact s.dev.regs_tShow i fun k hk => (Dev.reg_setReg_other _ _ (by unfold Reg.FWD_TCMD; omega)).trans
      (Dev.reg_setReg_other _ _ (by unfold Reg.FWD_TRESULT; omega))
  · exact Dev.regN_tDone _ 6 0 (by decide)
  · exact (Dev.htEntry_tDone ..).trans (Dev.htEntry_htClear ..)

/-- The operations on a key that the table does not hold. -/
theorem tableOps_missing {s : State} (hr : s.dev.running = true) (hl2 : s.dev.bit Reg.FWD_TADDR 31 = false)
    (hnone : s.dev.htFind .l2 s.dev.tData = none) :
    exec .fwdTableSearch s = .next { s with dev := s.dev.setN Reg.FWD_TCMD 20 } ∧
    exec .fwdTableDelete s = .next { s with dev := s.dev.setN Reg.FWD_TCMD 22 } ∧
    ∀ i, s.dev.htFree .l2 s.dev.tData = some i → ∃ t, exec .fwdTableInsert s = .next t ∧ t.dev.regN Reg.FWD_TCMD = 5 ∧
      t.dev.reg Reg.FWD_TRESULT = HTable.l2.loc i ∧
      t.dev.htRaw .l2 i = s.dev.tData.set 0 (Word.setBit (wordAt s.dev.tData 0) 31 true) := by
  obtain ⟨-, -, -, hsearch, hinsert, hdelete⟩ := exec_tableOp hr
  rw [Dev.tableOp_l2 hl2] at hsearch hinsert hdelete
  simp only [hnone] at hsearch hinsert hdelete
  refine ⟨hsearch, hdelete, fun i hi => ?_⟩
  simp only [hi] at hinsert
  refine ⟨_, hinsert, Dev.regN_tDone _ 5 0 (by decide), ?_, ?_⟩
  · exact (Dev.reg_setReg_other _ _ (by decide)).trans (Dev.reg_setReg_same _ _ _)
  · exact (Dev.htRaw_tDone ..).trans ((Dev.htRaw_setReg ..).trans ((Dev.htRaw_markExpert ..).trans (Dev.htRaw_htPut ..)))

/-! ## The LPM command register -/

theorem Dev.regN_tcmDone (d : Dev) (op err : Nat) (h : err * 16 + op < 2 ^ 32) : (d.tcmDone op err).regN Reg.TCM_CMD = err * 16 + op := by
  unfold Dev.regN Dev.tcmDone Dev.setN
  rw [Dev.reg_setReg_same]
  exact Nat.mod_eq_of_lt h

theorem exec_tcmRead_shows {s : State} (hr : s.dev.running = true) (hlen : (s.dev.tcm (s.dev.fld Reg.TCM_ADDR 0 17)).length = 13) :
    ∃ t, exec .tcmRead s = .next t ∧ t.dev.regs (Reg.TCM_DATA 0) 13 = s.dev.tcm (s.dev.fld Reg.TCM_ADDR 0 17) ∧
      t.dev.regN Reg.TCM_CMD = 1 ∧ t.dev.fwd = s.dev.fwd := by
  have hrow : exec .tcmRead s = .next { s with dev := s.dev.tcmRead } := act_run hr
  refine ⟨_, hrow, ?_, Dev.regN_tcmDone _ 1 0 (by decide), ?_⟩
  · show (s.dev.tcmRead).regs (Reg.TCM_DATA 0) 13 = _
    unfold Dev.tcmRead
    have hshown := s.dev.regs_setRegs (Reg.TCM_DATA 0) (s.dev.tcm (s.dev.fld Reg.TCM_ADDR 0 17))
    rw [hlen] at hshown
    exact (Dev.regs_congr fun j _ => Dev.reg_setReg_other _ _ (by unfold Reg.TCM_DATA Reg.TCM_CMD; omega)).trans hshown
  · obtain ⟨rf, h⟩ := s.dev.setRegs_rest (Reg.TCM_DATA 0) (s.dev.tcm (s.dev.fld Reg.TCM_ADDR 0 17))
    show (s.dev.tcmRead).fwd = _
    unfold Dev.tcmRead
    rw [h]
    rfl

theorem exec_tcmWrite_stores {s : State} (hr : s.dev.running = true) (heven : s.dev.oddHalf (s.dev.fld Reg.TCM_ADDR 0 17) = false) :
    ∃ t, exec .tcmWrite s = .next t ∧ (t.dev.tcm (s.dev.fld Reg.TCM_ADDR 0 17)).take 12 = s.dev.regs (Reg.TCM_DATA 0) 12 ∧
      wordAt (t.dev.tcm (s.dev.fld Reg.TCM_ADDR 0 17)) 12 = s.dev.reg (Reg.TCM_DATA 12) &&& 0xC00000FF#32 ∧ t.dev.regN Reg.TCM_CMD = 2 := by
  have hrow : exec .tcmWrite s = .next { s with dev := s.dev.tcmWrite } := act_run hr
  unfold Dev.tcmWrite at hrow
  extract_lets i ws at hrow
  rw [if_neg (by rw [show s.dev.oddHalf i = false from heven]; decide)] at hrow
  have hw12 : wordAt ws 12 = s.dev.reg (Reg.TCM_DATA 12) := s.dev.wordAt_regs (Reg.TCM_DATA 0) (by decide)
  have htcm : ∀ d : Dev, d.fwd = (s.dev.tcmPut i (ws.set 12 (wordAt ws 12 &&& 0xC00000FF#32))).fwd →
      d.tcm i = ws.set 12 (wordAt ws 12 &&& 0xC00000FF#32) := fun d hd => by
    rw [Dev.tcm_congr hd, Dev.tcm_tcmPut, if_pos rfl]
  refine ⟨_, hrow, ?_, ?_, Dev.regN_tcmDone _ 2 0 (by decide)⟩
  · exact (congrArg (List.take 12) (htcm _ rfl)).trans (by rw [List.take_set_of_le (by decide)]; rfl)
  · refine (congrArg (wordAt · 12) (htcm _ rfl)).trans ?_
    rw [wordAt_set, if_pos ⟨rfl, by simp [ws, Dev.regs]⟩, hw12]

theorem exec_tcmInvalidate_clears {s : State} (hr : s.dev.running = true) (heven : s.dev.oddHalf (s.dev.fld Reg.TCM_ADDR 0 17) = false) :
    ∃ t, exec .tcmInvalidate s = .next t ∧ tcmValid (t.dev.tcm (s.dev.fld Reg.TCM_ADDR 0 17)) = false ∧ t.dev.regN Reg.TCM_CMD = 3 := by
  have hrow : exec .tcmInvalidate s = .next { s with dev := s.dev.tcmInvalidate } := act_run hr
  unfold Dev.tcmInvalidate at hrow
  extract_lets i at hrow
  rw [if_neg (by rw [show s.dev.oddHalf i = false from heven]; decide)] at hrow
  have htcm : ∀ d : Dev, d.fwd = (s.dev.tcmClear i).fwd → tcmValid (d.tcm i) = false := fun d hd => by
    rw [Dev.tcm_congr hd, Dev.tcmValid_tcmClear]
  exact ⟨_, hrow, htcm _ rfl, Dev.regN_tcmDone _ 3 0 (by decide)⟩

theorem exec_tcm_oddHalf {s : State} (hr : s.dev.running = true) (hodd : s.dev.oddHalf (s.dev.fld Reg.TCM_ADDR 0 17) = true) :
    exec .tcmWrite s = .next { s with dev := s.dev.setN Reg.TCM_CMD 18 } ∧
    exec .tcmInvalidate s = .next { s with dev := s.dev.setN Reg.TCM_CMD 19 } := by
  have hwrite : exec .tcmWrite s = .next { s with dev := s.dev.tcmWrite } := act_run hr
  have hclear : exec .tcmInvalidate s = .next { s with dev := s.dev.tcmInvalidate } := act_run hr
  unfold Dev.tcmWrite at hwrite
  unfold Dev.tcmInvalidate at hclear
  dsimp only at hwrite hclear
  rw [if_pos hodd] at hwrite hclear
  exact ⟨hwrite, hclear⟩

/-- Settles O32: a lookup, a learning message, an operation of a command register each take the one branch their hypotheses choose,
and pool 6 and the status registers lie apart from what the clause reads. -/
theorem forwardingResultsAndTables : Obligations.ForwardingResultsAndTables := by
  unfold Obligations.ForwardingResultsAndTables
  refine ⟨fun s f g hr hf hlen => ?_, fun s hr => ?_⟩
  · have hlook := exec_forwardingLookup hr hf
    refine ⟨fun hp => ?_, fun hp h3 hdst => ?_, fun i a b hp hpass h0 hplain hz hfind hres hgood hkind => ?_,
      fun i hp h1 hplain hz hfind hcount ha hb hne => ?_, exec_learnApply_empty hr, fun ws rest hq hkind hnew hown hl => ⟨fun i hfree => ?_, fun hfree => ?_⟩,
      fun ws rest hq hcrc => ?_⟩
    · rw [hlook, if_neg hp]
    · rw [if_pos hp, Dev.forward_reserved h3 hdst] at hlook
      have hregs := Dev.sameRegsBut_sqSet s.dev (Reg.FWD_EVT_STATUS g.pipe) [1]
      exact ⟨_, hlook, Dev.frame?_freeFrame _ _, s.dev.bit_fwdEvt g (by decide), hregs.of_rf rfl⟩
    · rw [if_pos hp, Dev.forward_plain h0 (by decide) hplain hz (fun _ => hpass)] at hlook
      have hnode : s.dev.lookupBy f g 0 = (s.dev.fwdCount g 0).moveFrame f (g.bulk (Word.bit a 27)) (.toNode (Word.fld a 0 16)) := by
        unfold Dev.lookupBy Dev.fwdL2
        rw [hfind]
        dsimp only
        rw [hres]
        exact Dev.fwdResult_node hgood hkind _ _ _
      rw [hnode] at hlook
      obtain ⟨hbytes, hrecord⟩ := g.bulk_keeps (Word.bit a 27)
      exact ⟨_, _, hlook, Dev.frame?_moveFrame _ _ _ _, rfl, hbytes, hrecord, (s.dev.sameRegsBut_fwdCount g 0).of_rf rfl⟩
    · rw [if_pos hp, Dev.forward_plain h1 (by decide) hplain hz (fun h => absurd h (by decide))] at hlook
      have hdrop : s.dev.lookupBy f g 1 = ((s.dev.flowHit i).fwdCount g 2).freeFrame f := Dev.fwdFlow_drop hfind hcount ha hb f _ _
      rw [hdrop] at hlook
      refine ⟨_, hlook, Dev.frame?_freeFrame _ _, Dev.hit_flowHit hne, ?_⟩
      have hregs : s.dev.sameRegsBut ((s.dev.flowHit i).fwdCount g 2) [Reg.FWD_COUNTS g.pipe 2] :=
        ((Dev.sameRegsBut.refl s.dev _).of_rf rfl).setReg (t := s.dev.flowHit i) (List.mem_singleton.mpr rfl)
      exact hregs.of_rf rfl
    · have hrow := exec_learnApply_local hr hq
      have hstored := Dev.learnLocal_new (d := s.dev.leftToLearn rest) hkind hnew hown
      rw [show (s.dev.leftToLearn rest).htFree .l2
        (learnKey (sealLearn ws ((s.dev.leftToLearn rest).reg Reg.FWD_LEARN_SEQ + 1))) = some i from hfree] at hstored
      rw [hstored] at hrow
      exact ⟨_, hrow, Dev.learn_htPut _ _ _ _, (s.dev.leftToLearn rest).htRaw_htPut .l2 i
        (learnEntry (sealLearn ws ((s.dev.leftToLearn rest).reg Reg.FWD_LEARN_SEQ + 1)) false)⟩
    · have hrow := exec_learnApply_local hr hq
      have hfull := Dev.learnLocal_new (d := s.dev.leftToLearn rest) hkind hnew hown
      rw [show (s.dev.leftToLearn rest).htFree .l2
        (learnKey (sealLearn ws ((s.dev.leftToLearn rest).reg Reg.FWD_LEARN_SEQ + 1))) = none from hfree] at hfull
      rw [hfull] at hrow
      exact ⟨_, hrow, rfl, Dev.bit_sqSet_mem ((s.dev.leftToLearn rest).learnCount 8)
        (Reg.FWD_EVT_STATUS 0) (bits := [3]) (b := 3) (by decide) (by decide), rfl⟩
    · have hrow := exec_learnApply_foreign hr hq
      have hbad : (s.dev.leftToLearn rest).learnForeign ws = (s.dev.leftToLearn rest).learnCount 9 := by
        unfold Dev.learnForeign
        dsimp only
        rw [if_pos (by simp [hcrc])]
      rw [hbad] at hrow
      exact ⟨_, hrow, rfl, ((Dev.sameRegsBut.refl s.dev _).of_rf rfl).setReg
        (t := s.dev.leftToLearn rest) (List.mem_singleton.mpr rfl)⟩
  · obtain ⟨hread, hwrite, hclear, hsearch, hinsert, hdelete⟩ := exec_tableOp hr
    refine ⟨fun hoff => ?_, fun hl2 => ?_, ?_, fun i j hi hlive hj hne => ?_, fun i j => exec_rackingMove_dead hr⟩
    · simp only [Dev.tableOp_off hoff] at hread hwrite hclear hsearch hinsert hdelete
      exact ⟨hread, hwrite, hclear, hsearch, hinsert, hdelete⟩
    · refine ⟨fun i hi => (tableOps_atPlace hr hl2 hi).1, fun i hi => (tableOps_atPlace hr hl2 hi).2.1,
        fun i hi => (tableOps_atPlace hr hl2 hi).2.2, fun hnone => ?_, fun i => tableOps_found hr hl2, tableOps_missing hr hl2⟩
      rw [Dev.tableOp_l2 hl2] at hread hwrite hclear
      simp only [hnone] at hread hwrite hclear
      exact ⟨hread, hwrite, hclear⟩
    · dsimp only
      refine ⟨fun ws hws hlen => ?_, exec_tcm_oddHalf hr, fun heven => ⟨exec_tcmWrite_stores hr heven, exec_tcmInvalidate_clears hr heven⟩⟩
      subst hws
      exact exec_tcmRead_shows hr hlen
    · exact ⟨_, exec_rackingMove_alone hr hi hlive hj hne, s.dev.tcm_tcmMove fun h => hne (Fin.ext h)⟩

end Sys2Proof.Machine
end


section
/-! DEFINITION. Rules of the flow processors' threads: what a charge, a change of state, a port, a notice and a fault leave (R305 to
R331). -/

namespace Sys2Proof.Machine

/-! ## Registers apart from the energy counters -/

/-- A register outside the EBS's block, where charges are counted. -/
def FpcKey (k : Nat) : Prop := k < 0x1200000 ∨ 0x1300000 ≤ k

theorem fpcKey_thr (t : Nat) {o : Nat → Nat → Nat} (h : ∀ i j, 0x40000000 ≤ o i j) : FpcKey (thrReg o t) :=
  Or.inr (Nat.le_trans (by decide) (h _ _))

theorem fpcKey_low {k : Nat} (h : k < 0x1200000) : FpcKey k := Or.inl h

/-- The registers of a thread lie in one line of 64 bytes; two of different offsets are different registers. -/
theorem thrReg_ne {o p : Nat} {r q : Nat → Nat → Nat} (hr : ∀ i j, r i j = 0x40000000 + i * 0x100000 + j * 0x40 + o)
    (hq : ∀ i j, q i j = 0x40000000 + i * 0x100000 + j * 0x40 + p) (ho : o < 64) (hp : p < 64) (h : o ≠ p) (t u : Nat) :
    thrReg r t ≠ thrReg q u := by
  unfold thrReg
  rw [hr, hq]
  omega

/-- A register of a thread's line. -/
def ThrOffset (r : Nat → Nat → Nat) (o : Nat) : Prop := ∀ i j, r i j = 0x40000000 + i * 0x100000 + j * 0x40 + o

theorem offset_entry : ThrOffset Reg.FPC_THR_ENTRY 0 := fun i j => by unfold Reg.FPC_THR_ENTRY; omega
theorem offset_cfg : ThrOffset Reg.FPC_THR_CFG 4 := fun i j => by unfold Reg.FPC_THR_CFG; omega
theorem offset_state : ThrOffset Reg.FPC_THR_STATE 8 := fun i j => by unfold Reg.FPC_THR_STATE; omega
theorem offset_events : ThrOffset Reg.FPC_THR_EVENTS 12 := fun i j => by unfold Reg.FPC_THR_EVENTS; omega
theorem offset_waitmask : ThrOffset Reg.FPC_THR_WAITMASK 16 := fun i j => by unfold Reg.FPC_THR_WAITMASK; omega
theorem offset_fault : ThrOffset Reg.FPC_THR_FAULT 20 := fun i j => by unfold Reg.FPC_THR_FAULT; omega
theorem offset_charge : ThrOffset Reg.FPC_THR_CHARGE 24 := fun i j => by unfold Reg.FPC_THR_CHARGE; omega
theorem offset_dbg : ThrOffset Reg.FPC_THR_DBG 32 := fun i j => by unfold Reg.FPC_THR_DBG; omega

namespace ThrOffset

variable {r : Nat → Nat → Nat} {o : Nat}

theorem ne (h : ThrOffset r o) {q : Nat → Nat → Nat} {p : Nat} (hq : ThrOffset q p) (ho : o < 64) (hp : p < 64) (hop : o ≠ p) (t u : Nat) :
    thrReg r t ≠ thrReg q u := thrReg_ne h hq ho hp hop t u

theorem fpcKey (h : ThrOffset r o) (t : Nat) : FpcKey (thrReg r t) := fpcKey_thr t fun i j => by rw [h]; omega

theorem above (h : ThrOffset r o) (t : Nat) : 0x40000000 ≤ thrReg r t := by
  unfold thrReg
  rw [h]
  omega

theorem below (h : ThrOffset r o) (ho : o < 64) {t : Nat} (ht : t < 512) : thrReg r t < 0x50000000 := by
  unfold thrReg
  rw [h]
  omega

end ThrOffset

/-! ## Charges -/

theorem Dev.set64_rest (d : Dev) (k v : Nat) : ∃ rf, d.set64 k v = { d with rf := rf } := ⟨_, rfl⟩

theorem Dev.addEnergy_rest (d : Dev) (own : Option Nat) (pj : Nat) : ∃ rf ebs, d.addEnergy own pj = { d with rf := rf, ebs := ebs } := by
  unfold Dev.addEnergy Dev.count64
  dsimp only
  obtain ⟨rf, h⟩ := d.set64_rest (energyReg own) (d.reg64 (energyReg own) + (Map.getD d.ebs.accum (own.getD 8192) 0 + pj) / 1000000)
  rw [h]
  exact ⟨_, _, rfl⟩

theorem Dev.chargeSlots_rest (d : Dev) (t n : Nat) : ∃ rf ebs, d.chargeSlots t n = { d with rf := rf, ebs := ebs } := by
  unfold Dev.chargeSlots
  rw [Dev.charge_eq]
  exact Dev.addEnergy_rest _ _ _

theorem Dev.fpc_chargeSlots (d : Dev) (t n : Nat) : (d.chargeSlots t n).fpc = d.fpc := by
  obtain ⟨rf, ebs, h⟩ := d.chargeSlots_rest t n
  rw [h]

theorem Dev.energyReg_thrOwner (d : Dev) (t : Nat) : 0x1200000 ≤ energyReg (d.thrOwner t) ∧ energyReg (d.thrOwner t) + 4 < 0x1300000 := by
  unfold Dev.thrOwner
  dsimp only
  split
  · have := Word.fld_lt (d.reg (thrReg Reg.FPC_THR_CHARGE t)) 0 13
    simp only [energyReg, Reg.EBS_SLICE_ENERGYs]
    omega
  · decide

theorem Dev.reg_chargeSlots (d : Dev) (t n : Nat) {k : Nat} (hk : FpcKey k) : (d.chargeSlots t n).reg k = d.reg k := by
  obtain ⟨hlo, hhi⟩ := d.energyReg_thrOwner t
  unfold Dev.chargeSlots
  rw [Dev.charge_eq]
  refine Dev.sameRegsBut_addEnergy _ _ _ k ?_
  unfold FpcKey at hk
  simp only [List.mem_cons, List.not_mem_nil, or_false, not_or]
  omega

/-! ## A thread's record -/

theorem Dev.thread_setThread (d : Dev) (t : Nat) (f : Thread → Thread) : (d.setThread t f).thread t = f (d.thread t) := by
  unfold Dev.setThread Dev.thread
  rw [Map.getD_put, if_pos rfl]

theorem Dev.thread_setThread_other (d : Dev) {t u : Nat} (f : Thread → Thread) (h : u ≠ t) : (d.setThread t f).thread u = d.thread u := by
  unfold Dev.setThread Dev.thread
  rw [Map.getD_put, if_neg h]

theorem Dev.tasting_setThread (d : Dev) (t : Nat) (f : Thread → Thread) : (d.setThread t f).fpc.tasting = d.fpc.tasting := rfl

theorem Dev.reg_setThread (d : Dev) (t : Nat) (f : Thread → Thread) (k : Nat) : (d.setThread t f).reg k = d.reg k := rfl

theorem Dev.thread_congr {d u : Dev} (h : u.fpc = d.fpc) (t : Nat) : u.thread t = d.thread t := by
  unfold Dev.thread
  rw [h]

theorem Dev.thrState_congr {d u : Dev} {t : Nat} (h : u.reg (thrReg Reg.FPC_THR_STATE t) = d.reg (thrReg Reg.FPC_THR_STATE t)) :
    u.thrState t = d.thrState t := by
  unfold Dev.thrState Dev.fld
  rw [h]

theorem Dev.holding_congr {d u : Dev} {t : Nat} (h : u.reg (thrReg Reg.FPC_THR_STATE t) = d.reg (thrReg Reg.FPC_THR_STATE t)) :
    u.holding t = d.holding t := by
  unfold Dev.holding Dev.bit Dev.fld
  dsimp only
  rw [h]

theorem Dev.pc_congr {d u : Dev} {t : Nat} (h : u.reg (thrReg Reg.FPC_THR_STATE t) = d.reg (thrReg Reg.FPC_THR_STATE t)) :
    u.pc t = d.pc t := by
  unfold Dev.pc Dev.fld
  rw [h]

/-! ## The PC and the state -/

theorem Dev.pc_lt (d : Dev) (t : Nat) : d.pc t < 32768 := Word.fld_lt _ 0 15

theorem Dev.pc_setPc (d : Dev) (t v : Nat) : (d.setPc t v).pc t = v % 32768 := Dev.fld_setFld_same _ _ _ _ _ (by decide)

theorem Dev.thrState_setPc (d : Dev) (t v : Nat) : (d.setPc t v).thrState t = d.thrState t :=
  Dev.fld_setFld_other _ _ _ (by decide) (by decide)

theorem Dev.holding_setPc (d : Dev) (t v : Nat) : (d.setPc t v).holding t = d.holding t := by
  unfold Dev.holding
  dsimp only
  rw [show (d.setPc t v).bit (thrReg Reg.FPC_THR_STATE t) 23 = d.bit (thrReg Reg.FPC_THR_STATE t) 23 from
      Dev.bit_setFld_other _ _ _ (by decide) (by decide),
    show (d.setPc t v).fld (thrReg Reg.FPC_THR_STATE t) 15 8 = d.fld (thrReg Reg.FPC_THR_STATE t) 15 8 from
      Dev.fld_setFld_other _ _ _ (by decide) (by decide)]

theorem Dev.reg_setPc (d : Dev) (t v : Nat) {k : Nat} (hk : k ≠ thrReg Reg.FPC_THR_STATE t) : (d.setPc t v).reg k = d.reg k :=
  Dev.reg_setReg_other _ _ hk

/-- The slots of a stall that ends are charged (R313). -/
def Dev.payStall (d : Dev) (t old st : Nat) : Dev :=
  if old = 2 ∧ st ≠ 2 then d.chargeSlots t ((d.now - (d.thread t).stallAt) * 3 / 4) else d

/-- A stall begins (R313). -/
def Dev.beginStall (d : Dev) (t old st : Nat) : Dev :=
  if st = 2 ∧ old ≠ 2 then d.setThread t (fun th => { th with stallAt := d.now }) else d

/-- A thread that leaves WAITING re-arms the all-wait detector (R326). -/
def Dev.rearm (d : Dev) (t old st : Nat) : Dev :=
  if old = 3 ∧ st ≠ 3 ∧ isSup t = false then
    { d with fpc := { d.fpc with allWaitFired := d.fpc.allWaitFired.filter (· ≠ t / 64) } } else d

/-- A thread leaves its state for `st`. -/
def Dev.leaveThr (d : Dev) (t st : Nat) : Dev := ((d.payStall t (d.thrState t) st).beginStall t (d.thrState t) st).rearm t (d.thrState t) st

theorem Dev.fpc_setFld (d : Dev) (k lo n v : Nat) : (d.setFld k lo n v).fpc = d.fpc := rfl

theorem Dev.fpc_setBit (d : Dev) (k i : Nat) (b : Bool) : (d.setBit k i b).fpc = d.fpc := rfl

theorem Dev.reg_setFld_apart (d : Dev) {k j : Nat} (lo n v : Nat) (h : j ≠ k) : (d.setFld k lo n v).reg j = d.reg j :=
  Dev.reg_setReg_other _ _ h

theorem Dev.reg_setBit_apart (d : Dev) {k j : Nat} (i : Nat) (b : Bool) (h : j ≠ k) : (d.setBit k i b).reg j = d.reg j :=
  Dev.reg_setReg_other _ _ h

theorem Dev.reg_count_apart (d : Dev) {k j : Nat} (n : Nat) (h : j ≠ k) : (d.count k n).reg j = d.reg j :=
  Dev.reg_setReg_other _ _ h

theorem Dev.setThr_eq (d : Dev) (t st : Nat) : d.setThr t st = (d.leaveThr t st).setFld (thrReg Reg.FPC_THR_STATE t) 29 3 st := rfl

theorem Dev.reg_payStall (d : Dev) (t old st : Nat) {k : Nat} (hk : FpcKey k) : (d.payStall t old st).reg k = d.reg k := by
  unfold Dev.payStall
  split
  · exact d.reg_chargeSlots t _ hk
  · rfl

theorem Dev.fpc_payStall (d : Dev) (t old st : Nat) : (d.payStall t old st).fpc = d.fpc := by
  unfold Dev.payStall
  split
  · exact d.fpc_chargeSlots t _
  · rfl

theorem Dev.rf_beginStall (d : Dev) (t old st : Nat) : (d.beginStall t old st).rf = d.rf := by
  unfold Dev.beginStall
  split <;> rfl

theorem Dev.rf_rearm (d : Dev) (t old st : Nat) : (d.rearm t old st).rf = d.rf := by
  unfold Dev.rearm
  split <;> rfl

theorem Dev.thread_rearm (d : Dev) (t old st u : Nat) : (d.rearm t old st).thread u = d.thread u := by
  unfold Dev.rearm
  split <;> rfl

theorem Dev.tasting_rearm (d : Dev) (t old st : Nat) : (d.rearm t old st).fpc.tasting = d.fpc.tasting := by
  unfold Dev.rearm
  split <;> rfl

theorem Dev.tasting_beginStall (d : Dev) (t old st : Nat) : (d.beginStall t old st).fpc.tasting = d.fpc.tasting := by
  unfold Dev.beginStall
  split <;> rfl

theorem Dev.reg_leaveThr (d : Dev) (t st : Nat) {k : Nat} (hk : FpcKey k) : (d.leaveThr t st).reg k = d.reg k :=
  (Dev.reg_congr (Dev.rf_rearm ..) k).trans ((Dev.reg_congr (Dev.rf_beginStall ..) k).trans (d.reg_payStall t _ st hk))

theorem Dev.thread_leaveThr (d : Dev) (t : Nat) {st : Nat} (h : st ≠ 2) (u : Nat) : (d.leaveThr t st).thread u = d.thread u := by
  have hstall : (d.payStall t (d.thrState t) st).beginStall t (d.thrState t) st = d.payStall t (d.thrState t) st :=
    if_neg fun hc => h hc.1
  unfold Dev.leaveThr
  rw [Dev.thread_rearm, hstall]
  exact Dev.thread_congr (d.fpc_payStall t _ st) u

theorem Dev.tasting_leaveThr (d : Dev) (t st : Nat) : (d.leaveThr t st).fpc.tasting = d.fpc.tasting :=
  (Dev.tasting_rearm ..).trans ((Dev.tasting_beginStall ..).trans (congrArg Fpc.tasting (d.fpc_payStall t _ st)))

theorem Dev.tasting_setThr (d : Dev) (t st : Nat) : (d.setThr t st).fpc.tasting = d.fpc.tasting := by
  rw [Dev.setThr_eq, Dev.fpc_setFld, d.tasting_leaveThr t st]

theorem Dev.thrState_setThr (d : Dev) (t : Nat) {st : Nat} (h : st < 8) : (d.setThr t st).thrState t = st :=
  (Dev.fld_setFld_same _ _ _ _ _ (by decide)).trans (Nat.mod_eq_of_lt h)

theorem Dev.reg_setThr (d : Dev) (t st : Nat) {k : Nat} (hk : FpcKey k) (hs : k ≠ thrReg Reg.FPC_THR_STATE t) :
    (d.setThr t st).reg k = d.reg k := (Dev.reg_setReg_other _ _ hs).trans (d.reg_leaveThr t st hk)

/-- A field of STATE apart from the state itself. -/
theorem Dev.fld_setThr (d : Dev) (t st : Nat) {l n : Nat} (h : l + n ≤ 29) :
    (d.setThr t st).fld (thrReg Reg.FPC_THR_STATE t) l n = d.fld (thrReg Reg.FPC_THR_STATE t) l n := by
  rw [Dev.setThr_eq, Dev.fld_setFld_other _ _ _ (by omega) (by omega)]
  unfold Dev.fld
  rw [d.reg_leaveThr t st (offset_state.fpcKey t)]

theorem Dev.pc_setThr (d : Dev) (t st : Nat) : (d.setThr t st).pc t = d.pc t := d.fld_setThr t st (by decide)

theorem Dev.holding_setThr (d : Dev) (t st : Nat) : (d.setThr t st).holding t = d.holding t := by
  have hbit : (d.setThr t st).bit (thrReg Reg.FPC_THR_STATE t) 23 = d.bit (thrReg Reg.FPC_THR_STATE t) 23 := by
    rw [Dev.setThr_eq, Dev.bit_setFld_other _ _ _ (by decide) (by decide)]
    unfold Dev.bit
    rw [d.reg_leaveThr t st (offset_state.fpcKey t)]
  unfold Dev.holding
  dsimp only
  rw [hbit, d.fld_setThr t st (by decide)]

theorem Dev.thread_setThr (d : Dev) (t : Nat) {st : Nat} (h : st ≠ 2) (u : Nat) : (d.setThr t st).thread u = d.thread u := by
  rw [Dev.setThr_eq, Dev.thread_congr (Dev.fpc_setFld ..), d.thread_leaveThr t h u]

/-! ## Ports handed over -/

/-- The port a thread's STATE register shows (R318). -/
def Dev.portBits (d : Dev) (k : Nat) (b : Bool) (port : Nat) : Dev := (d.setBit k 23 b).setFld k 15 8 port

theorem Dev.setHold_some (d : Dev) (t port : Nat) : d.setHold t (some port) =
    (d.portBits (thrReg Reg.FPC_THR_STATE t) true port).setThread t (fun th => { th with holdAt := d.now }) := rfl

theorem Dev.setHold_none (d : Dev) (t : Nat) : d.setHold t none = d.portBits (thrReg Reg.FPC_THR_STATE t) false 0 := rfl

theorem Dev.reg_portBits (d : Dev) {k j : Nat} (b : Bool) (port : Nat) (h : j ≠ k) : (d.portBits k b port).reg j = d.reg j :=
  (Dev.reg_setReg_other _ _ h).trans (Dev.reg_setReg_other _ _ h)

theorem Dev.fpc_portBits (d : Dev) (k : Nat) (b : Bool) (port : Nat) : (d.portBits k b port).fpc = d.fpc := rfl

/-- Threads' states and records change, and the energy counters; no other register, and no core's tasting. -/
def Dev.MovesThreads (d u : Dev) : Prop :=
  (∀ k, FpcKey k → (∀ t, k ≠ thrReg Reg.FPC_THR_STATE t) → u.reg k = d.reg k) ∧ u.fpc.tasting = d.fpc.tasting

namespace Dev.MovesThreads

variable {d t u : Dev}

theorem refl (d : Dev) : d.MovesThreads d := ⟨fun _ _ _ => rfl, rfl⟩

theorem trans (h : d.MovesThreads t) (h' : t.MovesThreads u) : d.MovesThreads u :=
  ⟨fun k hk hs => (h'.1 k hk hs).trans (h.1 k hk hs), h'.2.trans h.2⟩

theorem setThread (h : d.MovesThreads u) (t : Nat) (f : Thread → Thread) : d.MovesThreads (u.setThread t f) := h

theorem setFpc (h : d.MovesThreads u) {x : Fpc} (hx : x.tasting = u.fpc.tasting) : d.MovesThreads { u with fpc := x } :=
  ⟨h.1, hx.trans h.2⟩

theorem setThr (h : d.MovesThreads u) (t st : Nat) : d.MovesThreads (u.setThr t st) :=
  h.trans ⟨fun _ hk hs => u.reg_setThr t st hk (hs t), u.tasting_setThr t st⟩

theorem setHold (h : d.MovesThreads u) (t : Nat) (o : Option Nat) : d.MovesThreads (u.setHold t o) := by
  refine h.trans ⟨fun k _ hs => ?_, ?_⟩
  · cases o with
    | none => rw [Dev.setHold_none, Dev.reg_portBits _ _ _ (hs t)]
    | some p => rw [Dev.setHold_some, Dev.reg_setThread, Dev.reg_portBits _ _ _ (hs t)]
  · cases o with
    | none => rw [Dev.setHold_none, Dev.fpc_portBits]
    | some p => rw [Dev.setHold_some, Dev.tasting_setThread, Dev.fpc_portBits]

theorem present (h : d.MovesThreads u) (t c : Nat) : d.MovesThreads (u.present t c) := by
  unfold Dev.present
  exact MovesThreads.setHold (h.trans ⟨fun _ _ _ => rfl, rfl⟩) t none

theorem stageWord (h : d.MovesThreads u) (t c : Nat) (w : Word) (fin : Bool) : d.MovesThreads (u.stageWord t c w fin) := by
  unfold Dev.stageWord
  dsimp only
  have hstaged : d.MovesThreads (u.setThread t fun th => { th with staged := (th.staged ++ [w]).take 16, cond := 0 }) := h
  split
  · exact hstaged.setThr t 1
  split
  · exact MovesThreads.setThr (hstaged.setThread t _) t 2
  · exact (hstaged.present t c).setThr t 1

theorem grantPort (h : d.MovesThreads u) (c port n : Nat) : d.MovesThreads (u.grantPort c port n) := by
  induction n generalizing u with
  | zero => exact h
  | succ n ih =>
    unfold Dev.grantPort
    dsimp only
    generalize hfree : ({ u with fpc := { u.fpc with heldNoted := u.fpc.heldNoted.filter (· ≠ 256 * c + port) } } : Dev) = x
    have hx : d.MovesThreads x := by
      rw [← hfree]
      exact h.setFpc rfl
    split
    · exact hx
    split
    · exact hx
    · rename_i who _ _ _ w fin _
      have hword : d.MovesThreads (((x.setThread who fun th => { th with stalled := none }).setHold who (some port)).stageWord who port w fin) :=
        ((hx.setThread who _).setHold who (some port)).stageWord who port w fin
      split
      · exact ih hword
      · exact hword

theorem dropStaged (h : d.MovesThreads u) (t : Nat) : d.MovesThreads (u.dropStaged t) := by
  unfold Dev.dropStaged
  dsimp only
  split
  · exact MovesThreads.grantPort (MovesThreads.setHold (h.setThread t _) t none) _ _ 64
  · exact h.setThread t _

end Dev.MovesThreads

/-! ## Frames freed, notices written, faults -/

theorem Dev.rf_foldl_freeFrame (ids : List Nat) (d : Dev) : (ids.foldl (fun d i => d.freeFrame i) d).rf = d.rf := by
  induction ids generalizing d with
  | nil => rfl
  | cons i ids ih => exact ih (d.freeFrame i)

theorem Dev.fpc_foldl_freeFrame (ids : List Nat) (d : Dev) : (ids.foldl (fun d i => d.freeFrame i) d).fpc = d.fpc := by
  induction ids generalizing d with
  | nil => rfl
  | cons i ids ih => exact ih (d.freeFrame i)

theorem Dev.reg_freeOwned (d : Dev) (t : Nat) {k : Nat} (hs : k ≠ thrReg Reg.FPC_THR_STATE t) (hc : k ≠ Reg.FPC_CLc_COUNTS (t / 64) 5) :
    (d.freeOwned t).1.reg k = d.reg k := by
  unfold Dev.freeOwned Dev.showFrames
  dsimp only
  exact ((Dev.reg_setReg_other _ _ hs).trans (Dev.reg_setReg_other _ _ hc)).trans (Dev.reg_congr (Dev.rf_foldl_freeFrame _ d) k)

theorem Dev.fpc_freeOwned (d : Dev) (t : Nat) : (d.freeOwned t).1.fpc = d.fpc := by
  unfold Dev.freeOwned Dev.showFrames Dev.fpcCount Dev.count
  dsimp only
  rw [Dev.fpc_setFld, Dev.setReg_fpc, Dev.fpc_foldl_freeFrame]

theorem Dev.reg_foldl_setReg_other {α : Type} (key : α → Nat) (val : α → Word) (ps : List α) (d : Dev) {k : Nat} (h : ∀ p ∈ ps, k ≠ key p) :
    (ps.foldl (fun d p => d.setReg (key p) (val p)) d).reg k = d.reg k := by
  induction ps generalizing d with
  | nil => rfl
  | cons p ps ih =>
    rw [List.foldl_cons, ih _ fun q hq => h q (List.mem_cons_of_mem _ hq), Dev.reg_setReg_other _ _ (h p List.mem_cons_self)]

theorem Dev.foldl_setReg_rest {α : Type} (key : α → Nat) (val : α → Word) (ps : List α) (d : Dev) :
    ∃ rf, ps.foldl (fun d p => d.setReg (key p) (val p)) d = { d with rf := rf } := by
  induction ps generalizing d with
  | nil => exact ⟨d.rf, rfl⟩
  | cons p ps ih =>
    obtain ⟨rf, h⟩ := ih (d.setReg (key p) (val p))
    exact ⟨rf, h⟩

theorem Dev.reg_dmWords (ws : List Word) (d : Dev) (c a : Nat) {k : Nat} (hk : k < 0x50000000) : (d.dmWords c a ws).reg k = d.reg k := by
  unfold Dev.dmWords
  exact Dev.reg_foldl_setReg_other (fun p : Nat × Word => Reg.FPC_DMEM c ((a / 4 + p.1) % 524288)) Prod.snd ((List.range ws.length).zip ws) d
    fun p _ => by unfold Reg.FPC_DMEM; omega

theorem Dev.dmWords_rest (ws : List Word) (d : Dev) (c a : Nat) : ∃ rf, d.dmWords c a ws = { d with rf := rf } := by
  unfold Dev.dmWords
  exact Dev.foldl_setReg_rest (fun p : Nat × Word => Reg.FPC_DMEM c ((a / 4 + p.1) % 524288)) Prod.snd ((List.range ws.length).zip ws) d

theorem Dev.reg_fpcCount (d : Dev) {c i k : Nat} (n : Nat) (h : k ≠ Reg.FPC_CLc_COUNTS c i) : (d.fpcCount c i n).reg k = d.reg k :=
  Dev.reg_setReg_other _ _ h

theorem Dev.reg_fpcEvt (d : Dev) {c k : Nat} (i : Nat) (h : k ≠ Reg.FPC_CLc_EVT c) : (d.fpcEvt c i).reg k = d.reg k :=
  Dev.reg_sqSet_other _ _ h

theorem Dev.reg_postEvents_apart (d : Dev) {t k : Nat} (bits : Nat) (h : k ≠ thrReg Reg.FPC_THR_EVENTS t) :
    (d.postEvents t bits).reg k = d.reg k := Dev.reg_setReg_other _ _ h

/-- An event of a cluster stays set while others are added. -/
theorem Dev.bit_fpcEvt_keep (d : Dev) {c i : Nat} (j : Nat) (hi : i < 24) (h : d.bit (Reg.FPC_CLc_EVT c) i = true) :
    (d.fpcEvt c j).bit (Reg.FPC_CLc_EVT c) i = true := by
  unfold Dev.fpcEvt
  rw [Dev.bit_sqSet _ _ _ hi, h, Bool.true_or]

theorem Dev.bit_fpcEvt (d : Dev) (c : Nat) {i : Nat} (hi : i < 24) : (d.fpcEvt c i).bit (Reg.FPC_CLc_EVT c) i = true :=
  Dev.bit_sqSet_mem _ _ hi (List.mem_singleton.mpr rfl)

section
variable (d : Dev) (c kind thread code detail count : Nat)

/-- The place of a cluster's next notice, counted (R325). -/
def Dev.numberNotice : Dev := { d with fpc := { d.fpc with notices := Map.put d.fpc.notices c (Map.getD d.fpc.notices c 0 + 1) } }

/-- A notice is lost at a full ring, or lies in data memory and is told to the supervisor (R325). -/
theorem Dev.writeNotice_cases :
    d.writeNotice c kind thread code detail count = ((d.numberNotice c).fpcCount c 6 1).fpcEvt c 6 ∨
    ∃ a ws v, d.writeNotice c kind thread code detail count =
      (((d.numberNotice c).dmWords c a ws).setFld (Reg.FPC_CLc_NOTICE_IDX c) 16 16 v).postEvents (64 * c) (2 ^ 29) := by
  unfold Dev.writeNotice
  dsimp only
  split
  · exact Or.inl rfl
  · exact Or.inr ⟨_, _, _, rfl⟩

theorem Dev.fpcCount_evt_rest (d : Dev) (c i n j : Nat) : ∃ rf, (d.fpcCount c i n).fpcEvt c j = { d with rf := rf } := ⟨_, rfl⟩

theorem Dev.setFld_postEvents_rest (d : Dev) (k lo n v t b : Nat) : ∃ rf, (d.setFld k lo n v).postEvents t b = { d with rf := rf } := ⟨_, rfl⟩

/-- A notice changes the numbers of the cluster's notices, and registers. -/
theorem Dev.writeNotice_rest : ∃ rf n, d.writeNotice c kind thread code detail count = { d with rf := rf, fpc := { d.fpc with notices := n } } := by
  obtain h | ⟨a, ws, v, h⟩ := d.writeNotice_cases c kind thread code detail count
  · obtain ⟨rf, e⟩ := (d.numberNotice c).fpcCount_evt_rest c 6 1 6
    exact ⟨rf, _, h.trans e⟩
  · obtain ⟨rf, e⟩ := ((d.numberNotice c).dmWords c a ws).setFld_postEvents_rest (Reg.FPC_CLc_NOTICE_IDX c) 16 16 v (64 * c) (2 ^ 29)
    obtain ⟨rf', e'⟩ := Dev.dmWords_rest ws (d.numberNotice c) c a
    rw [h, e, e']
    exact ⟨rf, _, rfl⟩

theorem Dev.reg_writeNotice {k : Nat} (hk : k < 0x50000000) (hcnt : k ≠ Reg.FPC_CLc_COUNTS c 6) (hevt : k ≠ Reg.FPC_CLc_EVT c)
    (hidx : k ≠ Reg.FPC_CLc_NOTICE_IDX c) (hsup : k ≠ thrReg Reg.FPC_THR_EVENTS (64 * c)) :
    (d.writeNotice c kind thread code detail count).reg k = d.reg k := by
  obtain h | ⟨a, ws, v, h⟩ := d.writeNotice_cases c kind thread code detail count
  · rw [h, Dev.reg_fpcEvt _ _ hevt, Dev.reg_fpcCount _ _ hcnt]
    rfl
  · rw [h, Dev.reg_postEvents_apart _ _ hsup, Dev.reg_setFld_apart _ _ _ _ hidx, Dev.reg_dmWords _ _ _ _ hk]
    rfl

/-- A thread's register other than its events stays through a notice. -/
theorem Dev.reg_writeNotice_thr {r : Nat → Nat → Nat} {o : Nat} (hr : ThrOffset r o) (ho : o < 64) (hne : o ≠ 12) {t : Nat} (ht : t < 512)
    (hc : c < 8) : (d.writeNotice c kind thread code detail count).reg (thrReg r t) = d.reg (thrReg r t) := by
  have habove := hr.above t
  exact d.reg_writeNotice c kind thread code detail count (hr.below ho ht) (by unfold Reg.FPC_CLc_COUNTS; omega)
    (by unfold Reg.FPC_CLc_EVT; omega) (by unfold Reg.FPC_CLc_NOTICE_IDX; omega) (hr.ne offset_events ho (by decide) hne t _)

theorem Dev.bit_writeNotice_keep {i : Nat} (hc : c < 8) (hi : i < 24) (h : d.bit (Reg.FPC_CLc_EVT c) i = true) :
    (d.writeNotice c kind thread code detail count).bit (Reg.FPC_CLc_EVT c) i = true := by
  have hlow : Reg.FPC_CLc_EVT c < 0x40000000 := by unfold Reg.FPC_CLc_EVT; omega
  have hsup := offset_events.above (64 * c)
  obtain e | ⟨a, ws, v, e⟩ := d.writeNotice_cases c kind thread code detail count
  · rw [e]
    refine Dev.bit_fpcEvt_keep _ 6 hi ?_
    unfold Dev.bit
    rw [Dev.reg_fpcCount _ _ (by unfold Reg.FPC_CLc_EVT Reg.FPC_CLc_COUNTS; omega)]
    exact h
  · rw [e]
    unfold Dev.bit
    rw [Dev.reg_postEvents_apart _ _ (by omega), Dev.reg_setFld_apart _ _ _ _ (by unfold Reg.FPC_CLc_EVT Reg.FPC_CLc_NOTICE_IDX; omega),
      Dev.reg_dmWords _ _ _ _ (by omega)]
    exact h

end

/-- What a fault does before its thread's state is set: the port, the timers, the requests and the frames are given up (R323). -/
def Dev.giveUp (d : Dev) (t : Nat) : Dev :=
  (((d.dropStaged t).setThread t (fun th =>
    { th with timers := [], stalled := none, reqs := th.reqs.map (fun r => { r with mute := true }) })).freeOwned t).1

theorem Dev.thrFault_eq (d : Dev) (t code : Nat) : ∃ n, d.thrFault t code =
    (((((d.giveUp t).setThr t 6).setN (thrReg Reg.FPC_THR_FAULT t) (code * 2 ^ 24 + d.pc t)).fpcCount (t / 64) 1 1).fpcEvt (t / 64) 0).writeNotice
      (t / 64) 1 (t % 64) code (d.pc t) n := ⟨_, rfl⟩

/-- A fault leaves the thread FAULTED with its code (R323). -/
theorem Dev.thrFault_shows (d : Dev) {t code : Nat} (ht : t < 512) (hcode : code < 256) :
    (d.thrFault t code).thrState t = 6 ∧ (d.thrFault t code).fld (thrReg Reg.FPC_THR_FAULT t) 24 8 = code := by
  obtain ⟨n, h⟩ := d.thrFault_eq t code
  have hs := offset_state.above t
  have hf := offset_fault.above t
  have hcnt : Reg.FPC_CLc_COUNTS (t / 64) 1 < 0x40000000 := by unfold Reg.FPC_CLc_COUNTS; omega
  have hevt : Reg.FPC_CLc_EVT (t / 64) < 0x40000000 := by unfold Reg.FPC_CLc_EVT; omega
  have hpc := d.pc_lt t
  rw [h]
  constructor
  · refine (Dev.thrState_congr ?_).trans (Dev.thrState_setThr (d.giveUp t) t (by decide))
    rw [Dev.reg_writeNotice_thr _ _ _ _ _ _ _ offset_state (by decide) (by decide) ht (by omega), Dev.reg_fpcEvt _ _ (by omega),
      Dev.reg_fpcCount _ _ (by omega)]
    exact Dev.reg_setReg_other _ _ (offset_state.ne offset_fault (by decide) (by decide) (by decide) t t)
  · unfold Dev.fld
    rw [Dev.reg_writeNotice_thr _ _ _ _ _ _ _ offset_fault (by decide) (by decide) ht (by omega), Dev.reg_fpcEvt _ _ (by omega),
      Dev.reg_fpcCount _ _ (by omega)]
    unfold Dev.setN
    rw [Dev.reg_setReg_same, Word.fld_wd _ (by decide)]
    omega

theorem Dev.reg_giveUp (d : Dev) (t : Nat) {k : Nat} (hk : FpcKey k) (hs : ∀ u, k ≠ thrReg Reg.FPC_THR_STATE u)
    (hc : k ≠ Reg.FPC_CLc_COUNTS (t / 64) 5) : (d.giveUp t).reg k = d.reg k :=
  (Dev.reg_freeOwned _ t (hs t) hc).trans (((Dev.MovesThreads.refl d).dropStaged t).1 k hk hs)

theorem Dev.tasting_giveUp (d : Dev) (t : Nat) : (d.giveUp t).fpc.tasting = d.fpc.tasting := by
  unfold Dev.giveUp
  rw [Dev.fpc_freeOwned, Dev.tasting_setThread]
  exact ((Dev.MovesThreads.refl d).dropStaged t).2

/-! ## Faults of a core's threads -/

/-- CORES and SPARE of a cluster, its core's tasting and an event recorded stay (R332, R333). -/
def Dev.KeepsCores (c : Nat) (d u : Dev) : Prop :=
  u.reg (Reg.FPC_CLc_CORES c) = d.reg (Reg.FPC_CLc_CORES c) ∧ u.reg (Reg.FPC_CLc_SPARE c) = d.reg (Reg.FPC_CLc_SPARE c) ∧
  u.fpc.tasting = d.fpc.tasting ∧ (∀ i, i < 24 → d.bit (Reg.FPC_CLc_EVT c) i = true → u.bit (Reg.FPC_CLc_EVT c) i = true)

theorem Dev.KeepsCores.refl (c : Nat) (d : Dev) : Dev.KeepsCores c d d := ⟨rfl, rfl, rfl, fun _ _ h => h⟩

theorem Dev.KeepsCores.trans {c : Nat} {d t u : Dev} (h : Dev.KeepsCores c d t) (h' : Dev.KeepsCores c t u) : Dev.KeepsCores c d u :=
  ⟨h'.1.trans h.1, h'.2.1.trans h.2.1, h'.2.2.1.trans h.2.2.1, fun i hi hb => h'.2.2.2 i hi (h.2.2.2 i hi hb)⟩

theorem Dev.keepsCores_writeNotice (d : Dev) {c : Nat} (hc : c < 8) (kind thread code detail count : Nat) :
    Dev.KeepsCores c d (d.writeNotice c kind thread code detail count) := by
  have hsup := offset_events.above (64 * c)
  have hreg {k : Nat} (hk : k < 0x40000000) (hcnt : k ≠ Reg.FPC_CLc_COUNTS c 6) (hevt : k ≠ Reg.FPC_CLc_EVT c)
      (hidx : k ≠ Reg.FPC_CLc_NOTICE_IDX c) : (d.writeNotice c kind thread code detail count).reg k = d.reg k :=
    d.reg_writeNotice c kind thread code detail count (by omega) hcnt hevt hidx (by omega)
  obtain ⟨rf, n, e⟩ := d.writeNotice_rest c kind thread code detail count
  refine ⟨?_, ?_, by rw [e], fun i hi => d.bit_writeNotice_keep c kind thread code detail count hc hi⟩
  · exact hreg (by unfold Reg.FPC_CLc_CORES; omega) (by unfold Reg.FPC_CLc_CORES Reg.FPC_CLc_COUNTS; omega)
      (by unfold Reg.FPC_CLc_CORES Reg.FPC_CLc_EVT; omega) (by unfold Reg.FPC_CLc_CORES Reg.FPC_CLc_NOTICE_IDX; omega)
  · exact hreg (by unfold Reg.FPC_CLc_SPARE; omega) (by unfold Reg.FPC_CLc_SPARE Reg.FPC_CLc_COUNTS; omega)
      (by unfold Reg.FPC_CLc_SPARE Reg.FPC_CLc_EVT; omega) (by unfold Reg.FPC_CLc_SPARE Reg.FPC_CLc_NOTICE_IDX; omega)

theorem Dev.keepsCores_fpcEvt (d : Dev) (c i : Nat) : Dev.KeepsCores c d (d.fpcEvt c i) :=
  ⟨d.reg_fpcEvt i (by unfold Reg.FPC_CLc_CORES Reg.FPC_CLc_EVT; omega), d.reg_fpcEvt i (by unfold Reg.FPC_CLc_SPARE Reg.FPC_CLc_EVT; omega),
    rfl, fun _ hj => d.bit_fpcEvt_keep i hj⟩

/-- A register apart from a cluster's CORES, SPARE and events. -/
theorem Dev.keepsCores_of_reg {d u : Dev} {c : Nat} (ht : u.fpc.tasting = d.fpc.tasting)
    (h : ∀ k ∈ [Reg.FPC_CLc_CORES c, Reg.FPC_CLc_SPARE c, Reg.FPC_CLc_EVT c], u.reg k = d.reg k) : Dev.KeepsCores c d u :=
  ⟨h _ (by simp), h _ (by simp), ht, fun i _ hb => by
    unfold Dev.bit at hb ⊢
    rw [h _ (by simp)]
    exact hb⟩

theorem mem_coreRegs {c k : Nat} (h : k ∈ [Reg.FPC_CLc_CORES c, Reg.FPC_CLc_SPARE c, Reg.FPC_CLc_EVT c]) :
    0xb00010 + c * 256 ≤ k ∧ k < 0xb00020 + c * 256 := by
  simp only [List.mem_cons, List.not_mem_nil, or_false, Reg.FPC_CLc_CORES, Reg.FPC_CLc_SPARE, Reg.FPC_CLc_EVT] at h
  omega

theorem Dev.keepsCores_thrFault (d : Dev) {t : Nat} (ht : t < 512) (code : Nat) : Dev.KeepsCores (t / 64) d (d.thrFault t code) := by
  obtain ⟨n, h⟩ := d.thrFault_eq t code
  rw [h]
  refine .trans ?_ ((Dev.keepsCores_fpcEvt _ _ 0).trans (Dev.keepsCores_writeNotice _ (by omega) _ _ _ _ _))
  refine Dev.keepsCores_of_reg ?_ fun k hk => ?_
  · rw [show ∀ x : Dev, (x.fpcCount (t / 64) 1 1).fpc = x.fpc from fun _ => rfl, show ∀ (x : Dev) k v, (x.setN k v).fpc = x.fpc from fun _ _ _ => rfl,
      Dev.tasting_setThr, Dev.tasting_giveUp]
  · have hin := mem_coreRegs hk
    have hthr (r : Nat → Nat → Nat) (o : Nat) (hr : ThrOffset r o) (u : Nat) : k ≠ thrReg r u := by
      have := hr.above u
      omega
    rw [Dev.reg_fpcCount _ _ (by unfold Reg.FPC_CLc_COUNTS; omega)]
    refine (Dev.reg_setReg_other _ _ (hthr _ _ offset_fault t)).trans ?_
    rw [Dev.reg_setThr _ _ _ (fpcKey_low (by omega)) (hthr _ _ offset_state t),
      Dev.reg_giveUp _ _ (fpcKey_low (by omega)) (hthr _ _ offset_state) (by unfold Reg.FPC_CLc_COUNTS; omega)]

end Sys2Proof.Machine
end


section
/-! DEFINITION. Threads run, wake and stop (O34). -/

namespace Sys2Proof.Machine

/-! ## Starts and stops (R327, R328) -/

/-- A started thread is WAKING at its ENTRY, without events (R327). -/
theorem Dev.thrStart_shows (d : Dev) (t : Nat) : (d.thrStart t).thrState t = 4 ∧
    (d.thrStart t).pc t = d.fld (thrReg Reg.FPC_THR_ENTRY t) 0 15 ∧ (d.thrStart t).reg (thrReg Reg.FPC_THR_EVENTS t) = 0 := by
  have hentry : (d.dropStaged t).reg (thrReg Reg.FPC_THR_ENTRY t) = d.reg (thrReg Reg.FPC_THR_ENTRY t) :=
    ((Dev.MovesThreads.refl d).dropStaged t).1 _ (offset_entry.fpcKey t) fun u => offset_entry.ne offset_state (by decide) (by decide) (by decide) t u
  unfold Dev.thrStart
  extract_lets cfg x
  have hx : x.fld (thrReg Reg.FPC_THR_ENTRY t) 0 15 = d.fld (thrReg Reg.FPC_THR_ENTRY t) 0 15 := congrArg (Word.fld · 0 15) hentry
  refine ⟨Dev.thrState_setThr _ _ (by decide), ?_, ?_⟩
  · rw [Dev.pc_setThr, Dev.pc_setPc, hx]
    exact Nat.mod_eq_of_lt (Word.fld_lt _ 0 15)
  · rw [Dev.reg_setThr _ _ _ (offset_events.fpcKey t) (offset_events.ne offset_state (by decide) (by decide) (by decide) t t),
      Dev.reg_setPc _ _ _ (offset_events.ne offset_state (by decide) (by decide) (by decide) t t), Dev.reg_setReg_same]

theorem Dev.thrState_thrIdle (d : Dev) (t : Nat) : (d.thrIdle t).thrState t = 0 := Dev.thrState_setThr _ t (by decide)

/-- A thread that enters IDLE keeps its settings. -/
theorem Dev.reg_thrIdle (d : Dev) (t : Nat) {r : Nat → Nat → Nat} {o : Nat} (hr : ThrOffset r o) (ho : o < 64) (hne : o ≠ 8) (ht : t < 512) :
    (d.thrIdle t).reg (thrReg r t) = d.reg (thrReg r t) := by
  have hstate (u : Nat) : thrReg r t ≠ thrReg Reg.FPC_THR_STATE u := hr.ne offset_state ho (by decide) hne t u
  have habove := hr.above t
  unfold Dev.thrIdle
  dsimp only
  rw [Dev.reg_setThr _ _ _ (hr.fpcKey t) (hstate t), Dev.reg_freeOwned _ _ (hstate t) (by unfold Reg.FPC_CLc_COUNTS; omega)]
  exact ((Dev.MovesThreads.refl d).dropStaged t).1 _ (hr.fpcKey t) hstate

theorem Dev.thrReset_starts {d : Dev} {t : Nat} (ht : t < 512) (hon : d.thrOn t = true) : (d.thrReset t).thrState t = 4 ∧
    (d.thrReset t).pc t = d.fld (thrReg Reg.FPC_THR_ENTRY t) 0 15 := by
  have hon' : (d.thrIdle t).thrOn t = true := by
    unfold Dev.thrOn Dev.bit
    rw [d.reg_thrIdle t offset_cfg (by decide) (by decide) ht]
    exact hon
  unfold Dev.thrReset
  dsimp only
  rw [if_pos hon']
  obtain ⟨hs, hpc, -⟩ := (d.thrIdle t).thrStart_shows t
  refine ⟨hs, hpc.trans ?_⟩
  unfold Dev.fld
  rw [d.reg_thrIdle t offset_entry (by decide) (by decide) ht]

/-! ## Instructions of a RUNNING thread -/

theorem act_ifRunning {s : State} {t : Nat} (hr : s.dev.running = true) (h1 : s.dev.thrState t = 1) (f : Dev → Dev) :
    act (fun d => d.ifRunning t f) s = .next { s with dev := f s.dev } := by
  refine (act_run hr).trans ?_
  unfold Dev.ifRunning
  rw [if_pos h1]

theorem act_ifRunning_not {s : State} {t : Nat} (hr : s.dev.running = true) (h1 : s.dev.thrState t ≠ 1) (f : Dev → Dev) :
    act (fun d => d.ifRunning t f) s = .next s := by
  refine (act_run hr).trans ?_
  unfold Dev.ifRunning
  rw [if_neg h1]

theorem Dev.thrState_chargeSlots (d : Dev) (t n u : Nat) : (d.chargeSlots t n).thrState u = d.thrState u :=
  Dev.thrState_congr (d.reg_chargeSlots t n (offset_state.fpcKey u))

theorem Dev.holding_chargeSlots (d : Dev) (t n u : Nat) : (d.chargeSlots t n).holding u = d.holding u :=
  Dev.holding_congr (d.reg_chargeSlots t n (offset_state.fpcKey u))

theorem Dev.pc_chargeSlots (d : Dev) (t n u : Nat) : (d.chargeSlots t n).pc u = d.pc u :=
  Dev.pc_congr (d.reg_chargeSlots t n (offset_state.fpcKey u))

theorem Dev.thread_chargeSlots (d : Dev) (t n u : Nat) : (d.chargeSlots t n).thread u = d.thread u :=
  Dev.thread_congr (d.fpc_chargeSlots t n) u

theorem Dev.issue_next (d : Dev) (t : Nat) {pc : Nat} (h : pc < 32768) : d.issue t (.next pc) = (d.chargeSlots t 1).setPc t pc := by
  unfold Dev.issue
  dsimp only
  rw [if_neg (by omega)]

/-! ## Waits -/

/-- A register of a channel lies apart from the lines of the threads. -/
theorem channelReg_ne {c h k : Nat} (hh : h < 256) (o : Nat) (ho : o < 16) (hk : k = 0x40010000 + c * 0x100000 + h * 0x10 + o)
    {r : Nat → Nat → Nat} {p : Nat} (hr : ThrOffset r p) (hp : p < 64) (t : Nat) : k ≠ thrReg r t := by
  unfold thrReg
  rw [hr, hk]
  omega

/-- The pending bits of a thread read its events and its channels (R311). -/
theorem Dev.pendingBits_congr {d u : Dev} {t : Nat} (hfpc : u.fpc = d.fpc)
    (h : ∀ k, FpcKey k → k ≠ thrReg Reg.FPC_THR_STATE t → k ≠ thrReg Reg.FPC_THR_WAITMASK t → u.reg k = d.reg k) :
    u.pendingBits t = d.pendingBits t := by
  have hev : u.reg (thrReg Reg.FPC_THR_EVENTS t) = d.reg (thrReg Reg.FPC_THR_EVENTS t) :=
    h _ (offset_events.fpcKey t) (offset_events.ne offset_state (by decide) (by decide) (by decide) t t)
      (offset_events.ne offset_waitmask (by decide) (by decide) (by decide) t t)
  have hbound : ∀ c q l, u.boundTo c (q % 256) l = d.boundTo c (q % 256) l := by
    intro c q l
    have hq : q % 256 < 256 := Nat.mod_lt _ (by decide)
    have hlo : u.reg (Reg.FPC_CHh_THREADS_LO c (q % 256)) = d.reg (Reg.FPC_CHh_THREADS_LO c (q % 256)) := by
      have hk : Reg.FPC_CHh_THREADS_LO c (q % 256) = 0x40010000 + c * 0x100000 + q % 256 * 0x10 + 4 := by unfold Reg.FPC_CHh_THREADS_LO; omega
      exact h _ (Or.inr (by omega)) (channelReg_ne hq 4 (by decide) hk offset_state (by decide) t)
        (channelReg_ne hq 4 (by decide) hk offset_waitmask (by decide) t)
    have hhi : u.reg (Reg.FPC_CHh_THREADS_HI c (q % 256)) = d.reg (Reg.FPC_CHh_THREADS_HI c (q % 256)) := by
      have hk : Reg.FPC_CHh_THREADS_HI c (q % 256) = 0x40010000 + c * 0x100000 + q % 256 * 0x10 + 8 := by unfold Reg.FPC_CHh_THREADS_HI; omega
      exact h _ (Or.inr (by omega)) (channelReg_ne hq 8 (by decide) hk offset_state (by decide) t)
        (channelReg_ne hq 8 (by decide) hk offset_waitmask (by decide) t)
    unfold Dev.boundTo Dev.bit
    rw [hlo, hhi]
  unfold Dev.pendingBits Dev.inboundLevel Dev.bit
  simp only [hev, hbound, hfpc]

/-- The wait's slot charged and its mask shown. -/
def Dev.waitSlot (d : Dev) (t : Nat) (mask : Word) : Dev :=
  ((d.chargeSlots t 1).setReg (thrReg Reg.FPC_THR_WAITMASK t) mask).setPc t (d.pc t + 1)

theorem Dev.waitSlot_shows (d : Dev) (t : Nat) (mask : Word) : (d.waitSlot t mask).thrState t = d.thrState t ∧
    (d.waitSlot t mask).pc t = (d.pc t + 1) % 32768 ∧ (d.waitSlot t mask).reg (thrReg Reg.FPC_THR_WAITMASK t) = mask ∧
    (d.waitSlot t mask).pendingBits t = d.pendingBits t ∧ (d.waitSlot t mask).thread t = d.thread t := by
  have hstate : thrReg Reg.FPC_THR_STATE t ≠ thrReg Reg.FPC_THR_WAITMASK t :=
    offset_state.ne offset_waitmask (by decide) (by decide) (by decide) t t
  have hfpc : (d.waitSlot t mask).fpc = d.fpc := by
    unfold Dev.waitSlot Dev.setPc
    rw [Dev.fpc_setFld, Dev.setReg_fpc, Dev.fpc_chargeSlots]
  refine ⟨?_, Dev.pc_setPc _ _ _, ?_, Dev.pendingBits_congr hfpc fun k hk hs hw => ?_, Dev.thread_congr hfpc t⟩
  · unfold Dev.waitSlot
    rw [Dev.thrState_setPc, Dev.thrState_congr (Dev.reg_setReg_other _ _ hstate), Dev.thrState_chargeSlots]
  · unfold Dev.waitSlot
    rw [Dev.reg_setPc _ _ _ hstate.symm, Dev.reg_setReg_same]
  · unfold Dev.waitSlot
    rw [Dev.reg_setPc _ _ _ hs, Dev.reg_setReg_other _ _ hw, d.reg_chargeSlots t 1 hk]

theorem Dev.eventWait_free {d : Dev} {t : Nat} (h : d.holding t = none) (mask : Word) :
    d.eventWait t mask = if (d.waitSlot t mask).pendingBits t &&& mask ≠ 0 then d.waitSlot t mask
      else if ((d.waitSlot t mask).thread t).leaving then (d.waitSlot t mask).thrIdle t else (d.waitSlot t mask).setThr t 3 := by
  have hstate : thrReg Reg.FPC_THR_STATE t ≠ thrReg Reg.FPC_THR_WAITMASK t :=
    offset_state.ne offset_waitmask (by decide) (by decide) (by decide) t t
  have hhold : ((d.chargeSlots t 1).setReg (thrReg Reg.FPC_THR_WAITMASK t) mask).holding t = none := by
    rw [Dev.holding_congr (Dev.reg_setReg_other _ _ hstate), Dev.holding_chargeSlots, h]
  have hpc : ((d.chargeSlots t 1).setReg (thrReg Reg.FPC_THR_WAITMASK t) mask).pc t = d.pc t := by
    rw [Dev.pc_congr (Dev.reg_setReg_other _ _ hstate), Dev.pc_chargeSlots]
  unfold Dev.eventWait Dev.waitSlot
  dsimp only
  rw [hhold, hpc, if_neg (show ¬ (none : Option Nat).isSome = true by decide)]

/-! ## Puts (R318) -/

theorem Dev.thrState_slot (d : Dev) (t : Nat) : (d.slot t).thrState t = d.thrState t :=
  (Dev.thrState_setPc _ _ _).trans (d.thrState_chargeSlots t 1 t)

theorem Dev.reg_slot (d : Dev) (t : Nat) {k : Nat} (hk : FpcKey k) (hs : k ≠ thrReg Reg.FPC_THR_STATE t) : (d.slot t).reg k = d.reg k :=
  (Dev.reg_setPc _ _ _ hs).trans (d.reg_chargeSlots t 1 hk)

theorem Dev.fpc_slot (d : Dev) (t : Nat) : (d.slot t).fpc = d.fpc := by
  unfold Dev.slot Dev.setPc
  rw [Dev.fpc_setFld, Dev.fpc_chargeSlots]

theorem Dev.holding_slot (d : Dev) (t u : Nat) : (d.slot t).holding u = d.holding u := by
  unfold Dev.slot
  by_cases h : u = t
  · subst h
    rw [Dev.holding_setPc, Dev.holding_chargeSlots]
  · have hne : thrReg Reg.FPC_THR_STATE u ≠ thrReg Reg.FPC_THR_STATE t := by
      unfold thrReg Reg.FPC_THR_STATE
      omega
    rw [Dev.holding_congr (Dev.reg_setPc _ _ _ hne), Dev.holding_chargeSlots]

theorem Dev.holder_slot (d : Dev) (t c h : Nat) : (d.slot t).holder c h = d.holder c h := by
  simp only [Dev.holder, Dev.holding_slot]

/-- A port claimed by a thread (R318). -/
theorem Dev.holding_setHold (d : Dev) (t : Nat) {port : Nat} (hp : port < 256) : (d.setHold t (some port)).holding t = some port := by
  have hbits (d : Dev) (k : Nat) : (d.portBits k true port).bit k 23 = true ∧ (d.portBits k true port).fld k 15 8 = port :=
    ⟨(Dev.bit_setFld_other _ _ _ (by decide) (by decide)).trans (Dev.bit_setBit_same _ _ _ _ (by decide)),
      (Dev.fld_setFld_same _ _ _ _ _ (by decide)).trans (Nat.mod_eq_of_lt hp)⟩
  obtain ⟨h23, hport⟩ := hbits d (thrReg Reg.FPC_THR_STATE t)
  rw [Dev.setHold_some, Dev.holding_congr (Dev.reg_setThread ..)]
  unfold Dev.holding
  dsimp only
  rw [if_pos h23, hport]

/-- A put to a free port by a thread that holds none stages its word there (R318). -/
theorem Dev.channelPut_free {d : Dev} {t port : Nat} (hp : port < 14) (hsup : port ≠ 0 ∨ isSup t = true)
    (hab : ((d.slot t).thread t).abort = false) (hold : (d.slot t).holding t = none) (hfree : (d.slot t).holder (t / 64) port = none)
    (w : Word) (fin : Bool) : d.channelPut t port w fin = ((d.slot t).setHold t (some port)).stageWord t port w fin := by
  unfold Dev.channelPut
  extract_lets x cond
  have hx : d.slot t = x := rfl
  rw [hx] at hab hold hfree ⊢
  clear_value x
  rw [if_neg (by simp [hab]), if_neg (by rcases hsup with h | h <;> simp [h] <;> omega)]
  generalize x.holder (t / 64) port = owner at hfree ⊢
  subst hfree
  rw [hold]

theorem Dev.channelPut_bad {d : Dev} {t port : Nat} (hp : 14 ≤ port) (hab : (d.thread t).abort = false) (w : Word) (fin : Bool) :
    d.channelPut t port w fin = (d.slot t).thrFault t 4 := by
  unfold Dev.channelPut
  extract_lets x cond
  have hab' : (x.thread t).abort = false := by rw [Dev.thread_congr (d.fpc_slot t) t, hab]
  rw [if_neg (by simp [hab']), if_pos (Or.inl hp)]

/-- A put without END leaves the port where it is. -/
theorem Dev.putAndGrant_open (d : Dev) (t port : Nat) (w : Word) : d.putAndGrant t port w false = d.channelPut t port w false := by
  unfold Dev.putAndGrant
  extract_lets held x
  rw [Bool.false_and, if_neg Bool.false_ne_true]

theorem Dev.stageWord_open (d : Dev) (t h : Nat) (w : Word) :
    d.stageWord t h w false = (d.setThread t (fun th => { th with staged := (th.staged ++ [w]).take 16, cond := 0 })).setThr t 1 := by
  unfold Dev.stageWord
  extract_lets x
  rw [if_pos (by decide)]

/-- The port is the thread's and its word is staged. -/
theorem Dev.putAndGrant_claims {d : Dev} {t port : Nat} (hp : port < 14) (hsup : port ≠ 0 ∨ isSup t = true) (hab : (d.thread t).abort = false)
    (hold : d.holding t = none) (hfree : d.holder (t / 64) port = none) (w : Word) :
    (d.putAndGrant t port w false).holding t = some port ∧
    ((d.putAndGrant t port w false).thread t).staged = ((d.thread t).staged ++ [w]).take 16 := by
  have hthread : (d.slot t).thread t = d.thread t := Dev.thread_congr (d.fpc_slot t) t
  rw [Dev.putAndGrant_open, Dev.channelPut_free hp hsup (by rw [hthread, hab]) (by rw [Dev.holding_slot, hold])
    (by rw [Dev.holder_slot, hfree]), Dev.stageWord_open, Dev.holding_setThr,
    Dev.thread_setThr _ _ (by decide)]
  refine ⟨?_, ?_⟩
  · rw [Dev.holding_congr (Dev.reg_setThread ..)]
    exact Dev.holding_setHold _ _ (by omega)
  · rw [Dev.thread_setThread, Dev.setHold_some, Dev.thread_setThread, Dev.thread_congr (Dev.fpc_portBits ..), hthread]

/-! ## The first part: instructions -/

section
variable {s : State} {t : Fin 512} (hr : s.dev.running = true)
include hr

theorem instructions_not_running (h : s.dev.thrState t.val ≠ 1) :
    (∀ r, exec (.instructionIssue t r) s = .next s) ∧ (∀ mask, exec (.eventWait t mask) s = .next s) ∧
    (∀ b, exec (.eventClear t b) s = .next s) ∧ exec (.threadExit t) s = .next s ∧ (∀ x, exec (.chargeSliceSet t x) s = .next s) ∧
    (∀ h w fin, exec (.channelPut t h w fin) s = .next s) ∧ (∀ h, exec (.inboundTake t h) s = .next s) :=
  ⟨fun _ => act_ifRunning_not hr h _, fun _ => act_ifRunning_not hr h _, fun _ => act_ifRunning_not hr h _, act_ifRunning_not hr h _,
    fun _ => act_ifRunning_not hr h _, fun _ _ _ => act_ifRunning_not hr h _, fun _ => act_ifRunning_not hr h _⟩

variable (h1 : s.dev.thrState t.val = 1)
include h1

theorem exec_instructionIssue_next {pc : Nat} (hpc : pc < 32768) :
    ∃ u, exec (.instructionIssue t (.next pc)) s = .next u ∧ u.dev.pc t.val = pc ∧ u.dev.thrState t.val = 1 := by
  have hrow : exec (.instructionIssue t (.next pc)) s = .next { s with dev := s.dev.issue t.val (.next pc) } := act_ifRunning hr h1 _
  rw [Dev.issue_next _ _ hpc] at hrow
  refine ⟨_, hrow, (Dev.pc_setPc ..).trans (Nat.mod_eq_of_lt hpc), ?_⟩
  exact (Dev.thrState_setPc ..).trans ((Dev.thrState_chargeSlots ..).trans h1)

theorem exec_instructionIssue_fault (code : Fin 256) : ∃ u, exec (.instructionIssue t (.fault code)) s = .next u ∧ u.dev.thrState t.val = 6 ∧
    u.dev.fld (thrReg Reg.FPC_THR_FAULT t.val) 24 8 = code.val := by
  have hrow : exec (.instructionIssue t (.fault code)) s = .next { s with dev := (s.dev.chargeSlots t.val 1).thrFault t.val code.val } :=
    act_ifRunning hr h1 _
  exact ⟨_, hrow, Dev.thrFault_shows _ t.isLt code.isLt⟩

theorem exec_eventWait_free (mask : Word) (hold : s.dev.holding t.val = none) :
    exec (.eventWait t mask) s = .next { s with dev := (if s.dev.pendingBits t.val &&& mask ≠ 0 then s.dev.waitSlot t.val mask
      else if (s.dev.thread t.val).leaving then (s.dev.waitSlot t.val mask).thrIdle t.val else (s.dev.waitSlot t.val mask).setThr t.val 3) } := by
  have hrow : exec (.eventWait t mask) s = .next { s with dev := s.dev.eventWait t.val mask } := act_ifRunning hr h1 _
  obtain ⟨-, -, -, hpend, hthread⟩ := s.dev.waitSlot_shows t.val mask
  rwa [Dev.eventWait_free hold, hpend, hthread] at hrow

theorem exec_eventWait_pending (mask : Word) (hold : s.dev.holding t.val = none) (hp : s.dev.pendingBits t.val &&& mask ≠ 0) :
    ∃ u, exec (.eventWait t mask) s = .next u ∧ u.dev.thrState t.val = 1 ∧ u.dev.pc t.val = (s.dev.pc t.val + 1) % 32768 ∧
      u.dev.reg (thrReg Reg.FPC_THR_WAITMASK t.val) = mask := by
  have hrow := exec_eventWait_free hr h1 mask hold
  rw [if_pos hp] at hrow
  obtain ⟨hs, hpc, hmask, -, -⟩ := s.dev.waitSlot_shows t.val mask
  exact ⟨_, hrow, hs.trans h1, hpc, hmask⟩

theorem exec_eventWait_waits (mask : Word) (hold : s.dev.holding t.val = none) (hp : s.dev.pendingBits t.val &&& mask = 0)
    (hl : (s.dev.thread t.val).leaving = false) :
    ∃ u, exec (.eventWait t mask) s = .next u ∧ u.dev.thrState t.val = 3 ∧ u.dev.reg (thrReg Reg.FPC_THR_WAITMASK t.val) = mask := by
  have hrow := exec_eventWait_free hr h1 mask hold
  rw [if_neg (not_not_intro hp), if_neg (by simp [hl])] at hrow
  obtain ⟨-, -, hmask, -, -⟩ := s.dev.waitSlot_shows t.val mask
  refine ⟨_, hrow, Dev.thrState_setThr _ _ (by decide), ?_⟩
  exact (Dev.reg_setThr _ _ _ (offset_waitmask.fpcKey _) (offset_waitmask.ne offset_state (by decide) (by decide) (by decide) _ _)).trans hmask

theorem exec_eventClear_bits (b : Word) : ∃ u, exec (.eventClear t b) s = .next u ∧
    u.dev.reg (thrReg Reg.FPC_THR_EVENTS t.val) = s.dev.reg (thrReg Reg.FPC_THR_EVENTS t.val) &&& ~~~ b := by
  have hrow : exec (.eventClear t b) s = .next { s with dev := ((s.dev.slot t.val).setReg (thrReg Reg.FPC_THR_EVENTS t.val)
      (s.dev.reg (thrReg Reg.FPC_THR_EVENTS t.val) &&& ~~~ b)) } := act_ifRunning hr h1 _
  exact ⟨_, hrow, Dev.reg_setReg_same _ _ _⟩

theorem exec_threadExit_on (hon : s.dev.thrOn t.val = true) : ∃ u, exec (.threadExit t) s = .next u ∧ u.dev.thrState t.val = 4 ∧
    u.dev.pc t.val = s.dev.fld (thrReg Reg.FPC_THR_ENTRY t.val) 0 15 ∧ u.dev.reg (thrReg Reg.FPC_THR_EVENTS t.val) = 0 := by
  have hrow : exec (.threadExit t) s = .next { s with dev := (if (s.dev.chargeSlots t.val 1).thrOn t.val then
      (s.dev.chargeSlots t.val 1).thrStart t.val else (s.dev.chargeSlots t.val 1).thrIdle t.val) } := act_ifRunning hr h1 _
  have hon' : (s.dev.chargeSlots t.val 1).thrOn t.val = true := by
    unfold Dev.thrOn Dev.bit
    rw [Dev.reg_chargeSlots _ _ _ (offset_cfg.fpcKey _)]
    exact hon
  rw [if_pos hon'] at hrow
  obtain ⟨hs, hpc, hev⟩ := (s.dev.chargeSlots t.val 1).thrStart_shows t.val
  refine ⟨_, hrow, hs, hpc.trans ?_, hev⟩
  unfold Dev.fld
  rw [Dev.reg_chargeSlots _ _ _ (offset_entry.fpcKey _)]

theorem exec_threadExit_off (hoff : s.dev.thrOn t.val = false) : ∃ u, exec (.threadExit t) s = .next u ∧ u.dev.thrState t.val = 0 := by
  have hrow : exec (.threadExit t) s = .next { s with dev := (if (s.dev.chargeSlots t.val 1).thrOn t.val then
      (s.dev.chargeSlots t.val 1).thrStart t.val else (s.dev.chargeSlots t.val 1).thrIdle t.val) } := act_ifRunning hr h1 _
  have hoff' : (s.dev.chargeSlots t.val 1).thrOn t.val = false := by
    unfold Dev.thrOn Dev.bit
    rw [Dev.reg_chargeSlots _ _ _ (offset_cfg.fpcKey _)]
    exact hoff
  rw [if_neg (by simp [hoff'])] at hrow
  exact ⟨_, hrow, Dev.thrState_thrIdle _ _⟩

theorem exec_chargeSliceSet_some (n : Fin 8192) (i : Fin 256) : ∃ u, exec (.chargeSliceSet t (some (n, i))) s = .next u ∧
    u.dev.regN (thrReg Reg.FPC_THR_CHARGE t.val) = 2 ^ 31 + i.val * 2 ^ 16 + n.val := by
  have hrow : exec (.chargeSliceSet t (some (n, i))) s = .next { s with dev := ((s.dev.slot t.val).setN (thrReg Reg.FPC_THR_CHARGE t.val)
      (2 ^ 31 + i.val * 2 ^ 16 + n.val)) } := act_ifRunning hr h1 _
  refine ⟨_, hrow, ?_⟩
  unfold Dev.regN Dev.setN
  rw [Dev.reg_setReg_same]
  exact Nat.mod_eq_of_lt (by omega)

end

theorem exec_channelPut_free {s : State} {t : Fin 512} (hr : s.dev.running = true) (h1 : s.dev.thrState t.val = 1) (h : Fin 256) (w : Word)
    (hp : h.val < 14) (hsup : h.val ≠ 0 ∨ isSup t.val = true) (hab : (s.dev.thread t.val).abort = false) (hold : s.dev.holding t.val = none)
    (hfree : s.dev.holder (t.val / 64) h.val = none) : ∃ u, exec (.channelPut t h w false) s = .next u ∧ u.dev.holding t.val = some h.val ∧
      (u.dev.thread t.val).staged = ((s.dev.thread t.val).staged ++ [w]).take 16 := by
  have hrow : exec (.channelPut t h w false) s = .next { s with dev := s.dev.putAndGrant t.val h.val w false } := act_ifRunning hr h1 _
  exact ⟨_, hrow, Dev.putAndGrant_claims hp hsup hab hold hfree w⟩

theorem exec_channelPut_bad {s : State} {t : Fin 512} (hr : s.dev.running = true) (h1 : s.dev.thrState t.val = 1) (h : Fin 256) (w : Word)
    (hp : 14 ≤ h.val) (hab : (s.dev.thread t.val).abort = false) :
    ∃ u, exec (.channelPut t h w false) s = .next u ∧ u.dev.thrState t.val = 6 := by
  have hrow : exec (.channelPut t h w false) s = .next { s with dev := s.dev.putAndGrant t.val h.val w false } := act_ifRunning hr h1 _
  rw [Dev.putAndGrant_open, Dev.channelPut_bad hp hab] at hrow
  exact ⟨_, hrow, (Dev.thrFault_shows _ t.isLt (by decide)).1⟩

/-! ## Wake-ups and timers -/

section
variable {s : State} {t : Fin 512} (hr : s.dev.running = true)
include hr

theorem exec_threadWakeUp_wakes (h3 : s.dev.thrState t.val = 3)
    (hev : s.dev.reg (thrReg Reg.FPC_THR_EVENTS t.val) &&& s.dev.reg (thrReg Reg.FPC_THR_WAITMASK t.val) ≠ 0) :
    ∃ u, exec (.threadWakeUp t) s = .next u ∧ u.dev.thrState t.val = 4 := by
  have hrow : exec (.threadWakeUp t) s = .next { s with dev := (s.dev.setBit (thrReg Reg.FPC_THR_EVENTS t.val) 28 false).setThr t.val 4 } := by
    refine (act_run hr).trans ?_
    dsimp only
    rw [if_pos ⟨h3, hev⟩]
  exact ⟨_, hrow, Dev.thrState_setThr _ _ (by decide)⟩

theorem exec_threadWakeUp_not (h3 : s.dev.thrState t.val ≠ 3) : exec (.threadWakeUp t) s = .next s := by
  refine (act_run hr).trans ?_
  dsimp only
  rw [if_neg fun h => h3 h.1]

theorem exec_threadAdmit_not (h4 : s.dev.thrState t.val ≠ 4) : exec (.threadAdmit t) s = .next s := by
  refine (act_run hr).trans ?_
  rw [if_neg h4]

theorem exec_threadAdmit_runs {x : Dev} (h4 : s.dev.thrState t.val = 4) (ho : s.dev.offer .wake t.val (s.dev.thrClass t.val) (s.dev.unitCost 4 0)
    (s.dev.thrOwner t.val) (s.dev.fpc.wakeAngle.contains t.val) = (true, x)) :
    ∃ u, exec (.threadAdmit t) s = .next u ∧ u.dev.thrState t.val = 1 := by
  have hrow : exec (.threadAdmit t) s = .next { s with dev :=
      (({ x with fpc := { x.fpc with wakeAngle := x.fpc.wakeAngle.filter (· ≠ t.val) } } : Dev).setThr t.val 1) } := by
    refine (act_run hr).trans ?_
    rw [if_pos h4]
    dsimp only
    rw [ho]
    rfl
  exact ⟨_, hrow, Dev.thrState_setThr _ _ (by decide)⟩

theorem exec_angleWake_notWaiting {f : Firing} {fs : List Firing} (hq : s.dev.gau.firings = f :: fs) (ha : f.action = 6) (ht : f.target = t.val)
    (h3 : s.dev.thrState t.val ≠ 3) : exec (.angleWake t) s = .next { s with dev :=
      (({ s.dev with gau := { s.dev.gau with firings := fs } } : Dev).postEvents t.val (Word.fld f.arg 0 24)) } := by
  refine (act_run hr).trans ?_
  rw [Dev.takeFiring_head hq ha ht]
  dsimp only
  rw [if_neg]
  rw [Dev.thrState_congr (Dev.reg_postEvents_apart _ _ (offset_state.ne offset_events (by decide) (by decide) (by decide) _ _))]
  exact h3

theorem exec_threadTimerExpiry_none {i : Fin 4} (h : Map.get? (s.dev.thread t.val).timers i.val = none) :
    exec (.threadTimerExpiry t i) s = .next s := by
  refine (act_run hr).trans ?_
  rw [h]
  rfl

omit hr in
/-- A bit posted stays set beside those pending. -/
theorem bit_or_pow (w : Word) {i : Nat} (hi : i < 32) : Word.bit (w ||| wd (2 ^ i)) i = true := by
  unfold Word.bit wd
  rw [BitVec.toNat_or, Nat.testBit_or, BitVec.toNat_ofNat, Nat.mod_eq_of_lt (Nat.pow_lt_pow_right (by decide) hi), Nat.testBit_two_pow_self,
    Bool.or_true]

omit hr in
theorem Dev.fpc_postEvents (d : Dev) (t b : Nat) : (d.postEvents t b).fpc = d.fpc := by
  unfold Dev.postEvents
  extract_lets k
  rw [Dev.setReg_fpc]

omit hr in
theorem Dev.bit_postEvents (d : Dev) (t : Nat) {i : Nat} (hi : i < 32) : (d.postEvents t (2 ^ i)).bit (thrReg Reg.FPC_THR_EVENTS t) i = true := by
  unfold Dev.postEvents Dev.bit
  extract_lets k
  rw [Dev.reg_setReg_same]
  exact bit_or_pow _ hi

omit hr in
theorem Dev.expireTimer_shows (d : Dev) (t : Nat) (i : Fin 4) : ∀ u : Dev,
    u = (d.setThread t (fun th => { th with timers := Map.del th.timers i.val })).postEvents t (2 ^ (24 + i.val)) →
    u.bit (thrReg Reg.FPC_THR_EVENTS t) (24 + i.val) = true ∧ Map.get? (u.thread t).timers i.val = none ∧
    d.sameRegsBut u [thrReg Reg.FPC_THR_EVENTS t] := by
  rintro u rfl
  refine ⟨?_, ?_, ?_⟩
  · exact Dev.bit_postEvents _ t (by omega)
  · have hthread := Dev.thread_setThread d t (fun th => { th with timers := Map.del th.timers i.val })
    rw [Dev.thread_congr (Dev.fpc_postEvents ..), hthread]
    exact Map.get?_del_same _ _
  · have hthread : d.sameRegsBut (d.setThread t (fun th => { th with timers := Map.del th.timers i.val })) [thrReg Reg.FPC_THR_EVENTS t] :=
      fun _ _ => rfl
    exact hthread.trans fun k hk => Dev.reg_postEvents_apart _ _ fun h => hk (h ▸ List.mem_singleton.mpr rfl)

theorem exec_threadTimerExpiry_posts {i : Fin 4} (h : (Map.get? (s.dev.thread t.val).timers i.val).isSome = true) :
    ∃ u, exec (.threadTimerExpiry t i) s = .next u ∧ u.dev.bit (thrReg Reg.FPC_THR_EVENTS t.val) (24 + i.val) = true ∧
      Map.get? (u.dev.thread t.val).timers i.val = none ∧ s.dev.sameRegsBut u.dev [thrReg Reg.FPC_THR_EVENTS t.val] := by
  have hrow : exec (.threadTimerExpiry t i) s = .next { s with dev :=
      ((s.dev.setThread t.val (fun th => { th with timers := Map.del th.timers i.val })).postEvents t.val (2 ^ (24 + i.val))) } := by
    refine (act_run hr).trans ?_
    rw [if_pos h]
  exact ⟨_, hrow, s.dev.expireTimer_shows t.val i _ rfl⟩

/-! ## The debugger and resets (R328, R331) -/

theorem exec_fpcThrResetWrite_zero {v : Word} (hv : Word.bit v 0 = false) : exec (.fpcThrResetWrite t v) s = .next s := by
  refine (act_run hr).trans ?_
  rw [Dev.when_false _ _ hv]

theorem exec_fpcThrResetWrite_one {v : Word} (hv : Word.bit v 0 = true) (hon : s.dev.thrOn t.val = true) :
    ∃ u, exec (.fpcThrResetWrite t v) s = .next u ∧ u.dev.thrState t.val = 4 ∧
      u.dev.pc t.val = s.dev.fld (thrReg Reg.FPC_THR_ENTRY t.val) 0 15 := by
  have hrow : exec (.fpcThrResetWrite t v) s = .next { s with dev := s.dev.thrReset t.val } := by
    refine (act_run hr).trans ?_
    rw [Dev.when_true _ _ hv]
  exact ⟨_, hrow, Dev.thrReset_starts t.isLt hon⟩

omit hr in
/-- What the debugger register shows (R331). -/
theorem Dev.showDbg_shows (d : Dev) (t : Nat) : (d.showDbg t).thrState t = d.thrState t ∧ (d.showDbg t).thread t = d.thread t ∧
    (d.showDbg t).holding t = d.holding t ∧ (d.showDbg t).bit (thrReg Reg.FPC_THR_DBG t) 0 = decide (d.thrState t = 5) ∧
    (d.showDbg t).bit (thrReg Reg.FPC_THR_DBG t) 3 = (d.thread t).abort := by
  have hstate : (d.showDbg t).reg (thrReg Reg.FPC_THR_STATE t) = d.reg (thrReg Reg.FPC_THR_STATE t) :=
    Dev.reg_setReg_other _ _ (offset_state.ne offset_dbg (by decide) (by decide) (by decide) t t)
  have hdbg : (d.showDbg t).reg (thrReg Reg.FPC_THR_DBG t) = wd ((if (d.thread t).abort then 8 else 0) + (if d.thrState t = 5 then 1 else 0)) :=
    Dev.reg_setReg_same _ _ _
  have hthread : (d.showDbg t).fpc = d.fpc := Dev.setReg_fpc _ _ _
  refine ⟨Dev.thrState_congr hstate, Dev.thread_congr hthread t, Dev.holding_congr hstate, ?_, ?_⟩
  · unfold Dev.bit
    rw [hdbg]
    by_cases h5 : d.thrState t = 5 <;> cases (d.thread t).abort <;> simp [h5] <;> decide
  · unfold Dev.bit
    rw [hdbg]
    by_cases h5 : d.thrState t = 5 <;> cases (d.thread t).abort <;> simp [h5] <;> decide

theorem exec_halt_running (h1 : s.dev.thrState t.val = 1) : ∃ u, exec (.halt t) s = .next u ∧ u.dev.thrState t.val = 5 ∧
    (u.dev.thread t.val).prior = 1 ∧ u.dev.bit (thrReg Reg.FPC_THR_DBG t.val) 0 = true := by
  have hrow : exec (.halt t) s = .next { s with dev :=
      (((s.dev.setThread t.val (fun th => { th with prior := s.dev.thrState t.val })).setThr t.val 5).showDbg t.val) } := by
    refine (act_run hr).trans ?_
    unfold Dev.thrHalt
    dsimp only
    rw [if_pos (by omega)]
  obtain ⟨hs, hthread, -, h0, -⟩ := ((s.dev.setThread t.val (fun th => { th with prior := s.dev.thrState t.val })).setThr t.val 5).showDbg_shows t.val
  have h5 := Dev.thrState_setThr (s.dev.setThread t.val (fun th => { th with prior := s.dev.thrState t.val })) t.val (st := 5) (by decide)
  refine ⟨_, hrow, hs.trans h5, ?_, h0.trans (by rw [h5]; rfl)⟩
  exact (congrArg Thread.prior (hthread.trans ((Dev.thread_setThr _ _ (by decide) _).trans (Dev.thread_setThread ..)))).trans h1

theorem exec_resume_not (h5 : s.dev.thrState t.val ≠ 5) : exec (.resume t) s = .next s := by
  refine (act_run hr).trans ?_
  unfold Dev.thrResume
  rw [if_neg h5]

theorem exec_resume_running (h5 : s.dev.thrState t.val = 5) (hp : (s.dev.thread t.val).prior = 1) (hst : (s.dev.thread t.val).stalled = none) :
    ∃ u, exec (.resume t) s = .next u ∧ u.dev.thrState t.val = 1 ∧ u.dev.bit (thrReg Reg.FPC_THR_DBG t.val) 0 = false := by
  have hst' : ((s.dev.setThr t.val 1).thread t.val).stalled = none := by rw [Dev.thread_setThr _ _ (by decide), hst]
  have hrow : exec (.resume t) s = .next { s with dev := (s.dev.setThr t.val 1).showDbg t.val } := by
    refine (act_run hr).trans ?_
    unfold Dev.thrResume
    rw [if_pos h5, hp]
    generalize s.dev.setThr t.val 1 = x at hst'
    dsimp only
    rw [hst']
  obtain ⟨hs, -, -, h0, -⟩ := (s.dev.setThr t.val 1).showDbg_shows t.val
  have h1 := Dev.thrState_setThr s.dev t.val (st := 1) (by decide)
  exact ⟨_, hrow, hs.trans h1, h0.trans (by rw [h1]; rfl)⟩

theorem exec_release_none (h : s.dev.holding t.val = none) : exec (.release t) s = .next s := by
  refine (act_run hr).trans ?_
  unfold Dev.thrRelease
  rw [h]

omit hr in
/-- A port whose requesters are none is freed, and nothing more (R318). -/
theorem Dev.grantPort_nobody {d : Dev} {c h : Nat} (hnone : ∀ l, l < 64 → d.thrState (64 * c + l) ≠ 2) (n : Nat) :
    ∃ noted, d.grantPort c h n = { d with fpc := { d.fpc with heldNoted := noted } } := by
  cases n with
  | zero => exact ⟨_, rfl⟩
  | succ n =>
    unfold Dev.grantPort
    generalize hx : ({ d with fpc := { d.fpc with heldNoted := d.fpc.heldNoted.filter (· ≠ 256 * c + h) } } : Dev) = x
    have hstate : ∀ u, x.thrState u = d.thrState u := fun u => by rw [← hx]; exact Dev.thrState_congr rfl
    dsimp only
    split
    · exact ⟨_, hx.symm⟩
    · next t hfind =>
        have h2 := List.find?_some hfind
        obtain ⟨l, hl, rfl⟩ := List.mem_map.mp (List.mem_of_find?_eq_some hfind)
        have hne : x.thrState (64 * c + l) ≠ 2 := by rw [hstate]; exact hnone l (List.mem_range.mp hl)
        simp [hne] at h2

end

theorem Dev.holding_release (d : Dev) (t : Nat) : (d.setHold t none).holding t = none := by
  have hbits (d : Dev) (k : Nat) : (d.portBits k false 0).bit k 23 = false :=
    (Dev.bit_setFld_other _ _ _ (by decide) (by decide)).trans (Dev.bit_setBit_same _ _ _ _ (by decide))
  have h23 := hbits d (thrReg Reg.FPC_THR_STATE t)
  rw [Dev.setHold_none]
  unfold Dev.holding
  dsimp only
  rw [h23, if_neg Bool.false_ne_true]

theorem Dev.thrState_setHold_none (d : Dev) (t u : Nat) : (d.setHold t none).thrState u = d.thrState u := by
  rw [Dev.setHold_none]
  by_cases h : u = t
  · subst h
    unfold Dev.portBits Dev.thrState
    rw [Dev.fld_setFld_other _ _ _ (by decide) (by decide), Dev.fld_setBit_other _ _ _ (by decide) (by decide)]
  · exact Dev.thrState_congr (Dev.reg_portBits _ _ _ (by unfold thrReg Reg.FPC_THR_STATE; omega))

theorem Dev.thread_of_threads {d u : Dev} (h : u.fpc.threads = d.fpc.threads) (t : Nat) : u.thread t = d.thread t := by
  unfold Dev.thread
  rw [h]

theorem Dev.grantPort_keeps {d : Dev} {c h : Nat} (hnone : ∀ l, l < 64 → d.thrState (64 * c + l) ≠ 2) (n : Nat) :
    (d.grantPort c h n).rf = d.rf ∧ (d.grantPort c h n).fpc.threads = d.fpc.threads := by
  obtain ⟨noted, e⟩ := Dev.grantPort_nobody (h := h) hnone n
  rw [e]
  exact ⟨rfl, rfl⟩

theorem Dev.dropStaged_of_holding {d : Dev} {t h : Nat} (hold : d.holding t = some h) : d.dropStaged t =
    ((d.setThread t (fun th => { th with staged := [], stalled := none })).setHold t none).grantPort (t / 64) h 64 := by
  have hx : (d.setThread t (fun th => { th with staged := [], stalled := none })).holding t = some h :=
    (Dev.holding_congr (Dev.reg_setThread ..)).trans hold
  unfold Dev.dropStaged
  dsimp only
  split
  · next p hp => rw [Option.some.inj (hp.symm.trans hx)]
  · next hp => exact absurd (hx.symm.trans hp) (by simp)

/-- A thread that holds a port no one waits for gives it up with what it staged (R318). -/
theorem Dev.dropStaged_alone {d : Dev} {t h : Nat} (ht : t < 512) (hold : d.holding t = some h)
    (hnone : ∀ k, k < 512 → d.thrState k ≠ 2) :
    (d.dropStaged t).holding t = none ∧ ((d.dropStaged t).thread t).staged = [] := by
  rw [Dev.dropStaged_of_holding hold]
  generalize hx : d.setThread t (fun th => { th with staged := [], stalled := none }) = x
  have hstate : ∀ k, x.thrState k = d.thrState k := fun _ => by rw [← hx]; exact Dev.thrState_congr (Dev.reg_setThread ..)
  have hstaged : (x.thread t).staged = [] := by
    rw [← hx, Dev.thread_setThread]
  have hnobody : ∀ l, l < 64 → (x.setHold t none).thrState (64 * (t / 64) + l) ≠ 2 := fun l hl => by
    rw [Dev.thrState_setHold_none, hstate]
    exact hnone _ (by omega)
  have hfpc : (x.setHold t none).fpc = x.fpc := by rw [Dev.setHold_none, Dev.fpc_portBits]
  have hold' := x.holding_release t
  obtain ⟨hrf, hth⟩ := Dev.grantPort_keeps (h := h) hnobody 64
  exact ⟨(Dev.holding_congr (Dev.reg_congr hrf _)).trans hold', (congrArg Thread.staged ((Dev.thread_of_threads hth t).trans
    (Dev.thread_congr hfpc t))).trans hstaged⟩

/-! ## A port given up (R331) -/

/-- A halted thread's port released: the notice, and ABORT shown. -/
theorem exec_release_held {s : State} {t : Fin 512} {h : Nat} (hr : s.dev.running = true) (hold : s.dev.holding t.val = some h)
    (h5 : s.dev.thrState t.val = 5) (hnone : ∀ k, k < 512 → k ≠ t.val → s.dev.thrState k ≠ 2) :
    ∃ u, exec (.release t) s = .next u ∧ u.dev.holding t.val = none ∧ (u.dev.thread t.val).staged = [] ∧
      (u.dev.thread t.val).abort = true ∧ u.dev.bit (thrReg Reg.FPC_THR_DBG t.val) 3 = true := by
  obtain ⟨hfree, hempty⟩ := Dev.dropStaged_alone t.isLt hold (fun k hk => by
    by_cases e : k = t.val
    · rw [e, h5]; decide
    · exact hnone k hk e)
  have hrow : exec (.release t) s = .next { s with dev := (((((s.dev.dropStaged t.val).setThread t.val (fun th => { th with abort := true })).fpcEvt
      (t.val / 64) 2).writeNotice (t.val / 64) 4 (t.val % 64) 0 ((s.dev.thread t.val).staged.length * 256 + h) 0).showDbg t.val) } := by
    refine (act_run hr).trans ?_
    unfold Dev.thrRelease
    rw [hold]
    dsimp only
    rw [if_pos h5]
  generalize s.dev.dropStaged t.val = x at hrow hfree hempty
  have hthread : ((x.setThread t.val (fun th => { th with abort := true })).thread t.val) = { x.thread t.val with abort := true } :=
    Dev.thread_setThread ..
  have hport : (x.setThread t.val (fun th => { th with abort := true })).holding t.val = none :=
    (Dev.holding_congr (Dev.reg_setThread ..)).trans hfree
  generalize x.setThread t.val (fun th => { th with abort := true }) = y at hrow hthread hport
  obtain ⟨rf, n, e⟩ := (y.fpcEvt (t.val / 64) 2).writeNotice_rest (t.val / 64) 4 (t.val % 64) 0 ((s.dev.thread t.val).staged.length * 256 + h) 0
  have hstate := (y.fpcEvt (t.val / 64) 2).reg_writeNotice_thr (t.val / 64) 4 (t.val % 64) 0 ((s.dev.thread t.val).staged.length * 256 + h) 0
    offset_state (by decide) (by decide) t.isLt (by omega)
  have habove := offset_state.above t.val
  have hevt : (y.fpcEvt (t.val / 64) 2).reg (thrReg Reg.FPC_THR_STATE t.val) = y.reg (thrReg Reg.FPC_THR_STATE t.val) :=
    y.reg_fpcEvt 2 (by unfold Reg.FPC_CLc_EVT; omega)
  have hthreads : ((y.fpcEvt (t.val / 64) 2).writeNotice (t.val / 64) 4 (t.val % 64) 0 ((s.dev.thread t.val).staged.length * 256 + h) 0).fpc.threads =
      y.fpc.threads := by
    rw [e]
    rfl
  generalize (y.fpcEvt (t.val / 64) 2).writeNotice (t.val / 64) 4 (t.val % 64) 0 ((s.dev.thread t.val).staged.length * 256 + h) 0 = z at *
  obtain ⟨-, hz, hzport, -, hdbg⟩ := z.showDbg_shows t.val
  have hthr : z.thread t.val = { x.thread t.val with abort := true } := (Dev.thread_of_threads hthreads _).trans hthread
  refine ⟨_, hrow, hzport.trans ((Dev.holding_congr (hstate.trans hevt)).trans hport), ?_, ?_, hdbg.trans ?_⟩
  · exact (congrArg Thread.staged (hz.trans hthr)).trans hempty
  · exact congrArg Thread.abort (hz.trans hthr)
  · exact congrArg Thread.abort hthr

/-! ## Held ports and the all-wait detector (R318, R326) -/

/-- A hold of a port noted (R318). -/
def Dev.noteHold (d : Dev) (key : Nat) : Dev := { d with fpc := { d.fpc with heldNoted := key :: d.fpc.heldNoted } }

/-- The all-wait detector of a cluster has fired (R326). -/
def Dev.noteAllWait (d : Dev) (c : Nat) : Dev := { d with fpc := { d.fpc with allWaitFired := c :: d.fpc.allWaitFired } }

theorem act_same {f : Dev → Dev} {s : State} (h : f s.dev = s.dev) : act f s = .next s := by
  cases hr : s.dev.running with
  | true =>
    rw [act_run hr, h]
  | false => exact act_dead hr

section
variable {s : State} {c : Fin 8}

theorem exec_channelHoldTimeout_quiet {h : Fin 16} (hq : (s.dev.holder c.val h.val).isNone ∨ s.dev.fpc.heldNoted.contains (256 * c.val + h.val) = true) :
    exec (.channelHoldTimeout c h) s = .next s := by
  refine act_same ?_
  dsimp only
  rw [if_pos hq]

theorem exec_channelHoldTimeout_held {h : Fin 16} {who : Nat} (hr : s.dev.running = true) (hw : s.dev.holder c.val h.val = some who)
    (hn : s.dev.fpc.heldNoted.contains (256 * c.val + h.val) = false) :
    ∃ u, exec (.channelHoldTimeout c h) s = .next u ∧ u.dev.bit (Reg.FPC_CLc_EVT c.val) 2 = true ∧
      256 * c.val + h.val ∈ u.dev.fpc.heldNoted ∧ exec (.channelHoldTimeout c h) u = .next u := by
  have hrow : ∃ (x : Dev) (who n : Nat), exec (.channelHoldTimeout c h) s = .next { s with dev :=
      ((((x.noteHold (256 * c.val + h.val)).fpcCount c.val 2 n).fpcEvt c.val 2).writeNotice
        c.val 3 who 0 h.val 0) } := by
    have e : exec (.channelHoldTimeout c h) s = _ := act_run hr
    dsimp only at e
    rw [if_neg (by rw [hw, hn]; simp)] at e
    exact ⟨_, _, _, e⟩
  obtain ⟨x, who, n, hrow⟩ := hrow
  have hevt := ((x.noteHold (256 * c.val + h.val)).fpcCount c.val 2 n).bit_fpcEvt
    c.val (i := 2) (by decide)
  have hmem : 256 * c.val + h.val ∈ (((x.noteHold (256 * c.val + h.val)).fpcCount
      c.val 2 n).fpcEvt c.val 2).fpc.heldNoted := List.mem_cons_self
  generalize ((x.noteHold (256 * c.val + h.val)).fpcCount c.val 2 n).fpcEvt
    c.val 2 = y at *
  obtain ⟨rf, m, e⟩ := y.writeNotice_rest c.val 3 who 0 h.val 0
  have hmem' : 256 * c.val + h.val ∈ (y.writeNotice c.val 3 who 0 h.val 0).fpc.heldNoted := by
    rw [e]
    exact hmem
  refine ⟨_, hrow, y.bit_writeNotice_keep _ _ _ _ _ _ c.isLt (by decide) hevt, hmem', exec_channelHoldTimeout_quiet (Or.inr ?_)⟩
  exact List.elem_eq_true_of_mem hmem'

theorem exec_allWaitDetect_off (h : s.dev.bit (Reg.FPC_CLc_CTRL c.val) 0 = false) : exec (.allWaitDetect c) s = .next s := by
  refine act_same ?_
  dsimp only
  rw [h]
  rfl

theorem exec_allWaitDetect_all (hr : s.dev.running = true) (hon : s.dev.bit (Reg.FPC_CLc_CTRL c.val) 0 = true)
    (hfired : c.val ∉ s.dev.fpc.allWaitFired)
    (hall : ∀ l, 0 < l → l < 64 → s.dev.thrOn (64 * c.val + l) = true ∧ s.dev.internalWait (64 * c.val + l) = true) :
    ∃ u, exec (.allWaitDetect c) s = .next u ∧ u.dev.bit (Reg.FPC_CLc_EVT c.val) 3 = true ∧ c.val ∈ u.dev.fpc.allWaitFired := by
  have hmem {t : Nat} (ht : t ∈ (List.range 63).map (fun l => 64 * c.val + l + 1)) :
      s.dev.thrOn t = true ∧ s.dev.internalWait t = true := by
    obtain ⟨l, hl, rfl⟩ := List.mem_map.mp ht
    exact hall (l + 1) (by omega) (by have := List.mem_range.mp hl; omega)
  have hfilter : ((List.range 63).map (fun l => 64 * c.val + l + 1)).filter (fun t => s.dev.thrOn t) =
      (List.range 63).map (fun l => 64 * c.val + l + 1) := List.filter_eq_self.mpr fun t ht => (hmem ht).1
  have hwait : ((List.range 63).map (fun l => 64 * c.val + l + 1)).all (fun t => s.dev.internalWait t) = true :=
    List.all_eq_true.mpr fun t ht => (hmem ht).2
  have hempty : ((List.range 63).map (fun l => 64 * c.val + l + 1)).isEmpty = false := by simp
  have hcont : s.dev.fpc.allWaitFired.contains c.val = false := by simpa using hfired
  have hrow : ∃ x : Dev, exec (.allWaitDetect c) s = .next { s with dev :=
      ((x.fpcEvt c.val 3).noteAllWait c.val) } := by
    have e : exec (.allWaitDetect c) s = _ := act_run hr
    dsimp only at e
    rw [hfilter] at e
    generalize (List.range 63).map (fun l => 64 * c.val + l + 1) = ts at e hwait hempty
    rw [if_pos (by rw [hon, hempty, hwait, hcont]; rfl)] at e
    exact ⟨_, e⟩
  obtain ⟨x, hrow⟩ := hrow
  refine ⟨_, hrow, ?_, List.mem_cons_self⟩
  have hb := x.bit_fpcEvt c.val (i := 3) (by decide)
  generalize x.fpcEvt c.val 3 = y at hb
  exact (congrArg (Word.bit · 3) (Dev.reg_congr (d := y) (t := y.noteAllWait c.val) rfl _)).trans hb

end

/-! ## Takeover and tasting of a core (R332, R333) -/

/-- The spare takes a core's place, and goes to be tasted. -/
def Dev.swapCore (d : Dev) (c core sp : Nat) : Dev :=
  ((((d.setFld (Reg.FPC_CLc_CORES c) (4 * core) 4 sp).setFld (Reg.FPC_CLc_SPARE c) 4 4 0xF).setFld (Reg.FPC_CLc_SPARE c) 0 2 2).countFld
    (Reg.FPC_CLc_SPARE c) 8 8)

/-- The place of a core put to tasting (R332). -/
def Dev.taste (d : Dev) (c p : Nat) : Dev := { d with fpc := { d.fpc with tasting := Map.put d.fpc.tasting c p } }

theorem Dev.swapCore_shows (d : Dev) {c core sp : Nat} (hcore : core < 8) (hsp : sp < 16) :
    (d.swapCore c core sp).fld (Reg.FPC_CLc_CORES c) (4 * core) 4 = sp ∧ (d.swapCore c core sp).fld (Reg.FPC_CLc_SPARE c) 0 2 = 2 ∧
    (d.swapCore c core sp).fld (Reg.FPC_CLc_SPARE c) 4 4 = 0xF := by
  have hne : Reg.FPC_CLc_CORES c ≠ Reg.FPC_CLc_SPARE c := by unfold Reg.FPC_CLc_CORES Reg.FPC_CLc_SPARE; omega
  refine ⟨?_, ?_, ?_⟩
  · have hreg : (d.swapCore c core sp).reg (Reg.FPC_CLc_CORES c) = (d.setFld (Reg.FPC_CLc_CORES c) (4 * core) 4 sp).reg (Reg.FPC_CLc_CORES c) :=
      (Dev.reg_setFld_apart _ _ _ _ hne).trans ((Dev.reg_setFld_apart _ _ _ _ hne).trans (Dev.reg_setFld_apart _ _ _ _ hne))
    exact (congrArg (Word.fld · (4 * core) 4) hreg).trans ((Dev.fld_setFld_same _ _ _ _ _ (by omega)).trans (Nat.mod_eq_of_lt hsp))
  · exact (Dev.fld_setFld_other _ _ _ (by decide) (by decide)).trans (Dev.fld_setFld_same _ _ _ _ _ (by decide))
  · exact (Dev.fld_setFld_other _ _ _ (by decide) (by decide)).trans ((Dev.fld_setFld_other _ _ _ (by decide) (by decide)).trans
      (Dev.fld_setFld_same _ _ _ _ _ (by decide)))

/-- Faults among a core's threads leave the cluster's cores as they are. -/
theorem Dev.keepsCores_foldl_thrFault {c code : Nat} (hc : c < 8) (p : Dev → Nat → Bool) (ts : List Nat) (hts : ∀ t ∈ ts, t / 64 = c)
    (d : Dev) : Dev.KeepsCores c d (ts.foldl (fun d t => if p d t then d.thrFault t code else d) d) := by
  induction ts generalizing d with
  | nil => exact .refl c d
  | cons t ts ih =>
    have htc := hts t (by simp)
    refine .trans ?_ (ih (fun u hu => hts u (List.mem_cons_of_mem _ hu)) _)
    dsimp only
    split
    · rw [← htc]
      exact d.keepsCores_thrFault (by omega) code
    · exact .refl c d

theorem coreThreads_cluster {c core t : Nat} (hcore : core < 8) (h : t ∈ coreThreads c core) : t / 64 = c := by
  obtain ⟨i, hi, rfl⟩ := List.mem_map.mp h
  have := List.mem_range.mp hi
  omega

section
variable {s : State} {c : Fin 8}

theorem exec_coreTakeover_spare {core : Fin 8} {lost : BitVec 8} {sp old : Nat} (hr : s.dev.running = true)
    (hready : s.dev.fld (Reg.FPC_CLc_SPARE c.val) 0 2 = 0) (hsp : s.dev.fld (Reg.FPC_CLc_SPARE c.val) 4 4 = sp) (hspare : sp ≠ 0xF)
    (hold : s.dev.fld (Reg.FPC_CLc_CORES c.val) (4 * core.val) 4 = old) (hlive : old ≠ 0xF) :
    ∃ u, exec (.coreTakeover c core lost) s = .next u ∧ u.dev.fld (Reg.FPC_CLc_CORES c.val) (4 * core.val) 4 = sp ∧
      u.dev.fld (Reg.FPC_CLc_SPARE c.val) 0 2 = 2 ∧ u.dev.fld (Reg.FPC_CLc_SPARE c.val) 4 4 = 0xF ∧
      Map.get? u.dev.fpc.tasting c.val = some old ∧ u.dev.bit (Reg.FPC_CLc_EVT c.val) 4 = true := by
  have hrow : ∃ p : Dev → Nat → Bool, exec (.coreTakeover c core lost) s = .next { s with dev :=
      ((coreThreads c.val core.val).foldl (fun d t => if p d t then d.thrFault t 9 else d)
        (((((s.dev.swapCore c.val core.val sp).fpcCount c.val 7 1).fpcEvt c.val 4).writeNotice c.val 5 (8 * core.val) old 0 0).taste c.val old)) } := by
    have e : exec (.coreTakeover c core lost) s = _ := act_run hr
    unfold Dev.coreTakeover at e
    dsimp only at e
    rw [hold, hsp, if_neg hlive, if_pos ⟨hready, hspare⟩] at e
    exact ⟨fun _ t => lost.toNat.testBit (t % 8) && decide (s.dev.thrState t ≠ 0 ∧ s.dev.thrState t ≠ 6), e⟩
  obtain ⟨p, hrow⟩ := hrow
  obtain ⟨hcores, hstate, hplace⟩ := s.dev.swapCore_shows (c := c.val) core.isLt (sp := sp) (by rw [← hsp]; exact Word.fld_lt _ 4 4)
  have hcount : Dev.KeepsCores c.val (s.dev.swapCore c.val core.val sp) ((s.dev.swapCore c.val core.val sp).fpcCount c.val 7 1) :=
    Dev.keepsCores_of_reg rfl fun k hk => Dev.reg_fpcCount _ _ (by have := mem_coreRegs hk; unfold Reg.FPC_CLc_COUNTS; omega)
  have hevt := ((s.dev.swapCore c.val core.val sp).fpcCount c.val 7 1).bit_fpcEvt c.val (i := 4) (by decide)
  have hkeep := hcount.trans (Dev.keepsCores_fpcEvt _ c.val 4)
  generalize ((s.dev.swapCore c.val core.val sp).fpcCount c.val 7 1).fpcEvt c.val 4 = x at hrow hevt hkeep
  have hnotice := x.keepsCores_writeNotice c.isLt 5 (8 * core.val) old 0 0
  have hevt' := x.bit_writeNotice_keep c.val 5 (8 * core.val) old 0 0 c.isLt (by decide) hevt
  generalize x.writeNotice c.val 5 (8 * core.val) old 0 0 = y at hrow hnotice hevt'
  obtain ⟨hc', hs', ht', he'⟩ := Dev.keepsCores_foldl_thrFault (code := 9) c.isLt p (coreThreads c.val core.val)
    (fun t => coreThreads_cluster core.isLt) (y.taste c.val old)
  refine ⟨_, hrow, ?_, ?_, ?_, ?_, he' 4 (by decide) hevt'⟩
  · exact (congrArg (Word.fld · (4 * core.val) 4) (hc'.trans (hnotice.1.trans hkeep.1))).trans hcores
  · exact (congrArg (Word.fld · 0 2) (hs'.trans (hnotice.2.1.trans hkeep.2.1))).trans hstate
  · exact (congrArg (Word.fld · 4 4) (hs'.trans (hnotice.2.1.trans hkeep.2.1))).trans hplace
  · exact (congrArg (Map.get? · c.val) ht').trans (Map.get?_put_same ..)

theorem exec_coreTastingDone_none {pass : Bool} (h : Map.get? s.dev.fpc.tasting c.val = none) : exec (.coreTastingDone c pass) s = .next s := by
  refine act_same ?_
  dsimp only
  rw [h]

theorem exec_coreTastingDone_pass {p : Nat} (hr : s.dev.running = true) (h : Map.get? s.dev.fpc.tasting c.val = some p) (hp : p < 16) :
    ∃ u, exec (.coreTastingDone c true) s = .next u ∧ u.dev.fld (Reg.FPC_CLc_SPARE c.val) 0 2 = 0 ∧
      u.dev.fld (Reg.FPC_CLc_SPARE c.val) 4 4 = p := by
  have e : exec (.coreTastingDone c true) s = _ := act_run hr
  dsimp only at e
  rw [h] at e
  refine ⟨_, e, Dev.fld_setFld_same _ _ _ _ _ (by decide), ?_⟩
  exact (Dev.fld_setFld_other _ _ _ (by decide) (by decide)).trans ((Dev.fld_setFld_same _ _ _ _ _ (by decide)).trans (Nat.mod_eq_of_lt hp))

theorem exec_coreTastingDone_fail {p : Nat} (hr : s.dev.running = true) (h : Map.get? s.dev.fpc.tasting c.val = some p) :
    ∃ u, exec (.coreTastingDone c false) s = .next u ∧ u.dev.fld (Reg.FPC_CLc_SPARE c.val) 0 2 = 3 := by
  have e : exec (.coreTastingDone c false) s = _ := act_run hr
  dsimp only at e
  rw [h] at e
  exact ⟨_, e, Dev.fld_setFld_same _ _ _ _ _ (by decide)⟩

end

/-- Settles O34: each instruction's row, each wake-up, stop and restart, and the takeover of a core. -/
theorem threadsRunWakeAndStop : Obligations.ThreadsRunWakeAndStop := by
  unfold Obligations.ThreadsRunWakeAndStop
  refine ⟨fun s t hr => ⟨fun h1 => instructions_not_running hr h1, fun h1 => ⟨fun pc hpc => exec_instructionIssue_next hr h1 hpc,
    fun code => exec_instructionIssue_fault hr h1 code, fun mask => exec_eventWait_pending hr h1 mask, fun mask => exec_eventWait_waits hr h1 mask,
    fun b => exec_eventClear_bits hr h1 b, exec_threadExit_on hr h1, exec_threadExit_off hr h1, fun n i => exec_chargeSliceSet_some hr h1 n i,
    fun h w => exec_channelPut_free hr h1 h w, fun h w => exec_channelPut_bad hr h1 h w⟩⟩, fun s t hr => ?_⟩
  refine ⟨exec_threadWakeUp_wakes hr, exec_threadWakeUp_not hr, exec_threadAdmit_not hr, fun x => exec_threadAdmit_runs hr,
    fun f fs => exec_angleWake_notWaiting hr, fun i => ⟨exec_threadTimerExpiry_none hr, exec_threadTimerExpiry_posts hr⟩,
    fun v => exec_fpcThrResetWrite_zero hr, fun v => exec_fpcThrResetWrite_one hr, exec_halt_running hr, exec_resume_not hr, exec_resume_running hr,
    exec_release_none hr, fun h => exec_release_held hr, fun c h hn => exec_channelHoldTimeout_quiet (Or.inl (by rw [hn]; rfl)),
    fun c h who => exec_channelHoldTimeout_held hr, fun c => exec_allWaitDetect_off, fun c => exec_allWaitDetect_all hr,
    fun c core lost sp old => exec_coreTakeover_spare hr, fun c pass => exec_coreTastingDone_none,
    fun c p ht hp => ⟨exec_coreTastingDone_pass hr ht hp, exec_coreTastingDone_fail hr ht⟩⟩

end Sys2Proof.Machine
end


section
/-! DEFINITION. The cipher stage and the inbound channels (O36). -/

namespace Sys2Proof.Machine

/-! ## An empty stage (R336, R339) -/

theorem Dev.inEngine_empty {d : Dev} (h : d.cry.msgs = []) (e : Nat) : d.inEngine e = none := by
  unfold Dev.inEngine
  rw [h]
  rfl

theorem Dev.nextFor_empty {d : Dev} (h : d.cry.msgs = []) (e : Nat) : d.nextFor e = none := by
  unfold Dev.nextFor
  rw [h]
  rfl

theorem Dev.engineTake_idle {d : Dev} {e : Nat} (h : d.nextFor e = none) : d.engineTake e = d := by
  unfold Dev.engineTake
  rw [h]
  exact ite_self d

theorem Dev.victim_none {d : Dev} (h : ∀ e, d.inEngine e = none) : d.victim = none := by
  simp [Dev.victim, h]

/-- Without an engine in service a message waits in the stage (R339). -/
theorem Dev.cipherArrive_waits {d : Dev} (hm : d.cry.msgs = []) (he : ∀ e, e < 12 → d.engineOn e = false) (w : CWork)
    (level source blocks : Nat) (owner : Option Nat) : d.cipherArrive w level source blocks owner = { d with cry := { d.cry with
      nextMsg := d.cry.nextMsg + 1
      msgs := [(d.cry.nextMsg, ⟨w, level, source, Nat.max 1 blocks, 0, .waiting, .none, owner, 0⟩)] } } := by
  unfold Dev.cipherArrive
  rw [hm]
  extract_lets i cry x
  have hoff : (List.range 12).find? (fun e => x.engineOn e && (x.inEngine e).isNone) = none := by
    rw [List.find?_eq_none]
    intro e hmem
    have h0 : x.engineOn e = false := he e (List.mem_range.mp hmem)
    simp [h0]
  have hvictim : x.victim = none := by
    refine Dev.victim_none fun e => ?_
    unfold Dev.inEngine
    simp [x, Map.put, Map.findKey?]
  have hx : x = { d with cry := { d.cry with nextMsg := d.cry.nextMsg + 1, msgs :=
      [(d.cry.nextMsg, ⟨w, level, source, Nat.max 1 blocks, 0, .waiting, .none, owner, 0⟩)] } } := rfl
  rw [hoff, ← hx]
  clear_value x
  dsimp only
  rw [hvictim]
  exact ite_self x

/-! ## Requests on channel CIPHER (R352) -/

section
variable {s : State} {t : Fin 512}

/-- What the stage does with the one request a thread has open. -/
theorem Dev.cipherRequest_one {d : Dev} {t op : Nat} {r : AccReq} (hr : (d.thread t).reqs = [r]) (hc : r.chan = 4)
    (ho : Word.fld (wordAt r.words 0) 24 8 = op) (ha : r.answer = none) (hm : d.cry.msgs = []) : d.cipherRequest t op =
      if (4 ≤ op ∧ Word.fld (wordAt r.words 3) 0 16 % 16 ≠ 0) ∨ 16384 < Word.fld (wordAt r.words 3) 0 16 ∨
          (op < 3 ∧ Word.fld (wordAt r.words 3) 0 16 < Word.fld (wordAt r.words 3) 16 16) ∨
          (d.reqBytes t r (if op = 2 then 16 else 0)).isNone = true then d.answerReq t r.tag 0x13 []
      else if d.reqForeign t (wordAt r.words 1) then d.answerReq t r.tag 0x11 []
      else d.cipherArrive (.request t r.tag op) (d.thrClass t) (0x400000 + d.cry.nextMsg)
        (if op < 3 then blocksOf (Word.fld (wordAt r.words 3) 16 16) (Word.fld (wordAt r.words 3) 0 16 - Word.fld (wordAt r.words 3) 16 16)
          else blocksOf 0 (Word.fld (wordAt r.words 3) 0 16)) (d.thrOwner t) := by
  have hfind : ([r].find? (fun r => decide (r.chan = 4 ∧ Word.fld (wordAt r.words 0) 24 8 = op) && r.answer.isNone &&
      !([] : Map CMsg).any (fun m => decide (m.2.work = .request t r.tag op)))) = some r := by
    simp [hc, ho, ha]
  unfold Dev.cipherRequest
  rw [hr, hm, hfind]

theorem exec_cipherRequest (hr : s.dev.running = true) {i : Instr} {op : Nat}
    (h : (i, op) ∈ [(Instr.seal t, 1), (Instr.cipherOpen t, 2), (Instr.ctr t, 3), (Instr.xtsEnc t, 4), (Instr.xtsDec t, 5)]) :
    exec i s = .next { s with dev := s.dev.cipherRequest t.val op } := by
  simp only [List.mem_cons, List.not_mem_nil, or_false, Prod.mk.injEq] at h
  obtain ⟨rfl, rfl⟩ | ⟨rfl, rfl⟩ | ⟨rfl, rfl⟩ | ⟨rfl, rfl⟩ | ⟨rfl, rfl⟩ := h <;> exact act_run hr

end

/-- A request of 64 bytes whose bytes are there passes the length checks. -/
theorem lengthOk_of_64 {op n a : Nat} {o : Option (List Byte)} (hn : n = 64) (ha : a ≤ 64) (ho : o.isSome = true) :
    ¬ ((4 ≤ op ∧ n % 16 ≠ 0) ∨ 16384 < n ∨ (op < 3 ∧ n < a) ∨ o.isNone = true) := by
  cases o with
  | none => exact absurd ho (by simp)
  | some bs => simp only [Option.isNone_some, Bool.false_eq_true, or_false]; omega

/-! ## Inbound channels (R319 to R321) -/

theorem Dev.frame?_congr {d u : Dev} (h : u.prs = d.prs) (id : Nat) : u.frame? id = d.frame? id := by
  unfold Dev.frame?
  rw [h]

theorem Dev.prs_setFld (d : Dev) (k lo n v : Nat) : (d.setFld k lo n v).prs = d.prs := rfl

theorem Dev.prs_count (d : Dev) (k n : Nat) : (d.count k n).prs = d.prs := rfl

theorem Dev.prs_fpcEvt (d : Dev) (c i : Nat) : (d.fpcEvt c i).prs = d.prs := rfl

theorem Dev.reg_countFld_apart (d : Dev) {k j : Nat} (lo n : Nat) (h : j ≠ k) : (d.countFld k lo n).reg j = d.reg j :=
  Dev.reg_setFld_apart _ _ _ _ h

/-- A frame dropped at a channel is gone, and the drop is shown (R320). -/
theorem Dev.inboundDrop_frame {d : Dev} {id : Nat} {f : Frame} (hf : d.frame? id = some f) (c h : Nat) (ws : List Word) (hh : 16 ≤ h) :
    (d.inboundDrop c h ⟨ws, some id⟩).frame? id = none ∧ (d.inboundDrop c h ⟨ws, some id⟩).bit (Reg.FPC_CLc_EVT c) 1 = true := by
  have hfree (x : Dev) : (x.freeFrame id).frame? id = none := x.frame?_freeFrame id
  have hne : Reg.FPC_CLc_EVT c ≠ Reg.FPC_CHh_STATUS c h := by unfold Reg.FPC_CLc_EVT Reg.FPC_CHh_STATUS; omega
  unfold Dev.inboundDrop
  dsimp only
  rw [hf, if_neg (by omega)]
  dsimp only
  generalize (if 1 ≤ Word.fld (wordAt ws 0) 28 4 ∧ Word.fld (wordAt ws 0) 28 4 ≤ 3 then d.prsCount f 9 else d) = x
  have hy : (if Word.fld (wordAt ws 0) 28 4 = 4 then (x.freeFrame id).count (Reg.PBU_COUNTS 23) 1 else x.freeFrame id).frame? id = none := by
    split
    · exact (Dev.frame?_congr (Dev.prs_count _ _ _) id).trans (hfree x)
    · exact hfree x
  generalize (if Word.fld (wordAt ws 0) 28 4 = 4 then (x.freeFrame id).count (Reg.PBU_COUNTS 23) 1 else x.freeFrame id) = y at hy
  have hevt := (y.fpcCount c 4 1).bit_fpcEvt c (i := 1) (by decide)
  have hz : ((y.fpcCount c 4 1).fpcEvt c 1).frame? id = none := by
    rw [Dev.frame?_congr (Dev.prs_fpcEvt _ _ _)]
    exact (Dev.frame?_congr (Dev.prs_count _ _ _) id).trans hy
  generalize (y.fpcCount c 4 1).fpcEvt c 1 = z at hevt hz
  exact ⟨(Dev.frame?_congr (Dev.prs_setFld _ _ _ _ _) id).trans hz, (congrArg (Word.bit · 1) (z.reg_countFld_apart 16 16 hne)).trans hevt⟩

theorem Dev.fpc_dmWords (ws : List Word) (d : Dev) (c a : Nat) : (d.dmWords c a ws).fpc = d.fpc ∧ (d.dmWords c a ws).prs = d.prs := by
  obtain ⟨rf, e⟩ := Dev.dmWords_rest ws d c a
  rw [e]
  exact ⟨rfl, rfl⟩

theorem Dev.prs_postEvents (d : Dev) (t bits : Nat) : (d.postEvents t bits).prs = d.prs := by
  unfold Dev.postEvents
  dsimp only
  exact Dev.setReg_prs _ _ _

theorem Dev.chanQueue_congr {d u : Dev} (h : u.fpc.queues = d.fpc.queues) (c p : Nat) : u.chanQueue c p = d.chanQueue c p := by
  unfold Dev.chanQueue
  rw [h]

theorem Dev.chanQueue_setChanQueue (d : Dev) (c h : Nat) (l : List InMsg) : (d.setChanQueue c h l).chanQueue c h = l := by
  unfold Dev.setChanQueue
  rw [Dev.chanQueue_congr (congrArg Fpc.queues (Dev.fpc_setFld _ _ _ _ _))]
  exact (Map.getD_putD _ _ _ _ _).trans (if_pos rfl)

/-- A message that reaches an empty queue of a channel that is on is queued alone, its frame with it (R320). -/
theorem Dev.inboundArrive_queued {d : Dev} {id : Nat} {f : Frame} (hf : d.frame? id = some f) {c h : Nat} (hh : 16 ≤ h)
    (hon : d.bit (Reg.FPC_CHh_CFG c h) 31 = true) (hq : d.chanQueue c h = []) (ws : List Word) :
    ∃ (x : InMsg) (y : Frame), (d.inboundArrive c h ⟨ws, some id⟩).frame? id = some y ∧ y.place = .inbound c h ∧
      (d.inboundArrive c h ⟨ws, some id⟩).chanQueue c h = [x] ∧ x.frame = some id := by
  have hroom : ¬ (h < 16 ∨ Word.bit (d.reg (Reg.FPC_CHh_CFG c h)) 31 = false ∨
      2 ^ Word.fld (d.reg (Reg.FPC_CHh_CFG c h)) 26 4 ≤ ([] : List InMsg).length) := by
    rintro (h' | h' | h')
    · omega
    · exact absurd (h'.symm.trans hon) (by decide)
    · exact absurd h' (by simp)
  unfold Dev.inboundArrive
  extract_lets cfg q n ws' a b e u v src
  have hqe : q = [] := hq
  have hcfg : d.reg (Reg.FPC_CHh_CFG c h) = cfg := rfl
  rw [hqe, ← hcfg, if_neg hroom]
  have hb : b.prs = d.prs := rfl
  have he : e.frame? id = some f := (Dev.frame?_congr ((Dev.fpc_dmWords ws' b c _).2.trans hb) id).trans hf
  clear_value e
  have hu : u = e.moveFrame id f (.inbound c h) := by
    unfold u
    dsimp only
    rw [he]
  clear_value u
  have hframe : v.frame? id = some { f with place := .inbound c h } := by
    unfold v Dev.setChanQueue
    rw [Dev.frame?_congr (Dev.prs_setFld _ _ _ _ _), hu]
    exact e.frame?_moveFrame id f (.inbound c h)
  have hqueue : v.chanQueue c h = [⟨ws', some id⟩] := by
    unfold v
    rw [hqe, Dev.chanQueue_setChanQueue]
    rfl
  have hsrc : v.fpc = src := rfl
  clear_value v
  refine ⟨⟨ws', some id⟩, { f with place := .inbound c h }, ?_, rfl, ?_, rfl⟩
  · split
    · refine Eq.trans (Dev.frame?_congr (d := v) ?_ id) hframe
      exact Dev.prs_postEvents _ _ _
    · exact hframe
  · split
    · refine Eq.trans (Dev.chanQueue_congr (d := v) ?_ c h) hqueue
      exact (congrArg Fpc.queues (Dev.fpc_postEvents _ _ _)).trans (show src.queues = v.fpc.queues by rw [hsrc])
    · exact hqueue

theorem Dev.when_cases (d : Dev) (b : Bool) (f : Dev → Dev) : d.when b f = d ∨ d.when b f = f d := by
  cases b
  · exact Or.inl rfl
  · exact Or.inr rfl

/-- A drop of a process-bus message counted leaves frames, queues and the clusters' events. -/
theorem Dev.whenCount_keeps (d : Dev) (b : Bool) : (d.when b (fun d => d.count (Reg.PBU_COUNTS 23) 1)).prs = d.prs ∧
    (d.when b (fun d => d.count (Reg.PBU_COUNTS 23) 1)).fpc = d.fpc ∧
    ∀ c, (d.when b (fun d => d.count (Reg.PBU_COUNTS 23) 1)).reg (Reg.FPC_CLc_EVT c) = d.reg (Reg.FPC_CLc_EVT c) := by
  obtain e | e := d.when_cases b (fun d => d.count (Reg.PBU_COUNTS 23) 1)
  · rw [e]
    exact ⟨rfl, rfl, fun _ => rfl⟩
  · rw [e]
    refine ⟨rfl, rfl, fun c => Dev.reg_count_apart _ _ ?_⟩
    unfold Reg.FPC_CLc_EVT Reg.PBU_COUNTS
    omega

section
variable {s : State} {t : Fin 512}

theorem exec_inboundEnqueue_frame (hr : s.dev.running = true) {f c h : Nat} {g : Frame} (hf : s.dev.frame? f = some g)
    (hp : g.place = .toChannel c h) : ∃ b, exec (.inboundEnqueue (some f)) s = .next { s with dev :=
      ((s.dev.inboundArrive c h ⟨g.message, some f⟩).when b (fun d => d.count (Reg.PBU_COUNTS 23) 1)) } := by
  have e : exec (.inboundEnqueue (some f)) s = _ := act_run hr
  dsimp only at e
  rw [hf] at e
  dsimp only at e
  rw [hp] at e
  exact ⟨_, e⟩

theorem exec_inboundEnqueue_off (hr : s.dev.running = true) {f c h : Nat} {g : Frame} (hf : s.dev.frame? f = some g)
    (hp : g.place = .toChannel c h) (hh : 16 ≤ h) (hoff : s.dev.bit (Reg.FPC_CHh_CFG c h) 31 = false) :
    ∃ u, exec (.inboundEnqueue (some f)) s = .next u ∧ u.dev.frame? f = none ∧ u.dev.bit (Reg.FPC_CLc_EVT c) 1 = true := by
  obtain ⟨b, hrow⟩ := exec_inboundEnqueue_frame hr hf hp
  have hdrop : s.dev.inboundArrive c h ⟨g.message, some f⟩ = s.dev.inboundDrop c h ⟨g.message, some f⟩ :=
    if_pos (Or.inr (Or.inl hoff))
  obtain ⟨hnone, hevt⟩ := Dev.inboundDrop_frame hf c h g.message hh
  rw [hdrop] at hrow
  obtain ⟨hprs, -, hreg⟩ := (s.dev.inboundDrop c h ⟨g.message, some f⟩).whenCount_keeps b
  exact ⟨_, hrow, (Dev.frame?_congr hprs f).trans hnone, (congrArg (Word.bit · 1) (hreg c)).trans hevt⟩

theorem exec_inboundEnqueue_on (hr : s.dev.running = true) {f c h : Nat} {g : Frame} (hf : s.dev.frame? f = some g)
    (hp : g.place = .toChannel c h) (hh : 16 ≤ h) (hon : s.dev.bit (Reg.FPC_CHh_CFG c h) 31 = true) (hq : s.dev.chanQueue c h = []) :
    ∃ u x y, exec (.inboundEnqueue (some f)) s = .next u ∧ u.dev.frame? f = some y ∧ y.place = .inbound c h ∧
      u.dev.chanQueue c h = [x] ∧ x.frame = some f := by
  obtain ⟨b, hrow⟩ := exec_inboundEnqueue_frame hr hf hp
  obtain ⟨x, y, hy, hplace, hx, hxf⟩ := Dev.inboundArrive_queued hf hh hon hq g.message
  obtain ⟨hprs, hfpc, -⟩ := (s.dev.inboundArrive c h ⟨g.message, some f⟩).whenCount_keeps b
  exact ⟨_, x, y, hrow, (Dev.frame?_congr hprs f).trans hy, hplace, (Dev.chanQueue_congr (congrArg Fpc.queues hfpc) c h).trans hx, hxf⟩

theorem Dev.queues_setThread (d : Dev) (t : Nat) (f : Thread → Thread) : (d.setThread t f).fpc.queues = d.fpc.queues := rfl

theorem Dev.rf_setThread (d : Dev) (t : Nat) (f : Thread → Thread) : (d.setThread t f).rf = d.rf := rfl

/-- A take of an empty queue is EMPTY (R321). -/
theorem Dev.inboundTake_empty {d : Dev} {t h : Nat} (hq : d.chanQueue (t / 64) h = []) :
    ∃ x : Dev, x.rf = (d.slot t).rf ∧ d.inboundTake t h = x.setThread t (fun th => { th with cond := 3 }) := by
  unfold Dev.inboundTake
  extract_lets c x
  have hx : x.chanQueue c h = [] := (Dev.chanQueue_congr (Dev.queues_setThread ..) c h).trans
    ((Dev.chanQueue_congr (congrArg Fpc.queues (d.fpc_slot t)) c h).trans hq)
  have hrf : x.rf = (d.slot t).rf := Dev.rf_setThread ..
  clear_value x
  split
  · exact ⟨x, hrf, rfl⟩
  · next hm => exact absurd (hx.symm.trans hm) (by simp)

/-- A take of a message without a frame takes it off the queue; what it is charged to is in a register (R314, R321). -/
theorem Dev.inboundTake_message {d : Dev} {t h : Nat} {ws : List Word} {rest : List InMsg} (hq : d.chanQueue (t / 64) h = ⟨ws, none⟩ :: rest) :
    (d.inboundTake t h).chanQueue (t / 64) h = rest ∧ ((d.inboundTake t h).thread t).cond = 0 := by
  unfold Dev.inboundTake
  extract_lets c x
  have hx : x.chanQueue c h = ⟨ws, none⟩ :: rest := (Dev.chanQueue_congr (Dev.queues_setThread ..) c h).trans
    ((Dev.chanQueue_congr (congrArg Fpc.queues (d.fpc_slot t)) c h).trans hq)
  have hcond : (x.thread t).cond = 0 := congrArg Thread.cond (Dev.thread_setThread ..)
  clear_value x
  split
  · next hm => exact absurd (hx.symm.trans hm) (by simp)
  next m r hm =>
  obtain ⟨rfl, rfl⟩ := List.cons.inj (hx.symm.trans hm)
  extract_lets charge
  have hcharge (y : Dev) : (charge y).fpc = y.fpc := by
    unfold charge
    split
    · exact Dev.setReg_fpc _ _ _
    · rfl
  clear_value charge
  have hthreads : (x.setChanQueue c h rest).thread t = x.thread t := by
    refine Dev.thread_of_threads ?_ t
    unfold Dev.setChanQueue
    rw [Dev.fpc_setFld]
  exact ⟨(Dev.chanQueue_congr (congrArg Fpc.queues (hcharge _)) c h).trans (x.chanQueue_setChanQueue c h rest),
    (congrArg Thread.cond ((Dev.thread_congr (hcharge _) t).trans hthreads)).trans hcond⟩

theorem exec_inboundTake (hr : s.dev.running = true) (h : Fin 256) (h1 : s.dev.thrState t.val = 1) :
    exec (.inboundTake t h) s = .next { s with dev := s.dev.inboundTake t.val h.val } :=
  (act_run hr).trans (congrArg (fun x => Host.Outcome.next { s with dev := x }) (if_pos h1))

theorem exec_inboundTake_empty (hr : s.dev.running = true) (h : Fin 256) (h1 : s.dev.thrState t.val = 1)
    (hq : s.dev.chanQueue (t.val / 64) h.val = []) : ∃ u, exec (.inboundTake t h) s = .next u ∧
      (u.dev.thread t.val).cond = 3 ∧ u.dev.pc t.val = (s.dev.pc t.val + 1) % 32768 := by
  obtain ⟨x, hx, e⟩ := Dev.inboundTake_empty hq
  refine ⟨_, exec_inboundTake hr h h1, ?_, ?_⟩
  · rw [e]
    exact congrArg Thread.cond (Dev.thread_setThread ..)
  · rw [e]
    exact (Dev.pc_congr (Dev.reg_setThread ..)).trans ((Dev.pc_congr (Dev.reg_congr hx _)).trans (Dev.pc_setPc ..))

theorem exec_inboundTake_message (hr : s.dev.running = true) (h : Fin 256) {ws : List Word} {rest : List InMsg} (h1 : s.dev.thrState t.val = 1)
    (hq : s.dev.chanQueue (t.val / 64) h.val = ⟨ws, none⟩ :: rest) : ∃ u, exec (.inboundTake t h) s = .next u ∧
      u.dev.chanQueue (t.val / 64) h.val = rest ∧ (u.dev.thread t.val).cond = 0 :=
  ⟨_, exec_inboundTake hr h h1, Dev.inboundTake_message hq⟩

end

/-! ## What a request's end leaves (R352) -/

theorem Dev.cry_setDmByte (d : Dev) (c a : Nat) (b : Byte) : (d.setDmByte c a b).cry = d.cry := Dev.setReg_cry _ _ _

theorem Dev.cry_winWrite (d : Dev) (t a : Nat) (bs : List Byte) : ((d.winWrite t a bs).getD d).cry = d.cry := by
  have hfold (ps : List (Nat × Byte)) (x : Dev) :
      (ps.foldl (fun d p => d.setDmByte (t / 64) (d.winAddr t a + p.1) p.2) x).cry = x.cry := by
    induction ps generalizing x with
    | nil => rfl
    | cons p ps ih => exact (ih _).trans (x.cry_setDmByte _ _ _)
  unfold Dev.winWrite
  split
  · exact hfold _ d
  · rfl

theorem Dev.cry_answerReq (d : Dev) (t tag st : Nat) (bs : List Byte) : (d.answerReq t tag st bs).cry = d.cry := rfl

theorem Dev.cry_reqWrite (d : Dev) (t : Nat) (r : AccReq) (bs : List Byte) : (d.reqWrite t r bs).cry = d.cry := by
  unfold Dev.reqWrite
  dsimp only
  split
  · exact d.cry_winWrite t _ bs
  · split
    · split <;> rfl
    · rfl

theorem Dev.cry_requestDone (d : Dev) (t tag op : Nat) (key : List Byte) (gmac : Bool) : (d.requestDone t tag op key gmac).cry = d.cry := by
  have hwrite (r : AccReq) (bs : List Byte) (st : Nat) (out : List Byte) : ((d.reqWrite t r bs).answerReq t tag st out).cry = d.cry :=
    (Dev.cry_answerReq _ _ _ _ _).trans (d.cry_reqWrite t r bs)
  unfold Dev.requestDone
  split
  · rfl
  dsimp only
  split
  · rfl
  split
  · exact hwrite ..
  · split
    · exact hwrite ..
    · rfl
  · exact hwrite ..
  · exact hwrite ..
  · exact hwrite ..

theorem Dev.msgs_setSa (d : Dev) (i : Nat) (f : SecAssoc → SecAssoc) : (d.setSa i f).cry.msgs = d.cry.msgs := by
  unfold Dev.setSa
  split <;> rfl

/-- The end of a request's message touches no message of the stage. -/
theorem Dev.msgs_requestEffect (d : Dev) {m : CMsg} {t tag op : Nat} (hw : m.work = .request t tag op) (how : Nat) :
    (d.msgEffect m how).cry.msgs = d.cry.msgs := by
  have hdone (key : List Byte) (gmac : Bool) : (d.requestDone t tag op key gmac).cry.msgs = d.cry.msgs :=
    congrArg Cry.msgs (d.cry_requestDone t tag op key gmac)
  unfold Dev.msgEffect
  rw [hw]
  dsimp only
  split
  · exact hdone ..
  · exact (Dev.msgs_setSa _ _ _).trans (hdone ..)
  · rfl
  · rfl

/-! ## Messages leave the stage (R336) -/

/-- A slot is shown in its two registers. -/
theorem Dev.showSlot_shape (d : Dev) (i : Nat) : ∃ v p, d.showSlot i = (d.setN (Reg.CRY_SLOTs i) v).set64 (Reg.CRY_SLOT_PNs i 0) p := by
  unfold Dev.showSlot
  dsimp only
  split
  · exact ⟨_, _, rfl⟩
  · exact ⟨_, _, rfl⟩

theorem Dev.cry_set64 (d : Dev) (k v : Nat) : (d.set64 k v).cry = d.cry := rfl

theorem Dev.cry_showSlot (d : Dev) (i : Nat) : (d.showSlot i).cry = d.cry := by
  obtain ⟨v, p, e⟩ := d.showSlot_shape i
  rw [e, Dev.cry_set64]
  exact Dev.setReg_cry _ _ _

theorem Dev.msgs_dropMsg (d : Dev) (i : Nat) (m : CMsg) : (d.dropMsg i m).cry.msgs = Map.del d.cry.msgs i := by
  unfold Dev.dropMsg
  dsimp only
  split
  · exact congrArg Cry.msgs (Dev.cry_showSlot _ _)
  · rfl

/-- The one message of the stage, a request's, leaves it when it is finished. -/
theorem Dev.msgs_finishMsg_one {d : Dev} {i : Nat} {m : CMsg} {t tag op : Nat} (hm : d.cry.msgs = [(i, m)]) (hw : m.work = .request t tag op)
    (how : Nat) : (d.finishMsg i how).cry.msgs = [] := by
  have hget : Map.get? d.cry.msgs i = some m := by
    rw [hm]
    exact if_pos rfl
  have hset : (d.setMsg i (fun m => { m with place := .finished how })).cry.msgs = [(i, { m with place := .finished how })] := by
    unfold Dev.setMsg
    rw [hget]
    dsimp only
    rw [hm]
    simp [Map.put]
  have hsift : Map.sift [(i, { m with place := CPlace.finished how })] (fun _ x => decide (x.source = m.source)) =
      [(i, { m with place := CPlace.finished how })] := by
    simp [Map.sift]
  unfold Dev.finishMsg
  rw [hget]
  generalize d.setMsg i (fun m => { m with place := .finished how }) = x at hset
  dsimp only
  unfold Dev.flushSource
  rw [hset, hsift]
  dsimp only [List.takeWhile, List.foldl]
  rw [Dev.msgs_dropMsg, Dev.msgs_requestEffect _ (m := { m with place := CPlace.finished how }) hw, hset]
  simp [Map.del]

/-! ## The rows of the stage and its engines (R338 to R341, R356, R357) -/

section
variable {s : State} {e : Fin 12}

theorem exec_cipherMessageArrive_none {f : Nat} (hf : s.dev.frame? f = none) : exec (.cipherMessageArrive f) s = .next s := by
  refine act_same ?_
  unfold Dev.frameArrive
  rw [hf]

theorem exec_cipherMessageArrive_verify (hr : s.dev.running = true) {f y : Nat} {g : Frame} (hf : s.dev.frame? f = some g) (hp : g.place = .verify y)
    (hm : s.dev.cry.msgs = []) (hoff : ∀ x, x < 12 → s.dev.engineOn x = false) :
    ∃ u x, exec (.cipherMessageArrive f) s = .next u ∧ u.dev.cry.msgs = [(s.dev.cry.nextMsg, x)] ∧ x.work = .verify f y ∧
      x.place = .waiting ∧ x.level = 0 ∧ u.dev.rf = s.dev.rf := by
  have hidle : s.dev.ciphering f = false := by
    unfold Dev.ciphering
    rw [hm]
    rfl
  have hrow : ∃ n, exec (.cipherMessageArrive f) s = .next { s with dev := s.dev.cipherArrive (.verify f y) 0 (0x300000 + y) n none } := by
    have e : exec (.cipherMessageArrive f) s = _ := act_run hr
    unfold Dev.frameArrive at e
    dsimp only at e
    rw [hf] at e
    dsimp only at e
    rw [hidle, if_neg Bool.false_ne_true, hp] at e
    exact ⟨_, e⟩
  obtain ⟨n, hrow⟩ := hrow
  rw [Dev.cipherArrive_waits hm hoff] at hrow
  exact ⟨_, _, hrow, rfl, rfl, rfl, rfl, rfl⟩

theorem exec_cipherBatchIssue_idle (hi : s.dev.inEngine e.val = none) (hn : s.dev.nextFor e.val = none) :
    exec (.cipherBatchIssue e) s = .next s := by
  refine act_same ?_
  rw [hi]
  exact Dev.engineTake_idle hn

theorem exec_cipherBatchIssue_admitted (hr : s.dev.running = true) {i : Nat} {m : CMsg} {u : Dev} (hi : s.dev.inEngine e.val = some i)
    (hm : Map.get? s.dev.cry.msgs i = some m) (hpos : 0 < m.issued) (hleft : m.issued < m.blocks) (hw : ∀ f y, m.work ≠ .verify f y)
    (ho : s.dev.offer .cipher i m.level (s.dev.unitCost 3 (Nat.min 64 (m.blocks - m.issued))) m.owner false = (true, u)) :
    exec (.cipherBatchIssue e) s = .next { s with dev := u.setMsg i (fun m' =>
      { m' with issued := m'.issued + Nat.min 64 (m.blocks - m.issued) }) } := by
  have hn : Nat.min 64 (m.blocks - m.issued) ≠ 0 := by
    show min 64 (m.blocks - m.issued) ≠ 0
    omega
  have hbatch : s.dev.batch e.val i m = u.issueBatch i m (Nat.min 64 (m.blocks - m.issued)) := by
    unfold Dev.batch
    extract_lets n
    rw [if_neg hn, if_neg (by omega)]
    split
    · next f y h => exact absurd h (hw f y)
    · rw [show s.dev.offer .cipher i m.level (s.dev.unitCost 3 n) m.owner false = (true, u) from ho]
  refine (act_run hr).trans ?_
  rw [hi]
  simp only [hm]
  rw [hbatch, Dev.issueBatch, if_neg (by omega)]

theorem exec_cipherMessageDone_idle (hi : s.dev.inEngine e.val = none) : exec (.cipherMessageDone e) s = .next s := by
  refine act_same ?_
  rw [hi]

theorem exec_cipherMessageDone_request (hr : s.dev.running = true) {i t tag op : Nat} {m : CMsg} (hm : s.dev.cry.msgs = [(i, m)])
    (hp : m.place = .engine e.val) (hb : m.blocks ≤ m.issued) (hw : m.work = .request t tag op) :
    ∃ u, exec (.cipherMessageDone e) s = .next u ∧ u.dev.cry.msgs = [] := by
  have hin : s.dev.inEngine e.val = some i := by
    unfold Dev.inEngine
    rw [hm]
    simp [Map.findKey?, hp]
  have hget : Map.get? s.dev.cry.msgs i = some m := by
    rw [hm]
    exact if_pos rfl
  have hgone := Dev.msgs_finishMsg_one hm hw 0
  refine ⟨{ s with dev := s.dev.finishMsg i 0 }, (act_run hr).trans ?_, hgone⟩
  rw [hin]
  simp only [hget]
  rw [if_pos hb, Dev.engineTake_idle (Dev.nextFor_empty hgone _)]

theorem exec_cipherEngineFault_off (h : s.dev.engineOn e.val = false) : exec (.cipherEngineFault e) s = .next s := by
  refine act_same ?_
  dsimp only
  rw [h, if_neg Bool.false_ne_true]

theorem Dev.heldIn_empty {d : Dev} (h : d.cry.msgs = []) (e : Nat) : d.heldIn e = [] := by
  unfold Dev.heldIn
  rw [h]
  rfl

theorem exec_cipherEngineFault_on (hr : s.dev.running = true) (h : s.dev.engineOn e.val = true) (hm : s.dev.cry.msgs = []) :
    ∃ u, exec (.cipherEngineFault e) s = .next u ∧ u.dev.engineOn e.val = false ∧ u.dev.bit Reg.CRY_EVT_STATUS 4 = true := by
  have hrow : ∃ r, exec (.cipherEngineFault e) s = .next { s with dev :=
      ((s.dev.setBit Reg.CRY_ENGINES e.val false).sqSet Reg.CRY_EVT_STATUS [4]).fault r } := by
    have h' : exec (.cipherEngineFault e) s = _ := act_run hr
    dsimp only at h'
    rw [if_pos h, Dev.inEngine_empty hm, Dev.heldIn_empty hm] at h'
    exact ⟨_, h'⟩
  obtain ⟨r, hrow⟩ := hrow
  refine ⟨_, hrow, ?_, ?_⟩
  · refine (congrArg (Word.bit · e.val) ((Dev.reg_fault _ r (by decide)).trans (Dev.reg_sqSet_other _ _ (by decide)))).trans ?_
    exact Dev.bit_setBit_same _ _ _ _ (by omega)
  · refine (congrArg (Word.bit · 4) (Dev.reg_fault _ r (by decide))).trans ?_
    exact Dev.bit_sqSet_mem (bits := [4]) (b := 4) _ _ (by decide) (by decide)

theorem exec_cipherEngineReturn_on (h : s.dev.engineOn e.val = true) (p : Bool) : exec (.cipherEngineReturn e p) s = .next s := by
  refine act_same ?_
  dsimp only
  rw [h]
  rfl

theorem exec_cipherEngineReturn_idle (hr : s.dev.running = true) (hoff : s.dev.engineOn e.val = false) (hm : s.dev.cry.msgs = [])
    (hb : s.dev.bit Reg.CRY_ENGINES (16 + e.val) = false) (hw : s.dev.engineReset e.val = none) (p : Bool) :
    exec (.cipherEngineReturn e p) s = .next { s with dev := (if p then s.dev.setBit Reg.CRY_ENGINES e.val true
      else (s.dev.setBit Reg.CRY_ENGINES (16 + e.val) true).sqSet Reg.CRY_EVT_STATUS [3]) } := by
  have hguard : (s.dev.engineOn e.val || (s.dev.inEngine e.val).isSome || !(s.dev.heldIn e.val).isEmpty ||
      s.dev.bit Reg.CRY_ENGINES (16 + e.val)) = false := by
    rw [hoff, Dev.inEngine_empty hm, Dev.heldIn_empty hm, hb]
    rfl
  have hcry : (if p then s.dev.setBit Reg.CRY_ENGINES e.val true
      else (s.dev.setBit Reg.CRY_ENGINES (16 + e.val) true).sqSet Reg.CRY_EVT_STATUS [3]).cry = s.dev.cry := by
    cases p <;> rfl
  refine (act_run hr).trans ?_
  dsimp only
  rw [hguard, hw, if_neg Bool.false_ne_true]
  dsimp only
  rw [Dev.engineTake_idle (Dev.nextFor_empty (by rw [hcry, hm]) _)]

end

/-- Settles O36: what the CIPHER channel, the inbound channels, the cipher stage and its engines do. -/
theorem cipherMessagesAct : Obligations.CipherMessagesAct := by
  unfold Obligations.CipherMessagesAct
  refine ⟨fun s t hr => ⟨fun i op r hi h1 hc ho ha hm => ?_, fun f g c h hf hp _ hh hoff => exec_inboundEnqueue_off hr hf hp hh hoff,
    fun f g c h hf hp _ hh _ hon hq => exec_inboundEnqueue_on hr hf hp hh hon hq, fun h => ?_, fun h => exec_inboundTake_empty hr h,
    fun h ws rest => exec_inboundTake_message hr h⟩, fun s e hr => ⟨fun f => exec_cipherMessageArrive_none,
    fun f g y hf hp hm hoff => exec_cipherMessageArrive_verify hr hf hp hm hoff, exec_cipherBatchIssue_idle,
    fun i m u hi hm hpos hleft hw ho => exec_cipherBatchIssue_admitted hr hi hm hpos hleft hw ho, exec_cipherMessageDone_idle,
    fun i m t tag op hm hp hb hw => exec_cipherMessageDone_request hr hm hp hb hw, exec_cipherEngineFault_off, exec_cipherEngineFault_on hr,
    exec_cipherEngineReturn_on, fun hoff hm hb hw => ⟨exec_cipherEngineReturn_idle hr hoff hm hb hw true,
      exec_cipherEngineReturn_idle hr hoff hm hb hw false⟩⟩⟩
  · have hrow := exec_cipherRequest hr hi
    rw [Dev.cipherRequest_one h1 hc ho ha hm] at hrow
    refine ⟨fun hlong => ?_, fun hn hl hb hfor => ?_, fun hn hl hb hfor hoff hcls => ?_⟩
    · rwa [if_pos (Or.inr (Or.inl hlong))] at hrow
    · rwa [if_neg (lengthOk_of_64 hn hl hb), if_pos hfor] at hrow
    · rw [if_neg (lengthOk_of_64 hn hl hb), if_neg (by rw [hfor]; exact Bool.false_ne_true), Dev.cipherArrive_waits hm hoff] at hrow
      exact ⟨_, _, hrow, rfl, rfl, rfl⟩
  · refine act_same ?_
    dsimp only
    rw [h]

end Sys2Proof.Machine
end


section
/-! DEFINITION. Key slots and security associations (O37). -/

namespace Sys2Proof.Machine

/-! ## Slots shown (R342, R344) -/

theorem Dev.slot?_congr {d u : Dev} (h : u.cry.slots = d.cry.slots) (i : Nat) : u.slot? i = d.slot? i := by
  unfold Dev.slot?
  rw [h]

theorem Dev.sa?_congr {d u : Dev} (h : u.cry.sas = d.cry.sas) (i : Nat) : u.sa? i = d.sa? i := by
  unfold Dev.sa?
  rw [h]

/-- Showing a slot touches its two registers alone. -/
theorem Dev.showSlot_rest (d : Dev) (i : Nat) : ∃ rf, d.showSlot i = { d with rf := rf } := by
  obtain ⟨v, p, e⟩ := d.showSlot_shape i
  obtain ⟨rf, e'⟩ := (d.setN (Reg.CRY_SLOTs i) v).set64_rest (Reg.CRY_SLOT_PNs i 0) p
  exact ⟨rf, e.trans e'⟩

theorem Dev.reg_showSlot_apart (d : Dev) {i k : Nat} (hs : k ≠ Reg.CRY_SLOTs i) (hlo : k ≠ Reg.CRY_SLOT_PNs i 0) (hhi : k ≠ Reg.CRY_SLOT_PNs i 0 + 4) :
    (d.showSlot i).reg k = d.reg k := by
  obtain ⟨v, p, e⟩ := d.showSlot_shape i
  rw [e]
  exact (Dev.reg_setReg_other _ _ hhi).trans ((Dev.reg_setReg_other _ _ hlo).trans (Dev.reg_setReg_other _ _ hs))

theorem Dev.slot?_setSlot (d : Dev) (i : Nat) (k : KeySlot) : (d.setSlot i k).slot? i = some k := by
  unfold Dev.setSlot
  exact (Dev.slot?_congr (congrArg Cry.slots (Dev.cry_showSlot _ i)) i).trans (Map.get?_put_same ..)

theorem Dev.slot?_zeroSlot (d : Dev) (i : Nat) : (d.zeroSlot i).slot? i = none := by
  unfold Dev.zeroSlot
  exact (Dev.slot?_congr (congrArg Cry.slots (Dev.cry_showSlot _ i)) i).trans (Map.get?_del_same ..)

theorem Dev.reg_setSlot (d : Dev) {i k : Nat} (s : KeySlot) (hs : k ≠ Reg.CRY_SLOTs i) (hlo : k ≠ Reg.CRY_SLOT_PNs i 0)
    (hhi : k ≠ Reg.CRY_SLOT_PNs i 0 + 4) : (d.setSlot i s).reg k = d.reg k := Dev.reg_showSlot_apart _ hs hlo hhi

/-- A slot of nothing that was not faulted shows no fault. -/
theorem Dev.bit25_showSlot {d : Dev} {i : Nat} (hi : i < 256) (hb : d.bit (Reg.CRY_SLOTs i) 25 = false) (hn : d.slot? i = none) :
    (d.showSlot i).bit (Reg.CRY_SLOTs i) 25 = false := by
  have hhi : Reg.CRY_SLOTs i ≠ Reg.CRY_SLOT_PNs i 0 + 4 := by unfold Reg.CRY_SLOTs Reg.CRY_SLOT_PNs; omega
  have hlo : Reg.CRY_SLOTs i ≠ Reg.CRY_SLOT_PNs i 0 := by unfold Reg.CRY_SLOTs Reg.CRY_SLOT_PNs; omega
  unfold Dev.showSlot
  rw [hn]
  extract_lets busy faulted b
  have hf : faulted = false := hb
  clear_value faulted
  subst hf
  have hreg : ((d.setN (Reg.CRY_SLOTs i) (b false 25 + b busy 24)).set64 (Reg.CRY_SLOT_PNs i 0) 0).reg (Reg.CRY_SLOTs i) =
      wd (b false 25 + b busy 24) :=
    (Dev.reg_setReg_other _ _ hhi).trans ((Dev.reg_setReg_other _ _ hlo).trans (Dev.reg_setReg_same _ _ _))
  refine (congrArg (Word.bit · 25) hreg).trans ?_
  unfold b
  cases busy <;> decide

/-- An erased slot is empty and not marked FAULTED (R344). -/
theorem Dev.clearSlot_shows (d : Dev) {i : Nat} (hi : i < 256) : (d.clearSlot i).slot? i = none ∧ (d.clearSlot i).bit (Reg.CRY_SLOTs i) 25 = false := by
  refine ⟨Dev.slot?_zeroSlot _ i, Dev.bit25_showSlot hi ?_ (Map.get?_del_same ..)⟩
  exact Dev.bit_setBit_same _ _ _ _ (by decide)

theorem Dev.clearSlot_rest (d : Dev) (i : Nat) : ∃ rf, d.clearSlot i = { d with rf := rf, cry := { d.cry with slots := Map.del d.cry.slots i } } := by
  obtain ⟨rf, e⟩ := Dev.showSlot_rest { d.setBit (Reg.CRY_SLOTs i) 25 false with cry := { d.cry with slots := Map.del d.cry.slots i } } i
  exact ⟨rf, e⟩

section
variable {s : State}

/-! ## The key registers (R344) -/

theorem exec_keyLoad_bad (hr : s.dev.running = true) {i : Fin 256}
    (hb : s.dev.keyBad i.val (s.dev.regs (Reg.CRY_KEY_STAGE 0) 8 ++ s.dev.regs (Reg.CRY_KEY_DATA 0) 8) = true) :
    exec (.keyLoad i) s = .next { s with dev := s.dev.setN Reg.CRY_KEY_CMD (2 ^ 28 + 2 ^ 24 + i.val) } := by
  refine (act_run hr).trans ?_
  unfold Dev.keyLoad
  dsimp only
  rw [if_pos hb]
  rw [show 2 ^ 28 + 2 ^ 24 + i.val = 1 * 2 ^ 28 + 1 * 2 ^ 24 + i.val by omega]
  rfl

/-- The key slot that sixteen words describe (R343). -/
def keySlotOf (ws : List Word) : KeySlot :=
  ⟨Word.fld (wordAt ws 1) 28 4, Word.bit (wordAt ws 1) 27, Word.bit (wordAt ws 1) 26, wordAt ws 2, [wordAt ws 3, wordAt ws 4, wordAt ws 5],
    cat64 (wordAt ws 6) (wordAt ws 7), bytesOf ((ws.drop 8).take (if Word.bit (wordAt ws 1) 26 then 8 else 4)), false⟩

theorem Dev.loadSlot_eq (d : Dev) (i : Nat) (ws : List Word) : d.loadSlot i ws = d.setSlot i (keySlotOf ws) := rfl

theorem Dev.regs_of_words {d : Dev} {b : Nat} {ws : List Word} (h : ∀ i, i < ws.length → d.reg (b + 4 * i) = wordAt ws i) :
    d.regs b ws.length = ws := by
  refine List.ext_getElem (by simp [Dev.regs]) fun i h1 h2 => ?_
  have := h i h2
  simpa [Dev.regs, wordAt, h2] using this

theorem exec_keyLoad_good (hr : s.dev.running = true) {i : Fin 256}
    (hb : s.dev.keyBad i.val (s.dev.regs (Reg.CRY_KEY_STAGE 0) 8 ++ s.dev.regs (Reg.CRY_KEY_DATA 0) 8) = false)
    (hf : s.dev.bit (Reg.CRY_SLOTs i.val) 25 = false) :
    ∃ u k, exec (.keyLoad i) s = .next u ∧ u.dev.slot? i.val = some k ∧ k.purpose = s.dev.fld (Reg.CRY_KEY_STAGE 1) 28 4 ∧
      k.key = bytesOf ((s.dev.regs (Reg.CRY_KEY_DATA 0) 8).take (if s.dev.bit (Reg.CRY_KEY_STAGE 1) 26 then 8 else 4)) ∧
      u.dev.regs (Reg.CRY_KEY_DATA 0) 8 = List.replicate 8 0 ∧ u.dev.regN Reg.CRY_KEY_CMD = 2 ^ 24 + i.val := by
  have hlen : (s.dev.regs (Reg.CRY_KEY_STAGE 0) 8).length = 8 := by simp [Dev.regs]
  have hw1 : wordAt (s.dev.regs (Reg.CRY_KEY_STAGE 0) 8 ++ s.dev.regs (Reg.CRY_KEY_DATA 0) 8) 1 = s.dev.reg (Reg.CRY_KEY_STAGE 1) :=
    (wordAt_append_left _ (by omega)).trans (s.dev.wordAt_regs _ (by decide))
  have hdrop : (s.dev.regs (Reg.CRY_KEY_STAGE 0) 8 ++ s.dev.regs (Reg.CRY_KEY_DATA 0) 8).drop 8 = s.dev.regs (Reg.CRY_KEY_DATA 0) 8 := by
    exact List.drop_left' hlen
  have hrow : exec (.keyLoad i) s = .next { s with dev :=
      (((s.dev.setSlot i.val (keySlotOf (s.dev.regs (Reg.CRY_KEY_STAGE 0) 8 ++ s.dev.regs (Reg.CRY_KEY_DATA 0) 8))).setRegs (Reg.CRY_KEY_DATA 0)
        (List.replicate 8 0)).keyCmd 1 i.val 0) } := by
    refine (act_run hr).trans ?_
    unfold Dev.keyLoad
    dsimp only
    rw [hb, if_neg Bool.false_ne_true, if_neg (by rw [hf]; exact Bool.false_ne_true), Dev.loadSlot_eq]
  have hslot := s.dev.slot?_setSlot i.val (keySlotOf (s.dev.regs (Reg.CRY_KEY_STAGE 0) 8 ++ s.dev.regs (Reg.CRY_KEY_DATA 0) 8))
  generalize s.dev.setSlot i.val (keySlotOf (s.dev.regs (Reg.CRY_KEY_STAGE 0) 8 ++ s.dev.regs (Reg.CRY_KEY_DATA 0) 8)) = x at hrow hslot
  obtain ⟨rf, e⟩ := x.setRegs_rest (Reg.CRY_KEY_DATA 0) (List.replicate 8 0)
  have hcry : (x.setRegs (Reg.CRY_KEY_DATA 0) (List.replicate 8 0)).cry = x.cry := by rw [e]
  have hzero (j : Nat) (hj : j < 8) : (x.setRegs (Reg.CRY_KEY_DATA 0) (List.replicate 8 0)).reg (Reg.CRY_KEY_DATA 0 + 4 * j) =
      wordAt (List.replicate 8 0) j := Dev.reg_setRegs _ _ _ (by simpa using hj)
  generalize x.setRegs (Reg.CRY_KEY_DATA 0) (List.replicate 8 0) = y at hrow hcry hzero
  refine ⟨_, _, hrow, (Dev.slot?_congr (congrArg Cry.slots ((Dev.setReg_cry _ _ _).trans hcry)) _).trans hslot, congrArg (Word.fld · 28 4) hw1, ?_, ?_, ?_⟩
  · unfold keySlotOf
    rw [hdrop, hw1]
    rfl
  · refine Dev.regs_of_words (ws := List.replicate 8 0) fun j hj => (Dev.reg_setReg_other _ _ ?_).trans (hzero j (by simpa using hj))
    unfold Reg.CRY_KEY_DATA Reg.CRY_KEY_CMD
    omega
  · have hv : (y.keyCmd 1 i.val 0).reg Reg.CRY_KEY_CMD = wd (0 * 2 ^ 28 + 1 * 2 ^ 24 + i.val) := Dev.reg_setReg_same _ _ _
    show ((y.keyCmd 1 i.val 0).reg Reg.CRY_KEY_CMD).toNat = _
    rw [hv, wd, BitVec.toNat_ofNat]
    omega

theorem exec_keyZero_erases (hr : s.dev.running = true) (i : Fin 256) : ∃ u, exec (.keyZero i) s = .next u ∧ u.dev.slot? i.val = none ∧
    u.dev.bit (Reg.CRY_SLOTs i.val) 25 = false ∧ u.dev.regN Reg.CRY_KEY_CMD = 2 * 2 ^ 24 + i.val := by
  obtain ⟨hslot, hbit⟩ := s.dev.clearSlot_shows i.isLt
  have hrow : exec (.keyZero i) s = .next { s with dev := (s.dev.clearSlot i.val).keyCmd 2 i.val 0 } := act_run hr
  generalize s.dev.clearSlot i.val = x at hslot hbit hrow
  have hv : (x.keyCmd 2 i.val 0).reg Reg.CRY_KEY_CMD = wd (0 * 2 ^ 28 + 2 * 2 ^ 24 + i.val) := Dev.reg_setReg_same _ _ _
  refine ⟨_, hrow, (Dev.slot?_congr (congrArg Cry.slots (Dev.setReg_cry _ _ _)) _).trans hslot, ?_, ?_⟩
  · refine (congrArg (Word.bit · 25) (Dev.reg_setReg_other _ _ ?_)).trans hbit
    unfold Reg.CRY_SLOTs Reg.CRY_KEY_CMD
    omega
  · show ((x.keyCmd 2 i.val 0).reg Reg.CRY_KEY_CMD).toNat = _
    rw [hv, wd, BitVec.toNat_ofNat]
    omega

/-! ## Lifetimes (R353) -/

/-- The expiry ring's entry, its number and its event, before anyone is told. -/
def Dev.putExpiry (d : Dev) (w0 w1 : Word) (ev : Nat) : Dev :=
  ((d.setRegs (Reg.CRY_EXPIRY (d.regN Reg.CRY_EXPIRY_SEQ % 256) 0) [w0, w1]).setN Reg.CRY_EXPIRY_SEQ (d.regN Reg.CRY_EXPIRY_SEQ + 1)).sqSet
    Reg.CRY_EVT_STATUS [ev]

theorem Dev.expire_told (d : Dev) (slot : Bool) (i : Nat) (hard : Bool) (owner : Option (Nat × Nat)) :
    ∃ w0 w1, (d.putExpiry w0 w1 (if hard then 2 else 1)).ToldHost (d.expire slot i hard owner) := by
  unfold Dev.expire
  cases owner with
  | none => exact ⟨_, _, .notifyAll _ _⟩
  | some o => exact ⟨_, _, .notifyFn _ _ (Word.fld_lt _ 20 2)⟩

theorem Dev.cry_putExpiry (d : Dev) (w0 w1 : Word) (ev : Nat) : (d.putExpiry w0 w1 ev).cry = d.cry := by
  obtain ⟨rf, e⟩ := d.setRegs_rest (Reg.CRY_EXPIRY (d.regN Reg.CRY_EXPIRY_SEQ % 256) 0) [w0, w1]
  unfold Dev.putExpiry
  rw [e]
  rfl

/-- An expiry is reported: its event, and the next number of the ring; keys and SAs stay (R353). -/
theorem Dev.expire_shows (d : Dev) (slot : Bool) (i : Nat) (hard : Bool) (owner : Option (Nat × Nat)) :
    (d.expire slot i hard owner).cry = d.cry ∧ (d.expire slot i hard owner).bit Reg.CRY_EVT_STATUS (if hard then 2 else 1) = true ∧
    (d.expire slot i hard owner).regN Reg.CRY_EXPIRY_SEQ = (d.regN Reg.CRY_EXPIRY_SEQ + 1) % 2 ^ 32 := by
  obtain ⟨w0, w1, told⟩ := d.expire_told slot i hard owner
  refine ⟨?_, ?_, ?_⟩
  · rw [told.rest]
    exact d.cry_putExpiry w0 w1 (if hard then 2 else 1)
  · refine (told.bit _ (by decide)).trans ?_
    refine Dev.bit_sqSet_mem (bits := [if hard then 2 else 1]) (b := if hard then 2 else 1) _ _ ?_ ?_
    all_goals cases hard <;> decide
  · have hseq : (d.expire slot i hard owner).reg Reg.CRY_EXPIRY_SEQ = wd (d.regN Reg.CRY_EXPIRY_SEQ + 1) :=
      (told.regs _ (by decide)).trans ((Dev.reg_sqSet_other _ _ (by decide)).trans (Dev.reg_setReg_same _ _ _))
    show ((d.expire slot i hard owner).reg Reg.CRY_EXPIRY_SEQ).toNat = _
    rw [hseq, wd, BitVec.toNat_ofNat]

theorem Dev.saLive_some {d : Dev} {i : Nat} {a : SecAssoc} (h : d.saLive i = some a) : d.sa? i = some a ∧ a.state = 1 := by
  unfold Dev.saLive at h
  obtain ⟨hs, ha⟩ := Option.filter_eq_some_iff.mp h
  exact ⟨hs, by simpa using ha⟩

theorem Dev.sa?_setSa {d : Dev} {i : Nat} {a : SecAssoc} (h : d.sa? i = some a) (f : SecAssoc → SecAssoc) : (d.setSa i f).sa? i = some (f a) := by
  unfold Dev.setSa
  rw [h]
  exact Map.get?_put_same ..

theorem exec_saExpiry_notLive {i : Fin 1048576} (h : s.dev.saLive i.val = none) :
    exec (.saSoftExpiry false i) s = .next s ∧ exec (.saHardExpiry false i) s = .next s := by
  refine ⟨act_same ?_, act_same ?_⟩
  all_goals rw [if_neg Bool.false_ne_true, h]

theorem exec_saExpiry_noSlot {i : Fin 1048576} (h : s.dev.slot? i.val = none) :
    exec (.saSoftExpiry true i) s = .next s ∧ exec (.saHardExpiry true i) s = .next s := by
  refine ⟨act_same ?_, act_same ?_⟩
  all_goals rw [if_pos rfl, h]

theorem exec_saSoftExpiry_due (hr : s.dev.running = true) {i : Fin 1048576} {a : SecAssoc} (ha : s.dev.saLive i.val = some a) (hs : a.soft = false)
    (h0 : a.softLimit ≠ 0) (hl : a.softLimit ≤ a.packets) :
    ∃ u, exec (.saSoftExpiry false i) s = .next u ∧ u.dev.saLive i.val = some { a with soft := true } ∧
      u.dev.bit Reg.CRY_EVT_STATUS 1 = true ∧ u.dev.regN Reg.CRY_EXPIRY_SEQ = (s.dev.regN Reg.CRY_EXPIRY_SEQ + 1) % 2 ^ 32 := by
  obtain ⟨hsa, hstate⟩ := Dev.saLive_some ha
  have hrow : exec (.saSoftExpiry false i) s = .next { s with dev :=
      ((s.dev.setSa i.val (fun a => { a with soft := true })).expire false i.val false (some (a.slice, a.incarnation))) } := by
    refine (act_run hr).trans ?_
    rw [if_neg Bool.false_ne_true, ha]
    dsimp only
    rw [if_pos ⟨hs, Or.inl ⟨h0, hl⟩⟩]
  have hset := Dev.sa?_setSa hsa (fun a => { a with soft := true })
  have hreg : (s.dev.setSa i.val (fun a => { a with soft := true })).rf = s.dev.rf := by
    unfold Dev.setSa
    rw [hsa]
  generalize s.dev.setSa i.val (fun a => { a with soft := true }) = x at hrow hset hreg
  obtain ⟨hcry, hevt, hseq⟩ := x.expire_shows false i.val false (some (a.slice, a.incarnation))
  refine ⟨_, hrow, ?_, hevt, hseq.trans (by rw [Dev.regN, Dev.reg_congr hreg, Dev.regN])⟩
  unfold Dev.saLive
  rw [Dev.sa?_congr (congrArg Cry.sas hcry), hset]
  simp [hstate]

theorem exec_saHardExpiry_due (hr : s.dev.running = true) {i : Fin 1048576} {a : SecAssoc} (ha : s.dev.saLive i.val = some a) (h0 : a.hardLimit ≠ 0)
    (hl : a.hardLimit ≤ a.packets) :
    ∃ u, exec (.saHardExpiry false i) s = .next u ∧ u.dev.sa? i.val = some { a.zeroised with state := 2 } ∧
      u.dev.bit Reg.CRY_EVT_STATUS 2 = true := by
  obtain ⟨hsa, -⟩ := Dev.saLive_some ha
  have hrow : exec (.saHardExpiry false i) s = .next { s with dev :=
      ((s.dev.setSa i.val (fun a => { a.zeroised with state := 2 })).expire false i.val true (some (a.slice, a.incarnation))) } := by
    refine (act_run hr).trans ?_
    rw [if_neg Bool.false_ne_true, ha]
    dsimp only
    rw [if_pos (Or.inl ⟨h0, hl⟩)]
  have hset := Dev.sa?_setSa hsa (fun a => { a.zeroised with state := 2 })
  generalize s.dev.setSa i.val (fun a => { a.zeroised with state := 2 }) = x at hrow hset
  obtain ⟨hcry, hevt, -⟩ := x.expire_shows false i.val true (some (a.slice, a.incarnation))
  exact ⟨_, hrow, (Dev.sa?_congr (congrArg Cry.sas hcry) _).trans hset, hevt⟩

/-! ## Copies released, and the opcodes (R343, R347, R348, R355) -/

theorem exec_keyCopyReleased_held {sa : Bool} {i : Fin 1048576} (h : s.dev.copyHeld sa i.val = true) : exec (.keyCopyReleased sa i) s = .next s := by
  refine act_same ?_
  dsimp only
  rw [if_pos h]

theorem exec_keyCopyReleased_slot (hr : s.dev.running = true) {i : Fin 1048576} {m t g : Nat} {c : Cmd} (h : s.dev.copyHeld false i.val = false)
    (hw : s.dev.cry.waits = [(false, i.val, m, t, g)]) (hc : s.dev.cmd? m t g = some c) :
    ∃ u, exec (.keyCopyReleased false i) s = .next u ∧ u.dev.cry.waits = [] ∧ u.dev.finished m t g stOK [] := by
  have hrow : exec (.keyCopyReleased false i) s = .next { s with dev :=
      (({ s.dev with cry := { s.dev.cry with waits := [] } } : Dev).finish m t g (Res.ok [])) } := by
    refine (act_run hr).trans ?_
    dsimp only
    rw [h, if_neg Bool.false_ne_true, hw]
    generalize hx : ({ s.dev with cry := { s.dev.cry with waits := [] } } : Dev) = x
    simp only [Bool.decide_and, Bool.decide_eq_false, decide_true, Bool.and_self, Bool.not_true, Bool.not_false, Bool.false_and,
      Bool.false_eq_true, not_false_eq_true, List.filter_cons_of_neg, List.filter_cons_of_pos, List.filter_nil, hx, List.foldl_cons, List.foldl_nil]
    cases x.sa? i.val <;> rfl
  exact ⟨_, hrow, rfl, Dev.finished_finish (d := { s.dev with cry := { s.dev.cry with waits := [] } }) hc stOK []⟩

section
variable {m : Fin 16} {tag : Fin 4096} {gen : Fin 16} {c : Cmd}

theorem exec_keySlotWrite_bad (hr : s.dev.running = true) (hs : s.dev.started m.val tag.val gen.val 0x0400 c)
    (hb : s.dev.keyBad (c.pf 0 0 8) c.params = true) :
    exec (.keySlotWrite m tag gen) s = .next { s with dev := s.dev.finish m.val tag.val gen.val (Res.st stBadParam) } :=
  opStep_ok hr hs (if_pos hb)

theorem exec_keySlotWrite_good (hr : s.dev.running = true) (hs : s.dev.started m.val tag.val gen.val 0x0400 c)
    (hb : s.dev.keyBad (c.pf 0 0 8) c.params = false) (hf : s.dev.bit (Reg.CRY_SLOTs (c.pf 0 0 8)) 25 = false) :
    exec (.keySlotWrite m tag gen) s = .next { s with dev :=
      ((s.dev.loadSlot (c.pf 0 0 8) c.params).finish m.val tag.val gen.val (Res.ok [])) } := by
  refine opStep_ok hr hs ?_
  unfold runKeySlotWrite
  dsimp only
  rw [if_neg (by rw [hb]; exact Bool.false_ne_true), if_neg (by rw [hf]; exact Bool.false_ne_true)]

/-- A copy held of a slot is one of the stage's messages, which an erasure leaves. -/
theorem Dev.copyHeld_clearSlot (d : Dev) (i : Nat) (b : Bool) (j : Nat) : (d.clearSlot i).copyHeld b j = d.copyHeld b j := by
  obtain ⟨rf, e⟩ := d.clearSlot_rest i
  rw [e]
  rfl

theorem Dev.cmd_clearSlot (d : Dev) (i : Nat) : (d.clearSlot i).cmd = d.cmd := by
  obtain ⟨rf, e⟩ := d.clearSlot_rest i
  rw [e]

theorem Cmd.pf_lt (c : Cmd) (i lo n : Nat) : c.pf i lo n < 2 ^ n := Word.fld_lt _ lo n

theorem Dev.slot?_finish (d : Dev) (m tag gen : Nat) (r : Res) (i : Nat) : (d.finish m tag gen r).slot? i = d.slot? i := rfl

theorem exec_keySlotZero_free (hr : s.dev.running = true) (hs : s.dev.started m.val tag.val gen.val 0x0401 c)
    (hh : s.dev.copyHeld false (c.pf 0 0 8) = false) :
    ∃ u, exec (.keySlotZero m tag gen) s = .next u ∧ u.dev.slot? (c.pf 0 0 8) = none ∧ u.dev.finished m.val tag.val gen.val stOK [] := by
  have hrun : runKeySlotZero c s.dev = (s.dev.clearSlot (c.pf 0 0 8), some (Res.ok [])) := by
    unfold runKeySlotZero
    dsimp only
    rw [Dev.copyHeld_clearSlot, hh, if_neg Bool.false_ne_true]
  have hc : (s.dev.clearSlot (c.pf 0 0 8)).cmd? m.val tag.val gen.val = some c := by
    rw [Dev.cmd?, Dev.cmd_clearSlot]
    exact hs.1
  have hnone := Dev.slot?_zeroSlot (s.dev.setBit (Reg.CRY_SLOTs (c.pf 0 0 8)) 25 false) (c.pf 0 0 8)
  exact ⟨_, opStep_ok hr hs hrun, (Dev.slot?_finish ..).trans hnone, Dev.finished_finish hc stOK []⟩

theorem exec_keySlotZero_held (hr : s.dev.running = true) (hs : s.dev.started m.val tag.val gen.val 0x0401 c)
    (hh : s.dev.copyHeld false (c.pf 0 0 8) = true) :
    ∃ u, exec (.keySlotZero m tag gen) s = .next u ∧ u.dev.slot? (c.pf 0 0 8) = none ∧ u.dev.started m.val tag.val gen.val 0x0401 c := by
  have hrun : runKeySlotZero c s.dev = ((s.dev.clearSlot (c.pf 0 0 8)).waitCopies false (c.pf 0 0 8) c, none) := by
    unfold runKeySlotZero
    dsimp only
    rw [Dev.copyHeld_clearSlot, if_pos hh]
  have hnone := Dev.slot?_zeroSlot (s.dev.setBit (Reg.CRY_SLOTs (c.pf 0 0 8)) 25 false) (c.pf 0 0 8)
  have hcmd := s.dev.cmd_clearSlot (c.pf 0 0 8)
  have hrow := opStep_wait hr hs hrun
  have hclear : (s.dev.clearSlot (c.pf 0 0 8)).slot? (c.pf 0 0 8) = none := hnone
  generalize s.dev.clearSlot (c.pf 0 0 8) = x at hcmd hrow hclear
  refine ⟨_, hrow, hclear, ?_, hs.2⟩
  exact (congrArg (fun k => k.cmds.find? (isCmd m.val tag.val gen.val)) hcmd).trans hs.1

theorem exec_saDecant_queued (hr : s.dev.running = true) (hs : s.dev.started m.val tag.val gen.val 0x0402 c) (hm : s.dev.cry.msgs = [])
    (hoff : ∀ x, x < 12 → s.dev.engineOn x = false) :
    ∃ u x, exec (.saDecant m tag gen) s = .next u ∧ u.dev.cry.msgs = [(s.dev.cry.nextMsg, x)] ∧ x.work = .decant c.master c.tag c.gen ∧
      x.level = 1 ∧ x.blocks = 9 := by
  have hrun : runSaDecant c s.dev = (s.dev.cipherArrive (.decant c.master c.tag c.gen) 1 (0x400000 + s.dev.cry.nextMsg) 9 none, none) := by
    unfold runSaDecant
    rw [hm]
    rfl
  rw [Dev.cipherArrive_waits hm hoff] at hrun
  exact ⟨_, _, opStep_wait hr hs hrun, rfl, rfl, rfl, rfl⟩

theorem exec_saDelete_none (hr : s.dev.running = true) (hs : s.dev.started m.val tag.val gen.val 0x0403 c) (hn : s.dev.sa? (c.pf 1 0 20) = none) :
    exec (.saDelete m tag gen) s = .next { s with dev := s.dev.finish m.val tag.val gen.val (Res.st stBadParam) } := by
  refine opStep_ok hr hs ?_
  unfold runSaDelete
  dsimp only
  rw [hn]

/-- An SA freed is gone; commands stay. -/
theorem Dev.freeSa_frees (d : Dev) (i : Nat) : (d.freeSa i).sa? i = none ∧ (d.freeSa i).cmd = d.cmd := by
  unfold Dev.freeSa
  split
  · exact ⟨Map.get?_del_same .., rfl⟩
  · next h => exact ⟨h, rfl⟩

theorem Dev.cmd_setSa (d : Dev) (i : Nat) (f : SecAssoc → SecAssoc) : (d.setSa i f).cmd = d.cmd := by
  unfold Dev.setSa
  split <;> rfl

theorem exec_saDelete_free (hr : s.dev.running = true) {a : SecAssoc} (hs : s.dev.started m.val tag.val gen.val 0x0403 c)
    (ha : s.dev.sa? (c.pf 1 0 20) = some a) (hown : a.slice = c.slice) (hh : s.dev.copyHeld true (c.pf 1 0 20) = false) :
    ∃ u, exec (.saDelete m tag gen) s = .next u ∧ u.dev.sa? (c.pf 1 0 20) = none ∧ u.dev.finished m.val tag.val gen.val stOK [] := by
  have hheld : (s.dev.setSa (c.pf 1 0 20) (fun a => { a.zeroised with state := 4 })).copyHeld true (c.pf 1 0 20) = false := by
    unfold Dev.copyHeld
    rw [Dev.msgs_setSa]
    exact hh
  have hrun : runSaDelete c s.dev = ((s.dev.setSa (c.pf 1 0 20) (fun a => { a.zeroised with state := 4 })).freeSa (c.pf 1 0 20), some (Res.ok [])) := by
    unfold runSaDelete
    dsimp only
    rw [ha]
    dsimp only
    rw [if_neg (by simp [hown]), hheld, if_neg Bool.false_ne_true]
  obtain ⟨hgone, hcmd⟩ := (s.dev.setSa (c.pf 1 0 20) (fun a => { a.zeroised with state := 4 })).freeSa_frees (c.pf 1 0 20)
  have hc : ((s.dev.setSa (c.pf 1 0 20) (fun a => { a.zeroised with state := 4 })).freeSa (c.pf 1 0 20)).cmd? m.val tag.val gen.val = some c := by
    rw [Dev.cmd?, hcmd, Dev.cmd_setSa]
    exact hs.1
  exact ⟨_, opStep_ok hr hs hrun, hgone, Dev.finished_finish hc stOK []⟩

end

end

/-- Settles O37: the key registers, the lifetimes of slots and SAs, and their opcodes. -/
theorem keysAndAssociations : Obligations.KeysAndAssociations := by
  unfold Obligations.KeysAndAssociations
  refine fun s hr => ⟨fun i => exec_keyLoad_bad hr, fun i => exec_keyLoad_good hr, exec_keyZero_erases hr,
    fun i => ⟨exec_saExpiry_notLive, exec_saExpiry_noSlot, fun a => exec_saSoftExpiry_due hr, fun a => exec_saHardExpiry_due hr⟩,
    fun sa i => exec_keyCopyReleased_held, fun i m t g c => exec_keyCopyReleased_slot hr, fun m tag gen c =>
    ⟨exec_keySlotWrite_bad hr, exec_keySlotWrite_good hr, exec_keySlotZero_free hr, exec_keySlotZero_held hr, exec_saDecant_queued hr,
      exec_saDelete_none hr, fun a => exec_saDelete_free hr, fun hs => opStep_ok hr hs rfl⟩⟩

end Sys2Proof.Machine
end


section
/-! PROOFS. What a completion written to a CQ leaves of storage (R206, R211 to R213, R371). -/

namespace Sys2Proof.Machine

/-- The registers of storage, but for the count of failed commands. -/
abbrev stoKey (k : Nat) : Prop := 0xd00000 ≤ k ∧ k < 0xe00000 ∧ k ≠ 0xd00504

/-- `t` has the objects and the connections of `d`, and its storage registers. -/
def Dev.KeepsSto (d t : Dev) : Prop := t.sto = d.sto ∧ ∀ k, stoKey k → t.reg k = d.reg k

namespace Dev.KeepsSto

variable {d t u : Dev}

theorem refl (d : Dev) : d.KeepsSto d := ⟨rfl, fun _ _ => rfl⟩

theorem trans (h : d.KeepsSto t) (h' : t.KeepsSto u) : d.KeepsSto u :=
  ⟨h'.1.trans h.1, fun k hk => (h'.2 k hk).trans (h.2 k hk)⟩

/-- A step that leaves the registers and the storage record. -/
theorem of_rf (hs : t.sto = d.sto) (hr : t.rf = d.rf) : d.KeepsSto t := ⟨hs, fun k _ => Dev.reg_congr hr k⟩

theorem setReg (d : Dev) {k : Nat} (v : Word) (hk : ¬ stoKey k) : d.KeepsSto (d.setReg k v) :=
  ⟨Dev.setReg_sto _ _ _, fun _ hj => Dev.reg_setReg_other d v fun e => hk (e ▸ hj)⟩

theorem setFld (d : Dev) {k : Nat} (lo n v : Nat) (hk : ¬ stoKey k) : d.KeepsSto (d.setFld k lo n v) := setReg d _ hk

theorem setBit (d : Dev) {k : Nat} (i : Nat) (b : Bool) (hk : ¬ stoKey k) : d.KeepsSto (d.setBit k i b) := setReg d _ hk

theorem setN (d : Dev) {k : Nat} (v : Nat) (hk : ¬ stoKey k) : d.KeepsSto (d.setN k v) := setReg d _ hk

theorem sqSet (d : Dev) {k : Nat} (bs : List Nat) (hk : ¬ stoKey k) : d.KeepsSto (d.sqSet k bs) := setReg d _ hk

theorem count (d : Dev) {k : Nat} (n : Nat) (hk : ¬ stoKey k) : d.KeepsSto (d.count k n) := setReg d _ hk

theorem setRng (d : Dev) (x : Rng) : d.KeepsSto { d with rng := x } := of_rf rfl rfl

theorem setSlc (d : Dev) (x : Slc) : d.KeepsSto { d with slc := x } := of_rf rfl rfl

theorem setCry (d : Dev) (x : Cry) : d.KeepsSto { d with cry := x } := of_rf rfl rfl

theorem emit (d : Dev) (e : Emission) : d.KeepsSto (d.emit e) := of_rf rfl rfl

theorem written (h : d.HostWritten t) : d.KeepsSto t :=
  ⟨by rw [h.rest], fun k hk => h.regs k (by unfold stoKey at hk; omega)⟩

theorem toldHost (h : d.ToldHost t) : d.KeepsSto t := written h.written

theorem foldl {α : Type} {f : Dev → α → Dev} (h : ∀ (d : Dev) a, d.KeepsSto (f d a)) (as : List α) (d : Dev) : d.KeepsSto (as.foldl f d) := by
  induction as generalizing d with
  | nil => exact refl d
  | cons a as ih => exact (h d a).trans (ih _)

theorem scatter (d : Dev) {s : Nat} (hs : s < 8192) (fs : List (Nat × Nat)) (bs : List Byte) : d.KeepsSto (d.scatter s fs bs) := by
  induction fs generalizing d bs with
  | nil => exact refl d
  | cons f fs ih =>
    unfold Dev.scatter
    split
    · exact ih d bs
    · exact (written (.sliceBytes d _ _ hs)).trans (ih _ _)

/-! ## Queues -/

theorem qstate0 (i q : Nat) : ¬ stoKey (Reg.RNG_QSTATE0 i q) := by unfold stoKey Reg.RNG_QSTATE0; omega

theorem qstate1 (i q : Nat) : ¬ stoKey (Reg.RNG_QSTATE1 i q) := by unfold stoKey Reg.RNG_QSTATE1; omega

theorem rngEvt (d : Dev) (b cq q : Nat) : d.KeepsSto (d.rngEvt b cq q) := (sqSet d [b] (by decide)).trans (setN _ _ (by decide))

theorem showFull (d : Dev) (cq : Nat) : d.KeepsSto (d.showFull cq) := by
  unfold Dev.showFull
  extract_lets full was x y
  have hy : d.KeepsSto y := (setBit d 31 full (qstate1 1 cq)).trans (foldl (fun d q => setBit d 28 full (qstate1 0 q)) _ _)
  clear_value y
  split
  · exact hy.trans (rngEvt y 5 1 cq)
  · exact hy

theorem reserveCq (d : Dev) (cq : Nat) : d.KeepsSto (d.reserveCq cq) := (setFld d 0 16 _ (qstate1 1 cq)).trans (showFull _ cq)

theorem consume (d : Dev) (q : Nat) : d.KeepsSto (d.consume q).2 := by
  unfold Dev.consume
  extract_lets i x
  have hx : d.KeepsSto x := setFld d 16 16 _ (qstate0 0 q)
  clear_value x
  dsimp only
  split
  · next cq _ => exact hx.trans (reserveCq x cq)
  · exact hx

theorem cqInterrupt (d : Dev) (cq : Nat) : d.KeepsSto (d.cqInterrupt cq) := by
  unfold Dev.cqInterrupt
  extract_lets x r y
  have hy : d.KeepsSto y := (setBit d 29 false (qstate1 1 cq)).trans (setRng x _)
  clear_value y
  exact hy.trans (toldHost (.raiseSel y _ (Word.fld_lt _ 20 2)))

theorem cqDelay (d : Dev) (cq : Nat) : d.KeepsSto (d.cqDelay cq) := by
  unfold Dev.cqDelay
  split
  · exact setRng d _
  split
  · exact refl d
  split
  · exact cqInterrupt d cq
  split
  · exact refl d
  · exact setRng d _

theorem ringPut (d : Dev) (cq : Nat) (ws : List Word) : d.KeepsSto (d.ringPut cq ws) := by
  unfold Dev.ringPut
  extract_lets t size ph slot nvme ws' x y
  have hy : d.KeepsSto y := (written (.sliceWrite d _ _ (Word.fld_lt _ 10 13))).trans (setFld x 16 16 (t + 1) (qstate0 1 cq))
  clear_value y
  split
  · exact hy.trans (setBit y 30 _ (qstate1 1 cq))
  · exact hy

theorem setSpill (d : Dev) (cq : Nat) (l : List (List Word)) : d.KeepsSto (d.setSpill cq l) := (setRng d _).trans (setFld _ 16 7 _ (qstate1 1 cq))

theorem cqPut (d : Dev) (cq : Nat) (ws : List Word) : d.KeepsSto (d.cqPut cq ws) := by
  unfold Dev.cqPut
  split
  · exact (ringPut d cq ws).trans (cqDelay _ cq)
  · exact (setSpill d cq _).trans (count _ 1 (by decide))

theorem setFn (d : Dev) (f : Nat) (g : PFn → PFn) : d.KeepsSto (d.setFn f g) := of_rf rfl rfl

theorem cqComplete (d : Dev) (cq : Nat) (ws : List Word) : d.KeepsSto (d.cqComplete cq ws) := by
  unfold Dev.cqComplete
  extract_lets s f x
  have hf : f < 4 := Word.fld_lt _ 20 2
  have hx : d.KeepsSto x := setFld d 0 16 _ (qstate1 1 cq)
  clear_value x f
  split
  · exact hx
  split
  · exact hx.trans ((cqPut x cq ws).trans (showFull _ cq))
  · exact hx.trans ((setFn x f _).trans (setN _ _ (by unfold stoKey Reg.PCE_HELDf; omega)))

theorem stat (d : Dev) {s i : Nat} (n : Nat) (hs : s < 8192) (hi : i < 8) : d.KeepsSto (d.stat s i n) := by
  have hlo : ¬ stoKey (Reg.SLC_STATSs s (2 * i)) := by unfold stoKey Reg.SLC_STATSs; omega
  have hhi : ¬ stoKey (Reg.SLC_STATSs s (2 * i) + 4) := by unfold stoKey Reg.SLC_STATSs; omega
  exact (setReg d _ hlo).trans (setReg _ _ hhi)

theorem walkCount (d : Dev) (s : Nat) (ok : Bool) : d.KeepsSto (d.walkCount s ok) := by
  unfold Dev.walkCount
  split
  · dsimp only
    split
    · exact setSlc d _
    · exact refl d
  · exact refl d

/-! ## Commands of a connection (R366, R371) -/

theorem stoComplete (d : Dev) (k cid result source code status : Nat) : d.KeepsSto (d.stoComplete k cid result source code status) := by
  unfold Dev.stoComplete
  split
  · exact refl d
  next c _ =>
  split
  · split
    · exact refl d
    · extract_lets head host x
      have hx : d.KeepsSto x := by
        unfold x
        split
        · exact ((count d 1 (by decide)).trans (stat _ 1 (Word.fld_lt _ 0 13) (by decide))).trans (walkCount _ _ false)
        · exact walkCount d _ true
      clear_value x
      exact hx.trans (cqComplete x _ _)
  · exact refl d

theorem dropUnits (d : Dev) (k : Nat) (cid : Option Nat) : d.KeepsSto (d.dropUnits k cid) := setCry d _

end Dev.KeepsSto

end Sys2Proof.Machine
end


section
/-! PROOFS. Objects, connections and commands of storage (O38). -/

namespace Sys2Proof.Machine

/-! ## A connection changed (R366, R367) -/

theorem Dev.conn?_congr {d t : Dev} (h : t.sto = d.sto) (k : Nat) : t.conn? k = d.conn? k := by
  unfold Dev.conn?
  rw [h]

theorem Dev.connState_congr {d t : Dev} {k : Nat} (h : t.reg (Reg.STO_CONN_STATEk k) = d.reg (Reg.STO_CONN_STATEk k)) :
    t.connState k = d.connState k := by
  unfold Dev.connState Dev.fld
  rw [h]

theorem Dev.sto_setFld (d : Dev) (k lo n v : Nat) : (d.setFld k lo n v).sto = d.sto := Dev.setReg_sto _ _ _

/-- A connection written: its record, and the count its state register shows. -/
def Dev.putConn (d : Dev) (k : Nat) (c : StoConn) : Dev := { d with sto := { d.sto with conns := Map.put d.sto.conns k c } }

theorem Dev.setConn_eq {d : Dev} {k : Nat} {c : StoConn} (h : d.conn? k = some c) (f : StoConn → StoConn) :
    d.setConn k f = (d.putConn k (f c)).setFld (Reg.STO_CONN_STATEk k) 16 9 ((d.putConn k (f c)).connOut k) := by
  unfold Dev.setConn
  rw [h]
  rfl

theorem Dev.conn?_setConn {d : Dev} {k : Nat} {c : StoConn} (h : d.conn? k = some c) (f : StoConn → StoConn) :
    (d.setConn k f).conn? k = some (f c) := by
  rw [Dev.setConn_eq h, Dev.conn?_congr (Dev.sto_setFld _ _ _ _ _)]
  exact Map.get?_put_same ..

theorem Dev.reg_setConn (d : Dev) {k j : Nat} (f : StoConn → StoConn) (hj : j ≠ Reg.STO_CONN_STATEk k) : (d.setConn k f).reg j = d.reg j := by
  unfold Dev.setConn
  split
  · exact (Dev.reg_setFld_apart _ _ _ _ hj).trans (Dev.reg_congr rfl j)
  · rfl

theorem Dev.connState_setConn (d : Dev) (k : Nat) (f : StoConn → StoConn) : (d.setConn k f).connState k = d.connState k := by
  unfold Dev.setConn
  split
  · exact (Dev.fld_setFld_other _ _ _ (by decide) (by decide)).trans (Dev.connState_congr (Dev.reg_congr rfl _))
  · rfl

theorem Dev.out_setConn (d : Dev) (k : Nat) (f : StoConn → StoConn) : (d.setConn k f).out = d.out := by
  unfold Dev.setConn
  split
  · exact Dev.setReg_out _ _ _
  · rfl

/-! ## Events and states -/

theorem connKey_ne {k j : Nat} (hj : j < 0xd10000) : j ≠ Reg.STO_CONN_STATEk k := by unfold Reg.STO_CONN_STATEk; omega

theorem Dev.reg_stoEvt (d : Dev) {b k j : Nat} (h : j ≠ Reg.STO_EVT_STATUS) (h' : j ≠ Reg.STO_EVT_CONN) : (d.stoEvt b k).reg j = d.reg j :=
  (Dev.reg_setReg_other _ _ h').trans (Dev.reg_sqSet_other _ _ h)

theorem Dev.bit_stoEvt (d : Dev) {b : Nat} (k : Nat) (hb : b < 24) : (d.stoEvt b k).bit Reg.STO_EVT_STATUS b = true :=
  (congrArg (Word.bit · b) (Dev.reg_setReg_other _ _ (by decide))).trans
    (Dev.bit_sqSet_mem (bits := [b]) d Reg.STO_EVT_STATUS hb (List.mem_singleton.mpr rfl))

theorem Dev.bit_stoEvt_keep {d : Dev} {i : Nat} (b k : Nat) (hi : i < 24) (h : d.bit Reg.STO_EVT_STATUS i = true) :
    (d.stoEvt b k).bit Reg.STO_EVT_STATUS i = true :=
  (congrArg (Word.bit · i) (Dev.reg_setReg_other _ _ (by decide))).trans (by
    show (d.sqSet Reg.STO_EVT_STATUS [b]).bit Reg.STO_EVT_STATUS i = true
    rw [Dev.bit_sqSet _ _ _ hi, h, Bool.true_or])

theorem Dev.sto_stoEvt (d : Dev) (b k : Nat) : (d.stoEvt b k).sto = d.sto := rfl

/-- A state entered anew: shown, with its event; nothing else of storage changes (R367). -/
theorem Dev.setConnState_shows {d : Dev} {k st : Nat} (hst : st < 8) (hne : d.connState k ≠ st) :
    (d.setConnState k st).connState k = st ∧ (d.setConnState k st).sto = d.sto ∧ (d.setConnState k st).bit Reg.STO_EVT_STATUS 0 = true ∧
    (st = 4 → (d.setConnState k st).bit Reg.STO_EVT_STATUS 1 = true) ∧
    (∀ i, i < 24 → d.bit Reg.STO_EVT_STATUS i = true → (d.setConnState k st).bit Reg.STO_EVT_STATUS i = true) ∧
    (∀ j, j ≠ Reg.STO_CONN_STATEk k → j ≠ Reg.STO_EVT_STATUS → j ≠ Reg.STO_EVT_CONN → (d.setConnState k st).reg j = d.reg j) := by
  have hs : Reg.STO_CONN_STATEk k ≠ Reg.STO_EVT_STATUS := (connKey_ne (by decide)).symm
  have hc : Reg.STO_CONN_STATEk k ≠ Reg.STO_EVT_CONN := (connKey_ne (by decide)).symm
  unfold Dev.setConnState
  rw [if_neg hne]
  extract_lets x
  have hstate : x.connState k = st := (Dev.connState_congr (Dev.reg_stoEvt _ hs hc)).trans
    ((Dev.fld_setFld_same _ _ _ _ _ (by decide)).trans (Nat.mod_eq_of_lt hst))
  have hsto : x.sto = d.sto := (Dev.sto_stoEvt _ _ _).trans (Dev.sto_setFld _ _ _ _ _)
  have hevt : x.bit Reg.STO_EVT_STATUS 0 = true := Dev.bit_stoEvt _ k (by decide)
  have hkeep : ∀ i, i < 24 → d.bit Reg.STO_EVT_STATUS i = true → x.bit Reg.STO_EVT_STATUS i = true := fun i hi h =>
    Dev.bit_stoEvt_keep 0 k hi ((congrArg (Word.bit · i) (Dev.reg_setFld_apart _ _ _ _ hs.symm)).trans h)
  have hreg : ∀ j, j ≠ Reg.STO_CONN_STATEk k → j ≠ Reg.STO_EVT_STATUS → j ≠ Reg.STO_EVT_CONN → x.reg j = d.reg j := fun j h1 h2 h3 =>
    (Dev.reg_stoEvt _ h2 h3).trans (Dev.reg_setFld_apart _ _ _ _ h1)
  clear_value x
  split
  · exact ⟨(Dev.connState_congr (Dev.reg_stoEvt _ hs hc)).trans hstate, (Dev.sto_stoEvt _ _ _).trans hsto,
      Dev.bit_stoEvt_keep 1 k (by decide) hevt, fun _ => x.bit_stoEvt k (by decide),
      fun i hi h => Dev.bit_stoEvt_keep 1 k hi (hkeep i hi h), fun j h1 h2 h3 => (Dev.reg_stoEvt _ h2 h3).trans (hreg j h1 h2 h3)⟩
  · next h4 => exact ⟨hstate, hsto, hevt, fun h => absurd h h4, hkeep, hreg⟩

/-! ## Losses (R367) -/

/-- A connection's commands move: its state, whose it is, and the events reported stay. -/
structure Dev.MovesCmds (k : Nat) (d t : Dev) : Prop where
  state : t.connState k = d.connState k
  conn : ∀ c, d.conn? k = some c → ∃ x, t.conn? k = some x ∧ x.target = c.target
  evt : ∀ i, i < 24 → d.bit Reg.STO_EVT_STATUS i = true → t.bit Reg.STO_EVT_STATUS i = true

namespace Dev.MovesCmds

variable {k : Nat} {d t u : Dev}

theorem refl (d : Dev) : d.MovesCmds k d := ⟨rfl, fun c h => ⟨c, h, rfl⟩, fun _ _ h => h⟩

theorem trans (h : Dev.MovesCmds k d t) (h' : Dev.MovesCmds k t u) : Dev.MovesCmds k d u where
  state := h'.state.trans h.state
  conn c hc := by
    obtain ⟨x, hx, hxt⟩ := h.conn c hc
    obtain ⟨y, hy, hyt⟩ := h'.conn x hx
    exact ⟨y, hy, hyt.trans hxt⟩
  evt i hi hb := h'.evt i hi (h.evt i hi hb)

theorem keeps (hk : k < 32768) (h : d.KeepsSto t) : Dev.MovesCmds k d t where
  state := Dev.connState_congr (h.2 _ (by unfold stoKey Reg.STO_CONN_STATEk; omega))
  conn c hc := ⟨c, (Dev.conn?_congr h.1 k).trans hc, rfl⟩
  evt i _ hb := (congrArg (Word.bit · i) (h.2 _ (by decide))).trans hb

theorem setConn (d : Dev) (f : StoConn → StoConn) (hf : ∀ c, (f c).target = c.target) : Dev.MovesCmds k d (d.setConn k f) where
  state := d.connState_setConn k f
  conn c hc := ⟨f c, Dev.conn?_setConn hc f, hf c⟩
  evt i _ hb := (congrArg (Word.bit · i) (d.reg_setConn f (connKey_ne (by decide)))).trans hb

theorem failCmd (hk : k < 32768) (d : Dev) (cid source code status : Nat) (hold : Bool) :
    Dev.MovesCmds k d (d.failCmd k cid source code status hold) :=
  (keeps hk (.stoComplete d k cid 0 source code status)).trans (setConn _ _ fun _ => rfl)

theorem failAll (hk : k < 32768) (cids : List Nat) (d : Dev) :
    Dev.MovesCmds k d (cids.foldl (fun d cid => d.failCmd k cid 3 0 (hostPathing false) false) d) := by
  induction cids generalizing d with
  | nil => exact refl d
  | cons cid cids ih => exact (failCmd hk d cid 3 0 (hostPathing false) false).trans (ih _)

theorem countLoss (d : Dev) : Dev.MovesCmds k d (d.countFld (Reg.STO_CONN_STATEk k) 0 8) where
  state := Dev.fld_setFld_other _ _ _ (by decide) (by decide)
  conn c hc := ⟨c, (Dev.conn?_congr (Dev.sto_setFld _ _ _ _ _) k).trans hc, rfl⟩
  evt i _ hb := (congrArg (Word.bit · i) (Dev.reg_setFld_apart _ _ _ _ (connKey_ne (by decide)))).trans hb

end Dev.MovesCmds

/-- A LIVE connection that is lost waits to try again, marked lost (R367). -/
theorem Dev.loseOne_shows {d : Dev} {k : Nat} {c : StoConn} (hk : k < 32768) (hc : d.conn? k = some c) (h2 : d.connState k = 2) :
    (d.loseOne k).connState k = 3 ∧ (∃ x, (d.loseOne k).conn? k = some x ∧ x.lost = true) ∧
    (∀ i, i < 24 → d.bit Reg.STO_EVT_STATUS i = true → (d.loseOne k).bit Reg.STO_EVT_STATUS i = true) := by
  unfold Dev.loseOne
  rw [hc]
  dsimp only
  rw [if_neg (by omega)]
  have hmoved := (Dev.MovesCmds.failAll hk (Map.keys c.cmds) d).trans ((Dev.MovesCmds.keeps hk (.dropUnits _ k none)).trans (.countLoss _))
  generalize ((((Map.keys c.cmds).foldl (fun d cid => d.failCmd k cid 3 0 (hostPathing false) false) d).dropUnits k none).countFld
    (Reg.STO_CONN_STATEk k) 0 8) = x at hmoved
  obtain ⟨y, hy, -⟩ := hmoved.conn c hc
  have hset := Dev.conn?_setConn hy (fun c => { c with lost := true, retrans := 0, cmds := [] })
  have hmoved' := hmoved.trans (.setConn x (fun c => { c with lost := true, retrans := 0, cmds := [] }) fun _ => rfl)
  generalize x.setConn k (fun c => { c with lost := true, retrans := 0, cmds := [] }) = z at hset hmoved'
  have hlive : z.connState k = 2 := hmoved'.state.trans h2
  obtain ⟨hstate, hsto, -, -, hkeep, -⟩ := Dev.setConnState_shows (d := z) (k := k) (st := 3) (by decide) (by omega)
  exact ⟨hstate, ⟨_, (Dev.conn?_congr hsto k).trans hset, rfl⟩, fun i hi hb => hkeep i hi (hmoved'.evt i hi hb)⟩

theorem Dev.loseConn_eq {d : Dev} {k : Nat} {c : StoConn} (hc : d.conn? k = some c) (h2 : d.connState k = 2)
    (hq : c.target = true → d.nvqsOf k = []) : d.loseConn k = d.loseOne k := by
  unfold Dev.loseConn
  rw [if_neg (by omega), hc]
  dsimp only
  split
  · next h => rw [hq h]; rfl
  · rfl

theorem Dev.loseConn_free {d : Dev} {k : Nat} (h : d.connState k ≠ 2) : d.loseConn k = d := if_pos h

/-! ## Objects (R361 to R365, R367) -/

theorem Dev.stoOperate_noKind {d : Dev} {v : Word} (h : Word.fld v 4 2 = 3) {op n : Nat} (hn : n = 3 * 2 ^ 24 + 3 * 16 + op) :
    d.stoOperate v op = d.setN Reg.STO_OBJ_CMD n := by
  subst hn
  unfold Dev.stoOperate
  dsimp only
  rw [h, if_pos (Or.inl rfl)]

section
variable {d : Dev} {v : Word} {i : Nat} (h : Word.fld v 4 2 = 2) (hi : d.fld Reg.STO_OBJ_INDEX 0 15 = i) (hlt : i < 16384)
include h hi hlt

/-- An operation, but a creation, on an index that no namespace uses. -/
theorem Dev.stoOperate_unused (hn : Map.get? d.sto.namespaces i = none) {op : Nat} (hop : op ≠ 2) :
    d.stoOperate v op = d.setN Reg.STO_OBJ_CMD (1 * 2 ^ 24 + 2 * 16 + op) := by
  have hobj : d.stoObject 2 i = none := hn
  unfold Dev.stoOperate
  dsimp only
  rw [h, hi, if_neg (by omega), if_neg hop, hobj]

theorem Dev.stoOperate_read {ws : List Word} (hn : Map.get? d.sto.namespaces i = some ws) : d.stoOperate v 1 =
    (d.setRegs (Reg.STO_OBJ_DATA 0) ((List.range 64).map (wordAt ws))).setN Reg.STO_OBJ_CMD (0 * 2 ^ 24 + 2 * 16 + 1) := by
  have hobj : d.stoObject 2 i = some ws := hn
  unfold Dev.stoOperate
  dsimp only
  rw [h, hi, if_neg (by omega), if_neg (by decide), hobj]
  rfl

theorem Dev.stoOperate_destroy {ws : List Word} (hn : Map.get? d.sto.namespaces i = some ws) {err : Nat} {u : Dev}
    (hd : d.stoDestroy 2 i ws = (err, u)) : d.stoOperate v 3 = u.setN Reg.STO_OBJ_CMD (err * 2 ^ 24 + 2 * 16 + 3) := by
  have hobj : d.stoObject 2 i = some ws := hn
  unfold Dev.stoOperate
  dsimp only
  rw [h, hi, if_neg (by omega), if_neg (by decide), hobj]
  dsimp only
  rw [hd]
  rfl

theorem Dev.stoOperate_create {err : Nat} {u : Dev} (hc : d.stoCreate 2 i (d.regs (Reg.STO_OBJ_DATA 0) 5) = (err, u)) :
    d.stoOperate v 2 = u.setN Reg.STO_OBJ_CMD (err * 2 ^ 24 + 2 * 16 + 2) := by
  have hc' : d.stoCreate 2 i (d.regs (Reg.STO_OBJ_DATA 0) (stoWords 2)) = (err, u) := hc
  unfold Dev.stoOperate
  dsimp only
  rw [h, hi, if_neg (by omega), if_pos rfl, hc']

end

theorem Dev.stoCreate_used {d : Dev} {i : Nat} {ws : List Word} (hn : Map.get? d.sto.namespaces i = some ws) (vs : List Word) :
    d.stoCreate 2 i vs = (1, d) := by
  unfold Dev.stoCreate
  refine if_pos ?_
  unfold Dev.stoUsed
  rw [if_pos rfl, hn]
  rfl

/-- A namespace with good words of a live slice is stored (R365). -/
theorem Dev.stoCreate_good {d : Dev} {i : Nat} {ws : List Word} (hn : Map.get? d.sto.namespaces i = none) (hb : d.nsBad i ws = false)
    (hl : d.sliceLive (Word.fld (wordAt ws 0) 0 13) (Word.fld (wordAt ws 0) 16 8) = true) :
    d.stoCreate 2 i ws = (0, { d with sto := { d.sto with namespaces := Map.put d.sto.namespaces i ws } }) := by
  have hused : d.stoUsed 2 i = false := by
    unfold Dev.stoUsed
    rw [if_pos rfl, hn]
    rfl
  have hbad : d.stoBad 2 i ws = false := hb
  unfold Dev.stoCreate
  dsimp only
  rw [hused, hbad, hl, if_neg Bool.false_ne_true, if_neg Bool.false_ne_true]
  rfl

theorem Dev.stoDestroy_quiesced {d : Dev} {ws : List Word} (i : Nat) (h : d.sliceState (Word.fld (wordAt ws 0) 0 13) = 4) :
    d.stoDestroy 2 i ws = (0, { d with sto := { d.sto with namespaces := Map.del d.sto.namespaces i } }) := by
  unfold Dev.stoDestroy
  rw [if_neg (by decide), if_neg (by rw [h]; decide), if_neg (by decide)]

theorem Dev.stoDestroy_busy {d : Dev} {ws : List Word} (i : Nat) (h : d.sliceState (Word.fld (wordAt ws 0) 0 13) ≠ 4) :
    d.stoDestroy 2 i ws = (5, d) := by
  unfold Dev.stoDestroy
  rw [if_neg (by decide), if_pos h]

theorem Dev.regN_setN (d : Dev) (k : Nat) {n : Nat} (h : n < 2 ^ 32) : (d.setN k n).regN k = n := by
  unfold Dev.regN Dev.setN
  rw [Dev.reg_setReg_same, wd, BitVec.toNat_ofNat, Nat.mod_eq_of_lt h]

section
variable {s : State} {v : Word} {i : Nat} (hr : s.dev.running = true) (h : Word.fld v 4 2 = 2) (hi : s.dev.fld Reg.STO_OBJ_INDEX 0 15 = i)
  (hlt : i < 16384)
include hr h hi hlt

theorem exec_stoObjCreate_good (hn : Map.get? s.dev.sto.namespaces i = none) (hb : s.dev.nsBad i (s.dev.regs (Reg.STO_OBJ_DATA 0) 5) = false)
    (hl : s.dev.sliceLive (s.dev.fld (Reg.STO_OBJ_DATA 0) 0 13) (s.dev.fld (Reg.STO_OBJ_DATA 0) 16 8) = true) :
    ∃ t, exec (.stoObjCreate v) s = .next t ∧ Map.get? t.dev.sto.namespaces i = some (s.dev.regs (Reg.STO_OBJ_DATA 0) 5) ∧
      t.dev.regN Reg.STO_OBJ_CMD = 34 ∧ s.dev.sameRegsBut t.dev [Reg.STO_OBJ_CMD] := by
  have hw : wordAt (s.dev.regs (Reg.STO_OBJ_DATA 0) 5) 0 = s.dev.reg (Reg.STO_OBJ_DATA 0) := s.dev.wordAt_regs _ (by decide)
  have hrow : exec (.stoObjCreate v) s = _ := act_run hr
  rw [Dev.stoOperate_create h hi hlt (Dev.stoCreate_good hn hb (by rw [hw]; exact hl))] at hrow
  refine ⟨_, hrow, (congrArg (fun x => Map.get? x.namespaces i) (Dev.setReg_sto _ _ _)).trans (Map.get?_put_same ..), Dev.regN_setN _ _ (by decide),
    fun j hj => (Dev.reg_setReg_other _ _ (List.ne_of_not_mem_cons hj)).trans (Dev.reg_congr rfl j)⟩

theorem exec_stoObjRead_used {ws : List Word} (hn : Map.get? s.dev.sto.namespaces i = some ws) :
    ∃ t, exec (.stoObjRead v) s = .next t ∧ t.dev.regs (Reg.STO_OBJ_DATA 0) 64 = (List.range 64).map (wordAt ws) ∧
      t.dev.regN Reg.STO_OBJ_CMD = 33 ∧ t.dev.sto = s.dev.sto := by
  have hrow : exec (.stoObjRead v) s = _ := act_run hr
  rw [Dev.stoOperate_read h hi hlt hn] at hrow
  have hlen : ((List.range 64).map (wordAt ws)).length = 64 := by simp
  generalize (List.range 64).map (wordAt ws) = vs at hrow hlen
  obtain ⟨rf, e⟩ := s.dev.setRegs_rest (Reg.STO_OBJ_DATA 0) vs
  have hwords (j : Nat) (hj : j < vs.length) := Dev.reg_setRegs vs s.dev (Reg.STO_OBJ_DATA 0) hj
  have hsto : (s.dev.setRegs (Reg.STO_OBJ_DATA 0) vs).sto = s.dev.sto := by rw [e]
  generalize s.dev.setRegs (Reg.STO_OBJ_DATA 0) vs = x at hrow hwords hsto
  refine ⟨_, hrow, ?_, Dev.regN_setN _ _ (by decide), (Dev.setReg_sto _ _ _).trans hsto⟩
  have hread : ∀ j, j < vs.length → (x.setN Reg.STO_OBJ_CMD (0 * 2 ^ 24 + 2 * 16 + 1)).reg (Reg.STO_OBJ_DATA 0 + 4 * j) = wordAt vs j := fun j hj =>
    (Dev.reg_setReg_other _ _ (by unfold Reg.STO_OBJ_DATA Reg.STO_OBJ_CMD; omega)).trans (hwords j hj)
  have hall := Dev.regs_of_words hread
  rw [hlen] at hall
  exact hall

theorem exec_stoObjDestroy_quiesced {ws : List Word} (hn : Map.get? s.dev.sto.namespaces i = some ws)
    (hq : s.dev.sliceState (Word.fld (wordAt ws 0) 0 13) = 4) :
    ∃ t, exec (.stoObjDestroy v) s = .next t ∧ Map.get? t.dev.sto.namespaces i = none ∧ t.dev.regN Reg.STO_OBJ_CMD = 35 := by
  have hrow : exec (.stoObjDestroy v) s = _ := act_run hr
  rw [Dev.stoOperate_destroy h hi hlt hn (Dev.stoDestroy_quiesced i hq)] at hrow
  exact ⟨_, hrow, (congrArg (fun x => Map.get? x.namespaces i) (Dev.setReg_sto _ _ _)).trans (Map.get?_del_same ..), Dev.regN_setN _ _ (by decide)⟩

end

section
variable {s : State} (hr : s.dev.running = true)
include hr

theorem exec_stoObjConnect_failed {v : Word} {c : StoConn} (h : Word.fld v 4 2 = 0) (hc : s.dev.conn? (s.dev.fld Reg.STO_OBJ_INDEX 0 15) = some c)
    (ht : c.target = true) (h4 : s.dev.connState (s.dev.fld Reg.STO_OBJ_INDEX 0 15) = 4) :
    ∃ t, exec (.stoObjConnect v) s = .next t ∧ t.dev.connState (s.dev.fld Reg.STO_OBJ_INDEX 0 15) = 1 ∧
      t.dev.bit Reg.STO_EVT_STATUS 0 = true ∧ t.dev.regN Reg.STO_OBJ_CMD = 4 := by
  generalize hi : s.dev.fld Reg.STO_OBJ_INDEX 0 15 = i at hc h4
  have hobj : s.dev.stoObject 0 i = some c.words := by
    unfold Dev.stoObject
    rw [hc]
    simp [ht]
  have hrow : exec (.stoObjConnect v) s = .next { s with dev :=
      (((s.dev.setConn i (fun c => { c with lost := false })).setConnState i 1).setN Reg.STO_OBJ_CMD (0 * 2 ^ 24 + 0 * 16 + 4)) } := by
    refine (act_run hr).trans ?_
    unfold Dev.stoOperate
    dsimp only
    rw [h, hi, if_neg (by omega), if_neg (by decide), hobj]
    dsimp only
    rw [if_pos ⟨by decide, h4⟩]
    rfl
  have hset := s.dev.connState_setConn i (fun c => { c with lost := false })
  generalize s.dev.setConn i (fun c => { c with lost := false }) = x at hrow hset
  obtain ⟨hstate, -, hevt, -⟩ := Dev.setConnState_shows (d := x) (k := i) (st := 1) (by decide) (by omega)
  generalize x.setConnState i 1 = y at hrow hstate hevt
  exact ⟨_, hrow, (Dev.connState_congr (Dev.reg_setReg_other _ _ (connKey_ne (by decide)).symm)).trans hstate,
    (congrArg (Word.bit · 0) (Dev.reg_setReg_other _ _ (by decide))).trans hevt, Dev.regN_setN _ _ (by decide)⟩

end

/-! ## Connections (R360, R367, R369) -/

section
variable {s : State} {k : Fin 32768}

/-- What happens to a connection that is FREE. -/
theorem exec_freeConnection {i : Instr} (h0 : s.dev.connState k.val = 0) (hi : i = Instr.connectFail k ∨ (∃ a b c, i = .connectSuccess k a b c) ∨
    (∃ b, i = .connectionLoss k b) ∨ i = .reconnectExpiry k ∨ i = .ctrlLossExpiry k ∨ i = .closeDone k ∨ i = .keepAliveSend k ∨ i = .katoExpiry k ∨
    i = .tcpRetransmitTimeout k ∨ i = .c2hTermReq k ∨ (∃ ws, i = .nvmeResponse k ws)) : exec i s = .next s := by
  have hlose : s.dev.loseConn k.val = s.dev := Dev.loseConn_free (by omega)
  obtain rfl | ⟨a, b, c, rfl⟩ | ⟨b, rfl⟩ | rfl | rfl | rfl | rfl | rfl | rfl | rfl | ⟨ws, rfl⟩ := hi
  · exact act_same (if_neg (by omega))
  · refine act_same ?_
    unfold Dev.connected
    split
    · rfl
    · exact if_pos (Or.inl (by omega))
  · exact act_same (if_pos (by omega))
  · exact act_same (if_neg (by omega))
  · refine act_same ?_
    split
    · exact if_neg (by omega)
    · rfl
  · exact act_same (if_neg (by omega))
  · refine act_same (if_neg ?_)
    simp [h0]
  · refine act_same ?_
    split
    · exact hlose
    · rfl
  · refine act_same ?_
    split
    · exact if_neg (by simp [h0])
    · rfl
  · exact act_same hlose
  · exact act_same (if_neg (by omega))

variable (hr : s.dev.running = true)
include hr

theorem exec_connectSuccess_target {c : StoConn} (cntlid : Fin 65536) (inCapsule : Nat) (depth : Fin 65536) (hc : s.dev.conn? k.val = some c)
    (ht : c.target = true) (h1 : s.dev.connState k.val = 1) (hlen : c.words.length = 64) :
    ∃ t x, exec (.connectSuccess k cntlid inCapsule depth) s = .next t ∧ t.dev.connState k.val = 2 ∧ t.dev.conn? k.val = some x ∧
      wordAt x.words 15 = wd cntlid.val ∧ x.inCapsule = inCapsule ∧ x.depth = depth.val ∧ t.dev.bit Reg.STO_EVT_STATUS 0 = true := by
  have hrow : ∃ f : StoConn → StoConn, exec (.connectSuccess k cntlid inCapsule depth) s = .next { s with dev :=
      ((s.dev.setConn k.val f).setConnState k.val 2) } ∧
      (f c).words = c.words.set 15 (wd cntlid.val) ∧ (f c).inCapsule = inCapsule ∧
      (f c).depth = depth.val := by
    have e : exec (.connectSuccess k cntlid inCapsule depth) s = _ := act_run hr
    unfold Dev.connected at e
    rw [hc] at e
    dsimp only at e
    rw [if_neg (by simp [h1, ht])] at e
    exact ⟨_, e, if_pos ht, rfl, rfl⟩
  obtain ⟨f, hrow, hw, hic, hd⟩ := hrow
  have hset := Dev.conn?_setConn hc f
  have hst := s.dev.connState_setConn k.val f
  generalize s.dev.setConn k.val f = x at hrow hset hst
  obtain ⟨hstate, hsto, hevt, -⟩ := Dev.setConnState_shows (d := x) (k := k.val) (st := 2) (by decide) (by omega)
  refine ⟨_, f c, hrow, hstate, (Dev.conn?_congr hsto k.val).trans hset, ?_, hic, hd, hevt⟩
  rw [hw, wordAt, List.getElem?_set_self (by omega)]
  rfl

theorem exec_connectFail_connecting (h1 : s.dev.connState k.val = 1) : ∃ t, exec (.connectFail k) s = .next t ∧ t.dev.connState k.val = 3 := by
  have hrow : exec (.connectFail k) s = .next { s with dev := s.dev.setConnState k.val 3 } :=
    (act_run hr).trans (congrArg (fun x => Host.Outcome.next { s with dev := x }) (if_pos h1))
  exact ⟨_, hrow, (Dev.setConnState_shows (by decide) (by omega)).1⟩

/-- Each way a target that is LIVE and has nothing outstanding is lost. -/
theorem exec_targetLost {i : Instr} {c : StoConn}
    (hi : i ∈ [Instr.connectionLoss k false, Instr.connectionLoss k true, Instr.c2hTermReq k, Instr.katoExpiry k])
    (hc : s.dev.conn? k.val = some c) (ht : c.target = true) (hq : s.dev.nvqsOf k.val = []) (h2 : s.dev.connState k.val = 2) :
    ∃ t x, exec i s = .next t ∧ t.dev.connState k.val = 3 ∧ t.dev.conn? k.val = some x ∧ x.lost = true := by
  have hlost {d : Dev} (hsto : d.sto = s.dev.sto) (hst : d.connState k.val = 2) (hrow : exec i s = .next { s with dev := d.loseConn k.val }) :
      ∃ t x, exec i s = .next t ∧ t.dev.connState k.val = 3 ∧ t.dev.conn? k.val = some x ∧ x.lost = true := by
    have hc' : d.conn? k.val = some c := (Dev.conn?_congr hsto k.val).trans hc
    have hq' : d.nvqsOf k.val = [] := by unfold Dev.nvqsOf at hq ⊢; rw [hsto, hq]
    rw [Dev.loseConn_eq hc' hst fun _ => hq'] at hrow
    obtain ⟨hstate, ⟨x, hx, hxl⟩, -⟩ := Dev.loseOne_shows k.isLt hc' hst
    exact ⟨_, x, hrow, hstate, hx, hxl⟩
  simp only [List.mem_cons, List.not_mem_nil, or_false] at hi
  obtain rfl | rfl | rfl | rfl := hi
  · exact hlost (d := s.dev) rfl h2 ((act_run hr).trans (congrArg (fun x => Host.Outcome.next { s with dev := x }) (if_neg (by omega))))
  · refine hlost (d := ((s.dev.stoCount 4).stoEvt 2 k.val).emit (.capsule k.val 2 [])) rfl ?_
      ((act_run hr).trans (congrArg (fun x => Host.Outcome.next { s with dev := x }) (if_neg (by omega))))
    refine (Dev.connState_congr ?_).trans h2
    exact (Dev.reg_stoEvt _ (connKey_ne (by decide)).symm (connKey_ne (by decide)).symm).trans (Dev.reg_count_apart _ _ (connKey_ne (by decide)).symm)
  · exact hlost (d := s.dev) rfl h2 (act_run hr)
  · refine hlost (d := s.dev) rfl h2 ((act_run hr).trans ?_)
    unfold Dev.isTarget
    rw [hc]
    exact congrArg (fun x => Host.Outcome.next { s with dev := x }) (if_pos ht)

theorem exec_reconnectExpiry_waiting (h3 : s.dev.connState k.val = 3) : ∃ t, exec (.reconnectExpiry k) s = .next t ∧ t.dev.connState k.val = 1 ∧
    t.dev.reg (Reg.STO_COUNTS 3) = Word.satAdd (s.dev.reg (Reg.STO_COUNTS 3)) 1 := by
  have hrow : exec (.reconnectExpiry k) s = .next { s with dev := (s.dev.setConnState k.val 1).stoCount 3 } :=
    (act_run hr).trans (congrArg (fun x => Host.Outcome.next { s with dev := x }) (if_pos h3))
  obtain ⟨hstate, -, -, -, -, hreg⟩ := Dev.setConnState_shows (d := s.dev) (k := k.val) (st := 1) (by decide) (by omega)
  refine ⟨_, hrow, (Dev.connState_congr (Dev.reg_count_apart _ _ (connKey_ne (by decide)).symm)).trans hstate, ?_⟩
  refine (Dev.reg_setReg_same _ _ _).trans (congrArg (Word.satAdd · 1) (hreg _ (connKey_ne (by decide)) (by decide) (by decide)))

theorem exec_ctrlLossExpiry_lost {c : StoConn} (hc : s.dev.conn? k.val = some c) (hl : c.lost = true) (h3 : s.dev.connState k.val = 3) :
    ∃ t, exec (.ctrlLossExpiry k) s = .next t ∧ t.dev.connState k.val = 4 ∧ t.dev.bit Reg.STO_EVT_STATUS 1 = true := by
  have hrow : exec (.ctrlLossExpiry k) s = .next { s with dev := s.dev.setConnState k.val 4 } := by
    refine (act_run hr).trans ?_
    rw [hc]
    dsimp only
    rw [if_pos ⟨hl, Or.inl h3⟩]
  obtain ⟨hstate, -, -, hfail, -⟩ := Dev.setConnState_shows (d := s.dev) (k := k.val) (st := 4) (by decide) (by omega)
  exact ⟨_, hrow, hstate, hfail rfl⟩

omit hr in
/-- A register's staged write and its mark dropped. -/
theorem Dev.KeepsSto.unmark (d : Dev) (k : Nat) : d.KeepsSto ((d.unstage k).markExpert k false) := ⟨rfl, fun _ _ => rfl⟩

omit hr in
theorem Dev.KeepsSto.resetRegs (ks : List Nat) (hks : ∀ k ∈ ks, ¬ stoKey k) (d : Dev) :
    d.KeepsSto (ks.foldl (fun d k => ((d.setReg k (resetOf k)).unstage k).markExpert k false) d) := by
  induction ks generalizing d with
  | nil => exact .refl d
  | cons k ks ih =>
    exact ((Dev.KeepsSto.setReg d _ (hks k (by simp))).trans (.unmark _ k)).trans (ih (fun j hj => hks j (List.mem_cons_of_mem _ hj)) _)

omit hr in
/-- A queue freed leaves storage alone. -/
theorem Dev.KeepsSto.freeQueue (d : Dev) {cq : Nat} (hcq : cq < 2) (sl n : Nat) : d.KeepsSto (d.freeQueue cq sl n) := by
  unfold Dev.freeQueue
  split
  · exact .refl d
  next q _ =>
  extract_lets ks x r r' r''
  have hks : ∀ k ∈ ks, ¬ stoKey k := by
    intro k hk
    have hlow : 0x20000000 ≤ k := by
      simp only [ks, List.mem_append, List.mem_map, List.mem_cons, List.not_mem_nil, or_false, Reg.RNG_QCFG0, Reg.RNG_QSTATE0, Reg.RNG_QSTATE1,
        Reg.RNG_QSTATE2, Reg.RNG_QSTATE3] at hk
      omega
    unfold stoKey
    omega
  have hx : d.KeepsSto x := .resetRegs ks hks d
  clear_value x
  exact hx.trans (.setRng x _)

theorem exec_closeDone_closing {c : StoConn} (hc : s.dev.conn? k.val = some c) (h5 : s.dev.connState k.val = 5) :
    ∃ t, exec (.closeDone k) s = .next t ∧ t.dev.conn? k.val = none ∧ t.dev.connState k.val = 0 := by
  obtain ⟨hstate, hsto, -⟩ := Dev.setConnState_shows (d := s.dev) (k := k.val) (st := 0) (by decide) (by omega)
  have hkey : stoKey (Reg.STO_CONN_STATEk k.val) := by unfold stoKey Reg.STO_CONN_STATEk; omega
  have hpool (d : Dev) (sl : Nat) : d.KeepsSto (d.poolFree sl 5 1) := (Dev.KeepsSto.setSlc d _).trans (.setN _ _ (by decide))
  have hrow : ∃ u, exec (.closeDone k) s = .next { s with dev := u } ∧
      Dev.KeepsSto { (s.dev.setConnState k.val 0).setN (Reg.STO_CONN_STATEk k.val) 0 with
        sto := { ((s.dev.setConnState k.val 0).setN (Reg.STO_CONN_STATEk k.val) 0).sto with
          conns := Map.del ((s.dev.setConnState k.val 0).setN (Reg.STO_CONN_STATEk k.val) 0).sto.conns k.val } } u := by
    have e : exec (.closeDone k) s = _ := (act_run hr).trans (congrArg (fun x => Host.Outcome.next { s with dev := x }) (if_pos h5))
    unfold Dev.freeConn at e
    rw [hc] at e
    dsimp only at e
    refine ⟨_, e, .trans ?_ (hpool _ _)⟩
    split
    · exact .refl _
    · exact (Dev.KeepsSto.freeQueue _ (by decide) _ _).trans (.freeQueue _ (by decide) _ _)
  obtain ⟨u, hrow, hu⟩ := hrow
  generalize s.dev.setConnState k.val 0 = x at hu
  refine ⟨_, hrow, (Dev.conn?_congr hu.1 _).trans (Map.get?_del_same ..), ?_⟩
  have hreg : u.reg (Reg.STO_CONN_STATEk k.val) = wd 0 := (hu.2 _ hkey).trans ((Dev.reg_congr rfl _).trans (Dev.reg_setReg_same x _ _))
  exact (congrArg (Word.fld · 29 3) hreg).trans (by decide)

theorem exec_keepAliveSend_live (ht : s.dev.isTarget k.val = true) (h2 : s.dev.connState k.val = 2) :
    exec (.keepAliveSend k) s = .next { s with dev := s.dev.emit (.capsule k.val 4 [0x18]) } := by
  refine (act_run hr).trans (congrArg (fun x => Host.Outcome.next { s with dev := x }) (if_pos ?_))
  rw [ht, h2]
  rfl

theorem exec_tcpRetransmitTimeout_live {c : StoConn} (hc : s.dev.conn? k.val = some c) (ht : s.dev.overTcp k.val = true)
    (h2 : s.dev.connState k.val = 2) : exec (.tcpRetransmitTimeout k) s = .next { s with dev :=
      (if 8 ≤ c.retrans + 1 then s.dev.loseConn k.val else s.dev.setConn k.val (fun x => { x with retrans := x.retrans + 1 })) } := by
  refine (act_run hr).trans ?_
  rw [hc]
  dsimp only
  rw [ht, h2, if_pos (by rfl)]

end

/-! ## Commands (R360, R366, R368 to R372) -/

theorem nvmeBytes_flush {e : List Word} (hop : Word.fld (wordAt e 0) 0 8 = 0) (ns : List Word) : nvmeBytes e ns = 0 := by
  unfold nvmeBytes
  rw [hop]
  rfl

theorem zeroWrite_flush {e : List Word} (hop : Word.fld (wordAt e 0) 0 8 = 0) (ns : List Word) : zeroWrite e ns = false := by
  unfold zeroWrite
  rw [hop]
  rfl

/-- A good Flush passes every local check (R371). -/
theorem Dev.nvmeCheck_flush {d : Dev} {c : StoConn} {e nw : List Word} {i : Nat} (hop : Word.fld (wordAt e 0) 0 8 = 0)
    (hres : nvmeReserved e = false) (hn : Map.get? d.sto.namespaces i = some nw) (ht : Word.fld (wordAt nw 3) 16 15 = c.targetOf) :
    d.nvmeCheck c e (some i) [] 0 = none := by
  unfold Dev.nvmeCheck
  dsimp only
  rw [nvmeBytes_flush hop, zeroWrite_flush hop, hop, hres]
  simp [hn, ht]

/-- A command that writes nothing and is not sent yet goes out as a capsule (R366). -/
theorem Dev.sendCmd_capsule {d : Dev} {k cid : Nat} {c : StoConn} {m : StoCmd} (hc : d.conn? k = some c) (hm : Map.get? c.cmds cid = some m)
    (hs : m.sent = false) (hw : m.writes = false) : ∃ e, d.sendCmd k cid =
      (d.emit e).setConn k (fun c => { c with cmds := Map.put c.cmds cid { m with sent := true } }) := by
  unfold Dev.sendCmd
  rw [hc]
  dsimp only
  rw [hm]
  dsimp only
  rw [hs, hw, if_pos (by simp)]
  exact ⟨_, rfl⟩

/-- A good Flush fetched is recorded under a free CID, and sent (R366). -/
theorem Dev.nvmeFetch_flush {d : Dev} {k q i : Nat} {c : StoConn} {e nw : List Word} (hc : d.conn? k = some c) (h2 : d.connState k = 2)
    (hop : Word.fld (wordAt e 0) 0 8 = 0) (hres : nvmeReserved e = false) (hns : d.nsNamed c.slice (wordAt e 1).toNat = some i)
    (hn : Map.get? d.sto.namespaces i = some nw) (ht : Word.fld (wordAt nw 3) 16 15 = c.targetOf) :
    ∃ x y, (d.nvmeFetch k q c e [] [] 0).conn? k = some x ∧ Map.get? x.cmds c.freeCid = some y ∧ y.entry = e ∧ y.sent = true ∧ y.ns = i := by
  unfold Dev.nvmeFetch
  rw [hns]
  extract_lets nsi nw' op bad n writes cid zw held e' m
  have hbad : bad = none := by
    unfold bad
    rw [if_neg (by omega)]
    exact Dev.nvmeCheck_flush hop hres hn ht
  have hop0 : op = 0 := hop
  have hwrites : writes = false := by simp [writes, hop0]
  have hzw : zw = false := zeroWrite_flush hop nw'
  have hentry : m.entry = e := by simp [m, e', hbad, hzw]
  have hmw : m.writes = false := by
    unfold StoCmd.writes
    rw [hentry, hop]
    rfl
  have hsent : m.sent = false := rfl
  have hns' : m.ns = i := rfl
  clear_value m zw writes bad op
  subst hop0 hwrites hbad hzw
  rw [if_neg (by simp)]
  have hkeep := Dev.KeepsSto.consume d q
  cases hcons : d.consume q with
  | mk j u =>
    rw [hcons] at hkeep
    dsimp only
    have hu : (u.stoCount 0).conn? k = some c := (Dev.conn?_congr ((Dev.setReg_sto _ _ _).trans hkeep.1) k).trans hc
    have hset := Dev.conn?_setConn hu (fun c => { c with cmds := Map.put c.cmds cid m })
    generalize (u.stoCount 0).setConn k (fun c => { c with cmds := Map.put c.cmds cid m }) = x at hset
    rw [if_neg (by simp)]
    obtain ⟨em, hsend⟩ := Dev.sendCmd_capsule hset (Map.get?_put_same _ cid m) hsent hmw
    rw [hsend]
    exact ⟨_, _, Dev.conn?_setConn (d := x.emit em) hset _, Map.get?_put_same .., hentry, rfl, hns'⟩

section
variable {s : State} {k : Fin 32768} {c : StoConn} (hr : s.dev.running = true) (hc : s.dev.conn? k.val = some c) (h2 : s.dev.connState k.val = 2)

include hr hc h2

theorem exec_nvmeCommandFetch_flush {entry nw : List Word} {q i : Nat} (ht : c.target = false) (hq : s.dev.queue? 0 c.slice c.queue = some q)
    (hready : s.dev.nvmeReady k.val c = true) (hf : s.dev.fetchable q = true) (hop : Word.fld (wordAt entry 0) 0 8 = 0)
    (hres : nvmeReserved entry = false) (hns : s.dev.nsNamed c.slice (wordAt entry 1).toNat = some i)
    (hn : Map.get? s.dev.sto.namespaces i = some nw) (hto : Word.fld (wordAt nw 3) 16 15 = c.targetOf) :
    ∃ t x y, exec (.nvmeCommandFetch k entry [] [] 0) s = .next t ∧ t.dev.conn? k.val = some x ∧
      Map.get? x.cmds c.freeCid = some y ∧ y.entry = entry ∧ y.sent = true ∧ y.ns = i := by
  obtain ⟨x, y, hx, hy⟩ := Dev.nvmeFetch_flush (q := q) hc h2 hop hres hns hn hto
  refine ⟨{ s with dev := s.dev.nvmeFetch k.val q c entry [] [] 0 }, x, y, (act_run hr).trans ?_, hx, hy⟩
  rw [hc]
  dsimp only
  rw [ht, hq]
  dsimp only
  rw [hready, hf, if_pos (by rfl)]
  rfl

/-- A command whose data have been moved ends with its target's answer (R366). -/
theorem exec_nvmeResponse_ends {cid : Nat} {m : StoCmd} {ws : List Word} (hm : Map.get? c.cmds cid = some m) (hw : Word.fld (wordAt ws 3) 0 16 = cid)
    (hs : m.sent = true) (hd : m.done = false) (hu : m.units = 0) :
    ∃ t x, exec (.nvmeResponse k ws) s = .next t ∧ t.dev.conn? k.val = some x ∧ Map.get? x.cmds cid = none := by
  have hrow : exec (.nvmeResponse k ws) s = .next { s with dev := s.dev.stoResponse k.val ws } :=
    (act_run hr).trans (congrArg (fun x => Host.Outcome.next { s with dev := x }) (if_pos h2))
  have hfound : (s.dev.conn? k.val).bind (fun c => Map.get? c.cmds cid) = some m := by
    rw [hc]
    exact hm
  have hstep : s.dev.stoResponse k.val ws = ((s.dev.setConn k.val (fun c => { c with retrans := 0 })).setConn k.val
      (fun c => { c with cmds := Map.put c.cmds cid { m with resp := some ws } })).settleCmd k.val cid := by
    unfold Dev.stoResponse
    dsimp only
    rw [hw, hfound]
    dsimp only
    rw [hs, hd, if_neg (by simp), if_neg Bool.false_ne_true]
  have hset := Dev.conn?_setConn (Dev.conn?_setConn hc (fun c => { c with retrans := 0 }))
    (fun c => { c with cmds := Map.put c.cmds cid { m with resp := some ws } })
  rw [hstep] at hrow
  generalize (s.dev.setConn k.val (fun c => { c with retrans := 0 })).setConn k.val
      (fun c => { c with cmds := Map.put c.cmds cid { m with resp := some ws } }) = x at hrow hset
  dsimp only at hset
  have hget : Map.get? (Map.put c.cmds cid { m with resp := some ws }) cid = some { m with resp := some ws } := Map.get?_put_same ..
  have hsettle : ∃ r st, x.settleCmd k.val cid = (x.stoComplete k.val cid r 0 0 st).endCmd k.val cid false := by
    unfold Dev.settleCmd
    rw [hset, Option.bind_some, hget]
    dsimp only
    rw [if_pos hu]
    exact ⟨_, _, rfl⟩
  obtain ⟨r, st, hsettle⟩ := hsettle
  rw [hsettle] at hrow
  have hkeep := Dev.KeepsSto.stoComplete x k.val cid r 0 0 st
  generalize x.stoComplete k.val cid r 0 0 st = y at hrow hkeep
  refine ⟨_, _, hrow, Dev.conn?_setConn ((Dev.conn?_congr hkeep.1 k.val).trans hset) _, ?_⟩
  rw [hget]
  exact Map.get?_del_same ..

/-- Read data with a good digest are placed (R369). -/
theorem exec_c2hData_placed {cid : Fin 256} {m : StoCmd} {off : Nat} {bytes : List Byte} (hm : Map.get? c.cmds cid.val = some m) (hs : m.sent = true)
    (hd : m.done = false) (hop : Word.fld (wordAt m.entry 0) 0 8 = 2) (hp : m.placed + bytes.length ≤ m.data.length)
    (ho : off + bytes.length ≤ m.data.length) (he : nsEncrypts (s.dev.nsOf m) = false) :
    ∃ t x y, exec (.c2hData k cid off bytes true false) s = .next t ∧ t.dev.conn? k.val = some x ∧ Map.get? x.cmds cid.val = some y ∧
      y.placed = m.placed + bytes.length ∧ x.retrans = 0 := by
  have hrow : ∃ (n : StoCmd) (fs : List (Nat × Nat)), exec (.c2hData k cid off bytes true false) s = .next { s with dev :=
      ((s.dev.setConn k.val (fun c => { c with retrans := 0, cmds := Map.put c.cmds cid.val n })).scatter c.slice fs bytes) } ∧
      n.placed = m.placed + bytes.length := by
    have e : exec (.c2hData k cid off bytes true false) s = _ := act_run hr
    rw [hc] at e
    dsimp only at e
    rw [hm] at e
    dsimp only at e
    rw [hs, hd, hop, if_neg (by simp [h2]), if_neg (by simp), if_neg (by omega), if_neg Bool.false_ne_true] at e
    unfold Dev.placeData at e
    dsimp only at e
    rw [he, if_pos (by rfl)] at e
    exact ⟨_, _, e, rfl⟩
  obtain ⟨n, fs, hrow, hn⟩ := hrow
  have hset := Dev.conn?_setConn hc (fun c => { c with retrans := 0, cmds := Map.put c.cmds cid.val n })
  generalize s.dev.setConn k.val (fun c => { c with retrans := 0, cmds := Map.put c.cmds cid.val n }) = x at hrow hset
  have hkeep := Dev.KeepsSto.scatter x (s := c.slice) (Word.fld_lt _ 0 13) fs bytes
  exact ⟨_, _, n, hrow, (Dev.conn?_congr hkeep.1 k.val).trans hset, Map.get?_put_same .., hn, rfl⟩

/-- Read data with a bad digest are counted and reported (R369). -/
theorem exec_c2hData_badDigest {cid : Fin 256} {m : StoCmd} (off : Nat) (bytes : List Byte) (hm : Map.get? c.cmds cid.val = some m)
    (hs : m.sent = true) (hd : m.done = false) (hop : Word.fld (wordAt m.entry 0) 0 8 = 2) :
    ∃ t, exec (.c2hData k cid off bytes false false) s = .next t ∧ t.dev.bit Reg.STO_EVT_STATUS 2 = true ∧
      t.dev.reg (Reg.STO_COUNTS 5) = Word.satAdd (s.dev.reg (Reg.STO_COUNTS 5)) 1 := by
  have hrow : exec (.c2hData k cid off bytes false false) s = .next { s with dev :=
      ((((s.dev.stoCount 5).stoEvt 2 k.val).dropUnits k.val (some cid.val)).failCmd k.val cid.val 3 0 (nvmeStatus 0 0x22 false) true) } := by
    refine (act_run hr).trans ?_
    rw [hc]
    dsimp only
    rw [hm]
    dsimp only
    rw [hs, hd, hop, if_neg (by simp [h2]), if_pos (by rfl)]
    rfl
  have hevt : ((s.dev.stoCount 5).stoEvt 2 k.val).bit Reg.STO_EVT_STATUS 2 = true := Dev.bit_stoEvt _ _ (by decide)
  have hcnt : ((s.dev.stoCount 5).stoEvt 2 k.val).reg (Reg.STO_COUNTS 5) = Word.satAdd (s.dev.reg (Reg.STO_COUNTS 5)) 1 :=
    (Dev.reg_stoEvt _ (by decide) (by decide)).trans (Dev.reg_setReg_same _ _ _)
  generalize (s.dev.stoCount 5).stoEvt 2 k.val = x at hrow hevt hcnt
  have hkeep := (Dev.KeepsSto.dropUnits x k.val (some cid.val)).trans (.stoComplete _ k.val cid.val 0 3 0 (nvmeStatus 0 0x22 false))
  unfold Dev.failCmd Dev.endCmd at hrow
  generalize (x.dropUnits k.val (some cid.val)).stoComplete k.val cid.val 0 3 0 (nvmeStatus 0 0x22 false) = y at hrow hkeep
  exact ⟨_, hrow, (congrArg (Word.bit · 2) ((y.reg_setConn _ (connKey_ne (by decide))).trans (hkeep.2 _ (by decide)))).trans hevt,
    (y.reg_setConn _ (connKey_ne (by decide))).trans ((hkeep.2 _ (by decide)).trans hcnt)⟩

/-- Data asked for wait while the cipher still has units of the write (R360, R370). -/
theorem exec_readyToTransfer_waits {cid : Fin 256} {m : StoCmd} {off len : Nat} (hm : Map.get? c.cmds cid.val = some m)
    (ht : s.dev.overTcp k.val = true) (hs : m.sent = true) (hd : m.done = false) (hw : m.writes = true) (hl : off + len ≤ m.data.length)
    (hr2 : m.r2t.length < 16) (hu : m.units ≠ 0) :
    ∃ t x y, exec (.readyToTransfer k cid off len) s = .next t ∧ t.dev.conn? k.val = some x ∧ Map.get? x.cmds cid.val = some y ∧
      y.r2t = m.r2t ++ [(off, len)] ∧ t.dev.out = s.dev.out := by
  have hfound : (s.dev.conn? k.val).bind (fun c => Map.get? c.cmds cid.val) = some m := by
    rw [hc]
    exact hm
  have hrow : exec (.readyToTransfer k cid off len) s = .next { s with dev :=
      ((s.dev.setConn k.val (fun c => { c with retrans := 0, cmds := Map.put c.cmds cid.val { m with r2t := m.r2t ++ [(off, len)] } })).sendCmd
        k.val cid.val) } := by
    refine (act_run hr).trans ?_
    rw [hfound]
    dsimp only
    rw [if_neg (by simp [h2, ht, hs, hd, hw]; omega)]
  have hset := Dev.conn?_setConn hc (fun c => { c with retrans := 0, cmds := Map.put c.cmds cid.val { m with r2t := m.r2t ++ [(off, len)] } })
  have hout := s.dev.out_setConn k.val (fun c => { c with retrans := 0, cmds := Map.put c.cmds cid.val { m with r2t := m.r2t ++ [(off, len)] } })
  generalize s.dev.setConn k.val (fun c => { c with retrans := 0, cmds := Map.put c.cmds cid.val { m with r2t := m.r2t ++ [(off, len)] } }) = x
    at hrow hset hout
  have hget : Map.get? (Map.put c.cmds cid.val { m with r2t := m.r2t ++ [(off, len)] }) cid.val = some { m with r2t := m.r2t ++ [(off, len)] } :=
    Map.get?_put_same ..
  have hwait : x.sendCmd k.val cid.val = x := by
    unfold Dev.sendCmd
    rw [hset]
    dsimp only
    rw [hget]
    dsimp only
    rw [hs, if_neg (by simp), if_neg (by simp [hu])]
  rw [hwait] at hrow
  exact ⟨_, _, _, hrow, hset, hget, rfl, hout⟩

omit hr h2 in
theorem exec_nvmeCommandTimeout_none {cid : Fin 256} (hm : Map.get? c.cmds cid.val = none) : exec (.nvmeCommandTimeout k cid) s = .next s := by
  refine act_same ?_
  rw [hc, Option.bind_some, hm]

theorem exec_nvmeCommandTimeout_loses {cid : Fin 256} {m : StoCmd} (ht : c.target = false) (hm : Map.get? c.cmds cid.val = some m)
    (hd : m.done = false) : ∃ t, exec (.nvmeCommandTimeout k cid) s = .next t ∧ t.dev.connState k.val = 3 ∧
      t.dev.bit Reg.STO_EVT_STATUS 3 = true := by
  have hrow : exec (.nvmeCommandTimeout k cid) s = .next { s with dev :=
      ((((s.dev.stoCount 2).stoEvt 3 k.val).failCmd k.val cid.val 4 0 (hostPathing false) false).loseConn k.val) } := by
    refine (act_run hr).trans ?_
    rw [hc, Option.bind_some, hm]
    dsimp only
    rw [if_neg (by simp [h2, hd])]
  have hsto : ((s.dev.stoCount 2).stoEvt 3 k.val).conn? k.val = some c := (Dev.conn?_congr rfl _).trans hc
  have hstate : ((s.dev.stoCount 2).stoEvt 3 k.val).connState k.val = 2 := (Dev.connState_congr
    ((Dev.reg_stoEvt _ (connKey_ne (by decide)).symm (connKey_ne (by decide)).symm).trans (Dev.reg_count_apart _ _ (connKey_ne (by decide)).symm))).trans h2
  have hevt : ((s.dev.stoCount 2).stoEvt 3 k.val).bit Reg.STO_EVT_STATUS 3 = true := Dev.bit_stoEvt _ _ (by decide)
  generalize (s.dev.stoCount 2).stoEvt 3 k.val = x at hrow hsto hstate hevt
  have hmoved := Dev.MovesCmds.failCmd k.isLt x cid.val 4 0 (hostPathing false) false
  obtain ⟨y, hy, hyt⟩ := hmoved.conn c hsto
  generalize x.failCmd k.val cid.val 4 0 (hostPathing false) false = z at hrow hmoved hy
  have hz : z.connState k.val = 2 := hmoved.state.trans hstate
  rw [Dev.loseConn_eq hy hz fun h => absurd (h.symm.trans (hyt.trans ht)) (by decide)] at hrow
  obtain ⟨h3, -, hkeep⟩ := Dev.loseOne_shows k.isLt hy hz
  exact ⟨_, hrow, h3, hkeep 3 (by decide) (hmoved.evt 3 (by decide) hevt)⟩

theorem exec_stoQuiesceExpiry_one {sl : Fin 8192} {w : Walk} (ht : c.target = false) (hw : Map.get? s.dev.slc.walks sl.val = some w) (h5 : w.step = 5)
    (hb : s.dev.stoBusy sl.val = [k.val]) : ∃ t, exec (.stoQuiesceExpiry sl) s = .next t ∧ t.dev.connState k.val = 3 := by
  have hrow : exec (.stoQuiesceExpiry sl) s = .next { s with dev := s.dev.loseOne k.val } := by
    refine (act_run hr).trans ?_
    rw [hw]
    dsimp only
    rw [if_pos h5, hb, List.foldl_cons, List.foldl_nil, Dev.loseConn_eq hc h2 fun h => absurd (h.symm.trans ht) (by decide)]
  exact ⟨_, hrow, (Dev.loseOne_shows k.isLt hc h2).1⟩

end

theorem exec_stoQuiesceExpiry_noWalk {s : State} {sl : Fin 8192} (hw : Map.get? s.dev.slc.walks sl.val = none) :
    exec (.stoQuiesceExpiry sl) s = .next s := by
  refine act_same ?_
  rw [hw]

/-- Settles O38: the objects of storage, its connections, and the commands of an NVMe queue. -/
theorem storageActs : Obligations.StorageActs := by
  unfold Obligations.StorageActs
  refine ⟨fun s v hr => ⟨fun h => ?_, fun i h hi hlt => ⟨fun hn => ?_, fun ws hn => ?_⟩, fun c h hc ht h4 => exec_stoObjConnect_failed hr h hc ht h4⟩,
    fun s k hr => ?_, fun s k cid c m hr hc ht h2 => ?_⟩
  · have hrow {op n : Nat} (hn : n = 3 * 2 ^ 24 + 3 * 16 + op) : act (fun d => d.stoOperate v op) s =
        .next { s with dev := s.dev.setN Reg.STO_OBJ_CMD n } := by rw [act_run hr, Dev.stoOperate_noKind h hn]
    exact ⟨hrow (op := 1) rfl, hrow (op := 2) rfl, hrow (op := 3) rfl, hrow (op := 4) rfl⟩
  · have hrow {op : Nat} (hop : op ≠ 2) : act (fun d => d.stoOperate v op) s =
        .next { s with dev := s.dev.setN Reg.STO_OBJ_CMD (1 * 2 ^ 24 + 2 * 16 + op) } := by rw [act_run hr, Dev.stoOperate_unused h hi hlt hn hop]
    exact ⟨hrow (op := 1) (by decide), hrow (op := 3) (by decide), exec_stoObjCreate_good hr h hi hlt hn⟩
  · refine ⟨(act_run hr).trans ?_, exec_stoObjRead_used hr h hi hlt hn, exec_stoObjDestroy_quiesced hr h hi hlt hn, fun hq => (act_run hr).trans ?_⟩
    · rw [Dev.stoOperate_create h hi hlt (Dev.stoCreate_used hn _)]
      rfl
    · rw [Dev.stoOperate_destroy h hi hlt hn (Dev.stoDestroy_busy i hq)]
  · refine ⟨fun i h0 hi => exec_freeConnection h0 hi, fun c cntlid inCapsule depth hc ht h1 hlen =>
        exec_connectSuccess_target hr cntlid inCapsule depth hc ht h1 hlen, exec_connectFail_connecting hr,
      fun i c hi hc ht _ hq h2 => exec_targetLost hr hi hc ht hq h2, exec_reconnectExpiry_waiting hr,
      fun c hc hl h3 => exec_ctrlLossExpiry_lost hr hc hl h3, fun c hc h5 => exec_closeDone_closing hr hc h5, exec_keepAliveSend_live hr,
      fun c hc ht h2 => ⟨fun h7 => ?_, fun h7 => ?_⟩⟩
    · rw [exec_tcpRetransmitTimeout_live hr hc ht h2, if_neg (by omega)]
    · rw [exec_tcpRetransmitTimeout_live hr hc ht h2, if_pos (by omega)]
  · exact ⟨fun entry q nw i hq hready hf hop hres hns hn hto => exec_nvmeCommandFetch_flush hr hc h2 ht hq hready hf hop hres hns hn hto,
      fun ws hm hw hs hd hu => exec_nvmeResponse_ends hr hc h2 hm hw hs hd hu,
      fun off bytes hm hs hd hop hp ho he => exec_c2hData_placed hr hc h2 hm hs hd hop hp ho he,
      fun off bytes hm hs hd hop => exec_c2hData_badDigest hr hc h2 off bytes hm hs hd hop,
      fun off len hm hto hs hd hw hl h16 hu => exec_readyToTransfer_waits hr hc h2 hm hto hs hd hw hl h16 hu,
      fun hm => exec_nvmeCommandTimeout_none hc hm, fun hm hd => exec_nvmeCommandTimeout_loses hr hc h2 ht hm hd,
      fun sl => exec_stoQuiesceExpiry_noWalk, fun sl w hw h5 hb => exec_stoQuiesceExpiry_one hr hc h2 ht hw h5 hb⟩

end Sys2Proof.Machine
end


section
/-! DEFINITION. What counting at a port leaves unchanged; frames at the nodes, grants, gates and the scheduler's opcodes (O39). -/

namespace Sys2Proof.Machine

/-! ## Counters of a port and of the scheduler (R394, R414) -/

/-- The registers that counting at a port may change: the scheduler's status windows, the MAC's event, the counters of the ports, and
those of telling the hosts. -/
abbrev portReg (k : Nat) : Prop := (0xec0000 ≤ k ∧ k < 0xf00000) ∨ (0xf00900 ≤ k ∧ k < 0xf00908) ∨
  (0xf10000 ≤ k ∧ k < 0xf14000 ∧ 12 ≤ (k - 0xf10000) % 0x400) ∨ hostReg k

/-- `t` is `d` but for counters, events and what a host is told. -/
structure Dev.Counted (d t : Dev) : Prop where
  regs : ∀ k, ¬ portReg k → t.reg k = d.reg k
  rest : t = { d with rf := { d.rf with act := t.rf.act }, pce := t.pce, out := t.out }

namespace Dev.Counted

theorem refl (d : Dev) : d.Counted d := ⟨fun _ _ => rfl, rfl⟩

theorem trans {d t u : Dev} (h : d.Counted t) (h' : t.Counted u) : d.Counted u where
  regs k hk := (h'.regs k hk).trans (h.regs k hk)
  rest := by rw [h'.rest, h.rest]

theorem setReg (d : Dev) {k : Nat} (v : Word) (hk : portReg k) : d.Counted (d.setReg k v) :=
  ⟨fun j hj => Dev.reg_setReg_other d v fun he : j = k => hj (he ▸ hk), rfl⟩

theorem set64 (d : Dev) {k : Nat} (v : Nat) (hlo : portReg k) (hhi : portReg (k + 4)) : d.Counted (d.set64 k v) :=
  (setReg d _ hlo).trans (setReg _ _ hhi)

theorem told {d t : Dev} (h : d.ToldHost t) : d.Counted t :=
  ⟨fun k hk => h.regs k fun hh => hk (.inr (.inr (.inr hh))), h.rest⟩

theorem macEvt (d : Dev) (p b : Nat) : d.Counted (d.macEvt p b) := (setReg d _ (by decide)).trans (setReg _ _ (by decide))

theorem portCount (d : Dev) {p i : Nat} (hp : p < 16) (hi : i < 24) (n : Nat) : d.Counted (d.portCount p i n) := by
  have hset (v : Nat) : d.Counted (d.set64 (Reg.MAC_PORTp_CNT p (2 * i)) v) :=
    set64 d v (by unfold portReg Reg.MAC_PORTp_CNT; omega) (by unfold portReg Reg.MAC_PORTp_CNT; omega)
  unfold Dev.portCount
  extract_lets k old new x
  split
  · exact hset _
  · exact (((hset _).trans (setReg _ _ (by unfold portReg Reg.MAC_PORTp_HALF; omega))).trans (macEvt _ _ _)).trans
      (told (Dev.ToldHost.notifyAll _ _))

theorem schWindow {w i : Nat} (hw : w < 4) (hi : i < 64) : portReg (Reg.SCH_COUNTS w i) := by unfold portReg Reg.SCH_COUNTS; omega

theorem schCount (d : Dev) (p : Nat) {i : Nat} (hi : i < 64) : d.Counted (d.schCount p i) :=
  setReg d _ (schWindow (Word.fld_lt _ _ 2) hi)

theorem nodeCount (d : Dev) (n : Nat) {i : Nat} (hi : i < 64) : d.Counted (d.nodeCount n i) :=
  setReg d _ (schWindow (Word.fld_lt _ _ 2) hi)

theorem when {d : Dev} {b : Bool} {f : Dev → Dev} (h : d.Counted (f d)) : d.Counted (d.when b f) := by
  cases b
  · exact refl d
  · exact h

variable {d t : Dev}

theorem fld (h : d.Counted t) {k : Nat} (lo n : Nat) (hk : ¬ portReg k) : t.fld k lo n = d.fld k lo n := by
  rw [Dev.fld, h.regs k hk, Dev.fld]

theorem bit (h : d.Counted t) {k : Nat} (i : Nat) (hk : ¬ portReg k) : t.bit k i = d.bit k i := by
  rw [Dev.bit, h.regs k hk, Dev.bit]

theorem sch (h : d.Counted t) : t.sch = d.sch := by rw [h.rest]

theorem prs (h : d.Counted t) : t.prs = d.prs := by rw [h.rest]

theorem gau (h : d.Counted t) : t.gau = d.gau := by rw [h.rest]

theorem mac (h : d.Counted t) : t.mac = d.mac := by rw [h.rest]

theorem pipeOf (h : d.Counted t) (g : Nat) : t.pipeOf g = d.pipeOf g := h.fld _ 2 (by decide)

theorem nodePg (h : d.Counted t) (n : Nat) : t.nodePg n = d.nodePg n := by
  have hk : ¬ portReg (Reg.SCH_NCFG3 n) := by unfold portReg hostReg Reg.SCH_NCFG3; omega
  unfold Dev.nodePg Dev.nodeAt
  rw [h.fld 25 5 hk, h.fld 30 1 hk]

theorem portGroup (h : d.Counted t) (p : Nat) : t.portGroup p = d.portGroup p := by
  have hk : ¬ portReg (Reg.SCH_NCFG3 p) := by unfold portReg hostReg Reg.SCH_NCFG3; omega
  unfold Dev.portGroup
  rw [h.fld 30 1 hk]

end Dev.Counted

theorem Dev.bit_schEvt (d : Dev) (p : Nat) {b : Nat} (hb : b < 24) : (d.schEvt p b).bit (Reg.SCH_EVT_STATUS (d.pipeOf (d.portGroup p))) b = true := by
  refine (Dev.bit_setReg_other _ _ _ ?_).trans (Dev.bit_sqSet_mem d _ hb (List.mem_singleton_self b))
  unfold Reg.SCH_EVT_STATUS Reg.SCH_EVT_PORT
  omega

theorem Dev.bit_nodeEvt (d : Dev) (n : Nat) {b : Nat} (hb : b < 24) : (d.nodeEvt n b).bit (Reg.SCH_EVT_STATUS (d.pipeOf (d.nodePg n))) b = true := by
  refine (Dev.bit_setReg_other _ _ _ ?_).trans (Dev.bit_sqSet_mem d _ hb (List.mem_singleton_self b))
  unfold Reg.SCH_EVT_STATUS Reg.SCH_EVT_PORT
  omega

/-! ## Frames bound for a node (R375, R376, R382) -/

section
variable {d : Dev} {f : Frame} {n : Nat}

theorem Dev.editFrame_none (d : Dev) (h : f.edit = none) : d.editFrame f = f := by
  unfold Dev.editFrame
  rw [h]

theorem Dev.enqueue_detached (he : f.edit = none) (ha : d.attached n = false) (id : Nat) :
    d.enqueue id f n = ((d.nodeCount n 3).nodeEvt n 2).freeFrame id := by
  unfold Dev.enqueue
  rw [Dev.editFrame_none d he, ha]
  rfl

theorem Dev.enqueue_queued (he : f.edit = none) (ha : d.attached n = true) (hf : d.flt.failed = []) (hd : f.dest = none)
    (hroom : d.backlog n + f.len ≤ (d.fld (Reg.SCH_NCFG3 n) 8 12 + 1) * 4096) (id : Nat) : ∃ t : Dev, d.Counted t ∧
      d.enqueue id f n = (t.moveFrame id f (.queued n (d.frameTc (d.nodeAt n) f))).setQueueAt n (d.frameTc (d.nodeAt n) f)
        (t.queueAt n (d.frameTc (d.nodeAt n) f) ++ [id]) := by
  refine ⟨d.when (decide (f.pipe ≠ d.pipeOf (d.nodePg n))) (fun d => d.nodeCount n 9), .when (.nodeCount d n (by decide)), ?_⟩
  unfold Dev.enqueue
  rw [Dev.editFrame_none d he, ha, hf]
  exact (if_neg (by simp [hd])).trans (if_neg (by omega))

theorem Dev.queueAt_setQueueAt (d : Dev) (n tc : Nat) (l : List Nat) : (d.setQueueAt n tc l).queueAt n tc = l := by
  unfold Dev.setQueueAt Dev.showNode Dev.setN
  extract_lets s df
  generalize wd _ = v
  rw [Dev.queueAt, Dev.setReg_sch]
  exact (Map.getD_putD _ _ _ _ _).trans (if_pos rfl)

theorem Dev.prs_setQueueAt (d : Dev) (n tc : Nat) (l : List Nat) : (d.setQueueAt n tc l).prs = d.prs := Dev.setReg_prs _ _ _

theorem Dev.queueAt_congr {d t : Dev} (h : t.sch = d.sch) (n tc : Nat) : t.queueAt n tc = d.queueAt n tc := by
  unfold Dev.queueAt
  rw [h]

end

section
variable {s : State}

theorem exec_nodeEnqueue {f n : Nat} {g : Frame} (hr : s.dev.running = true) (hf : s.dev.frame? f = some g) (hp : g.place = .toNode n)
    (hc : s.dev.needsCipher g = false) : exec (.nodeEnqueue f) s = .next { s with dev := s.dev.enqueue f g n } := by
  have e : exec (.nodeEnqueue f) s = _ := act_run hr
  rw [hf] at e
  dsimp only at e
  rw [hp] at e
  dsimp only at e
  rw [hc, if_neg Bool.false_ne_true] at e
  exact e

theorem exec_nodeEnqueue_elsewhere {f : Nat} {g : Frame} (hf : s.dev.frame? f = some g) (hp : ∀ n, g.place ≠ .toNode n) :
    exec (.nodeEnqueue f) s = .next s := by
  refine act_same ?_
  rw [hf]
  dsimp only
  split
  · next n h => exact absurd h (hp n)
  · rfl

theorem exec_nodeEnqueue_dropped {f n : Nat} {g : Frame} (hr : s.dev.running = true) (hf : s.dev.frame? f = some g) (hp : g.place = .toNode n)
    (hc : s.dev.needsCipher g = false) (he : g.edit = none) (ha : s.dev.attached n = false) :
    ∃ t, exec (.nodeEnqueue f) s = .next t ∧ t.dev.frame? f = none ∧ t.dev.bit (Reg.SCH_EVT_STATUS (s.dev.pipeOf (s.dev.nodePg n))) 2 = true := by
  have hrow := exec_nodeEnqueue hr hf hp hc
  rw [Dev.enqueue_detached he ha] at hrow
  have hx : s.dev.Counted (s.dev.nodeCount n 3) := .nodeCount _ _ (by decide)
  have hbit := (s.dev.nodeCount n 3).bit_nodeEvt n (b := 2) (by decide)
  rw [hx.pipeOf, hx.nodePg] at hbit
  exact ⟨_, hrow, Dev.frame?_freeFrame _ _, hbit⟩

theorem exec_nodeEnqueue_queued {f n : Nat} {g : Frame} (hr : s.dev.running = true) (hf : s.dev.frame? f = some g) (hp : g.place = .toNode n)
    (hc : s.dev.needsCipher g = false) (he : g.edit = none) (ha : s.dev.attached n = true) (hfail : s.dev.flt.failed = []) (hd : g.dest = none)
    (hroom : s.dev.backlog n + g.len ≤ (s.dev.fld (Reg.SCH_NCFG3 n) 8 12 + 1) * 4096) :
    ∃ t h, exec (.nodeEnqueue f) s = .next t ∧ t.dev.frame? f = some h ∧ h.place = .queued n (s.dev.frameTc (s.dev.nodeAt n) g) ∧
      t.dev.queueAt n (s.dev.frameTc (s.dev.nodeAt n) g) = s.dev.queueAt n (s.dev.frameTc (s.dev.nodeAt n) g) ++ [f] := by
  have hrow := exec_nodeEnqueue hr hf hp hc
  obtain ⟨x, hx, e⟩ := Dev.enqueue_queued he ha hfail hd hroom f
  rw [e] at hrow
  refine ⟨_, { g with place := .queued n (s.dev.frameTc (s.dev.nodeAt n) g) }, hrow, ?_, rfl, ?_⟩
  · exact (Dev.frame?_congr (Dev.prs_setQueueAt _ _ _ _) f).trans (Dev.frame?_moveFrame _ _ _ _)
  · exact (Dev.queueAt_setQueueAt _ _ _ _).trans (by rw [Dev.queueAt_congr hx.sch])

/-! ## Grants (R377, R399, R412, R453) -/

theorem exec_portGrant_absent {p : Fin 22} (hp : p.val < 16) (hpres : s.dev.portPresent p.val = false) (n : Nat) :
    exec (.portGrant p n) s = .next s := by
  refine act_same ?_
  rw [if_pos hp, Dev.netGrant, hpres]
  rfl

theorem exec_portGrant_start {p : Fin 22} {u : Dev} (hr : s.dev.running = true) (hp : p.val < 16) (hpres : s.dev.portPresent p.val = true)
    (hhold : s.dev.bit (Reg.MAC_PORTp_CTRL p.val) 30 = false) (hcur : Map.get? s.dev.mac.cur p.val = none)
    (hpause : Map.get? s.dev.mac.paused p.val = none) (hu : s.dev.startNext p.val (s.dev.mayStart p.val) = (u, true)) (n : Nat) :
    exec (.portGrant p n) s = .next { s with dev := u } := by
  have e : exec (.portGrant p n) s = _ := act_run hr
  rw [if_pos hp, Dev.netGrant, hpres, hhold, hcur, hpause, hu] at e
  exact e

section
variable {u : Dev} {f tc : Nat} {g : Frame} (hr : s.dev.running = true) (hu : s.dev.grantTcs 16 tcOrder = (u, some (f, tc)))
  (hg : u.frame? f = some g)
include hr hu hg

theorem exec_portGrant_undelivered (hd : g.dest = none) (n : Nat) : exec (.portGrant 16 n) s = .next { s with dev := u.freeFrame f } := by
  have e : exec (.portGrant 16 n) s = .next { s with dev := s.dev.hostGrant } := act_run hr
  rw [Dev.hostGrant, hu] at e
  dsimp only at e
  rw [hg] at e
  dsimp only at e
  rw [hd] at e
  exact e

theorem exec_portGrant_delivered {x : Dest} (hd : g.dest = some x) (n : Nat) :
    exec (.portGrant 16 n) s = .next { s with dev := (u.hostDeliver g (u.deliveryOf g x)).freeFrame f } := by
  have e : exec (.portGrant 16 n) s = .next { s with dev := s.dev.hostGrant } := act_run hr
  rw [Dev.hostGrant, hu] at e
  dsimp only at e
  rw [hg] at e
  dsimp only at e
  rw [hd] at e
  exact e

end

theorem exec_portGrant_looped {u : Dev} {f tc : Nat} {g : Frame} (hr : s.dev.running = true)
    (hu : s.dev.grantTcs 17 tcOrder = (u, some (f, tc))) (hg : u.frame? f = some g) (n : Nat) : ∃ t h, exec (.portGrant 17 n) s = .next t ∧
      t.dev.frame? f = some h ∧ h.place = .press ∧ h.srcPort = 17 ∧ h.pass = 0 ∧ h.bytes = g.bytes ∧ t.dev.rf = u.rf := by
  have hrow : exec (.portGrant 17 n) s = .next { s with dev := s.dev.loopGrant } := act_run hr
  rw [Dev.loopGrant, hu] at hrow
  dsimp only at hrow
  rw [hg] at hrow
  exact ⟨_, _, hrow, Dev.frame?_putFrame _ _ _, rfl, by show Word.fld (wd (17 * 2 ^ 27)) 27 5 = 17; decide,
    by show Word.fld (wd (17 * 2 ^ 27)) 25 2 = 0; decide, rfl, rfl⟩

theorem exec_portGrant_trellis {t : Fin 4} {u : Dev} {f : Nat} {g : Frame} (hr : s.dev.running = true) (hh : s.dev.trlHead t.val = some (f, g))
    (hl : 4 ≤ s.dev.trlLink t.val) (hc : s.dev.needsCipher g = false)
    (ho : s.dev.offer .portGrant f g.cls (s.dev.unitCost 1 (g.len + 4)) none false = (true, u)) (n : Nat) :
    exec (.portGrant ⟨18 + t.val, by omega⟩ n) s = .next { s with dev := (u.emit (.mesh t.val g.bytes)).freeFrame f } := by
  have e : exec (.portGrant ⟨18 + t.val, by omega⟩ n) s = _ := act_run hr
  dsimp only at e
  rw [if_neg (by omega), if_neg (by omega), if_neg (by omega), Nat.add_sub_cancel_left, Dev.trlGrant, hh] at e
  dsimp only at e
  rw [if_neg (by rw [hc]; simp; omega), ho] at e
  exact e

theorem exec_topUp_listed {ns : List Nat} (hr : s.dev.running = true) (hf : s.dev.sch.former = []) (hl : s.dev.listedNodes = ns) :
    exec .topUp s = .next { s with dev := ns.foldl (fun d n => (d.topBucket n 0).topBucket n 1) s.dev } := by
  have e : exec .topUp s = .next { s with dev := s.dev.topUp } := act_run hr
  rw [Dev.topUp, hf] at e
  simp only [List.foldl_nil] at e
  rw [hl] at e
  exact e

/-! ## Gate events (R384, R385, R412) -/

/-- A frame preempted at a port leaves the registers but the counters, and the angle events. -/
theorem Dev.preempted_keeps (d : Dev) {p : Nat} (hp : p < 16) (c : Nat × Nat) (b : Nat) :
    (∀ k, ¬ portReg k → (d.preempted p c b).reg k = d.reg k) ∧ (d.preempted p c b).gau = d.gau := by
  have hcount (x : Dev) : x.Counted ((x.portCount p 23 1).schCount p 8) := (Dev.Counted.portCount x hp (by decide) 1).trans (.schCount _ p (by decide))
  unfold Dev.preempted
  extract_lets x m cur
  have hx : x.rf = d.rf ∧ x.gau = d.gau := by
    simp only [x]
    split <;> exact ⟨rfl, rfl⟩
  exact ⟨fun k hk => ((hcount _).regs k hk).trans (Dev.reg_congr (d := d) hx.1 k), (hcount _).gau.trans hx.2⟩

theorem Dev.holdNow_keeps (d : Dev) {p : Nat} (hp : p < 16) (sent : Nat) :
    (∀ k, ¬ portReg k → (d.holdNow p sent).reg k = d.reg k) ∧ (d.holdNow p sent).gau = d.gau := by
  unfold Dev.holdNow
  split
  · exact d.preempted_keeps hp _ _
  · exact ⟨fun _ _ => rfl, rfl⟩

theorem Dev.portB_lt {d : Dev} {p b : Nat} (h : d.portB p = some b) : b < 16 := by
  unfold Dev.portB at h
  split at h
  · next k m a c hpair =>
    obtain ⟨j, -, hj⟩ := List.exists_of_findSome?_eq_some hpair
    split at h
    · obtain rfl := Option.some.inj h
      dsimp only at hj
      split at hj
      · have hc : Word.fld (d.reg (Reg.MAC_PAIRk j)) 8 4 = c := by simp only [Option.some.injEq, Prod.mk.injEq] at hj; exact hj.2.2.2
        exact hc ▸ Word.fld_lt _ 8 4
      · exact absurd hj (by simp)
    · exact absurd h (by simp)
  · exact absurd h (by simp)

/-- The gates an entry gives a port. -/
def Dev.gatesFrom (d : Dev) (p e : Nat) : Dev :=
  (((d.setFld (Reg.SCH_PORTp_GSTATE p) 0 8 (Word.fld (d.reg (Reg.SCH_GATE_ACTIVE p e)) 0 8)).setBit (Reg.SCH_PORTp_GSTATE p) 17
    (Word.bit (d.reg (Reg.SCH_GATE_ACTIVE p e)) 9)).setFld (Reg.SCH_PORTp_GSTATE p) 8 6 e)

theorem Dev.gatesFrom_shows (d : Dev) (p : Nat) {e : Nat} (he : e < 64) :
    (d.gatesFrom p e).fld (Reg.SCH_PORTp_GSTATE p) 0 8 = d.fld (Reg.SCH_GATE_ACTIVE p e) 0 8 ∧
      (d.gatesFrom p e).bit (Reg.SCH_PORTp_GSTATE p) 17 = d.bit (Reg.SCH_GATE_ACTIVE p e) 9 ∧
      (d.gatesFrom p e).fld (Reg.SCH_PORTp_GSTATE p) 8 6 = e := by
  refine ⟨?_, ?_, ?_⟩
  · refine (Dev.fld_setFld_other _ _ _ (by decide) (by decide)).trans ((Dev.fld_setBit_other _ _ _ (by decide) (by decide)).trans ?_)
    rw [Dev.fld_setFld_same _ _ _ _ _ (by decide)]
    exact Nat.mod_eq_of_lt (Word.fld_lt _ 0 8)
  · refine (Dev.bit_setFld_other _ _ _ (by decide) (by decide)).trans ?_
    exact Dev.bit_setBit_same _ _ _ _ (by decide)
  · exact (Dev.fld_setFld_same _ _ _ _ _ (by decide)).trans (Nat.mod_eq_of_lt he)

/-- A gate event that takes effect gives the port its entry's gates, and changes no more of its registers or of the angle events. -/
theorem Dev.gateEvent_taken {d : Dev} {p e : Nat} (hp : p < 16) (hpres : d.portPresent p = true) (ha : d.portA p = p) (he : e < d.gateLen p)
    (sent sentB : Nat) : (∀ k, ¬ portReg k → (d.gateEvent p e sent sentB).reg k = (d.gatesFrom p e).reg k) ∧
      (d.gateEvent p e sent sentB).gau = d.gau := by
  have hg : (∀ k, ¬ portReg k → ((d.gatesFrom p e).schCount p 7).reg k = (d.gatesFrom p e).reg k) ∧ ((d.gatesFrom p e).schCount p 7).gau = d.gau :=
    ⟨(Dev.Counted.schCount _ p (by decide)).regs, (Dev.Counted.schCount _ p (by decide)).gau⟩
  have hdef : d.gateEvent p e sent sentB = match (((d.gatesFrom p e).schCount p 7).holdNow p sent).portB p with
      | some b => (((d.gatesFrom p e).schCount p 7).holdNow p sent).holdNow b sentB
      | none => ((d.gatesFrom p e).schCount p 7).holdNow p sent := by
    unfold Dev.gateEvent
    rw [hpres]
    exact if_neg (by simp; omega)
  rw [hdef]
  generalize (d.gatesFrom p e).schCount p 7 = x at hg
  obtain ⟨hxr, hxg⟩ := hg
  obtain ⟨hyr, hyg⟩ := x.holdNow_keeps hp sent
  generalize x.holdNow p sent = y at hyr hyg
  split
  · next b hb =>
    obtain ⟨hzr, hzg⟩ := y.holdNow_keeps (Dev.portB_lt hb) sentB
    exact ⟨fun k hk => (hzr k hk).trans ((hyr k hk).trans (hxr k hk)), hzg.trans (hyg.trans hxg)⟩
  · exact ⟨fun k hk => (hyr k hk).trans (hxr k hk), hyg.trans hxg⟩

/-- A gate event for an absent port is skipped, with its event. -/
theorem Dev.gateEvent_skipped {d : Dev} {p : Nat} (hp : p < 16) (hpres : d.portPresent p = false) (e sent sentB : Nat) :
    (d.gateEvent p e sent sentB).bit (Reg.SCH_EVT_STATUS (d.pipeOf (d.portGroup p))) 3 = true ∧
      (d.gateEvent p e sent sentB).reg (Reg.SCH_PORTp_GSTATE p) = d.reg (Reg.SCH_PORTp_GSTATE p) ∧ (d.gateEvent p e sent sentB).gau = d.gau := by
  have hdef : d.gateEvent p e sent sentB = (d.schCount p 6).schEvt p 3 := by
    unfold Dev.gateEvent
    rw [hpres]
    exact if_pos rfl
  have hx : d.Counted (d.schCount p 6) := .schCount d p (by decide)
  have hbit := (d.schCount p 6).bit_schEvt p (b := 3) (by decide)
  rw [hx.pipeOf, hx.portGroup] at hbit
  have hy (x : Dev) : x.Counted (x.schEvt p 3) := by
    have hw : x.pipeOf (x.portGroup p) < 4 := Word.fld_lt _ _ 2
    exact (Dev.Counted.setReg _ _ (by unfold portReg Reg.SCH_EVT_STATUS; omega)).trans (.setReg _ _ (by unfold portReg Reg.SCH_EVT_PORT; omega))
  rw [hdef]
  exact ⟨hbit, (hx.trans (hy _)).regs _ (by unfold portReg hostReg Reg.SCH_PORTp_GSTATE; omega), (hx.trans (hy _)).gau⟩

theorem exec_gateApply {p : Fin 256} {f : Firing} {fs : List Firing} (hr : s.dev.running = true) (hq : s.dev.gau.firings = f :: fs)
    (hact : f.action = 1) (htgt : f.target = p.val) (hp : p.val < 16) (x y : Nat) : exec (.gateApply p x y) s =
      .next { s with dev := ({ s.dev with gau := { s.dev.gau with firings := fs } } : Dev).gateEvent p.val f.arg.toNat x y } := by
  have e : exec (.gateApply p x y) s = _ := act_run hr
  rw [Dev.takeFiring_head hq hact htgt] at e
  dsimp only at e
  rw [if_pos hp] at e
  exact e

end

/-! ## The opcodes of the scheduler and the ports (R388, R415, R417) -/

/-- Registers written 0 one after another read 0. -/
theorem Dev.reg_foldl_setN_zero (key : Nat → Nat) {k : Nat} (is : List Nat) (d : Dev) (h : d.reg k = 0 ∨ k ∈ is.map key) :
    (is.foldl (fun d i => d.setN (key i) 0) d).reg k = 0 := by
  induction is generalizing d with
  | nil => exact h.resolve_right (by simp)
  | cons i is ih =>
    refine ih _ ?_
    by_cases hk : k = key i
    · exact .inl (hk ▸ Dev.reg_setReg_same _ _ _)
    · rcases h with h | h
      · exact .inl ((Dev.reg_setReg_other _ _ hk).trans h)
      · exact .inr ((List.mem_cons.mp h).resolve_left hk)

/-- A port's counters are 0 once they are cleared, and no command changes. -/
theorem Dev.clearStats_shows (d : Dev) {p : Nat} (hp : p < 16) :
    (d.clearStats p).regs (Reg.MAC_PORTp_CNT p 0) 48 = List.replicate 48 0 ∧ (d.clearStats p).fld (Reg.MAC_PORTp_HALF p) 0 24 = 0 ∧
      (d.clearStats p).cmd = d.cmd := by
  unfold Dev.clearStats
  extract_lets high x y
  have hxc : x.cmd = d.cmd := by
    obtain ⟨rf, e⟩ := Dev.foldl_setReg_rest (Reg.MAC_PORTp_CNT p) (fun _ => wd 0) (List.range 48) d
    exact (congrArg Dev.cmd e :)
  have hx (j : Nat) (hj : j < 48) : x.reg (Reg.MAC_PORTp_CNT p 0 + 4 * j) = 0 := by
    refine Dev.reg_foldl_setN_zero (Reg.MAC_PORTp_CNT p) _ d (.inr (List.mem_map.mpr ⟨j, List.mem_range.mpr hj, ?_⟩))
    unfold Reg.MAC_PORTp_CNT
    omega
  clear_value x
  have hy (k : Nat) (hlo : k ≠ Reg.MAC_EVT_STATUS) (hhi : k ≠ Reg.MAC_EVT_PORT) (hh : ¬ hostReg k) : y.reg k = x.reg k := by
    simp only [y]
    cases high
    · rfl
    · exact ((Dev.ToldHost.notifyAll _ _).regs k hh).trans ((Dev.reg_setReg_other _ _ hhi).trans (Dev.reg_setReg_other _ _ hlo))
  have hyc : y.cmd = x.cmd := by
    simp only [y]
    cases high
    · rfl
    · exact (Dev.ToldHost.notifyAll _ _).cmd
  clear_value y
  refine ⟨?_, Dev.fld_setFld_same _ _ _ _ _ (by decide), (Dev.setReg_cmd _ _ _).trans (hyc.trans hxc)⟩
  refine Dev.regs_of_words (ws := List.replicate 48 0) fun j hj => ?_
  have hj : j < 48 := by simpa using hj
  have hzero : wordAt (List.replicate 48 0) j = 0 := by
    rw [wordAt, List.getElem?_replicate_of_lt hj]
    rfl
  rw [hzero]
  refine (Dev.reg_setFld_apart _ _ _ _ ?_).trans ((hy _ ?_ ?_ ?_).trans (hx j hj))
  · unfold Reg.MAC_PORTp_CNT Reg.MAC_PORTp_HALF; omega
  · unfold Reg.MAC_PORTp_CNT Reg.MAC_EVT_STATUS; omega
  · unfold Reg.MAC_PORTp_CNT Reg.MAC_EVT_PORT; omega
  · unfold hostReg Reg.MAC_PORTp_CNT; omega

/-- A command on a node that is not free strikes the strobe of its words. -/
theorem Dev.nodeStrobe_taken {d t : Dev} {c : Cmd} {n : Nat} {ws : List (Nat × Word)} {r : Res} (hf : d.nodeFree n = false)
    (h : d.stageStrobe c (2 ^ 14) ((Reg.SCH_NCFG4 n, ownerWord c) :: ws) (Res.ok []) = (t, some r)) : d.nodeStrobe c n ws = (t, some r) := by
  have htake : d.takeNodeFor c n = some d := by rw [Dev.takeNodeFor, hf]; rfl
  unfold Dev.nodeStrobe groupSch
  rw [htake]
  dsimp only
  rw [h]
  dsimp only
  exact ite_self _

theorem runNodeAttach_attach {d t : Dev} {c : Cmd} {r : Res} (h31 : Word.bit (c.p 1) 31 = false) (hf : d.nodeFree (c.pf 1 0 16) = false)
    (hsl : c.slice? = none) (hp : c.pf 2 0 8 < 16)
    (h : d.stageStrobe c (2 ^ 14) [(Reg.SCH_NCFG4 (c.pf 1 0 16), 0), (Reg.SCH_NCFG3 (c.pf 1 0 16), Word.setBit (Word.setFld (Word.setFld
      (Word.setBit (d.staged (Reg.SCH_NCFG3 (c.pf 1 0 16))) 30 (Word.bit (c.p 1) 30)) 0 8 (c.pf 3 0 8)) 25 5 (c.pf 2 0 8)) 31 true)]
      (Res.ok []) = (t, some r)) : runNodeAttach c d = (t, some r) := by
  have hown : ownerWord c = 0 := by rw [ownerWord, hsl]
  unfold runNodeAttach
  extract_lets n k owner ws ws' p w w' rx
  have hw : w' = Word.setBit (Word.setFld w 25 5 p) 31 true := if_neg (by simp only [p]; omega)
  have hrx : rx = [] := by simp only [rx, hsl]
  rw [h31, if_neg Bool.false_ne_true, hrx, hw]
  exact Dev.nodeStrobe_taken hf (hown ▸ h)

theorem runPortStatus_absent {d : Dev} {c : Cmd} (h : d.portPresent (c.pf 0 0 4) = false) : runPortStatus c d = (d, some (Res.ok [0])) := by
  exact if_neg (by simp [h])

theorem runPortStatus_lane {d : Dev} {c : Cmd} (h : d.portPresent (c.pf 0 0 4) = true) (hm : d.pgMode (c.pf 0 0 4 / 8) = 0) :
    runPortStatus c d = (d, some (Res.ok [d.reg (Reg.MAC_PORTp_STATUS (c.pf 0 0 4)), d.reg (Reg.MAC_LANEl_FEC (c.pf 0 0 4) 0),
      d.reg (Reg.MAC_LANEl_FEC (c.pf 0 0 4) 1)])) := by
  refine (if_pos h).trans ?_
  rw [hm]
  simp [answer, modeLanes]

theorem runPortStatsRead_present {d : Dev} {c : Cmd} (h : d.portPresent (c.pf 0 0 4) = true) : runPortStatsRead c d =
    (if Word.bit (c.p 0) 31 then d.clearStats (c.pf 0 0 4) else d, some (Res.ok (d.regs (Reg.MAC_PORTp_CNT (c.pf 0 0 4) 0) 48))) := by
  unfold runPortStatsRead answer
  extract_lets p data
  have hdata : data = d.regs (Reg.MAC_PORTp_CNT p 0) 48 := if_pos h
  rw [hdata]

section
variable {s : State}

theorem exec_portStatsRead_clear {m : Fin 16} {tag : Fin 4096} {gen : Fin 16} {c : Cmd} (hr : s.dev.running = true)
    (hs : s.dev.started m.val tag.val gen.val 0x0506 c) (h31 : Word.bit (c.p 0) 31 = true) (hp : s.dev.portPresent (c.pf 0 0 4) = true) :
    ∃ u, exec (.portStatsRead m tag gen) s = .next u ∧ u.dev.finished m.val tag.val gen.val stOK (s.dev.regs (Reg.MAC_PORTp_CNT (c.pf 0 0 4) 0) 48) ∧
      u.dev.regs (Reg.MAC_PORTp_CNT (c.pf 0 0 4) 0) 48 = List.replicate 48 0 ∧ u.dev.fld (Reg.MAC_PORTp_HALF (c.pf 0 0 4)) 0 24 = 0 := by
  obtain ⟨hcnt, hhalf, hcmd⟩ := s.dev.clearStats_shows (p := c.pf 0 0 4) (Word.fld_lt _ 0 4)
  have hrun := runPortStatsRead_present hp
  rw [h31, if_pos rfl] at hrun
  generalize s.dev.clearStats (c.pf 0 0 4) = x at hcnt hhalf hcmd hrun
  obtain ⟨t, hrow, hrf, hfin⟩ := exec_answered hr hs hrun hcmd
  refine ⟨t, hrow, hfin, ?_, ?_⟩
  · rw [Dev.regs_congr fun i _ => Dev.reg_congr hrf _]
    exact hcnt
  · rw [Dev.fld, Dev.reg_congr hrf]
    exact hhalf

end

/-- Settles O39: each row of the transmit scheduler by what its operation does, and the opcodes of the scheduler and the ports. -/
theorem schedulerActs : Obligations.SchedulerActs := by
  unfold Obligations.SchedulerActs
  refine ⟨fun s hr => ⟨fun f g n hf hp hc he ha => exec_nodeEnqueue_dropped hr hf hp hc he ha,
    fun f g n hf hp hc he ha hfail hd hroom => exec_nodeEnqueue_queued hr hf hp hc he ha hfail hd hroom,
    fun f g hf hp => exec_nodeEnqueue_elsewhere hf hp, fun p hp hpres n => exec_portGrant_absent hp hpres n,
    fun p n u hp hpres hhold hcur hpause hu => exec_portGrant_start hr hp hpres hhold hcur hpause hu n,
    fun u f tc g n hu hg hd => exec_portGrant_undelivered hr hu hg hd n, fun u f tc g n hu hg x hd => exec_portGrant_delivered hr hu hg hd n,
    fun u f tc g n hu hg => exec_portGrant_looped hr hu hg n, fun t u f g n hh hl hc ho => exec_portGrant_trellis hr hh hl hc ho n,
    fun hf hl => exec_topUp_listed hr hf hl, fun n hf hl => exec_topUp_listed hr hf hl, ?_⟩, ?_⟩
  · intro p f fs x y hq hact htgt
    refine ⟨fun hp hpres ha he => ?_, fun hp hpres => ?_⟩
    · have hrow := exec_gateApply hr hq hact htgt hp x y
      obtain ⟨hregs, hgau⟩ := Dev.gateEvent_taken (d := { s.dev with gau := { s.dev.gau with firings := fs } }) hp hpres ha he x y
      have he64 : f.arg.toNat < 64 := Nat.lt_of_lt_of_le he (Nat.min_le_left _ _)
      obtain ⟨h0, h17, h8⟩ := Dev.gatesFrom_shows { s.dev with gau := { s.dev.gau with firings := fs } } p.val he64
      have hk := hregs (Reg.SCH_PORTp_GSTATE p.val) (by unfold portReg hostReg Reg.SCH_PORTp_GSTATE; omega)
      exact ⟨_, hrow, congrArg Gau.firings hgau, (congrArg (Word.fld · 0 8) hk).trans h0, (congrArg (Word.bit · 17) hk).trans h17,
        (congrArg (Word.fld · 8 6) hk).trans h8⟩
    · have hrow := exec_gateApply hr hq hact htgt hp x y
      obtain ⟨hbit, hstate⟩ := Dev.gateEvent_skipped (d := { s.dev with gau := { s.dev.gau with firings := fs } }) hp hpres f.arg.toNat x y
      exact ⟨_, hrow, congrArg Gau.firings hstate.2, hbit, hstate.1⟩
  · intro s m tag gen c t r hr
    refine ⟨fun hs hf h => opStep_ok hr hs (Dev.nodeStrobe_taken hf h), fun hs h31 hf hsl hp h => opStep_ok hr hs (runNodeAttach_attach h31 hf hsl hp h),
      fun hs h => opStep_ok hr hs h, fun hs h => h ▸ opStep_ok hr hs rfl, fun hs h => opStep_ok hr hs h,
      fun hs hp => opStep_ok hr hs (runPortStatus_absent hp), fun hs hp hm => opStep_ok hr hs (runPortStatus_lane hp hm),
      fun hs h31 hp => opStep_ok hr hs ?_, fun hs h31 hp => exec_portStatsRead_clear hr hs h31 hp, fun hs h => opStep_ok hr hs h⟩
    rw [runPortStatsRead_present hp, h31, if_neg Bool.false_ne_true]

end Sys2Proof.Machine
end


section
/-! DEFINITION. Links of the ports, frames received and sent, the management port (O40). -/

namespace Sys2Proof.Machine

/-! ## Links (R398, R402) -/

/-- `t` shows a port's link and its faults as `d`, and every event of the MAC that `d` shows. -/
structure Dev.SameLink (p : Nat) (d t : Dev) : Prop where
  link : t.macLink p = d.macLink p
  faults : ∀ i, i = 24 ∨ i = 25 → t.bit (Reg.MAC_PORTp_STATUS p) i = d.bit (Reg.MAC_PORTp_STATUS p) i
  evt : ∀ i, i < 24 → d.bit Reg.MAC_EVT_STATUS i = true → t.bit Reg.MAC_EVT_STATUS i = true

theorem macStatus_ne_evt (p : Nat) : Reg.MAC_EVT_STATUS ≠ Reg.MAC_PORTp_STATUS p := by
  unfold Reg.MAC_EVT_STATUS Reg.MAC_PORTp_STATUS
  omega

theorem macStatus_ne_port (p : Nat) : Reg.MAC_PORTp_STATUS p ≠ Reg.MAC_EVT_PORT := by
  unfold Reg.MAC_EVT_PORT Reg.MAC_PORTp_STATUS
  omega

namespace Dev.SameLink
variable {p : Nat} {d t u : Dev}

theorem refl (p : Nat) (d : Dev) : d.SameLink p d := ⟨rfl, fun _ _ => rfl, fun _ _ h => h⟩

theorem trans (h : d.SameLink p t) (h' : t.SameLink p u) : d.SameLink p u where
  link := h'.link.trans h.link
  faults i hi := (h'.faults i hi).trans (h.faults i hi)
  evt i hi hd := h'.evt i hi (h.evt i hi hd)

/-- A field of the status below the faults or between them and LINK. -/
theorem setFld (p : Nat) (d : Dev) {lo n : Nat} (v : Nat) (h : lo + n ≤ 24 ∨ (26 ≤ lo ∧ lo + n ≤ 29)) :
    d.SameLink p (d.setFld (Reg.MAC_PORTp_STATUS p) lo n v) where
  link := Dev.fld_setFld_other _ _ _ (by decide) (by omega)
  faults i hi := Dev.bit_setFld_other _ _ _ (by omega) (by omega)
  evt i _ hd := (Dev.bit_setReg_other _ _ _ (macStatus_ne_evt p)).trans hd

theorem setBit (p : Nat) (d : Dev) (b : Bool) : d.SameLink p (d.setBit (Reg.MAC_PORTp_STATUS p) 28 b) where
  link := Dev.fld_setBit_other _ _ _ (by decide) (by decide)
  faults i hi := Dev.bit_setBit_other _ _ _ (by omega) (by omega)
  evt i _ hd := (Dev.bit_setReg_other _ _ _ (macStatus_ne_evt p)).trans hd

theorem macEvt (p : Nat) (d : Dev) (q b : Nat) : d.SameLink p (d.macEvt q b) where
  link := (Dev.fld_setReg_other _ _ _ _ (macStatus_ne_port p)).trans (Dev.fld_setReg_other _ _ _ _ (macStatus_ne_evt p).symm)
  faults i _ := (Dev.bit_setReg_other _ _ _ (macStatus_ne_port p)).trans (Dev.bit_setReg_other _ _ _ (macStatus_ne_evt p).symm)
  evt i hi hd := by
    refine (Dev.bit_setReg_other _ _ _ (by decide)).trans ?_
    rw [Dev.bit_sqSet _ _ _ hi, hd]
    rfl

theorem setMac (p : Nat) (d : Dev) (m : Mac) : d.SameLink p { d with mac := m } := ⟨rfl, fun _ _ => rfl, fun _ _ h => h⟩

theorem preemptOff (p : Nat) (d : Dev) : d.SameLink p (d.preemptOff p) :=
  ((setBit p d _).trans (setFld p _ _ (.inr (by decide)))).trans (setMac p _ _)

theorem preemptStart (p : Nat) (d : Dev) : d.SameLink p (d.preemptStart p) := by
  unfold Dev.preemptStart
  split
  · split
    · exact setBit p d _
    · exact (setFld p d _ (.inr (by decide))).trans (setMac p _ _)
  · exact refl p d

end Dev.SameLink

theorem Dev.bit_macEvt (d : Dev) (p : Nat) {b : Nat} (hb : b < 24) : (d.macEvt p b).bit Reg.MAC_EVT_STATUS b = true :=
  (Dev.bit_setReg_other _ _ _ (by decide)).trans (Dev.bit_sqSet_mem d _ hb (List.mem_singleton_self b))

/-- A port's LINK moves: its faults stand, and coming UP and leaving UP set their events. -/
theorem Dev.setLink_shows (d : Dev) (p : Nat) {st : Nat} (hst : st < 8) : (d.setLink p st).macLink p = st ∧
    (∀ i, i = 24 ∨ i = 25 → (d.setLink p st).bit (Reg.MAC_PORTp_STATUS p) i = d.bit (Reg.MAC_PORTp_STATUS p) i) ∧
    (st = 4 → d.macLink p ≠ 4 → (d.setLink p st).bit Reg.MAC_EVT_STATUS 0 = true) ∧
    (d.macLink p = 4 → st ≠ 4 → (d.setLink p st).bit Reg.MAC_EVT_STATUS 1 = true) := by
  have hx : (d.setFld (Reg.MAC_PORTp_STATUS p) 29 3 st).macLink p = st :=
    (Dev.fld_setFld_same _ _ _ _ _ (by decide)).trans (Nat.mod_eq_of_lt hst)
  have hxf (i : Nat) (hi : i = 24 ∨ i = 25) :
      (d.setFld (Reg.MAC_PORTp_STATUS p) 29 3 st).bit (Reg.MAC_PORTp_STATUS p) i = d.bit (Reg.MAC_PORTp_STATUS p) i :=
    Dev.bit_setFld_other _ _ _ (by omega) (by omega)
  have hof {t : Dev} (h : (d.setFld (Reg.MAC_PORTp_STATUS p) 29 3 st).SameLink p t) : t.macLink p = st ∧
      ∀ i, i = 24 ∨ i = 25 → t.bit (Reg.MAC_PORTp_STATUS p) i = d.bit (Reg.MAC_PORTp_STATUS p) i :=
    ⟨h.link.trans hx, fun i hi => (h.faults i hi).trans (hxf i hi)⟩
  unfold Dev.setLink
  extract_lets old x y
  split
  · next h =>
    have hcount : x.SameLink p (x.countFld (Reg.MAC_PORTp_STATUS p) 0 8) := .setFld p x _ (.inl (by decide))
    have hy : ((x.countFld (Reg.MAC_PORTp_STATUS p) 0 8).macEvt p 1).SameLink p y := .preemptOff p _
    have hxy : x.SameLink p y := (hcount.trans (.macEvt p _ p 1)).trans hy
    have h1 : y.bit Reg.MAC_EVT_STATUS 1 = true := hy.evt 1 (by decide) (Dev.bit_macEvt _ _ (by decide))
    split
    · obtain ⟨hl, hf⟩ := hof (hxy.trans (.macEvt p _ p 2))
      exact ⟨hl, hf, fun h4 => absurd h4 h.2, fun _ _ => (Dev.SameLink.macEvt p y p 2).evt 1 (by decide) h1⟩
    · obtain ⟨hl, hf⟩ := hof hxy
      exact ⟨hl, hf, fun h4 => absurd h4 h.2, fun _ _ => h1⟩
  · next h =>
    split
    · next h' =>
      obtain ⟨hl, hf⟩ := hof ((Dev.SameLink.macEvt p x p 0).trans (.preemptStart p _))
      exact ⟨hl, hf, fun _ _ => (Dev.SameLink.preemptStart p _).evt 0 (by decide) (Dev.bit_macEvt _ _ (by decide)), fun _ h4 => absurd h'.1 h4⟩
    · next h' =>
      exact ⟨hx, hxf, fun h4 ho => absurd ⟨h4, ho⟩ h', fun ho h4 => absurd ⟨ho, h4⟩ h⟩

theorem Dev.linkMove_moves {d : Dev} {p src : Nat} (hpres : d.portPresent p = true) (hen : d.bit (Reg.MAC_PORTp_CTRL p) 31 = true)
    (hl : d.macLink p = src) (dst : Nat) : d.linkMove p src dst = d.setLink p dst := by
  unfold Dev.linkMove
  rw [hpres, hen, hl]
  exact Dev.when_true _ _ (by simp)

theorem Dev.linkMove_elsewhere {d : Dev} {p src : Nat} (hl : d.macLink p ≠ src) (dst : Nat) : d.linkMove p src dst = d := by
  unfold Dev.linkMove
  exact Dev.when_false _ _ (by simp [hl])

/-- The status of a port but for its local fault leaves the rest of a link event's guards. -/
theorem Dev.linkGuards_setBit (d : Dev) (p : Nat) {i : Nat} (hi : i < 29) (b : Bool) :
    (d.setBit (Reg.MAC_PORTp_STATUS p) i b).portPresent p = d.portPresent p ∧
      (d.setBit (Reg.MAC_PORTp_STATUS p) i b).bit (Reg.MAC_PORTp_CTRL p) 31 = d.bit (Reg.MAC_PORTp_CTRL p) 31 ∧
      (d.setBit (Reg.MAC_PORTp_STATUS p) i b).macLink p = d.macLink p := by
  refine ⟨?_, Dev.bit_setReg_other _ _ _ ?_, Dev.fld_setBit_other _ _ _ (by decide) (.inl hi)⟩
  · unfold Dev.portPresent Dev.pgMode
    rw [show (d.setBit (Reg.MAC_PORTp_STATUS p) i b).fld (Reg.MAC_PGg_MODE (p / 8)) 29 3 = d.fld (Reg.MAC_PGg_MODE (p / 8)) 29 3 from
      Dev.fld_setReg_other _ _ _ _ (by unfold Reg.MAC_PGg_MODE Reg.MAC_PORTp_STATUS; omega)]
  · unfold Reg.MAC_PORTp_CTRL Reg.MAC_PORTp_STATUS
    omega

section
variable {s : State} {p : Fin 16}

theorem exec_linkMove (hr : s.dev.running = true) {i : Instr} {src dst : Nat}
    (h : (i, src, dst) ∈ [(Instr.linkSignalDetect p, 1, 2), (.linkTrainingDone p, 2, 3), (.linkTrainingTimeout p, 2, 1)]) :
    exec i s = .next { s with dev := s.dev.linkMove p.val src dst } := by
  simp only [List.mem_cons, List.not_mem_nil, or_false, Prod.mk.injEq] at h
  obtain ⟨rfl, rfl, rfl⟩ | ⟨rfl, rfl, rfl⟩ | ⟨rfl, rfl, rfl⟩ := h <;> exact act_run hr

/-- What a link event that moves a port from `src` to `dst` shows. -/
structure Dev.LinkMoved (d t : Dev) (p src dst : Nat) : Prop where
  link : t.macLink p = dst
  up : dst = 4 → t.bit Reg.MAC_EVT_STATUS 0 = true
  down : src = 4 → t.bit Reg.MAC_EVT_STATUS 1 = true

theorem Dev.setLink_moved {d : Dev} {p src dst : Nat} (hl : d.macLink p = src) (hne : src ≠ dst) (hdst : dst < 8) :
    d.LinkMoved (d.setLink p dst) p src dst := by
  obtain ⟨hlink, -, hup, hdown⟩ := d.setLink_shows p hdst
  exact ⟨hlink, fun h => hup h (by omega), fun h => hdown (by omega) (by omega)⟩

/-- A fault shown over a link that has moved. -/
theorem Dev.LinkMoved.setFault {d t : Dev} {p src dst : Nat} (h : d.LinkMoved t p src dst) {i : Nat} (hi : i < 29) (b : Bool) :
    d.LinkMoved (t.setBit (Reg.MAC_PORTp_STATUS p) i b) p src dst :=
  ⟨(t.linkGuards_setBit p hi b).2.2.trans h.link, fun h4 => (Dev.bit_setReg_other _ _ _ (macStatus_ne_evt p)).trans (h.up h4),
    fun h4 => (Dev.bit_setReg_other _ _ _ (macStatus_ne_evt p)).trans (h.down h4)⟩

theorem exec_linkMove_moved (hr : s.dev.running = true) {i : Instr} {src dst : Nat}
    (h : (i, src, dst) ∈ [(Instr.linkSignalDetect p, 1, 2), (.linkTrainingDone p, 2, 3), (.linkTrainingTimeout p, 2, 1)])
    (hl : s.dev.macLink p.val = src) (hpres : s.dev.portPresent p.val = true) (hen : s.dev.bit (Reg.MAC_PORTp_CTRL p.val) 31 = true) :
    ∃ t, exec i s = .next t ∧ s.dev.LinkMoved t.dev p.val src dst := by
  have hrow := exec_linkMove hr h
  rw [Dev.linkMove_moves hpres hen hl] at hrow
  refine ⟨_, hrow, Dev.setLink_moved hl ?_ ?_⟩ <;>
    · simp only [List.mem_cons, List.not_mem_nil, or_false, Prod.mk.injEq] at h
      omega

theorem exec_linkAligned_moved (hr : s.dev.running = true) (hl : s.dev.macLink p.val = 3) (hpres : s.dev.portPresent p.val = true)
    (hen : s.dev.bit (Reg.MAC_PORTp_CTRL p.val) 31 = true) : ∃ t, exec (.linkAligned p) s = .next t ∧ s.dev.LinkMoved t.dev p.val 3 4 ∧
      t.dev.bit (Reg.MAC_PORTp_STATUS p.val) 25 = false := by
  have hrow : exec (.linkAligned p) s = _ := act_run hr
  obtain ⟨hp', he', hl'⟩ := s.dev.linkGuards_setBit p.val (i := 25) (by decide) false
  rw [Dev.when_true _ _ (by simp [hl]), Dev.linkMove_moves (hp'.trans hpres) (he'.trans hen) (hl'.trans hl)] at hrow
  obtain ⟨-, hf, -, -⟩ := (s.dev.setBit (Reg.MAC_PORTp_STATUS p.val) 25 false).setLink_shows p.val (st := 4) (by decide)
  obtain ⟨hlink, hup, hdown⟩ := Dev.setLink_moved (hl'.trans hl) (dst := 4) (by decide) (by decide)
  exact ⟨_, hrow, ⟨hlink, hup, hdown⟩, (hf 25 (.inr rfl)).trans (Dev.bit_setBit_same _ _ _ _ (by decide))⟩

theorem exec_linkLockLoss_moved (hr : s.dev.running = true) (hl : s.dev.macLink p.val = 4) (hpres : s.dev.portPresent p.val = true)
    (hen : s.dev.bit (Reg.MAC_PORTp_CTRL p.val) 31 = true) (b : Bool) : ∃ t, exec (.linkLockLoss p b) s = .next t ∧
      s.dev.LinkMoved t.dev p.val 4 1 ∧ t.dev.bit (Reg.MAC_PORTp_STATUS p.val) 25 = b := by
  have hrow : exec (.linkLockLoss p b) s = _ := act_run hr
  rw [Dev.when_true _ _ (by simp [hl]), Dev.linkMove_moves hpres hen hl] at hrow
  exact ⟨_, hrow, (Dev.setLink_moved hl (by decide) (by decide)).setFault (by decide) b, Dev.bit_setBit_same _ _ _ _ (by decide)⟩

theorem exec_remoteFaultReceived_moved (hr : s.dev.running = true) (hl : s.dev.macLink p.val = 4) (hpres : s.dev.portPresent p.val = true)
    (hen : s.dev.bit (Reg.MAC_PORTp_CTRL p.val) 31 = true) : ∃ t, exec (.remoteFaultReceived p) s = .next t ∧
      s.dev.LinkMoved t.dev p.val 4 5 ∧ t.dev.bit (Reg.MAC_PORTp_STATUS p.val) 24 = true := by
  have hrow : exec (.remoteFaultReceived p) s = _ := act_run hr
  rw [Dev.when_true _ _ (by simp [hl]), Dev.linkMove_moves hpres hen hl] at hrow
  exact ⟨_, hrow, (Dev.setLink_moved hl (by decide) (by decide)).setFault (by decide) true, Dev.bit_setBit_same _ _ _ _ (by decide)⟩

theorem exec_remoteFaultCleared_moved (hr : s.dev.running = true) (hl : s.dev.macLink p.val = 5) (hpres : s.dev.portPresent p.val = true)
    (hen : s.dev.bit (Reg.MAC_PORTp_CTRL p.val) 31 = true) : ∃ t, exec (.remoteFaultCleared p) s = .next t ∧
      s.dev.LinkMoved t.dev p.val 5 4 ∧ t.dev.bit (Reg.MAC_PORTp_STATUS p.val) 24 = false := by
  have hrow : exec (.remoteFaultCleared p) s = _ := act_run hr
  obtain ⟨hp', he', hl'⟩ := s.dev.linkGuards_setBit p.val (i := 24) (by decide) false
  rw [Dev.when_true _ _ (by simp [hl]), Dev.linkMove_moves (hp'.trans hpres) (he'.trans hen) (hl'.trans hl)] at hrow
  obtain ⟨-, hf, -, -⟩ := (s.dev.setBit (Reg.MAC_PORTp_STATUS p.val) 24 false).setLink_shows p.val (st := 4) (by decide)
  obtain ⟨hlink, hup, hdown⟩ := Dev.setLink_moved (hl'.trans hl) (dst := 4) (by decide) (by decide)
  exact ⟨_, hrow, ⟨hlink, hup, hdown⟩, (hf 24 (.inl rfl)).trans (Dev.bit_setBit_same _ _ _ _ (by decide))⟩

/-- A link event acts in no state but the one it belongs to. -/
theorem exec_linkEvent_elsewhere {i : Instr} {src dst : Nat}
    (h : (i, src, dst) ∈ [(Instr.linkSignalDetect p, 1, 2), (.linkTrainingDone p, 2, 3), (.linkTrainingTimeout p, 2, 1), (.linkAligned p, 3, 4),
      (.linkLockLoss p false, 4, 1), (.linkLockLoss p true, 4, 1), (.remoteFaultReceived p, 4, 5), (.remoteFaultCleared p, 5, 4)])
    (hl : s.dev.macLink p.val ≠ src) : exec i s = .next s := by
  simp only [List.mem_cons, List.not_mem_nil, or_false, Prod.mk.injEq] at h
  obtain ⟨rfl, rfl, rfl⟩ | ⟨rfl, rfl, rfl⟩ | ⟨rfl, rfl, rfl⟩ | ⟨rfl, rfl, rfl⟩ | ⟨rfl, rfl, rfl⟩ | ⟨rfl, rfl, rfl⟩ | ⟨rfl, rfl, rfl⟩ |
    ⟨rfl, rfl, rfl⟩ := h
  · exact act_same (Dev.linkMove_elsewhere hl _)
  · exact act_same (Dev.linkMove_elsewhere hl _)
  · exact act_same (Dev.linkMove_elsewhere hl _)
  all_goals exact act_same (Dev.when_false _ _ (by simp [hl]))

end

/-! ## The verify procedure (R402) -/

section
variable {s : State} {p : Fin 16}

theorem exec_verifyMpacket (hr : s.dev.running = true) (b : Bool) :
    exec (.verifyMpacket p b) s = .next { s with dev := s.dev.verifyStep p.val b } := act_run hr

theorem exec_verifyMpacket_idle (h : s.dev.fld (Reg.MAC_PORTp_STATUS p.val) 26 2 ≠ 1) (b : Bool) : exec (.verifyMpacket p b) s = .next s :=
  act_same (if_pos h)

section
variable (hr : s.dev.running = true) (h : s.dev.fld (Reg.MAC_PORTp_STATUS p.val) 26 2 = 1)
include hr h

theorem exec_verifyMpacket_response : ∃ t, exec (.verifyMpacket p true) s = .next t ∧ t.dev.fld (Reg.MAC_PORTp_STATUS p.val) 26 2 = 2 ∧
    t.dev.bit (Reg.MAC_PORTp_STATUS p.val) 28 = true ∧ s.dev.sameRegsBut t.dev [Reg.MAC_PORTp_STATUS p.val] := by
  have hrow := exec_verifyMpacket (p := p) hr true
  rw [Dev.verifyStep, if_neg (not_not.mpr h), if_pos rfl] at hrow
  refine ⟨_, hrow, ?_, Dev.bit_setBit_same _ _ _ _ (by decide), ?_⟩
  · exact (Dev.fld_setBit_other _ _ _ (by decide) (by decide)).trans (Dev.fld_setFld_same _ _ _ _ _ (by decide))
  · exact ((Dev.sameRegsBut.refl s.dev _).setReg (List.mem_singleton_self _)).setReg (List.mem_singleton_self _)

theorem exec_verifyMpacket_next (hn : Map.getD s.dev.mac.verifies p.val 0 < 3) : ∃ t, exec (.verifyMpacket p false) s = .next t ∧
    t.dev.rf = s.dev.rf ∧ Map.getD t.dev.mac.verifies p.val 0 = Map.getD s.dev.mac.verifies p.val 0 + 1 := by
  have hrow := exec_verifyMpacket (p := p) hr false
  rw [Dev.verifyStep, if_neg (not_not.mpr h), if_neg Bool.false_ne_true, if_pos hn] at hrow
  exact ⟨_, hrow, rfl, (Map.getD_put _ _ _ _ _).trans (if_pos rfl)⟩

theorem exec_verifyMpacket_fails (hn : 3 ≤ Map.getD s.dev.mac.verifies p.val 0) : ∃ t, exec (.verifyMpacket p false) s = .next t ∧
    t.dev.fld (Reg.MAC_PORTp_STATUS p.val) 26 2 = 3 ∧ t.dev.bit Reg.MAC_EVT_STATUS 3 = true := by
  have hrow := exec_verifyMpacket (p := p) hr false
  rw [Dev.verifyStep, if_neg (not_not.mpr h), if_neg Bool.false_ne_true, if_neg (Nat.not_lt.mpr hn)] at hrow
  refine ⟨_, hrow, ?_, (Dev.bit_setReg_other _ _ _ (by decide)).trans (Dev.bit_macEvt _ _ (by decide))⟩
  refine (Dev.fld_setReg_other _ _ _ _ ?_).trans ((Dev.fld_setReg_other _ _ _ _ (macStatus_ne_port _)).trans
    ((Dev.fld_setReg_other _ _ _ _ (macStatus_ne_evt _).symm).trans (Dev.fld_setFld_same _ _ _ _ _ (by decide))))
  unfold Reg.MAC_PORTp_STATUS Reg.MAC_COUNTS
  omega

end

/-! ## Frames received (R401, R414, R422) -/

theorem exec_macFrameReceive_down (hl : s.dev.macLink p.val ≠ 4) (bs : List Byte) (fin : RxEnd) : exec (.macFrameReceive p bs fin) s = .next s :=
  act_same (Dev.when_false _ _ (by simp [hl]))

theorem exec_macFrameReceive (hr : s.dev.running = true) (hl : s.dev.macLink p.val = 4) (hpres : s.dev.portPresent p.val = true)
    (bs : List Byte) (fin : RxEnd) : exec (.macFrameReceive p bs fin) s = .next { s with dev := s.dev.macReceive p.val bs fin } := by
  have e : exec (.macFrameReceive p bs fin) s = _ := act_run hr
  rw [Dev.when_true _ _ (by rw [hpres, hl]; rfl)] at e
  exact e

/-- A count of a port reads back one more, 48 bits wide. -/
theorem Dev.reg64_portCount (d : Dev) {p i : Nat} (hp : p < 16) (hi : i < 24) (n : Nat) :
    (d.portCount p i n).reg64 (Reg.MAC_PORTp_CNT p (2 * i)) = (d.reg64 (Reg.MAC_PORTp_CNT p (2 * i)) + n) % 2 ^ 48 := by
  unfold Dev.portCount
  extract_lets k old new x
  have hx : x.reg64 k = new := Dev.reg64_set64 _ _ (lt_trans (Nat.mod_lt _ (by decide)) (by decide))
  split
  · exact hx
  · have hk (j : Nat) (hj : j = k ∨ j = k + 4) : (((x.sqSet (Reg.MAC_PORTp_HALF p) [i]).macEvt p 4).notifyAll (Reg.MAC_NOTIFY_VECTORf 0)).reg j = x.reg j := by
      have hrange : Reg.MAC_PORTp_HALF p < j ∧ 0xf10000 ≤ j ∧ j < 0xf14000 := by
        unfold Reg.MAC_PORTp_HALF
        simp only [k] at hj
        unfold Reg.MAC_PORTp_CNT at hj
        omega
      refine ((Dev.ToldHost.notifyAll _ _).regs j (by unfold hostReg; omega)).trans ((Dev.reg_setReg_other _ _ ?_).trans
        ((Dev.reg_setReg_other _ _ ?_).trans (Dev.reg_setReg_other _ _ (by omega))))
      · unfold Reg.MAC_EVT_PORT; omega
      · unfold Reg.MAC_EVT_STATUS; omega
    refine Eq.trans ?_ hx
    unfold Dev.reg64
    rw [hk k (.inl rfl), hk (k + 4) (.inr rfl)]

/-- The counter of a frame the MAC refuses. -/
theorem Dev.rxError_lt {d : Dev} {p x : Nat} {bs : List Byte} {fin : RxEnd} (h : d.rxError p bs fin = some x) : x < 24 := by
  unfold Dev.rxError at h
  extract_lets n at h
  split_ifs at h <;> (obtain rfl := Option.some.inj h; decide)

theorem Dev.macReceive_refused {d : Dev} {p x : Nat} {bs : List Byte} {fin : RxEnd} (hlen : bs.length ≤ 192) (hx : d.rxError p bs fin = some x) :
    d.macReceive p bs fin = ({ d with freeCtr := d.freeCtr + 1 } : Dev).portCount p x 1 := by
  have hx' : ({ d with freeCtr := d.freeCtr + 1 } : Dev).rxError p bs fin = some x := hx
  unfold Dev.macReceive Dev.freeNat
  dsimp only
  rw [hx']
  dsimp only
  rw [decide_eq_false (by omega : ¬ 192 < bs.length), Bool.false_and, Bool.false_and]
  exact if_neg Bool.false_ne_true

theorem exec_macFrameReceive_refused (hr : s.dev.running = true) (hl : s.dev.macLink p.val = 4) (hpres : s.dev.portPresent p.val = true)
    {bs : List Byte} {fin : RxEnd} {x : Nat} (hlen : bs.length ≤ 192) (hx : s.dev.rxError p.val bs fin = some x) :
    ∃ t, exec (.macFrameReceive p bs fin) s = .next t ∧ t.dev.prs.frames = s.dev.prs.frames ∧
      t.dev.reg64 (Reg.MAC_PORTp_CNT p.val (2 * x)) = (s.dev.reg64 (Reg.MAC_PORTp_CNT p.val (2 * x)) + 1) % 2 ^ 48 := by
  have hrow := exec_macFrameReceive hr hl hpres bs fin
  rw [Dev.macReceive_refused hlen hx] at hrow
  have hx24 := Dev.rxError_lt hx
  have hprs := (Dev.Counted.portCount { s.dev with freeCtr := s.dev.freeCtr + 1 } p.isLt hx24 1).prs
  have hcnt := Dev.reg64_portCount { s.dev with freeCtr := s.dev.freeCtr + 1 } p.isLt hx24 1
  exact ⟨_, hrow, congrArg Press.frames hprs, hcnt⟩

theorem sizeCounter_lt (n : Nat) : sizeCounter n < 24 := by
  unfold sizeCounter
  split_ifs <;> decide

theorem Dev.Counted.rxGood (d : Dev) {p : Nat} (hp : p < 16) (bs : List Byte) : d.Counted (d.rxGood p bs) := by
  unfold Dev.rxGood
  extract_lets n x
  have hx : d.Counted x := ((portCount d hp (by decide) _).trans (portCount _ hp (by decide) _)).trans (portCount _ hp (sizeCounter_lt n) _)
  split
  · exact hx.trans (portCount _ hp (by decide) _)
  · split
    · exact hx.trans (portCount _ hp (by decide) _)
    · exact hx

theorem findSome?_congr {α β : Type} {f g : α → Option β} {ks : List α} (h : ∀ k ∈ ks, f k = g k) : ks.findSome? f = ks.findSome? g := by
  induction ks with
  | nil => rfl
  | cons k ks ih => rw [List.findSome?_cons, List.findSome?_cons, h k List.mem_cons_self, ih fun j hj => h j (List.mem_cons_of_mem _ hj)]

theorem Dev.pairAt_congr {d t : Dev} (h : ∀ k, k < 8 → t.reg (Reg.MAC_PAIRk k) = d.reg (Reg.MAC_PAIRk k)) (p : Nat) : t.pairAt p = d.pairAt p := by
  unfold Dev.pairAt
  refine findSome?_congr fun k hk => ?_
  rw [h k (List.mem_range.mp hk)]

theorem Dev.Counted.pairAt {d t : Dev} (h : d.Counted t) (p : Nat) : t.pairAt p = d.pairAt p :=
  Dev.pairAt_congr (fun _ _ => h.regs _ (by unfold portReg hostReg Reg.MAC_PAIRk; omega)) p

/-- The record of a frame a port receives. -/
def Dev.rxFrame (d : Dev) (p : Nat) (bs : List Byte) : Frame :=
  { Frame.new (d.pipeOf (p / 8)) p 2 .press bs (Config.freeNat d.freeCtr) (d.rxStamp p) d.now with whole := !decide (192 < bs.length) }

/-- A good frame of a port without a pair or a SecY is a new frame at the Press. -/
theorem Dev.macReceive_good {d : Dev} {p : Nat} {bs : List Byte} {fin : RxEnd} (hp : p < 16) (hx : d.rxError p bs fin = none)
    (hpair : d.pairAt p = none) (hsecy : d.bit (Reg.CRY_SECYy_CTRL p) 31 = false) :
    d.macReceive p bs fin = ((({ d with freeCtr := d.freeCtr + 1 } : Dev).rxGood p bs).newFrame (d.rxFrame p bs)).2 := by
  have hx' : ({ d with freeCtr := d.freeCtr + 1 } : Dev).rxError p bs fin = none := hx
  have hc := Dev.Counted.rxGood { d with freeCtr := d.freeCtr + 1 } hp bs
  unfold Dev.macReceive Dev.freeNat
  dsimp only
  rw [hx']
  dsimp only
  generalize ({ d with freeCtr := d.freeCtr + 1 } : Dev).rxGood p bs = x at hc
  have hp' : x.pairAt p = none := (hc.pairAt p).trans hpair
  have hs' : x.bit (Reg.CRY_SECYy_CTRL p) 31 = false :=
    (hc.bit 31 (by unfold portReg hostReg Reg.CRY_SECYy_CTRL; omega)).trans hsecy
  rw [hp']
  dsimp only
  unfold Dev.pairStage
  rw [hp']
  dsimp only
  unfold Dev.rxEnter Dev.secyReceive
  rw [hs']
  rfl

theorem exec_macFrameReceive_good (hr : s.dev.running = true) (hl : s.dev.macLink p.val = 4) (hpres : s.dev.portPresent p.val = true)
    {bs : List Byte} {fin : RxEnd} (hx : s.dev.rxError p.val bs fin = none) (hpair : s.dev.pairAt p.val = none)
    (hsecy : s.dev.bit (Reg.CRY_SECYy_CTRL p.val) 31 = false) : ∃ t g, exec (.macFrameReceive p bs fin) s = .next t ∧
      t.dev.frame? s.dev.prs.nextFrame = some g ∧ g.bytes = bs ∧ g.place = .press ∧ g.srcPort = p.val ∧ g.pass = 0 ∧
      g.whole = decide (bs.length ≤ 192) ∧ t.dev.prs.nextFrame = s.dev.prs.nextFrame + 1 := by
  have hrow := exec_macFrameReceive hr hl hpres bs fin
  rw [Dev.macReceive_good p.isLt hx hpair hsecy] at hrow
  have hprs := (Dev.Counted.rxGood { s.dev with freeCtr := s.dev.freeCtr + 1 } p.isLt bs).prs
  generalize ({ s.dev with freeCtr := s.dev.freeCtr + 1 } : Dev).rxGood p.val bs = x at hrow hprs
  have hnext : x.prs.nextFrame = s.dev.prs.nextFrame := congrArg Press.nextFrame hprs
  have hport : Word.fld (wd (p.val * 2 ^ 27)) 27 5 = p.val := by
    rw [Word.fld_wd _ (by decide)]
    omega
  have hpass : Word.fld (wd (p.val * 2 ^ 27)) 25 2 = 0 := by
    rw [Word.fld_wd _ (by decide)]
    omega
  refine ⟨_, s.dev.rxFrame p.val bs, hrow, ?_, rfl, rfl, hport, hpass, ?_, ?_⟩
  · exact hnext ▸ Dev.frame?_putFrame _ _ _
  · show (!decide (192 < bs.length)) = _
    rw [← decide_not]
    simp
  · exact congrArg (· + 1) hnext

end

/-! ## Frames sent (R399, R404, R405, R407) -/

section
variable {s : State}

theorem exec_macTransmitEnd_idle {p : Fin 16} (h : Map.get? s.dev.mac.cur p.val = none) : exec (.macTransmitEnd p) s = .next s := by
  refine act_same ?_
  unfold Dev.macSent
  rw [h]

theorem exec_macTransmitEnd_sent {p : Fin 16} {f tc : Nat} {g : Frame} (hr : s.dev.running = true)
    (hcur : Map.get? s.dev.mac.cur p.val = some (f, tc)) (hf : s.dev.frame? f = some g) (hl : s.dev.macLink p.val = 4) (hw : g.whole = true)
    (hi : g.item = none) : ∃ t, exec (.macTransmitEnd p) s = .next t ∧ t.dev.frame? f = none ∧ Map.get? t.dev.mac.cur p.val = none := by
  have e : exec (.macTransmitEnd p) s = _ := act_run hr
  unfold Dev.macSent at e
  rw [hcur] at e
  dsimp only at e
  rw [hf] at e
  dsimp only at e
  rw [if_neg (not_not.mpr hl), hw, hi, if_neg (by simp)] at e
  have hfree : ((({ s.dev with mac := { s.dev.mac with cur := Map.del s.dev.mac.cur p.val } } : Dev).freeFrame f).emit
      (.frameEnd p.val true)).frame? f = none := Dev.frame?_freeFrame _ _
  have hdel : Map.get? ((({ s.dev with mac := { s.dev.mac with cur := Map.del s.dev.mac.cur p.val } } : Dev).freeFrame f).emit
      (.frameEnd p.val true)).mac.cur p.val = none := Map.get?_del_same _ _
  generalize (({ s.dev with mac := { s.dev.mac with cur := Map.del s.dev.mac.cur p.val } } : Dev).freeFrame f).emit
      (.frameEnd p.val true) = x at e hfree hdel
  have hx : x.Counted ((x.portCount p.val 17 1).portCount p.val 18 (g.len + 4)) :=
    (Dev.Counted.portCount x p.isLt (by decide) 1).trans (.portCount _ p.isLt (by decide) _)
  generalize (x.portCount p.val 17 1).portCount p.val 18 (g.len + 4) = y at e hx
  have hy : x.Counted (if (byteAt g.bytes 0).testBit 0 then y.portCount p.val 19 1 else y) := by
    split
    · exact hx.trans (.portCount y p.isLt (by decide) 1)
    · exact hx
  exact ⟨_, e, (Dev.frame?_congr hy.prs f).trans hfree, by rw [hy.mac]; exact hdel⟩

theorem exec_txOffload_elsewhere {f : Nat} {g : Frame} (hf : s.dev.frame? f = some g) (hp : g.place ≠ .offload) :
    exec (.txOffload f) s = .next s := by
  refine act_same ?_
  rw [hf]
  exact if_neg hp

theorem exec_txOffload {f : Nat} {g : Frame} (hr : s.dev.running = true) (hf : s.dev.frame? f = some g) (hp : g.place = .offload) :
    exec (.txOffload f) s = .next { s with dev := s.dev.txOffload f g } := by
  have e : exec (.txOffload f) s = _ := act_run hr
  rw [hf] at e
  dsimp only at e
  rw [if_pos hp] at e
  exact e

theorem Word.bit_of_fld (w : Word) (lo : Nat) {n i : Nat} (h : i < n) : Word.bit w (lo + i) = (Word.fld w lo n).testBit i := by
  rw [Word.fld, Nat.testBit_mod_two_pow, Nat.testBit_shiftRight, Word.bit, decide_eq_true h, Bool.true_and]

theorem Dev.txOffload_none {d : Dev} {f : Frame} (h : Word.fld (wordAt f.offload 0) 23 3 = 0) (id : Nat) :
    d.txOffload id f = d.putFrame id { f with place := .press, offload := [] } := by
  have h23 : Word.bit (wordAt f.offload 0) 23 = false := by rw [Word.bit_of_fld _ 23 (n := 3) (i := 0) (by decide), h]; rfl
  have h24 : Word.bit (wordAt f.offload 0) 24 = false := by rw [Word.bit_of_fld _ 23 (n := 3) (i := 1) (by decide), h]; rfl
  have h25 : Word.bit (wordAt f.offload 0) 25 = false := by rw [Word.bit_of_fld _ 23 (n := 3) (i := 2) (by decide), h]; rfl
  unfold Dev.txOffload
  dsimp only
  rw [h23, h24, h25, if_neg Bool.false_ne_true, Bool.false_and, Bool.false_and, Dev.when_false _ _ rfl, Dev.when_false _ _ rfl]
  rfl

theorem Dev.txOffload_l3 {d : Dev} {f : Frame} (h : Word.fld (wordAt f.offload 0) 23 3 = 4)
    (h3 : (d.txHeaders f).any (fun h => decide (h.2.l3type = 1) && h.2.l4.isSome) = true) (id : Nat) :
    d.txOffload id f = d.putFrame id { d.txL3 f with place := .press, offload := [] } := by
  have h23 : Word.bit (wordAt f.offload 0) 23 = false := by rw [Word.bit_of_fld _ 23 (n := 3) (i := 0) (by decide), h]; rfl
  have h24 : Word.bit (wordAt f.offload 0) 24 = false := by rw [Word.bit_of_fld _ 23 (n := 3) (i := 1) (by decide), h]; rfl
  have h25 : Word.bit (wordAt f.offload 0) 25 = true := by rw [Word.bit_of_fld _ 23 (n := 3) (i := 2) (by decide), h]; rfl
  unfold Dev.txOffload
  dsimp only
  rw [h23, h24, h25, h3, if_neg Bool.false_ne_true, Bool.false_and, Dev.when_false _ _ rfl, Bool.not_true, Bool.and_false,
    Dev.when_false _ _ rfl]
  rfl

theorem Dev.txOffload_noSegment {d : Dev} {f : Frame} (h : Word.bit (wordAt f.offload 0) 23 = true) (hm : Word.fld (wordAt f.offload 1) 16 16 = 0)
    (id : Nat) : d.txOffload id f = (d.count (Reg.MAC_COUNTS 1) 1).freeFrame id := by
  unfold Dev.txOffload
  dsimp only
  rw [h, hm, if_pos rfl]
  exact if_neg fun hc => hc.2.2.2.1 rfl

theorem exec_lroHoldExpiry_none {i : Nat} (h : s.dev.mac.lro[i]? = none) : exec (.lroHoldExpiry i) s = .next s := by
  refine act_same ?_
  rw [h]

theorem exec_lroHoldExpiry_single {i : Nat} {c : LroCtx} (hr : s.dev.running = true) (h : s.dev.mac.lro[i]? = some c)
    (hlen : c.bytes.length = c.first.bytes.length) : exec (.lroHoldExpiry i) s = .next { s with dev :=
      ((({ s.dev with mac := { s.dev.mac with lro := s.dev.mac.lro.filter (fun x => !isLro c.slice c.sq c.tuple x) } } : Dev).count
        (Reg.MAC_COUNTS 2) 1).fillBuffer c.first c.item) } := by
  have e : exec (.lroHoldExpiry i) s = _ := act_run hr
  rw [h] at e
  dsimp only at e
  rw [Dev.lroFlush, if_pos hlen] at e
  exact e

/-! ## The management port (R416) -/

theorem Dev.mgtCharge_keeps (d : Dev) (n : Nat) : (∀ k, k < 0x1200000 → (d.mgtCharge n).reg k = d.reg k) ∧ (d.mgtCharge n).mac = d.mac := by
  unfold Dev.mgtCharge
  rw [Dev.charge_eq]
  constructor
  · intro k hk
    refine Dev.sameRegsBut_addEnergy { d with ebs := d.ebs.charged 1 (d.unitCost 1 n) none } none _ k ?_
    simp only [energyReg, Reg.EBS_ENERGY_DEVICE_LO, List.mem_cons, List.not_mem_nil, or_false]
    omega
  · obtain ⟨rf, ebs, e⟩ := Dev.addEnergy_rest { d with ebs := d.ebs.charged 1 (d.unitCost 1 n) none } none (d.unitCost 1 n)
    rw [e]

theorem exec_mgtFrameReceive_bad (bs : List Byte) : exec (.mgtFrameReceive bs false) s = .next s := act_same rfl

theorem exec_mgtFrameReceive_stored {bs : List Byte} (hr : s.dev.running = true) (hon : s.dev.bit Reg.MAC_MGT_CTRL 31 = true)
    (hlo : 60 ≤ bs.length) (hhi : bs.length ≤ 1518) (hown : s.dev.bit (Reg.MAC_MGT_RXSLOT (512 * s.dev.fld Reg.MAC_MGT_RX_HEAD 0 5)) 31 = true) :
    ∃ t, exec (.mgtFrameReceive bs true) s = .next t ∧
      t.dev.reg (Reg.MAC_MGT_RXSLOT (512 * s.dev.fld Reg.MAC_MGT_RX_HEAD 0 5)) = wd bs.length ∧
      t.dev.regN Reg.MAC_MGT_RX_HEAD = (s.dev.fld Reg.MAC_MGT_RX_HEAD 0 5 + 1) % 32 ∧ t.dev.bit Reg.MAC_EVT_STATUS 5 = true := by
  have e : exec (.mgtFrameReceive bs true) s = _ := act_run hr
  have hh : s.dev.fld Reg.MAC_MGT_RX_HEAD 0 5 < 32 := Word.fld_lt _ 0 5
  unfold Dev.mgtReceive at e
  dsimp only at e
  rw [hon, decide_eq_false (by omega), if_neg (by decide), hown, if_neg (by decide)] at e
  generalize s.dev.fld Reg.MAC_MGT_RX_HEAD 0 5 = h at e hh
  have hword := Dev.reg_setRegs (wd bs.length :: wordsOf (ceilDiv bs.length 4) bs) s.dev (Reg.MAC_MGT_RXSLOT (512 * h)) (i := 0) (by simp)
  generalize s.dev.setRegs (Reg.MAC_MGT_RXSLOT (512 * h)) (wd bs.length :: wordsOf (ceilDiv bs.length 4) bs) = x at e hword
  obtain ⟨hregs, -⟩ := ((x.setN Reg.MAC_MGT_RX_HEAD ((h + 1) % 32)).sqSet Reg.MAC_EVT_STATUS [5]).mgtCharge_keeps (bs.length + 4)
  refine ⟨_, e, ?_, ?_, ?_⟩
  · refine (hregs _ (by unfold Reg.MAC_MGT_RXSLOT; omega)).trans ((Dev.reg_sqSet_other _ _ ?_).trans ((Dev.reg_setReg_other _ _ ?_).trans hword))
    · unfold Reg.MAC_MGT_RXSLOT Reg.MAC_EVT_STATUS; omega
    · unfold Reg.MAC_MGT_RXSLOT Reg.MAC_MGT_RX_HEAD; omega
  · refine (congrArg BitVec.toNat ((hregs _ (by decide)).trans (Dev.reg_sqSet_other _ _ (by decide)))).trans ?_
    exact Dev.regN_setN _ _ (lt_trans (Nat.mod_lt _ (by decide)) (by decide))
  · exact (congrArg (Word.bit · 5) (hregs _ (by decide))).trans (Dev.bit_sqSet_mem _ _ (by decide) (List.mem_singleton_self 5))

theorem exec_mgtTxDone_idle (h : s.dev.mac.mgtHead = s.dev.fld Reg.MAC_MGT_TX_TAIL 0 16) : exec .mgtTxDone s = .next s :=
  act_same (if_pos (.inl h))

theorem exec_mgtTxDone_sends (hr : s.dev.running = true) (h : s.dev.mac.mgtHead ≠ s.dev.fld Reg.MAC_MGT_TX_TAIL 0 16)
    (hown : s.dev.bit (Reg.MAC_MGT_TXSLOT (512 * (s.dev.mac.mgtHead % 32))) 31 = true) (hon : s.dev.bit Reg.MAC_MGT_CTRL 31 = true) :
    ∃ t, exec .mgtTxDone s = .next t ∧ t.dev.mac.mgtHead = (s.dev.mac.mgtHead + 1) % 65536 ∧
      t.dev.bit (Reg.MAC_MGT_TXSLOT (512 * (s.dev.mac.mgtHead % 32))) 31 = false := by
  have e : exec .mgtTxDone s = .next { s with dev := s.dev.mgtSend } := act_run hr
  unfold Dev.mgtSend at e
  dsimp only at e
  rw [if_neg (by rw [hown, hon]; simpa using h)] at e
  have hh : s.dev.mac.mgtHead % 32 < 32 := Nat.mod_lt _ (by decide)
  generalize hx : ((s.dev.setBit (Reg.MAC_MGT_TXSLOT (512 * (s.dev.mac.mgtHead % 32))) 31 false).emit
    (.mgtFrame (s.dev.entBytes (Reg.MAC_MGT_TXSLOT (512 * (s.dev.mac.mgtHead % 32)) + 4)
      (s.dev.fld (Reg.MAC_MGT_TXSLOT (512 * (s.dev.mac.mgtHead % 32))) 0 11)))) = x at e
  have hbit : x.bit (Reg.MAC_MGT_TXSLOT (512 * (s.dev.mac.mgtHead % 32))) 31 = false := hx ▸ Dev.bit_setBit_same _ _ _ _ (by decide)
  obtain ⟨hregs, hmac⟩ := Dev.mgtCharge_keeps { x with mac := { x.mac with mgtHead := (s.dev.mac.mgtHead + 1) % 65536 } }
    (s.dev.fld (Reg.MAC_MGT_TXSLOT (512 * (s.dev.mac.mgtHead % 32))) 0 11 + 4)
  exact ⟨_, e, congrArg Mac.mgtHead hmac, (congrArg (Word.bit · 31) (hregs _ (by unfold Reg.MAC_MGT_TXSLOT; omega))).trans hbit⟩

end

/-- Settles O40: each link event moves its port from the one state it belongs to, and each row of the frames by what its operation
does. -/
theorem portsAct : Obligations.PortsAct := by
  unfold Obligations.PortsAct
  refine ⟨fun s p hr => ⟨?_, fun h b => exec_verifyMpacket_idle h b, fun h => ⟨exec_verifyMpacket_response hr h, exec_verifyMpacket_next hr h,
    exec_verifyMpacket_fails hr h⟩⟩, fun s hr => ⟨fun p bs fin hl => exec_macFrameReceive_down hl bs fin,
    fun p bs fin x hl hp hlen hx => exec_macFrameReceive_refused hr hl hp hlen hx,
    fun p bs fin hl hp hx hpair hsecy => exec_macFrameReceive_good hr hl hp hx hpair hsecy, fun p h => exec_macTransmitEnd_idle h,
    fun p f tc g hc hf hl hw hi => exec_macTransmitEnd_sent hr hc hf hl hw hi, fun f g hf hp => exec_txOffload_elsewhere hf hp,
    fun f g hf hp h => (exec_txOffload hr hf hp).trans (by rw [Dev.txOffload_none h]),
    fun f g hf hp h h3 => (exec_txOffload hr hf hp).trans (by rw [Dev.txOffload_l3 h h3]),
    fun f g hf hp h hm => (exec_txOffload hr hf hp).trans (by rw [Dev.txOffload_noSegment h hm]), fun i h => exec_lroHoldExpiry_none h,
    fun i c h hlen => exec_lroHoldExpiry_single hr h hlen, fun bs => exec_mgtFrameReceive_bad bs,
    fun bs hon hlo hhi hown => exec_mgtFrameReceive_stored hr hon hlo hhi hown, fun m v => act_run hr, exec_mgtTxDone_idle,
    fun h hown hon => exec_mgtTxDone_sends hr h hown hon, fun i => act_run hr⟩⟩
  intro i src dst hi
  refine ⟨exec_linkEvent_elsewhere hi, fun hl hpres hen => ?_⟩
  simp only [List.mem_cons, List.not_mem_nil, or_false, Prod.mk.injEq] at hi
  obtain hi | hi | hi | ⟨rfl, rfl, rfl⟩ | ⟨rfl, rfl, rfl⟩ | ⟨rfl, rfl, rfl⟩ | ⟨rfl, rfl, rfl⟩ | ⟨rfl, rfl, rfl⟩ := hi
  · obtain ⟨t, hrow, hm⟩ := exec_linkMove_moved hr (i := i) (src := src) (dst := dst) (by simp [hi]) hl hpres hen
    obtain ⟨rfl, rfl, rfl⟩ := hi
    exact ⟨t, hrow, hm.link, hm.up, hm.down, nofun, nofun, nofun, nofun, nofun⟩
  · obtain ⟨t, hrow, hm⟩ := exec_linkMove_moved hr (i := i) (src := src) (dst := dst) (by simp [hi]) hl hpres hen
    obtain ⟨rfl, rfl, rfl⟩ := hi
    exact ⟨t, hrow, hm.link, hm.up, hm.down, nofun, nofun, nofun, nofun, nofun⟩
  · obtain ⟨t, hrow, hm⟩ := exec_linkMove_moved hr (i := i) (src := src) (dst := dst) (by simp [hi]) hl hpres hen
    obtain ⟨rfl, rfl, rfl⟩ := hi
    exact ⟨t, hrow, hm.link, hm.up, hm.down, nofun, nofun, nofun, nofun, nofun⟩
  · obtain ⟨t, hrow, hm, hf⟩ := exec_linkAligned_moved hr hl hpres hen
    exact ⟨t, hrow, hm.link, hm.up, hm.down, nofun, nofun, fun _ => hf, nofun, nofun⟩
  · obtain ⟨t, hrow, hm, hf⟩ := exec_linkLockLoss_moved hr hl hpres hen false
    exact ⟨t, hrow, hm.link, hm.up, hm.down, fun h => absurd (Instr.linkLockLoss.inj h).2 (by decide), fun _ => hf, nofun, nofun, nofun⟩
  · obtain ⟨t, hrow, hm, hf⟩ := exec_linkLockLoss_moved hr hl hpres hen true
    exact ⟨t, hrow, hm.link, hm.up, hm.down, fun _ => hf, fun h => absurd (Instr.linkLockLoss.inj h).2 (by decide), nofun, nofun, nofun⟩
  · obtain ⟨t, hrow, hm, hf⟩ := exec_remoteFaultReceived_moved hr hl hpres hen
    exact ⟨t, hrow, hm.link, hm.up, hm.down, nofun, nofun, nofun, fun _ => hf, nofun⟩
  · obtain ⟨t, hrow, hm, hf⟩ := exec_remoteFaultCleared_moved hr hl hpres hen
    exact ⟨t, hrow, hm.link, hm.up, hm.down, nofun, nofun, nofun, nofun, fun _ => hf⟩

end Sys2Proof.Machine
end


section
/-! DEFINITION. The process bus: what counting leaves unchanged, sampled values and sample sets (O41). -/

namespace Sys2Proof.Machine

/-! ## Counters and events of the process bus (R440) -/

/-- The registers that counting on the process bus may change. -/
abbrev busReg (k : Nat) : Prop := 0x1000020 ≤ k ∧ k < 0x1000500

theorem Map.filterMap_put {α β : Type} {f : Nat × α → Option β} {k : Nat} (h : ∀ v, f (k, v) = none) (v : α) (m : Map α) :
    (Map.put m k v).filterMap f = m.filterMap f := by
  induction m with
  | nil => simp [Map.put, h]
  | cons e m ih =>
    obtain ⟨j, w⟩ := e
    unfold Map.put
    split
    · rw [List.filterMap_cons, h]
    · split
      · next hkj => rw [List.filterMap_cons, List.filterMap_cons, h, ← hkj, h]
      · rw [List.filterMap_cons, List.filterMap_cons, ih]

theorem Map.filterMap_del {α β : Type} {f : Nat × α → Option β} {k : Nat} (h : ∀ v, f (k, v) = none) (m : Map α) :
    (Map.del m k).filterMap f = m.filterMap f := by
  induction m with
  | nil => rfl
  | cons e m ih =>
    obtain ⟨j, w⟩ := e
    unfold Map.del
    split
    · next hjk => rw [ih, List.filterMap_cons, hjk, h]
    · rw [List.filterMap_cons, List.filterMap_cons, ih]

theorem Map.filterMap_putD {α β : Type} [DecidableEq α] {f : Nat × α → Option β} {k : Nat} (h : ∀ v, f (k, v) = none) (z v : α) (m : Map α) :
    (Map.putD m k z v).filterMap f = m.filterMap f := by
  unfold Map.putD
  split
  · exact Map.filterMap_del h m
  · exact Map.filterMap_put h v m

/-- `t` is `d` but for counters and events of the process bus. -/
structure Dev.BusCounted (d t : Dev) : Prop where
  regs : ∀ k, ¬ busReg k → t.reg k = d.reg k
  ents : ∀ f : Nat × Word → Option Nat, (∀ k v, busReg k → f (k, v) = none) → t.rf.act.filterMap f = d.rf.act.filterMap f
  rest : t = { d with rf := { d.rf with act := t.rf.act } }

namespace Dev.BusCounted

theorem refl (d : Dev) : d.BusCounted d := ⟨fun _ _ => rfl, fun _ _ => rfl, rfl⟩

theorem trans {d t u : Dev} (h : d.BusCounted t) (h' : t.BusCounted u) : d.BusCounted u where
  regs k hk := (h'.regs k hk).trans (h.regs k hk)
  ents f hf := (h'.ents f hf).trans (h.ents f hf)
  rest := by rw [h'.rest, h.rest]

theorem setReg (d : Dev) {k : Nat} (v : Word) (hk : busReg k) : d.BusCounted (d.setReg k v) where
  regs j hj := Dev.reg_setReg_other d v fun he : j = k => hj (he ▸ hk)
  ents _ hf := Map.filterMap_putD (fun v => hf k v hk) _ _ _
  rest := rfl

theorem pbuCount (d : Dev) {i : Nat} (hi : i < 64) : d.BusCounted (d.pbuCount i) :=
  setReg d _ (by unfold busReg Reg.PBU_COUNTS; omega)

theorem pbuEvt (d : Dev) (b i : Nat) : d.BusCounted (d.pbuEvt b i) := (setReg d _ (by decide)).trans (setReg _ _ (by decide))

theorem when {d : Dev} {b : Bool} {f : Dev → Dev} (h : d.BusCounted (f d)) : d.BusCounted (d.when b f) := by
  cases b
  · exact refl d
  · exact h

variable {d t : Dev}

theorem fld (h : d.BusCounted t) {k : Nat} (lo n : Nat) (hk : ¬ busReg k) : t.fld k lo n = d.fld k lo n := by
  rw [Dev.fld, h.regs k hk, Dev.fld]

theorem bit (h : d.BusCounted t) {k : Nat} (i : Nat) (hk : ¬ busReg k) : t.bit k i = d.bit k i := by
  rw [Dev.bit, h.regs k hk, Dev.bit]

theorem pbu (h : d.BusCounted t) : t.pbu = d.pbu := by rw [h.rest]

theorem prs (h : d.BusCounted t) : t.prs = d.prs := by rw [h.rest]

theorem gau (h : d.BusCounted t) : t.gau = d.gau := by rw [h.rest]

theorem pairReg (h : d.BusCounted t) (k : Nat) (hk : k < 8) : t.reg (Reg.MAC_PAIRk k) = d.reg (Reg.MAC_PAIRk k) :=
  h.regs _ (by unfold busReg Reg.MAC_PAIRk; omega)

theorem pairAt (h : d.BusCounted t) (p : Nat) : t.pairAt p = d.pairAt p := Dev.pairAt_congr h.pairReg p

theorem pairMode (h : d.BusCounted t) (p : Nat) : t.pairMode p = d.pairMode p := by
  unfold Dev.pairMode
  refine congrArg (Option.getD · 0) (findSome?_congr fun k hk => ?_)
  rw [h.pairReg k (List.mem_range.mp hk)]

theorem walk (h : d.BusCounted t) (f : Frame) (lead : Nat) : t.walk f lead = d.walk f lead := by
  unfold Dev.walk
  rw [h.fld 0 16 (k := Reg.PRS_TUNNEL_PORTS) (by decide), h.fld 16 16 (k := Reg.PRS_TUNNEL_PORTS) (by decide),
    h.fld 0 16 (k := Reg.PRS_TPID) (by decide), h.fld 16 16 (k := Reg.PRS_TPID) (by decide), h.fld 0 16 (k := Reg.PRS_TPID2) (by decide),
    h.pairMode]

theorem pbuPdu (h : d.BusCounted t) (f : Frame) : t.pbuPdu f = d.pbuPdu f := by
  unfold Dev.pbuPdu Dev.pbuStart
  rw [h.walk]

theorem entBytes (h : d.BusCounted t) {k : Nat} (hk : 0x80000000 ≤ k) (n : Nat) : t.entBytes k n = d.entBytes k n := by
  unfold Dev.entBytes
  rw [Dev.regs_congr fun i _ => h.regs _ (by unfold busReg; omega)]

theorem sv (h : d.BusCounted t) (i j : Nat) : t.reg (Reg.PBU_SV i j) = d.reg (Reg.PBU_SV i j) :=
  h.regs _ (by unfold busReg Reg.PBU_SV; omega)

theorem grp (h : d.BusCounted t) (i j : Nat) : t.reg (Reg.PBU_GRP i j) = d.reg (Reg.PBU_GRP i j) :=
  h.regs _ (by unfold busReg Reg.PBU_GRP; omega)

theorem sub (h : d.BusCounted t) (i j : Nat) : t.reg (Reg.PBU_SUB i j) = d.reg (Reg.PBU_SUB i j) :=
  h.regs _ (by unfold busReg Reg.PBU_SUB; omega)

theorem liveEnts (h : d.BusCounted t) {base : Nat} (size n : Nat) {p q : Nat → Bool} (hb : 0x80000000 ≤ base) (hpq : p = q) :
    t.liveEnts base size n p = d.liveEnts base size n q := by
  unfold Dev.liveEnts
  rw [hpq, h.ents _ fun k v hk => if_neg fun hc => absurd (Nat.le_trans hb hc.1) (by omega)]

theorem svLive (h : d.BusCounted t) : t.svLive = d.svLive :=
  h.liveEnts _ _ (by decide) (funext fun i => congrArg (Word.bit · 31) (h.sv i 0))

theorem subLive (h : d.BusCounted t) : t.subLive = d.subLive :=
  h.liveEnts _ _ (by decide) (funext fun i => congrArg (Word.bit · 31) (h.sub i 0))

theorem svKey (h : d.BusCounted t) (i : Nat) : t.svKey i = d.svKey i := by
  unfold Dev.svKey Dev.fld
  rw [h.sv, h.sv, h.entBytes (by unfold Reg.PBU_SV; omega), h.entBytes (by unfold Reg.PBU_SV; omega)]

theorem subKey (h : d.BusCounted t) (i : Nat) : t.subKey i = d.subKey i := by
  unfold Dev.subKey Dev.fld
  rw [h.sub, h.sub, h.entBytes (by unfold Reg.PBU_SUB; omega), h.entBytes (by unfold Reg.PBU_SUB; omega)]

theorem svMatch (h : d.BusCounted t) (f : Frame) (app : Nat) (a : Asdu) : t.svMatch f app a = d.svMatch f app a := by
  unfold Dev.svMatch
  rw [h.svLive]
  simp only [h.svKey]

theorem svAsdu (h : d.BusCounted t) (i : Nat) : t.svAsdu i = d.svAsdu i := by rw [Dev.svAsdu, Dev.fld, h.sv]; rfl

theorem svChannels (h : d.BusCounted t) (i : Nat) : t.svChannels i = d.svChannels i := by rw [Dev.svChannels, Dev.fld, h.sv]; rfl

theorem svRate (h : d.BusCounted t) (i : Nat) : t.svRate i = d.svRate i := by rw [Dev.svRate, Dev.fld, h.sv]; rfl

theorem svRefs (h : d.BusCounted t) (i : Nat) : t.svRefs i = d.svRefs i := by
  unfold Dev.svRefs Dev.refState
  refine List.filter_congr fun n hn => ?_
  have hn := List.mem_range.mp hn
  have hs : ¬ busReg (Reg.GAU_REFn_STATUS n) := by unfold busReg Reg.GAU_REFn_STATUS; omega
  have hc : ¬ busReg (Reg.GAU_REFn_CTRL n) := by unfold busReg Reg.GAU_REFn_CTRL; omega
  rw [h.fld _ _ hs, h.fld _ _ hc, h.fld _ _ hc]

theorem onPortB (h : d.BusCounted t) (f : Frame) : t.onPortB f = d.onPortB f := by
  unfold Dev.onPortB
  rw [h.pairAt]

theorem arrival (h : d.BusCounted t) (f : Frame) : t.arrival f = d.arrival f := by
  have hp : f.srcPort < 32 := Word.fld_lt _ 27 5
  unfold Dev.arrival Dev.pgMode
  rw [h.fld 29 3 (k := Reg.MAC_PGg_MODE (f.srcPort / 8)) (by unfold busReg Reg.MAC_PGg_MODE; omega)]

theorem grpStreams (h : d.BusCounted t) (g : Nat) : t.grpStreams g = d.grpStreams g := by
  unfold Dev.grpStreams Dev.fld
  rw [h.grp]
  simp only [h.grp]

theorem slotBytes (h : d.BusCounted t) (g : Nat) : t.slotBytes g = d.slotBytes g := by
  unfold Dev.slotBytes
  rw [h.grpStreams]
  simp only [h.svChannels]

theorem home (h : d.BusCounted t) (s : Nat) (hs : s < 8192) : t.home s = d.home s :=
  h.fld 20 2 (by unfold busReg Reg.SLC_SLICE_STATUS; omega)

theorem pasid (h : d.BusCounted t) (s : Nat) (hs : s < 8192) : t.pasid s = d.pasid s :=
  h.fld 0 20 (by unfold busReg Reg.SLC_SLICE_STATUS; omega)

theorem aligner (h : d.BusCounted t) (g : Nat) : t.aligner g = d.aligner g := by
  unfold Dev.aligner
  rw [h.pbu]

end Dev.BusCounted

theorem Dev.bit_pbuEvt (d : Dev) {b : Nat} (hb : b < 24) (i : Nat) : (d.pbuEvt b i).bit Reg.PBU_EVT_STATUS b = true :=
  (Dev.bit_setReg_other _ _ _ (by decide)).trans (Dev.bit_sqSet_mem d _ hb (List.mem_singleton_self b))

section
variable {d t : Dev} {ks : List Nat}

theorem Dev.sameRegsBut.pbuCount (h : d.sameRegsBut t ks) {i : Nat} (hi : Reg.PBU_COUNTS i ∈ ks) : d.sameRegsBut (t.pbuCount i) ks := h.setReg hi

theorem Dev.sameRegsBut.pbuEvt (h : d.sameRegsBut t ks) (b i : Nat) (hs : Reg.PBU_EVT_STATUS ∈ ks) (hi : Reg.PBU_EVT_INDEX ∈ ks) :
    d.sameRegsBut (t.pbuEvt b i) ks := (h.setReg hs).setReg hi

end

/-! ## Sampled-value frames (R419, R424, R425) -/

/-- The sample an ASDU of a matched stream makes. -/
def Dev.sampleOf (d : Dev) (i : Nat) (f : Frame) (a : Asdu) : Sample :=
  { second := sampleSecond (d.svRate i) a.cnt f.stamp, cnt := a.cnt,
    vals := (List.range (a.data.length / 4)).map (fun j => wd (beAt a.data (4 * j) 4)),
    unsync := decide (a.synch = 0), confrev := false, injected := false, lanB := d.onPortB f, arrival := d.arrival f }

theorem Dev.BusCounted.sampleOf {d t : Dev} (h : d.BusCounted t) (i : Nat) (f : Frame) (a : Asdu) : t.sampleOf i f a = d.sampleOf i f a := by
  unfold Dev.sampleOf
  rw [h.svRate, h.onPortB, h.arrival]

theorem length_putRow (s : Sample) (rs : List Sample) : (putRow s rs).length = rs.length + 1 := by
  induction rs with
  | nil => rfl
  | cons r rs ih =>
    unfold putRow
    split
    · rfl
    · rw [List.length_cons, ih, List.length_cons]

/-- A row put in its place is the first with its key, where no other has it. -/
theorem find?_putRow {s : Sample} {p : Sample → Bool} (hs : p s = true) {rs : List Sample} (h : rs.find? p = none) :
    (putRow s rs).find? p = some s := by
  induction rs with
  | nil => exact List.find?_cons_of_pos hs
  | cons r rs ih =>
    have hr : ¬ p r = true := by
      intro hr
      rw [List.find?_cons_of_pos hr] at h
      exact absurd h (by simp)
    rw [List.find?_cons_of_neg hr] at h
    unfold putRow
    split
    · exact List.find?_cons_of_pos hs
    · exact (List.find?_cons_of_neg hr).trans (ih h)

theorem Dev.storeSample_new {d : Dev} {i : Nat} {x : Sample} (hrefs : d.svRefs i = []) (hnew : d.rowOf i x.second x.cnt = none) :
    d.storeSample i x = { d with pbu := { d.pbu with rows := Map.put d.pbu.rows i ((putRow x (d.rows i)).take 32) } } := by
  have hrefs' : ({ d with pbu := { d.pbu with rows := Map.put d.pbu.rows i ((putRow x (d.rows i)).take 32) } } : Dev).svRefs i = [] := hrefs
  unfold Dev.storeSample Dev.svFeed
  rw [hnew, hrefs']
  rfl

theorem Dev.rowOf_storeSample {d : Dev} {i : Nat} {x : Sample} (hrefs : d.svRefs i = []) (hnew : d.rowOf i x.second x.cnt = none)
    (hlen : (d.rows i).length < 32) : (d.storeSample i x).rowOf i x.second x.cnt = some x := by
  have htake : (putRow x (d.rows i)).take 32 = putRow x (d.rows i) := List.take_of_length_le (by rw [length_putRow]; omega)
  have hrows : (d.storeSample i x).rows i = putRow x (d.rows i) := by
    rw [Dev.storeSample_new hrefs hnew, htake]
    exact (Map.getD_put _ _ _ _ _).trans (if_pos rfl)
  unfold Dev.rowOf at hnew ⊢
  rw [hrows]
  exact find?_putRow (by simp) hnew

theorem Dev.asduSample_good {d : Dev} {i : Nat} {f : Frame} {a : Asdu} (hcnt : a.cnt < d.svRate i) (hrev : d.reg (Reg.PBU_SV i 4) = 0) :
    d.asduSample i f a = d.storeSample i (d.sampleOf i f a) := by
  unfold Dev.asduSample
  extract_lets rate exp bad x
  have hbad : bad = false := by simp [bad, exp, hrev]
  have hx : x = d := Dev.when_false _ _ hbad
  clear_value x
  rw [if_neg (Nat.not_le.mpr hcnt), hbad, hx]
  rfl

theorem Dev.settleStream_noGroup {d : Dev} (h : d.pbu.groups = []) (i : Nat) : d.settleStream i = d := by
  unfold Dev.settleStream
  rw [h]
  rfl

section
variable {d t : Dev} {id app : Nat} {f : Frame} {pdu : List Byte}

theorem Dev.svFrame_unread (hp : d.pbuPdu f = none) : d.svFrame id f = ((d.pbuCount 0).svFormat none).freeFrame id := by
  have h : d.BusCounted (d.pbuCount 0) := .pbuCount d (by decide)
  unfold Dev.svFrame
  dsimp only
  rw [h.pbuPdu, hp]

theorem Dev.svFrame_unmatched {n : Nat} {a : Asdu} {as : List Asdu} (hp : d.pbuPdu f = some (app, pdu)) (hs : savPdu pdu = some (n, a :: as))
    (hm : d.svMatch f app a = none) (hc : d.bit Reg.PBU_CTRL 31 = false) : d.svFrame id f = ((d.pbuCount 0).pbuCount 1).freeFrame id := by
  have h : d.BusCounted (d.pbuCount 0) := .pbuCount d (by decide)
  have h' : d.BusCounted ((d.pbuCount 0).pbuCount 1) := h.trans (.pbuCount _ (by decide))
  unfold Dev.svFrame
  dsimp only
  rw [h.pbuPdu, hp]
  dsimp only
  rw [hs]
  dsimp only
  rw [h.svMatch, hm]
  dsimp only
  rw [h'.bit 31 (by decide), hc]
  exact if_neg Bool.false_ne_true

theorem Dev.svFrame_stored {a : Asdu} {i : Nat} (hp : d.pbuPdu f = some (app, pdu)) (hs : savPdu pdu = some (1, [a]))
    (hm : d.svMatch f app a = some i) (hn : d.svAsdu i = 1) (hlen : a.data.length = 8 * d.svChannels i) (hcnt : a.cnt < d.svRate i)
    (hrev : d.reg (Reg.PBU_SV i 4) = 0) (hg : d.pbu.groups = []) (hrefs : d.svRefs i = [])
    (hnew : d.rowOf i (d.sampleOf i f a).second a.cnt = none) : ∃ x : Dev, x.rf = (d.pbuCount 0).rf ∧ x.rows i = d.rows i ∧ x.svRefs i = [] ∧
      d.svFrame id f = (x.storeSample i (d.sampleOf i f a)).freeFrame id := by
  have h : d.BusCounted (d.pbuCount 0) := .pbuCount d (by decide)
  refine ⟨(d.pbuCount 0).streamCount i (fun (x, y, z) => (x + 1, y, z)), rfl, rfl, (h.svRefs i).trans hrefs, ?_⟩
  unfold Dev.svFrame
  dsimp only
  rw [h.pbuPdu, hp]
  dsimp only
  rw [hs]
  dsimp only
  rw [h.svMatch, hm]
  dsimp only
  generalize hy : (d.pbuCount 0).streamCount i (fun (x, y, z) => (x + 1, y, z)) = y
  have hyn : y.svAsdu i = 1 := hy ▸ (h.svAsdu i).trans hn
  have hyc : y.svChannels i = d.svChannels i := hy ▸ h.svChannels i
  have hyr : a.cnt < y.svRate i := hy ▸ (h.svRate i).symm ▸ hcnt
  have hye : y.reg (Reg.PBU_SV i 4) = 0 := hy ▸ (h.sv i 4).trans hrev
  have hys : y.sampleOf i f a = d.sampleOf i f a := hy ▸ h.sampleOf i f a
  have hyg : y.pbu.groups = [] := hy ▸ (congrArg Pbu.groups h.pbu).trans hg
  have hyrefs : y.svRefs i = [] := hy ▸ (h.svRefs i).trans hrefs
  have hynew : y.rowOf i (d.sampleOf i f a).second (d.sampleOf i f a).cnt = none := by
    have e : y.rows i = d.rows i := hy ▸ rfl
    rw [Dev.rowOf, e]
    exact hnew
  rw [if_neg (by simp [hyn, hyc, hlen]), List.foldl_cons, List.foldl_nil, Dev.asduSample_good hyr hye, hys]
  refine Dev.settleStream_noGroup ?_ i
  show (y.storeSample i (d.sampleOf i f a)).pbu.groups = []
  rw [Dev.storeSample_new hyrefs hynew]
  exact hyg

end

section
variable {s : State} {f app : Nat} {g : Frame} {pdu : List Byte}

theorem exec_svFrame_elsewhere (hf : s.dev.frame? f = some g) (hp : g.place ≠ .pbu) : exec (.svFrame f) s = .next s := by
  refine act_same ?_
  rw [hf]
  exact if_neg fun h => hp h.1

section
variable (hr : s.dev.running = true) (hf : s.dev.frame? f = some g) (hp : g.place = .pbu) (he : (s.dev.walk g 0).etf = 0x88BA)
include hr hf hp he

theorem exec_svFrame : exec (.svFrame f) s = .next { s with dev := s.dev.svFrame f g } := by
  have e : exec (.svFrame f) s = _ := act_run hr
  rw [hf] at e
  dsimp only at e
  rw [if_pos ⟨hp, he⟩] at e
  exact e

theorem exec_svFrame_unread (hu : s.dev.pbuPdu g = none) : ∃ t, exec (.svFrame f) s = .next t ∧ t.dev.frame? f = none ∧
    t.dev.bit Reg.PBU_EVT_STATUS 2 = true ∧
    s.dev.sameRegsBut t.dev [Reg.PBU_COUNTS 0, Reg.PBU_COUNTS 2, Reg.PBU_EVT_STATUS, Reg.PBU_EVT_INDEX] := by
  have hrow := exec_svFrame hr hf hp he
  rw [Dev.svFrame_unread hu] at hrow
  have hbit : ((s.dev.pbuCount 0).svFormat none).bit Reg.PBU_EVT_STATUS 2 = true := Dev.bit_pbuEvt ((s.dev.pbuCount 0).pbuCount 2) (by decide) 0
  have h0 : s.dev.sameRegsBut ((s.dev.pbuCount 0).svFormat none) _ := (((Dev.sameRegsBut.refl s.dev [Reg.PBU_COUNTS 0, Reg.PBU_COUNTS 2, Reg.PBU_EVT_STATUS, Reg.PBU_EVT_INDEX]).pbuCount (i := 0)
    (by simp)).pbuCount (i := 2) (by simp)).pbuEvt 2 0 (by simp) (by simp)
  generalize (s.dev.pbuCount 0).svFormat none = x at hrow hbit h0
  exact ⟨_, hrow, Dev.frame?_freeFrame _ _, hbit, h0.of_rf rfl⟩

theorem exec_svFrame_unmatched {n : Nat} {a : Asdu} {as : List Asdu} (hu : s.dev.pbuPdu g = some (app, pdu))
    (hs : savPdu pdu = some (n, a :: as)) (hm : s.dev.svMatch g app a = none) (hc : s.dev.bit Reg.PBU_CTRL 31 = false) :
    ∃ t, exec (.svFrame f) s = .next t ∧ t.dev.frame? f = none ∧ t.dev.pbu = s.dev.pbu ∧
      s.dev.sameRegsBut t.dev [Reg.PBU_COUNTS 0, Reg.PBU_COUNTS 1] := by
  have hrow := exec_svFrame hr hf hp he
  rw [Dev.svFrame_unmatched hu hs hm hc] at hrow
  have h0 := ((Dev.sameRegsBut.refl s.dev [Reg.PBU_COUNTS 0, Reg.PBU_COUNTS 1]).pbuCount (i := 0) (by simp)).pbuCount (i := 1) (by simp)
  have hpbu := ((Dev.BusCounted.pbuCount s.dev (i := 0) (by decide)).trans (.pbuCount _ (i := 1) (by decide))).pbu
  generalize (s.dev.pbuCount 0).pbuCount 1 = x at hrow h0 hpbu
  exact ⟨_, hrow, Dev.frame?_freeFrame _ _, hpbu, h0.of_rf rfl⟩

theorem exec_svFrame_stored {a : Asdu} {i : Nat} (hu : s.dev.pbuPdu g = some (app, pdu)) (hs : savPdu pdu = some (1, [a]))
    (hm : s.dev.svMatch g app a = some i) (hn : s.dev.svAsdu i = 1) (hlen : a.data.length = 8 * s.dev.svChannels i) (hcnt : a.cnt < s.dev.svRate i)
    (hrev : s.dev.reg (Reg.PBU_SV i 4) = 0) (hrefs : s.dev.svRefs i = []) (hg : s.dev.pbu.groups = []) (hrows : (s.dev.rows i).length < 32)
    (hnew : s.dev.rowOf i (s.dev.sampleOf i g a).second a.cnt = none) : ∃ t, exec (.svFrame f) s = .next t ∧ t.dev.frame? f = none ∧
      s.dev.sameRegsBut t.dev [Reg.PBU_COUNTS 0] ∧ t.dev.rowOf i (s.dev.sampleOf i g a).second a.cnt = some (s.dev.sampleOf i g a) := by
  have hrow := exec_svFrame hr hf hp he
  obtain ⟨x, hxrf, hxrows, hxrefs, e⟩ := Dev.svFrame_stored (id := f) hu hs hm hn hlen hcnt hrev hg hrefs hnew
  rw [e] at hrow
  have hxnew : x.rowOf i (s.dev.sampleOf i g a).second (s.dev.sampleOf i g a).cnt = none := by
    rw [Dev.rowOf, hxrows]
    exact hnew
  refine ⟨_, hrow, Dev.frame?_freeFrame _ _, ?_, Dev.rowOf_storeSample hxrefs hxnew (hxrows ▸ hrows)⟩
  have h0 := (Dev.sameRegsBut.refl s.dev [Reg.PBU_COUNTS 0]).pbuCount (i := 0) (by simp)
  refine h0.of_rf (Eq.trans ?_ hxrf)
  rw [Dev.storeSample_new hxrefs hxnew]
  rfl

end

end

/-! ## Sample sets (R427 to R432) -/

theorem Dev.aligner_setAligner (d : Dev) (g : Nat) (f : Aligner → Aligner) : (d.setAligner g f).aligner g = f (d.aligner g) :=
  (Map.getD_put _ _ _ _ _).trans (if_pos rfl)

theorem Dev.aligner_congr {d t : Dev} (h : t.pbu = d.pbu) (g : Nat) : t.aligner g = d.aligner g := by
  unfold Dev.aligner
  rw [h]

section
variable {d : Dev} {g : Nat} {w : SetWait}

theorem Dev.completeSet_idle (h : (d.aligner g).waiting = none) (early : Bool) : d.completeSet g early = d := by
  unfold Dev.completeSet
  rw [h]

theorem Dev.setBlocked_setAligner (d : Dev) (g : Nat) (f : Aligner → Aligner) : (d.setAligner g f).setBlocked g = d.setBlocked g := rfl

theorem Dev.completeSet_blocked (h : (d.aligner g).waiting = some w) (hb : d.setBlocked g = true) (early : Bool) : d.completeSet g early =
    ((((d.setAligner g (fun a => { a with waiting := none })).setAligner g (fun a => { a with lost := a.lost + 1, overruns := a.overruns + 1 })).pbuCount
      12).pbuEvt 0 g) := by
  unfold Dev.completeSet
  rw [h]
  exact if_pos ((Dev.setBlocked_setAligner d g _).trans hb)

end

/-! ### What writing to a queue and to a slice's memory leaves unchanged -/

/-- `t` has the process bus, the faults and the device's first registers as `d`, and has sent all that `d` has. -/
structure Dev.KeepsBus (d t : Dev) : Prop where
  pbu : t.pbu = d.pbu
  out : d.out ⊆ t.out
  flt : t.flt = d.flt
  low : ∀ k, k < 0x1000 → t.reg k = d.reg k

namespace Dev.KeepsBus

theorem refl (d : Dev) : d.KeepsBus d := ⟨rfl, fun _ h => h, rfl, fun _ _ => rfl⟩

theorem trans {d t u : Dev} (h : d.KeepsBus t) (h' : t.KeepsBus u) : d.KeepsBus u :=
  ⟨h'.pbu.trans h.pbu, List.Subset.trans h.out h'.out, h'.flt.trans h.flt, fun k hk => (h'.low k hk).trans (h.low k hk)⟩

theorem setReg (d : Dev) {k : Nat} (v : Word) (hk : 0x1000 ≤ k) : d.KeepsBus (d.setReg k v) :=
  ⟨rfl, fun _ h => h, rfl, fun _ hj => Dev.reg_setReg_other _ _ (by omega)⟩

theorem setRng (d : Dev) (x : Rng) : d.KeepsBus { d with rng := x } := ⟨rfl, fun _ h => h, rfl, fun _ _ => rfl⟩

theorem setSlc (d : Dev) (x : Slc) : d.KeepsBus { d with slc := x } := ⟨rfl, fun _ h => h, rfl, fun _ _ => rfl⟩

theorem setFn (d : Dev) (f : Nat) (g : PFn → PFn) : d.KeepsBus (d.setFn f g) := ⟨rfl, fun _ h => h, rfl, fun _ _ => rfl⟩

theorem emit (d : Dev) (e : Emission) : d.KeepsBus (d.emit e) := ⟨rfl, fun _ h => List.mem_cons_of_mem _ h, rfl, fun _ _ => rfl⟩

theorem counted {d t : Dev} (h : d.BusCounted t) : d.KeepsBus t :=
  ⟨h.pbu, by rw [h.rest]; exact fun _ h => h, by rw [h.rest], fun k hk => h.regs k (by unfold busReg; omega)⟩

theorem qstate0 (d : Dev) (cq q : Nat) (v : Word) : d.KeepsBus (d.setReg (Reg.RNG_QSTATE0 cq q) v) :=
  setReg d v (by unfold Reg.RNG_QSTATE0; omega)

theorem qstate1 (d : Dev) (cq q : Nat) (v : Word) : d.KeepsBus (d.setReg (Reg.RNG_QSTATE1 cq q) v) :=
  setReg d v (by unfold Reg.RNG_QSTATE1; omega)

theorem foldl {α : Type} {f : Dev → α → Dev} (h : ∀ (d : Dev) a, d.KeepsBus (f d a)) (as : List α) (d : Dev) : d.KeepsBus (as.foldl f d) := by
  induction as generalizing d with
  | nil => exact refl d
  | cons a as ih => exact (h d a).trans (ih _)

theorem wakeLink (d : Dev) (l : Nat) : d.KeepsBus (d.wakeLink l) := by
  simp only [Dev.wakeLink]
  split
  · exact setReg d _ (by unfold Reg.PCE_LINK_STATUSl; omega)
  · exact refl d

theorem request (d : Dev) (f : Nat) (e : Emission) : d.KeepsBus (d.request f e) := (wakeLink d _).trans (emit _ e)

theorem raiseVec (d : Dev) (f vec : Nat) : d.KeepsBus (d.raiseVec f vec) := by
  simp only [Dev.raiseVec]
  split
  · exact setFn ..
  split
  · exact (setFn d f _).trans (request ..)
  split
  · exact setFn ..
  · exact request ..

theorem raiseIms (d : Dev) (e : Nat) : d.KeepsBus (d.raiseIms e) := by
  simp only [Dev.raiseIms]
  split
  · exact refl d
  split
  · exact setReg _ _ (by unfold Reg.PCE_IMS_ENTRY; omega)
  · exact request ..

theorem raiseSel (d : Dev) (f sel : Nat) : d.KeepsBus (d.raiseSel f sel) := by
  unfold Dev.raiseSel
  split
  · exact raiseIms ..
  · exact raiseVec ..

theorem slcEvt (d : Dev) (s b : Nat) : d.KeepsBus (d.slcEvt s b) := (setReg d _ (by decide)).trans (setReg _ _ (by decide))

theorem markPage (d : Dev) (s p : Nat) : d.KeepsBus (d.markPage s p) := by
  simp only [Dev.markPage]
  split
  · exact refl d
  split
  · exact (setReg d _ (by unfold Reg.SLC_SLICE_STATUS; omega)).trans (slcEvt _ _ _)
  · exact (setSlc d _).trans (setReg _ _ (by decide))

theorem markDirty (d : Dev) (s addr len : Nat) : d.KeepsBus (d.markDirty s addr len) := by
  unfold Dev.markDirty
  split
  · exact foldl (fun d p => markPage d s p) _ d
  · exact refl d

theorem sliceWrite (d : Dev) (s addr : Nat) (ws : List Word) : d.KeepsBus (d.sliceWrite s addr ws) := (markDirty d s addr _).trans (request ..)

theorem showFull (d : Dev) (cq : Nat) : d.KeepsBus (d.showFull cq) := by
  unfold Dev.showFull
  extract_lets full was x y
  have hy : d.KeepsBus y := (qstate1 d _ _ _).trans (foldl (fun d q => qstate1 d _ _ _) _ _)
  clear_value y
  split
  · exact hy.trans ((setReg y _ (by decide)).trans (setReg _ _ (by decide)))
  · exact hy

theorem cqInterrupt (d : Dev) (cq : Nat) : d.KeepsBus (d.cqInterrupt cq) :=
  ((qstate1 d _ _ _).trans (setRng _ _)).trans (raiseSel _ _ _)

theorem cqDelay (d : Dev) (cq : Nat) : d.KeepsBus (d.cqDelay cq) := by
  unfold Dev.cqDelay
  split
  · exact setRng d _
  split
  · exact refl d
  split
  · exact cqInterrupt d cq
  split
  · exact refl d
  · exact setRng d _

theorem ringPut (d : Dev) (cq : Nat) (ws : List Word) : d.KeepsBus (d.ringPut cq ws) := by
  unfold Dev.ringPut
  extract_lets t size ph slot nvme ws' x y
  have hy : d.KeepsBus y := (sliceWrite d _ _ _).trans (qstate0 _ _ _ _)
  clear_value y
  split
  · exact hy.trans (qstate1 _ _ _ _)
  · exact hy

theorem cqPut (d : Dev) (cq : Nat) (ws : List Word) : d.KeepsBus (d.cqPut cq ws) := by
  unfold Dev.cqPut
  split
  · exact (ringPut d cq ws).trans (cqDelay _ cq)
  · exact ((setRng d _).trans (qstate1 _ _ _ _)).trans (setReg _ _ (by decide))

theorem set64 (d : Dev) {k : Nat} (v : Nat) (hk : 0x1000 ≤ k) : d.KeepsBus (d.set64 k v) :=
  (setReg d _ hk).trans (setReg _ _ (by omega))

theorem addEnergy (d : Dev) (own : Option Nat) (pj : Nat) : d.KeepsBus (d.addEnergy own pj) := by
  have hk : 0x1000 ≤ energyReg own := by
    cases own with
    | none => decide
    | some s =>
      change 0x1000 ≤ Reg.EBS_SLICE_ENERGYs s 0
      unfold Reg.EBS_SLICE_ENERGYs
      omega
  obtain ⟨n, hn⟩ : ∃ n, (d.addEnergy own pj).rf = (d.set64 (energyReg own) n).rf := ⟨_, rfl⟩
  obtain ⟨rf, ebs, e⟩ := d.addEnergy_rest own pj
  refine ⟨by rw [e], by rw [e]; exact fun _ h => h, by rw [e], fun k hlt => (Dev.reg_congr hn k).trans ((set64 d n hk).low k hlt)⟩

theorem charge (d : Dev) (cls pj : Nat) (own : Option Nat) : d.KeepsBus (d.charge cls pj own) := by
  rw [Dev.charge_eq]
  have h := addEnergy { d with ebs := d.ebs.charged cls pj own } own pj
  exact ⟨h.pbu, h.out, h.flt, h.low⟩

end Dev.KeepsBus

theorem Dev.mem_sliceWrite (d : Dev) (s addr : Nat) (ws : List Word) :
    Emission.hostWrite (d.home s) (some (d.pasid s)) addr ws ∈ (d.sliceWrite s addr ws).out := List.mem_cons_self

theorem Dev.setRecord_setAligner (d : Dev) (g : Nat) (f : Aligner → Aligner) (w : SetWait) (early : Bool) :
    (d.setAligner g f).setRecord g w early = d.setRecord g w early := rfl

/-- A set's record and its entry written, and their units charged. -/
def Dev.writeSet (d : Dev) (g s addr : Nat) (rec_ ent : List Word) : Dev :=
  let d := d.sliceWrite s addr rec_
  let d := (d.charge 0 (d.unitCost 5 (4 * rec_.length)) (some s)).charge 0 (d.unitCost 5 32) (some s)
  match d.queue? 1 s (d.fld (Reg.PBU_GRP g 1) 0 10) with
  | some q => (d.cqPut q ent).showFull q
  | none => d

/-- A set counted as delivered, with `miss` as incomplete. -/
def Dev.countSet (d : Dev) (g : Nat) (miss : Bool) : Dev :=
  ((d.setAligner g (fun a => { a with lost := 0, delivered := a.delivered + 1, incomplete := a.incomplete + (if miss then 1 else 0) })).pbuCount
    10).when miss (fun d => (d.pbuCount 11).pbuEvt 1 g)

theorem Dev.writeSet_keeps (d : Dev) (g s addr : Nat) (rec_ ent : List Word) : (d.sliceWrite s addr rec_).KeepsBus (d.writeSet g s addr rec_ ent) := by
  unfold Dev.writeSet
  extract_lets x y
  have hy : x.KeepsBus y := (Dev.KeepsBus.charge x _ _ _).trans (.charge _ _ _ _)
  clear_value y
  split
  · exact hy.trans ((Dev.KeepsBus.cqPut y _ _).trans (.showFull _ _))
  · exact hy

theorem Dev.countSet_shows (d : Dev) (g : Nat) (miss : Bool) : ((d.countSet g miss).aligner g).waiting = (d.aligner g).waiting ∧
    ((d.countSet g miss).aligner g).lost = 0 ∧ ((d.countSet g miss).aligner g).delivered = (d.aligner g).delivered + 1 ∧
    d.out ⊆ (d.countSet g miss).out := by
  unfold Dev.countSet
  have ha := d.aligner_setAligner g (fun a =>
    { a with lost := 0, delivered := a.delivered + 1, incomplete := a.incomplete + (if miss then 1 else 0) })
  have ho : d.out = (d.setAligner g (fun a =>
    { a with lost := 0, delivered := a.delivered + 1, incomplete := a.incomplete + (if miss then 1 else 0) })).out := rfl
  generalize d.setAligner g (fun a =>
    { a with lost := 0, delivered := a.delivered + 1, incomplete := a.incomplete + (if miss then 1 else 0) }) = x at ha ho
  have h : x.BusCounted ((x.pbuCount 10).when miss (fun d => (d.pbuCount 11).pbuEvt 1 g)) :=
    (Dev.BusCounted.pbuCount x (by decide)).trans (.when ((Dev.BusCounted.pbuCount _ (by decide)).trans (.pbuEvt _ _ _)))
  rw [h.aligner, ha]
  exact ⟨rfl, rfl, rfl, ho ▸ (Dev.KeepsBus.counted h).out⟩

theorem Dev.completeSet_eq {d x : Dev} {g : Nat} {w : SetWait} (h : (d.aligner g).waiting = some w) (hb : d.setBlocked g = false)
    (hx : d.setAligner g (fun a => { a with waiting := none }) = x) (early : Bool) : d.completeSet g early =
      ((x.when x.reloading (fun d => d.pbuEvt 9 g)).writeSet g (x.grpSlice g) (cat64 (x.reg (Reg.PBU_GRP g 2)) (x.reg (Reg.PBU_GRP g 3)) +
        w.seq % orOne (x.fld (Reg.PBU_GRP g 4) 0 17) 1 * (x.when x.reloading (fun d => d.pbuEvt 9 g)).slotBytes g) (x.setRecord g w early)
        (x.sampleEntry g w (w.seq % orOne (x.fld (Reg.PBU_GRP g 4) 0 17) 1))).countSet g (decide (x.setMissing g w ≠ 0)) := by
  have hb' : ¬ x.setBlocked g = true := by
    rw [← hx, Dev.setBlocked_setAligner, hb]
    exact Bool.false_ne_true
  unfold Dev.completeSet
  rw [h]
  dsimp only
  rw [hx]
  exact if_neg hb'

/-- A set that can be written: its record goes to its slot, and its group counts it delivered. -/
theorem Dev.completeSet_written {d : Dev} {g : Nat} {w : SetWait} (h : (d.aligner g).waiting = some w) (hb : d.setBlocked g = false)
    (hs : d.fld (Reg.PBU_GRP g 4) 0 17 ≠ 0) (early : Bool) : (((d.completeSet g early).aligner g).waiting = none ∧
      ((d.completeSet g early).aligner g).lost = 0 ∧ ((d.completeSet g early).aligner g).delivered = (d.aligner g).delivered + 1) ∧
      Emission.hostWrite (d.home (d.grpSlice g)) (some (d.pasid (d.grpSlice g))) (cat64 (d.reg (Reg.PBU_GRP g 2)) (d.reg (Reg.PBU_GRP g 3)) +
        w.seq % d.fld (Reg.PBU_GRP g 4) 0 17 * d.slotBytes g) (d.setRecord g w early) ∈ (d.completeSet g early).out := by
  have hal := d.aligner_setAligner g (fun a => { a with waiting := none })
  have hrec := d.setRecord_setAligner g (fun a => { a with waiting := none }) w early
  have hslot : (d.setAligner g (fun a => { a with waiting := none })).slotBytes g = d.slotBytes g := rfl
  have hrf : (d.setAligner g (fun a => { a with waiting := none })).rf = d.rf := rfl
  generalize hx : d.setAligner g (fun a => { a with waiting := none }) = x at hal hrec hslot hrf
  have hreg (k : Nat) : x.reg k = d.reg k := Dev.reg_congr hrf k
  have hsl : x.grpSlice g = d.grpSlice g := congrArg (Word.fld · 0 13) (hreg _)
  have hslots : orOne (x.fld (Reg.PBU_GRP g 4) 0 17) 1 = d.fld (Reg.PBU_GRP g 4) 0 17 := by
    rw [Dev.fld, hreg]
    exact if_neg hs
  have hw : x.BusCounted (x.when x.reloading (fun d => d.pbuEvt 9 g)) := .when (.pbuEvt x 9 g)
  rw [Dev.completeSet_eq h hb hx, hsl, hslots, hrec, hreg, hreg, hw.slotBytes, hslot]
  have hhome := (hw.home (d.grpSlice g) (Word.fld_lt _ 0 13)).trans (congrArg (Word.fld · 20 2) (hreg _))
  have hpasid := (hw.pasid (d.grpSlice g) (Word.fld_lt _ 0 13)).trans (congrArg (Word.fld · 0 20) (hreg _))
  have hya := (hw.aligner g).trans hal
  generalize x.when x.reloading (fun d => d.pbuEvt 9 g) = y at hhome hpasid hya
  generalize x.sampleEntry g w (w.seq % d.fld (Reg.PBU_GRP g 4) 0 17) = ent
  generalize cat64 (d.reg (Reg.PBU_GRP g 2)) (d.reg (Reg.PBU_GRP g 3)) + w.seq % d.fld (Reg.PBU_GRP g 4) 0 17 * d.slotBytes g = addr
  generalize d.setRecord g w early = rec_
  have hmem := y.mem_sliceWrite (d.grpSlice g) addr rec_
  have hz : y.KeepsBus (y.writeSet g (d.grpSlice g) addr rec_ ent) := (Dev.KeepsBus.sliceWrite y _ _ _).trans (y.writeSet_keeps g _ _ _ _)
  have hmem := (y.writeSet_keeps g (d.grpSlice g) addr rec_ ent).out hmem
  rw [hhome, hpasid] at hmem
  generalize y.writeSet g (d.grpSlice g) addr rec_ ent = z at hmem hz
  have hza := (Dev.aligner_congr hz.pbu g).trans hya
  obtain ⟨hwait, hlost, hdel, hout⟩ := z.countSet_shows g (decide (x.setMissing g w ≠ 0))
  rw [hza] at hwait hdel
  exact ⟨⟨hwait, hlost, hdel⟩, hout hmem⟩

theorem Dev.closeGroup_waits {d : Dev} {g sec cnt : Nat} {x : Firing} (hw : (d.aligner g).waiting = none)
    (hk : keyAt (d.svRate ((d.grpStreams g).headD 0)) d.time = (sec, cnt)) {w : SetWait}
    (he : w = ⟨d.time, x.cycle, x.quality, x.stepped, x.late, decide ((d.aligner g).prev = some (sec, cnt)), sec, cnt,
      ((d.aligner g).seq + 1) % 65536⟩) (hm : d.setMissing g w ≠ 0) (hwait : d.fld (Reg.PBU_GRP g 1) 16 14 ≠ 0) :
    d.closeGroup g x = d.setAligner g (fun a => { a with seq := ((d.aligner g).seq + 1) % 65536, prev := some (sec, cnt), waiting := some w }) := by
  unfold Dev.closeGroup
  rw [Dev.completeSet_idle hw]
  dsimp only
  rw [hk]
  dsimp only
  rw [← he]
  refine if_neg ?_
  rintro (h | h)
  · exact hm h
  · exact hwait h

section
variable {s : State} {g : Fin 256}

section
variable {x : Firing} {fs : List Firing} (hr : s.dev.running = true) (hq : s.dev.gau.firings = x :: fs) (hact : x.action = 2)
  (htgt : x.target = g.val) (hv : s.dev.grpValid g.val = true)
include hr hq hact htgt hv

theorem exec_sampleSetClose_skipped (hx : x.ref ≠ s.dev.fld (Reg.PBU_GRP g.val 0) 29 2) : ∃ t, exec (.sampleSetClose g) s = .next t ∧
    t.dev.gau.firings = fs ∧ t.dev.pbu = s.dev.pbu ∧ t.dev.bit Reg.PBU_EVT_STATUS 8 = true ∧ t.dev.reg Reg.PBU_EVT_INDEX = wd g.val ∧
    s.dev.sameRegsBut t.dev [Reg.PBU_COUNTS 13, Reg.PBU_EVT_STATUS, Reg.PBU_EVT_INDEX] := by
  have e : exec (.sampleSetClose g) s = _ := act_run hr
  rw [Dev.takeFiring_head hq hact htgt] at e
  dsimp only at e
  have hrf : ({ s.dev with gau := { s.dev.gau with firings := fs } } : Dev).rf = s.dev.rf := rfl
  have hpbu : ({ s.dev with gau := { s.dev.gau with firings := fs } } : Dev).pbu = s.dev.pbu := rfl
  have hgau : ({ s.dev with gau := { s.dev.gau with firings := fs } } : Dev).gau.firings = fs := rfl
  generalize ({ s.dev with gau := { s.dev.gau with firings := fs } } : Dev) = y at e hrf hpbu hgau
  have hyv : y.grpValid g.val = true := (congrArg (Word.bit · 31) (Dev.reg_congr hrf _)).trans hv
  have hyx : x.ref ≠ y.fld (Reg.PBU_GRP g.val 0) 29 2 := by
    rw [Dev.fld, Dev.reg_congr hrf]
    exact hx
  rw [hyv, if_neg (by decide), if_pos hyx] at e
  have h : y.BusCounted ((y.pbuCount 13).pbuEvt 8 g.val) := (Dev.BusCounted.pbuCount y (by decide)).trans (.pbuEvt _ _ _)
  refine ⟨_, e, ?_, h.pbu.trans hpbu, Dev.bit_pbuEvt _ (by decide) _, Dev.reg_setReg_same _ _ _, ?_⟩
  · exact (congrArg Gau.firings h.gau).trans hgau
  · exact (((Dev.sameRegsBut.refl s.dev _).of_rf hrf).pbuCount (by simp)).pbuEvt 8 g.val (by simp) (by simp)

theorem exec_sampleSetClose_waits {sec cnt : Nat} {w : SetWait} (hx : x.ref = s.dev.fld (Reg.PBU_GRP g.val 0) 29 2)
    (hw : (s.dev.aligner g.val).waiting = none) (hk : keyAt (s.dev.svRate ((s.dev.grpStreams g.val).headD 0)) s.dev.time = (sec, cnt))
    (he : w = ⟨s.dev.time, x.cycle, x.quality, x.stepped, x.late, decide ((s.dev.aligner g.val).prev = some (sec, cnt)), sec, cnt,
      ((s.dev.aligner g.val).seq + 1) % 65536⟩) (hm : s.dev.setMissing g.val w ≠ 0) (hwait : s.dev.fld (Reg.PBU_GRP g.val 1) 16 14 ≠ 0) :
    ∃ t, exec (.sampleSetClose g) s = .next t ∧ t.dev.gau.firings = fs ∧ (t.dev.aligner g.val).waiting = some w ∧
      (t.dev.aligner g.val).seq = w.seq ∧ (t.dev.aligner g.val).prev = some (sec, cnt) ∧ t.dev.rf = s.dev.rf := by
  have e : exec (.sampleSetClose g) s = _ := act_run hr
  rw [Dev.takeFiring_head hq hact htgt] at e
  dsimp only at e
  have hc := Dev.closeGroup_waits (d := { s.dev with gau := { s.dev.gau with firings := fs } }) hw hk he hm hwait
  have hal := Dev.aligner_setAligner { s.dev with gau := { s.dev.gau with firings := fs } } g.val
    (fun a => { a with seq := ((s.dev.aligner g.val).seq + 1) % 65536, prev := some (sec, cnt), waiting := some w })
  have hv' : ({ s.dev with gau := { s.dev.gau with firings := fs } } : Dev).grpValid g.val = true := hv
  have hx' : x.ref = ({ s.dev with gau := { s.dev.gau with firings := fs } } : Dev).fld (Reg.PBU_GRP g.val 0) 29 2 := hx
  have hgau : ({ s.dev with gau := { s.dev.gau with firings := fs } } : Dev).gau.firings = fs := rfl
  have hrf : ({ s.dev with gau := { s.dev.gau with firings := fs } } : Dev).rf = s.dev.rf := rfl
  have hseq : (({ s.dev with gau := { s.dev.gau with firings := fs } } : Dev).aligner g.val).seq = (s.dev.aligner g.val).seq := rfl
  rw [hseq] at hc
  generalize ({ s.dev with gau := { s.dev.gau with firings := fs } } : Dev) = y at e hc hal hv' hx' hgau hrf
  rw [hv', if_neg (by decide), if_neg (not_not.mpr hx'), hc] at e
  refine ⟨_, e, hgau, ?_, ?_, ?_, hrf⟩
  · exact congrArg Aligner.waiting hal
  · exact (congrArg Aligner.seq hal).trans (congrArg SetWait.seq he).symm
  · exact congrArg Aligner.prev hal

end

theorem exec_sampleSetWaitExpiry (hr : s.dev.running = true) : exec (.sampleSetWaitExpiry g) s =
    .next { s with dev := s.dev.completeSet g.val false } := act_run hr

theorem exec_sampleSetWaitExpiry_idle (h : (s.dev.aligner g.val).waiting = none) : exec (.sampleSetWaitExpiry g) s = .next s :=
  act_same (Dev.completeSet_idle h false)

theorem exec_sampleSetWaitExpiry_overrun (hr : s.dev.running = true) {w : SetWait} (hw : (s.dev.aligner g.val).waiting = some w)
    (hb : s.dev.setBlocked g.val = true) : ∃ t, exec (.sampleSetWaitExpiry g) s = .next t ∧
      t.dev.aligner g.val = { s.dev.aligner g.val with waiting := none, lost := (s.dev.aligner g.val).lost + 1,
                                                       overruns := (s.dev.aligner g.val).overruns + 1 } ∧
      t.dev.bit Reg.PBU_EVT_STATUS 0 = true ∧ s.dev.sameRegsBut t.dev [Reg.PBU_COUNTS 12, Reg.PBU_EVT_STATUS, Reg.PBU_EVT_INDEX] := by
  have hrow := exec_sampleSetWaitExpiry (g := g) hr
  rw [Dev.completeSet_blocked hw hb] at hrow
  have hrf : ((s.dev.setAligner g.val (fun a => { a with waiting := none })).setAligner g.val
    (fun a => { a with lost := a.lost + 1, overruns := a.overruns + 1 })).rf = s.dev.rf := rfl
  have hal := (s.dev.setAligner g.val (fun a => { a with waiting := none })).aligner_setAligner g.val
    (fun a => { a with lost := a.lost + 1, overruns := a.overruns + 1 })
  rw [s.dev.aligner_setAligner] at hal
  generalize (s.dev.setAligner g.val (fun a => { a with waiting := none })).setAligner g.val
    (fun a => { a with lost := a.lost + 1, overruns := a.overruns + 1 }) = y at hrow hrf hal
  have h : y.BusCounted ((y.pbuCount 12).pbuEvt 0 g.val) := (Dev.BusCounted.pbuCount y (by decide)).trans (.pbuEvt _ _ _)
  exact ⟨_, hrow, (h.aligner _).trans hal, Dev.bit_pbuEvt _ (by decide) _,
    (((Dev.sameRegsBut.refl s.dev _).of_rf hrf).pbuCount (by simp)).pbuEvt 0 g.val (by simp) (by simp)⟩

end

/-- Settles O41: a sampled-value frame by what its decoding finds, a sample set by what its group waits for. -/
theorem sampledValuesAct : Obligations.SampledValuesAct := by
  unfold Obligations.SampledValuesAct
  refine ⟨fun s f g hr hf => ⟨fun hp => exec_svFrame_elsewhere hf hp, fun hp he => ⟨fun hu => exec_svFrame_unread hr hf hp he hu,
    fun app pdu n a as hu hs hm hc => exec_svFrame_unmatched hr hf hp he hu hs hm hc,
    fun app pdu a i hu hs hm hn hlen hcnt hrev hrefs hg hrows hnew =>
      exec_svFrame_stored hr hf hp he hu hs hm hn hlen hcnt hrev hrefs hg hrows hnew⟩⟩, fun s g hr => ⟨fun x fs hq hact htgt hv => ?_,
    fun h => exec_sampleSetWaitExpiry_idle h, fun w hw => ⟨fun hb => exec_sampleSetWaitExpiry_overrun hr hw hb, fun hb hs => ?_⟩⟩⟩
  · exact ⟨fun hx => exec_sampleSetClose_skipped hr hq hact htgt hv hx,
      fun sec cnt w hx hw hk he hm hwait => exec_sampleSetClose_waits hr hq hact htgt hv hx hw hk he hm hwait⟩
  · obtain ⟨⟨hwait, hlost, hdel⟩, hmem⟩ := Dev.completeSet_written hw hb hs false
    exact ⟨_, exec_sampleSetWaitExpiry hr, hwait, hlost, hdel, hmem⟩

end Sys2Proof.Machine
end


section
/-! DEFINITION. GOOSE messages received and published (O42). -/

namespace Sys2Proof.Machine

/-! ## Subscriptions (R433 to R435) -/

theorem Dev.gsub_congr {d t : Dev} (h : t.pbu = d.pbu) (i : Nat) : t.gsub i = d.gsub i := by
  unfold Dev.gsub
  rw [h]

theorem Dev.gsub_setGsub (d : Dev) (i : Nat) (f : GooseSub → GooseSub) : (d.setGsub i f).gsub i = f (d.gsub i) :=
  (Map.getD_put _ _ _ _ _).trans (if_pos rfl)

section
variable {d : Dev} {id app : Nat} {f : Frame} {pdu : List Byte} {o : Goose}

theorem Dev.gooseFrame_unread (hp : d.pbuPdu f = none) : d.gooseFrame id f = ((d.pbuCount 14).pbuCount 15).freeFrame id := by
  have h : d.BusCounted (d.pbuCount 14) := .pbuCount d (by decide)
  unfold Dev.gooseFrame
  dsimp only
  rw [h.pbuPdu, hp]
  rfl

/-- The subscription that a message names. -/
def Dev.subFor (d : Dev) (f : Frame) (app : Nat) (o : Goose) : Option Nat :=
  d.subLive.find? (fun i => decide (d.subKey i = (f.bytes.take 6, app, o.ref)))

theorem Dev.BusCounted.subFor {d t : Dev} (h : d.BusCounted t) (f : Frame) (app : Nat) (o : Goose) : t.subFor f app o = d.subFor f app o := by
  unfold Dev.subFor
  rw [h.subLive]
  simp only [h.subKey]

theorem Dev.gooseFrame_unnamed (hp : d.pbuPdu f = some (app, pdu)) (ho : goosePdu pdu = some o) (hs : d.subFor f app o = none)
    (hc : d.bit Reg.PBU_CTRL 30 = false) : d.gooseFrame id f = ((d.pbuCount 14).pbuCount 16).freeFrame id := by
  have h : d.BusCounted (d.pbuCount 14) := .pbuCount d (by decide)
  have h' : d.BusCounted ((d.pbuCount 14).pbuCount 16) := h.trans (.pbuCount _ (by decide))
  have hs' := (h.subFor f app o).trans hs
  unfold Dev.subFor at hs'
  unfold Dev.gooseFrame
  dsimp only
  rw [h.pbuPdu, hp, Option.bind_some, ho, Option.map_some]
  dsimp only
  rw [hs']
  dsimp only
  rw [h'.bit 30 (by decide), hc]
  exact if_neg Bool.false_ne_true

/-- A message accepted whose subscription neither delivers, posts nor ties. -/
theorem Dev.gooseAccept_plain {i : Nat} (hf : d.fld (Reg.PBU_SUB i 0) 26 3 = 0) (hst : (d.gsub i).st ≠ o.st) :
    d.gooseAccept i f o = (d.setGsub i (fun s => { s with state := 1, st := o.st, sq := o.sq, deadline := d.now + o.live * 500000, changes := s.changes + 1 })).pbuCount
      18 := by
  have h26 : Word.bit (d.reg (Reg.PBU_SUB i 0)) 26 = false := (Word.bit_of_fld _ 26 (n := 3) (i := 0) (by decide)).trans (by rw [show Word.fld _ 26 3 = 0 from hf]; rfl)
  have h27 : Word.bit (d.reg (Reg.PBU_SUB i 0)) 27 = false := (Word.bit_of_fld _ 26 (n := 3) (i := 1) (by decide)).trans (by rw [show Word.fld _ 26 3 = 0 from hf]; rfl)
  have h28 : Word.bit (d.reg (Reg.PBU_SUB i 0)) 28 = false := (Word.bit_of_fld _ 26 (n := 3) (i := 2) (by decide)).trans (by rw [show Word.fld _ 26 3 = 0 from hf]; rfl)
  have hch : decide ((d.gsub i).state ≠ 1 ∨ (d.gsub i).st ≠ o.st) = true := decide_eq_true (.inr hst)
  unfold Dev.gooseAccept
  dsimp only
  rw [h26, h27, h28, hch, Bool.false_and, Bool.and_false, Dev.when_false _ _ rfl, Dev.when_false _ _ rfl, Dev.when_false _ _ rfl,
    Dev.when_true _ _ rfl, if_pos rfl]

theorem Dev.gooseFrame_accepted {i : Nat} (hp : d.pbuPdu f = some (app, pdu)) (ho : goosePdu pdu = some o) (hs : d.subFor f app o = some i)
    (hrev : (d.reg (Reg.PBU_SUB i 8)).toNat = o.rev) (hsim : o.sim = false) (hf : d.fld (Reg.PBU_SUB i 0) 26 3 = 0)
    (hst : (d.gsub i).st ≠ o.st) : d.gooseFrame id f = (((d.pbuCount 14).setGsub i (fun s =>
      { s with state := 1, st := o.st, sq := o.sq, deadline := d.now + o.live * 500000, changes := s.changes + 1 })).pbuCount 18).freeFrame id := by
  have h : d.BusCounted (d.pbuCount 14) := .pbuCount d (by decide)
  have hs' := (h.subFor f app o).trans hs
  unfold Dev.subFor at hs'
  have hacc := Dev.gooseAccept_plain (d := d.pbuCount 14) (f := f) (o := o) ((congrArg (Word.fld · 26 3) (h.sub i 0)).trans hf)
    (by rw [Dev.gsub_congr h.pbu]; exact hst)
  unfold Dev.gooseFrame
  dsimp only
  rw [h.pbuPdu, hp, Option.bind_some, ho, Option.map_some]
  dsimp only
  rw [hs']
  dsimp only
  rw [h.sub, hrev, hsim, hacc]
  exact if_neg (by simp)

end

section
variable {s : State} {f app : Nat} {g : Frame} {pdu : List Byte} {o : Goose}

section
variable (hr : s.dev.running = true) (hf : s.dev.frame? f = some g) (hp : g.place = .pbu) (he : (s.dev.walk g 0).etf = 0x88B8)
include hr hf hp he

theorem exec_gooseFrame : exec (.gooseFrame f) s = .next { s with dev := s.dev.gooseFrame f g } := by
  have e : exec (.gooseFrame f) s = _ := act_run hr
  rw [hf] at e
  dsimp only at e
  rw [if_pos ⟨hp, he⟩] at e
  exact e

theorem exec_gooseFrame_dropped {i : Nat} (hi : i < 64) (h : s.dev.gooseFrame f g = ((s.dev.pbuCount 14).pbuCount i).freeFrame f) :
    ∃ t, exec (.gooseFrame f) s = .next t ∧ t.dev.frame? f = none ∧ t.dev.pbu = s.dev.pbu ∧
      s.dev.sameRegsBut t.dev [Reg.PBU_COUNTS 14, Reg.PBU_COUNTS i] := by
  have hrow := exec_gooseFrame hr hf hp he
  rw [h] at hrow
  have hb : s.dev.BusCounted ((s.dev.pbuCount 14).pbuCount i) := (Dev.BusCounted.pbuCount _ (by decide)).trans (.pbuCount _ hi)
  have h0 : s.dev.sameRegsBut ((s.dev.pbuCount 14).pbuCount i) [Reg.PBU_COUNTS 14, Reg.PBU_COUNTS i] :=
    ((Dev.sameRegsBut.refl s.dev _).pbuCount (by simp)).pbuCount (by simp)
  generalize (s.dev.pbuCount 14).pbuCount i = x at hrow hb h0
  exact ⟨_, hrow, Dev.frame?_freeFrame _ _, hb.pbu, h0.of_rf rfl⟩

theorem exec_gooseFrame_accepted {i : Nat} (hu : s.dev.pbuPdu g = some (app, pdu)) (ho : goosePdu pdu = some o)
    (hs : s.dev.subFor g app o = some i) (hrev : (s.dev.reg (Reg.PBU_SUB i 8)).toNat = o.rev) (hsim : o.sim = false)
    (hfl : s.dev.fld (Reg.PBU_SUB i 0) 26 3 = 0) (hst : (s.dev.gsub i).st ≠ o.st) :
    ∃ t, exec (.gooseFrame f) s = .next t ∧ t.dev.frame? f = none ∧
      t.dev.gsub i = ⟨1, o.st, o.sq, (s.dev.gsub i).changes + 1, s.dev.now + o.live * 500000⟩ ∧
      s.dev.sameRegsBut t.dev [Reg.PBU_COUNTS 14, Reg.PBU_COUNTS 18] := by
  have hrow := exec_gooseFrame hr hf hp he
  rw [Dev.gooseFrame_accepted hu ho hs hrev hsim hfl hst] at hrow
  have hb : s.dev.BusCounted (s.dev.pbuCount 14) := .pbuCount _ (by decide)
  have h0 : s.dev.sameRegsBut (s.dev.pbuCount 14) [Reg.PBU_COUNTS 14, Reg.PBU_COUNTS 18] := (Dev.sameRegsBut.refl s.dev _).pbuCount (by simp)
  generalize s.dev.pbuCount 14 = x at hrow hb h0
  have hx := x.gsub_setGsub i (fun a => { a with state := 1, st := o.st, sq := o.sq, deadline := s.dev.now + o.live * 500000, changes := a.changes + 1 })
  rw [Dev.gsub_congr hb.pbu] at hx
  have hy : s.dev.sameRegsBut (x.setGsub i (fun a =>
    { a with state := 1, st := o.st, sq := o.sq, deadline := s.dev.now + o.live * 500000, changes := a.changes + 1 })) _ := h0.of_rf rfl
  generalize x.setGsub i (fun a =>
    { a with state := 1, st := o.st, sq := o.sq, deadline := s.dev.now + o.live * 500000, changes := a.changes + 1 }) = y at hrow hx hy
  have hz : y.BusCounted (y.pbuCount 18) := .pbuCount _ (by decide)
  have hzr := hy.pbuCount (i := 18) (by simp)
  generalize y.pbuCount 18 = z at hrow hz hzr
  exact ⟨_, hrow, Dev.frame?_freeFrame _ _, (Dev.gsub_congr hz.pbu i).trans hx, hzr.of_rf rfl⟩

end

theorem Dev.pbu_postEvents (d : Dev) (t bits : Nat) : (d.postEvents t bits).pbu = d.pbu := Dev.setReg_pbu _ _ _

theorem exec_gooseStale_idle {i : Fin 4096} (h : (s.dev.gsub i.val).state ≠ 1) : exec (.gooseStale i) s = .next s := by
  refine act_same ?_
  rw [if_neg h]

theorem exec_gooseStale_alive {i : Fin 4096} (hr : s.dev.running = true) (h : (s.dev.gsub i.val).state = 1) : ∃ t, exec (.gooseStale i) s = .next t ∧
    t.dev.gsub i.val = { s.dev.gsub i.val with state := 2 } ∧ t.dev.bit Reg.PBU_EVT_STATUS 3 = true ∧
    s.dev.sameRegsBut t.dev [Reg.PBU_EVT_STATUS, Reg.PBU_EVT_INDEX, thrReg Reg.FPC_THR_EVENTS (s.dev.fld (Reg.PBU_SUB i.val 5) 0 9)] := by
  have e : exec (.gooseStale i) s = _ := act_run hr
  rw [if_pos h] at e
  have hx := s.dev.gsub_setGsub i.val (fun g => { g with state := 2 })
  have hxr : (s.dev.setGsub i.val (fun g => { g with state := 2 })).rf = s.dev.rf := rfl
  generalize s.dev.setGsub i.val (fun g => { g with state := 2 }) = x at e hx hxr
  have hb : x.BusCounted (x.pbuEvt 3 i.val) := .pbuEvt _ _ _
  have hbit := x.bit_pbuEvt (b := 3) (by decide) i.val
  have hthr : (x.pbuEvt 3 i.val).fld (Reg.PBU_SUB i.val 5) 0 9 = s.dev.fld (Reg.PBU_SUB i.val 5) 0 9 :=
    congrArg (Word.fld · 0 9) ((hb.sub i.val 5).trans (Dev.reg_congr hxr _))
  have h0 : s.dev.sameRegsBut (x.pbuEvt 3 i.val) [Reg.PBU_EVT_STATUS, Reg.PBU_EVT_INDEX,
      thrReg Reg.FPC_THR_EVENTS (s.dev.fld (Reg.PBU_SUB i.val 5) 0 9)] :=
    ((Dev.sameRegsBut.refl s.dev _).of_rf hxr).pbuEvt 3 i.val (by simp) (by simp)
  have hg := (Dev.gsub_congr hb.pbu i.val).trans hx
  generalize x.pbuEvt 3 i.val = y at e hbit hthr h0 hg
  dsimp only at e
  cases hpost : y.bit (Reg.PBU_SUB i.val 0) 27
  · rw [hpost, Dev.when_false _ _ rfl] at e
    exact ⟨_, e, hg, hbit, h0⟩
  · rw [hpost, Dev.when_true _ _ rfl, hthr] at e
    have hlt : s.dev.fld (Reg.PBU_SUB i.val 5) 0 9 < 512 := Word.fld_lt _ 0 9
    generalize s.dev.fld (Reg.PBU_SUB i.val 5) 0 9 = t at e h0 hlt ⊢
    generalize 2 ^ y.fld (Reg.PBU_SUB i.val 5) 24 5 % 2 ^ 24 = bits at e
    have hne : Reg.PBU_EVT_STATUS ≠ thrReg Reg.FPC_THR_EVENTS t := by
      unfold thrReg Reg.FPC_THR_EVENTS Reg.PBU_EVT_STATUS
      omega
    exact ⟨_, e, (Dev.gsub_congr (Dev.pbu_postEvents y t bits) _).trans hg, (congrArg (Word.bit · 3) (y.reg_postEvents_apart bits hne)).trans hbit, h0.setReg (by simp)⟩

end

/-! ## Publications (R437, R438) -/

theorem Dev.gpub_congr {d t : Dev} (h : t.pbu = d.pbu) (i : Nat) : t.gpub i = d.gpub i := by
  unfold Dev.gpub
  rw [h]

theorem Dev.gpub_setGpub (d : Dev) (i : Nat) (f : GoosePub → GoosePub) : (d.setGpub i f).gpub i = f (d.gpub i) :=
  (Map.getD_put _ _ _ _ _).trans (if_pos rfl)

/-- The next number of a publication: from 0xFFFF_FFFF on to 1. -/
def nextSq (n : Nat) : Nat := if n = 0xFFFFFFFF then 1 else n + 1

theorem Dev.pubAgain_idle {d : Dev} {i : Nat} (h : d.pubValid i = false ∨ (d.gpub i).data = []) (b : Bool) : d.pubAgain i b = d := by
  unfold Dev.pubAgain
  refine if_pos ?_
  rcases h with h | h <;> simp [h]

theorem Dev.pubAgain_next {d : Dev} {i : Nat} (hv : d.pubValid i = true) (hd : (d.gpub i).data ≠ []) (b : Bool) :
    d.pubAgain i b = (d.setGpub i (fun p => { p with sq := nextSq p.sq })).pubSend i b := by
  unfold Dev.pubAgain
  refine if_neg ?_
  simp [hv, hd]

/-- What sending a stream's frame shows: its numbers, the frame at the node of its port, and no more registers. -/
structure Dev.Published (d t : Dev) (i : Nat) (bs : List Byte) : Prop where
  sq : (t.gpub i).sq = (d.gpub i).sq
  fast : (t.gpub i).fast = (d.gpub i).fast
  sent : (t.gpub i).sent = (d.gpub i).sent + 1
  gau : t.gau = d.gau
  frame : ∃ f, t.frame? d.prs.nextFrame = some f ∧ f.bytes = bs ∧ f.place = .toNode (d.pubPort i)
  shown : t.reg (Reg.PBU_PUB i 6) = wd (d.gpub i).sq
  regs : d.sameRegsBut t [Reg.PBU_COUNTS 21, Reg.PBU_PUB i 5, Reg.PBU_PUB i 6]

theorem Dev.pubSend_published {d : Dev} {i : Nat} {bs : List Byte} (h : d.pubFrame i = some bs) (b : Bool) : d.Published (d.pubSend i b) i bs := by
  unfold Dev.pubSend
  rw [h]
  dsimp only
  generalize hF : { ((Frame.new (d.pipeOf (d.portGroup (d.pubPort i))) 16 0 (.toNode (d.pubPort i)) bs 0 d.time d.now).mset 4 0 13
    (d.fld (Reg.PBU_PUB i 0) 0 13)).mset 4 24 8 (Word.fld (d.reg (Reg.PBU_PUB i 1)) 24 8) |>.msetBit 4 23 true with pub := some (i, b) } = F
  have hFb : F.bytes = bs := hF ▸ rfl
  have hFp : F.place = .toNode (d.pubPort i) := hF ▸ rfl
  have hframe : (d.newFrame F).2.frame? d.prs.nextFrame = some F := Map.get?_put_same _ _ _
  have hpbu : (d.newFrame F).2.pbu = d.pbu := rfl
  have hrf : (d.newFrame F).2.rf = d.rf := rfl
  have hgau : (d.newFrame F).2.gau = d.gau := rfl
  generalize (d.newFrame F).2 = x at hframe hpbu hrf hgau
  have hxg := Dev.gpub_congr hpbu i
  have hyg := x.gpub_setGpub i (fun p => { p with last := x.now, sent := p.sent + 1 })
  rw [hxg] at hyg
  have hyr : (x.setGpub i (fun p => { p with last := x.now, sent := p.sent + 1 })).rf = d.rf := hrf
  have hyf : (x.setGpub i (fun p => { p with last := x.now, sent := p.sent + 1 })).frame? d.prs.nextFrame = some F := hframe
  have hyu : (x.setGpub i (fun p => { p with last := x.now, sent := p.sent + 1 })).gau = d.gau := hgau
  rw [hxg]
  generalize x.setGpub i (fun p => { p with last := x.now, sent := p.sent + 1 }) = y at hyg hyr hyf hyu
  have hz : y.BusCounted (y.pbuCount 21) := .pbuCount _ (by decide)
  have hzr : d.sameRegsBut (y.pbuCount 21) [Reg.PBU_COUNTS 21, Reg.PBU_PUB i 5, Reg.PBU_PUB i 6] :=
    ((Dev.sameRegsBut.refl d _).of_rf hyr).pbuCount (by simp)
  generalize y.pbuCount 21 = z at hz hzr
  have hzg := (Dev.gpub_congr hz.pbu i).trans hyg
  have hzf := (Dev.frame?_congr hz.prs d.prs.nextFrame).trans hyf
  have hzu := hz.gau.trans hyu
  obtain ⟨rf, e⟩ := z.setRegs_rest (Reg.PBU_PUB i 5) [wd (d.gpub i).st, wd (d.gpub i).sq]
  have hshown := Dev.reg_setRegs [wd (d.gpub i).st, wd (d.gpub i).sq] z (Reg.PBU_PUB i 5) (i := 1) (by simp)
  have hregs : d.sameRegsBut (z.setRegs (Reg.PBU_PUB i 5) [wd (d.gpub i).st, wd (d.gpub i).sq]) [Reg.PBU_COUNTS 21, Reg.PBU_PUB i 5, Reg.PBU_PUB i 6] :=
    (hzr.setReg (by simp)).setReg (by simp [Reg.PBU_PUB])
  generalize z.setRegs (Reg.PBU_PUB i 5) [wd (d.gpub i).st, wd (d.gpub i).sq] = t at e hshown hregs
  have htg : t.gpub i = z.gpub i := Dev.gpub_congr (by rw [e]) i
  rw [hzg] at htg
  exact ⟨by rw [htg], by rw [htg], by rw [htg], Eq.trans (by rw [e]) hzu,
    ⟨F, (Dev.frame?_congr (by rw [e]) _).trans hzf, hFb, hFp⟩, hshown, hregs⟩

/-- The frame of a publication is what its template, its times and its data make it. -/
theorem Dev.pubFrame_congr {d t : Dev} {i : Nat} (hrf : t.rf = d.rf)
    (h : (t.gpub i).t = (d.gpub i).t ∧ (t.gpub i).st = (d.gpub i).st ∧ (t.gpub i).sq = (d.gpub i).sq ∧ (t.gpub i).data = (d.gpub i).data) :
    t.pubFrame i = d.pubFrame i := by
  obtain ⟨ht, hst, hsq, hdata⟩ := h
  have hfld (k lo n : Nat) : t.fld k lo n = d.fld k lo n := by rw [Dev.fld, Dev.reg_congr hrf, Dev.fld]
  have htpl : t.pubTemplate i = d.pubTemplate i := by
    unfold Dev.pubTemplate Dev.entBytes
    rw [hfld, Dev.regs_congr fun j _ => Dev.reg_congr hrf _]
  have hparts (bs : List Byte) : t.tplParts bs = d.tplParts bs := by
    unfold Dev.tplParts
    rw [hfld, hfld, hfld]
  unfold Dev.pubFrame
  rw [htpl, hparts]
  simp only [ht, hst, hsq, hdata]

theorem Dev.bit_fault (d : Dev) (r : FaultRec) : (d.fault r).bit Reg.FLT_EVT_STATUS 0 = true := by
  rw [Dev.fault_eq, (Dev.ToldHost.notifyAll _ _).bit 0 (by decide)]
  exact Dev.bit_sqSet_mem _ _ (by decide) (List.mem_singleton_self 0)

section
variable {s : State} {i : Fin 256}

theorem exec_gooseEvent {x : Firing} {fs : List Firing} (hr : s.dev.running = true) (hq : s.dev.gau.firings = x :: fs) (hact : x.action = 3)
    (htgt : x.target = i.val) : exec (.gooseEvent i) s =
      .next { s with dev := ({ s.dev with gau := { s.dev.gau with firings := fs } } : Dev).pubAgain i.val false } := by
  have e : exec (.gooseEvent i) s = _ := act_run hr
  rw [Dev.takeFiring_head hq hact htgt] at e
  exact e

theorem exec_gooseHeartbeat_idle (h : s.dev.pubValid i.val = false ∨ (s.dev.gpub i.val).data = []) : exec (.gooseHeartbeat i) s = .next s := by
  refine act_same ?_
  rw [Dev.pubAgain_idle h]
  exact ite_self _

theorem exec_gooseFastRetransmit_over (h : s.dev.fld (Reg.PBU_PUB i.val 2) 0 4 ≤ (s.dev.gpub i.val).fast) :
    exec (.gooseFastRetransmit i) s = .next s := act_same (if_neg (Nat.not_lt.mpr h))

section
variable {bs : List Byte} (hr : s.dev.running = true) (hv : s.dev.pubValid i.val = true) (hd : (s.dev.gpub i.val).data ≠ [])
  (hbs : (s.dev.setGpub i.val (fun p => { p with sq := nextSq (s.dev.gpub i.val).sq })).pubFrame i.val = some bs)
include hr hv hd hbs

/-- The next transmission of a stream that has had a state change. -/
theorem exec_gooseEvent_published {x : Firing} {fs : List Firing} (hq : s.dev.gau.firings = x :: fs) (hact : x.action = 3)
    (htgt : x.target = i.val) : ∃ t f, exec (.gooseEvent i) s = .next t ∧ t.dev.gau.firings = fs ∧
      (t.dev.gpub i.val).sq = nextSq (s.dev.gpub i.val).sq ∧ (t.dev.gpub i.val).sent = (s.dev.gpub i.val).sent + 1 ∧
      t.dev.frame? s.dev.prs.nextFrame = some f ∧ f.bytes = bs ∧ f.place = .toNode (s.dev.pubPort i.val) ∧
      s.dev.sameRegsBut t.dev [Reg.PBU_COUNTS 21, Reg.PBU_PUB i.val 5, Reg.PBU_PUB i.val 6] := by
  have hrow := exec_gooseEvent hr hq hact htgt
  rw [Dev.pubAgain_next (d := { s.dev with gau := { s.dev.gau with firings := fs } }) hv hd] at hrow
  have hp := Dev.pubSend_published (d := ({ s.dev with gau := { s.dev.gau with firings := fs } } : Dev).setGpub i.val
    (fun p => { p with sq := nextSq p.sq })) hbs false
  have hg := ({ s.dev with gau := { s.dev.gau with firings := fs } } : Dev).gpub_setGpub i.val (fun p => { p with sq := nextSq p.sq })
  have hgau : (({ s.dev with gau := { s.dev.gau with firings := fs } } : Dev).setGpub i.val (fun p => { p with sq := nextSq p.sq })).gau.firings = fs := rfl
  obtain ⟨f, hframe, hbytes, hplace⟩ := hp.frame
  exact ⟨_, f, hrow, (congrArg Gau.firings hp.gau).trans hgau, hp.sq.trans (congrArg GoosePub.sq hg),
    hp.sent.trans (congrArg (·.sent + 1) hg), hframe, hbytes, hplace, fun k hk => hp.regs k hk⟩

theorem exec_gooseHeartbeat_published (hbeat : s.dev.fld (Reg.PBU_PUB i.val 3) 0 16 ≠ 0) : ∃ t f, exec (.gooseHeartbeat i) s = .next t ∧
    (t.dev.gpub i.val).sq = nextSq (s.dev.gpub i.val).sq ∧ t.dev.frame? s.dev.prs.nextFrame = some f ∧ f.bytes = bs ∧
    t.dev.reg (Reg.PBU_PUB i.val 6) = wd (nextSq (s.dev.gpub i.val).sq) ∧
    s.dev.sameRegsBut t.dev [Reg.PBU_COUNTS 21, Reg.PBU_PUB i.val 5, Reg.PBU_PUB i.val 6] := by
  have hrow : exec (.gooseHeartbeat i) s = _ := act_run hr
  rw [if_pos hbeat, Dev.pubAgain_next hv hd] at hrow
  have hp := Dev.pubSend_published (d := s.dev.setGpub i.val (fun p => { p with sq := nextSq p.sq })) hbs false
  have hg := s.dev.gpub_setGpub i.val (fun p => { p with sq := nextSq p.sq })
  have hsq : ((s.dev.setGpub i.val (fun p => { p with sq := nextSq p.sq })).gpub i.val).sq = nextSq (s.dev.gpub i.val).sq := congrArg GoosePub.sq hg
  obtain ⟨f, hframe, hbytes, hplace⟩ := hp.frame
  exact ⟨_, f, hrow, hp.sq.trans hsq, hframe, hbytes, hp.shown.trans (congrArg wd hsq), fun k hk => hp.regs k hk⟩

theorem exec_gooseFastRetransmit_published (hfast : (s.dev.gpub i.val).fast < s.dev.fld (Reg.PBU_PUB i.val 2) 0 4) :
    ∃ t f, exec (.gooseFastRetransmit i) s = .next t ∧ (t.dev.gpub i.val).sq = nextSq (s.dev.gpub i.val).sq ∧
      (t.dev.gpub i.val).fast = (s.dev.gpub i.val).fast + 1 ∧ t.dev.frame? s.dev.prs.nextFrame = some f ∧ f.bytes = bs := by
  have hrow : exec (.gooseFastRetransmit i) s = _ := act_run hr
  have hfg := s.dev.gpub_setGpub i.val (fun p => { p with fast := p.fast + 1 })
  have hfd : ((s.dev.setGpub i.val (fun p => { p with fast := p.fast + 1 })).gpub i.val).data ≠ [] := by rw [hfg]; exact hd
  have hg := (s.dev.setGpub i.val (fun p => { p with fast := p.fast + 1 })).gpub_setGpub i.val (fun p => { p with sq := nextSq p.sq })
  rw [hfg] at hg
  have hbs' : ((s.dev.setGpub i.val (fun p => { p with fast := p.fast + 1 })).setGpub i.val (fun p => { p with sq := nextSq p.sq })).pubFrame i.val = some bs := by
    refine Eq.trans (Dev.pubFrame_congr ?_ ?_) hbs
    · rfl
    · rw [hg, s.dev.gpub_setGpub]
      exact ⟨rfl, rfl, rfl, rfl⟩
  have hnext : ((s.dev.setGpub i.val (fun p => { p with fast := p.fast + 1 })).setGpub i.val (fun p => { p with sq := nextSq p.sq })).prs = s.dev.prs := rfl
  rw [if_pos hfast, Dev.pubAgain_next (d := s.dev.setGpub i.val (fun p => { p with fast := p.fast + 1 })) hv hfd] at hrow
  generalize (s.dev.setGpub i.val (fun p => { p with fast := p.fast + 1 })).setGpub i.val (fun p => { p with sq := nextSq p.sq }) = y at hrow hg hbs' hnext
  have hp := Dev.pubSend_published hbs' false
  obtain ⟨f, hframe, hbytes, hplace⟩ := hp.frame
  rw [hnext] at hframe
  exact ⟨_, f, hrow, hp.sq.trans (congrArg GoosePub.sq hg), hp.fast.trans (congrArg GoosePub.fast hg), hframe, hbytes⟩

end

theorem exec_pbuLockstepFault_reloads (hr : s.dev.running = true) : ∃ t, exec .pbuLockstepFault s = .next t ∧ t.dev.reloading = true ∧
    t.dev.reg Reg.FLT_SEQ = s.dev.reg Reg.FLT_SEQ + 1 ∧ t.dev.bit Reg.FLT_EVT_STATUS 0 = true := by
  have hrow : exec .pbuLockstepFault s = .next { s with dev := (({ s.dev with pbu := { s.dev.pbu with reload := some s.dev.now } } : Dev).fault
    { faultRec 3 3 16 0 with recoveryUs := 10 }) } := act_run hr
  have hseq := Dev.seq_fault { s.dev with pbu := { s.dev.pbu with reload := some s.dev.now } } { faultRec 3 3 16 0 with recoveryUs := 10 }
  have hbit := Dev.bit_fault { s.dev with pbu := { s.dev.pbu with reload := some s.dev.now } } { faultRec 3 3 16 0 with recoveryUs := 10 }
  obtain ⟨a, f, p, o, e⟩ := Dev.fault_rest { s.dev with pbu := { s.dev.pbu with reload := some s.dev.now } } { faultRec 3 3 16 0 with recoveryUs := 10 }
  have hre : ({ s.dev with pbu := { s.dev.pbu with reload := some s.dev.now } } : Dev).reloading = true := by
    unfold Dev.reloading
    simp
  generalize ({ s.dev with pbu := { s.dev.pbu with reload := some s.dev.now } } : Dev).fault { faultRec 3 3 16 0 with recoveryUs := 10 } = x at hrow hseq hbit e
  refine ⟨_, hrow, ?_, hseq, hbit⟩
  rw [e]
  exact hre

end

end Sys2Proof.Machine
end


section
/-! DEFINITION. Accesses to the entries of the process bus, and its opcodes (O42). -/

namespace Sys2Proof.Machine

/-! ## The entries' registers (R443) -/

theorem findRow_ne_none {rs : List RegRow} {r : RegRow} {k : Nat} (hr : r ∈ rs) (hi : r.index? k ≠ none) : findRow rs k ≠ none := by
  induction rs with
  | nil => cases hr
  | cons q rs ih =>
    unfold findRow
    split
    · exact Option.some_ne_none _
    · next hq =>
      rcases List.mem_cons.mp hr with rfl | hr
      · exact absurd hq hi
      · exact ih hr

theorem RegRow.index?_at (r : RegRow) {i j : Nat} (hi : i < r.n1) (hj : j < r.n2) (hs : 0 < r.s2) (hs1 : r.s2 * r.n2 ≤ r.s1) :
    r.index? (r.base + r.s1 * i + r.s2 * j) = some i := by
  have hlt : r.s2 * j < r.s1 := lt_of_lt_of_le (Nat.mul_lt_mul_of_pos_left hj hs) hs1
  have hsub : r.base + r.s1 * i + r.s2 * j - r.base = r.s1 * i + r.s2 * j := by omega
  have hdiv : (r.s1 * i + r.s2 * j) / r.s1 = i := by
    rw [Nat.mul_add_div (by omega), Nat.div_eq_of_lt hlt, Nat.add_zero]
  have hmod : (r.s1 * i + r.s2 * j) % r.s1 = r.s2 * j := by rw [Nat.mul_add_mod, Nat.mod_eq_of_lt hlt]
  unfold RegRow.index?
  rw [if_neg (by omega)]
  dsimp only
  rw [hsub, hdiv, hmod, Nat.mul_mod_right, Nat.mul_div_cancel_left _ hs]
  simp [hi, hj]

theorem RegRow.lt_of_index? {r : RegRow} {k i : Nat} (hs : 0 < r.s1) (h : r.index? k = some i) : k < r.base + r.n1 * r.s1 := by
  unfold RegRow.index? at h
  split at h
  · cases h
  · dsimp only at h
    split at h
    · next hc =>
      simp only [Bool.and_eq_true, decide_eq_true_eq] at hc
      have := (Nat.div_lt_iff_lt_mul hs).mp hc.1.1
      omega
    · cases h

/-- Every register of the windows from 0x8000_0000 on can be written whole. -/
theorem rowsWIN_high : ∀ r ∈ rowsWIN, 0 < r.s1 ∧ (r.base + r.n1 * r.s1 ≤ 0x80000000 ∨ r.mask = 0xffffffff) := by decide +kernel

theorem maskOf_high {k : Nat} (hk : 0x80000000 ≤ k) {r : RegRow} (hr : r ∈ rowsWIN) (hi : r.index? k ≠ none) : maskOf k = 0xFFFFFFFF := by
  have hb : blockRows (k / 0x100000) = rowsWIN := by
    have h64 : 64 ≤ k / 0x100000 := by omega
    generalize k / 0x100000 = b at h64
    unfold blockRows
    split
    iterate 24 (next => omega)
    exact if_pos h64
  unfold maskOf rowOf
  rw [hb]
  cases hf : findRow rowsWIN k with
  | none => exact absurd hf (findRow_ne_none hr hi)
  | some p =>
    obtain ⟨hs, hm⟩ := rowsWIN_high p.1 (mem_of_findRow hf)
    have hlt := RegRow.lt_of_index? hs (index_of_findRow hf)
    have hmask : p.1.mask = 0xffffffff := hm.resolve_left (by omega)
    show BitVec.ofNat 32 p.1.mask = _
    rw [hmask]
    rfl

/-- The row of the registers of a table's entries. -/
def pbuRow (t : Nat) : RegRow :=
  ⟨(pbuTable t).1, (pbuTable t).2.2.2, (pbuTable t).2.1, (pbuTable t).2.2.1, 0x4, .st, if t = 3 then 18 else 17, 0x0, 0x0, 0xffffffff⟩

theorem pbuRow_facts : ∀ t, t < 4 → pbuRow t ∈ rowsWIN ∧ 0x80000000 ≤ (pbuTable t).1 ∧ 4 * (pbuTable t).2.2.1 ≤ (pbuTable t).2.1 ∧
    (pbuTable t).2.2.1 ≤ 512 := by
  decide +kernel

section
variable {d : Dev} {t : Nat}

/-- An access without an error names an entry of its table and a chunk of it. -/
theorem Dev.entErr_zero (h : d.entErr t = 0) : d.fld Reg.PBU_ENT_INDEX 0 12 < (pbuTable t).2.2.2 ∧
    64 * d.fld Reg.PBU_ENT_INDEX 12 3 < (pbuTable t).2.2.1 := by
  unfold Dev.entErr at h
  generalize pbuTable t = x at h ⊢
  obtain ⟨b, st, w, n⟩ := x
  dsimp only at h ⊢
  split at h
  · cases h
  · split at h
    · cases h
    · omega

theorem filterMap_below (a w m : Nat) : (List.range m).filterMap (fun j => if a + j < w then some (a + j) else none) =
    (List.range (min m (w - a))).map (a + ·) := by
  induction m with
  | zero => simp
  | succ m ih =>
    rw [List.range_succ, List.filterMap_append, ih]
    by_cases h : a + m < w
    · rw [show min (m + 1) (w - a) = min m (w - a) + 1 by omega, show min m (w - a) = m by omega, List.range_succ]
      simp [h]
    · rw [show min (m + 1) (w - a) = min m (w - a) by omega]
      simp [h]

/-- The words of the chunk an access names, lowest first. -/
theorem Dev.entWords_eq (d : Dev) (t : Nat) : d.entWords t =
    (List.range (min 64 ((pbuTable t).2.2.1 - 64 * d.fld Reg.PBU_ENT_INDEX 12 3))).map (64 * d.fld Reg.PBU_ENT_INDEX 12 3 + ·) := by
  unfold Dev.entWords
  exact filterMap_below _ _ _

theorem Dev.mem_entWords {j : Nat} : j ∈ d.entWords t ↔ 64 * d.fld Reg.PBU_ENT_INDEX 12 3 ≤ j ∧ j < 64 * d.fld Reg.PBU_ENT_INDEX 12 3 + 64 ∧
    j < (pbuTable t).2.2.1 := by
  rw [Dev.entWords_eq, List.mem_map]
  constructor
  · rintro ⟨i, hi, rfl⟩
    have := List.mem_range.mp hi
    omega
  · rintro ⟨h1, h2, h3⟩
    exact ⟨j - 64 * d.fld Reg.PBU_ENT_INDEX 12 3, List.mem_range.mpr (by omega), by omega⟩

theorem Dev.entKey_eq (d : Dev) (t j : Nat) : d.entKey t j = (pbuTable t).1 + (pbuTable t).2.1 * d.fld Reg.PBU_ENT_INDEX 0 12 + 4 * j := rfl

theorem Dev.maskOf_entKey (ht : t < 4) (h : d.entErr t = 0) {j : Nat} (hj : j ∈ d.entWords t) : maskOf (d.entKey t j) = 0xFFFFFFFF := by
  obtain ⟨hrow, hbase, hstride, -⟩ := pbuRow_facts t ht
  obtain ⟨hi, -⟩ := Dev.entErr_zero h
  obtain ⟨-, -, hw⟩ := Dev.mem_entWords.mp hj
  have hidx := (pbuRow t).index?_at (i := d.fld Reg.PBU_ENT_INDEX 0 12) (j := j) hi hw (show 0 < 4 by decide) hstride
  exact maskOf_high (by rw [Dev.entKey_eq]; omega) hrow (Option.ne_none_iff_exists'.mpr ⟨_, hidx⟩)

/-! ## Reads -/

/-- Words written from a register on change those registers alone. -/
theorem Dev.reg_setRegs_apart (ws : List Word) (d : Dev) (b : Nat) {k : Nat} (h : ∀ i, i < ws.length → k ≠ b + 4 * i) :
    (d.setRegs b ws).reg k = d.reg k := by
  induction ws generalizing d b with
  | nil => rfl
  | cons w ws ih =>
    refine (ih (d.setReg b w) (b + 4) fun i hi => ?_).trans (Dev.reg_setReg_other _ _ (h 0 (by simp)))
    have := h (i + 1) (by simpa using hi)
    omega

/-- What a read shows of word `j`. -/
def Dev.entShown (d : Dev) (t : Nat) (get : Dev → Nat → Word) (j : Nat) : Word :=
  if t = 1 ∧ j = 5 then wd (d.slotBytes (d.fld Reg.PBU_ENT_INDEX 0 12)) else get d (d.entKey t j)

theorem Dev.entRead_error (h : d.entErr t ≠ 0) (op : Nat) (get : Dev → Nat → Word) : d.entRead t op get = d.entCmd t op (d.entErr t) := by
  unfold Dev.entRead
  split
  · next h0 => exact absurd h0 h
  · rfl

theorem Dev.entRead_good (h : d.entErr t = 0) (op : Nat) (get : Dev → Nat → Word) : d.entRead t op get =
    (d.setRegs (Reg.PBU_ENT_DATA 0) ((d.entWords t).map (d.entShown t get) ++
      List.replicate (64 - ((d.entWords t).map (d.entShown t get)).length) 0)).entCmd t op 0 := by
  unfold Dev.entRead
  rw [h]
  rfl

theorem Dev.entRead_shows (ht : t < 4) (h : d.entErr t = 0) {op : Nat} (hop : op < 4) (get : Dev → Nat → Word) :
    (d.entRead t op get).regN Reg.PBU_ENT_CMD = t * 2 ^ 24 + op ∧
      (∀ j ∈ d.entWords t, (d.entRead t op get).reg (Reg.PBU_ENT_DATA (j - 64 * d.fld Reg.PBU_ENT_INDEX 12 3)) = d.entShown t get j) ∧
      d.sameRegsBut (d.entRead t op get) (Reg.PBU_ENT_CMD :: (List.range 64).map Reg.PBU_ENT_DATA) := by
  rw [Dev.entRead_good h]
  have hlen : ((d.entWords t).map (d.entShown t get)).length ≤ 64 := by
    rw [List.length_map, Dev.entWords_eq, List.length_map, List.length_range]
    omega
  generalize hws : (d.entWords t).map (d.entShown t get) = ws at hlen
  have hall : (ws ++ List.replicate (64 - ws.length) 0).length = 64 := by
    rw [List.length_append, List.length_replicate]
    omega
  refine ⟨?_, fun j hj => ?_, fun k hk => ?_⟩
  · refine (Dev.regN_setN _ _ ?_).trans ?_ <;> omega
  · obtain ⟨hlo, hhi, hw⟩ := Dev.mem_entWords.mp hj
    have hwlen : ws.length = min 64 ((pbuTable t).2.2.1 - 64 * d.fld Reg.PBU_ENT_INDEX 12 3) := by
      rw [← hws, List.length_map, Dev.entWords_eq, List.length_map, List.length_range]
    have hjlen : j - 64 * d.fld Reg.PBU_ENT_INDEX 12 3 < ws.length := by omega
    have hword : wordAt (ws ++ List.replicate (64 - ws.length) 0) (j - 64 * d.fld Reg.PBU_ENT_INDEX 12 3) = d.entShown t get j := by
      rw [wordAt_append_left _ hjlen, ← hws, Dev.entWords_eq, List.map_map, wordAt_map_range _ (by omega)]
      exact congrArg (d.entShown t get) (Nat.add_sub_cancel' hlo)
    rw [← hword]
    refine (Dev.reg_setReg_other _ _ ?_).trans ?_
    · unfold Reg.PBU_ENT_DATA Reg.PBU_ENT_CMD
      omega
    · rw [show Reg.PBU_ENT_DATA (j - 64 * d.fld Reg.PBU_ENT_INDEX 12 3) = Reg.PBU_ENT_DATA 0 + 4 * (j - 64 * d.fld Reg.PBU_ENT_INDEX 12 3) by
        unfold Reg.PBU_ENT_DATA; omega]
      exact Dev.reg_setRegs _ _ _ (by omega)
  · obtain ⟨hcmd, hdata⟩ := not_or.mp (fun hc => hk (List.mem_cons.mpr hc))
    refine (Dev.reg_setReg_other _ _ hcmd).trans (Dev.reg_setRegs_apart _ _ _ fun i hi he => hdata ?_)
    refine List.mem_map.mpr ⟨i, List.mem_range.mpr (hall ▸ hi), ?_⟩
    rw [he]
    unfold Reg.PBU_ENT_DATA
    omega

/-! ## Writes -/

theorem Dev.reg_of_act {u : Dev} (h : u.rf.act = d.rf.act) (k : Nat) : u.reg k = d.reg k := by
  unfold Dev.reg
  rw [h]

/-- A register that can be written whole is staged as it is written. -/
theorem Dev.staged_stage_whole (d : Dev) {k : Nat} (hm : maskOf k = 0xFFFFFFFF) (v : Word) (m : Nat) : (d.stage k v true m).staged k = v := by
  rw [Dev.staged_stage, if_pos rfl, hm]
  have h1 : (0xFFFFFFFF : Word) = BitVec.allOnes 32 := rfl
  rw [h1, BitVec.and_allOnes, BitVec.not_allOnes, BitVec.and_zero, BitVec.or_zero]

/-- Words staged one after another: each register staged reads the word staged for it, and no register changes. -/
theorem Dev.foldl_stage {key : Nat → Nat} {x : Nat → Word} {m : Nat} {f : Dev → Nat → Dev} (js : List Nat) (hn : (js.map key).Nodup)
    (hm : ∀ j ∈ js, maskOf (key j) = 0xFFFFFFFF) (hf : ∀ (u : Dev) j, u.rf.act = d.rf.act → f u j = u.stage (key j) (x j) true m) (u : Dev)
    (hu : u.rf.act = d.rf.act) : (js.foldl f u).rf.act = d.rf.act ∧
      (∀ k, k ∉ js.map key → (js.foldl f u).staged k = u.staged k) ∧ ∀ j ∈ js, (js.foldl f u).staged (key j) = x j := by
  induction js generalizing u with
  | nil => exact ⟨hu, fun _ _ => rfl, fun j hj => absurd hj (by simp)⟩
  | cons j js ih =>
    obtain ⟨hj, hn⟩ := List.nodup_cons.mp hn
    have hstep := hf u j hu
    obtain ⟨hact, hother, hmem⟩ := ih hn (fun i hi => hm i (List.mem_cons_of_mem _ hi)) (f u j) (by rw [hstep]; exact hu)
    refine ⟨hact, fun k hk => ?_, fun i hi => ?_⟩
    · obtain ⟨hkj, hks⟩ := not_or.mp fun hc => hk (List.mem_cons.mpr hc)
      refine (hother k hks).trans ?_
      rw [hstep, Dev.staged_stage, if_neg hkj]
    · rcases List.mem_cons.mp hi with rfl | hi
      · refine (hother _ hj).trans ?_
        rw [hstep, Dev.staged_stage_whole _ (hm _ List.mem_cons_self)]
      · exact hmem i hi

theorem Dev.entWrite_error (h : d.entErr t ≠ 0) (m : Nat) : d.entWrite m t = d.entCmd t 3 (d.entErr t) := by
  unfold Dev.entWrite
  split
  · next h0 => exact absurd h0 h
  · rfl

theorem Dev.nodup_entKeys (d : Dev) (t : Nat) (p : Nat → Bool) : (((d.entWords t).filter p).map (d.entKey t)).Nodup := by
  have hwords : (d.entWords t).Nodup := by
    rw [Dev.entWords_eq]
    exact List.Nodup.map (fun a b h => by simpa using h) List.nodup_range
  refine List.Nodup.map (fun a b hab => ?_) (hwords.filter p)
  rw [Dev.entKey_eq, Dev.entKey_eq] at hab
  omega

/-- A write outside direct mode stages the chunk's words that are not the device's own, and shows itself. -/
theorem Dev.entWrite_shows (ht : t < 4) (h : d.entErr t = 0) (hdir : d.bit Reg.GLB_DIRECT (if t = 3 then 18 else 17) = false) (m : Nat) :
    (d.entWrite m t).regN Reg.PBU_ENT_CMD = t * 2 ^ 24 + 3 ∧
      (∀ j ∈ d.entWords t, pbuReadOnly t j = false → (d.entWrite m t).staged (d.entKey t j) =
        d.reg (Reg.PBU_ENT_DATA (j - 64 * d.fld Reg.PBU_ENT_INDEX 12 3))) ∧ d.sameRegsBut (d.entWrite m t) [Reg.PBU_ENT_CMD] := by
  obtain ⟨hact, -, hmem⟩ := Dev.foldl_stage (d := d) (key := d.entKey t) (m := m)
    (x := fun j => d.reg (Reg.PBU_ENT_DATA (j - 64 * d.fld Reg.PBU_ENT_INDEX 12 3)))
    (f := fun u j => u.stage (u.entKey t j) (u.reg (Reg.PBU_ENT_DATA (j - 64 * d.fld Reg.PBU_ENT_INDEX 12 3))) true m)
    ((d.entWords t).filter (fun j => !pbuReadOnly t j)) (d.nodup_entKeys t _)
    (fun j hj => Dev.maskOf_entKey ht h (List.mem_of_mem_filter hj))
    (fun u j hu => by
      have hkey : u.entKey t j = d.entKey t j := by
        rw [Dev.entKey_eq, Dev.entKey_eq, Dev.fld, Dev.reg_of_act hu, Dev.fld]
      rw [hkey, Dev.reg_of_act hu]) d rfl
  have hrow : d.entWrite m t = (((d.entWords t).filter (fun j => !pbuReadOnly t j)).foldl
      (fun u j => u.stage (u.entKey t j) (u.reg (Reg.PBU_ENT_DATA (j - 64 * d.fld Reg.PBU_ENT_INDEX 12 3))) true m) d).entCmd t 3 0 := by
    unfold Dev.entWrite
    rw [h]
    refine congrArg (fun u : Dev => u.entCmd t 3 0) (if_neg ?_)
    rw [show ∀ u : Dev, u.rf.act = d.rf.act → u.bit Reg.GLB_DIRECT (if t = 3 then 18 else 17) = false from
      fun u hu => (congrArg (Word.bit · _) (Dev.reg_of_act hu _)).trans hdir]
    · exact Bool.false_ne_true
    · exact hact
  rw [hrow]
  generalize ((d.entWords t).filter (fun j => !pbuReadOnly t j)).foldl
    (fun u j => u.stage (u.entKey t j) (u.reg (Reg.PBU_ENT_DATA (j - 64 * d.fld Reg.PBU_ENT_INDEX 12 3))) true m) d = y at hact hmem
  refine ⟨(Dev.regN_setN _ _ ?_).trans ?_, fun j hj hro => ?_, fun k hk => ?_⟩
  · omega
  · omega
  · refine Eq.trans ?_ (hmem j (List.mem_filter.mpr ⟨hj, by simp [hro]⟩))
    have hb := (pbuRow_facts t ht).2.1
    have hk : d.entKey t j ≠ Reg.PBU_ENT_CMD := by
      rw [Dev.entKey_eq]
      unfold Reg.PBU_ENT_CMD
      omega
    have hstg (v : Word) : (y.setReg Reg.PBU_ENT_CMD v).rf.stg = y.rf.stg := rfl
    unfold Dev.staged Dev.entCmd Dev.setN
    rw [hstg, Dev.reg_setReg_other _ _ hk]
  · exact (Dev.reg_setReg_other _ _ (by simpa using hk)).trans (Dev.reg_of_act hact k)

end

section
variable {s : State} {v : Word} {tb : Nat}

theorem exec_pbuEntRead (hr : s.dev.running = true) (hv : Word.fld v 24 2 = tb) :
    exec (.pbuEntReadActive v) s = .next { s with dev := s.dev.entRead tb 1 Dev.reg } ∧
      exec (.pbuEntReadStaged v) s = .next { s with dev := s.dev.entRead tb 2 Dev.staged } ∧
      ∀ m, exec (.pbuEntWriteStaged m v) s = .next { s with dev := s.dev.entWrite m.val tb } := by
  subst hv
  exact ⟨act_run hr, act_run hr, fun m => act_run hr⟩

end

/-! ## The opcodes (R423, R433, R436, R442) -/

/-- The words a command on an entry stages. -/
def entKeys (t i : Nat) (ws : List Word) : List (Nat × Word) :=
  ((List.range (pbuTable t).2.2.1).filter (fun j => !pbuReadOnly t j)).map
    (fun j => ((pbuTable t).1 + (pbuTable t).2.1 * i + 4 * j, wordAt ws j))

section
variable {d u : Dev} {c : Cmd} {t groups : Nat} {ws : List Word} {r : Res}

theorem Dev.entCommand_noUnit {sl : Nat} (hc : c.slice? = some sl) (hv : Word.bit (wordAt ws 0) 31 = true)
    (hh : Map.get? d.pbu.units (4096 * t + c.entIndex) = none) (hroom : d.poolRoom sl (pbuPool t) 1 = false) :
    d.entCommand c t groups ws = (d, some (Res.st stNoResource)) := by
  unfold Dev.entCommand
  dsimp only
  rw [hv, if_pos rfl, hc, hh]
  exact if_pos (by simp [hroom])

theorem Dev.entCommand_taken {sl : Nat} (hc : c.slice? = some sl) (hv : Word.bit (wordAt ws 0) 31 = true)
    (hh : Map.get? d.pbu.units (4096 * t + c.entIndex) = none) (hroom : d.poolRoom sl (pbuPool t) 1 = true)
    (hs : d.stageStrobe c groups (entKeys t c.entIndex ws) (Res.ok []) = (u, some r)) :
    d.entCommand c t groups ws = (if r.status = stBadParam then u else u.setUnit t c.entIndex (some sl), some r) := by
  unfold entKeys at hs
  unfold Dev.entCommand
  dsimp only
  rw [hv, if_pos rfl, hc, hh]
  dsimp only
  rw [if_neg (by simp [hroom]), hs]
  dsimp only
  by_cases hbad : r.status = stBadParam
  · rw [if_pos (.inl hbad), if_pos hbad]
  · rw [if_neg (by simp [hbad]), if_neg hbad]

theorem Dev.entCommand_cleared (hv : Word.bit (wordAt ws 0) 31 = false) (hh : Map.get? d.pbu.units (4096 * t + c.entIndex) = none)
    (hs : d.stageStrobe c groups (entKeys t c.entIndex ws) (Res.ok []) = (u, some r)) : d.entCommand c t groups ws = (u, some r) := by
  unfold entKeys at hs
  unfold Dev.entCommand
  dsimp only
  rw [hv, if_neg Bool.false_ne_true, hh]
  dsimp only
  rw [if_neg Bool.false_ne_true, hs]
  exact if_pos (.inr rfl)

end

theorem entKeys_sv (i : Nat) (ws : List Word) : entKeys 0 i ws = (List.range 48).map (fun j => (Reg.PBU_SV i j, wordAt ws j)) := by
  unfold entKeys
  rw [List.filter_eq_self.mpr fun j _ => by simp [pbuReadOnly]]
  refine List.map_congr_left fun j _ => Prod.ext ?_ rfl
  show 0x80000000 + 0 * 0x100 + 0 * 4 + 0x100 * i + 4 * j = 0x80000000 + i * 0x100 + j * 0x4
  omega

theorem entKeys_sub (i : Nat) (ws : List Word) : entKeys 2 i ws = (List.range 48).map (fun j => (Reg.PBU_SUB i j, wordAt ws j)) := by
  unfold entKeys
  rw [List.filter_eq_self.mpr fun j _ => by simp [pbuReadOnly]]
  refine List.map_congr_left fun j _ => Prod.ext ?_ rfl
  show 0x82000000 + 0 * 0x100 + 0 * 4 + 0x100 * i + 4 * j = 0x82000000 + i * 0x100 + j * 0x4
  omega

theorem entKeys_pub (i : Nat) (ws : List Word) : entKeys 3 i ws =
    ((List.range 512).filter (fun j => !pbuReadOnly 3 j)).map (fun j => (Reg.PBU_PUB i j, wordAt ws j)) := by
  refine List.map_congr_left fun j _ => Prod.ext ?_ rfl
  show 0x83000000 + 0 * 0x800 + 0 * 4 + 0x800 * i + 4 * j = 0x83000000 + i * 0x800 + j * 0x4
  omega

theorem wordAt_drop (ws : List Word) (n i : Nat) : wordAt (ws.drop n) i = wordAt ws (n + i) := by
  simp [wordAt]

theorem wordAt_set_other (ws : List Word) {i j : Nat} (h : j ≠ i) (v : Word) : wordAt (ws.set i v) j = wordAt ws j := by
  rw [wordAt_set, if_neg fun hc => h hc.1]

/-- An entry's own words as staged, with VALID 0. -/
theorem wordAt_cleared (d : Dev) (t i : Nat) {j : Nat} (hj : j < (pbuTable t).2.2.1) : wordAt (d.cleared t i) j =
    if j = 0 then Word.setBit (d.staged ((pbuTable t).1 + (pbuTable t).2.1 * i + 4 * j)) 31 false
    else d.staged ((pbuTable t).1 + (pbuTable t).2.1 * i + 4 * j) := by
  unfold Dev.cleared
  exact wordAt_map_range _ hj

section
variable {s : State} {m : Fin 16} {tag : Fin 4096} {gen : Fin 16} {c : Cmd} {t : Dev} {r : Res} {sl : Nat} (hr : s.dev.running = true)
include hr

section
variable (hc : c.slice? = some sl) (hv : Word.bit (c.p 1) 31 = true)
include hc hv

theorem exec_svSubscribe_valid (hs : s.dev.started m.val tag.val gen.val 0x0800 c) (hu : Map.get? s.dev.pbu.units c.entIndex = none) :
    (s.dev.poolRoom sl 7 1 = false →
      exec (.svSubscribe m tag gen) s = .next { s with dev := s.dev.finish m.val tag.val gen.val (Res.st stNoResource) }) ∧
    (s.dev.poolRoom sl 7 1 = true → s.dev.stageStrobe c (2 ^ 17) ((List.range 48).map (fun j =>
        (Reg.PBU_SV c.entIndex j, wordAt ((c.params.drop 1).set 5 c.ownWord) j))) (Res.ok []) = (t, some r) →
      exec (.svSubscribe m tag gen) s = .next { s with dev :=
        ((if r.status = stBadParam then t else t.setUnit 0 c.entIndex (some sl)).finish m.val tag.val gen.val r) }) := by
  have hw : Word.bit (wordAt ((c.params.drop 1).set 5 c.ownWord) 0) 31 = true := by
    rw [wordAt_set_other _ (by decide), wordAt_drop]
    exact hv
  have hh : Map.get? s.dev.pbu.units (4096 * 0 + c.entIndex) = none := by rw [Nat.mul_zero, Nat.zero_add]; exact hu
  refine ⟨fun hroom => opStep_ok hr hs (Dev.entCommand_noUnit hc hw hh hroom), fun hroom h => opStep_ok hr hs (Dev.entCommand_taken hc hw hh hroom ?_)⟩
  rw [entKeys_sv]
  exact h

theorem exec_gooseSubscribe_valid (hs : s.dev.started m.val tag.val gen.val 0x0802 c) (hu : Map.get? s.dev.pbu.units (8192 + c.entIndex) = none) :
    (s.dev.poolRoom sl 8 1 = false →
      exec (.gooseSubscribe m tag gen) s = .next { s with dev := s.dev.finish m.val tag.val gen.val (Res.st stNoResource) }) ∧
    (s.dev.poolRoom sl 8 1 = true → s.dev.stageStrobe c (2 ^ 17) ((List.range 48).map (fun j =>
        (Reg.PBU_SUB c.entIndex j, wordAt ((c.params.drop 1).set 3 c.ownWord) j))) (Res.ok []) = (t, some r) →
      exec (.gooseSubscribe m tag gen) s = .next { s with dev :=
        ((if r.status = stBadParam then t else t.setUnit 2 c.entIndex (some sl)).finish m.val tag.val gen.val r) }) := by
  have hw : Word.bit (wordAt ((c.params.drop 1).set 3 c.ownWord) 0) 31 = true := by
    rw [wordAt_set_other _ (by decide), wordAt_drop]
    exact hv
  refine ⟨fun hroom => opStep_ok hr hs (Dev.entCommand_noUnit hc hw hu hroom), fun hroom h => opStep_ok hr hs (Dev.entCommand_taken hc hw hu hroom ?_)⟩
  rw [entKeys_sub]
  exact h

omit hr hv in
/-- The words of a publication under its slice. -/
theorem runGoosePublishSet_eq (d : Dev) : runGoosePublishSet c d = d.entCommand c 3 (2 ^ 18) (((c.params.drop 1).set 0 (Word.setFld (c.p 1) 0 13 sl)).set 1
    (Word.setFld (c.p 2) 24 8 (c.pf 0 0 8))) := by
  unfold runGoosePublishSet groupPub
  dsimp only
  rw [hc, wordAt_drop, wordAt_drop]
  rfl

theorem exec_goosePublishSet_valid (hs : s.dev.started m.val tag.val gen.val 0x0804 c) (hu : Map.get? s.dev.pbu.units (12288 + c.entIndex) = none) :
    (s.dev.poolRoom sl 9 1 = false →
      exec (.goosePublishSet m tag gen) s = .next { s with dev := s.dev.finish m.val tag.val gen.val (Res.st stNoResource) }) ∧
    (s.dev.poolRoom sl 9 1 = true → s.dev.stageStrobe c (2 ^ 18) (((List.range 512).filter (fun j => !pbuReadOnly 3 j)).map
        (fun j => (Reg.PBU_PUB c.entIndex j, wordAt (((c.params.drop 1).set 0 (Word.setFld (c.p 1) 0 13 sl)).set 1
          (Word.setFld (c.p 2) 24 8 (c.pf 0 0 8))) j))) (Res.ok []) = (t, some r) →
      exec (.goosePublishSet m tag gen) s = .next { s with dev :=
        ((if r.status = stBadParam then t else t.setUnit 3 c.entIndex (some sl)).finish m.val tag.val gen.val r) }) := by
  have hw : Word.bit (wordAt (((c.params.drop 1).set 0 (Word.setFld (c.p 1) 0 13 sl)).set 1 (Word.setFld (c.p 2) 24 8 (c.pf 0 0 8))) 0) 31 = true := by
    rw [wordAt_set_other _ (by decide), wordAt_set]
    split
    · exact (Word.bit_setFld_other _ _ _ _ _ (by decide) (by decide)).trans hv
    · rw [wordAt_drop]
      exact hv
  refine ⟨fun hroom => opStep_ok hr hs ((runGoosePublishSet_eq hc _).trans (Dev.entCommand_noUnit hc hw hu hroom)),
    fun hroom h => opStep_ok hr hs ((runGoosePublishSet_eq hc _).trans (Dev.entCommand_taken hc hw hu hroom ?_))⟩
  rw [entKeys_pub]
  exact h

omit hv in
theorem exec_alignerGroupSet_strobed (hs : s.dev.started m.val tag.val gen.val 0x0805 c)
    (h : s.dev.stageStrobe c (2 ^ 17) (((List.range 64).filter (fun j => !pbuReadOnly 1 j)).map (fun j => (Reg.PBU_GRP c.entIndex j,
      wordAt ((c.params.drop 1).set 0 (Word.setFld (Word.setFld (c.p 1) 0 13 sl) 16 8 (c.pf 0 0 8))) j))) (Res.ok []) = (t, some r)) :
    exec (.alignerGroupSet m tag gen) s = .next { s with dev := t.finish m.val tag.val gen.val r } := by
  refine opStep_ok hr hs ?_
  unfold runAlignerGroupSet groupPbu
  dsimp only
  rw [hc, wordAt_drop]
  exact h

end

section
variable (hs : s.dev.started m.val tag.val gen.val 0x0801 c)
include hs

theorem exec_svUnsubscribe_named (hn : s.dev.streamNamed c.entIndex = true) :
    exec (.svUnsubscribe m tag gen) s = .next { s with dev := s.dev.finish m.val tag.val gen.val (Res.st stBadParam) } :=
  opStep_ok hr hs (if_pos hn)

theorem exec_svUnsubscribe_cleared (hn : s.dev.streamNamed c.entIndex = false) (hu : Map.get? s.dev.pbu.units c.entIndex = none)
    (h : s.dev.stageStrobe c (2 ^ 17) ((List.range 48).map (fun j => (Reg.PBU_SV c.entIndex j,
      if j = 0 then Word.setBit (s.dev.staged (Reg.PBU_SV c.entIndex 0)) 31 false else s.dev.staged (Reg.PBU_SV c.entIndex j)))) (Res.ok []) =
        (t, some r)) : exec (.svUnsubscribe m tag gen) s = .next { s with dev := t.finish m.val tag.val gen.val r } := by
  have hkey (j : Nat) : 0x80000000 + 0 * 0x100 + 0 * 4 + 0x100 * c.entIndex + 4 * j = Reg.PBU_SV c.entIndex j := by unfold Reg.PBU_SV; omega
  have hword (j : Nat) (hj : j < 48) : wordAt (s.dev.cleared 0 c.entIndex) j =
      if j = 0 then Word.setBit (s.dev.staged (Reg.PBU_SV c.entIndex 0)) 31 false else s.dev.staged (Reg.PBU_SV c.entIndex j) := by
    rw [wordAt_cleared s.dev 0 _ hj, show (pbuTable 0).1 + (pbuTable 0).2.1 * c.entIndex + 4 * j = Reg.PBU_SV c.entIndex j from hkey j]
    split
    · next h0 => rw [h0]
    · rfl
  have hv : Word.bit (wordAt (s.dev.cleared 0 c.entIndex) 0) 31 = false := by
    rw [hword 0 (by decide), if_pos rfl]
    exact Word.bit_setBit_same _ _ _ (by decide)
  refine opStep_ok hr hs ((if_neg (by rw [hn]; exact Bool.false_ne_true)).trans (Dev.entCommand_cleared hv ?_ ?_))
  · rw [Nat.mul_zero, Nat.zero_add]
    exact hu
  · rw [entKeys_sv, List.map_congr_left fun j hj => by rw [hword j (List.mem_range.mp hj)]]
    exact h

end

theorem exec_gooseUnsubscribe_cleared (hs : s.dev.started m.val tag.val gen.val 0x0803 c) (hu : Map.get? s.dev.pbu.units (8192 + c.entIndex) = none)
    (h : s.dev.stageStrobe c (2 ^ 17) ((List.range 48).map (fun j => (Reg.PBU_SUB c.entIndex j,
      if j = 0 then Word.setBit (s.dev.staged (Reg.PBU_SUB c.entIndex 0)) 31 false else s.dev.staged (Reg.PBU_SUB c.entIndex j)))) (Res.ok []) =
        (t, some r)) : exec (.gooseUnsubscribe m tag gen) s = .next { s with dev := t.finish m.val tag.val gen.val r } := by
  have hkey (j : Nat) : 0x82000000 + 0 * 0x100 + 0 * 4 + 0x100 * c.entIndex + 4 * j = Reg.PBU_SUB c.entIndex j := by unfold Reg.PBU_SUB; omega
  have hword (j : Nat) (hj : j < 48) : wordAt (s.dev.cleared 2 c.entIndex) j =
      if j = 0 then Word.setBit (s.dev.staged (Reg.PBU_SUB c.entIndex 0)) 31 false else s.dev.staged (Reg.PBU_SUB c.entIndex j) := by
    rw [wordAt_cleared s.dev 2 _ hj, show (pbuTable 2).1 + (pbuTable 2).2.1 * c.entIndex + 4 * j = Reg.PBU_SUB c.entIndex j from hkey j]
    split
    · next h0 => rw [h0]
    · rfl
  have hv : Word.bit (wordAt (s.dev.cleared 2 c.entIndex) 0) 31 = false := by
    rw [hword 0 (by decide), if_pos rfl]
    exact Word.bit_setBit_same _ _ _ (by decide)
  refine opStep_ok hr hs (Dev.entCommand_cleared hv hu ?_)
  rw [entKeys_sub, List.map_congr_left fun j hj => by rw [hword j (List.mem_range.mp hj)]]
  exact h

end

/-- Settles O42: GOOSE messages by what their decoding finds, publications by their next transmission, entry accesses by their error
and their words, the opcodes by the entry they stage. -/
theorem gooseAndProcessBusRowsAct : Obligations.GooseAndProcessBusRowsAct := by
  unfold Obligations.GooseAndProcessBusRowsAct
  refine ⟨fun s hr => ⟨fun f g hf hp he => ⟨fun hu => exec_gooseFrame_dropped hr hf hp he (by decide) (Dev.gooseFrame_unread hu),
    fun app pdu o hu ho => ⟨fun hn hc => exec_gooseFrame_dropped hr hf hp he (by decide) (Dev.gooseFrame_unnamed hu ho hn hc),
      fun i hi hrev hsim hfl _ hst => exec_gooseFrame_accepted hr hf hp he hu ho hi hrev hsim hfl hst⟩⟩,
    fun i => ⟨fun h => exec_gooseStale_idle h, fun h => exec_gooseStale_alive hr h⟩,
    fun i h => ⟨fun x fs hq hact htgt => ?_, exec_gooseHeartbeat_idle h⟩, fun i bs sq hv hd hsq hbs => ?_,
    fun i h => exec_gooseFastRetransmit_over h, exec_pbuLockstepFault_reloads hr⟩, fun s v m tb hr hv => ?_, fun s m tag gen c t r i hr hi => ?_⟩
  · exact (exec_gooseEvent hr hq hact htgt).trans
      (by rw [Dev.pubAgain_idle (d := { s.dev with gau := { s.dev.gau with firings := fs } }) h])
  · obtain rfl : sq = nextSq (s.dev.gpub i.val).sq := hsq
    exact ⟨fun x fs hq hact htgt => exec_gooseEvent_published hr hv hd hbs hq hact htgt,
      fun hbeat => exec_gooseHeartbeat_published hr hv hd hbs hbeat, fun hfast => exec_gooseFastRetransmit_published hr hv hd hbs hfast⟩
  · obtain ⟨hactive, hstaged, hwrite⟩ := exec_pbuEntRead hr hv
    have htb : tb < 4 := hv ▸ Word.fld_lt v 24 2
    refine ⟨fun h => ?_, fun h => ⟨⟨_, hactive, Dev.entRead_shows htb h (by decide) _⟩, ⟨_, hstaged, Dev.entRead_shows htb h (by decide) _⟩,
      fun hdir => ⟨_, hwrite m, Dev.entWrite_shows htb h hdir m.val⟩⟩⟩
    rw [hactive, hstaged, hwrite m, Dev.entRead_error h, Dev.entRead_error h, Dev.entWrite_error h]
    exact ⟨rfl, rfl, rfl⟩
  · subst hi
    exact ⟨fun sl hc hv => ⟨fun hs hu => exec_svSubscribe_valid hr hc hv hs hu, fun hs hu => exec_gooseSubscribe_valid hr hc hv hs hu,
      fun hs hu => exec_goosePublishSet_valid hr hc hv hs hu, fun hs h => exec_alignerGroupSet_strobed hr hc hs h⟩,
      fun hs hn => exec_svUnsubscribe_named hr hs hn, fun hs hn hu h => exec_svUnsubscribe_cleared hr hs hn hu h,
      fun hs hu h => exec_gooseUnsubscribe_cleared hr hs hu h, fun hs => opStep_ok hr hs rfl⟩

end Sys2Proof.Machine
end


section
/-! DEFINITION. What showing a member's path and sending a frame to it leave unchanged; Trellis links, HELLOs, paths and frames (O43). -/

namespace Sys2Proof.Machine

/-! ## What Trellis shows (R445, R447, R467) -/

/-- The registers by which links and members are shown, but for the words of the paths themselves. -/
abbrev shownReg (k : Nat) : Prop := (0x1400030 ≤ k ∧ k < 0x140003c) ∨ (0x1400200 ≤ k ∧ k < 0x1400280) ∨ k = Reg.GLB_EVT_STATUS

/-- `t` shows the links as `d` but for CARRYING, and every event of Trellis that `d` shows. -/
structure Dev.LinksKept (d t : Dev) : Prop where
  link : ∀ p lo n, p < 4 → lo + n ≤ 15 ∨ 16 ≤ lo → lo + n ≤ 32 → t.fld (Reg.TRL_PORTt_STATUS p) lo n = d.fld (Reg.TRL_PORTt_STATUS p) lo n
  evt : ∀ i, i < 24 → d.bit Reg.TRL_EVT_STATUS i = true → t.bit Reg.TRL_EVT_STATUS i = true

/-- `t` has the members, the paths and the links of `d`, whatever it has shown and sent. -/
structure Dev.TrlTold (d t : Dev) : Prop extends Dev.LinksKept d t where
  trl : t.trl = d.trl
  regs : ∀ k, ¬ shownReg k → t.reg k = d.reg k

theorem trlStatus_ne_evt (p : Nat) : Reg.TRL_EVT_STATUS ≠ Reg.TRL_PORTt_STATUS p := by
  unfold Reg.TRL_EVT_STATUS Reg.TRL_PORTt_STATUS
  omega

theorem Dev.LinksKept.trans {d t u : Dev} (h : d.LinksKept t) (h' : t.LinksKept u) : d.LinksKept u where
  link p lo n hp ho hn := (h'.link p lo n hp ho hn).trans (h.link p lo n hp ho hn)
  evt i hi hd := h'.evt i hi (h.evt i hi hd)

theorem Dev.LinksKept.setReg (d : Dev) {k : Nat} (v : Word) (hk : k < 0x1400030 ∨ 0x1400280 ≤ k) : d.LinksKept (d.setReg k v) where
  link p lo n hp _ _ := Dev.fld_setReg_other _ _ _ _ (by unfold Reg.TRL_PORTt_STATUS; omega)
  evt i _ hd := (Dev.bit_setReg_other _ _ _ (by unfold Reg.TRL_EVT_STATUS; omega)).trans hd

namespace Dev.TrlTold
variable {d t u : Dev}

theorem of_eq (hrf : t.rf = d.rf) (htrl : t.trl = d.trl) : d.TrlTold t where
  link p lo n _ _ _ := by rw [Dev.fld, Dev.reg_congr hrf, Dev.fld]
  evt i _ hd := by rw [Dev.bit, Dev.reg_congr hrf]; exact hd
  trl := htrl
  regs k _ := Dev.reg_congr hrf k

theorem refl (d : Dev) : d.TrlTold d := of_eq rfl rfl

theorem trans (h : d.TrlTold t) (h' : t.TrlTold u) : d.TrlTold u where
  toLinksKept := h.toLinksKept.trans h'.toLinksKept
  trl := h'.trl.trans h.trl
  regs k hk := (h'.regs k hk).trans (h.regs k hk)

theorem foldl {α : Type} (f : Dev → α → Dev) (l : List α) (d : Dev) (h : ∀ x ∈ l, ∀ t : Dev, t.TrlTold (f t x)) :
    d.TrlTold (l.foldl f d) := by
  induction l generalizing d with
  | nil => exact refl d
  | cons x l ih => exact (h x (by simp) d).trans (ih (f d x) fun y hy => h y (by simp [hy]))

theorem carrying (d : Dev) {p : Nat} (hp : p < 4) (b : Bool) : d.TrlTold (d.setBit (Reg.TRL_PORTt_STATUS p) 15 b) where
  link q lo n _ ho hn := by
    by_cases hq : Reg.TRL_PORTt_STATUS q = Reg.TRL_PORTt_STATUS p
    · rw [hq]
      exact Dev.fld_setBit_other _ _ _ hn (by omega)
    · exact Dev.fld_setReg_other _ _ _ _ hq
  evt i _ hd := (Dev.bit_setReg_other _ _ _ (trlStatus_ne_evt p)).trans hd
  trl := rfl
  regs k hk := Dev.reg_setReg_other _ _ (by unfold shownReg at hk; unfold Reg.TRL_PORTt_STATUS; omega)

theorem showCarrying (d : Dev) : d.TrlTold d.showCarrying :=
  foldl _ _ d fun _ hp d => carrying d (List.mem_range.mp hp) _

theorem trlEvt (d : Dev) (b i : Nat) : d.TrlTold (d.trlEvt b i) where
  link p lo n hp _ _ := (Dev.fld_setReg_other _ _ _ _ (by unfold Reg.TRL_PORTt_STATUS Reg.TRL_EVT_INDEX; omega)).trans
    (Dev.fld_setReg_other _ _ _ _ (trlStatus_ne_evt p).symm)
  evt i hi hd := by
    refine (Dev.bit_setReg_other _ _ _ (by decide)).trans ?_
    rw [Dev.bit_sqSet _ _ _ hi, hd]
    rfl
  trl := rfl
  regs k hk := by
    unfold shownReg at hk
    exact (Dev.reg_setReg_other _ _ (by unfold Reg.TRL_EVT_INDEX; omega)).trans
      (Dev.reg_setReg_other _ _ (by unfold Reg.TRL_EVT_STATUS; omega))

/-- A register among those shown that is neither a link's nor the events'. -/
theorem setShown (d : Dev) {k : Nat} (v : Word) (hk : k = Reg.TRL_PARTITION ∨ k = Reg.GLB_EVT_STATUS) : d.TrlTold (d.setReg k v) where
  link p lo n hp _ _ := Dev.fld_setReg_other _ _ _ _ (by unfold Reg.TRL_PARTITION Reg.GLB_EVT_STATUS at hk; unfold Reg.TRL_PORTt_STATUS; omega)
  evt i _ hd := (Dev.bit_setReg_other _ _ _ (by rintro rfl; revert hk; decide)).trans hd
  trl := rfl
  regs j hj := by
    refine Dev.reg_setReg_other _ _ ?_
    rintro rfl
    obtain rfl | rfl := hk <;> exact hj (by decide)

theorem postAll (ms : List Nat) (kind info : Nat) (d : Dev) : d.TrlTold (d.postAll ms kind info) :=
  foldl _ _ d fun m _ d => of_eq (d.rf_post m kind info) (by unfold Dev.post; split <;> rfl)

theorem hcSet (d : Dev) (b : Bool) : d.TrlTold (d.hcSet Reg.TRL_PARTITION 0 b 3) := by
  have hset : d.TrlTold (d.setBit Reg.TRL_PARTITION 0 b) := setShown d _ (.inl rfl)
  unfold Dev.hcSet
  extract_lets rose x
  split
  · exact hset.trans ((setShown x _ (.inr rfl)).trans (postAll _ _ _ _))
  · exact hset

theorem showPartition (d : Dev) : d.TrlTold d.showPartition := (setShown d _ (.inl rfl)).trans (hcSet _ _)

theorem newFrame (d : Dev) (f : Frame) : d.TrlTold (d.newFrame f).2 := of_eq rfl rfl

theorem sendTunnel (d : Dev) (p cls : Nat) (mac w : List Byte) : d.TrlTold (d.sendTunnel p cls mac w) := by
  unfold Dev.sendTunnel
  extract_lets tun tag
  split
  · exact newFrame d _
  · exact refl d

theorem sendWire (d : Dev) (id cls : Nat) (w : List Byte) : d.TrlTold (d.sendWire id cls w) := by
  unfold Dev.sendWire
  split
  · exact refl d
  · split
    · exact sendTunnel d _ _ _ _
    · split
      · exact newFrame d _
      · exact refl d

theorem resend (d : Dev) (id : Nat) : d.TrlTold (d.resend id) := foldl _ _ d fun _ _ d => sendWire d _ _ _

end Dev.TrlTold

/-- Frames sent change no register. -/
theorem Dev.rf_sendWire (d : Dev) (id cls : Nat) (w : List Byte) : (d.sendWire id cls w).rf = d.rf := by
  unfold Dev.sendWire Dev.sendTunnel
  split
  · rfl
  · split
    · extract_lets tun tag
      split <;> rfl
    · split <;> rfl

theorem Dev.rf_resend (d : Dev) (id : Nat) : (d.resend id).rf = d.rf := by
  unfold Dev.resend
  generalize (d.path id).unacked = l
  induction l generalizing d with
  | nil => rfl
  | cons x l ih => exact (ih _).trans (d.rf_sendWire id _ _)

theorem Dev.bit_trlEvt (d : Dev) {b : Nat} (hb : b < 24) (i : Nat) : (d.trlEvt b i).bit Reg.TRL_EVT_STATUS b = true :=
  (Dev.bit_setReg_other _ _ _ (by decide)).trans (Dev.bit_sqSet_mem d _ hb (List.mem_singleton_self b))

/-! ## Members and the state of their paths (R446, R447) -/

theorem Dev.memberCount_congr {d t : Dev} (h : t.reg Reg.TRL_DOMAIN = d.reg Reg.TRL_DOMAIN) : t.memberCount = d.memberCount := by
  unfold Dev.memberCount Dev.fld
  rw [h]

theorem Dev.memberIdx_congr {d t : Dev} (hd : t.reg Reg.TRL_DOMAIN = d.reg Reg.TRL_DOMAIN)
    (hm : ∀ i, t.reg (Reg.TRL_MEMBER i 0) = d.reg (Reg.TRL_MEMBER i 0)) (id : Nat) : t.memberIdx id = d.memberIdx id := by
  have hid : t.memberId = d.memberId := funext fun i => by rw [Dev.memberId, Dev.fld, hm i, Dev.memberId, Dev.fld]
  unfold Dev.memberIdx
  rw [Dev.memberCount_congr hd, hid]

theorem not_shownReg_member (i : Nat) : ¬ shownReg (Reg.TRL_MEMBER i 0) := by
  unfold shownReg Reg.TRL_MEMBER Reg.GLB_EVT_STATUS
  omega

theorem not_shownReg_member3 (i : Nat) : ¬ shownReg (Reg.TRL_MEMBER3 i) := by
  unfold shownReg Reg.TRL_MEMBER3 Reg.GLB_EVT_STATUS
  omega

namespace Dev.TrlTold
variable {d t : Dev}

theorem memberIdx (h : d.TrlTold t) (id : Nat) : t.memberIdx id = d.memberIdx id :=
  Dev.memberIdx_congr (h.regs _ (by decide)) (fun i => h.regs _ (not_shownReg_member i)) id

theorem pathState (h : d.TrlTold t) (id : Nat) : t.pathState id = d.pathState id := by
  unfold Dev.pathState
  rw [h.memberIdx]
  split
  · rw [Dev.fld, h.regs _ (not_shownReg_member3 _), Dev.fld]
  · rfl

theorem path (h : d.TrlTold t) (id : Nat) : t.path id = d.path id := by rw [Dev.path, h.trl, Dev.path]

end Dev.TrlTold

theorem Dev.path_setPath (d : Dev) (id : Nat) (f : Path → Path) : (d.setPath id f).path id = f (d.path id) := (Map.getD_put _ _ _ _ _).trans (if_pos rfl)

theorem Dev.memberIdx_of_pathState {d : Dev} {id : Nat} (h : d.pathState id ≠ 0) : ∃ i, d.memberIdx id = some i := by
  unfold Dev.pathState at h
  split at h
  · next i hi => exact ⟨i, hi⟩
  · exact absurd rfl h

theorem Dev.pathState_lt (d : Dev) (id : Nat) : d.pathState id < 8 := by
  unfold Dev.pathState
  split
  · exact Word.fld_lt _ _ 3
  · decide

/-- What the transition of a member's path leaves: its links, and its event of coming UP or leaving UP. -/
structure Dev.PathMoved (d t : Dev) (id st : Nat) : Prop extends Dev.LinksKept d t where
  state : t.pathState id = st
  trl : t.trl = d.trl
  regs : ∀ k, k < 0x1400000 → k ≠ Reg.GLB_EVT_STATUS → t.reg k = d.reg k
  up : st = 3 → d.pathState id ≠ 3 → t.bit Reg.TRL_EVT_STATUS 4 = true
  down : d.pathState id = 3 → st ≠ 3 → t.bit Reg.TRL_EVT_STATUS 3 = true

theorem Dev.carrier_lt (d : Dev) (id : Nat) : (d.carrier id).getD 0 < 4 := by
  cases h : d.carrier id with
  | none => decide
  | some p => exact List.mem_range.mp (List.mem_of_find?_eq_some h)

/-- The state's event of a path's transition. -/
theorem Dev.TrlTold.pathEvt (d : Dev) (id st old : Nat) :
    d.TrlTold (if st = 3 ∧ old ≠ 3 then d.trlEvt 4 id else if old = 3 ∧ st ≠ 3 then d.trlEvt 3 id else d) := by
  split
  · exact .trlEvt d _ _
  · split
    · exact .trlEvt d _ _
    · exact .refl d

theorem fld_pathWord {st c e : Nat} (hst : st < 8) (hc : c < 4) (he : e < 65536) : Word.fld (wd (st * 2 ^ 29 + c * 2 ^ 16 + e)) 29 3 = st := by
  rw [Word.fld_wd _ (by omega)]
  omega

/-- The word of a member's path shows its state. -/
theorem Dev.pathState_setReg {d : Dev} {id i : Nat} (hi : d.memberIdx id = some i) (v : Word) :
    (d.setReg (Reg.TRL_MEMBER3 i) v).pathState id = Word.fld v 29 3 := by
  have hdom : (d.setReg (Reg.TRL_MEMBER3 i) v).reg Reg.TRL_DOMAIN = d.reg Reg.TRL_DOMAIN :=
    Dev.reg_setReg_other _ _ (by unfold Reg.TRL_DOMAIN Reg.TRL_MEMBER3; omega)
  have hmem (j : Nat) : (d.setReg (Reg.TRL_MEMBER3 i) v).reg (Reg.TRL_MEMBER j 0) = d.reg (Reg.TRL_MEMBER j 0) :=
    Dev.reg_setReg_other _ _ (by unfold Reg.TRL_MEMBER Reg.TRL_MEMBER3; omega)
  unfold Dev.pathState
  rw [Dev.memberIdx_congr hdom hmem, hi]
  dsimp only
  rw [Dev.fld, Dev.reg_setReg_same]

theorem Dev.setPathState_eq {d : Dev} {id st i : Nat} (hi : d.memberIdx id = some i) : d.setPathState id st =
    (if st = 3 ∧ d.pathState id ≠ 3 then (d.setN (Reg.TRL_MEMBER3 i) (st * 2 ^ 29 + (d.carrier id).getD 0 * 2 ^ 16 + (d.path id).epoch)).trlEvt 4 id
      else if d.pathState id = 3 ∧ st ≠ 3 then
        (d.setN (Reg.TRL_MEMBER3 i) (st * 2 ^ 29 + (d.carrier id).getD 0 * 2 ^ 16 + (d.path id).epoch)).trlEvt 3 id
      else d.setN (Reg.TRL_MEMBER3 i) (st * 2 ^ 29 + (d.carrier id).getD 0 * 2 ^ 16 + (d.path id).epoch)).showPartition.showCarrying := by
  unfold Dev.setPathState
  rw [hi]

theorem Dev.setPathState_moved {d : Dev} {id st i : Nat} (hi : d.memberIdx id = some i) (hst : st < 8) (he : (d.path id).epoch < 65536) :
    d.PathMoved (d.setPathState id st) id st := by
  rw [Dev.setPathState_eq hi]
  have hx : (d.setN (Reg.TRL_MEMBER3 i) (st * 2 ^ 29 + (d.carrier id).getD 0 * 2 ^ 16 + (d.path id).epoch)).pathState id = st :=
    (Dev.pathState_setReg hi _).trans (fld_pathWord hst (d.carrier_lt id) he)
  have hk : d.LinksKept (d.setN (Reg.TRL_MEMBER3 i) (st * 2 ^ 29 + (d.carrier id).getD 0 * 2 ^ 16 + (d.path id).epoch)) :=
    .setReg d _ (by unfold Reg.TRL_MEMBER3; omega)
  have hregs (k : Nat) (hk : k < 0x1400000) : (d.setN (Reg.TRL_MEMBER3 i) (st * 2 ^ 29 + (d.carrier id).getD 0 * 2 ^ 16 + (d.path id).epoch)).reg k =
      d.reg k := Dev.reg_setReg_other _ _ (by unfold Reg.TRL_MEMBER3; omega)
  have htrl : (d.setN (Reg.TRL_MEMBER3 i) (st * 2 ^ 29 + (d.carrier id).getD 0 * 2 ^ 16 + (d.path id).epoch)).trl = d.trl := Dev.setReg_trl _ _ _
  generalize d.setN (Reg.TRL_MEMBER3 i) (st * 2 ^ 29 + (d.carrier id).getD 0 * 2 ^ 16 + (d.path id).epoch) = x at hx hk htrl hregs ⊢
  have hev := Dev.TrlTold.pathEvt x id st (d.pathState id)
  have hsh (y : Dev) : y.TrlTold y.showPartition.showCarrying := (Dev.TrlTold.showPartition y).trans (.showCarrying _)
  refine ⟨hk.trans (hev.trans (hsh _)).toLinksKept, ((hev.trans (hsh _)).pathState id).trans hx, (hev.trans (hsh _)).trl.trans htrl,
    fun k hk hg => ((hev.trans (hsh _)).regs k (by unfold shownReg; omega)).trans (hregs k hk), fun h3 ho => ?_, fun ho h3 => ?_⟩
  · rw [if_pos ⟨h3, ho⟩]
    exact (hsh _).evt 4 (by decide) (Dev.bit_trlEvt x (by decide) id)
  · rw [if_neg (fun h => h3 h.1), if_pos ⟨ho, h3⟩]
    exact (hsh _).evt 3 (by decide) (Dev.bit_trlEvt x (by decide) id)

theorem Dev.setPathState_linksKept (d : Dev) (id st : Nat) : d.LinksKept (d.setPathState id st) := by
  unfold Dev.setPathState
  split
  · exact (Dev.TrlTold.refl d).toLinksKept
  · next i _ =>
    have hk (v : Word) : d.LinksKept (d.setReg (Reg.TRL_MEMBER3 i) v) := .setReg d v (by unfold Reg.TRL_MEMBER3; omega)
    exact (hk _).trans ((Dev.TrlTold.pathEvt _ id st _).trans ((Dev.TrlTold.showPartition _).trans (.showCarrying _))).toLinksKept

theorem Dev.failPeer_keeps (d : Dev) (id st : Nat) : (d.failPeer id st).rf = d.rf ∧
    (d.failPeer id st).trl = { d.trl with reqs := d.trl.reqs.filter (fun r => decide (r.2.dev ≠ id)) } := by
  unfold Dev.failPeer
  extract_lets mine
  have hfold (l : List (Nat × PeerReq)) (y : Dev) :
      (l.foldl (fun d r => d.answerReq r.2.thread r.1 st []) y).rf = y.rf ∧ (l.foldl (fun d r => d.answerReq r.2.thread r.1 st []) y).trl = y.trl := by
    induction l generalizing y with
    | nil => exact ⟨rfl, rfl⟩
    | cons r l ih => exact ih (y.answerReq r.2.thread r.1 st [])
  exact hfold mine _

/-- A path that goes DOWN has nothing of what it had not delivered (R450). -/
theorem Dev.pathDown_shows {d : Dev} {id : Nat} (hp : 2 ≤ d.pathState id) (he : (d.path id).epoch < 65536) :
    (d.pathDown id).pathState id = 1 ∧ ((d.pathDown id).path id).unacked = [] ∧ ((d.pathDown id).path id).backlog = [] ∧
    (d.pathDown id).trl.reqs = d.trl.reqs.filter (fun r => decide (r.2.dev ≠ id)) ∧
    (d.reachable id = true → (d.pathDown id).bit Reg.TRL_EVT_STATUS 3 = true) := by
  obtain ⟨i, hi⟩ := Dev.memberIdx_of_pathState (d := d) (id := id) (by omega)
  unfold Dev.pathDown
  extract_lets x
  have hxp : x.path id = { d.path id with unacked := [], backlog := [], resends := 0, peerEpoch := 0 } := Dev.path_setPath ..
  have hm : x.PathMoved (x.setPathState id 1) id 1 := Dev.setPathState_moved (i := i) hi (by decide) (by rw [hxp]; exact he)
  have hup : x.pathState id = d.pathState id := rfl
  have hreqs : x.trl.reqs = d.trl.reqs := rfl
  generalize x.setPathState id 1 = y at hm
  obtain ⟨hrf, htrl⟩ := y.failPeer_keeps id 0x17
  have hpath : (y.failPeer id 0x17).path id = x.path id := by rw [Dev.path, htrl, hm.trl, Dev.path]
  have hof : y.TrlTold { y with rf := (y.failPeer id 0x17).rf } := .of_eq hrf rfl
  refine ⟨(hof.pathState id).trans hm.state, by rw [hpath, hxp], by rw [hpath, hxp], by rw [htrl, hm.trl, hreqs],
    fun h => ?_⟩
  rw [Dev.bit, Dev.reg_congr hrf]
  exact hm.down (hup.trans (of_decide_eq_true h)) (by decide)

/-! ## Links (R445) -/

theorem Dev.setTrlLink_enters {d : Dev} {p : Nat} (h : d.trlLink p ≠ 5) (st : Nat) :
    d.setTrlLink p st = (d.setFld (Reg.TRL_PORTt_STATUS p) 29 3 st).showCarrying := by
  unfold Dev.setTrlLink
  exact if_neg fun h' => h h'.1

theorem Dev.trlLink_setTrlLink {d : Dev} {p st : Nat} (hp : p < 4) (h : d.trlLink p ≠ 5) (hst : st < 8) : (d.setTrlLink p st).trlLink p = st := by
  rw [Dev.setTrlLink_enters h]
  exact ((Dev.TrlTold.showCarrying _).link p 29 3 hp (by decide) (by decide)).trans
    ((Dev.fld_setFld_same _ _ _ _ _ (by decide)).trans (Nat.mod_eq_of_lt hst))

theorem Dev.sameRegsBut_showCarrying (d : Dev) : d.sameRegsBut d.showCarrying ((List.range 4).map Reg.TRL_PORTt_STATUS) := by
  unfold Dev.showCarrying
  have hfold (l : List Nat) (f : Dev → Nat → Bool) (hl : ∀ p ∈ l, p < 4) (d : Dev) :
      d.sameRegsBut (l.foldl (fun d t => d.setBit (Reg.TRL_PORTt_STATUS t) 15 (f d t)) d) ((List.range 4).map Reg.TRL_PORTt_STATUS) := by
    induction l generalizing d with
    | nil => exact .refl _ _
    | cons p l ih =>
      have hp : Reg.TRL_PORTt_STATUS p ∈ (List.range 4).map Reg.TRL_PORTt_STATUS :=
        List.mem_map_of_mem (List.mem_range.mpr (hl p (by simp)))
      exact ((Dev.sameRegsBut.refl d _).setReg hp).trans (ih (fun q hq => hl q (by simp [hq])) _)
  exact hfold _ (fun d t => decide (d.trlLink t = 5) && decide (d.carrier (d.fld (Reg.TRL_PORTt_STATUS t) 16 9) = some t) &&
    d.reachable (d.fld (Reg.TRL_PORTt_STATUS t) 16 9) && (d.tunnelOf (d.fld (Reg.TRL_PORTt_STATUS t) 16 9)).isNone)
    (fun p hp => List.mem_range.mp hp) d

/-- A link that leaves UP is DOWN, with no neighbour, and its event is set. -/
theorem Dev.setTrlLink_lost {d : Dev} {p : Nat} (hp : p < 4) (h : d.trlLink p = 5) : (d.setTrlLink p 1).trlLink p = 1 ∧
    (d.setTrlLink p 1).bit Reg.TRL_EVT_STATUS 0 = true ∧ (d.setTrlLink p 1).fld (Reg.TRL_PORTt_STATUS p) 16 9 = 0 := by
  unfold Dev.setTrlLink
  extract_lets k old id x z
  rw [if_pos ⟨h, by decide⟩]
  have hev : ((x.countFld k 0 8).setFld k 16 9 0).LinksKept z := (Dev.TrlTold.trlEvt _ 0 p).toLinksKept
  have hbit : z.bit Reg.TRL_EVT_STATUS 0 = true := Dev.bit_trlEvt _ (by decide) p
  have hl : z.fld k 29 3 = 1 := (hev.link p 29 3 hp (by decide) (by decide)).trans
    ((Dev.fld_setFld_other _ _ _ (by decide) (by decide)).trans ((Dev.fld_setFld_other _ _ _ (by decide) (by decide)).trans
      (Dev.fld_setFld_same _ _ _ _ _ (by decide))))
  have hn : z.fld k 16 9 = 0 := (hev.link p 16 9 hp (by decide) (by decide)).trans (Dev.fld_setFld_same _ _ _ _ _ (by decide))
  clear_value z
  have hz : z.LinksKept (if (z.carrier id).isSome ∧ (z.tunnelOf id).isNone then (z.setPathState id (z.pathState id)).resend id else z).showCarrying := by
    refine Dev.LinksKept.trans ?_ (Dev.TrlTold.showCarrying _).toLinksKept
    split
    · exact (z.setPathState_linksKept id _).trans (Dev.TrlTold.resend _ id).toLinksKept
    · exact (Dev.TrlTold.refl z).toLinksKept
  exact ⟨(hz.link p 29 3 hp (by decide) (by decide)).trans hl, hz.evt 0 (by decide) hbit,
    (hz.link p 16 9 hp (by decide) (by decide)).trans hn⟩

end Sys2Proof.Machine
end


section
/-! PROOFS. Trellis links, HELLOs, paths and Wepomer frames (O43). -/

namespace Sys2Proof.Machine

section
variable {s : State} {p : Fin 4}

/-! ## Link events (R445) -/

theorem exec_linkStep {i : Instr} {src dst : Nat} (h : (i, src, dst) ∈ [(Instr.trlLinkSignalDetect p, 1, 2), (.trlLinkTrainingDone p, 2, 3),
    (.trlLinkTrainingTimeout p, 2, 1), (.trlLinkAligned p, 3, 4), (.trlLinkLockLoss p, 5, 1)]) :
    exec i s = linkStep p.val src dst s ∧ dst < 8 ∧ (src = 5 → dst = 1) := by
  simp only [List.mem_cons, List.not_mem_nil, or_false, Prod.mk.injEq] at h
  obtain ⟨rfl, rfl, rfl⟩ | ⟨rfl, rfl, rfl⟩ | ⟨rfl, rfl, rfl⟩ | ⟨rfl, rfl, rfl⟩ | ⟨rfl, rfl, rfl⟩ := h <;>
    exact ⟨rfl, by decide, by decide⟩

theorem linkStep_elsewhere {src : Nat} (h : s.dev.trlLink p.val ≠ src) (dst : Nat) : linkStep p.val src dst s = .next s :=
  act_same (Dev.when_false _ _ (decide_eq_false h))

theorem linkStep_moves (hr : s.dev.running = true) {src dst : Nat} (h : s.dev.trlLink p.val = src) (hd : dst < 8) (h5 : src = 5 → dst = 1) :
    ∃ u, linkStep p.val src dst s = .next u ∧ u.dev.trlLink p.val = dst ∧
      (src = 5 → u.dev.bit Reg.TRL_EVT_STATUS 0 = true ∧ u.dev.fld (Reg.TRL_PORTt_STATUS p.val) 16 9 = 0) ∧
      (src ≠ 5 → s.dev.sameRegsBut u.dev ((List.range 4).map Reg.TRL_PORTt_STATUS)) := by
  have hrow : linkStep p.val src dst s = .next { s with dev := s.dev.setTrlLink p.val dst } :=
    (act_run hr).trans (by rw [Dev.when_true _ _ (decide_eq_true h)])
  refine ⟨_, hrow, ?_⟩
  by_cases hsrc : src = 5
  · obtain rfl := h5 hsrc
    obtain ⟨hl, hb, hn⟩ := Dev.setTrlLink_lost p.isLt (h.trans hsrc)
    exact ⟨hl, fun _ => ⟨hb, hn⟩, fun hne => absurd hsrc hne⟩
  · have hne : s.dev.trlLink p.val ≠ 5 := fun he => hsrc (h.symm.trans he)
    refine ⟨Dev.trlLink_setTrlLink p.isLt hne hd, fun he => absurd he hsrc, fun _ => ?_⟩
    have hmem : Reg.TRL_PORTt_STATUS p.val ∈ (List.range 4).map Reg.TRL_PORTt_STATUS := List.mem_map_of_mem (List.mem_range.mpr p.isLt)
    change s.dev.sameRegsBut (s.dev.setTrlLink p.val dst) _
    rw [Dev.setTrlLink_enters hne]
    exact ((Dev.sameRegsBut.refl _ _).setReg hmem).trans (Dev.sameRegsBut_showCarrying _)

/-! ## HELLOs sent (R446, R449) -/

theorem Dev.frame?_sendLink (d : Dev) (t cls : Nat) (w : List Byte) : (d.sendLink t cls w).frame? d.prs.nextFrame =
    some (Frame.new (d.trlPipe t) 17 cls (.trlPort t) (ethWepomer (d.macOf Reg.TRL_MAC_LO) (d.macOf Reg.TRL_MAC_LO) none w) 0 d.time d.now) :=
  Dev.frame?_putFrame _ _ _

theorem exec_helloSend_closed (h4 : s.dev.trlLink p.val ≠ 4) (h5 : s.dev.trlLink p.val ≠ 5) : exec (.helloSend (.link p)) s = .next s := by
  refine act_same ?_
  dsimp only
  rw [if_neg h4, if_neg h5]

theorem exec_helloSend_new (hr : s.dev.running = true) (h4 : s.dev.trlLink p.val = 4) : ∃ u f dst, exec (.helloSend (.link p)) s = .next u ∧
    u.dev.frame? s.dev.prs.nextFrame = some f ∧ f.place = .trlPort p.val ∧ s.dev.sameRegsBut u.dev [] ∧
    f.bytes = ethWepomer (s.dev.macOf Reg.TRL_MAC_LO) (s.dev.macOf Reg.TRL_MAC_LO) none
      (s.dev.wepomer dst true 0 (s.dev.helloMessage ⟨0, 0, 0, 0, [], [], 0⟩)) := by
  have e : exec (.helloSend (.link p)) s = _ := act_run hr
  dsimp only at e
  rw [if_pos h4] at e
  exact ⟨_, _, s.dev.freeNat.1 % 512, e, Dev.frame?_sendLink _ _ _ _, rfl, fun _ _ => rfl, rfl⟩

theorem exec_helloSend_up (hr : s.dev.running = true) (h5 : s.dev.trlLink p.val = 5) : exec (.helloSend (.link p)) s = .next { s with dev :=
    ((fun d : Dev => d.sendLink p.val 1 (d.wepomer (s.dev.fld (Reg.TRL_PORTt_STATUS p.val) 16 9) true 0
      (d.helloMessage (d.path (s.dev.fld (Reg.TRL_PORTt_STATUS p.val) 16 9)))))
      (if (s.dev.tunnelOf (s.dev.fld (Reg.TRL_PORTt_STATUS p.val) 16 9)).isNone then s.dev.wakePath (s.dev.fld (Reg.TRL_PORTt_STATUS p.val) 16 9)
        else s.dev)) } := by
  have e : exec (.helloSend (.link p)) s = _ := act_run hr
  dsimp only at e
  rw [if_neg (by rw [h5]; decide), if_pos h5] at e
  exact e

theorem exec_helloSend_known (hr : s.dev.running = true) {id : Nat} (hid : s.dev.fld (Reg.TRL_PORTt_STATUS p.val) 16 9 = id)
    (h5 : s.dev.trlLink p.val = 5) (h1 : s.dev.pathState id ≠ 1) : ∃ u f, exec (.helloSend (.link p)) s = .next u ∧
      u.dev.frame? s.dev.prs.nextFrame = some f ∧ f.place = .trlPort p.val ∧ s.dev.sameRegsBut u.dev [] ∧
      f.bytes = ethWepomer (s.dev.macOf Reg.TRL_MAC_LO) (s.dev.macOf Reg.TRL_MAC_LO) none
        (s.dev.wepomer id true 0 (s.dev.helloMessage (s.dev.path id))) := by
  have hrow := exec_helloSend_up hr h5
  rw [hid, show s.dev.wakePath id = s.dev from if_neg h1, ite_self] at hrow
  exact ⟨_, _, hrow, Dev.frame?_sendLink _ _ _ _, rfl, fun _ _ => rfl, rfl⟩

/-- A path that starts is in HELLO under its next EPOCH (R449). -/
theorem Dev.startPath_shows {d : Dev} {id i : Nat} (hi : d.memberIdx id = some i) (he : (d.path id).epoch < 65536) :
    (d.startPath id).pathState id = 2 ∧
      ((d.startPath id).path id).epoch = if (d.path id).epoch = 65535 then 1 else (d.path id).epoch + 1 := by
  unfold Dev.startPath
  extract_lets x
  have hx : (x.path id).epoch = if (d.path id).epoch = 65535 then 1 else (d.path id).epoch + 1 :=
    congrArg Path.epoch (Dev.path_setPath d id _)
  have hm : x.PathMoved (x.setPathState id 2) id 2 := Dev.setPathState_moved (i := i) hi (by decide) (by rw [hx]; split <;> omega)
  exact ⟨hm.state, by rw [Dev.path, hm.trl, ← Dev.path, hx]⟩

theorem exec_helloSend_starts (hr : s.dev.running = true) {id : Nat} (hid : s.dev.fld (Reg.TRL_PORTt_STATUS p.val) 16 9 = id)
    (h5 : s.dev.trlLink p.val = 5) (h1 : s.dev.pathState id = 1) (ht : s.dev.tunnelOf id = none) (he : (s.dev.path id).epoch < 65536) :
    ∃ u, exec (.helloSend (.link p)) s = .next u ∧ u.dev.pathState id = 2 ∧
      (u.dev.path id).epoch = if (s.dev.path id).epoch = 65535 then 1 else (s.dev.path id).epoch + 1 := by
  have hrow := exec_helloSend_up hr h5
  rw [hid, ht, if_pos Option.isNone_none, show s.dev.wakePath id = s.dev.startPath id from if_pos h1] at hrow
  obtain ⟨i, hi⟩ := Dev.memberIdx_of_pathState (d := s.dev) (id := id) (by omega)
  obtain ⟨hst, hep⟩ := Dev.startPath_shows hi he
  generalize s.dev.startPath id = x at hrow hst hep
  have hs (w : List Byte) : x.TrlTold (x.sendLink p.val 1 w) := .newFrame x _
  exact ⟨_, hrow, ((hs _).pathState id).trans hst, by rw [(hs _).path]; exact hep⟩

theorem exec_helloSend_noTunnel {id : Fin 512} (h : s.dev.tunnelOf id.val = none) : exec (.helloSend (.tunnel id)) s = .next s := by
  refine act_same ?_
  dsimp only
  rw [h]
  exact if_neg fun h' => absurd h'.1 Bool.false_ne_true

/-! ## HELLOs received (R445, R446, R449, R456) -/

theorem exec_hello_closed (h4 : s.dev.trlLink p.val ≠ 4) (h5 : s.dev.trlLink p.val ≠ 5) (h : HelloBody) :
    exec (.hello (.link p) h) s = .next s := by
  refine act_same ?_
  dsimp only
  unfold Dev.helloLink
  exact if_pos ⟨h4, h5⟩

theorem exec_hello_conflict (hr : s.dev.running = true) (h4 : s.dev.trlLink p.val = 4) {h : HelloBody} (hid : h.id.val = s.dev.selfId) :
    ∃ u, exec (.hello (.link p) h) s = .next u ∧ u.dev.trlLink p.val = 6 ∧ u.dev.bit Reg.TRL_EVT_STATUS 7 = true ∧ u.dev.trl = s.dev.trl := by
  have hne : s.dev.trlLink p.val ≠ 5 := by rw [h4]; decide
  have hrow : exec (.hello (.link p) h) s = .next { s with dev := (s.dev.setTrlLink p.val 6).trlEvt 7 p.val } := by
    refine (act_run hr).trans ?_
    dsimp only
    unfold Dev.helloLink
    dsimp only
    rw [if_neg (fun h' => h'.1 h4), if_pos hid]
  have hx := Dev.trlLink_setTrlLink p.isLt hne (st := 6) (by decide)
  have htrl : (s.dev.setTrlLink p.val 6).trl = s.dev.trl := by
    rw [Dev.setTrlLink_enters hne]
    exact (Dev.TrlTold.showCarrying _).trl
  generalize s.dev.setTrlLink p.val 6 = x at hrow hx htrl
  have hev := Dev.TrlTold.trlEvt x 7 p.val
  exact ⟨_, hrow, (hev.link _ 29 3 p.isLt (by decide) (by decide)).trans hx, Dev.bit_trlEvt x (by decide) _, hev.trl.trans htrl⟩

/-- A HELLO from another domain sets no path. -/
theorem Dev.helloPath_foreign {d : Dev} {h : HelloBody} (hd : h.domain.val ≠ d.fld Reg.TRL_DOMAIN 0 16) (mesh : Bool) :
    d.helloPath mesh h = (d.trlCount 8).trlEvt 6 h.id.val := by
  unfold Dev.helloPath
  exact if_pos (.inl hd)

theorem Dev.trlCount_linksKept (d : Dev) (i : Nat) : d.LinksKept (d.trlCount i) := .setReg d _ (by unfold Reg.TRL_COUNTS; omega)

theorem exec_hello_foreign (hr : s.dev.running = true) (h4 : s.dev.trlLink p.val = 4) {h : HelloBody} (hid : h.id.val ≠ s.dev.selfId)
    (hd : h.domain.val ≠ s.dev.fld Reg.TRL_DOMAIN 0 16) : ∃ u, exec (.hello (.link p) h) s = .next u ∧ u.dev.trlLink p.val = 5 ∧
      u.dev.fld (Reg.TRL_PORTt_STATUS p.val) 16 9 = h.id.val ∧ u.dev.bit Reg.TRL_EVT_STATUS 6 = true ∧ u.dev.trl = s.dev.trl := by
  have hrow : exec (.hello (.link p) h) s = .next { s with dev :=
      ((s.dev.setFld (Reg.TRL_PORTt_STATUS p.val) 16 9 h.id.val).setTrlLink p.val 5).helloPath true h } := by
    refine (act_run hr).trans ?_
    dsimp only
    unfold Dev.helloLink
    dsimp only
    rw [if_neg (fun h' => h'.1 h4), if_neg hid, if_pos h4]
  have hx : (s.dev.setFld (Reg.TRL_PORTt_STATUS p.val) 16 9 h.id.val).trlLink p.val ≠ 5 := by
    rw [Dev.trlLink, Dev.fld_setFld_other _ _ _ (by decide) (by decide), ← Dev.trlLink, h4]
    decide
  have hl := Dev.trlLink_setTrlLink p.isLt hx (st := 5) (by decide)
  rw [Dev.setTrlLink_enters hx] at hrow hl
  have hsh := Dev.TrlTold.showCarrying ((s.dev.setFld (Reg.TRL_PORTt_STATUS p.val) 16 9 h.id.val).setFld (Reg.TRL_PORTt_STATUS p.val) 29 3 5)
  have hn := (hsh.link p.val 16 9 p.isLt (by decide) (by decide)).trans ((Dev.fld_setFld_other _ _ _ (by decide) (by decide)).trans
    ((Dev.fld_setFld_same _ _ _ _ _ (by decide)).trans (Nat.mod_eq_of_lt h.id.isLt)))
  have hk : Reg.TRL_DOMAIN ≠ Reg.TRL_PORTt_STATUS p.val := by unfold Reg.TRL_DOMAIN Reg.TRL_PORTt_STATUS; omega
  have hdom := (hsh.regs Reg.TRL_DOMAIN (by decide)).trans ((Dev.reg_setReg_other _ _ hk).trans (Dev.reg_setReg_other s.dev _ hk))
  have htrl : _ = s.dev.trl := hsh.trl
  generalize ((s.dev.setFld (Reg.TRL_PORTt_STATUS p.val) 16 9 h.id.val).setFld (Reg.TRL_PORTt_STATUS p.val) 29 3 5).showCarrying = x
    at hrow hl hn hdom htrl
  rw [Dev.helloPath_foreign (by rw [Dev.fld, hdom]; exact hd)] at hrow
  have hev := (x.trlCount_linksKept 8).trans (Dev.TrlTold.trlEvt _ 6 h.id.val).toLinksKept
  exact ⟨_, hrow, (hev.link _ 29 3 p.isLt (by decide) (by decide)).trans hl, (hev.link _ 16 9 p.isLt (by decide) (by decide)).trans hn,
    Dev.bit_trlEvt _ (by decide) _, htrl⟩

theorem exec_hello_tunnelForeign (hr : s.dev.running = true) {h : HelloBody} (hd : h.domain.val ≠ s.dev.fld Reg.TRL_DOMAIN 0 16) (via : Fin 512) :
    ∃ u, exec (.hello (.tunnel via) h) s = .next u ∧ u.dev.trl = s.dev.trl ∧ u.dev.bit Reg.TRL_EVT_STATUS 6 = true ∧
      s.dev.sameRegsBut u.dev [Reg.TRL_COUNTS 8, Reg.TRL_EVT_STATUS, Reg.TRL_EVT_INDEX] := by
  have hrow : exec (.hello (.tunnel via) h) s = .next { s with dev := (s.dev.trlCount 8).trlEvt 6 h.id.val } :=
    (act_run hr).trans (by dsimp only; rw [Dev.helloPath_foreign hd])
  exact ⟨_, hrow, rfl, Dev.bit_trlEvt _ (by decide) _, (((Dev.sameRegsBut.refl _ _).setReg (by simp)).setReg (by simp)).setReg (by simp)⟩

theorem Dev.pathState_of_tunnel {d : Dev} {id : Nat} (h : (d.tunnelOf id).isSome = true) : ∃ i, d.memberIdx id = some i := by
  unfold Dev.tunnelOf at h
  split at h
  · next i hi => exact ⟨i, hi⟩
  · exact absurd h Bool.false_ne_true

theorem Dev.syncWalk_off {d : Dev} (h : d.bit Reg.FWD_CTRL 29 = false) (id : Nat) : d.syncWalk id = d := by
  unfold Dev.syncWalk
  rw [h]
  rfl

/-- A path judged by the EPOCH that a HELLO echoes. -/
def Dev.echoed (x : Dev) (id e : Nat) : Dev :=
  if x.pathState id = 2 ∧ e = (x.path id).epoch then (x.setPathState id 3).syncWalk id else x

/-- What a HELLO that echoes the own EPOCH makes of a path in HELLO (R449). -/
theorem Dev.echo_up {x : Dev} {id i e : Nat} (hi : x.memberIdx id = some i) (hst : x.pathState id = 2) (he : e = (x.path id).epoch)
    (hlt : e < 65536) (hf : x.bit Reg.FWD_CTRL 29 = false) :
    (x.echoed id e).reachable id = true ∧ (x.echoed id e).path id = x.path id ∧ (x.echoed id e).bit Reg.TRL_EVT_STATUS 4 = true := by
  have hm : x.PathMoved (x.setPathState id 3) id 3 := Dev.setPathState_moved hi (by decide) (he ▸ hlt)
  have hf' : (x.setPathState id 3).bit Reg.FWD_CTRL 29 = false := by
    rw [Dev.bit, hm.regs _ (by decide) (by decide)]
    exact hf
  rw [Dev.echoed, if_pos ⟨hst, he⟩, Dev.syncWalk_off hf']
  exact ⟨decide_eq_true hm.state, by rw [Dev.path, hm.trl, ← Dev.path], hm.up rfl (by rw [hst]; decide)⟩

/-- The INSTANCE and the EPOCH that a HELLO over a tunnel leaves with its sender's path. -/
def Dev.heardFrom (d : Dev) (h : HelloBody) : Dev :=
  ({ d with trl := { d.trl with instances := Map.put d.trl.instances h.id.val h.inst } } : Dev).setPath h.id.val
    (fun p => { p with peerEpoch := h.myEpoch.val })

/-- A HELLO over the tunnel of a path in HELLO, of the INSTANCE known, leaves the path where it is until its EPOCH is judged. -/
theorem Dev.helloPath_heard {d : Dev} {h : HelloBody} (hd : h.domain.val = d.fld Reg.TRL_DOMAIN 0 16) (ht : (d.tunnelOf h.id.val).isSome = true)
    (hself : h.id.val ≠ d.selfId) (hinst : Map.get? d.trl.instances h.id.val = some h.inst) (hp : d.pathState h.id.val = 2) :
    d.helloPath false h = (d.heardFrom h).echoed h.id.val h.yourEpoch.val := by
  obtain ⟨i, hi⟩ := Dev.pathState_of_tunnel ht
  unfold Dev.helloPath
  extract_lets id known tr a b c e f
  have hb : b = a := if_neg fun h' => h'.2 hinst
  have hc : c = b := if_neg fun h' => by
    have h3 : a.pathState id = 3 := hb ▸ of_decide_eq_true h'.1
    exact absurd (h3.symm.trans hp) (by decide)
  have hee : e = c := if_neg fun h' => by
    have h1 : a.pathState id = 1 := hb ▸ hc ▸ h'
    exact absurd (h1.symm.trans hp) (by decide)
  have hf : f = d.heardFrom h := congrArg (fun x : Dev => x.setPath id (fun p => { p with peerEpoch := h.myEpoch.val })) (hee.trans (hc.trans hb))
  rw [if_neg (not_or.mpr ⟨not_not.mpr hd, by rw [hi]; exact Bool.false_ne_true⟩),
    if_neg (not_or.mpr ⟨hself, by rw [Option.isNone_eq_false_iff.mpr ht]; exact not_not.mpr rfl⟩)]
  exact congrArg (fun x : Dev => x.echoed id h.yourEpoch.val) hf

theorem exec_hello_up (hr : s.dev.running = true) {id : Fin 512} {h : HelloBody} (hid : h.id = id)
    (hd : h.domain.val = s.dev.fld Reg.TRL_DOMAIN 0 16) (ht : (s.dev.tunnelOf id.val).isSome = true)
    (hself : id.val ≠ s.dev.selfId) (hinst : Map.get? s.dev.trl.instances id.val = some h.inst) (hp : s.dev.pathState id.val = 2)
    (he : h.yourEpoch.val = (s.dev.path id.val).epoch) (hf : s.dev.bit Reg.FWD_CTRL 29 = false) (via : Fin 512) :
    ∃ u, exec (.hello (.tunnel via) h) s = .next u ∧ u.dev.reachable id.val = true ∧ (u.dev.path id.val).peerEpoch = h.myEpoch.val ∧
      u.dev.bit Reg.TRL_EVT_STATUS 4 = true := by
  subst hid
  obtain ⟨i, hi⟩ := Dev.pathState_of_tunnel ht
  have hpath : (s.dev.heardFrom h).path h.id.val = { s.dev.path h.id.val with peerEpoch := h.myEpoch.val } := Dev.path_setPath _ _ _
  obtain ⟨hreach, hpt, hbit⟩ := Dev.echo_up (x := s.dev.heardFrom h) (e := h.yourEpoch.val) hi hp (by rw [hpath]; exact he)
    h.yourEpoch.isLt hf
  have hrow : exec (.hello (.tunnel via) h) s = .next { s with dev := (s.dev.heardFrom h).echoed h.id.val h.yourEpoch.val } :=
    (act_run hr).trans (by dsimp only; rw [Dev.helloPath_heard hd ht hself hinst hp])
  exact ⟨_, hrow, hreach, by rw [hpt, hpath], hbit⟩

/-! ## Paths (R450) -/

theorem exec_pathDead_idle {id : Fin 512} (h : s.dev.pathState id.val < 2) : exec (.pathDead id) s = .next s :=
  act_same (Dev.when_false _ _ (decide_eq_false (by omega)))

theorem exec_pathDead {id : Fin 512} (hr : s.dev.running = true) (h : 2 ≤ s.dev.pathState id.val) :
    exec (.pathDead id) s = .next { s with dev := s.dev.pathDown id.val } :=
  (act_run hr).trans (by rw [Dev.when_true _ _ (decide_eq_true h)])

theorem exec_trellisRetransmit_idle {id : Fin 512} (h : s.dev.reachable id.val = false ∨ (s.dev.path id.val).unacked = []) :
    exec (.trellisRetransmit id) s = .next s := by
  refine act_same (if_pos ?_)
  obtain h | h := h <;> simp [h]

theorem exec_trellisRetransmit (hr : s.dev.running = true) {id : Fin 512} (hreach : s.dev.reachable id.val = true)
    (hun : (s.dev.path id.val).unacked ≠ []) : exec (.trellisRetransmit id) s = .next { s with dev :=
      (if 8 ≤ (s.dev.path id.val).resends then s.dev.pathDown id.val
        else ((s.dev.setPath id.val (fun p => { p with resends := p.resends + 1 })).trlCount 6).resend id.val) } := by
  refine (act_run hr).trans ?_
  dsimp only
  rw [if_neg (by simp [hreach, hun])]

theorem exec_trellisRetransmit_counted (hr : s.dev.running = true) {id : Fin 512} (hreach : s.dev.reachable id.val = true)
    (hun : (s.dev.path id.val).unacked ≠ []) (h : (s.dev.path id.val).resends < 8) : ∃ u, exec (.trellisRetransmit id) s = .next u ∧
      (u.dev.path id.val) = { s.dev.path id.val with resends := (s.dev.path id.val).resends + 1 } ∧
      s.dev.sameRegsBut u.dev [Reg.TRL_COUNTS 6] := by
  have hrow := exec_trellisRetransmit hr hreach hun
  rw [if_neg (by omega)] at hrow
  refine ⟨_, hrow, ((Dev.TrlTold.resend _ _).path _).trans ?_, ?_⟩
  · exact Dev.path_setPath s.dev id.val (fun p => { p with resends := p.resends + 1 })
  · exact ((Dev.sameRegsBut.refl s.dev _).setReg (t := s.dev.setPath id.val (fun p => { p with resends := p.resends + 1 }))
    (List.mem_singleton_self _)).of_rf (Dev.rf_resend _ _)

/-! ## Wepomer frames (R448, R450 to R452) -/

theorem exec_wepomerFrame_closed (h4 : s.dev.trlLink p.val ≠ 4) (h5 : s.dev.trlLink p.val ≠ 5) (bytes : List Byte) :
    exec (.wepomerFrame (.mesh p bytes)) s = .next s := by
  refine act_same ?_
  dsimp only
  exact if_pos ⟨h4, h5⟩

theorem exec_wepomerFrame_elsewhere {f : Nat} (h : s.dev.frame? f = none ∨ ∃ g, s.dev.frame? f = some g ∧ g.place ≠ .trl) :
    exec (.wepomerFrame (.frame f)) s = .next s := by
  refine act_same ?_
  dsimp only
  obtain h | ⟨g, h, hg⟩ := h
  · rw [h]
  · rw [h]
    exact if_pos hg

/-- Messages of a frame brought in where the frame is the next in sequence, and the frame acknowledged. -/
def Dev.inSequence (d : Dev) (src seq : Nat) (ms : List TrlMsg) : Dev :=
  let x := d.setPath src (fun p => { p with recvSeq := (p.recvSeq + 1) % 65536 })
  (fun x : Dev => x.sendWire src 1 (x.wepomer src true 0 []))
    (if seq = (d.path src).recvSeq then
      { x with trl := { x.trl with inbox := x.trl.inbox ++ ms } } else d)

theorem Dev.inSequence_keeps (d : Dev) (src seq : Nat) (ms : List TrlMsg) : (d.inSequence src seq ms).rf = d.rf ∧
    (seq ≠ (d.path src).recvSeq → (d.inSequence src seq ms).trl = d.trl) ∧
    (seq = (d.path src).recvSeq → ((d.inSequence src seq ms).path src).recvSeq = ((d.path src).recvSeq + 1) % 65536 ∧
      (d.inSequence src seq ms).trl.inbox = d.trl.inbox ++ ms) := by
  have hpath := Dev.path_setPath d src (fun p => { p with recvSeq := (p.recvSeq + 1) % 65536 })
  have hinbox : (d.setPath src (fun p => { p with recvSeq := (p.recvSeq + 1) % 65536 })).trl.inbox = d.trl.inbox := rfl
  have hrf : (d.setPath src (fun p => { p with recvSeq := (p.recvSeq + 1) % 65536 })).rf = d.rf := rfl
  unfold Dev.inSequence
  generalize d.setPath src (fun p => { p with recvSeq := (p.recvSeq + 1) % 65536 }) = x at hpath hinbox hrf ⊢
  dsimp only
  rw [Dev.rf_sendWire, (Dev.TrlTold.sendWire _ _ _ _).path, (Dev.TrlTold.sendWire _ _ _ _).trl]
  split
  · next h => exact ⟨hrf, fun hn => absurd h hn, fun _ => ⟨congrArg Path.recvSeq hpath, congrArg (· ++ ms) hinbox⟩⟩
  · next h => exact ⟨rfl, fun _ => rfl, fun hn => absurd hn h⟩

/-- A sequenced frame of the own domain, for the device, from a member whose mesh path is UP. -/
structure Dev.MeshFrame (d : Dev) (bytes w : List Byte) (src : Nat) : Prop where
  wepomer : wepomerOf bytes = some w
  source : beAt w 6 2 % 512 = src
  version : byteAt w 0 = 1
  sequenced : (byteAt w 1).testBit 7 = false
  domain : beAt w 2 2 = d.fld Reg.TRL_DOMAIN 0 16
  dst : beAt w 4 2 % 512 = d.selfId
  reachable : d.reachable src = true
  mesh : d.tunnelOf src = none

theorem exec_wepomerFrame_mesh (hr : s.dev.running = true) {bytes : List Byte} (h5 : s.dev.trlLink p.val = 5)
    (hsec : s.dev.secyReceive (16 + p.val) bytes = none) : exec (.wepomerFrame (.mesh p bytes)) s =
      .next { s with dev := s.dev.wepomerTake (some p.val) (s.dev.trlPipe p.val) s.dev.time bytes } := by
  refine (act_run hr).trans ?_
  dsimp only
  rw [if_neg (fun h => h.2 h5), hsec]

namespace Dev.MeshFrame
variable {d : Dev} {bytes w : List Byte} {src : Nat}

/-- A frame taken is judged by its EPOCH. -/
theorem take (h : d.MeshFrame bytes w src) (t pipe at_ : Nat) : d.wepomerTake (some t) pipe at_ bytes =
    if beAt w 8 2 ≠ (d.path src).peerEpoch then d.trlCount 10
    else (d.frameAck src (beAt w 8 2) (beAt w 12 2)).inSequence src (beAt w 10 2)
      (((wepomerMessages w.length ((w.drop 16).take (beAt w 14 2))).filter (fun m => trlTypes.contains m.1)).map
        (fun m => ⟨src, m.1, m.2, pipe, at_⟩)) := by
  obtain ⟨hw, rfl, hv, hseq, hdom, hdst, hreach, hmesh⟩ := h
  unfold Dev.wepomerTake
  rw [hw]
  dsimp only
  rw [if_neg (not_not.mpr hv), hseq, if_neg Bool.false_ne_true, if_neg (by simp [hdom, hdst, hreach, hmesh])]
  rfl

theorem ack_none (hu : (d.path src).unacked = []) (epoch ack : Nat) : d.frameAck src epoch ack = d := by
  unfold Dev.frameAck Dev.takeAck
  dsimp only
  rw [hu]
  exact ite_self d

end Dev.MeshFrame

theorem exec_wepomerFrame_stale (hr : s.dev.running = true) {bytes w : List Byte} {src : Nat} (h5 : s.dev.trlLink p.val = 5)
    (hsec : s.dev.secyReceive (16 + p.val) bytes = none) (h : s.dev.MeshFrame bytes w src) (he : beAt w 8 2 ≠ (s.dev.path src).peerEpoch) :
    exec (.wepomerFrame (.mesh p bytes)) s = .next { s with dev := s.dev.trlCount 10 } :=
  (exec_wepomerFrame_mesh hr h5 hsec).trans (by rw [h.take, if_pos he])

theorem exec_wepomerFrame_current (hr : s.dev.running = true) {bytes w : List Byte} {src : Nat} (h5 : s.dev.trlLink p.val = 5)
    (hsec : s.dev.secyReceive (16 + p.val) bytes = none) (h : s.dev.MeshFrame bytes w src) (he : beAt w 8 2 = (s.dev.path src).peerEpoch)
    (hu : (s.dev.path src).unacked = []) : exec (.wepomerFrame (.mesh p bytes)) s = .next { s with dev :=
      (s.dev.inSequence src (beAt w 10 2) (((wepomerMessages w.length ((w.drop 16).take (beAt w 14 2))).filter
        (fun m => trlTypes.contains m.1)).map (fun m => ⟨src, m.1, m.2, s.dev.trlPipe p.val, s.dev.time⟩))) } :=
  (exec_wepomerFrame_mesh hr h5 hsec).trans (by rw [h.take, if_neg (not_not.mpr he), Dev.MeshFrame.ack_none hu])

end

/-- Settles O43: links by their transition, HELLOs by the link and the domain they come over, paths by their state, frames by their
EPOCH and their sequence number. -/
theorem trellisLinksAndPathsAct : Obligations.TrellisLinksAndPathsAct := by
  unfold Obligations.TrellisLinksAndPathsAct
  refine ⟨fun s hr => ⟨fun p i src dst h => ?_, fun p id hid => ⟨exec_helloSend_closed, exec_helloSend_new hr, exec_helloSend_known hr hid,
      exec_helloSend_starts hr hid⟩, fun _ => exec_helloSend_noTunnel,
      fun p h => ⟨fun h4 h5 => exec_hello_closed h4 h5 h, fun h4 => exec_hello_conflict hr h4, fun h4 => exec_hello_foreign hr h4⟩,
      fun id h via hid => ⟨fun hd => exec_hello_tunnelForeign hr hd via,
        fun hd ht hself hinst hp he hf => exec_hello_up hr hid hd ht hself hinst hp he hf via⟩⟩,
    fun s hr => ⟨fun id => ⟨exec_pathDead_idle, fun h he => ⟨_, exec_pathDead hr h, Dev.pathDown_shows h he⟩, exec_trellisRetransmit_idle,
      fun hreach hun => ⟨exec_trellisRetransmit_counted hr hreach hun, fun h8 he => ?_⟩⟩,
      fun p bytes h4 h5 => exec_wepomerFrame_closed h4 h5 bytes, fun f => exec_wepomerFrame_elsewhere,
      fun p bytes w src h5 hsec hw hsrc hv hseq hdom hdst hreach hmesh => ?_⟩⟩
  · obtain ⟨hrow, hdst, h5⟩ := exec_linkStep (s := s) h
    rw [hrow]
    exact ⟨fun hne => linkStep_elsewhere hne dst, fun hl => linkStep_moves hr hl hdst h5⟩
  · have hrow := exec_trellisRetransmit hr hreach hun
    rw [if_pos h8] at hrow
    obtain ⟨hst, hunacked, -⟩ := Dev.pathDown_shows (by rw [of_decide_eq_true hreach]; decide) he
    exact ⟨_, hrow, hst, hunacked⟩
  · have h : s.dev.MeshFrame bytes w src := ⟨hw, hsrc, hv, hseq, hdom, hdst, hreach, hmesh⟩
    obtain ⟨hrf, hother, hnext⟩ := s.dev.inSequence_keeps src (beAt w 10 2) (((wepomerMessages w.length ((w.drop 16).take
      (beAt w 14 2))).filter (fun m => trlTypes.contains m.1)).map (fun m => ⟨src, m.1, m.2, s.dev.trlPipe p.val, s.dev.time⟩))
    exact ⟨exec_wepomerFrame_stale hr h5 hsec h, fun he hu => ⟨fun hn => ⟨_, exec_wepomerFrame_current hr h5 hsec h he hu, hrf, hnext hn⟩,
      fun hn => ⟨_, exec_wepomerFrame_current hr h5 hsec h he hu, hrf, hother hn⟩⟩⟩

end Sys2Proof.Machine
end


section
/-! PROOFS. The messages of members (O44). -/

namespace Sys2Proof.Machine

/-! ## A message taken and a message sent -/

/-- A message taken leaves the rest of the device. -/
theorem Dev.takeMsg_eq {d t : Dev} {kind : Nat} {g : TrlMsg} (h : d.takeMsg kind = some (g, t)) :
    t = { d with trl := { d.trl with inbox := d.trl.inbox.erase g } } := by
  obtain ⟨m, -, hm⟩ := Option.map_eq_some_iff.mp h
  obtain ⟨rfl, rfl⟩ := Prod.mk.inj hm
  rfl

/-- No message of the TYPE waits. -/
theorem msgStep_none {s : State} {kind : Nat} {f : TrlMsg → Dev → Dev} (h : s.dev.takeMsg kind = none) : msgStep kind f s = .next s := by
  refine act_same ?_
  rw [h]

/-- Frames sent change the frames alone. -/
theorem Dev.sendWire_prs (d : Dev) (id cls : Nat) (w : List Byte) : d.sendWire id cls w = { d with prs := (d.sendWire id cls w).prs } := by
  unfold Dev.sendWire Dev.sendTunnel
  split
  · rfl
  · split
    · extract_lets tun tag
      split <;> rfl
    · split <;> rfl

/-- A message sent changes the frames and the paths alone. -/
theorem Dev.trlSend_rest (d : Dev) (id cls kind : Nat) (body : List Byte) : d.trlSend id cls kind body =
    { d with prs := (d.trlSend id cls kind body).prs, trl := (d.trlSend id cls kind body).trl } := by
  unfold Dev.trlSend
  dsimp only
  split
  · rfl
  · split
    · rfl
    · rw [Dev.sendWire_prs]
      rfl

/-- The paths after a message is sent are those of the paths before and their state. -/
theorem Dev.trl_trlSend_congr {d t : Dev} {id : Nat} (htrl : t.trl = d.trl) (hp : t.pathState id = d.pathState id) (cls kind : Nat)
    (body : List Byte) : (t.trlSend id cls kind body).trl = (d.trlSend id cls kind body).trl := by
  have hpath : t.path id = d.path id := by rw [Dev.path, htrl, Dev.path]
  unfold Dev.trlSend
  dsimp only
  rw [show t.reachable id = d.reachable id by rw [Dev.reachable, hp, Dev.reachable], hpath]
  split
  · exact htrl
  · split
    · rw [Dev.setPath, Dev.setPath, htrl, hpath]
    · rw [(Dev.TrlTold.sendWire _ _ _ _).trl, (Dev.TrlTold.sendWire _ _ _ _).trl, Dev.setPath, Dev.setPath, htrl, hpath]

/-- An entry of the Lees log changes registers alone. -/
theorem Dev.lees_rest (d : Dev) (w0 w1 w2 w3 : Word) : ∃ rf, d.lees w0 w1 w2 w3 = { d with rf := rf } := by
  obtain ⟨rf, h⟩ := Dev.setRegs_rest d (Reg.CMD_LEES ((d.regN Reg.CMD_LEES_SEQ % 1024) * 8))
    [w0, w1, w2, w3, lo32 d.ptp.toNat, hi32 d.ptp.toNat, wd (d.regN Reg.CMD_LEES_SEQ), 0]
  exact ⟨(({ d with rf := rf } : Dev).inc Reg.CMD_LEES_SEQ).rf, by rw [Dev.lees, h]; rfl⟩

/-- A register that names no member and shows no path. -/
theorem Dev.pathState_setReg_other (d : Dev) {k : Nat} (v : Word) (hd : k ≠ Reg.TRL_DOMAIN) (hm : ∀ i, k ≠ Reg.TRL_MEMBER i 0)
    (h3 : ∀ i, k ≠ Reg.TRL_MEMBER3 i) (id : Nat) : (d.setReg k v).pathState id = d.pathState id := by
  unfold Dev.pathState
  rw [Dev.memberIdx_congr (d := d) (Dev.reg_setReg_other _ _ hd.symm) fun i => Dev.reg_setReg_other _ _ (hm i).symm]
  split
  · exact Dev.fld_setReg_other _ _ _ _ (h3 _).symm
  · rfl

/-! ## Entries swept (R456, R469) -/

theorem Dev.htEntry_htClear_none {d : Dev} {tb : HTable} {i : Nat} (h : d.htEntry tb i = none) (j : Nat) :
    (d.htClear tb j).htEntry tb i = none := by
  by_cases hj : i = j
  · rw [hj]
    exact Dev.htEntry_htClear d tb j
  · unfold Dev.htClear
    split
    · unfold Dev.htPut Dev.htEntry
      dsimp only
      rw [Dev.htMap_setHt, Map.get?_put_other _ _ _ _ hj]
      exact (Dev.htEntry_congr (d.fwd_moveUnit _ _) tb i).trans h
    · exact h

theorem Dev.trl_htClear (d : Dev) (tb : HTable) (j : Nat) : (d.htClear tb j).trl = d.trl := by
  unfold Dev.htClear
  split
  · next ws _ =>
    obtain ⟨rf, slc, e⟩ := d.moveUnit_rest (d.htSlice tb (d.htRaw tb j)) (d.htSlice tb (invalid ws))
    unfold Dev.htPut
    dsimp only
    rw [e]
    cases tb <;> rfl
  · rfl

/-- A sweep leaves none of the entries it is for. -/
theorem Dev.sweepL2_swept {d : Dev} {p : List Word → Bool} {i : Nat} {ws : List Word} (h : Map.get? d.fwd.l2 i = some ws) (hp : p ws = true) :
    (d.sweepL2 p).htEntry .l2 i = none := by
  have hkeep (l : List (Nat × List Word)) (x : Dev) (hx : x.htEntry .l2 i = none) :
      (l.foldl (fun d e => if entryValid e.2 && p e.2 then d.htClear .l2 e.1 else d) x).htEntry .l2 i = none := by
    induction l generalizing x with
    | nil => exact hx
    | cons e l ih =>
      refine ih _ ?_
      dsimp only
      split
      · exact Dev.htEntry_htClear_none hx _
      · exact hx
  have hclear (l : List (Nat × List Word)) (x : Dev) (hl : (i, ws) ∈ l) (hv : entryValid ws = true) :
      (l.foldl (fun d e => if entryValid e.2 && p e.2 then d.htClear .l2 e.1 else d) x).htEntry .l2 i = none := by
    induction l generalizing x with
    | nil => cases hl
    | cons e l ih =>
      obtain rfl | hl := List.mem_cons.mp hl
      · refine hkeep l _ ?_
        dsimp only
        rw [hv, hp, if_pos (by decide)]
        exact Dev.htEntry_htClear x .l2 i
      · exact ih _ hl
  unfold Dev.sweepL2
  cases hv : entryValid ws with
  | true => exact hclear _ d (Map.mem_of_get? _ _ _ h) hv
  | false =>
    refine hkeep _ d ?_
    unfold Dev.htEntry Dev.htMap
    dsimp only
    rw [h]
    rw [Option.filter_some, hv]
    rfl

theorem Dev.trl_sweepL2 (d : Dev) (p : List Word → Bool) : (d.sweepL2 p).trl = d.trl := by
  unfold Dev.sweepL2
  generalize d.fwd.l2 = l
  induction l generalizing d with
  | nil => rfl
  | cons e l ih =>
    refine (ih _).trans ?_
    dsimp only
    split
    · exact d.trl_htClear _ _
    · rfl

/-! ## A refusal of a window (R462) -/

/-- A refusal shows its event; what it sends is the answer alone. -/
theorem Dev.windowNack_shows (d : Dev) (m : TrlMsg) (w st : Nat) : (d.windowNack m w st).bit Reg.TRL_EVT_STATUS 1 = true ∧
    (d.windowNack m w st).trl = (d.peerResp m st []).trl ∧ (d.windowNack m w st).dma = d.dma := by
  unfold Dev.windowNack Dev.peerResp
  have hst : ((d.trlCount 7).countFld (Reg.TRL_WINw_STATUS w) 0 16).pathState m.src = d.pathState m.src := by
    refine (Dev.pathState_setReg_other _ _ ?_ (fun i => ?_) (fun i => ?_) _).trans
      (Dev.pathState_setReg_other d _ (by decide) (fun i => ?_) (fun i => ?_) _)
    · unfold Reg.TRL_WINw_STATUS Reg.TRL_DOMAIN
      omega
    · unfold Reg.TRL_WINw_STATUS Reg.TRL_MEMBER
      omega
    · unfold Reg.TRL_WINw_STATUS Reg.TRL_MEMBER3
      omega
    · unfold Reg.TRL_COUNTS Reg.TRL_MEMBER
      omega
    · unfold Reg.TRL_COUNTS Reg.TRL_MEMBER3
      omega
  have htrl : ((d.trlCount 7).countFld (Reg.TRL_WINw_STATUS w) 0 16).trl = d.trl := (Dev.setReg_trl _ _ _).trans (Dev.setReg_trl _ _ _)
  have hdma : ((d.trlCount 7).countFld (Reg.TRL_WINw_STATUS w) 0 16).dma = d.dma := (Dev.setReg_dma _ _ _).trans (Dev.setReg_dma _ _ _)
  generalize (d.trlCount 7).countFld (Reg.TRL_WINw_STATUS w) 0 16 = x at hst htrl hdma ⊢
  have hev := Dev.TrlTold.trlEvt x 1 w
  have hbit := Dev.bit_trlEvt x (b := 1) (by decide) w
  have hdma' : (x.trlEvt 1 w).dma = x.dma := (Dev.setReg_dma _ _ _).trans (Dev.setReg_dma _ _ _)
  generalize x.trlEvt 1 w = y at hev hbit hdma' ⊢
  refine ⟨?_, Dev.trl_trlSend_congr (hev.trl.trans htrl) ((hev.pathState _).trans hst) _ _ _, ?_⟩
  · rw [Dev.trlSend_rest]
    exact hbit
  · rw [Dev.trlSend_rest]
    exact hdma'.trans hdma

/-- A message that is not new leaves its event and its entry in the Lees log. -/
theorem Dev.oldMessage_shows (d : Dev) (o : Nat) (w0 w1 w2 w3 : Word) :
    (((d.trlCount 0).trlEvt 5 o).lees w0 w1 w2 w3).fwd = d.fwd ∧ (((d.trlCount 0).trlEvt 5 o).lees w0 w1 w2 w3).trl = d.trl ∧
    (((d.trlCount 0).trlEvt 5 o).lees w0 w1 w2 w3).bit Reg.TRL_EVT_STATUS 5 = true := by
  have hbit := Dev.bit_trlEvt (d.trlCount 0) (b := 5) (by decide) o
  have hfwd : ((d.trlCount 0).trlEvt 5 o).fwd = d.fwd := rfl
  have htrl : ((d.trlCount 0).trlEvt 5 o).trl = d.trl := rfl
  generalize (d.trlCount 0).trlEvt 5 o = x at hbit hfwd htrl ⊢
  have hreg := x.reg_lees_other w0 w1 w2 w3 (k := Reg.TRL_EVT_STATUS) (by decide)
  obtain ⟨rf, e⟩ := x.lees_rest w0 w1 w2 w3
  rw [Dev.bit, hreg, e]
  exact ⟨hfwd, htrl, hbit⟩

/-- A foreign message joins a queue with room. -/
theorem Dev.learnQueue_joins {d : Dev} {m : LearnMsg} (hm : m.foreign = true) (h : d.fwd.learn.length < 4096) :
    (d.learnQueue m).fwd.learn = d.fwd.learn ++ [m] ∧ (d.learnQueue m).trl = d.trl := by
  unfold Dev.learnQueue
  rw [hm, if_neg (by simp), if_neg (Nat.not_le.mpr h)]
  exact ⟨congrArg Fwd.learn (Dev.setReg_fwd _ _ _), Dev.setReg_trl _ _ _⟩

section
variable {s : State} {g : TrlMsg} {t : Dev} (hr : s.dev.running = true)
include hr

/-! ## Learning (R455, R469) -/

section
variable (h : s.dev.takeMsg 0x10 = some (g, t))
include h

theorem exec_learn_stranger (ho : Word.fld (wordAt (wordsOf 8 g.body) 0) 16 9 ≠ g.src) : exec .learn s = .next { s with dev := t.trlCount 3 } :=
  (msgStep_some hr h).trans (by dsimp only; rw [if_pos ho])

theorem exec_learn_first (ho : Word.fld (wordAt (wordsOf 8 g.body) 0) 16 9 = g.src)
    (hl : Map.get? s.dev.trl.lastSeq (Word.fld (wordAt (wordsOf 8 g.body) 0) 16 9) = none) (hroom : s.dev.fwd.learn.length < 4096) :
    ∃ u, exec .learn s = .next u ∧ u.dev.fwd.learn = s.dev.fwd.learn ++ [⟨wordsOf 8 g.body, true⟩] ∧
      Map.get? u.dev.trl.lastSeq (Word.fld (wordAt (wordsOf 8 g.body) 0) 16 9) = some (wordAt (wordsOf 8 g.body) 3) := by
  have hrow : exec .learn s = _ := msgStep_some hr h
  obtain rfl := Dev.takeMsg_eq h
  dsimp only at hrow
  rw [if_neg (not_not.mpr ho), hl] at hrow
  dsimp only at hrow
  obtain ⟨hlearn, htrl⟩ := Dev.learnQueue_joins (m := ⟨wordsOf 8 g.body, true⟩) (d := { s.dev with trl := { s.dev.trl with
    inbox := s.dev.trl.inbox.erase g, lastSeq := Map.put s.dev.trl.lastSeq (Word.fld (wordAt (wordsOf 8 g.body) 0) 16 9)
      (wordAt (wordsOf 8 g.body) 3) } }) rfl hroom
  exact ⟨_, hrow, hlearn, (congrArg (fun m : Trl => Map.get? m.lastSeq (Word.fld (wordAt (wordsOf 8 g.body) 0) 16 9)) htrl).trans
    (Map.get?_put_same _ _ _)⟩

theorem exec_learn_old (ho : Word.fld (wordAt (wordsOf 8 g.body) 0) 16 9 = g.src) {l : Word}
    (hl : Map.get? s.dev.trl.lastSeq (Word.fld (wordAt (wordsOf 8 g.body) 0) 16 9) = some l)
    (hold : (wordAt (wordsOf 8 g.body) 3 - l).toInt ≤ 0) :
    ∃ u, exec .learn s = .next u ∧ u.dev.fwd = s.dev.fwd ∧ u.dev.trl = t.trl ∧ u.dev.bit Reg.TRL_EVT_STATUS 5 = true := by
  have hrow : exec .learn s = _ := msgStep_some hr h
  obtain rfl := Dev.takeMsg_eq h
  dsimp only at hrow
  rw [if_neg (not_not.mpr ho), hl] at hrow
  dsimp only at hrow
  rw [if_pos hold] at hrow
  exact ⟨_, hrow, Dev.oldMessage_shows _ _ _ _ _ _⟩

end

/-! ## The sync walk's marks (R469) -/

theorem exec_syncEnd (h : s.dev.takeMsg 0x12 = some (g, t)) : ∃ u, exec .syncEnd s = .next u ∧ Map.get? u.dev.trl.syncStart g.src = none ∧
    ∀ i ws, Map.get? s.dev.fwd.l2 i = some ws → Word.bit (wordAt ws 0) 27 = true → Word.fld (wordAt ws 6) 0 9 = g.src →
      (wordAt ws 7 - g.w 0).toInt < 0 → u.dev.htEntry .l2 i = none := by
  have hrow : exec .syncEnd s = _ := msgStep_some hr h
  obtain rfl := Dev.takeMsg_eq h
  refine ⟨_, hrow, ?_, fun i ws hi h27 hsrc hold => Dev.sweepL2_swept hi ?_⟩
  · dsimp only
    rw [Dev.trl_sweepL2]
    exact Map.get?_del_same _ _
  · rw [h27, Bool.true_and]
    exact decide_eq_true ⟨hsrc, hold⟩

/-! ## The peer windows (R461 to R464) -/

omit hr in
theorem Dev.window_refused {d : Dev} {m : TrlMsg} {write : Bool} {st : Nat}
    (h : d.windowRefusal (m.f 0 0 4) m.src (m.w 1).toNat (m.f 2 0 16) write = st) (hst : st ≠ 0) (f : Nat → Nat → Bool → Nat → Dev → Dev) :
    d.window m write f = d.windowNack m (m.f 0 0 4) st := by
  unfold Dev.window
  dsimp only
  rw [h]
  split
  · exact absurd rfl hst
  · rfl

omit hr in
theorem Dev.window_open {d : Dev} {m : TrlMsg} {write : Bool}
    (h : d.windowRefusal (m.f 0 0 4) m.src (m.w 1).toNat (m.f 2 0 16) write = 0) (f : Nat → Nat → Bool → Nat → Dev → Dev) :
    d.window m write f = f (d.reg64 (Reg.TRL_WINw_BASE_LO (m.f 0 0 4)) + (m.w 1).toNat) (m.f 2 0 16) (d.bit (Reg.TRL_WINw_CTRL (m.f 0 0 4)) 29)
      (d.fld (Reg.TRL_WINw_OWNER (m.f 0 0 4)) 0 13) d := by
  unfold Dev.window
  dsimp only
  rw [h]
  rfl

theorem exec_peerWrite_refused (h : s.dev.takeMsg 0x30 = some (g, t)) {st : Nat}
    (hw : t.windowRefusal (g.f 0 0 4) g.src (g.w 1).toNat (g.f 2 0 16) true = st) (hst : st ≠ 0) :
    ∃ u, exec .peerWrite s = .next u ∧ u.dev.dma = s.dev.dma ∧ u.dev.bit Reg.TRL_EVT_STATUS 1 = true ∧ u.dev.trl = (t.peerResp g st []).trl := by
  have hrow : exec .peerWrite s = .next { s with dev := t.windowNack g (g.f 0 0 4) st } :=
    (msgStep_some hr h).trans (by rw [Dev.window_refused hw hst])
  obtain ⟨hbit, htrl, hdma⟩ := t.windowNack_shows g (g.f 0 0 4) st
  exact ⟨_, hrow, hdma.trans (by rw [Dev.takeMsg_eq h]), hbit, htrl⟩

theorem exec_peerWrite_hbm (h : s.dev.takeMsg 0x30 = some (g, t)) (hw : t.windowRefusal (g.f 0 0 4) g.src (g.w 1).toNat (g.f 2 0 16) true = 0)
    (hhbm : t.bit (Reg.TRL_WINw_CTRL (g.f 0 0 4)) 29 = false) : exec .peerWrite s = .next { s with dev :=
      ((t.setHbmBytes (t.reg64 (Reg.TRL_WINw_BASE_LO (g.f 0 0 4)) + (g.w 1).toNat) ((g.body.drop 12).take (g.f 2 0 16))).peerResp g 0 []) } :=
  (msgStep_some hr h).trans (by rw [Dev.window_open hw, hhbm]; rfl)

theorem exec_peerWrite_host (h : s.dev.takeMsg 0x30 = some (g, t)) (hw : t.windowRefusal (g.f 0 0 4) g.src (g.w 1).toNat (g.f 2 0 16) true = 0)
    (hhost : t.bit (Reg.TRL_WINw_CTRL (g.f 0 0 4)) 29 = true) (hissue : t.canIssue (t.home (t.fld (Reg.TRL_WINw_OWNER (g.f 0 0 4)) 0 13)) = true) :
    exec .peerWrite s = .next { s with dev := ((t.sliceBytes (t.fld (Reg.TRL_WINw_OWNER (g.f 0 0 4)) 0 13)
      (t.reg64 (Reg.TRL_WINw_BASE_LO (g.f 0 0 4)) + (g.w 1).toNat) ((g.body.drop 12).take (g.f 2 0 16))).peerResp g 0 []) } := by
  refine (msgStep_some hr h).trans ?_
  dsimp only
  rw [Dev.window_open hw, hhost]
  rw [if_neg (by decide), if_pos hissue]

theorem exec_peerRead_refused (h : s.dev.takeMsg 0x31 = some (g, t)) {st : Nat}
    (hw : t.windowRefusal (g.f 0 0 4) g.src (g.w 1).toNat (g.f 2 0 16) false = st) (hst : st ≠ 0) (host : Option (List Byte)) :
    ∃ u, exec (.peerRead host) s = .next u ∧ u.dev.bit Reg.TRL_EVT_STATUS 1 = true ∧ u.dev.trl = (t.peerResp g st []).trl := by
  have hrow : exec (.peerRead host) s = .next { s with dev := t.windowNack g (g.f 0 0 4) st } :=
    (msgStep_some hr h).trans (by rw [Dev.window_refused hw hst])
  obtain ⟨hbit, htrl, -⟩ := t.windowNack_shows g (g.f 0 0 4) st
  exact ⟨_, hrow, hbit, htrl⟩

theorem exec_peerRead_hbm (h : s.dev.takeMsg 0x31 = some (g, t)) (hw : t.windowRefusal (g.f 0 0 4) g.src (g.w 1).toNat (g.f 2 0 16) false = 0)
    (hhbm : t.bit (Reg.TRL_WINw_CTRL (g.f 0 0 4)) 29 = false) (host : Option (List Byte)) : exec (.peerRead host) s = .next { s with dev :=
      (t.peerResp g 0 (t.hbmBytes (t.reg64 (Reg.TRL_WINw_BASE_LO (g.f 0 0 4)) + (g.w 1).toNat) (g.f 2 0 16))) } :=
  (msgStep_some hr h).trans (by rw [Dev.window_open hw, hhbm]; rfl)

theorem exec_peerRead_host (h : s.dev.takeMsg 0x31 = some (g, t)) (hw : t.windowRefusal (g.f 0 0 4) g.src (g.w 1).toNat (g.f 2 0 16) false = 0)
    (hhost : t.bit (Reg.TRL_WINw_CTRL (g.f 0 0 4)) 29 = true) (hissue : t.canIssue (t.home (t.fld (Reg.TRL_WINw_OWNER (g.f 0 0 4)) 0 13)) = true)
    {tag : Nat} (htag : t.freeTag (t.linkOf (t.home (t.fld (Reg.TRL_WINw_OWNER (g.f 0 0 4)) 0 13))) = some tag) {bs : List Byte}
    (hbs : bs.length = g.f 2 0 16) : exec (.peerRead (some bs)) s = .next { s with dev :=
      ((t.request (t.home (t.fld (Reg.TRL_WINw_OWNER (g.f 0 0 4)) 0 13)) (.hostRead (t.home (t.fld (Reg.TRL_WINw_OWNER (g.f 0 0 4)) 0 13)) tag
        (t.reg64 (Reg.TRL_WINw_BASE_LO (g.f 0 0 4)) + (g.w 1).toNat) (g.f 2 0 16))).peerResp g 0 bs) } := by
  refine (msgStep_some hr h).trans ?_
  dsimp only
  rw [Dev.window_open hw, hhost]
  rw [if_neg (by decide), hissue, htag]
  dsimp only
  rw [if_pos hbs]

theorem exec_peerResp_unknown (h : s.dev.takeMsg 0x32 = some (g, t))
    (hq : t.trl.reqs.find? (fun e => decide (e.1 % 65536 = g.f 0 16 16 ∧ e.2.dev = g.src)) = none) :
    exec .peerResp s = .next { s with dev := t } := (msgStep_some hr h).trans (by dsimp only; rw [hq])

theorem exec_peerResp_failed (h : s.dev.takeMsg 0x32 = some (g, t)) {k : Nat} {q : PeerReq}
    (hq : t.trl.reqs.find? (fun e => decide (e.1 % 65536 = g.f 0 16 16 ∧ e.2.dev = g.src)) = some (k, q)) (hst : g.f 0 0 8 ≠ 0) :
    exec .peerResp s = .next { s with dev :=
      (({ t with trl := { t.trl with reqs := Map.del t.trl.reqs k } } : Dev).answerReq q.thread k (0x10 + g.f 0 0 8) []) } := by
  refine (msgStep_some hr h).trans ?_
  dsimp only
  rw [hq]
  dsimp only
  rw [if_neg hst, if_neg (fun h' => hst h'.2)]

/-! ## Angles, replies, mailbox words and frames (R454, R459, R466) -/

theorem exec_angle_off (h : s.dev.takeMsg 0x40 = some (g, t)) (hoff : s.dev.bit Reg.TRL_ANGLE_CTRL 30 = false) :
    exec .angle s = .next { s with dev := t } := by
  refine (msgStep_some hr h).trans ?_
  rw [show t.bit Reg.TRL_ANGLE_CTRL 30 = false by rw [Dev.bit, Dev.reg_congr (Dev.rf_of_takeMsg h)]; exact hoff]
  rfl

theorem exec_angle_taken (h : s.dev.takeMsg 0x40 = some (g, t)) (hon : s.dev.bit Reg.TRL_ANGLE_CTRL 30 = true) (hg : s.dev.gsyncOn = true)
    (hsrc : g.src = s.dev.fld Reg.TRL_ANGLE_CTRL 16 9) : exec .angle s = .next { s with dev :=
      (gsyncTake (s.dev.time - cat64 (g.w 1) (g.w 0)) ((g.body.drop 8).take 54) false t) } := by
  have hrow : exec .angle s = _ := msgStep_some hr h
  obtain rfl := Dev.takeMsg_eq h
  rw [if_pos ?_] at hrow
  · exact hrow
  · rw [Bool.and_eq_true, Bool.and_eq_true]
    exact ⟨⟨hon, hg⟩, decide_eq_true hsrc⟩

theorem exec_reply_ends {m tag gen : Nat} {c : Cmd} (h : s.dev.takeMsg 0x61 = some (g, t)) (hp : t.trl.peerCmds = [(g.src, m, tag, gen)])
    (hc : t.cmd? m tag gen = some c) (hw : c.p 2 = wordAt (wordsOf (g.body.length / 4) g.body) 1) :
    ∃ u, exec .reply s = .next u ∧ u.dev.trl.peerCmds = [] ∧
      u.dev.cmd = (t.finish m tag gen (Res.ok (wordsOf (g.body.length / 4) g.body))).cmd := by
  have hrow : exec .reply s = .next { s with dev := (({ t with trl := { t.trl with peerCmds := [] } } : Dev).finish
      m tag gen (Res.ok (wordsOf (g.body.length / 4) g.body))) } := by
    refine (msgStep_some hr h).trans ?_
    dsimp only
    rw [hp, List.find?_cons_of_pos (by simp [hc, hw])]
    dsimp only
    rw [List.erase_cons_head]
  exact ⟨_, hrow, rfl, rfl⟩

omit hr in
theorem Dev.mbxIn_eq (d : Dev) (m : Nat) (v : Word) : d.mbxIn m v = if d.bit (Reg.MBX_STATEm m) 0 then d.mbxEvt m 3
    else (d.setReg (Reg.MBX_INm m) v).setBit (Reg.MBX_STATEm m) 0 true := rfl

theorem exec_mbxIn_lands (h : s.dev.takeMsg 0x62 = some (g, t)) (hempty : s.dev.bit (Reg.MBX_STATEm 7) 0 = false) :
    ∃ u, exec .mbxIn s = .next u ∧ u.dev.reg (Reg.MBX_INm 7) = g.w 0 ∧ u.dev.bit (Reg.MBX_STATEm 7) 0 = true ∧
      s.dev.sameRegsBut u.dev [Reg.MBX_INm 7, Reg.MBX_STATEm 7] := by
  have hrow : exec .mbxIn s = _ := msgStep_some hr h
  have hrf := Dev.rf_of_takeMsg h
  rw [Dev.mbxIn_eq, show t.bit (Reg.MBX_STATEm 7) 0 = false by rw [Dev.bit, Dev.reg_congr hrf]; exact hempty,
    if_neg Bool.false_ne_true] at hrow
  exact ⟨_, hrow, (Dev.reg_setReg_other _ _ (by decide)).trans (Dev.reg_setReg_same ..), Dev.bit_setBit_same _ _ _ _ (by decide),
    (((Dev.sameRegsBut.refl s.dev _).of_rf hrf).setReg (by simp)).setReg (by simp)⟩

theorem exec_mbxIn_overrun (h : s.dev.takeMsg 0x62 = some (g, t)) (hfull : s.dev.bit (Reg.MBX_STATEm 7) 0 = true) :
    ∃ u, exec .mbxIn s = .next u ∧ u.dev.bit (Reg.MBX_EVTm 7) 3 = true ∧ s.dev.sameRegsBut u.dev [Reg.MBX_EVTm 7] := by
  have hrow : exec .mbxIn s = _ := msgStep_some hr h
  have hrf := Dev.rf_of_takeMsg h
  rw [Dev.mbxIn_eq, show t.bit (Reg.MBX_STATEm 7) 0 = true by rw [Dev.bit, Dev.reg_congr hrf]; exact hfull, if_pos rfl] at hrow
  exact ⟨_, hrow, Dev.bit_sqSet_mem t _ (by decide) (List.mem_singleton_self _),
    ((Dev.sameRegsBut.refl s.dev _).of_rf hrf).setReg (by simp)⟩

theorem exec_mbxOut (h : s.dev.takeMsg 0x63 = some (g, t)) : ∃ u, exec .mbxOut s = .next u ∧ u.dev.reg Reg.TRL_MBX_RX = g.w 0 ∧
    u.dev.reg Reg.TRL_MBX_SRC = wd g.src ∧ u.dev.bit Reg.TRL_EVT_STATUS 8 = true ∧
    s.dev.sameRegsBut u.dev [Reg.TRL_MBX_RX, Reg.TRL_MBX_SRC, Reg.TRL_EVT_STATUS, Reg.TRL_EVT_INDEX] := by
  have hrow : exec .mbxOut s = _ := msgStep_some hr h
  have hrf := Dev.rf_of_takeMsg h
  have hev := Dev.TrlTold.trlEvt ((t.setReg Reg.TRL_MBX_RX (g.w 0)).setN Reg.TRL_MBX_SRC g.src) 8 g.src
  exact ⟨_, hrow, (hev.regs _ (by decide)).trans ((Dev.reg_setReg_other _ _ (by decide)).trans (Dev.reg_setReg_same ..)),
    (hev.regs _ (by decide)).trans (Dev.reg_setReg_same ..), Dev.bit_trlEvt _ (by decide) _,
    (((((Dev.sameRegsBut.refl s.dev _).of_rf hrf).setReg (by simp)).setReg (by simp)).setReg (by simp)).setReg (by simp)⟩

theorem exec_frame (h : s.dev.takeMsg 0x70 = some (g, t)) : ∃ u f, exec .frame s = .next u ∧ u.dev.frame? s.dev.prs.nextFrame = some f ∧
    f.bytes = (g.body.drop 16).take (g.f 1 0 14) ∧ f.vint = some (g.f 0 16 16) ∧ f.cls = g.f 1 30 2 ∧ u.dev.rf = s.dev.rf ∧
    (g.f 0 0 16 = 0xFFFF → f.place = .press) ∧ (g.f 0 0 16 ≠ 0xFFFF → f.place = .toNode (g.f 0 0 16)) := by
  have hrow : exec .frame s = _ := msgStep_some hr h
  obtain rfl := Dev.takeMsg_eq h
  exact ⟨_, _, hrow, Dev.frame?_putFrame _ _ _, rfl, rfl, rfl, rfl, fun h' => if_pos h', fun h' => if_neg h'⟩

end

/-- No message of its TYPE waits for a command of members. -/
theorem exec_member_idle {s : State} {i : Instr} {k : Nat} (h : (i, k) ∈ [(Instr.learn, 0x10), (.syncBegin, 0x11), (.syncEnd, 0x12),
    (.peerWrite, 0x30), (.peerRead none, 0x31), (.peerResp, 0x32), (.angle, 0x40), (.cmd, 0x60), (.reply, 0x61), (.mbxIn, 0x62),
    (.mbxOut, 0x63), (.frame, 0x70), (.send, 0x71)]) (hk : s.dev.takeMsg k = none) : exec i s = .next s := by
  have hrow : ∃ f, exec i s = msgStep k f s := by
    simp only [List.mem_cons, List.not_mem_nil, or_false, Prod.mk.injEq] at h
    obtain ⟨rfl, rfl⟩ | ⟨rfl, rfl⟩ | ⟨rfl, rfl⟩ | ⟨rfl, rfl⟩ | ⟨rfl, rfl⟩ | ⟨rfl, rfl⟩ | ⟨rfl, rfl⟩ | ⟨rfl, rfl⟩ | ⟨rfl, rfl⟩ |
      ⟨rfl, rfl⟩ | ⟨rfl, rfl⟩ | ⟨rfl, rfl⟩ | ⟨rfl, rfl⟩ := h <;> exact ⟨_, rfl⟩
  obtain ⟨f, e⟩ := hrow
  rw [e, msgStep_none hk]

/-- Settles O44: each command by the oldest message of its TYPE, taken from the inbox. -/
theorem messagesOfMembers : Obligations.MessagesOfMembers := by
  unfold Obligations.MessagesOfMembers
  intro s g t hr
  refine ⟨fun _ _ => exec_member_idle, fun o seq h ho hseq => ?_, fun h => msgStep_some hr h, exec_syncEnd hr, fun w off len hw hoff hlen => ?_,
    fun h => ⟨exec_peerResp_unknown hr h, fun _ _ => exec_peerResp_failed hr h⟩, fun h => ⟨exec_angle_off hr h, exec_angle_taken hr h⟩,
    fun h => msgStep_some hr h, fun _ _ _ _ => exec_reply_ends hr, fun h => ⟨exec_mbxIn_lands hr h, exec_mbxIn_overrun hr h⟩,
    exec_mbxOut hr, exec_frame hr, fun n h hn => ?_⟩
  · subst ho hseq
    exact ⟨exec_learn_stranger hr h, exec_learn_first hr h, fun _ ho hl => exec_learn_old hr h ho hl⟩
  · subst hw hoff hlen
    refine ⟨fun h => ⟨fun _ => exec_peerWrite_refused hr h, exec_peerWrite_hbm hr h, fun sl hw hhost hsl hissue => ?_⟩,
      fun h => ⟨fun _ host hw hst => exec_peerRead_refused hr h hw hst host, fun host hw hhbm => exec_peerRead_hbm hr h hw hhbm host,
        fun sl f tag bs hw hhost hsl hf hissue htag hbs => ?_⟩⟩
    · subst hsl
      exact exec_peerWrite_host hr h hw hhost hissue
    · subst hsl hf
      exact exec_peerRead_host hr h hw hhost hissue htag hbs
  · subst hn
    exact msgStep_some hr h

end Sys2Proof.Machine
end


section
/-! PROOFS. Angles sent to other devices and the Trellis opcodes (O45). -/

namespace Sys2Proof.Machine

/-! ## Angles sent (R458) -/

theorem exec_angleExport_off {s : State} (h : s.dev.bit Reg.TRL_ANGLE_CTRL 31 = false) : exec .angleExport s = .next s := by
  refine act_same ?_
  rw [h]
  rfl

/-- The frame that the angles are exported in. -/
def Dev.angleFrame (d : Dev) : List Byte :=
  let head := [1, BitVec.ofNat 8 d.trl.angleSeq, 0, 0] ++ (List.range 4).flatMap d.angleSlot
  head ++ beBytes 2 (crc16 head) ++ [0, 0]

theorem exec_angleExport_on {s : State} (hr : s.dev.running = true) (h : s.dev.bit Reg.TRL_ANGLE_CTRL 31 = true) :
    exec .angleExport s = .next { s with dev :=
      (({ s.dev with trl := { s.dev.trl with angleSeq := (s.dev.trl.angleSeq + 1) % 256 } } : Dev).trlSendAll
        (s.dev.members.filter s.dev.reachable) 0 0x40 (beWords [hi32 s.dev.time, lo32 s.dev.time] ++ s.dev.angleFrame)) } := by
  refine (act_run hr).trans ?_
  dsimp only
  rw [h]
  rfl

theorem Dev.rf_trlSend (d : Dev) (id cls kind : Nat) (body : List Byte) : (d.trlSend id cls kind body).rf = d.rf := by rw [Dev.trlSend_rest]

/-- A message sent changes of Trellis the paths alone. -/
theorem Dev.trl_trlSend (d : Dev) (id cls kind : Nat) (body : List Byte) :
    ∃ ps, (d.trlSend id cls kind body).trl = { d.trl with paths := ps } := by
  unfold Dev.trlSend
  dsimp only
  split
  · exact ⟨_, rfl⟩
  · split
    · exact ⟨_, rfl⟩
    · rw [(Dev.TrlTold.sendWire _ _ _ _).trl]
      exact ⟨_, rfl⟩

theorem Dev.trlSendAll_keeps (ids : List Nat) (cls kind : Nat) (body : List Byte) (d : Dev) :
    (d.trlSendAll ids cls kind body).rf = d.rf ∧ (d.trlSendAll ids cls kind body).trl.angleSeq = d.trl.angleSeq := by
  induction ids generalizing d with
  | nil => exact ⟨rfl, rfl⟩
  | cons id ids ih =>
    obtain ⟨hrf, hseq⟩ := ih (d.trlSend id cls kind body)
    obtain ⟨ps, e⟩ := d.trl_trlSend id cls kind body
    exact ⟨hrf.trans (d.rf_trlSend ..), hseq.trans (by rw [e])⟩

/-- A message to an UP path with room waits for its acknowledgement (R450). -/
theorem Dev.unacked_trlSend {d : Dev} {id : Nat} (hr : d.reachable id = true) (hroom : (d.path id).unacked.length < 256) (cls kind : Nat)
    (body : List Byte) : ((d.trlSend id cls kind body).path id).unacked =
      (d.path id).unacked ++ [((d.path id).sendSeq, cls, trlMessage kind body)] := by
  unfold Dev.trlSend
  dsimp only
  rw [hr, if_neg (by decide), if_neg (by omega), (Dev.TrlTold.sendWire _ _ _ _).path, Dev.path_setPath]

/-! ## The opcodes (R470) -/

section
variable {s : State} {m : Fin 16} {tag : Fin 4096} {gen : Fin 16} {c : Cmd} {t : Dev} {r : Res} (hr : s.dev.running = true)
include hr

section
variable (hs : s.dev.started m.val tag.val gen.val 0x0900 c)
include hs

theorem exec_trellisPortSet_refused (hb : trellisPortSetBad c s.dev = true) :
    exec (.trellisPortSet m tag gen) s = .next { s with dev := s.dev.finish m.val tag.val gen.val (Res.st stBadParam) } :=
  opStep_ok hr hs (if_pos hb)

theorem exec_trellisPortSet_link (hb : trellisPortSetBad c s.dev = false) (hk : c.pf 0 31 1 = 0)
    (h : s.dev.stageStrobe c (2 ^ 19) [(Reg.TRL_PORTt_CTRL (c.pf 0 0 4), wd (c.pf 0 30 1 * 2 ^ 31))] (Res.ok []) = (t, some r)) :
    exec (.trellisPortSet m tag gen) s = .next { s with dev := t.finish m.val tag.val gen.val r } := by
  refine opStep_ok hr hs ?_
  unfold runTrellisPortSet group
  dsimp only
  rw [hb, if_neg Bool.false_ne_true, if_pos hk, h]

theorem exec_trellisPortSet_tunnel (hb : trellisPortSetBad c s.dev = false) (hk : c.pf 0 31 1 = 1)
    (h : s.dev.stageStrobe c (2 ^ 19) [(Reg.TRL_TUNNELp (c.pf 0 0 4), Word.setFld (c.p 1) 31 1 (c.pf 0 30 1))] (Res.ok []) = (t, some r)) :
    exec (.trellisPortSet m tag gen) s = .next { s with dev := t.finish m.val tag.val gen.val r } := by
  refine opStep_ok hr hs ?_
  unfold runTrellisPortSet group
  dsimp only
  rw [hb, if_neg Bool.false_ne_true, if_neg (by omega), h]

end

section
variable (hs : s.dev.started m.val tag.val gen.val 0x0901 c)
include hs

theorem exec_trellisDomainSet_refused (hb : trellisDomainSetBad c s.dev = true) :
    exec (.trellisDomainSet m tag gen) s = .next { s with dev := s.dev.finish m.val tag.val gen.val (Res.st stBadParam) } :=
  opStep_ok hr hs (if_pos hb)

theorem exec_trellisDomainSet_staged (hb : trellisDomainSetBad c s.dev = false) (hl : c.pf 0 15 1 = 0)
    (hx : s.dev.anyExpert ((domainWrites c).map Prod.fst) = false) : exec (.trellisDomainSet m tag gen) s = .next { s with dev :=
      ((s.dev.stageAll c.master false (domainWrites c)).finish m.val tag.val gen.val (Res.ok [])) } := by
  refine opStep_ok hr hs ?_
  unfold runTrellisDomainSet
  dsimp only
  rw [hb, if_neg Bool.false_ne_true, if_neg (by omega), hx]
  rfl

theorem exec_trellisDomainSet_last (hb : trellisDomainSetBad c s.dev = false) (hl : c.pf 0 15 1 = 1)
    (h : s.dev.stageStrobe c (2 ^ 19) (domainWrites c ++ [(Reg.TRL_DOMAIN, wd ((c.pf 0 0 9 + c.pf 1 0 10) * 65536 + c.pf 0 16 16))]) (Res.ok []) =
      (t, some r)) : exec (.trellisDomainSet m tag gen) s = .next { s with dev := t.finish m.val tag.val gen.val r } := by
  refine opStep_ok hr hs ?_
  unfold runTrellisDomainSet group
  dsimp only
  rw [hb, if_neg Bool.false_ne_true, if_pos hl, h]

end

theorem exec_trellisWindowSet_refused (hs : s.dev.started m.val tag.val gen.val 0x0902 c) (hb : trellisWindowSetBad c s.dev = true) :
    exec (.trellisWindowSet m tag gen) s = .next { s with dev := s.dev.finish m.val tag.val gen.val (Res.st stBadParam) } :=
  opStep_ok hr hs (if_pos hb)

theorem exec_trellisWindowSet_strobed (hs : s.dev.started m.val tag.val gen.val 0x0902 c) {sl : Nat} (hc : c.slice? = some sl)
    (hb : trellisWindowSetBad c s.dev = false) (h : s.dev.stageStrobe c (2 ^ 20) [(Reg.TRL_WINw_BASE_LO (c.pf 0 16 4), c.p 1),
      (Reg.TRL_WINw_BASE_HI (c.pf 0 16 4), c.p 2), (Reg.TRL_WINw_SIZE (c.pf 0 16 4), c.p 3), (Reg.TRL_WINw_CTRL (c.pf 0 16 4), c.p 4),
      (Reg.TRL_WINw_OWNER (c.pf 0 16 4), wd (2 ^ 31 + c.pf 0 0 8 * 65536 + sl))] (Res.ok []) = (t, some r)) :
    exec (.trellisWindowSet m tag gen) s = .next { s with dev := t.finish m.val tag.val gen.val r } := by
  refine opStep_ok hr hs ?_
  unfold runTrellisWindowSet group
  dsimp only
  rw [hb, if_neg Bool.false_ne_true, hc]
  exact h

theorem exec_trellisStatus (hs : s.dev.started m.val tag.val gen.val 0x0903 c) (hx : s.dev.anyExpert [Reg.TRL_DOMAIN] = false) :
    exec (.trellisStatus m tag gen) s = .next { s with dev := (s.dev.finish m.val tag.val gen.val (Res.ok
      ([s.dev.reg Reg.TRL_ID, s.dev.reg Reg.TRL_DOMAIN, s.dev.reg Reg.TRL_PARTITION] ++
        (List.range 4).map (fun p => s.dev.reg (Reg.TRL_PORTt_STATUS p)) ++ (List.range s.dev.memberCount).map (fun i =>
          wd (s.dev.memberId i * 65536 + s.dev.fld (Reg.TRL_MEMBER3 i) 29 3))))) } := by
  refine opStep_ok hr hs ?_
  unfold runTrellisStatus Res.touching
  rw [hx]
  rfl

section
variable (hs : s.dev.started m.val tag.val gen.val 0x0904 c)
include hs

theorem exec_trellisPeerCmd_refused (hb : trellisPeerCmdBad c s.dev = true) :
    exec (.trellisPeerCmd m tag gen) s = .next { s with dev := s.dev.finish m.val tag.val gen.val (Res.st stBadParam) } :=
  opStep_ok hr hs (if_pos hb)

theorem exec_trellisPeerCmd_sent (hb : trellisPeerCmdBad c s.dev = false) : ∃ u, exec (.trellisPeerCmd m tag gen) s = .next u ∧
    u.dev.started m.val tag.val gen.val 0x0904 c ∧
    u.dev.trl.peerCmds = s.dev.trl.peerCmds ++ [(c.pf 0 0 9, c.master, c.tag, c.gen)] ∧
    u.dev.trl.paths = (s.dev.trlSend (c.pf 0 0 9) 1 0x60 (bytesOf (c.params.drop 1))).trl.paths := by
  obtain ⟨ps, htrl⟩ := s.dev.trl_trlSend (c.pf 0 0 9) 1 0x60 (bytesOf (c.params.drop 1))
  have hcmds : (s.dev.trlSend (c.pf 0 0 9) 1 0x60 (bytesOf (c.params.drop 1))).trl.peerCmds = s.dev.trl.peerCmds := by rw [htrl]
  have hcmd : (s.dev.trlSend (c.pf 0 0 9) 1 0x60 (bytesOf (c.params.drop 1))).cmd = s.dev.cmd := by rw [Dev.trlSend_rest]
  generalize hx : s.dev.trlSend (c.pf 0 0 9) 1 0x60 (bytesOf (c.params.drop 1)) = x at hcmds hcmd ⊢
  have hrun : runTrellisPeerCmd c s.dev =
      (({ x with trl := { x.trl with peerCmds := x.trl.peerCmds ++ [(c.pf 0 0 9, c.master, c.tag, c.gen)] } } : Dev), none) := by
    unfold runTrellisPeerCmd
    dsimp only
    rw [hb, if_neg Bool.false_ne_true, hx]
  refine ⟨_, opStep_wait hr hs hrun, ?_, congrArg (· ++ [(c.pf 0 0 9, c.master, c.tag, c.gen)]) hcmds, rfl⟩
  unfold Dev.started Dev.cmd? at hs ⊢
  dsimp only
  rw [hcmd]
  exact hs

end
end

/-- Settles O45: angles sent by the frame that carries them, each opcode by its parameters. -/
theorem angleExportAndTrellisOpcodes : Obligations.AngleExportAndTrellisOpcodes := by
  unfold Obligations.AngleExportAndTrellisOpcodes
  intro s m tag gen c t r hr
  refine ⟨exec_angleExport_off, fun head hon hhead => ?_,
    fun hs => ⟨exec_trellisPortSet_refused hr hs, exec_trellisPortSet_link hr hs, exec_trellisPortSet_tunnel hr hs⟩, fun ws hs hws => ?_,
    fun sl hs hc => ⟨exec_trellisWindowSet_refused hr hs, exec_trellisWindowSet_strobed hr hs hc⟩, exec_trellisStatus hr,
    fun hs => ⟨exec_trellisPeerCmd_refused hr hs, exec_trellisPeerCmd_sent hr hs⟩⟩
  · have hrow := exec_angleExport_on hr hon
    have hframe : s.dev.angleFrame = head ++ beBytes 2 (crc16 head) ++ [0, 0] := by rw [hhead]; rfl
    rw [hframe] at hrow
    obtain ⟨hrf, hseq⟩ := Dev.trlSendAll_keeps (s.dev.members.filter s.dev.reachable) 0 0x40
      (beWords [hi32 s.dev.time, lo32 s.dev.time] ++ (head ++ beBytes 2 (crc16 head) ++ [0, 0]))
      { s.dev with trl := { s.dev.trl with angleSeq := (s.dev.trl.angleSeq + 1) % 256 } }
    refine ⟨_, hrow, hseq, hrf, fun id hone hroom => ?_⟩
    have hreach : s.dev.reachable id = true := (List.mem_filter.mp (hone ▸ List.mem_singleton_self id)).2
    dsimp only
    rw [hone]
    exact Dev.unacked_trlSend (d := { s.dev with trl := { s.dev.trl with angleSeq := (s.dev.trl.angleSeq + 1) % 256 } }) hreach hroom _ _ _
  · obtain rfl : ws = domainWrites c := hws
    exact ⟨exec_trellisDomainSet_refused hr hs, exec_trellisDomainSet_staged hr hs, exec_trellisDomainSet_last hr hs⟩

end Sys2Proof.Machine
end


section
/-! PROOFS. What a failed frame and a failed port leave unchanged; pipelines fail over and are tasted (O47). -/

namespace Sys2Proof.Machine

/-! ## What ending an item, failing a frame and dropping a port leave unchanged -/

namespace Dev.KeepsBus

theorem of_eq {d t : Dev} (hrf : t.rf = d.rf) (hp : t.pbu = d.pbu) (ho : t.out = d.out) (hf : t.flt = d.flt) : d.KeepsBus t :=
  ⟨hp, ho ▸ fun _ h => h, hf, fun k _ => Dev.reg_congr hrf k⟩

theorem notifyFn (d : Dev) (base f : Nat) : d.KeepsBus (d.notifyFn base f) := by
  unfold Dev.notifyFn
  split
  · exact raiseVec ..
  · exact refl d

theorem notifyAll (d : Dev) (base : Nat) : d.KeepsBus (d.notifyAll base) :=
  (((notifyFn d base 0).trans (notifyFn _ base 1)).trans (notifyFn _ base 2)).trans (notifyFn _ base 3)

theorem stat (d : Dev) (s i n : Nat) : d.KeepsBus (d.stat s i n) := set64 d _ (by unfold Reg.SLC_STATSs; omega)

theorem walkCount (d : Dev) (s : Nat) (ok : Bool) : d.KeepsBus (d.walkCount s ok) := by
  unfold Dev.walkCount
  split
  · extract_lets bump w'
    split
    · exact setSlc d _
    · exact refl d
  · exact refl d

theorem cqComplete (d : Dev) (cq : Nat) (ws : List Word) : d.KeepsBus (d.cqComplete cq ws) := by
  unfold Dev.cqComplete
  extract_lets s f x
  have hx : d.KeepsBus x := qstate1 d _ _ _
  clear_value x
  split
  · exact hx
  split
  · exact hx.trans ((cqPut x _ _).trans (showFull _ _))
  · exact hx.trans ((setFn x _ _).trans (setReg _ _ (by unfold Reg.PCE_HELDf; omega)))

theorem completeItem (d : Dev) (id : Nat) : d.KeepsBus (d.completeItem id) := by
  unfold Dev.completeItem
  split
  · exact refl d
  · next i _ =>
    extract_lets rng x y
    have hx : d.KeepsBus x := setRng d _
    have hy : x.KeepsBus y := by
      refine KeepsBus.trans ?_ (walkCount _ _ _)
      split
      · exact refl x
      · exact stat x _ _ _
    clear_value y
    split
    · exact (hx.trans hy).trans (cqComplete y _ _)
    · exact hx.trans hy

theorem flushSq (q n : Nat) (d : Dev) : d.KeepsBus (d.flushSq q n) := by
  induction n generalizing d with
  | zero => exact refl d
  | succ n ih =>
    unfold Dev.flushSq
    split
    · split
      · split
        · exact (completeItem d _).trans (ih _)
        · exact refl d
      · exact refl d
    · exact refl d

theorem setItem (d : Dev) (id : Nat) (f : Item → Item) : d.KeepsBus (d.setItem id f) := by
  unfold Dev.setItem
  split
  · exact setRng d _
  · exact refl d

theorem endItem (d : Dev) (id status : Nat) : d.KeepsBus (d.endItem id status) := by
  unfold Dev.endItem
  split
  · exact refl d
  · exact (setItem d _ _).trans (flushSq _ _ _)

theorem reportFailed (d : Dev) (f : Frame) : d.KeepsBus (d.reportFailed f) := by
  unfold Dev.reportFailed
  split
  · exact endItem d _ _
  · exact setReg d _ (by unfold Reg.FPC_CLc_COUNTS; omega)
  · exact setReg d _ (by unfold Reg.FLT_COUNTS; omega)

theorem freeFrame (d : Dev) (id : Nat) : d.KeepsBus (d.freeFrame id) := of_eq rfl rfl rfl rfl

theorem setLoop (d : Dev) (pipe q : Nat) (l : List Nat) : d.KeepsBus (d.setLoop pipe q l) := of_eq rfl rfl rfl rfl

theorem macEvt (d : Dev) (p b : Nat) : d.KeepsBus (d.macEvt p b) := (setReg d _ (by decide)).trans (setReg _ _ (by decide))

theorem portCount (d : Dev) (p i n : Nat) : d.KeepsBus (d.portCount p i n) := by
  unfold Dev.portCount
  extract_lets k old new x
  have hx : d.KeepsBus x := set64 d _ (by unfold k Reg.MAC_PORTp_CNT; omega)
  clear_value x
  split
  · exact hx
  · exact hx.trans (((setReg x _ (by unfold Reg.MAC_PORTp_HALF; omega)).trans (macEvt _ _ _)).trans (notifyAll _ _))

theorem abortFrame (d : Dev) (p id : Nat) : d.KeepsBus (d.abortFrame p id) :=
  ⟨rfl, fun _ h => List.mem_cons_of_mem _ h, rfl, fun _ _ => rfl⟩

theorem setQueueAt (d : Dev) (n tc : Nat) (l : List Nat) : d.KeepsBus (d.setQueueAt n tc l) := by
  unfold Dev.setQueueAt Dev.showNode Dev.setN
  extract_lets s df
  have hx : d.KeepsBus { d with sch := { s with queues := Map.putD s.queues (8 * n + tc) [] l, deficit := df } } := of_eq rfl rfl rfl rfl
  exact hx.trans (setReg _ _ (by unfold Reg.SCH_NSTATE2; omega))

theorem setChanQueue (d : Dev) (c h : Nat) (l : List InMsg) : d.KeepsBus (d.setChanQueue c h l) := by
  have hx : d.KeepsBus { d with fpc := { d.fpc with queues := Map.putD d.fpc.queues (256 * c + h) [] l } } := of_eq rfl rfl rfl rfl
  unfold Dev.setChanQueue Dev.setFld
  exact hx.trans (setReg _ _ (by unfold Reg.FPC_CHh_STATUS; omega))

theorem showFrames (d : Dev) (t : Nat) : d.KeepsBus (d.showFrames t) := setReg d _ (by unfold thrReg Reg.FPC_THR_STATE; omega)

theorem failFrame (d : Dev) (id : Nat) : d.KeepsBus (d.failFrame id) := by
  unfold Dev.failFrame
  split
  · exact refl d
  · next f _ =>
    extract_lets x
    have hx : d.KeepsBus x := reportFailed d f
    clear_value x
    refine hx.trans ?_
    split
    · exact (portCount x _ _ _).trans (abortFrame _ _ _)
    · exact (freeFrame x _).trans (setQueueAt _ _ _ _)
    · exact (setLoop x _ _ _).trans (freeFrame _ _)
    · exact (setChanQueue x _ _ _).trans (freeFrame _ _)
    · exact (freeFrame x _).trans (showFrames _ _)
    · exact freeFrame x _

theorem portStatus (d : Dev) (p : Nat) (v : Word) : d.KeepsBus (d.setReg (Reg.MAC_PORTp_STATUS p) v) :=
  setReg d v (by unfold Reg.MAC_PORTp_STATUS; omega)

theorem preemptOff (d : Dev) (p : Nat) : d.KeepsBus (d.preemptOff p) :=
  ((portStatus d p _).trans (portStatus _ p _)).trans (of_eq rfl rfl rfl rfl)

theorem preemptStart (d : Dev) (p : Nat) : d.KeepsBus (d.preemptStart p) := by
  unfold Dev.preemptStart
  split
  · split
    · exact portStatus d p _
    · exact (portStatus d p _).trans (of_eq rfl rfl rfl rfl)
  · exact refl d

theorem setLink (d : Dev) (p st : Nat) : d.KeepsBus (d.setLink p st) := by
  unfold Dev.setLink
  extract_lets old x y
  have hx : d.KeepsBus x := portStatus d p _
  have hy : x.KeepsBus y := ((portStatus x p _).trans (macEvt _ p 1)).trans (preemptOff _ p)
  clear_value y
  split
  · split
    · exact (hx.trans hy).trans (macEvt y p 2)
    · exact hx.trans hy
  · split
    · exact hx.trans ((macEvt x p 0).trans (preemptStart _ p))
    · exact hx

theorem dropPort (d : Dev) (p : Nat) : d.KeepsBus (d.dropPort p) := by
  unfold Dev.dropPort
  split
  · exact (foldl (fun d id => (portCount d p 22 1).trans (abortFrame _ p id)) _ d).trans (setLink _ p 0)
  · exact refl d

variable {d t : Dev}

theorem pipeOf (h : d.KeepsBus t) (g : Nat) : t.pipeOf g = d.pipeOf g := by
  rw [Dev.pipeOf, Dev.fld, h.low _ (by decide), Dev.pipeOf, Dev.fld]

end Dev.KeepsBus

/-! ## A fault record (R485) -/

theorem Dev.ToldHost.flt {d t : Dev} (h : d.ToldHost t) : t.flt = d.flt := by rw [h.rest]

theorem Dev.flt_putRecord (d : Dev) (r : FaultRec) (ws : List Word) : ∃ n, (d.putRecord r ws).flt = { d.flt with mramCount := n } := by
  obtain ⟨a, h⟩ := d.putRing_rest ws
  unfold Dev.putRecord
  rw [h]
  split
  · exact ⟨d.flt.mramCount + 1, rfl⟩
  · exact ⟨d.flt.mramCount, rfl⟩

/-- A record leaves the faults but for the count of the MRAM ring. -/
theorem Dev.flt_fault (d : Dev) (r : FaultRec) : ∃ n, (d.fault r).flt = { d.flt with mramCount := n } := by
  obtain ⟨n, h⟩ := d.flt_putRecord r (r.words d.ptp.toNat (d.regN Reg.FLT_SEQ))
  rw [Dev.fault_eq, (Dev.ToldHost.notifyAll _ _).flt]
  exact ⟨n, (Dev.setReg_flt _ _ _).trans h⟩

theorem Dev.fld_role_fault (d : Dev) (r : FaultRec) (lo n : Nat) : (d.fault r).fld Reg.GLB_PIPE_ROLE lo n = d.fld Reg.GLB_PIPE_ROLE lo n := by
  rw [Dev.fld, Dev.reg_fault _ _ (by decide), Dev.fld]

/-! ## Roles of the pipelines (R17, R480, R481) -/

/-- The roles after a takeover: the spare serves the group, the pipeline that failed is the spare, to be tasted. -/
def Dev.rolesTaken (d : Dev) (p g q : Nat) : Dev :=
  (((d.setFld Reg.GLB_PIPE_ROLE (2 * g) 2 q).setFld Reg.GLB_PIPE_ROLE 4 2 p).setFld Reg.GLB_PIPE_ROLE 6 2 1).countFld Reg.GLB_PIPE_ROLE 8 4

theorem Dev.rolesTaken_shows (d : Dev) {p g q : Nat} (hp : p < 4) (hg : g < 2) (hq : q < 4) : (d.rolesTaken p g q).pipeOf g = q ∧
    (d.rolesTaken p g q).fld Reg.GLB_PIPE_ROLE 4 2 = p ∧ (d.rolesTaken p g q).fld Reg.GLB_PIPE_ROLE 6 2 = 1 := by
  unfold Dev.rolesTaken Dev.pipeOf Dev.countFld
  refine ⟨?_, ?_, ?_⟩
  · rw [Dev.fld_setFld_other _ _ _ (by omega) (by omega), Dev.fld_setFld_other _ _ _ (by omega) (by omega),
      Dev.fld_setFld_other _ _ _ (by omega) (by omega), Dev.fld_setFld_same _ _ _ _ _ (by omega)]
    exact Nat.mod_eq_of_lt hq
  · rw [Dev.fld_setFld_other _ _ _ (by decide) (by decide), Dev.fld_setFld_other _ _ _ (by decide) (by decide),
      Dev.fld_setFld_same _ _ _ _ _ (by decide)]
    exact Nat.mod_eq_of_lt hp
  · rw [Dev.fld_setFld_other _ _ _ (by decide) (by decide), Dev.fld_setFld_same _ _ _ _ _ (by decide)]
    decide

/-- The spare's soft state after a takeover. -/
def Dev.softTaken (d : Dev) (q : Nat) (c : Option Soft) : Dev :=
  match c with
  | some c => d.loadSoft q c
  | none => d

theorem Dev.KeepsBus.loadSoft (d : Dev) (p : Nat) (c : Soft) : d.KeepsBus (d.loadSoft p c) := by
  unfold Dev.loadSoft
  extract_lets ns x
  have hx : d.KeepsBus x := by
    refine .foldl (fun d e => ?_) _ d
    split
    · exact .setReg d _ (by unfold Reg.SCH_NSTATE0; omega)
    · exact .refl d
  clear_value x
  exact hx.trans (.of_eq rfl rfl rfl rfl)

theorem Dev.KeepsBus.softTaken (d : Dev) (q : Nat) (c : Option Soft) : d.KeepsBus (d.softTaken q c) := by
  cases c with
  | none => exact .refl d
  | some c => exact .loadSoft d q c

theorem Dev.takeover_eq (d : Dev) (p g kind : Nat) (loc : Word) : ∃ (x : Dev) (c : Option Soft) (n : Nat) (r : FaultRec),
    d.takeover p g kind loc = (({ ((x.rolesTaken p g (d.fld Reg.GLB_PIPE_ROLE 4 2)).softTaken (d.fld Reg.GLB_PIPE_ROLE 4 2) c) with
      freeCtr := n } : Dev).fault r).sqSet Reg.FLT_EVT_STATUS [3] := ⟨_, _, _, _, rfl⟩

theorem Dev.takeover_shows (d : Dev) {p g : Nat} (hp : p < 4) (hg : g < 2) (kind : Nat) (loc : Word) :
    (d.takeover p g kind loc).pipeOf g = d.fld Reg.GLB_PIPE_ROLE 4 2 ∧ (d.takeover p g kind loc).fld Reg.GLB_PIPE_ROLE 4 2 = p ∧
    (d.takeover p g kind loc).fld Reg.GLB_PIPE_ROLE 6 2 = 1 ∧ (d.takeover p g kind loc).bit Reg.FLT_EVT_STATUS 3 = true := by
  obtain ⟨x, c, n, r, e⟩ := d.takeover_eq p g kind loc
  obtain ⟨hserve, hspare, hstate⟩ := x.rolesTaken_shows hp hg (q := d.fld Reg.GLB_PIPE_ROLE 4 2) (Word.fld_lt _ 4 2)
  have hsoft := Dev.KeepsBus.softTaken (x.rolesTaken p g (d.fld Reg.GLB_PIPE_ROLE 4 2)) (d.fld Reg.GLB_PIPE_ROLE 4 2) c
  have hrole (lo : Nat) : (d.takeover p g kind loc).fld Reg.GLB_PIPE_ROLE lo 2 =
      (x.rolesTaken p g (d.fld Reg.GLB_PIPE_ROLE 4 2)).fld Reg.GLB_PIPE_ROLE lo 2 := by
    rw [e, Dev.fld, Dev.reg_sqSet_other _ _ (by decide), Dev.reg_fault _ _ (by decide), Dev.fld]
    exact congrArg (Word.fld · lo 2) (hsoft.low _ (by decide))
  refine ⟨(hrole _).trans hserve, (hrole _).trans hspare, (hrole _).trans hstate, ?_⟩
  rw [e]
  exact Dev.bit_sqSet_mem _ _ (by decide) (List.mem_singleton_self _)

/-- A port group that fails (R482). -/
theorem Dev.failGroup_eq (d : Dev) (p g kind : Nat) (loc : Word) : ∃ (lost : List Nat) (n : Nat) (r : FaultRec),
    d.failGroup p g kind loc = ((({ ((((List.range 8).foldl (fun (d : Dev) i => d.dropPort (8 * g + i))
      (lost.foldl (fun (d : Dev) i => d.failFrame i) d))).setBit Reg.FLT_STATUS g true) with
        freeCtr := n
        flt := { ((List.range 8).foldl (fun (d : Dev) i => d.dropPort (8 * g + i)) (lost.foldl (fun (d : Dev) i => d.failFrame i) d)).flt with
          failed := g :: ((List.range 8).foldl (fun (d : Dev) i => d.dropPort (8 * g + i)) (lost.foldl (fun (d : Dev) i => d.failFrame i) d)).flt.failed } } :
        Dev).fault r).sqSet Reg.FLT_EVT_STATUS [4]).showTxdis.showPair := ⟨_, _, _, rfl⟩

theorem Dev.failGroup_shows (d : Dev) (p : Nat) {g : Nat} (hg : g < 2) (kind : Nat) (loc : Word) :
    (d.failGroup p g kind loc).flt.failed = g :: d.flt.failed ∧ (d.failGroup p g kind loc).bit Reg.FLT_STATUS g = true ∧
    (d.failGroup p g kind loc).bit Reg.FLT_EVT_STATUS 4 = true ∧ (d.failGroup p g kind loc).pipeOf g = d.pipeOf g := by
  obtain ⟨lost, n, r, e⟩ := d.failGroup_eq p g kind loc
  have hx : d.KeepsBus ((List.range 8).foldl (fun (d : Dev) i => d.dropPort (8 * g + i)) (lost.foldl (fun (d : Dev) i => d.failFrame i) d)) :=
    (Dev.KeepsBus.foldl (fun d i => .failFrame d i) lost d).trans (.foldl (fun d i => .dropPort d _) _ _)
  generalize (List.range 8).foldl (fun (d : Dev) i => d.dropPort (8 * g + i)) (lost.foldl (fun (d : Dev) i => d.failFrame i) d) = x at e hx
  have hbit : (x.setBit Reg.FLT_STATUS g true).bit Reg.FLT_STATUS g = true := Dev.bit_setBit_same _ _ _ _ (by omega)
  have hrole : (x.setBit Reg.FLT_STATUS g true).pipeOf g = d.pipeOf g :=
    (Dev.fld_setReg_other _ _ _ _ (by decide)).trans (hx.pipeOf g)
  generalize x.setBit Reg.FLT_STATUS g true = y at e hbit hrole
  obtain ⟨k, hflt⟩ := Dev.flt_fault { y with freeCtr := n, flt := { x.flt with failed := g :: x.flt.failed } } r
  have hreg (j : Nat) (hj : ¬ faultReg j) : (Dev.fault { y with freeCtr := n, flt := { x.flt with failed := g :: x.flt.failed } } r).reg j = y.reg j :=
    Dev.reg_fault _ r hj
  generalize Dev.fault { y with freeCtr := n, flt := { x.flt with failed := g :: x.flt.failed } } r = z at e hflt hreg
  have hpair (j : Nat) (hj : j ≠ Reg.GLB_PAIR) : (d.failGroup p g kind loc).reg j = (z.sqSet Reg.FLT_EVT_STATUS [4]).reg j := by
    rw [e]
    exact Dev.reg_setReg_other _ _ hj
  refine ⟨?_, ?_, ?_, ?_⟩
  · have hshow : (d.failGroup p g kind loc).flt = z.flt := by rw [e]; rfl
    rw [hshow, hflt, hx.flt]
  · rw [Dev.bit, hpair _ (by decide), Dev.reg_sqSet_other _ _ (by decide), hreg _ (by decide)]
    exact hbit
  · rw [Dev.bit, hpair _ (by decide)]
    exact Dev.bit_sqSet_mem z _ (by decide) (List.mem_singleton_self _)
  · rw [Dev.pipeOf, Dev.fld, hpair _ (by decide), Dev.reg_sqSet_other _ _ (by decide), hreg _ (by decide)]
    exact hrole

/-! ## Pipeline faults (R480, R482) -/

section
variable {s : State} {p : Fin 3} (hr : s.dev.running = true)

theorem serves_lt {d : Dev} {p g : Nat} (h : (List.range 2).find? (fun g => d.serves p g) = some g) : g < 2 ∧ d.pipeOf g = p := by
  refine ⟨List.mem_range.mp (List.mem_of_find?_eq_some h), ?_⟩
  have hs : d.serves p g = true := List.find?_some h
  exact of_decide_eq_true (Bool.and_eq_true_iff.mp hs).1

include hr

theorem exec_pipelineFault_serving {g : Nat} (hg : (List.range 2).find? (fun g => s.dev.serves p.val g) = some g) (kind : Fin 16) (loc : Word) :
    exec (.pipelineFault p kind loc) s = .next { s with dev := (if s.dev.fld Reg.GLB_PIPE_ROLE 6 2 = 0 then s.dev.takeover p.val g kind.val loc
      else s.dev.failGroup p.val g kind.val loc) } := by
  refine (act_run hr).trans ?_
  unfold Dev.pipeFault
  rw [hg]

omit hr in
theorem find?_serves_none {d : Dev} {p : Nat} (h0 : d.serves p 0 = false) (h1 : d.serves p 1 = false) :
    (List.range 2).find? (fun g => d.serves p g) = none := by
  rw [List.find?_eq_none]
  intro g hg
  have hlt := List.mem_range.mp hg
  obtain rfl | rfl : g = 0 ∨ g = 1 := by omega
  · simp [h0]
  · simp [h1]

theorem exec_pipelineFault_spare (h0 : s.dev.serves p.val 0 = false) (h1 : s.dev.serves p.val 1 = false)
    (hspare : s.dev.fld Reg.GLB_PIPE_ROLE 4 2 = p.val) (hready : s.dev.fld Reg.GLB_PIPE_ROLE 6 2 = 0) (kind : Fin 16) (loc : Word) :
    ∃ u, exec (.pipelineFault p kind loc) s = .next u ∧ u.dev.fld Reg.GLB_PIPE_ROLE 6 2 = 2 ∧
      u.dev.reg Reg.FLT_SEQ = s.dev.reg Reg.FLT_SEQ + 1 ∧ u.dev.prs = s.dev.prs := by
  have hfault : ∃ n r, s.dev.pipeFault p.val kind.val loc = (({ s.dev with freeCtr := n } : Dev).setFld Reg.GLB_PIPE_ROLE 6 2 2).fault r := by
    unfold Dev.pipeFault
    rw [find?_serves_none h0 h1]
    dsimp only
    rw [if_pos ⟨hspare, hready⟩]
    exact ⟨_, _, rfl⟩
  obtain ⟨n, r, e⟩ := hfault
  have hrow : exec (.pipelineFault p kind loc) s = _ := act_run hr
  rw [e] at hrow
  have hfld : (({ s.dev with freeCtr := n } : Dev).setFld Reg.GLB_PIPE_ROLE 6 2 2).fld Reg.GLB_PIPE_ROLE 6 2 = 2 :=
    (Dev.fld_setFld_same _ _ _ _ _ (by decide)).trans (by decide)
  have hseq : (({ s.dev with freeCtr := n } : Dev).setFld Reg.GLB_PIPE_ROLE 6 2 2).reg Reg.FLT_SEQ = s.dev.reg Reg.FLT_SEQ :=
    Dev.reg_setReg_other _ _ (by decide)
  have hprs : (({ s.dev with freeCtr := n } : Dev).setFld Reg.GLB_PIPE_ROLE 6 2 2).prs = s.dev.prs := Dev.setReg_prs _ _ _
  generalize ({ s.dev with freeCtr := n } : Dev).setFld Reg.GLB_PIPE_ROLE 6 2 2 = x at hrow hfld hseq hprs
  obtain ⟨a, f, pc, o, hrest⟩ := x.fault_rest r
  exact ⟨_, hrow, (x.fld_role_fault r 6 2).trans hfld, (x.seq_fault r).trans (by rw [hseq]),
    (congrArg Dev.prs hrest).trans hprs⟩

omit hr in
theorem exec_pipelineFault_idle (h0 : s.dev.serves p.val 0 = false) (h1 : s.dev.serves p.val 1 = false)
    (hspare : s.dev.fld Reg.GLB_PIPE_ROLE 4 2 ≠ p.val) (kind : Fin 16) (loc : Word) : exec (.pipelineFault p kind loc) s = .next s := by
  refine act_same ?_
  unfold Dev.pipeFault
  rw [find?_serves_none h0 h1]
  dsimp only
  rw [if_neg fun h => hspare h.1]

/-! ## Tasting and checkpoints (R479, R483) -/

omit hr in
theorem exec_pipelineTastingDone_other (hc : s.dev.pipeReset p.val = none) (hspare : s.dev.fld Reg.GLB_PIPE_ROLE 4 2 ≠ p.val) (good : Bool) :
    exec (.pipelineTastingDone p good) s = .next s := by
  refine act_same ?_
  dsimp only
  rw [hc, decide_eq_false hspare]
  rfl

theorem exec_pipelineTastingDone_spare (hc : s.dev.pipeReset p.val = none) (hspare : s.dev.fld Reg.GLB_PIPE_ROLE 4 2 = p.val)
    (hst : s.dev.fld Reg.GLB_PIPE_ROLE 6 2 = 1 ∨ s.dev.fld Reg.GLB_PIPE_ROLE 6 2 = 2) (good : Bool) :
    exec (.pipelineTastingDone p good) s = .next { s with dev :=
      ((s.dev.clearWindow p.val).setFld Reg.GLB_PIPE_ROLE 6 2 (if good then 0 else 3)) } := by
  refine (act_run hr).trans ?_
  dsimp only
  rw [hc, decide_eq_true hspare, decide_eq_true hst]
  dsimp only
  rw [if_pos rfl, Option.isSome_none, Bool.and_false, if_neg Bool.false_ne_true]
  rfl

omit hr in
theorem Dev.reg_clearWindow_role (d : Dev) (p : Nat) : (d.clearWindow p).reg Reg.GLB_PIPE_ROLE = d.reg Reg.GLB_PIPE_ROLE := by
  have hblock : [7, 8, 9, 10, 14].contains (Reg.GLB_PIPE_ROLE / 0x100000) = false := by decide
  have h := Map.get?_sift_key d.rf.act (fun k => !decide ([7, 8, 9, 10, 14].contains (k / 0x100000) = true ∧ k / 0x10000 % 16 = 12 + p))
    Reg.GLB_PIPE_ROLE
  rw [if_pos (by rw [hblock]; simp)] at h
  unfold Dev.reg Dev.clearWindow
  rw [h]

omit hr in
theorem exec_contextCheckpoint_idle (h0 : s.dev.serves p.val 0 = false) (h1 : s.dev.serves p.val 1 = false) :
    exec (.contextCheckpoint p) s = .next s := by
  refine act_same ?_
  rw [h0, h1]
  rfl

theorem exec_contextCheckpoint_stored (h : s.dev.serves p.val 0 = true ∨ s.dev.serves p.val 1 = true) :
    ∃ u, exec (.contextCheckpoint p) s = .next u ∧ u.dev.checkpoint p.val = some (s.dev.softOf p.val) ∧ u.dev.rf = s.dev.rf := by
  have hrow : exec (.contextCheckpoint p) s = _ := act_run hr
  rw [if_pos (by simpa using h)] at hrow
  refine ⟨_, hrow, ?_, rfl⟩
  have hslot : 2 * p.val + (Map.getD s.dev.flt.ckptSeq p.val 0 + 1 + 1) % 2 = 2 * p.val + Map.getD s.dev.flt.ckptSeq p.val 0 % 2 := by omega
  unfold Dev.checkpoint
  dsimp only
  rw [Map.getD_put, if_pos rfl, hslot, if_neg (by simp), Map.get?_put_same]

end

/-- Settles O47: a fault by the role of its pipeline, a tasting by its result, a checkpoint by what its pipeline serves. -/
theorem pipelinesFailOverAndAreTasted : Obligations.PipelinesFailOverAndAreTasted := by
  unfold Obligations.PipelinesFailOverAndAreTasted
  intro s p hr
  have hp : p.val < 4 := by omega
  refine ⟨fun kind loc g hg => ?_, fun kind loc h0 h1 => ⟨fun hspare hready => exec_pipelineFault_spare hr h0 h1 hspare hready kind loc,
    fun hspare => exec_pipelineFault_idle h0 h1 hspare kind loc⟩, fun good hc => ⟨fun hspare => exec_pipelineTastingDone_other hc hspare good,
    fun hspare hst => ?_⟩, exec_contextCheckpoint_idle, exec_contextCheckpoint_stored hr⟩
  · have hrow := exec_pipelineFault_serving hr hg kind loc
    obtain ⟨hlt, hserve⟩ := serves_lt hg
    refine ⟨fun hready => ?_, fun hready => ?_⟩
    · rw [if_pos hready] at hrow
      exact ⟨_, hrow, s.dev.takeover_shows hp hlt kind.val loc⟩
    · rw [if_neg hready] at hrow
      obtain ⟨hfailed, hst, hev, hpipe⟩ := s.dev.failGroup_shows p.val hlt kind.val loc
      exact ⟨_, hrow, hfailed, hst, hev, hpipe.trans hserve⟩
  · have hrow := exec_pipelineTastingDone_spare hr hc hspare hst good
    have hrole (lo : Nat) : (s.dev.clearWindow p.val).fld Reg.GLB_PIPE_ROLE lo 2 = s.dev.fld Reg.GLB_PIPE_ROLE lo 2 :=
      congrArg (Word.fld · lo 2) (s.dev.reg_clearWindow_role p.val)
    have hother (lo : Nat) (h : lo + 2 ≤ 6) : ((s.dev.clearWindow p.val).setFld Reg.GLB_PIPE_ROLE 6 2 (if good then 0 else 3)).fld Reg.GLB_PIPE_ROLE lo 2 =
        s.dev.fld Reg.GLB_PIPE_ROLE lo 2 := (Dev.fld_setFld_other _ _ _ (by omega) (.inl h)).trans (hrole lo)
    exact ⟨_, hrow, (Dev.fld_setFld_same _ _ _ _ _ (by decide)).trans (by cases good <;> rfl), (hother 4 (by decide)).trans hspare,
      hother 0 (by decide), hother 2 (by decide)⟩

end Sys2Proof.Machine
end


section
/-! PROOFS. Corrected and uncorrectable errors, hours, the watchdog and the fault opcodes (O48). -/

namespace Sys2Proof.Machine

/-! ## Corrected errors (R476) -/

/-- A corrected error counted in its register and in its hour. -/
def Dev.ceCounted (d : Dev) (r unit : Nat) : Dev :=
  let x := (if r = 13 then (d.linkFns (unit % 4)).foldl (fun (d : Dev) f => d.aer f 1) d else d).count (Reg.FLT_CORRECTED r) 1
  { x with flt := { x.flt with ceHour := Map.put x.flt.ceHour r (Map.getD d.flt.ceHour r 0 + 1) } }

/-- The first corrected error of a source in the hour recorded. -/
def Dev.ceRecorded (d : Dev) (r unit : Nat) (loc : Word) : Dev :=
  if d.flt.ceLogged.contains r then d
  else ({ d with flt := { d.flt with ceLogged := r :: d.flt.ceLogged } } : Dev).fault
    { faultRec 0 0 (sourceBlock r) unit with location := loc }

theorem Dev.foldl_aer_rest (fs : List Nat) (d : Dev) : ∃ p, fs.foldl (fun (d : Dev) f => d.aer f 1) d = { d with pce := p } := by
  induction fs generalizing d with
  | nil => exact ⟨d.pce, rfl⟩
  | cons f fs ih =>
    obtain ⟨p, e⟩ := ih (d.aer f 1)
    exact ⟨p, e⟩

theorem Dev.ceCounted_shows (d : Dev) (r unit : Nat) :
    (d.ceCounted r unit).reg (Reg.FLT_CORRECTED r) = Word.satAdd (d.reg (Reg.FLT_CORRECTED r)) 1 ∧
    (∀ k, k ≠ Reg.FLT_CORRECTED r → (d.ceCounted r unit).reg k = d.reg k) ∧
    (d.ceCounted r unit).flt = { d.flt with ceHour := Map.put d.flt.ceHour r (Map.getD d.flt.ceHour r 0 + 1) } := by
  have hx : ∃ p, (if r = 13 then (d.linkFns (unit % 4)).foldl (fun (d : Dev) f => d.aer f 1) d else d) = { d with pce := p } := by
    split
    · exact Dev.foldl_aer_rest _ d
    · exact ⟨d.pce, rfl⟩
  obtain ⟨p, e⟩ := hx
  unfold Dev.ceCounted
  rw [e]
  exact ⟨Dev.reg_setReg_same .., fun k hk => Dev.reg_setReg_other _ _ hk, rfl⟩

/-- An event of the faults stays set through a record. -/
theorem Dev.evt_fault {d : Dev} {i : Nat} (hi : i < 24) (h : d.bit Reg.FLT_EVT_STATUS i = true) (r : FaultRec) :
    (d.fault r).bit Reg.FLT_EVT_STATUS i = true := by
  have hreg : (d.putRecord r (r.words d.ptp.toNat (d.regN Reg.FLT_SEQ))).reg Reg.FLT_EVT_STATUS = d.reg Reg.FLT_EVT_STATUS :=
    Dev.reg_putRecord (r.length_words ..) d r (by decide) (by decide) (by decide)
  rw [Dev.fault_eq, (Dev.ToldHost.notifyAll _ _).bit _ (by decide), Dev.bit_sqSet _ _ _ hi, Dev.bit, hreg, ← Dev.bit, h]
  rfl

theorem Dev.ceRecorded_shows (d : Dev) (r unit : Nat) (loc : Word) : (∀ k, ¬ faultReg k → (d.ceRecorded r unit loc).reg k = d.reg k) ∧
    (d.ceRecorded r unit loc).flt.ceHour = d.flt.ceHour ∧ (d.ceRecorded r unit loc).flt.ceLogged.contains r = true := by
  unfold Dev.ceRecorded
  split
  · next h => exact ⟨fun _ _ => rfl, rfl, h⟩
  · obtain ⟨n, e⟩ := Dev.flt_fault { d with flt := { d.flt with ceLogged := r :: d.flt.ceLogged } }
      { faultRec 0 0 (sourceBlock r) unit with location := loc }
    refine ⟨fun k hk => Dev.reg_fault _ _ hk, by rw [e], ?_⟩
    rw [e]
    exact List.contains_iff_mem.mpr List.mem_cons_self

theorem exec_correctedError {s : State} (hr : s.dev.running = true) (r : Fin 17) (unit : Fin 65536) (loc : Word) :
    exec (.correctedError r unit loc) s = .next { s with dev :=
      (if Map.getD s.dev.flt.ceHour r.val 0 + 1 = ((s.dev.ceCounted r.val unit.val).ceRecorded r.val unit.val loc).fld Reg.FLT_CTRL 0 16 + 1
        then ((s.dev.ceCounted r.val unit.val).ceRecorded r.val unit.val loc).sqSet Reg.FLT_EVT_STATUS [5]
        else (s.dev.ceCounted r.val unit.val).ceRecorded r.val unit.val loc) } := act_run hr

theorem not_faultReg_corrected (r : Fin 17) : ¬ faultReg (Reg.FLT_CORRECTED r.val) := by
  unfold faultReg hostReg Reg.FLT_CORRECTED Reg.FLT_SEQ Reg.FLT_EVT_STATUS
  omega

theorem exec_correctedError_shows {s : State} (hr : s.dev.running = true) (r : Fin 17) (unit : Fin 65536) (loc : Word) :
    ∃ u, exec (.correctedError r unit loc) s = .next u ∧
      u.dev.reg (Reg.FLT_CORRECTED r.val) = Word.satAdd (s.dev.reg (Reg.FLT_CORRECTED r.val)) 1 ∧
      Map.getD u.dev.flt.ceHour r.val 0 = Map.getD s.dev.flt.ceHour r.val 0 + 1 ∧ u.dev.flt.ceLogged.contains r.val = true ∧
      (r.val ≠ 13 → s.dev.flt.ceLogged.contains r.val = true →
        Map.getD s.dev.flt.ceHour r.val 0 ≠ s.dev.fld Reg.FLT_CTRL 0 16 → s.dev.sameRegsBut u.dev [Reg.FLT_CORRECTED r.val]) ∧
      (Map.getD s.dev.flt.ceHour r.val 0 = s.dev.fld Reg.FLT_CTRL 0 16 → u.dev.bit Reg.FLT_EVT_STATUS 5 = true) := by
  have hrow := exec_correctedError hr r unit loc
  obtain ⟨hcount, hsame, hflt⟩ := s.dev.ceCounted_shows r.val unit.val
  obtain ⟨hregs, hhour, hlogged⟩ := (s.dev.ceCounted r.val unit.val).ceRecorded_shows r.val unit.val loc
  have hkept : s.dev.flt.ceLogged.contains r.val = true →
      (s.dev.ceCounted r.val unit.val).ceRecorded r.val unit.val loc = s.dev.ceCounted r.val unit.val := fun h =>
    if_pos (by rw [hflt]; exact h)
  have hctrl : ((s.dev.ceCounted r.val unit.val).ceRecorded r.val unit.val loc).fld Reg.FLT_CTRL 0 16 = s.dev.fld Reg.FLT_CTRL 0 16 := by
    rw [Dev.fld, hregs _ (by decide), hsame _ (by unfold Reg.FLT_CTRL Reg.FLT_CORRECTED; omega), Dev.fld]
  have hreg := (hregs _ (not_faultReg_corrected r)).trans hcount
  have hget : Map.getD ((s.dev.ceCounted r.val unit.val).ceRecorded r.val unit.val loc).flt.ceHour r.val 0 = Map.getD s.dev.flt.ceHour r.val 0 + 1 := by
    rw [hhour, hflt]
    exact (Map.getD_put _ _ _ _ _).trans (if_pos rfl)
  rw [hctrl] at hrow
  generalize s.dev.ceCounted r.val unit.val = x at hrow hreg hget hkept hlogged hsame
  generalize x.ceRecorded r.val unit.val loc = z at hrow hreg hget hkept hlogged
  by_cases hn : Map.getD s.dev.flt.ceHour r.val 0 = s.dev.fld Reg.FLT_CTRL 0 16
  · rw [if_pos (by rw [hn])] at hrow
    exact ⟨_, hrow, (Dev.reg_sqSet_other _ _ (by unfold Reg.FLT_CORRECTED Reg.FLT_EVT_STATUS; omega)).trans hreg, hget, hlogged,
      fun _ _ h => absurd hn h, fun _ => Dev.bit_sqSet_mem _ _ (by decide) (List.mem_singleton_self _)⟩
  · rw [if_neg (by omega)] at hrow
    exact ⟨_, hrow, hreg, hget, hlogged, fun _ hl _ => by
      dsimp only
      rw [hkept hl]
      exact fun k hk => hsame k (by simpa using hk), fun h => absurd h hn⟩

/-! ## A halt (R487, R488) -/

/-- A halted device does not serve its partner. -/
theorem Dev.pairOk_showPair {d : Dev} (h : d.showPair.halted = true) : d.showPair.pins.pairOk = false := by
  have hh : d.halted = true := (Dev.bit_setReg_other d 0 _ (by decide)).symm.trans h
  have hrun : d.running = false := by
    unfold Dev.running
    rw [hh]
    simp
  unfold Dev.showPair
  rw [hrun]
  rfl

/-- What a halt shows at the pins. -/
theorem Dev.halt_pins {d : Dev} (h : d.halted = false) (r : FaultRec) : (d.halt r).pins.txdis = 0xFFFF ∧ (d.halt r).pins.pairOk = false := by
  have hh := d.halted_halt r
  unfold Dev.halt at hh ⊢
  rw [h, if_neg Bool.false_ne_true] at hh ⊢
  exact ⟨rfl, Dev.pairOk_showPair hh⟩

theorem Dev.halted_violation (d : Dev) (b : Nat) : (d.violation b).halted = d.halted := by
  unfold Dev.violation
  split
  · rfl
  · have hk := ((Dev.sameRegsBut.refl d [Reg.LCS_VIOLATION, Reg.GLB_EVT_STATUS]).hcSet (k := Reg.LCS_VIOLATION) b true 4 (by simp) (by simp)) Reg.GLB_HALT (by decide)
    rw [Dev.halted, Dev.bit, Dev.reg_sqSet_other _ _ (by decide), hk]
    rfl

section
variable {s : State} (hr : s.dev.running = true)
include hr

/-- Damage of the management ring, of the firmware or of the Cellar-master cores changes nothing by itself; its record is of level 4. -/
theorem exec_uncorrectableError_halts {e : Damage} (he : e ∈ [Damage.ringMemory, .firmware, .lockstep]) (loc : Word) :
    ∃ r, exec (.uncorrectableError e loc) s = .next { s with dev := s.dev.halt r } := by
  simp only [List.mem_cons, List.not_mem_nil, or_false] at he
  obtain rfl | rfl | rfl := he <;> exact ⟨_, act_run hr⟩

/-! ## A slice's own state (R478) -/

omit hr in
theorem Dev.slc_gracefulStop (d : Dev) (c : Nat) : (d.gracefulStop c).slc = d.slc := by
  have hx : (d.clearEnable c).slc = d.slc := by
    unfold Dev.clearEnable
    dsimp only
    split <;> rfl
  unfold Dev.gracefulStop
  dsimp only
  split
  · exact hx
  · split <;> exact hx

omit hr in
theorem Dev.slc_stopChans (cs : List Nat) (d : Dev) : (cs.foldl (fun d c => d.gracefulStop c) d).slc = d.slc := by
  induction cs generalizing d with
  | nil => rfl
  | cons c cs ih => exact (ih _).trans (d.slc_gracefulStop c)

/-- A slice's cork counted, its cause and its state written. -/
def Dev.corkMarked (d : Dev) (sl cause : Nat) : Dev :=
  if d.sliceState sl = 1 then (d.causeNoted sl cause).setFld (Reg.SLC_SLICE_STATUS sl 0) 29 3 2 else d.causeNoted sl cause

omit hr in
theorem Dev.slc_corkMarked (d : Dev) (sl cause : Nat) : (d.corkMarked sl cause).slc = d.slc := by
  have hx : (d.stat sl 7 1).slc = d.slc := (Dev.KeepsSlices.stat d sl 7 1).slc
  have hy : (d.causeNoted sl cause).slc = d.slc := by
    unfold Dev.causeNoted
    generalize d.stat sl 7 1 = x at hx
    split
    · exact (Dev.setReg_slc _ _ _).trans hx
    · exact hx
  unfold Dev.corkMarked
  generalize d.causeNoted sl cause = y at hy
  split
  · exact (Dev.setReg_slc _ _ _).trans hy
  · exact hy

omit hr in
theorem Dev.slc_cork (d : Dev) (sl cause : Nat) : (d.cork sl cause).slc = d.slc := by
  have he : d.cork sl cause = if d.sliceState sl = 1 ∨ d.sliceState sl = 2 ∨ d.sliceState sl = 3 ∨ d.sliceState sl = 4 then
      (fun w : Dev => (w.slcEvt sl 0).notifyFn (Reg.SLC_NOTIFY_VECTORf 0) (w.home sl))
        (((d.corkMarked sl cause).sliceChans sl).foldl (fun d c => d.gracefulStop c) (d.corkMarked sl cause)) else d := rfl
  have hw := (Dev.slc_stopChans ((d.corkMarked sl cause).sliceChans sl) (d.corkMarked sl cause)).trans (d.slc_corkMarked sl cause)
  rw [he]
  generalize ((d.corkMarked sl cause).sliceChans sl).foldl (fun d c => d.gracefulStop c) (d.corkMarked sl cause) = w at hw
  split
  · exact ((Dev.KeepsSlices.slcEvt w sl 0).trans (.notifyFn _ _ (Word.fld_lt _ 20 2))).slc.trans hw
  · rfl

omit hr in
theorem Dev.slc_containSlice {d : Dev} {sl : Nat} (hlo : 1 ≤ d.sliceState sl) (hhi : d.sliceState sl ≤ 4) :
    sl ∈ (d.containSlice sl).slc.contained := by
  unfold Dev.containSlice
  extract_lets live slc x
  have hx : x = d.noteContained sl := by
    unfold x live
    rw [decide_eq_true ⟨hlo, hhi⟩]
    rfl
  have hslc : ((x.cork sl 8).sqSet Reg.FLT_EVT_STATUS [2]).slc = x.slc := (Dev.setReg_slc _ _ _).trans (x.slc_cork sl 8)
  rw [hslc, hx]
  exact List.mem_cons_self

theorem exec_uncorrectableError_slice (sl : Fin 8192) (hlo : 1 ≤ s.dev.sliceState sl.val) (hhi : s.dev.sliceState sl.val ≤ 4) (loc : Word) :
    ∃ u, exec (.uncorrectableError (.slice sl) loc) s = .next u ∧ sl.val ∈ u.dev.slc.contained ∧ u.dev.bit Reg.FLT_EVT_STATUS 2 = true ∧
      (s.dev.sliceState sl.val = 1 → s.dev.sliceChans sl.val = [] → u.dev.sliceState sl.val = 2) := by
  have hkeep (d : Dev) (r : FaultRec) : d.KeepsSlices (d.fault r) := .fault d r
  refine ⟨_, exec_sliceError sl loc hr, ?_, Dev.evt_fault (by decide) (Dev.bit_sqSet_mem _ _ (by decide) (List.mem_singleton_self _)) _,
    fun hst hch => ?_⟩
  · dsimp only
    rw [(hkeep _ _).slc]
    exact Dev.slc_containSlice hlo hhi
  · dsimp only
    rw [(hkeep _ _).sliceState sl.isLt, Dev.containSlice_eq hst, (Dev.KeepsSlices.faultEvent _ _).sliceState sl.isLt]
    exact Dev.sliceState_cork (d := s.dev.noteContained sl.val) 8 sl.isLt hst hch

theorem exec_uncorrectableError_spill (sl : Fin 8192) (n : Fin 1024) (loc : Word) :
    exec (.uncorrectableError (.spill sl n) loc) s = .next { s with dev :=
      (s.dev.fault { faultRec 0 1 5 n.val with slice := some (sl.val, s.dev.incarnation sl.val), location := loc }) } := act_run hr

theorem exec_poweredHour : ∃ u, exec .poweredHour s = .next u ∧ u.dev.reg Reg.AGE_POWERED_HOURS = s.dev.reg Reg.AGE_POWERED_HOURS + 1 ∧
    u.dev.flt.ceHour = [] ∧ u.dev.flt.ceLogged = [] ∧ s.dev.sameRegsBut u.dev [Reg.AGE_POWERED_HOURS] := by
  have hrow : exec .poweredHour s = _ := act_run hr
  exact ⟨_, hrow, Dev.reg_setReg_same .., rfl, rfl, fun k hk => Dev.reg_setReg_other _ _ (by simpa using hk)⟩

omit hr in
theorem exec_watchdogExpiry_suspended (h : s.dev.updState = 5 ∨ s.dev.updState = 8) : exec .watchdogExpiry s = .next s := act_same (if_pos h)

theorem exec_watchdogExpiry_halts (h5 : s.dev.updState ≠ 5) (h8 : s.dev.updState ≠ 8) :
    exec .watchdogExpiry s = .next { s with dev := s.dev.halt { faultRec 4 4 2 0 with recoveryUs := 0xFFFF } } :=
  by
  have h : ¬ (s.dev.fld Reg.UPD_STATE 28 4 = 5 ∨ s.dev.fld Reg.UPD_STATE 28 4 = 8) := not_or.mpr ⟨h5, h8⟩
  have hrow : exec .watchdogExpiry s = _ := act_run hr
  rwa [if_neg h] at hrow

/-! ## The fault opcodes (R139, R486) -/

section
variable {m : Fin 16} {tag : Fin 4096} {gen : Fin 16} {c : Cmd}

theorem exec_faultLogRead_one (hs : s.dev.started m.val tag.val gen.val 0x0B01 c) (h1 : (c.p 1).toNat = 1)
    (hlo : (c.p 0).toNat < s.dev.regN Reg.FLT_SEQ) (hhi : s.dev.regN Reg.FLT_SEQ ≤ (c.p 0).toNat + 1024) :
    exec (.faultLogRead m tag gen) s = .next { s with dev := (s.dev.finish m.val tag.val gen.val
      (Res.ok (s.dev.regs (Reg.FLT_RING ((c.p 0).toNat % 1024 * 12)) 12))) } := by
  have hids : ((List.range (c.p 1).toNat).map (fun i => (c.p 0).toNat + i)).filter
      (fun i => decide (i < s.dev.regN Reg.FLT_SEQ ∧ s.dev.regN Reg.FLT_SEQ ≤ i + 1024)) = [(c.p 0).toNat] := by
    rw [h1]
    exact List.filter_cons_of_pos (decide_eq_true ⟨hlo, hhi⟩)
  refine opStep_ok hr hs ?_
  unfold runFaultLogRead
  dsimp only
  rw [hids, List.flatMap_cons, List.flatMap_nil, List.append_nil]

theorem exec_countersRead_energy (hs : s.dev.started m.val tag.val gen.val 0x0B02 c) (hb : c.pf 0 0 5 = 18) (hfirst : c.pf 1 0 16 = 0)
    (hn : c.pf 1 16 16 = 4) : exec (.countersRead m tag gen) s = .next { s with dev := (s.dev.finish m.val tag.val gen.val
      (Res.ok (s.dev.regs (Reg.EBS_COUNTS 0) 4))) } := by
  refine opStep_ok hr hs ?_
  unfold runCountersRead
  rw [hb, hfirst, hn]
  rfl

end
end

/-- Settles O48: corrected errors by their counts, uncorrectable ones by what they contain, the opcodes by the words they answer. -/
theorem errorsAreContainedAndAnswered : Obligations.ErrorsAreContainedAndAnswered := by
  unfold Obligations.ErrorsAreContainedAndAnswered
  refine ⟨fun s loc hr => ?_, fun s m tag gen c hr => ⟨exec_faultLogRead_one hr, fun good hs => opStep_ok hr hs rfl, exec_countersRead_energy hr⟩⟩
  have hh : s.dev.halted = false := (Dev.not_halted_of_running hr).1
  refine ⟨fun r unit => exec_correctedError_shows hr r unit loc, fun e he => ?_, fun sl hlo hhi => exec_uncorrectableError_slice hr sl hlo hhi loc,
    fun sl n => exec_uncorrectableError_spill hr sl n loc, exec_poweredHour hr, exec_watchdogExpiry_suspended, fun h5 h8 =>
      ⟨_, exec_watchdogExpiry_halts hr h5 h8, Dev.halted_halt _ _, Dev.halt_pins hh _⟩,
    ⟨_, act_run hr, Dev.halted_halt _ _, (Dev.halt_pins ((Dev.halted_violation _ _).trans hh) _).1⟩⟩
  obtain ⟨r, hrow⟩ := exec_uncorrectableError_halts hr he loc
  exact ⟨_, hrow, Dev.halted_halt _ _, Dev.halt_pins hh r⟩

end Sys2Proof.Machine
end


section
/-! PROOFS. Device reset, the boot stages, supplies, rails and the partner's signal (O49). -/

namespace Sys2Proof.Machine

/-! ## HC registers (R100) -/

/-- Words posted change the posts alone. -/
theorem Dev.postAll_blocks (ms : List Nat) (kind info : Nat) (d : Dev) : (d.postAll ms kind info).pins = d.pins ∧
    (d.postAll ms kind info).lcs = d.lcs ∧ (d.postAll ms kind info).now = d.now := by
  induction ms generalizing d with
  | nil => exact ⟨rfl, rfl, rfl⟩
  | cons m ms ih =>
    obtain ⟨hp, hl, hn⟩ := ih (d.post m kind info)
    have hpost : (d.post m kind info).pins = d.pins ∧ (d.post m kind info).lcs = d.lcs ∧ (d.post m kind info).now = d.now := by
      unfold Dev.post
      split <;> exact ⟨rfl, rfl, rfl⟩
    exact ⟨hp.trans hpost.1, hl.trans hpost.2.1, hn.trans hpost.2.2⟩

theorem Dev.hcSet_blocks (d : Dev) (k i : Nat) (b : Bool) (ev : Nat) : (d.hcSet k i b ev).pins = d.pins ∧
    (d.hcSet k i b ev).lcs = d.lcs ∧ (d.hcSet k i b ev).now = d.now := by
  unfold Dev.hcSet
  dsimp only
  split
  · unfold Dev.hcRise
    exact Dev.postAll_blocks _ _ _ _
  · exact ⟨rfl, rfl, rfl⟩

theorem Dev.bit_hcSet_other (d : Dev) {k i j : Nat} (b : Bool) (ev : Nat) (hj : j < 32) (hij : j ≠ i) (hk : k ≠ Reg.GLB_EVT_STATUS) :
    (d.hcSet k i b ev).bit k j = d.bit k j := by
  have hsame : (d.hcSet k i b ev).reg k = (d.setBit k i b).reg k := by
    simp only [Dev.hcSet]
    split
    · exact (Dev.reg_congr (Dev.rf_postAll ..) k).trans (Dev.reg_setReg_other _ _ hk)
    · rfl
  rw [Dev.bit, hsame]
  exact Dev.bit_setBit_other d k b hj hij

/-! ## Supplies (R494, R537) -/

/-- Bits of GLB_SUPPLY_FAULT shown one after the other. -/
theorem Dev.foldl_hcSet_supply (gs : List Nat) (d : Dev) :
    (gs.foldl (fun (d : Dev) g => d.hcSet Reg.GLB_SUPPLY_FAULT g (d.pins.supply.contains g) 1) d).pins = d.pins ∧
    d.sameRegsBut (gs.foldl (fun (d : Dev) g => d.hcSet Reg.GLB_SUPPLY_FAULT g (d.pins.supply.contains g) 1) d)
      [Reg.GLB_SUPPLY_FAULT, Reg.GLB_EVT_STATUS] ∧
    ∀ g, g < 32 → (gs.foldl (fun (d : Dev) g => d.hcSet Reg.GLB_SUPPLY_FAULT g (d.pins.supply.contains g) 1) d).bit Reg.GLB_SUPPLY_FAULT g =
      if g ∈ gs then d.pins.supply.contains g else d.bit Reg.GLB_SUPPLY_FAULT g := by
  induction gs generalizing d with
  | nil => exact ⟨rfl, .refl _ _, fun _ _ => rfl⟩
  | cons a gs ih =>
    obtain ⟨hpins, hregs, hbits⟩ := ih (d.hcSet Reg.GLB_SUPPLY_FAULT a (d.pins.supply.contains a) 1)
    obtain ⟨hp, -, -⟩ := d.hcSet_blocks Reg.GLB_SUPPLY_FAULT a (d.pins.supply.contains a) 1
    rw [hp] at hbits
    refine ⟨hpins.trans hp, ((Dev.sameRegsBut.refl d _).hcSet a _ 1 (by simp) (by simp)).trans hregs, fun g hg => (hbits g hg).trans ?_⟩
    by_cases hmem : g ∈ gs
    · rw [if_pos hmem, if_pos (List.mem_cons_of_mem a hmem)]
    · rw [if_neg hmem]
      by_cases hga : g = a
      · rw [hga, if_pos List.mem_cons_self]
        exact Dev.bit_hcSet d _ _ (hga ▸ hg) (by decide)
      · rw [if_neg (by simp [hga, hmem])]
        exact Dev.bit_hcSet_other d _ _ hg hga (by decide)

theorem Dev.showSupply_shows (d : Dev) : d.showSupply.pins = d.pins ∧
    d.sameRegsBut d.showSupply [Reg.GLB_SUPPLY_FAULT, Reg.GLB_EVT_STATUS] ∧
    ∀ g, g < 4 → d.showSupply.bit Reg.GLB_SUPPLY_FAULT g = d.pins.supply.contains g := by
  obtain ⟨hpins, hregs, hbits⟩ := Dev.foldl_hcSet_supply (List.range 4) d
  exact ⟨hpins, hregs, fun g hg => (hbits g (by omega)).trans (if_pos (List.mem_range.mpr hg))⟩

theorem Dev.stage_showSupply (d : Dev) : d.showSupply.stage? = d.stage? ∧ d.showSupply.bit Reg.GLB_BOOT 27 = d.bit Reg.GLB_BOOT 27 := by
  obtain ⟨-, hregs, -⟩ := d.showSupply_shows
  have h := hregs Reg.GLB_BOOT (by decide)
  exact ⟨congrArg (Word.fld · 28 4) h, congrArg (Word.bit · 27) h⟩

/-- A supply fault at stage 7 is shown alone. -/
theorem Dev.supplyFault_booted {d : Dev} (h : d.stage? = 7) : d.supplyFault = d.showSupply := by
  unfold Dev.supplyFault
  exact if_neg fun h' => absurd (d.stage_showSupply.1.symm.trans_lt h'.1) (by omega)

theorem Dev.supplyFault_booting {d : Dev} (h : d.stage? < 7) (hb : d.bit Reg.GLB_BOOT 27 = false) : d.supplyFault = d.showSupply.deviceReset := by
  unfold Dev.supplyFault
  exact if_pos ⟨d.stage_showSupply.1.trans_lt h, d.stage_showSupply.2.trans hb⟩

theorem Dev.bit_setSupply (gs : List Nat) (d : Dev) {g : Nat} (hg : g < 32) (h : g ∈ gs ∨ d.bit Reg.GLB_SUPPLY_FAULT g = true) :
    (d.setSupply gs).bit Reg.GLB_SUPPLY_FAULT g = true := by
  unfold Dev.setSupply
  induction gs generalizing d with
  | nil => exact h.resolve_left (List.not_mem_nil)
  | cons a gs ih =>
    refine ih _ ?_
    by_cases hga : g = a
    · exact .inr (hga ▸ Dev.bit_setBit_same d _ _ true (hga ▸ hg))
    · rcases h with h | h
      · exact .inl ((List.mem_cons.mp h).resolve_left hga)
      · exact .inr ((Dev.bit_setBit_other d _ true hg hga).trans h)

/-- The supply bits whose causes last stand after a device reset (R483, R494). -/
theorem Dev.supply_deviceReset (d : Dev) {g : Nat} (hg : g < 32) (h : d.pins.supply.contains g = true) :
    d.deviceReset.bit Reg.GLB_SUPPLY_FAULT g = true := by
  rw [Dev.deviceReset_eq]
  exact Dev.bit_setSupply _ _ hg (.inl (List.contains_iff_mem.mp h))

theorem Dev.stage_deviceReset (d : Dev) : d.deviceReset.stage? = 0 := by
  rw [Dev.stage?, Dev.fld, Dev.reg_deviceReset _ (by decide) (by decide) (by decide)]
  decide

theorem Dev.halted_deviceReset (d : Dev) : d.deviceReset.halted = false := by
  rw [Dev.halted, Dev.bit, Dev.reg_deviceReset _ (by decide) (by decide) (by decide)]
  decide

theorem Dev.banks_deviceReset (d : Dev) : d.deviceReset.upd.banks = d.upd.banks := by
  obtain ⟨rf, h⟩ := d.deviceReset_rfOnly
  rw [h]
  rfl

/-- A device reset puts back every register that MRAM, the pins and the key slots kept do not show (R483). -/
theorem Dev.reg_deviceReset_apart (d : Dev) {k : Nat} (hkept : keptReg k = false) (hpair : k ≠ Reg.GLB_PAIR) (hsup : k ≠ Reg.GLB_SUPPLY_FAULT)
    (hslots : ∀ i, k ≠ Reg.CRY_SLOTs i ∧ k ≠ Reg.CRY_SLOT_PNs i 0 ∧ k ≠ Reg.CRY_SLOT_PNs i 1) : d.deviceReset.reg k = resetOf k := by
  have hst : k ≠ Reg.LCS_STATE := by rintro rfl; exact absurd hkept (by decide)
  have hvi : k ≠ Reg.LCS_VIOLATION := by rintro rfl; exact absurd hkept (by decide)
  have hgrants (d : Dev) : d.clearGrants.reg k = d.reg k := by
    rw [Dev.clearGrants, Dev.setBit, Dev.setFld, Dev.reg_setReg_other _ _ hpair, Dev.reg_setReg_other _ _ hvi, Dev.setFld,
      Dev.reg_setReg_other _ _ hst]
  have hshow (is : List Nat) (d : Dev) : (is.foldl (fun (d : Dev) i => d.showSlot i) d).reg k = d.reg k := by
    induction is generalizing d with
    | nil => rfl
    | cons i is ih =>
      obtain ⟨hs, hlo, hhi⟩ := hslots i
      have hhi' : k ≠ Reg.CRY_SLOT_PNs i 0 + 4 := by
        unfold Reg.CRY_SLOT_PNs at hhi ⊢
        omega
      exact (ih _).trans (d.reg_showSlot_apart hs hlo hhi')
  have hbase : Map.get? (Map.sift d.rf.act fun k _ => keptReg k) k = none := Map.get?_sift_none fun _ => hkept
  rw [Dev.deviceReset_eq, Dev.setSupply, Dev.reg_foldl_supply _ _ hsup, hgrants, Dev.showKept, hshow,
    Dev.reg, show d.kept.rf.act = Map.sift d.rf.act fun k _ => keptReg k from rfl, hbase, Option.getD_none]

/-! ## The stages' work (R497) -/

theorem Dev.stage_goto (d : Dev) (n : Nat) : (d.setFld Reg.GLB_BOOT 28 4 n).stage? = n % 16 := Dev.fld_setFld_same _ _ _ _ _ (by decide)

/-- A violation is shown in its own registers. -/
theorem Dev.violation_shows (d : Dev) (b : Nat) : (d.violation b).lcs = d.lcs ∧ (d.violation b).lcState = d.lcState := by
  unfold Dev.violation
  split
  · exact ⟨rfl, rfl⟩
  · obtain ⟨-, hlcs, -⟩ := d.hcSet_blocks Reg.LCS_VIOLATION b true 4
    have hregs := (Dev.sameRegsBut.refl d [Reg.LCS_VIOLATION, Reg.GLB_EVT_STATUS]).hcSet (k := Reg.LCS_VIOLATION) b true 4 (by simp) (by simp)
    exact ⟨hlcs, congrArg (Word.fld · 28 4) ((Dev.reg_sqSet_other _ _ (by decide)).trans (hregs Reg.LCS_STATE (by decide)))⟩

theorem Dev.makeIdentity_shows (d : Dev) : d.makeIdentity.lcs.latch = d.lcs.latch ∧ d.makeIdentity.lcState = d.lcState := by
  unfold Dev.makeIdentity
  split
  · exact ⟨rfl, rfl⟩
  · exact ⟨rfl, (Dev.fld_setReg_other _ _ _ _ (by decide)).trans (Dev.fld_setReg_other _ _ _ _ (by decide))⟩

theorem Dev.lcState_freshNonce (d : Dev) : d.freshNonce.lcState = d.lcState :=
  (Dev.fld_setReg_other _ _ _ _ (by decide)).trans (Dev.fld_setReg_other _ _ _ _ (by decide))

/-- What stage 0 reads in the copies is latched and shown (R508, R513). -/
theorem Dev.bootRomStage_latches (d : Dev) : d.bootRomStage.lcs.latch = some d.lcs.vote.1 ∧ d.bootRomStage.lcState = d.lcs.vote.1 % 16 := by
  have hst : (d.setFld Reg.LCS_STATE 28 4 d.lcs.vote.1).freshNonce.lcState = d.lcs.vote.1 % 16 :=
    (Dev.lcState_freshNonce _).trans (Dev.fld_setFld_same _ _ _ _ _ (by decide))
  simp only [Dev.bootRomStage]
  generalize (d.setFld Reg.LCS_STATE 28 4 d.lcs.vote.1).freshNonce = x at hst ⊢
  have hid (y : Dev) (hl : y.lcs.latch = some d.lcs.vote.1) (hs : y.lcState = d.lcs.vote.1 % 16) :
      (if d.lcs.vote.1 = 1 then y.makeIdentity else y).lcs.latch = some d.lcs.vote.1 ∧
      (if d.lcs.vote.1 = 1 then y.makeIdentity else y).lcState = d.lcs.vote.1 % 16 := by
    obtain ⟨hlatch, hstate⟩ := y.makeIdentity_shows
    split
    · exact ⟨hlatch.trans hl, hstate.trans hs⟩
    · exact ⟨hl, hs⟩
  obtain ⟨hl, hs⟩ := hid { x with lcs := { x.lcs with latch := some d.lcs.vote.1 } } rfl hst
  split
  · exact ⟨hl, hs⟩
  · obtain ⟨hlcs, hstate⟩ := Dev.violation_shows (if d.lcs.vote.1 = 1 then Dev.makeIdentity { x with lcs := { x.lcs with latch := some d.lcs.vote.1 } }
      else { x with lcs := { x.lcs with latch := some d.lcs.vote.1 } }) 3
    exact ⟨(congrArg Lcs.latch hlcs).trans hl, hstate.trans hs⟩

/-- An engine left out of service (R497). -/
def Dev.engineOut (d : Dev) (e : Nat) : Prop := d.bit Reg.CRY_ENGINES e = false ∧ d.bit Reg.CRY_ENGINES (16 + e) = true

theorem Dev.foldl_engineOut (es : List (Fin 12)) (d : Dev) {e : Fin 12} (he : e ∈ es ∨ d.engineOut e.val) :
    (es.foldl (fun (d : Dev) e => (d.setBit Reg.CRY_ENGINES e.val false).setBit Reg.CRY_ENGINES (16 + e.val) true) d).engineOut e.val := by
  induction es generalizing d with
  | nil => exact he.resolve_left List.not_mem_nil
  | cons a es ih =>
    have hel := e.isLt
    have hal := a.isLt
    refine ih _ ?_
    by_cases hea : e = a
    · right
      subst hea
      exact ⟨(Dev.bit_setBit_other _ _ _ (by omega) (by omega)).trans (Dev.bit_setBit_same _ _ _ _ (by omega)),
        Dev.bit_setBit_same _ _ _ _ (by omega)⟩
    · have hne : e.val ≠ a.val := fun h => hea (Fin.ext h)
      rcases he with he | ⟨hoff, hfail⟩
      · exact .inl ((List.mem_cons.mp he).resolve_left hea)
      · exact .inr ⟨(Dev.bit_setBit_other _ _ _ (by omega) (by omega)).trans ((Dev.bit_setBit_other _ _ _ (by omega) (by omega)).trans hoff),
          (Dev.bit_setBit_other _ _ _ (by omega) (by omega)).trans ((Dev.bit_setBit_other _ _ _ (by omega) (by omega)).trans hfail)⟩

/-- Readings of the monitors show in their own registers (R82). -/
theorem Dev.reg_monitorsRead_apart (d : Dev) (rs : List (BitVec 16)) (outside : List (Fin 128)) {k : Nat} (hk : k ≠ Reg.AGE_STATUS)
    (hm : ∀ m, m < 128 → k ≠ Reg.AGE_MONm m) : (d.monitorsRead 0 128 rs outside).reg k = d.reg k := by
  have hn : ((((List.range 128).map (0 + ·)).zip rs).map Prod.fst).Nodup := by
    refine List.Nodup.sublist (sublist_map_fst_zip _ rs) ?_
    exact (List.nodup_range (n := 128)).map (f := (0 + ·)) fun a b h => by simpa using h
  have hkept := (Dev.foldl_monitorRead (fun m => (outside.map Fin.val).contains m) _ hn d).1 k fun p hp => hm p.1 (by
    have hmem := (sublist_map_fst_zip _ rs).subset (List.mem_map_of_mem (f := Prod.fst) hp)
    simpa using hmem)
  simp only [Dev.monitorsRead]
  split
  · exact (Dev.reg_sqSet_other _ _ hk).trans hkept
  · exact hkept

theorem Dev.engineOut_bootTasting (d : Dev) (r : StageReport) {e : Fin 12} (he : e ∈ r.engines) : (d.bootTasting r).engineOut e.val := by
  have h := fun d => Dev.foldl_engineOut r.engines d (.inl he)
  have hk (x : Dev) : (x.monitorsRead 0 128 r.monitors r.outside).reg Reg.CRY_ENGINES = x.reg Reg.CRY_ENGINES :=
    x.reg_monitorsRead_apart _ _ (by decide) fun m hm => by unfold Reg.CRY_ENGINES Reg.AGE_MONm; omega
  simp only [Dev.bootTasting]
  generalize List.foldl (fun (d : Dev) (c : Fin 8 × Fin 18) => d.loseCore c.1.val c.2.val) _ _ = x
  obtain ⟨hoff, hfail⟩ := h x
  exact ⟨(congrArg (Word.bit · e.val) (hk _)).trans hoff, (congrArg (Word.bit · (16 + e.val)) (hk _)).trans hfail⟩

/-- Registers set at stage 6 leave the device's time. -/
theorem Dev.now_bootConfigure (ws : List (Nat × Word)) (d : Dev) : (d.bootConfigure ws).now = d.now := by
  unfold Dev.bootConfigure
  induction ws generalizing d with
  | nil => rfl
  | cons w ws ih => exact ih (d.setReg w.1 w.2)

theorem Dev.ready_shows (d : Dev) : d.ready.stage? = 7 ∧ d.ready.fld Reg.GLB_BOOT 0 16 = d.now / 500000 % 65536 := by
  have hshow (x : Dev) : x.showTxdis.showPair.reg Reg.GLB_BOOT = x.reg Reg.GLB_BOOT := Dev.reg_setReg_other x.showTxdis _ (by decide)
  simp only [Dev.ready]
  constructor
  · refine (congrArg (Word.fld · 28 4) (hshow _)).trans ?_
    exact (Dev.fld_setFld_other _ _ _ (by decide) (by decide)).trans (Dev.stage_goto _ 7)
  · refine (congrArg (Word.fld · 0 16) (hshow _)).trans ?_
    exact Dev.fld_setFld_same _ _ _ _ _ (by decide)

/-- A row that acts on the device whatever state it is in. -/
theorem onDev_row {f : Dev → Dev} {s : State} {x : Dev} (h : f s.dev = x) :
    (Host.Outcome.next (s.onDev f) : Host.Outcome State Fault Refusal) = .next { s with dev := x } := by
  rw [State.onDev, h]

section
variable {s : State}

/-! ## SYS_RST_N (R483, R496) -/

theorem exec_sysRstAssert_held (h : s.dev.pins.rstLow = true) : exec .sysRstAssert s = .next s :=
  congrArg Host.Outcome.next (State.onDev_same (if_pos h))

theorem exec_sysRstAssert (h : s.dev.pins.rstLow = false) : exec .sysRstAssert s = .next { s with dev :=
    { s.dev.deviceReset with pins := { s.dev.deviceReset.pins with rstLow := true } } } :=
  onDev_row (if_neg (Bool.eq_false_iff.mp h))

theorem exec_sysRstAssert_resets (h : s.dev.pins.rstLow = false) : ∃ u, exec .sysRstAssert s = .next u ∧ u.dev.pins.rstLow = true ∧
    u.dev.stage? = 0 ∧ u.dev.halted = false ∧ u.dev.cmd = Dev.reset.cmd ∧ u.dev.prs = Dev.reset.prs ∧ u.dev.rng = Dev.reset.rng ∧
    u.dev.upd.banks = s.dev.upd.banks ∧ ∀ k, keptReg k = false → k ≠ Reg.GLB_PAIR → k ≠ Reg.GLB_SUPPLY_FAULT →
      (∀ i, k ≠ Reg.CRY_SLOTs i ∧ k ≠ Reg.CRY_SLOT_PNs i 0 ∧ k ≠ Reg.CRY_SLOT_PNs i 1) → u.dev.reg k = resetOf k := by
  obtain ⟨hcmd, hrng, hprs⟩ := s.dev.deviceReset_blocks
  exact ⟨_, exec_sysRstAssert h, rfl, s.dev.stage_deviceReset, s.dev.halted_deviceReset, hcmd, hprs, hrng, s.dev.banks_deviceReset,
    fun k hkept hpair hsup hslots => s.dev.reg_deviceReset_apart hkept hpair hsup hslots⟩

theorem exec_sysRstDeassert_idle (h : s.dev.pins.rstLow = false) (tid : Fin 512) (hold : Bool) : exec (.sysRstDeassert tid hold) s = .next s :=
  congrArg Host.Outcome.next (State.onDev_same (if_neg (Bool.eq_false_iff.mp h)))

theorem exec_sysRstDeassert (h : s.dev.pins.rstLow = true) (tid : Fin 512) (hold : Bool) : ∃ u, exec (.sysRstDeassert tid hold) s = .next u ∧
    u.dev.pins.rstLow = false ∧ u.dev.fld Reg.GLB_STRAPS 16 9 = tid.val ∧ u.dev.bit Reg.GLB_STRAPS 2 = hold ∧
    s.dev.sameRegsBut u.dev [Reg.GLB_STRAPS] := by
  have hrow : exec (.sysRstDeassert tid hold) s = .next { s with dev :=
      ((({ s.dev with now := 0, pins := { s.dev.pins with rstLow := false } } : Dev).setFld Reg.GLB_STRAPS 16 9 tid.val).setBit Reg.GLB_STRAPS 2 hold) } :=
    onDev_row (if_pos h)
  refine ⟨_, hrow, rfl, ?_, Dev.bit_setBit_same _ _ _ _ (by decide), fun k hk => ?_⟩
  · exact (Dev.fld_setBit_other _ _ _ (by decide) (by decide)).trans ((Dev.fld_setFld_same _ _ _ _ _ (by decide)).trans (Nat.mod_eq_of_lt tid.isLt))
  · have hne : k ≠ Reg.GLB_STRAPS := by simpa using hk
    exact (Dev.reg_setReg_other _ _ hne).trans (Dev.reg_setReg_other _ _ hne)

/-! ## The stages (R497, R498) -/

theorem exec_bootStage_off (h : s.dev.booting = false ∨ s.dev.stopped = true) (r : StageReport) :
    exec (.bootStageDone r) s = .next s ∧ exec .bootStageDeadline s = .next s := by
  have hoff : ¬ (s.dev.booting && !s.dev.stopped) = true := by
    obtain h | h := h <;> simp [h]
  exact ⟨congrArg Host.Outcome.next (State.onDev_same (if_neg hoff)), congrArg Host.Outcome.next (State.onDev_same (if_neg hoff))⟩

section
variable (hb : s.dev.booting = true) (hs : s.dev.stopped = false)
include hb hs

theorem booting_goes_on : (s.dev.booting && !s.dev.stopped) = true := by
  rw [hb, hs]
  rfl

theorem exec_bootStageDone (r : StageReport) : exec (.bootStageDone r) s = .next { s with dev := s.dev.stageDone r } :=
  onDev_row (if_pos (booting_goes_on hb hs))

theorem exec_bootStageDeadline : ∃ u, exec .bootStageDeadline s = .next u ∧ u.dev.bit Reg.GLB_BOOT 27 = true ∧
    u.dev.reg Reg.FLT_SEQ = s.dev.reg Reg.FLT_SEQ + 1 ∧ u.dev.stage? = s.dev.stage? := by
  have hrow : exec .bootStageDeadline s = .next { s with dev :=
      (((s.dev.fault (faultRec 4 4 0 s.dev.stage?)).setBit Reg.GLB_BOOT 27 true).setFld Reg.GLB_BOOT 0 16 (s.dev.now / 500000)) } :=
    onDev_row (if_pos (booting_goes_on hb hs))
  refine ⟨_, hrow, ?_, ?_, ?_⟩
  · exact (Dev.bit_setFld_other _ _ _ (by decide) (by decide)).trans (Dev.bit_setBit_same _ _ _ _ (by decide))
  · exact (Dev.reg_setReg_other _ _ (by decide)).trans ((Dev.reg_setReg_other _ _ (by decide)).trans (s.dev.seq_fault _))
  · exact (Dev.fld_setFld_other _ _ _ (by decide) (by decide)).trans ((Dev.fld_setBit_other _ _ _ (by decide) (by decide)).trans
      (congrArg (Word.fld · 28 4) (s.dev.reg_fault _ (by decide))))

theorem exec_bootStageDone_rom (r : StageReport) (h : s.dev.stage? = 0) : ∃ u, exec (.bootStageDone r) s = .next u ∧ u.dev.stage? = 1 ∧
    u.dev.lcs.latch = some s.dev.lcs.vote.1 ∧ u.dev.lcState = s.dev.lcs.vote.1 % 16 := by
  have hrow := exec_bootStageDone hb hs r
  rw [Dev.stageDone, h] at hrow
  obtain ⟨hlatch, hstate⟩ := s.dev.bootRomStage_latches
  exact ⟨_, hrow, Dev.stage_goto _ 1, hlatch, (Dev.fld_setReg_other _ _ _ _ (by decide)).trans hstate⟩

theorem exec_bootStageDone_held (r : StageReport) (h : s.dev.stage? = 1) :
    exec (.bootStageDone r) s = .next { s with dev := s.dev.setFld Reg.GLB_BOOT 28 4 2 } := by
  have hrow := exec_bootStageDone hb hs r
  rw [Dev.stageDone, h] at hrow
  exact hrow

theorem exec_bootStageDone_bank (r : StageReport) (h : s.dev.stage? = 2) : ∃ u, exec (.bootStageDone r) s = .next u ∧
    (s.dev.chooseBank.1 = true → u.dev.stage? = 3 ∧ u.dev.upd.banks = s.dev.chooseBank.2.upd.banks) ∧
    (s.dev.chooseBank.1 = false → u.dev.stage? = 1 ∧ u.dev.upd.recovery = true) := by
  have hrow := exec_bootStageDone hb hs r
  rw [Dev.stageDone, h] at hrow
  rcases hx : s.dev.chooseBank with ⟨ok, x⟩
  simp only [hx] at hrow
  cases ok with
  | true => exact ⟨_, hrow, fun _ => ⟨Dev.stage_goto _ 3, rfl⟩, fun h => (Bool.noConfusion h : False).elim⟩
  | false => exact ⟨_, hrow, fun h => (Bool.noConfusion h : False).elim, fun _ => ⟨Dev.stage_goto _ 1, rfl⟩⟩

theorem exec_bootStageDone_hbm (r : StageReport) (h : s.dev.stage? = 3) : ∃ u, exec (.bootStageDone r) s = .next u ∧ u.dev.stage? = 4 ∧
    u.dev.fld Reg.GLB_HBM_CTRL 30 2 = r.trained.val ∧ s.dev.sameRegsBut u.dev [Reg.GLB_HBM_CTRL, Reg.GLB_BOOT] := by
  have hrow := exec_bootStageDone hb hs r
  rw [Dev.stageDone, h] at hrow
  refine ⟨_, hrow, Dev.stage_goto _ 4, ?_, fun k hk => ?_⟩
  · exact (Dev.fld_setReg_other _ _ _ _ (by decide)).trans ((Dev.fld_setFld_same _ _ _ _ _ (by decide)).trans (Nat.mod_eq_of_lt r.trained.isLt))
  · obtain ⟨hctrl, hboot⟩ : k ≠ Reg.GLB_HBM_CTRL ∧ k ≠ Reg.GLB_BOOT := by simpa using hk
    exact (Dev.reg_setReg_other _ _ hboot).trans (Dev.reg_setReg_other _ _ hctrl)

theorem exec_bootStageDone_tasting (r : StageReport) (h : s.dev.stage? = 4) : ∃ u, exec (.bootStageDone r) s = .next u ∧ u.dev.stage? = 5 ∧
    ∀ e ∈ r.engines, u.dev.bit Reg.CRY_ENGINES e.val = false ∧ u.dev.bit Reg.CRY_ENGINES (16 + e.val) = true := by
  have hrow := exec_bootStageDone hb hs r
  rw [Dev.stageDone, h] at hrow
  refine ⟨_, hrow, Dev.stage_goto _ 5, fun e he => ?_⟩
  obtain ⟨hoff, hfail⟩ := s.dev.engineOut_bootTasting r he
  exact ⟨(Dev.bit_setReg_other _ _ _ (by decide)).trans hoff, (Dev.bit_setReg_other _ _ _ (by decide)).trans hfail⟩

theorem exec_bootStageDone_plan (r : StageReport) (h : s.dev.stage? = 5) : ∃ u, exec (.bootStageDone r) s = .next u ∧ u.dev.stage? = 6 := by
  have hrow := exec_bootStageDone hb hs r
  rw [Dev.stageDone, h] at hrow
  exact ⟨_, hrow, Dev.stage_goto _ 6⟩

theorem exec_bootStageDone_configured (r : StageReport) (h : s.dev.stage? = 6) : ∃ u, exec (.bootStageDone r) s = .next u ∧ u.dev.stage? = 7 ∧
    u.dev.fld Reg.GLB_BOOT 0 16 = s.dev.now / 500000 % 65536 := by
  have hrow := exec_bootStageDone hb hs r
  rw [Dev.stageDone, h] at hrow
  obtain ⟨hstage, htime⟩ := (s.dev.bootConfigure r.board).ready_shows
  rw [Dev.now_bootConfigure] at htime
  exact ⟨_, hrow, hstage, htime⟩

end
/-! ## Supplies, rails and the partner's signal (R494, R503, R504, R537) -/

theorem exec_powerGoodFall_known {g : Fin 4} (h : s.dev.pins.pgLow.contains g.val = true) : exec (.powerGoodFall g) s = .next s :=
  congrArg Host.Outcome.next (State.onDev_same (if_pos h))

/-- The pins and the latch after a power-good input falls. -/
def Dev.pgFallen (d : Dev) (g : Nat) : Dev := { d with
  pins := { d.pins with pgLow := g :: d.pins.pgLow }, lcs := { d.lcs with latch := if g = 0 then none else d.lcs.latch } }

theorem exec_powerGoodFall {g : Fin 4} (h : s.dev.pins.pgLow.contains g.val = false) (hr : s.dev.pins.rstLow = false) :
    exec (.powerGoodFall g) s = .next { s with dev := (s.dev.pgFallen g.val).supplyFault } :=
  onDev_row ((if_neg (Bool.eq_false_iff.mp h)).trans (if_neg (Bool.eq_false_iff.mp hr)))

theorem Pins.supply_of_pgLow {p : Pins} {g : Nat} (h : g ∈ p.pgLow) : p.supply.contains g = true := by
  simp [Pins.supply, h]

theorem Pins.supply_of_rail {p : Pins} {r : Nat} (h : r ∈ p.railsOut) : p.supply.contains (railGroup r) = true := by
  simp only [Pins.supply, List.contains_iff_mem, List.mem_eraseDups, List.mem_append, List.mem_map]
  exact .inr ⟨r, h, rfl⟩

theorem railGroup_lt (r : Nat) : railGroup r < 4 := by
  unfold railGroup
  split_ifs <;> decide

/-- A row after which GLB_SUPPLY_FAULT shows the causes of a device. -/
theorem exec_showsSupply {i : Instr} {x : Dev} (hrow : exec i s = .next { s with dev := x.showSupply }) : ∃ u, exec i s = .next u ∧
    u.dev.pins = x.pins ∧ u.dev.stage? = x.stage? ∧ ∀ g, g < 4 → u.dev.bit Reg.GLB_SUPPLY_FAULT g = x.pins.supply.contains g := by
  obtain ⟨hpins, -, hbits⟩ := x.showSupply_shows
  have hstage := x.stage_showSupply.1
  generalize x.showSupply = y at hrow hpins hbits hstage
  exact ⟨_, hrow, hpins, hstage, hbits⟩

theorem exec_powerGoodFall_booted {g : Fin 4} (h : s.dev.pins.pgLow.contains g.val = false) (hr : s.dev.pins.rstLow = false)
    (h7 : s.dev.stage? = 7) : ∃ u, exec (.powerGoodFall g) s = .next u ∧ u.dev.pins.pgLow = g.val :: s.dev.pins.pgLow ∧
      u.dev.bit Reg.GLB_SUPPLY_FAULT g.val = true ∧ u.dev.stage? = 7 := by
  have hrow := exec_powerGoodFall h hr
  rw [Dev.supplyFault_booted (d := s.dev.pgFallen g.val) h7] at hrow
  obtain ⟨u, hu, hpins, hstage, hbits⟩ := exec_showsSupply hrow
  exact ⟨u, hu, congrArg Pins.pgLow hpins, (hbits g.val g.isLt).trans (Pins.supply_of_pgLow List.mem_cons_self), hstage.trans h7⟩

theorem exec_powerGoodFall_booting {g : Fin 4} (h : s.dev.pins.pgLow.contains g.val = false) (hr : s.dev.pins.rstLow = false)
    (h7 : s.dev.stage? < 7) (hb : s.dev.bit Reg.GLB_BOOT 27 = false) : ∃ u, exec (.powerGoodFall g) s = .next u ∧
      u.dev.bit Reg.GLB_SUPPLY_FAULT g.val = true ∧ u.dev.stage? = 0 := by
  have hrow := exec_powerGoodFall h hr
  rw [Dev.supplyFault_booting (d := s.dev.pgFallen g.val) h7 hb] at hrow
  obtain ⟨hpins, -, -⟩ := (s.dev.pgFallen g.val).showSupply_shows
  generalize (s.dev.pgFallen g.val).showSupply = x at hrow hpins
  have hcause : x.pins.supply.contains g.val = true := hpins ▸ Pins.supply_of_pgLow List.mem_cons_self
  have hbit := x.supply_deviceReset (Nat.lt_trans g.isLt (by decide)) hcause
  have hstage := x.stage_deviceReset
  generalize x.deviceReset = y at hrow hbit hstage
  exact ⟨_, hrow, hbit, hstage⟩

theorem exec_powerGoodRise (hr : s.dev.pins.rstLow = false) (hrails : s.dev.pins.railsOut = []) : ∃ u, exec .powerGoodRise s = .next u ∧
    u.dev.pins.pgLow = [] ∧ ∀ g : Fin 4, u.dev.bit Reg.GLB_SUPPLY_FAULT g.val = false := by
  have hrow : ∃ x : Dev, exec .powerGoodRise s = .next { s with dev := x.showSupply } ∧ x.pins = { s.dev.pins with pgLow := [] } :=
    ⟨_, onDev_row (if_neg (Bool.eq_false_iff.mp hr)), by split <;> rfl⟩
  obtain ⟨x, hrow, hp⟩ := hrow
  obtain ⟨u, hu, hpins, -, hbits⟩ := exec_showsSupply hrow
  refine ⟨u, hu, by rw [hpins, hp], fun g => (hbits g.val g.isLt).trans ?_⟩
  rw [hp, Pins.supply]
  dsimp only
  rw [hrails]
  rfl

theorem exec_supplyFaultHold_off {g : Fin 4} (mv : List Word) (h : s.dev.bit Reg.GLB_SUPPLY_FAULT g.val = false) :
    exec (.supplyFaultHold g mv) s = .next s :=
  congrArg Host.Outcome.next (State.onDev_same (if_neg fun h' => absurd (h.symm.trans h'.2.2) (by decide)))

theorem exec_supplyFaultHold {g : Fin 4} (mv : List Word) (hr : s.dev.running = true) (h : s.dev.bit Reg.GLB_SUPPLY_FAULT g.val = true) :
    ∃ u, exec (.supplyFaultHold g mv) s = .next u ∧ u.dev.halted = true ∧ u.dev.pins.txdis = 0xFFFF := by
  obtain ⟨hnh, hlow⟩ := Dev.not_halted_of_running hr
  have h7 : s.dev.stage? = 7 := by
    simp only [Dev.running, Bool.and_eq_true, decide_eq_true_eq] at hr
    exact hr.1.1.1
  exact ⟨_, onDev_row (if_pos ⟨h7, hlow, h⟩), Dev.halted_halt _ _, (Dev.halt_pins hnh _).1⟩

theorem exec_railOutOfWindow_off {r : Fin 9} (h : s.dev.pins.rstLow = true ∨ s.dev.stage? = 0) : exec (.railOutOfWindow r) s = .next s := by
  refine congrArg Host.Outcome.next (State.onDev_same (if_pos ?_))
  exact h.imp id .inl

theorem exec_railOutOfWindow {r : Fin 9} (hr : s.dev.pins.rstLow = false) (h7 : s.dev.stage? = 7)
    (h : s.dev.pins.railsOut.contains r.val = false) : ∃ u, exec (.railOutOfWindow r) s = .next u ∧
      u.dev.pins.railsOut = r.val :: s.dev.pins.railsOut ∧ u.dev.bit Reg.GLB_SUPPLY_FAULT (railGroup r.val) = true ∧ u.dev.stage? = 7 := by
  have hon : ¬ (s.dev.pins.rstLow = true ∨ s.dev.stage? = 0 ∨ s.dev.pins.railsOut.contains r.val = true) := by
    rw [hr, h7, h]
    decide
  have hrow : exec (.railOutOfWindow r) s = .next { s with dev :=
      (({ s.dev with pins := { s.dev.pins with railsOut := r.val :: s.dev.pins.railsOut } } : Dev).supplyFault) } := onDev_row (if_neg hon)
  rw [Dev.supplyFault_booted (d := { s.dev with pins := { s.dev.pins with railsOut := r.val :: s.dev.pins.railsOut } }) h7] at hrow
  obtain ⟨u, hu, hpins, hstage, hbits⟩ := exec_showsSupply hrow
  refine ⟨u, hu, congrArg Pins.railsOut hpins, (hbits _ (railGroup_lt _)).trans (Pins.supply_of_rail ?_), hstage.trans h7⟩
  exact List.mem_cons_self

theorem exec_railWithinWindow (r : Fin 9) (hr : s.dev.pins.rstLow = false) : ∃ u, exec (.railWithinWindow r) s = .next u ∧
    u.dev.pins.railsOut = s.dev.pins.railsOut.filter (· ≠ r.val) ∧
    ∀ g : Fin 4, u.dev.bit Reg.GLB_SUPPLY_FAULT g.val = u.dev.pins.supply.contains g.val := by
  have hrow : exec (.railWithinWindow r) s = .next { s with dev :=
      (({ s.dev with pins := { s.dev.pins with railsOut := s.dev.pins.railsOut.filter (· ≠ r.val) } } : Dev).showSupply) } :=
    onDev_row (if_neg (Bool.eq_false_iff.mp hr))
  obtain ⟨u, hu, hpins, -, hbits⟩ := exec_showsSupply hrow
  exact ⟨u, hu, congrArg Pins.railsOut hpins, fun g => (hbits g.val g.isLt).trans (congrArg (fun p : Pins => p.supply.contains g.val) hpins.symm)⟩

theorem exec_pairInChange (level : Bool) (hr : s.dev.pins.rstLow = false) : ∃ u, exec (.pairInChange level) s = .next u ∧
    u.dev.pins.pairIn = level ∧ u.dev.bit Reg.GLB_PAIR 31 = level ∧ s.dev.sameRegsBut u.dev [Reg.GLB_PAIR] :=
  ⟨_, onDev_row (if_neg (Bool.eq_false_iff.mp hr)), rfl, Dev.bit_setBit_same _ _ _ _ (by decide),
    fun _ hk => Dev.reg_setReg_other _ _ (by simpa using hk)⟩

theorem exec_pairInChange_held (level : Bool) (hr : s.dev.pins.rstLow = true) : exec (.pairInChange level) s =
    .next { s with dev := { s.dev with pins := { s.dev.pins with pairIn := level } } } := onDev_row (if_pos hr)

end

/-- Settles O49: each row's effect on the device as its definition has it, clause by clause. -/
theorem resetBootAndSuppliesAct : Obligations.ResetBootAndSuppliesAct := by
  unfold Obligations.ResetBootAndSuppliesAct
  refine ⟨fun s => ⟨exec_sysRstAssert_held, exec_sysRstAssert_resets, fun tid hold h => exec_sysRstDeassert_idle h tid hold,
    fun tid hold h => exec_sysRstDeassert h tid hold, fun r h => exec_bootStage_off h r, fun hb hs => ⟨exec_bootStageDeadline hb hs, fun r => ?_⟩⟩,
    fun s => ⟨fun g => ⟨exec_powerGoodFall_known, fun h hr => ⟨exec_powerGoodFall_booted h hr, exec_powerGoodFall_booting h hr⟩⟩,
      exec_powerGoodRise, fun g mv => ⟨exec_supplyFaultHold_off mv, exec_supplyFaultHold mv⟩,
      fun r => ⟨exec_railOutOfWindow_off, exec_railOutOfWindow, exec_railWithinWindow r⟩,
      fun level => ⟨exec_pairInChange level, exec_pairInChange_held level⟩, fun _ => act_same rfl⟩⟩
  exact ⟨exec_bootStageDone_rom hb hs r, exec_bootStageDone_held hb hs r, exec_bootStageDone_bank hb hs r, exec_bootStageDone_hbm hb hs r,
    exec_bootStageDone_tasting hb hs r, exec_bootStageDone_plan hb hs r, exec_bootStageDone_configured hb hs r⟩

end Sys2Proof.Machine
end


section
/-! PROOFS. The life cycle, debug access and MCTP control (O50). -/

namespace Sys2Proof.Machine

/-! ## Authorisations (R506 to R510) -/

theorem Dev.cmds_violation (d : Dev) (b : Nat) : (d.violation b).cmd.cmds = d.cmd.cmds := by
  unfold Dev.violation
  split
  · rfl
  · unfold Dev.hcSet Dev.hcRise
    dsimp only
    split
    · exact Dev.cmds_postAll _ _ _ _
    · rfl

theorem Dev.cmd?_congr {d u : Dev} (h : u.cmd.cmds = d.cmd.cmds) (m tag gen : Nat) : u.cmd? m tag gen = d.cmd? m tag gen := by
  unfold Dev.cmd?
  rw [h]

theorem Dev.regs_violation (d : Dev) (b : Nat) : d.sameRegsBut (d.violation b) [Reg.LCS_VIOLATION, Reg.GLB_EVT_STATUS, Reg.LCS_EVT_STATUS] := by
  unfold Dev.violation
  split
  · exact .refl _ _
  · exact ((Dev.sameRegsBut.refl d [Reg.LCS_VIOLATION, Reg.GLB_EVT_STATUS, Reg.LCS_EVT_STATUS]).hcSet (k := Reg.LCS_VIOLATION) b true 4
      (by simp) (by simp)).setReg (by simp)

/-- An event of the life cycle stays set through a violation. -/
theorem Dev.evt_violation {d : Dev} {i : Nat} (hi : i < 24) (h : d.bit Reg.LCS_EVT_STATUS i = true) (b : Nat) :
    (d.violation b).bit Reg.LCS_EVT_STATUS i = true := by
  unfold Dev.violation
  split
  · exact h
  · have hregs := (Dev.sameRegsBut.refl d [Reg.LCS_VIOLATION, Reg.GLB_EVT_STATUS]).hcSet (k := Reg.LCS_VIOLATION) b true 4 (by simp) (by simp)
    rw [Dev.bit_sqSet _ _ _ hi, Dev.bit, hregs Reg.LCS_EVT_STATUS (by decide), ← Dev.bit, h]
    rfl

/-- A refused authorisation is counted and told (R510). -/
theorem Dev.authRefused_shows (d : Dev) : d.authRefused.reg Reg.LCS_AUTH_FAILS = Word.satAdd (d.reg Reg.LCS_AUTH_FAILS) 1 ∧
    d.authRefused.bit Reg.LCS_EVT_STATUS 1 = true ∧ d.authRefused.lcState = d.lcState ∧ d.authRefused.lcs = d.lcs ∧
    d.authRefused.cmd.cmds = d.cmd.cmds := by
  have hfails : ((d.count Reg.LCS_AUTH_FAILS 1).sqSet Reg.LCS_EVT_STATUS [1]).reg Reg.LCS_AUTH_FAILS = Word.satAdd (d.reg Reg.LCS_AUTH_FAILS) 1 :=
    (Dev.reg_sqSet_other _ _ (by decide)).trans (Dev.reg_setReg_same ..)
  have hevt : ((d.count Reg.LCS_AUTH_FAILS 1).sqSet Reg.LCS_EVT_STATUS [1]).bit Reg.LCS_EVT_STATUS 1 = true :=
    Dev.bit_sqSet_mem _ _ (by decide) (by decide)
  have hstate : ((d.count Reg.LCS_AUTH_FAILS 1).sqSet Reg.LCS_EVT_STATUS [1]).lcState = d.lcState :=
    congrArg (Word.fld · 28 4) ((Dev.reg_sqSet_other _ _ (by decide)).trans (d.reg_count_apart 1 (by decide)))
  have hlcs : ((d.count Reg.LCS_AUTH_FAILS 1).sqSet Reg.LCS_EVT_STATUS [1]).lcs = d.lcs := rfl
  have hcmds : ((d.count Reg.LCS_AUTH_FAILS 1).sqSet Reg.LCS_EVT_STATUS [1]).cmd.cmds = d.cmd.cmds := rfl
  unfold Dev.authRefused
  generalize (d.count Reg.LCS_AUTH_FAILS 1).sqSet Reg.LCS_EVT_STATUS [1] = x at hfails hevt hstate hlcs hcmds ⊢
  dsimp only
  split
  · obtain ⟨hvlcs, hvstate⟩ := x.violation_shows 1
    exact ⟨(x.regs_violation 1 _ (by decide)).trans hfails, Dev.evt_violation (by decide) hevt 1, hvstate.trans hstate, hvlcs.trans hlcs,
      (x.cmds_violation 1).trans hcmds⟩
  · exact ⟨hfails, hevt, hstate, hlcs, hcmds⟩

/-- A fresh nonce changes its own registers alone. -/
theorem Dev.freshNonce_shows (d : Dev) : d.freshNonce.cmd = d.cmd ∧ d.freshNonce.lcs = d.lcs ∧
    d.sameRegsBut d.freshNonce [Reg.LCS_NONCE_LO, Reg.LCS_NONCE_HI] := by
  refine ⟨rfl, rfl, fun k hk => ?_⟩
  obtain ⟨hlo, hhi⟩ : k ≠ Reg.LCS_NONCE_LO ∧ k ≠ Reg.LCS_NONCE_HI := by simpa using hk
  exact (Dev.reg_setReg_other _ _ hhi).trans (Dev.reg_setReg_other _ _ hlo)

theorem Dev.cmd_zeroiseAll (d : Dev) : d.zeroiseAll.cmd = d.cmd := by
  have hslots (is : List Nat) (d : Dev) :
      (is.foldl (fun (d : Dev) i => if (d.slot? i).isSome || d.bit (Reg.CRY_SLOTs i) 25 then d.clearSlot i else d) d).cmd = d.cmd := by
    induction is generalizing d with
    | nil => rfl
    | cons i is ih =>
      refine (ih _).trans ?_
      dsimp only
      split
      · exact d.cmd_clearSlot i
      · rfl
  unfold Dev.zeroiseAll
  generalize List.range 256 = is
  exact hslots is d

/-- The owner's key hash that a transition leaves (R506, R509). -/
def Dev.ownerSet (d : Dev) (c : Cmd) : Dev :=
  if c.pf 0 24 4 = 3 then (d.setRegs (Reg.LCS_OWNER_HASH 0) ((c.params.drop 5).take 12)).setBit Reg.LCS_STATE 8 (decide (c.pf 0 8 1 = 1))
  else if c.pf 0 24 4 = 2 ∨ c.pf 0 24 4 = 5 then (d.setRegs (Reg.LCS_OWNER_HASH 0) (List.replicate 12 0)).setBit Reg.LCS_STATE 8 false
  else d

theorem Dev.ownerHash_keeps (d : Dev) (ws : List Word) (b : Bool) :
    ((d.setRegs (Reg.LCS_OWNER_HASH 0) ws).setBit Reg.LCS_STATE 8 b).cmd = d.cmd ∧
    ((d.setRegs (Reg.LCS_OWNER_HASH 0) ws).setBit Reg.LCS_STATE 8 b).lcState = d.lcState ∧
    ((d.setRegs (Reg.LCS_OWNER_HASH 0) ws).setBit Reg.LCS_STATE 8 b).fld Reg.LCS_STATE 0 8 = d.fld Reg.LCS_STATE 0 8 := by
  obtain ⟨rf, hrest⟩ := d.setRegs_rest (Reg.LCS_OWNER_HASH 0) ws
  have hreg : (d.setRegs (Reg.LCS_OWNER_HASH 0) ws).reg Reg.LCS_STATE = d.reg Reg.LCS_STATE :=
    Dev.reg_setRegs_apart ws d _ fun i _ => by unfold Reg.LCS_STATE Reg.LCS_OWNER_HASH; omega
  have hcmd : (d.setRegs (Reg.LCS_OWNER_HASH 0) ws).cmd = d.cmd := by rw [hrest]
  refine ⟨hcmd, ?_, ?_⟩
  · exact (Dev.fld_setBit_other _ _ _ (by decide) (by decide)).trans (congrArg (Word.fld · 28 4) hreg)
  · exact (Dev.fld_setBit_other _ _ _ (by decide) (by decide)).trans (congrArg (Word.fld · 0 8) hreg)

theorem Dev.ownerSet_keeps (d : Dev) (c : Cmd) : (d.ownerSet c).cmd = d.cmd ∧ (d.ownerSet c).lcState = d.lcState ∧
    (d.ownerSet c).fld Reg.LCS_STATE 0 8 = d.fld Reg.LCS_STATE 0 8 := by
  unfold Dev.ownerSet
  split
  · exact d.ownerHash_keeps _ _
  · split
    · exact d.ownerHash_keeps _ _
    · exact ⟨rfl, rfl, rfl⟩

/-- The state that a transition writes and the grants it clears (R506, R507). -/
def Dev.stateSet (d : Dev) (t : Nat) : Dev :=
  ((d.setFld Reg.LCS_STATE 0 8 0).setFld Reg.LCS_STATE 28 4 t).setBit Reg.LCS_VIOLATION 3 false

theorem Dev.stateSet_shows (d : Dev) {t : Nat} (ht : t < 16) : (d.stateSet t).cmd = d.cmd ∧ (d.stateSet t).lcState = t ∧
    (d.stateSet t).fld Reg.LCS_STATE 0 8 = 0 := by
  have hreg : (d.stateSet t).reg Reg.LCS_STATE = ((d.setFld Reg.LCS_STATE 0 8 0).setFld Reg.LCS_STATE 28 4 t).reg Reg.LCS_STATE :=
    Dev.reg_setReg_other _ _ (by decide)
  refine ⟨rfl, ?_, ?_⟩
  · exact (congrArg (Word.fld · 28 4) hreg).trans ((Dev.fld_setFld_same _ _ _ _ _ (by decide)).trans (Nat.mod_eq_of_lt ht))
  · exact (congrArg (Word.fld · 0 8) hreg).trans ((Dev.fld_setFld_other _ _ _ (by decide) (by decide)).trans (Dev.fld_setFld_same _ _ _ _ _ (by decide)))

/-- The life cycle's own record after a transition (R507, R508). -/
def Dev.copiesSet (d : Dev) (t : Nat) : Dev :=
  { d with lcs := { d.lcs with copies := [t, t, t], resetDue := true, identity := d.lcs.identity && decide (t ≠ 5) } }

theorem Dev.transition_eq (d : Dev) (c : Cmd) :
    d.transition c = ((d.zeroiseAll.stateSet (c.pf 0 24 4)).ownerSet c).copiesSet (c.pf 0 24 4) := rfl

theorem Dev.transition_shows (d : Dev) (c : Cmd) : (d.transition c).cmd = d.cmd ∧
    (d.transition c).lcs.copies = [c.pf 0 24 4, c.pf 0 24 4, c.pf 0 24 4] ∧ (d.transition c).lcs.resetDue = true ∧
    (d.transition c).lcState = c.pf 0 24 4 ∧ (d.transition c).fld Reg.LCS_STATE 0 8 = 0 := by
  have hz := d.cmd_zeroiseAll
  rw [Dev.transition_eq]
  generalize d.zeroiseAll = z at hz ⊢
  obtain ⟨hcmd, hstate, hgrants⟩ := z.stateSet_shows (Word.fld_lt (c.p 0) 24 4)
  obtain ⟨hocmd, hostate, hogrants⟩ := (z.stateSet (c.pf 0 24 4)).ownerSet_keeps c
  generalize (z.stateSet (c.pf 0 24 4)).ownerSet c = y at hocmd hostate hogrants ⊢
  exact ⟨hocmd.trans (hcmd.trans hz), rfl, rfl, hostate.trans hstate, hogrants.trans hgrants⟩

section
variable {s : State} {m : Fin 16} {tag : Fin 4096} {gen : Fin 16} {c : Cmd}

/-! ## The opcodes (R505 to R510) -/

theorem exec_lcStatus (hr : s.dev.running = true) (hs : s.dev.started m.val tag.val gen.val 0x0A00 c) :
    exec (.lcStatus m tag gen) s = .next { s with dev := (s.dev.finish m.val tag.val gen.val (Res.ok [s.dev.reg Reg.LCS_STATE,
      wd (markBits ((List.range 6).map (fun t => decide (signersOf s.dev.fromState t ≠ 0))))])) } := opStep_ok hr hs rfl

section
variable (hr : s.dev.running = true) (hs : s.dev.started m.val tag.val gen.val 0x0A01 c)
include hr hs

theorem exec_lcTransition_refused (ha : s.dev.authorised c = false) :
    ∃ u, exec (.lcTransition m tag gen) s = .next u ∧ u.dev.finished m.val tag.val gen.val stLifecycle [] ∧
      u.dev.reg Reg.LCS_AUTH_FAILS = Word.satAdd (s.dev.reg Reg.LCS_AUTH_FAILS) 1 ∧ u.dev.bit Reg.LCS_EVT_STATUS 1 = true ∧
      u.dev.lcState = s.dev.lcState ∧ u.dev.lcs.copies = s.dev.lcs.copies := by
  have hrun : runLcTransition c s.dev = (s.dev.freshNonce.authRefused, some (Res.st stLifecycle)) := by
    simp only [runLcTransition, ha]
    simp
  obtain ⟨hncmd, hnlcs, hnregs⟩ := s.dev.freshNonce_shows
  obtain ⟨hfails, hevt, hstate, hlcs, hcmds⟩ := s.dev.freshNonce.authRefused_shows
  have hc : s.dev.freshNonce.authRefused.cmd? m.val tag.val gen.val = some c := by
    rw [Dev.cmd?_congr (hcmds.trans (congrArg (·.cmds) hncmd))]
    exact hs.1
  refine ⟨_, opStep_ok hr hs hrun, Dev.finished_finish hc stLifecycle [], ?_, hevt, ?_, ?_⟩
  · exact hfails.trans (congrArg (Word.satAdd · 1) (hnregs _ (by decide)))
  · exact hstate.trans s.dev.lcState_freshNonce
  · exact congrArg Lcs.copies (hlcs.trans hnlcs)

variable (ha : s.dev.authorised c = true) (hv : s.dev.bit Reg.LCS_VIOLATION 1 = false)
include ha hv

theorem exec_lcTransition_moves (hm : c.pf 0 28 4 = 1) : ∃ u, exec (.lcTransition m tag gen) s = .next u ∧
    u.dev.finished m.val tag.val gen.val stOK [] ∧ u.dev.lcs.copies = [c.pf 0 24 4, c.pf 0 24 4, c.pf 0 24 4] ∧
    u.dev.lcs.resetDue = true ∧ u.dev.lcState = c.pf 0 24 4 ∧ u.dev.fld Reg.LCS_STATE 0 8 = 0 := by
  have hrun : runLcTransition c s.dev = (s.dev.freshNonce.transition c, some (Res.ok [])) := by
    simp only [runLcTransition, ha, hv]
    rw [if_neg (by decide), if_pos hm]
  obtain ⟨hncmd, -, -⟩ := s.dev.freshNonce_shows
  obtain ⟨hcmd, hcopies, hdue, hstate, hgrants⟩ := s.dev.freshNonce.transition_shows c
  have hc : (s.dev.freshNonce.transition c).cmd? m.val tag.val gen.val = some c := by
    rw [Dev.cmd?, hcmd, hncmd]
    exact hs.1
  exact ⟨_, opStep_ok hr hs hrun, Dev.finished_finish hc stOK [], hcopies, hdue, hstate, hgrants⟩

theorem exec_lcTransition_grants (hm : c.pf 0 28 4 ≠ 1) : ∃ u, exec (.lcTransition m tag gen) s = .next u ∧
    u.dev.finished m.val tag.val gen.val stOK [] ∧
    u.dev.fld Reg.LCS_STATE 0 8 = s.dev.fld Reg.LCS_STATE 0 8 ||| c.pf 0 0 8 ∧ u.dev.bit Reg.LCS_EVT_STATUS 2 = true ∧
    u.dev.lcState = s.dev.lcState := by
  have hrun : runLcTransition c s.dev = ((s.dev.freshNonce.setFld Reg.LCS_STATE 0 8
      (s.dev.freshNonce.fld Reg.LCS_STATE 0 8 ||| c.pf 0 0 8)).sqSet Reg.LCS_EVT_STATUS [2], some (Res.ok [])) := by
    simp only [runLcTransition, ha, hv]
    rw [if_neg (by decide), if_neg hm]
  obtain ⟨hncmd, -, hnregs⟩ := s.dev.freshNonce_shows
  have hold : s.dev.freshNonce.fld Reg.LCS_STATE 0 8 = s.dev.fld Reg.LCS_STATE 0 8 := congrArg (Word.fld · 0 8) (hnregs _ (by decide))
  have hc : s.dev.freshNonce.cmd? m.val tag.val gen.val = some c := by
    rw [Dev.cmd?, hncmd]
    exact hs.1
  rw [hold] at hrun
  have hlt : (s.dev.fld Reg.LCS_STATE 0 8 ||| c.pf 0 0 8) < 2 ^ 8 := Nat.or_lt_two_pow (Word.fld_lt ..) (Word.fld_lt ..)
  refine ⟨_, opStep_ok hr hs hrun, Dev.finished_finish (c := c) hc stOK [], ?_, Dev.bit_sqSet_mem _ _ (by decide) (by decide), ?_⟩
  · exact (Dev.fld_setReg_other _ _ _ _ (by decide)).trans ((Dev.fld_setFld_same _ _ _ _ _ (by decide)).trans (Nat.mod_eq_of_lt hlt))
  · exact (Dev.fld_setReg_other _ _ _ _ (by decide)).trans ((Dev.fld_setFld_other _ _ _ (by decide) (by decide)).trans s.dev.lcState_freshNonce)

end

/-! ## The reset that follows, the latch (R507, R513) -/

theorem exec_lcTransitionReset_idle (_ : s.dev.running = true) (h : s.dev.lcs.resetDue = false) : exec .lcTransitionReset s = .next s := by
  refine act_same ?_
  rw [h]
  rfl

theorem Dev.copies_deviceReset (d : Dev) : d.deviceReset.lcs.copies = d.lcs.copies := by
  obtain ⟨rf, h⟩ := d.deviceReset_rfOnly
  rw [h]
  rfl

theorem exec_lcTransitionReset (hr : s.dev.running = true) (h : s.dev.lcs.resetDue = true) : ∃ u, exec .lcTransitionReset s = .next u ∧
    u.dev.stage? = 0 ∧ u.dev.cmd = Dev.reset.cmd ∧ u.dev.lcs.copies = s.dev.lcs.copies := by
  have hrow : exec .lcTransitionReset s = .next { s with dev := s.dev.deviceReset } := by
    refine (act_run hr).trans ?_
    rw [if_pos h]
  obtain ⟨hcmd, -, -⟩ := s.dev.deviceReset_blocks
  exact ⟨_, hrow, s.dev.stage_deviceReset, hcmd, s.dev.copies_deviceReset⟩

theorem exec_lifecycleLatch_dark (h : s.dev.pins.pgLow.contains 0 = true) : exec .lifecycleLatch s = .next s :=
  congrArg Host.Outcome.next (State.onDev_same (if_pos h))

theorem exec_lifecycleLatch (h : s.dev.pins.pgLow.contains 0 = false) : exec .lifecycleLatch s =
    .next { s with dev := { s.dev with lcs := { s.dev.lcs with latch := some s.dev.lcs.vote.1 } } } :=
  onDev_row (if_neg (Bool.eq_false_iff.mp h))

/-! ## JTAG (R511) -/

theorem exec_jtagInstruction_denied (j : Jtag) (h : s.dev.jtagOpen j = false) :
    exec (.jtagInstruction j) s = .next { s with dev := s.dev.count Reg.LCS_DENIED_JTAG 1 } :=
  onDev_row (if_pos (by rw [h]; rfl))

theorem exec_jtagInstruction_idcode : ∃ u w, exec (.jtagInstruction .idcode) s = .next u ∧ u.dev.out = .jtag w :: s.dev.out ∧
    u.dev.rf = s.dev.rf := ⟨_, Config.freeWord s.dev.freeCtr, rfl, rfl, rfl⟩

theorem exec_jtagInstruction_dbgPacket (ws : List Word) (hr : s.dev.running = true) (h : s.dev.jtagOpen (.dbgPacket ws) = true) :
    exec (.jtagInstruction (.dbgPacket ws)) s = .next { s with dev := s.dev.putPacket 5 0 ws } :=
  onDev_row ((if_neg (by rw [h]; decide)).trans (if_pos hr))

/-! ## MCTP control (R488, R498, R499) -/

theorem exec_mctpControlMessage_held (req : List Byte) (h : s.dev.pins.rstLow = true) : exec (.mctpControlMessage req) s = .next s :=
  congrArg Host.Outcome.next (State.onDev_same (if_pos h))

theorem exec_mctpControlMessage (req : List Byte) (h : s.dev.pins.rstLow = false) (h0 : byteAt req 0 % 128 = 0) :
    ∃ u bs, exec (.mctpControlMessage req) s = .next u ∧ u.dev.rf = s.dev.rf ∧
      u.dev.out = .sideband 0 ([0, BitVec.ofNat 8 (byteAt req 1 % 128), BitVec.ofNat 8 (byteAt req 2)] ++ bs) :: s.dev.out :=
  ⟨_, _, onDev_row ((if_neg (Bool.eq_false_iff.mp h)).trans (if_pos h0)), rfl, rfl⟩

theorem exec_mctpControlMessage_other (req : List Byte) (h : s.dev.pins.rstLow = false) (h0 : byteAt req 0 % 128 ≠ 0)
    (hh : s.dev.halted = false) (hb : s.dev.bit Reg.GLB_BOOT 27 = false) : exec (.mctpControlMessage req) s = .next s := by
  refine congrArg Host.Outcome.next (State.onDev_same ?_)
  exact (if_neg (Bool.eq_false_iff.mp h)).trans ((if_neg h0).trans (if_neg (by rw [hh, hb]; decide)))

end

/-- Settles O50: each row's effect on the device as its definition has it, clause by clause. -/
theorem lifeCycleAndAccess : Obligations.LifeCycleAndAccess := by
  unfold Obligations.LifeCycleAndAccess
  intro s m tag gen c
  exact ⟨exec_lcStatus, exec_lcTransition_refused, fun hr hs ha hv => ⟨exec_lcTransition_moves hr hs ha hv, exec_lcTransition_grants hr hs ha hv⟩,
    exec_lcTransitionReset_idle, exec_lcTransitionReset, exec_lifecycleLatch_dark, exec_lifecycleLatch, exec_jtagInstruction_denied, rfl,
    exec_jtagInstruction_idcode, exec_jtagInstruction_dbgPacket, exec_mctpControlMessage_held, exec_mctpControlMessage,
    exec_mctpControlMessage_other⟩

end Sys2Proof.Machine
end


section
/-! PROOFS. Flash banks, staged firmware, activations armed, confirmation and status (O51). -/

namespace Sys2Proof.Machine

/-! ## Banks (R519, R520) -/

theorem Dev.bank_congr {d u : Dev} (h : u.upd.banks = d.upd.banks) (b : Nat) : u.bank b = d.bank b := by
  unfold Dev.bank
  rw [h]

theorem Dev.bank_setBank (d : Dev) (b : Nat) (k : Bank) : (d.setBank b k).bank b = k :=
  (Map.getD_put_any ..).trans (if_pos rfl)

theorem Dev.state_setBankState (d : Dev) (b st : Nat) : ((d.setBankState b st).bank b).state = st :=
  congrArg Bank.state (Dev.bank_setBank ..)

theorem Dev.reg_setBank_other (d : Dev) (b : Nat) (k : Bank) {j : Nat} (h : j ≠ Reg.UPD_BANKS) : (d.setBank b k).reg j = d.reg j :=
  Dev.reg_setReg_other _ _ h

theorem Dev.inForce_lt (d : Dev) : d.inForce < 2 := Word.fld_lt _ _ _

theorem Dev.inactive_lt (d : Dev) : d.inactive < 2 := by
  unfold Dev.inactive
  omega

theorem Dev.inForce_setBank (d : Dev) {b : Nat} (hb : b < 2) (k : Bank) : (d.setBank b k).inForce = d.inForce :=
  Dev.fld_setFld_other _ _ _ (by decide) (by omega)

/-- A bank that runs: of the device its registers and the board's record alone. -/
theorem Dev.runBank_rest (d : Dev) (b : Nat) : ∃ rf bd, d.runBank b = { d with rf := rf, upd := { d.upd with board := bd } } := by
  unfold Dev.runBank
  dsimp only
  split <;> split <;> exact ⟨_, _, rfl⟩

theorem Dev.rf_runBank (d : Dev) (b : Nat) : (d.runBank b).rf =
    (if (d.bank b).shipped then (d.setInForce b).setBit Reg.GLB_BOOT 26 (decide (b = 1))
      else ((d.setInForce b).setBit Reg.GLB_BOOT 26 (decide (b = 1))).setReg Reg.UPD_RELEASE (d.bank b).release).rf := by
  unfold Dev.runBank
  dsimp only
  split <;> rfl

/-- A bank that runs is the bank in force. -/
theorem Dev.runBank_shows (d : Dev) {b : Nat} (hb : b < 2) : (d.runBank b).inForce = b ∧
    d.sameRegsBut (d.runBank b) [Reg.UPD_BANKS, Reg.GLB_BOOT, Reg.UPD_RELEASE] := by
  have hforce : ((d.setInForce b).setBit Reg.GLB_BOOT 26 (decide (b = 1))).inForce = b :=
    (Dev.fld_setReg_other _ _ _ _ (by decide)).trans ((Dev.fld_setFld_same _ _ _ _ _ (by decide)).trans (Nat.mod_eq_of_lt hb))
  have hkept : d.sameRegsBut ((d.setInForce b).setBit Reg.GLB_BOOT 26 (decide (b = 1))) [Reg.UPD_BANKS, Reg.GLB_BOOT, Reg.UPD_RELEASE] :=
    ((Dev.sameRegsBut.refl d _).setReg (by simp)).setReg (by simp)
  have hregs (k : Nat) := Dev.reg_congr (d.rf_runBank b) k
  generalize (d.setInForce b).setBit Reg.GLB_BOOT 26 (decide (b = 1)) = x at hforce hkept hregs
  constructor
  · refine (congrArg (Word.fld · 8 1) (hregs Reg.UPD_BANKS)).trans ?_
    split
    · exact hforce
    · exact (Dev.fld_setReg_other _ _ _ _ (by decide)).trans hforce
  · intro k hk
    refine (hregs k).trans ?_
    split
    · exact hkept k hk
    · exact (Dev.reg_setReg_other _ _ (by
        intro h
        exact hk (by simp [h]))).trans (hkept k hk)

/-! ## The activation's state (R523 to R525) -/

theorem Dev.updState_setUpd (d : Dev) {n : Nat} (h : n < 16) : (d.setUpd n).updState = n :=
  (Dev.fld_setFld_same _ _ _ _ _ (by decide)).trans (Nat.mod_eq_of_lt h)

theorem Dev.reg_setUpd_other (d : Dev) (n : Nat) {k : Nat} (h : k ≠ Reg.UPD_STATE) : (d.setUpd n).reg k = d.reg k :=
  Dev.reg_setReg_other _ _ h

/-- Messages told change the paths and their frames alone. -/
theorem Dev.tellAll_rest (ids : List Nat) (kind : Nat) (ws : List Word) (d : Dev) :
    ∃ p t, d.tellAll ids kind ws = { d with prs := p, trl := t } := by
  induction ids generalizing d with
  | nil => exact ⟨d.prs, d.trl, rfl⟩
  | cons id ids ih =>
    obtain ⟨p, t, h⟩ := ih (d.tell id kind ws)
    refine ⟨p, t, h.trans ?_⟩
    rw [Dev.tell, Dev.trlSend_rest]

/-- A device whose members have been told, and that is ARMED. -/
theorem Dev.armed_shows (d : Dev) (ids : List Nat) (kind : Nat) (ws : List Word) (a : Activation) :
    (((d.tellAll ids kind ws).setUpd 4).setAct (some a)).updState = 4 ∧
    (((d.tellAll ids kind ws).setUpd 4).setAct (some a)).upd = { d.upd with act := some a } ∧
    d.sameRegsBut (((d.tellAll ids kind ws).setUpd 4).setAct (some a)) [Reg.UPD_STATE] := by
  obtain ⟨p, t, h⟩ := d.tellAll_rest ids kind ws
  rw [h]
  exact ⟨Dev.updState_setUpd _ (by decide), rfl, fun k hk => Dev.reg_setUpd_other _ _ (by simpa using hk)⟩

/-- COMMIT sent: the device is ARMED (R525). -/
theorem Dev.actCommit_shows (d : Dev) (a : Activation) : (d.actCommit a).updState = 4 ∧
    (d.actCommit a).upd = { d.upd with act := some { a with committed := true } } ∧ d.sameRegsBut (d.actCommit a) [Reg.UPD_STATE] := by
  rcases hc : a.cmd with _ | ⟨m, t, g⟩
  · simp only [Dev.actCommit, hc]
    exact Dev.armed_shows d _ _ _ _
  · simp only [Dev.actCommit, hc]
    exact Dev.armed_shows (d.setCmd m t g fun c => { c with strobed := true }) _ _ _ _

/-- An activation of one device alone is armed at once (R522, R525). -/
theorem Dev.schedule_alone (d : Dev) {a : Activation} (h : a.members = []) : (d.schedule a).updState = 4 ∧
    (d.schedule a).upd = { d.upd with act := some { a with members := [⟨d.selfId, true, none, false⟩], committed := true } } ∧
    (d.schedule a).reg Reg.UPD_TOKEN = wd a.token := by
  have heq : d.schedule a = ((d.setUpd 3).setN Reg.UPD_TOKEN a.token).actCommit { a with members := [⟨d.selfId, true, none, false⟩] } := by
    unfold Dev.schedule
    dsimp only
    rw [if_pos h, h]
  obtain ⟨hstate, hupd, hregs⟩ := ((d.setUpd 3).setN Reg.UPD_TOKEN a.token).actCommit_shows { a with members := [⟨d.selfId, true, none, false⟩] }
  rw [heq]
  exact ⟨hstate, hupd, (hregs _ (by decide)).trans (Dev.reg_setReg_same ..)⟩

/-- Nothing but the instant's message holds a device back that is READY: it is IDLE. -/
theorem Dev.idle_of_ready {d : Dev} {set : Option Nat} {room fits : Bool} (h : d.actRefuse set room fits = none) : d.updState = 0 := by
  unfold Dev.actRefuse at h
  by_contra hn
  split at h
  · cases h
  · rw [if_pos (.inl hn)] at h
    cases h

/-- A revert out of TRIAL or KEPT: the other bank is in force again (R528). -/
theorem Dev.startRevert_shows {d : Dev} (h : d.updState = 6 ∨ d.updState = 7) : d.startRevert.updState = 8 ∧
    d.startRevert.inForce = d.inactive ∧ d.startRevert.cmd = d.cmd := by
  have heq : d.startRevert = (((d.setBankState d.inForce 2).runBank d.inactive).setUpd 8).setPhase 2 := by
    unfold Dev.startRevert
    rcases h with h | h
    · simp only [h]
    · simp only [h]
  have hcmd : (d.setBankState d.inForce 2).cmd = d.cmd := rfl
  rw [heq]
  generalize d.setBankState d.inForce 2 = x at hcmd ⊢
  obtain ⟨hforce, -⟩ := x.runBank_shows d.inactive_lt
  obtain ⟨rf, bd, hrest⟩ := x.runBank_rest d.inactive
  have hxcmd : (x.runBank d.inactive).cmd = d.cmd := by
    rw [hrest]
    exact hcmd
  generalize x.runBank d.inactive = y at hforce hxcmd ⊢
  exact ⟨Dev.updState_setUpd _ (by decide), (Dev.fld_setReg_other y _ _ _ (by decide)).trans hforce, hxcmd⟩

/-- The copies of the other formats are dropped (R529). -/
def Dev.copiesDone (d : Dev) : Dev := { d with upd := { d.upd with copies := false } }

section
variable {s : State} {m : Fin 16} {tag : Fin 4096} {gen : Fin 16} {c : Cmd} (hr : s.dev.running = true)
include hr

/-! ## UPDATE_STAGE (R521) -/

section
variable (hs : s.dev.started m.val tag.val gen.val 0x0A02 c)
include hs

theorem exec_updateStage_armed (h : s.dev.updState ≠ 0) :
    exec (.updateStage m tag gen) s = .next { s with dev := s.dev.finish m.val tag.val gen.val (Res.st stBusy) } := by
  refine opStep_ok hr hs ?_
  simp only [runUpdateStage, Dev.stageChunk]
  rw [if_pos h]

theorem exec_updateStage_erasing (h0 : s.dev.updState = 0) (hm : c.pf 0 31 1 = 0) (he : s.dev.upd.erasing = true) :
    exec (.updateStage m tag gen) s = .next { s with dev := s.dev.finish m.val tag.val gen.val (Res.st stBusy) } := by
  refine opStep_ok hr hs ?_
  simp only [runUpdateStage, Dev.stageChunk, hm]
  rw [if_neg (by rw [h0]; decide), if_neg (by simp), if_pos he]

end

omit hr in
/-- The first chunk of a manifest: the inactive bank starts afresh (R521). -/
theorem Dev.stageChunk_first {d : Dev} (h0 : d.updState = 0) (ws : List Word) : ∃ u, d.stageChunk true false 0 ws = (stOK, u) ∧
    u.bank d.inactive = (⟨1, [], []⟩ : Bank).write 0 ws ∧ u.upd.erasing = true ∧ u.cmd = d.cmd ∧ u.fld Reg.UPD_STATE 0 16 = 0 ∧
    u.out = .flash d.inactive 0 ws :: d.out := by
  have hbank := Dev.bank_setBank { d with upd := { d.upd with erasing := true } } d.inactive ((⟨1, [], []⟩ : Bank).write 0 ws)
  have hrun : d.stageChunk true false 0 ws = (stOK, ((({ d with upd := { d.upd with erasing := true } } : Dev).setBank d.inactive
      ((⟨1, [], []⟩ : Bank).write 0 ws)).emit (.flash d.inactive 0 ws)).setFld Reg.UPD_STATE 0 16 0) := by
    unfold Dev.stageChunk
    dsimp only
    rw [if_neg (by rw [h0]; decide), if_pos (show (true && decide (0 = 0)) = true from rfl)]
    rfl
  exact ⟨_, hrun, hbank, rfl, rfl, Dev.fld_setFld_same _ _ _ _ _ (by decide), rfl⟩

theorem exec_updateStage_first (hs : s.dev.started m.val tag.val gen.val 0x0A02 c) (h0 : s.dev.updState = 0) (hm : c.pf 0 31 1 = 1)
    (hl : c.pf 0 30 1 = 0) (hoff : c.p 1 = 0) : ∃ u, exec (.updateStage m tag gen) s = .next u ∧
      u.dev.bank s.dev.inactive = (⟨1, [], []⟩ : Bank).write 0 (c.params.drop 2) ∧ u.dev.upd.erasing = true ∧
      u.dev.finished m.val tag.val gen.val stOK [] ∧ u.dev.fld Reg.UPD_STATE 0 16 = 0 := by
  obtain ⟨x, hx, hbank, herase, hcmd, hfld, -⟩ := Dev.stageChunk_first h0 (c.params.drop 2)
  have hrun : runUpdateStage c s.dev = (x, some (Res.st stOK)) := by
    have hx' : s.dev.stageChunk (decide (c.pf 0 31 1 = 1)) (decide (c.pf 0 30 1 = 1)) (c.p 1).toNat (c.params.drop 2) = (stOK, x) := by
      rw [hm, hl, hoff]
      exact hx
    simp only [runUpdateStage, hx']
  have hc : x.cmd? m.val tag.val gen.val = some c := by
    rw [Dev.cmd?, hcmd]
    exact hs.1
  exact ⟨_, opStep_ok hr hs hrun, hbank, herase, Dev.finished_finish hc stOK [], hfld⟩

omit hr in
theorem exec_bankEraseDone_idle (h : s.dev.upd.erasing = false) : exec .bankEraseDone s = .next s := by
  refine act_same ?_
  rw [h]
  rfl

theorem exec_bankEraseDone (h : s.dev.upd.erasing = true) : ∃ u, exec .bankEraseDone s = .next u ∧ u.dev.upd.erasing = false ∧
    u.dev.fld Reg.UPD_STATE 0 16 = 1024 ∧ s.dev.sameRegsBut u.dev [Reg.UPD_STATE] := by
  have hrow : exec .bankEraseDone s = .next { s with dev :=
      (({ s.dev with upd := { s.dev.upd with erasing := false } } : Dev).setFld Reg.UPD_STATE 0 16 1024) } := by
    refine (act_run hr).trans ?_
    rw [if_pos h]
  exact ⟨_, hrow, rfl, Dev.fld_setFld_same _ _ _ _ _ (by decide), fun k hk => Dev.reg_setReg_other _ _ (by simpa using hk)⟩

/-! ## UPDATE_SCHEDULE (R522, R525) -/

section
variable (room fits : Bool) (hs : s.dev.started m.val tag.val gen.val 0x0A03 c)
include hs

theorem exec_updateSchedule_bad (hb : updateScheduleBad c s.dev = true) : ∃ u, exec (.updateSchedule m tag gen room fits) s = .next u ∧
    u.dev.finished m.val tag.val gen.val stBadParam [] ∧ u.dev.upd = s.dev.upd ∧ s.dev.sameRegsBut u.dev [] := by
  have hrun : runUpdateSchedule room fits c s.dev = (s.dev.freeNat.2, some (Res.st stBadParam)) := by
    simp only [runUpdateSchedule]
    exact if_pos hb
  exact ⟨_, opStep_ok hr hs hrun, Dev.finished_finish (c := c) hs.1 stBadParam [], rfl, fun _ _ => rfl⟩

theorem exec_updateSchedule_alone (hb : updateScheduleBad c s.dev = false) (hready : s.dev.actRefuse none room fits = none)
    (hn : c.pf 4 0 10 = 0) (hsync : c.pf 0 31 1 = 0) (htok : c.p 3 ≠ 0) :
    ∃ u, exec (.updateSchedule m tag gen room fits) s = .next u ∧ u.dev.updState = 4 ∧ u.dev.reg Reg.UPD_TOKEN = c.p 3 ∧
      u.dev.upd.act = some ⟨(c.p 3).toNat, none, some (c.master, c.tag, c.gen), some (cat64 (c.p 1) (c.p 2)),
        [⟨s.dev.selfId, true, none, false⟩], true, false⟩ := by
  have hmem : actMembers c = [] := by
    unfold actMembers
    rw [hn]
    rfl
  have hidle : ¬ s.dev.freeNat.2.updState ≠ 0 := fun h => h (Dev.idle_of_ready hready)
  have hb' : ¬ updateScheduleBad c s.dev.freeNat.2 = true := Bool.eq_false_iff.mp hb
  have hready' : s.dev.freeNat.2.actRefuse none room fits = none := hready
  have hrun : runUpdateSchedule room fits c s.dev = (s.dev.freeNat.2.schedule ⟨(c.p 3).toNat, none, some (c.master, c.tag, c.gen),
      some (cat64 (c.p 1) (c.p 2)), [], false, false⟩, none) := by
    simp only [runUpdateSchedule]
    rw [if_neg hb', if_neg hidle, hready', hmem]
    rw [if_neg htok, if_neg (show ¬ c.pf 0 31 1 = 1 by rw [hsync]; decide)]
    exact if_neg Bool.false_ne_true
  obtain ⟨hstate, hupd, htoken⟩ := s.dev.freeNat.2.schedule_alone (a := ⟨(c.p 3).toNat, none, some (c.master, c.tag, c.gen),
      some (cat64 (c.p 1) (c.p 2)), [], false, false⟩) rfl
  exact ⟨_, opStep_wait hr hs hrun, hstate, htoken.trans (by simp [wd]), congrArg Upd.act hupd⟩

end

/-! ## UPDATE_CONFIRM (R528) -/

section
variable (hs : s.dev.started m.val tag.val gen.val 0x0A04 c)
include hs

theorem exec_updateConfirm_bad (hb : updateConfirmBad c s.dev = true) :
    exec (.updateConfirm m tag gen) s = .next { s with dev := s.dev.finish m.val tag.val gen.val (Res.st stBadParam) } :=
  opStep_ok hr hs (if_pos hb)

omit hr hs in
theorem Dev.trial_of_confirmable {d : Dev} (hb : updateConfirmBad c d = false) : d.updState = 6 ∨ d.updState = 7 := by
  simp only [updateConfirmBad, decide_eq_false_iff_not, not_or] at hb
  omega

theorem exec_updateConfirm_revert (hb : updateConfirmBad c s.dev = false) (h1 : c.pf 1 0 1 = 1) :
    ∃ u, exec (.updateConfirm m tag gen) s = .next u ∧ u.dev.finished m.val tag.val gen.val stOK [] ∧ u.dev.updState = 8 ∧
      u.dev.inForce = s.dev.inactive := by
  have hrun : runUpdateConfirm c s.dev = (s.dev.startRevert, some (Res.ok [])) :=
    (if_neg (Bool.eq_false_iff.mp hb)).trans (if_pos h1)
  obtain ⟨hstate, hforce, hcmd⟩ := Dev.startRevert_shows (Dev.trial_of_confirmable hb)
  have hc : s.dev.startRevert.cmd? m.val tag.val gen.val = some c := by
    rw [Dev.cmd?, hcmd]
    exact hs.1
  exact ⟨_, opStep_ok hr hs hrun, Dev.finished_finish hc stOK [], hstate, hforce⟩

/-- The security version that a confirmed bank raises (R528). -/
def Dev.secverRaised (d : Dev) (b : Nat) : Dev :=
  if (d.bank b).shipped then d else d.setN Reg.UPD_SECVER (Nat.max (d.regN Reg.UPD_SECVER) (d.bank b).secver)

omit hr hs in
theorem Dev.secverRaised_keeps (d : Dev) (b : Nat) : (d.secverRaised b).upd = d.upd ∧ (d.secverRaised b).cmd = d.cmd ∧
    (d.secverRaised b).inForce = d.inForce := by
  unfold Dev.secverRaised
  split
  · exact ⟨rfl, rfl, rfl⟩
  · exact ⟨rfl, rfl, Dev.fld_setReg_other _ _ _ _ (by decide)⟩

theorem exec_updateConfirm_keep (hb : updateConfirmBad c s.dev = false) (h1 : c.pf 1 0 1 = 0) :
    ∃ u, exec (.updateConfirm m tag gen) s = .next u ∧ u.dev.finished m.val tag.val gen.val stOK [] ∧ u.dev.updState = 0 ∧
      (u.dev.bank s.dev.inForce).state = 5 ∧ u.dev.inForce = s.dev.inForce := by
  have hstate := s.dev.state_setBankState s.dev.inForce 5
  have hforce : (s.dev.setBankState s.dev.inForce 5).inForce = s.dev.inForce := Dev.inForce_setBank _ s.dev.inForce_lt _
  have hcmd : (s.dev.setBankState s.dev.inForce 5).cmd = s.dev.cmd := rfl
  obtain ⟨hrupd, hrcmd, hrforce⟩ := (s.dev.setBankState s.dev.inForce 5).secverRaised_keeps s.dev.inForce
  have hrun : runUpdateConfirm c s.dev =
      (((((s.dev.setBankState s.dev.inForce 5).secverRaised s.dev.inForce).setBit Reg.LCS_VIOLATION 2 false).setUpd 0).copiesDone,
        some (Res.ok [])) := (if_neg (Bool.eq_false_iff.mp hb)).trans (if_neg (by rw [h1]; decide))
  generalize s.dev.setBankState s.dev.inForce 5 = x at hstate hforce hcmd hrupd hrcmd hrforce hrun
  generalize x.secverRaised s.dev.inForce = y at hrupd hrcmd hrforce hrun
  have hc : y.cmd? m.val tag.val gen.val = some c := by
    rw [Dev.cmd?, hrcmd, hcmd]
    exact hs.1
  refine ⟨_, opStep_ok hr hs hrun, Dev.finished_finish (c := c) hc stOK [], Dev.updState_setUpd (y.setBit Reg.LCS_VIOLATION 2 false) (by decide), ?_, ?_⟩
  · exact (congrArg Bank.state (Dev.bank_congr (congrArg Upd.banks hrupd) _)).trans hstate
  · refine (Dev.fld_setReg_other (y.setBit Reg.LCS_VIOLATION 2 false) _ _ _ (by decide)).trans ?_
    exact (Dev.fld_setReg_other y _ _ _ (by decide)).trans (hrforce.trans hforce)

end

/-! ## Status and measurements (R518, R533) -/

theorem exec_updateStatus (hs : s.dev.started m.val tag.val gen.val 0x0A05 c) (he : s.dev.rf.expert = []) :
    exec (.updateStatus m tag gen) s = .next { s with dev := (s.dev.finish m.val tag.val gen.val (Res.ok
      ([s.dev.reg Reg.UPD_STATE, s.dev.reg Reg.UPD_TOKEN, s.dev.reg Reg.UPD_RESULT, s.dev.reg Reg.UPD_BANKS] ++
        s.dev.bankVersions 0 ++ s.dev.bankVersions 1 ++ s.dev.upd.check.map (fun i => wd (i.1 * 2 ^ 24 + i.2))))) } := by
  refine opStep_ok hr hs ?_
  simp only [runUpdateStatus, he, List.any_nil]
  rfl

theorem exec_attestMeasure_rom (hs : s.dev.started m.val tag.val gen.val 0x0A06 c) (h8 : c.p 8 = 2) :
    exec (.attestMeasure m tag gen) s = .next { s with dev := (s.dev.finish m.val tag.val gen.val (Res.ok
      (([1, 1] ++ wordsOf 12 (Config.sha384 Config.bootRom) ++ [s.dev.reg Reg.LCS_SERIAL_LO, s.dev.reg Reg.LCS_SERIAL_HI]) ++
        wordsOf 24 (Config.ecdsaSign (Config.sha384 (bytesOf (c.params.take 8) ++
          bytesOf ([1, 1] ++ wordsOf 12 (Config.sha384 Config.bootRom) ++ [s.dev.reg Reg.LCS_SERIAL_LO, s.dev.reg Reg.LCS_SERIAL_HI])))))) ) } := by
  have hgood : attestBad c s.dev = false := by
    unfold attestBad Cmd.pf
    rw [h8]
    decide
  have hone : [1, 2, 3, 4, 5, 6, 7].filter (fun i => (c.p 8).getLsbD i) = [1] := by
    rw [h8]
    decide
  have hw : wd 1 = 1 := rfl
  have hrom : s.dev.measure 1 = Config.sha384 Config.bootRom := rfl
  have hblock : [1].flatMap (fun i => wd i :: wordsOf 12 (s.dev.measure i)) = 1 :: wordsOf 12 (Config.sha384 Config.bootRom) := by
    rw [List.flatMap_cons, List.flatMap_nil, List.append_nil, hrom, hw]
  have hbody : [wd [1].length] ++ 1 :: wordsOf 12 (Config.sha384 Config.bootRom) ++ [s.dev.reg Reg.LCS_SERIAL_LO, s.dev.reg Reg.LCS_SERIAL_HI] =
      [1, 1] ++ wordsOf 12 (Config.sha384 Config.bootRom) ++ [s.dev.reg Reg.LCS_SERIAL_LO, s.dev.reg Reg.LCS_SERIAL_HI] := by
    rw [List.length_singleton, hw]
    simp only [List.cons_append, List.nil_append]
  refine opStep_ok hr hs ?_
  simp only [runAttestMeasure, hgood, hone, hblock, hbody]
  rw [if_neg Bool.false_ne_true]

end

/-- Settles O51: each row's effect on the device as its definition has it, clause by clause. -/
theorem updateOpcodes : Obligations.UpdateOpcodes := by
  unfold Obligations.UpdateOpcodes
  intro s m tag gen c hr
  refine ⟨fun hs => ⟨exec_updateStage_armed hr hs, exec_updateStage_first hr hs, exec_updateStage_erasing hr hs⟩,
    exec_bankEraseDone_idle, exec_bankEraseDone hr,
    fun room fits hs => ⟨exec_updateSchedule_bad hr room fits hs, exec_updateSchedule_alone hr room fits hs⟩,
    fun hs => ⟨exec_updateConfirm_bad hr hs, exec_updateConfirm_revert hr hs, exec_updateConfirm_keep hr hs⟩,
    exec_updateStatus hr, ?_⟩
  rintro _ hs h8 rfl
  exact exec_attestMeasure_rom hr hs h8

end Sys2Proof.Machine
end


section
/-! PROOFS. Activations across members and on one device (O52). -/

namespace Sys2Proof.Machine

/-! ## The activation a message names (R525) -/

theorem Dev.tell_rest (d : Dev) (id kind : Nat) (ws : List Word) : ∃ p t, d.tell id kind ws = { d with prs := p, trl := t } :=
  ⟨_, _, d.trlSend_rest id 1 kind (beWords ws)⟩

/-- Two devices whose activation, registers, commands and time are one. -/
structure Dev.SameCourse (d u : Dev) : Prop where
  rf : u.rf = d.rf
  upd : u.upd = d.upd
  cmd : u.cmd = d.cmd
  ptp : u.ptp = d.ptp

namespace Dev.SameCourse
variable {d u : Dev} (h : d.SameCourse u)
include h

theorem updState : u.updState = d.updState := congrArg (Word.fld · 28 4) (Dev.reg_congr h.rf _)

theorem inForce : u.inForce = d.inForce := congrArg (Word.fld · 8 1) (Dev.reg_congr h.rf _)

theorem ownAct (token : Nat) : u.ownAct token = d.ownAct token := by
  unfold Dev.ownAct
  rw [h.upd]

theorem memberAct (src token : Nat) : u.memberAct src token = d.memberAct src token := by
  unfold Dev.memberAct
  rw [h.upd]

theorem time : u.time = d.time := congrArg BitVec.toNat h.ptp

theorem cmd? (m tag gen : Nat) : u.cmd? m tag gen = d.cmd? m tag gen := by
  unfold Dev.cmd?
  rw [h.cmd]

end Dev.SameCourse

/-- A message taken leaves the activation's course. -/
theorem Dev.sameCourse_takeMsg {d t : Dev} {kind : Nat} {g : TrlMsg} (h : d.takeMsg kind = some (g, t)) : d.SameCourse t := by
  obtain rfl := Dev.takeMsg_eq h
  exact ⟨rfl, rfl, rfl, rfl⟩

theorem Dev.sameCourse_tellAll (d : Dev) (ids : List Nat) (kind : Nat) (ws : List Word) : d.SameCourse (d.tellAll ids kind ws) := by
  obtain ⟨p, t, h⟩ := d.tellAll_rest ids kind ws
  rw [h]
  exact ⟨rfl, rfl, rfl, rfl⟩

theorem Dev.act_of_ownAct {d : Dev} {token : Nat} {a : Activation} (h : d.ownAct token = some a) : d.upd.act = some a ∧ a.origin = none := by
  obtain ⟨hact, hp⟩ := Option.filter_eq_some_iff.mp h
  exact ⟨hact, (of_decide_eq_true hp).2⟩

theorem Dev.act_of_memberAct {d : Dev} {src token : Nat} {a : Activation} (h : d.memberAct src token = some a) :
    d.upd.act = some a ∧ a.origin = some src := by
  obtain ⟨hact, hp⟩ := Option.filter_eq_some_iff.mp h
  exact ⟨hact, (of_decide_eq_true hp).2⟩

/-- A member's activation is not the device's own. -/
theorem Dev.ownAct_of_memberAct {d : Dev} {src token : Nat} {a : Activation} (h : d.memberAct src token = some a) (n : Nat) : d.ownAct n = none := by
  obtain ⟨hact, horigin⟩ := Dev.act_of_memberAct h
  unfold Dev.ownAct
  rw [hact, Option.filter_eq_none_iff]
  simp [horigin]

theorem Dev.disarm_shows (d : Dev) : d.disarm.updState = 0 ∧ d.disarm.upd.act = none ∧ d.disarm.cmd = d.cmd :=
  ⟨Dev.updState_setUpd _ (by decide), rfl, rfl⟩

/-- The members of an activation once one of them is READY (R525). -/
def Activation.readied (a : Activation) (src : Nat) : Activation :=
  { a with members := a.members.map (fun x => if x.id = src then { x with ready := true } else x) }

theorem Activation.readied_all {a : Activation} {src : Nat} :
    (a.readied src).members.all (fun x => x.ready) = true ↔ ∀ x ∈ a.members, x.id ≠ src → x.ready = true := by
  simp only [Activation.readied, List.all_eq_true, List.mem_map, forall_exists_index, and_imp, forall_apply_eq_imp_iff₂]
  refine forall_congr' fun x => forall_congr' fun _ => ?_
  by_cases hx : x.id = src <;> simp [hx]

/-- The activation's instant (R524). -/
theorem Dev.actBegin_shows (d : Dev) : d.actBegin.updState = 5 ∧ d.actBegin.upd.phase = 0 ∧ d.actBegin.reg64 Reg.UPD_ACT_TIME_LO = d.time ∧
    d.sameRegsBut d.actBegin [Reg.UPD_STATE, Reg.UPD_ACT_TIME_LO, Reg.UPD_ACT_TIME_LO + 4] := by
  refine ⟨?_, rfl, Dev.reg64_set64 ((d.setUpd 5).setPhase 0) _ d.time_lt, ?_⟩
  · exact (Dev.fld_setReg_other _ _ _ _ (by decide)).trans ((Dev.fld_setReg_other _ _ _ _ (by decide)).trans (Dev.updState_setUpd d (by decide)))
  · exact ((((Dev.sameRegsBut.refl d _).setReg (by simp)).setReg (by simp)).setReg (by simp))

section
variable {s : State} {g : TrlMsg} {t : Dev} (hr : s.dev.running = true)
include hr

/-! ## Messages of an activation (R525, R526) -/

theorem exec_actPrepare_refused (ht : s.dev.takeMsg 0x50 = some (g, t)) {room fits : Bool} {r : Nat}
    (h : t.actRefuse (some (g.f 1 0 16)) room fits = some r) :
    exec (.actPrepare room fits) s = .next { s with dev := t.tell g.src 0x52 [g.w 0, wd r] } := by
  refine (msgStep_some hr ht).trans ?_
  dsimp only
  rw [h]

theorem exec_actPrepare_ready (ht : s.dev.takeMsg 0x50 = some (g, t)) {room fits : Bool}
    (h : t.actRefuse (some (g.f 1 0 16)) room fits = none) : ∃ u, exec (.actPrepare room fits) s = .next u ∧
      u.dev.updState = 3 ∧ u.dev.reg Reg.UPD_TOKEN = g.w 0 ∧ u.dev.upd.act = some ⟨(g.w 0).toNat, some g.src, none, none, [], false, false⟩ := by
  have hrow : exec (.actPrepare room fits) s = .next { s with dev := ((((t.setUpd 3).setReg Reg.UPD_TOKEN (g.w 0)).setAct
      (some ⟨(g.w 0).toNat, some g.src, none, none, [], false, false⟩)).tell g.src 0x51 [g.w 0]) } := by
    refine (msgStep_some hr ht).trans ?_
    dsimp only
    rw [h]
  obtain ⟨p, tr, htell⟩ := Dev.tell_rest (((t.setUpd 3).setReg Reg.UPD_TOKEN (g.w 0)).setAct
      (some ⟨(g.w 0).toNat, some g.src, none, none, [], false, false⟩)) g.src 0x51 [g.w 0]
  rw [htell] at hrow
  exact ⟨_, hrow, (Dev.fld_setReg_other _ _ _ _ (by decide)).trans (t.updState_setUpd (by decide)), Dev.reg_setReg_same .., rfl⟩

theorem exec_actReady (ht : s.dev.takeMsg 0x51 = some (g, t)) {a : Activation} (ho : s.dev.ownAct (g.w 0).toNat = some a)
    (hc : a.committed = false) : exec .actReady s = .next { s with dev :=
      (if (a.readied g.src).members.all (fun x => x.ready) then t.actCommit (a.readied g.src) else t.setAct (some (a.readied g.src))) } := by
  refine (msgStep_some hr ht).trans ?_
  dsimp only
  rw [(Dev.sameCourse_takeMsg ht).ownAct, ho]
  dsimp only
  rw [if_neg (Bool.eq_false_iff.mp hc)]
  rfl

theorem exec_actReady_waits (ht : s.dev.takeMsg 0x51 = some (g, t)) {a : Activation} (ho : s.dev.ownAct (g.w 0).toNat = some a)
    (hc : a.committed = false) (hx : ∃ x ∈ a.members, x.id ≠ g.src ∧ x.ready = false) : ∃ u, exec .actReady s = .next u ∧
      u.dev.rf = s.dev.rf ∧ u.dev.upd.act = some (a.readied g.src) := by
  have hrow := exec_actReady hr ht ho hc
  obtain ⟨x, hmem, hne, hnr⟩ := hx
  rw [if_neg fun h => absurd (Activation.readied_all.mp h x hmem hne) (by rw [hnr]; decide)] at hrow
  exact ⟨_, hrow, (Dev.sameCourse_takeMsg ht).rf, rfl⟩

theorem exec_actReady_commits (ht : s.dev.takeMsg 0x51 = some (g, t)) {a : Activation} (ho : s.dev.ownAct (g.w 0).toNat = some a)
    (hc : a.committed = false) (hx : ∀ x ∈ a.members, x.id ≠ g.src → x.ready = true) : ∃ u, exec .actReady s = .next u ∧
      u.dev.updState = 4 ∧ u.dev.upd.act = some { a.readied g.src with committed := true } := by
  have hrow := exec_actReady hr ht ho hc
  rw [if_pos (Activation.readied_all.mpr hx)] at hrow
  obtain ⟨hstate, hupd, -⟩ := t.actCommit_shows (a.readied g.src)
  exact ⟨_, hrow, hstate, congrArg Upd.act hupd⟩

omit hr in
theorem Dev.finished_actFinish {d : Dev} {a : Activation} {m tag gen : Nat} (ha : a.cmd = some (m, tag, gen)) (h : d.cmd? m tag gen ≠ none)
    (status : Nat) (ms : List (Nat × Nat)) : (d.actFinish a status ms).finished m tag gen status (actReply a.token ms) := by
  obtain ⟨c, hc⟩ := Option.ne_none_iff_exists'.mp h
  unfold Dev.actFinish
  rw [ha]
  exact Dev.finished_finish hc _ _

theorem exec_actRefuse (ht : s.dev.takeMsg 0x52 = some (g, t)) {a : Activation} (ho : s.dev.ownAct (g.w 0).toNat = some a)
    (hc : a.committed = false) : ∃ u, exec .actRefuse s = .next u ∧ u.dev.updState = 0 ∧ u.dev.upd.act = none ∧
      ∀ m tag gen, a.cmd = some (m, tag, gen) → s.dev.cmd? m tag gen ≠ none →
        u.dev.finished m tag gen stBadParam (actReply a.token [(g.src, g.f 1 0 16)]) := by
  have hrow : exec .actRefuse s = .next { s with dev :=
      (((t.tellAll (t.others a) 0x54 [g.w 0]).actFinish a stBadParam [(g.src, g.f 1 0 16)]).disarm) } := by
    refine (msgStep_some hr ht).trans ?_
    rw [(Dev.sameCourse_takeMsg ht).ownAct, ho]
    dsimp only
    rw [if_neg (Bool.eq_false_iff.mp hc)]
  have htold := t.sameCourse_tellAll (t.others a) 0x54 [g.w 0]
  generalize t.tellAll (t.others a) 0x54 [g.w 0] = x at hrow htold
  obtain ⟨hstate, hact, hcmd⟩ := (x.actFinish a stBadParam [(g.src, g.f 1 0 16)]).disarm_shows
  refine ⟨_, hrow, hstate, hact, fun m tag gen ha hk => ?_⟩
  have hk' : x.cmd? m tag gen ≠ none := by rw [htold.cmd?, (Dev.sameCourse_takeMsg ht).cmd?]; exact hk
  obtain ⟨c, hfind, hphase, hstatus, hreply⟩ := Dev.finished_actFinish ha hk' stBadParam [(g.src, g.f 1 0 16)]
  exact ⟨c, (Dev.cmd?_congr (congrArg (·.cmds) hcmd) m tag gen).trans hfind, hphase, hstatus, hreply⟩

section
variable (ht : s.dev.takeMsg 0x53 = some (g, t)) {a : Activation} (hm : s.dev.memberAct g.src (g.w 0).toNat = some a)
  (h3 : s.dev.updState = 3)
include ht hm h3

theorem exec_actCommit : exec .actCommit s = .next { s with dev :=
    (if cat64 (g.w 2) (g.w 1) < t.time then ((t.setUpd 4).setAct (some { a with at_ := some (cat64 (g.w 2) (g.w 1)), committed := true })).actLate
      else (t.setUpd 4).setAct (some { a with at_ := some (cat64 (g.w 2) (g.w 1)), committed := true })) } := by
  have hsame := Dev.sameCourse_takeMsg ht
  refine (msgStep_some hr ht).trans ?_
  dsimp only
  rw [hsame.memberAct, hm]
  dsimp only
  rw [if_neg (by rw [hsame.updState, h3]; decide)]
  rfl

theorem exec_actCommit_armed (htime : s.dev.time ≤ cat64 (g.w 2) (g.w 1)) : ∃ u, exec .actCommit s = .next u ∧ u.dev.updState = 4 ∧
    u.dev.upd.act = some { a with at_ := some (cat64 (g.w 2) (g.w 1)), committed := true } := by
  have hrow := exec_actCommit hr ht hm h3
  rw [(Dev.sameCourse_takeMsg ht).time, if_neg (Nat.not_lt.mpr htime)] at hrow
  exact ⟨_, hrow, t.updState_setUpd (by decide), rfl⟩

theorem exec_actCommit_late (htime : cat64 (g.w 2) (g.w 1) < s.dev.time) : ∃ u, exec .actCommit s = .next u ∧ u.dev.updState = 5 ∧
    u.dev.bit Reg.UPD_EVT_STATUS 3 = true ∧ u.dev.upd.phase = 0 := by
  have hrow := exec_actCommit hr ht hm h3
  rw [(Dev.sameCourse_takeMsg ht).time, if_pos htime] at hrow
  generalize (t.setUpd 4).setAct (some { a with at_ := some (cat64 (g.w 2) (g.w 1)), committed := true }) = x at hrow
  have hbit : (x.sqSet Reg.UPD_EVT_STATUS [3]).bit Reg.UPD_EVT_STATUS 3 = true := Dev.bit_sqSet_mem _ _ (by decide) (by decide)
  obtain ⟨hstate, hphase, -, hregs⟩ := (x.sqSet Reg.UPD_EVT_STATUS [3]).actBegin_shows
  exact ⟨_, hrow, hstate, (congrArg (Word.bit · 3) (hregs _ (by decide))).trans hbit, hphase⟩

end

theorem exec_actAbort_none (ht : s.dev.takeMsg 0x54 = some (g, t)) (hm : s.dev.memberAct g.src (g.w 0).toNat = none) :
    exec .actAbort s = .next { s with dev := t } := by
  refine (msgStep_some hr ht).trans ?_
  rw [(Dev.sameCourse_takeMsg ht).memberAct, hm]

theorem exec_actAbort (ht : s.dev.takeMsg 0x54 = some (g, t)) {a : Activation} (hm : s.dev.memberAct g.src (g.w 0).toNat = some a)
    (h : s.dev.updState = 3 ∨ s.dev.updState = 4) : ∃ u, exec .actAbort s = .next u ∧ u.dev.updState = 0 ∧ u.dev.upd.act = none := by
  have hsame := Dev.sameCourse_takeMsg ht
  have hrow : exec .actAbort s = .next { s with dev := t.disarm } := by
    refine (msgStep_some hr ht).trans ?_
    rw [hsame.memberAct, hm]
    dsimp only
    rw [if_pos (hsame.updState ▸ h)]
  obtain ⟨hstate, hact, -⟩ := t.disarm_shows
  exact ⟨_, hrow, hstate, hact⟩

section
variable (ht : s.dev.takeMsg 0x55 = some (g, t)) {a : Activation} (hm : s.dev.memberAct g.src (g.w 0).toNat = some a)
include ht hm

theorem exec_actResult : exec .actResult s = .next { s with dev := (if g.f 1 0 16 = 0x4000 then t.keep else t) } := by
  have hsame := Dev.sameCourse_takeMsg ht
  refine (msgStep_some hr ht).trans ?_
  dsimp only
  rw [hsame.ownAct, hsame.memberAct, hm, Dev.ownAct_of_memberAct hm]

theorem exec_actResult_other (h : g.f 1 0 16 ≠ 0x4000) : exec .actResult s = .next { s with dev := t } := by
  rw [exec_actResult hr ht hm, if_neg h]

theorem exec_actResult_keep (h : g.f 1 0 16 = 0x4000) (h6 : s.dev.updState = 6) : ∃ u, exec .actResult s = .next u ∧ u.dev.updState = 7 ∧
    (u.dev.bank s.dev.inForce).state = 4 := by
  have hsame := Dev.sameCourse_takeMsg ht
  have hrow := exec_actResult hr ht hm
  rw [if_pos h, Dev.keep, if_pos (hsame.updState.trans h6)] at hrow
  rw [← hsame.inForce]
  exact ⟨_, hrow, Dev.updState_setUpd _ (by decide), t.state_setBankState t.inForce 4⟩

end

omit hr in
theorem exec_actReadyExpiry_off (h : s.dev.updState ≠ 3) : exec .actReadyExpiry s = .next s := by
  refine act_same ?_
  split
  · exact if_neg fun h' => h h'.1
  · rfl

theorem exec_actReadyExpiry {a : Activation} (ha : s.dev.upd.act = some a) (ho : a.origin.isSome = true) (h : s.dev.updState = 3) :
    ∃ u, exec .actReadyExpiry s = .next u ∧ u.dev.updState = 0 ∧ u.dev.upd.act = none := by
  have hrow : exec .actReadyExpiry s = .next { s with dev := s.dev.disarm } := by
    refine (act_run hr).trans ?_
    rw [ha]
    dsimp only
    rw [if_pos ⟨h, ho⟩]
  obtain ⟨hstate, hact, -⟩ := s.dev.disarm_shows
  exact ⟨_, hrow, hstate, hact⟩

end

end Sys2Proof.Machine
end


section
/-! PROOFS. The course of an activation on one device: its instant, the drain, the check, the images loaded, the revert (O52). -/

namespace Sys2Proof.Machine

/-! ## The drain (R524) -/

/-- A record changed leaves the records of other masters, TAGs and GENs. -/
theorem Dev.cmd?_setCmd_other (d : Dev) {m tag gen m' tag' gen' : Nat} (f : Cmd → Cmd) (h : ¬ (m' = m ∧ tag' = tag ∧ gen' = gen))
    (hf : ∀ c, isCmd m' tag' gen' (f c) = isCmd m' tag' gen' c) : (d.setCmd m tag gen f).cmd? m' tag' gen' = d.cmd? m' tag' gen' := by
  simp only [Dev.cmd?, Dev.setCmd]
  generalize d.cmd.cmds = l
  induction l with
  | nil => rfl
  | cons x xs ih =>
    rw [List.map_cons, List.find?_cons, List.find?_cons, ih]
    by_cases hx : isCmd m tag gen x = true
    · obtain ⟨hm, ht, hg⟩ : x.master = m ∧ x.tag = tag ∧ x.gen = gen := of_decide_eq_true hx
      have hno : isCmd m' tag' gen' x = false := decide_eq_false fun ⟨h1, h2, h3⟩ => h ⟨by omega, by omega, by omega⟩
      rw [if_pos hx, hf, hno]
    · rw [if_neg hx]

theorem Dev.cmd?_finish_other (d : Dev) {m tag gen m' tag' gen' : Nat} (r : Res) (h : ¬ (m' = m ∧ tag' = tag ∧ gen' = gen)) :
    (d.finish m tag gen r).cmd? m' tag' gen' = d.cmd? m' tag' gen' := d.cmd?_setCmd_other _ h fun _ => rfl

/-- Commands ended one after the other with one status. -/
theorem Dev.finished_finishAll (cs : List Cmd) (d : Dev) (status : Nat) {c : Cmd} (hc : d.cmd? c.master c.tag c.gen ≠ none)
    (h : c ∈ cs ∨ d.finished c.master c.tag c.gen status []) :
    (cs.foldl (fun (d : Dev) c => d.finish c.master c.tag c.gen (Res.st status)) d).finished c.master c.tag c.gen status [] := by
  induction cs generalizing d with
  | nil => exact h.resolve_left List.not_mem_nil
  | cons a cs ih =>
    by_cases hk : c.master = a.master ∧ c.tag = a.tag ∧ c.gen = a.gen
    · obtain ⟨hm, ht, hg⟩ := hk
      obtain ⟨r, hr⟩ := Option.ne_none_iff_exists'.mp hc
      have hfin : (d.finish a.master a.tag a.gen (Res.st status)).finished c.master c.tag c.gen status [] := by
        rw [hm, ht, hg] at hr ⊢
        exact Dev.finished_finish hr status []
      obtain ⟨x, hx, -⟩ := id hfin
      exact ih _ (by rw [hx]; exact Option.some_ne_none _) (.inr hfin)
    · have hsame := d.cmd?_finish_other (Res.st status) hk
      refine ih _ (by rw [hsame]; exact hc) ?_
      rcases h with h | ⟨x, hx, hrest⟩
      · refine .inl ((List.mem_cons.mp h).resolve_left fun he => hk ?_)
        rw [he]
        exact ⟨rfl, rfl, rfl⟩
      · exact .inr ⟨x, hsame.trans hx, hrest⟩

theorem Dev.cmd?_of_mem {d : Dev} {c : Cmd} (h : c ∈ d.cmd.cmds) : d.cmd? c.master c.tag c.gen ≠ none := by
  intro hn
  exact absurd (List.find?_eq_none.mp hn c h) (by simp [isCmd])

/-! ## The check (R524, R526) -/

theorem Dev.bankCheck_le (d : Dev) (b : Nat) : (d.bankCheck b).1 ≤ 4 := by
  unfold Dev.bankCheck
  dsimp only
  split_ifs <;> simp

/-- The commands that the end of the drain answers BUSY. -/
def Dev.lateCmds (d : Dev) : List Cmd := d.cmd.cmds.filter (fun c => decide (c.phase = .started) && !c.strobed)

theorem Dev.report_unheld {d : Dev} (h : d.upd.act = none) (r : Nat) : d.report r = d.setFld Reg.UPD_RESULT 0 16 r := by
  have h' : (d.setFld Reg.UPD_RESULT 0 16 r).upd.act = none := h
  simp only [Dev.report, h']

section
variable {s : State} (hr : s.dev.running = true)

/-! ## The instant -/

theorem exec_activationStart_off (h : s.dev.updState ≠ 4) : exec .activationStart s = .next s := by
  refine act_same ?_
  split
  · exact if_neg fun h' => h h'.1
  · rfl

include hr in
theorem exec_activationStart {a : Activation} (ha : s.dev.upd.act = some a) (hat : a.at_.isSome = true) (h : s.dev.updState = 4) :
    ∃ u, exec .activationStart s = .next u ∧ u.dev.updState = 5 ∧ u.dev.upd.phase = 0 ∧ u.dev.reg64 Reg.UPD_ACT_TIME_LO = s.dev.time := by
  have hrow : exec .activationStart s = .next { s with dev := s.dev.actBegin } := by
    refine (act_run hr).trans ?_
    rw [ha]
    dsimp only
    rw [if_pos ⟨h, hat⟩]
  obtain ⟨hstate, hphase, htime, -⟩ := s.dev.actBegin_shows
  exact ⟨_, hrow, hstate, hphase, htime⟩

/-! ## The drain and the check -/

theorem exec_activationDrain_off (h : s.dev.updState ≠ 5) : exec .activationDrainExpiry s = .next s ∧ exec .activationCheckDone s = .next s :=
  ⟨act_same (if_neg fun h' => h h'.1), act_same (if_neg fun h' => h h'.1)⟩

section
include hr

theorem exec_activationDrainExpiry (h5 : s.dev.updState = 5) (h0 : s.dev.upd.phase = 0) : ∃ u, exec .activationDrainExpiry s = .next u ∧
    u.dev.upd.phase = 1 ∧ u.dev.rf = s.dev.rf ∧ ∀ c ∈ s.dev.cmd.cmds, c.phase = .started → c.strobed = false →
      u.dev.finished c.master c.tag c.gen stBusy [] := by
  have hrow : exec .activationDrainExpiry s = .next { s with dev :=
      ((s.dev.lateCmds.foldl (fun (d : Dev) c => d.finish c.master c.tag c.gen (Res.st stBusy)) s.dev).setPhase 1) } := by
    refine (act_run hr).trans ?_
    rw [if_pos ⟨h5, h0⟩]
    rfl
  refine ⟨_, hrow, rfl, Dev.rf_finishAll s.dev.lateCmds (fun _ => Res.st stBusy) s.dev, fun c hc hstart hstrobe => ?_⟩
  have hlate : c ∈ s.dev.lateCmds := List.mem_filter.mpr ⟨hc, by simp [hstart, hstrobe]⟩
  exact Dev.finished_finishAll s.dev.lateCmds s.dev stBusy (Dev.cmd?_of_mem hc) (.inl hlate)

/-- The results that the check leaves. -/
def Dev.checked (d : Dev) (r : Nat) (is : List (Nat × Nat)) : Dev :=
  ({ d with upd := { d.upd with check := is } } : Dev).setFld Reg.UPD_RESULT 0 16 r

omit hr in
theorem Dev.checked_shows (d : Dev) {r : Nat} (hr : r < 2 ^ 16) (is : List (Nat × Nat)) : (d.checked r is).upd.check = is ∧
    (d.checked r is).fld Reg.UPD_RESULT 0 16 = r ∧ (d.checked r is).updState = d.updState ∧ (d.checked r is).inactive = d.inactive :=
  ⟨rfl, (Dev.fld_setFld_same _ _ _ _ _ (by decide)).trans (Nat.mod_eq_of_lt hr), Dev.fld_setReg_other _ _ _ _ (by decide),
    congrArg (1 - ·) (Dev.fld_setReg_other _ _ _ _ (by decide))⟩

theorem exec_activationCheckDone {r : Nat} {is : List (Nat × Nat)} (h5 : s.dev.updState = 5) (h1 : s.dev.upd.phase = 1)
    (hb : s.dev.bankCheck s.dev.inactive = (r, is)) : ∃ u, exec .activationCheckDone s = .next u ∧ u.dev.upd.check = is ∧
      u.dev.fld Reg.UPD_RESULT 0 16 = r ∧ (r = 0 → u.dev.upd.phase = 2 ∧ u.dev.updState = 5) ∧
      (r ≠ 0 → u.dev.upd.phase = 3 ∧ u.dev.updState = 8 ∧ (u.dev.bank s.dev.inactive).state = 6) := by
  have hrow : exec .activationCheckDone s = .next { s with dev :=
      (if r = 0 then { (s.dev.checked r is).setPhase 2 with upd := { (s.dev.checked r is).upd with phase := 2, copies := (s.dev.checked r is).newFormats } }
        else (((s.dev.checked r is).setBankState (s.dev.checked r is).inactive 6).setUpd 8).setPhase 3) } := by
    refine (act_run hr).trans ?_
    rw [if_pos ⟨h5, h1⟩, hb]
    rfl
  have hle : r ≤ 4 := by
    have := s.dev.bankCheck_le s.dev.inactive
    rwa [hb] at this
  obtain ⟨hcheck, hres, hstate, hinact⟩ := s.dev.checked_shows (Nat.lt_of_le_of_lt hle (by decide)) is
  generalize s.dev.checked r is = x at hrow hcheck hres hstate hinact
  by_cases h0 : r = 0
  · rw [if_pos h0] at hrow
    exact ⟨_, hrow, hcheck, hres, fun _ => ⟨rfl, hstate.trans h5⟩, fun hn => absurd h0 hn⟩
  · rw [if_neg h0, hinact] at hrow
    refine ⟨_, hrow, hcheck, ?_, fun h => absurd h h0, fun _ => ⟨rfl, Dev.updState_setUpd _ (by decide), x.state_setBankState s.dev.inactive 6⟩⟩
    exact (Dev.fld_setReg_other _ _ _ _ (by decide)).trans ((Dev.fld_setReg_other _ _ _ _ (by decide)).trans hres)

end

/-! ## Threads reset, images loaded, a revert finished -/

theorem exec_activationFpcTimeout_off (p : Fin 512) (h : s.dev.updHolds = false ∨ s.dev.upd.phase ≠ 2) :
    exec (.activationFpcTimeout p) s = .next s := by
  refine act_same (if_neg ?_)
  rcases h with h | h <;> simp [h]

include hr in
theorem exec_activationFpcTimeout (p : Fin 512) (h : s.dev.updHolds = true) (h2 : s.dev.upd.phase = 2) :
    exec (.activationFpcTimeout p) s = .next { s with dev := s.dev.thrReset p.val } := by
  refine (act_run hr).trans ?_
  rw [if_pos (by simp [h, h2])]

theorem exec_activationComplete_off (h5 : s.dev.updState ≠ 5) (h8 : s.dev.updState ≠ 8) (place : List (Nat × Word)) :
    exec (.activationComplete place) s = .next s :=
  act_same ((if_neg fun h => h5 h.1).trans (if_neg h8))

section
include hr

theorem exec_activationComplete_trial (h5 : s.dev.updState = 5) (h2 : s.dev.upd.phase = 2) (ha : s.dev.upd.act = none) :
    ∃ u, exec (.activationComplete []) s = .next u ∧ u.dev.updState = 6 ∧ u.dev.inForce = s.dev.inactive ∧
      (u.dev.bank s.dev.inactive).state = 3 ∧ u.dev.bit Reg.UPD_EVT_STATUS 1 = true ∧ u.dev.fld Reg.UPD_RESULT 0 16 = 0 := by
  have hrow : exec (.activationComplete []) s = .next { s with dev :=
      (((((s.dev.setBankState s.dev.inactive 3).runBank s.dev.inactive).setUpd 6).sqSet Reg.UPD_EVT_STATUS [1]).report 0) } := by
    refine (act_run hr).trans ?_
    rw [if_pos ⟨h5, h2⟩]
    rfl
  have hbank := s.dev.state_setBankState s.dev.inactive 3
  have hact : (s.dev.setBankState s.dev.inactive 3).upd.act = none := ha
  generalize s.dev.setBankState s.dev.inactive 3 = x at hrow hbank hact
  obtain ⟨rf, bd, hrest⟩ := x.runBank_rest s.dev.inactive
  obtain ⟨hforce, -⟩ := x.runBank_shows s.dev.inactive_lt
  have hbank' : ((x.runBank s.dev.inactive).bank s.dev.inactive).state = 3 := by
    rw [hrest]
    exact hbank
  have hact' : (x.runBank s.dev.inactive).upd.act = none := by
    rw [hrest]
    exact hact
  generalize x.runBank s.dev.inactive = y at hrow hforce hbank' hact'
  rw [Dev.report_unheld (d := (y.setUpd 6).sqSet Reg.UPD_EVT_STATUS [1]) hact'] at hrow
  refine ⟨_, hrow, ?_, ?_, hbank', ?_, Dev.fld_setFld_same _ _ _ _ _ (by decide)⟩
  · exact (Dev.fld_setReg_other _ _ _ _ (by decide)).trans ((Dev.fld_setReg_other _ _ _ _ (by decide)).trans (y.updState_setUpd (by decide)))
  · refine (Dev.fld_setReg_other _ _ _ _ (by decide)).trans ((Dev.fld_setReg_other _ _ _ _ (by decide)).trans ?_)
    exact (Dev.fld_setReg_other y _ _ _ (by decide)).trans hforce
  · exact (Dev.bit_setReg_other _ _ _ (by decide)).trans (Dev.bit_sqSet_mem _ _ (by decide) (by decide))

/-- A device IDLE again after a revert (R528). -/
def Dev.reverted (d : Dev) : Dev :=
  (({ d with upd := { d.upd with copies := false, phase := 0 } } : Dev).setUpd 0).sqSet Reg.UPD_EVT_STATUS [2]

theorem exec_activationComplete_reverted (h8 : s.dev.updState = 8) (ha : s.dev.upd.act = none) : ∃ u, exec (.activationComplete []) s = .next u ∧
    u.dev.updState = 0 ∧ u.dev.upd.phase = 0 ∧ u.dev.bit Reg.UPD_EVT_STATUS 2 = true := by
  have hload : (if s.dev.upd.phase = 2 then s.dev.loadImages [] else s.dev) = s.dev := by
    split <;> rfl
  have hrow : ∃ n, exec (.activationComplete []) s = .next { s with dev := s.dev.reverted.setFld Reg.UPD_RESULT 0 16 n } := by
    have hrun : exec (.activationComplete []) s = _ := act_run hr
    rw [if_neg fun h => absurd (h8.symm.trans h.1) (by decide), if_pos h8] at hrun
    dsimp only at hrun
    rw [hload, Dev.report_unheld (by exact ha)] at hrun
    split at hrun
    · next a hact => cases ha.symm.trans hact
    · exact ⟨_, hrun⟩
  obtain ⟨n, hrow⟩ := hrow
  refine ⟨_, hrow, ?_, rfl, ?_⟩
  · exact (Dev.fld_setReg_other _ _ _ _ (by decide)).trans ((Dev.fld_setReg_other _ _ _ _ (by decide)).trans (Dev.updState_setUpd _ (by decide)))
  · exact (Dev.bit_setReg_other _ _ _ (by decide)).trans (Dev.bit_sqSet_mem _ _ (by decide) (by decide))

end

end

/-- Settles O52: each row's effect on the device as its definition has it, clause by clause. -/
theorem activationsRunTheirCourse : Obligations.ActivationsRunTheirCourse := by
  unfold Obligations.ActivationsRunTheirCourse
  refine ⟨fun s g t hr => ⟨fun ht => ⟨fun room fits r => exec_actPrepare_refused hr ht, fun room fits => exec_actPrepare_ready hr ht⟩,
    fun a ht ho hc => ⟨exec_actReady_waits hr ht ho hc, exec_actReady_commits hr ht ho hc⟩, fun a ht ho hc => exec_actRefuse hr ht ho hc,
    fun a ht hm h3 => ⟨exec_actCommit_armed hr ht hm h3, exec_actCommit_late hr ht hm h3⟩,
    fun ht => ⟨exec_actAbort_none hr ht, fun a hm h => exec_actAbort hr ht hm h⟩,
    fun a ht hm => ⟨exec_actResult_other hr ht hm, exec_actResult_keep hr ht hm⟩,
    exec_actReadyExpiry_off, fun a ha ho h => exec_actReadyExpiry hr ha ho h⟩, fun s hr => ⟨exec_activationStart_off,
    fun a ha hat h => exec_activationStart hr ha hat h, exec_activationDrain_off, exec_activationDrainExpiry hr,
    fun r is h5 h1 hb => exec_activationCheckDone hr h5 h1 hb, fun p => ⟨exec_activationFpcTimeout_off p, exec_activationFpcTimeout hr p⟩,
    exec_activationComplete_off, exec_activationComplete_trial hr, exec_activationComplete_reverted hr⟩⟩

end Sys2Proof.Machine
end


section
/-! PROOFS. The SPDM responder (O53). -/

namespace Sys2Proof.Machine

/-! ## A request at the responder (R517) -/

/-- The device that a request finds: only a measurement request keeps the log of measurements. -/
def Dev.spdmLog (d : Dev) (code : Nat) : Dev := if code = 0xE0 then d else { d with lcs := { d.lcs with measLog := [] } }

theorem Dev.spdmLog_keeps (d : Dev) (code : Nat) : (d.spdmLog code).rf = d.rf ∧ (d.spdmLog code).out = d.out ∧
    (d.spdmLog code).lcs.spdm = d.lcs.spdm := by
  unfold Dev.spdmLog
  split <;> exact ⟨rfl, rfl, rfl⟩

theorem Dev.certChain_congr {d u : Dev} (h : u.rf = d.rf) : u.certChain = d.certChain := by
  have hstore : u.certStore = d.certStore := by
    unfold Dev.certStore
    rw [Dev.regs_congr fun _ _ => Dev.reg_congr h _]
  unfold Dev.certChain
  rw [hstore]

section
variable {s : State} {req : List Byte} {code need : Nat} {f : Dev → Dev} (hr : s.dev.running = true)
include hr

/-- A request of another code is an invalid request. -/
theorem spdmStep_code (h : byteAt req 1 ≠ code) :
    spdmStep code need req f s = .next { s with dev := (s.dev.spdmLog code).spdmSend (spdmError 1) } :=
  (act_run hr).trans (congrArg (fun d => Host.Outcome.next { s with dev := d }) (if_pos h))

/-- A request in order reaches its answer. -/
theorem spdmStep_runs (h1 : byteAt req 1 = code) (h0 : byteAt req 0 = if code = 0x84 then 0x10 else 0x13)
    (hn : ¬ (s.dev.lcs.spdm < need ∨ (need = 1 ∧ s.dev.lcs.spdm ≠ 1) ∨ (need = 2 ∧ s.dev.lcs.spdm ≠ 2))) :
    spdmStep code need req f s = .next { s with dev := f (s.dev.spdmLog code) } := by
  obtain ⟨-, -, hspdm⟩ := s.dev.spdmLog_keeps code
  rw [← hspdm] at hn
  refine (act_run hr).trans (congrArg (fun d => Host.Outcome.next { s with dev := d }) ?_)
  exact (if_neg (not_not_intro h1)).trans ((if_neg (not_not_intro h0)).trans (if_neg hn))

/-- What another code answers, whatever the request asks for. -/
theorem spdmStep_code_shows (h : byteAt req 1 ≠ code) : ∃ u, spdmStep code need req f s = .next u ∧
    u.dev.out = .sideband 5 (spdmError 1) :: s.dev.out ∧ u.dev.rf = s.dev.rf ∧ u.dev.lcs.spdm = s.dev.lcs.spdm := by
  obtain ⟨hrf, hout, hspdm⟩ := s.dev.spdmLog_keeps code
  exact ⟨_, spdmStep_code hr h, congrArg (Emission.sideband 5 (spdmError 1) :: ·) hout, hrf, hspdm⟩

end

section
variable {s : State} {req : List Byte} (hr : s.dev.running = true)
include hr

theorem exec_spdm_code : ∀ i code, (i, code) ∈ [(Instr.getVersion req, 0x84), (.getCapabilities req, 0xE1), (.negotiateAlgorithms req, 0xE3),
      (.getDigests req, 0x81), (.getCertificate req, 0x82), (.challenge req, 0x83), (.getMeasurements req, 0xE0)] →
    byteAt req 1 ≠ code → ∃ u, exec i s = .next u ∧ u.dev.out = .sideband 5 (spdmError 1) :: s.dev.out ∧ u.dev.rf = s.dev.rf ∧
      u.dev.lcs.spdm = s.dev.lcs.spdm := by
  intro i code hmem h
  simp only [List.mem_cons, Prod.mk.injEq, List.not_mem_nil, or_false] at hmem
  rcases hmem with ⟨rfl, rfl⟩ | ⟨rfl, rfl⟩ | ⟨rfl, rfl⟩ | ⟨rfl, rfl⟩ | ⟨rfl, rfl⟩ | ⟨rfl, rfl⟩ | ⟨rfl, rfl⟩
  · exact (spdmStep_code_shows hr h : ∃ u, execGetVersion req s = .next u ∧ _)
  · exact (spdmStep_code_shows hr h : ∃ u, execGetCapabilities req s = .next u ∧ _)
  · exact (spdmStep_code_shows hr h : ∃ u, execNegotiateAlgorithms req s = .next u ∧ _)
  · exact (spdmStep_code_shows hr h : ∃ u, execGetDigests req s = .next u ∧ _)
  · exact (spdmStep_code_shows hr h : ∃ u, execGetCertificate req s = .next u ∧ _)
  · exact (spdmStep_code_shows hr h : ∃ u, execChallenge req s = .next u ∧ _)
  · exact (spdmStep_code_shows hr h : ∃ u, execGetMeasurements req s = .next u ∧ _)

/-! ## The negotiation -/

theorem exec_getVersion (h0 : byteAt req 0 = 0x10) (h1 : byteAt req 1 = 0x84) : ∃ u, exec (.getVersion req) s = .next u ∧
    u.dev.lcs.spdm = 1 ∧ u.dev.rf = s.dev.rf ∧ u.dev.out = .sideband 5 (octets [0x10, 0x04, 0, 0, 0, 1, 0x00, 0x13]) :: s.dev.out := by
  obtain ⟨hrf, hout, -⟩ := s.dev.spdmLog_keeps 0x84
  have hrow : execGetVersion req s = _ := spdmStep_runs (need := 0) hr h1 h0 (by omega)
  exact ⟨_, hrow, rfl, hrf, congrArg (_ :: ·) hout⟩

theorem exec_getCapabilities (h0 : byteAt req 0 = 0x13) (h1 : byteAt req 1 = 0xE1) (hs : s.dev.lcs.spdm = 1) :
    ∃ u ct sizes, exec (.getCapabilities req) s = .next u ∧ u.dev.lcs.spdm = 2 ∧ u.dev.rf = s.dev.rf ∧
      u.dev.out = .sideband 5 (octets [0x13, 0x61, 0, 0, 0] ++ ct ++ octets [0, 0, 0x36, 0, 0, 0] ++ sizes) :: s.dev.out := by
  obtain ⟨hrf, hout, -⟩ := s.dev.spdmLog_keeps 0xE1
  have hrow : execGetCapabilities req s = _ := spdmStep_runs (need := 1) hr h1 h0 (by omega)
  exact ⟨_, _, _, hrow, rfl, hrf, congrArg (_ :: ·) hout⟩

theorem exec_negotiateAlgorithms (h0 : byteAt req 0 = 0x13) (h1 : byteAt req 1 = 0xE3) (hs : s.dev.lcs.spdm = 2)
    (hasym : leAt req 8 4 &&& 0x80 ≠ 0) (hhash : leAt req 12 4 &&& 2 ≠ 0) :
    ∃ u rsp, exec (.negotiateAlgorithms req) s = .next u ∧ u.dev.lcs.spdm = 3 ∧ u.dev.rf = s.dev.rf ∧
      u.dev.out = .sideband 5 (octets [0x13, 0x63, 0, 0] ++ rsp) :: s.dev.out := by
  obtain ⟨hrf, hout, -⟩ := s.dev.spdmLog_keeps 0xE3
  have hrow : execNegotiateAlgorithms req s = _ := spdmStep_runs (need := 2) hr h1 h0 (by omega)
  dsimp only at hrow
  rw [if_neg (not_or.mpr ⟨hasym, hhash⟩)] at hrow
  exact ⟨_, octets [36, 0, byteAt req 6 % 2, byteAt req 7 &&& 2] ++ leBytes 4 (if byteAt req 6 % 2 = 1 then 4 else 0) ++
    leBytes 4 (leAt req 8 4 &&& 0x80) ++ leBytes 4 (leAt req 12 4 &&& 2) ++ List.replicate 16 0#8, hrow, rfl, hrf,
    congrArg (_ :: ·) hout⟩

/-! ## Digests, the chain, challenges and measurements -/

section
variable (hs : s.dev.lcs.spdm = 3) (h0 : byteAt req 0 = 0x13)
include hs h0

theorem exec_getDigests (h1 : byteAt req 1 = 0x81) : ∃ u, exec (.getDigests req) s = .next u ∧ u.dev.rf = s.dev.rf ∧
    u.dev.out = .sideband 5 (octets [0x13, 0x01, 1, 1] ++ Config.sha384 s.dev.certChain) :: s.dev.out := by
  obtain ⟨hrf, hout, -⟩ := s.dev.spdmLog_keeps 0x81
  have hrow : execGetDigests req s = _ := spdmStep_runs (need := 3) hr h1 h0 (by omega)
  rw [Dev.certChain_congr hrf] at hrow
  exact ⟨_, hrow, hrf, congrArg (_ :: ·) hout⟩

theorem exec_getCertificate (h1 : byteAt req 1 = 0x82) (h2 : byteAt req 2 % 16 = 0) (h3 : byteAt req 3 % 2 = 0)
    (hoff : leAt req 4 2 ≤ s.dev.certChain.length) : ∃ u n, exec (.getCertificate req) s = .next u ∧ u.dev.rf = s.dev.rf ∧
      n = Nat.min (leAt req 6 2) (s.dev.certChain.length - leAt req 4 2) ∧
      u.dev.out = .sideband 5 (octets [0x13, 0x02, 0, 0] ++ leBytes 2 n ++ leBytes 2 (s.dev.certChain.length - leAt req 4 2 - n) ++
        slice s.dev.certChain (leAt req 4 2) n) :: s.dev.out := by
  obtain ⟨hrf, hout, -⟩ := s.dev.spdmLog_keeps 0x82
  have hpart : ¬ byteAt req 3 % 2 = 1 := by omega
  have hgood : ¬ (byteAt req 2 % 16 ≠ 0 ∨ s.dev.certChain.length < leAt req 4 2) := by omega
  have hrow : execGetCertificate req s = _ := spdmStep_runs (need := 3) hr h1 h0 (by omega)
  dsimp only at hrow
  rw [Dev.certChain_congr hrf, if_neg hpart, if_neg hpart, if_neg hgood] at hrow
  exact ⟨_, _, hrow, hrf, rfl, congrArg (_ :: ·) hout⟩

theorem exec_challenge (h1 : byteAt req 1 = 0x83) (h2 : byteAt req 2 = 0) (h3 : byteAt req 3 = 0) (hlen : req.length = 44) :
    ∃ u nonce sig, exec (.challenge req) s = .next u ∧ u.dev.rf = s.dev.rf ∧ u.dev.lcs.certLog = [] ∧
      u.dev.out = .sideband 5 (octets [0x13, 0x03, 0, 1] ++ Config.sha384 s.dev.certChain ++ nonce ++ [0#8, 0#8] ++
        slice req 36 8 ++ sig) :: s.dev.out := by
  obtain ⟨hrf, hout, -⟩ := s.dev.spdmLog_keeps 0x83
  have hgood : ¬ (byteAt req 2 ≠ 0 ∨ (byteAt req 3 ≠ 0 ∧ byteAt req 3 ≠ 1 ∧ byteAt req 3 ≠ 0xFF) ∨ req.length ≠ 44) := by omega
  have hnone (d : Dev) : d.measSummary (byteAt req 3) = [] := by
    rw [h3]
    rfl
  have hchain : (Dev.freeBytes (s.dev.spdmLog 0x83) 32).2.certChain = s.dev.certChain := Dev.certChain_congr hrf
  have hrow : execChallenge req s = _ := spdmStep_runs (need := 3) hr h1 h0 (by omega)
  dsimp only at hrow
  rw [if_neg hgood, hnone, hchain, List.append_nil] at hrow
  exact ⟨_, _, _, hrow, hrf, rfl, congrArg (_ :: ·) hout⟩

theorem exec_getMeasurements (h1 : byteAt req 1 = 0xE0) (h2 : byteAt req 2 % 2 = 0) (h3 : byteAt req 3 = 0)
    (hctx : (slice req 4 8).length = 8) : ∃ u nonce, exec (.getMeasurements req) s = .next u ∧ u.dev.rf = s.dev.rf ∧
      u.dev.out = .sideband 5 (octets [0x13, 0x60, 7, 0, 0] ++ leBytes 3 0 ++ nonce ++ [0#8, 0#8] ++ slice req 4 8) :: s.dev.out := by
  have hplain : ¬ byteAt req 2 % 2 = 1 := by omega
  have hgood : ¬ ((7 < byteAt req 3 ∧ byteAt req 3 ≠ 0xFF) ∨ (byteAt req 2 % 2 = 1 ∧ byteAt req 36 % 16 ≠ 0) ∨ (slice req 4 8).length ≠ 8) := by
    omega
  have hrow : execGetMeasurements req s = _ := spdmStep_runs (need := 3) hr h1 h0 (by omega)
  dsimp only at hrow
  simp only [if_neg hplain, if_pos h3, if_neg hgood, List.flatMap_nil, List.append_nil, List.length_nil] at hrow
  exact ⟨_, ((s.dev.spdmLog 0xE0).freeBytes 32).1, hrow, rfl, rfl⟩

end

end

/-- Settles O53: each request's answer as its definition has it, clause by clause. -/
theorem spdmResponderAnswers : Obligations.SpdmResponderAnswers := by
  unfold Obligations.SpdmResponderAnswers
  intro s req hr
  exact ⟨exec_spdm_code hr, exec_getVersion hr, exec_getCapabilities hr, exec_negotiateAlgorithms hr,
    fun hs h0 => ⟨exec_getDigests hr hs h0, exec_getCertificate hr hs h0, exec_challenge hr hs h0, exec_getMeasurements hr hs h0⟩⟩

end Sys2Proof.Machine
end


section
/-! PROOFS. The PLDM firmware device (O54). -/

namespace Sys2Proof.Machine

/-- A device of stage 7 is not in the ROM's recovery (R531). -/
theorem Dev.not_recovering {d : Dev} (h : d.running = true) : d.recovering = false := by
  have h7 : d.stage? = 7 := by
    simp only [Dev.running, Bool.and_eq_true, decide_eq_true_eq] at h
    exact h.1.1.1
  simp [Dev.recovering, Dev.booting, h7]

/-- A violation leaves the stage and the banks. -/
theorem Dev.violation_leaves (d : Dev) (b : Nat) : (d.violation b).stage? = d.stage? ∧ (d.violation b).upd = d.upd := by
  refine ⟨congrArg (Word.fld · 28 4) (d.regs_violation b _ (by decide)), ?_⟩
  have hposts (ms : List Nat) (kind info : Nat) (d : Dev) : (d.postAll ms kind info).upd = d.upd := by
    induction ms generalizing d with
    | nil => rfl
    | cons m ms ih =>
      have hpost : (d.post m kind info).upd = d.upd := by
        unfold Dev.post
        split <;> rfl
      exact (ih _).trans hpost
  unfold Dev.violation
  split
  · rfl
  · unfold Dev.hcSet Dev.hcRise
    dsimp only
    split
    · exact hposts _ _ _ _
    · rfl

/-- A bank refused is BAD (R530). -/
theorem Dev.refuseBank_shows (d : Dev) (b r : Nat) : (d.refuseBank b r).stage? = d.stage? ∧ ((d.refuseBank b r).bank b).state = 6 := by
  have hstate := d.state_setBankState b 6
  have hstage : (d.setBankState b 6).stage? = d.stage? := Dev.fld_setReg_other _ _ _ _ (by decide)
  unfold Dev.refuseBank
  generalize d.setBankState b 6 = x at hstate hstage ⊢
  obtain ⟨hvs, hvu⟩ := x.violation_leaves 2
  unfold Dev.when
  split
  · exact ⟨hvs.trans hstage, (congrArg Bank.state (Dev.bank_congr (congrArg Upd.banks hvu) b)).trans hstate⟩
  · exact ⟨hstage, hstate⟩

section
variable {s : State}

/-! ## The running firmware -/

section
variable (hr : s.dev.running = true)
include hr

theorem pldmStep_running (rom run : Dev → Dev) : pldmStep rom run s = .next { s with dev := run s.dev } :=
  onDev_row ((if_neg (Bool.eq_false_iff.mp (Dev.not_recovering hr))).trans (if_pos hr))

theorem exec_pldmRequestUpdate_open (req : List Byte) (h : s.dev.upd.pldm = true) :
    exec (.pldmRequestUpdate req) s = .next { s with dev := s.dev.pldmSend 0x10 0x81 [] } := by
  have hrow : execPldmRequestUpdate req s = _ := pldmStep_running hr _ _
  rw [if_pos h] at hrow
  exact hrow

theorem exec_pldmRequestUpdate (req : List Byte) (h : s.dev.upd.pldm = false) (h0 : s.dev.updState = 0) :
    ∃ u, exec (.pldmRequestUpdate req) s = .next u ∧ u.dev.upd.pldm = true ∧
      u.dev.out = .sideband 1 (octets [0, 5, 0x10, 0] ++ [0#8, 0#8, 0#8]) :: s.dev.out := by
  have hrow : execPldmRequestUpdate req s = _ := pldmStep_running hr _ _
  rw [if_neg (Bool.eq_false_iff.mp h), if_neg (not_not_intro h0)] at hrow
  exact ⟨_, hrow, rfl, rfl⟩

section
variable (offset : Nat) (data : List Word) (last : Bool)

theorem exec_pldmTransfer_closed (h : s.dev.upd.pldm = false) :
    exec (.pldmTransfer offset data last) s = .next { s with dev := s.dev.pldmSend 0x15 0x80 [] } := by
  have hrow : execPldmTransfer offset data last s = _ := pldmStep_running hr _ _
  rw [if_pos (by rw [h]; rfl)] at hrow
  exact hrow

theorem exec_pldmTransfer_outside (h : s.dev.upd.pldm = true) (hbad : offset % 4 ≠ 0 ∨ bankSize < offset + 4 * data.length) :
    exec (.pldmTransfer offset data last) s = .next { s with dev := s.dev.pldmSend 0x15 0x82 [] } := by
  have hrow : execPldmTransfer offset data last s = _ := pldmStep_running hr _ _
  rw [if_neg (by rw [h]; decide), if_pos (decide_eq_true hbad)] at hrow
  exact hrow

end

theorem exec_pldmTransfer_manifest (data : List Word) (h : s.dev.upd.pldm = true) (h0 : s.dev.updState = 0) (hlen : 4 * data.length ≤ 32)
    (hpos : 0 < data.length) : ∃ u, exec (.pldmTransfer 0 data false) s = .next u ∧ u.dev.upd.erasing = true ∧
      u.dev.bank s.dev.inactive = (⟨1, [], []⟩ : Bank).write 0 data ∧
      u.dev.out = .sideband 1 (octets [0, 5, 0x15, 0] ++ []) :: .flash s.dev.inactive 0 data :: s.dev.out := by
  obtain ⟨x, hx, hbank, herase, -, -, hout⟩ := Dev.stageChunk_first h0 data
  have hgood : ¬ decide (0 % 4 ≠ 0 ∨ bankSize < 0 + 4 * data.length) = true := by
    rw [decide_eq_true_eq]
    unfold bankSize
    omega
  have hman (n : Nat) : decide (0 < 4 * (8 + 16 * n + 48)) = true := decide_eq_true (by omega)
  have hmore (n : Nat) : decide (4 * (8 + 16 * n + 48) ≤ 0 + 4 * data.length) = false := decide_eq_false (by omega)
  have hrow : execPldmTransfer 0 data false s = _ := pldmStep_running hr _ _
  rw [if_neg (by rw [h]; decide), if_neg hgood] at hrow
  simp only [hman, hmore, hx] at hrow
  exact ⟨_, hrow, herase, hbank, congrArg (_ :: ·) hout⟩

theorem exec_pldmActivateFirmware_closed (room fits : Bool) (h : s.dev.upd.pldm = false) :
    exec (.pldmActivateFirmware room fits) s = .next { s with dev := s.dev.pldmSend 0x1A 0x80 [] } := by
  have hrow : execPldmActivateFirmware room fits s = _ := pldmStep_running hr _ _
  rw [if_pos (by rw [h]; rfl)] at hrow
  exact hrow

theorem exec_pldmActivateFirmware (room fits : Bool) (h : s.dev.upd.pldm = true) (hready : s.dev.actRefuse none room fits = none) :
    ∃ u token, exec (.pldmActivateFirmware room fits) s = .next u ∧ u.dev.updState = 4 ∧ u.dev.upd.pldm = false ∧
      u.dev.upd.act = some ⟨token, none, none, some (s.dev.time + 100000000), [⟨s.dev.selfId, true, none, false⟩], true, false⟩ := by
  have hrow : execPldmActivateFirmware room fits s = _ := pldmStep_running hr _ _
  rw [if_neg (by rw [h]; decide), hready] at hrow
  dsimp only at hrow
  obtain ⟨hstate, hupd, -⟩ := Dev.schedule_alone
    (a := ⟨1 + s.dev.freeNat.1 % (2 ^ 32 - 1), none, none, some (s.dev.time + 100000000), [], false, false⟩)
    { s.dev.freeNat.2 with upd := { s.dev.freeNat.2.upd with pldm := false } } rfl
  exact ⟨_, 1 + s.dev.freeNat.1 % (2 ^ 32 - 1), hrow, hstate, congrArg Upd.pldm hupd, congrArg Upd.act hupd⟩

end

/-! ## The ROM in recovery (R531) -/

section
variable (hrec : s.dev.recovering = true)
include hrec

theorem pldmStep_recovering (rom run : Dev → Dev) : pldmStep rom run s = .next { s with dev := rom s.dev } := onDev_row (if_pos hrec)

theorem exec_pldmRequestUpdate_rom (req : List Byte) (h : s.dev.upd.pldm = false) : ∃ u, exec (.pldmRequestUpdate req) s = .next u ∧
    u.dev.upd.pldm = true ∧ u.dev.bank 0 = ⟨1, [], []⟩ := by
  have hrow : execPldmRequestUpdate req s = _ := pldmStep_recovering hrec _ _
  rw [if_neg (Bool.eq_false_iff.mp h)] at hrow
  exact ⟨_, hrow, rfl, s.dev.bank_setBank 0 ⟨1, [], []⟩⟩

theorem exec_pldmTransfer_rom (offset : Nat) (data : List Word) (last : Bool) (h : s.dev.upd.pldm = true) (h4 : offset % 4 = 0)
    (hin : offset + 4 * data.length ≤ bankSize) : ∃ u, exec (.pldmTransfer offset data last) s = .next u ∧
      u.dev.bank 0 = (s.dev.bank 0).write offset data := by
  have hgood : ¬ decide (offset % 4 ≠ 0 ∨ bankSize < offset + 4 * data.length) = true := by
    rw [decide_eq_true_eq]
    omega
  have hrow : execPldmTransfer offset data last s = _ := pldmStep_recovering hrec _ _
  rw [if_neg (by rw [h]; decide), if_neg hgood] at hrow
  exact ⟨_, hrow, s.dev.bank_setBank 0 _⟩

theorem exec_pldmActivateFirmware_rom (room fits : Bool) (h : s.dev.upd.pldm = true) :
    exec (.pldmActivateFirmware room fits) s = .next { s with dev := s.dev.romActivate } := by
  have hrow : execPldmActivateFirmware room fits s = _ := pldmStep_recovering hrec _ _
  rw [if_pos h] at hrow
  exact hrow

theorem exec_pldmActivateFirmware_boots (room fits : Bool) (is : List (Nat × Nat)) (h : s.dev.upd.pldm = true)
    (hb : s.dev.bankCheck 0 = (0, is)) (h0 : s.dev.inForce = 0) : ∃ u, exec (.pldmActivateFirmware room fits) s = .next u ∧
      u.dev.stage? = 2 ∧ (u.dev.bank 0).state = 4 ∧ u.dev.upd.recovery = false := by
  have hrow := exec_pldmActivateFirmware_rom hrec room fits h
  have hstate := Dev.state_setBankState { s.dev with upd := { s.dev.upd with pldm := false } } 0 4
  have hforce : (({ s.dev with upd := { s.dev.upd with pldm := false } } : Dev).setBankState 0 4).inForce = 0 :=
    (Dev.inForce_setBank _ (by decide) _).trans h0
  simp only [Dev.romActivate, hb] at hrow
  rw [if_neg (not_not_intro rfl), if_pos hforce] at hrow
  generalize Dev.setBankState { s.dev with upd := { s.dev.upd with pldm := false } } 0 4 = x at hrow hstate
  exact ⟨_, hrow, Dev.stage_goto { x with upd := { x.upd with recovery := false } } 2, hstate, rfl⟩

theorem exec_pldmActivateFirmware_fails (room fits : Bool) (r : Nat) (is : List (Nat × Nat)) (h : s.dev.upd.pldm = true)
    (hb : s.dev.bankCheck 0 = (r, is)) (hne : r ≠ 0) : ∃ u, exec (.pldmActivateFirmware room fits) s = .next u ∧
      u.dev.stage? = s.dev.stage? ∧ (u.dev.bank 0).state = 6 := by
  have hrow := exec_pldmActivateFirmware_rom hrec room fits h
  obtain ⟨hstage, hstate⟩ := Dev.refuseBank_shows { s.dev with upd := { s.dev.upd with pldm := false } } 0 r
  simp only [Dev.romActivate, hb] at hrow
  rw [if_pos hne] at hrow
  generalize Dev.refuseBank { s.dev with upd := { s.dev.upd with pldm := false } } 0 r = x at hrow hstage hstate
  exact ⟨_, hrow, hstage, hstate⟩

end

end

/-- Settles O54: each request's answer as its definition has it, clause by clause. -/
theorem pldmFirmwareDeviceUpdates : Obligations.PldmFirmwareDeviceUpdates := by
  unfold Obligations.PldmFirmwareDeviceUpdates
  intro s
  exact ⟨fun hr => ⟨exec_pldmRequestUpdate_open hr, exec_pldmRequestUpdate hr, exec_pldmTransfer_closed hr, exec_pldmTransfer_outside hr,
      exec_pldmTransfer_manifest hr, exec_pldmActivateFirmware_closed hr, exec_pldmActivateFirmware hr⟩,
    fun hrec => ⟨exec_pldmRequestUpdate_rom hrec, exec_pldmTransfer_rom hrec, exec_pldmActivateFirmware_boots hrec,
      exec_pldmActivateFirmware_fails hrec⟩⟩

end Sys2Proof.Machine
end
